-- ==== Sys2Proof/Word.lean ====
section
/-!
DEFINITION. The byte type and the plainest names for the quantities of the ZH-3256 manual.
Exposure Time values, tick counts, lengths and codes are plain numbers (R5: "unsigned integer counts"); only the
bytes that travel on a bus or lie in a stored value are bit vectors.
-/
namespace Sys2Proof

/-- One byte of a frame, a message, a stored value or a flash record (R6). -/
abbrev Byte := BitVec 8

/-- An Exposure Time value or a number of ticks of 1.6 ns (R5). -/
abbrev Tick := Nat

/-- A head number h, 0 to 31 (the table of indices of the scope chapter). -/
abbrev HeadNo := Nat

end Sys2Proof
end

