-- ==== Sys2Proof/Syntax.lean ====
section
/-!
DEFINITION. The commands of the ZH-3256: one constructor per row of the table of operations and events. A row that
stands for a dictionary access, a message or a request carries the path it arrives on and its values; a row that
stands for an event carries what the event brings from outside the device.
-/
namespace Sys2Proof

/-- The path of an access (R382, R411): the SPI management port, or ring session 1 to 4. -/
inductive Path where
  | spi
  | ring (session : Nat)
  deriving DecidableEq, Repr

/-- Where the line of an exposure read belongs (R184, R188): among the bytes of a head's item list or of its bitmap rows, and the
line's first byte there. -/
structure ReadPlace where
  bitmap : Bool
  first : Nat
  deriving DecidableEq, Repr

/-- The commands. -/
inductive Instr where
  /-- VAUX_APPLIED (R589): VAUX has stayed at or above 2.65 V for 1 ms, so the controller enters AUX from OFF and the island starts driving safe output levels. -/
  | vauxApplied
  /-- VAUX_LOST (R589): VAUX falls below 2.55 V and the controller falls to OFF from any state, which ends any trip held by the island. -/
  | vauxLost
  /-- RESET_N_ASSERTED (R594): An assertion of RESET_N takes effect and the island drives every output to the OFF and AUX row of R27 within 1 µs, entering AUX. -/
  | resetNAsserted
  /-- PWRGOOD_DEASSERTED (R594): A deassertion of PWRGOOD takes effect and the controller enters AUX with its outputs driven safe. -/
  | pwrgoodDeasserted
  /-- RAIL_UNDERVOLTAGE (R587): A main rail stays below its undervoltage threshold for 2 µs, which counts as PWRGOOD deasserted and records RAIL_FAULT. -/
  | railUndervoltage (rail : Nat)
  /-- AUX_EXIT (R591): PWRGOOD asserted and RESET_N released have held for 10 µs, so the straps are sampled and BOOT is entered, or AUX is kept when TEST_EN is high. -/
  | auxExit (dramOrg : Nat) (testEn : Bool)
  /-- LASER_INHIBIT_ASSERTED (R596): An assertion of LASER_INHIBIT_N takes effect, dropping the permits and EN and flushing the line buffers in hardware, then making the state transition. -/
  | laserInhibitAsserted
  /-- LASER_INHIBIT_RELEASED (R595): LASER_INHIBIT_N has stayed high for 1 ms, so the release takes effect and the permits may rise again under R27. -/
  | laserInhibitReleased
  /-- OSCILLATOR_JUDGEMENT_GATE (R563): A 1 ms judgement gate ends; the oscillator is judged stable after 8 good consecutive gates, or judgement fails after 100 gates with cause 0x0010. -/
  | oscillatorGate (reference : Nat) (count : Nat)
  /-- MAIN_PLL_LOCK (R564): The main PLL locks on the judged oscillator and ET starts counting from 0. -/
  | mainPllLock
  /-- PLLS_LOCKED (R564): The DRAM and SerDes PLLs lock, ending start-up step 2 so that DRAM training can begin. -/
  | pllsLocked
  /-- DRAM_TRAINING_DONE (R543): Training of every rank completes or fails, so the DRAM is divided into its areas or BOOT is held with cause 0x0011. -/
  | dramTrainingDone (failed : Option Nat) (seed0 : Nat) (seed1 : Nat)
  /-- IMAGE_CHECK_DONE (R623): Start-up step 4 chooses and checks the firmware slot, checks the factory block, updates the power-cycle count and loads the persistent values. -/
  | imageCheckDone
  /-- RING_JOIN_DONE (R601): Both ring ports are forwarding, which ends start-up step 5. -/
  | ringJoinDone
  /-- RING_WAIT_EXPIRY (R601): RING_WAIT elapses in start-up step 5 and the step ends without a ring. -/
  | ringWaitExpiry
  /-- HEAD_LINK_STEP_DONE (R601): Every enabled head link has reached OPERATION or FAILED, or 60 ms have passed, which ends start-up step 6. -/
  | headLinkStepDone
  /-- CALIBRATION_LOAD_DONE (R601): Start-up step 7 forms the effective calibration values, and the transition of step 8 follows. -/
  | calibrationLoadDone
  /-- ARM (R19): The ARM request moves STANDBY to ARMED when the inhibit is released, a head link is in operation and the role allows, and dark baselines are then captured. -/
  | arm (path : Path) (alone : Bool)
  /-- RUN (R24): The RUN request moves ARMED to EXPOSING so that staged segments start at their start ETs. -/
  | run (path : Path) (alone : Bool)
  /-- PAUSE (R24): The PAUSE request is accepted at once, and each head finishes its current item and then holds. -/
  | pause (path : Path) (alone : Bool)
  /-- PAUSE_HOLD_REACHED (R24): The last head holds at its item boundary, so the device state becomes PAUSED and TRANSITION_ET is recorded. -/
  | pauseHoldReached
  /-- RESUME (R24): The RESUME request returns PAUSED to EXPOSING when no inhibit, trip or fault is present, and each head continues with its next unfinished item. -/
  | resume (path : Path) (alone : Bool)
  /-- STOP (R24): The STOP request turns emission off in the next frame, cancels every unfinished segment with withheld booking, and returns to ARMED. -/
  | stop (path : Path) (alone : Bool)
  /-- DISARM (R19): The DISARM request moves ARMED to STANDBY. -/
  | disarm (path : Path) (alone : Bool)
  /-- CLEAR (R20): The CLEAR request leaves FAULT for STANDBY when the fault cause is no longer present. -/
  | clear (path : Path) (alone : Bool)
  /-- RESTART (R605): The RESTART request, at Service level, enters BOOT without passing through AUX and reruns start-up from step 3, or from step 2 when the main PLL is unlocked. -/
  | restart (path : Path) (alone : Bool)
  /-- REQUEST_NONE (R714): Request code 0x00 is accepted and does nothing. -/
  | requestNone (path : Path) (alone : Bool)
  /-- STATE_REQUEST_INVALID_CODE (R714): A request code from 0x09 to 0xFF aborts with 0x0003_0002 and changes nothing. -/
  | stateRequestInvalid (path : Path) (code : Nat)
  /-- WATCHDOG_EXPIRY (R20): The System Firmware watchdog expires, which restarts the cores and enters FAULT with cause 0x0033. -/
  | watchdogExpiry
  /-- FIRMWARE_RESTART_COMPLETE (R20): System Firmware has restarted from the running slot and passed its self-test, which removes cause 0x0033. -/
  | firmwareRestartComplete
  /-- THERMAL_MEASUREMENT (R573): A periodic measurement of the 16 die sensors updates exclusion, fast mode, the warning and the trip. -/
  | thermalMeasurement (readings : List Int)
  /-- THERMAL_RESTART (R582): The cooling condition holds, so the gated branches and head links resume and the controller enters the state that R19 and R583 give. -/
  | thermalRestart
  /-- OPTICS_TEMP_TIMEOUT (R577): No valid optics temperature has arrived for 10 ms, so the head's optics temperature becomes invalid. -/
  | opticsTempTimeout (h : Nat)
  /-- DOWNLINK_FRAME_ASSEMBLY (R111): Every 200 ns a downlink frame is assembled for each head, with its slot, beamlet records, CORR and AGE, and the Tally books p, d, w and c. -/
  | downlinkFrameAssembly (h : Nat)
  /-- UPLINK_FRAME_RECEIVED (R327): An uplink frame is checked and its photodiode, camera, position, AUX and DARK_MAP content is taken in. -/
  | uplinkFrameReceived (h : Nat) (first : Nat) (chars : List Nat) (arrival : Int)
  /-- HEAD_LINK_ENABLE_WRITE (R357): A write of 1 to ENABLE starts training (ACQUIRE), and a write of 0 disables the link. -/
  | headLinkEnableWrite (path : Path) (h : Nat) (value : Nat)
  /-- HEAD_LINK_TRAINING_TIMEOUT (R357): Training has spent 20 ms in one state, so the link goes to FAILED. -/
  | headLinkTrainingTimeout (h : Nat)
  /-- RETRAIN_HOLDOFF_EXPIRY (R357): RETRAIN_HOLDOFF has passed in FAILED with AUTO_RETRAIN set, so the link returns to ACQUIRE. -/
  | retrainHoldoffExpiry (h : Nat)
  /-- UPLINK_LOCK_LOSS (R360): The uplink loses lock and a link in OPERATION returns to ACQUIRE. -/
  | uplinkLockLoss (h : Nat)
  /-- RING_FRAME_RECEIVED (R371): A frame received on a ring port is consumed, forwarded cut-through or discarded, with transparent-clock correction for PTP. -/
  | ringFrameReceived (port : Nat) (bytes : List Byte) (fcsOk : Bool) (ingress : Nat) (egress : Nat)
  /-- BLOCK_LOCK_LOSS (R377): A ring port loses block lock, which is counted and re-evaluates the root source. -/
  | blockLockLoss (port : Nat)
  /-- BYPASS_LOSS_TIMEOUT (R377): A port has been without block lock for BYPASS_LOSS_TIME, so BYPASS_HOLD falls. -/
  | bypassLossTimeout
  /-- BYPASS_RAISE (R377): Both ports have held block lock for 1 ms, so forwarding starts and BYPASS_HOLD rises. -/
  | bypassRaise
  /-- BYPASS_RETRY_EXPIRY (R378): BYPASS_RETRY elapses after a fall, so BYPASS_HOLD is raised for a trial. -/
  | bypassRetryExpiry
  /-- BYPASS_TRIAL_TIMEOUT (R378): A trial has not reached both block locks within 2 ms, so BYPASS_HOLD is lowered and the failure counted. -/
  | bypassTrialTimeout
  /-- BYPASS_ENABLE_WRITE (R377): A write of 0 lowers BYPASS_HOLD, and a write of 1 starts a trial. -/
  | bypassEnableWrite (path : Path) (value : Nat)
  /-- SESSION_OPEN (R383): A session is opened with negotiated versions and access level, or refused with a RESULT code. -/
  | sessionOpen (source : Nat) (payload : List Byte)
  /-- SESSION_CLOSE (R388): A session closes on request, discarding partly stored segments of the job session. -/
  | sessionClose (n : Nat)
  /-- ACK (R393): An acknowledgement frees sent reliable frames and may trigger a SACK-driven repeat. -/
  | ack (n : Nat) (ack : Nat) (sack : Nat)
  /-- RTO_EXPIRY (R393): RTO has passed for an unacknowledged reliable frame, so it is repeated, or the session closes at MAX_RETRIES. -/
  | rtoExpiry (n : Nat) (seq : Nat)
  /-- ACK_DELAY_EXPIRY (R394): No frame has carried an acknowledgement within ACK_DELAY, so an ACK message is sent. -/
  | ackDelayExpiry (n : Nat)
  /-- SESSION_TIMEOUT (R388): No frame has arrived from host software for SESSION_TIMEOUT, so the session closes. -/
  | sessionTimeout (n : Nat)
  /-- SDO_READ (R401): An expedited read returns the value of a subindex, or of all subindices for 0xFF, or aborts. -/
  | sdoRead (path : Path) (tid : Nat) (index : Nat) (sub : Nat)
  /-- SDO_WRITE (R402): An expedited write is applied or refused under the access class before the response is sent. -/
  | sdoWrite (path : Path) (tid : Nat) (index : Nat) (sub : Nat) (data : List Byte) (alone : Bool)
  /-- BLOCK_WRITE (R405): A block write is opened with TOTAL and the controller becomes ready for segments. -/
  | blockWrite (path : Path) (tid : Nat) (index : Nat) (sub : Nat) (total : Nat)
  /-- BLOCK_READ (R405): A block read delivers the value as it stood at acceptance, in segments. -/
  | blockRead (path : Path) (tid : Nat) (index : Nat) (sub : Nat)
  /-- SDO_ABORT (R401): The open block transfer of the session is ended. -/
  | sdoAbort (path : Path) (tid : Nat) (index : Nat) (sub : Nat)
  /-- BLOCK_SEGMENT (R405): A block segment is checked, and after the last one the whole value is committed or refused. -/
  | blockSegment (path : Path) (tid : Nat) (number : Nat) (last : Bool) (data : List Byte)
  /-- BLOCK_TRANSFER_TIMEOUT (R406): A block write has had no segment for 100 ms and aborts with 0x0004_0004. -/
  | blockTransferTimeout (path : Path)
  /-- DICTIONARY_WRITE (R402): A write to an object that has no behaviour of its own is stored under its access class and range checks. -/
  | dictionaryWrite (path : Path) (index : Nat) (sub : Nat) (data : List Byte)
  /-- SPI_WRITE (R413): A WRITE transaction on the management port delivers a request, or is discarded when the buffer is full or the CRC fails. -/
  | spiWrite (bytes : List Byte)
  /-- SPI_READ (R413): A READ transaction transfers the waiting response and frees it. -/
  | spiRead
  /-- SPI_STATUS (R412): A STATUS transaction returns the status byte of the management port. -/
  | spiStatus
  /-- CHALLENGE (R389): A read of CHALLENGE draws a fresh U64 challenge. -/
  | challenge (path : Path)
  /-- RESPONSE (R389): A written HMAC raises the session to Service level, or aborts, and spends the challenge. -/
  | response (path : Path) (data : List Byte)
  /-- DROP (R419): The session returns to its opening access level. -/
  | drop (path : Path)
  /-- AUTH_LOCKOUT_EXPIRY (R389): The 1 s lockout after three wrong responses ends. -/
  | authLockoutExpiry
  /-- STORE (R410): A store of the persistent values to flash begins. -/
  | store (path : Path) (value : Nat)
  /-- STORE_COMPLETE (R410): The new stored set is complete and marked valid. -/
  | storeComplete (good : Bool)
  /-- RESTORE_DEFAULTS (R410): The stored values are erased so that the defaults apply from the next start-up. -/
  | restoreDefaults (path : Path) (value : Nat)
  /-- JOB (R396): A JOB frame's data bytes are checked against credits and framing and stored in the staging queue. -/
  | job (n : Nat) (start : Bool) (more : Bool) (data : List Byte)
  /-- GRANT_TIMER_EXPIRY (R86): 1 ms has passed since the first unsent credit unit was freed, so a GRANT is sent. -/
  | grantTimerExpiry
  /-- SEGMENT_DECISION (R91): The Reckoner validates the next submitted segment and admits it with a promise or refuses it. -/
  | segmentDecision
  /-- SEGMENT_STAGED (R79): Every head's item buffer holds the start of its list, so the segment becomes STAGED. -/
  | segmentStaged (id : Nat)
  /-- HEAD_START (R81): A head starts its part of a segment once every start condition holds. -/
  | headStart (h : Nat) (id : Nat)
  /-- ITEM_COMPLETE (R121): A head's item ends and the next item begins, with derating chosen, markers reported and slack evaluated. -/
  | itemComplete (h : Nat)
  /-- BARRIER_RELEASE (R63): The barrier ET is reached and every participating head has arrived, so the heads continue. -/
  | barrierRelease (id : Nat) (barrier : Nat)
  /-- DATA_WAIT_END (R69): Data for a non-derating item is present, so the head held at the boundary continues. -/
  | dataWaitEnd (h : Nat)
  /-- DRAIN_HOLD_END (R185): A frame evaluation finds a passing derating factor, so the item starts at the largest passing factor. -/
  | drainHoldEnd (h : Nat)
  /-- LINE_BUFFER_WRITE (R173): The sequencer writes a planned edge entry into a beamlet's line buffer once there is room. -/
  | lineBufferWrite (h : Nat) (b : Nat)
  /-- SEGMENT_CLOSE (R113): Every head has finished or abandoned its list, so the segment closes and the Tally identity is checked. -/
  | segmentClose (id : Nat)
  /-- CLOSE_MESSAGE_SEND (R362): Every slot of the segment has been reported, so its CLOSE message is sent and its slot released. -/
  | closeMessageSend (id : Nat)
  /-- SLACK_EVALUATION (R102): The slack of an unfinished segment is evaluated, at least every 100 µs. -/
  | slackEvaluation (id : Nat)
  /-- SLACK_REPORT (R109): Every SLACK_REPORT_INTERVAL frames a PROGRESS slack report is sent for each RUNNING segment. -/
  | slackReport
  /-- CANCEL_ID (R119): The unfinished segment with the written ID is cancelled and booked, or CANCEL_RESULT reports why not. -/
  | cancelId (path : Path) (id : Nat)
  /-- DEFECT_RECORD_SPLIT (R116): The 65,536th frame of an open defect record ends, so the record closes and a new one continues. -/
  | defectRecordSplit (h : Nat) (cause : Nat)
  /-- SERVO_PERIOD_TICK (R123): At each servo period boundary the set-point group is formed, and the guard entry checks and running checks are made. -/
  | servoPeriodTick
  /-- STITCH_TABLE_WRITE (R216): A write to a stitching, plate or head-scan object triggers revalidation of the cell table. -/
  | stitchTableWrite (path : Path) (index : Nat) (sub : Nat) (data : List Byte)
  /-- PIPELINE_DISPATCH (R269): An idle Sieve pipeline dispatches the queued frame with the earliest deadline for a full or features-only pass, or drops it. -/
  | pipelineDispatch (pipe : Nat)
  /-- PROCESSING_COMPLETE (R268): A pass over a frame ends; the feature record is logged and sent, and outliers and flicker are updated. -/
  | processingComplete (pipe : Nat)
  /-- FEATURE_RECORD_HANDOVER (R261): At a frame's deadline ET its record is handed to the control engine's outer loop. -/
  | featureRecordHandover (h : Nat)
  /-- ARCHIVE_COPY_COMPLETE (R274): A raw frame has been copied to the archive queue and its buffer is freed. -/
  | archiveCopyComplete (h : Nat)
  /-- COMMIT (R246): Staged camera values form a new generation and are sent to the head end, or the commit is refused. -/
  | commit (path : Path) (h : Nat)
  /-- LANE_DISPATCH (R311): A free control lane takes the earliest waiting update or outer update and computes it. -/
  | laneDispatch (lane : Nat)
  /-- DARK_CAPTURE (R287): A write of 1 starts capture of the dark baselines. -/
  | darkCapture (path : Path) (value : Nat)
  /-- DARK_CAPTURE_COMPLETE (R287): DARK_SAMPLES samples have been averaged and the baseline becomes valid. -/
  | darkCaptureComplete (h : Nat) (b : Nat)
  /-- LOOP_ENABLE (R297): A channel's loop is opened or closed from its next sample instant, with a reset when it is closed. -/
  | loopEnable (path : Path) (h : Nat) (sub : Nat) (value : Nat)
  /-- LAW_WRITE (R295): A control law is written or refused, and WRITES increments. -/
  | lawWrite (path : Path) (law : Nat) (sub : Nat) (data : List Byte)
  /-- SAMPLE_RATE_SWITCH (R339): At ET M the new photodiode sample rate takes effect at the controller. -/
  | sampleRateSwitch
  /-- PTP_EXCHANGE_COMPLETE (R437): An accepted PTP exchange acquires NT or updates the servo, or enters SLEWING. -/
  | ptpExchangeComplete (t1 : Int) (c1 : Int) (t2 : Nat) (t3 : Nat) (t4 : Int) (c2 : Int)
  /-- PTP_EXCHANGE_TIMEOUT (R435): A message of an exchange is missing after 10 ms, so the exchange is discarded. -/
  | ptpExchangeTimeout
  /-- ANNOUNCE_TIMEOUT (R439): The selected grandmaster has been silent for ANNOUNCE_TIMEOUT intervals, so the servo enters HOLDOVER. -/
  | announceTimeout
  /-- NT_REANCHOR (R427): The NT anchor is moved, at least once per second. -/
  | ntReanchor
  /-- STEP_NOW (R441): NT is stepped by the newest offset, at Service level. -/
  | stepNow (path : Path) (value : Nat)
  /-- ET_IN (R446): A written ET is converted to NT. -/
  | etIn (path : Path) (value : Nat)
  /-- NT_IN_NANOSECONDS (R446): A written NT is converted to ET. -/
  | ntInNanoseconds (path : Path) (value : Nat)
  /-- HEARTBEAT_SEND (R467): At every multiple of 625 ticks a HEARTBEAT is sent and TWIN_ALIVE_OUT toggles. -/
  | heartbeatSend
  /-- HEARTBEAT (R468): A received HEARTBEAT updates liveness, epoch, NEXT_SEQ and JOB_HELD. -/
  | heartbeat (sendEt : Nat) (role : Nat) (state : Nat) (epoch : Nat) (nextSeq : Nat) (jobHeld : Nat)
  /-- TWIN_ALIVE_EDGE (R468): An edge on TWIN_ALIVE_IN shows the partner is alive. -/
  | twinAliveEdge
  /-- TAKEOVER (R471): The PRIMARY has gone silent, so the SHADOW becomes PRIMARY and sends frames with OWNER 1 from frame F. -/
  | takeover
  /-- TWIN_LINK_FAILED (R468): HEARTBEATs have been missing for 5,000 ticks while the alive line toggles, so a SHADOW becomes COLD. -/
  | twinLinkFailed
  /-- OWN_HEARTBEAT_LAPSE (R473): A PRIMARY's own heartbeat has lapsed for 5,000 ticks, so it becomes COLD. -/
  | ownHeartbeatLapse
  /-- DECISION (R459): The SHADOW receives DECISION and starts the same decision with T_REF and L_DRAM. -/
  | decision (seq : Nat) (transport : Nat) (tRef : Nat) (latency : Nat)
  /-- OUTCOME (R459): The PRIMARY's outcome is compared with the SHADOW's. -/
  | outcome (seq : Nat) (transport : Nat) (id : Nat) (code : Nat) (promise : Nat)
  /-- PLAN (R460): A derating, hold, guard wait or entry result is applied at its APPLY_ET. -/
  | plan (seq : Nat) (id : Nat) (h : Nat) (kind : Nat) (item : Nat) (applyEt : Nat) (value : Nat)
  /-- CUT (R461): A CUT is applied from its ONSET_ET with CLEAR records and withheld booking. -/
  | cut (seq : Nat) (id : Nat) (h : Nat) (cause : Nat) (mask : Nat) (onsetEt : Nat)
  /-- STATE (R31): A state transition of the PRIMARY is made at its APPLY_ET. -/
  | stateMessage (seq : Nat) (request : Nat) (cause : Nat) (applyEt : Nat)
  /-- WRITE (R464): A PRIMARY's dictionary write is applied before the next decision. -/
  | twinWrite (seq : Nat) (before : Nat) (index : Nat) (sub : Nat) (data : List Byte)
  /-- JOB_COPY (R463): A copied job-session frame is taken in or discarded as already held. -/
  | jobCopy (seq : Nat) (frame : List Byte)
  /-- HOST_COPY (R465): A copy of a frame sent to host software is held until acknowledged. -/
  | hostCopy (seq : Nat) (frame : List Byte)
  /-- DIGEST (R476): Segment digests are compared, and a mismatch makes the SHADOW COLD. -/
  | digest (seq : Nat) (id : Nat) (value : Nat)
  /-- LEDGER (R456): A Tally snapshot from the PRIMARY is received for use at a takeover. -/
  | ledger (seq : Nat) (snapshotEt : Nat) (ids : List Nat) (channels : List Nat) (planned : List Int) (correction : List Int) (delivered : List Int) (withheld : List Int)
  /-- LEDGER_SEND (R456): Every 512 frames the PRIMARY sends a LEDGER snapshot. -/
  | ledgerSend
  /-- MOTION (R466): The recoater position and recoat layer are taken from the motion controller. -/
  | motion (seq : Nat) (count : Int) (layer : Nat)
  /-- REPEAT (R457): Requested twin messages are repeated. -/
  | repeatRequest (seq : Nat) (first : Nat) (count : Nat)
  /-- TWIN_MESSAGE_LATE (R457): A numbered message has not arrived by its moment of need, so the SHADOW becomes COLD with cause 0x07. -/
  | twinMessageLate (seq : Nat)
  /-- STATE_DIVERGENCE_TIMEOUT (R461): The device states have differed for 1 ms, so the SHADOW becomes COLD with cause 0x0C. -/
  | stateDivergenceTimeout
  /-- TWIN_LINK_BLOCK_LOCK (R469): The twin link gains block lock and pairing negotiates, measures delay and assigns roles. -/
  | twinLinkBlockLock (versionMax : Nat) (versionMin : Nat) (firmware : Nat) (microcode : Nat) (digest : Nat) (rank : Nat) (serial : Nat) (role : Nat) (trips : List Nat) (sendEt : Nat)
  /-- TWIN_SOLO_TIMEOUT (R469): The twin link has had no block lock for 100 ms in STANDBY, so the controller becomes PRIMARY alone. -/
  | twinSoloTimeout
  /-- JOIN (R470): A write of 1 at the PRIMARY starts a join, or JOIN_RESULT reports the conditions unmet. -/
  | join (path : Path) (value : Nat)
  /-- AUTO_JOIN_START (R470): With AUTO_JOIN set, the PRIMARY starts a join by itself once the conditions hold. -/
  | autoJoinStart
  /-- JOIN_RECEIVED (R470): A COLD controller takes the JOIN content, fixes PAIR_OFFSET and becomes SHADOW. -/
  | joinReceived (content : List Byte) (trips : List Nat) (sendEt : Nat)
  /-- RELEASE (R477): The SHADOW becomes COLD with cause 0x0B. -/
  | release (path : Path) (value : Nat)
  /-- TWIN_ENABLE (R454): Twin operation is enabled or disabled in STANDBY with no segments. -/
  | twinEnable (path : Path) (value : Nat)
  /-- GAP_RECORD_TIMEOUT (R474): 64 frames after F pass without a report, so the takeover gap record closes. -/
  | gapRecordTimeout (h : Nat)
  /-- ENABLE (R519): An axis is enabled into HOLD with its offset initialised, or disabled. -/
  | enableAxis (path : Path) (m : Nat) (value : Nat)
  /-- GO (R492): A jerk-limited move to TARGET starts, or is refused. -/
  | go (path : Path) (m : Nat) (value : Nat)
  /-- STOP_AXIS (R495): STOP_HOME 1 brings the axis or gang to rest at STOP_DECEL. -/
  | stopAxis (path : Path) (m : Nat)
  /-- HOME (R500): STOP_HOME 2 starts the homing sequence. -/
  | home (path : Path) (m : Nat)
  /-- MICROSTEP (R493): The step timer expires and the axis, with its followers, advances one microstep. -/
  | microstep (m : Nat)
  /-- MOVE_COMPLETE (R495): An axis comes to rest and enters HOLD, and a recoat program advances. -/
  | moveComplete (m : Nat)
  /-- HOLD_DELAY_EXPIRY (R488): HOLD_DELAY has passed at rest, so the coil target drops to HOLD_CURRENT. -/
  | holdDelayExpiry (m : Nat)
  /-- CHOP_CYCLE (R489): One chopping cycle of a coil drives, decays and adapts the threshold offset. -/
  | chopCycle (m : Nat) (coilB : Bool) (reached : Bool) (t1 : Nat) (t2 : Nat)
  /-- HOME_EDGE (R500): An active home edge begins a candidate and records its position. -/
  | homeEdge (m : Nat) (active : Bool)
  /-- QUALIFY_TIME_EXPIRY (R500): The candidate holds for QUALIFY_TIME and becomes the latch, and the axis decelerates. -/
  | qualifyTimeExpiry (m : Nat)
  /-- CHATTER_WINDOW_EXPIRY (R500): The chatter window after qualification ends. -/
  | chatterWindowExpiry (m : Nat)
  /-- HOMING_COMPLETE (R500): The position is redefined from the latch, the axis parks and HOMED becomes 1. -/
  | homingComplete (m : Nat)
  /-- LIMIT_TRIP (R499): A limit input active for LIMIT_FILTER stops the axis into LIMIT or aborts homing. -/
  | limitTrip (m : Nat)
  /-- LIMIT_RELEASE (R499): The limit input releases and the axis returns to HOLD. -/
  | limitRelease (m : Nat)
  /-- ENCODER_EDGE (R504): An accepted encoder change moves COUNT and drives the follow-error check, compare outputs and direction tracking. -/
  | encoderEdge (e : Nat) (levels : Nat)
  /-- MIN_EDGE_EXPIRY (R504): The edge filter window ends, and a level change is taken without counting as a sync loss. -/
  | minEdgeExpiry (e : Nat) (levels : Nat)
  /-- INDEX_EDGE (R506): An index edge latches COUNT and checks for drift. -/
  | indexEdge (e : Nat)
  /-- HALL_STATE_CHANGE (R505): An accepted Hall state moves COUNT or counts a skip or an invalid state. -/
  | hallStateChange (e : Nat) (state : Nat)
  /-- COMPARE_PULSE_END (R510): PULSE_WIDTH elapses and CMP_n is released. -/
  | comparePulseEnd (n : Nat)
  /-- PROBE_EDGE (R509): A probe edge queues an event with ET, counts and positions. -/
  | probeEdge (n : Nat) (rising : Bool)
  /-- EVENT (R509): A read of EVENT removes and returns the oldest probe event. -/
  | probeEvent (path : Path) (n : Nat)
  /-- COUNT (R508): A write sets an encoder COUNT when no axis using it moves. -/
  | encoderCount (path : Path) (e : Nat) (value : Int)
  /-- ARM_COMPARE (R510): A compare output is armed with the current VALUE and REMAINING, or disarmed. -/
  | armCompare (path : Path) (n : Nat) (value : Nat)
  /-- RECOAT_START (R512): The recoat program for layer L starts and withdraws the report in force. -/
  | recoatStart (path : Path) (layer : Nat)
  /-- MANUAL_REPORT (R515): Recoat complete is reported at once for layer L. -/
  | manualReport (path : Path) (layer : Nat)
  /-- DRAM_READ_COMPLETE (R538): A DRAM read returns and is parity-checked, delivered, repeated or reported uncorrectable. -/
  | dramReadComplete (ch : Nat) (client : Nat) (address : Nat) (line : List Byte) (latency : Nat) (activated : Bool) (h : Nat) (id : Nat) (place : ReadPlace)
  /-- CA_ALERT (R533): DRAM_c_ALERT_N falls and the channel stops issuing commands. -/
  | caAlert (ch : Nat)
  /-- CA_ALERT_RELEASE (R533): ALERT_N returns high, so the error is cleared, rows are reactivated and buffered commands replayed. -/
  | caAlertRelease (ch : Nat)
  /-- CA_ALERT_STUCK (R534): ALERT_N has stayed low for 2 µs, or sequences keep failing, so the channel retrains and replays. -/
  | caAlertStuck (ch : Nat)
  /-- REFRESH (R541): The refresh interval elapses and refresh is issued or postponed. -/
  | refresh (ch : Nat) (rank : Nat) (waiting : Bool)
  /-- ZQ_CALIBRATION (R541): A short ZQ calibration is issued to every rank every 128 ms. -/
  | zqCalibration
  /-- CASE_TEMP_READ (R542): Every 1 ms the device temperature status is read and the refresh rate is adjusted. -/
  | caseTempRead (ch : Nat) (value : Int)
  /-- CASE_TEMP_TIMEOUT (R542): No CASE_TEMP write has arrived for 1 s, so the temperature is taken as above 85 °C. -/
  | caseTempTimeout
  /-- RETRAIN_START (R545): A temperature change or RETRAIN_INTERVAL starts a retraining of a channel. -/
  | retrainStart (ch : Nat)
  /-- RETRAIN_COMPLETE (R546): A rank's retraining ends, and it is repeated once or the controller enters FAULT with cause 0x0032. -/
  | retrainComplete (ch : Nat) (rank : Nat) (good : Bool)
  /-- FAULT_RETRAIN_RETRY (R20): In FAULT with cause 0x0032 the failed rank is retrained every 1 s. -/
  | faultRetrainRetry (good : Bool)
  /-- ROOT_GATE (R560): A 1 ms gate ends and source qualification and root selection are re-evaluated. -/
  | rootGate (offA : Int) (offB : Int) (offTwin : Int) (offXo : Int)
  /-- XO_EDGE_LOSS (R559): The oscillator shows no edge for 1 µs and loses qualification at once. -/
  | xoEdgeLoss
  /-- HOLDOVER_TIME_EXPIRY (R560): HOLDOVER_TIME passes and the root moves to the oscillator, or to unlimited holdover with FAULT cause 0x0031. -/
  | holdoverTimeExpiry
  /-- PLL_UNLOCK (R561): A main, DRAM or SerDes PLL loses lock, which counts as root loss with cause 0x0031. -/
  | pllUnlock (pll : Nat)
  /-- START (R567): A frequency measurement starts, or is refused while busy. -/
  | startMeasurement (path : Path) (value : Nat)
  /-- FREQ_MEASUREMENT_COMPLETE (R568): GATE_CYCLES reference cycles have passed and RESULT and PPM are formed. -/
  | freqMeasurementComplete (running : Bool) (count : Nat)
  /-- CAUSE (R641): A write of 1 to a leaf bit clears it and its counter. -/
  | cause (path : Path) (reg : Nat) (value : Nat)
  /-- TAKE (R642): A read returns the causes and counters and clears the leaves of TAKE_MASK in the same cycle. -/
  | take (path : Path) (reg : Nat)
  /-- HOST_RECORD (R658): A host record is appended to the event recorder. -/
  | hostRecord (path : Path) (data : List Byte)
  /-- CLEAR_TOPSOIL (R659): Older Topsoil records become unreadable and a record of type 0x00A0 is written. -/
  | clearTopsoil (path : Path) (value : Nat)
  /-- FLUSH (R664): Queued records are written to flash before the response. -/
  | flush (path : Path) (value : Nat)
  /-- NEXT (R660): The record window advances by 256 bytes or moves to the next record. -/
  | nextRecord (path : Path) (value : Nat)
  /-- CURSOR (R660): A write selects a record and resets OFFSET to 0. -/
  | cursor (path : Path) (value : Nat)
  /-- RECORD_FLASH_WRITE (R654): A queued record is written to flash with its closing mark, and retried once on failure. -/
  | recordFlashWrite (good : Bool)
  /-- HOURS_STORE (R653): The operating hours are stored in flash at least every 10 minutes. -/
  | hoursStore
  /-- SF_IMAGE (R627): A System Firmware image is checked and written to the target slot. -/
  | sfImage (path : Path) (image : List Byte) (flashGood : Bool)
  /-- MC_IMAGE (R627): A Sequencer Microcode image is checked and written to the target slot. -/
  | mcImage (path : Path) (image : List Byte) (flashGood : Bool)
  /-- TRIAL (R629): A trial of the complete target slot becomes pending. -/
  | trial (path : Path) (value : Nat)
  /-- CONFIRM (R630): The running trial slot becomes preferred. -/
  | confirm (path : Path) (value : Nat)
  /-- BLOCK (R618): A new factory calibration block is checked and written to flash. -/
  | factoryBlock (path : Path) (block : List Byte)
  /-- CALIBRATION_USER_WRITE (R613): A user calibration layer is checked and the new effective value is formed. -/
  | calibrationUserWrite (path : Path) (index : Nat) (sub : Nat) (data : List Byte)
  /-- BLOCK_LOCK_GAIN (R377): A ring port gains block lock, which sets BLOCK_LOCK, starts the 1 ms hold towards BYPASS_HOLD and the 10 ms towards source qualification, and ends a bypass trial successfully. -/
  | blockLockGain (port : Nat)
  /-- TWIN_LINK_LOCK_LOSS (R452): The twin link loses block lock, clearing LINK_LOCK, starting the 100 ms towards solo PRIMARY and moving a rank-1 controller's root away from the twin link at once. -/
  | twinLinkLockLoss
  /-- PLL_LOCK_REGAINED (R561): A main, DRAM or SerDes PLL that had lost lock locks again, setting its PLL_LOCK bit so that cause 0x0031 is no longer present for CLEAR or a kept restart cause. -/
  | pllLockRegained (pll : Nat)
  /-- STARTUP_BOUND_EXPIRY (R601): A start-up step from 2 to 4 exceeds its bound, so the controller holds in BOOT with the cause that the table gives. -/
  | startupBoundExpiry
  /-- PLAN_DECISION (R460): In a pair, at ET B − 2,500 ticks the PRIMARY makes the derating, drain-hold and entry-check decisions for boundary B and sends them as PLAN messages. -/
  | planDecision (h : Nat)
  /-- ARCHIVE_MESSAGE_SEND (R274): A frame from the DRAM archive queue is sent to subscribing host software as an ARCHIVE message, paced to an average rate no higher than ARCHIVE_BUDGET. -/
  | archiveMessageSend
  /-- FEATURE_LOG_BLOCK_READ (R279): A read of 0x6001:02 BLOCK returns up to 16 feature records from CURSOR onwards and advances CURSOR past them. -/
  | featureLogBlockRead (path : Path)
  /-- JTAG_TCK_EDGE (R683): An edge of JTAG_TCK advances the IEEE 1149.1 test access port, loading BYPASS, IDCODE, EXTEST, CLAMP or HIGHZ under the conditions of R683 and R684. -/
  | jtagTckEdge (rising : Bool) (tms : Bool) (tdi : Bool) (trstN : Bool)
  deriving DecidableEq, Repr

end Sys2Proof
end

