-- ==== Sys2Proof/Decode.lean ====
section
/-!
DEFINITION. The reading of a table word, and of a transaction of the management port. The table of operations and events gives no
row any bits (its rows have no fields and no match), so no word spells a command.
-/
namespace Sys2Proof

/-- The command that a word of nbits bits spells by the table's bits: none, since no row of the table gives bits. -/
def decodeTableWord (nbits w : Nat) : Option Instr :=
  match nbits, w with
  | _, _ => none

/-- The command that a transaction of the management port makes: its first byte is 0x01 WRITE, 0x02 READ or 0x03 STATUS, and any other
names none (R412). A READ and a STATUS shift their bytes out. -/
def spiTransaction (bytes : List (BitVec 8)) : Option Instr :=
  match bytes with
  | [] => none
  | b :: rest =>
    match b.toNat with
    | 1 => some (.spiWrite rest)
    | 2 => some .spiRead
    | 3 => some .spiStatus
    | _ => none

end Sys2Proof
end

