-- ==== Sys2Proof/Config.lean ====
section
/-!
DEFINITION. Config: the free values. Each opaque constant has no body, so nothing can be proved about its value;
each stands where the manual states an effect and leaves one value open. The assumption log names every one.
-/
namespace Sys2Proof.Config

/-- The 32-byte HMAC-SHA-256 under the device's fused service key, over CHALLENGE, SERIAL and the session number
(R389). The key is not in the manual. -/
opaque hmacService : (challenge serial session : Nat) → List Byte

/-- A fresh U64 CHALLENGE (R389: "draws afresh at each read"): the n-th value drawn. -/
opaque challengeDraw : Nat → Nat

/-- SHA-384 of a byte string, 48 bytes (R619, BODY_HASH). -/
opaque sha384 : List Byte → List Byte

/-- Whether a 96-byte ECDSA P-384 signature over a 160-byte prefix verifies with the fused public key of an index,
that key not being revoked (R616, R620). The fused keys are not in the manual. -/
opaque signatureOk : (keyIndex : Nat) → (signed signature : List Byte) → Bool

/-- The value of a U32 or U64 event counter, by its dictionary key, after an increment beyond its type's range: the
manual states no result there. -/
opaque counterOverflow : (key : Nat) → Nat

/-- How the fixed-point arithmetic of R265 rounds 256 × P_k of one bin and window: even, down; odd, to the next whole number. The
manual states the formula and leaves its word lengths open. -/
opaque flickerRound : (freq : Nat) → (window : List Nat) → Nat

/-- The HOPS byte of the frames the controller sends itself: the manual states none (R371, R375, R380). -/
opaque ownHops : Nat

/-- The ring port, 0 A and 1 B, by which a frame of the controller's own leaves for an address: the manual states none (R369,
R374). -/
opaque ownPort : (dest : Nat) → Nat

/-- The instruction (0 BYPASS, 1 IDCODE, 2 SAMPLE/PRELOAD, 3 EXTEST, 4 CLAMP, 5 HIGHZ) that the bits in the
instruction register select: the manual names the instructions and not their codes (R682). -/
opaque tapOpcode : List Bool → Nat

/-- The length of the instruction register, in bits (R682 states none). -/
opaque tapIrLength : Nat

/-- The bits that the n-th capture of the boundary register takes from the balls, first out first: the manual lists neither
its cells nor their order (R682). -/
opaque boundaryCapture : (n : Nat) → List Bool

/-- The line number (physical address / 64) at which the n-th line of a datum of a DRAM area is written: the manual gives the areas'
sizes and not where a datum lies in them (R527). Areas: 0 staging, 1 head summaries, 2 ledger log, 3 defect log, 4 feature log,
5 archive queue. -/
opaque lineNumber : (area datum n : Nat) → Nat

/-- The row of a DRAM line, in its channel: the manual does not map addresses to rows (R540). -/
opaque rowOf : (address : Nat) → Nat

/-- Whether the n-th loss of power or reset with records awaiting flash catches a write before its closing mark (R654). -/
opaque tornWrite : (n : Nat) → Bool

/-- The n-th value that a source outside the manual's rules supplies where a rule needs one and states none. -/
opaque freeNat : Nat → Nat

end Sys2Proof.Config
end

