-- ==== Sys2Proof/Machine/Bits.lean ====
section
/-!
DEFINITION. Bit fields, signed values, byte order, rounding, integer roots and the two checksums of the manual:
the number helpers that every family shares. Little-endian is R6; the CRC-32 is R42 and the CRC-16 is R328.
-/
namespace Sys2Proof.Machine

/-! ### Fields and signs -/

/-- Bits [hi:lo] of a word. -/
def bits (w hi lo : Nat) : Nat := w / 2 ^ lo % 2 ^ (hi + 1 - lo)

/-- Bit i of a word. -/
def bitAt (w i : Nat) : Bool := w.testBit i

/-- 1 for true, 0 for false. -/
def flag (b : Bool) : Nat := if b then 1 else 0

/-- A word with bit i set. -/
def setBit (w i : Nat) : Nat := w ||| 2 ^ i

/-- A word with bit i cleared. -/
def clearBit (w i : Nat) : Nat := if w.testBit i then w - 2 ^ i else w

/-- The two's complement value of the low n bits of a word. -/
def sext (n w : Nat) : Int :=
  let v := w % 2 ^ n
  if v < 2 ^ (n - 1) then (v : Int) else (v : Int) - 2 ^ n

/-- The n-bit two's complement word of a value. -/
def unsignedOf (n : Nat) (v : Int) : Nat := (v % (2 ^ n : Nat)).toNat

/-- A value taken as a signed n-bit one. -/
def signedOf (n : Nat) (v : Int) : Int := sext n (unsignedOf n v)

/-- The number of ones among the low n bits. -/
def popcount : Nat → Nat → Nat
  | 0, _ => 0
  | n + 1, w => popcount n w + (if w.testBit n then 1 else 0)

/-- The bit numbers set among the low n bits, ascending. -/
def bitList (n w : Nat) : List Nat := (List.range n).filter (fun i => w.testBit i)

/-! ### Bytes -/

/-- The byte of a number, modulo 256. -/
def byteOf (v : Nat) : Byte := BitVec.ofNat 8 v

/-- The value of bytes in little-endian order (R6). -/
def leNat : List Byte → Nat
  | [] => 0
  | b :: bs => b.toNat + 256 * leNat bs

/-- The n little-endian bytes of a value (R6). -/
def leBytes : Nat → Nat → List Byte
  | 0, _ => []
  | n + 1, v => byteOf v :: leBytes n (v / 256)

/-- The n little-endian bytes of a signed value (R6, R400). -/
def leBytesInt (n : Nat) (v : Int) : List Byte := leBytes n (unsignedOf (8 * n) v)

/-- The value of bytes in big-endian order (fields of IEEE standards, R6). -/
def beNat (bs : List Byte) : Nat := bs.foldl (fun a b => a * 256 + b.toNat) 0

/-- The big-endian bytes of a number. -/
def beBytes (n v : Nat) : List Byte := (leBytes n v).reverse

/-- n bytes of a byte string from an offset, as a little-endian number; bytes beyond its end read 0. -/
def leAt (bs : List Byte) (off n : Nat) : Nat := leNat ((bs.drop off).take n)

/-- A string cut or zero-filled to n bytes. -/
def padTo (n : Nat) (bs : List Byte) : List Byte := (bs ++ List.replicate (n - bs.length) 0).take n

/-- A list cut into pieces of n elements, the last piece shorter; fuel bounds the number of pieces. -/
def chunksFuel {α : Type} (n : Nat) : Nat → List α → List (List α)
  | 0, _ => []
  | _ + 1, [] => []
  | fuel + 1, x :: xs => (x :: xs).take n :: chunksFuel n fuel ((x :: xs).drop n)

/-- A list cut into pieces of n elements (n at least 1). -/
def chunks {α : Type} (n : Nat) (xs : List α) : List (List α) := chunksFuel n xs.length xs

/-- The little-endian 32-bit words of a byte string; a tail shorter than a word is zero-filled (R42, R396). -/
def wordsOf (bs : List Byte) : List Nat := (chunks 4 bs).map leNat

/-! ### Rounding -/

/-- a / b rounded to nearest, halves away from zero (R140, R150, R167); 0 where b is 0. -/
def roundDiv (a : Int) (b : Nat) : Int :=
  if b = 0 then 0 else if 0 ≤ a then (2 * a + b) / (2 * b) else -((2 * (-a) + b) / (2 * b))

/-- a / b rounded to nearest for naturals, halves up; 0 where b is 0. -/
def roundDivNat (a b : Nat) : Nat := if b = 0 then 0 else (2 * a + b) / (2 * b)

/-- a / b rounded up; 0 where b is 0. -/
def ceilDiv (a b : Nat) : Nat := if b = 0 then 0 else (a + b - 1) / b

/-- A value confined to a range. -/
def clampInt (lo hi v : Int) : Int := if v < lo then lo else if hi < v then hi else v

/-- Bisection for the largest n below lo + 2^fuel with p n, where p holds at lo and is downward closed. -/
def bisect (p : Nat → Bool) : (fuel lo : Nat) → Nat
  | 0, lo => lo
  | fuel + 1, lo => if p (lo + 2 ^ fuel) then bisect p fuel (lo + 2 ^ fuel) else bisect p fuel lo

/-- The difference of two ETs, modulo 2^64 (R5). -/
def etSub (a b : Nat) : Nat := (a + 2 ^ 64 - b) % 2 ^ 64

/-- The integer square root (rounded down). -/
def isqrt (n : Nat) : Nat := bisect (fun r => r * r ≤ n) (Nat.log2 n / 2 + 1) 0

/-- The integer cube root (rounded down). -/
def icbrt (n : Nat) : Nat := bisect (fun r => r * r * r ≤ n) (Nat.log2 n / 3 + 1) 0

/-- The least number at which a monotone test holds, found between 0 and 2^fuel. -/
def leastAt (p : Nat → Bool) (fuel : Nat) : Nat :=
  if p 0 then 0 else bisect (fun n => !p n) fuel 0 + 1

/-! ### Checksums -/

/-- One bit step of a reflected CRC. -/
def crcBit (poly c : Nat) : Nat := if c % 2 = 1 then (c / 2) ^^^ poly else c / 2

/-- Eight bit steps. -/
def crcByte (poly c : Nat) : Nat :=
  crcBit poly (crcBit poly (crcBit poly (crcBit poly (crcBit poly (crcBit poly (crcBit poly (crcBit poly c)))))))

/-- The CRC-32 of R42: polynomial 0x04C1_1DB7 reflected, initial value and final exclusive-OR 0xFFFF_FFFF. -/
def crc32 (bs : List Byte) : Nat :=
  (bs.foldl (fun c b => crcByte 0xEDB88320 (c ^^^ b.toNat)) 0xFFFFFFFF) ^^^ 0xFFFFFFFF

/-- One bit step of a CRC taken most significant bit first over 16 bits. -/
def crc16Bit (poly c : Nat) : Nat :=
  if c.testBit 15 then ((c * 2) % 65536) ^^^ poly else (c * 2) % 65536

/-- Eight bit steps of it. -/
def crc16Byte (poly c : Nat) : Nat :=
  crc16Bit poly (crc16Bit poly (crc16Bit poly (crc16Bit poly
    (crc16Bit poly (crc16Bit poly (crc16Bit poly (crc16Bit poly c)))))))

/-- The CRC-16 of R328 over a byte string. -/
def crc16 (bs : List Byte) : Nat :=
  bs.foldl (fun c b => crc16Byte 0x1021 (c ^^^ (b.toNat * 256))) 0xFFFF

/-! ### Angles

Direction angles are 360/65,536 degree (R34). Sine and cosine are the exact functions, taken to 2^−60 and rounded
to 2^−30 where used (R167 asks for at least 30 fractional bits). -/

/-- π × 2^60, rounded. -/
def pi60 : Int := 3622009729038561421

/-- The product of two numbers of 60 fractional bits. -/
def mul60 (a b : Int) : Int := (a * b) / 2 ^ 60

/-- The cosine series 1 − x²/2! + x⁴/4! − …, from its term of order 2k down; x2 is x² with 60 fractional bits. -/
def cosTerms (x2 : Int) : Nat → Nat → Int
  | 0, _ => 2 ^ 60
  | fuel + 1, k => 2 ^ 60 - mul60 x2 (cosTerms x2 fuel (k + 1)) / (((2 * k + 1) * (2 * k + 2) : Nat) : Int)

/-- The cosine of an angle of the first octants, 0 to 16,384, with 60 fractional bits. -/
def cosQuarter60 (a : Nat) : Int :=
  if a = 0 then 2 ^ 60 else if a = 16384 then 0
  else
    let x := pi60 * (a : Int) / 32768
    cosTerms (mul60 x x) 14 0

/-- cos of an angle in units of 360/65,536 degree, with 30 fractional bits. -/
def cosQ (angle : Nat) : Int :=
  let a := angle % 65536
  let v :=
    if a ≤ 16384 then cosQuarter60 a
    else if a ≤ 32768 then -cosQuarter60 (32768 - a)
    else if a ≤ 49152 then -cosQuarter60 (a - 32768)
    else cosQuarter60 (65536 - a)
  roundDiv v (2 ^ 30)

/-- cos of a part p of q of a turn, with 60 fractional bits (for R265). -/
def cosTurn60 (p q : Nat) : Int :=
  let n := p % q
  let quarter (m : Nat) : Int := if m = 0 then 2 ^ 60 else if 4 * m = q then 0
    else let x := 2 * pi60 * m / q; cosTerms (mul60 x x) 14 0
  if 4 * n ≤ q then quarter n else if 2 * n ≤ q then
    (let x := pi60 - 2 * pi60 * n / q; -cosTerms (mul60 x x) 14 0)
  else if 4 * n ≤ 3 * q then (let x := 2 * pi60 * n / q - pi60; -cosTerms (mul60 x x) 14 0)
  else quarter (q - n)

/-- sin of an angle in the same units, with 30 fractional bits. -/
def sinQ (angle : Nat) : Int := cosQ (angle + 49152)

end Sys2Proof.Machine
end

