-- ==== Sys2Proof/Machine/Objects.lean ====
section
/-!
DEFINITION. The object dictionary as a table (R8 to R11, R400, R402 and the object tables of every chapter): for each
object its indices, and for each subindex its type, access class, default, range and whether it is persistent.
Subindex 0 of every object reads the highest subindex (R9).
-/
namespace Sys2Proof.Machine

/-- The value types of R400. -/
inductive ValType where
  | bool
  | u8
  | u16
  | u32
  | u64
  | s16
  | s32
  | s64
  | str
  | domain
  deriving DecidableEq, Repr

/-- The access classes of R402. -/
inductive Access where
  | ro
  | rw
  | wo
  | rws
  | w1c
  deriving DecidableEq, Repr

/-- The width of a numeric type in bytes; 0 for strings and domains. -/
def ValType.bytes : ValType → Nat
  | .bool => 1
  | .u8 => 1
  | .u16 => 2
  | .u32 => 4
  | .u64 => 8
  | .s16 => 2
  | .s32 => 4
  | .s64 => 8
  | .str => 0
  | .domain => 0

/-- Whether a type is signed. -/
def ValType.signed : ValType → Bool
  | .s16 => true
  | .s32 => true
  | .s64 => true
  | _ => false

/-- One entry: n consecutive subindices from sub, all alike. -/
structure ObjEntry where
  sub : Nat
  n : Nat
  name : String
  type : ValType
  access : Access
  default : Int
  /-- the range of permitted values where the table states one narrower than the type -/
  range : Option (Int × Int)
  persistent : Bool
  deriving DecidableEq, Repr

/-- One table row: count consecutive objects from base, all alike. -/
structure ObjRow where
  base : Nat
  count : Nat
  entries : List ObjEntry
  deriving DecidableEq, Repr

/-- The objects of area 0x1xxx (R417, R418, R419, R420, R421). -/
def objects1 : List ObjRow :=
  [ ⟨0x1000, 1, [
      ⟨1, 1, "VENDOR_ID", .u32, .ro, 3930, none, false⟩,
      ⟨2, 1, "PRODUCT_CODE", .u32, .ro, 12886, none, false⟩,
      ⟨3, 1, "REVISION", .u32, .ro, 0, none, false⟩,
      ⟨4, 1, "SERIAL", .u32, .ro, 0, none, false⟩,
      ⟨5, 1, "DEVICE_NAME", .str, .ro, 0, none, false⟩,
      ⟨6, 1, "NODE_MAC", .u64, .ro, 0, none, false⟩]⟩,
    ⟨0x1001, 1, [
      ⟨1, 1, "SYSTEM_FIRMWARE", .u32, .ro, 0, none, false⟩,
      ⟨2, 1, "MICROCODE", .u32, .ro, 0, none, false⟩,
      ⟨3, 1, "RING_MAX", .u16, .ro, 256, none, false⟩,
      ⟨4, 1, "RING_MIN", .u16, .ro, 256, none, false⟩,
      ⟨5, 1, "DICT_MAX", .u16, .ro, 256, none, false⟩,
      ⟨6, 1, "RING_NEGOTIATED", .u16, .ro, 0, none, false⟩,
      ⟨7, 1, "DICT_NEGOTIATED", .u16, .ro, 0, none, false⟩]⟩,
    ⟨0x1010, 1, [
      ⟨1, 1, "STORE", .u8, .wo, 0, none, false⟩,
      ⟨2, 1, "RESTORE_DEFAULTS", .u8, .wo, 0, none, false⟩,
      ⟨3, 1, "STORE_RESULT", .u8, .ro, 0, none, false⟩]⟩,
    ⟨0x1020, 1, [
      ⟨1, 1, "CHALLENGE", .u64, .ro, 0, none, false⟩,
      ⟨2, 1, "RESPONSE", .domain, .wo, 0, none, false⟩,
      ⟨3, 1, "DROP", .u8, .wo, 0, none, false⟩]⟩,
    ⟨0x1030, 1, [
      ⟨1, 1, "ETHERTYPE", .u16, .rws, 34997, some (1536, 65535), true⟩,
      ⟨2, 1, "GROUP_MAC", .u64, .rws, 0, none, true⟩,
      ⟨3, 1, "RTO", .u32, .rws, 200, some (20, 100000), true⟩,
      ⟨4, 1, "MAX_RETRIES", .u8, .rws, 16, some (1, 255), true⟩,
      ⟨5, 1, "SESSION_TIMEOUT", .u32, .rws, 1000, some (10, 60000), true⟩,
      ⟨6, 1, "ACK_DELAY", .u16, .rws, 20, some (1, 1000), true⟩,
      ⟨7, 1, "PTP_DOMAIN", .u8, .rws, 0, some (0, 127), true⟩,
      ⟨8, 1, "BYPASS_LOSS_TIME", .u32, .rws, 1000, some (10, 1000000), true⟩,
      ⟨9, 1, "BYPASS_RETRY", .u32, .rws, 10000, none, true⟩,
      ⟨10, 1, "BYPASS_ENABLE", .bool, .rw, 1, none, true⟩,
      ⟨11, 1, "SUBSCRIBE", .u8, .rw, 0, none, false⟩]⟩,
    ⟨0x1031, 1, [
      ⟨1, 1, "SESSIONS_OPEN", .u8, .ro, 0, none, false⟩,
      ⟨2, 1, "RETRANSMISSIONS", .u32, .ro, 0, none, false⟩,
      ⟨3, 1, "DUPLICATES", .u32, .ro, 0, none, false⟩,
      ⟨4, 1, "OUT_OF_WINDOW", .u32, .ro, 0, none, false⟩,
      ⟨5, 1, "LAST_CLOSE_REASON", .u8, .ro, 0, none, false⟩]⟩,
    ⟨0x1040, 2, [
      ⟨1, 1, "BLOCK_LOCK", .bool, .ro, 0, none, false⟩,
      ⟨2, 1, "LOCK_LOSSES", .u32, .ro, 0, none, false⟩,
      ⟨3, 1, "FRAMES_IN", .u64, .ro, 0, none, false⟩,
      ⟨4, 1, "FRAMES_FORWARDED", .u64, .ro, 0, none, false⟩,
      ⟨5, 1, "FCS_ERRORS", .u32, .ro, 0, none, false⟩,
      ⟨6, 1, "STOMPED", .u32, .ro, 0, none, false⟩,
      ⟨7, 1, "DISCARDED", .u32, .ro, 0, none, false⟩,
      ⟨8, 1, "CHANGEOVER_LOST", .u32, .ro, 0, none, false⟩,
      ⟨9, 1, "BYPASS_TRIALS_FAILED", .u32, .ro, 0, none, false⟩,
      ⟨10, 1, "PTP_UNMATCHED", .u32, .ro, 0, none, false⟩]⟩ ]

/-- The objects of area 0x2xxx (R15, R569, R570, R571, R445, R446, R447, R448). -/
def objects2a : List ObjRow :=
  [ ⟨0x2001, 1, [
      ⟨1, 1, "DEVICE_STATE", .u8, .ro, 2, none, false⟩,
      ⟨2, 1, "STATE_REQUEST", .u8, .wo, 0, none, false⟩,
      ⟨3, 1, "STATE_CAUSE", .u16, .ro, 1, none, false⟩,
      ⟨4, 1, "REQUEST_RESULT", .u8, .ro, 0, none, false⟩,
      ⟨5, 1, "TRANSITION_ET", .u64, .ro, 0, none, false⟩,
      ⟨6, 1, "PREVIOUS_STATE", .u8, .ro, 2, none, false⟩,
      ⟨7, 1, "TRANSITION_COUNT", .u32, .ro, 0, none, false⟩]⟩,
    ⟨0x2010, 1, [
      ⟨1, 1, "ROOT_SELECT", .u8, .rws, 0, some (0, 2), true⟩,
      ⟨2, 1, "HOLDOVER_TIME", .u32, .rws, 10, some (0, 3600), true⟩]⟩,
    ⟨0x2011, 1, [
      ⟨1, 1, "ROOT_SOURCE", .u8, .ro, 2, none, false⟩,
      ⟨2, 1, "XO_VALID", .bool, .ro, 0, none, false⟩,
      ⟨3, 1, "XO_OFFSET", .s32, .ro, 0, none, false⟩,
      ⟨4, 1, "SOURCE_CHANGES", .u32, .ro, 0, none, false⟩,
      ⟨5, 1, "HOLDOVER_ENTRIES", .u32, .ro, 0, none, false⟩,
      ⟨6, 1, "HOLDOVER_TICKS", .u64, .ro, 0, none, false⟩,
      ⟨7, 1, "JUDGE_GATES", .u8, .ro, 0, none, false⟩,
      ⟨8, 1, "JUDGE_REFERENCE", .u8, .ro, 255, none, false⟩,
      ⟨9, 1, "PLL_LOCK", .u8, .ro, 0, none, false⟩,
      ⟨10, 1, "QUALIFIED", .u8, .ro, 0, none, false⟩]⟩,
    ⟨0x2012, 1, [
      ⟨1, 1, "TARGET", .u8, .rw, 1, some (0, 15), false⟩,
      ⟨2, 1, "REFERENCE", .u8, .rw, 0, some (0, 15), false⟩,
      ⟨3, 1, "GATE_CYCLES", .u32, .rw, 156250, some (1000, 4294967295), false⟩,
      ⟨4, 1, "HEAD", .u8, .rw, 0, some (0, 31), false⟩,
      ⟨5, 1, "START", .u8, .wo, 0, none, false⟩,
      ⟨6, 1, "BUSY", .bool, .ro, 0, none, false⟩,
      ⟨7, 1, "RESULT", .u64, .ro, 0, none, false⟩,
      ⟨8, 1, "PPM", .s32, .ro, 0, none, false⟩]⟩,
    ⟨0x2020, 1, [
      ⟨1, 1, "ET", .u64, .ro, 0, none, false⟩,
      ⟨2, 1, "NT_SECONDS", .u64, .ro, 0, none, false⟩,
      ⟨3, 1, "NT_NANOSECONDS", .u32, .ro, 2147483648, none, false⟩,
      ⟨4, 1, "RATE", .s32, .ro, 0, none, false⟩,
      ⟨5, 1, "STEP_COUNT", .u32, .ro, 0, none, false⟩,
      ⟨6, 1, "LAST_STEP", .s64, .ro, 0, none, false⟩]⟩,
    ⟨0x2021, 1, [
      ⟨1, 1, "ET_IN", .u64, .rw, 0, none, false⟩,
      ⟨2, 1, "NT_OUT_SECONDS", .u64, .ro, 0, none, false⟩,
      ⟨3, 1, "NT_OUT_NANOSECONDS", .u32, .ro, 0, none, false⟩,
      ⟨4, 1, "NT_IN_SECONDS", .u64, .rw, 0, some (0, 281474976710655), false⟩,
      ⟨5, 1, "NT_IN_NANOSECONDS", .u32, .rw, 0, some (0, 999999999), false⟩,
      ⟨6, 1, "ET_OUT", .u64, .ro, 0, none, false⟩]⟩,
    ⟨0x2022, 1, [
      ⟨1, 1, "STEP_THRESHOLD", .u32, .rws, 1000, some (100, 1000000), true⟩,
      ⟨2, 1, "SERVO_TC", .u32, .rws, 1000, some (10, 100000), true⟩,
      ⟨3, 1, "ANNOUNCE_TIMEOUT", .u8, .rws, 3, some (2, 10), true⟩,
      ⟨4, 1, "STEP_NOW", .u8, .wo, 0, none, false⟩]⟩,
    ⟨0x2023, 1, [
      ⟨1, 1, "SERVO_STATE", .u8, .ro, 0, none, false⟩,
      ⟨2, 1, "GM_IDENTITY", .u64, .ro, 0, none, false⟩,
      ⟨3, 1, "PORT", .u8, .ro, 255, none, false⟩,
      ⟨4, 1, "OFFSET", .s64, .ro, 0, none, false⟩,
      ⟨5, 1, "MEAN_PATH_DELAY", .u32, .ro, 0, none, false⟩,
      ⟨6, 1, "STEPS_REFUSED", .u32, .ro, 0, none, false⟩,
      ⟨7, 1, "MASTER_CHANGES", .u32, .ro, 0, none, false⟩,
      ⟨8, 1, "EXCHANGES", .u32, .ro, 0, none, false⟩]⟩ ]

/-- The objects of area 0x2xxx (R449, R584, R585, R586, R609, R610, R650). -/
def objects2b : List ObjRow :=
  [ ⟨0x2024, 2, [
      ⟨1, 1, "FACTORY", .u32, .ro, 0, none, false⟩,
      ⟨2, 1, "USER", .s32, .rw, 0, none, true⟩,
      ⟨3, 1, "EFFECTIVE", .u32, .ro, 0, none, false⟩]⟩,
    ⟨0x2026, 2, [
      ⟨1, 1, "FACTORY", .u32, .ro, 0, none, false⟩,
      ⟨2, 1, "USER", .s32, .rw, 0, none, true⟩,
      ⟨3, 1, "EFFECTIVE", .u32, .ro, 0, none, false⟩]⟩,
    ⟨0x2030, 1, [
      ⟨1, 1, "WARN_LEVEL", .s16, .rws, 10500, some (9500, 11000), true⟩,
      ⟨2, 1, "OPTICS_WARN", .s16, .rws, 32767, none, true⟩,
      ⟨3, 1, "TRIP_LEVEL", .s16, .ro, 11800, none, false⟩,
      ⟨4, 1, "RESTART_LEVEL", .s16, .ro, 10000, none, false⟩,
      ⟨5, 1, "RESTART_DELAY", .u16, .ro, 1000, none, false⟩]⟩,
    ⟨0x2031, 1, [
      ⟨1, 1, "DIE_MAX", .s16, .ro, 0, none, false⟩,
      ⟨2, 1, "DIE_MAX_SENSOR", .u8, .ro, 0, none, false⟩,
      ⟨3, 1, "FAST_MODE", .bool, .ro, 0, none, false⟩,
      ⟨4, 1, "WARNING", .bool, .ro, 0, none, false⟩,
      ⟨5, 1, "TRIPPED", .bool, .ro, 0, none, false⟩,
      ⟨6, 1, "EXCLUDED", .u16, .ro, 0, none, false⟩,
      ⟨7, 1, "EXCLUSION_LIMIT", .bool, .ro, 0, none, false⟩,
      ⟨8, 1, "OPTICS_VALID", .u32, .ro, 0, none, false⟩,
      ⟨9, 1, "TRIPS", .u32, .ro, 0, none, false⟩,
      ⟨10, 1, "LAST_TRIP_ET", .u64, .ro, 0, none, false⟩,
      ⟨11, 1, "LAST_TRIP_SENSOR", .u8, .ro, 255, none, false⟩,
      ⟨12, 1, "WARNINGS", .u32, .ro, 0, none, false⟩,
      ⟨13, 1, "EXCLUSIONS", .u32, .ro, 0, none, false⟩,
      ⟨14, 1, "PEAK", .s16, .ro, 0, none, false⟩]⟩,
    ⟨0x2032, 1, [
      ⟨1, 16, "TS", .s16, .ro, 0, none, false⟩]⟩,
    ⟨0x2040, 1, [
      ⟨1, 1, "RESET_CAUSE", .u8, .ro, 1, none, false⟩,
      ⟨2, 1, "RAIL_FAULT", .u8, .ro, 0, none, false⟩,
      ⟨3, 1, "POWER_CYCLES", .u32, .ro, 0, none, false⟩,
      ⟨4, 1, "INHIBIT_ACTIVE", .bool, .ro, 1, none, false⟩,
      ⟨5, 1, "INHIBIT_COUNT", .u32, .ro, 0, none, false⟩,
      ⟨6, 1, "STARTUP_STEP", .u8, .ro, 2, none, false⟩,
      ⟨7, 1, "STARTUP_TIME", .u32, .ro, 0, none, false⟩,
      ⟨8, 1, "LAST_INHIBIT_ET", .u64, .ro, 0, none, false⟩]⟩,
    ⟨0x2041, 1, [
      ⟨1, 1, "RING_WAIT", .u32, .rws, 2000, some (10, 60000), true⟩]⟩,
    ⟨0x2050, 1, [
      ⟨1, 1, "GIS", .u32, .ro, 0, none, false⟩,
      ⟨2, 1, "GIS_ENABLE", .u32, .rw, 49153, none, true⟩,
      ⟨3, 1, "INT_N_ASSERTED", .bool, .ro, 0, none, false⟩,
      ⟨4, 1, "EVENT_MASK", .u32, .rw, 0, none, false⟩]⟩ ]

/-- The objects of area 0x2xxx (R651). -/
def objects2c : List ObjRow :=
  [ ⟨0x2100, 18, [
      ⟨1, 1, "CAUSE", .u32, .w1c, 0, none, false⟩,
      ⟨2, 1, "ENABLE", .u32, .rw, 4294967295, none, true⟩,
      ⟨3, 1, "COUNTS", .domain, .ro, 0, none, false⟩,
      ⟨4, 1, "TAKE_MASK", .u32, .rw, 0, none, false⟩,
      ⟨5, 1, "TAKE", .domain, .ro, 0, none, false⟩]⟩,
    ⟨0x2400, 32, [
      ⟨1, 1, "CAUSE", .u32, .w1c, 0, none, false⟩,
      ⟨2, 1, "ENABLE", .u32, .rw, 4294967295, none, true⟩,
      ⟨3, 1, "COUNTS", .domain, .ro, 0, none, false⟩,
      ⟨4, 1, "TAKE_MASK", .u32, .rw, 0, none, false⟩,
      ⟨5, 1, "TAKE", .domain, .ro, 0, none, false⟩]⟩,
    ⟨0x2420, 32, [
      ⟨1, 1, "CAUSE", .u32, .w1c, 0, none, false⟩,
      ⟨2, 1, "ENABLE", .u32, .rw, 4294967295, none, true⟩,
      ⟨3, 1, "COUNTS", .domain, .ro, 0, none, false⟩,
      ⟨4, 1, "TAKE_MASK", .u32, .rw, 0, none, false⟩,
      ⟨5, 1, "TAKE", .domain, .ro, 0, none, false⟩]⟩,
    ⟨0x2440, 32, [
      ⟨1, 1, "CAUSE", .u32, .w1c, 0, none, false⟩,
      ⟨2, 1, "ENABLE", .u32, .rw, 4294967295, none, true⟩,
      ⟨3, 1, "COUNTS", .domain, .ro, 0, none, false⟩,
      ⟨4, 1, "TAKE_MASK", .u32, .rw, 0, none, false⟩,
      ⟨5, 1, "TAKE", .domain, .ro, 0, none, false⟩]⟩,
    ⟨0x2460, 32, [
      ⟨1, 1, "CAUSE", .u32, .w1c, 0, none, false⟩,
      ⟨2, 1, "ENABLE", .u32, .rw, 4294967295, none, true⟩,
      ⟨3, 1, "COUNTS", .domain, .ro, 0, none, false⟩,
      ⟨4, 1, "TAKE_MASK", .u32, .rw, 0, none, false⟩,
      ⟨5, 1, "TAKE", .domain, .ro, 0, none, false⟩]⟩,
    ⟨0x2480, 32, [
      ⟨1, 1, "CAUSE", .u32, .w1c, 0, none, false⟩,
      ⟨2, 1, "ENABLE", .u32, .rw, 4294967295, none, true⟩,
      ⟨3, 1, "COUNTS", .domain, .ro, 0, none, false⟩,
      ⟨4, 1, "TAKE_MASK", .u32, .rw, 0, none, false⟩,
      ⟨5, 1, "TAKE", .domain, .ro, 0, none, false⟩]⟩,
    ⟨0x24A0, 8, [
      ⟨1, 1, "CAUSE", .u32, .w1c, 0, none, false⟩,
      ⟨2, 1, "ENABLE", .u32, .rw, 4294967295, none, true⟩,
      ⟨3, 1, "COUNTS", .domain, .ro, 0, none, false⟩,
      ⟨4, 1, "TAKE_MASK", .u32, .rw, 0, none, false⟩,
      ⟨5, 1, "TAKE", .domain, .ro, 0, none, false⟩]⟩,
    ⟨0x24C0, 8, [
      ⟨1, 1, "CAUSE", .u32, .w1c, 0, none, false⟩,
      ⟨2, 1, "ENABLE", .u32, .rw, 4294967295, none, true⟩,
      ⟨3, 1, "COUNTS", .domain, .ro, 0, none, false⟩,
      ⟨4, 1, "TAKE_MASK", .u32, .rw, 0, none, false⟩,
      ⟨5, 1, "TAKE", .domain, .ro, 0, none, false⟩]⟩ ]

/-- The objects of area 0x3xxx (R76, R77, R78, R118, R119, R120). STAGING_BYTES of 0x3012 is set by the DRAM size in start-
up step 3; DESIGN CHOICE (log entry 97): it reads 0 before. -/
def objects3 : List ObjRow :=
  [ ⟨0x3000, 1, [
      ⟨1, 1, "FORMAT_MAX", .u16, .ro, 256, none, false⟩,
      ⟨2, 1, "FORMAT_MIN", .u16, .ro, 256, none, false⟩,
      ⟨3, 1, "FORMAT_NEGOTIATED", .u16, .ro, 0, none, false⟩,
      ⟨4, 1, "PLATE_HALF_X", .u32, .rws, 2146000, some (1, 2147483647), true⟩,
      ⟨5, 1, "PLATE_HALF_Y", .u32, .rws, 2146000, some (1, 2147483647), true⟩,
      ⟨6, 1, "MAX_SEGMENT_WORDS", .u32, .ro, 4194304, none, false⟩]⟩,
    ⟨0x3001, 1, [
      ⟨1, 1, "SELECT", .u16, .rw, 0, some (0, 1023), false⟩,
      ⟨2, 1, "DATA", .domain, .ro, 0, none, false⟩,
      ⟨3, 1, "WRITES", .u32, .ro, 0, none, false⟩,
      ⟨4, 1, "VERSIONS_IN_USE", .u16, .ro, 0, none, false⟩,
      ⟨5, 1, "VERSIONS_FREE", .u16, .ro, 4096, none, false⟩]⟩,
    ⟨0x3002, 1, [
      ⟨1, 1, "SEGMENT_ID", .u32, .ro, 0, none, false⟩,
      ⟨2, 1, "CODE", .u16, .ro, 0, none, false⟩,
      ⟨3, 1, "ITEM_INDEX", .u16, .ro, 65535, none, false⟩,
      ⟨4, 1, "WORD_OFFSET", .u32, .ro, 0, none, false⟩,
      ⟨5, 1, "REFUSAL_COUNT", .u32, .ro, 0, none, false⟩]⟩,
    ⟨0x3010, 1, [
      ⟨1, 1, "SLACK_RESERVE", .u16, .rws, 30, some (0, 200), true⟩,
      ⟨2, 1, "STAGING_LEAD", .u32, .rws, 1250000, none, true⟩,
      ⟨3, 1, "DRAM_LATENCY_DEFAULT", .u32, .rws, 12500, none, true⟩,
      ⟨4, 1, "DRAM_LATENCY_EFFECTIVE", .u32, .ro, 12500, none, false⟩,
      ⟨5, 1, "LATENCY_SAMPLES", .u64, .ro, 0, none, false⟩,
      ⟨6, 1, "EXPOSURE_BW_BUDGET", .u32, .rws, 16000, some (1000, 40000), true⟩,
      ⟨7, 1, "RESERVED_SLOTS", .u16, .rws, 64, some (0, 1024), true⟩,
      ⟨8, 1, "RESERVE_PRIORITY", .u8, .rws, 128, none, true⟩,
      ⟨9, 1, "MAX_START_DELAY", .u64, .rws, 0, none, true⟩,
      ⟨10, 1, "BREAK_POLICY", .u8, .rws, 0, some (0, 1), true⟩,
      ⟨11, 1, "LAYER_DEADLINE_LAYER", .u32, .rw, 0, none, false⟩,
      ⟨12, 1, "LAYER_DEADLINE_ET", .u64, .rw, 0, none, false⟩,
      ⟨13, 1, "SLACK_REPORT_INTERVAL", .u32, .rw, 0, none, false⟩]⟩,
    ⟨0x3011, 1, [
      ⟨1, 1, "CANCEL_ID", .u32, .wo, 0, none, false⟩,
      ⟨2, 1, "CANCEL_RESULT", .u8, .ro, 0, none, false⟩,
      ⟨3, 1, "QUERY_ID", .u32, .rw, 0, none, false⟩,
      ⟨4, 1, "QUERY_STATE", .u8, .ro, 0, none, false⟩,
      ⟨5, 1, "QUERY_PROMISE", .u64, .ro, 0, none, false⟩,
      ⟨6, 1, "QUERY_SLACK", .s64, .ro, 0, none, false⟩,
      ⟨7, 1, "QUERY_BROKEN", .u8, .ro, 255, none, false⟩]⟩,
    ⟨0x3012, 1, [
      ⟨1, 1, "SLOTS_ADMITTED", .u16, .ro, 0, none, false⟩,
      ⟨2, 1, "SLOTS_FREE", .u16, .ro, 4096, none, false⟩,
      ⟨3, 1, "SLOTS_RESERVED", .u16, .ro, 0, none, false⟩,
      ⟨4, 1, "STAGING_BYTES", .u64, .ro, 0, none, false⟩,
      ⟨5, 1, "CREDIT_LIMIT", .u64, .ro, 0, none, false⟩,
      ⟨6, 1, "BYTES_RECEIVED", .u64, .ro, 0, none, false⟩,
      ⟨7, 1, "CREDIT_VIOLATIONS", .u32, .ro, 0, none, false⟩,
      ⟨8, 1, "BREAKS", .u32, .ro, 0, none, false⟩,
      ⟨9, 1, "DEFECT_RECORDS", .u32, .ro, 0, none, false⟩]⟩ ]

/-- The objects of area 0x4xxx (R161, R160, R162, R164, R163, R198, R199, R200). -/
def objects4a : List ObjRow :=
  [ ⟨0x4100, 32, [
      ⟨1, 1, "FIELD_CENTRE_X", .s32, .rws, 0, none, true⟩,
      ⟨2, 1, "FIELD_CENTRE_Y", .s32, .rws, 0, none, true⟩,
      ⟨3, 1, "FIELD_ANGLE", .u16, .rws, 0, none, true⟩,
      ⟨4, 1, "HALF_RANGE_XY", .u32, .rws, 600000, none, true⟩,
      ⟨5, 1, "HALF_RANGE_F", .u32, .rws, 10000, none, true⟩,
      ⟨6, 1, "GRID_PITCH", .u32, .rws, 31250, some (1, 4294967295), true⟩,
      ⟨7, 1, "V_MAX", .u32, .rws, 12000000, some (1, 16777215), true⟩,
      ⟨8, 1, "A_MAX", .u32, .rws, 40000, some (1, 4294967295), true⟩,
      ⟨9, 1, "J_MAX", .u32, .rws, 400000, some (1, 4294967295), true⟩,
      ⟨10, 1, "JUMP_SETTLE", .u32, .rws, 31250, none, true⟩,
      ⟨11, 1, "PARK_X", .s32, .rws, 0, none, true⟩,
      ⟨12, 1, "PARK_Y", .s32, .rws, 0, none, true⟩,
      ⟨13, 1, "PARK_F", .s32, .rws, 0, none, true⟩,
      ⟨14, 1, "F_TH_COEFF", .s16, .rws, 0, none, true⟩,
      ⟨15, 1, "F_TH_REF", .s16, .rws, 2500, none, true⟩,
      ⟨16, 1, "OVERSPEED_WINDOW", .u8, .rws, 4, some (1, 16), true⟩,
      ⟨17, 1, "OVERSPEED_CONFIRM", .u8, .rws, 2, some (1, 8), true⟩,
      ⟨18, 1, "TRACK_LIMIT", .u32, .rws, 40, none, true⟩]⟩,
    ⟨0x4120, 1, [
      ⟨1, 1, "SERVO_PERIODS_SUPPORTED", .u8, .ro, 31, none, false⟩,
      ⟨2, 1, "SERVO_PERIOD_TICKS", .u32, .ro, 1250, none, false⟩,
      ⟨3, 1, "SERVO_PERIOD", .u8, .rws, 2, none, true⟩]⟩,
    ⟨0x4140, 32, [
      ⟨1, 1, "LAG_FACTORY", .u32, .ro, 0, none, false⟩,
      ⟨2, 1, "LAG_USER", .s32, .rws, 0, none, true⟩,
      ⟨3, 1, "LAG_EFFECTIVE", .u32, .ro, 0, none, false⟩]⟩,
    ⟨0x4160, 32, [
      ⟨1, 1, "CMD_X", .s32, .ro, 0, none, false⟩,
      ⟨2, 1, "CMD_Y", .s32, .ro, 0, none, false⟩,
      ⟨3, 1, "ACT_X", .s32, .ro, 0, none, false⟩,
      ⟨4, 1, "ACT_Y", .s32, .ro, 0, none, false⟩,
      ⟨5, 1, "ACT_F", .s32, .ro, 0, none, false⟩,
      ⟨6, 1, "TRACK_ERR_MAX", .u32, .rw, 0, some (0, 0), false⟩,
      ⟨7, 1, "TRACK_LIMIT_EVENTS", .u32, .ro, 0, none, false⟩,
      ⟨8, 1, "SPEED_MEAS", .u32, .ro, 0, none, false⟩,
      ⟨9, 1, "SPEED_CMD", .u32, .ro, 0, none, false⟩,
      ⟨10, 1, "OVERSPEED_EVENTS", .u32, .ro, 0, none, false⟩,
      ⟨11, 1, "SAMPLES_MISSING", .u32, .ro, 0, none, false⟩,
      ⟨12, 1, "SATURATIONS", .u32, .ro, 0, none, false⟩,
      ⟨13, 1, "F_THERMAL", .s32, .ro, 0, none, false⟩,
      ⟨14, 1, "THERMAL_VALID", .bool, .ro, 0, none, false⟩]⟩,
    ⟨0x4180, 32, [
      ⟨1, 1, "GRID_FACTORY", .domain, .ro, 0, none, false⟩,
      ⟨2, 1, "GRID_USER", .domain, .rws, 0, none, true⟩,
      ⟨3, 1, "GRID_EFFECTIVE", .domain, .ro, 0, none, false⟩]⟩,
    ⟨0x4200, 32, [
      ⟨1, 1, "GEOMETRY_FACTORY", .domain, .ro, 0, none, false⟩,
      ⟨2, 1, "GEOMETRY_USER", .domain, .rws, 0, none, true⟩,
      ⟨3, 1, "GEOMETRY_EFFECTIVE", .domain, .ro, 0, none, false⟩]⟩,
    ⟨0x4220, 32, [
      ⟨1, 1, "MARK_THRESHOLD", .u16, .rws, 6554, some (1, 65535), true⟩,
      ⟨2, 1, "PREHEAT_PITCH", .u16, .rws, 1000, some (272, 65535), true⟩,
      ⟨3, 1, "PREHEAT_GAP", .u32, .rws, 62500, none, true⟩,
      ⟨4, 1, "DRAIN_MARGIN", .u32, .rws, 6250, none, true⟩]⟩,
    ⟨0x4240, 16, [
      ⟨1, 1, "LENGTH", .u8, .rw, 0, some (0, 16), true⟩,
      ⟨2, 16, "STEP_0 to STEP_15", .u8, .rw, 0, some (0, 64), true⟩]⟩ ]

/-- The objects of area 0x4xxx (R201, R202). -/
def objects4b : List ObjRow :=
  [ ⟨0x4260, 32, [
      ⟨1, 1, "DERATE_FACTOR", .u8, .ro, 16, none, false⟩,
      ⟨2, 1, "DERATED_ITEMS", .u32, .ro, 0, none, false⟩,
      ⟨3, 1, "DRAIN_HOLDS", .u32, .ro, 0, none, false⟩,
      ⟨4, 1, "DATA_SHORT", .u32, .ro, 0, none, false⟩,
      ⟨5, 1, "OVERSPEED_CUTS", .u32, .ro, 0, none, false⟩,
      ⟨6, 1, "EARLY_CLAMPS", .u32, .ro, 0, none, false⟩,
      ⟨7, 1, "EDGE_MERGES", .u32, .ro, 0, none, false⟩,
      ⟨8, 1, "PREHEAT_HOLD_TICKS", .u64, .ro, 0, none, false⟩]⟩,
    ⟨0x4280, 32, [
      ⟨1, 8, "BEAMLET_DELAY", .s32, .ro, 0, none, false⟩]⟩ ]

/-- The objects of area 0x5xxx (R235, R236, R237, R238, R239, R240). -/
def objects5 : List ObjRow :=
  [ ⟨0x5000, 1, [
      ⟨1, 1, "CELL_PITCH", .u32, .rws, 33600, some (4000, 4000000), true⟩,
      ⟨2, 1, "SEAM_SEED", .u32, .rws, 0, none, true⟩]⟩,
    ⟨0x5001, 1, [
      ⟨1, 1, "GUARD_ENABLE", .bool, .rws, 1, none, true⟩,
      ⟨2, 1, "PLUME_DISTANCE", .u32, .rws, 12000, none, true⟩,
      ⟨3, 1, "RUN_ALLOWANCE", .u32, .rws, 800, none, true⟩,
      ⟨4, 1, "GAS_FLOW_ANGLE", .u16, .rws, 16384, none, true⟩,
      ⟨5, 1, "CONE_LENGTH", .u32, .rws, 160000, none, true⟩,
      ⟨6, 1, "CONE_HALF_WIDTH", .u32, .rws, 4000, none, true⟩,
      ⟨7, 1, "CONE_SPREAD", .u16, .rws, 205, some (0, 4096), true⟩]⟩,
    ⟨0x5002, 1, [
      ⟨1, 1, "RECOAT_AXIS", .u8, .rws, 255, none, true⟩,
      ⟨2, 1, "RECOAT_DIRECTION", .u8, .rws, 1, some (0, 1), true⟩,
      ⟨3, 1, "RECOAT_ORIGIN", .s32, .rws, 0, none, true⟩,
      ⟨4, 1, "RECOAT_SCALE", .s32, .rws, 65536, none, true⟩,
      ⟨5, 1, "KEEPOUT_LOW", .s32, .rws, -40000, none, true⟩,
      ⟨6, 1, "KEEPOUT_HIGH", .s32, .rws, 40000, none, true⟩]⟩,
    ⟨0x5003, 1, [
      ⟨1, 1, "TABLE_VALID", .bool, .ro, 1, none, false⟩,
      ⟨2, 1, "FIRST_BAD_CELL", .u16, .ro, 65535, none, false⟩,
      ⟨3, 1, "BAD_REASON", .u8, .ro, 0, none, false⟩,
      ⟨4, 1, "GUARD_WAITS", .u32, .ro, 0, none, false⟩,
      ⟨5, 1, "GUARD_WAIT_TICKS", .u64, .ro, 0, none, false⟩,
      ⟨6, 1, "GUARD_CUTS", .u32, .ro, 0, none, false⟩,
      ⟨7, 1, "KEEPOUT_PAUSES", .u32, .ro, 0, none, false⟩,
      ⟨8, 1, "KEEPOUT_PAUSE_TICKS", .u64, .ro, 0, none, false⟩,
      ⟨9, 1, "KEEPOUT_CUTS", .u32, .ro, 0, none, false⟩]⟩,
    ⟨0x5010, 1, [
      ⟨1, 1, "CELL_TABLE", .domain, .rws, 0, none, true⟩]⟩,
    ⟨0x5040, 64, [
      ⟨1, 1, "AXIS", .u8, .rws, 0, some (0, 1), true⟩,
      ⟨2, 1, "POSITION", .s32, .rws, 0, none, true⟩,
      ⟨3, 1, "BAND_HALF", .u32, .rws, 0, none, true⟩,
      ⟨4, 1, "JITTER", .u32, .rws, 0, none, true⟩,
      ⟨5, 1, "BLEND_LENGTH", .u16, .rws, 0, none, true⟩,
      ⟨6, 1, "QUERY_LAYER", .u32, .rw, 0, none, false⟩,
      ⟨7, 1, "QUERY_SEAM", .s32, .ro, 0, none, false⟩]⟩ ]

/-- The objects of area 0x6xxx (R278, R279, R280, R281, R277). -/
def objects6a : List ObjRow :=
  [ ⟨0x6000, 1, [
      ⟨1, 1, "LATE_POLICY", .u8, .rws, 0, some (0, 1), true⟩,
      ⟨2, 1, "ARCHIVE_BUDGET", .u16, .rws, 0, some (0, 2000), true⟩,
      ⟨3, 1, "ARCHIVE_QUEUE", .u16, .rws, 256, some (0, 4096), true⟩,
      ⟨4, 1, "FEATURE_LOG_MIB", .u16, .rws, 64, some (1, 1024), true⟩]⟩,
    ⟨0x6001, 1, [
      ⟨1, 1, "CURSOR", .u64, .rw, 0, none, false⟩,
      ⟨2, 1, "BLOCK", .domain, .ro, 0, none, false⟩,
      ⟨3, 1, "OLDEST", .u64, .ro, 0, none, false⟩,
      ⟨4, 1, "NEWEST", .u64, .ro, 0, none, false⟩]⟩,
    ⟨0x6010, 4, [
      ⟨1, 1, "LOAD", .u16, .ro, 0, none, false⟩,
      ⟨2, 1, "LOAD_MAX", .u16, .ro, 0, none, false⟩,
      ⟨3, 1, "LATE_FRAMES", .u32, .ro, 0, none, false⟩,
      ⟨4, 1, "LATENESS_MAX", .u32, .ro, 0, none, false⟩,
      ⟨5, 1, "CONTEXTS_ACTIVE", .u8, .ro, 0, none, false⟩]⟩,
    ⟨0x6100, 32, [
      ⟨1, 1, "FORMAT", .u8, .rw, 0, some (0, 1), true⟩,
      ⟨2, 1, "FRAME_PERIOD", .u32, .rw, 15625, none, true⟩,
      ⟨3, 1, "PHASE", .u32, .rw, 0, none, true⟩,
      ⟨4, 1, "INTEGRATION", .u32, .rw, 12500, none, true⟩,
      ⟨5, 1, "GAIN", .u8, .rw, 0, none, true⟩,
      ⟨6, 1, "ENABLE", .bool, .rw, 0, none, true⟩,
      ⟨7, 1, "MIN_SIGNAL", .u16, .rw, 64, none, true⟩,
      ⟨8, 1, "SEG_THRESHOLD", .u16, .rw, 17000, none, true⟩,
      ⟨9, 1, "SPATTER_LEVEL", .u16, .rw, 1024, none, true⟩,
      ⟨10, 1, "SPATTER_MIN_AREA", .u16, .rw, 1, none, true⟩,
      ⟨11, 1, "SPATTER_MAX_AREA", .u16, .rw, 64, none, true⟩,
      ⟨12, 1, "CAMERA_ANGLE", .u16, .rw, 0, none, true⟩,
      ⟨13, 1, "MOSAIC_PHASE", .u8, .rw, 0, some (0, 1), true⟩,
      ⟨14, 1, "BUDGET", .u32, .rw, 15625, some (125, 6250000), true⟩,
      ⟨15, 1, "ARCHIVE_DECIMATION", .u16, .rw, 0, none, true⟩,
      ⟨16, 1, "FEATURE_DECIMATION", .u16, .rw, 0, none, true⟩,
      ⟨17, 1, "COMMIT", .u8, .wo, 0, none, false⟩,
      ⟨18, 1, "GEN_COMMITTED", .u16, .ro, 0, none, false⟩,
      ⟨19, 1, "GEN_APPLIED", .u16, .ro, 0, none, false⟩]⟩,
    ⟨0x6140, 32, [
      ⟨1, 1, "BLACK_LEVEL_FACTORY", .u32, .ro, 0, none, false⟩,
      ⟨2, 1, "BLACK_LEVEL_USER", .u32, .rw, 0, none, true⟩,
      ⟨3, 1, "BLACK_LEVEL_EFFECTIVE", .u32, .ro, 0, none, false⟩]⟩,
    ⟨0x6160, 32, [
      ⟨1, 1, "FLAT_FIELD_FACTORY", .domain, .ro, 0, none, false⟩,
      ⟨2, 1, "FLAT_FIELD_USER", .domain, .rw, 0, none, true⟩,
      ⟨3, 1, "FLAT_FIELD_EFFECTIVE", .domain, .ro, 0, none, false⟩]⟩,
    ⟨0x6180, 32, [
      ⟨1, 1, "DEFECT_PIXELS_FACTORY", .domain, .ro, 0, none, false⟩,
      ⟨2, 1, "DEFECT_PIXELS_USER", .domain, .rw, 0, none, true⟩,
      ⟨3, 1, "DEFECT_PIXELS_EFFECTIVE", .domain, .ro, 0, none, false⟩]⟩,
    ⟨0x61A0, 32, [
      ⟨1, 1, "RATIO_GAIN_FACTORY", .u16, .ro, 4096, none, false⟩,
      ⟨2, 1, "RATIO_GAIN_USER", .u16, .rw, 4096, none, true⟩,
      ⟨3, 1, "RATIO_GAIN_EFFECTIVE", .u16, .ro, 4096, none, false⟩]⟩ ]

/-- The objects of area 0x6xxx (R277, R282, R283). -/
def objects6b : List ObjRow :=
  [ ⟨0x61C0, 32, [
      ⟨1, 1, "TEMP_TABLE_FACTORY", .domain, .ro, 0, none, false⟩,
      ⟨2, 1, "TEMP_TABLE_USER", .domain, .rw, 0, none, true⟩,
      ⟨3, 1, "TEMP_TABLE_EFFECTIVE", .domain, .ro, 0, none, false⟩]⟩,
    ⟨0x6200, 32, [
      ⟨1, 1, "AREA_MIN", .u16, .rws, 0, none, true⟩,
      ⟨2, 1, "AREA_MAX", .u16, .rws, 65535, none, true⟩,
      ⟨3, 1, "PEAK_T_MAX", .u16, .rws, 65535, none, true⟩,
      ⟨4, 1, "MEAN_T_MIN", .u16, .rws, 0, none, true⟩,
      ⟨5, 1, "MEAN_T_MAX", .u16, .rws, 65535, none, true⟩,
      ⟨6, 1, "SPATTER_MAX", .u8, .rws, 255, none, true⟩,
      ⟨7, 1, "OUTLIER_CONFIRM", .u8, .rws, 4, some (1, 64), true⟩,
      ⟨8, 1, "FLICKER_BINS", .domain, .rws, 0, none, true⟩]⟩,
    ⟨0x6220, 32, [
      ⟨1, 1, "FRAMES_RECEIVED", .u32, .ro, 0, none, false⟩,
      ⟨2, 1, "FRAMES_FULL", .u32, .ro, 0, none, false⟩,
      ⟨3, 1, "FRAMES_FEATURES_ONLY", .u32, .ro, 0, none, false⟩,
      ⟨4, 1, "FRAMES_DROPPED", .u32, .ro, 0, none, false⟩,
      ⟨5, 1, "DROP_LAST_REASON", .u8, .ro, 0, none, false⟩,
      ⟨6, 1, "ARCHIVED", .u32, .ro, 0, none, false⟩,
      ⟨7, 1, "ARCHIVE_SKIPPED", .u32, .ro, 0, none, false⟩,
      ⟨8, 1, "BUF_FREE", .u8, .ro, 4, none, false⟩,
      ⟨9, 1, "BUF_RECEIVING", .u8, .ro, 0, none, false⟩,
      ⟨10, 1, "BUF_QUEUED", .u8, .ro, 0, none, false⟩,
      ⟨11, 1, "BUF_PROCESSING", .u8, .ro, 0, none, false⟩,
      ⟨12, 1, "BUF_ARCHIVING", .u8, .ro, 0, none, false⟩,
      ⟨13, 1, "FLICKER_READY", .bool, .ro, 0, none, false⟩,
      ⟨14, 1, "FLICKER_FLAGS", .u8, .ro, 0, none, false⟩,
      ⟨15, 1, "FLICKER_POWER", .domain, .ro, 0, none, false⟩,
      ⟨16, 1, "OUTLIER_FRAMES", .u32, .ro, 0, none, false⟩,
      ⟨17, 1, "LAST_RECORD", .domain, .ro, 0, none, false⟩]⟩ ]

/-- The objects of area 0x7xxx (R320, R321, R322, R323). -/
def objects7a : List ObjRow :=
  [ ⟨0x7000, 1, [
      ⟨1, 1, "SAMPLE_RATE", .u8, .rws, 1, some (1, 2), true⟩,
      ⟨2, 1, "SAMPLE_RATE_EFFECTIVE", .u8, .ro, 1, none, false⟩,
      ⟨3, 1, "EDGE_BLANK", .u16, .rws, 125, some (0, 1250), true⟩,
      ⟨4, 1, "DARK_SAMPLES", .u16, .rws, 1024, some (64, 4096), true⟩,
      ⟨5, 1, "MIN_PD", .u16, .rws, 256, none, true⟩,
      ⟨6, 1, "DARK_CAPTURE", .u8, .wo, 0, none, false⟩]⟩,
    ⟨0x7001, 1, [
      ⟨1, 8, "LANE_LOAD_0 to LANE_LOAD_7", .u16, .ro, 0, none, false⟩,
      ⟨9, 1, "LOAD_MAX", .u16, .ro, 0, none, false⟩,
      ⟨10, 1, "DELAY_MAX", .u32, .ro, 0, none, false⟩,
      ⟨11, 1, "UPDATES", .u64, .ro, 0, none, false⟩,
      ⟨12, 1, "HOLDS", .u64, .ro, 0, none, false⟩,
      ⟨13, 1, "HOLD_TIMEOUTS", .u32, .ro, 0, none, false⟩]⟩,
    ⟨0x7010, 16, [
      ⟨1, 1, "DATA", .domain, .rws, 0, none, true⟩,
      ⟨2, 1, "WRITES", .u32, .ro, 0, none, false⟩]⟩,
    ⟨0x7100, 32, [
      ⟨1, 8, "LOOP_ENABLE", .bool, .rw, 0, none, true⟩]⟩,
    ⟨0x7120, 32, [
      ⟨1, 8, "PD_DARK", .u32, .ro, 4294967295, none, false⟩]⟩,
    ⟨0x7140, 32, [
      ⟨1, 8, "CONTROL_OUTPUT", .s32, .ro, 0, none, false⟩]⟩,
    ⟨0x7160, 32, [
      ⟨1, 8, "HOLD_COUNT", .u32, .ro, 0, none, false⟩]⟩,
    ⟨0x7180, 32, [
      ⟨1, 8, "BOUND_COUNT", .u32, .ro, 0, none, false⟩]⟩ ]

/-- The objects of area 0x7xxx (R323, R324). -/
def objects7b : List ObjRow :=
  [ ⟨0x71A0, 32, [
      ⟨1, 8, "RC_LINES", .u16, .ro, 0, none, false⟩]⟩,
    ⟨0x71C0, 32, [
      ⟨1, 8, "OUTER_TERM", .s32, .ro, 0, none, false⟩]⟩,
    ⟨0x7200, 32, [
      ⟨1, 1, "PD_RATIO_GAIN_FACTORY", .domain, .ro, 0, none, false⟩,
      ⟨2, 1, "PD_RATIO_GAIN_USER", .domain, .rws, 0, none, true⟩,
      ⟨3, 1, "PD_RATIO_GAIN_EFFECTIVE", .domain, .ro, 0, none, false⟩]⟩,
    ⟨0x7220, 32, [
      ⟨1, 1, "PD_TEMP_TABLE_FACTORY", .domain, .ro, 0, none, false⟩,
      ⟨2, 1, "PD_TEMP_TABLE_USER", .domain, .rws, 0, none, true⟩,
      ⟨3, 1, "PD_TEMP_TABLE_EFFECTIVE", .domain, .ro, 0, none, false⟩]⟩ ]

/-- The objects of area 0x8xxx (R365, R366, R367). -/
def objects8 : List ObjRow :=
  [ ⟨0x8000, 1, [
      ⟨1, 1, "VERSION_MAX", .u16, .ro, 256, none, false⟩,
      ⟨2, 1, "VERSION_MIN", .u16, .ro, 256, none, false⟩,
      ⟨3, 1, "APPLY_DELAY", .u16, .ro, 250, none, false⟩,
      ⟨4, 1, "RETRAIN_HOLDOFF", .u32, .rws, 100, some (1, 60000), true⟩]⟩,
    ⟨0x8020, 32, [
      ⟨1, 1, "ENABLE", .bool, .rws, 1, none, true⟩,
      ⟨2, 1, "AUTO_RETRAIN", .bool, .rw, 1, none, true⟩]⟩,
    ⟨0x8040, 32, [
      ⟨1, 1, "STATE", .u8, .ro, 0, none, false⟩,
      ⟨2, 1, "FAIL_REASON", .u8, .ro, 0, none, false⟩,
      ⟨3, 1, "VERSION", .u16, .ro, 0, none, false⟩,
      ⟨4, 1, "LINK_DELAY", .u16, .ro, 0, none, false⟩,
      ⟨5, 1, "IDENT", .domain, .ro, 0, none, false⟩,
      ⟨6, 1, "UP_INVALID", .u32, .ro, 0, none, false⟩,
      ⟨7, 1, "DARK_SLOTS", .u32, .ro, 0, none, false⟩,
      ⟨8, 1, "LOSSES", .u32, .ro, 0, none, false⟩,
      ⟨9, 1, "CONFLICTS", .u32, .ro, 0, none, false⟩,
      ⟨10, 1, "HEAD_STATUS", .u32, .ro, 0, none, false⟩,
      ⟨11, 1, "OPTICS_TEMP", .s16, .ro, 0, none, false⟩,
      ⟨12, 1, "TRAINED_ET", .u64, .ro, 0, none, false⟩]⟩ ]

/-- The objects of area 0x9xxx (R517, R518, R519, R520, R521, R523, R522). -/
def objects9 : List ObjRow :=
  [ ⟨0x9000, 8, [
      ⟨1, 1, "MICROSTEP", .u16, .rw, 256, some (1, 256), true⟩,
      ⟨2, 1, "I_FS", .u32, .rw, 2000, none, true⟩,
      ⟨3, 1, "RUN_CURRENT", .u16, .rw, 512, some (0, 1023), true⟩,
      ⟨4, 1, "HOLD_CURRENT", .u16, .rw, 256, some (0, 1023), true⟩,
      ⟨5, 1, "HOLD_DELAY", .u32, .rw, 50000, none, true⟩,
      ⟨6, 1, "OFF_TIME", .u8, .rw, 8, some (1, 63), true⟩,
      ⟨7, 1, "BLANK_TIME", .u8, .rw, 50, some (0, 200), true⟩,
      ⟨8, 1, "ON_TIME_MAX", .u16, .rw, 20000, some (100, 65535), true⟩,
      ⟨9, 1, "DEAD_TIME", .u8, .rw, 10, some (2, 100), true⟩,
      ⟨10, 1, "ADAPT_SHIFT", .u8, .rw, 4, some (1, 12), true⟩,
      ⟨11, 1, "PROBE_STEP", .u8, .rw, 8, some (1, 64), true⟩,
      ⟨12, 1, "OFFSET_INIT", .s32, .rw, 0, none, true⟩,
      ⟨13, 1, "V_MAX", .u32, .rw, 40000, some (1, 5000000), true⟩,
      ⟨14, 1, "A_MAX", .u32, .rw, 200000, some (1, 4294967295), true⟩,
      ⟨15, 1, "J_MAX", .u32, .rw, 4000000, some (1, 4294967295), true⟩,
      ⟨16, 1, "STOP_DECEL", .u32, .rw, 400000, none, true⟩,
      ⟨17, 1, "LIMIT_DECEL", .u32, .rw, 2000000, none, true⟩,
      ⟨18, 1, "GANG_LEADER", .u8, .rw, 0, none, true⟩,
      ⟨19, 1, "ENCODER", .u8, .rw, 255, none, true⟩,
      ⟨20, 1, "ENC_RATIO", .s32, .rw, 65536, none, true⟩,
      ⟨21, 1, "INPUT_POLARITY", .u8, .rw, 0, none, true⟩]⟩,
    ⟨0x9010, 8, [
      ⟨1, 1, "HOME_SOURCE", .u8, .rws, 0, none, true⟩,
      ⟨2, 1, "HOME_DIRECTION", .u8, .rws, 1, some (0, 1), true⟩,
      ⟨3, 1, "HOME_SPEED", .u32, .rws, 2000, none, true⟩,
      ⟨4, 1, "HOME_POSITION", .s32, .rws, 0, none, true⟩,
      ⟨5, 1, "HOME_TRIM", .s32, .rws, 0, none, true⟩,
      ⟨6, 1, "HOME_PARK", .s32, .rws, 0, none, true⟩,
      ⟨7, 1, "HOME_MAX_TRAVEL", .u32, .rws, 2147483647, none, true⟩,
      ⟨8, 1, "QUALIFY_TIME", .u16, .rws, 2000, some (100, 65535), true⟩,
      ⟨9, 1, "CHATTER_WINDOW", .u32, .rws, 200000, none, true⟩,
      ⟨10, 1, "LIMIT_SIDE", .u8, .rws, 2, none, true⟩,
      ⟨11, 1, "LIMIT_FILTER", .u16, .rws, 200, none, true⟩,
      ⟨12, 1, "FOLLOW_LIMIT", .u32, .rws, 0, none, true⟩]⟩,
    ⟨0x9020, 8, [
      ⟨1, 1, "ENABLE", .u8, .wo, 0, none, false⟩,
      ⟨2, 1, "TARGET", .s32, .rw, 0, none, false⟩,
      ⟨3, 1, "RELATIVE", .bool, .rw, 0, none, false⟩,
      ⟨4, 1, "SPEED", .u32, .rw, 0, none, false⟩,
      ⟨5, 1, "GO", .u8, .wo, 0, none, false⟩,
      ⟨6, 1, "STOP_HOME", .u8, .wo, 0, none, false⟩,
      ⟨7, 1, "RESULT", .u8, .ro, 0, none, false⟩]⟩,
    ⟨0x9040, 8, [
      ⟨1, 1, "STATE", .u8, .ro, 0, none, false⟩,
      ⟨2, 1, "POSITION", .s32, .ro, 0, none, false⟩,
      ⟨3, 1, "SPEED_NOW", .s32, .ro, 0, none, false⟩,
      ⟨4, 1, "HOMED", .bool, .ro, 0, none, false⟩,
      ⟨5, 1, "LAST_HOME_LATCH", .s32, .ro, 0, none, false⟩,
      ⟨6, 1, "HOME_ABORT_REASON", .u8, .ro, 0, none, false⟩,
      ⟨7, 1, "FAULT_REASON", .u8, .ro, 0, none, false⟩,
      ⟨8, 1, "BOUNCES", .u32, .ro, 0, none, false⟩,
      ⟨9, 1, "CHATTER_EVENTS", .u32, .ro, 0, none, false⟩,
      ⟨10, 1, "OFFSET_A, OFFSET_B", .s32, .ro, 0, none, false⟩,
      ⟨11, 1, "ON_TIME_LIMITS", .u32, .ro, 0, none, false⟩,
      ⟨12, 1, "SKIPPED_CYCLES", .u32, .ro, 0, none, false⟩,
      ⟨13, 1, "FOLLOW_ERR_MAX", .u32, .ro, 0, none, false⟩]⟩,
    ⟨0x9060, 8, [
      ⟨1, 1, "MODE", .u8, .rws, 0, some (0, 1), true⟩,
      ⟨2, 1, "MIN_EDGE", .u16, .rws, 4, some (1, 1000), true⟩,
      ⟨3, 1, "COUNTS_PER_REV", .u32, .rws, 0, none, true⟩,
      ⟨4, 1, "INDEX_TOLERANCE", .u16, .rws, 2, none, true⟩,
      ⟨5, 1, "DIR_HYSTERESIS", .u16, .rws, 4, some (1, 1024), true⟩,
      ⟨6, 1, "COUNT", .s32, .rw, 0, none, false⟩,
      ⟨7, 1, "INDEX_LATCH", .s32, .ro, 0, none, false⟩,
      ⟨8, 1, "INDEX_PREV", .s32, .ro, 0, none, false⟩,
      ⟨9, 1, "DRIFT_LATCH", .s32, .ro, 0, none, false⟩,
      ⟨10, 1, "DRIFT_EXPECTED", .s32, .ro, 0, none, false⟩,
      ⟨11, 1, "INDEX_DRIFTS", .u32, .ro, 0, none, false⟩,
      ⟨12, 1, "DIRECTION", .u8, .ro, 0, none, false⟩,
      ⟨13, 1, "EDGE_FAULTS", .u32, .ro, 0, none, false⟩,
      ⟨14, 1, "SYNC_LOSSES", .u32, .ro, 0, none, false⟩,
      ⟨15, 1, "HALL_INVALID", .u32, .ro, 0, none, false⟩,
      ⟨16, 1, "HALL_SKIPS", .u32, .ro, 0, none, false⟩,
      ⟨17, 1, "HALL_STATE", .u8, .ro, 0, none, false⟩,
      ⟨18, 1, "INDEX_COUNT", .u32, .ro, 0, none, false⟩,
      ⟨19, 1, "LAST_EDGE_ET", .u64, .ro, 0, none, false⟩,
      ⟨20, 1, "DIRECTION_CHANGES", .u32, .ro, 0, none, false⟩,
      ⟨21, 1, "EXPECTED_VALID", .bool, .ro, 0, none, false⟩]⟩,
    ⟨0x9080, 1, [
      ⟨1, 1, "PROGRAM", .domain, .rws, 0, none, true⟩,
      ⟨2, 1, "RECOAT_START", .u32, .wo, 0, none, false⟩,
      ⟨3, 1, "MANUAL_REPORT", .u32, .wo, 0, none, false⟩,
      ⟨4, 1, "RECOAT_STATE", .u8, .ro, 0, none, false⟩,
      ⟨5, 1, "REPORTED_LAYER", .u32, .ro, 0, none, false⟩,
      ⟨6, 1, "REPORT_VALID", .bool, .ro, 0, none, false⟩,
      ⟨7, 1, "REPORT_ET", .u64, .ro, 0, none, false⟩,
      ⟨8, 1, "STEP_NOW", .u8, .ro, 0, none, false⟩]⟩,
    ⟨0x9090, 4, [
      ⟨1, 1, "PROBE_EDGE", .u8, .rw, 1, some (0, 3), true⟩,
      ⟨2, 1, "QUEUED", .u8, .ro, 0, none, false⟩,
      ⟨3, 1, "EVENT", .domain, .ro, 0, none, false⟩,
      ⟨4, 1, "OVERFLOWS", .u32, .ro, 0, none, false⟩]⟩,
    ⟨0x90A0, 4, [
      ⟨1, 1, "CHANNEL", .u8, .rw, 0, some (0, 7), true⟩,
      ⟨2, 1, "VALUE", .s32, .rw, 0, none, true⟩,
      ⟨3, 1, "SPACING", .s32, .rw, 0, none, true⟩,
      ⟨4, 1, "REMAINING", .u32, .rw, 0, none, true⟩,
      ⟨5, 1, "PULSE_WIDTH", .u16, .rw, 100, some (1, 65535), true⟩,
      ⟨6, 1, "ARM", .u8, .wo, 0, none, false⟩,
      ⟨7, 1, "ARMED", .bool, .ro, 0, none, false⟩,
      ⟨8, 1, "HITS", .u32, .ro, 0, none, false⟩,
      ⟨9, 1, "MERGED", .u32, .ro, 0, none, false⟩]⟩ ]

/-- The objects of area 0xAxxx (R552, R553, R554). -/
def objectsA : List ObjRow :=
  [ ⟨0xA000, 1, [
      ⟨1, 1, "NEIGHBOUR_K", .u8, .rws, 12, some (8, 16), true⟩,
      ⟨2, 1, "CASE_TEMP_SOURCE", .u8, .rws, 0, some (0, 2), true⟩,
      ⟨3, 1, "RETRAIN_DELTA", .u8, .rws, 10, some (2, 40), true⟩,
      ⟨4, 1, "RETRAIN_INTERVAL", .u32, .rws, 60, some (0, 3600), true⟩,
      ⟨5, 1, "CASE_TEMP", .s16, .rw, 0, none, false⟩]⟩,
    ⟨0xA001, 1, [
      ⟨1, 1, "ORG_CODE", .u8, .ro, 0, none, false⟩,
      ⟨2, 1, "DEVICE_WIDTH", .u8, .ro, 0, none, false⟩,
      ⟨3, 1, "DENSITY", .u8, .ro, 0, none, false⟩,
      ⟨4, 1, "RANKS", .u8, .ro, 0, none, false⟩,
      ⟨5, 1, "TOTAL_BYTES", .u64, .ro, 0, none, false⟩,
      ⟨6, 1, "RESERVED_BYTES", .u64, .ro, 0, none, false⟩]⟩,
    ⟨0xA010, 2, [
      ⟨1, 1, "CA_ALERTS", .u32, .ro, 0, none, false⟩,
      ⟨2, 1, "CA_REPLAYS", .u32, .ro, 0, none, false⟩,
      ⟨3, 1, "READ_PARITY_ERRORS", .u32, .ro, 0, none, false⟩,
      ⟨4, 1, "READ_REPLAYS_GOOD", .u32, .ro, 0, none, false⟩,
      ⟨5, 1, "UNCORRECTABLE", .u32, .ro, 0, none, false⟩,
      ⟨6, 1, "LAST_ERROR_ADDR", .u64, .ro, 0, none, false⟩,
      ⟨7, 1, "LAST_ERROR_CLIENT", .u8, .ro, 0, none, false⟩,
      ⟨8, 1, "LAST_ERROR_LANES", .u16, .ro, 0, none, false⟩,
      ⟨9, 1, "NEIGHBOUR_REFRESHES", .u64, .ro, 0, none, false⟩,
      ⟨10, 1, "REFRESH_DOUBLED", .bool, .ro, 1, none, false⟩,
      ⟨11, 1, "CASE_TEMP_IN_USE", .s16, .ro, 0, none, false⟩,
      ⟨12, 1, "RETRAININGS", .u32, .ro, 0, none, false⟩,
      ⟨13, 1, "LAST_RETRAIN_ET", .u64, .ro, 0, none, false⟩,
      ⟨14, 1, "LATENCY_MAX", .u32, .ro, 0, none, false⟩]⟩ ]

/-- The objects of area 0xBxxx (R632, R633, R634). -/
def objectsB : List ObjRow :=
  [ ⟨0xB000, 1, [
      ⟨1, 1, "RUNNING_SLOT", .u8, .ro, 255, none, false⟩,
      ⟨2, 1, "PREFERRED_SLOT", .u8, .ro, 0, none, false⟩,
      ⟨3, 1, "PAIR_TESTED", .bool, .ro, 0, none, false⟩,
      ⟨4, 1, "SLOT_A_SF", .u32, .ro, 0, none, false⟩,
      ⟨5, 1, "SLOT_A_MC", .u32, .ro, 0, none, false⟩,
      ⟨6, 1, "SLOT_B_SF", .u32, .ro, 0, none, false⟩,
      ⟨7, 1, "SLOT_B_MC", .u32, .ro, 0, none, false⟩,
      ⟨8, 1, "SLOT_FALLBACK", .bool, .ro, 0, none, false⟩,
      ⟨9, 1, "TRIAL_STATE", .u8, .ro, 0, none, false⟩]⟩,
    ⟨0xB001, 1, [
      ⟨1, 1, "SF_IMAGE", .domain, .wo, 0, none, false⟩,
      ⟨2, 1, "MC_IMAGE", .domain, .wo, 0, none, false⟩,
      ⟨3, 1, "TRIAL", .u8, .wo, 0, none, false⟩,
      ⟨4, 1, "CONFIRM", .u8, .wo, 0, none, false⟩,
      ⟨5, 1, "RESULT", .u8, .ro, 0, none, false⟩,
      ⟨6, 1, "TARGET_SLOT", .u8, .ro, 1, none, false⟩]⟩,
    ⟨0xB010, 1, [
      ⟨1, 1, "VALID", .bool, .ro, 0, none, false⟩,
      ⟨2, 1, "BLOCK", .domain, .rw, 0, none, false⟩,
      ⟨3, 1, "FORMAT", .u16, .ro, 0, none, false⟩,
      ⟨4, 1, "FAIL_REASON", .u8, .ro, 0, none, false⟩]⟩ ]

/-- The objects of area 0xCxxx (R662, R663, R664). -/
def objectsC : List ObjRow :=
  [ ⟨0xC000, 1, [
      ⟨1, 1, "NEXT_RECORD", .u32, .ro, 0, none, false⟩,
      ⟨2, 1, "BEDROCK_COUNT", .u16, .ro, 0, none, false⟩,
      ⟨3, 1, "TOPSOIL_OLDEST", .u32, .ro, 0, none, false⟩,
      ⟨4, 1, "QUEUED", .u16, .ro, 0, none, false⟩,
      ⟨5, 1, "DISCARDED", .u32, .ro, 0, none, false⟩,
      ⟨6, 1, "TORN", .u32, .ro, 0, none, false⟩,
      ⟨7, 1, "HOURS", .u64, .ro, 0, none, false⟩]⟩,
    ⟨0xC001, 1, [
      ⟨1, 1, "AREA", .u8, .rw, 1, some (0, 1), false⟩,
      ⟨2, 1, "CURSOR", .u32, .rw, 0, none, false⟩,
      ⟨3, 1, "OFFSET", .u16, .ro, 0, none, false⟩,
      ⟨4, 1, "WINDOW", .domain, .ro, 0, none, false⟩,
      ⟨5, 1, "NEXT", .u8, .wo, 0, none, false⟩,
      ⟨6, 1, "READ_STATUS", .u8, .ro, 0, none, false⟩]⟩,
    ⟨0xC002, 1, [
      ⟨1, 1, "CLEAR_TOPSOIL", .u8, .wo, 0, none, false⟩,
      ⟨2, 1, "FLUSH", .u8, .wo, 0, none, false⟩,
      ⟨3, 1, "HOST_RECORD", .domain, .wo, 0, none, false⟩]⟩ ]

/-- The objects of area 0xDxxx (R478, R479, R480). -/
def objectsD : List ObjRow :=
  [ ⟨0xD000, 1, [
      ⟨1, 1, "TWIN_ENABLE", .bool, .rws, 0, none, true⟩,
      ⟨2, 1, "PAIR_RANK", .u8, .rws, 0, some (0, 1), true⟩,
      ⟨3, 1, "MOTION_RANK", .u8, .rws, 0, some (0, 1), true⟩,
      ⟨4, 1, "AUTO_JOIN", .bool, .rws, 0, none, true⟩,
      ⟨5, 1, "VERSION_MAX", .u16, .ro, 256, none, false⟩,
      ⟨6, 1, "VERSION_MIN", .u16, .ro, 256, none, false⟩]⟩,
    ⟨0xD001, 1, [
      ⟨1, 1, "ROLE", .u8, .ro, 0, none, false⟩,
      ⟨2, 1, "COLD_CAUSE", .u8, .ro, 0, none, false⟩,
      ⟨3, 1, "LINK_LOCK", .bool, .ro, 0, none, false⟩,
      ⟨4, 1, "VERSION", .u16, .ro, 0, none, false⟩,
      ⟨5, 1, "PARTNER_SERIAL", .u32, .ro, 0, none, false⟩,
      ⟨6, 1, "LINK_DELAY", .u16, .ro, 0, none, false⟩,
      ⟨7, 1, "EPOCH", .u16, .ro, 0, none, false⟩,
      ⟨8, 1, "PAIR_OFFSET", .s64, .ro, 0, none, false⟩,
      ⟨9, 1, "CONFIG_DIGEST", .u32, .ro, 0, none, false⟩,
      ⟨10, 1, "TAKEOVERS", .u32, .ro, 0, none, false⟩,
      ⟨11, 1, "LAST_TAKEOVER_ET", .u64, .ro, 0, none, false⟩,
      ⟨12, 1, "DIGEST_MISMATCHES", .u32, .ro, 0, none, false⟩,
      ⟨13, 1, "REPEATS", .u32, .ro, 0, none, false⟩,
      ⟨14, 1, "HEARTBEATS_MISSED", .u32, .ro, 0, none, false⟩]⟩,
    ⟨0xD002, 1, [
      ⟨1, 1, "JOIN", .u8, .wo, 0, none, false⟩,
      ⟨2, 1, "RELEASE", .u8, .wo, 0, none, false⟩,
      ⟨3, 1, "JOIN_RESULT", .u8, .ro, 0, none, false⟩]⟩ ]

/-- Every object of the manual. -/
def objectTable : List ObjRow :=
  objects1 ++ objects2a ++ objects2b ++ objects2c ++ objects3 ++ objects4a ++ objects4b ++ objects5 ++ objects6a ++ objects6b ++ objects7a ++ objects7b ++ objects8 ++ objects9 ++ objectsA ++ objectsB ++ objectsC ++ objectsD

/-- The row that holds an index. -/
def objRow (index : Nat) : Option ObjRow :=
  objectTable.find? (fun r => decide (r.base ≤ index) && decide (index < r.base + r.count))

/-- The entry of a subindex of a row. -/
def ObjRow.entry (r : ObjRow) (sub : Nat) : Option ObjEntry :=
  r.entries.find? (fun e => decide (e.sub ≤ sub) && decide (sub < e.sub + e.n))

/-- The entry of an object's subindex. -/
def objEntry (index sub : Nat) : Option ObjEntry := (objRow index).bind (fun r => r.entry sub)

/-- The highest subindex of an object (R9). -/
def ObjRow.highest (r : ObjRow) : Nat := r.entries.foldl (fun m e => max m (e.sub + e.n - 1)) 0

end Sys2Proof.Machine
end

