-- ==== Sys2Proof/Machine/Operands.lean ====
section
/-!
DEFINITION. Operands: values as the dictionary and the messages carry them. A written value is read under its object's
type and range (R400, R7, R408); a read value is packed at its size (R403).
-/
namespace Sys2Proof.Machine

/-- The least and the greatest value of a numeric type (R400). -/
def ValType.limits : ValType → Int × Int
  | .bool => (0, 1)
  | .u8 => (0, 255)
  | .u16 => (0, 65535)
  | .u32 => (0, 4294967295)
  | .u64 => (0, 18446744073709551615)
  | .s16 => (-32768, 32767)
  | .s32 => (-2147483648, 2147483647)
  | .s64 => (-9223372036854775808, 9223372036854775807)
  | .str => (0, 0)
  | .domain => (0, 0)

/-- The value of the bytes of a numeric type, little-endian (R6, R400). A BOOL keeps bit 0 only: the other bits of
its byte are reserved and ignored when written (R7). -/
def ValType.read (t : ValType) (bs : List Byte) : Int :=
  match t with
  | .bool => (leNat bs % 2 : Nat)
  | _ => if t.signed then sext (8 * t.bytes) (leNat bs) else (leNat bs : Nat)

/-- The bytes of a value of a numeric type. -/
def ValType.write (t : ValType) (v : Int) : List Byte := leBytesInt t.bytes v

/-- Whether a value lies in the range of an entry, or of its type where the table gives none. -/
def ObjEntry.inRange (e : ObjEntry) (v : Int) : Bool :=
  let r := e.range.getD e.type.limits
  decide (r.1 ≤ v) && decide (v ≤ r.2)

/-- Whether an entry holds bytes and not a number. -/
def ObjEntry.isBytes (e : ObjEntry) : Bool := e.type == .str || e.type == .domain

/-- A string or domain value inside a packed read: its length as a U32 and its bytes (R403). -/
def packedBytes (bs : List Byte) : List Byte := leBytes 4 bs.length ++ bs

/-! ### Abort codes (R408) -/

/-- The abort codes. -/
inductive Abort where
  | noObject
  | noSub
  | laterVersion
  | notInBoot
  | readOnly
  | writeOnly
  | level
  | notStandby
  | authentication
  | size
  | range
  | conditions
  | segmentCrc
  | segmentOrder
  | total
  | timeout
  | aborted
  | alreadyOpen
  | flash
  | storing
  deriving DecidableEq, Repr

/-- The code of R408. -/
def Abort.code : Abort → Nat
  | .noObject => 0x00010001
  | .noSub => 0x00010002
  | .laterVersion => 0x00010003
  | .notInBoot => 0x00010004
  | .readOnly => 0x00020001
  | .writeOnly => 0x00020002
  | .level => 0x00020003
  | .notStandby => 0x00020004
  | .authentication => 0x00020005
  | .size => 0x00030001
  | .range => 0x00030002
  | .conditions => 0x00030003
  | .segmentCrc => 0x00040001
  | .segmentOrder => 0x00040002
  | .total => 0x00040003
  | .timeout => 0x00040004
  | .aborted => 0x00040005
  | .alreadyOpen => 0x00040006
  | .flash => 0x00050001
  | .storing => 0x00050002

end Sys2Proof.Machine
end

