-- ==== Sys2Proof/Machine/Geometry.lean ====
section
/-!
DEFINITION. Plate geometry in exact integers: rotation, line lengths, the jump of R128 to R130, interpolation of the
field correction grid (R138 to R141) and the distance and cone tests of the proximity guard (R219 to R221).

Positions inside the path generator carry 16 fractional bits of 0.25 µm (R124) and times 16 fractional bits of a
tick; a "fine" number below is one with these 16 fractional bits.
-/
namespace Sys2Proof.Machine

/-- A plate or field position, in fine units (2^−16 of 0.25 µm). -/
abbrev Pos := Int × Int

/-- A position stated in 0.25 µm units, in fine units. -/
def finePos (x y : Int) : Pos := (x * 65536, y * 65536)

/-- A difference of positions. -/
def subPos (p q : Pos) : Pos := (p.1 - q.1, p.2 - q.2)

/-- A sum of positions. -/
def addPos (p q : Pos) : Pos := (p.1 + q.1, p.2 + q.2)

/-- Rot(angle) × p: rotation from +X towards +Y (R35, R125). -/
def rotate (angle : Nat) (p : Pos) : Pos :=
  (roundDiv (cosQ angle * p.1 - sinQ angle * p.2) (2 ^ 30),
   roundDiv (sinQ angle * p.1 + cosQ angle * p.2) (2 ^ 30))

/-- Rot(−angle) × p. -/
def rotateBack (angle : Nat) (p : Pos) : Pos := rotate (65536 - angle % 65536) p

/-- The length of a displacement, in the unit of its components, rounded down. -/
def normPos (p : Pos) : Nat := isqrt (p.1 * p.1 + p.2 * p.2).toNat

/-- The point at a distance along the direction of a displacement, from a base point; the base where the displacement
is zero. -/
def alongDir (base dir : Pos) (dist : Int) : Pos :=
  let n := normPos dir
  (base.1 + roundDiv (dir.1 * dist) n, base.2 + roundDiv (dir.2 * dist) n)

/-- The point reached after num/den of the way from p to q. -/
def lerpPos (p q : Pos) (num : Int) (den : Nat) : Pos :=
  if den = 0 then q
  else (p.1 + roundDiv ((q.1 - p.1) * num) den, p.2 + roundDiv ((q.2 - p.2) * num) den)

/-- The time to travel a fine length at a speed in µm/s, in fine ticks, rounded to nearest: one 0.25 µm unit at
1 µm/s takes 156,250,000 ticks. -/
def travelFine (len speed : Nat) : Nat := roundDivNat (len * 156250000) speed

/-- The same time in whole ticks, rounded up (R94). -/
def travelTicks (len speed : Nat) : Nat := ceilDiv (len * 156250000) (speed * 65536)

/-- The angle of a displacement with components not negative, 0 to 16,384 in units of 360/65,536 degree: the nearer of the
two units around it. -/
def angleQuarter (x y : Int) : Nat :=
  let miss (a : Nat) : Int := let k := cosQ a * y - sinQ a * x; if k < 0 then -k else k
  let a := bisect (fun n => decide (n ≤ 16384) && decide (0 ≤ cosQ n * y - sinQ n * x)) 15 0
  if a < 16384 ∧ miss (a + 1) < miss a then a + 1 else a

/-- The direction angle of a displacement from +X towards +Y (R35); 0 where it is zero. -/
def angleOf (d : Pos) : Nat :=
  if d = (0, 0) then 0
  else if 0 ≤ d.1 ∧ 0 ≤ d.2 then angleQuarter d.1 d.2
  else if d.1 < 0 ∧ 0 ≤ d.2 then (16384 + angleQuarter d.2 (-d.1)) % 65536
  else if d.1 < 0 then (32768 + angleQuarter (-d.1) (-d.2)) % 65536
  else (49152 + angleQuarter (-d.2) d.1) % 65536

/-! ### Jumps (R128 to R130) -/

/-- A jump's kinematic limits: speed in µm/s, acceleration in m/s², jerk in 1,000 m/s³. -/
structure JumpLimits where
  v : Nat
  a : Nat
  j : Nat
  deriving DecidableEq, Repr

/-- The four cases of R129. -/
inductive JumpCase where
  | speedAndAccel
  | speedOnly
  | accelOnly
  | neither
  deriving DecidableEq, Repr

/-- The case of R129 for a distance d in fine units. In µm/s, a²/j is 1,000a²/j; a µm is 2^18 fine units. -/
def jumpCase (d : Nat) (l : JumpLimits) : JumpCase :=
  let accelReached := decide (1000 * l.a * l.a ≤ l.v * l.j)
  let speedReached :=
    if accelReached then decide (2 ^ 18 * l.v * (l.v * l.j + 1000 * l.a * l.a) ≤ d * 1000000 * l.a * l.j)
    else decide (4 * l.v * l.v * l.v * 2 ^ 36 ≤ d * d * l.j * 1000000000)
  if speedReached then (if accelReached then .speedAndAccel else .speedOnly)
  else if 2 ^ 19 * l.a * l.a * l.a ≤ d * l.j * l.j then .accelOnly
  else .neither

/-- The phases of the profile in fine ticks: jerk phase, constant-acceleration phase, cruise. One second is
625,000,000 × 65,536 = 40,960,000,000,000 fine ticks. -/
structure JumpPhases where
  tj : Nat
  ta : Nat
  tv : Nat
  deriving DecidableEq, Repr

/-- The phases of a jump over a fine distance, by the cases of R129. -/
def jumpPhases (d : Nat) (l : JumpLimits) : JumpPhases :=
  let aOverJ := l.a * 40960000000 / l.j
  let dOverV := d * 156250000 / l.v
  match jumpCase d l with
  | .speedAndAccel =>
    let vOverA := l.v * 40960000 / l.a
    ⟨aOverJ, vOverA - aOverJ, dOverV - (vOverA + aOverJ)⟩
  | .speedOnly =>
    let r := isqrt (l.v * 40960000000000 * 40960 / l.j)
    ⟨r, 0, dOverV - 2 * r⟩
  | .accelOnly =>
    let q := isqrt (aOverJ * aOverJ + d * 40960000000000 * 40960000 / (65536 * l.a))
    ⟨aOverJ, (q - aOverJ) / 2 - aOverJ, 0⟩
  | .neither =>
    ⟨icbrt (d * 40960000000000 * 40960000000000 * 40960 / (2 ^ 19 * l.j)), 0, 0⟩

/-- The unrounded motion time of a profile, in fine ticks. -/
def JumpPhases.total (p : JumpPhases) : Nat := 4 * p.tj + 2 * p.ta + p.tv

/-- The motion duration of a jump in whole ticks, t_J − JUMP_SETTLE, rounded up (R129), decided exactly: the sums of
roots are compared in integers, not in the rounded phases. 0 for d = 0. -/
def jumpMotionTicks (d : Nat) (l : JumpLimits) : Nat :=
  if d = 0 then 0
  else
    let guess := (jumpPhases d l).total / 65536
    let enough (n : Nat) : Bool :=
      match jumpCase d l with
      | .speedAndAccel =>
        -- n ≥ d/v + v/a + a/j in ticks of 1.6 ns
        decide (d * 156250000 * l.a * l.j + l.v * l.v * l.j * 40960000 + l.a * l.a * l.v * 40960000000
          ≤ n * 65536 * l.v * l.a * l.j)
      | .speedOnly =>
        -- (n − d/v)² ≥ 4v/j with n ≥ d/v, cleared of denominators
        decide (d * 156250000 ≤ n * 65536 * l.v) &&
        decide (4 * l.v * l.v * l.v * (40960000000000 * 40960)
          ≤ (n * 65536 * l.v - d * 156250000) * (n * 65536 * l.v - d * 156250000) * l.j)
      | .accelOnly =>
        -- (n − a/j)² ≥ (a/j)² + 4d/a with n ≥ a/j
        decide (l.a * 40960000000 ≤ n * 65536 * l.j) &&
        decide (l.a * 40960000000 * (l.a * 40960000000) * (l.a * 65536)
            + d * 40960000000000 * 40960000 * (l.j * l.j)
          ≤ (n * 65536 * l.j - l.a * 40960000000) * (n * 65536 * l.j - l.a * 40960000000) * (l.a * 65536))
      | .neither =>
        -- (n/4)³ ≥ d/(2j)
        decide (64 * d * (40960000000000 * 40960000000000 * 40960)
          ≤ (n * 65536) * (n * 65536) * (n * 65536) * (2 ^ 19 * l.j))
    if enough (guess - 1) && decide (0 < guess) then guess - 1
    else if enough guess then guess
    else if enough (guess + 1) then guess + 1
    else guess + 2

/-- Six times the displacement after t of the rising half of the profile, at unit jerk, or at the end of the cruise. -/
def risingDisplacement (p : JumpPhases) (t : Nat) : Nat :=
  let tj := p.tj
  let ta := p.ta
  if t ≤ tj then t * t * t
  else if t ≤ tj + ta then
    let x := t - tj
    tj * tj * tj + 3 * tj * tj * x + 3 * tj * x * x
  else
    let s2 := tj * tj * tj + 3 * tj * tj * ta + 3 * tj * ta * ta
    let v2 := 3 * tj * tj + 6 * tj * ta
    if t ≤ 2 * tj + ta then
      let x := t - tj - ta
      s2 + v2 * x + 3 * tj * x * x - x * x * x
    else
      let s3 := s2 + v2 * tj + 2 * tj * tj * tj
      s3 + 6 * tj * (tj + ta) * (t - 2 * tj - ta)

/-- The fraction of the distance covered t fine ticks into a profile, as numerator and denominator; the profile is
symmetric (R128). -/
def jumpFraction (p : JumpPhases) (t : Nat) : Nat × Nat :=
  let total := p.total
  let rise := 2 * p.tj + p.ta
  let whole := 2 * risingDisplacement p rise + 6 * p.tj * (p.tj + p.ta) * p.tv
  if total ≤ t then (1, 1)
  else if t ≤ rise + p.tv then (risingDisplacement p t, whole)
  else (whole - risingDisplacement p (total - t), whole)

/-! ### The field correction grid (R138 to R141) -/

/-- The delta of one field (0 DX, 1 DY, 2 DF) at a node of a grid of 8,712 bytes, 0 for an empty grid. -/
def gridRaw (grid : List Byte) (field : Nat) (i j : Nat) : Int :=
  sext 16 (leAt grid (8 * (33 * j + i) + 2 * field) 2)

/-- The node function of R141 along one index, with linear extrapolation outside 0 to 32. -/
def gridAxis (f : Nat → Int) (i : Int) : Int :=
  if i < 0 then 2 * f 0 - f 1
  else if 32 < i then 2 * f 32 - f 31
  else f i.toNat

/-- node(field, i, j) of R141. -/
def gridNode (grid : List Byte) (field : Nat) (i j : Int) : Int :=
  gridAxis (fun a => gridAxis (fun b => gridRaw grid field a b) j) i

/-- The Catmull-Rom weight of R141 at t (16 fractional bits), with 32 fractional bits, for m = −1, 0, 1, 2: w is twice it. -/
def crWeight (m : Int) (t : Int) : Int :=
  let t2 := t * t
  let t3 := t * t * t
  let one : Int := 2 ^ 48
  let s3 : Int := t3
  let s2 : Int := t2 * 65536
  let s1 : Int := t * 65536 * 65536
  let w : Int :=
    if m = -1 then -s3 + 2 * s2 - s1
    else if m = 0 then 3 * s3 - 5 * s2 + 2 * one
    else if m = 1 then -3 * s3 + 4 * s2 + s1
    else s3 - s2
  roundDiv w (2 * 65536)

/-- The interpolated delta of a field at a field position, in 1/256 of the delta unit (R141). DESIGN CHOICE (log entry 98):
the manual gives the widths and not how a weight or a product of two is brought to 32 fractional bits; each is rounded to
nearest, halves away from zero. -/
def gridDelta (grid : List Byte) (pitch : Nat) (field : Nat) (q : Pos) : Int :=
  if grid.isEmpty then 0
  else
    let gx := clampInt 0 (32 * 65536) (roundDiv q.1 pitch + 16 * 65536)
    let gy := clampInt 0 (32 * 65536) (roundDiv q.2 pitch + 16 * 65536)
    let i0 := if gx / 65536 < 31 then gx / 65536 else 31
    let j0 := if gy / 65536 < 31 then gy / 65536 else 31
    let u := gx - i0 * 65536
    let v := gy - j0 * 65536
    let total := [(-1 : Int), 0, 1, 2].foldl (fun acc n =>
      [(-1 : Int), 0, 1, 2].foldl (fun acc2 m =>
        acc2 + roundDiv (crWeight m u * crWeight n v) (2 ^ 32) * gridNode grid field (i0 + m) (j0 + n)) acc) 0
    roundDiv total (2 ^ 24)

/-- One layer's delta at a node position rounded to the nearest unit (R140). -/
def gridDeltaUnit (grid : List Byte) (pitch : Nat) (field : Nat) (q : Pos) : Int :=
  roundDiv (gridDelta grid pitch field q) 256

/-- The effective grid: the user layer applied after the factory layer, sampled at the nodes (R140). -/
def composeGrid (factory user : List Byte) (pitch : Nat) : List Byte :=
  if factory.isEmpty && user.isEmpty then []
  else
    (List.range 33).flatMap (fun (j : Nat) => (List.range 33).flatMap (fun (i : Nat) =>
      let qn := finePos (((i : Int) - 16) * pitch) (((j : Int) - 16) * pitch)
      let fx := gridDeltaUnit factory pitch 0 qn
      let fy := gridDeltaUnit factory pitch 1 qn
      let ff := gridDeltaUnit factory pitch 2 qn
      let q1 := addPos qn (finePos fx fy)
      leBytesInt 2 (fx + gridDeltaUnit user pitch 0 q1) ++ leBytesInt 2 (fy + gridDeltaUnit user pitch 1 q1)
        ++ leBytesInt 2 (ff + gridDeltaUnit user pitch 2 q1) ++ [0, 0]))

/-! ### Segments of a plane (R219 to R221)

An envelope is a list of line segments between positions in 0.25 µm units. -/

/-- A line segment of an envelope, its ends in 0.25 µm units. -/
abbrev Line := Pos × Pos

/-- The cross product of two displacements. -/
def cross (p q : Pos) : Int := p.1 * q.2 - p.2 * q.1

/-- The scalar product of two displacements. -/
def dot (p q : Pos) : Int := p.1 * q.1 + p.2 * q.2

/-- Whether a point lies closer than r to a line segment, decided exactly. -/
def pointNearLine (r : Int) (x : Pos) (l : Line) : Bool :=
  let d := subPos l.2 l.1
  let e := subPos x l.1
  let k := dot e d
  let n := dot d d
  if k ≤ 0 then decide (dot e e < r * r)
  else if n ≤ k then
    let f := subPos x l.2
    decide (dot f f < r * r)
  else decide (cross d e * cross d e < r * r * n)

/-- Whether two line segments share a point. -/
def linesMeet (l m : Line) : Bool :=
  let d := subPos l.2 l.1
  let s1 := cross d (subPos m.1 l.1)
  let s2 := cross d (subPos m.2 l.1)
  let e := subPos m.2 m.1
  let s3 := cross e (subPos l.1 m.1)
  let s4 := cross e (subPos l.2 m.1)
  decide (s1 * s2 < 0) && decide (s3 * s4 < 0)

/-- Whether some point of one segment lies closer than r to some point of the other (R221, first condition). -/
def linesNear (r : Int) (l m : Line) : Bool :=
  if r ≤ 0 then false
  else linesMeet l m || pointNearLine r l.1 m || pointNearLine r l.2 m || pointNearLine r m.1 l || pointNearLine r m.2 l

/-- The gas-flow cone of R220 with its allowance already taken off: downwind direction (30 fractional bits), length,
half-width at the source and spread in 1/1,024. -/
structure Cone where
  wx : Int
  wy : Int
  length : Int
  halfWidth : Int
  spread : Int
  deriving DecidableEq, Repr

/-- The downwind and lateral components of a displacement, each with 30 fractional bits. -/
def Cone.components (c : Cone) (d : Pos) : Int × Int := (d.1 * c.wx + d.2 * c.wy, d.2 * c.wx - d.1 * c.wy)

/-- Whether a displacement from a source point lies in the cone (R220). -/
def Cone.holds (c : Cone) (d : Pos) : Bool :=
  let (a, b) := c.components d
  decide (0 < a) && decide (a ≤ c.length * 2 ^ 30) &&
  decide ((if b < 0 then -b else b) * 1024 ≤ c.halfWidth * 1024 * 2 ^ 30 + a * c.spread)

/-- Clips a convex polygon of (downwind, lateral) points to the half-plane f ≥ 0 of an affine form
(ka × downwind + kb × lateral + k0); the cut points are rounded to the grid of the components. -/
def clipPolygon (ka kb k0 : Int) (ps : List Pos) : List Pos :=
  let f (p : Pos) : Int := ka * p.1 + kb * p.2 + k0
  match ps with
  | [] => []
  | first :: _ =>
    let nexts := ps.drop 1 ++ [first]
    (ps.zip nexts).flatMap (fun (p, q) =>
      let keep := if 0 ≤ f p then [p] else []
      let cut :=
        if (0 ≤ f p && f q < 0) || (f p < 0 && 0 ≤ f q) then
          let den := f p - f q
          let den' := if den < 0 then -den else den
          let num := if den < 0 then -(f p) else f p
          [lerpPos p q num den'.toNat]
        else []
      keep ++ cut)

/-- Whether some point of segment m lies in the cone of some point of segment l (R221): the set of displacements
x − z is the parallelogram of the four end-point differences, and the cone is an intersection of half-planes, so the
parallelogram is clipped by each in turn. The half-plane 0 < a is open: a displacement with a = 0 does not count. -/
def coneReaches (c : Cone) (l m : Line) : Bool :=
  let quad := [subPos m.1 l.1, subPos m.1 l.2, subPos m.2 l.2, subPos m.2 l.1].map c.components
  let unit : Int := 2 ^ 30
  if c.length ≤ 0 then false
  else
    let p1 := clipPolygon 1 0 (-1) quad
    let p2 := clipPolygon (-1) 0 (c.length * unit) p1
    let p3 := clipPolygon c.spread (-1024) (c.halfWidth * 1024 * unit) p2
    let p4 := clipPolygon c.spread 1024 (c.halfWidth * 1024 * unit) p3
    !p4.isEmpty

/-- The verdict of a conflict test between two envelopes (R221): none, by distance, or by the cone rule. -/
inductive Conflict where
  | none
  | distance
  | cone
  deriving DecidableEq, Repr

/-- R221 for two envelopes with PLUME_DISTANCE less the allowance and the narrowed cone. -/
def envelopesConflict (plume : Int) (c : Cone) (e1 e2 : List Line) : Conflict :=
  if e1.any (fun l => e2.any (fun m => linesNear plume l m)) then .distance
  else if e1.any (fun l => e2.any (fun m => coneReaches c l m || coneReaches c m l)) then .cone
  else .none

end Sys2Proof.Machine
end

