-- ==== Sys2Proof/Machine/State.lean ====
section
/-!
DEFINITION. State: everything the manual gives the ZH-3256 to hold, as plain data, and the state at reset.

Every object of the dictionary that is a plain stored value lives in the sparse store (`regs`, `blobs`), which lists
only values that differ from the object's default; values that other rules act on live in typed fields and are read
out by the dictionary. INVENTORY.md lists each piece with its rule.
-/
namespace Sys2Proof.Machine

/-! ### Stops -/

/-- Reasons for a fault. Every rule of the manual that ends in an abnormal condition gives the device state that
follows, so no meaning raises a fault; the one constructor is for a state no rule describes (safe: it stops). -/
inductive Fault where
  /-- Raised by no meaning of this model; safe. -/
  | noSuchState
  deriving DecidableEq, Repr

/-- Reasons for a refusal. -/
inductive Refusal where
  /-- Raised by exec for a command whose meaning is not written yet; safe: the machine stops. -/
  | notModelled (mnemonic : String)
  deriving DecidableEq, Repr

/-! ### The device state machine (R15 to R32) -/

/-- The nine device states of R16. -/
inductive DevState where
  | off
  | aux
  | boot
  | restricted
  | standby
  | armed
  | exposing
  | paused
  | fault
  deriving DecidableEq, Repr

/-- The state machine of 0x2001 and what it keeps between transitions. -/
structure Dev where
  state : DevState
  /-- :03 STATE_CAUSE -/
  cause : Nat
  /-- :04 REQUEST_RESULT -/
  result : Nat
  /-- :05 TRANSITION_ET -/
  transEt : Tick
  /-- :06 PREVIOUS_STATE -/
  prev : DevState
  /-- :07 TRANSITION_COUNT -/
  count : Nat
  /-- a PAUSE has been accepted and not every head holds yet (R24) -/
  pausePending : Bool
  /-- causes 0x0031 to 0x0034 kept for the restart while a trip lasts (R583) -/
  kept : List Nat
  /-- the state and the cause held when the trip came (R19) -/
  tripFrom : DevState
  tripCause : Nat
  /-- the failed rank of cause 0x0032 (channel, rank) whose retraining is repeated every 1 s (R20) -/
  failedRank : Option (Nat × Nat)
  /-- the cores are restarting after the watchdog (R20, cause 0x0033) -/
  coresDown : Bool
  /-- an automatic transition happened in the present CLK_SYS cycle (R29) -/
  autoThisCycle : Bool
  deriving DecidableEq, Repr

/-! ### Supplies, reset, start-up (R587 to R610) -/

/-- The island's own state and the start-up sequence. -/
structure Power where
  /-- VAUX is present: the controller is not in OFF -/
  vaux : Bool
  /-- LASER_INHIBIT_N is in effect: :04 INHIBIT_ACTIVE -/
  inhibit : Bool
  /-- an inhibit in effect at the exit from AUX, still to be counted at the first CLK_SYS cycle (R598, R647) -/
  inhibitMark : Bool
  /-- 0x2040:01 RESET_CAUSE -/
  resetCause : Nat
  /-- 0x2040:02 RAIL_FAULT -/
  railFault : Nat
  /-- 0x2040:03 POWER_CYCLES in the island -/
  powerCycles : Nat
  /-- the power-cycle count in flash (R599) -/
  flashCycles : Nat
  /-- 0x2040:06 STARTUP_STEP -/
  step : Nat
  /-- 0x2040:07 STARTUP_TIME, µs -/
  startupTime : Nat
  /-- island time of the exit from AUX or of the RESTART request (R606) -/
  startMark : Nat
  /-- start-up waits for the cooling condition (R605, R715) -/
  waitCool : Bool
  /-- straps DRAM_ORG_3 to DRAM_ORG_0 as sampled at the exit from AUX (R591) -/
  dramOrg : Nat
  /-- strap TEST_EN as sampled -/
  testEn : Bool
  /-- PWRGOOD is asserted and RESET_N is released, as last commanded -/
  pwrgood : Bool
  resetFree : Bool
  /-- AUX was entered in the present CLK_SYS cycle; whether its record was taken in (R592) -/
  entered : Option Bool
  deriving DecidableEq, Repr

/-- Time bases: Exposure Time (R26, R422) and the time VAUX has been present, both in ticks. -/
structure Clk where
  et : Tick
  running : Bool
  /-- ticks since VAUX was applied, from the always-on oscillator or the root (R653) -/
  island : Nat
  deriving DecidableEq, Repr

/-- What the fuses hold (R417, R449, R616). -/
structure Fuses where
  revision : Nat
  serial : Nat
  nodeMac : Nat
  /-- 0x2024, 0x2025, 0x2026, 0x2027 subindex :01, in 0.1 ns -/
  corr : List Nat
  /-- the fuse copy of DIE_TRIM_0 to DIE_TRIM_15 -/
  dieTrim : List Int
  deriving DecidableEq, Repr

/-! ### Interrupt tree and event recorder (R635 to R664) -/

/-- One leaf of the tree that is set, or that was cleared in the present CLK_SYS cycle (R640 to R643). -/
structure Leaf where
  /-- dictionary index of its cause register -/
  reg : Nat
  bit : Nat
  /-- its counter at the start of the present cycle, 0 to 255 -/
  before : Nat
  /-- its events of the present cycle -/
  now : Nat
  /-- it was set and has been cleared in the present cycle, so a new event sends no message (R648) -/
  quiet : Bool
  deriving DecidableEq, Repr

/-- A record of the event recorder (R652). -/
structure EventRecord where
  type : Nat
  /-- operating hours in 2^−16 s -/
  hours : Nat
  cycles : Nat
  payload : List Byte
  deriving DecidableEq, Repr

/-- The event recorder: flash, queue and front end (R652 to R661). -/
structure Recorder where
  /-- records in flash, oldest first, with their record numbers -/
  flash : List (Nat × EventRecord)
  /-- 0xC000:01 NEXT_RECORD -/
  next : Nat
  /-- 0xC000:03 TOPSOIL_OLDEST -/
  oldest : Nat
  /-- records awaiting flash -/
  queue : List EventRecord
  /-- records held in the island's front end before step 4 (R600, R654) -/
  front : List EventRecord
  /-- records discarded and not yet reported by a record of type 0x00A1 -/
  lost : Nat
  /-- a failed flash write of the record at the head of the queue has been retried -/
  retried : Bool
  /-- flash holds a record without its closing mark (R654) -/
  torn : Bool
  /-- operating hours stored in flash, 2^−16 s -/
  storedHours : Nat
  /-- operating hours at the entry to AUX from OFF and the island time then -/
  baseHours : Nat
  baseIsland : Nat
  deriving DecidableEq, Repr

/-! ### Sessions, transport, dictionary transfers (R380 to R416) -/

/-- A Treyx frame: the 16-byte header and the message bytes (R380). -/
structure TreyxFrame where
  kind : Nat
  hops : Nat
  reliable : Bool
  more : Bool
  start : Bool
  retransmit : Bool
  session : Nat
  seq : Nat
  ack : Nat
  sack : Nat
  data : List Byte
  deriving DecidableEq, Repr

/-- A frame received beyond a gap, and whether it was addressed to this controller alone (R31, R392). -/
structure HeldFrame where
  frame : TreyxFrame
  alone : Bool
  deriving DecidableEq, Repr

/-- A reliable frame kept until acknowledged (R393). -/
structure SentFrame where
  frame : TreyxFrame
  sends : Nat
  deriving DecidableEq, Repr

/-- An open block write (R404 to R406). -/
structure Transfer where
  index : Nat
  sub : Nat
  tid : Nat
  total : Nat
  nextSeg : Nat
  data : List Byte
  deriving DecidableEq, Repr

/-- Access levels (R386). -/
inductive Level where
  | observer
  | operator
  | service
  deriving DecidableEq, Repr

/-- One session: ring sessions 1 to 4, and the SPI port as session 0 (R382 to R394, R414). -/
structure Session where
  isOpen : Bool
  /-- the address that opened it -/
  peer : Nat
  level : Level
  openLevel : Level
  job : Bool
  ringVersion : Nat
  dictVersion : Nat
  formatVersion : Nat
  /-- next SEQ of the controller's reliable frames, and the count of its unreliable frames -/
  txSeq : Nat
  txCount : Nat
  unacked : List SentFrame
  /-- messages waiting for room among the 64 kept frames, or for a ring port (R14, R393) -/
  backlog : List (Nat × List Byte)
  /-- next reliable SEQ expected from the peer, and frames held beyond a gap (R392) -/
  rxNext : Nat
  held : List HeldFrame
  /-- fragments of a reliable message in reception (R381) -/
  fragments : List Byte
  ackOwed : Bool
  /-- in a pair, JOB_HELD of the partner, at or above which the job session acknowledges nothing (R463) -/
  ackLimit : Option Nat
  /-- the last ACK value that triggered a SACK-driven repeat (R393) -/
  repeatedAt : Option Nat
  subscribe : Nat
  eventMask : Nat
  /-- TAKE_MASK per cause register, registers with mask 0 left out (R644) -/
  takeMasks : List (Nat × Nat)
  recArea : Nat
  recCursor : Nat
  recOffset : Nat
  challenge : Option Nat
  transfer : Option Transfer
  deriving DecidableEq, Repr

/-- The authentication state shared by all paths (R389). -/
structure Auth where
  wrong : Nat
  locked : Bool
  /-- challenges drawn so far: the argument of the free value -/
  drawn : Nat
  deriving DecidableEq, Repr

/-- The SPI management port's buffers (R413). -/
structure Spi where
  /-- the request that waits for a free response place -/
  request : Option (List Byte)
  /-- the one waiting response -/
  response : Option (List Byte)
  /-- messages of the port that take the response place as it is freed, by kind: the rest of a block read (R405, R413) -/
  behind : List (Nat × List Byte)
  discarded : Bool
  /-- the byte string shifted out by the latest READ or STATUS transaction -/
  shifted : List Byte
  deriving DecidableEq, Repr

/-- Flash storage of the persistent values (R410). -/
structure FlashStore where
  regs : List (Nat × Int)
  blobs : List (Nat × List Byte)
  /-- a store in progress: the snapshot being written -/
  writing : Option (List (Nat × Int) × List (Nat × List Byte))
  /-- 0x1010:03 STORE_RESULT -/
  result : Nat
  deriving DecidableEq, Repr

/-- One ring port (R368 to R379): its lock and what its forwarding queue holds. Its counters are in the store. -/
structure RingPort where
  lock : Bool
  /-- the forwarding queue out of this port: egress capture and length of the frames that wait (R374) -/
  queue : List (Nat × Nat)
  deriving DecidableEq, Repr

/-- Why BYPASS_HOLD is high or low (R377, R378). -/
inductive BypassState where
  | low
  | high
  | trial
  deriving DecidableEq, Repr

/-- A PTP frame seen on the way through, waiting for its Follow_Up or Delay_Resp (R370). -/
structure PtpSeen where
  /-- 0 Sync, 1 Delay_Req -/
  kind : Nat
  source : Nat
  sequence : Nat
  /-- the scaled residence time, 2^−16 ns (R433), and the ingress capture in 1/16 tick -/
  residence : Int
  at_ : Nat
  deriving DecidableEq, Repr

/-- The ring side: ports, bypass, transparent clock. -/
structure Ring where
  portA : RingPort
  portB : RingPort
  forwarding : Bool
  bypass : BypassState
  /-- BYPASS_HOLD has fallen since it first rose (R378) -/
  fallen : Bool
  /-- ET of the latest edge of BYPASS_HOLD (R379) -/
  edgeAt : Option Tick
  seen : List PtpSeen
  deriving DecidableEq, Repr

/-- What leaves the device in the present CLK_SYS cycle; an idle tick clears the list. -/
inductive Out where
  /-- one of the controller's own frames on the ring: the port it leaves by, and its bytes from the destination address to the
  end of the padding (R369, R380) -/
  | ring (port : Nat) (bytes : List Byte)
  /-- a forwarded frame leaving by a port (0 A, 1 B), with whether its FCS was inverted -/
  | forwarded (port : Nat) (bytes : List Byte) (stomped : Bool)
  /-- the answer to a dictionary access or request: its path, its abort code (0 for none), and the value read -/
  | answer (path : Path) (abort : Nat) (data : List Byte)
  /-- a twin-link message: kind, number (0 for unnumbered) and bytes -/
  | twin (kind number : Nat) (bytes : List Byte)
  /-- a downlink frame of a head: its 100 characters (R326) -/
  | head (h : HeadNo) (chars : List Nat)
  deriving DecidableEq, Repr

/-! ### Jobs, segments, items (R33 to R75) -/

/-- A parameter set (R67). -/
structure ParamSet where
  softStart : Bool
  lineEnergyLock : Bool
  perBeamlet : Bool
  markSpeed : Nat
  jumpSpeed : Nat
  lawId : Nat
  preheatWidth : Nat
  preheatCount : Nat
  pointPeriod : Nat
  leadOut : Nat
  leadIn : Nat
  fOffset : Int
  cornerLimit : Nat
  overspeedTol : Nat
  preheatPower : Nat
  /-- POWER_0 to POWER_7 as stored -/
  power : List Nat
  deriving DecidableEq, Repr

/-- A version in the parameter set store (R58 to R61). -/
structure ParamVersion where
  /-- order of creation, over all sets -/
  serial : Nat
  set : Nat
  /-- the 16 set words -/
  words : List Nat
  deriving DecidableEq, Repr

/-- What an item does (R43 to R66), coordinates in 0.25 µm units. -/
inductive ItemBody where
  | jump (x y : Int)
  | vector (x0 y0 x1 y1 : Int) (mask : Nat)
  | polyline (mask : Nat) (vertices : List (Int × Int))
  | points (x0 y0 x1 y1 : Int) (onTicks mask : Nat)
  | furrow (x0 y0 : Int) (stepList passes angle pitch rows columns bitmap : Nat)
  | param (set : Nat)
  | barrier (id heads : Nat)
  | marker (id tag : Nat)
  | dwell (duration : Nat)
  deriving DecidableEq, Repr

/-- One item of an admitted segment: its place, and the versions of the set and of the step list it was validated
with (R59, R75). -/
structure Item where
  index : Nat
  head : HeadNo
  /-- word offset of its header in the segment -/
  offset : Nat
  length : Nat
  noPreheat : Bool
  pset : Nat
  /-- serial of the parameter set version, and the set itself -/
  version : Nat
  par : ParamSet
  steps : List Nat
  body : ItemBody
  deriving DecidableEq, Repr

/-- The eight segment states of R79; receiving is the state before SUBMITTED. -/
inductive SegState where
  | submitted
  | admitted
  | refused
  | staged
  | running
  | done
  | broken
  | cancelled
  deriving DecidableEq, Repr

/-- The four S64 accumulators of one channel of one segment (R110). -/
structure Tally where
  planned : Int
  correction : Int
  delivered : Int
  withheld : Int
  deriving DecidableEq, Repr

/-- Where a head stands in its part of a segment (R81, R82). -/
inductive HeadPart where
  | waiting
  | running
  | finished
  | abandoned
  deriving DecidableEq, Repr

/-- A marked stretch as the Reckoner placed it (R227): its head, the ETs of its first entry check, of the check it passes
and of the end of its lead-out, and its envelope. -/
structure Placed where
  head : HeadNo
  first : Tick
  pass : Tick
  finish : Tick
  envelope : List Line
  deriving DecidableEq, Repr

/-- Data that reaches an item buffer line by line: every byte below a position, and the first bytes of the lines there beyond it
(R184, R188). -/
structure Arrived where
  upTo : Nat
  beyond : List Nat
  deriving DecidableEq, Repr

/-- A segment's plan and books for one of its heads (R94 to R101, R110). -/
structure SegHead where
  head : HeadNo
  part : HeadPart
  /-- planned start P_h and worst-case time W_h -/
  start : Tick
  worst : Nat
  /-- T_dram, part of worst (R94, R101) -/
  dram : Nat
  /-- reserved bandwidth B_h, bytes per second (R97) -/
  bandwidth : Nat
  /-- the sum of the terms of R94 of each item of the list, barrier waits left out -/
  terms : List Nat
  /-- its stretches at their worst-case times (R227) -/
  placed : List Placed
  /-- barrier ETs fixed at admission, by BARRIER_ID (R98) -/
  barriers : List (Nat × Tick)
  /-- position in the list of the next item to begin -/
  next : Nat
  /-- what of the head's item list, and of the bitmap rows of its passes, has reached its item buffer (R184) -/
  fetched : Arrived
  rows : Arrived
  /-- DETAIL of an uncorrectable read that waits for the head to start its part (R547) -/
  failed : Option Nat
  /-- the abandonment could not be booked: both copies of the summary were uncorrectable (R548) -/
  unbooked : Bool
  /-- ET at which the head finished or abandoned its list -/
  finishEt : Tick
  /-- BARRIER_IDs at which the head has arrived -/
  arrived : List Nat
  books : List Tally
  deriving DecidableEq, Repr

/-- A segment from SUBMITTED until its slot is released (R79). -/
structure Segment where
  /-- order of reception: the address of the segment inside the model -/
  key : Nat
  id : Nat
  /-- transport sequence number (R60) -/
  seq : Nat
  layer : Nat
  mask : Nat
  startEt : Tick
  priority : Nat
  words : List Nat
  state : SegState
  items : List Item
  heads : List SegHead
  /-- order of admission, 0 before it -/
  admitNo : Nat
  promise : Tick
  slack : Int
  /-- the first break cause (R105) -/
  broke : Option Nat
  finalEt : Tick
  /-- defect map records of the segment so far -/
  defects : Nat
  /-- its DIGEST has been formed (R476) -/
  digested : Bool
  /-- in a pair, what DIGEST covers beside the plan: set-point groups, line buffer entries, CUT onsets (R476) -/
  groups : List Byte
  entries : List Byte
  cuts : List Byte
  deriving DecidableEq, Repr

/-- The history of R119: what is kept of a segment in a final state. -/
structure SegHistory where
  id : Nat
  state : SegState
  promise : Tick
  slack : Int
  broke : Option Nat
  /-- what its later records name it by: its key (none where it was refused in reception) and LAYER (R114, R716) -/
  key : Option Nat
  layer : Nat
  deriving DecidableEq, Repr

/-- The segment in reception (R396 to R399). -/
structure Reception where
  seq : Nat
  bytes : List Byte
  /-- data is being discarded until the next frame with START set -/
  discarding : Bool
  deriving DecidableEq, Repr

/-- The Reckoner, the staging queues, the set store and the credit account. -/
structure Job where
  segments : List Segment
  history : List SegHistory
  params : List ParamVersion
  nextVersion : Nat
  /-- PARAM items admitted per set, sets with none left out (R77) -/
  paramWrites : List (Nat × Nat)
  receiving : Option Reception
  nextKey : Nat
  nextAdmit : Nat
  /-- per head, the key of the segment admitted last and its last set-point (R95, R98) -/
  tails : List (HeadNo × Nat × Pos)
  /-- JOB_OFFSET delivered so far in the session (R397) -/
  offset : Nat
  /-- freed bytes not yet made up to a unit of 4 KiB, and units not yet granted, in bytes (R86) -/
  freedRemainder : Nat
  unsentGrant : Nat
  /-- exposure read latencies measured, newest first, at most 1,048,576 (R96) -/
  latencies : List Nat
  /-- RECORD_SEQ of the next defect map record (R114) -/
  nextDefect : Nat
  /-- the DRAM ledger log: SEGMENT_ID, head and the eight books of each head at a close (R113) -/
  ledgerLog : List (Nat × HeadNo × List Tally)
  /-- the DRAM defect log: closed records as 64 bytes (R116) -/
  defectLog : List (List Byte)
  deriving DecidableEq, Repr

/-! ### Heads: path, firing, link, camera, control (R121 to R367) -/

/-- One piece of the commanded path (R121): PHASE code of R149, start and duration in fine ticks, its ends in fine
units, the jump profile, the F values at its ends in 1/256 µm (jump and settle), and the stretch it belongs to. -/
structure Piece where
  phase : Nat
  start : Nat
  dur : Nat
  p0 : Pos
  p1 : Pos
  profile : JumpPhases
  f0 : Int
  f1 : Int
  stretch : Nat
  deriving DecidableEq, Repr

/-- KIND of a line buffer entry (R172). -/
inductive EdgeKind where
  | on
  | off
  | level
  | preheatOn
  deriving DecidableEq, Repr

/-- A planned or buffered edge of one beamlet (R172), with the work it belongs to. -/
structure Edge where
  et : Tick
  kind : EdgeKind
  power : Nat
  seg : Nat
  item : Nat
  stretch : Nat
  deriving DecidableEq, Repr

/-- A marked stretch of the item in progress (R134, R219 to R224). -/
structure Stretch where
  /-- the reference point's path, in fine units -/
  path : List Pos
  mask : Nat
  /-- speed after derating, µm/s -/
  speed : Nat
  /-- fine ticks at which its pre-heat hold or lead-in begins, its marked part begins, its marked part ends, its
  lead-out ends -/
  entry : Nat
  mark : Nat
  markEnd : Nat
  finish : Nat
  /-- d_b of beamlets 0 to 7 at the start of the stretch (R167) -/
  delays : List Int
  envelope : List Line
  passed : Bool
  /-- ET of its first entry check -/
  firstCheck : Option Tick
  waited : Bool
  keepoutCounted : Bool
  /-- the stretch is withheld whole under R188 -/
  withheld : Bool
  deriving DecidableEq, Repr

/-- An item in time on a head: in progress, planned ahead of its boundary (R173, R190), or ended a short while ago. -/
structure ItemRun where
  seg : Nat
  item : Nat
  start : Tick
  /-- derating factor S, 8 to 16 (R183) -/
  factor : Nat
  pieces : List Piece
  stretches : List Stretch
  /-- planned edges not yet in the line buffers, per beamlet -/
  planned : List (List Edge)
  /-- end of the item's motion, fine ticks -/
  finish : Nat
  /-- F_OFFSET, µm, and F_th, 0.01 µm, of the item (R144, R145) -/
  fOffset : Int
  fThermal : Int
  /-- events clamped (R171) and ticks of pre-heat hold (R181), counted as the item begins -/
  early : Nat
  holdTicks : Nat
  deriving DecidableEq, Repr

/-- Why a head without an item in progress is holding (R153). -/
inductive HoldReason where
  | idle
  | pause
  | barrier (id : Nat)
  | data
  | drain
  deriving DecidableEq, Repr

/-- A suppression of planned emission in force on a head: from a segment's item, or one stretch of it. -/
structure Suppression where
  seg : Nat
  item : Nat
  stretch : Option Nat
  cause : Nat
  detail : Nat
  deriving DecidableEq, Repr

/-- An open defect map record (R114, R116). -/
structure DefectRecord where
  cause : Nat
  /-- the stretch it is confined to, if any -/
  stretch : Option Nat
  head : HeadNo
  mask : Nat
  withheld : Bool
  seg : Nat
  item : Nat
  detail : Nat
  etStart : Tick
  etEnd : Tick
  start : Int × Int
  finish : Int × Int
  energy : Int
  /-- it covers slots that the head end reported dark, and closes with the reports (R361, R362, R474) -/
  reported : Bool
  /-- beamlets whose cause still holds, for abnormal stretches -/
  active : Nat
  /-- the last tick of its item, for an abnormal stretch whose item has ended -/
  ends : Option Tick
  deriving DecidableEq, Repr

/-- An item that has begun on a head: its first tick, and the tick after its last once it has ended. -/
structure ItemSpan where
  seg : Nat
  item : Nat
  start : Tick
  stop : Option Tick
  deriving DecidableEq, Repr

/-- A set-point group as sent (R149): servo period k, SP_X, SP_Y, SP_F, PHASE. -/
structure SetPoint where
  k : Nat
  x : Int
  y : Int
  f : Int
  phase : Nat
  deriving DecidableEq, Repr

/-- An actual-position sample (R155): its ET, whether it arrived, and the three positions. -/
structure ActualSample where
  et : Tick
  ok : Bool
  x : Int
  y : Int
  f : Int
  deriving DecidableEq, Repr

/-- The emission of one beamlet at the frame boundary: planned word in force, and whether it was begun by
PREHEAT_ON (R175). -/
structure BeamNow where
  power : Nat
  preheat : Bool
  seg : Nat
  item : Nat
  stretch : Nat
  deriving DecidableEq, Repr

/-- A marked stretch that has begun: its ticks on the commanded path, its tolerance of R158 and its work. -/
structure MarkedSpan where
  first : Tick
  last : Tick
  tolerance : Nat
  seg : Nat
  item : Nat
  stretch : Nat
  deriving DecidableEq, Repr

/-- A head's path generator and beamlet sequencer. -/
structure HeadPath where
  run : Option ItemRun
  /-- items planned ahead of their boundaries, in order (R173, R190) -/
  ahead : List ItemRun
  /-- items whose motion has ended, oldest first, kept while entries of theirs wait for room or the guard looks back to them -/
  recent : List ItemRun
  hold : HoldReason
  /-- the segment whose part the head is executing -/
  seg : Option Nat
  /-- commanded position while holding, fine units, and the F_OFFSET in use, µm -/
  pos : Pos
  fOffset : Int
  /-- fine tick at which the last item's motion ended -/
  endedAt : Nat
  /-- pieces of the commanded path of items that have ended, newest first, kept for the instants that lags and camera
  records look back to -/
  trail : List Piece
  /-- F_th in use, 0.01 µm, and whether a valid temperature has arrived (R145, R146) -/
  fThermal : Int
  /-- valid optics temperatures with the ET of their frames, newest first (R145) -/
  temps : List (Tick × Int)
  setPoints : List SetPoint
  actuals : List ActualSample
  overspeedCount : Nat
  /-- the first tick that no assembled frame holds yet -/
  bookedTo : Tick
  buffers : List (List Edge)
  beams : List BeamNow
  /-- per beamlet, the levels emitted in assembled frames of the recent past, oldest first -/
  past : List (List Edge)
  /-- marked stretches begun, newest first, kept while a delayed sample can fall in them -/
  marked : List MarkedSpan
  /-- items begun, newest first, kept for the records of camera frames (R116) -/
  items : List ItemSpan
  suppressed : List Suppression
  records : List DefectRecord
  /-- no item has been executed yet: the head is at its park position, and F_OFFSET is PARK_F (R144, R152) -/
  parked : Bool
  deriving DecidableEq, Repr

/-! ### The head link (R325 to R364) -/

/-- The six states of R357. -/
inductive LinkState where
  | disabled
  | acquire
  | align
  | negotiate
  | operation
  | failed
  deriving DecidableEq, Repr

/-- A train in use on a head (R345 to R348): its definition and, for PIXELS, the codes of each beamlet. -/
structure Train where
  number : Nat
  pixels : Bool
  factor : Nat
  beamlets : Nat
  base : Tick
  n : Nat
  m : Nat
  onTicks : Nat
  count : Nat
  powers : List Nat
  delays : List Int
  codes : List (List Nat)
  /-- weight of each element, per beamlet (R348) -/
  weights : List (List Nat)
  /-- messages of its definition still to be sent -/
  unsent : Nat
  stretch : Nat
  item : Nat
  seg : Nat
  deriving DecidableEq, Repr

/-- Delivered energy of one beamlet in a slot, with the work it was booked to. -/
structure SlotBook where
  beam : Nat
  seg : Nat
  item : Nat
  energy : Int
  deriving DecidableEq, Repr

/-- What was booked for a sent downlink frame, kept until the slot is reported (R361 to R363). -/
structure SentSlot where
  frame : Nat
  books : List SlotBook
  deriving DecidableEq, Repr

/-- The book of a head's downlink frames (R117). -/
structure FrameBook where
  assembled : Nat
  sent : Nat
  discarded : Nat
  deriving DecidableEq, Repr

/-- A head link. -/
structure HeadLink where
  state : LinkState
  failReason : Nat
  version : Nat
  /-- w, ticks -/
  delay : Nat
  ident : List Nat
  /-- consecutive valid frames (ACQUIRE, ALIGN) and consecutive invalid frames (OPERATION) -/
  good : Nat
  bad : Nat
  /-- arrivals of K28.5 less 125u + 250, newest first (R358) -/
  arrivals : List Int
  /-- FRAME_LO expected next -/
  nextFrame : Nat
  status : Nat
  optics : Int
  opticsValid : Bool
  opticsWarning : Bool
  trainedEt : Tick
  /-- the four frames of the actual-position sample in reception (R354) -/
  actParts : List (Nat × Nat)
  /-- frames since the last TIME slot, and the content last sent (R338) -/
  sinceTime : Nat
  timeSent : Option (Nat × Nat)
  /-- CAMERA content of completed commits waiting for its slot, oldest first (R338) -/
  camera : List (List Byte)
  /-- TRAIN messages waiting, oldest first, 16 bytes each -/
  trainQueue : List (List Byte)
  trains : List Train
  /-- events already sent as records for later slots -/
  sentEdges : List (Nat × Edge)
  /-- beamlets for which a CLEAR must be sent -/
  clears : Nat
  sent : List SentSlot
  /-- WEIGHT and CODES records of trains already sent for later slots: beamlet, slot, and which of them (0 CODES, n + 1 the n-th WEIGHT) -/
  sentParts : List (Nat × Nat × Nat)
  /-- running disparity of the downlink lane, true for positive (R326) -/
  disparity : Bool
  /-- the uplink pair is found inverted, and corrected (R329) -/
  inverted : Bool
  /-- frames assembled, sent and discarded (R112, R117) -/
  book : FrameBook
  deriving DecidableEq, Repr

/-! ### Sieve (R241 to R283) -/

/-- The camera part of a settings generation and its parameters (R246). -/
structure Generation where
  number : Nat
  format : Nat
  period : Nat
  phase : Nat
  integration : Nat
  gain : Nat
  enable : Bool
  minSignal : Nat
  segThreshold : Nat
  spatterLevel : Nat
  spatterMin : Nat
  spatterMax : Nat
  cameraAngle : Nat
  mosaic : Nat
  budget : Nat
  archiveDec : Nat
  featureDec : Nat
  blackLevel : Nat
  flatField : List Byte
  defectPixels : List Byte
  ratioGain : Nat
  tempTable : List Byte
  deriving DecidableEq, Repr

/-- What the controller was doing at mid-integration of a camera frame (R258, R259). -/
structure MidState where
  /-- key and SEGMENT_ID of the segment running on the head -/
  segment : Option Nat
  id : Nat
  item : Nat
  mask : Nat
  x : Int
  y : Int
  angle : Nat
  moving : Bool
  deriving DecidableEq, Repr

/-- The state of a frame buffer (R267). -/
inductive BufState where
  | receiving
  | queued
  | processing
  | archiving
  deriving DecidableEq, Repr

/-- A camera frame in a buffer. -/
structure CamFrame where
  state : BufState
  seq : Nat
  /-- the generation stamped on it, with its parameters (R248) -/
  gen : Nat
  params : Generation
  format : Nat
  startEt : Tick
  pixels : List Nat
  late : Bool
  /-- dispatched features-only (R270) -/
  featuresOnly : Bool
  /-- ET at which its pass ends -/
  doneAt : Tick
  /-- STATUS of its feature record (R260) -/
  status : Nat
  mid : MidState
  deriving DecidableEq, Repr

/-- A feature record held until its deadline for the control engine (R261). -/
structure HeldRecord where
  deadline : Tick
  bytes : List Byte
  deriving DecidableEq, Repr

/-- One camera frame of a run that a defect map record covers: its integration interval, the beamlets at marking power at its M,
and DETAIL. -/
structure RunFrame where
  first : Tick
  last : Tick
  mask : Nat
  detail : Nat
  deriving DecidableEq, Repr

/-- The part of a run of camera frames that falls to one item: its work, beamlets, DETAIL, and first and last tick (R116). -/
structure OutPart where
  seg : Nat
  item : Nat
  mask : Nat
  detail : Nat
  first : Tick
  last : Tick
  deriving DecidableEq, Repr

/-- Emission as booked: a beamlet lit from a tick until a tick at a commanded word. -/
structure Lit where
  beam : Nat
  first : Tick
  stop : Tick
  word : Nat
  deriving DecidableEq, Repr

/-- A head's camera context. -/
structure Camera where
  /-- the four newest generations, newest first -/
  gens : List Generation
  committed : Nat
  /-- commits accepted whose generations are formed and not complete, oldest first (R246, R338) -/
  forming : List Generation
  /-- GEN_APPLIED, and ENABLE of that generation (R247) -/
  applied : Nat
  appliedOn : Bool
  frames : List CamFrame
  held : List HeldRecord
  lastRecord : List Byte
  /-- flicker: values of the window in progress, its frames, marking seen, the last FRAME_SEQ, ready flag, flags and powers of the
  last completed window (R264 to R266, R283) -/
  window : List Nat
  windowFrames : List RunFrame
  windowMarking : Bool
  lastSeq : Option Nat
  ready : Bool
  flags : Nat
  powers : List Nat
  /-- outliers: consecutive count, whether the stretch has begun, and the frames of it not yet recorded (R263) -/
  outCount : Nat
  outlying : Bool
  outFrames : List RunFrame
  /-- the generation that the statistics are of (R249) -/
  statGen : Nat
  /-- consecutive drops that form one record, and the S_n of the frame that would follow them (R273) -/
  dropFrames : List RunFrame
  dropNext : Tick
  /-- emission booked so far, newest first, for the energy of records -/
  energy : List Lit
  /-- what the head was doing at the mid-integration instants of the generations held, newest first -/
  mids : List (Nat × MidState)
  deriving DecidableEq, Repr

/-- A Sieve pipeline (R268, R269, R280). -/
structure Pipeline where
  /-- the head whose frame is being processed, and the ET at which that pass began -/
  busy : Option HeadNo
  since : Tick
  /-- busy cycles of the latest passes: (end ET, cycles) within the last 1 ms -/
  passes : List (Tick × Nat)
  deriving DecidableEq, Repr

/-- What the pipelines share. -/
structure Sieve where
  pipes : List Pipeline
  /-- archive tokens in bytes, times 10^6, and the ET of the last accrual (R274) -/
  tokens : Nat
  tokensAt : Tick
  /-- frames in the DRAM archive queue, as ARCHIVE payloads with their head -/
  archive : List (List Byte)
  /-- feature records held in the log with their positions, oldest first (R279) -/
  log : List (List Byte)
  oldest : Nat
  deriving DecidableEq, Repr

/-! ### The control engine (R284 to R319) -/

/-- One bin of the repetitive controller that is valid (R307). -/
structure Bin where
  index : Nat
  value : Int
  deriving DecidableEq, Repr

/-- What a channel knows of a marked stretch of its beamlet (R296, R299, R307, R310). -/
structure ChannelStretch where
  seg : Nat
  item : Nat
  stretch : Nat
  /-- t_P, D and d_b, ticks -/
  start : Tick
  length : Nat
  delay : Int
  /-- P_nom -/
  nominal : Nat
  set : Nat
  version : Nat
  law : Nat
  /-- the first stretch of an item whose set has SOFT_START -/
  soft : Bool
  deriving DecidableEq, Repr

/-- The first ET of a channel's stretch. -/
def ChannelStretch.begins (x : ChannelStretch) : Int := (x.start : Int) + x.delay

/-- The ET at which a channel's stretch has ended. -/
def ChannelStretch.ends (x : ChannelStretch) : Int := x.begins + x.length

/-- One control channel. -/
structure Channel where
  enabled : Bool
  darkL : Nat
  darkS : Nat
  darkValid : Bool
  /-- samples of a capture in progress -/
  darkSums : Option (Nat × Nat × Nat)
  law : Nat
  /-- training key: set, version, law, WRITES (R310) -/
  key : Option (Nat × Nat × Nat × Nat)
  i : Int
  vpi : Int
  /-- histories x1 x2 y1 y2 of both biquads -/
  bq1 : List Int
  bq2 : List Int
  o : Int
  /-- outer updates that apply from a sample instant on (R304), oldest first: their ET, m(KO, FEATURE_TARGET − F) and OUTER_LIMIT -/
  oWaiting : List (Tick × Int × Int)
  /-- bins, ascending, the invalid ones left out -/
  bins : List Bin
  rcLines : Nat
  accBin : Nat
  accSum : Int
  accCount : Nat
  committed : Bool
  /-- output computed and the frame start from which it applies; output in use; t_s of the sample behind it -/
  next : List (Tick × Int × Tick)
  u : Int
  sampleOf : Option Tick
  /-- ramp: waiting, or started at (T_0, k) -/
  rampWaiting : Bool
  ramp : Option (Int × Nat)
  boundRun : Nat
  boundFirst : Tick
  holdRun : Nat
  holdFirst : Tick
  holdReasons : Nat
  /-- emission was removed since its last stretch (R305) -/
  interrupted : Bool
  /-- the stretch under way or run last, and the stretches planned after it, oldest first -/
  stretch : Option ChannelStretch
  stretches : List ChannelStretch
  deriving DecidableEq, Repr

/-- A work item of a lane (R311): an update with its two readings, an outer update with its record, or the place of a missing sample
behind updates that still wait, which costs nothing (R314). -/
inductive LaneWork where
  | missing (et : Tick) (h : HeadNo) (b : Nat)
  | update (et : Tick) (h : HeadNo) (b : Nat) (pdL pdS : Nat)
  | outer (et : Tick) (h : HeadNo) (b : Nat) (record : List Byte)
  deriving DecidableEq, Repr

/-- A lane (R311, R312). -/
structure Lane where
  waiting : List LaneWork
  freeAt : Tick
  /-- (end ET, cycles) of its work within the last 1 ms -/
  passes : List (Tick × Nat)
  deriving DecidableEq, Repr

/-- A sample rate on its way: MS/s, the frame whose TIME slot announces it, and M (R339). -/
structure RateChange where
  rate : Nat
  frame : Nat
  at_ : Tick
  deriving DecidableEq, Repr

/-- The control engine. -/
structure Engine where
  lanes : List Lane
  /-- rate changes on their way, in the order of their M (R339) -/
  rateChanges : List RateChange
  /-- MS/s in force -/
  rate : Nat
  deriving DecidableEq, Repr

/-- Everything the controller holds for one head. -/
structure Head where
  path : HeadPath
  link : HeadLink
  camera : Camera
  channels : List Channel
  deriving DecidableEq, Repr


/-! ### Exposure Time and Network Time (R422 to R449) -/

/-- The servo states of R436. -/
inductive ServoState where
  | noMaster
  | locked
  | slewing
  | holdover
  deriving DecidableEq, Repr

/-- What an Announce offers (R434): the data sets compared, and where it was heard. -/
structure Announce where
  port : Nat
  /-- grandmasterPriority1, clockClass, clockAccuracy, offsetScaledLogVariance, grandmasterPriority2 -/
  quality : List Nat
  identity : Nat
  stepsRemoved : Nat
  senderId : Nat
  deriving DecidableEq, Repr

/-- NT: anchor (E_A, N_A), rate and servo (R426, R436). -/
structure TimeUnit where
  /-- E_A, ticks -/
  anchorEt : Int
  /-- N_A, 0.1 ns -/
  anchorNt : Int
  /-- ρ and ρ_f, 2^−40 -/
  rho : Int
  rhoF : Int
  /-- NT has not been acquired since start-up (R430) -/
  unset : Bool
  servo : ServoState
  /-- the selected grandmaster and port, and the masters heard on both ports -/
  master : Option Announce
  heard : List Announce
  /-- the newest accepted exchange: offset in 0.1 ns and its ET in ticks -/
  last : Option (Int × Tick)
  /-- ET of the latest step (R435, R442) -/
  stepEt : Option Tick
  /-- the exchange in progress: sequenceId and ET of its first stamp (R435) -/
  exchange : Option (Nat × Tick)
  /-- the grandmasterIdentity selected last, 0 before any (R440) -/
  lastIdentity : Nat
  /-- corrections of the ports' stamps in force before a write: the object, the value, and the ET of the write (R432) -/
  corrections : List (Nat × Int × Tick)
  /-- sequenceId of the next Delay_Req (R435) -/
  delaySeq : Nat
  deriving DecidableEq, Repr

/-! ### The twin (R450 to R480) -/

/-- Twin roles (R453). -/
inductive Role where
  | solo
  | primary
  | shadow
  | cold
  deriving DecidableEq, Repr

/-- The content of a NEGOTIATE message (R456). -/
structure Negotiate where
  versionMax : Nat
  versionMin : Nat
  systemFirmware : Nat
  microcode : Nat
  digest : Nat
  rank : Nat
  serial : Nat
  deriving DecidableEq, Repr

/-- A numbered message kept for repetition (R457). -/
structure TwinSent where
  seq : Nat
  sentEt : Tick
  kind : Nat
  fields : List Int
  deriving DecidableEq, Repr

/-- An order of the PRIMARY held until its moment (R460, R461, R31). -/
inductive TwinOrder where
  | plan (seg head kind item : Nat) (at_ : Tick) (value : Nat)
  | state (request cause : Nat) (at_ : Tick)
  deriving DecidableEq, Repr

/-- A Tally snapshot of one channel (R456, LEDGER). -/
structure LedgerRow where
  et : Tick
  seg : Nat
  channel : Nat
  tally : Tally
  /-- the own amounts of the channel as the snapshot came in -/
  own : Tally
  deriving DecidableEq, Repr

/-- The twin unit. -/
structure Twin where
  role : Role
  coldCause : Nat
  linkLock : Bool
  version : Nat
  partnerSerial : Nat
  linkDelay : Nat
  epoch : Nat
  /-- PAIR_OFFSET; Clk.et is the ET in use, counter plus this offset (R458) -/
  pairOffset : Int
  /-- what the measurement over the link gave for PAIR_OFFSET, fixed when the controller becomes SHADOW (R458) -/
  offsetSeen : Int
  partner : Option Negotiate
  partnerRole : Role
  partnerState : Nat
  txSeq : Nat
  rxNext : Nat
  /-- numbers of messages received beyond a gap (R457) -/
  beyond : List Nat
  /-- the numbers below it have been seen or asked for (R457) -/
  askedTo : Nat
  kept : List TwinSent
  orders : List TwinOrder
  /-- SEND_ET of the newest valid HEARTBEAT, ET of the newest edge on TWIN_ALIVE_IN, ET of the newest own HEARTBEAT -/
  heardEt : Option Tick
  aliveEt : Option Tick
  ownEt : Option Tick
  /-- level of TWIN_ALIVE_OUT -/
  aliveOut : Bool
  /-- copies of frames sent to host software, not yet acknowledged (R465) -/
  hostCopies : List TreyxFrame
  ledger : List LedgerRow
  /-- DECISIONs to follow, oldest first: SEQ of the message, transport sequence number, T_REF, L_DRAM (R459) -/
  decision : List (Nat × Nat × Tick × Nat)
  /-- writes of the PRIMARY that wait for their decision: BEFORE_SEQ, index, subindex and value (R464) -/
  writes : List (Nat × Nat × Nat × List Byte)
  /-- own outcomes awaiting the PRIMARY's, and the PRIMARY's awaiting ours: (sequence, id, code, promise) -/
  ownOutcome : List (Nat × Nat × Nat × Nat)
  outcome : List (Nat × Nat × Nat × Nat)
  digests : List (Nat × Nat)
  partnerDigests : List (Nat × Nat)
  /-- recoater COUNT and newest recoat layer of the motion controller (R466) -/
  motionCount : Int
  motionLayer : Option Nat
  /-- F of the latest takeover, while its gap records are open (R474) -/
  gapFrame : Option Tick
  /-- ET since which the device states have differed -/
  divergedAt : Option Tick
  deriving DecidableEq, Repr

/-! ### Motion (R481 to R523) -/

/-- Axis states (R481). -/
inductive AxisState where
  | disabled
  | hold
  | moving
  | homing
  | stopping
  | limit
  | faulted
  deriving DecidableEq, Repr

/-- One coil's chopper (R489 to R491). -/
structure Coil where
  /-- threshold offset, 1/256 code -/
  offset : Int
  /-- consecutive cycles that reached ON_TIME_MAX -/
  runs : Nat
  /-- target of the chopping cycle in progress, DAC codes; 0: no cycle, both gate outputs low (R488, R490) -/
  target : Int
  /-- the threshold of that cycle (R489) -/
  dac : Nat
  /-- the output that drives: 1 GATE_m_AH or BH, −1 GATE_m_AL or BL, 0 neither (R487) -/
  drive : Int
  /-- the output that fell last, and when (R487) -/
  fell : Option (Int × Tick)
  deriving DecidableEq, Repr

/-- A motion in progress: jerk segments from an initial state. Times are in 2^−48 io cycle; the position unit is
1/(6 × 10^24 × 2^144) microstep, so that the cubic pieces stay integers (R493). -/
structure Ramp where
  start : Tick
  /-- +1 or −1 -/
  dir : Int
  /-- (jerk in microsteps/s³, duration) -/
  pieces : List (Int × Nat)
  /-- initial position within the first microstep, twice the velocity, acceleration, in the units above -/
  p0 : Int
  w0 : Int
  a0 : Int
  /-- microsteps of the whole motion and those done -/
  total : Nat
  done : Nat
  /-- io cycle of the last step, from the start, and the value loaded into the step timer -/
  lastIo : Nat
  timer : Nat
  deriving DecidableEq, Repr

/-- The phase of a homing sequence (R500). -/
inductive HomePhase where
  | search
  | slow
  | park
  deriving DecidableEq, Repr

/-- Homing in progress on one member. -/
structure Homing where
  phase : HomePhase
  /-- candidate and latch: (commanded position, encoder count) -/
  candidate : Option (Int × Int)
  latch : Option (Int × Int)
  /-- within CHATTER_WINDOW of qualification -/
  chatter : Bool
  /-- this member has stopped stepping (R498) -/
  parked : Bool
  deriving DecidableEq, Repr

/-- What an axis becomes when its motion ends. -/
inductive RestInto where
  | hold
  | limit (side : Bool)
  | faulted (reason : Nat)
  deriving DecidableEq, Repr

/-- One stepper axis. -/
structure Axis where
  state : AxisState
  position : Int
  /-- phase index 0 to 1,023 (R488) -/
  phase : Nat
  homed : Bool
  /-- enabled since its gate outputs last went low: the coils are chopped (R481) -/
  powered : Bool
  /-- coils at run current (moving, or HOLD_DELAY not yet passed) -/
  running : Bool
  coilA : Coil
  coilB : Coil
  ramp : Option Ramp
  homing : Option Homing
  into : RestInto
  /-- levels, true when active -/
  homeActive : Bool
  limitActive : Bool
  /-- side of the tripped limit: true positive; none unknown -/
  limitSide : Option Bool
  deriving DecidableEq, Repr

/-- One encoder channel (R504 to R508). -/
structure Encoder where
  count : Int
  /-- accepted levels A, B (or U, V, W) as a number: A in bit 1 and B in bit 0, or U in bit 2 -/
  accepted : Nat
  levels : Nat
  /-- the MIN_EDGE window after an accepted edge is open -/
  window : Bool
  indexPrev : Option Int
  /-- DIRECTION 0, 1, 2; its reference count while undefined, its extreme once defined -/
  direction : Nat
  dirRef : Int
  deriving DecidableEq, Repr

/-- A probe event (R509). -/
structure ProbeEvent where
  et : Tick
  counts : List Int
  positions : List Int
  deriving DecidableEq, Repr

/-- One probe input. -/
structure Probe where
  queue : List ProbeEvent
  deriving DecidableEq, Repr

/-- One compare output (R510). -/
structure Compare where
  armed : Bool
  limited : Bool
  asserted : Bool
  deriving DecidableEq, Repr

/-- RECOAT_STATE (R523). -/
inductive RecoatState where
  | idle
  | before
  | after
  | failed
  deriving DecidableEq, Repr

/-- The recoat program (R511 to R515). -/
structure Recoat where
  state : RecoatState
  layer : Nat
  step : Nat
  reported : Nat
  valid : Bool
  reportEt : Tick
  deriving DecidableEq, Repr

/-- The motion block. -/
structure Motion where
  axes : List Axis
  encoders : List Encoder
  probes : List Probe
  compares : List Compare
  recoat : Recoat
  deriving DecidableEq, Repr

/-! ### DRAM (R524 to R554) -/

/-- Where a channel stands in the alert sequence of R533. -/
inductive AlertPhase where
  | none
  | low
  | replay
  deriving DecidableEq, Repr

/-- A client of the memory controller (R536, R554). -/
structure ReadRepeat where
  client : Nat
  address : Nat
  repeats : Nat
  deriving DecidableEq, Repr

/-- What a channel issues to its devices: an ACTIVATE, the refresh of a neighbouring row, the read of a line, the write of a line with
its parity, a refresh and a short ZQ calibration of a rank (R528 to R541). -/
inductive DramCommand where
  | activate
  | neighbour
  | read (address : Nat)
  | write (address : Nat) (line : List Byte)
  | refresh (rank : Nat)
  | calibrate (rank : Nat)
  deriving DecidableEq, Repr

/-- A line accepted for writing and not yet drained to the devices, with its parity (R529, R539). -/
structure DramWrite where
  address : Nat
  line : List Byte
  deriving DecidableEq, Repr

/-- A read that waits for a matching write to drain, and since when (R538, R539). -/
structure BlockedRead where
  command : Instr
  since : Tick
  deriving DecidableEq, Repr

/-- One DRAM channel. -/
structure DramChannel where
  trained : Bool
  alert : AlertPhase
  /-- the retry buffer: the 16 commands issued last and the ET of each, oldest first (R532) -/
  issued : List (Tick × DramCommand)
  /-- commands that wait to be issued, and how many of the first are replayed ones (R532, R533) -/
  toIssue : List DramCommand
  replaying : Nat
  /-- ET at which ALERT_N fell last (R533) -/
  fellAt : Tick
  /-- consecutive sequences of R533 that ended in a fall before their replay completed -/
  falls : Nat
  /-- reads being repeated -/
  repeats : List ReadRepeat
  /-- postponed refresh commands per rank, 0 to 4 -/
  postponed : List Nat
  refreshes : Nat
  zqCalibrations : Nat
  doubled : Bool
  lfsr : Nat
  /-- die temperature at the interface at the last training, 0.01 °C -/
  trainedAt : Int
  lastTrain : Tick
  retraining : Bool
  /-- a retraining waits for an alert sequence or read repeats to end (R550) -/
  retrainDue : Bool
  /-- the rank in training has been repeated once (R546) -/
  repeated : Bool
  /-- no CASE_TEMP has been written within 1 s (R542) -/
  caseStale : Bool
  deriving DecidableEq, Repr

/-- The memory subsystem: both channels, the write queue of both in order of acceptance, and the area sizes in force since step 3
(R527, R539). -/
structure Dram where
  channels : List DramChannel
  writes : List DramWrite
  blocked : List BlockedRead
  logMiB : Nat
  archiveFrames : Nat
  /-- head summaries: segment key, head, planned energy per beamlet, and which copies are readable (R548) -/
  summaries : List (Nat × HeadNo × List Int × Nat)
  /-- positions of feature log records whose line read uncorrectable, until the log is read (R536) -/
  unread : List Nat
  deriving DecidableEq, Repr

/-! ### Clock unit (R555 to R571) -/

/-- A recovered source: its lock, since when it has held, and its qualification (R559). -/
structure Source where
  lock : Bool
  /-- island time at which the lock was gained -/
  since : Nat
  qualified : Bool
  deriving DecidableEq, Repr

/-- The clock unit. -/
structure ClockUnit where
  root : Nat
  portA : Source
  portB : Source
  twinLink : Source
  xoQualified : Bool
  /-- consecutive good gates of the oscillator while unqualified, and the newest 8 gate offsets, 0.01 ppm -/
  xoGood : Nat
  xoOffsets : List Int
  /-- gates since the root took its present source (R559) -/
  rootGates : Nat
  /-- HOLDOVER_TIME has passed since the preferred source lost qualification, or the preferred source has not lost any -/
  holdoverSpent : Bool
  inHoldover : Bool
  holdoverFrom : Tick
  /-- start-up judgement: counts of the latest gates, newest first, and gates used -/
  judged : List Nat
  judgeGates : Nat
  judgeRef : Nat
  stable : Bool
  mainLock : Bool
  dramLock : Bool
  serdesLock : Bool
  freqBusy : Bool
  deriving DecidableEq, Repr

/-! ### Thermal monitor (R572 to R586) -/

/-- One die sensor (R574). -/
structure Sensor where
  reading : Int
  excluded : Bool
  /-- consecutive disagreeing measurements while valid -/
  disagree : Nat
  /-- island time since which it has agreed while excluded -/
  agreeSince : Option Nat
  deriving DecidableEq, Repr

/-- The thermal monitor. -/
structure Thermal where
  sensors : List Sensor
  fast : Bool
  warning : Bool
  tripped : Bool
  /-- island time of the latest reading at or above 118.00 °C -/
  hotAt : Nat
  limitSet : Bool
  /-- every sensor that took part in the newest measurement read below 100.00 °C (R576, R582) -/
  cool : Bool
  deriving DecidableEq, Repr

/-! ### Firmware, factory block (R615 to R634) -/

/-- A slot: the two images as written, header and body (R619). -/
structure Slot where
  sf : Option (List Byte)
  mc : Option (List Byte)
  deriving DecidableEq, Repr

/-- A copy of the boot record (R631). -/
structure BootRecord where
  seq : Nat
  preferred : Nat
  trial : Nat
  /-- the slot on trial -/
  trialSlot : Nat
  deriving DecidableEq, Repr

/-- The images in flash and what runs. -/
structure Images where
  slotA : Slot
  slotB : Slot
  boot : List BootRecord
  running : Option Nat
  tested : Bool
  fallback : Bool
  block : List Byte
  /-- the block that the latest step 4 found valid, whose trims and presets are used until the next entry to BOOT or AUX
  (R617, R618) -/
  inUse : Option (List Byte)
  blockValid : Bool
  failReason : Nat
  deriving DecidableEq, Repr

/-! ### The test access port (R682 to R684) -/

/-- The sixteen states of the IEEE 1149.1 controller. -/
inductive TapState where
  | testLogicReset
  | runTestIdle
  | selectDr
  | captureDr
  | shiftDr
  | exit1Dr
  | pauseDr
  | exit2Dr
  | updateDr
  | selectIr
  | captureIr
  | shiftIr
  | exit1Ir
  | pauseIr
  | exit2Ir
  | updateIr
  deriving DecidableEq, Repr

/-- The instructions of R682. -/
inductive TapInstr where
  | bypass
  | idcode
  | samplePreload
  | extest
  | clamp
  | highz
  deriving DecidableEq, Repr

/-- The instruction that stays when EXTEST, CLAMP and HIGHZ may not be in effect (R683). -/
def TapInstr.harmless : TapInstr → TapInstr
  | .bypass => .bypass
  | .idcode => .idcode
  | .samplePreload => .samplePreload
  | .extest => .bypass
  | .clamp => .bypass
  | .highz => .bypass

/-- The port: controller state, instruction in effect, the shift path as bits (first out first), the boundary
register's update latches for the balls the model knows, and TDO. -/
structure Tap where
  state : TapState
  instr : TapInstr
  shiftIr : List Bool
  shiftDr : List Bool
  latches : List Bool
  tdo : Option Bool
  deriving DecidableEq, Repr

/-! ### The whole -/

/-- The state of the ZH-3256. -/
structure State where
  /-- the commands that wait, first in, first out -/
  pending : List Instr
  /-- commands of the present CLK_SYS cycle that give way to others of the same cycle (R28, R82, R407, R442): the model's own
  field -/
  deferred : List Instr
  dev : Dev
  power : Power
  clk : Clk
  fuses : Fuses
  /-- numeric values of the dictionary that differ from their defaults, by 256 × index + subindex, keys rising -/
  regs : List (Nat × Int)
  /-- DOMAIN and string values that are not empty, in the same way -/
  blobs : List (Nat × List Byte)
  flash : FlashStore
  leaves : List Leaf
  recorder : Recorder
  /-- session 0 is the SPI port; 1 to 4 are the ring sessions -/
  sessions : List Session
  auth : Auth
  spi : Spi
  ring : Ring
  /-- frames of the controller's own that wait for a port with no forwarded frame: the port and the bytes (R374) -/
  ownWaiting : List (Nat × List Byte)
  out : List Out
  job : Job
  heads : List Head
  sieve : Sieve
  engine : Engine
  time : TimeUnit
  twin : Twin
  motion : Motion
  dram : Dram
  clocks : ClockUnit
  thermal : Thermal
  images : Images
  tap : Tap
  /-- how many free values have been drawn: the model's own field -/
  fresh : Nat
  deriving DecidableEq, Repr

/-! ### Reset -/

/-- A closed session. -/
def Session.closed : Session where
  isOpen := false
  peer := 0
  level := .observer
  openLevel := .observer
  job := false
  ringVersion := 0
  dictVersion := 0
  formatVersion := 0
  txSeq := 0
  txCount := 0
  unacked := []
  backlog := []
  rxNext := 0
  held := []
  fragments := []
  ackOwed := false
  ackLimit := none
  repeatedAt := none
  subscribe := 0
  eventMask := 0
  takeMasks := []
  recArea := 1
  recCursor := 0
  recOffset := 0
  challenge := none
  transfer := none

/-- The SPI port: a session of its own, open at Observer level (R386, R414). -/
def Session.port : Session := { Session.closed with isOpen := true }

/-- A head's path generator before any movement: at the park position of the defaults. -/
def HeadPath.initial : HeadPath where
  run := none
  ahead := []
  recent := []
  hold := .idle
  seg := none
  pos := (0, 0)
  fOffset := 0
  endedAt := 0
  trail := []
  fThermal := 0
  temps := []
  setPoints := []
  actuals := []
  overspeedCount := 0
  bookedTo := 0
  buffers := List.replicate 8 []
  beams := List.replicate 8 ⟨0, false, 0, 0, 0⟩
  past := List.replicate 8 []
  marked := []
  items := []
  suppressed := []
  records := []
  parked := true

/-- A disabled head link. -/
def HeadLink.initial : HeadLink where
  state := .disabled
  failReason := 0
  version := 0
  delay := 0
  ident := []
  good := 0
  bad := 0
  arrivals := []
  nextFrame := 0
  status := 0
  optics := 0
  opticsValid := false
  opticsWarning := false
  trainedEt := 0
  actParts := []
  sinceTime := 0
  timeSent := none
  camera := []
  trainQueue := []
  trains := []
  sentEdges := []
  clears := 0
  sent := []
  sentParts := []
  disparity := false
  inverted := false
  book := ⟨0, 0, 0⟩

/-- Generation 0: the dictionary defaults, camera disabled (R246, R281). -/
def Generation.initial : Generation where
  number := 0
  format := 0
  period := 15625
  phase := 0
  integration := 12500
  gain := 0
  enable := false
  minSignal := 64
  segThreshold := 17000
  spatterLevel := 1024
  spatterMin := 1
  spatterMax := 64
  cameraAngle := 0
  mosaic := 0
  budget := 15625
  archiveDec := 0
  featureDec := 0
  blackLevel := 0
  flatField := []
  defectPixels := []
  ratioGain := 4096
  tempTable := []

/-- A camera context with generation 0. -/
def Camera.initial : Camera where
  gens := [Generation.initial]
  committed := 0
  forming := []
  applied := 0
  appliedOn := false
  frames := []
  held := []
  lastRecord := []
  window := []
  windowFrames := []
  windowMarking := false
  lastSeq := none
  ready := false
  flags := 0
  powers := []
  outCount := 0
  outlying := false
  outFrames := []
  statGen := 0
  dropFrames := []
  dropNext := 0
  energy := []
  mids := []

/-- A control channel with an open loop and no history (R305). -/
def Channel.initial : Channel where
  enabled := false
  darkL := 0xFFFF
  darkS := 0xFFFF
  darkValid := false
  darkSums := none
  law := 0
  key := none
  i := 0
  vpi := 0
  bq1 := [0, 0, 0, 0]
  bq2 := [0, 0, 0, 0]
  o := 0
  oWaiting := []
  bins := []
  rcLines := 0
  accBin := 0
  accSum := 0
  accCount := 0
  committed := false
  next := []
  u := 0
  sampleOf := none
  rampWaiting := false
  ramp := none
  boundRun := 0
  boundFirst := 0
  holdRun := 0
  holdFirst := 0
  holdReasons := 0
  interrupted := false
  stretch := none
  stretches := []

/-- A head. -/
def Head.initial : Head :=
  ⟨HeadPath.initial, HeadLink.initial, Camera.initial, List.replicate 8 Channel.initial⟩

/-- An empty job side. -/
def Job.initial : Job where
  segments := []
  history := []
  params := []
  nextVersion := 1
  paramWrites := []
  receiving := none
  nextKey := 1
  nextAdmit := 1
  tails := []
  offset := 0
  freedRemainder := 0
  unsentGrant := 0
  latencies := []
  nextDefect := 0
  ledgerLog := []
  defectLog := []

/-- Idle Sieve pipelines. -/
def Sieve.initial : Sieve where
  pipes := List.replicate 4 ⟨none, 0, []⟩
  tokens := 0
  tokensAt := 0
  archive := []
  log := []
  oldest := 0

/-- Idle control lanes at the default sample rate. -/
def Engine.initial : Engine where
  lanes := List.replicate 8 ⟨[], 0, []⟩
  rateChanges := []
  rate := 1

/-- NT before acquisition (R429). -/
def TimeUnit.initial : TimeUnit where
  anchorEt := 0
  anchorNt := 0
  rho := 0
  rhoF := 0
  unset := true
  servo := .noMaster
  master := none
  heard := []
  last := none
  stepEt := none
  exchange := none
  lastIdentity := 0
  corrections := []
  delaySeq := 0

/-- The twin unit of a SOLO controller (R454). -/
def Twin.initial : Twin where
  role := .solo
  coldCause := 0
  linkLock := false
  version := 0
  partnerSerial := 0
  linkDelay := 0
  epoch := 0
  pairOffset := 0
  offsetSeen := 0
  partner := none
  partnerRole := .solo
  partnerState := 0
  txSeq := 1
  rxNext := 1
  beyond := []
  askedTo := 1
  kept := []
  orders := []
  heardEt := none
  aliveEt := none
  ownEt := none
  aliveOut := false
  hostCopies := []
  ledger := []
  decision := []
  writes := []
  ownOutcome := []
  outcome := []
  digests := []
  partnerDigests := []
  motionCount := 0
  motionLayer := none
  gapFrame := none
  divergedAt := none

/-- A disabled axis. -/
def Axis.initial : Axis where
  state := .disabled
  position := 0
  phase := 0
  homed := false
  powered := false
  running := false
  coilA := ⟨0, 0, 0, 0, 0, none⟩
  coilB := ⟨0, 0, 0, 0, 0, none⟩
  ramp := none
  homing := none
  into := .hold
  homeActive := false
  limitActive := false
  limitSide := none

/-- The motion block: no current, no report in force (R483, R516). -/
def Motion.initial : Motion where
  axes := List.replicate 8 Axis.initial
  encoders := List.replicate 8 ⟨0, 0, 0, false, none, 0, 0⟩
  probes := List.replicate 4 ⟨[]⟩
  compares := List.replicate 4 ⟨false, false, false⟩
  recoat := ⟨.idle, 0, 0, 0, false, 0⟩

/-- A channel before training: REFRESH_DOUBLED 1, no CASE_TEMP written. -/
def DramChannel.initial : DramChannel where
  trained := false
  alert := .none
  issued := []
  toIssue := []
  replaying := 0
  fellAt := 0
  falls := 0
  repeats := []
  postponed := [0, 0]
  refreshes := 0
  zqCalibrations := 0
  doubled := true
  lfsr := 0
  trainedAt := 0
  lastTrain := 0
  retraining := false
  retrainDue := false
  repeated := false
  caseStale := true

/-- The clock unit at the exit from AUX: on the oscillator, judgement not begun (R556, R570). -/
def ClockUnit.initial : ClockUnit where
  root := 2
  portA := ⟨false, 0, false⟩
  portB := ⟨false, 0, false⟩
  twinLink := ⟨false, 0, false⟩
  xoQualified := false
  xoGood := 0
  xoOffsets := []
  rootGates := 0
  holdoverSpent := true
  inHoldover := false
  holdoverFrom := 0
  judged := []
  judgeGates := 0
  judgeRef := 0xFF
  stable := false
  mainLock := false
  dramLock := false
  serdesLock := false
  freqBusy := false

/-- The monitor at the exit from AUX: every sensor valid (R715). -/
def Thermal.initial : Thermal where
  sensors := List.replicate 16 ⟨0, false, 0, none⟩
  fast := false
  warning := false
  tripped := false
  hotAt := 0
  limitSet := false
  cool := false

/-- The flash as the device finds it: empty slots, no boot record, an erased block. -/
def Images.initial : Images where
  slotA := ⟨none, none⟩
  slotB := ⟨none, none⟩
  boot := []
  running := none
  tested := false
  fallback := false
  block := []
  inUse := none
  blockValid := false
  failReason := 0

/-- The test access port after its reset. -/
def Tap.initial : Tap where
  state := .testLogicReset
  instr := .idcode
  shiftIr := []
  shiftDr := []
  latches := []
  tdo := none

/-- The recorder of a device that has never recorded. -/
def Recorder.initial : Recorder where
  flash := []
  next := 0
  oldest := 0
  queue := []
  front := []
  lost := 0
  retried := false
  torn := false
  storedHours := 0
  baseHours := 0
  baseIsland := 0

/-- The controller at the exit from AUX after VAUX was applied: BOOT with cause 0x0001, start-up step 2, every object
at its default (R15, R19, R592, R606, R609). An inhibit is in effect until a release takes effect. -/
def State.reset : State where
  pending := []
  deferred := []
  dev :=
    { state := .boot, cause := 0x0001, result := 0, transEt := 0, prev := .boot, count := 0, pausePending := false
      kept := [], tripFrom := .boot, tripCause := 0, failedRank := none, coresDown := false, autoThisCycle := false }
  power :=
    { vaux := true, inhibit := true, inhibitMark := true, resetCause := 0x01, railFault := 0, powerCycles := 0
      flashCycles := 0, step := 2, startupTime := 0, startMark := 0, waitCool := false, dramOrg := 0, testEn := false
      pwrgood := true, resetFree := true, entered := none }
  clk := { et := 0, running := false, island := 0 }
  fuses := { revision := 0, serial := 0, nodeMac := 0, corr := [0, 0, 0, 0], dieTrim := List.replicate 16 0 }
  regs := []
  blobs := []
  flash := { regs := [], blobs := [], writing := none, result := 0 }
  leaves := []
  recorder := Recorder.initial
  sessions := [Session.port, Session.closed, Session.closed, Session.closed, Session.closed]
  auth := { wrong := 0, locked := false, drawn := 0 }
  spi := { request := none, response := none, behind := [], discarded := false, shifted := [] }
  ring :=
    { portA := ⟨false, []⟩, portB := ⟨false, []⟩, forwarding := false, bypass := .low, fallen := false, edgeAt := none
      seen := [] }
  ownWaiting := []
  out := []
  job := Job.initial
  heads := List.replicate 32 Head.initial
  sieve := Sieve.initial
  engine := Engine.initial
  time := TimeUnit.initial
  twin := Twin.initial
  motion := Motion.initial
  dram := { channels := [DramChannel.initial, DramChannel.initial], writes := [], blocked := [], logMiB := 64, archiveFrames := 256, summaries := [], unread := [] }
  clocks := ClockUnit.initial
  thermal := Thermal.initial
  images := Images.initial
  tap := Tap.initial
  fresh := 0

end Sys2Proof.Machine
end

