-- ==== Sys2Proof/Machine/Ops.lean ====
section
/-!
DEFINITION. The named operations that every family shares: the sparse store of dictionary values, counters, Network
Time stamps, messages to host software and to the twin, the interrupt leaves and the event recorder.
-/
namespace Sys2Proof.Machine

/-! ### The sparse store -/

/-- The value of a key, if listed. -/
def storeGet {α : Type} (k : Nat) (l : List (Nat × α)) : Option α := (l.find? (fun p => p.1 == k)).map (·.2)

/-- A key set to a value: entries before it, the entry, entries after it, so that keys stay strictly rising. -/
def storePut {α : Type} (k : Nat) (v : α) (l : List (Nat × α)) : List (Nat × α) :=
  l.filter (fun p => decide (p.1 < k)) ++ (k, v) :: l.filter (fun p => decide (k < p.1))

/-- A key taken out of the list. -/
def storeErase {α : Type} (k : Nat) (l : List (Nat × α)) : List (Nat × α) :=
  l.filter (fun p => decide (p.1 ≠ k))

/-- The key of an object's subindex. -/
def regKey (index sub : Nat) : Nat := index * 256 + sub

/-- The default of a numeric value (the object tables); GANG_LEADER of axis m is m (R517) and ENABLE of 0x2100 is
0x0000_0008 (R651). -/
def regDefault (key : Nat) : Int :=
  let index := key / 256
  let sub := key % 256
  if sub = 0x12 ∧ 0x9000 ≤ index ∧ index < 0x9008 then ((index - 0x9000 : Nat) : Int)
  else if index = 0x2100 ∧ sub = 2 then 8
  else ((objEntry index sub).map (·.default)).getD 0

/-- A list of values with one set, listed only where it differs from the default. -/
def regsPut (key : Nat) (v : Int) (l : List (Nat × Int)) : List (Nat × Int) :=
  if v = regDefault key then storeErase key l else storePut key v l

/-- The value of a key of a list of values. -/
def regsGet (key : Nat) (l : List (Nat × Int)) : Int := (storeGet key l).getD (regDefault key)

/-- The stored value of an object's subindex. -/
def State.reg (s : State) (index sub : Nat) : Int := regsGet (regKey index sub) s.regs

/-- The stored value as a natural number. -/
def State.regN (s : State) (index sub : Nat) : Nat := (s.reg index sub).toNat

/-- Stores a value. -/
def State.setReg (s : State) (index sub : Nat) (v : Int) : State :=
  { s with regs := regsPut (regKey index sub) v s.regs }

/-- A list of byte strings with one set, listed only where it is not empty. -/
def blobsPut (key : Nat) (v : List Byte) (l : List (Nat × List Byte)) : List (Nat × List Byte) :=
  if v = [] then storeErase key l else storePut key v l

/-- The stored bytes of a DOMAIN or STR value; empty where none is stored. -/
def State.blob (s : State) (index sub : Nat) : List Byte := (storeGet (regKey index sub) s.blobs).getD []

/-- Stores a DOMAIN or STR value. -/
def State.setBlob (s : State) (index sub : Nat) (v : List Byte) : State :=
  { s with blobs := blobsPut (regKey index sub) v s.blobs }

/-- A counter's next value: one more, or a free value beyond its type's range, where the manual states none. -/
def counterNext (key : Nat) (v n : Int) : Int :=
  let hi := ((objEntry (key / 256) (key % 256)).map (fun e => e.type.limits.2)).getD 4294967295
  if v + n ≤ hi then v + n else (Config.counterOverflow key : Nat)

/-- Adds n to a counter object. -/
def State.bumpBy (s : State) (index sub : Nat) (n : Int) : State :=
  s.setReg index sub (counterNext (regKey index sub) (s.reg index sub) n)

/-- Increments a counter object. -/
def State.bump (s : State) (index sub : Nat) : State := s.bumpBy index sub 1

/-- Raises a stored maximum to a value. -/
def State.raiseReg (s : State) (index sub : Nat) (v : Int) : State :=
  s.setReg index sub (if s.reg index sub < v then v else s.reg index sub)

/-! ### Codes -/

/-- The state codes of R16. -/
def DevState.code : DevState → Nat
  | .off => 0
  | .aux => 1
  | .boot => 2
  | .restricted => 3
  | .standby => 4
  | .armed => 5
  | .exposing => 6
  | .paused => 7
  | .fault => 8

/-- The role codes of R453. -/
def Role.code : Role → Nat
  | .solo => 0
  | .primary => 1
  | .shadow => 2
  | .cold => 3

/-- The role of a code; COLD for a code R453 does not list. -/
def roleOfCode : Nat → Role
  | 0 => .solo
  | 1 => .primary
  | 2 => .shadow
  | _ => .cold

/-- The segment state codes of R119. -/
def SegState.code : SegState → Nat
  | .submitted => 1
  | .admitted => 2
  | .refused => 3
  | .staged => 4
  | .running => 5
  | .done => 6
  | .broken => 7
  | .cancelled => 8

/-! ### Time -/

/-- Exposure Time as the controller takes it in, plans with it and sends it (R458). -/
def State.et (s : State) : Tick := s.clk.et

/-- The frame number under assembly at an ET: frame f is assembled during the interval before 125f (R330). -/
def frameAt (et : Tick) : Nat := et / 125 + 1

/-- N(E) of R426, in 0.1 ns; E − E_A is a signed 64-bit value. -/
def TimeUnit.nt (t : TimeUnit) (et : Int) : Int :=
  let d := signedOf 64 (et - t.anchorEt)
  t.anchorNt + 16 * d + (16 * d * t.rho) / 2 ^ 40

/-- The correction of a port's stamps in effect at a capture in 1/16 tick, by the place of its object from 0x2024 on: a value written
later does not apply to it (R432). -/
def State.corrAt (s : State) (k capture : Nat) : Int :=
  match s.time.corrections.find? (fun c => c.1 == k && decide (capture < 16 * c.2.2)) with
  | some c => c.2.1
  | none => s.fuses.corr.getD k 0 + s.reg (0x2024 + k) 2

/-- The correction in force kept for the captures before now, with those of the last 20 ms, which no exchange outlives (R432, R435). -/
def State.keepCorr (s : State) (k : Nat) : State :=
  let recent := s.time.corrections.filter (fun c => decide (s.et ≤ c.2.2 + 12500000))
  { s with time := { s.time with corrections := recent ++ [(k, s.fuses.corr.getD k 0 + s.reg (0x2024 + k) 2, s.et)] } }

/-- The SECONDS field of an NT in 0.1 ns (R425). -/
def ntSeconds (nt : Int) : Nat := (nt / 10000000000 % 2 ^ 48).toNat

/-- The whole NANOSECONDS of an NT in 0.1 ns, truncated (R425). -/
def ntNanoseconds (nt : Int) : Nat := (nt % 10000000000 / 10).toNat

/-- Bytes 8 to 11 of a stamp: NANOSECONDS with UNSET and HOLDOVER (R430). -/
def TimeUnit.stampWord (t : TimeUnit) (nt : Int) : Nat :=
  ntNanoseconds nt + (if t.servo = .holdover then 2 ^ 30 else 0) + (if t.unset then 2 ^ 31 else 0)

/-- The 12-byte NT stamp of an ET (R430). -/
def TimeUnit.stamp (t : TimeUnit) (et : Int) : List Byte :=
  leBytes 8 (ntSeconds (t.nt et)) ++ leBytes 4 (t.stampWord (t.nt et))

/-- Operating hours now, in 2^−16 s (R653). -/
def State.hours (s : State) : Nat :=
  s.recorder.baseHours + (s.clk.island - s.recorder.baseIsland) * 65536 / 625000000

/-! ### The twin link -/

/-- The fixed fields of a twin message as pairs of a width and the reserved bytes behind it, and those that repeat (R456). -/
def twinLayout (kind : Nat) : List (Nat × Nat) × List (Nat × Nat) :=
  match kind with
  | 0x01 => ([(8, 0), (1, 0), (1, 0), (2, 0), (4, 0), (4, 0)], [])
  | 0x02 => ([(4, 0), (8, 0), (4, 0)], [])
  | 0x03 => ([(4, 0), (4, 0), (2, 2), (8, 0)], [])
  | 0x04 => ([(4, 0), (1, 0), (1, 0), (2, 0), (8, 0), (4, 0)], [])
  | 0x05 => ([(4, 0), (1, 0), (1, 0), (1, 1), (8, 0)], [])
  | 0x06 => ([(1, 1), (2, 0), (8, 0)], [])
  | 0x07 => ([(4, 0), (2, 0), (1, 1)], [(1, 0)])
  | 0x0A => ([(4, 0), (4, 0)], [])
  | 0x0B => ([(8, 0)], [(4, 0), (1, 3), (8, 0), (8, 0), (8, 0), (8, 0)])
  | 0x0C => ([(4, 0), (4, 0)], [])
  | 0x0D => ([(4, 0), (2, 0)], [])
  | 0x0F => ([(2, 0), (2, 0), (4, 0), (4, 0), (4, 0), (1, 0)], [])
  | _ => ([], [(1, 0)])

/-- The payload of fields laid out one after the other, the repeating ones over and over. -/
def twinPayload (again : List (Nat × Nat)) : List (Nat × Nat) → List Int → List Byte
  | _, [] => []
  | w :: ws, v :: vs => leBytesInt w.1 v ++ List.replicate w.2 0 ++ twinPayload again ws vs
  | [], v :: vs => match again with
    | w :: ws => leBytesInt w.1 v ++ List.replicate w.2 0 ++ twinPayload again ws vs
    | [] => []

/-- A twin message: TYPE, a reserved byte, LEN, SEQ, the payload, and the CRC-32 of all before it (R456). -/
def twinMessage (kind seq : Nat) (fields : List Int) : List Byte :=
  let payload := twinPayload (twinLayout kind).2 (twinLayout kind).1 fields
  let body := [byteOf kind, 0] ++ leBytes 2 payload.length ++ leBytes 4 seq ++ payload
  body ++ leBytes 4 (crc32 body)

/-- A twin message leaving. -/
def twinOut (kind seq : Nat) (fields : List Int) : Out := Out.twin kind seq (twinMessage kind seq fields)

/-- What the twin unit keeps of a numbered message it sends (R456, R457: 100 µs). -/
def Twin.sending (t : Twin) (et : Tick) (kind : Nat) (fields : List Int) : Twin :=
  { t with
    txSeq := (t.txSeq + 1) % 2 ^ 32
    kept := t.kept.filter (fun m => decide (et ≤ m.sentEt + 62500)) ++ [⟨t.txSeq, et, kind, fields⟩] }

/-- Whether the controller leads a pair and its messages reach a partner. -/
def Twin.leads (t : Twin) : Bool := t.role == .primary && t.linkLock

/-- Sends a numbered message to the partner while the twin link holds block lock. -/
def State.twinSend (s : State) (kind : Nat) (fields : List Int) : State :=
  { s with
    twin := if s.twin.linkLock then s.twin.sending s.et kind fields else s.twin
    out := if s.twin.linkLock then s.out ++ [twinOut kind s.twin.txSeq fields] else s.out }

/-- A message that only a PRIMARY sends. -/
def State.twinLead (s : State) (kind : Nat) (fields : List Int) : State :=
  { s with
    twin := if s.twin.leads then s.twin.sending s.et kind fields else s.twin
    out := if s.twin.leads then s.out ++ [twinOut kind s.twin.txSeq fields] else s.out }

/-! ### Messages to host software (R380, R381, R391 to R394) -/

/-- A session by number. -/
def State.session (s : State) (n : Nat) : Session := s.sessions.getD n Session.closed

/-- A session replaced. -/
def State.setSession (s : State) (n : Nat) (x : Session) : State := { s with sessions := s.sessions.set n x }

/-- The number of the open job session, if any (R383, R385). -/
def State.jobSession (s : State) : Option Nat :=
  [1, 2, 3, 4].find? (fun n => (s.session n).isOpen && (s.session n).job)

/-- The controller sends messages to host software (R391, R453). -/
def State.speaks (s : State) : Bool := s.twin.role == .solo || s.twin.role == .primary

/-- A ring port is in operation (R14). -/
def State.ringUp (s : State) : Bool := s.ring.portA.lock || s.ring.portB.lock

/-- How far a SEQ lies ahead of another, counting modulo 2^32 (R392). -/
def seqAhead (a b : Nat) : Nat := (b + 2 ^ 32 - a) % 2 ^ 32

/-- A SEQ lies below another: in the half of the sequence space behind it (R392). -/
def seqBelow (a b : Nat) : Bool := decide (a ≠ b) && decide (seqAhead a b < 2 ^ 31)

/-- The ACK a session sends: the next reliable SEQ expected, or JOB_HELD of the partner where that is lower (R380, R463). -/
def Session.ackNumber (x : Session) : Nat :=
  match x.ackLimit with
  | some l => if seqBelow l x.rxNext then l else x.rxNext
  | none => x.rxNext

/-- A held frame may be named as received (R463). -/
def Session.mayName (x : Session) (seq : Nat) : Bool :=
  match x.ackLimit with
  | some l => seqBelow seq l
  | none => true

/-- The SACK bits of a session: bit i names the frame ACK + 1 + i (R380, R392). -/
def Session.sackBits (x : Session) : Nat :=
  if x.ackNumber ≠ x.rxNext then 0
  else (x.held.filter (fun f => x.mayName f.frame.seq)).foldl (fun a f => setBit a (seqAhead x.rxNext f.frame.seq - 1)) 0 % 65536

/-- A frame of a session (R380). The manual states no HOPS for the controller's own frames: a free value. -/
def Session.frame (x : Session) (n kind : Nat) (reliable more start : Bool) (seq : Nat) (bytes : List Byte) :
    TreyxFrame :=
  { kind := kind, hops := Config.ownHops, reliable := reliable, more := more, start := start, retransmit := false, session := n
    seq := seq, ack := x.ackNumber, sack := x.sackBits, data := bytes }

/-- The frames of one message: pieces of 1,484 bytes, each but the last with MORE set (R381). -/
def Session.frames (x : Session) (n kind : Nat) (reliable : Bool) (bytes : List Byte) : List TreyxFrame :=
  let parts := if bytes = [] then [[]] else chunks 1484 bytes
  let first := if reliable then x.txSeq else x.txCount
  (parts.zip (List.range parts.length)).map (fun (p, i) =>
    x.frame n kind reliable (decide (i + 1 < parts.length)) false ((first + i) % 2 ^ 32) p)

/-- A forwarded frame waits at an egress port (R374). -/
def RingPort.busy (p : RingPort) (et : Tick) : Bool := p.queue.any (fun q => decide (16 * et < q.1))

/-- A forwarded frame waits at the port with a number: 0 A, 1 B. -/
def State.portBusy (s : State) (port : Nat) : Bool :=
  (s.ring.portA.busy s.et && decide (port = 0)) || (s.ring.portB.busy s.et && decide (port ≠ 0))

/-- Frames of the controller's own handed to a port: they leave, or wait behind what waits there already (R374). -/
def State.sendOwn (s : State) (port : Nat) (frames : List (List Byte)) : State :=
  let stay := s.portBusy port || s.ownWaiting.any (fun w => w.1 == port)
  { s with
    ownWaiting := if stay then s.ownWaiting ++ frames.map (fun f => (port, f)) else s.ownWaiting
    out := if stay then s.out else s.out ++ frames.map (Out.ring port) }

/-- The frames that waited for a port leave once no forwarded frame waits there. -/
def State.releaseOwn (s : State) : State :=
  { s with
    ownWaiting := s.ownWaiting.filter (fun w => s.portBusy w.1)
    out := s.out ++ (s.ownWaiting.filter (fun w => !s.portBusy w.1)).map (fun w => Out.ring w.1 w.2) }

/-- The bytes of a frame of the controller's own: destination, NODE_MAC, an EtherType, and the content padded to the minimum (R369,
R380). -/
def State.ethernet (s : State) (dest etherType : Nat) (content : List Byte) : List Byte :=
  let bs := beBytes 6 dest ++ beBytes 6 s.fuses.nodeMac ++ beBytes 2 etherType ++ content
  bs ++ List.replicate (60 - bs.length) 0

/-- Whether a message can leave now: a port is in operation and a reliable message's frames fit among the 64 kept. -/
def Session.roomFor (x : Session) (up reliable : Bool) (bytes : List Byte) : Bool :=
  up && (!reliable || (x.backlog.isEmpty && decide (x.unacked.length + (bytes.length + 1483) / 1484 ≤ 64)))

/-- A session after a message has been handed to it: sent, or waiting when it is reliable and has no room. -/
def Session.sending (x : Session) (n kind : Nat) (up reliable : Bool) (bytes : List Byte) : Session :=
  if x.roomFor up reliable bytes then
    let fs := x.frames n kind reliable bytes
    { x with
      txSeq := if reliable then (x.txSeq + fs.length) % 2 ^ 32 else x.txSeq
      txCount := if reliable then x.txCount else (x.txCount + fs.length) % 2 ^ 32
      unacked := if reliable then x.unacked ++ fs.map (fun f => ⟨f, 1⟩) else x.unacked
      ackOwed := false }
  else if reliable then { x with backlog := x.backlog ++ [(kind, bytes)] }
  else x

/-- Frames that leave when a message is handed to a session. -/
def Session.leaving (x : Session) (n kind : Nat) (up reliable : Bool) (bytes : List Byte) : List TreyxFrame :=
  if x.roomFor up reliable bytes then x.frames n kind reliable bytes else []

/-- The bytes of a frame, Treyx header onwards (R380). -/
def TreyxFrame.bytes (f : TreyxFrame) : List Byte :=
  [byteOf f.kind, byteOf f.hops,
   byteOf (128 * flag f.reliable + 64 * flag f.more + 32 * flag f.start + 16 * flag f.retransmit), byteOf f.session]
  ++ leBytes 4 f.seq ++ leBytes 4 f.ack ++ leBytes 2 f.data.length ++ leBytes 2 f.sack ++ f.data

/-- A Treyx frame as it leaves for an address (R380). -/
def State.wire (s : State) (dest : Nat) (f : TreyxFrame) : List Byte := s.ethernet dest (s.regN 0x1030 1) f.bytes

/-- Treyx frames sent to an address. -/
def State.sendFrames (s : State) (dest : Nat) (fs : List TreyxFrame) : State := s.sendOwn (Config.ownPort dest) (fs.map (s.wire dest))

/-- A session takes a message of the controller: it is open, and in a pair only the PRIMARY sends the messages 0x30 to
0x39 and anything on the job session (R388, R391, R414, R463). -/
def State.maySend (s : State) (n kind : Nat) : Bool :=
  (s.session n).isOpen && decide (n ≠ 0) && (s.speaks || (decide (kind < 0x30) && !(s.session n).job))

/-- Hands a message to a session. In a pair a reliable frame of the job session is also copied to the partner (R465). -/
def State.message (s : State) (n kind : Nat) (reliable : Bool) (bytes : List Byte) : State :=
  if s.maySend n kind then
    let x := s.session n
    let fs := x.leaving n kind s.ringUp reliable bytes
    let t := ({ s with sessions := s.sessions.set n (x.sending n kind s.ringUp reliable bytes) }).sendFrames x.peer fs
    (if x.job && reliable then fs else []).foldl
      (fun (u : State) f => u.twinLead 0x09 (f.bytes.map (fun b => (b.toNat : Int)))) t
  else s

/-- Hands a message to the job session (R391). -/
def State.jobMessage (s : State) (kind : Nat) (bytes : List Byte) : State :=
  match s.jobSession with
  | some n => s.message n kind true bytes
  | none => s

/-- Hands a message to each of the ring sessions that pass a test. -/
def State.messageWhere (s : State) (p : Session → Bool) (kind : Nat) (reliable : Bool) (bytes : List Byte) : State :=
  [1, 2, 3, 4].foldl (fun t n => if p (t.session n) then t.message n kind reliable bytes else t) s

/-- Hands a message to every session whose SUBSCRIBE has a bit set (R391, R420). -/
def State.publish (s : State) (bit kind : Nat) (reliable : Bool) (bytes : List Byte) : State :=
  s.messageWhere (fun x => x.subscribe.testBit bit) kind reliable bytes

/-! ### The interrupt tree (R635 to R648) -/

/-- The GIS bit of a cause register, and the INDEX byte of R649: 0xFF for a block register (R638, R639). -/
def leafBlock (reg : Nat) : Nat × Nat :=
  if reg < 0x2400 then (reg - 0x2100, 0xFF)
  else (([2, 3, 5, 6, 7, 11, 11] : List Nat).getD ((reg - 0x2400) / 0x20) 0, (reg - 0x2400) % 0x20)

/-- The place of a leaf in the list. -/
def Leaf.key (l : Leaf) : Nat := l.reg * 32 + l.bit

/-- The leaf of a register's bit, if it is listed. -/
def leafAt (leaves : List Leaf) (reg bit : Nat) : Option Leaf := leaves.find? (fun l => l.key == reg * 32 + bit)

/-- A leaf put in its place. -/
def leafPut (l : Leaf) (leaves : List Leaf) : List Leaf :=
  leaves.filter (fun m => decide (m.key < l.key)) ++ l :: leaves.filter (fun m => decide (l.key < m.key))

/-- A leaf after one more event: the bit is set and its counter adds the event (R640). -/
def leafHit (leaves : List Leaf) (reg bit : Nat) : Leaf :=
  match leafAt leaves reg bit with
  | some l => { l with now := l.now + 1 }
  | none => ⟨reg, bit, 0, 1, false⟩

/-- The counter of a leaf (R640). -/
def Leaf.count (l : Leaf) : Nat := min 255 (l.before + l.now)

/-- Whether a leaf bit is set. -/
def Leaf.isSet (l : Leaf) : Bool := decide (0 < l.before + l.now)

/-- Whether an event of a leaf sends an EVENT message: the bit changes from 0 to 1 and was not cleared in this same
cycle, and its own ENABLE is 1 (R648). -/
def State.leafSpeaks (s : State) (reg bit : Nat) : Bool :=
  (s.regN reg 2).testBit bit &&
  match leafAt s.leaves reg bit with
  | some l => !l.isSet && !l.quiet
  | none => true

/-- The EVENT payload of R649. -/
def State.eventPayload (s : State) (reg bit count : Nat) : List Byte :=
  [byteOf (leafBlock reg).1, byteOf (leafBlock reg).2, byteOf bit, byteOf count]
    ++ leBytes 8 s.et ++ s.time.stamp s.et

/-- Sets a leaf by its cause (R636, R640, R648). -/
def State.setLeaf (s : State) (reg bit : Nat) : State :=
  let t := { s with leaves := leafPut (leafHit s.leaves reg bit) s.leaves }
  if s.leafSpeaks reg bit then
    t.messageWhere (fun x => x.subscribe.testBit 4 && x.eventMask.testBit (leafBlock reg).1) 0x39 true
      (s.eventPayload reg bit (leafHit s.leaves reg bit).count)
  else t

/-! ### The event recorder (R652 to R655) -/

/-- System Firmware writes records itself: outside AUX and OFF, after step 4 of the start-up, with the cores up. -/
def State.firmwareUp (s : State) : Bool :=
  s.power.vaux && s.dev.state != .aux && s.dev.state != .off && !s.dev.coresDown
    && (decide (5 ≤ s.power.step) || decide (s.power.step = 0))

/-- A record stamped now (R652). -/
def State.stampRecord (s : State) (type : Nat) (payload : List Byte) : EventRecord :=
  ⟨type, s.hours, s.power.powerCycles, payload⟩

/-- Whether the place a record goes to is full (R654). -/
def State.recordFull (s : State) : Bool :=
  if s.firmwareUp then decide (256 ≤ s.recorder.queue.length) else decide (16 ≤ s.recorder.front.length)

/-- The recorder with one record taken in or counted as lost. -/
def Recorder.take (r : Recorder) (up full : Bool) (e : EventRecord) : Recorder :=
  { r with
    queue := if up && !full then r.queue ++ [e] else r.queue
    front := if !up && !full then r.front ++ [e] else r.front
    lost := if full then r.lost + 1 else r.lost }

/-- Appends a record, or counts it in DISCARDED and sets the leaf (R653, R654). -/
def State.record (s : State) (type : Nat) (payload : List Byte) : State :=
  let t := { s with recorder := s.recorder.take s.firmwareUp s.recordFull (s.stampRecord type payload) }
  if s.recordFull then (t.bump 0xC000 5).setLeaf 0x2111 0 else t

/-- One record handed to the queue; one that finds the queue full is discarded and counted (R654). -/
def State.enqueue (s : State) (e : EventRecord) : State :=
  if s.recorder.queue.length < 256 then { s with recorder := { s.recorder with queue := s.recorder.queue ++ [e] } }
  else ({ s with recorder := { s.recorder with lost := s.recorder.lost + 1 } }.bump 0xC000 5).setLeaf 0x2111 0

/-- Records of the front end handed to the queue. -/
def State.enqueueAll (s : State) (l : List EventRecord) : State :=
  l.foldl State.enqueue { s with recorder := { s.recorder with front := [] } }

end Sys2Proof.Machine
end

