-- ==== Sys2Proof/Machine/Gate.lean ====
section
/-!
DEFINITION. The gate that every dictionary access passes: whether its path is served (R415, R416), whether the object
exists (R8, R9, R11), its access class (R402), the level of the session (R386), and the rules of a twin pair (R464,
R486). The tests run in the order of the abort table of R408.
-/
namespace Sys2Proof.Machine

/-- The session number of a path; the SPI port is 0 (R389). -/
def pathNumber : Path → Nat
  | .spi => 0
  | .ring n => n

/-- The session of a path. -/
def State.on (s : State) (p : Path) : Session := s.session (pathNumber p)

/-- A path is served: the SPI port in every state except OFF and AUX, a ring session while it is open and the
controller has left BOOT (R27, R415). -/
def State.served (s : State) (p : Path) : Bool :=
  s.dev.state != .off && s.dev.state != .aux &&
  match p with
  | .spi => true
  | .ring n => decide (1 ≤ n) && decide (n ≤ 4) && (s.session n).isOpen && s.dev.state != .boot

/-- The objects served in BOOT (R416). -/
def servedInBoot (index : Nat) : Bool :=
  (decide (0x1000 ≤ index) && decide (index < 0x2000)) || index == 0x2001
    || (decide (0x2030 ≤ index) && decide (index ≤ 0x2032)) || index == 0x2040 || index == 0x2050
    || (decide (0x2100 ≤ index) && decide (index < 0x2500)) || index == 0xB000 || index == 0xB001

/-- A level reaches Operator. -/
def Level.writes : Level → Bool
  | .observer => false
  | .operator => true
  | .service => true

/-- The subindices whose writes need Service level (R410, R441, R618, R633, R659). -/
def needsService (index sub : Nat) : Bool :=
  (index == 0x1010 && sub == 2) || (index == 0x2022 && sub == 4) || index == 0xB001
    || (index == 0xB010 && sub == 2) || (index == 0xC002 && sub == 1)

/-- The subindices that an Observer session may write: the steps of the authentication itself, without which no
session could leave Observer level (R389 with R386, R414). -/
def opensLevel (index sub : Nat) : Bool := index == 0x1020 && (sub == 2 || sub == 3)

/-- The motion commands of R486 that are writes. -/
def motionCommand (index sub : Nat) : Bool :=
  (decide (0x9020 ≤ index) && decide (index < 0x9028))
    || (decide (0x9060 ≤ index) && decide (index < 0x9068) && sub == 6)
    || (index == 0x9080 && (sub == 2 || sub == 3))
    || (decide (0x90A0 ≤ index) && decide (index < 0x90A4) && sub == 6)

/-- The controller belongs to a pair: twin operation is enabled (R454). -/
def State.paired (s : State) : Bool := s.twin.role != .solo

/-- The controller runs its motion block (R466, R485). -/
def State.runsMotion (s : State) : Bool := !s.paired || s.reg 0xD000 2 == s.reg 0xD000 3

/-- A write that a SHADOW or COLD controller does not take directly (R464). -/
def State.followsPrimary (s : State) (index sub : Nat) : Bool :=
  (s.twin.role == .shadow || s.twin.role == .cold) && decide (0x3000 ≤ index) && decide (index < 0xA000)
    && !motionCommand index sub

/-- The entry of a subindex; subindex 0 of every object is NUMBER_OF_ENTRIES, a U8 read-only (R9). -/
def entryOf (index sub : Nat) : Option ObjEntry :=
  match objRow index with
  | some r => if sub = 0 then some ⟨0, 1, "NUMBER_OF_ENTRIES", .u8, .ro, (r.highest : Int), none, false⟩ else r.entry sub
  | none => none

/-- An object exists (R8, R11, R400). -/
def objectExists (index : Nat) : Bool :=
  (objRow index).isSome || (decide (1 ≤ index) && decide (index ≤ 10)) || decide (0xF000 ≤ index)

/-- The gate of a write to a subindex, before its value is looked at. -/
def State.writeGate (s : State) (p : Path) (index sub : Nat) : Option Abort :=
  if s.dev.coresDown then some .conditions
  else if s.dev.state = .boot ∧ servedInBoot index = false then some .notInBoot
  else match objRow index with
  | none => some (if 1 ≤ index ∧ index ≤ 10 ∧ sub = 0 then .readOnly else if 1 ≤ index ∧ index ≤ 10 then .noSub else .noObject)
  | some _ =>
    match entryOf index sub with
    | none => some .noSub
    | some e =>
      if e.access = .ro then some .readOnly
      else if (s.on p).level.writes = false ∧ opensLevel index sub = false then some .level
      else if needsService index sub ∧ (s.on p).level ≠ .service then some .level
      else if e.access = .rws ∧ s.dev.state ≠ .standby then some .notStandby
      else if s.followsPrimary index sub then some .conditions
      else if motionCommand index sub ∧ s.runsMotion = false ∧ ¬ (0x9020 ≤ index ∧ index < 0x9028) then some .conditions
      else none

/-- The gate of a read of a subindex. -/
def State.readGate (s : State) (index sub : Nat) : Option Abort :=
  if s.dev.coresDown then some .conditions
  else if s.dev.state = .boot ∧ servedInBoot index = false then some .notInBoot
  else if objectExists index = false then some .noObject
  else match objRow index with
  | none => if index ≤ 10 ∧ sub ≠ 0 then some .noSub else none
  | some _ =>
    match entryOf index sub with
    | none => some .noSub
    | some e => if e.access = .wo then some .writeOnly else none

/-- The value test of a numeric write: its size, then its range (R404, R7, R408). -/
def numberTest (index sub : Nat) (data : List Byte) : Option Abort :=
  match entryOf index sub with
  | none => some .noSub
  | some e =>
    if e.isBytes then none
    else if data.length ≠ e.type.bytes then some .size
    else if e.inRange (e.type.read data) = false then some .range
    else none

/-- The numeric value of a write. -/
def numberOf (index sub : Nat) (data : List Byte) : Int :=
  match entryOf index sub with
  | none => 0
  | some e => e.type.read data

/-! ### Answers -/

/-- The answer to an access leaves by its path: the abort code, 0 for none, and the value read (R401). -/
def State.answer (s : State) (p : Path) (abort : Nat) (data : List Byte) : State :=
  { s with out := s.out ++ [Out.answer p abort data] }

/-- An access judged: refused with a code and changing nothing, or carried out. -/
def State.judged (s : State) (p : Path) (refusal : Option Abort) (done : State) (data : List Byte) : State :=
  match refusal with
  | some a => s.answer p a.code []
  | none => done.answer p 0 data

/-- An access on a path that is not served has no effect (R415). -/
def State.access (s : State) (p : Path) (refusal : Option Abort) (done : State) (data : List Byte) : State :=
  if s.served p then s.judged p refusal done data else s

/-- The first refusal of two tests. -/
def orElse (a b : Option Abort) : Option Abort :=
  match a with
  | some x => some x
  | none => b

/-- A refusal under a condition. -/
def refuseIf (c : Bool) (a : Abort) : Option Abort := if c then some a else none

end Sys2Proof.Machine
end

