-- ==== Sys2Proof/Machine/Flags.lean ====
section
/-!
DEFINITION. Flags: the interrupt tree as it reads (R635 to R645), the permits and the other levels that follow from
the state (R27, R594, R637).
-/
namespace Sys2Proof.Machine

/-! ### Cause registers -/

/-- The leaf bits of a register as they stand. -/
def leafBits (leaves : List Leaf) (reg : Nat) : Nat :=
  leaves.foldl (fun a l => if l.reg = reg ∧ l.isSet then setBit a l.bit else a) 0

/-- The leaf bits that were set before the present CLK_SYS cycle: what TAKE returns (R642, R643). -/
def takenBits (leaves : List Leaf) (reg : Nat) : Nat :=
  leaves.foldl (fun a l => if l.reg = reg ∧ 0 < l.before then setBit a l.bit else a) 0

/-- The sub-cause register below a bit of a block register, if that bit is a summary (R638). -/
def subCause (reg bit : Nat) : Option Nat :=
  if reg = 0x2102 then some (0x2400 + bit)
  else if reg = 0x2103 then some (0x2420 + bit)
  else if reg = 0x2105 then some (0x2440 + bit)
  else if reg = 0x2106 then some (0x2460 + bit)
  else if reg = 0x2107 then some (0x2480 + bit)
  else if reg = 0x210B ∧ bit < 8 then some (0x24A0 + bit)
  else if reg = 0x210B ∧ bit < 16 then some (0x24C0 + (bit - 8))
  else none

/-- The summary bits of a block register: CAUSE AND ENABLE of the register below (R636). -/
def State.summaryBits (s : State) (reg : Nat) : Nat :=
  (List.range 32).foldl (fun a bit =>
    match subCause reg bit with
    | some sub => if leafBits s.leaves sub &&& s.regN sub 2 ≠ 0 then setBit a bit else a
    | none => a) 0

/-- CAUSE of a register. -/
def State.causeBits (s : State) (reg : Nat) : Nat := leafBits s.leaves reg ||| s.summaryBits reg

/-- The 32 counters of a register; a bit without a leaf reads 0 (R640, R651). -/
def State.countBytes (s : State) (reg : Nat) : List Byte :=
  (List.range 32).map (fun bit => byteOf ((leafAt s.leaves reg bit).map Leaf.count |>.getD 0))

/-- The Global Interrupt Summary (R635, R636). -/
def State.gis (s : State) : Nat :=
  (List.range 18).foldl (fun a g =>
    if s.causeBits (0x2100 + g) &&& s.regN (0x2100 + g) 2 ≠ 0 then setBit a g else a) 0

/-- The level of INT_N, true while asserted (R637). -/
def State.intAsserted (s : State) : Bool :=
  s.dev.state != .off && s.dev.state != .aux && decide (s.gis &&& s.regN 0x2050 2 ≠ 0)

/-- The leaf BOOT_HELD, which only hardware clears (R646). -/
def bootHeld (reg bit : Nat) : Bool := reg == 0x2100 && bit == 3

/-- A leaf after a clear that names it: its bit is 0 unless its cause occurred in this same cycle (R641 to R643). -/
def Leaf.cleared (l : Leaf) : Leaf := if l.isSet then { l with before := 0, quiet := true } else l

/-- The leaves after a clear of the bits of a mask in a register. -/
def leavesCleared (leaves : List Leaf) (reg mask : Nat) : List Leaf :=
  leaves.map (fun l => if l.reg = reg ∧ mask.testBit l.bit ∧ bootHeld reg l.bit = false then l.cleared else l)

/-- The leaves after a take with a mask: only leaves that were set before this cycle are cleared. -/
def leavesTaken (leaves : List Leaf) (reg mask : Nat) : List Leaf :=
  leaves.map (fun l =>
    if l.reg = reg ∧ mask.testBit l.bit ∧ 0 < l.before ∧ bootHeld reg l.bit = false then l.cleared else l)

/-- A leaf taken away by hardware. -/
def leavesWithout (leaves : List Leaf) (reg bit : Nat) : List Leaf :=
  leaves.filter (fun l => decide (l.key ≠ reg * 32 + bit))

/-- The 36 bytes of TAKE: CAUSE and the counters, without the events of the cycle of the read (R642, R643, R651). -/
def State.takeBytes (s : State) (reg : Nat) : List Byte :=
  leBytes 4 (takenBits s.leaves reg ||| s.summaryBits reg)
    ++ (List.range 32).map (fun bit => byteOf ((leafAt s.leaves reg bit).map (fun l => l.before) |>.getD 0))

/-- The take mask of a session for a register (R644). -/
def Session.takeMask (x : Session) (reg : Nat) : Nat := (storeGet reg x.takeMasks).getD 0

/-- A session with the take mask of a register set. -/
def Session.withTakeMask (x : Session) (reg v : Nat) : Session :=
  { x with takeMasks := if v = 0 then storeErase reg x.takeMasks else storePut reg v x.takeMasks }

/-! ### Levels that follow from the state -/

/-- A head of the state. -/
def State.head (s : State) (h : HeadNo) : Head := s.heads.getD h Head.initial

/-- The device states in which a permit may be high (R27). -/
def DevState.permits : DevState → Bool
  | .armed => true
  | .exposing => true
  | .paused => true
  | _ => false

/-- The level of EMIT_hh (R27, R453): high in ARMED, EXPOSING and PAUSED for a head whose link is in operation, while
no inhibit and no trip is in effect, unless the role is COLD. -/
def State.permit (s : State) (h : HeadNo) : Bool :=
  s.dev.state.permits && !s.power.inhibit && !s.thermal.tripped && s.twin.role != .cold
    && (s.head h).link.state == .operation

/-- The bit EN of a head's frames (R23, R30, R335): set only in EXPOSING with the permit high. -/
def State.enables (s : State) (h : HeadNo) : Bool := s.dev.state == .exposing && s.permit h

/-- The level of BYPASS_HOLD (R377). -/
def State.bypassHold (s : State) : Bool := s.ring.bypass != .low

/-- Head links whose frames flow. -/
def State.operating (s : State) : List HeadNo :=
  (List.range 32).filter (fun h => (s.head h).link.state == .operation)

/-- The sequencer, beamlet and head-link frame clocks run: Exposure Time counts and no thermal trip has stopped them (R26). -/
def State.seqRuns (s : State) : Bool := s.clk.running && !s.thermal.tripped

end Sys2Proof.Machine
end

