-- ==== Sys2Proof/Machine/Turn.lean ====
section
/-!
DEFINITION. The order of the commands of one CLK_SYS cycle: the commands that wait in the queue with no idle step between
them belong to one cycle, and one that the manual puts behind another of the same cycle gives way to it (R28, R29, R82, R407,
R442, R502, R509).
-/
namespace Sys2Proof

/-- The path of an access that names one. -/
def Instr.path? (c : Instr) : Option Path :=
  match c with
  | .arm p _ => some p
  | .run p _ => some p
  | .pause p _ => some p
  | .resume p _ => some p
  | .stop p _ => some p
  | .disarm p _ => some p
  | .clear p _ => some p
  | .restart p _ => some p
  | .requestNone p _ => some p
  | .stateRequestInvalid p _ => some p
  | .headLinkEnableWrite p _ _ => some p
  | .bypassEnableWrite p _ => some p
  | .sdoRead p _ _ _ => some p
  | .sdoWrite p _ _ _ _ _ => some p
  | .blockWrite p _ _ _ _ => some p
  | .blockRead p _ _ _ => some p
  | .sdoAbort p _ _ _ => some p
  | .blockSegment p _ _ _ _ => some p
  | .blockTransferTimeout p => some p
  | .dictionaryWrite p _ _ _ => some p
  | .challenge p => some p
  | .response p _ => some p
  | .drop p => some p
  | .store p _ => some p
  | .restoreDefaults p _ => some p
  | .cancelId p _ => some p
  | .stitchTableWrite p _ _ _ => some p
  | .commit p _ => some p
  | .darkCapture p _ => some p
  | .loopEnable p _ _ _ => some p
  | .lawWrite p _ _ _ => some p
  | .stepNow p _ => some p
  | .etIn p _ => some p
  | .ntInNanoseconds p _ => some p
  | .join p _ => some p
  | .release p _ => some p
  | .twinEnable p _ => some p
  | .enableAxis p _ _ => some p
  | .go p _ _ => some p
  | .stopAxis p _ => some p
  | .home p _ => some p
  | .probeEvent p _ => some p
  | .encoderCount p _ _ => some p
  | .armCompare p _ _ => some p
  | .recoatStart p _ => some p
  | .manualReport p _ => some p
  | .startMeasurement p _ => some p
  | .cause p _ _ => some p
  | .take p _ => some p
  | .hostRecord p _ => some p
  | .clearTopsoil p _ => some p
  | .flush p _ => some p
  | .nextRecord p _ => some p
  | .cursor p _ => some p
  | .sfImage p _ _ => some p
  | .mcImage p _ _ => some p
  | .trial p _ => some p
  | .confirm p _ => some p
  | .factoryBlock p _ => some p
  | .calibrationUserWrite p _ _ _ => some p
  | .featureLogBlockRead p => some p
  | _ => none

/-- The place of a command among those of its CLK_SYS cycle: 0 a head that finishes its item (R82), 2 to 5 the automatic
triggers of R28 after the supplies, 6 what comes by the SPI port and 7 by the ring (R28, R407), 8 the update of an exchange,
which a step in the same cycle discards (R442), 10 a limit trip, behind a home edge (R502), and an encoder edge, behind a probe
event (R509). The supplies (1) and every other command act at their place in the queue. -/
def Instr.rank (c : Instr) : Nat :=
  match c.path? with
  | some .spi => 6
  | some (.ring _) => 7
  | none =>
    match c with
    | .itemComplete _ => 0
    | .vauxLost => 1
    | .resetNAsserted => 1
    | .pwrgoodDeasserted => 1
    | .railUndervoltage _ => 1
    | .thermalMeasurement _ => 2
    | .pllUnlock _ => 3
    | .rootGate .. => 3
    | .xoEdgeLoss => 3
    | .holdoverTimeExpiry => 3
    | .retrainComplete .. => 3
    | .watchdogExpiry => 3
    | .laserInhibitAsserted => 4
    | .laserInhibitReleased => 4
    | .twinLinkFailed => 5
    | .ownHeartbeatLapse => 5
    | .twinMessageLate _ => 5
    | .stateDivergenceTimeout => 5
    | .spiWrite _ => 6
    | .spiRead => 6
    | .ringFrameReceived .. => 7
    | .sessionOpen .. => 7
    | .sessionClose _ => 7
    | .job .. => 7
    | .ptpExchangeComplete .. => 8
    | .limitTrip _ => 10
    | .encoderEdge .. => 10
    | _ => 9

end Sys2Proof

namespace Sys2Proof.Machine

/-- No command of this cycle that goes before one of a rank waits, and none of its rank or before has given way already. -/
def State.turn (s : State) (rank : Nat) : Bool :=
  s.pending.all (fun d => decide (rank ≤ d.rank)) && s.deferred.all (fun d => decide (rank < d.rank))

/-- A command whose turn it is has its effect; another gives way to the rest of its cycle. -/
def State.inTurn (s : State) (c : Instr) (done : State) : State :=
  if s.turn c.rank then done else { s with deferred := s.deferred ++ [c] }

/-- The rank of a path. -/
def pathRank : Path → Nat
  | .spi => 6
  | .ring _ => 7

/-- The same for a command of a path; on a path that is not served there is nothing to give way. -/
def State.inTurnOf (s : State) (p : Path) (c : Instr) (done : State) : State :=
  if s.served p then s.inTurn c done else done

/-- The commands that gave way, in the order in which they act. -/
def State.waiting (s : State) : List Instr :=
  (List.range 11).flatMap (fun r => s.deferred.filter (fun c => c.rank == r))

end Sys2Proof.Machine
end

