-- ==== Sys2Proof/Machine/Access.lean ====
section
/-!
DEFINITION. Service authentication and the storing of persistent values (R389, R410, R419).
-/
namespace Sys2Proof.Machine

/-- CHALLENGE (R389): a read draws a fresh challenge for the path; the value is free. -/
def State.drawChallenge (s : State) (p : Path) : State :=
  { s with
    auth := { s.auth with drawn := s.auth.drawn + 1 }
    sessions := s.sessions.set (pathNumber p) { s.on p with challenge := some (Config.challengeDraw s.auth.drawn % 2 ^ 64) } }

/-- CHALLENGE (R389). -/
def execChallenge (path : Path) (s : State) : Host.Outcome State Fault Refusal :=
  .next (s.inTurnOf path (.challenge path) (s.access path (s.readGate 0x1020 1) (s.drawChallenge path)
    (leBytes 8 (Config.challengeDraw s.auth.drawn % 2 ^ 64))))

/-- A response is right: a challenge is held and the bytes are its HMAC under the fused key (R389). -/
def State.responseRight (s : State) (p : Path) (data : List Byte) : Bool :=
  match (s.on p).challenge with
  | some c => data == Config.hmacService c s.fuses.serial (pathNumber p)
  | none => false

/-- The challenge of a path is spent (R389). -/
def State.spendChallenge (s : State) (p : Path) : State :=
  s.setSession (pathNumber p) { s.on p with challenge := none }

/-- A path raised to Service level, with its record of type 0x0090 (R389, R655). -/
def State.grantService (s : State) (p : Path) : State :=
  ({ s with
     auth := { s.auth with wrong := 0 }
     sessions := s.sessions.set (pathNumber p) { s.on p with level := .service, challenge := none } }).record 0x0090
    [byteOf (pathNumber p), 1]

/-- A wrong response counted; the third starts the lockout and is recorded (R389, R655). -/
def State.wrongResponse (s : State) (p : Path) : State :=
  let t := s.spendChallenge p
  if s.auth.wrong + 1 = 3 then
    ({ t with auth := { t.auth with wrong := 0, locked := true } }).record 0x0090 [byteOf (pathNumber p), 0]
  else { t with auth := { t.auth with wrong := s.auth.wrong + 1 } }

/-- The effect of a RESPONSE write that passes the gate: the authentication is judged, and the answer says how. -/
def State.judgeResponse (s : State) (p : Path) (data : List Byte) : State :=
  if s.auth.locked then (s.spendChallenge p).answer p Abort.authentication.code []
  else if s.responseRight p data then (s.grantService p).answer p 0 []
  else (s.wrongResponse p).answer p Abort.authentication.code []

/-- RESPONSE (R389): 32 bytes. -/
def execResponse (path : Path) (data : List Byte) (s : State) : Host.Outcome State Fault Refusal :=
  .next (s.inTurnOf path (.response path data) (if s.served path then
      match s.writeGate path 0x1020 2 with
      | some a => s.answer path a.code []
      | none => s.judgeResponse path data
    else s))

/-- A session back at its opening level (R389). -/
def State.dropLevel (s : State) (p : Path) (value : Nat) : State :=
  s.setSession (pathNumber p) (if value = 1 then { s.on p with level := (s.on p).openLevel } else s.on p)

/-- DROP (R389): a write of 1. -/
def execDrop (path : Path) (s : State) : Host.Outcome State Fault Refusal :=
  .next (s.inTurnOf path (.drop path) (s.access path (s.writeGate path 0x1020 3) (s.dropLevel path 1) []))

/-- AUTH_LOCKOUT_EXPIRY (R389): the 1 s after three wrong responses has passed. -/
def execAuthLockoutExpiry (s : State) : Host.Outcome State Fault Refusal :=
  .next { s with auth := { s.auth with locked := false } }

/-! ### Persistent values (R410) -/

/-- Whether a key names a persistent value. -/
def isPersistent (key : Nat) : Bool :=
  ((objEntry (key / 256) (key % 256)).map (fun e => e.persistent)).getD false

/-- The persistent values that differ from their defaults. -/
def persistentOf {α : Type} (l : List (Nat × α)) : List (Nat × α) := l.filter (fun p => isPersistent p.1)

/-- The values without the persistent ones. -/
def volatileOf {α : Type} (l : List (Nat × α)) : List (Nat × α) := l.filter (fun p => !isPersistent p.1)

/-- A store begins: the values as they stand now are what it writes (R410). -/
def State.beginStore (s : State) : State :=
  { s with flash := { s.flash with writing := some (persistentOf s.regs, persistentOf s.blobs), result := 1 } }

/-- STORE (R410): a write of 1; a store in progress makes it abort (R408). -/
def execStore (path : Path) (value : Nat) (s : State) : Host.Outcome State Fault Refusal :=
  .next (s.inTurnOf path (.store path value) (s.access path
    (orElse (s.writeGate path 0x1010 1)
      (orElse (numberTest 0x1010 1 (leBytes 1 value)) (refuseIf (decide (value = 1) && s.flash.writing.isSome) .storing)))
    (if value = 1 then s.beginStore else s) []))

/-- The store ends: the new set is complete and marked valid, or the flash failed and the old set stands (R410, R419). -/
def FlashStore.complete (f : FlashStore) (good : Bool) : FlashStore :=
  match f.writing with
  | some w =>
    if good then { regs := w.1, blobs := w.2, writing := none, result := 0 } else { f with writing := none, result := 2 }
  | none => f

/-- STORE_COMPLETE (R410). -/
def execStoreComplete (good : Bool) (s : State) : Host.Outcome State Fault Refusal :=
  .next { s with flash := s.flash.complete good }

/-- The stored values erased: the defaults apply from the next start-up (R410). -/
def State.eraseStored (s : State) : State := { s with flash := { s.flash with regs := [], blobs := [] } }

/-- RESTORE_DEFAULTS (R410): a write of 1 at Service level. -/
def execRestoreDefaults (path : Path) (value : Nat) (s : State) : Host.Outcome State Fault Refusal :=
  .next (s.inTurnOf path (.restoreDefaults path value) (s.access path (orElse (s.writeGate path 0x1010 2) (numberTest 0x1010 2 (leBytes 1 value)))
    (if value = 1 then s.eraseStored else s) []))

/-- A store cut short is lost whole, and STORE_RESULT reads 0x02 (R410). -/
def FlashStore.cutShort (f : FlashStore) : FlashStore :=
  { f with writing := none, result := if f.writing.isSome then 2 else f.result }

/-- The stored values replace the defaults (R410, R602): persistent keys take what flash holds, the others stay. -/
def loaded {α : Type} (l stored : List (Nat × α)) : List (Nat × α) :=
  stored.foldl (fun acc p => storePut p.1 p.2 acc) (volatileOf l)

end Sys2Proof.Machine
end

