-- ==== Sys2Proof/Machine/Bypass.lean ====
section
/-!
DEFINITION. The bypass switch: when BYPASS_HOLD rises and falls (R376 to R379).
-/
namespace Sys2Proof.Machine

/-- Both ports hold block lock. -/
def Ring.bothLocked (r : Ring) : Bool := r.portA.lock && r.portB.lock

/-- RESTRICTED or a later state (R377). -/
def DevState.ringRuns : DevState → Bool
  | .off => false
  | .aux => false
  | .boot => false
  | _ => true

/-- BYPASS_HOLD falls: forwarding ends with it, and the leaf is set (R377, R421). -/
def State.lowerBypass (s : State) : State :=
  ({ s with ring := { s.ring with bypass := .low, forwarding := false, fallen := true, edgeAt := some s.et } }).setLeaf 0x2108 2

/-- BYPASS_HOLD rises with both ports in block lock: forwarding starts (R377). -/
def State.raiseBypass (s : State) : State :=
  { s with ring := { s.ring with bypass := .high, forwarding := true, edgeAt := if s.ring.bypass = .low then some s.et else s.ring.edgeAt } }

/-- A trial begins (R378); with both locks there already it has succeeded. -/
def State.tryBypass (s : State) : State :=
  if s.ring.bothLocked then s.raiseBypass
  else { s with ring := { s.ring with bypass := .trial, edgeAt := some s.et } }

/-- BYPASS_ENABLE reads 1. -/
def State.bypassEnabled (s : State) : Bool := s.reg 0x1030 10 == 1

/-- BYPASS_RAISE (R377): both ports have held block lock for 1 ms. A BYPASS_ENABLE that reads 0 has lowered it and keeps it low but
for the trials of R378 (log 42). -/
def execBypassRaise (s : State) : Host.Outcome State Fault Refusal :=
  .next (if s.dev.state.ringRuns ∧ s.ring.bothLocked ∧ s.bypassEnabled ∧ s.ring.forwarding = false then s.raiseBypass else s)

/-- BYPASS_LOSS_TIMEOUT (R377): a port has been without block lock for BYPASS_LOSS_TIME; a trial has its own time. -/
def execBypassLossTimeout (s : State) : Host.Outcome State Fault Refusal :=
  .next (if s.ring.bypass = .high ∧ s.ring.bothLocked = false then s.lowerBypass else s)

/-- BYPASS_RETRY_EXPIRY (R378): BYPASS_HOLD has fallen, and BYPASS_RETRY is not 0. -/
def execBypassRetryExpiry (s : State) : Host.Outcome State Fault Refusal :=
  .next (if s.dev.state.ringRuns ∧ s.ring.bypass = .low ∧ s.ring.fallen ∧ s.reg 0x1030 9 ≠ 0 then s.tryBypass else s)

/-- A failed trial counted in both ports' objects (R378, R421). -/
def State.trialFailed (s : State) : State := ((s.lowerBypass).bump 0x1040 9).bump 0x1041 9

/-- BYPASS_TRIAL_TIMEOUT (R378): 2 ms have passed without both block locks. -/
def execBypassTrialTimeout (s : State) : Host.Outcome State Fault Refusal :=
  .next (if s.ring.bypass = .trial ∧ s.ring.bothLocked = false then s.trialFailed else s)

/-- BYPASS_ENABLE written: 0 lowers BYPASS_HOLD, and 1 begins a trial after a fall (R377, R378). -/
def State.writeBypass (s : State) (value : Int) : State :=
  let t := s.setReg 0x1030 10 value
  if value = 0 then (if s.ring.bypass = .low then t else t.lowerBypass)
  else if s.dev.state.ringRuns ∧ s.ring.bypass = .low ∧ s.ring.fallen then t.tryBypass
  else t

/-- BYPASS_ENABLE_WRITE (R377, R378). -/
def execBypassEnableWrite (path : Path) (value : Nat) (s : State) : Host.Outcome State Fault Refusal :=
  .next (s.inTurnOf path (.bypassEnableWrite path value) (s.access path (orElse (s.writeGate path 0x1030 10) (numberTest 0x1030 10 (leBytes 1 value)))
    (s.writeBypass ((value % 2 : Nat) : Int)) []))

end Sys2Proof.Machine
end

