-- ==== Sys2Proof/Machine/JobFormat.lean ====
section
/-!
DEFINITION. The job format: the segment header, the head directory, the item lists, parameter sets and bitmaps, read
out of the stored words (R33 to R69).
-/
namespace Sys2Proof.Machine

/-- A word of a segment; 0 past its end. -/
def wordAt (words : List Nat) (i : Nat) : Nat := words.getD i 0

/-! ### Header and directory (R38 to R41) -/

/-- SEGMENT_ID. -/
def segId (words : List Nat) : Nat := wordAt words 0

/-- LAYER. -/
def segLayer (words : List Nat) : Nat := wordAt words 1

/-- HEAD_MASK. -/
def segMask (words : List Nat) : Nat := wordAt words 2

/-- START_ET. -/
def segStart (words : List Nat) : Nat := wordAt words 3 + 2 ^ 32 * wordAt words 4

/-- FORMAT. -/
def segFormat (words : List Nat) : Nat := bits (wordAt words 5) 31 16

/-- ITEM_COUNT. -/
def segItemCount (words : List Nat) : Nat := bits (wordAt words 5) 15 0

/-- PRIORITY. -/
def segPriority (words : List Nat) : Nat := bits (wordAt words 6) 31 24

/-- SEGMENT_WORDS. -/
def segWords (words : List Nat) : Nat := bits (wordAt words 6) 23 0

/-- BITMAP_OFFSET. -/
def segBitmap (words : List Nat) : Nat := bits (wordAt words 7) 23 0

/-- The heads of a mask, ascending. -/
def headsOf (mask : Nat) : List HeadNo := bitList 32 mask

/-- ITEMS of each directory word with its head, in ascending head order (R40). -/
def segDirectory (words : List Nat) : List (HeadNo × Nat) :=
  let hs := headsOf (segMask words)
  (hs.zip (List.range hs.length)).map (fun (h, i) => (h, bits (wordAt words (8 + i)) 31 16))

/-- The word at which the first list begins (R41). -/
def itemsBegin (words : List Nat) : Nat := 8 + (headsOf (segMask words)).length

/-- The word at which the item area must end: BITMAP_OFFSET, or the trailer (R41). -/
def itemsEnd (words : List Nat) : Nat := if segBitmap words = 0 then segWords words - 1 else segBitmap words

/-! ### Items -/

/-- An item as stored: its number, its head, the word offset of its header and its words (R43, R44). -/
structure RawItem where
  index : Nat
  head : HeadNo
  offset : Nat
  words : List Nat
  deriving DecidableEq, Repr

/-- TYPE of an item. -/
def RawItem.type (r : RawItem) : Nat := bits (wordAt r.words 0) 31 24

/-- LEN of an item. -/
def RawItem.len (r : RawItem) : Nat := bits (wordAt r.words 0) 23 16

/-- FLAGS of an item. -/
def RawItem.flags (r : RawItem) : Nat := bits (wordAt r.words 0) 15 0

/-- PSET of an item that has one (R47). -/
def RawItem.pset (r : RawItem) : Nat := bits (wordAt r.words 0) 9 0

/-- Walks n items of one head's list. The words left, the offset and the number move on by each item; none when an item
has LEN 0 or runs past the end (R41). -/
def walkList (h : HeadNo) (endAt : Nat) :
    (n index offset : Nat) → List Nat → Option (List RawItem × Nat × Nat × List Nat)
  | 0, index, offset, ws => some ([], index, offset, ws)
  | n + 1, index, offset, ws =>
    let len := bits (ws.headD 0) 23 16
    if len = 0 ∨ endAt < offset + len then none
    else
      match walkList h endAt n (index + 1) (offset + len) (ws.drop len) with
      | some (rest, i, o, w) => some (⟨index, h, offset, ws.take len⟩ :: rest, i, o, w)
      | none => none

/-- Walks every head's list in order. -/
def walkHeads (endAt : Nat) : List (HeadNo × Nat) → (index offset : Nat) → List Nat → Option (List RawItem × Nat)
  | [], _, offset, _ => some ([], offset)
  | (h, n) :: dirs, index, offset, ws =>
    match walkList h endAt n index offset ws with
    | none => none
    | some (items, i, o, w) =>
      match walkHeads endAt dirs i o w with
      | none => none
      | some (rest, e) => some (items ++ rest, e)

/-- The items of a segment in storage order, or none when directory and lists do not fit R40 and R41. -/
def rawItems (words : List Nat) : Option (List RawItem) :=
  let dirs := segDirectory words
  let start := itemsBegin words
  let bound := itemsEnd words
  if dirs.any (fun d => decide (d.2 = 0)) ∨ (dirs.foldl (fun a d => a + d.2) 0) ≠ segItemCount words
      ∨ (segBitmap words ≠ 0 ∧ segWords words ≤ segBitmap words + 1) then none
  else
    match walkHeads bound dirs 0 start (words.drop start) with
    | some (items, e) => if e = bound then some items else none
    | none => none

/-! ### Item bodies -/

/-- A signed coordinate word. -/
def coord (w : Nat) : Int := sext 32 w

/-- The vertices of a POLYLINE from its words (R51). -/
def verticesOf (words : List Nat) : List (Int × Int) :=
  (chunks 2 (words.drop 2)).map (fun p => (coord (wordAt p 0), coord (wordAt p 1)))

/-- What an item of a known type and length says (R43 to R66); none for a type that is not an item type (R45). -/
def RawItem.body (r : RawItem) : Option ItemBody :=
  let w := wordAt r.words
  match r.type with
  | 0x01 => some (.jump (coord (w 1)) (coord (w 2)))
  | 0x02 => some (.vector (coord (w 1)) (coord (w 2)) (coord (w 3)) (coord (w 4)) (bits (w 5) 7 0))
  | 0x03 => some (.polyline (bits (w 1) 7 0) (verticesOf r.words))
  | 0x04 => some (.points (coord (w 1)) (coord (w 2)) (coord (w 3)) (coord (w 4)) (bits (w 5) 31 16) (bits (w 5) 7 0))
  | 0x05 => some (.furrow (coord (w 1)) (coord (w 2)) (bits (w 3) 27 24) (bits (w 3) 23 16) (bits (w 3) 15 0)
      (bits (w 4) 15 0) (bits (w 5) 31 16) (bits (w 5) 15 0) (bits (w 6) 23 0))
  | 0x06 => some (.param (bits (w 0) 9 0))
  | 0x07 => some (.barrier (bits (w 0) 15 0) (w 1))
  | 0x08 => some (.marker (bits (w 0) 15 0) (w 1))
  | 0x09 => some (.dwell (w 1))
  | _ => none

/-- The lengths a type allows (R44). -/
def lengthAllowed (type len : Nat) : Bool :=
  match type with
  | 0x01 => len == 3
  | 0x02 => len == 6
  | 0x03 => decide (6 ≤ len) && decide (len ≤ 254) && len % 2 == 0
  | 0x04 => len == 6
  | 0x05 => len == 7
  | 0x06 => len == 17
  | 0x07 => len == 2
  | 0x08 => len == 2
  | 0x09 => len == 2
  | _ => false

/-- An item type marks: VECTOR, POLYLINE, POINTS, FURROW (R44). -/
def ItemBody.marks : ItemBody → Bool
  | .vector _ _ _ _ _ => true
  | .polyline _ _ => true
  | .points _ _ _ _ _ _ => true
  | .furrow _ _ _ _ _ _ _ _ _ => true
  | _ => false

/-- An item takes time (R44, R46). -/
def ItemBody.takesTime : ItemBody → Bool
  | .param _ => false
  | .marker _ _ => false
  | _ => true

/-- An item uses a parameter set (R47). -/
def ItemBody.usesSet : ItemBody → Bool
  | .jump _ _ => true
  | b => b.marks

/-- The beamlets an item names; a FURROW uses all eight. -/
def ItemBody.mask : ItemBody → Nat
  | .vector _ _ _ _ m => m
  | .polyline m _ => m
  | .points _ _ _ _ _ m => m
  | .furrow _ _ _ _ _ _ _ _ _ => 255
  | _ => 0

/-! ### Bitmaps (R55, R56) -/

/-- Words of one bitmap row. -/
def rowWords (columns : Nat) : Nat := (columns + 7) / 8

/-- The pixel (r, k) of a bitmap in the words of its segment. -/
def pixelAt (words : List Nat) (start columns r k : Nat) : Nat :=
  wordAt words (start + r * rowWords columns + k / 8) / 2 ^ (4 * (k % 8)) % 16

/-- The reserved nibbles of a row's last word are zero (R55). -/
def rowTailZero (words : List Nat) (start columns r : Nat) : Bool :=
  columns % 8 == 0 ||
    wordAt words (start + r * rowWords columns + (columns - 1) / 8) / 2 ^ (4 * (columns % 8)) == 0

/-! ### Parameter sets (R67, R68) -/

/-- A parameter set out of its 16 words. -/
def paramOf (ws : List Nat) : ParamSet :=
  let w := wordAt ws
  { softStart := bitAt (w 0) 26
    lineEnergyLock := bitAt (w 0) 25
    perBeamlet := bitAt (w 0) 24
    markSpeed := bits (w 0) 23 0
    jumpSpeed := bits (w 1) 23 0
    lawId := bits (w 2) 31 28
    preheatWidth := bits (w 2) 27 20
    preheatCount := bits (w 2) 19 16
    pointPeriod := bits (w 2) 15 0
    leadOut := bits (w 3) 31 16
    leadIn := bits (w 3) 15 0
    fOffset := sext 16 (bits (w 4) 31 16)
    cornerLimit := bits (w 4) 15 8
    overspeedTol := bits (w 4) 7 0
    preheatPower := bits (w 5) 15 0
    power := (List.range 8).map (fun b => if b % 2 = 0 then bits (w (8 + b / 2)) 15 0 else bits (w (8 + b / 2)) 31 16) }

/-- The reserved fields of a set's words are zero (R67). -/
def paramReservedZero (ws : List Nat) : Bool :=
  let w := wordAt ws
  bits (w 0) 31 27 == 0 && bits (w 1) 31 24 == 0 && bits (w 5) 31 16 == 0
    && [6, 7, 12, 13, 14, 15].all (fun i => w i == 0)

/-- The planned power of a beamlet under a set (R67). -/
def ParamSet.powerOf (p : ParamSet) (b : Nat) : Nat := if p.perBeamlet then p.power.getD b 0 else p.power.getD 0 0

/-- The newest version of a set in the store (R59). -/
def newestVersion (store : List ParamVersion) (set : Nat) : Option ParamVersion :=
  (store.filter (fun v => v.set == set)).getLast?

/-! ### Segment states -/

/-- The final states of R80. -/
def SegState.final : SegState → Bool
  | .refused => true
  | .done => true
  | .broken => true
  | .cancelled => true
  | _ => false

/-- A segment that is in SUBMITTED, ADMITTED, STAGED or RUNNING. -/
def Segment.unfinished (g : Segment) : Bool := !g.state.final

/-- The versions kept: the newest of each set, and every version an unfinished segment refers to (R61). -/
def keptVersions (store : List ParamVersion) (segs : List Segment) : List ParamVersion :=
  store.filter (fun v =>
    (newestVersion store v.set).any (fun n => n.serial == v.serial) ||
      segs.any (fun g => g.unfinished && g.items.any (fun i => i.version == v.serial)))

end Sys2Proof.Machine
end

