-- ==== Sys2Proof/Machine/Plan.lean ====
section
/-!
DEFINITION. The path of an item and its times: beamlet delays, marked stretches, jumps, lead-ins, pre-heat holds, the
furrow passes, and the terms of the worst-case time model (R48 to R54, R94, R125 to R137, R165 to R171, R177 to R196).
-/
namespace Sys2Proof.Machine

/-! ### A head's configuration (R161, R162, R198, R199) -/

/-- The values of a head that its path and its beamlets depend on. -/
structure HeadCfg where
  centre : Int × Int
  angle : Nat
  halfXY : Nat
  halfF : Nat
  pitch : Nat
  vMax : Nat
  aMax : Nat
  jMax : Nat
  settle : Nat
  park : Int × Int
  parkF : Int
  lag : Nat
  /-- o_b in head field coordinates, 0.25 µm units, and τ_b, for beamlets 0 to 7 -/
  offsets : List (Int × Int)
  delays : List Int
  grid : List Byte
  preheatPitch : Nat
  preheatGap : Nat
  deriving DecidableEq, Repr

/-- The i-th little-endian S32 of a byte string; 0 past its end. -/
def s32At (bs : List Byte) (i : Nat) : Int := sext 32 (leAt bs (4 * i) 4)

/-- L_h of R147: factory plus user. -/
def State.lagOf (s : State) (h : HeadNo) : Nat := (s.reg (0x4140 + h) 1 + s.reg (0x4140 + h) 2).toNat

/-- The configuration of a head. -/
def State.cfg (s : State) (h : HeadNo) : HeadCfg :=
  let r := s.reg (0x4100 + h)
  let geo := s.blob (0x4200 + h) 3
  { centre := (r 1, r 2)
    angle := (r 3).toNat
    halfXY := (r 4).toNat
    halfF := (r 5).toNat
    pitch := (r 6).toNat
    vMax := (r 7).toNat
    aMax := (r 8).toNat
    jMax := (r 9).toNat
    settle := (r 10).toNat
    park := (r 11, r 12)
    parkF := r 13
    lag := s.lagOf h
    offsets := (List.range 8).map (fun b => (s32At geo (4 * b), s32At geo (4 * b + 1)))
    delays := (List.range 8).map (fun b => s32At geo (4 * b + 2))
    grid := s.blob (0x4180 + h) 3
    preheatPitch := (s.reg (0x4220 + h) 2).toNat
    preheatGap := (s.reg (0x4220 + h) 3).toNat }

/-- The kinematic limits of a jump at a jump speed (R128). -/
def HeadCfg.limits (c : HeadCfg) (speed : Nat) : JumpLimits := ⟨min speed c.vMax, c.aMax, c.jMax⟩

/-- t_J of R129 in ticks, settle included; 0 for no distance. -/
def HeadCfg.jumpTicks (c : HeadCfg) (speed : Nat) (p q : Pos) : Nat :=
  let d := normPos (subPos q p)
  if d = 0 then 0 else jumpMotionTicks d (c.limits speed) + c.settle

/-! ### Beamlet delays (R167) -/

/-- The offset of a beamlet in the plate frame, with 30 fractional bits (R166). -/
def HeadCfg.plateOffset (c : HeadCfg) (b : Nat) : Int × Int :=
  let o := c.offsets.getD b (0, 0)
  (cosQ c.angle * o.1 - sinQ c.angle * o.2, sinQ c.angle * o.1 + cosQ c.angle * o.2)

/-- d_b along a direction at a speed: the projection is rounded once (R167). -/
def HeadCfg.delay (c : HeadCfg) (dir : Pos) (speed b : Nat) : Int :=
  let o := c.plateOffset b
  let norm30 := isqrt ((dir.1 * dir.1 + dir.2 * dir.2) * 2 ^ 60).toNat
  (c.lag : Int) + c.delays.getD b 0 - roundDiv ((o.1 * dir.1 + o.2 * dir.2) * 156250000) (norm30 * speed)

/-! ### Speeds and factors (R183) -/

/-- The speed at a derating factor. -/
def derated (speed factor : Nat) : Nat := if factor = 16 then speed else roundDivNat (speed * factor) 16

/-- A power word at a derating factor. -/
def deratedPower (power factor : Nat) : Nat := if factor = 16 then power else roundDivNat (power * factor) 16

/-! ### Marked stretches (R52, R134) -/

/-- The cosine of a whole number of degrees, with 60 fractional bits. -/
def cosDegrees60 (deg : Nat) : Int :=
  let quarter (d : Nat) : Int := if d = 90 then 0 else if d = 60 then 2 ^ 59
    else cosTerms (mul60 (pi60 * d / 180) (pi60 * d / 180)) 14 0
  if deg ≤ 90 then quarter deg else -quarter (180 - deg)

/-- A direction change is no greater than a limit in degrees (R52), decided on squares; 45° and 135° exactly. -/
def turnWithin (limit : Nat) (d1 d2 : Pos) : Bool :=
  let k := dot d1 d2
  let n := dot d1 d1 * dot d2 d2
  if 180 ≤ limit then true
  else
    let c2 : Int × Int := if limit = 45 ∨ limit = 135 then (1, 2)
      else (cosDegrees60 limit * cosDegrees60 limit, 2 ^ 120)
    if limit ≤ 90 then decide (0 ≤ k) && decide (c2.1 * n ≤ k * k * c2.2)
    else decide (0 ≤ k) || decide (k * k * c2.2 ≤ c2.1 * n)

/-- The chains of POLYLINE edges between vertices that are not marked through (R52, R134): the last chain is open. -/
def chainsOf (limit : Nat) : Pos → List Pos → List (List Pos)
  | p, [] => [[p]]
  | p, q :: rest =>
    match rest with
    | [] => [[p, q]]
    | r :: _ =>
      match chainsOf limit q rest with
      | [] => [[p, q]]
      | c :: cs =>
        if turnWithin limit (subPos q p) (subPos r q) then (p :: c) :: cs else [p, q] :: c :: cs

/-! ### Furrows (R191 to R195) -/

/-- The lane and residual of one beamlet: the residual in 0.25 µm units with 30 fractional bits (R191). -/
def HeadCfg.lane (c : HeadCfg) (angle pitch b : Nat) : Int × Int :=
  let o := c.plateOffset b
  let cross := roundDiv (-(o.1 * sinQ angle) + o.2 * cosQ angle) (2 ^ 30)
  let n := (2 * cross + pitch * 2 ^ 30) / (2 * pitch * 2 ^ 30)
  (n, cross - n * pitch * 2 ^ 30)

/-- The beamlets in use with their lanes and residuals: the lowest-numbered of each lane (R191). -/
def HeadCfg.lanes (c : HeadCfg) (angle pitch : Nat) : List (Nat × Int × Int) :=
  (List.range 8).foldl (fun acc b =>
    let l := c.lane angle pitch b
    if acc.any (fun x => decide (x.2.1 = l.1)) then acc else acc ++ [(b, l.1, l.2)]) []

/-- c_0 of R191, in whole 0.25 µm units. -/
def crossCorrection (lanes : List (Nat × Int × Int)) : Int :=
  roundDiv (lanes.foldl (fun a x => a + x.2.2) 0) (lanes.length * 2 ^ 30)

/-- One pass: its base row and its mask. -/
structure FurrowPass where
  base : Int
  mask : Nat
  deriving DecidableEq, Repr

/-- One base row of R194: the mask and the counts after it. -/
def furrowRow (rows passes : Nat) (lanes : List (Nat × Int × Int)) (base : Int) (count : List Nat) :
    Nat × List Nat :=
  lanes.foldl (fun acc x =>
    let row := base + x.2.1
    let r := row.toNat
    if 0 ≤ row ∧ r < rows ∧ acc.2.getD r 0 = count.getD r 0 ∧ acc.2.getD r 0 < passes then
      (setBit acc.1 x.1, acc.2.set r (acc.2.getD r 0 + 1))
    else acc) (0, count)

/-- The loop of R194; fuel bounds the number of base rows. -/
def furrowLoop (rows passes : Nat) (lanes : List (Nat × Int × Int)) (steps : List Nat) (lo : Int) :
    (fuel i : Nat) → (base : Int) → List Nat → List FurrowPass × Bool
  | 0, _, _, count => ([], count.all (fun n => n == passes))
  | fuel + 1, i, base, count =>
    if (rows : Int) - 1 < base + lo then ([], count.all (fun n => n == passes))
    else
      let m := furrowRow rows passes lanes base count
      let rest := furrowLoop rows passes lanes steps lo fuel (i + 1) (base + steps.getD (i % steps.length) 1) m.2
      if m.1 = 0 then rest else (⟨base, m.1⟩ :: rest.1, rest.2)

/-- furrow_passes of R194: the passes that run and whether every row is complete. -/
def furrowPasses (rows passes : Nat) (lanes : List (Nat × Int × Int)) (steps : List Nat) :
    List FurrowPass × Bool :=
  let ns := lanes.map (fun x => x.2.1)
  let hi := ns.foldl max (ns.headD 0)
  let lo := ns.foldl min (ns.headD 0)
  furrowLoop rows passes lanes steps lo (rows + (hi - lo).toNat + 1) 0 (-hi) (List.replicate rows 0)

/-- A step list is defined when LENGTH is 1 to 16 and its steps are 1 to 64 (R193). -/
def State.stepList (s : State) (n : Nat) : List Nat :=
  let steps := (List.range (s.regN (0x4240 + n) 1)).map (fun i => s.regN (0x4240 + n) (2 + i))
  if steps.all (fun x => decide (1 ≤ x) && decide (x ≤ 64)) then steps else []

/-! ### Stretch geometry -/

/-- A stretch of an item before it is timed: its path, the beamlets that may emit, and the FURROW pass it is. -/
structure StretchGeo where
  path : List Pos
  mask : Nat
  pass : Option FurrowPass
  /-- a FURROW pass runs along −u -/
  reversed : Bool
  deriving DecidableEq, Repr

/-- The passes of a FURROW as stretches (R192). -/
def HeadCfg.furrowStretches (c : HeadCfg) (x0 y0 : Int) (steps : List Nat) (passes angle pitch rows columns : Nat) :
    List StretchGeo :=
  let lanes := c.lanes angle pitch
  let c0 := crossCorrection lanes
  let ps := (furrowPasses rows passes lanes steps).1
  (ps.zip (List.range ps.length)).map (fun (p, i) =>
    let off := p.base * pitch - c0
    let at_ (k2 : Int) : Pos :=
      (x0 * 65536 + roundDiv ((cosQ angle * pitch * k2 - 2 * sinQ angle * off) * 65536) (2 ^ 31),
       y0 * 65536 + roundDiv ((sinQ angle * pitch * k2 + 2 * cosQ angle * off) * 65536) (2 ^ 31))
    let a := at_ (-1)
    let b := at_ (2 * columns - 1)
    ⟨if i % 2 = 0 then [a, b] else [b, a], p.mask, some p, decide (i % 2 = 1)⟩)

/-- The marked stretches of an item (R134). -/
def HeadCfg.stretches (c : HeadCfg) (it : Item) : List StretchGeo :=
  match it.body with
  | .vector x0 y0 x1 y1 m => [⟨[finePos x0 y0, finePos x1 y1], m, none, false⟩]
  | .points x0 y0 x1 y1 _ m => [⟨[finePos x0 y0, finePos x1 y1], m, none, false⟩]
  | .polyline m vs =>
    match vs.map (fun v => finePos v.1 v.2) with
    | [] => []
    | p :: rest => (chainsOf it.par.cornerLimit p rest).map (fun ch => ⟨ch, m, none, false⟩)
  | .furrow x0 y0 _ passes angle pitch rows columns _ =>
    c.furrowStretches x0 y0 it.steps passes angle pitch rows columns
  | _ => []

/-- The direction at the start of a path. -/
def startDir : List Pos → Pos
  | p :: q :: _ => subPos q p
  | _ => (0, 0)

/-- The direction at the end of a path. -/
def endDir (path : List Pos) : Pos :=
  match path.reverse with
  | q :: p :: _ => subPos q p
  | _ => (0, 0)

/-- The first point of a path. -/
def firstPos (path : List Pos) : Pos := path.headD (0, 0)

/-- The last point of a path. -/
def lastPos (path : List Pos) : Pos := path.getLastD (0, 0)

/-- The lead-in start of a stretch (R133). -/
def StretchGeo.leadInStart (g : StretchGeo) (leadIn : Nat) : Pos :=
  alongDir (firstPos g.path) (startDir g.path) (-((leadIn * 65536 : Nat) : Int))

/-- The lead-out end of a stretch (R133). -/
def StretchGeo.leadOutEnd (g : StretchGeo) (leadOut : Nat) : Pos :=
  alongDir (lastPos g.path) (endDir g.path) ((leadOut * 65536 : Nat) : Int)

/-- The lengths of a path's edges, in fine units. -/
def edgeLengths : List Pos → List Nat
  | p :: q :: rest => normPos (subPos q p) :: edgeLengths (q :: rest)
  | _ => []

/-- The length of a path. -/
def pathLength (path : List Pos) : Nat := (edgeLengths path).sum

/-- The lead-in start of an item's first stretch, if it marks. -/
def HeadCfg.itemEntry (c : HeadCfg) (it : Item) : Option Pos :=
  ((c.stretches it).head?).map (fun g => g.leadInStart it.par.leadIn)

/-- Where an item leaves the head, given where it finds it and the item that follows it directly (R49). -/
def HeadCfg.itemExit (c : HeadCfg) (it : Item) (after : Option Item) (p : Pos) : Pos :=
  match it.body with
  | .jump x y =>
    match after with
    | some n => if n.body.marks then (c.itemEntry n).getD (finePos x y) else finePos x y
    | none => finePos x y
  | _ =>
    match (c.stretches it).getLast? with
    | some g => g.leadOutEnd it.par.leadOut
    | none => p

/-! ### Pre-heat (R179 to R181) -/

/-- The item fires pre-heat. -/
def Item.preheats (it : Item) : Bool := decide (0 < it.par.preheatCount) && !it.noPreheat

/-- σ of R181 for a stretch at a speed. -/
def HeadCfg.preheatSpan (c : HeadCfg) (it : Item) (g : StretchGeo) (speed : Nat) : Nat :=
  let early := (bitList 8 g.mask).foldl (fun m b => max m (-(c.delay (startDir g.path) speed b)).toNat) 0
  it.par.preheatCount * c.preheatPitch + early

/-- H of R181: the hold before the lead-in. -/
def HeadCfg.preheatHold (c : HeadCfg) (it : Item) (g : StretchGeo) (speed : Nat) : Nat :=
  c.preheatSpan it g speed - ceilDiv (it.par.leadIn * 156250000) speed

/-! ### Times of an item (R94) -/

/-- The turns between consecutive stretches: t_J from the lead-out end of one to the lead-in start of the next. -/
def HeadCfg.turns (c : HeadCfg) (it : Item) : List StretchGeo → List Nat
  | g :: k :: rest =>
    c.jumpTicks it.par.jumpSpeed (g.leadOutEnd it.par.leadOut) (k.leadInStart it.par.leadIn) :: c.turns it (k :: rest)
  | _ => []

/-- Whether pre-heat occurs before each stretch: the first, and each after a turn longer than PREHEAT_GAP (R179). -/
def HeadCfg.occurrences (c : HeadCfg) (it : Item) (gs : List StretchGeo) : List Bool :=
  match gs with
  | [] => []
  | _ :: _ => it.preheats :: (c.turns it gs).map (fun t => it.preheats && decide (c.preheatGap < t))

/-- The terms of R94 of one item that starts at a position, each rounded up to a whole tick: its time in ticks, barrier
and guard waits left out. -/
def HeadCfg.itemTicks (c : HeadCfg) (it : Item) (after : Option Item) (p : Pos) (factor : Nat) : Nat :=
  match it.body with
  | .jump _ _ => c.jumpTicks it.par.jumpSpeed p (c.itemExit it after p)
  | .dwell n => n
  | .param _ => 0
  | .barrier _ _ => 0
  | .marker _ _ => 0
  | _ =>
    let gs := c.stretches it
    let v := derated it.par.markSpeed factor
    let jump := match c.itemEntry it with
      | some q => c.jumpTicks it.par.jumpSpeed p q
      | none => 0
    let lead := ceilDiv (gs.length * (it.par.leadIn + it.par.leadOut) * 156250000) v
    let mark := match it.body with
      | .furrow _ _ _ _ _ pitch _ columns _ => ceilDiv (gs.length * columns * pitch * 156250000) v
      | _ => travelTicks ((gs.map (fun g => pathLength g.path)).sum) v
    let pre := ceilDiv ((((gs.zip (c.occurrences it gs)).map (fun (g, o) =>
      if o then c.preheatSpan it g v * v - it.par.leadIn * 156250000 else 0)).sum)) v
    jump + (c.turns it gs).sum + lead + mark + pre

/-- Each item with the item stored after it in its list. -/
def withNext : List Item → List (Item × Option Item)
  | [] => []
  | i :: rest => (i, rest.head?) :: withNext rest

/-- The terms of a list from a position, and the position at its end (R94, R95). -/
def HeadCfg.listTicks (c : HeadCfg) : List (Item × Option Item) → Pos → List Nat × Pos
  | [], p => ([], p)
  | (i, n) :: rest, p =>
    let r := c.listTicks rest (c.itemExit i n p)
    (c.itemTicks i n p 16 :: r.1, r.2)

end Sys2Proof.Machine
end

