-- ==== Sys2Proof/Machine/Path.lean ====
section
/-!
DEFINITION. The commanded path of an item in time: its pieces, its stretches and the position at an instant (R121,
R128 to R137, R144, R181, R192). Times are fine ticks (2^−16 tick), positions fine units, F values 1/25,600 µm.
-/
namespace Sys2Proof.Machine

/-! ### F (R144, R145) -/

/-- F of a plate position under a focus offset in µm: F_OFFSET + DF(q) + F_th, in 1/25,600 µm. -/
def HeadCfg.focus (c : HeadCfg) (fOffset fThermal : Int) (p : Pos) : Int :=
  let q := rotateBack c.angle (subPos p (finePos c.centre.1 c.centre.2))
  fOffset * 25600 + 100 * gridDelta c.grid c.pitch 2 q + 256 * fThermal

/-! ### Pieces -/

/-- No profile: a hold or a motion at constant speed. -/
def JumpPhases.zero : JumpPhases := ⟨0, 0, 0⟩

/-- The pieces of a jump and its settle time from a position to another, and the time of its end (R128, R130, R132).
No distance takes no time. -/
def HeadCfg.jumpPieces (c : HeadCfg) (speed : Nat) (p q : Pos) (t : Nat) (f0 f1 : Int) (stretch : Nat) :
    List Piece × Nat :=
  let d := normPos (subPos q p)
  if d = 0 then ([], t)
  else
    let motion := jumpMotionTicks d (c.limits speed) * 65536
    let settle := c.settle * 65536
    let mid := f0 + roundDiv ((f1 - f0) * motion) (motion + settle)
    ([⟨1, t, motion, p, q, jumpPhases d (c.limits speed), f0, mid, stretch⟩,
      ⟨2, t + motion, settle, q, q, JumpPhases.zero, mid, f1, stretch⟩], t + motion + settle)

/-- A piece at constant speed. -/
def linePiece (phase t dur : Nat) (p q : Pos) (stretch : Nat) : Piece :=
  ⟨phase, t, dur, p, q, JumpPhases.zero, 0, 0, stretch⟩

/-- The edges of a marked stretch as pieces from a time. -/
def markPieces (speed stretch : Nat) : List Pos → Nat → List Piece × Nat
  | p :: q :: rest, t =>
    let d := travelFine (normPos (subPos q p)) speed
    let r := markPieces speed stretch (q :: rest) (t + d)
    (linePiece 4 t d p q stretch :: r.1, r.2)
  | _, t => ([], t)

/-- The duration of the marked part of a stretch: a FURROW pass spans COLUMNS pixels exactly (R192). -/
def StretchGeo.markFine (g : StretchGeo) (it : Item) (speed : Nat) : Nat :=
  match it.body with
  | .furrow _ _ _ _ _ pitch _ columns _ => travelFine (columns * pitch * 65536) speed
  | _ => ((edgeLengths g.path).map (fun l => travelFine l speed)).sum

/-- Where a stretch's pre-heat hold or lead-in, marked part, and lead-out begin and end. -/
structure StretchTimes where
  entry : Nat
  leadIn : Nat
  mark : Nat
  markEnd : Nat
  finish : Nat
  deriving DecidableEq, Repr

/-- The times of a stretch that is entered at a fine tick (R133, R181). -/
def HeadCfg.stretchTimes (c : HeadCfg) (it : Item) (g : StretchGeo) (speed t : Nat) (heat : Bool) : StretchTimes :=
  let leadIn := t + (if heat then c.preheatHold it g speed * 65536 else 0)
  let mark := leadIn + travelFine (it.par.leadIn * 65536) speed
  let markEnd := mark + g.markFine it speed
  ⟨t, leadIn, mark, markEnd, markEnd + travelFine (it.par.leadOut * 65536) speed⟩

/-- The pieces of a stretch: pre-heat hold, lead-in, marked edges, lead-out. -/
def stretchPieces (it : Item) (g : StretchGeo) (speed k : Nat) (x : StretchTimes) : List Piece :=
  let a := g.leadInStart it.par.leadIn
  let z := g.leadOutEnd it.par.leadOut
  (if x.entry < x.leadIn then [linePiece 0 x.entry (x.leadIn - x.entry) a a k] else [])
    ++ [linePiece 3 x.leadIn (x.mark - x.leadIn) a (firstPos g.path) k]
    ++ (match it.body with
        | .furrow _ _ _ _ _ _ _ _ _ => [linePiece 4 x.mark (x.markEnd - x.mark) (firstPos g.path) (lastPos g.path) k]
        | _ => (markPieces speed k g.path x.mark).1)
    ++ [linePiece 5 x.markEnd (x.finish - x.markEnd) (lastPos g.path) z k]

/-! ### Envelopes (R211, R219) -/

/-- The displacement of a beamlet's spot from the reference point while it travels in a direction: the cross part of
its offset (R211), in fine units. -/
def HeadCfg.spotShift (c : HeadCfg) (dir : Pos) (b : Nat) : Pos :=
  let o := c.plateOffset b
  let n : Pos := (-dir.2, dir.1)
  let k := o.1 * n.1 + o.2 * n.2
  let d := (dir.1 * dir.1 + dir.2 * dir.2).toNat * 2 ^ 14
  (roundDiv (n.1 * k) d, roundDiv (n.2 * k) d)

/-- The edges of a path with their directions. -/
def pathEdges : List Pos → List (Pos × Pos)
  | p :: q :: rest => (p, q) :: pathEdges (q :: rest)
  | _ => []

/-- A fine position rounded to 0.25 µm. -/
def unitPos (p : Pos) : Pos := (roundDiv p.1 65536, roundDiv p.2 65536)

/-- The number of points of a POINTS item (R53). -/
def pointCount (length speed period : Nat) : Nat :=
  if speed * period = 0 then 1 else length * 156250000 / (speed * period * 65536) + 1

/-- P′ and ON′ of R177 and R178. -/
def pointTimes (period onTicks factor : Nat) : Nat × Nat :=
  (roundDivNat (period * 16) factor, max 16 (roundDivNat (onTicks * 16) factor))

/-- A beamlet has a pixel of power in column k of a FURROW pass, counted in the pass's direction (R192). -/
def HeadCfg.litPixel (c : HeadCfg) (words : List Nat) (it : Item) (g : StretchGeo) (b k : Nat) : Bool :=
  match it.body, g.pass with
  | .furrow _ _ _ _ angle pitch _ columns bitmap, some pass =>
    (c.lanes angle pitch).any (fun l => l.1 == b && g.mask.testBit b
      && decide (0 < pixelAt words bitmap columns (pass.base + l.2.1).toNat (if g.reversed then columns - 1 - k else k)))
  | _, _ => false

/-- The reference point's path from a stretch's first marking event to its last (R126, R219): a POINTS item ends with its last OFF
edge (R212), and a FURROW pass begins and ends with pixels that are not zero. -/
def HeadCfg.markedPath (c : HeadCfg) (words : List Nat) (it : Item) (g : StretchGeo) : List Pos :=
  match it.body with
  | .points _ _ _ _ onTicks _ =>
    let last := (pointCount (pathLength g.path) it.par.markSpeed it.par.pointPeriod - 1) * it.par.pointPeriod + max 16 onTicks
    [firstPos g.path, alongDir (firstPos g.path) (startDir g.path) (roundDiv (last * it.par.markSpeed * 65536) 156250000)]
  | .furrow _ _ _ _ _ _ _ columns _ =>
    let lit := (List.range columns).filter (fun k => (List.range 8).any (fun b => c.litPixel words it g b k))
    match lit.head?, lit.getLast? with
    | some a, some z => [lerpPos (firstPos g.path) (lastPos g.path) a columns, lerpPos (firstPos g.path) (lastPos g.path) (z + 1) columns]
    | _, _ => []
  | _ => g.path

/-- The beamlets that emit in a stretch, ownership aside. -/
def HeadCfg.emitters (c : HeadCfg) (words : List Nat) (it : Item) (g : StretchGeo) : List Nat :=
  match it.body with
  | .furrow _ _ _ _ _ _ _ columns _ => (bitList 8 g.mask).filter (fun b => (List.range columns).any (c.litPixel words it g b))
  | _ => bitList 8 g.mask

/-- The envelope of a stretch (R219): the path between its marking events as swept by the spot of each beamlet that emits. -/
def HeadCfg.envelope (c : HeadCfg) (words : List Nat) (it : Item) (g : StretchGeo) : List Line :=
  (c.emitters words it g).flatMap (fun b =>
    (pathEdges (c.markedPath words it g)).map (fun (p, q) =>
      let o := c.spotShift (subPos q p) b
      (unitPos (addPos p o), unitPos (addPos q o))))

/-! ### An item in time -/

/-- The runtime record of a stretch. -/
def HeadCfg.stretchOf (c : HeadCfg) (words : List Nat) (it : Item) (g : StretchGeo) (speed : Nat) (x : StretchTimes) : Stretch :=
  { path := g.path, mask := g.mask, speed := speed, entry := x.entry, mark := x.mark, markEnd := x.markEnd
    finish := x.finish, delays := (List.range 8).map (c.delay (startDir g.path) speed), envelope := c.envelope words it g
    passed := false, firstCheck := none, waited := false, keepoutCounted := false, withheld := false }

/-- The stretches of an item from a time: each is reached by a jump from where the one before it ended. -/
def HeadCfg.timeStretches (c : HeadCfg) (it : Item) (fTh : Int) (speed : Nat) :
    List (StretchGeo × Bool) → (k : Nat) → (p : Pos) → (f t : Int) → List (StretchGeo × StretchTimes) × List Piece × Nat
  | [], _, _, _, t => ([], [], t.toNat)
  | (g, heat) :: rest, k, p, f, t =>
    let a := g.leadInStart it.par.leadIn
    let j := c.jumpPieces it.par.jumpSpeed p a t.toNat f (c.focus it.par.fOffset fTh a) k
    let x := c.stretchTimes it g speed j.2 heat
    let z := g.leadOutEnd it.par.leadOut
    let r := c.timeStretches it fTh speed rest (k + 1) z (c.focus it.par.fOffset fTh z) x.finish
    ((g, x) :: r.1, j.1 ++ stretchPieces it g speed k x ++ r.2.1, r.2.2)

/-- What an item does in time: its pieces, its stretches and the end of its motion. -/
structure ItemTiming where
  pieces : List Piece
  stretches : List (StretchGeo × StretchTimes)
  finish : Nat
  deriving DecidableEq, Repr

/-- The timing of an item that starts at a fine tick from a position with a value of F (R121). Item boundaries are whole
ticks (R124, DEDUCED): an item ends at the tick at or after its exact end. A JUMP takes F towards
the next marking item (R132). -/
def HeadCfg.timing (c : HeadCfg) (it : Item) (after nextMark : Option Item) (fTh : Int) (p : Pos) (f : Int) (t factor : Nat) :
    ItemTiming :=
  match it.body with
  | .jump _ _ =>
    let q := c.itemExit it after p
    let f1 := match nextMark with
      | some n => c.focus n.par.fOffset fTh ((c.itemEntry n).getD q)
      | none => c.focus it.par.fOffset fTh q
    let j := c.jumpPieces it.par.jumpSpeed p q t f f1 0
    ⟨j.1, [], j.2⟩
  | .dwell n => ⟨[linePiece 0 t (n * 65536) p p 0], [], t + n * 65536⟩
  | .param _ => ⟨[], [], t⟩
  | .barrier _ _ => ⟨[], [], t⟩
  | .marker _ _ => ⟨[], [], t⟩
  | _ =>
    let gs := c.stretches it
    let speed := derated it.par.markSpeed factor
    let r := c.timeStretches it fTh speed (gs.zip (c.occurrences it gs)) 0 p f t
    ⟨r.2.1, r.1, ceilDiv r.2.2 65536 * 65536⟩

/-! ### The position at an instant (R121, R123, R130) -/

/-- The piece in force at a fine tick: the last that has begun. -/
def pieceAt (ps : List Piece) (t : Nat) : Option Piece := (ps.filter (fun p => decide (p.start ≤ t))).getLast?

/-- The position of a piece at a fine tick; its end once its time is over. -/
def Piece.posAt (p : Piece) (t : Nat) : Pos :=
  let dt := t - p.start
  if p.dur ≤ dt then p.p1
  else if p.phase = 1 then
    let f := jumpFraction p.profile (dt * p.profile.total / p.dur)
    lerpPos p.p0 p.p1 f.1 f.2
  else lerpPos p.p0 p.p1 dt p.dur

/-- The PHASE code of a piece at a fine tick; a wait after its end is a hold (R149, R222). -/
def Piece.phaseAt (p : Piece) (t : Nat) : Nat := if p.start + p.dur ≤ t then 0 else p.phase

/-- The items of a head in time: those that have ended with entries still to write, the one in progress, and those planned
ahead. -/
def HeadPath.runs (x : HeadPath) : List ItemRun := x.recent ++ x.run.toList ++ x.ahead

/-- The item in progress and those planned ahead. -/
def HeadPath.coming (x : HeadPath) : List ItemRun := x.run.toList ++ x.ahead

/-- Every item of a head changed. -/
def HeadPath.mapRuns (x : HeadPath) (f : ItemRun → ItemRun) : HeadPath :=
  { x with recent := x.recent.map f, run := x.run.map f, ahead := x.ahead.map f }

/-- One item of a head changed. -/
def HeadPath.onItem (x : HeadPath) (seg item : Nat) (f : ItemRun → ItemRun) : HeadPath :=
  x.mapRuns (fun r => if r.seg = seg ∧ r.item = item then f r else r)

/-- The item that a fine tick lies in, of those in progress or planned ahead. -/
def HeadPath.runAt (x : HeadPath) (t : Nat) : Option ItemRun := (x.coming.filter (fun r => decide (r.start * 65536 ≤ t))).getLast?

/-- The piece of a head's path in force at a fine tick, none in a hold after the last item. -/
def HeadPath.pieceOf (x : HeadPath) (t : Nat) : Option Piece :=
  match pieceAt (x.coming.flatMap (fun r => r.pieces)) t with
  | some p => some p
  | none => if x.run = none ∧ x.endedAt < t then none else x.trail.find? (fun p => decide (p.start ≤ t))

/-- Pieces kept once they belong to an item that has ended at a fine tick: those of the last 10,000,000 ticks. -/
def HeadPath.trailWith (x : HeadPath) (ps : List Piece) (finish : Nat) : List Piece :=
  (ps.reverse ++ x.trail).filter (fun p => decide (finish ≤ p.start + p.dur + 10000000 * 65536))

/-- p_c of a head at a fine tick. -/
def HeadPath.posAt (x : HeadPath) (t : Nat) : Pos :=
  match x.pieceOf t with
  | some p => p.posAt t
  | none => if t < x.endedAt then ((x.trail.getLast?).map (fun p => p.p0)).getD x.pos else x.pos

/-- p_c of a head at an ET, in 0.25 µm units. -/
def HeadPath.unitAt (x : HeadPath) (et : Tick) : Int × Int := unitPos (x.posAt (et * 65536))

/-- PHASE of a head at a fine tick. -/
def HeadPath.phaseAt (x : HeadPath) (t : Nat) : Nat := ((x.pieceOf t).map (fun p => p.phaseAt t)).getD 0

/-- A piece later by a number of fine ticks. -/
def Piece.later (p : Piece) (n : Nat) : Piece := { p with start := p.start + n }

/-- A stretch later by a number of fine ticks. -/
def Stretch.later (x : Stretch) (n : Nat) : Stretch :=
  { x with entry := x.entry + n, mark := x.mark + n, markEnd := x.markEnd + n, finish := x.finish + n }

/-- A stretch that waits one servo period more at its lead-in start: every later piece moves on with it (R222). -/
def ItemRun.wait (r : ItemRun) (k ticks : Nat) : ItemRun :=
  let from_ := ((r.stretches[k]?).map (fun s => s.entry)).getD r.finish
  { r with
    pieces := r.pieces.map (fun p => if from_ ≤ p.start ∧ (k < p.stretch ∨ p.phase = 0 ∨ 3 ≤ p.phase) then
      p.later (ticks * 65536) else p)
    stretches := (r.stretches.zip (List.range r.stretches.length)).map (fun (s, i) => if k ≤ i then s.later (ticks * 65536) else s)
    planned := r.planned.map (fun es => es.map (fun e => if k ≤ e.stretch then { e with et := e.et + ticks } else e))
    finish := r.finish + ticks * 65536 }

/-- An item that begins later, whole, by a number of ticks. -/
def ItemRun.later (r : ItemRun) (ticks : Nat) : ItemRun :=
  { r with
    start := r.start + ticks, pieces := r.pieces.map (fun p => p.later (ticks * 65536))
    stretches := r.stretches.map (fun s => s.later (ticks * 65536))
    planned := r.planned.map (fun es => es.map (fun e => { e with et := e.et + ticks })), finish := r.finish + ticks * 65536 }

/-- Items in order, one of which waits in a stretch: those behind it begin later. -/
def waitRuns (seg item k ticks : Nat) : List ItemRun → List ItemRun
  | [] => []
  | r :: rest =>
    if r.seg = seg ∧ r.item = item then r.wait k ticks :: rest.map (fun q => q.later ticks) else r :: waitRuns seg item k ticks rest

/-- A stretch of a head's item waits one servo period more (R222). -/
def HeadPath.wait (x : HeadPath) (seg item k ticks : Nat) : HeadPath :=
  let rs := waitRuns seg item k ticks x.coming
  if x.run.isSome then { x with run := rs.head?, ahead := rs.drop 1 } else { x with ahead := rs }

end Sys2Proof.Machine
end

