-- ==== Sys2Proof/Machine/Emit.lean ====
section
/-!
DEFINITION. The planned emission of an item: ownership of spots, blend weights, and the edges of each beamlet with their
delays, pre-heat pulses and planned energy (R168 to R180, R183, R192, R203 to R214).
-/
namespace Sys2Proof.Machine

/-! ### Ownership (R203 to R213) -/

/-- A boundary of R208. -/
structure Boundary where
  axis : Nat
  position : Int
  half : Nat
  jitter : Nat
  blend : Nat
  deriving DecidableEq, Repr

/-- What ownership depends on: the cell pitch, the table and the boundaries. -/
structure StitchCfg where
  pitch : Nat
  seed : Nat
  table : List Byte
  bounds : List Boundary
  deriving DecidableEq, Repr

/-- Boundary n as configured. -/
def State.boundary (s : State) (n : Nat) : Boundary :=
  ⟨s.regN (0x5040 + n) 1, s.reg (0x5040 + n) 2, s.regN (0x5040 + n) 3, s.regN (0x5040 + n) 4, s.regN (0x5040 + n) 5⟩

/-- The stitching configuration. -/
def State.stitch (s : State) : StitchCfg :=
  ⟨s.regN 0x5000 1, s.regN 0x5000 2, s.blob 0x5010 1, (List.range 64).map s.boundary⟩

/-- seam(n, layer) of R209: div truncates towards zero. -/
def StitchCfg.seam (c : StitchCfg) (n layer : Nat) : Int :=
  let u := (layer + c.seed + 15471 * n) * 40503 % 65536
  match c.bounds[n]? with
  | some b => b.position + ((2 * (u : Int) - 65535) * b.jitter).tdiv 65536
  | none => 0

/-- The cell of a fine position along one axis (R203). -/
def StitchCfg.cellOf (c : StitchCfg) (a : Int) : Int := a / ((c.pitch * 65536 : Nat) : Int) + 64

/-- Entry (i, j) of the table; an empty table is all EMPTY (R206). -/
def StitchCfg.entry (c : StitchCfg) (i j : Nat) : Nat := leAt c.table (4 * (128 * j + i)) 4

/-- The entry of a fine position, none outside the cell grid. -/
def StitchCfg.entryAt (c : StitchCfg) (p : Pos) : Option Nat :=
  let i := c.cellOf p.1
  let j := c.cellOf p.2
  if 0 ≤ i ∧ i < 128 ∧ 0 ≤ j ∧ j < 128 then some (c.entry i.toNat j.toNat) else none

/-- MODE, SIDE, PRIMARY, SECONDARY, BOUNDARY of an entry (R204). -/
def cellMode (e : Nat) : Nat := bits e 31 30
/-- SIDE. -/
def cellSide (e : Nat) : Nat := bits e 29 29
/-- PRIMARY. -/
def cellPrimary (e : Nat) : Nat := bits e 28 24
/-- SECONDARY. -/
def cellSecondary (e : Nat) : Nat := bits e 23 19
/-- BOUNDARY. -/
def cellBoundary (e : Nat) : Nat := bits e 18 13

/-- The weight of a head in 1/32 at a position with coordinate a (fine units) across a seam line s, with the primary on
one side and an overlap of length blend (R205, R210, R213). -/
def seamWeight (primary below : Bool) (blend : Nat) (seam a : Int) : Nat :=
  let lower := seam - blend / 2
  let k0 := 16 * (a - lower * 65536) / ((blend * 65536 : Nat) : Int)
  let overlap := decide (0 < blend) && decide (lower * 65536 ≤ a) && decide (a < (lower + blend) * 65536)
  let k := if below then k0 else 15 - k0
  if overlap then (if primary then 31 - 2 * k else 2 * k + 1).toNat
  else if decide (a < seam * 65536) == (primary == below) then 32 else 0

/-- The weight of a head at a fine position in a layer, in 1/32 (R205). -/
def StitchCfg.weight (c : StitchCfg) (layer h : Nat) (p : Pos) : Nat :=
  match c.entryAt p with
  | none => 0
  | some e =>
    match cellMode e with
    | 0 => 0
    | 1 => if cellPrimary e = h then 32 else 0
    | m =>
      if cellPrimary e = h ∨ cellSecondary e = h then
        let n := cellBoundary e
        let b := c.bounds.getD n ⟨0, 0, 0, 0, 0⟩
        seamWeight (cellPrimary e == h) (cellSide e == 0) (if m = 3 then b.blend else 0) (c.seam n layer)
          (if b.axis = 0 then p.1 else p.2)
      else 0

/-- A word at a weight (R213). -/
def weighted (power w : Nat) : Nat := if w = 32 then power else roundDivNat (power * w) 32

/-- The coordinates at which a weight can change along an axis between two fine coordinates: cell edges, seam lines and
blend steps. -/
def StitchCfg.cuts (c : StitchCfg) (layer axis : Nat) (lo hi : Int) : List Int :=
  let pitch := ((c.pitch * 65536 : Nat) : Int)
  let cells := (List.range 129).map (fun (i : Nat) => ((i : Int) - 64) * pitch)
  let seams := (List.range 64).flatMap (fun n =>
    match c.bounds[n]? with
    | some b =>
      if b.half = 0 ∨ b.axis ≠ axis then []
      else
        let s := c.seam n layer
        let lower := s - b.blend / 2
        s * 65536 :: (if b.blend = 0 then [] else
          (List.range 17).map (fun (k : Nat) => lower * 65536 + ((b.blend * k : Nat) : Int) * 4096))
    | none => [])
  (cells ++ seams).filter (fun a => decide (lo < a) && decide (a < hi))

/-- Inserts into an ascending list without repeats. -/
def insertAsc (x : Nat) : List Nat → List Nat
  | [] => [x]
  | y :: ys => if x < y then x :: y :: ys else if x = y then y :: ys else y :: insertAsc x ys

/-- The instants after the start of a motion from p to q of a duration, in fine ticks, at which the weight can change. -/
def StitchCfg.cutTimes (c : StitchCfg) (layer : Nat) (p q : Pos) (dur : Nat) : List Nat :=
  let along (a0 a1 : Int) (axis : Nat) : List Nat :=
    (c.cuts layer axis (min a0 a1) (max a0 a1)).map (fun a =>
      (roundDiv ((if a0 ≤ a1 then a - a0 else a0 - a) * dur) (if a0 ≤ a1 then a1 - a0 else a0 - a1).toNat).toNat)
  (along p.1 q.1 0 ++ along p.2 q.2 1).foldl (fun acc t => if 0 < t ∧ t < dur then insertAsc t acc else acc) []

/-- The weights along a motion: from each instant on, the weight at the middle of the span that begins there. -/
def StitchCfg.spans (c : StitchCfg) (layer h : Nat) (p q : Pos) (t0 dur : Nat) : List (Nat × Nat) :=
  let ts := 0 :: c.cutTimes layer p q dur
  (ts.zip (ts.drop 1 ++ [dur])).map (fun (a, b) => (t0 + a, c.weight layer h (lerpPos p q (a + b) (2 * dur))))

/-! ### Line buffer entries (R172 to R175) -/

/-- A beamlet that does not emit. -/
def BeamNow.dark : BeamNow := ⟨0, false, 0, 0, 0⟩

/-- The emission an edge begins (R172, R175). -/
def Edge.begins (e : Edge) : BeamNow :=
  ⟨if e.kind = .off then 0 else e.power, e.kind == .preheatOn, e.seg, e.item, e.stretch⟩

/-- An entry put among others in ascending order of EDGE_ET: it replaces one on the same tick (R172, R174). -/
def placeEdge (e : Edge) (es : List Edge) : List Edge :=
  es.filter (fun x => decide (x.et < e.et)) ++ e :: es.filter (fun x => decide (e.et < x.et))

/-! ### Edges -/

/-- Power levels from instants on, turned into events: ON, LEVEL and OFF, nothing where the level does not change. -/
def levelEvents (mk : EdgeKind → Nat → Int → Edge) : (on : Nat) → List (Int × Nat) → List Edge
  | _, [] => []
  | on, (t, p) :: rest =>
    if p = on then levelEvents mk on rest
    else mk (if on = 0 then .on else if p = 0 then .off else .level) p t :: levelEvents mk p rest

/-- Sums of two lists of levels at the same instants keep the later one (R174). -/
def keepLater : List (Int × Nat) → List (Int × Nat)
  | a :: b :: rest => if a.1 = b.1 then keepLater (b :: rest) else a :: keepLater (b :: rest)
  | l => l

/-- Fine ticks to the nearest tick. -/
def tickOf (t : Nat) : Int := (t + 32768) / 65536

/-- What the edges of one stretch are made from. -/
structure EmitCtx where
  c : HeadCfg
  st : StitchCfg
  layer : Nat
  words : List Nat
  it : Item
  factor : Nat
  seg : Nat

/-- The planned power of a beamlet at the item's factor (R183). -/
def EmitCtx.power (x : EmitCtx) (b : Nat) : Nat := deratedPower (x.it.par.powerOf b) x.factor

/-- Levels of one beamlet along a marked path: each edge's spans, shifted to the beamlet's spot (R211, R212). -/
def EmitCtx.pathLevels (x : EmitCtx) (b speed : Nat) : List (Pos × Pos) → Nat → List (Nat × Nat) × Nat
  | [], t => ([], t)
  | (p, q) :: rest, t =>
    let o := x.c.spotShift (subPos q p) b
    let d := travelFine (normPos (subPos q p)) speed
    let r := x.pathLevels b speed rest (t + d)
    ((x.st.spans x.layer x.it.head (addPos p o) (addPos q o) t d).map (fun (s, w) => (s, weighted (x.power b) w)) ++ r.1, r.2)

/-- Levels of a VECTOR or a POLYLINE chain: delayed by d_b of its start, the end by d_b of its end (R168, R169). DESIGN CHOICE (log
entry 104): the manual does not say what becomes of a level change that the end direction's delay puts after the final OFF edge; it
is left out. -/
def EmitCtx.vectorLevels (x : EmitCtx) (g : StretchGeo) (tm : StretchTimes) (speed b : Nat) : List (Int × Nat) :=
  let off := tickOf tm.markEnd + x.c.delay (endDir g.path) speed b
  (((x.pathLevels b speed (pathEdges g.path) tm.mark).1.map (fun (t, p) =>
    (tickOf t + x.c.delay (startDir g.path) speed b, p))).filter (fun l => decide (l.1 < off))) ++ [(off, 0)]

/-- A POINTS item emits continuously (R178). -/
def Item.merges (it : Item) (factor : Nat) : Bool :=
  match it.body with
  | .points _ _ _ _ onTicks _ =>
    let p := pointTimes it.par.pointPeriod onTicks factor
    decide (p.1 < p.2 + 16)
  | _ => false

/-- Levels of a POINTS item (R177, R178, R212). -/
def EmitCtx.pointLevels (x : EmitCtx) (g : StretchGeo) (tm : StretchTimes) (speed onTicks b : Nat) : List (Int × Nat) :=
  let d := x.c.delay (startDir g.path) speed b
  let o := x.c.spotShift (startDir g.path) b
  let n := pointCount (pathLength g.path) x.it.par.markSpeed x.it.par.pointPeriod
  let pt := pointTimes x.it.par.pointPeriod onTicks x.factor
  let start := tickOf tm.mark
  let at_ (k : Nat) : Nat := roundDivNat (k * x.it.par.pointPeriod * 16) x.factor
  let spot (ticks : Nat) : Pos :=
    addPos (alongDir (firstPos g.path) (startDir g.path) (roundDiv (ticks * speed * 65536) 156250000)) o
  if x.it.merges x.factor then
    let last := at_ (n - 1) + pt.2
    (x.st.spans x.layer x.it.head (spot 0) (spot last) 0 (last * 65536)).map (fun (s, w) =>
      (start + tickOf s + d, weighted (x.power b) w)) ++ [(start + last + d, 0)]
  else
    (List.range n).flatMap (fun k =>
      [(start + (at_ k : Nat) + d, weighted (x.power b) (x.st.weight x.layer x.it.head (spot (at_ k)))),
       (start + ((at_ k + pt.2 : Nat) : Int) + d, 0)])

/-- Levels of one beamlet of a FURROW pass (R192, R56): pixel k of the row, counted in the pass's direction. -/
def EmitCtx.furrowLevels (x : EmitCtx) (g : StretchGeo) (tm : StretchTimes) (speed angle pitch columns bitmap b : Nat) :
    List (Int × Nat) :=
  let lanes := x.c.lanes angle pitch
  match g.pass, lanes.find? (fun l => l.1 == b) with
  | some pass, some lane =>
    let row := (pass.base + lane.2.1).toNat
    let d := x.c.delay (startDir g.path) speed b
    let o := x.c.spotShift (startDir g.path) b
    let start := tickOf tm.mark
    let at_ (k : Nat) : Int := (roundDivNat (k * pitch * 156250000) speed : Nat)
    let level (k : Nat) : Nat :=
      let v := pixelAt x.words bitmap columns row (if g.reversed then columns - 1 - k else k)
      let p := deratedPower (roundDivNat (x.it.par.powerOf b * v) 15) x.factor
      weighted p (x.st.weight x.layer x.it.head (addPos (lerpPos (firstPos g.path) (lastPos g.path) (2 * k + 1) (2 * columns)) o))
    (List.range columns).map (fun k => (start + at_ k + d, level k)) ++ [(start + at_ columns + d, 0)]
  | _, _ => []

/-- The levels of one beamlet in a stretch before clamping. -/
def EmitCtx.levels (x : EmitCtx) (g : StretchGeo) (tm : StretchTimes) (speed b : Nat) : List (Int × Nat) :=
  match x.it.body with
  | .points _ _ _ _ onTicks _ => x.pointLevels g tm speed onTicks b
  | .furrow _ _ _ _ angle pitch _ columns bitmap => x.furrowLevels g tm speed angle pitch columns bitmap b
  | _ => x.vectorLevels g tm speed b

/-- The ET of a beamlet's first ON edge of a stretch before ownership gating, unclamped (R180, R214); none where the
beamlet has no pixel of power in the pass. -/
def EmitCtx.firstOn (x : EmitCtx) (g : StretchGeo) (tm : StretchTimes) (speed b : Nat) : Option Int :=
  match x.it.body with
  | .furrow _ _ _ _ angle pitch _ columns bitmap =>
    match g.pass, (x.c.lanes angle pitch).find? (fun l => l.1 == b) with
    | some pass, some lane =>
      let row := (pass.base + lane.2.1).toNat
      ((List.range columns).find? (fun k =>
        0 < deratedPower (roundDivNat (x.it.par.powerOf b *
          pixelAt x.words bitmap columns row (if g.reversed then columns - 1 - k else k)) 15) x.factor)).map (fun k =>
        tickOf tm.mark + (roundDivNat (k * pitch * 156250000) speed : Nat) + x.c.delay (startDir g.path) speed b)
    | _, _ => none
  | _ => some (tickOf tm.mark + x.c.delay (startDir g.path) speed b)

/-- The pre-heat pulses of a beamlet before its first ON edge (R180). -/
def EmitCtx.pulses (x : EmitCtx) (tB : Int) (k : Nat) : List Edge :=
  let p := deratedPower x.it.par.preheatPower x.factor
  if x.it.par.preheatWidth = 0 ∨ p = 0 then []
  else
    (List.range x.it.par.preheatCount).flatMap (fun i =>
      let t := (tB - ((x.it.par.preheatCount - i) * x.c.preheatPitch : Nat)).toNat
      [⟨t, .preheatOn, p, x.seg, x.it.index, k⟩, ⟨t + x.it.par.preheatWidth, .off, 0, x.seg, x.it.index, k⟩])

/-- The first tick of the lead-in of a stretch: no event falls before it (R171). -/
def StretchTimes.floor (tm : StretchTimes) : Int := ((tm.leadIn + 65535) / 65536 : Nat)

/-- The edges of one beamlet in stretch k, with the number of events clamped. -/
def EmitCtx.beamEdges (x : EmitCtx) (g : StretchGeo) (tm : StretchTimes) (heat : Bool) (speed k b : Nat) :
    List Edge × Nat :=
  if g.mask.testBit b = false then ([], 0)
  else
    let raw := levelEvents (fun kind p t => ⟨t.toNat, kind, p, x.seg, x.it.index, k⟩) 0
      (keepLater ((x.levels g tm speed b).map (fun (t, p) => (max t tm.floor, p))))
    let early := (levelEvents (fun kind p t => ⟨(t - tm.floor + 2 ^ 40).toNat, kind, p, 0, 0, 0⟩) 0
      (keepLater (x.levels g tm speed b))).countP (fun e => decide (e.et < 2 ^ 40))
    let pre := if heat then
      match x.firstOn g tm speed b with
      | some t => x.pulses (max t tm.floor) k
      | none => []
      else []
    ((pre ++ raw).foldl (fun es e => placeEdge e es) [], early)

/-- The planned edges of an item per beamlet, and the events clamped (R171). -/
def EmitCtx.edges (x : EmitCtx) (sts : List (StretchGeo × StretchTimes)) : List (List Edge) × Nat :=
  let speed := derated x.it.par.markSpeed x.factor
  let heats := x.c.occurrences x.it (sts.map (·.1))
  let all (b : Nat) : List (List Edge × Nat) :=
    (sts.zip (heats.zip (List.range sts.length))).map (fun (st, heat, k) => x.beamEdges st.1 st.2 heat speed k b)
  ((List.range 8).map (fun b => (all b).flatMap (·.1)), ((List.range 8).map (fun b => ((all b).map (·.2)).sum)).sum)

/-! ### Energy of edges (R111, R112) -/

/-- The energy that entries plan, from a tick and the emission there on, in the emission that meets a test. -/
def energyWhere (p : BeamNow → Bool) : Tick → BeamNow → List Edge → Nat
  | _, _, [] => 0
  | t, n, e :: rest => (if p n then n.power * (e.et - t) else 0) + energyWhere p (max t e.et) e.begins rest

/-- The same within an interval of ticks, first to before the end. -/
def energyBetween (p : BeamNow → Bool) (first stop : Tick) : Tick → BeamNow → List Edge → Nat
  | _, _, [] => 0
  | t, n, e :: rest =>
    (if p n then n.power * (min stop e.et - max first t) else 0) + energyBetween p first stop (max t e.et) e.begins rest

/-- Planned energy of a list of edges from a tick on, with a power in force at it: each power word times its ticks. -/
def energyFrom : (t power : Nat) → List Edge → Nat
  | _, _, [] => 0
  | t, p, e :: rest => p * (e.et - t) + energyFrom (max t e.et) (if e.kind = .off then 0 else e.power) rest

/-- The nominal planned energy of an item that was not executed, per beamlet: at full speed, pre-heat included (R112). -/
def nominalEnergy (c : HeadCfg) (st : StitchCfg) (layer : Nat) (words : List Nat) (seg : Nat) (it : Item) : List Nat :=
  let tm := c.timing it none none 0 ((c.itemEntry it).getD (0, 0)) 0 (2 ^ 56) 16
  ((EmitCtx.mk c st layer words it 16 seg).edges tm.stretches).1.map (energyFrom 0 0)

end Sys2Proof.Machine
end

