-- ==== Sys2Proof/Machine/Lines.lean ====
section
/-!
DEFINITION. Lines of the DRAM: their parity, the write queue, and the commands that a channel issues to its devices (R526, R528 to R533,
R539, R540).
-/
namespace Sys2Proof.Machine

/-! ### Parity (R528 to R530) -/

/-- The exclusive-OR of the bits of a byte. -/
def parityOf (b : Byte) : Bool := popcount 8 b.toNat % 2 == 1

/-- Lane 8 of a beat: bit i is the exclusive-OR of the bits of lane i (R528). -/
def parityLane (lanes : List Byte) : Byte :=
  byteOf ((lanes.zip (List.range 8)).foldl (fun m x => if parityOf x.1 then setBit m x.2 else m) 0)

/-- A beat with its parity lane. -/
def beatOf (lanes : List Byte) : List Byte := lanes ++ [parityLane lanes]

/-- The 72 bytes of a line: 8 beats of 9 lanes, formed as the data comes from the writing client (R526, R528, R529). -/
def lineBytes (data : List Byte) : List Byte := (chunks 8 (padTo 64 data)).flatMap beatOf

/-- The lanes of a beat whose parity check fails, bit i for lane i (R529). -/
def beatFails (beat : List Byte) : Nat :=
  ((beat.take 8).zip (List.range 8)).foldl (fun m x => if parityOf x.1 = (beat.getD 8 0).toNat.testBit x.2 then m else setBit m x.2) 0

/-- The lanes that fail in any beat of a line as it returns. The checks are those of lanes 0 to 7, so lane 8 is never named: DEDUCED
(log 111). -/
def failingLanes (line : List Byte) : Nat := (chunks 9 (padTo 72 line)).foldl (fun m beat => m ||| beatFails beat) 0

/-! ### Channels and the commands they issue (R532, R533) -/

/-- A channel of the state. -/
def State.channel (s : State) (ch : Nat) : DramChannel := s.dram.channels.getD ch DramChannel.initial

/-- A channel changed. -/
def State.onChannel (s : State) (ch : Nat) (f : DramChannel → DramChannel) : State :=
  { s with dram := { s.dram with channels := s.dram.channels.modify ch f } }

/-- The commands of the retry buffer issued within the 40 clocks before a moment: 16 ticks (R532, R533). -/
def DramChannel.recent (c : DramChannel) (et : Tick) : List DramCommand :=
  (c.issued.filter (fun x => decide (et < x.1 + 16))).map (fun x => x.2)

/-- A command may be issued: no alert sequence before its replay and no retraining is in progress, and fewer than 16 commands fall in
the last 40 clocks (R532, R533, R545). -/
def DramChannel.mayIssue (c : DramChannel) (et : Tick) : Bool :=
  c.trained && c.alert != .low && !c.retraining && decide ((c.recent et).length < 16)

/-- A command issued at an ET: the retry buffer keeps the 16 issued last, in order (R532). -/
def DramChannel.noteIssued (c : DramChannel) (et : Tick) (d : DramCommand) : DramChannel :=
  let all := c.issued.filter (fun x => decide (x.1 ≤ et)) ++ (et, d) :: c.issued.filter (fun x => decide (et < x.1))
  { c with issued := all.drop (all.length - 16) }

/-- The order of R550 among commands that wait: read repeats, refreshes, the ACTIVATEs of neighbour refreshes, client requests. -/
def DramCommand.rank : DramCommand → Nat
  | .read _ => 2
  | .refresh _ => 3
  | .calibrate _ => 3
  | .activate => 4
  | .neighbour => 4
  | .write _ _ => 6

/-- A command to issue: at once where nothing waits before it and it may be, else behind a replay and what R550 puts before it. -/
def DramChannel.issue (c : DramChannel) (et : Tick) (d : DramCommand) : DramChannel :=
  if c.toIssue.isEmpty && c.mayIssue et then c.noteIssued et d
  else
    let rest := c.toIssue.drop c.replaying
    { c with toIssue := c.toIssue.take c.replaying ++ rest.takeWhile (fun x => decide (x.rank ≤ d.rank)) ++ d ::
                rest.dropWhile (fun x => decide (x.rank ≤ d.rank)) }

/-- The next waiting command issued. -/
def DramChannel.issueNext (c : DramChannel) (et : Tick) : DramChannel :=
  match c.toIssue with
  | d :: rest => if c.mayIssue et then { c.noteIssued et d with toIssue := rest, replaying := c.replaying - 1 } else c
  | [] => c

/-! ### The write queue (R526, R539) -/

/-- The channel of a physical address: 256-byte blocks alternate, channel 0 first (R526). -/
def channelOf (address : Nat) : Nat := address / 256 % 2

/-- A line write accepted: it waits in its channel's queue. Nothing is written before training (R544). -/
def State.acceptLine (s : State) (address : Nat) (data : List Byte) : State :=
  if s.dram.channels.all (fun c => c.trained) then
    { s with dram := { s.dram with writes := s.dram.writes ++ [⟨address, lineBytes data⟩] } }
  else s

/-- A datum of an area written in whole lines (R526). -/
def State.acceptWrite (s : State) (area datum : Nat) (data : List Byte) : State :=
  ((chunks 64 data).zip (List.range (data.length / 64 + 1))).foldl
    (fun t x => t.acceptLine (64 * Config.lineNumber area datum x.2) x.1) s

/-- The same written once in each channel (R548). -/
def State.acceptBoth (s : State) (area datum : Nat) (data : List Byte) : State :=
  let base := 64 * Config.lineNumber area datum 0 / 512 * 512
  (s.acceptLine base data).acceptLine (base + 256) data

/-- A write that matches a line waits in the queue. -/
def State.writeWaits (s : State) (address : Nat) : Bool := s.dram.writes.any (fun w => w.address / 64 == address / 64)

/-- The oldest write of a channel drains to the devices when nothing else waits to be issued: the writes of one line keep their order
(R539). -/
def State.drainWrite (s : State) (ch : Nat) : State :=
  match s.dram.writes.find? (fun w => channelOf w.address == ch) with
  | some w =>
    if (s.channel ch).toIssue.isEmpty ∧ (s.channel ch).mayIssue s.et then
      let t := s.onChannel ch (fun c => c.noteIssued s.et (.write w.address w.line))
      { t with dram := { t.dram with writes := t.dram.writes.erase w } }
    else s
  | none => s

/-! ### Row disturbance (R540) -/

/-- The LFSR of R540 advanced once: x^32 + x^22 + x^2 + x + 1 in Galois form. -/
def lfsrNext (x : Nat) : Nat := if x % 2 = 1 then (x / 2) ^^^ 0x80200003 else x / 2

/-- An ACTIVATE: the LFSR advances, and when its low k bits are zero both neighbours that exist are refreshed before the next one. The
manual does not map addresses to rows, so whether one is missing is free. -/
def State.activated (s : State) (ch : Nat) : State :=
  let next := lfsrNext (s.channel ch).lfsr
  let t := s.onChannel ch (fun c => ({ c with lfsr := next }).issue s.et .activate)
  if next % 2 ^ s.regN 0xA000 1 = 0 then
    let n := 1 + Config.freeNat s.fresh % 2
    (({ t with fresh := t.fresh + 1 }).onChannel ch (fun c => (List.replicate n DramCommand.neighbour).foldl (fun d x => d.issue s.et x) c)).bumpBy
      (0xA010 + ch) 9 (n : Int)
  else t

/-! ### Data in an item buffer (R184, R188) -/

/-- The lines that join what is complete, so many times. -/
def Arrived.join : Nat → Arrived → Arrived
  | 0, x => x
  | n + 1, x => Arrived.join n { x with upTo := x.beyond.foldl (fun u p => if p ≤ u then max u (p + 64) else u) x.upTo }

/-- A line delivered at a place of the data, which ends at a length. -/
def Arrived.add (x : Arrived) (place length : Nat) : Arrived :=
  let y := Arrived.join (x.beyond.length + 1) ⟨x.upTo, x.beyond ++ [place]⟩
  ⟨min y.upTo length, y.beyond.filter (fun p => decide (y.upTo < p + 64) && decide (p < length))⟩

/-- Everything below a position is there. -/
def Arrived.raise (x : Arrived) (n : Nat) : Arrived := { x with upTo := max x.upTo n, beyond := x.beyond.filter (fun p => decide (max x.upTo n < p + 64)) }

/-- The bytes from a to b are there. -/
def Arrived.covers (x : Arrived) (a b : Nat) : Bool :=
  decide (b ≤ x.upTo) || (List.range (b - a)).all (fun k => decide (a + k < x.upTo) || x.beyond.any (fun p => decide (p ≤ a + k) && decide (a + k < p + 64)))

/-- How many bytes from a position on are there. -/
def Arrived.countFrom (x : Arrived) (a : Nat) : Nat :=
  (x.upTo - a) + (x.beyond.map (fun p => p + 64 - max (max p x.upTo) a)).sum

end Sys2Proof.Machine
end

