-- ==== Sys2Proof/Machine/Tally.lean ====
section
/-!
DEFINITION. The Tally, the defect map, promise breaks and the ends of segments (R13, R79, R80, R86, R104 to R116, R154,
R176, R716).
-/
namespace Sys2Proof.Machine

/-! ### Access to heads and segments -/

/-- A head changed. -/
def State.onHead (s : State) (h : HeadNo) (f : Head → Head) : State := { s with heads := s.heads.modify h f }

/-- A head's path changed. -/
def State.onPath (s : State) (h : HeadNo) (f : HeadPath → HeadPath) : State :=
  s.onHead h (fun x => { x with path := f x.path })

/-- A segment by its key. -/
def State.seg? (s : State) (key : Nat) : Option Segment := s.job.segments.find? (fun g => g.key == key)

/-- A segment changed. -/
def State.onSeg (s : State) (key : Nat) (f : Segment → Segment) : State :=
  { s with job := { s.job with segments := s.job.segments.map (fun g => if g.key = key then f g else g) } }

/-- The part of a segment on a head. -/
def Segment.part? (g : Segment) (h : HeadNo) : Option SegHead := g.heads.find? (fun x => x.head == h)

/-- The part of a segment on a head changed. -/
def Segment.onPart (g : Segment) (h : HeadNo) (f : SegHead → SegHead) : Segment :=
  { g with heads := g.heads.map (fun x => if x.head = h then f x else x) }

/-- The items of a head's list. -/
def Segment.listOf (g : Segment) (h : HeadNo) : List Item := g.items.filter (fun i => i.head == h)

/-- The items of a head's list that have not begun. -/
def Segment.rest (g : Segment) (h : HeadNo) : List Item :=
  (g.listOf h).drop (((g.part? h).map (fun p => p.next)).getD 0)

/-! ### Books (R110 to R112) -/

/-- Tally amounts added. -/
def Tally.plus (a b : Tally) : Tally :=
  ⟨a.planned + b.planned, a.correction + b.correction, a.delivered + b.delivered, a.withheld + b.withheld⟩

/-- No energy booked. -/
def Tally.zero : Tally := ⟨0, 0, 0, 0⟩

/-- Planned energy booked to PLANNED and to WITHHELD alike (R112). -/
def Tally.lost (e : Nat) : Tally := ⟨e, 0, 0, e⟩

/-- Delivered energy that turns out not to have been: moved to WITHHELD (R112, R362). -/
def Tally.dark (e : Int) : Tally := ⟨0, 0, -e, e⟩

/-- A channel's amounts booked in a segment. -/
def State.book (s : State) (key : Nat) (h : HeadNo) (b : Nat) (t : Tally) : State :=
  s.onSeg key (fun g => g.onPart h (fun p => { p with books := p.books.modify b (fun x => x.plus t) }))

/-- Amounts booked for beamlets 0 to 7 of a head. -/
def State.bookAll (s : State) (key : Nat) (h : HeadNo) (ts : List Tally) : State :=
  s.onSeg key (fun g => g.onPart h (fun p => { p with books := (p.books.zip ts).map (fun (x, t) => x.plus t) }))

/-- The identity of R113 for one channel. -/
def Tally.balanced (t : Tally) : Bool := t.planned + t.correction == t.delivered + t.withheld

/-! ### Defect records (R114, R116, R716) -/

/-- The 64 bytes of a record (R114). -/
def DefectRecord.bytes (r : DefectRecord) (id layer seq : Nat) : List Byte :=
  leBytes 4 (r.cause * 2 ^ 24 + r.head * 2 ^ 16 + r.mask * 256 + flag r.withheld) ++ leBytes 4 id ++ leBytes 4 layer
    ++ leBytes 4 (r.item * 65536 + r.detail % 65536) ++ leBytes 8 r.etStart ++ leBytes 8 r.etEnd
    ++ leBytesInt 4 r.start.1 ++ leBytesInt 4 r.start.2 ++ leBytesInt 4 r.finish.1 ++ leBytesInt 4 r.finish.2
    ++ leBytesInt 8 r.energy ++ leBytes 4 seq ++ leBytes 4 0

/-- SEGMENT_ID and LAYER that a record of a segment names: of the segment, or of the history once its slot is released (R119,
R716). -/
def State.nameOf (s : State) (key : Nat) : Option (Nat × Nat) :=
  match s.seg? key with
  | some g => some (g.id, g.layer)
  | none => (s.job.history.find? (fun e => e.key == some key)).map (fun e => (e.id, e.layer))

/-- A closed record: a DEFECT message, the DRAM defect log, and the counts. -/
def State.writeDefect (s : State) (r : DefectRecord) : State :=
  match s.nameOf r.seg with
  | none => s
  | some (id, layer) =>
    let bs := r.bytes id layer s.job.nextDefect
    let t := (s.onSeg r.seg (fun x => { x with defects := x.defects + 1 })).bump 0x3012 9
    (({ t with job := { t.job with nextDefect := (t.job.nextDefect + 1) % 2 ^ 32, defectLog := t.job.defectLog ++ [bs] } }).acceptWrite
      3 s.job.defectLog.length bs).publish 1 0x36 true bs

/-- A record opened on a head. -/
def State.openRecord (s : State) (h : HeadNo) (r : DefectRecord) : State :=
  s.onPath h (fun p => { p with records := p.records ++ [r] })

/-- The part of an emission within an interval of ticks, first to last. -/
def Lit.within (l : Lit) (first last : Tick) : Nat := l.word * (min l.stop (last + 1) - max l.first first)

/-- Energy delivered by the beamlets of a mask in an interval of ticks, first to last (R111, R114). -/
def Camera.delivered (c : Camera) (mask first last : Tick) : Nat :=
  ((c.energy.filter (fun l => mask.testBit l.beam)).map (fun l => l.within first last)).sum

/-- A record as it closes at an ET: a withheld stretch ends where it last suppressed emission, an abnormal stretch at
that ET with the energy delivered in it. -/
def DefectRecord.closed (r : DefectRecord) (x : Head) (et : Tick) : DefectRecord :=
  if r.withheld then r
  else
    let last := max (min et (r.ends.getD et)) r.etStart
    { r with etEnd := last, finish := x.path.unitAt last, energy := (x.camera.delivered r.mask r.etStart last : Nat) }

/-- A record continues one that was full and nothing has joined it: nothing is written of it. -/
def DefectRecord.empty (r : DefectRecord) : Bool := r.withheld && r.mask == 0

/-- Records of a head that meet a test are closed at an ET (R116). -/
def State.closeRecords (s : State) (h : HeadNo) (et : Tick) (p : DefectRecord → Bool) : State :=
  let x := s.head h
  let t := s.onPath h (fun y => { y with records := y.records.filter (fun r => !p r) })
  (x.path.records.filter (fun r => p r && !r.empty)).foldl (fun u r => u.writeDefect (r.closed x et)) t

/-- The last tick of the 65,536th frame of a record that begins at a tick (R116). -/
def lastOfRecord (first : Tick) : Tick := (first / 125 + 65536) * 125 - 1

/-- An interval of ticks, first to last, cut into those of its records; fuel bounds their number (R116). -/
def recordSpans (last : Tick) : Tick → Nat → List (Tick × Tick)
  | _, 0 => []
  | first, n + 1 =>
    if lastOfRecord first < last then (first, lastOfRecord first) :: recordSpans last (lastOfRecord first + 1) n else [(first, last)]

/-- The intervals of the records of a stretch. -/
def spansOf (first last : Tick) : List (Tick × Tick) := recordSpans last first (last / 125 / 65536 + 2)

/-! ### Freed bytes and grants (R83, R86) -/

/-- The grant of the unsent units (R83, R108): CREDIT_LIMIT rises and a GRANT message leaves; none leaves while no ring port is
in operation (R14). DESIGN CHOICE (log entry 89): the manual does not say whether the CREDIT_LIMIT read at 0x3012:05 rises
when units are freed or when the GRANT that carries them leaves; it rises with the GRANT. -/
def State.grant (s : State) : State :=
  if s.job.unsentGrant = 0 ∨ s.jobSession = none ∨ s.ringUp = false then s
  else
    let limit := s.regN 0x3012 5 + s.job.unsentGrant
    (({ s with job := { s.job with unsentGrant := 0 } }).setReg 0x3012 5 limit).jobMessage 0x30 (leBytes 8 limit)

/-- Bytes of a segment freed: whole units of 4 KiB wait for a GRANT, which leaves at 64 KiB (R86). -/
def State.free (s : State) (bytes : Nat) : State :=
  let all := s.job.freedRemainder + bytes
  let t := { s with job := { s.job with freedRemainder := all % 4096, unsentGrant := s.job.unsentGrant + all / 4096 * 4096 } }
  if 65536 ≤ t.job.unsentGrant then t.grant else t

/-! ### Final states (R79, R80, R119) -/

/-- A history entry, the oldest leaving at 4,096 (R119). -/
def Job.remember (j : Job) (e : SegHistory) : Job :=
  { j with history := (j.history ++ [e]).drop (j.history.length + 1 - 4096) }

/-- The QUERY values of a segment. -/
def Segment.entry (g : Segment) (state : SegState) : SegHistory := ⟨g.id, state, g.promise, g.slack, g.broke, some g.key, g.layer⟩

/-- The bytes of a Tally. -/
def Tally.bytes (t : Tally) : List Byte :=
  leBytesInt 8 t.planned ++ leBytesInt 8 t.correction ++ leBytesInt 8 t.delivered ++ leBytesInt 8 t.withheld

/-- The closing values of an admitted segment in the DRAM ledger log, as its books stand (R113). The manual gives the log no layout; the
lines written hold the books in order. -/
def State.logLedger (s : State) (key : Nat) : State :=
  match s.seg? key with
  | some g =>
    g.heads.foldl (fun t p => t.acceptWrite 2 (g.key * 32 + p.head) (p.books.flatMap Tally.bytes))
      { s with job := { s.job with ledgerLog := s.job.ledgerLog ++ g.heads.map (fun p => (g.id, p.head, p.books)) } }
  | none => s

/-- A segment reaches a final state other than REFUSED: its ET is its CLOSE_ET, its closing values are logged, its bytes and its
versions are freed, and its head summaries are deleted (R61, R86, R109, R113, R119, R548). -/
def State.finalise (s : State) (g : Segment) (state : SegState) : State :=
  let t := (s.logLedger g.key).onSeg g.key (fun x => { x with state := state, finalEt := s.et })
  ({ t with
     job := { t.job.remember (g.entry state) with params := keptVersions t.job.params t.job.segments }
     dram := { t.dram with summaries := t.dram.summaries.filter (fun x => decide (x.1 ≠ g.key)) } }).free
    (4 * g.words.length)

/-- A segment's slot is released: the list names it no more (R79, R87). -/
def State.release (s : State) (key : Nat) : State :=
  { s with job := { s.job with segments := s.job.segments.filter (fun g => decide (g.key ≠ key)) } }

/-! ### Cuts (R24, R25, R112, R154, R176) -/

/-- The entries planned for a beamlet that no assembled frame holds: its line buffer, and what its items have still to write. -/
def HeadPath.entriesOf (x : HeadPath) (b : Nat) : List Edge :=
  ((x.runs.flatMap (fun r => r.planned.getD b [])).foldl (fun es e => placeEdge e es) (x.buffers.getD b [])).filter (fun e =>
    decide (x.bookedTo ≤ e.et))

/-- Planned energy of a beamlet not yet in an assembled frame (R112), of the emission that meets a test. -/
def HeadPath.restEnergy (x : HeadPath) (p : BeamNow → Bool) (b : Nat) : Nat :=
  energyWhere p x.bookedTo (x.beams.getD b BeamNow.dark) (x.entriesOf b)

/-- The entries of one item that no assembled frame holds. -/
def HeadPath.entriesFor (x : HeadPath) (w : Nat × Nat) : List Edge :=
  (List.range 8).flatMap (fun b => (x.entriesOf b).filter (fun e => e.seg == w.1 && e.item == w.2))

/-- Emission of an item, by segment and index. -/
def BeamNow.of (w : Nat × Nat) (n : BeamNow) : Bool := n.seg == w.1 && n.item == w.2

/-- The first tick of an item's planned emission from a tick on. -/
def HeadPath.firstPlanned (x : HeadPath) (w : Nat × Nat) (from_ : Tick) : Tick :=
  let on := x.beams.any (fun n => n.power != 0 && n.of w)
  let ets := (((x.entriesFor w).filter (fun e => e.kind != .off)).map (fun e => e.et)).filter (fun t => decide (from_ ≤ t))
  if on then from_ else ets.foldl min (ets.headD from_)

/-- The last tick of an item's planned emission, or the given tick where none is left. -/
def HeadPath.lastPlanned (x : HeadPath) (w : Nat × Nat) (et : Tick) : Tick := ((x.entriesFor w).map (fun e => e.et - 1)).foldl max et

/-- A mask of the beamlets with energy. -/
def energyMask (es : List Nat) : Nat :=
  (es.zip (List.range es.length)).foldl (fun m x => if x.1 = 0 then m else setBit m x.2) 0

/-- The path of an item that is cut at a fine tick: the pieces begun, and the rest it comes to. -/
def HeadPath.cutTrail (x : HeadPath) (t : Nat) : List Piece :=
  if x.coming.isEmpty then x.trail
  else x.trailWith ((x.coming.flatMap (fun r => r.pieces)).filter (fun p => decide (p.start < t))
      ++ [⟨0, t, 0, x.posAt t, x.posAt t, JumpPhases.zero, 0, 0, 0⟩]) t

/-- The tick at which a cut takes hold: the start of the first frame not assembled (R24, R154, R547). -/
def HeadPath.cutAt (x : HeadPath) (et : Tick) : Tick := max et x.bookedTo

/-- The item in progress has ended at a tick. -/
def HeadPath.endSpan (x : HeadPath) (at_ : Tick) : HeadPath :=
  { x with items := x.items.map (fun i => if i.stop.isNone then { i with stop := some at_ } else i) }

/-- A head whose item is cut: nothing is planned, its line buffers are empty, every beamlet off, and p_c stops where it has come in
the next frame (R154, R176). -/
def HeadPath.stopped (x : HeadPath) (et : Tick) : HeadPath :=
  let t := if x.run.isSome then x.cutAt et * 65536 else max (et * 65536) x.endedAt
  { x with
    run := none, ahead := [], recent := [], hold := .idle, pos := x.posAt t, endedAt := t, trail := x.cutTrail t
    items := (x.endSpan (x.cutAt et)).items
    buffers := List.replicate 8 [], beams := List.replicate 8 BeamNow.dark, suppressed := [] }

/-- Planned energy per beamlet of an item that is not yet in an assembled frame: what an interruption withholds of it. -/
def HeadPath.cutEnergy (x : HeadPath) (w : Nat × Nat) : List Nat := (List.range 8).map (x.restEnergy (BeamNow.of w))

/-- The items planned ahead whose emission has begun to be placed in assembled frames. -/
def HeadPath.aheadBegun (x : HeadPath) : List ItemRun := x.ahead.takeWhile (fun r => decide (r.start < x.bookedTo))

/-- The items, by segment and index, whose planned emission is not all in assembled frames: the item in progress, those whose
last entries are still to write or in the line buffers (R13, R121), and those planned ahead that an assembled frame reaches. -/
def HeadPath.workLeft (x : HeadPath) : List (Nat × Nat) :=
  let later := (x.ahead.drop x.aheadBegun.length).map (fun r => (r.seg, r.item))
  let edges := ((List.range 8).flatMap x.entriesOf).filter (fun e => e.kind != .off)
  (((x.beams.filter (fun n => n.power != 0)).map (fun n => (n.seg, n.item)) ++ edges.map (fun e => (e.seg, e.item))
    ++ (x.run.map (fun r => (r.seg, r.item))).toList).eraseDups).filter (fun w => !later.contains w)

/-- A head without the work of a segment that meets a test: planned, in the line buffers, and lit (R176). -/
def HeadPath.dropWork (x : HeadPath) (p : Nat → Nat → Bool) : HeadPath :=
  { x with
    recent := x.recent.filter (fun r => !p r.seg r.item)
    ahead := x.ahead.filter (fun r => !p r.seg r.item)
    buffers := x.buffers.map (fun es => es.filter (fun e => !p e.seg e.item))
    beams := x.beams.map (fun n => if p n.seg n.item then BeamNow.dark else n)
    suppressed := x.suppressed.filter (fun u => !p u.seg u.item) }

/-- A head without the entries of a segment in its line buffers (R176). -/
def HeadPath.without (x : HeadPath) (key : Nat) : HeadPath := x.dropWork (fun seg _ => seg == key)

/-- A head without the items planned ahead that no assembled frame reaches: they are planned afresh at their boundaries. -/
def HeadPath.dropAhead (x : HeadPath) : HeadPath :=
  let later := (x.ahead.drop x.aheadBegun.length).map (fun r => (r.seg, r.item))
  { x.dropWork (fun seg item => later.contains (seg, item)) with suppressed := x.suppressed }

/-- The planned energy of an item within an interval of ticks, per beamlet, of what no assembled frame holds. -/
def HeadPath.cutBetween (x : HeadPath) (w : Nat × Nat) (first last : Tick) : List Nat :=
  (List.range 8).map (fun b => energyBetween (BeamNow.of w) first (last + 1) x.bookedTo (x.beams.getD b BeamNow.dark) (x.entriesOf b))

/-- The segments and items that slots name with energy, each once. -/
def slotWork (slots : List SentSlot) : List (Nat × Nat) :=
  ((slots.flatMap (fun k => k.books.filter (fun b => b.energy != 0))).map (fun b => (b.seg, b.item))).eraseDups

/-- What slots booked for an item. -/
def slotBooksOf (slots : List SentSlot) (w : Nat × Nat) : List SlotBook :=
  slots.flatMap (fun k => k.books.filter (fun b => b.seg == w.1 && b.item == w.2 && b.energy != 0))

/-- The delivered energy of slots withdrawn with the rest of an item; at a trip all of it belongs to the item in progress, whose
record is the head's one (R581). -/
def HeadPath.withdrawn (x : HeadPath) (cause : Nat) (slots : List SentSlot) (w : Nat × Nat) : List SlotBook :=
  match x.run with
  | some r => if cause = 0x07 then (if r.seg = w.1 ∧ r.item = w.2 then slots.flatMap (fun k => k.books) else []) else slotBooksOf slots w
  | none => slotBooksOf slots w

/-- The items of a head that an interruption touches: what is planned, and what slots withdrawn with it hold. -/
def HeadPath.cutWork (x : HeadPath) (cause : Nat) (slots : List SentSlot) : List (Nat × Nat) :=
  if cause = 0x07 ∧ x.run.isSome then x.workLeft else (x.workLeft ++ slotWork slots).eraseDups

/-- The first tick of the record of an interruption: at a trip the measurement; else the first slot withdrawn, or the first emission
withheld (R112, R581). -/
def HeadPath.cutFirst (x : HeadPath) (et : Tick) (cause : Nat) (slots : List SentSlot) (w : Nat × Nat) : Tick :=
  if cause = 0x07 then et
  else match (slots.filter (fun k => k.books.any (fun b => b.seg == w.1 && b.item == w.2 && b.energy != 0))).head? with
    | some k => 125 * k.frame
    | none => x.firstPlanned w (x.cutAt et)

/-- A mask of the beamlets that slots booked for. -/
def booksMask (bs : List SlotBook) : Nat := bs.foldl (fun m b => setBit m b.beam) 0

/-- The records of an interruption of an item: what it withholds from its first tick to the last planned one, with the delivered
energy of the slots withdrawn in the first of them; their positions are those at their ends (R112, R114, R116). -/
def HeadPath.cutRecords (x : HeadPath) (h : HeadNo) (et : Tick) (cause detail : Nat) (slots : List SentSlot) (place : Tick → Int × Int)
    (w : Nat × Nat) : List DefectRecord :=
  let first := x.cutFirst et cause slots w
  let books := x.withdrawn cause slots w
  let spans := spansOf first (max (x.lastPlanned w first) ((slots.map (fun k => if (slotBooksOf [k] w).isEmpty then 0 else 125 * k.frame + 124)).foldl max 0))
  (spans.map (fun p =>
    let es := x.cutBetween w (if p.1 = first then 0 else p.1) p.2
    let dark := if p.1 = first then books else []
    ({ cause := cause, stretch := none, head := h, mask := energyMask es ||| booksMask dark, withheld := true, seg := w.1, item := w.2
       detail := detail, etStart := p.1, etEnd := p.2, start := place p.1, finish := place p.2
       energy := (es.sum : Nat) + (dark.map (fun b => b.energy)).sum, reported := false, active := 0, ends := none } : DefectRecord))).filter
    (fun r => r.mask != 0)

/-! ### Promise breaks (R104 to R107) -/

/-- The BREAK message (R108). -/
def Segment.breakBytes (g : Segment) (cause head item detail et : Nat) : List Byte :=
  leBytes 4 g.id ++ [byteOf cause, byteOf head] ++ leBytes 2 item ++ leBytes 2 detail ++ leBytes 2 0 ++ leBytes 8 et
    ++ leBytesInt 8 g.slack

/-- A promise that can still break: issued, and the segment unfinished (R105). -/
def Segment.mayBreak (g : Segment) : Bool :=
  g.broke.isNone && (g.state == .admitted || g.state == .staged || g.state == .running)

/-- The break recorded: cause, counters, leaf, record and message (R104, R105); the cancellations of R107 follow apart. -/
def State.recordBreak (s : State) (g : Segment) (cause head item detail : Nat) : State :=
  ((((s.onSeg g.key (fun x => { x with broke := some cause })).bump 0x3012 8).setLeaf 0x2101 0).record 0x0040
    (leBytes 4 g.id ++ [byteOf cause, byteOf head] ++ leBytes 8 s.et)).jobMessage 0x34
    (g.breakBytes cause head item detail s.et)

/-- The planned emission left of an item on a head, booked to PLANNED and WITHHELD. -/
def State.bookCut (s : State) (h : HeadNo) (x : HeadPath) (w : Nat × Nat) : State :=
  s.bookAll w.1 h ((x.cutEnergy w).map Tally.lost)

/-- The delivered energy of slots moved to WITHHELD, channel by channel (R362). -/
def State.bookDark (s : State) (h : HeadNo) (slots : List SentSlot) : State :=
  slots.foldl (fun t k => k.books.foldl (fun u b => u.book b.seg h b.beam (Tally.dark b.energy)) t) s

/-- An interruption books what it withholds of a head: the rest of the items it touches, and slots withdrawn with them. -/
def State.bookInterrupted (s : State) (h : HeadNo) (cause : Nat) (slots : List SentSlot) : State :=
  let x := (s.head h).path
  (x.cutWork cause slots).foldl (fun v w => v.bookCut h x w) (s.bookDark h slots)

/-- The slot of a head whose frame has been assembled and has not left: it is discarded where the permit drops (R30, R112). -/
def HeadLink.unsentSlots (l : HeadLink) (et : Tick) : List SentSlot := l.sent.filter (fun k => decide (et < 125 * k.frame))

/-- Those frames discarded; a SHADOW discards none (R117). -/
def State.discardFrames (s : State) (h : HeadNo) : State :=
  let n := ((s.head h).link.unsentSlots s.et).length
  if s.twin.role = .shadow then s
  else s.onHead h (fun x => { x with link := { x.link with
    sent := x.link.sent.filter (fun k => decide (125 * k.frame ≤ s.et))
    book := { x.link.book with sent := x.link.book.sent - n, discarded := x.link.book.discarded + n } } })

/-- The place in its list of an item. -/
def Segment.placeOf (g : Segment) (h : HeadNo) (item : Nat) : Nat := ((g.listOf h).findIdx? (fun i => i.index == item)).getD 0

/-- Items planned ahead that an assembled frame reaches count as begun. -/
def State.reachAhead (s : State) (h : HeadNo) : State :=
  (s.head h).path.aheadBegun.foldl (fun t r => t.onSeg r.seg (fun g => g.onPart h (fun p =>
    { p with next := max p.next (g.placeOf h r.item + 1) }))) s

/-- A head cut with a cause: the rest of its planned emission is booked to PLANNED and WITHHELD, slots withdrawn with it to
WITHHELD, and the records of each item describe it; its open records close (R13, R112, R116, R176). -/
def State.cutItem (s : State) (h : HeadNo) (cause detail : Nat) (slots : List SentSlot) : State :=
  let x := (s.head h).path
  let stand := x.unitAt (x.cutAt s.et)
  let place (t : Tick) : Int × Int := if cause = 0x07 ∧ t = s.et then x.unitAt t else stand
  let t := (s.reachAhead h).closeRecords h (max x.bookedTo 1 - 1) (fun _ => true)
  let u := (t.bookInterrupted h cause slots).onPath h (fun y => { y.stopped s.et with hold := if x.run.isSome then .idle else y.hold })
  (x.cutWork cause slots).foldl (fun v w => (x.cutRecords h s.et cause detail slots place w).foldl State.writeDefect v) u

/-- The nominal energy of a head's items that have not begun, per beamlet (R112). -/
def State.neverStarted (s : State) (g : Segment) (h : HeadNo) : List Nat :=
  let c := s.cfg h
  (g.rest h).foldl (fun acc i =>
    if i.body.marks then (acc.zip (nominalEnergy c s.stitch g.layer g.words g.key i)).map (fun (a, b) => a + b) else acc)
    (List.replicate 8 0)

/-- The items of a head that never start: booked to PLANNED and WITHHELD, and for causes 0x0B and 0x0C one record whose
ETs are the ET of the cancellation (R112, R116). Items that plan no emission leave no record (R716, DEDUCED). -/
def State.abandonRest (s : State) (g : Segment) (h : HeadNo) (cause detail : Nat) : State :=
  let es := s.neverStarted g h
  let t := (s.bookAll g.key h (es.map Tally.lost)).onSeg g.key (fun x => x.onPart h (fun p =>
    { p with part := .abandoned, finishEt := s.et, next := (g.listOf h).length }))
  let at_ := (s.head h).path.unitAt s.et
  if (cause = 0x0B ∨ cause = 0x0C) ∧ energyMask es ≠ 0 then
    t.writeDefect ⟨cause, none, h, energyMask es, true, g.key, ((g.rest h).head?.map (fun i => i.index)).getD 0xFFFF, detail, s.et, s.et,
      at_, at_, (es.sum : Nat), false, 0, none⟩
  else t

/-- A head's part of a segment ends here: its item in progress is cut, its entries leave the line buffers (R176) and the rest is
abandoned. -/
def State.abandonPart (s : State) (g : Segment) (cause detail : Nat) (h : HeadNo) : State :=
  let x := (s.head h).path
  let done := ((g.part? h).map (fun p => p.part == .finished || p.part == .abandoned)).getD true
  let mine := x.workLeft.filter (fun w => w.1 == g.key)
  let t := (s.reachAhead h).closeRecords h (max x.bookedTo 1 - 1) (fun r => r.seg == g.key)
  let u := (mine.foldl (fun v w => v.bookCut h x w) t).onPath h (fun y =>
    if y.seg = some g.key then
      { y.stopped s.et with
        recent := (y.without g.key).recent, buffers := (y.without g.key).buffers, beams := (y.without g.key).beams, seg := none }
    else y.without g.key)
  let stand := x.unitAt (x.cutAt s.et)
  let v := mine.foldl (fun v w => (x.cutRecords h s.et cause detail [] (fun _ => stand) w).foldl State.writeDefect v) u
  if done then v else v.abandonRest ((v.seg? g.key).getD g) h cause detail

/-- Every head of a segment has finished or abandoned its part (R79). -/
def Segment.allDone (g : Segment) : Bool :=
  g.heads.all (fun p => p.part == .finished || p.part == .abandoned)

/-- The state in which a segment closes by its own record (R80, R82). -/
def Segment.ownEnd (g : Segment) : SegState := if g.broke.isSome then .broken else .done

/-- A segment cancelled (R79, R24): emission stops at each of its heads, and what was not executed is booked as withheld
with one record per head. One whose last head has finished closes by its own record (R82). A SUBMITTED segment has no plan
yet. DESIGN CHOICE (log entry 94): the manual does not say whether such a segment gets a CLOSE message; it has no slot (R87),
none is sent, and it is released at once. -/
def State.cancel (s : State) (cause detail : Nat) (key : Nat) : State :=
  match s.seg? key with
  | none => s
  | some g =>
    if g.unfinished = false then s
    else if g.state = .submitted then (s.finalise g .cancelled).release key
    else if g.state = .running ∧ g.allDone then s.finalise g g.ownEnd
    else
      let t := (g.heads.map (fun p => p.head)).foldl (fun u h => u.abandonPart g cause detail h) s
      t.finalise g .cancelled

/-- The segments that R107 cancels behind a break: ADMITTED or STAGED, admitted later, sharing a head. -/
def State.behind (s : State) (g : Segment) : List Nat :=
  (s.job.segments.filter (fun x => (x.state == .admitted || x.state == .staged) && decide (g.admitNo < x.admitNo)
    && decide (x.mask &&& g.mask ≠ 0))).map (fun x => x.key)

/-- A promise breaks, once (R104 to R107). -/
def State.breakPromise (s : State) (key cause head item detail : Nat) : State :=
  match s.seg? key with
  | none => s
  | some g =>
    if g.mayBreak then
      let t := s.recordBreak g cause head item detail
      if s.reg 0x3010 10 = 1 then (t.behind g).foldl (fun u k => u.cancel 0x0B 2 k) t else t
    else s

/-- The promises of what an interruption withheld on a head break (R104). -/
def State.breakWork (s : State) (h cause detail : Nat) (x : HeadPath) (slots : List SentSlot) : State :=
  (x.cutWork cause slots).foldl (fun v w =>
    if (x.cutEnergy w).sum = 0 ∧ x.withdrawn cause slots w = [] then v else v.breakPromise w.1 cause h w.2 detail) s

/-- Planned emission withheld on a head by cutting its item: the promise breaks with the cause (R104). -/
def State.cutAndBreak (s : State) (cause detail : Nat) (h : HeadNo) (slots : List SentSlot) : State :=
  (s.cutItem h cause detail slots).breakWork h cause detail (s.head h).path slots

/-- Every unfinished segment cancelled (R24, R32). -/
def State.cancelAll (s : State) (cause detail : Nat) : State :=
  (s.job.segments.filter (fun g => g.unfinished)).foldl (fun u g => u.cancel cause detail g.key) s

/-- A DETAIL that no chapter of the manual states for its cause (R115): a free value, drawn afresh. -/
def State.freeDetail (s : State) : Nat := Config.freeNat s.fresh % 65536

/-- The count of free values drawn moves on. -/
def State.drawn (s : State) : State := { s with fresh := s.fresh + 1 }

/-- Emission removed on a head: the frame not yet sent is discarded, and what the head had planned is cut, with records whose DETAIL
the manual leaves open (R30, R112, R176). -/
def State.cutHead (s : State) (cause : Nat) (h : HeadNo) : State :=
  let slots := if s.twin.role = .shadow then [] else (s.head h).link.unsentSlots s.et
  let t := s.discardFrames h
  if ((s.head h).path.cutWork cause slots).isEmpty then t.cutAndBreak cause 0 h slots
  else (t.cutAndBreak cause t.freeDetail h slots).drawn

/-- The same on every head at once. -/
def State.cutHeads (s : State) (cause : Nat) : State := (List.range 32).foldl (fun u h => u.cutHead cause h) s

/-- Every RUNNING segment with work left and not broken by a record breaks with HEAD 0xFF (R25, R82, R106). -/
def State.breakAll (s : State) (cause : Nat) : State :=
  (s.job.segments.filter (fun g => g.state == .running && !g.allDone)).foldl
    (fun u g => u.breakPromise g.key cause 0xFF 0xFFFF 0) s

/-- Both, as entry to FAULT and an inhibit in EXPOSING do (R25). -/
def State.cutAll (s : State) (cause : Nat) : State := (s.cutHeads cause).breakAll cause

/-- Entry to FAULT: every RUNNING segment becomes BROKEN, one whose last head had finished by its own record (R25, R82,
R112). -/
def State.breakRunning (s : State) (cause detail : Nat) : State :=
  (s.job.segments.filter (fun g => g.state == .running)).foldl (fun u g =>
    match u.seg? g.key with
    | some x =>
      if x.allDone then u.finalise x x.ownEnd
      else
        let v := (x.heads.map (fun p => p.head)).foldl (fun w h => w.abandonPart x cause detail h) u
        v.finalise x .broken
    | none => u) s

/-! ### Suppressions that leave the path running (R13, R189, R229, R363, R474) -/

/-- Emission in the scope of a suppression: an item, or one stretch of it. -/
def BeamNow.inScope (w : Nat × Nat) (stretch : Option Nat) (n : BeamNow) : Bool :=
  n.of w && (stretch == none || stretch == some n.stretch)

/-- The planned energy left in the scope of a suppression. -/
def HeadPath.scopeEnergy (x : HeadPath) (w : Nat × Nat) (stretch : Option Nat) : Nat :=
  ((List.range 8).map (x.restEnergy (BeamNow.inScope w stretch))).sum

/-- A suppression put in force for an item of a head, with the break of the promise; nothing where every event has already been
placed in frames (R190, R230). The frame assembler writes the records as it withholds. -/
def State.suppressWork (s : State) (h : HeadNo) (w : Nat × Nat) (stretch : Option Nat) (cause detail : Nat) : State :=
  if (s.head h).path.scopeEnergy w stretch = 0 then s
  else (s.onPath h (fun p => { p with suppressed := p.suppressed ++ [⟨w.1, w.2, stretch, cause, detail⟩] })).breakPromise w.1 cause h w.2
    detail

/-- A head without planned emission, its path running on (R176, R363). -/
def HeadPath.emptied (x : HeadPath) : HeadPath :=
  let y := x.dropAhead
  let bare (r : ItemRun) : ItemRun := { r with planned := r.planned.map (fun _ => []) }
  { y with
    run := y.run.map bare, ahead := y.ahead.map bare, recent := y.recent.map bare
    buffers := List.replicate 8 [], beams := List.replicate 8 BeamNow.dark }

/-- The loss of a head link removes emission: the line buffers are flushed, what was planned of the items begun is booked with the
slots never reported, and each item's record stays open until it ends; the promises break, and the path runs on (R30, R176, R363). -/
def State.flushRunning (s : State) (h : HeadNo) (cause detail : Nat) (slots : List SentSlot) : State :=
  let x := (s.head h).path
  let t := (s.bookInterrupted h cause slots).onPath h (fun y =>
    { y.emptied with records := y.records ++ (x.cutWork cause slots).flatMap (x.cutRecords h s.et cause detail slots x.unitAt) })
  t.breakWork h cause detail x slots

end Sys2Proof.Machine
end

