-- ==== Sys2Proof/Machine/Axes.lean ====
section
/-!
DEFINITION. The stepper axes' shared operations: profiles and step times (R492 to R495), gangs (R496 to R498), stops, the
recoat report and its failure (R511 to R515), and what the device state does to the axes (R483, R484).

Times here are in 2^−48 io cycle (an io cycle is 10 ns); positions in 1/(6 × 10^24 × 2^144) microstep, so that a piece of
constant jerk is an exact cubic in integers.
-/
namespace Sys2Proof.Machine

/-! ### Pieces of constant jerk -/

/-- Units of time in one second. -/
def motionSecond : Nat := 100000000 * 2 ^ 48

/-- Position units in one microstep. -/
def motionStep : Int := 6 * motionSecond * motionSecond * motionSecond

/-- Position, twice the velocity, and acceleration. -/
structure MotionPoint where
  p : Int
  w : Int
  a : Int
  deriving DecidableEq, Repr

/-- A point carried on for a time under a jerk in microsteps/s³. -/
def MotionPoint.after (x : MotionPoint) (j : Int) (t : Nat) : MotionPoint :=
  ⟨x.p + 3 * x.w * t + 3 * x.a * (t * t) + j * (t * t * t), x.w + 2 * x.a * t + j * (t * t), x.a + j * t⟩

/-- The point reached after a time into a list of pieces; the end once they are over. -/
def MotionPoint.along (x : MotionPoint) : List (Int × Nat) → Nat → MotionPoint
  | [], _ => x
  | (j, d) :: rest, t => if t ≤ d then x.after j t else (x.after j d).along rest (t - d)

/-- The whole time of a list of pieces. -/
def piecesTime (ps : List (Int × Nat)) : Nat := (ps.map (·.2)).sum

/-- The point of a ramp at a time. -/
def Ramp.at_ (r : Ramp) (t : Nat) : MotionPoint := (MotionPoint.mk r.p0 r.w0 r.a0).along r.pieces t

/-- The io cycle of microstep k: the first time the position reaches k, to the nearest io cycle, halves upwards (R493). -/
def Ramp.stepIo (r : Ramp) (k : Nat) : Nat :=
  let all := piecesTime r.pieces
  let t := min all (leastAt (fun t => decide (motionStep * k ≤ (r.at_ (min t all)).p)) (Nat.log2 (all + 1) + 1))
  (t + 2 ^ 47) / 2 ^ 48

/-! ### Profiles (R129, R492) -/

/-- The phases of a move of d microsteps at speed v, acceleration a and jerk j, by the cases of R129, in units of time. -/
def movePhases (d v a j : Nat) : JumpPhases :=
  let s := motionSecond
  if a * a ≤ v * j then
    if v * (v * j + a * a) ≤ d * a * j then ⟨a * s / j, v * s / a - a * s / j, d * s / v - v * s / a - a * s / j⟩
    else if 2 * a * a * a ≤ d * j * j then
      let q := isqrt (a * s / j * (a * s / j) + 4 * d * s * s / a)
      ⟨a * s / j, (q - a * s / j) / 2 - a * s / j, 0⟩
    else ⟨icbrt (d * s * s * s / (2 * j)), 0, 0⟩
  else if 4 * v * v * v ≤ d * d * j then
    let r := isqrt (v * s * s / j)
    ⟨r, 0, d * s / v - 2 * r⟩
  else ⟨icbrt (d * s * s * s / (2 * j)), 0, 0⟩

/-- The seven pieces of a symmetric profile. -/
def JumpPhases.pieces (p : JumpPhases) (j : Nat) : List (Int × Nat) :=
  [(j, p.tj), (0, p.ta), (-(j : Int), p.tj), (0, p.tv), (-(j : Int), p.tj), (0, p.ta), (j, p.tj)]

/-- A move from rest to rest (R492). -/
def moveRamp (start : Tick) (dir : Int) (d v a j : Nat) : Ramp :=
  { start := start, dir := dir, pieces := (movePhases d v a j).pieces j, p0 := 0, w0 := 0, a0 := 0, total := d, done := 0
    lastIo := 0, timer := 0 }

/-- Microsteps that a ramp's end position has reached. -/
def Ramp.reach (r : Ramp) : Nat := ((r.at_ (piecesTime r.pieces)).p / motionStep).toNat

/-- The shortest jerk-limited ramp to rest from a point: the acceleration goes to −ap, stays, and returns to 0 (R495). -/
def stopPieces (x : MotionPoint) (decel j : Nat) : List (Int × Nat) :=
  let cap := ((decel * 100000000 * 2 ^ 48 : Nat) : Int)
  -- twice the velocity that a ramp from zero acceleration would have to take away, times the jerk
  let wj := (x.w * j + x.a * x.a).toNat
  let ap : Int := min cap (isqrt (wj / 2) : Nat)
  let first : Int × Nat := if -ap ≤ x.a then (-(j : Int), ((x.a + ap) / j).toNat) else ((j : Int), ((-ap - x.a) / j).toNat)
  let y := x.after first.1 first.2
  let flat := if y.a < 0 then ((y.w * j - y.a * y.a) / (2 * j * (-y.a))).toNat else 0
  [first, (0, flat), ((j : Int), (ap / j).toNat)]

/-- The ramp that takes over from a ramp now: the position within the present microstep is kept. -/
def Ramp.takeOver (r : Ramp) (start : Tick) (pieces : MotionPoint → List (Int × Nat)) (jerkless : Option Nat) : Ramp :=
  let x0 := r.at_ (((start - r.start) * 16 / 100) * 2 ^ 48)
  let x1 : MotionPoint := ⟨x0.p - motionStep * r.done, x0.w, x0.a⟩
  let x : MotionPoint := match jerkless with
    | some d => ⟨x1.p, x1.w, -((d * 100000000 * 2 ^ 48 : Nat) : Int)⟩
    | none => x1
  let n : Ramp := { r with start := start, pieces := pieces x, p0 := x.p, w0 := x.w, a0 := x.a, total := 0, done := 0
                           lastIo := 0, timer := 0 }
  { n with total := n.reach }

/-- A stop with a deceleration and no jerk limit (R499). -/
def limitPieces (decel : Nat) (x : MotionPoint) : List (Int × Nat) :=
  [(0, (x.w / (2 * ((decel * 100000000 * 2 ^ 48 : Nat) : Int))).toNat)]

/-! ### Axes and gangs (R496, R497) -/

/-- An axis. -/
def State.axis (s : State) (m : Nat) : Axis := s.motion.axes.getD m Axis.initial

/-- An axis changed. -/
def State.onAxis (s : State) (m : Nat) (f : Axis → Axis) : State :=
  { s with motion := { s.motion with axes := s.motion.axes.modify m f } }

/-- A configuration value of an axis. -/
def State.axisCfg (s : State) (m sub : Nat) : Nat := s.regN (0x9000 + m) sub

/-- The leader of an axis. -/
def State.leaderOf (s : State) (m : Nat) : Nat := s.axisCfg m 0x12

/-- The members of the gang that an axis leads, itself included (R496). -/
def State.gang (s : State) (m : Nat) : List Nat := (List.range 8).filter (fun k => k == m || s.leaderOf k == m)

/-- Every member of an axis's gang changed. -/
def State.onGang (s : State) (m : Nat) (f : Axis → Axis) : State := (s.gang m).foldl (fun t k => t.onAxis k f) s

/-- The axis is moving, homing or stopping. -/
def Axis.busy (x : Axis) : Bool := x.state == .moving || x.state == .homing || x.state == .stopping

/-- One microstep of an axis: 256 / MICROSTEP of phase and one of position (R488). -/
def Axis.step (x : Axis) (dir : Int) (microstep : Nat) : Axis :=
  { x with position := x.position + dir
           phase := (((x.phase : Int) + dir * (256 / microstep : Nat)) % 1024).toNat }

/-! ### The coils and their gate outputs (R487 to R490) -/

/-- The target of a coil of an axis in DAC codes (R488). -/
def State.coilTargetOf (s : State) (x : Axis) (m : Nat) (coilB : Bool) : Int :=
  let i := if x.running then s.axisCfg m 3 else s.axisCfg m 4
  roundDiv (i * (if coilB then sinQ (x.phase * 64) else cosQ (x.phase * 64))) (2 ^ 30)

/-- The target of a coil now. -/
def State.coilTarget (s : State) (m : Nat) (coilB : Bool) : Int := s.coilTargetOf (s.axis m) m coilB

/-- The DAC code of a cycle: the target's magnitude less the offset (R489). -/
def dacCode (target offset : Int) : Nat := (clampInt 1 1023 (roundDiv (256 * target.natAbs - offset) 256)).toNat

/-- An output may rise: the other has been low for DEAD_TIME io cycles (R487). -/
def Coil.mayRaise (c : Coil) (sign : Int) (dead : Nat) (et : Tick) : Bool :=
  match c.fell with
  | some (p, at_) => decide (p = sign) || decide (16 * at_ + 100 * dead ≤ 16 * et)
  | none => true

/-- A chopping cycle begins: the diagonal of the target's polarity switches on, once the other's dead time has passed; a target of 0 keeps
both outputs low (R487 to R490). -/
def Coil.begin (c : Coil) (target : Int) (dead : Nat) (et : Tick) : Coil :=
  { c with
    target := target, dac := if target = 0 then c.dac else dacCode target c.offset
    drive := if c.mayRaise target.sign dead et then target.sign else 0 }

/-- A coil at a tick: a cycle begins where none runs and a target has come, and a drive that waits for the dead time rises. -/
def Coil.tick (c : Coil) (target : Int) (dead : Nat) (et : Tick) : Coil :=
  if c.target = 0 then (if target = 0 then c else c.begin target dead et)
  else if c.drive = 0 ∧ c.mayRaise c.target.sign dead et then { c with drive := c.target.sign }
  else c

/-- Both outputs low at once. -/
def Coil.off (c : Coil) (et : Tick) : Coil :=
  { c with runs := 0, target := 0, drive := 0, fell := if c.drive = 0 then c.fell else some (c.drive, et) }

/-- The gate outputs of a coil, GATE_m_AH and GATE_m_AL or GATE_m_BH and GATE_m_BL: one drive at most (R487). -/
def State.gates (s : State) (m : Nat) (coilB : Bool) : Bool × Bool :=
  let d := (if coilB then (s.axis m).coilB else (s.axis m).coilA).drive
  (decide (d = 1), decide (d = -1))

/-- Every coil that is chopped at a tick. -/
def State.driveCoils (s : State) : State :=
  { s with motion := { s.motion with axes := s.motion.axes.mapIdx (fun m x =>
      if x.powered then
        { x with coilA := x.coilA.tick (s.coilTargetOf x m false) (s.axisCfg m 9) s.et
                 coilB := x.coilB.tick (s.coilTargetOf x m true) (s.axisCfg m 9) s.et }
      else x) } }

/-- Gate outputs low: no current, no motion, HOMED lost (R481, R484). -/
def Axis.off (x : Axis) (state : AxisState) (et : Tick) : Axis :=
  { x with state := state, homed := false, powered := false, running := false, ramp := none, homing := none, coilA := x.coilA.off et
           coilB := x.coilB.off et, into := .hold }

/-- The axis a recoat program is waiting for (R511): AXIS of the step in progress. -/
def State.recoatAxis (s : State) : Option Nat :=
  if s.motion.recoat.state = .before ∨ s.motion.recoat.state = .after then
    some ((leAt (s.blob 0x9080 1) (16 * s.motion.recoat.step) 1))
  else none

/-- A recoat step's axis failed, was stopped or aborted (R514). -/
def State.recoatFails (s : State) (m : Nat) : State :=
  if s.recoatAxis = some (s.leaderOf m) then
    ({ s with motion := { s.motion with recoat := { s.motion.recoat with state := .failed } } }).setLeaf 0x210B 25
  else s

/-- Homing aborted with a reason (R484, R501); nothing on an axis that is not homing. -/
def State.abortHoming (s : State) (m reason : Nat) : State :=
  if (s.axis m).state = .homing then
    ((s.onGang m (fun x => { x with homed := false, homing := none })).setReg (0x9040 + m) 6 reason).setLeaf (0x24A0 + m) 2
  else s

/-- A moving axis brought to rest along the ramp of R495 at a deceleration, and what it becomes there. -/
def State.rampDown (s : State) (m decel : Nat) (into : RestInto) : State :=
  let j := s.axisCfg m 15
  match (s.axis m).ramp with
  | some r =>
    let n := r.takeOver s.et (fun x => stopPieces x decel j) none
    (s.onGang m (fun x => { x with state := .stopping, into := into })).onAxis m (fun x => { x with ramp := some n })
  | none => s

/-- The same with LIMIT_DECEL and no jerk limit (R499). -/
def State.limitDown (s : State) (m : Nat) (into : RestInto) : State :=
  let d := s.axisCfg m 0x11
  match (s.axis m).ramp with
  | some r =>
    let n := r.takeOver s.et (limitPieces d) (some d)
    (s.onGang m (fun x => { x with state := .stopping, into := into })).onAxis m (fun x => { x with ramp := some n })
  | none => s

/-- An axis stopped by STOP: homing aborts with reason 0x01, a recoat program fails, the axis ramps down into HOLD
(R495, R497, R501, R514). -/
def State.stopAxis (s : State) (m : Nat) : State :=
  if (s.axis m).state = .moving ∨ (s.axis m).state = .homing then
    (((s.abortHoming m 1).rampDown m (s.axisCfg m 0x10) .hold)).recoatFails m
  else s

/-- An axis fault with its reason: the leaf, and the gang faulted with every gate output low (R491, R497). -/
def State.faultAxis (s : State) (m reason : Nat) : State :=
  let l := s.leaderOf m
  (((s.abortHoming l 1).onGang l (fun x => x.off .faulted s.et)).setReg (0x9040 + m) 7 reason).setLeaf (0x24A0 + m) 1
    |>.recoatFails m

/-- A follow error: the gang stops at STOP_DECEL, holds current and becomes FAULTED (R497, R503). -/
def State.followError (s : State) (m : Nat) : State :=
  let l := s.leaderOf m
  let t := ((s.abortHoming l 1).setReg (0x9040 + m) 7 1).setLeaf (0x24A0 + m) 1
  (if (s.axis l).ramp.isSome then t.rampDown l (s.axisCfg l 0x10) (.faulted 1)
   else t.onGang l (fun x => { x with state := .faulted })).recoatFails m

/-! ### The device state and the axes (R483) -/

/-- Every axis DISABLED: entry to OFF, AUX, BOOT or RESTRICTED, and a thermal trip. -/
def State.axesOff (s : State) : State :=
  let t := (List.range 8).foldl (fun u m => u.abortHoming m 1) s
  let u := { t with motion := { t.motion with axes := t.motion.axes.map (fun x => x.off .disabled s.et) } }
  match s.recoatAxis with
  | some m => u.recoatFails m
  | none => u

/-- Every moving or homing axis stops at STOP_DECEL and then holds current: entry to FAULT (R483). -/
def State.axesStop (s : State) : State :=
  (List.range 8).foldl (fun t m =>
    if (t.axis m).ramp.isSome ∧ (t.axis m).state ≠ .stopping then
      ((t.abortHoming m 1).rampDown m (t.axisCfg m 0x10) .hold).recoatFails m
    else t) s

/-! ### Recoat complete (R73, R513, R515) -/

/-- Segments of lower layers in ADMITTED or STAGED, cancelled by a report (R73). -/
def State.cancelBelow (s : State) (layer : Nat) : State :=
  (s.job.segments.filter (fun g => decide (g.layer < layer) && (g.state == .admitted || g.state == .staged))).foldl
    (fun t g => t.cancel 0x0C 0 g.key) s

/-- Recoat complete reported for a layer. -/
def State.reportRecoat (s : State) (layer : Nat) : State :=
  let t := { s with motion := { s.motion with recoat :=
    { s.motion.recoat with reported := layer, valid := true, reportEt := s.et } } }
  (t.setLeaf 0x210B 24).cancelBelow layer

/-- The layer of the newest recoat complete report, in force or not, which check 0x0107 compares with (R71, R512, R466): 0 before any
report. -/
def State.newestLayer (s : State) : Nat :=
  if s.runsMotion then s.motion.recoat.reported else s.twin.motionLayer.getD s.motion.recoat.reported

/-- The newest recoat complete layer in force: the motion block's, or in a pair the motion controller's (R466). -/
def State.recoatLayer (s : State) : Option Nat :=
  if s.runsMotion then (if s.motion.recoat.valid then some s.motion.recoat.reported else none) else s.twin.motionLayer

end Sys2Proof.Machine
end

