-- ==== Sys2Proof/Machine/Transitions.lean ====
section
/-!
DEFINITION. The device state machine's shared operations: a transition, entry to FAULT, the inhibit, a role change to
COLD, and the causes that are present (R15 to R32, R583, R596).
-/
namespace Sys2Proof.Machine

/-! ### A transition (R15, R19) -/

/-- The fields of 0x2001 after a transition. -/
def Dev.moved (d : Dev) (next : DevState) (cause : Nat) (et : Tick) : Dev :=
  { d with state := next, cause := cause, transEt := et, prev := d.state, count := (d.count + 1) % 2 ^ 32, pausePending := false }

/-- The device states of a pair compared: since when they have differed (R461). -/
def Twin.compareStates (t : Twin) (own : Nat) (et : Tick) : Twin :=
  { t with divergedAt := if own = t.partnerState then none else some (t.divergedAt.getD et) }

/-- A SHADOW compares the states after a transition of its own. -/
def State.compareStates (s : State) : State :=
  if s.twin.role = .shadow then { s with twin := s.twin.compareStates s.dev.state.code s.et } else s

/-- A requested transition: STATE_CAUSE reads 0x0000 (R17). -/
def State.requested (s : State) (next : DevState) : State := ({ s with dev := s.dev.moved next 0 s.et }).compareStates

/-- An automatic transition with its cause, its leaves and its record (R19, R29, R638, R655). -/
def State.automatic (s : State) (next : DevState) (cause : Nat) : State :=
  let t := (({ s with dev := { s.dev.moved next cause s.et with autoThisCycle := true } }).compareStates).setLeaf 0x2100 1
  (if next = .fault then t.setLeaf 0x2100 0 else t).record 0x0010
    ([byteOf s.dev.state.code, byteOf next.code] ++ leBytes 2 cause ++ leBytes 8 s.et)

/-! ### The change to COLD (R32, R473) -/

/-- Every head without an item under way. -/
def State.flushHeads (s : State) : State :=
  { s with heads := s.heads.map (fun x => { x with path := { x.path.stopped s.et with seg := x.path.seg } }) }

/-- The role becomes COLD with a cause; armed or exposing, the controller falls to STANDBY and cancels its segments
(R32). -/
def State.goCold (s : State) (cause : Nat) : State :=
  let t := (({ s with twin := { s.twin with role := .cold, coldCause := cause } }).setLeaf 0x210A 1).record 0x0061 [byteOf cause]
  if s.dev.state.permits then ((t.automatic .standby 0x0041).cancelAll 0x0B 3).flushHeads else t

/-! ### FAULT (R19, R25, R583) -/

/-- The states from which a cause 0x0030 to 0x0034 leads to FAULT (R19). -/
def DevState.faults : DevState → Bool
  | .restricted => true
  | .standby => true
  | .armed => true
  | .exposing => true
  | .paused => true
  | _ => false

/-- The defect cause of a FAULT cause (R115). -/
def faultDefect (cause : Nat) : Nat := if cause = 0x30 then 0x07 else 0x08

/-- Entry to FAULT: emission is removed and every RUNNING segment becomes BROKEN (R25), the axes stop (R483), and a
controller of a pair becomes COLD (R32, R473). -/
def State.toFault (s : State) (cause : Nat) : State :=
  let t := (s.cutAll (faultDefect cause)).automatic .fault cause
  let u := t.breakRunning (faultDefect cause) 0
  let v := if cause = 0x30 then u.axesOff else u.axesStop
  if s.twin.role = .primary ∨ s.twin.role = .shadow then v.goCold 0x04 else v

/-- A cause from 0x0031 to 0x0034 arises (R19, R583): while a trip lasts it is kept for the restart; outside it, it leads
to FAULT from the states R19 lists. -/
def State.faultCause (s : State) (cause : Nat) : State :=
  if s.thermal.tripped then
    { s with dev := { s.dev with kept := if s.dev.kept.contains cause then s.dev.kept else s.dev.kept ++ [cause] } }
  else if s.dev.state.faults then s.toFault cause
  else s

/-- The state machine's answer to a thermal trip (R19, R583). -/
def State.tripState (s : State) : State :=
  let d := s.dev
  match d.state with
  | .fault =>
    let t := { s with dev := { d with kept := d.kept ++ [d.cause], tripFrom := .fault, tripCause := d.cause } }
    (t.automatic .fault 0x30).axesOff
  | .boot => ({ s with dev := { d with tripFrom := .boot, tripCause := d.cause } }).automatic .boot 0x30
  | .off => s
  | .aux => s
  | _ => ({ s with dev := { d with tripFrom := d.state, tripCause := d.cause } }).toFault 0x30

/-- A cause is present (R20). 0x0030 is judged by the thermal monitor, 0x0032 until a retraining succeeds. -/
def State.present (s : State) (cause : Nat) : Bool :=
  match cause with
  | 0x30 => s.thermal.tripped
  | 0x31 => (s.clocks.inHoldover && s.clocks.holdoverSpent) || !s.clocks.mainLock || !s.clocks.dramLock || !s.clocks.serdesLock
  | 0x32 => s.dev.failedRank.isSome
  | 0x33 => s.dev.coresDown
  | 0x34 => true
  | _ => false

/-! ### The inhibit (R25, R596, R598) -/

/-- Heads that were executing hold at the boundary after the item that was cut (R25). -/
def State.holdHeads (s : State) : State :=
  { s with heads := s.heads.map (fun x => { x with path := { x.path with hold := if x.path.seg.isSome ∧ x.path.run.isNone ∧ x.path.hold = .idle
    then .pause else x.path.hold } }) }

/-- The inhibit's count, ET, leaf and record (R598, R655). -/
def State.countInhibit (s : State) (et : Tick) : State :=
  (((s.bump 0x2040 5).setReg 0x2040 8 et).setLeaf 0x210F 0).record 0x0030 (leBytes 8 et)

/-- The transition that an inhibit leads to (R19); a PRIMARY tells its partner (R461). -/
def State.inhibitMove (s : State) : State :=
  match s.dev.state with
  | .armed => (s.automatic .standby 0x0040).twinLead 0x06 [0, 0x0040, s.et]
  | .exposing => ((s.automatic .paused 0x0040).holdHeads).twinLead 0x06 [0, 0x0040, s.et]
  | _ => s

/-- The state machine's answer to the inhibit: a SHADOW waits for the PRIMARY's STATE message (R461). -/
def State.inhibitState (s : State) : State := if s.twin.role = .shadow then s else s.inhibitMove

/-- An assertion takes effect: emission is removed first, every line buffer is flushed, in EXPOSING every RUNNING segment's
promise breaks, then the states follow (R25, R30, R106, R596, R598). -/
def State.inhibited (s : State) : State :=
  let t := { s with power := { s.power with inhibit := true } }
  ((if s.dev.state = .exposing then t.cutAll 0x06 else t.cutHeads 0x06).countInhibit s.et).inhibitState

end Sys2Proof.Machine
end

