-- ==== Sys2Proof/Machine/Calibration.lean ====
section
/-!
DEFINITION. Calibration layers: the checks of a user layer and the forming of effective values (R139, R140, R143, R166,
R277, R289, R432, R611 to R614). Every factory layer but the port corrections reads neutral.
-/
namespace Sys2Proof.Machine

/-- The calibrated quantities of R612. -/
inductive Quantity where
  | portCorr (k : Nat)
  | lag (h : HeadNo)
  | grid (h : HeadNo)
  | geometry (h : HeadNo)
  | blackLevel (h : HeadNo)
  | flatField (h : HeadNo)
  | defectPixels (h : HeadNo)
  | ratioGain (h : HeadNo)
  | tempTable (h : HeadNo)
  | pdRatioGain (h : HeadNo)
  | pdTempTable (h : HeadNo)
  deriving DecidableEq, Repr

/-- The quantity of an object index. -/
def quantityOf (index : Nat) : Option Quantity :=
  if 0x2024 ≤ index ∧ index < 0x2028 then some (.portCorr (index - 0x2024))
  else if 0x4140 ≤ index ∧ index < 0x4160 then some (.lag (index - 0x4140))
  else if 0x4180 ≤ index ∧ index < 0x41A0 then some (.grid (index - 0x4180))
  else if 0x4200 ≤ index ∧ index < 0x4220 then some (.geometry (index - 0x4200))
  else if 0x6140 ≤ index ∧ index < 0x6160 then some (.blackLevel (index - 0x6140))
  else if 0x6160 ≤ index ∧ index < 0x6180 then some (.flatField (index - 0x6160))
  else if 0x6180 ≤ index ∧ index < 0x61A0 then some (.defectPixels (index - 0x6180))
  else if 0x61A0 ≤ index ∧ index < 0x61C0 then some (.ratioGain (index - 0x61A0))
  else if 0x61C0 ≤ index ∧ index < 0x61E0 then some (.tempTable (index - 0x61C0))
  else if 0x7200 ≤ index ∧ index < 0x7220 then some (.pdRatioGain (index - 0x7200))
  else if 0x7220 ≤ index ∧ index < 0x7240 then some (.pdTempTable (index - 0x7220))
  else none

/-- A segment whose HEAD_MASK includes a head is in ADMITTED, STAGED or RUNNING (R143). -/
def State.headCommitted (s : State) (h : HeadNo) : Bool :=
  s.job.segments.any (fun g => (g.state == .admitted || g.state == .staged || g.state == .running) && g.mask.testBit h)

/-- A DOMAIN is empty or of one length. -/
def emptyOr (n : Nat) (bs : List Byte) : Bool := bs.isEmpty || bs.length == n

/-- Every chunk of a DOMAIN meets a test. -/
def everyChunk (n : Nat) (p : List Byte → Bool) (bs : List Byte) : Bool := (chunks n bs).all p

/-- The form of a user geometry and the ranges of the values it makes effective (R166). -/
def geometryOk (bs : List Byte) : Bool :=
  emptyOr 128 bs && everyChunk 16 (fun e =>
    let x := sext 32 (leAt e 0 4)
    let y := sext 32 (leAt e 4 4)
    let d := sext 32 (leAt e 8 4)
    decide (-40000 ≤ x) && decide (x ≤ 40000) && decide (-40000 ≤ y) && decide (y ≤ 40000)
      && decide (-62500 ≤ d) && decide (d ≤ 62500) && leAt e 12 4 == 0) bs

/-- A user layer is of the stated form and makes an effective value within its limits (R613). -/
def State.userOk (s : State) (q : Quantity) (data : List Byte) : Bool :=
  match q with
  | .portCorr k =>
    let v := (s.fuses.corr.getD k 0 : Int) + sext 32 (leNat data)
    decide (0 ≤ v) && decide (v ≤ 10000)
  | .lag h =>
    let v := s.reg (0x4140 + h) 1 + sext 32 (leNat data)
    decide (0 ≤ v) && decide (v ≤ 625000)
  | .grid _ => emptyOr 8712 data && everyChunk 8 (fun e => leAt e 6 2 == 0) data
  | .geometry _ => geometryOk data
  | .blackLevel _ => true
  | .flatField _ => emptyOr 32768 data
  | .defectPixels _ => decide (data.length ≤ 1024) && data.length % 4 == 0 && everyChunk 4 (fun e => decide (leAt e 0 1 < 128) && decide (leAt e 1 1 < 128) && leAt e 2 2 == 0) data
  | .ratioGain _ => true
  | .tempTable _ => emptyOr 2050 data
  | .pdRatioGain _ => emptyOr 16 data
  | .pdTempTable _ => emptyOr 514 data

/-- The conditions of R143 hold against a write. -/
def State.userHeld (s : State) (q : Quantity) : Bool :=
  match q with
  | .lag h => s.headCommitted h
  | .grid h => s.headCommitted h
  | .geometry h => s.headCommitted h
  | _ => false

/-- Defect pixels each once, ascending 128y + x (R277). -/
def defectList (bs : List Byte) : List Byte :=
  let keys := (chunks 4 bs).foldl (fun acc e => insertAsc (128 * leAt e 1 1 + leAt e 0 1) acc) []
  keys.flatMap (fun k => [byteOf (k % 128), byteOf (k / 128), 0, 0])

/-- The effective black level: each field confined to 0 to 4,095 (R277). -/
def blackEffective (v : Nat) : Nat := min 4095 (v / 65536) * 65536 + min 4095 (v % 65536)

/-- The effective value of a quantity formed from its layers (R612). -/
def State.formEffective (s : State) (index : Nat) : State :=
  match quantityOf index with
  | none => s
  | some q =>
    match q with
    | .portCorr k => s.setReg index 3 (s.fuses.corr.getD k 0 + s.reg index 2)
    | .lag _ => s.setReg index 3 (s.reg index 1 + s.reg index 2)
    | .grid h => s.setBlob index 3 (composeGrid [] (s.blob index 2) (s.regN (0x4100 + h) 6))
    | .blackLevel _ => s.setReg index 3 (blackEffective (s.regN index 2))
    | .ratioGain _ => s.setReg index 3 (s.reg index 2)
    | .defectPixels _ => s.setBlob index 3 (defectList (s.blob index 2))
    | _ => s.setBlob index 3 (s.blob index 2)

/-- Whether a quantity is a number and not a DOMAIN. -/
def Quantity.numeric : Quantity → Bool
  | .portCorr _ => true
  | .lag _ => true
  | .blackLevel _ => true
  | .ratioGain _ => true
  | _ => false

/-- The user layer stored and its effective value formed (R613). -/
def State.storeUser (s : State) (index : Nat) (q : Quantity) (data : List Byte) : State :=
  let t := match q with
    | .portCorr k => s.keepCorr k
    | _ => s
  (if q.numeric then t.setReg index 2 (numberOf index 2 data) else t.setBlob index 2 data).formEffective index

/-- The objects whose writes a PRIMARY sends on: 0x3000 to 0x9FFF but for status objects and motion commands (R464). -/
def mirrored (index sub : Nat) : Bool :=
  decide (0x3000 ≤ index) && decide (index < 0xA000) && !motionCommand index sub

/-- The transport sequence number of the next decision (R464): that of the first SUBMITTED segment, or of the next to be
received. -/
def State.nextDecision (s : State) : Nat :=
  match s.job.segments.find? (fun g => g.state == .submitted) with
  | some g => g.seq
  | none => (s.job.receiving.map (fun r => r.seq)).getD ((s.session (s.jobSession.getD 0)).rxNext)

/-- A PRIMARY sends an accepted write to its partner (R464). -/
def State.mirror (s : State) (index sub : Nat) (data : List Byte) : State :=
  if mirrored index sub then
    s.twinLead 0x07 ([(s.nextDecision : Int), index, sub] ++ data.map (fun b => (b.toNat : Int)))
  else s

/-- The refusal of a write to a user layer (R143, R613). -/
def State.userRefusal (s : State) (p : Path) (index : Nat) (data : List Byte) : Option Abort :=
  match quantityOf index with
  | none => some .noObject
  | some q =>
    orElse (s.writeGate p index 2) (orElse (if q.numeric then numberTest index 2 data else none)
      (orElse (refuseIf (!s.userOk q data) .range) (refuseIf (s.userHeld q) .conditions)))

/-- The effect of a write to a user layer. -/
def State.writeUser (s : State) (index : Nat) (data : List Byte) : State :=
  match quantityOf index with
  | none => s
  | some q => (s.storeUser index q data).mirror index 2 data

/-- CALIBRATION_USER_WRITE (R613): a write to :02 of a calibrated quantity; any other subindex is no user layer, and is
answered as the gate of that subindex answers. -/
def execCalibrationUserWrite (path : Path) (index sub : Nat) (data : List Byte) (s : State) :
    Host.Outcome State Fault Refusal :=
  .next (s.inTurnOf path (.calibrationUserWrite path index sub data)
    (if sub = 2 then s.access path (s.userRefusal path index data) (s.writeUser index data) []
     else s.access path (orElse (s.writeGate path index sub) (some .noSub)) s []))

/-- Every effective value formed (R601, step 7). -/
def State.formAll (s : State) : State :=
  let heads (base : Nat) := (List.range 32).map (fun h => base + h)
  ([0x2024, 0x2025, 0x2026, 0x2027] ++ [0x4140, 0x4180, 0x4200, 0x6140, 0x6160, 0x6180, 0x61A0, 0x61C0, 0x7200, 0x7220].flatMap
    heads).foldl State.formEffective s

end Sys2Proof.Machine
end

