-- ==== Sys2Proof/Machine/Camera.lean ====
section
/-!
DEFINITION. What a head's camera context holds, the defect map records of runs of its frames, and dropped frames (R114, R116, R243
to R245, R248, R263, R266, R273).
-/
namespace Sys2Proof.Machine

/-! ### Access -/

/-- A head's camera changed. -/
def State.onCamera (s : State) (h : HeadNo) (f : Camera → Camera) : State :=
  s.onHead h (fun x => { x with camera := f x.camera })

/-- A generation that Sieve holds (R248). -/
def Camera.gen? (c : Camera) (n : Nat) : Option Generation := c.gens.find? (fun g => g.number == n)

/-- E_n (R243). -/
def Generation.endOf (g : Generation) (start : Tick) : Tick := start + 2 * g.period

/-- The deadline of a frame (R269). -/
def Generation.deadline (g : Generation) (start : Tick) : Tick := g.endOf start + g.budget

/-- What the head was doing at mid-integration of a frame; nothing known where no frame was assembled then. -/
def Camera.midAt (c : Camera) (at_ : Tick) : MidState :=
  ((c.mids.find? (fun m => m.1 == at_)).map (fun m => m.2)).getD ⟨none, 0xFFFFFFFF, 0xFFFF, 0, 0, 0, 0, false⟩

/-! ### Records over a run of camera frames (R114, R116, R263, R266, R273) -/

/-- The frame of a run: its integration interval, with the beamlets at marking power at its M. -/
def runFrame (m : MidState) (detail start integration : Nat) : RunFrame := ⟨start, start + integration - 1, m.mask, detail⟩

/-- The part of a run that falls to an item begun on the head, with the masks and the DETAIL bits of the frames that overlap it; none
where no frame does (R116, R716). -/
def ItemSpan.part (i : ItemSpan) (fs : List RunFrame) (first last : Tick) : Option OutPart :=
  let a := max first i.start
  let e := match i.stop with
    | some t => min last (t - 1)
    | none => last
  let mine := fs.filter (fun f => decide (f.first ≤ e) && decide (a ≤ f.last))
  if e < a ∨ mine.isEmpty then none
  else some ⟨i.seg, i.item, mine.foldl (fun m f => m ||| f.mask) 0, mine.foldl (fun m f => m ||| f.detail) 0, a, e⟩

/-- The parts of a run of frames, item by item. -/
def HeadPath.partsOf (x : HeadPath) (fs : List RunFrame) : List OutPart :=
  match fs.head? with
  | some f =>
    let last := (fs.map (fun g => g.last)).foldl max 0
    x.items.reverse.filterMap (fun i => i.part fs f.first last)
  | none => []

/-- One defect map record of a part. -/
def OutPart.record (p : OutPart) (x : Head) (h cause first last : Nat) : DefectRecord :=
  { cause := cause, stretch := none, head := h, mask := p.mask, withheld := false, seg := p.seg, item := p.item, detail := p.detail
    etStart := first, etEnd := last, start := x.path.unitAt first, finish := x.path.unitAt last
    energy := (x.camera.delivered p.mask first last : Nat), reported := false, active := 0, ends := none }

/-- Parts written, as records of at most 65,536 link frames each. -/
def State.writeParts (s : State) (h cause : Nat) (ps : List OutPart) : State :=
  ps.foldl (fun t p => (spansOf p.first p.last).foldl (fun u q => u.writeDefect (p.record (s.head h) h cause q.1 q.2)) t) s

/-- A whole run of frames written. -/
def State.writeRun (s : State) (h cause : Nat) (fs : List RunFrame) : State := s.writeParts h cause ((s.head h).path.partsOf fs)

/-! ### Drops (R245, R271, R273) -/

/-- The record of consecutive drops closed. -/
def State.flushDrops (s : State) (h : HeadNo) : State :=
  (s.onCamera h (fun c => { c with dropFrames := [] })).writeRun h 0x24 (s.head h).camera.dropFrames

/-- The outlier count restarts; a stretch that has begun goes on (R263). -/
def Camera.restartCount (c : Camera) : Camera :=
  if c.outlying then { c with outCount := 0 } else { c with outCount := 0, outFrames := [] }

/-- A drop joins the record of the drops before it when its frame follows theirs with the same DETAIL, or begins another one. -/
def State.dropRecord (s : State) (h : HeadNo) (f : RunFrame) (next : Tick) : State :=
  let c := (s.head h).camera
  let joins := c.dropNext == f.first && c.dropFrames.all (fun q => q.detail == f.detail)
  (if joins then s else s.flushDrops h).onCamera h (fun c => { c with dropFrames := c.dropFrames ++ [f], dropNext := next })

/-- A dropped camera frame counted, with its reason (R245, R264, R273). -/
def State.countDrop (s : State) (h reason : Nat) : State :=
  (((s.bump (0x6220 + h) 4).setReg (0x6220 + h) 5 reason).setLeaf (0x2440 + h) 0).onCamera h (fun c =>
    { c.restartCount with window := [], windowFrames := [], windowMarking := false, lastSeq := none })

/-- A camera frame dropped, its mid-integration state, start and generation known; without emission at marking power it leaves no
record. -/
def State.dropFrame (s : State) (h reason : Nat) (m : MidState) (start : Tick) (g : Generation) : State :=
  let t := s.countDrop h reason
  if m.mask = 0 then t else t.dropRecord h (runFrame m reason start g.integration) (start + g.period)

/-- A buffered frame dropped, its buffer freed. -/
def State.dropBuffer (s : State) (h reason : Nat) (f : CamFrame) : State :=
  (s.onCamera h (fun c => { c with frames := c.frames.erase f })).dropFrame h reason f.mid f.startEt f.params

/-- The frame in reception on a head. -/
def Camera.receiving (c : Camera) : Option CamFrame := c.frames.find? (fun f => f.state == .receiving)

/-- A frame in reception that lost data: dropped with reason 3. -/
def State.cameraBroken (s : State) (h : HeadNo) : State :=
  match (s.head h).camera.receiving with
  | some f => s.dropBuffer h 3 f
  | none => s

end Sys2Proof.Machine
end

