-- ==== Sys2Proof/Machine/Links.lean ====
section
/-!
DEFINITION. The head links' shared operations: entering and leaving OPERATION, dark slots, and the optics temperature's
validity (R146, R350, R357, R360 to R363, R577, R580, R581).
-/
namespace Sys2Proof.Machine

/-- A head link changed. -/
def State.onLink (s : State) (h : HeadNo) (f : HeadLink → HeadLink) : State :=
  s.onHead h (fun x => { x with link := f x.link })

/-! ### Slots that were dark (R361 to R363) -/

/-- The record of a stretch of dark slots of one segment and item. -/
def darkRecord (x : HeadPath) (h : HeadNo) (cause detail : Nat) (slots : List SentSlot) (seg item : Nat) : DefectRecord :=
  let mine := slots.filter (fun k => k.books.any (fun b => decide (b.seg = seg ∧ b.item = item ∧ b.energy ≠ 0)))
  let first := (mine.map (fun k => k.frame)).foldl min ((mine.head?.map (fun k => k.frame)).getD 0)
  let last := (mine.map (fun k => k.frame)).foldl max 0
  let energy (b : Nat) : Int := (mine.flatMap (fun k => k.books.filter (fun y => decide (y.beam = b ∧ y.seg = seg ∧ y.item = item)))).foldl
    (fun a y => a + y.energy) 0
  { cause := cause, stretch := none, head := h, mask := (List.range 8).foldl (fun m b => if energy b = 0 then m else setBit m b) 0
    withheld := true, seg := seg, item := item, detail := detail, etStart := 125 * first, etEnd := 125 * last + 124
    start := x.unitAt (125 * first), finish := x.unitAt (125 * last + 124)
    energy := ((List.range 8).map energy).foldl (fun a e => a + e) 0, reported := true, active := 0, ends := none }

/-! ### Optics temperature (R146, R577, R578) -/

/-- The optics temperature of a head becomes invalid: F_th is kept, the warning ends, the leaves are set. -/
def State.opticsLost (s : State) (h : HeadNo) : State :=
  let x := (s.head h).link
  let t := s.onLink h (fun l => { l with opticsValid := false, opticsWarning := false })
  if x.opticsValid then ((t.setReg (0x4160 + h) 14 0).setLeaf 0x210E 7).setLeaf (0x2400 + h) 3 else t

/-! ### The link's states (R357) -/

/-- A link that begins training, or stands disabled or failed: what it measured before is gone. As training begins w is 0 until it
is measured, so that the arrivals give 2w again (R332, R358). -/
def HeadLink.entered (l : HeadLink) (state : LinkState) : HeadLink :=
  { l with
    state := state, good := 0, bad := 0, arrivals := [], actParts := [], delay := if state = .acquire then 0 else l.delay
    inverted := l.inverted && state != .acquire && state != .disabled }

/-- A link leaves OPERATION: LOSSES and LOSS, the camera frame in reception is lost, its unreported slots and what its line buffers
hold are booked and recorded, and the path runs on (R30, R176, R245, R363). A SHADOW books nothing (R462). -/
def State.linkLost (s : State) (h : HeadNo) (cause : Nat) : State :=
  let slots := (s.head h).link.sent
  let n := if s.twin.role = .shadow then 0 else ((s.head h).link.unsentSlots s.et).length
  let t := ((s.onHead h (fun y => { y with
    link := { y.link with sent := [], sentEdges := [], sentParts := [], trains := [], trainQueue := [], book := { y.link.book with sent := y.link.book.sent - n, discarded := y.link.book.discarded + n } }
    channels := y.channels.map (fun c => { c with darkValid := false, darkSums := none }) })).bump (0x8040 + h) 8).setLeaf (0x2480 + h) 2
  let u := (t.opticsLost h).cameraBroken h
  if s.twin.role = .shadow then u else u.flushRunning h cause (if cause = 0x09 then 1 else 0) slots

/-- A link taken to another state than OPERATION; from OPERATION its loss is booked first. -/
def State.linkTo (s : State) (h : HeadNo) (state : LinkState) (cause : Nat) : State :=
  let t := if (s.head h).link.state = .operation then s.linkLost h cause else s.opticsLost h
  t.onLink h (fun l => l.entered state)

/-- The device states in which a link with ENABLE 1 trains: start-up step 6 or later, no trip in effect (R357). -/
def State.linksTrain (s : State) : Bool :=
  !s.thermal.tripped && s.dev.state != .off && s.dev.state != .aux && s.dev.state != .boot
    && (s.power.step == 0 || decide (6 ≤ s.power.step))

/-- ENABLE of a link. -/
def State.linkEnabled (s : State) (h : HeadNo) : Bool := s.reg (0x8020 + h) 1 == 1

/-- The capture of the dark baselines of a head begins (R287). -/
def State.captureDark (s : State) (h : HeadNo) : State :=
  if (s.head h).link.state = .operation then
    s.onHead h (fun x => { x with channels := x.channels.map (fun c => { c with darkSums := some (0, 0, 0) }) })
  else s

/-- The same on every head in operation. -/
def State.captureAll (s : State) : State := (List.range 32).foldl State.captureDark s

/-! ### The photodiode sample rate (R284, R339) -/

/-- The sample rate, in MS/s, in force at an ET. -/
def Engine.rateAt (e : Engine) (et : Tick) : Nat :=
  e.rateChanges.foldl (fun r c => if c.at_ ≤ et then c.rate else r) e.rate

/-- The rate that the last change on its way leads to. -/
def Engine.rateWanted (e : Engine) : Nat := e.rateChanges.foldl (fun _ c => c.rate) e.rate

/-- The rate R284 asks for: 2 when SAMPLE_RATE is 2 and at most 16 head links are enabled. -/
def State.rateAsked (s : State) : Nat :=
  if s.reg 0x7000 1 = 2 ∧ (List.range 32).countP s.linkEnabled ≤ 16 then 2 else 1

/-- The next frame, from a frame on, that begins no servo period (R339). -/
def plainFrame (servo f : Nat) : Nat := if 125 * f % servo = 0 then f + 1 else f

/-- M of R339 for the frame that announces a rate. -/
def rateMoment (f : Nat) : Tick := ceilDiv (125 * f + 250) 625 * 625

/-- The rate judged afresh: a change is announced in the next frame that begins no servo period (R284, R339). -/
def State.judgeRate (s : State) : State :=
  let want := s.rateAsked
  if want = s.engine.rateWanted then s
  else
    let f := plainFrame (s.regN 0x4120 3 * 625) (frameAt s.et + 1)
    { s with engine := { s.engine with rateChanges := s.engine.rateChanges ++ [⟨want, f, rateMoment f⟩] } }

/-! ### Links taken together -/

/-- Every disabled link with ENABLE 1 enters ACQUIRE (R580, R601 step 6). -/
def State.startLinks (s : State) : State :=
  (List.range 32).foldl (fun t h =>
    if t.linkEnabled h ∧ (t.head h).link.state = .disabled then t.linkTo h .acquire 0x09 else t) s

/-- Every link is held in DISABLED, its slots booked under a cause (R580, R581). -/
def State.stopLinks (s : State) (cause : Nat) : State :=
  (List.range 32).foldl (fun t h => t.linkTo h .disabled cause) s

/-- A head at the onset of a trip: its unreported slots, the frame not yet sent among them, and the rest of its items are withheld under
cause 0x07 (R112, R581). -/
def State.tripHead (s : State) (h : HeadNo) : State :=
  let slots := (s.head h).link.sent
  ((((s.discardFrames h).onLink h (fun l => { l with sent := [] })).cutAndBreak 0x07 s.freeDetail h slots).drawn)

/-- A FAILED link with its reason (R357). -/
def State.linkFailed (s : State) (h : HeadNo) (reason : Nat) : State :=
  s.onLink h (fun l => { l.entered .failed with failReason := reason })

end Sys2Proof.Machine
end

