-- ==== Sys2Proof/Machine/Clock.lean ====
section
/-!
DEFINITION. The clock unit: qualification, the root, holdover, PLL locks and the frequency counter (R555 to R571).
Offsets are in 0.01 ppm against the local oscillator.
-/
namespace Sys2Proof.Machine

/-- A quantity lies within a number of ppm either way. -/
def withinPpm (off : Int) (ppm : Nat) : Bool := decide (-(100 * (ppm : Int)) ≤ off) && decide (off ≤ 100 * (ppm : Int))

/-- A recovered source at the end of a gate (R559): lost beyond 150 ppm, qualified after 10 ms of lock within 120 ppm. -/
def Source.gate (x : Source) (off : Int) (now : Nat) : Source :=
  { x with qualified :=
    if x.lock = false then false
    else if x.qualified then withinPpm off 150
    else decide (x.since + 6250000 ≤ now) && withinPpm off 120 }

/-- The preferred source: 0 port A, 1 port B, 2 the oscillator, 3 the twin link (R452, R557). -/
def State.preferred (s : State) : Nat :=
  if s.paired ∧ s.reg 0xD000 2 = 1 ∧ s.twin.linkLock then 3 else s.regN 0x2010 1

/-- Whether a source is qualified. -/
def ClockUnit.qualified (c : ClockUnit) (source : Nat) : Bool :=
  match source with
  | 0 => c.portA.qualified
  | 1 => c.portB.qualified
  | 2 => c.xoQualified
  | _ => c.twinLink.qualified

/-- The root by the order of R560: a source, or none for holdover. -/
def State.rootChoice (s : State) : Option Nat :=
  if s.clocks.qualified s.preferred then some s.preferred
  else if s.clocks.holdoverSpent ∨ s.reg 0x2010 2 = 0 then (if s.clocks.xoQualified then some 2 else none)
  else none

/-- The code of holdover in ROOT_SOURCE (R555). -/
def holdoverCode : Nat := 4

/-- ROOT_SOURCE changes: the count, the leaf and the record (R569, R570, R655). -/
def State.changeRoot (s : State) (source : Nat) : State :=
  if s.clocks.root = source then s
  else
    (((({ s with clocks := { s.clocks with root := source, rootGates := 0 } }).bump 0x2011 4).setLeaf 0x210D 0).record 0x0080
      [byteOf s.clocks.root, byteOf source])

/-- Entry to holdover: the frequency stays (R560, R562). -/
def State.enterHoldover (s : State) : State :=
  if s.clocks.inHoldover then s
  else ((({ s with clocks := { s.clocks with inHoldover := true, holdoverFrom := s.et } }).bump 0x2011 5).setLeaf 0x210D 1).changeRoot
    holdoverCode

/-- Holdover left for a source: HOLDOVER_TICKS counts it. -/
def State.leaveHoldover (s : State) (source : Nat) : State :=
  let t := if s.clocks.inHoldover then s.bumpBy 0x2011 6 ((s.et - s.clocks.holdoverFrom : Nat) : Int) else s
  ({ t with clocks := { t.clocks with inHoldover := false } }).changeRoot source

/-- The root re-evaluated (R560, R561): the fourth case is cause 0x0031. -/
def State.evaluateRoot (s : State) : State :=
  let c := { s.clocks with holdoverSpent := s.clocks.holdoverSpent && !s.clocks.qualified s.preferred }
  let t := { s with clocks := c }
  match t.rootChoice with
  | some source => t.leaveHoldover source
  | none =>
    let u := t.enterHoldover
    if (u.clocks.holdoverSpent ∨ u.reg 0x2010 2 = 0) ∧ u.clocks.xoQualified = false then
      ({ u with clocks := { u.clocks with holdoverSpent := true } }).faultCause 0x31
    else u

/-- The oscillator at the end of a gate (R559): while a recovered source is the root, the mean of 8 gates beyond 120 ppm
disqualifies it; 8 gates within 120 ppm qualify it again. -/
def ClockUnit.oscillator (c : ClockUnit) (off : Int) : ClockUnit :=
  let newest := off :: c.xoOffsets.take 7
  let sum := newest.foldl (fun a x => a + x) 0
  let good := if withinPpm off 120 then c.xoGood + 1 else 0
  let lost := c.xoQualified && c.root != 2 && !c.inHoldover && decide (8 ≤ c.rootGates + 1) && decide (8 ≤ newest.length) &&
    (decide (8 * 12000 < sum) || decide (sum < -(8 * 12000)))
  { c with xoOffsets := newest, rootGates := min 8 (c.rootGates + 1), xoGood := good, xoQualified := if c.xoQualified then !lost else decide (8 ≤ good) }

/-- A lost oscillator sets its leaf (R571). -/
def State.xoLeaf (s : State) (before : Bool) : State := if before && !s.clocks.xoQualified then s.setLeaf 0x210D 2 else s

/-- The mean offset of the oscillator over the newest gates, to the nearest 0.01 ppm (R570). -/
def xoMean (offs : List Int) : Int := roundDiv (offs.foldl (fun a x => a + x) 0) offs.length

/-- The losses of qualification between two states of the unit, without the gains (R560). -/
def ClockUnit.lossesOnly (c d : ClockUnit) : ClockUnit :=
  { d with
    portA := { d.portA with qualified := c.portA.qualified && d.portA.qualified }
    portB := { d.portB with qualified := c.portB.qualified && d.portB.qualified }
    twinLink := { d.twinLink with qualified := c.twinLink.qualified && d.twinLink.qualified }
    xoQualified := c.xoQualified && d.xoQualified }

/-- The qualifications of a unit put in force. -/
def State.qualify4 (s : State) (d : ClockUnit) : State :=
  { s with clocks := { s.clocks with
    portA := { s.clocks.portA with qualified := d.portA.qualified }, portB := { s.clocks.portB with qualified := d.portB.qualified }
    twinLink := { s.clocks.twinLink with qualified := d.twinLink.qualified }, xoQualified := d.xoQualified } }

/-- The root after a gate: the losses are applied first, then the gains (R560). -/
def State.afterGate (s : State) (c : ClockUnit) : State :=
  let t := ((({ s with clocks := s.clocks.lossesOnly c }).setReg 0x2011 3 (xoMean c.xoOffsets)).xoLeaf s.clocks.xoQualified).evaluateRoot
  (t.qualify4 c).evaluateRoot

/-- ROOT_GATE (R559, R560): the end of a 1 ms gate with the offsets of the sources against the oscillator and of the
oscillator against the root. -/
def execRootGate (offA offB offTwin offXo : Int) (s : State) : Host.Outcome State Fault Refusal :=
  let now := s.clk.island
  let c := ({ s.clocks with portA := s.clocks.portA.gate offA now, portB := s.clocks.portB.gate offB now
                            twinLink := s.clocks.twinLink.gate offTwin now }).oscillator offXo
  .next (s.inTurn (.rootGate offA offB offTwin offXo) (if s.clocks.mainLock then s.afterGate c else s))

/-- XO_EDGE_LOSS (R559). -/
def execXoEdgeLoss (s : State) : Host.Outcome State Fault Refusal :=
  .next (s.inTurn (.xoEdgeLoss) (if s.dev.state = .off ∨ s.dev.state = .aux then s
    else
      let t := ({ s with clocks := { s.clocks with xoQualified := false, xoGood := 0, xoOffsets := [] } }).xoLeaf s.clocks.xoQualified
      if s.clocks.mainLock then t.evaluateRoot else t))

/-- HOLDOVER_TIME_EXPIRY (R560, R561). -/
def execHoldoverTimeExpiry (s : State) : Host.Outcome State Fault Refusal :=
  .next (s.inTurn (.holdoverTimeExpiry) (if s.clocks.inHoldover then ({ s with clocks := { s.clocks with holdoverSpent := true } }).evaluateRoot else s))

/-- A source's lock lost: it loses its qualification at once (R559, R560). Sources: 0 port A, 1 port B, 3 the twin link. -/
def State.sourceLost (s : State) (source : Nat) : State :=
  let none : Source := ⟨false, 0, false⟩
  let c := match source with
    | 0 => { s.clocks with portA := none }
    | 1 => { s.clocks with portB := none }
    | _ => { s.clocks with twinLink := none }
  let t := { s with clocks := c }
  if s.clocks.mainLock then t.evaluateRoot else t

/-- A source's lock gained. -/
def State.sourceLocked (s : State) (source : Nat) : State :=
  let on (x : Source) : Source := { x with lock := true, since := if x.lock then x.since else s.clk.island }
  match source with
  | 0 => { s with clocks := { s.clocks with portA := on s.clocks.portA } }
  | 1 => { s with clocks := { s.clocks with portB := on s.clocks.portB } }
  | _ => { s with clocks := { s.clocks with twinLink := on s.clocks.twinLink } }

/-- A PLL's lock set: 0 main, 1 DRAM, 2 SerDes. -/
def ClockUnit.withLock (c : ClockUnit) (pll : Nat) (lock : Bool) : ClockUnit :=
  match pll with
  | 0 => { c with mainLock := lock }
  | 1 => { c with dramLock := lock }
  | 2 => { c with serdesLock := lock }
  | _ => c

/-- A PLL's lock. -/
def ClockUnit.lockOf (c : ClockUnit) (pll : Nat) : Bool :=
  match pll with
  | 0 => c.mainLock
  | 1 => c.dramLock
  | 2 => c.serdesLock
  | _ => false

/-- PLL_UNLOCK (R561): a PLL that loses lock counts as loss of the root clock. -/
def execPllUnlock (pll : Nat) (s : State) : Host.Outcome State Fault Refusal :=
  .next (s.inTurn (.pllUnlock pll) (if s.clocks.lockOf pll then
      (({ s with clocks := s.clocks.withLock pll false }).setLeaf 0x210D 3).faultCause 0x31
    else s))

/-- PLL_LOCK_REGAINED (R561): only a PLL that start-up has locked before. -/
def execPllLockRegained (pll : Nat) (s : State) : Host.Outcome State Fault Refusal :=
  .next (if s.clk.running ∧ s.power.step ≠ 2 then { s with clocks := s.clocks.withLock pll true } else s)

/-! ### The frequency counter (R567, R568) -/

/-- Nominal frequencies of the codes, Hz. -/
def nominalHz (code : Nat) : Nat :=
  ([156250000, 156250000, 156250000, 156250000, 156250000, 156250000, 1250000000, 1000000000, 625000000, 500000000, 100000000,
    156250000, 156250000, 156250000, 156250000, 1000000] : List Nat).getD code 1

/-- START (R567): a write of 1 while BUSY aborts. -/
def execStartMeasurement (path : Path) (value : Nat) (s : State) : Host.Outcome State Fault Refusal :=
  .next (s.inTurnOf path (.startMeasurement path value) (s.access path
    (orElse (s.writeGate path 0x2012 5) (orElse (numberTest 0x2012 5 (leBytes 1 value))
      (refuseIf (decide (value = 1) && s.clocks.freqBusy) .conditions)))
    (if value = 1 then { s with clocks := { s.clocks with freqBusy := true } } else s) []))

/-- RESULT and PPM formed (R567, R568). -/
def State.formFrequency (s : State) (running : Bool) (count : Nat) : State :=
  let gate := s.regN 0x2012 3
  let num : Int := (count * nominalHz (s.regN 0x2012 2) : Nat) - (gate * nominalHz (s.regN 0x2012 1) : Nat)
  let ppm := if running then roundDiv (num * 100000000) (gate * nominalHz (s.regN 0x2012 1)) else -2147483648
  (({ s with clocks := { s.clocks with freqBusy := false } }).setReg 0x2012 7 (if running then (count : Int) else 0)).setReg 0x2012 8 ppm

/-- The branch of a counted clock is not gated (R566): CLK_CTL while a loop is enabled, CLK_PIX while a pipeline has a context or a
frame, and the uplink of a head whose link's SerDes runs. -/
def State.ungated (s : State) (code : Nat) : Bool :=
  match code with
  | 7 => s.heads.any (fun x => x.channels.any (fun c => c.enabled))
  | 9 => s.heads.any (fun x => x.camera.appliedOn || !x.camera.frames.isEmpty)
  | 14 => (s.head (s.regN 0x2012 4)).link.state != .disabled && !s.thermal.tripped
  | _ => true

/-- FREQ_MEASUREMENT_COMPLETE (R567): running is false for a stopped target; a gated one does not run. -/
def execFreqMeasurementComplete (running : Bool) (count : Nat) (s : State) : Host.Outcome State Fault Refusal :=
  .next (if s.clocks.freqBusy then s.formFrequency (running && s.ungated (s.regN 0x2012 1)) count else s)

/-- ROOT_SELECT written: the source it names has lost no qualification yet (R557, R560). -/
def State.selectRoot (s : State) (value : Int) : State :=
  let t := s.setReg 0x2010 1 value
  if s.reg 0x2010 1 = value then t else { t with clocks := { t.clocks with holdoverSpent := true } }

end Sys2Proof.Machine
end

