-- ==== Sys2Proof/Machine/Coding.lean ====
section
/-!
DEFINITION. The characters of a head-link lane (R326, R327): 8b/10b coding with running disparity. The manual names the code and
gives no table: its tables are those of IEEE 802.3 clause 36 (PRESUMED, log entry 108). A character is a number of ten bits, bit a the
most significant, the order of sending.
-/
namespace Sys2Proof.Machine

/-- The six-bit groups abcdei of a five-bit value where the running disparity is negative. -/
def sixCodes : List Nat :=
  [0b100111, 0b011101, 0b101101, 0b110001, 0b110101, 0b101001, 0b011001, 0b111000, 0b111001, 0b100101, 0b010101, 0b110100, 0b001101,
   0b101100, 0b011100, 0b010111] ++
  [0b011011, 0b100011, 0b010011, 0b110010, 0b001011, 0b101010, 0b011010, 0b111010, 0b110011, 0b100110, 0b010110, 0b110110, 0b001110,
   0b101110, 0b011110, 0b101011]

/-- The four-bit groups fghj of a three-bit value where the running disparity is negative. -/
def fourCodes : List Nat := [0b1011, 0b1001, 0b0101, 0b1100, 0b1101, 0b1010, 0b0110, 0b1110]

/-- The ones of a group of bits. -/
def onesIn (n v : Nat) : Nat := (List.range n).countP (fun i => v.testBit i)

/-- A group of n bits as sent at a running disparity (true: positive): complemented where it is unbalanced, or alternates. -/
def codeGroup (rd : Bool) (n v : Nat) (alternates : Bool) : Nat :=
  if rd ∧ (2 * onesIn n v ≠ n ∨ alternates) then 2 ^ n - 1 - v else v

/-- The running disparity behind a group. -/
def disparityAfter (rd : Bool) (n v : Nat) : Bool := if 2 * onesIn n v = n then rd else decide (n < 2 * onesIn n v)

/-- The six-bit group of a byte. -/
def sixOf (rd : Bool) (x : Nat) : Nat := codeGroup rd 6 (sixCodes.getD x 0) (x == 7)

/-- The second form of the group 7, which keeps five equal bits from standing in a row. -/
def usesSecond (rd : Bool) (x : Nat) : Bool := if rd then [11, 13, 14].contains x else [17, 18, 20].contains x

/-- The four-bit group of a byte, behind its six-bit group. -/
def fourOf (rd : Bool) (x y : Nat) : Nat :=
  if y = 7 ∧ usesSecond rd x then codeGroup rd 4 0b0111 false else codeGroup rd 4 (fourCodes.getD y 0) (y == 3)

/-- The character of a byte at a running disparity, and the disparity behind it. -/
def charOf (rd : Bool) (b : Byte) : Nat × Bool :=
  let x := b.toNat % 32
  let six := sixOf rd x
  let mid := disparityAfter rd 6 six
  let four := fourOf mid x (b.toNat / 32)
  (six * 16 + four, disparityAfter mid 4 four)

/-- K28.5 at a running disparity. -/
def commaOf (rd : Bool) : Nat := if rd then 0b1100000101 else 0b0011111010

/-- The characters of bytes in sequence, and the disparity behind them. -/
def charsOf : Bool → List Byte → List Nat × Bool
  | rd, [] => ([], rd)
  | rd, b :: rest =>
    let c := charOf rd b
    let r := charsOf c.2 rest
    (c.1 :: r.1, r.2)

/-- A frame's characters: K28.5, then one for each byte; and the disparity behind them (R326). K28.5 inverts the disparity. -/
def frameChars (rd : Bool) (bs : List Byte) : List Nat × Bool :=
  let r := charsOf (!rd) bs
  (commaOf rd :: r.1, r.2)

/-- The byte of a valid data character with correct running disparity, and the disparity behind it. -/
def byteOfChar (rd : Bool) (c : Nat) : Option (Byte × Bool) :=
  match (List.range 32).find? (fun x => sixOf rd x == c / 16) with
  | none => none
  | some x =>
    let mid := disparityAfter rd 6 (c / 16)
    match (List.range 8).find? (fun y => fourOf mid x y == c % 16) with
    | none => none
    | some y => some (byteOf (x + 32 * y), disparityAfter mid 4 (c % 16))

/-- The bytes of characters in sequence, none where one is no valid data character. -/
def bytesOfChars : Bool → List Nat → Option (List Byte)
  | _, [] => some []
  | rd, c :: rest => (byteOfChar rd c).bind (fun r => (bytesOfChars r.2 rest).map (fun bs => r.1 :: bs))

/-- The bytes of a received frame whose first character is K28.5, which tells the running disparity, and whose 99 others are valid
data characters (R327). -/
def frameOfChars (cs : List Nat) : Option (List Byte) :=
  match cs with
  | [] => none
  | k :: rest =>
    if rest.length ≠ 99 then none
    else if k = commaOf false then bytesOfChars true rest
    else if k = commaOf true then bytesOfChars false rest
    else none

/-- Characters of a pair whose polarity is inverted. -/
def invertChars (cs : List Nat) : List Nat := cs.map (fun c => 1023 - c % 1024)

end Sys2Proof.Machine
end

