-- ==== Sys2Proof/Machine/Predict.lean ====
section
/-!
DEFINITION. The proximity guard's conflicts (R219 to R221) and the Reckoner's placement of a segment: its items at their
worst-case times, its guard waits and its barrier ETs (R94, R98, R227).
-/
namespace Sys2Proof.Machine

/-! ### Conflicts (R220, R221) -/

/-- The cone of R220 with an allowance taken off. -/
def State.cone (s : State) (allowance : Int) : Cone :=
  let a := s.regN 0x5001 4
  ⟨cosQ a, sinQ a, s.reg 0x5001 5 - allowance, s.reg 0x5001 6 - allowance, s.reg 0x5001 7⟩

/-- The verdict on two envelopes with an allowance (R221). -/
def State.conflict (s : State) (allowance : Int) (e1 e2 : List Line) : Conflict :=
  envelopesConflict (s.reg 0x5001 2 - allowance) (s.cone allowance) e1 e2

/-- T_s in ticks (R122). -/
def State.servoTicks (s : State) : Nat := s.regN 0x4120 3 * 625

/-! ### The plan of a head -/

/-- An item of a plan: its terms of R94 in ticks, its stretches (entry and lead-out end from its start, envelope), and its
barrier. -/
structure PlanItem where
  ticks : Nat
  stretches : List (Nat × Nat × List Line)
  barrier : Option (Nat × Nat)
  deriving DecidableEq, Repr

/-- A head's plan in progress of placement. -/
structure PlanHead where
  head : HeadNo
  /-- worst-case start of the item at the front of `items`, and the guard waits in it so far -/
  at_ : Tick
  wait : Nat
  /-- stretches of that item still to place -/
  todo : List (Nat × Nat × List Line)
  items : List PlanItem
  terms : List Nat
  barriers : List (Nat × Tick)
  bar : Nat
  placed : List Placed
  deriving DecidableEq, Repr

/-- A barrier of an item. -/
def ItemBody.barrierOf : ItemBody → Option (Nat × Nat)
  | .barrier id heads => some (id, heads)
  | _ => none

/-- An item planned from a position (R94). -/
def HeadCfg.planItem (c : HeadCfg) (words : List Nat) (it : Item) (after : Option Item) (p : Pos) : PlanItem :=
  let tm := c.timing it after none 0 p 0 0 16
  { ticks := c.itemTicks it after p 16
    stretches := tm.stretches.map (fun (g, x) => ((x.entry + 65535) / 65536, (x.finish + 65535) / 65536, c.envelope words it g))
    barrier := it.body.barrierOf }

/-- A list planned from a position, and the position at its end (R95). -/
def HeadCfg.planList (c : HeadCfg) (words : List Nat) : List (Item × Option Item) → Pos → List PlanItem × Pos
  | [], p => ([], p)
  | (i, n) :: rest, p =>
    let r := c.planList words rest (c.itemExit i n p)
    (c.planItem words i n p :: r.1, r.2)

/-- A head's plan at its start. -/
def PlanHead.start (h : HeadNo) (at_ : Tick) (items : List PlanItem) : PlanHead :=
  { head := h, at_ := at_, wait := 0, todo := ((items.head?).map (fun i => i.stretches)).getD [], items := items, terms := []
    barriers := [], bar := 0, placed := [] }

/-- The plan after its front item has ended at an ET with a term. -/
def PlanHead.advance (p : PlanHead) (at_ : Tick) (term : Nat) : PlanHead :=
  let rest := p.items.drop 1
  { p with at_ := at_, wait := 0, todo := ((rest.head?).map (fun i => i.stretches)).getD [], items := rest
           terms := p.terms ++ [term] }

/-- The ET of a plan's next event. -/
def PlanHead.nextAt (p : PlanHead) : Tick :=
  match p.todo with
  | (e, _, _) :: _ => p.at_ + p.wait + e
  | [] => p.at_

/-- The barrier at which a plan waits. -/
def PlanHead.waitsAt (p : PlanHead) : Option (Nat × Nat) :=
  match p.todo, p.items with
  | [], i :: _ => i.barrier
  | _, _ => none

/-! ### Guard waits (R222 to R224, R227) -/

/-- A placed stretch bars a check at a boundary: its lead-out has not ended there, and it passed at an earlier boundary or is
ordered before the stretch that was first checked at `first`, which at the same boundary is evaluated first (R224). -/
def Placed.bars (x : Placed) (first b : Tick) : Bool :=
  decide (b < x.finish) && (decide (x.pass < b) || decide (x.first ≤ first))

/-- The boundary at which a check passes, from a boundary on. -/
def passAt (ts first : Nat) (xs : List Placed) : (fuel : Nat) → Tick → Tick
  | 0, b => b
  | fuel + 1, b =>
    match xs.find? (fun x => x.bars first b) with
    | none => b
    | some x => passAt ts first xs fuel (ceilDiv x.finish ts * ts)

/-- The placement of a stretch: its record and its wait (R227). -/
def State.placeStretch (s : State) (xs : List Placed) (h : HeadNo) (entry length : Nat) (env : List Line) : Placed × Nat :=
  let ts := s.servoTicks
  let first := entry / ts * ts
  let near := if s.reg 0x5001 1 = 0 then [] else xs.filter (fun x => decide (x.head ≠ h) && s.conflict 0 env x.envelope != .none)
  let pass := passAt ts first near (near.length + 1) first
  (⟨h, first, pass, entry + (pass - first) + length, env⟩, pass - first)

/-- Every head of a barrier waits at it. -/
def barrierReady (ps : List PlanHead) (id mask : Nat) : Bool :=
  (bitList 32 mask).all (fun h => ps.any (fun p => p.head == h && p.waitsAt == some (id, mask)))

/-- A barrier whose heads have all arrived released at the largest arrival (R98). -/
def releasePlan (ps : List PlanHead) (id mask : Nat) : List PlanHead :=
  let et := (ps.filter (fun p => p.waitsAt == some (id, mask))).foldl (fun m p => max m p.at_) 0
  ps.map (fun p => if p.waitsAt == some (id, mask) then
    { p.advance et 0 with barriers := p.barriers ++ [(id, et)], bar := p.bar + (et - p.at_) } else p)

/-- The head with the earliest next event, the lowest head on equal ETs. -/
def nextPlan (ps : List PlanHead) : Option PlanHead :=
  (ps.filter (fun p => !p.items.isEmpty && p.waitsAt.isNone)).foldl (fun best p =>
    match best with
    | none => some p
    | some q => if p.nextAt < q.nextAt then some p else best) none

/-- One event of a plan: its next stretch placed, or its item ended. -/
def State.planEvent (s : State) (xs : List Placed) (p : PlanHead) : PlanHead :=
  match p.todo, p.items with
  | (e, f, env) :: rest, _ =>
    let r := s.placeStretch xs p.head (p.at_ + p.wait + e) (f - e) env
    { p with todo := rest, wait := p.wait + r.2, placed := p.placed ++ [r.1] }
  | [], i :: _ => p.advance (p.at_ + i.ticks + p.wait) (i.ticks + p.wait)
  | [], [] => p

/-- One step of the placement: a ready barrier is released, or the earliest event happens. -/
def State.planStep (s : State) (others : List Placed) (ps : List PlanHead) : List PlanHead :=
  match (ps.filterMap (fun p => p.waitsAt)).find? (fun b => barrierReady ps b.1 b.2) with
  | some b => releasePlan ps b.1 b.2
  | none =>
    match nextPlan ps with
    | none => ps
    | some p =>
      let q := s.planEvent (others ++ ps.flatMap (fun x => x.placed)) p
      ps.map (fun x => if x.head = p.head then q else x)

/-- The placement carried on for a number of events. -/
def State.planRun (s : State) (others : List Placed) : Nat → List PlanHead → List PlanHead
  | 0, ps => ps
  | n + 1, ps => s.planRun others n (s.planStep others ps)

/-- The events of a placement at most. -/
def planFuel (ps : List PlanHead) : Nat :=
  (ps.map (fun p => p.items.length + (p.items.map (fun i => i.stretches.length)).sum)).sum

/-- Every head of a segment placed. -/
def State.planAll (s : State) (others : List Placed) (ps : List PlanHead) : List PlanHead := s.planRun others (planFuel ps) ps

end Sys2Proof.Machine
end

