-- ==== Sys2Proof/Machine/Slack.lean ====
section
/-!
DEFINITION. Slack: the predicted ends of the heads of a segment and what an evaluation finds (R101 to R106).
-/
namespace Sys2Proof.Machine

/-! ### A head as the prediction follows it -/

/-- Items of a head with their terms, and a barrier's id and heads. -/
structure SlackHead where
  head : HeadNo
  at_ : Tick
  items : List (Nat × Option (Nat × Nat))
  barriers : List (Nat × Tick)
  deriving DecidableEq, Repr

/-- The list of a head from an item on, with the terms of R94. -/
def Segment.termsFrom (g : Segment) (p : SegHead) (n : Nat) : List (Nat × Option (Nat × Nat)) :=
  ((p.terms.zip ((g.listOf p.head).map (fun i => i.body.barrierOf)))).drop n

/-- The barrier at which a head now holds, if it holds at one. -/
def HeadPath.barrierHeld (x : HeadPath) : Option Nat :=
  match x.hold with
  | .barrier id => if x.run.isNone then some id else none
  | _ => none

/-- The planned end of the item in progress: its start plus its terms at the factor it runs at (R101). -/
def State.plannedEnd (s : State) (g : Segment) (p : SegHead) (r : ItemRun) : Tick :=
  let c := s.cfg p.head
  let n := g.placeOf p.head r.item
  match (g.listOf p.head)[n]? with
  | some it =>
    let at16 := c.itemTicks it none (0, 0) 16
    r.start + p.terms.getD n 0 + (c.itemTicks it none (0, 0) r.factor - at16)
  | none => r.start

/-- A running head: it goes on from the end of its item in progress, or from now. -/
def State.slackRunning (s : State) (g : Segment) (p : SegHead) : SlackHead :=
  let x := (s.head p.head).path
  match x.run with
  | some r => ⟨p.head, max s.et (s.plannedEnd g p r), g.termsFrom p p.next, p.barriers⟩
  | none => ⟨p.head, s.et, g.termsFrom p (if x.barrierHeld.isSome then p.next - 1 else p.next), p.barriers⟩

/-! ### Barriers in the prediction -/

/-- A head carried up to its next barrier. -/
def SlackHead.toBarrier : (items : List (Nat × Option (Nat × Nat))) → Tick → List (Nat × Option (Nat × Nat)) × Tick
  | [], t => ([], t)
  | (n, none) :: rest, t => SlackHead.toBarrier rest (t + n)
  | (n, some b) :: rest, t => ((n, some b) :: rest, t)

/-- The same for a head. -/
def SlackHead.ahead (x : SlackHead) : SlackHead :=
  let r := SlackHead.toBarrier x.items x.at_
  { x with items := r.1, at_ := r.2 }

/-- The barrier a head stands before. -/
def SlackHead.waits (x : SlackHead) : Option (Nat × Nat) :=
  match x.items with
  | (_, some b) :: _ => some b
  | _ => none

/-- Every head of a barrier that still goes on stands before it; the others have finished or abandoned their lists. -/
def slackReady (xs : List SlackHead) (b : Nat × Nat) : Bool :=
  xs.all (fun x => !b.2.testBit x.head || x.waits == some b || !x.items.any (fun i => i.2 == some b))

/-- A barrier released in the prediction: at the later of its ET and its slowest participant. -/
def slackRelease (xs : List SlackHead) (b : Nat × Nat) : List SlackHead :=
  let fixed := (xs.filterMap (fun x => if x.waits = some b then storeGet b.1 x.barriers else none)).foldl max 0
  let et := (xs.filter (fun x => x.waits == some b)).foldl (fun m x => max m x.at_) fixed
  xs.map (fun x => if x.waits = some b then { x with at_ := et, items := x.items.drop 1 }.ahead else x)

/-- Barriers released one by one. -/
def slackRun : Nat → List SlackHead → List SlackHead
  | 0, xs => xs
  | n + 1, xs =>
    match (xs.filterMap (fun x => x.waits)).find? (slackReady xs) with
    | some b => slackRun n (slackRelease xs b)
    | none => xs

/-! ### Predicted ends -/

/-- Where a head's predecessors are predicted to end: head, ET, SEGMENT_ID. -/
abbrev Ends := List (HeadNo × Tick × Nat)

/-- The predicted end of the work before on a head. -/
def endBefore (ends : Ends) (h : HeadNo) : Tick := ((storeGet h ends).map (fun x => x.1)).getD 0

/-- The start predicted for a head that has not started (R101). -/
def State.predictedStart (s : State) (ends : Ends) (g : Segment) (h : HeadNo) : Tick :=
  max (max s.et g.startEt) (endBefore ends h)

/-- The predicted end of each head of a segment. -/
def State.predictedEnds (s : State) (ends : Ends) (g : Segment) : List (HeadNo × Tick) :=
  let sim := (g.heads.filter (fun p => p.part == .running || p.part == .waiting)).map (fun p =>
    (if p.part = .running then s.slackRunning g p
     else ⟨p.head, s.predictedStart ends g p.head, g.termsFrom p 0, p.barriers⟩).ahead)
  let done := slackRun ((g.heads.map (fun p => p.barriers.length)).sum) sim
  g.heads.map (fun p => (p.head, match p.part with
    | .running => ((done.find? (fun x => x.head == p.head)).map (fun x => x.at_)).getD s.et
    | .waiting => s.predictedStart ends g p.head + p.worst
    | _ => p.finishEt))

/-- The ends of unfinished segments admitted before one, newest on each head. -/
def State.endsBefore (s : State) (no : Nat) : Ends :=
  (s.job.segments.filter (fun g => g.unfinished && decide (0 < g.admitNo) && decide (g.admitNo < no))).foldl (fun ends g =>
    (s.predictedEnds ends g).foldl (fun acc e => storePut e.1 (e.2, g.id) acc) ends) []

/-- The head that sets the maximum, the lowest on equal values (R106). -/
def latestEnd (es : List (HeadNo × Tick)) : HeadNo × Tick :=
  es.foldl (fun m e => if m.2 < e.2 then e else m) (es.headD (0xFF, 0))

/-- The slack of a segment now (R101). -/
def State.slackOf (s : State) (g : Segment) : Int :=
  (g.promise : Int) - (latestEnd (s.predictedEnds (s.endsBefore g.admitNo) g)).2

/-- The item a break of cause 0x00 names on a head: the one in progress, else the next, else 0xFFFF (R106). -/
def State.itemNamed (s : State) (g : Segment) (h : HeadNo) : Nat :=
  match (s.head h).path.run with
  | some r => if r.seg = g.key then r.item else ((g.rest h).head?.map (fun i => i.index)).getD 0xFFFF
  | none => ((g.rest h).head?.map (fun i => i.index)).getD 0xFFFF

/-- The predecessor whose overrun a head that has not started is charged with, 0xFFFF for none (R106). DESIGN CHOICE (log entry
92): the manual does not say how an overrun is charged; a head that has started is charged with none. -/
def State.charged (s : State) (g : Segment) (h : HeadNo) : Nat :=
  let ends := s.endsBefore g.admitNo
  if (g.part? h).any (fun p => p.part == .waiting) && decide (max s.et g.startEt < endBefore ends h) then
    ((storeGet h ends).map (fun x => x.2 % 65536)).getD 0xFFFF
  else 0xFFFF

/-- The slack of a segment evaluated: kept, and below 0 the promise breaks with cause 0x00 (R102, R104). -/
def State.evaluate (s : State) (key : Nat) : State :=
  match s.seg? key with
  | none => s
  | some g =>
    if g.admitNo = 0 ∨ g.unfinished = false then s
    else
      let e := latestEnd (s.predictedEnds (s.endsBefore g.admitNo) g)
      let t := s.onSeg key (fun x => { x with slack := (x.promise : Int) - e.2 })
      if (g.promise : Int) < e.2 then t.breakPromise key 0 e.1 (s.itemNamed g e.1) (s.charged g e.1) else t

/-- A PROGRESS message (R108). DESIGN CHOICE (log entry 93): R109 does not say whether SLACK applies to kinds 0x01 to 0x04; every
kind carries the slack of its moment. -/
def State.progress (s : State) (g : Segment) (kind head marker tag : Nat) : State :=
  s.publish 0 0x33 true
    (leBytes 4 g.id ++ [byteOf kind, byteOf head] ++ leBytes 2 marker ++ leBytes 4 tag ++ leBytes 8 s.et ++ leBytesInt 8 (s.slackOf g))

end Sys2Proof.Machine
end

