-- ==== Sys2Proof/Machine/Tracking.lean ====
section
/-!
DEFINITION. Set-point words, the tracking error and the measured speed (R123, R142, R145, R149 to R159).
-/
namespace Sys2Proof.Machine

/-! ### Set-points (R149 to R153) -/

/-- F_OFFSET, in µm, and F_th of a head at a fine tick: those of the item executed, in a hold those of the last one, and PARK_F
before any (R144, R145). -/
def HeadPath.focusSet (x : HeadPath) (c : HeadCfg) (t : Nat) : Int × Int :=
  match x.runAt t with
  | some r => (r.fOffset, r.fThermal)
  | none => (if x.parked then c.parkF else x.fOffset, x.fThermal)

/-- F of a head at a fine tick, in 1/25,600 µm: linear through a jump and its settle time, else the focus of the position (R132,
R144). -/
def HeadPath.focusAt (x : HeadPath) (c : HeadCfg) (t : Nat) : Int :=
  let f := x.focusSet c t
  let here := c.focus f.1 f.2 (x.posAt t)
  match x.pieceOf t with
  | some p =>
    if p.phase = 1 ∨ p.phase = 2 then
      (if p.dur = 0 then p.f1 else p.f0 + roundDiv ((p.f1 - p.f0) * (min (t - p.start) p.dur : Nat)) p.dur)
    else here
  | none => here

/-- A field position after correction, q′ of R142, in fine units. -/
def HeadCfg.corrected (c : HeadCfg) (p : Pos) : Pos :=
  let q := rotateBack c.angle (subPos p (finePos c.centre.1 c.centre.2))
  (q.1 + 256 * gridDelta c.grid c.pitch 0 q, q.2 + 256 * gridDelta c.grid c.pitch 1 q)

/-- The clamp of R151. -/
def clampWord (v : Int) : Int := clampInt (-2147483647) 2147483647 v

/-- The three words of a position and a focus before the clamp (R150). -/
def HeadCfg.words (c : HeadCfg) (p : Pos) (f : Int) : Int × Int × Int :=
  let q := c.corrected p
  (roundDiv (q.1 * 2 ^ 31) (c.halfXY * 65536), roundDiv (q.2 * 2 ^ 31) (c.halfXY * 65536), roundDiv (f * 2 ^ 31) (c.halfF * 25600))

/-- How many of three words the clamp changes. -/
def clampCount (w : Int × Int × Int) : Nat :=
  flag (clampWord w.1 != w.1) + flag (clampWord w.2.1 != w.2.1) + flag (clampWord w.2.2 != w.2.2)

/-- The 16 bytes of a set-point group (R149). -/
def SetPoint.bytes (g : SetPoint) (frames : Nat) : List Byte :=
  leBytesInt 4 g.x ++ leBytesInt 4 g.y ++ leBytesInt 4 g.f ++ leBytes 4 (g.k % 65536 * 65536 + g.phase * 8192 + frames)

/-- A group of a head for servo period k, from the head's path (R123, R150). -/
def HeadPath.group (x : HeadPath) (c : HeadCfg) (k ts : Nat) : SetPoint :=
  let t := (k + 1) * ts * 65536
  let w := c.words (x.posAt t) (x.focusAt c t)
  ⟨k, clampWord w.1, clampWord w.2.1, clampWord w.2.2, x.phaseAt t⟩

/-- A group kept with those before it. -/
def HeadPath.withGroup (x : HeadPath) (g : SetPoint) : HeadPath :=
  { x with setPoints := (g :: x.setPoints).take 1100 }

/-! ### The optics temperature in use (R145) -/

/-- F_th for an item that starts at an ET: from the newest valid temperature whose frame began 100 µs earlier; the last one while
the sensor is invalid (R145, R146). -/
def State.thermalFocus (s : State) (h : HeadNo) (et : Tick) : Int :=
  let x := (s.head h).path
  let last := (x.focusSet (s.cfg h) (et * 65536)).2
  if (s.head h).link.opticsValid = false then last
  else match x.temps.find? (fun t => decide (t.1 + 62500 ≤ et)) with
  | some t => roundDiv (s.reg (0x4100 + h) 14 * (t.2 - s.reg (0x4100 + h) 15)) 100
  | none => last

/-! ### Interpolated set-points (R155) -/

/-- The set-point of a group index, if it was sent. -/
def groupAt (gs : List SetPoint) (k : Nat) : Option SetPoint := gs.find? (fun g => g.k == k)

/-- s(t) on X and Y, times T_s. -/
def setPointAt (gs : List SetPoint) (ts : Nat) (t : Tick) : Option (Int × Int) :=
  if t < ts then none
  else
    let k := t / ts - 1
    let r : Int := (t % ts : Nat)
    match groupAt gs k, groupAt gs (k + 1) with
    | some a, some b => some (a.x * ts + (b.x - a.x) * r, a.y * ts + (b.y - a.y) * r)
    | some a, none => if r = 0 then some (a.x * ts, a.y * ts) else none
    | _, _ => none

/-- The tracking error of a sample in set-point units, times T_s (R155). -/
def HeadPath.errorOf (x : HeadPath) (ts lag : Nat) (a : ActualSample) : Option (Int × Int) :=
  if a.ok = false ∨ a.et < lag then none
  else (setPointAt x.setPoints ts (a.et - lag)).map (fun p => (a.x * ts - p.1, a.y * ts - p.2))

/-- A set-point length times T_s as a length in fine units. -/
def fineOf (half ts : Nat) (v : Int) : Int := roundDiv (v * half * 65536) (2 ^ 31 * ts)

/-- The tracking error in fine units; zero when the sample is missing (R228). -/
def HeadPath.errorFine (x : HeadPath) (c : HeadCfg) (ts : Nat) : Pos :=
  match x.actuals.head?.bind (x.errorOf ts c.lag) with
  | some e => (fineOf c.halfXY ts e.1, fineOf c.halfXY ts e.2)
  | none => (0, 0)

/-- The marked stretch that a tick of the commanded path lies in. -/
def HeadPath.spanAt (x : HeadPath) (t : Tick) : Option MarkedSpan :=
  x.marked.find? (fun m => decide (m.first ≤ t) && decide (t ≤ m.last))

/-- A displacement in set-point units times n over w ticks, as a speed in µm/s: HALF_RANGE is in quarter µm. -/
def speedOf (half n w : Nat) (d : Int × Int) : Nat :=
  roundDivNat (isqrt ((d.1 * d.1 + d.2 * d.2) * (half * half : Nat) * 2 ^ 32).toNat * 625000000) (4 * n * w * 2 ^ 31 * 65536)

/-- An overspeed check at a sample (R157, R158): skipped, passed, or failed, with v_meas and v_cmd. -/
inductive SpeedCheck where
  | none
  | missing
  | made (fails : Bool) (meas cmd : Nat) (span : MarkedSpan)
  deriving DecidableEq, Repr

/-- The check of the newest sample. -/
def HeadPath.speedCheck (x : HeadPath) (c : HeadCfg) (ts window : Nat) : SpeedCheck :=
  match x.actuals with
  | [] => .none
  | a :: _ =>
    let w := window * ts
    if a.et < c.lag + w then .none
    else
      let t1 := a.et - c.lag
      let t0 := t1 - w
      match x.spanAt t1 with
      | none => .none
      | some m =>
        if t0 < m.first then .none
        else match x.actuals.find? (fun b => decide (b.et + w = a.et)) with
          | none => .missing
          | some b =>
            let inside := x.actuals.filter (fun y => decide (b.et ≤ y.et) && decide (y.et ≤ a.et))
            if inside.any (fun y => !y.ok) ∨ inside.length < window + 1 then .missing
            else match setPointAt x.setPoints ts t1, setPointAt x.setPoints ts t0 with
              | some p, some q =>
                let da := (a.x - b.x, a.y - b.y)
                let ds := (p.1 - q.1, p.2 - q.2)
                let meas := (da.1 * da.1 + da.2 * da.2) * (ts * ts : Nat) * 1000000
                let cmd := (ds.1 * ds.1 + ds.2 * ds.2) * ((1000 + m.tolerance) * (1000 + m.tolerance) : Nat)
                .made (decide (cmd < meas)) (speedOf c.halfXY 1 w da) (speedOf c.halfXY ts w ds) m
              | _, _ => .none

end Sys2Proof.Machine
end

