-- ==== Sys2Proof/Machine/Guard.lean ====
section
/-!
DEFINITION. The proximity guard and the recoater keep-out band: entry checks, waits and running checks (R219 to R234,
R460, R461).
-/
namespace Sys2Proof.Machine

/-! ### The recoater keep-out band (R231, R516) -/

/-- The microsteps of an axis at an ET, along its commanded profile (R232). -/
def Axis.positionAt (x : Axis) (t : Tick) : Int :=
  match x.ramp with
  | none => x.position
  | some r => x.position - r.dir * r.done + r.dir * (min r.total (((r.at_ ((t - r.start) * 2 ^ 50 / 25)).p / motionStep).toNat) : Nat)

/-- A position in microsteps as an encoder count (R503, R516). -/
def State.countOf (s : State) (m : Nat) (position : Int) : Int := roundDiv (position * s.reg (0x9000 + m) 20) 65536

/-- The count of the recoater axis as measured: its encoder, or its position converted (R516); a controller of a pair that
does not run the motion block takes the count its partner sends (R466). -/
def State.recoaterCount (s : State) (m : Nat) : Int :=
  if s.runsMotion = false then s.twin.motionCount
  else match s.motion.encoders[s.axisCfg m 19]? with
  | some e => e.count
  | none => s.countOf m (s.axis m).position

/-- The count of the recoater axis at an ET to come: its commanded profile, or where it is (R232). -/
def State.plannedCount (s : State) (m : Nat) (t : Tick) : Int :=
  if (s.axis m).ramp.isNone then s.recoaterCount m else s.countOf m ((s.axis m).positionAt t)

/-- The band at a count, in fine units along its direction (R231). -/
def State.bandAt (s : State) (count : Int) : Int × Int :=
  let c := s.reg 0x5002 3 * 65536 + count * s.reg 0x5002 4
  (c + s.reg 0x5002 5 * 65536, c + s.reg 0x5002 6 * 65536)

/-- The coordinate of a position along the carriage's direction. -/
def State.bandCoord (s : State) (p : Pos) : Int := if s.reg 0x5002 2 = 0 then p.1 else p.2

/-- A fine position lies in the band at a count. -/
def State.inBand (s : State) (count : Int) (p : Pos) : Bool :=
  decide ((s.bandAt count).1 ≤ s.bandCoord p) && decide (s.bandCoord p ≤ (s.bandAt count).2)

/-- A swept line meets a band that stands still. -/
def State.lineInBand (s : State) (count : Int) (l : Line) : Bool :=
  let a := s.bandCoord l.1 * 65536
  let b := s.bandCoord l.2 * 65536
  decide ((s.bandAt count).1 ≤ max a b) && decide (min a b ≤ (s.bandAt count).2)

/-- A marking spot of stretch k lies in the band at its planned ET (R232). -/
def State.keepoutMeets (s : State) (c : HeadCfg) (r : ItemRun) (k : Nat) (st : Stretch) : Bool :=
  if 7 < s.reg 0x5002 1 then false
  else
    let m := s.regN 0x5002 1
    if (s.axis m).ramp.isNone then st.envelope.any (s.lineInBand (s.recoaterCount m))
    else (r.pieces.filter (fun p => decide (p.stretch = k ∧ p.phase = 4))).any (fun p =>
      (bitList 8 st.mask).any (fun b => (List.range (p.dur / 65536 + 1)).any (fun n =>
        let t := p.start / 65536 + n
        s.inBand (s.plannedCount m ((t : Int) + st.delays.getD b 0).toNat)
          (addPos (p.posAt (t * 65536)) (c.spotShift (subPos p.p1 p.p0) b)))))

/-! ### Entry checks (R222 to R226) -/

/-- A stretch of an item that has not passed its entry check, with its number. -/
def ItemRun.unpassed (r : ItemRun) : Option (Nat × Stretch) :=
  (((List.range r.stretches.length).zip r.stretches).find? (fun x => !x.2.passed))

/-- The stretch of a head whose entry check comes next, of the item in progress or one planned ahead. -/
def HeadPath.unpassed (x : HeadPath) : Option (ItemRun × Nat × Stretch) := x.coming.findSome? (fun r => r.unpassed.map (fun y => (r, y)))

/-- The servo period boundary of a stretch's entry check (R222). -/
def Stretch.boundary (x : Stretch) (ts : Nat) : Tick := x.entry / 65536 / ts * ts

/-- The admission number of a segment. -/
def State.admitNo (s : State) (key : Nat) : Nat := ((s.seg? key).map (fun g => g.admitNo)).getD 0

/-- The SEGMENT_ID of a key. -/
def State.idOf (s : State) (key : Nat) : Nat := ((s.seg? key).map (fun g => g.id)).getD 0

/-- The order of R224. -/
def checkBefore (a b : Tick × Nat × HeadNo) : Bool :=
  decide (a.1 < b.1) || (a.1 == b.1 && (decide (a.2.1 < b.2.1) || (a.2.1 == b.2.1 && decide (a.2.2 < b.2.2))))

/-- A stretch of another head bars a check: passed and its lead-out not ended at the boundary, or ordered before and not passed
(R223). -/
def Stretch.barsCheck (x : Stretch) (other mine : Nat × HeadNo) (first b : Tick) : Bool :=
  if x.passed then decide (b * 65536 < x.finish)
  else match x.firstCheck with
    | some f => checkBefore (f, other) (first, mine)
    | none => false

/-- Whether the guard fails a stretch at a boundary (R223, R226). -/
def State.guardFails (s : State) (h : HeadNo) (r : ItemRun) (st : Stretch) (b : Tick) : Bool :=
  s.reg 0x5001 1 != 0 && (List.range 32).any (fun k =>
    k != h && (s.head k).path.runs.any (fun q => q.stretches.any (fun x =>
      x.barsCheck (s.admitNo q.seg, k) (s.admitNo r.seg, h) (st.firstCheck.getD b) b
        && s.conflict 0 st.envelope x.envelope != .none)))

/-- A stretch of an item changed. -/
def ItemRun.onStretch (r : ItemRun) (k : Nat) (f : Stretch → Stretch) : ItemRun := { r with stretches := r.stretches.modify k f }

/-- An item of a head in time changed. -/
def State.onItem (s : State) (h : HeadNo) (r : ItemRun) (f : ItemRun → ItemRun) : State :=
  s.onPath h (fun x => x.onItem r.seg r.item f)

/-- An item of a segment by its index. -/
def State.itemBy (s : State) (key item : Nat) : Option Item := (s.seg? key).bind (fun g => g.items.find? (fun i => i.index == item))

/-- What the channels of a head learn of a stretch that is sure to run (R296, R299, R307, R310). -/
def channelStretch (r : ItemRun) (it : Item) (k b : Nat) (st : Stretch) : ChannelStretch :=
  { seg := r.seg, item := r.item, stretch := k, start := (st.mark + 32768) / 65536, length := (st.markEnd - st.mark + 32768) / 65536
    delay := st.delays.getD b 0, nominal := deratedPower (it.par.powerOf b) r.factor, set := it.pset, version := it.version
    law := it.par.lawId, soft := it.par.softStart && k == 0 }

/-- A stretch handed to the channels of its mask. -/
def Head.withStretch (x : Head) (r : ItemRun) (it : Item) (k : Nat) (st : Stretch) : Head :=
  { x with channels := (x.channels.zip (List.range 8)).map (fun (c, b) =>
      if st.mask.testBit b then { c with stretches := c.stretches ++ [channelStretch r it k b st] } else c) }

/-- An entry passed. -/
def State.passEntry (s : State) (h : HeadNo) (r : ItemRun) (k : Nat) (st : Stretch) (b : Tick) : State :=
  let t := s.onItem h r (fun q => q.onStretch k (fun x => { x with passed := true, firstCheck := some (x.firstCheck.getD b) }))
  match s.itemBy r.seg r.item with
  | some it => t.onHead h (fun x => x.withStretch r it k st)
  | none => t

/-- The counts of a failed check (R232, R238): a keep-out failure once per stretch, a guard wait once per stretch. -/
def State.countWait (s : State) (st : Stretch) (keepout : Bool) (ts : Nat) : State :=
  if keepout then
    (if st.keepoutCounted then s else s.bump 0x5003 7).bumpBy 0x5003 8 ts
  else (if st.waited then s else s.bump 0x5003 4).bumpBy 0x5003 5 ts

/-- An entry failed: the stretch waits one servo period more (R222). -/
def State.failEntry (s : State) (h : HeadNo) (r : ItemRun) (k : Nat) (st : Stretch) (b : Tick) (keepout : Bool) : State :=
  ((s.countWait st keepout s.servoTicks).onItem h r (fun q => q.onStretch k (fun x =>
    { x with firstCheck := some (x.firstCheck.getD b), waited := x.waited || !keepout, keepoutCounted := x.keepoutCounted || keepout }))).onPath h
      (fun x => x.wait r.seg r.item k s.servoTicks)

/-- The verdict of an entry check at a boundary: guard, keep-out. -/
def State.entryVerdict (s : State) (h : HeadNo) (r : ItemRun) (k : Nat) (st : Stretch) (b : Tick) : Bool × Bool :=
  (s.guardFails h r st b, s.keepoutMeets (s.cfg h) r k st)

/-- A check with its verdict, applied. -/
def State.applyEntry (s : State) (h : HeadNo) (r : ItemRun) (k : Nat) (st : Stretch) (b : Tick) (v : Bool × Bool) : State :=
  if v.1 || v.2 then s.failEntry h r k st b v.2 else s.passEntry h r k st b

/-- An order for an entry check at a boundary. -/
def TwinOrder.forEntry (o : TwinOrder) (seg h item b : Nat) : Option (Nat × Nat) :=
  match o with
  | .plan g k kind i at_ value => if g = seg ∧ k = h ∧ i = item ∧ at_ = b ∧ (kind = 3 ∨ kind = 4) then some (kind, value) else none
  | .state _ _ _ => none

/-- The first order of the PRIMARY for an entry at a boundary (R460): its KIND, 3 a wait and 4 passed, and in the PRIMARY itself 1
for a wait under the keep-out rules. -/
def Twin.entryOrder (t : Twin) (seg h item b : Nat) : Option (Nat × Nat) := t.orders.findSome? (fun o => o.forEntry seg h item b)

/-- The orders without the first for an entry at a boundary. -/
def dropEntry (seg h item b : Nat) : List TwinOrder → List TwinOrder
  | [] => []
  | o :: rest => if (o.forEntry seg h item b).isSome then rest else o :: dropEntry seg h item b rest

/-- An entry order carried out. -/
def State.obeyEntry (s : State) (h : HeadNo) (r : ItemRun) (k : Nat) (st : Stretch) (b : Tick) (o : Nat × Nat) : State :=
  let t := { s with twin := { s.twin with orders := dropEntry (s.idOf r.seg) h r.item b s.twin.orders } }
  t.applyEntry h r k st b (o.1 == 3 && o.2 == 0, o.1 == 3 && o.2 == 1)

/-- The next check of a head made at its boundary. The PRIMARY and a SHADOW follow the orders there are; a SHADOW waits for one that it
has not; any other check is decided now (R234, R460). -/
def State.checkEntry (s : State) (h : HeadNo) : State :=
  match (s.head h).path.unpassed with
  | none => s
  | some (r, k, st) =>
    let b := st.boundary s.servoTicks
    match s.twin.entryOrder (s.idOf r.seg) h r.item b with
    | some o => s.obeyEntry h r k st b o
    | none =>
      if s.twin.role = .shadow then s
      else
        let v := s.entryVerdict h r k st b
        (s.applyEntry h r k st b v).twinLead 0x04 [s.idOf r.seg, h, if v.1 || v.2 then 3 else 4, r.item, b, 0]

/-- The check of a head that is due at a boundary or before and can be made, with its place in the order of R224. -/
def State.dueCheck (s : State) (b : Tick) (h : HeadNo) : Option (Tick × Tick × Nat × HeadNo) :=
  match (s.head h).path.unpassed with
  | none => none
  | some (r, _, st) =>
    let at_ := st.boundary s.servoTicks
    if at_ ≤ b ∧ (s.twin.role ≠ .shadow ∨ (s.twin.entryOrder (s.idOf r.seg) h r.item at_).isSome) then
      some (at_, st.firstCheck.getD at_, s.admitNo r.seg, h)
    else none

/-- The head whose check is made next of those due at a boundary or before: boundary by boundary, in the order of R224. -/
def State.nextCheck (s : State) (b : Tick) : Option HeadNo :=
  (((List.range 32).filterMap (s.dueCheck b)).foldl (fun best x =>
    match best with
    | none => some x
    | some y => if x.1 < y.1 ∨ x.1 = y.1 ∧ checkBefore x.2 y.2 then some x else best) none).map (fun x => x.2.2.2)

/-- The number of checks that can be due at once: every stretch, and failures that are repeated. -/
def State.checkFuel (s : State) : Nat := (s.heads.map (fun x => (x.path.coming.map (fun r => r.stretches.length)).sum)).sum + 64

/-- Checks due at a boundary or before, one after the other: each sees the outcome of those before it (R224). -/
def State.checksRun (s : State) (b : Tick) : Nat → State
  | 0 => s
  | n + 1 => match s.nextCheck b with
    | some h => (s.checkEntry h).checksRun b n
    | none => s

/-- Every check due at a boundary. -/
def State.entryChecks (s : State) (b : Tick) : State := s.checksRun b s.checkFuel

/-! ### Checks decided ahead by a PRIMARY (R460) -/

/-- An order kept for its moment and sent. -/
def State.order (s : State) (seg h kind item : Nat) (at_ : Tick) (value sent : Nat) : State :=
  ({ s with twin := { s.twin with orders := s.twin.orders ++ [TwinOrder.plan seg h kind item at_ value] } }).twinLead 0x04
    [seg, h, kind, item, at_, sent]

/-- Checks for boundaries up to an ET decided ahead: each against the plan as it will stand there, with the checks before it
applied; the decisions are kept as orders and sent. -/
def State.decideRun (plan : State) (b : Tick) : Nat → State → State
  | 0, s => s
  | n + 1, s =>
    match plan.nextCheck b with
    | none => s
    | some h =>
      match (plan.head h).path.unpassed with
      | none => s
      | some (r, k, st) =>
        let at_ := st.boundary plan.servoTicks
        match plan.twin.entryOrder (plan.idOf r.seg) h r.item at_ with
        | some o => State.decideRun (plan.obeyEntry h r k st at_ o) b n s
        | none =>
          let v := plan.entryVerdict h r k st at_
          State.decideRun (plan.applyEntry h r k st at_ v) b n
            (if at_ < s.et then s else s.order (s.idOf r.seg) h (if v.1 || v.2 then 3 else 4) r.item at_ (flag v.2) 0)

/-- The entry checks of the next 2,500 ticks decided (R460). -/
def State.decideEntries (s : State) : State :=
  if s.twin.role = .primary then State.decideRun s (s.et + 2500) s.checkFuel s else s

/-! ### Running checks (R228 to R230, R233) -/

/-- What a beamlet emits at an ET, by the frames assembled. -/
def HeadPath.emitsAt (x : HeadPath) (et : Tick) (b : Nat) : BeamNow :=
  (((x.past.getD b []).filter (fun e => decide (e.et ≤ et))).getLast?.map Edge.begins).getD BeamNow.dark

/-- The emission at marking power of a head at an ET, beamlet by beamlet, pre-heat excluded (R228). -/
def HeadPath.marking (x : HeadPath) (et : Tick) : List (Nat × BeamNow) :=
  ((List.range 8).map (fun b => (b, x.emitsAt et b))).filter (fun n => decide (0 < n.2.power) && !n.2.preheat)

/-- The tick of the newest actual-position sample less the lag, or of now. -/
def HeadPath.sampledAt (x : HeadPath) (lag : Nat) (et : Tick) : Nat := (((x.actuals.head?).map (fun a => a.et)).getD et) - lag

/-- The direction of the piece in force at a fine tick. -/
def HeadPath.directionAt (x : HeadPath) (t : Nat) : Pos := ((x.pieceOf t).map (fun p => subPos p.p1 p.p0)).getD (1, 0)

/-- The estimated spots of a head that emits (R228), as points in 0.25 µm units. -/
def State.spots (s : State) (h : HeadNo) : List Line :=
  let x := (s.head h).path
  let c := s.cfg h
  let t := x.sampledAt c.lag s.et * 65536
  let p := addPos (x.posAt t) (rotate c.angle (x.errorFine c s.servoTicks))
  (x.marking s.et).map (fun n =>
    let q := unitPos (addPos p (c.spotShift (x.directionAt t) n.1))
    (q, q))

/-- The work whose emission a head carries at an ET. -/
def HeadPath.carries (x : HeadPath) (et : Tick) : Option BeamNow := (x.marking et).head?.map (fun n => n.2)

/-- A stretch of a head by the emission of it. -/
def HeadPath.stretchOf (x : HeadPath) (n : BeamNow) : Option Stretch :=
  (x.runs.find? (fun r => r.seg == n.seg && r.item == n.item)).bind (fun r => r.stretches[n.stretch]?)

/-- The place of a head's stretch in the order of R224. -/
def State.stretchOrder (s : State) (h : HeadNo) : Tick × Nat × HeadNo :=
  let x := (s.head h).path
  match x.carries s.et with
  | some n => (((x.stretchOf n).bind (fun st => st.firstCheck)).getD 0, s.admitNo n.seg, h)
  | none => (0, 0, h)

/-- A CUT onset of a pair: kept for the segment's DIGEST, and sent by a PRIMARY (R456, R476). -/
def State.sendCut (s : State) (key h cause mask : Nat) (onset : Tick) : State :=
  if s.paired then
    (s.onSeg key (fun g => { g with cuts := g.cuts ++ leBytes 8 onset ++ [byteOf h, byteOf cause, byteOf mask] })).twinLead 0x05
      [s.idOf key, h, cause, mask, onset]
  else s

/-- A cut of the stretch whose emission a head carries: counted with its leaf in every case, and the events not yet in frames
suppressed; only a SHADOW's has no effect (R229, R230, R233, R461). -/
def State.guardCut (s : State) (h : HeadNo) (cause detail counter bit : Nat) : State :=
  let x := (s.head h).path
  let t := (s.bump 0x5003 counter).setLeaf 0x2104 bit
  match x.carries s.et with
  | none => t
  | some n =>
    if s.twin.role = .shadow ∨ x.scopeEnergy (n.seg, n.item) (some n.stretch) = 0 then t
    else (t.suppressWork h (n.seg, n.item) (some n.stretch) cause detail).sendCut n.seg h cause
      (((x.stretchOf n).map (fun st => st.mask % 256)).getD 0) s.et

/-- A head already cut in the stretch whose emission it carries. -/
def HeadPath.isCut (x : HeadPath) (et : Tick) : Bool :=
  match x.carries et with
  | some n => x.suppressed.any (fun u => u.seg == n.seg && u.item == n.item && (u.stretch == some n.stretch || u.stretch == none))
  | none => false

/-- Two heads compared: the one whose entry passed later is cut (R228). -/
def State.runningPair (s : State) (a b : HeadNo) : State :=
  if a = b ∨ (s.head a).path.isCut s.et ∨ (s.head b).path.isCut s.et then s
  else
    let later := if checkBefore (s.stretchOrder a) (s.stretchOrder b) then b else a
    let other := if later = b then a else b
    match s.conflict (s.reg 0x5001 3) (s.spots a) (s.spots b) with
    | .none => s
    | .distance => s.guardCut later 0x01 other 6 0
    | .cone => s.guardCut later 0x01 (256 + other) 6 0

/-- The running check of the guard at the end of a servo period (R226, R228). -/
def State.runningChecks (s : State) : State :=
  if s.reg 0x5001 1 = 0 then s
  else
    let hs := (List.range 32).filter (fun h => !((s.head h).path.marking s.et).isEmpty)
    (hs.flatMap (fun a => (hs.filter (fun b => decide (a < b))).map (fun b => (a, b)))).foldl (fun t p => t.runningPair p.1 p.2) s

/-- The running check of the keep-out band (R233). -/
def State.keepoutChecks (s : State) : State :=
  if 7 < s.reg 0x5002 1 then s
  else
    let m := s.regN 0x5002 1
    (List.range 32).foldl (fun t h =>
      if !(t.head h).path.isCut t.et && (t.spots h).any (fun l => t.inBand (t.recoaterCount m) (finePos l.1.1 l.1.2))
      then t.guardCut h 0x02 0 9 1 else t) s

end Sys2Proof.Machine
end

