-- ==== Sys2Proof/Machine/Stitch.lean ====
section
/-!
DEFINITION. The stitching objects: their value rules, the writes that segments hold back, and the check of the cell
table (R143, R161, R203 to R208, R216, R217, R235 to R240).
-/
namespace Sys2Proof.Machine

/-! ### The table check (R216, R217) -/

/-- A fine position within the grid of a head (R126). -/
def HeadCfg.inGrid (c : HeadCfg) (p : Pos) : Bool :=
  let q := rotateBack c.angle (subPos p (finePos c.centre.1 c.centre.2))
  let lim : Int := 16 * c.pitch * 65536
  decide (-lim ≤ q.1) && decide (q.1 ≤ lim) && decide (-lim ≤ q.2) && decide (q.2 ≤ lim)

/-- A rectangle in 0.25 µm units: lower X, upper X, lower Y, upper Y. -/
structure Region where
  x0 : Int
  x1 : Int
  y0 : Int
  y1 : Int
  deriving DecidableEq, Repr

/-- Cell number 128j + i of the table (R203). -/
def cellRegion (pitch cell : Nat) : Region :=
  let x : Int := ((cell % 128 : Nat) : Int) - 64
  let y : Int := ((cell / 128 : Nat) : Int) - 64
  ⟨x * pitch, (x + 1) * pitch, y * pitch, (y + 1) * pitch⟩

/-- The part of a cell that belongs to a head across a boundary's band: below the far edge, or at or above it (R217). -/
def Region.across (r : Region) (b : Boundary) (below : Bool) : Region :=
  let lim := if below then b.position + b.half else b.position - b.half
  match decide (b.axis = 0), below with
  | true, true => { r with x1 := min r.x1 lim }
  | true, false => { r with x0 := max r.x0 lim }
  | false, true => { r with y1 := min r.y1 lim }
  | false, false => { r with y0 := max r.y0 lim }

/-- A head reaches a region: every corner lies within its grid; a region without points is reached. -/
def HeadCfg.reaches (c : HeadCfg) (r : Region) : Bool :=
  decide (r.x1 ≤ r.x0) || decide (r.y1 ≤ r.y0)
    || [(r.x0, r.y0), (r.x1, r.y0), (r.x0, r.y1), (r.x1, r.y1)].all (fun p => c.inGrid (finePos p.1 p.2))

/-- The reason for which an entry is invalid, 0 where it is valid (R216). -/
def cellReason (pitch : Nat) (bounds : List Boundary) (cfg : HeadNo → HeadCfg) (cell e : Nat) : Nat :=
  let r := cellRegion pitch cell
  match cellMode e with
  | 0 => 0
  | 1 => if (cfg (cellPrimary e)).reaches r then 0 else 5
  | _ =>
    let b := bounds.getD (cellBoundary e) ⟨0, 0, 0, 0, 0⟩
    let below := decide (cellSide e = 0)
    if cellSecondary e = cellPrimary e then 2
    else if b.half = 0 then 3
    else if b.half < b.jitter + (b.blend + 1) / 2 then 4
    else if (cfg (cellPrimary e)).reaches (r.across b below) = false then 5
    else if (cfg (cellSecondary e)).reaches (r.across b (!below)) = false then 6
    else 0

/-- The first failing cell and its reason; cell 0xFFFF for a pitch too small for the plate. -/
def State.tableFault (s : State) : Option (Nat × Nat) :=
  let st := s.stitch
  if 64 * st.pitch < s.regN 0x3000 4 ∨ 64 * st.pitch < s.regN 0x3000 5 then some (0xFFFF, 1)
  else
    ((wordsOf st.table).zip (List.range 16384)).findSome? (fun (e, cell) =>
      let r := cellReason st.pitch st.bounds s.cfg cell e
      if r = 0 then none else some (cell, r))

/-- The check carried out: 0x5003:01 to :03, and the leaf when the table becomes invalid (R216). -/
def State.checkTable (s : State) : State :=
  match s.tableFault with
  | none => ((s.setReg 0x5003 1 1).setReg 0x5003 2 0xFFFF).setReg 0x5003 3 0
  | some (cell, r) =>
    let t := ((s.setReg 0x5003 1 0).setReg 0x5003 2 cell).setReg 0x5003 3 r
    if s.reg 0x5003 1 = 0 then t else t.setLeaf 0x2104 2

/-! ### Writes -/

/-- The objects of this family. -/
def stitchObject (index sub : Nat) : Bool :=
  index == 0x5000 || index == 0x5001 || index == 0x5002 || index == 0x5010 || (decide (0x5040 ≤ index) && decide (index < 0x5080))
    || (index == 0x3000 && (sub == 4 || sub == 5)) || (decide (0x4100 ≤ index) && decide (index < 0x4120))

/-- Writes that start the check of the table (R216). -/
def checksTable (index sub : Nat) : Bool :=
  stitchObject index sub && index != 0x5001 && index != 0x5002 && !(decide (0x5040 ≤ index) && sub == 6)

/-- A segment is in ADMITTED, STAGED or RUNNING. -/
def State.anyCommitted (s : State) : Bool :=
  s.job.segments.any (fun g => g.state == .admitted || g.state == .staged || g.state == .running)

/-- A write held back by admitted segments (R143, R207). -/
def State.stitchHeld (s : State) (index sub : Nat) : Bool :=
  if 0x4100 ≤ index ∧ index < 0x4120 then s.headCommitted (index - 0x4100)
  else if index = 0x3000 ∨ (0x5040 ≤ index ∧ sub = 6) then false
  else s.anyCommitted

/-- A value that the rules of its object admit beside its range (R7, R161, R206, R236, R237, R240). -/
def State.stitchValue (s : State) (index sub : Nat) (data : List Byte) : Bool :=
  let v := numberOf index sub data
  if 0x4100 ≤ index ∧ index < 0x4120 then
    (if sub = 4 then decide (16 * s.reg index 6 ≤ v) else if sub = 6 then decide (16 * v ≤ s.reg index 4) else true)
  else if index = 0x5001 then
    (if sub = 2 then decide (s.reg index 3 < v) else if sub = 3 then decide (v < s.reg index 2) else true)
  else if index = 0x5002 then
    (if sub = 1 then decide (v ≤ 7) || decide (v = 0xFF)
     else if sub = 5 then decide (v ≤ s.reg index 6) else if sub = 6 then decide (s.reg index 5 ≤ v) else true)
  else if index = 0x5010 then emptyOr 65536 data && (wordsOf data).all (fun w => w % 8192 == 0)
  else if 0x5040 ≤ index ∧ index < 0x5080 ∧ sub = 5 then decide (v = 0) || (decide (64 ≤ v) && decide (v ≤ 2000))
  else true

/-- The refusal of a write to one of these objects. -/
def State.stitchRefusal (s : State) (p : Path) (index sub : Nat) (data : List Byte) : Option Abort :=
  orElse (s.writeGate p index sub) (orElse (refuseIf (!stitchObject index sub) .noSub) (orElse (numberTest index sub data)
    (orElse (refuseIf (!s.stitchValue index sub data) .range) (refuseIf (s.stitchHeld index sub) .conditions))))

/-- The effect of the write: stored, the effective grid formed afresh for a head's scan values (R143), the table checked,
and a PRIMARY sends it on. -/
def State.writeStitch (s : State) (index sub : Nat) (data : List Byte) : State :=
  let t := if index = 0x5010 then s.setBlob index sub data else s.setReg index sub (numberOf index sub data)
  let u := if 0x4100 ≤ index ∧ index < 0x4120 then t.formEffective (0x4180 + (index - 0x4100)) else t
  (if checksTable index sub then u.checkTable else u).mirror index sub data

/-- STITCH_TABLE_WRITE (R207, R216). -/
def execStitchTableWrite (path : Path) (index sub : Nat) (data : List Byte) (s : State) :
    Host.Outcome State Fault Refusal :=
  .next (s.inTurnOf path (.stitchTableWrite path index sub data)
    (s.access path (s.stitchRefusal path index sub data) (s.writeStitch index sub data) []))

end Sys2Proof.Machine
end

