-- ==== Sys2Proof/Machine/Validate.lean ====
section
/-!
DEFINITION. Validation of a submitted segment: the segment checks, the item checks and the barrier checks, with the code,
the item index and the word of the first failure (R37 to R75, R70 to R72, R193 to R196, R712, R713).
-/
namespace Sys2Proof.Machine

/-- A failed check: its code, its item index (0xFFFF for a segment check) and its word offset. -/
structure Failure where
  code : Nat
  item : Nat
  word : Nat
  deriving DecidableEq, Repr

/-- The code of the first failing check of a list in order. -/
def firstFailing (checks : List (Nat × Bool)) : Option Nat := (checks.find? (fun c => c.2)).map (·.1)

/-! ### The segment checks (R71, R712) -/

/-- The header of the first of n items that has LEN 0 or runs past the end of the item area. -/
def walkFault (endAt : Nat) : (n offset : Nat) → List Nat → Option Nat
  | 0, _, _ => none
  | n + 1, offset, ws =>
    let len := bits (ws.headD 0) 23 16
    if len = 0 ∨ endAt < offset + len then some offset else walkFault endAt n (offset + len) (ws.drop len)

/-- The word named for code 0x0105. DESIGN CHOICE (log entry 96): the manual does not say which word is named when the
directory or the walk runs past the words received; missing words read as 0 and the trailer as a directory or item word, so
that a word outside the segment can be named. -/
def directoryWord (words : List Nat) : Nat :=
  let dirs := segDirectory words
  match dirs.findIdx? (fun d => d.2 == 0) with
  | some i => 8 + i
  | none =>
    let n := dirs.foldl (fun a d => a + d.2) 0
    if n ≠ segItemCount words then 5
    else match walkFault (itemsEnd words) n (itemsBegin words) (words.drop (itemsBegin words)) with
      | some w => w
      | none => if segBitmap words ≠ 0 then 7 else segWords words - 1

/-- The first word of the header and directory whose reserved field is not zero (R38, R40). -/
def reservedWord (words : List Nat) : Option Nat :=
  if bits (wordAt words 7) 31 24 ≠ 0 then some 7
  else ((List.range (headsOf (segMask words)).length).find? (fun i => bits (wordAt words (8 + i)) 15 0 ≠ 0)).map (fun i => 8 + i)

/-- The segment checks, in ascending code order. -/
def State.segmentFault (s : State) (g : Segment) : Option Failure :=
  let ws := g.words
  let checks : List (Nat × Bool × Nat) :=
    [ (0x0101, crc32 (ws.dropLast.flatMap (leBytes 4)) != ws.getLastD 0, ws.length - 1),
      (0x0102, decide (segWords ws < 12) || decide (s.regN 0x3000 6 < segWords ws) || decide (segWords ws ≠ ws.length), 6),
      (0x0103, segFormat ws != s.regN 0x3000 3, 5),
      (0x0104, segMask ws == 0 || (headsOf (segMask ws)).any (fun h => s.reg (0x8020 + h) 1 == 0), 2),
      (0x0105, (rawItems ws).isNone, directoryWord ws),
      (0x0106, s.job.segments.any (fun x => x.key != g.key && x.unfinished && x.id == g.id), 0),
      (0x0107, decide (g.layer < s.newestLayer), 1),
      (0x0108, (reservedWord ws).isSome, (reservedWord ws).getD 0) ]
  (checks.find? (fun c => c.2.1)).map (fun c => ⟨c.1, 0xFFFF, c.2.2⟩)

/-! ### The item checks (R71) -/

/-- A bitmap lies inside the bitmap area (R57). -/
def bitmapInside (words : List Nat) (start rows columns : Nat) : Bool :=
  segBitmap words != 0 && decide (segBitmap words ≤ start) && decide (start + rows * rowWords columns ≤ segWords words - 1)

/-- The reserved fields and flags of an item are zero (R47 to R68); the nibbles of R55 only for a bitmap in its place. -/
def RawItem.reservedZero (r : RawItem) (words : List Nat) : Bool :=
  let w := wordAt r.words
  let flags := r.flags
  match r.type with
  | 0x01 => bits flags 15 10 == 0
  | 0x02 => bits flags 15 11 == 0 && bits (w 5) 31 8 == 0
  | 0x03 => bits flags 15 11 == 0 && bits (w 1) 31 8 == 0
  | 0x04 => bits flags 15 11 == 0 && bits (w 5) 15 8 == 0
  | 0x05 =>
    let rows := bits (w 5) 31 16
    let columns := bits (w 5) 15 0
    let start := bits (w 6) 23 0
    bits flags 15 11 == 0 && bits (w 3) 31 28 == 0 && bits (w 4) 31 16 == 0 && bits (w 6) 31 24 == 0
      && (!bitmapInside words start rows columns || (List.range rows).all (rowTailZero words start columns))
  | 0x06 => bits flags 15 10 == 0 && paramReservedZero (r.words.drop 1)
  | 0x09 => flags == 0
  | _ => true

/-- R37 for a coordinate. -/
def State.onPlate (s : State) (x y : Int) : Bool :=
  decide (-(s.reg 0x3000 4) ≤ x) && decide (x ≤ s.reg 0x3000 4) && decide (-(s.reg 0x3000 5) ≤ y) && decide (y ≤ s.reg 0x3000 5)

/-- R54 for a corner pixel (r, k), with 30 fractional bits. -/
def State.cornerOnPlate (s : State) (x0 y0 : Int) (angle pitch r k : Nat) : Bool :=
  let x := x0 * 2 ^ 30 + cosQ angle * (k * pitch : Nat) - sinQ angle * (r * pitch : Nat)
  let y := y0 * 2 ^ 30 + sinQ angle * (k * pitch : Nat) + cosQ angle * (r * pitch : Nat)
  decide (-(s.reg 0x3000 4) * 2 ^ 30 ≤ x) && decide (x ≤ s.reg 0x3000 4 * 2 ^ 30)
    && decide (-(s.reg 0x3000 5) * 2 ^ 30 ≤ y) && decide (y ≤ s.reg 0x3000 5 * 2 ^ 30)

/-- Every coordinate that an item states satisfies R37. -/
def State.coordsOk (s : State) : ItemBody → Bool
  | .jump x y => s.onPlate x y
  | .vector x0 y0 x1 y1 _ => s.onPlate x0 y0 && s.onPlate x1 y1
  | .polyline _ vs => vs.all (fun v => s.onPlate v.1 v.2)
  | .points x0 y0 x1 y1 _ _ => s.onPlate x0 y0 && s.onPlate x1 y1
  | .furrow x0 y0 _ _ angle pitch rows columns _ =>
    s.onPlate x0 y0 && [(0, columns - 1), (rows - 1, 0), (rows - 1, columns - 1)].all (fun rk =>
      s.cornerOnPlate x0 y0 angle pitch rk.1 rk.2)
  | _ => true

/-- Zero length (code 0x0116). -/
def ItemBody.zeroLength : ItemBody → Bool
  | .vector x0 y0 x1 y1 _ => x0 == x1 && y0 == y1
  | .points x0 y0 x1 y1 _ _ => x0 == x1 && y0 == y1
  | .polyline _ vs => (vs.zip (vs.drop 1)).any (fun p => p.1 == p.2)
  | _ => false

/-- The ranges of a FURROW, its coverage included when its step list is defined (code 0x0118, R196). -/
def State.furrowBad (s : State) (h : HeadNo) : ItemBody → Bool
  | .furrow _ _ list passes angle pitch rows columns _ =>
    decide (passes = 0) || decide (8 < passes) || decide (pitch = 0) || decide (rows = 0) || decide (columns = 0)
      || (!(s.stepList list).isEmpty
        && !(furrowPasses rows passes ((s.cfg h).lanes angle pitch) (s.stepList list)).2)
  | _ => false

/-- The bitmap of a FURROW is out of its area (code 0x0119). -/
def ItemBody.bitmapBad (words : List Nat) : ItemBody → Bool
  | .furrow _ _ _ _ _ _ rows columns start => !bitmapInside words start rows columns
  | _ => false

/-- A FURROW names a step list that is not defined (code 0x011A). -/
def State.stepListBad (s : State) : ItemBody → Bool
  | .furrow _ _ list _ _ _ _ _ _ => (s.stepList list).isEmpty
  | _ => false

/-- A FURROW pixel shorter than 16 ticks (code 0x011B). -/
def ItemBody.pixelShort (speed : Nat) : ItemBody → Bool
  | .furrow _ _ _ _ _ pitch _ _ _ => decide (pitch * 156250000 < 16 * speed)
  | _ => false

/-- ON_TICKS out of its range (code 0x0117). -/
def ItemBody.onTicksBad (period : Nat) : ItemBody → Bool
  | .points _ _ _ _ onTicks _ => decide (onTicks = 0) || decide (period ≤ onTicks)
  | _ => false

/-- A DWELL of no duration. -/
def ItemBody.emptyDwell : ItemBody → Bool
  | .dwell n => n == 0
  | _ => false

/-- Versions kept while a segment is validated: those of R61, and those its own items use. -/
def keptWith (store : List ParamVersion) (segs : List Segment) (items : List Item) : List ParamVersion :=
  store.filter (fun v =>
    (newestVersion store v.set).any (fun n => n.serial == v.serial)
      || segs.any (fun g => g.unfinished && g.items.any (fun i => i.version == v.serial))
      || items.any (fun i => i.version == v.serial))

/-- What validation has built so far: the set store, the next serial, the items, newest first. -/
structure Validated where
  store : List ParamVersion
  next : Nat
  items : List Item
  deriving DecidableEq, Repr

/-- The checks of an item other than PARAM, in ascending code order. -/
def State.itemFault (s : State) (words : List Nat) (store : List ParamVersion) (r : RawItem) (b : ItemBody) : Option Nat :=
  let set := newestVersion store r.pset
  let par := paramOf ((set.map (fun v => v.words)).getD [])
  firstFailing
    [ (0x0111, !lengthAllowed r.type r.len),
      (0x0112, !r.reservedZero words),
      (0x0113, !s.coordsOk b),
      (0x0114, b.usesSet && set.isNone),
      (0x0115, b.marks && b.mask == 0),
      (0x0116, b.zeroLength),
      (0x0117, b.onTicksBad par.pointPeriod),
      (0x0118, s.furrowBad r.head b),
      (0x0119, b.bitmapBad words),
      (0x011A, s.stepListBad b),
      (0x011B, b.pixelShort par.markSpeed),
      (0x011C, b.emptyDwell),
      (0x011D, b.marks && decide (0 < par.preheatCount) && !bitAt r.flags 10
        && decide (s.regN (0x4220 + r.head) 1 ≤ par.preheatPower)) ]

/-- The checks of a PARAM item, in ascending code order. -/
def State.paramFault (s : State) (words : List Nat) (store : List ParamVersion) (r : RawItem) : Option Nat :=
  let par := paramOf (r.words.drop 1)
  firstFailing
    [ (0x0111, !lengthAllowed r.type r.len),
      (0x0112, !r.reservedZero words),
      (0x0120, par.markSpeed == 0 || par.jumpSpeed == 0),
      (0x0121, par.pointPeriod == 0 || (decide (0 < par.preheatCount) && par.preheatWidth == 0)),
      (0x0122, !par.perBeamlet && (par.power.drop 1).any (fun p => p != 0)),
      (0x0123, (s.blob (0x7010 + par.lawId) 1).isEmpty),
      (0x0124, decide (200 < par.overspeedTol) || decide (180 < par.cornerLimit)),
      (0x0125, decide (4096 ≤ store.length)) ]

/-- The item that a checked raw item becomes. -/
def State.itemOf (s : State) (store : List ParamVersion) (r : RawItem) (b : ItemBody) : Item :=
  let set := if b.usesSet then newestVersion store r.pset else none
  { index := r.index, head := r.head, offset := r.offset, length := r.len, noPreheat := b.marks && bitAt r.flags 10, pset := r.pset
    version := (set.map (fun v => v.serial)).getD 0
    par := paramOf ((set.map (fun v => v.words)).getD [])
    steps := match b with
      | .furrow _ _ list _ _ _ _ _ _ => s.stepList list
      | _ => []
    body := b }

/-- One item checked and taken in; a PARAM item makes a new version of its set (R58, R59). -/
def State.validateItem (s : State) (words : List Nat) (v : Validated) (r : RawItem) : Except Nat Validated :=
  match r.body with
  | none => .error 0x0110
  | some (.param set) =>
    match s.paramFault words v.store r with
    | some c => .error c
    | none =>
      let it := s.itemOf v.store r (.param set)
      let store := keptWith (v.store ++ [⟨v.next, set, r.words.drop 1⟩]) s.job.segments v.items
      .ok ⟨store, v.next + 1, it :: v.items⟩
  | some b =>
    match s.itemFault words v.store r b with
    | some c => .error c
    | none => .ok { v with items := s.itemOf v.store r b :: v.items }

/-- Every item in storage order. -/
def State.validateItems (s : State) (words : List Nat) : List RawItem → Validated → Except Failure Validated
  | [], v => .ok { v with items := v.items.reverse }
  | r :: rest, v =>
    match s.validateItem words v r with
    | .error c => .error ⟨c, r.index, r.offset⟩
    | .ok w => s.validateItems words rest w

/-! ### The barrier checks (R62, R64, R713) -/

/-- The BARRIER items: item, id, heads. -/
def barrierItems (items : List Item) : List (Item × Nat × Nat) :=
  items.filterMap (fun i => i.body.barrierOf.map (fun b => (i, b)))

/-- Each barrier once, in the storage order of its first item. -/
def barrierIds (bs : List (Item × Nat × Nat)) : List Nat :=
  bs.foldl (fun acc b => if acc.contains b.2.1 then acc else acc ++ [b.2.1]) []

/-- The verdict on one barrier: 0x0130, then 0x0131. -/
def barrierFault (mask : Nat) (bs : List (Item × Nat × Nat)) (id : Nat) : Option Nat :=
  let mine := bs.filter (fun b => b.2.1 == id)
  let heads := (mine.head?.map (fun b => b.2.2)).getD 0
  firstFailing
    [ (0x0130, mine.any (fun b => decide (popcount 32 b.2.2 < 2) || decide (b.2.2 &&& mask ≠ b.2.2))),
      (0x0131, mine.any (fun b => b.2.2 != heads) || (List.range 32).any (fun h =>
        mine.countP (fun b => b.1.head == h) != (if heads.testBit h then 1 else 0))) ]

/-- Consecutive barriers of every head's list. -/
def barrierEdges (bs : List (Item × Nat × Nat)) : List (Nat × Nat) :=
  (List.range 32).flatMap (fun h =>
    let l := (bs.filter (fun b => b.1.head == h)).map (fun b => b.2.1)
    l.zip (l.drop 1))

/-- The barriers reached from a set of barriers along precedences. -/
def barrierReach (edges : List (Nat × Nat)) : (fuel : Nat) → List Nat → List Nat
  | 0, l => l
  | fuel + 1, l =>
    barrierReach edges fuel (edges.foldl (fun acc e => if acc.contains e.1 && !acc.contains e.2 then acc ++ [e.2] else acc) l)

/-- A barrier lies on a cycle of precedences. -/
def onCycle (edges : List (Nat × Nat)) (ids : List Nat) (id : Nat) : Bool :=
  (barrierReach edges ids.length ((edges.filter (fun e => e.1 == id)).map (·.2))).contains id

/-- The barrier pass (R713). -/
def barrierPass (mask : Nat) (items : List Item) : Option Failure :=
  let bs := barrierItems items
  let ids := barrierIds bs
  let named (id code : Nat) : Failure :=
    match bs.find? (fun b => b.2.1 == id) with
    | some b => ⟨code, b.1.index, b.1.offset⟩
    | none => ⟨code, 0xFFFF, 0⟩
  match ids.findSome? (fun id => (barrierFault mask bs id).map (named id)) with
  | some f => some f
  | none =>
    let edges := barrierEdges bs
    (ids.find? (onCycle edges ids)).map (fun id => named id 0x0132)

/-! ### The whole -/

/-- Validation of a segment: the first failure, or what it makes (R70). -/
def State.validate (s : State) (g : Segment) : Except Failure Validated :=
  match s.segmentFault g with
  | some f => .error f
  | none =>
    match s.validateItems g.words ((rawItems g.words).getD []) ⟨s.job.params, s.job.nextVersion, []⟩ with
    | .error f => .error f
    | .ok v =>
      match barrierPass (segMask g.words) v.items with
      | some f => .error f
      | none => .ok v

end Sys2Proof.Machine
end

