-- ==== Sys2Proof/Machine/Admit.lean ====
section
/-!
DEFINITION. Admission: the state and slot checks, reach, speed and ownership, the bandwidth reservation, the promise, and
what a refusal and an admission leave (R22, R79, R87 to R100, R126, R127, R215, R218, R548).
-/
namespace Sys2Proof.Machine

/-! ### Slots (R87, R88, R120) -/

/-- Slots committed. -/
def State.slotsAdmitted (s : State) : Nat := s.job.segments.countP (fun g => decide (0 < g.admitNo))

/-- SLOTS_FREE. -/
def State.slotsFree (s : State) : Nat := 4096 - s.slotsAdmitted

/-- The state check and the slot checks (R91). -/
def State.entryFault (s : State) (g : Segment) : Option Nat :=
  firstFailing
    [ (0x0201, !(s.dev.state == .standby || s.dev.state.permits) || s.twin.role == .cold),
      (0x0202, s.slotsFree == 0),
      (0x0203, decide (s.slotsFree ≤ s.regN 0x3010 7) && decide (g.priority < s.regN 0x3010 8)) ]

/-! ### Speeds (R127) -/

/-- The beamlets whose spots ownership concerns: an item's mask, or for a FURROW the beamlets in use (R215). -/
def HeadCfg.beamsOf (c : HeadCfg) : ItemBody → List Nat
  | .furrow _ _ _ _ angle pitch _ _ _ => (c.lanes angle pitch).map (fun l => l.1)
  | b => bitList 8 b.mask

/-- The beamlets and end-of-stretch directions of an item; for a FURROW all eight beamlets are taken (R170). -/
def HeadCfg.beamDirs (c : HeadCfg) (it : Item) : List (Nat × Pos) :=
  (c.stretches it).flatMap (fun g => (bitList 8 it.body.mask).map (fun b => (b, endDir g.path)))

/-- LEAD_OUT lasts at least the delay of a beamlet at a speed. -/
def HeadCfg.leadOutHolds (c : HeadCfg) (it : Item) (v : Nat) (x : Nat × Pos) : Bool :=
  decide (c.delay x.2 v x.1 * v ≤ (it.par.leadOut * 156250000 : Nat))

/-- The mark speed does not exceed the maximum scanner speed (R127): some speed from it to V_MAX satisfies both
conditions. A delay that falls with the speed sets an upper limit; one whose constant part is not positive sets a lower. -/
def HeadCfg.markSpeedOk (c : HeadCfg) (it : Item) : Bool :=
  let all := c.beamDirs it
  let rising := all.filter (fun x => decide ((c.lag : Int) + c.delays.getD x.1 0 ≤ 0))
  let ok (v : Nat) : Bool := rising.all (c.leadOutHolds it v)
  let m := it.par.markSpeed
  let v := m + leastAt (fun n => ok (m + n)) 25
  decide (v ≤ c.vMax) && all.all (c.leadOutHolds it v)

/-- Code 0x0205 for an item. -/
def HeadCfg.tooFast (c : HeadCfg) (it : Item) : Bool :=
  (it.body.usesSet && decide (c.vMax < it.par.jumpSpeed)) || (it.body.marks && !c.markSpeedOk it)

/-! ### Reach and ownership (R126, R215) -/

/-- A head may expose in the cell of a position (R215). -/
def StitchCfg.mayExpose (c : StitchCfg) (h : HeadNo) (p : Pos) : Bool :=
  match c.entryAt p with
  | none => false
  | some e =>
    match cellMode e with
    | 0 => false
    | 1 => cellPrimary e == h
    | _ => cellPrimary e == h || cellSecondary e == h

/-- Every cell that a spot crosses from p to q may be exposed. -/
def StitchCfg.crossesOwn (c : StitchCfg) (layer h : Nat) (p q : Pos) : Bool :=
  let dur := 2 ^ 40
  let ts := 0 :: c.cutTimes layer p q dur
  c.mayExpose h p && c.mayExpose h q
    && (ts.zip (ts.drop 1 ++ [dur])).all (fun (a, b) => c.mayExpose h (lerpPos p q (a + b) (2 * dur)))

/-- The edges of a path as the spots of an item's beamlets sweep them. -/
def HeadCfg.sweeps (c : HeadCfg) (it : Item) (path : List Pos) : List (Pos × Pos) :=
  (pathEdges path).flatMap (fun (p, q) => (c.beamsOf it.body).map (fun b =>
    let o := c.spotShift (subPos q p) b
    (addPos p o, addPos q o)))

/-- Every spot of an item lies within the grid from the first marking event of each stretch to its last (R126), and over every
marked stretch in cells its head may expose (R215). -/
def HeadCfg.spotsOk (c : HeadCfg) (st : StitchCfg) (layer : Nat) (words : List Nat) (it : Item) : Bool :=
  (c.stretches it).all (fun g =>
    (c.sweeps it (c.markedPath words it g)).all (fun e => c.inGrid e.1 && c.inGrid e.2)
      && (c.sweeps it g.path).all (fun e => st.crossesOwn layer it.head e.1 e.2))

/-- A commanded position after field correction lies within the half range (R126, R142). -/
def HeadCfg.inRange (c : HeadCfg) (p : Pos) : Bool :=
  let q := rotateBack c.angle (subPos p (finePos c.centre.1 c.centre.2))
  let x := q.1 + 256 * gridDelta c.grid c.pitch 0 q
  let y := q.2 + 256 * gridDelta c.grid c.pitch 1 q
  let lim : Int := c.halfXY * 65536
  decide (-lim ≤ x) && decide (x ≤ lim) && decide (-lim ≤ y) && decide (y ≤ lim)

/-- Every tick of a piece is within range. Without a field correction a straight piece is, when its ends are. -/
def HeadCfg.pieceInRange (c : HeadCfg) (x : Piece) : Bool :=
  c.inRange x.p0 && c.inRange x.p1
    && (c.grid.isEmpty || (List.range (x.dur / 65536 + 1)).all (fun k => c.inRange (x.posAt ((x.start + 65535) / 65536 * 65536 + k * 65536))))

/-- The jumps, lead-ins and lead-outs of an item from a position are within range. -/
def HeadCfg.pathOk (c : HeadCfg) (it : Item) (after : Option Item) (p : Pos) : Bool :=
  (c.timing it after none 0 p 0 0 16).pieces.all (fun x => x.phase == 0 || x.phase == 4 || c.pieceInRange x)

/-- Items of a head that fail code 0x0206, in list order. -/
def HeadCfg.unreachable (c : HeadCfg) (st : StitchCfg) (layer : Nat) (words : List Nat) : List (Item × Option Item) → Pos → List Nat
  | [], _ => []
  | (i, n) :: rest, p =>
    (if c.pathOk i n p && (!i.body.marks || c.spotsOk st layer words i) then [] else [i.index])
      ++ c.unreachable st layer words rest (c.itemExit i n p)

/-! ### Starts (R95, R98) -/

/-- The last set-point of the segment admitted on a head before, or the park position (R95). -/
def State.planFrom (s : State) (h : HeadNo) : Pos :=
  match storeGet h s.job.tails with
  | some t => t.2
  | none => finePos (s.reg (0x4100 + h) 11) (s.reg (0x4100 + h) 12)

/-- tail_h (R98). -/
def State.tailOf (s : State) (h : HeadNo) : Tick :=
  match storeGet h s.job.tails with
  | some t => match s.seg? t.1 with
    | some g => if g.unfinished then g.promise else 0
    | none => 0
  | none => 0

/-- P_h of a segment on a head. -/
def State.plannedStart (s : State) (g : Segment) (tRef : Tick) (h : HeadNo) : Tick :=
  max (max g.startEt (s.tailOf h)) (tRef + s.regN 0x3010 2)

/-! ### Bandwidth (R97) -/

/-- A reservation: from an ET, to an ET, bytes per second. -/
structure Reservation where
  start : Tick
  finish : Tick
  rate : Nat
  deriving DecidableEq, Repr

/-- The reservations of unfinished segments. -/
def State.reservations (s : State) : List Reservation :=
  (s.job.segments.filter (fun g => g.unfinished)).flatMap (fun g => g.heads.map (fun x => ⟨x.start, x.start + x.worst, x.bandwidth⟩))

/-- The load at an instant. -/
def loadAt (rs : List Reservation) (t : Tick) : Nat :=
  (rs.map (fun r => if r.start ≤ t ∧ t < r.finish then r.rate else 0)).sum

/-- B_free over an interval: the least left at its start and wherever a reservation begins within it. -/
def freeBandwidth (budget : Nat) (rs : List Reservation) (a b : Tick) : Nat :=
  let instants := a :: (rs.map (fun r => r.start)).filter (fun t => decide (a < t) && decide (t < b))
  budget - (instants.map (loadAt rs)).foldl max 0

/-- V_h: the item list, and each bitmap row once for every pass that uses it. -/
def HeadCfg.bytesOf (c : HeadCfg) (items : List Item) : Nat :=
  (items.map (fun i => 4 * i.length + match i.body with
    | .furrow _ _ _ _ _ _ _ columns _ =>
      ((c.stretches i).map (fun g => popcount 8 g.mask)).sum * (4 * rowWords columns)
    | _ => 0)).sum

/-- B_h and T_dram of a head, or none for code 0x0207. The reserved rate is a whole number of bytes per second, rounded
up; where a head has no motion at all the quotient of R97 does not exist, and only a rate of 0 fails. -/
def reserve (free volume motion latency : Nat) : Option (Nat × Nat) :=
  let need := if latency < motion then ceilDiv (volume * 625000000) (motion - latency) else free
  let rate := min need free
  if rate = 0 ∨ (0 < motion ∧ rate * (2 * motion) < volume * 625000000) then none
  else some (rate, if latency < motion ∧ need ≤ free then 0 else ceilDiv (volume * 625000000) rate + latency - motion)

/-- The same over the interval from P_h to P_h + W_h, where W_h includes the T_dram that the reservation gives (R97): the interval
grows until its own T_dram lies within it. -/
def reserveWithin (budget : Nat) (rs : List Reservation) (start volume motion latency : Nat) : Nat → Nat → Option (Nat × Nat)
  | 0, w => reserve (freeBandwidth budget rs start (start + w)) volume motion latency
  | n + 1, w =>
    match reserve (freeBandwidth budget rs start (start + w)) volume motion latency with
    | none => none
    | some r => if motion + r.2 ≤ w then some r else reserveWithin budget rs start volume motion latency n (motion + r.2)

/-! ### The plan of a segment -/

/-- The items of a head with their successors. -/
def listOf (items : List Item) (h : HeadNo) : List (Item × Option Item) := withNext (items.filter (fun i => i.head == h))

/-- Every head of a segment placed (R94, R98, R227). -/
def State.planSegment (s : State) (g : Segment) (items : List Item) (tRef : Tick) : List PlanHead :=
  let others := (s.job.segments.filter (fun x => x.unfinished && decide (0 < x.admitNo))).flatMap (fun x =>
    x.heads.flatMap (fun y => y.placed))
  s.planAll others ((headsOf g.mask).map (fun h =>
    PlanHead.start h (s.plannedStart g tRef h) ((s.cfg h).planList g.words (listOf items h) (s.planFrom h)).1))

/-- The part of a segment on a head as admission leaves it. -/
def PlanHead.part (p : PlanHead) (start rate dram : Nat) : SegHead :=
  { head := p.head, part := .waiting, start := start, worst := p.terms.sum + p.bar + dram, dram := dram, bandwidth := rate
    terms := p.terms, placed := p.placed, barriers := p.barriers, next := 0, fetched := ⟨0, []⟩, rows := ⟨0, []⟩, failed := none
    unbooked := false, finishEt := 0, arrived := []
    books := List.replicate 8 Tally.zero }

/-- Bandwidth reserved head by head, lowest first; none for code 0x0207. -/
def State.reserveHeads (s : State) (g : Segment) (items : List Item) (tRef latency : Nat) :
    List PlanHead → List Reservation → Option (List SegHead)
  | [], _ => some []
  | p :: rest, rs =>
    let start := s.plannedStart g tRef p.head
    let motion := p.terms.sum + p.bar
    let volume := (s.cfg p.head).bytesOf (items.filter (fun i => i.head == p.head))
    match reserveWithin (s.regN 0x3010 6 * 1000000) rs start volume motion latency (rs.length + 1) motion with
    | none => none
    | some (rate, dram) =>
      let x := p.part start rate dram
      match s.reserveHeads g items tRef latency rest (rs ++ [⟨start, start + x.worst, rate⟩]) with
      | none => none
      | some xs => some (x :: xs)

/-- The span D, the reserve and the promise (R99). -/
structure Promise where
  span : Nat
  reserve : Nat
  et : Tick
  deriving DecidableEq, Repr

/-- The promise of planned heads at a slack reserve in 0.1 per cent. -/
def promiseOf (rho : Nat) (hs : List SegHead) : Promise :=
  let last := (hs.map (fun x => x.start + x.worst)).foldl max 0
  let first := (hs.map (fun x => x.start)).foldl min ((hs.head?.map (fun x => x.start)).getD 0)
  let r := ceilDiv (rho * (last - first)) 1000
  ⟨last - first, r, last + r⟩

/-! ### The decision (R91, R92) -/

/-- A refusal: its code, its item index and the earliest promise, all ones where none is reported (R93). -/
structure Refused where
  code : Nat
  item : Nat
  promise : Nat
  /-- the word offset of a validation failure -/
  word : Nat
  deriving DecidableEq, Repr

/-- A refusal that reports no promise. -/
def Refused.plain (code item : Nat) : Refused := ⟨code, item, 2 ^ 64 - 1, 0⟩

/-- The first item, in storage order, that fails a check on items. -/
def firstIndex (l : List Nat) : Option Nat := l.foldl (fun m i => match m with
  | none => some i
  | some j => some (min i j)) none

/-- The admission checks that concern links, speeds, reach and ownership (0x0204 to 0x0206). -/
def State.itemAdmission (s : State) (g : Segment) (items : List Item) : Option Refused :=
  let hs := headsOf g.mask
  if hs.any (fun h => (s.head h).link.state != .operation) then some (Refused.plain 0x0204 0xFFFF)
  else match (items.find? (fun i => (s.cfg i.head).tooFast i)).map (fun i => i.index) with
    | some i => some (Refused.plain 0x0205 i)
    | none =>
      if s.reg 0x5003 1 = 0 then some (Refused.plain 0x0206 0xFFFF)
      else (firstIndex (hs.flatMap (fun h => (s.cfg h).unreachable s.stitch g.layer g.words (listOf items h) (s.planFrom h)))).map
        (Refused.plain 0x0206)

/-- The checks on the promise (0x0208, 0x0209). -/
def State.promiseAdmission (s : State) (g : Segment) (hs : List SegHead) (p : Promise) : Option Refused :=
  if s.reg 0x3010 12 ≠ 0 ∧ s.regN 0x3010 11 = g.layer ∧ s.regN 0x3010 12 < p.et then some ⟨0x0208, 0xFFFF, p.et, 0⟩
  else if s.reg 0x3010 9 ≠ 0 ∧ hs.any (fun x => decide (g.startEt + s.regN 0x3010 9 < x.start)) then some ⟨0x0209, 0xFFFF, p.et, 0⟩
  else none

/-- What an admission makes: the store and items of validation, the heads and the promise. -/
structure Admission where
  made : Validated
  heads : List SegHead
  promise : Promise
  deriving DecidableEq, Repr

/-- The decision on a segment, with t_ref and L_dram. -/
def State.judgeSegment (s : State) (g : Segment) (tRef latency : Nat) : Except Refused Admission :=
  match s.entryFault g with
  | some c => .error (Refused.plain c 0xFFFF)
  | none =>
    match s.validate g with
    | .error f => .error ⟨f.code, f.item, 2 ^ 64 - 1, f.word⟩
    | .ok v =>
      match s.itemAdmission g v.items with
      | some r => .error r
      | none =>
        match s.reserveHeads g v.items tRef latency (s.planSegment g v.items tRef) s.reservations with
        | none => .error (Refused.plain 0x0207 0xFFFF)
        | some hs =>
          let p := promiseOf (s.regN 0x3010 1) hs
          match s.promiseAdmission g hs p with
          | some r => .error r
          | none => .ok ⟨v, hs, p⟩

/-! ### What follows (R33, R78, R86, R87, R92, R108, R119) -/

/-- 0x3002 after a validation refusal (R78). -/
def State.noteFailure (s : State) (g : Segment) (r : Refused) : State :=
  if 0x0100 ≤ r.code ∧ r.code < 0x0200 then
    ((((s.setReg 0x3002 1 g.id).setReg 0x3002 2 r.code).setReg 0x3002 3 r.item).setReg 0x3002 4 r.word).bump 0x3002 5
  else s

/-- The REFUSE message (R108). -/
def refuseBytes (id seq code item promise : Nat) : List Byte :=
  leBytes 4 id ++ leBytes 4 seq ++ leBytes 2 code ++ leBytes 2 item ++ leBytes 8 promise

/-- A segment refused: its bytes are freed, the history keeps it, the leaf is set and REFUSE is sent. -/
def State.refuse (s : State) (g : Segment) (r : Refused) : State :=
  let t := (s.noteFailure g r).release g.key
  ((({ t with job := t.job.remember (g.entry .refused) }).free (4 * g.words.length)).setLeaf 0x2101 1).jobMessage 0x32
    (refuseBytes g.id g.seq r.code r.item r.promise)

/-- The PARAM items of a segment counted per set (R77). -/
def countWrites (items : List Item) (l : List (Nat × Nat)) : List (Nat × Nat) :=
  items.foldl (fun acc i => match i.body with
    | .param set => storePut set ((storeGet set acc).getD 0 + 1) acc
    | _ => acc) l

/-- The head summaries of a segment (R548): planned energy per beamlet, one copy in each channel. -/
def State.summariesOf (s : State) (g : Segment) (items : List Item) : List (Nat × HeadNo × List Int × Nat) :=
  (headsOf g.mask).map (fun h =>
    let es := (items.filter (fun i => i.head == h)).foldl (fun acc i => if i.body.marks then
      (acc.zip (nominalEnergy (s.cfg h) s.stitch g.layer g.words g.key i)).map (fun (a, b) => a + b) else acc) (List.replicate 8 0)
    (g.key, h, es.map (fun e => (e : Int)), 3))

/-- The newest tails of the heads of a segment (R95, R98). -/
def State.tailsAfter (s : State) (g : Segment) (items : List Item) : List (HeadNo × Nat × Pos) :=
  (headsOf g.mask).foldl (fun acc h =>
    storePut h (g.key, ((s.cfg h).planList g.words (listOf items h) (s.planFrom h)).2) acc) s.job.tails

/-- The ADMIT message (R108). The manual does not say how slots are numbered: SLOT is free. -/
def Admission.bytes (a : Admission) (g : Segment) (slot : Nat) : List Byte :=
  leBytes 4 g.id ++ leBytes 4 g.seq ++ leBytes 8 a.promise.et ++ leBytes 8 a.promise.span ++ leBytes 8 a.promise.reserve
    ++ leBytes 2 slot

/-- The segment as admission leaves it. -/
def Segment.admitted (g : Segment) (a : Admission) (no : Nat) : Segment :=
  { g with state := .admitted, items := a.made.items, heads := a.heads, admitNo := no, promise := a.promise.et
           slack := (a.promise.reserve : Nat) }

/-- The head summaries of a segment written, once in each channel (R548). -/
def State.writeSummaries (s : State) (xs : List (Nat × HeadNo × List Int × Nat)) : State :=
  xs.foldl (fun t x => t.acceptBoth 1 (x.1 * 32 + x.2.1) (x.2.2.1.flatMap (leBytesInt 8))) s

/-- A segment admitted: the set store, the slot, the summaries and the tails, then ADMIT. -/
def State.admitSegment (s : State) (g : Segment) (a : Admission) : State :=
  let t := s.onSeg g.key (fun x => x.admitted a s.job.nextAdmit)
  let u := { t with
    job := { t.job with
      params := a.made.store, nextVersion := a.made.next, paramWrites := countWrites a.made.items t.job.paramWrites
      nextAdmit := t.job.nextAdmit + 1, tails := s.tailsAfter g a.made.items }
    dram := { t.dram with summaries := t.dram.summaries ++ s.summariesOf g a.made.items }
    fresh := t.fresh + 1 }
  let v := u.writeSummaries (s.summariesOf g a.made.items)
  (if v.slotsFree = v.regN 0x3010 7 then v.setLeaf 0x2101 3 else v).jobMessage 0x31
    (a.bytes g (Config.freeNat s.fresh % 4096))

/-- The outcome of a decision: the code (0 for admission) and the promise. -/
def outcomeOf : Except Refused Admission → Nat × Nat
  | .ok a => (0, a.promise.et)
  | .error r => (r.code, r.promise)

/-- A judgement carried out. -/
def State.settleSegment (s : State) (g : Segment) : Except Refused Admission → State
  | .ok a => s.admitSegment g a
  | .error r => s.refuse g r

/-- L_dram in use (R96). -/
def State.dramLatency (s : State) : Nat :=
  let base := s.regN 0x3010 3
  if s.reg 0x3010 5 < 10000 then base
  else max base ((5 * s.job.latencies.foldl max 0 + 3) / 4)

end Sys2Proof.Machine
end

