-- ==== Sys2Proof/Machine/Restarting.lean ====
section
/-!
DEFINITION. What survives an entry to OFF, to AUX or to BOOT (R26, R410, R544, R594, R605, R608, R629, R645, R715).
-/
namespace Sys2Proof.Machine

/-! ### The boot record (R629, R631) -/

/-- The valid copy with the highest sequence number; PREFERRED_SLOT A and no trial where there is none. -/
def Images.current (i : Images) : BootRecord :=
  i.boot.foldl (fun a b => if a.seq ≤ b.seq then b else a) ⟨0, 0, 0, 0⟩

/-- A new copy written: the older of two copies is replaced (R631). -/
def Images.writeBoot (i : Images) (preferred trial slot : Nat) : Images :=
  { i with boot := [i.current, ⟨i.current.seq + 1, preferred, trial, slot⟩].filter (fun b => decide (0 < b.seq)) }

/-- The slot of a number: 0 A, 1 B. -/
def Images.slot (i : Images) (n : Nat) : Slot := if n = 0 then i.slotA else i.slotB

/-- A trial that has run fails (R629): the leaf and the record. -/
def State.failTrial (s : State) (cause : Nat) : State :=
  let b := s.images.current
  if b.trial = 2 then
    (({ s with images := s.images.writeBoot b.preferred 3 b.trialSlot }).setLeaf 0x2110 1).record 0x0052
      (byteOf b.trialSlot :: leBytes 2 cause)
  else s

/-! ### What is lost -/

/-- The controller after everything volatile is lost: fuses, flash and the island stay (R410, R594, R608, R715). The
records awaiting flash in the on-chip queue are lost; those of the front end stay. -/
def State.lost (s : State) : State :=
  { State.reset with
    pending := s.pending, deferred := s.deferred, fuses := s.fuses, flash := s.flash.cutShort, out := [], fresh := s.fresh
    recorder := { s.recorder with queue := [], retried := false }
    auth := { State.reset.auth with drawn := s.auth.drawn }
    images := { State.reset.images with slotA := s.images.slotA, slotB := s.images.slotB, boot := s.images.boot, block := s.images.block }
    thermal := { State.reset.thermal with tripped := s.thermal.tripped, hotAt := s.thermal.hotAt }
    clk := { et := 0, running := false, island := s.clk.island }
    power := { s.power with step := 0, startupTime := 0, waitCool := false } }

/-- A loss of power or a reset while records await flash can catch a write before its closing mark (R654). Whether one was
in progress is a free value: a flash write is one command here. -/
def State.tear (s : State) : State :=
  if s.recorder.queue = [] then s
  else { s with fresh := s.fresh + 1, recorder := { s.recorder with torn := s.recorder.torn || Config.tornWrite s.fresh } }

/-- Entry to AUX with a cause (R592, R594, R655): the outside is driven to the OFF and AUX row, and the island records the
entry. -/
def State.toAux (s : State) (cause railFault : Nat) : State :=
  let t := (s.failTrial s.dev.cause).tear.lost
  let u := { t with
     dev := { t.dev with state := .aux, prev := s.dev.state, cause := 0 }
     tap := if cause = 0x04 then s.tap else Tap.initial
     power := { t.power with resetCause := cause, railFault := railFault } }
  let v := u.record 0x0001 [byteOf cause, byteOf railFault]
  { v with power := { v.power with entered := some (!u.recordFull) } }

/-- The newest record of the front end with another payload. -/
def Recorder.amend (r : Recorder) (payload : List Byte) : Recorder :=
  { r with front := r.front.modify (r.front.length - 1) (fun (e : EventRecord) => { e with payload := payload }) }

/-- A further trigger in the CLK_SYS cycle of the entry to AUX: the lowest code is recorded (R592). A rail joins the rails
already named. -/
def State.coincide (s : State) (cause railFault : Nat) : State :=
  match s.power.entered with
  | none => s
  | some kept =>
    let c := min cause s.power.resetCause
    let f := if c = 0x03 then s.power.railFault ||| railFault else 0
    { s with
      power := { s.power with resetCause := c, railFault := f }
      recorder := if kept then s.recorder.amend [byteOf c, byteOf f] else s.recorder }

/-- The TAP when a reset input changes: EXTEST, CLAMP and HIGHZ last only while PWRGOOD and RESET_N are both asserted
(R683). -/
def State.testEnds (s : State) : State :=
  if s.power.pwrgood ∧ s.power.resetFree = false then s
  else { s with tap := { s.tap with instr := s.tap.instr.harmless } }

/-- The level of the reset inputs after a trigger. -/
def State.resetPins (s : State) (cause : Nat) : State :=
  ({ s with power := { s.power with
      resetFree := s.power.resetFree && cause != 0x04
      pwrgood := s.power.pwrgood && cause == 0x04 } }).testEnds

/-- A main reset takes effect in every state except OFF; in AUX it changes nothing but the reset inputs (R19, R592). -/
def State.mainReset (s : State) (cause railFault : Nat) : State :=
  if s.dev.state = .off then s
  else if s.dev.state = .aux then (s.coincide cause railFault).resetPins cause
  else (s.toAux cause railFault).resetPins cause

/-- The controller after RESTART (R605, R608, R645): everything is rebuilt except the clocks, the island, the thermal
monitor, the recorder and flash; persistent values load again at step 4. Kept causes are discarded (R20, R583). Of the
leaves BOOT_HELD alone stays: only the exit from BOOT clears it (R646; DEDUCED for a RESTART from a held BOOT, log 114). -/
def State.restarted (s : State) : State :=
  let t := s.failTrial s.dev.cause
  let tripped := t.thermal.tripped
  { State.reset with
    pending := t.pending, deferred := t.deferred, fuses := t.fuses, flash := t.flash.cutShort, out := t.out, fresh := t.fresh, recorder := t.recorder
    auth := { State.reset.auth with drawn := t.auth.drawn }
    images := { State.reset.images with slotA := t.images.slotA, slotB := t.images.slotB, boot := t.images.boot, block := t.images.block }
    leaves := t.leaves.filter (fun l => bootHeld l.reg l.bit)
    thermal := t.thermal, clk := { t.clk with et := ((t.clk.et : Int) - t.twin.pairOffset).toNat }, clocks := t.clocks, tap := t.tap
    power := { t.power with
      step := if t.clocks.mainLock then 3 else 2, startupTime := 0, startMark := t.clk.island, waitCool := tripped
      inhibitMark := t.power.inhibit }
    dev := { t.dev.moved .boot (if tripped then 0x30 else 0x01) t.et with
      kept := [], failedRank := none, coresDown := false, result := t.dev.result
      tripFrom := .boot, tripCause := 0x01 } }

end Sys2Proof.Machine
end

