-- ==== Sys2Proof/Machine/Firmware.lean ====
section
/-!
DEFINITION. Images, slots, trials and the factory calibration block (R615 to R634). Hashes and signatures are free
functions of Config: the fused keys are not in the manual.
-/
namespace Sys2Proof.Machine

/-! ### Images (R619 to R622) -/

/-- VERSION of an image. -/
def imageVersion (bs : List Byte) : Nat := leAt bs 8 4

/-- The signature of a signed block of at least 256 bytes verifies with a key that is not revoked (R616, R620). -/
def signedOk (bs : List Byte) (key : Nat) : Bool := Config.signatureOk key (bs.take 160) ((bs.drop 160).take 96)

/-- Bytes from one offset up to another are zero. -/
def zeroBytes (bs : List Byte) (from_ upto : Nat) : Bool := ((bs.drop from_).take (upto - from_)).all (fun b => b == 0)

/-- The first reason for which an image of a kind is not valid, as RESULT codes it (R620, R633): 0x01 signature or key,
0x02 hash, 0x03 the other conditions. -/
def imageFault (kind revision : Nat) (bs : List Byte) : Option Nat :=
  let limit := if kind = 1 then 8388608 else 1048576
  if bs.length < 256 ∨ signedOk bs (leAt bs 24 1) = false then some 1
  else if (bs.drop 96).take 48 ≠ Config.sha384 (bs.drop 256) then some 2
  else if leAt bs 0 4 = 0x4D49485A ∧ leAt bs 4 1 = kind ∧ leAt bs 5 1 = 1 ∧ leAt bs 6 2 ≤ 16 ∧ leAt bs 12 4 = bs.length - 256
      ∧ leAt bs 12 4 ≤ limit ∧ leAt bs 16 4 = 0x3256 ∧ leAt bs 20 4 ≤ revision ∧ zeroBytes bs 25 32 ∧ zeroBytes bs 144 160
      ∧ zeroBytes bs (32 + 4 * leAt bs 6 2) 96 then none
  else some 3

/-- A stored image is there and valid. -/
def imageValid (kind revision : Nat) (i : Option (List Byte)) : Bool :=
  match i with
  | some bs => (imageFault kind revision bs).isNone
  | none => false

/-- A slot is complete (R620). -/
def Slot.complete (x : Slot) (revision : Nat) : Bool := imageValid 1 revision x.sf && imageValid 2 revision x.mc

/-- A TESTED list names a version (R621). -/
def tests (bs : List Byte) (version : Nat) : Bool :=
  (List.range (min 16 (leAt bs 6 2))).any (fun i => leAt bs (32 + 4 * i) 4 == version)

/-- A pair is tested (R621). -/
def Slot.tested (x : Slot) : Bool :=
  match x.sf, x.mc with
  | some sf, some mc => tests sf (imageVersion mc) || tests mc (imageVersion sf)
  | _, _ => false

/-- TARGET_SLOT (R626). -/
def Images.target (i : Images) : Nat :=
  match i.running with
  | some n => 1 - n
  | none => i.current.preferred

/-- The slots with an image of a kind replaced in one. -/
def Images.install (i : Images) (n kind : Nat) (bs : List Byte) : Images :=
  let put (x : Slot) : Slot := if kind = 1 then { x with sf := some bs } else { x with mc := some bs }
  if n = 0 then { i with slotA := put i.slotA } else { i with slotB := put i.slotB }

/-- The states in which an image write is accepted (R626). -/
def State.imageState (s : State) : Bool :=
  s.dev.state == .boot || s.dev.state == .restricted ||
    (s.dev.state == .standby && !s.job.segments.any (fun g => g.state == .admitted || g.state == .staged || g.state == .running))

/-- The refusal of an image write, before its RESULT (R408, R626, R627). -/
def State.imageRefusal (s : State) (p : Path) (sub : Nat) : Option Abort :=
  orElse (s.writeGate p 0xB001 sub) (orElse (refuseIf (!s.imageState) .conditions) (refuseIf s.flash.writing.isSome .storing))

/-- An image that passed its checks is in flash: RESULT, the leaf and the record (R627, R633, R655). -/
def State.imageWritten (s : State) (kind : Nat) (bs : List Byte) : State :=
  let n := s.images.target
  ((({ s with images := s.images.install n kind bs }).setReg 0xB001 5 0).setLeaf 0x2110 4).record 0x0050
    ([byteOf kind, byteOf n] ++ leBytes 4 (imageVersion bs))

/-- An image write carried out and answered (R627). -/
def State.writeImage (s : State) (p : Path) (kind : Nat) (bs : List Byte) (flashGood : Bool) : State :=
  match s.imageRefusal p kind with
  | some a => s.answer p a.code []
  | none =>
    match imageFault kind s.fuses.revision bs with
    | some r => (s.setReg 0xB001 5 r).answer p Abort.range.code []
    | none =>
      if flashGood then (s.imageWritten kind bs).answer p 0 [] else (s.setReg 0xB001 5 4).answer p Abort.flash.code []

/-- SF_IMAGE (R626, R627). -/
def execSfImage (path : Path) (image : List Byte) (flashGood : Bool) (s : State) : Host.Outcome State Fault Refusal :=
  .next (s.inTurnOf path (.sfImage path image flashGood) (if s.served path then s.writeImage path 1 image flashGood else s))

/-- MC_IMAGE (R626, R627). -/
def execMcImage (path : Path) (image : List Byte) (flashGood : Bool) (s : State) : Host.Outcome State Fault Refusal :=
  .next (s.inTurnOf path (.mcImage path image flashGood) (if s.served path then s.writeImage path 2 image flashGood else s))

/-! ### Trials (R629, R630) -/

/-- TRIAL: accepted only when the target slot is complete; a refusal sets RESULT 0x05 (R629, R633). -/
def State.writeTrial (s : State) (p : Path) (value : Nat) : State :=
  match orElse (s.writeGate p 0xB001 3) (numberTest 0xB001 3 (leBytes 1 value)) with
  | some a => s.answer p a.code []
  | none =>
    if value ≠ 1 then s.answer p 0 []
    else if (s.images.slot s.images.target).complete s.fuses.revision then
      ({ s with images := s.images.writeBoot s.images.current.preferred 1 s.images.target }).answer p 0 []
    else (s.setReg 0xB001 5 5).answer p Abort.conditions.code []

/-- TRIAL (R629). -/
def execTrial (path : Path) (value : Nat) (s : State) : Host.Outcome State Fault Refusal :=
  .next (s.inTurnOf path (.trial path value) (if s.served path then s.writeTrial path value else s))

/-- The running slot becomes preferred (R630), with its leaf and record. -/
def State.confirmTrial (s : State) : State :=
  let n := s.images.running.getD 0
  (({ s with images := s.images.writeBoot n 4 n }).setLeaf 0x2110 2).record 0x0053 [byteOf n]

/-- CONFIRM (R630): only in STANDBY while TRIAL_STATE is 0x02. -/
def execConfirm (path : Path) (value : Nat) (s : State) : Host.Outcome State Fault Refusal :=
  .next (s.inTurnOf path (.confirm path value) (s.access path
    (orElse (s.writeGate path 0xB001 4) (orElse (numberTest 0xB001 4 (leBytes 1 value))
      (refuseIf (decide (value = 1) && !(s.dev.state == .standby && s.images.current.trial == 2)) .conditions)))
    (if value = 1 then s.confirmTrial else s) []))

/-! ### The factory block (R615 to R618) -/

/-- The first failing condition of R616, 0 for a valid block. -/
def State.blockFault (s : State) (bs : List Byte) : Nat :=
  if leAt bs 0 4 ≠ 0x4346485A then 1
  else if bs.length ≠ 256 ∨ signedOk bs (leAt bs 12 1) = false then 2
  else if leAt bs 8 4 ≠ s.fuses.serial then 3
  else if leAt bs 4 2 ≠ 0x0100 ∨ zeroBytes bs 6 8 = false ∨ zeroBytes bs 13 16 = false ∨ zeroBytes bs 50 52 = false
      ∨ zeroBytes bs 122 160 = false then 4
  else if (List.range 16).map (fun i => sext 16 (leAt bs (16 + 2 * i) 2)) ≠ s.fuses.dieTrim then 5
  else 0

/-- BLOCK (R618): accepted in RESTRICTED or STANDBY at Service level; it takes effect at the next start-up. -/
def State.blockRefusal (s : State) (p : Path) (bs : List Byte) : Option Abort :=
  orElse (s.writeGate p 0xB010 2)
    (orElse (refuseIf (!(s.dev.state == .restricted || s.dev.state == .standby)) .conditions)
      (refuseIf (s.blockFault bs != 0) .range))

/-- BLOCK (R618). -/
def execFactoryBlock (path : Path) (block : List Byte) (s : State) : Host.Outcome State Fault Refusal :=
  .next (s.inTurnOf path (.factoryBlock path block) (s.access path (s.blockRefusal path block) { s with images := { s.images with block := block } } []))

/-! ### Start-up step 4 (R599, R616, R623) -/

/-- The slot that step 4 takes: the trial slot when a trial is pending, else the preferred one; the other where that is
not complete; none where neither is (R623). The second value is SLOT_FALLBACK. -/
def State.chosenSlot (s : State) : Option (Nat × Bool) :=
  let b := s.images.current
  let n := if b.trial = 1 then b.trialSlot else b.preferred
  if (s.images.slot n).complete s.fuses.revision then some (n, false)
  else if (s.images.slot (1 - n)).complete s.fuses.revision then some (1 - n, true)
  else none

/-- The slot taken: a pending trial is running from here on (R629), a fall-back is reported (R655). -/
def State.takeSlot (s : State) (n : Nat) (fallback : Bool) : State :=
  let b := s.images.current
  let i := if b.trial = 1 then s.images.writeBoot b.preferred 2 b.trialSlot else s.images
  let t := { s with images := { i with running := some n, tested := (s.images.slot n).tested, fallback := fallback } }
  if fallback then (t.setLeaf 0x2110 0).record 0x0051 [byteOf n] else t

/-- The block judged (R616). -/
def State.judgeBlock (s : State) : State :=
  let r := s.blockFault s.images.block
  let t := { s with images := { s.images with blockValid := r == 0, failReason := r
                                              inUse := if r = 0 then some s.images.block else none } }
  if r = 0 then t else (t.setLeaf 0x2110 3).record 0x0054 [byteOf r]

/-- The trim code at which the on-die RC oscillator runs: that of a valid block from the end of step 4, else 0x0200
(R617). -/
def State.rcTrim (s : State) : Nat :=
  match s.images.inUse with
  | some b => leAt b 48 2
  | none => 0x0200

/-- A preset of the block in use at a byte, none where the neutral preset is used (R615, R617). -/
def State.preset (s : State) (at_ : Nat) : Option Nat := s.images.inUse.map (fun b => leAt b at_ 1)

/-- The downlink pre-emphasis of a head link (R615, R617). -/
def State.headDrive (s : State) (h : HeadNo) : Option Nat := s.preset (52 + 2 * h)

/-- The uplink equaliser of a head link (R615, R617). -/
def State.headEqualiser (s : State) (h : HeadNo) : Option Nat := s.preset (53 + 2 * h)

/-- The transmit preset of port A (0), port B (1) and the twin link (2) (R615, R617). -/
def State.ringDrive (s : State) (k : Nat) : Option Nat := s.preset (116 + 2 * k)

/-- The receive preset of port A (0), port B (1) and the twin link (2) (R615, R617). -/
def State.ringEqualiser (s : State) (k : Nat) : Option Nat := s.preset (117 + 2 * k)

/-- The power-cycle count after an entry from OFF (R599). -/
def Power.countCycle (p : Power) : Power :=
  if p.resetCause = 0x01 then { p with flashCycles := (p.flashCycles + 1) % 2 ^ 32, powerCycles := (p.flashCycles + 1) % 2 ^ 32 }
  else p

/-- The front end's records, stamped with the count, join the queue (R600, R654). -/
def State.frontToQueue (s : State) : State :=
  s.enqueueAll (s.recorder.front.map (fun e => if s.power.resetCause = 0x01 then { e with cycles := s.power.powerCycles } else e))

/-- At start-up a record without its closing mark is dropped: TORN counts it and TORN_RECORD is set (R654). -/
def State.dropTorn (s : State) : State :=
  if s.recorder.torn then (({ s with recorder := { s.recorder with torn := false } }).bump 0xC000 6).setLeaf 0x2111 3 else s

/-- The persistent values loaded (R410, R602, R645). -/
def State.loadStored (s : State) : State :=
  { s with regs := loaded s.regs s.flash.regs, blobs := loaded s.blobs s.flash.blobs }

end Sys2Proof.Machine
end

