-- ==== Sys2Proof/Machine/Recorder.lean ====
section
/-!
DEFINITION. The event recorder's commands (R652 to R664).
-/
namespace Sys2Proof.Machine

/-! ### Reading (R660, R661) -/

/-- The bytes of a record: LENGTH, TYPE, HOURS, HOURS_FRACTION, POWER_CYCLES, PAYLOAD (R652). -/
def EventRecord.bytes (e : EventRecord) : List Byte :=
  leBytes 2 (14 + e.payload.length) ++ leBytes 2 e.type ++ leBytes 4 (e.hours / 65536) ++ leBytes 2 (e.hours % 65536)
    ++ leBytes 4 e.cycles ++ e.payload

/-- Bedrock holds records 0 to 4,095 and Topsoil those from its oldest on (R656). -/
def Recorder.holds (r : Recorder) (area number : Nat) : Bool :=
  if area = 0 then decide (number < min r.next 4096)
  else decide (r.oldest ≤ number) && decide (number < r.next)

/-- The record of a number, from the area that holds it. -/
def Recorder.record? (r : Recorder) (area number : Nat) : Option EventRecord :=
  if r.holds area number then storeGet number r.flash else none

/-- The oldest record of an area. -/
def Recorder.oldestOf (r : Recorder) (area : Nat) : Nat := if area = 0 then 0 else r.oldest

/-- READ_STATUS: held, older than the oldest, or not yet written (R661). -/
def Recorder.readStatus (r : Recorder) (area number : Nat) : Nat :=
  if r.holds area number then 0
  else if number < r.oldestOf area then 1
  else 2

/-- WINDOW: up to 256 bytes of the record under the cursor (R660). -/
def Recorder.window (r : Recorder) (x : Session) : List Byte :=
  match r.record? x.recArea x.recCursor with
  | some e => (e.bytes.drop x.recOffset).take 256
  | none => []

/-- A session after NEXT (R660, R661). -/
def Session.nextRecord (x : Session) (r : Recorder) : Session :=
  match r.record? x.recArea x.recCursor with
  | some e =>
    if x.recOffset + 256 < e.bytes.length then { x with recOffset := x.recOffset + 256 }
    else { x with recCursor := x.recCursor + 1, recOffset := 0 }
  | none =>
    if r.readStatus x.recArea x.recCursor = 1 then { x with recCursor := r.oldestOf x.recArea, recOffset := 0 } else x

/-! ### Writing flash (R654, R656, R657) -/

/-- The recorder with its oldest queued record in flash: numbered, and Topsoil kept at its 65,536 newest; Bedrock's
records 0 to 4,095 stay in flash for good. -/
def Recorder.written (r : Recorder) : Recorder :=
  match r.queue with
  | [] => r
  | e :: rest =>
    let oldest := max r.oldest (r.next + 1 - 65536)
    { r with
      queue := rest
      flash := (r.flash ++ [(r.next, e)]).filter (fun p => decide (p.1 < 4096) || decide (oldest ≤ p.1))
      next := r.next + 1
      oldest := oldest
      storedHours := e.hours
      retried := false }

/-- BEDROCK_FULL is set by the write of record 4,095 (R656). -/
def State.bedrockFull (s : State) : State :=
  if s.recorder.next = 4096 then s.setLeaf 0x2111 1 else s

/-- When room has returned, a record of type 0x00A1 gives the number discarded (R654). -/
def State.reportLost (s : State) : State :=
  let e := s.stampRecord 0x00A1 (leBytes 4 s.recorder.lost)
  if s.recorder.lost ≠ 0 ∧ s.recordFull = false then
    { s with recorder := Recorder.take { s.recorder with lost := 0 } s.firmwareUp false e }
  else s

/-- One queued record written to flash. -/
def State.flashOne (s : State) : State :=
  if s.recorder.queue = [] then s
  else ({ s with recorder := s.recorder.written }).bedrockFull.reportLost

/-- A failed flash write: FLASH_ERROR; the record is retried once and then discarded (R657). -/
def State.flashFailed (s : State) : State :=
  if s.recorder.queue = [] then s
  else if s.recorder.retried then
    (({ s with recorder := { s.recorder with queue := s.recorder.queue.drop 1, lost := s.recorder.lost + 1,
                                             retried := false } }).setLeaf 0x2111 2).bump 0xC000 5 |>.setLeaf 0x2111 0
  else ({ s with recorder := { s.recorder with retried := true } }).setLeaf 0x2111 2

/-- Every queued record written. -/
def State.flashAll : Nat → State → State
  | 0, s => s
  | n + 1, s => State.flashAll n s.flashOne

/-! ### The commands -/

/-- RECORD_FLASH_WRITE (R654, R657): the oldest queued record goes to flash, or the write fails. -/
def execRecordFlashWrite (good : Bool) (s : State) : Host.Outcome State Fault Refusal :=
  .next (if good then s.flashOne else s.flashFailed)

/-- HOURS_STORE (R653): the island stores the operating hours while VAUX is present. -/
def execHoursStore (s : State) : Host.Outcome State Fault Refusal :=
  .next { s with recorder := { s.recorder with storedHours := if s.power.vaux then s.hours else s.recorder.storedHours } }

/-- HOST_RECORD (R658). -/
def execHostRecord (path : Path) (data : List Byte) (s : State) : Host.Outcome State Fault Refusal :=
  .next (s.inTurnOf path (.hostRecord path data) (s.access path
    (orElse (s.writeGate path 0xC002 3)
      (orElse (refuseIf (decide (data.length < 2) || decide (1026 < data.length)) .range)
        (refuseIf (decide (leAt data 0 2 < 0x8000)) .range)))
    (s.record (leAt data 0 2) (data.drop 2)) []))

/-- Topsoil cleared: every record older than the next number is unreadable there, and a record of type 0x00A0 that
gives the number cleared becomes its oldest (R659). -/
def State.clearTopsoil (s : State) : State :=
  let r := s.recorder
  let t := s.flashAll r.queue.length
  let u := { t with recorder := { t.recorder with
    oldest := t.recorder.next
    flash := t.recorder.flash.filter (fun p => decide (p.1 < 4096)) } }
  u.record 0x00A0 (leBytes 4 (t.recorder.next - t.recorder.oldest))

/-- CLEAR_TOPSOIL (R659): a write of 1 at Service level; any other value does nothing. -/
def execClearTopsoil (path : Path) (value : Nat) (s : State) : Host.Outcome State Fault Refusal :=
  .next (s.inTurnOf path (.clearTopsoil path value) (s.access path (orElse (s.writeGate path 0xC002 1) (numberTest 0xC002 1 (leBytes 1 value)))
    (if value = 1 then s.clearTopsoil else s) []))

/-- FLUSH (R664): QUEUED reaches 0 before the response. -/
def execFlush (path : Path) (value : Nat) (s : State) : Host.Outcome State Fault Refusal :=
  .next (s.inTurnOf path (.flush path value) (s.access path (orElse (s.writeGate path 0xC002 2) (numberTest 0xC002 2 (leBytes 1 value)))
    (if value = 1 then s.flashAll (s.recorder.queue.length + 1) else s) []))

/-- NEXT (R660): a write of 1 moves the reading path's window on. -/
def execNextRecord (path : Path) (value : Nat) (s : State) : Host.Outcome State Fault Refusal :=
  .next (s.inTurnOf path (.nextRecord path value) (s.access path (orElse (s.writeGate path 0xC001 5) (numberTest 0xC001 5 (leBytes 1 value)))
    (s.setSession (pathNumber path) (if value = 1 then (s.on path).nextRecord s.recorder else s.on path)) []))

/-- CURSOR (R660): the path's record is selected and its OFFSET becomes 0. -/
def execCursor (path : Path) (value : Nat) (s : State) : Host.Outcome State Fault Refusal :=
  .next (s.inTurnOf path (.cursor path value) (s.access path (orElse (s.writeGate path 0xC001 2) (numberTest 0xC001 2 (leBytes 4 value)))
    (s.setSession (pathNumber path) { s.on path with recCursor := value, recOffset := 0 }) []))

end Sys2Proof.Machine
end

