-- ==== Sys2Proof/Machine/Startup.lean ====
section
/-!
DEFINITION. Start-up steps 2 to 8 (R18, R563, R564, R524, R527, R543, R599 to R606, R623).
-/
namespace Sys2Proof.Machine

/-- Start-up stands at a step and runs: BOOT not held and not waiting for cooling, or RESTRICTED with cause 0x0001. -/
def State.atStep (s : State) (n : Nat) : Bool :=
  s.power.step == n && s.dev.cause == 0x01 && !s.thermal.tripped &&
    (if n ≤ 4 then s.dev.state == .boot && !s.power.waitCool else s.dev.state == .restricted)

/-- A step of start-up reached. -/
def State.toStep (s : State) (n : Nat) : State := { s with power := { s.power with step := n } }

/-- BOOT held with a cause: the transition and the leaf BOOT_HELD (R19, R638); a trial ends there (R629). -/
def State.holdBoot (s : State) (cause : Nat) : State := ((s.automatic .boot cause).setLeaf 0x2100 3).failTrial cause

/-! ### Step 2 (R556, R563, R564) -/

/-- Eight consecutive gates within limits: each within 100 ppm of their mean, and the mean within 100 ppm of nominal
against a recovered reference (0, 1) or 3.5 per cent against the RC oscillator (2). -/
def gatesStable (reference : Nat) (counts : List Nat) : Bool :=
  let sum : Int := ((counts.take 8).sum : Nat)
  let within (d limit base : Int) : Bool := decide (d * 1000000 ≤ limit * base) && decide (-(d * 1000000) ≤ limit * base)
  decide (8 ≤ counts.length) && (counts.take 8).all (fun c => within (8 * c - sum) 100 sum)
    && within (sum - 1250000) (if reference = 2 then 35000 else 100) 1250000

/-- One judgement gate counted. A change of reference begins the run of gates afresh. -/
def ClockUnit.judge (c : ClockUnit) (reference count : Nat) : ClockUnit :=
  let l := count :: (if c.judgeRef = reference then c.judged.take 7 else [])
  let good := gatesStable reference l
  { c with judged := l, judgeGates := c.judgeGates + 1, judgeRef := reference, stable := good, xoQualified := good }

/-- OSCILLATOR_JUDGEMENT_GATE (R563): 100 gates without 8 good ones in a row hold BOOT with cause 0x0010. -/
def execOscillatorGate (reference count : Nat) (s : State) : Host.Outcome State Fault Refusal :=
  let c := s.clocks.judge (min reference 2) count
  .next (if s.atStep 2 ∧ s.clocks.stable = false then
      let t := { s with clocks := c }
      if c.stable = false ∧ 100 ≤ c.judgeGates then t.holdBoot 0x10 else t
    else s)

/-- MAIN_PLL_LOCK (R26, R422, R564): at the first lock ET starts at 0, and NT with it (R429); a later one, after a RESTART
with the PLL unlocked, leaves ET counting on. -/
def execMainPllLock (s : State) : Host.Outcome State Fault Refusal :=
  .next (if s.atStep 2 ∧ s.clocks.stable ∧ s.clocks.mainLock = false then
      if s.clk.running then { s with clocks := { s.clocks with mainLock := true } }
      else { s with clocks := { s.clocks with mainLock := true }, clk := { s.clk with et := 0, running := true }, time := TimeUnit.initial }
    else s)

/-- PLLS_LOCKED (R564): the DRAM and SerDes PLLs have locked; step 3 begins. -/
def execPllsLocked (s : State) : Host.Outcome State Fault Refusal :=
  .next (if s.atStep 2 ∧ s.clocks.mainLock then
      { s with clocks := { s.clocks with dramLock := true, serdesLock := true }, power := { s.power with step := 3 } }
    else s)

/-! ### Step 3 (R524, R527, R543) -/

/-- GiB of DRAM and ranks of an organisation code (R524). -/
def dramSize (code : Nat) : Option (Nat × Nat) :=
  ([(2, 1), (4, 1), (8, 1), (16, 1), (8, 1), (16, 2), (16, 1), (32, 2), (32, 1)] : List (Nat × Nat))[code]?

/-- A channel after its training. -/
def DramChannel.train (c : DramChannel) (et : Tick) (reading : Int) (seed ranks : Nat) : DramChannel :=
  { c with trained := true, lastTrain := et, trainedAt := reading, lfsr := seed, postponed := List.replicate ranks 0 }

/-- The areas divided and both channels trained (R527); what an earlier start-up held is gone (R544). The sizes are the
stored values, which step 4 makes the dictionary's. -/
def State.divideDram (s : State) (gib ranks seed0 seed1 : Nat) : State :=
  let log := (regsGet (regKey 0x6000 4) s.flash.regs).toNat
  let queue := (regsGet (regKey 0x6000 3) s.flash.regs).toNat
  let reading (k : Nat) : Int := (s.thermal.sensors.getD k ⟨0, false, 0, none⟩).reading
  ({ s with
     dram := { channels := [DramChannel.initial.train s.et (reading 12) seed0 ranks, DramChannel.initial.train s.et (reading 13) seed1 ranks]
               writes := [], blocked := [], logMiB := log, archiveFrames := queue, summaries := [], unread := [] }
     job := Job.initial
     power := { s.power with step := 4 } }).setReg 0x3012 4
    ((gib * 2 ^ 30 : Nat) - (512 * 2 ^ 20 + log * 2 ^ 20 + queue * 32768 : Nat) : Int)

/-- DRAM_TRAINING_DONE (R543): a failed rank, or straps that name no organisation, hold BOOT with cause 0x0011. -/
def execDramTrainingDone (failed : Option Nat) (seed0 seed1 : Nat) (s : State) : Host.Outcome State Fault Refusal :=
  .next (if s.atStep 3 then
      match dramSize s.power.dramOrg, failed with
      | some (gib, ranks), none => s.divideDram gib ranks seed0 seed1
      | _, _ => s.holdBoot 0x11
    else s)

/-! ### Step 4 (R599, R600, R602, R616, R617, R623) -/

/-- Step 4 ends in RESTRICTED; leaving BOOT clears BOOT_HELD (R646). -/
def State.leaveBoot (s : State) : State :=
  let t := (s.automatic .restricted 0x01).toStep 5
  { t with leaves := leavesWithout t.leaves 0x2100 3 }

/-- The work of step 4 in its order; no complete slot holds BOOT with cause 0x0012. -/
def State.imageCheck (s : State) : State :=
  match s.chosenSlot with
  | none => s.holdBoot 0x12
  | some (n, fallback) =>
    let t := (s.takeSlot n fallback).judgeBlock
    ({ t with power := t.power.countCycle }).dropTorn.frontToQueue.loadStored.leaveBoot.reportLost

/-- IMAGE_CHECK_DONE (R623). -/
def execImageCheckDone (s : State) : Host.Outcome State Fault Refusal :=
  .next (if s.atStep 4 then s.imageCheck else s)

/-! ### Steps 5 to 8 -/

/-- Step 5 ends: the sample rate follows the loaded values, and every enabled head link leaves DISABLED (R284, R601). -/
def State.endRingStep (s : State) : State :=
  let t := s.toStep 6
  ({ t with engine := { t.engine with rate := t.rateAsked, rateChanges := [] } }).startLinks

/-- RING_JOIN_DONE: both ports forward. -/
def execRingJoinDone (s : State) : Host.Outcome State Fault Refusal :=
  .next (if s.atStep 5 ∧ s.ring.forwarding then s.endRingStep else s)

/-- RING_WAIT_EXPIRY: RING_WAIT has passed (R603). -/
def execRingWaitExpiry (s : State) : Host.Outcome State Fault Refusal :=
  .next (if s.atStep 5 then s.endRingStep else s)

/-- Every enabled link is in OPERATION or FAILED. -/
def State.linksSettled (s : State) : Bool :=
  (List.range 32).all (fun h => !s.linkEnabled h || (s.head h).link.state == .operation || (s.head h).link.state == .failed)

/-- HEAD_LINK_STEP_DONE (R601, step 6). -/
def execHeadLinkStepDone (s : State) : Host.Outcome State Fault Refusal :=
  .next (if s.atStep 6 ∧ s.linksSettled then s.toStep 7 else s)

/-- STARTUP_TIME in µs from ticks of 1.6 ns. -/
def startupMicros (ticks : Nat) : Nat := ticks * 16 / 10000

/-- Step 8 recorded: STARTUP_STEP 0, STARTUP_TIME, the leaf and the record (R606, R610, R655). -/
def State.recordStart (s : State) (leaf : Nat) : State :=
  let us := startupMicros (s.clk.island - s.power.startMark)
  let t := { s with power := { s.power with step := 0, startupTime := us } }
  (t.setLeaf 0x210F leaf).record 0x0002 ([byteOf t.dev.state.code] ++ leBytes 2 t.dev.cause ++ leBytes 4 us)

/-- Step 8 (R604): STANDBY for a tested pair and a valid block, else RESTRICTED with cause 0x0020 or 0x0021. -/
def State.stepEight (s : State) : State :=
  if s.images.tested ∧ s.images.blockValid then (s.automatic .standby 0x00).recordStart 2
  else
    let cause := if s.images.tested then 0x21 else 0x20
    (({ s with dev := { s.dev with cause := cause } }).failTrial cause).recordStart 3

/-- CALIBRATION_LOAD_DONE (R601, R604): effective values are formed, and step 8 follows. -/
def execCalibrationLoadDone (s : State) : Host.Outcome State Fault Refusal :=
  .next (if s.atStep 7 then s.formAll.stepEight else s)

/-- STARTUP_BOUND_EXPIRY (R601): the step in progress exceeds its bound. -/
def State.boundExpired (s : State) : State :=
  if s.atStep 2 then s.holdBoot 0x10
  else if s.atStep 3 then s.holdBoot 0x11
  else if s.atStep 4 then s.holdBoot 0x12
  else if s.atStep 5 then s.endRingStep
  else if s.atStep 6 then s.toStep 7
  else if s.atStep 7 then s.stepEight
  else s

/-- STARTUP_BOUND_EXPIRY (R601). -/
def execStartupBoundExpiry (s : State) : Host.Outcome State Fault Refusal := .next s.boundExpired

end Sys2Proof.Machine
end

