-- ==== Sys2Proof/Machine/Memory.lean ====
section
/-!
DEFINITION. The DRAM subsystem: reads and their parity, command and address alerts, refresh, case temperature, retraining,
and the head that abandons its list (R528 to R550, R96, R462).
-/
namespace Sys2Proof.Machine

/-! ### Channels -/

/-- Ranks per channel (R524). -/
def State.ranks (s : State) : Nat := ((dramSize s.power.dramOrg).map (fun x => x.2)).getD 1

/-- A leaf of the memory register for a channel (R638). -/
def State.memoryLeaf (s : State) (ch bit : Nat) : State := s.setLeaf 0x210C (8 * ch + bit)

/-! ### A head abandons its list (R547 to R549) -/

/-- What R548 books for the beamlets of a head: the summary less the planned energy already booked; none when no copy of
the summary can be read. -/
def State.remainders (s : State) (g : Segment) (p : SegHead) : Option (List Int) :=
  match s.dram.summaries.find? (fun x => x.1 == g.key && x.2.1 == p.head) with
  | some x => if x.2.2.2 = 0 then none else some ((x.2.2.1.zip p.books).map (fun (e, t) => e - t.planned))
  | none => none

/-- The barriers of a head's list. -/
def Segment.barriersOf (g : Segment) (h : HeadNo) : List Nat := (g.listOf h).filterMap (fun i => i.body.barrierOf.map (fun b => b.1))

/-- The item named by an abandonment: the one in progress, else the first not begun. -/
def State.itemAt (s : State) (g : Segment) (h : HeadNo) : Nat :=
  match (s.head h).path.run with
  | some r => if r.seg = g.key then r.item else ((g.rest h).head?.map (fun i => i.index)).getD 0xFFFF
  | none => ((g.rest h).head?.map (fun i => i.index)).getD 0xFFFF

/-- Head h abandons the rest of its list in a segment: emission stops, the remainder is booked and recorded under cause
0x04, and the promise breaks. -/
def State.abandonList (s : State) (key : Nat) (h : HeadNo) (detail : Nat) : State :=
  match s.seg? key with
  | none => s
  | some g =>
    match g.part? h with
    | none => s
    | some p =>
      let et := s.et
      let at_ := (s.head h).path.unitAt et
      let item := s.itemAt g h
      let t := (s.closeRecords h (max (s.head h).path.bookedTo 1 - 1) (fun _ => true)).onPath h (fun y => { y.stopped et with seg := none })
      let part (x : SegHead) : SegHead :=
        { x with part := .abandoned, finishEt := et, next := (g.listOf h).length, arrived := g.barriersOf h
                 unbooked := (s.remainders g p).isNone, failed := none }
      let u := t.onSeg key (fun x => x.onPart h part)
      match s.remainders g p with
      | none => u.breakPromise key 4 h item detail
      | some es =>
        let v := u.bookAll key h (es.map (fun e => ⟨e, 0, 0, e⟩))
        let mask := (es.zip (List.range 8)).foldl (fun m x => if x.1 = 0 then m else setBit m x.2) 0
        (v.writeDefect ⟨4, none, h, mask, true, key, item, detail, et, et, at_, at_, es.sum, false, 0, none⟩).breakPromise key 4 h item detail

/-- An uncorrectable read of a head's data: it acts at once on a part that runs, and at its start on one that does not. -/
def State.dataLost (s : State) (id h detail : Nat) : State :=
  if s.twin.role = .shadow then s.goCold 0x0D
  else match s.job.segments.find? (fun g => g.id == id && g.unfinished && (g.part? h).isSome) with
    | none => s
    | some g =>
      match g.part? h with
      | none => s
      | some p =>
        if p.part = .running then s.abandonList g.key h detail
        else if p.part = .waiting then s.onSeg g.key (fun x => x.onPart h (fun p => { p with failed := some detail }))
        else s

/-! ### Reads (R535 to R538, R554) -/

/-- The repeats of a line so far. -/
def DramChannel.repeatsOf (c : DramChannel) (client address : Nat) : Nat :=
  ((c.repeats.find? (fun r => r.client == client && r.address == address)).map (fun r => r.repeats)).getD 0

/-- A channel that no longer repeats a line. -/
def DramChannel.settled (c : DramChannel) (client address : Nat) : DramChannel :=
  { c with repeats := c.repeats.filter (fun r => !(r.client == client && r.address == address)) }

/-- One more repeat of a line. -/
def DramChannel.again (c : DramChannel) (client address : Nat) : DramChannel :=
  { c.settled client address with
    repeats := (c.settled client address).repeats ++ [⟨client, address, c.repeatsOf client address + 1⟩] }

/-- The latency of an exposure read measured (R96, R538). -/
def State.measured (s : State) (ch latency : Nat) : State :=
  ((({ s with job := { s.job with latencies := (latency :: s.job.latencies).take 1048576 } }).bump 0x3010 5).raiseReg (0xA010 + ch) 14
    latency)

/-- A line delivered into a head's item buffer: the line from a byte of its list, or of the rows of its passes, on. -/
def State.deliver (s : State) (id h : Nat) (bitmap : Bool) (place : Nat) : State :=
  match s.job.segments.find? (fun g => g.id == id && g.unfinished && (g.part? h).isSome) with
  | none => s
  | some g =>
    let items := (g.listOf h).map (fun i => 4 * i.length)
    let all := (s.cfg h).bytesOf (g.listOf h)
    s.onSeg g.key (fun x => x.onPart h (fun p =>
      if bitmap then { p with rows := p.rows.add place (all - items.sum) } else { p with fetched := p.fetched.add place items.sum }))

/-- A copy that passed: a repeated one counts, an exposure read is measured and delivered. -/
def State.readPassed (s : State) (ch client address latency h id : Nat) (bitmap : Bool) (place : Nat) : State :=
  let t := if (s.channel ch).repeatsOf client address = 0 then s
    else (s.onChannel ch (fun c => c.settled client address)).bump (0xA010 + ch) 4
  if client = 2 then (t.measured ch latency).deliver id h bitmap place else t

/-- The frame at the head of the archive queue is skipped (R536). -/
def State.skipArchive (s : State) : State :=
  match s.sieve.archive with
  | [] => s
  | a :: rest => ({ s with sieve := { s.sieve with archive := rest } }).bump (0x6220 + (a.headD 0).toNat) 7

/-- The effect of an uncorrectable line on its client (R536). -/
def State.clientLost (s : State) (ch client h id : Nat) (bitmap : Bool) : State :=
  match client with
  | 1 =>
    match s.job.segments.find? (fun g => g.id == id && g.state == .submitted) with
    | some g => s.refuse g ⟨0x0101, 0xFFFF, 2 ^ 64 - 1, g.words.length - 1⟩
    | none => s
  | 2 => s.dataLost id h (ch * 32768 + (if bitmap then 2 else 1))
  | 3 => s.skipArchive
  | 4 => { s with dram := { s.dram with unread := if s.dram.unread.contains id then s.dram.unread else s.dram.unread ++ [id] } }
  | 5 =>
    { s with dram := { s.dram with summaries := s.dram.summaries.map (fun x =>
        if (s.seg? x.1).any (fun g => g.id == id) ∧ x.2.1 = h then (x.1, x.2.1, x.2.2.1, clearBit x.2.2.2 ch) else x) } }
  | _ => s

/-- The third repeat has failed: the error is uncorrectable. -/
def State.uncorrectable (s : State) (ch client address lanes h id : Nat) (bitmap : Bool) : State :=
  let t := (s.onChannel ch (fun c => c.settled client address)).bump (0xA010 + ch) 5
  let u := ((t.setReg (0xA010 + ch) 6 address).setReg (0xA010 + ch) 7 client).setReg (0xA010 + ch) 8 (lanes % 512)
  (u.memoryLeaf ch 2).clientLost ch client h id bitmap

/-- A copy that failed its parity: counted, and repeated up to three times. -/
def State.readFailed (s : State) (ch client address lanes h id : Nat) (bitmap : Bool) : State :=
  let t := (s.bump (0xA010 + ch) 3).memoryLeaf ch 1
  if (s.channel ch).repeatsOf client address < 3 then t.onChannel ch (fun c => (c.again client address).issue s.et (.read address))
  else t.uncorrectable ch client address lanes h id bitmap

/-- A code of R554: 1 to 5, and 6 for any other client. -/
def clientCode (client : Nat) : Nat := if 1 ≤ client ∧ client ≤ 5 then client else 6

/-- The READ whose data has come was issued CAS latency and the 4 clocks of its burst before: 26 clocks, 10.4 ticks (R525, R526). A repeat
entered the buffer when it was issued. -/
def State.noteRead (s : State) (ch client address : Nat) : State :=
  if (s.channel ch).repeatsOf client address = 0 then s.onChannel ch (fun c => c.noteIssued (s.et - 11) (.read address)) else s

/-- A read returns on a trained channel: every beat is checked (R529). -/
def State.readComplete (s : State) (ch client address : Nat) (line : List Byte) (latency : Nat) (activated : Bool) (h id : Nat)
    (bitmap : Bool) (place : Nat) : State :=
  let t := (if activated then s.activated ch else s).noteRead ch client address
  if failingLanes line = 0 then t.readPassed ch client address latency h id bitmap place
  else t.readFailed ch client address (failingLanes line) h id bitmap

/-- DRAM_READ_COMPLETE (R535 to R539): the 72 bytes of the line as they return, beat by beat, lane 8 last; place is for the line of
an exposure read. While a write of the line still waits in the queue, so does the
read. -/
def execDramReadComplete (ch client address : Nat) (line : List Byte) (latency : Nat) (activated : Bool) (h id : Nat)
    (place : ReadPlace) (s : State) : Host.Outcome State Fault Refusal :=
  .next (if (s.channel ch).trained ∧ ch < 2 ∧ h < 32 then
      if s.writeWaits address then
        { s with dram := { s.dram with blocked := s.dram.blocked ++
          [⟨.dramReadComplete ch client address line latency activated h id place, s.et⟩] } }
      else s.readComplete ch (clientCode client) address line latency activated h id place.bitmap place.first
    else s)

/-- A read that has waited, as it returns: its latency includes the wait (R538). -/
def BlockedRead.returned (b : BlockedRead) (et : Tick) : Instr :=
  match b.command with
  | .dramReadComplete ch client address line latency activated h id place =>
    .dramReadComplete ch client address line (latency + (et - b.since)) activated h id place
  | c => c

/-- The address of the read. -/
def BlockedRead.address (b : BlockedRead) : Nat :=
  match b.command with
  | .dramReadComplete _ _ address _ _ _ _ _ _ => address
  | _ => 0

/-! ### Alerts (R533, R534) -/

/-- A fall of ALERT_N: counted; during a replay the sequence starts again. -/
def State.alertFalls (s : State) (ch : Nat) : State :=
  let t := s.onChannel ch (fun c => { c with alert := .low, fellAt := s.et, falls := if c.alert = .replay then c.falls + 1 else c.falls })
  (t.bump (0xA010 + ch) 1).memoryLeaf ch 0

/-- CA_ALERT (R533). -/
def execCaAlert (ch : Nat) (s : State) : Host.Outcome State Fault Refusal :=
  .next (if ch < 2 ∧ (s.channel ch).trained ∧ (s.channel ch).alert ≠ .low then s.alertFalls ch else s)

/-- The commands of a list replayed before whatever waits, behind an ACTIVATE for every row that they need (R533). -/
def State.replay (s : State) (ch : Nat) (cs : List DramCommand) : State :=
  let rows := (cs.filterMap (fun d => match d with
    | .read a => some (Config.rowOf a)
    | .write a _ => some (Config.rowOf a)
    | _ => none)).eraseDups
  let t := s.onChannel ch (fun c => { c with alert := .replay, toIssue := [], replaying := 0 })
  (rows.foldl (fun (u : State) _ => u.activated ch) t).onChannel ch (fun c =>
    { c with toIssue := c.toIssue ++ cs ++ (s.channel ch).toIssue, replaying := (c.toIssue ++ cs).length })

/-- CA_ALERT_RELEASE (R533): the errors are cleared, the rows are activated again and the buffered commands are replayed;
the replay completes unless ALERT_N falls first. Three falls in a row wait for the retraining of R534. -/
def execCaAlertRelease (ch : Nat) (s : State) : Host.Outcome State Fault Refusal :=
  .next (if ch < 2 ∧ (s.channel ch).alert = .low ∧ (s.channel ch).falls < 3 ∧ (s.channel ch).retraining = false then
      s.replay ch ((s.channel ch).recent (s.channel ch).fellAt)
    else s)

/-- A retraining begins on a channel (R545). -/
def State.startRetraining (s : State) (ch : Nat) : State :=
  ((s.onChannel ch (fun c => { c with retraining := true, retrainDue := false, repeated := false })).bump (0xA010 + ch) 12).memoryLeaf ch 3

/-- CA_ALERT_STUCK (R534): ALERT_N stays low for 2 µs, or three sequences have ended in a fall: the channel retrains. -/
def execCaAlertStuck (ch : Nat) (s : State) : Host.Outcome State Fault Refusal :=
  .next (if ch < 2 ∧ (s.channel ch).alert = .low ∧ (s.channel ch).retraining = false then s.startRetraining ch else s)

/-! ### Refresh and temperature (R541, R542) -/

/-- A rank's refresh: postponed while exposure reads wait, at most four deep. -/
def DramChannel.refresh (c : DramChannel) (et : Tick) (rank : Nat) (waiting : Bool) : DramChannel :=
  let n := c.postponed.getD rank 0
  let go (k : Nat) (d : DramChannel) : DramChannel :=
    (List.replicate k (DramCommand.refresh rank)).foldl (fun x y => x.issue et y) { d with refreshes := d.refreshes + k }
  if waiting ∧ n < 4 then { c with postponed := c.postponed.set rank (n + 1) }
  else if waiting then go 1 c
  else go (1 + n) { c with postponed := c.postponed.set rank 0 }

/-- REFRESH (R541): in every state but AUX, OFF and BOOT before training (R544). -/
def execRefresh (ch rank : Nat) (waiting : Bool) (s : State) : Host.Outcome State Fault Refusal :=
  .next (if ch < 2 ∧ rank < s.ranks ∧ (s.channel ch).trained then s.onChannel ch (fun c => c.refresh s.et rank waiting) else s)

/-- ZQ_CALIBRATION (R541): one short calibration of every rank. -/
def execZqCalibration (s : State) : Host.Outcome State Fault Refusal :=
  .next { s with dram := { s.dram with channels := s.dram.channels.map (fun c =>
    if c.trained then
      (List.range s.ranks).foldl (fun d k => d.issue s.et (.calibrate k)) { c with zqCalibrations := c.zqCalibrations + s.ranks }
    else c) } }

/-- REFRESH_DOUBLED of a channel set; a change sets the leaf (R542). -/
def State.setDoubled (s : State) (ch : Nat) (on : Bool) : State :=
  let t := s.onChannel ch (fun c => { c with doubled := on })
  if (s.channel ch).doubled = on then t else t.memoryLeaf ch 4

/-- A case temperature taken on a channel: doubled above 85 °C, normal below 83 °C. -/
def State.caseTemperature (s : State) (ch : Nat) (value : Int) : State :=
  let t := s.setReg (0xA010 + ch) 11 value
  if 8500 < value then t.setDoubled ch true else if value < 8300 then t.setDoubled ch false else t

/-- CASE_TEMP_READ (R542): the devices' status, under source 1. -/
def execCaseTempRead (ch : Nat) (value : Int) (s : State) : Host.Outcome State Fault Refusal :=
  .next (if ch < 2 ∧ (s.channel ch).trained ∧ s.reg 0xA000 2 = 1 then s.caseTemperature ch (sext 16 (unsignedOf 16 value)) else s)

/-- CASE_TEMP_TIMEOUT (R542): no write for 1 s under source 2. -/
def execCaseTempTimeout (s : State) : Host.Outcome State Fault Refusal :=
  .next (if s.reg 0xA000 2 = 2 then
      let t := { s with dram := { s.dram with channels := s.dram.channels.map (fun (c : DramChannel) => { c with caseStale := true }) } }
      (t.setDoubled 0 true).setDoubled 1 true
    else s)

/-- A write of CASE_TEMP (R542). -/
def State.caseWritten (s : State) (value : Int) : State :=
  let t := (s.setReg 0xA000 5 value).onChannel 0 (fun c => { c with caseStale := false })
  let u := t.onChannel 1 (fun c => { c with caseStale := false })
  if s.reg 0xA000 2 = 2 then (u.caseTemperature 0 value).caseTemperature 1 value else u

/-- A write of CASE_TEMP_SOURCE (R542): source 0 is always above 85 °C, and source 2 while no write is newer than 1 s. -/
def State.caseSource (s : State) (value : Int) : State :=
  let t := s.setReg 0xA000 2 value
  let high (u : State) (ch : Nat) : State :=
    if value = 0 ∨ (value = 2 ∧ (u.channel ch).caseStale) then u.setDoubled ch true
    else if value = 2 then u.caseTemperature ch (u.reg 0xA000 5) else u
  high (high t 0) 1

/-! ### Retraining (R545, R546, R550) -/

/-- A retraining is due: by the temperature of its sensor, or by its interval. -/
def State.retrainDue (s : State) (ch : Nat) : Bool :=
  (s.channel ch).retrainDue
    || (s.reg 0xA000 4 != 0 && decide ((s.channel ch).lastTrain + s.regN 0xA000 4 * 625000000 ≤ s.et))

/-- RETRAIN_START (R545, R550): not while an alert sequence or a read repeat is in progress. -/
def execRetrainStart (ch : Nat) (s : State) : Host.Outcome State Fault Refusal :=
  .next (if ch < 2 ∧ (s.channel ch).trained ∧ (s.channel ch).retraining = false ∧ s.retrainDue ch then
      if (s.channel ch).alert = .none ∧ (s.channel ch).repeats = [] then s.startRetraining ch
      else s.onChannel ch (fun c => { c with retrainDue := true })
    else s)

/-- A channel's training has completed; after one that an alert has called for, the buffer is replayed (R534). -/
def State.trainedNow (s : State) (ch : Nat) : State :=
  let reading := (s.thermal.sensors.getD (12 + ch) ⟨0, false, 0, none⟩).reading
  let ended (c : DramChannel) : DramChannel :=
    { c with retraining := false, repeated := false, lastTrain := s.et, trainedAt := reading, falls := 0 }
  let t := s.onChannel ch ended
  (if (s.channel ch).alert = .low then t.replay ch ((s.channel ch).issued.map (fun x => x.2)) else t).setReg (0xA010 + ch) 13 s.et

/-- A rank ended outside the margins: repeated once, then FAULT with cause 0x0032. -/
def State.rankFailed (s : State) (ch rank : Nat) : State :=
  if (s.channel ch).repeated then
    let t := s.onChannel ch (fun c => { c with retraining := false, repeated := false })
    ({ t with dev := { t.dev with failedRank := some (ch, rank) } }).faultCause 0x32
  else s.onChannel ch (fun c => { c with repeated := true })

/-- RETRAIN_COMPLETE (R545, R546): one rank of a channel; the last one ends the retraining. -/
def execRetrainComplete (ch rank : Nat) (good : Bool) (s : State) : Host.Outcome State Fault Refusal :=
  .next (s.inTurn (.retrainComplete ch rank good) (if ch < 2 ∧ (s.channel ch).retraining ∧ rank < s.ranks then
      if good = false then s.rankFailed ch rank
      else if rank + 1 = s.ranks then s.trainedNow ch
      else s.onChannel ch (fun c => { c with repeated := false })
    else s))

/-- FAULT_RETRAIN_RETRY (R20, R546): the failed rank is retrained every 1 s; a success takes the cause away. -/
def execFaultRetrainRetry (good : Bool) (s : State) : Host.Outcome State Fault Refusal :=
  .next (match s.dev.failedRank with
    | some (ch, _) =>
      let t := (s.bump (0xA010 + ch) 12).memoryLeaf ch 3
      if good then ({ t with dev := { t.dev with failedRank := none } }).trainedNow ch else t
    | none => s)

end Sys2Proof.Machine
end

