-- ==== Sys2Proof/Machine/Sequencer.lean ====
section
/-!
DEFINITION. The sequencer of a head: how its list advances from item to item, the drain prediction and the derating
factor, line buffer writes, and the head that finishes its part (R24, R63 to R69, R81, R121, R145, R172, R173, R183 to
R188, R460, R462).
-/
namespace Sys2Proof.Machine

/-! ### Drain prediction (R184, R185) -/

/-- Bytes of the bitmap rows of the passes of an item, pass by pass. -/
def HeadCfg.passBytes (c : HeadCfg) (it : Item) : List Nat :=
  match it.body with
  | .furrow _ _ _ _ _ _ _ columns _ => (c.stretches it).map (fun g => popcount 8 g.mask * (4 * rowWords columns))
  | _ => []

/-- Bytes of an item's words. -/
def Item.bytes (it : Item) : Nat := 4 * it.length

/-- Sums of the beginnings of a list. -/
def runningSums : Nat → List Nat → List Nat
  | _, [] => []
  | a, x :: xs => (a + x) :: runningSums (a + x) xs

/-- F of R184: what is present of the items from the n-th on. -/
def HeadCfg.present (c : HeadCfg) (items : List Item) (p : SegHead) (n : Nat) : Nat :=
  let before := items.take n
  p.fetched.countFrom (before.map Item.bytes).sum + p.rows.countFrom (before.map (fun i => (c.passBytes i).sum)).sum

/-- The demand points of the n-th item at a factor: cumulative bytes, and ticks from the boundary (R184). DESIGN CHOICE (log
entry 99): the manual does not say which tick is the start of a FURROW pass; it is the entry of its stretch, where its pre-
heat hold or lead-in begins. -/
def HeadCfg.demands (c : HeadCfg) (items : List Item) (n factor : Nat) (p : Pos) : List (Nat × Nat) :=
  match items[n]? with
  | none => []
  | some it =>
    let tm := c.timing it (items[n + 1]?) none 0 p 0 0 factor
    let own := it.bytes
    let rows := c.passBytes it
    let passes := (runningSums own rows).zip (tm.stretches.map (fun x => x.2.entry / 65536))
    let later := items.drop (n + 1)
    let next := match later.findIdx? (fun i => i.body.takesTime) with
      | none => []
      | some k => [(own + rows.sum + ((later.take (k + 1)).map Item.bytes).sum
          + ((later[k]?).map (fun i => (c.passBytes i).headD 0)).getD 0, tm.finish / 65536)]
    (own, 0) :: passes ++ next

/-- Drain is predicted for the n-th item at a factor (R184). -/
def State.drains (s : State) (h : HeadNo) (g : Segment) (p : SegHead) (n factor : Nat) (at_ : Pos) : Bool :=
  let c := s.cfg h
  let items := g.listOf h
  let slack := s.dramLatency + s.regN (0x4220 + h) 4
  (c.demands items n factor at_).any (fun d =>
    decide (c.present items p n * 625000000 + p.bandwidth * (d.2 - slack) < d.1 * 625000000))

/-- The factors R185 tries, the largest first. -/
def candidates (locked : Bool) : List Nat := if locked then [16, 15, 14, 13, 12, 11, 10, 9, 8] else [16]

/-- The largest passing factor of an item. -/
def State.chooseFactor (s : State) (h : HeadNo) (g : Segment) (p : SegHead) (n : Nat) (it : Item) (at_ : Pos) : Option Nat :=
  (candidates it.par.lineEnergyLock).find? (fun f => !s.drains h g p n f at_)

/-! ### An item begins -/

/-- The counts of a marking item that begins (R171, R178, R181, R186). -/
def State.countItem (s : State) (h : HeadNo) (it : Item) (r : ItemRun) : State :=
  if it.body.marks then
    let t := s.setReg (0x4260 + h) 1 r.factor
    let u := if r.factor < 16 then t.bump (0x4260 + h) 2 else t
    let v := if 0 < r.early then (u.bumpBy (0x4260 + h) 6 r.early).setLeaf (0x2420 + h) 3 else u
    (if it.merges r.factor then v.bump (0x4260 + h) 7 else v).bumpBy (0x4260 + h) 8 r.holdTicks
  else s

/-- Ticks of pre-heat hold among stretches. -/
def holdTicks (sts : List (StretchGeo × StretchTimes)) : Nat := (sts.map (fun x => (x.2.leadIn - x.2.entry) / 65536)).sum

/-- The n-th item of a head's list in time from a fine tick, behind what the head has planned (R121, R132, R144, R145, R171). -/
def State.itemRun (s : State) (h : HeadNo) (g : Segment) (n factor t0 : Nat) (it : Item) : ItemRun :=
  let c := s.cfg h
  let x := (s.head h).path
  let items := g.listOf h
  let fTh := s.thermalFocus h (ceilDiv t0 65536)
  let tm := c.timing it (items[n + 1]?) ((items.drop (n + 1)).find? (fun i => i.body.marks)) fTh (x.posAt t0) (x.focusAt c t0) t0 factor
  let e := (EmitCtx.mk c s.stitch g.layer g.words it factor g.key).edges tm.stretches
  { seg := g.key, item := it.index, start := ceilDiv t0 65536, factor := factor, pieces := tm.pieces
    stretches := tm.stretches.map (fun y => c.stretchOf g.words it y.1 (derated it.par.markSpeed factor) y.2)
    planned := e.1, finish := tm.finish, fOffset := if it.body.usesSet then it.par.fOffset else (x.focusSet c t0).1, fThermal := fTh
    early := e.2, holdTicks := holdTicks tm.stretches }

/-- Checks of a head whose boundary lies before an ET by the time its item begins (R222). -/
def State.lateChecks (s : State) (h : HeadNo) (et : Tick) : Nat → State
  | 0 => s
  | n + 1 =>
    match (s.head h).path.unpassed with
    | some (_, _, st) => if st.boundary s.servoTicks < et then (s.checkEntry h).lateChecks h et n else s
    | none => s

/-- An item planned begins: F_OFFSET and F_th are its own, and it is counted (R145, R171, R186). A check of it whose boundary lies
before an ET is made at once. -/
def State.beginRun (s : State) (h : HeadNo) (g : Segment) (n : Nat) (it : Item) (r : ItemRun) (later : List ItemRun) (et : Tick) :
    State :=
  let begin (x : HeadPath) : HeadPath :=
    { x with
      run := some r, ahead := later, hold := .idle, fOffset := r.fOffset, fThermal := r.fThermal
      items := ⟨r.seg, r.item, r.start, none⟩ :: x.items.filter (fun i => i.stop.all (fun t => decide (r.start < t + 2000000000)))
      parked := x.parked && !it.body.usesSet, overspeedCount := 0 }
  let t := ((s.onPath h begin).setReg (0x4160 + h) 13 r.fThermal).onSeg g.key (fun y => y.onPart h (fun p => { p with next := n + 1 }))
  (t.countItem h it r).lateChecks h et (r.stretches.length + 1)

/-- The n-th item of a head's list begins at a fine tick with a factor. -/
def State.beginItem (s : State) (h : HeadNo) (g : Segment) (n factor t0 : Nat) (it : Item) : State :=
  let t := s.onPath h (fun x => { x with ahead := [] })
  t.beginRun h g n it (t.itemRun h g n factor t0 it) [] (s.et + 1)

/-! ### A head finishes -/

/-- A head finishes its part (R82, R108). -/
def State.finishPart (s : State) (h : HeadNo) (g : Segment) : State :=
  ((s.onSeg g.key (fun y => y.onPart h (fun p => { p with part := .finished, finishEt := s.et }))).onPath h (fun x =>
    { x with seg := none, hold := .idle })).progress g 3 h 0 0

/-- A head holds for a reason. -/
def State.holdFor (s : State) (h : HeadNo) (r : HoldReason) : State := s.onPath h (fun x => { x with hold := r })

/-- A hold for data or drain begins: counted once (R69, R185, R201). -/
def State.holdData (s : State) (h : HeadNo) (r : HoldReason) : State :=
  if (s.head h).path.hold = .data ∨ (s.head h).path.hold = .drain then s.holdFor h r
  else ((s.holdFor h r).bump (0x4260 + h) 3).setLeaf (0x2420 + h) 0

/-! ### The factor of a marking item (R185, R187, R460, R462) -/

/-- A factor order of the PRIMARY for an item, at its ET or before: its KIND (1 a factor, 2 a hold) and VALUE; the newest
counts. -/
def Twin.factorOrder (t : Twin) (seg h item : Nat) (et : Tick) : Option (Nat × Nat) :=
  (t.orders.filterMap (fun o => match o with
    | .plan g k kind i at_ value => if g = seg ∧ k = h ∧ i = item ∧ at_ ≤ et ∧ (kind = 1 ∨ kind = 2) then some (kind, value) else none
    | .state _ _ _ => none)).getLast?

/-- A marking item is due on a head: it begins at the factor chosen, or the head holds. -/
def State.beginMarking (s : State) (h : HeadNo) (g : Segment) (p : SegHead) (n t0 : Nat) (it : Item) : State :=
  let reason : HoldReason := if it.par.lineEnergyLock then .drain else .data
  match s.twin.factorOrder g.id h it.index s.et with
  | some (1, f) =>
    if s.twin.role = .shadow ∧ p.fetched.upTo < (((g.listOf h).take (n + 1)).map Item.bytes).sum then s.goCold 0x0D
    else s.beginItem h g n f t0 it
  | some _ => s.holdData h reason
  | none =>
    if s.twin.role = .shadow then s.holdFor h .drain
    else match s.chooseFactor h g p n it (s.head h).path.pos with
      | some f => (s.beginItem h g n f t0 it).twinLead 0x04 [g.id, h, 1, it.index, s.et, f]
      | none => (s.holdData h reason).twinLead 0x04 [g.id, h, 2, it.index, s.et, 0]

/-! ### From item to item -/

/-- Items begin only while the device is EXPOSING and no pause is pending (R24, R81). -/
def State.itemsRun (s : State) : Bool := s.dev.state == .exposing && !s.dev.pausePending && s.seqRuns

/-- The item planned ahead for an item that is due. -/
def State.plannedAhead (s : State) (h : HeadNo) (g : Segment) (it : Item) : Option ItemRun :=
  ((s.head h).path.ahead.head?).bind (fun r => if r.seg = g.key ∧ r.item = it.index then some r else none)

/-- A head goes on with its list at a fine tick: items that take no time pass at once (R46, R58, R66), a BARRIER and a
missing item's data hold, any other item begins. -/
def State.advance (s : State) (h t0 : Nat) : Nat → State
  | 0 => s
  | fuel + 1 =>
    match (s.head h).path.seg.bind s.seg? with
    | none => s
    | some g =>
      match g.part? h with
      | none => s
      | some p =>
        let skip (t : State) : State := t.onSeg g.key (fun y => y.onPart h (fun q => { q with next := p.next + 1 }))
        match (g.listOf h)[p.next]? with
        | none => s.finishPart h g
        | some it =>
          match s.plannedAhead h g it with
          | some r => s.beginRun h g p.next it r ((s.head h).path.ahead.drop 1) s.et
          | none =>
          if s.itemsRun = false ∧ it.body.takesTime then s.holdFor h .pause
          else match it.body with
            | .param _ => (skip s).advance h t0 fuel
            | .marker id tag => (skip (s.progress g 4 h id tag)).advance h t0 fuel
            | .barrier id _ =>
              (s.onSeg g.key (fun y => y.onPart h (fun q => { q with next := p.next + 1, arrived := q.arrived ++ [id] }))).holdFor h
                (.barrier id)
            | .dwell _ => s.beginItem h g p.next 16 t0 it
            | .jump _ _ => s.beginItem h g p.next 16 t0 it
            | _ => s.beginMarking h g p p.next t0 it

/-- The fine tick from which a head can move: now, or the end of what it did before, which a cut puts into the next frame
(R154). -/
def State.freeFrom (s : State) (h : HeadNo) : Nat := max (s.et * 65536) (s.head h).path.endedAt

/-- A head goes on from now. -/
def State.goOn (s : State) (h : HeadNo) : State :=
  match (s.head h).path.seg.bind s.seg? with
  | some g => s.advance h (s.freeFrom h) ((g.listOf h).length + 1)
  | none => s

/-- The motion of a head's item has ended and every stretch of it has passed its check. -/
def State.itemDone (s : State) (h : HeadNo) (t : Nat) : Bool :=
  match (s.head h).path.run with
  | some r => decide (r.finish ≤ t) && r.unpassed.isNone
  | none => false

/-- An item that has ended is kept: entries of it wait for room in the line buffers, or it ended not long before a fine tick. -/
def ItemRun.kept (r : ItemRun) (t : Nat) : Bool := r.planned.any (fun es => !es.isEmpty) || decide (t ≤ r.finish + 250000 * 65536)

/-- The item in progress ends where its motion ended; what it still planned is written as there is room (R121, R173). -/
def State.endItem (s : State) (h : HeadNo) : State :=
  match (s.head h).path.run with
  | none => s
  | some r => s.onPath h (fun x =>
      { x with
        run := none, pos := x.posAt r.finish, endedAt := r.finish, trail := x.trailWith r.pieces r.finish
        recent := (x.recent ++ [r]).filter (fun q => q.kept r.finish), items := (x.endSpan (ceilDiv r.finish 65536)).items
        records := x.records.map (fun k => if !k.withheld && k.seg == r.seg && k.item == r.item then
          { k with ends := some (ceilDiv r.finish 65536 - 1) } else k) })

/-- The item in progress is complete, and the head goes on from the end of its motion (R121). -/
def State.completeItem (s : State) (h : HeadNo) : State :=
  let t := s.endItem h
  match (t.head h).path.seg.bind t.seg? with
  | some g => t.advance h (t.head h).path.endedAt ((g.listOf h).length + 1)
  | none => t

/-! ### Items planned ahead (R123, R173, R190, R460) -/

/-- The head has finished or abandoned its part of every segment admitted earlier. -/
def State.freeFor (s : State) (h : HeadNo) (g : Segment) : Bool :=
  (s.head h).path.seg.isNone && s.job.segments.all (fun x => !x.unfinished || x.admitNo == 0 || decide (g.admitNo ≤ x.admitNo)
    || ((x.part? h).map (fun p => p.part == .finished || p.part == .abandoned)).getD true)

/-- Every condition of R81 but START_ET, which is an ET to come. -/
def State.mayStartAt (s : State) (h : HeadNo) (g : Segment) (et : Tick) : Bool :=
  (s.itemsRun || (s.head h).path.aheadBegun.any (fun r => r.seg == g.key)) && (g.state == .staged || g.state == .running)
    && ((g.part? h).map (fun p => p.part == .waiting)).getD false
    && decide (g.startEt ≤ et) && s.recoatLayer == some g.layer && s.freeFor h g

/-- Every condition of R81. -/
def State.mayStart (s : State) (h : HeadNo) (g : Segment) : Bool := s.mayStartAt h g s.et

/-- What a head does next after all it has planned: the segment, the place in the list, and the fine tick. After its last item that is
the item behind it; at a barrier whose ET is fixed and whose heads have all arrived, the item behind the barrier; between
segments, the first item of the one that starts at START_ET. -/
def State.planPoint (s : State) (h : HeadNo) : Option (Segment × Nat × Nat) :=
  let x := (s.head h).path
  match x.coming.getLast? with
  | some r => (s.seg? r.seg).map (fun g => (g, g.placeOf h r.item + 1, r.finish))
  | none =>
    match x.seg.bind s.seg?, x.barrierHeld with
    | some g, some id =>
      let heads := ((g.items.findSome? (fun i => i.body.barrierOf.bind (fun b => if b.1 = id then some b.2 else none)))).getD 0
      let et := ((g.part? h).bind (fun p => storeGet id p.barriers)).getD 0
      if s.et < et ∧ (bitList 32 heads).all (fun k => (g.part? k).any (fun p => p.arrived.contains id || p.part == .abandoned
          || p.part == .finished)) then
        (g.part? h).map (fun p => (g, p.next, max (et * 65536) x.endedAt))
      else none
    | some _, none => none
    | none, _ =>
      (s.job.segments.find? (fun g => s.mayStartAt h g g.startEt && decide (s.et < g.startEt))).map (fun g =>
        (g, 0, max (g.startEt * 65536) x.endedAt))

/-- The first item from a place in a head's list on that takes time, none before a BARRIER or at the end. -/
def timedFrom (items : List Item) (n : Nat) : Option (Nat × Item) :=
  let k := n + (items.drop n).findIdx (fun i => i.body.takesTime || i.body.barrierOf.isSome)
  (items[k]?).bind (fun it => if it.body.takesTime then some (k, it) else none)

/-- A PRIMARY decides the factor of a marking item, or a hold, for the boundary at which it would begin, and tells its partner
(R460). -/
def State.orderFactor (s : State) (h : HeadNo) (g : Segment) (n : Nat) (it : Item) (at_ : Pos) (b : Tick) : State :=
  match g.part? h with
  | none => s
  | some p =>
    match s.chooseFactor h g p n it at_ with
    | some f => s.order g.id h 1 it.index b f f
    | none => s.order g.id h 2 it.index b 0 0

/-- The factor at which an item can be planned ahead: full speed where no drain is predicted, another only when its boundary lies
before a horizon. In a pair it is the PRIMARY's order. -/
def State.factorAhead (s : State) (h : HeadNo) (g : Segment) (n : Nat) (it : Item) (at_ : Pos) (b horizon : Tick) : Option Nat :=
  if it.body.marks = false then some 16
  else match s.twin.factorOrder g.id h it.index b, g.part? h with
    | some (1, f), some p =>
      if s.twin.role = .shadow ∧ p.fetched.upTo < (((g.listOf h).take (n + 1)).map Item.bytes).sum then none else some f
    | some _, _ => none
    | none, some p =>
      if s.twin.role = .primary ∨ s.twin.role = .shadow then none
      else (s.chooseFactor h g p n it at_).bind (fun f => if f = 16 ∨ b < horizon then some f else none)
    | none, none => none

/-- One more item planned on a head, when its boundary is near: within a servo period and 34 frames, in a PRIMARY within 2,500 ticks,
or before a horizon. DESIGN CHOICE (log entry 105): the manual has entries written 32 frames ahead (R173) and decides at the boundary
(R184) or 2,500 ticks before (R460); an item is planned as soon as its decision can no longer change. -/
def State.planNext (s : State) (h : HeadNo) (horizon : Tick) : State :=
  match s.planPoint h with
  | none => s
  | some (g, n0, t0) =>
    match timedFrom (g.listOf h) n0 with
    | none => s
    | some (n, it) =>
      let b := ceilDiv t0 65536
      let at_ := (s.head h).path.posAt t0
      if horizon ≤ b ∧ s.et + s.servoTicks + 4250 < b then s
      else
        let t := if s.twin.role = .primary ∧ it.body.marks ∧ s.twin.factorOrder g.id h it.index b = none ∧ (b ≤ s.et + 2500 ∨ b < horizon) then
          s.orderFactor h g n it at_ b else s
        match t.factorAhead h g n it at_ b horizon with
        | none => t
        | some f => t.onPath h (fun x => { x with ahead := x.ahead ++ [t.itemRun h g n f t0 it] })

/-- Items planned ahead while one more can be. -/
def State.planItems (s : State) (h : HeadNo) (horizon : Tick) : Nat → State
  | 0 => s
  | n + 1 =>
    let t := s.planNext h horizon
    if (t.head h).path.ahead.length = (s.head h).path.ahead.length then t else t.planItems h horizon n

/-- Items planned ahead on a head that executes its list with its link in operation (R363). -/
def State.planAhead (s : State) (h : HeadNo) (horizon : Tick) : State :=
  if s.itemsRun ∧ ((s.head h).link.state = .operation ∨ s.twin.role = .shadow) then s.planItems h horizon 64 else s

/-! ### Line buffers (R172, R173, R188) -/

/-- KIND of R172. -/
def EdgeKind.code : EdgeKind → Nat
  | .on => 0
  | .off => 1
  | .level => 2
  | .preheatOn => 3

/-- The 64 bits of an entry (R172). -/
def Edge.bytes (e : Edge) : List Byte := leBytes 4 (e.power + e.kind.code * 2 ^ 29) ++ leBytes 4 e.et

/-- A FURROW pass of the item in progress lacks a bitmap row (R188). -/
def State.passShort (s : State) (h : HeadNo) (r : ItemRun) (k : Nat) : Bool :=
  match s.seg? r.seg with
  | none => false
  | some g =>
    match g.part? h, s.itemBy r.seg r.item with
    | some p, some it =>
      let c := s.cfg h
      let rows := c.passBytes it
      let before := (((g.listOf h).takeWhile (fun i => i.index != r.item)).map (fun i => (c.passBytes i).sum)).sum
      !rows.isEmpty && !p.rows.covers (before + (rows.take k).sum) (before + (rows.take (k + 1)).sum)
    | _, _ => false

/-- The records of a pass withheld, from its first event to its last (R116, R188). -/
def HeadPath.passRecords (x : HeadPath) (h : HeadNo) (r : ItemRun) (k : Nat) : List DefectRecord :=
  let mine := r.planned.map (fun es => es.filter (fun e => e.stretch == k))
  let ets := mine.flatMap (fun es => es.map (fun e => e.et))
  let first := ets.foldl min (ets.headD 0)
  (spansOf first (ets.foldl max 1 - 1)).map (fun p =>
    let es := mine.map (fun es => energyBetween (fun _ => true) p.1 (p.2 + 1) 0 BeamNow.dark es)
    { cause := 0x03, stretch := some k, head := h, mask := energyMask es, withheld := true, seg := r.seg, item := r.item, detail := r.factor
      etStart := p.1, etEnd := p.2, start := x.unitAt p.1, finish := x.unitAt p.2, energy := (es.sum : Nat), reported := false, active := 0
      ends := none })

/-- A whole pass withheld: booked, recorded under cause 0x03 with DETAIL S, counted, and the promise breaks (R188); a
SHADOW becomes COLD (R462). -/
def State.withholdPass (s : State) (h : HeadNo) (r : ItemRun) (k : Nat) : State :=
  if s.twin.role = .shadow then s.goCold 0x0D
  else
    let mine (es : List Edge) : List Edge := es.filter (fun e => e.stretch == k)
    let energy := r.planned.map (fun es => energyFrom 0 0 (mine es))
    let x := (s.head h).path
    let t := (s.bookAll r.seg h (energy.map Tally.lost)).onItem h r (fun q =>
      { q.onStretch k (fun y => { y with withheld := true }) with planned := q.planned.map (fun es => es.filter (fun e => e.stretch != k)) })
    let u := (x.passRecords h r k).foldl State.writeDefect t
    ((u.bump (0x4260 + h) 4).setLeaf (0x2420 + h) 1).breakPromise r.seg 0x03 h r.item r.factor

/-- The next entry to write of a beamlet: its item, the entry and those behind it. -/
def HeadPath.nextEntry (x : HeadPath) (b : Nat) : Option (ItemRun × Edge × List Edge) :=
  x.runs.findSome? (fun r => match r.planned.getD b [] with
    | e :: rest => some (r, e, rest)
    | [] => none)

/-- The next entry of a beamlet moves into its line buffer, in its place there, when its stretch has passed its entry check, there is
room, and the frame that holds it begins within 2^30 ticks (R172, R173, R174); an entry due in a frame already assembled takes
effect in the first that is not. -/
def State.writeEdge (s : State) (h b : Nat) : State :=
  let x := (s.head h).path
  match x.nextEntry b with
  | none => s
  | some (r, e, rest) =>
    match r.stretches[e.stretch]? with
    | none => s
    | some st =>
      if st.passed = false ∨ 4096 ≤ (x.buffers.getD b []).length ∨ s.et + 2 ^ 30 < e.et / 125 * 125 then s
      else if st.withheld = false ∧ s.passShort h r e.stretch then s.withholdPass h r e.stretch
      else
        let put := { e with et := max e.et x.bookedTo }
        let t := s.onPath h (fun y => { y.onItem r.seg r.item (fun q => { q with planned := q.planned.set b rest }) with
          buffers := y.buffers.modify b (placeEdge put) })
        if s.paired then t.onSeg r.seg (fun g => { g with entries := g.entries ++ e.bytes }) else t

/-- Entries of a beamlet due before an ET moved into its line buffer. -/
def State.writeEdges (s : State) (h b : Nat) (et : Tick) : Nat → State
  | 0 => s
  | n + 1 =>
    match (s.head h).path.nextEntry b with
    | some (_, e, _) => if e.et < et then (s.writeEdge h b).writeEdges h b et n else s
    | none => s

end Sys2Proof.Machine
end

