-- ==== Sys2Proof/Machine/Frame.lean ====
section
/-!
DEFINITION. What a downlink frame holds: the emission of its 125 ticks, its slot, its beamlet records and trains, and its
bytes (R111, R172 to R176, R317, R328, R334 to R349).
-/
namespace Sys2Proof.Machine

/-! ### Emission over a frame -/

/-- Emission of one beamlet over an interval, and the suppression in force on it. -/
structure BeamSpan where
  beam : Nat
  first : Tick
  last : Tick
  now : BeamNow
  cut : Option Suppression
  deriving DecidableEq, Repr

/-- The suppression in force on an emission. -/
def HeadPath.cutOf (x : HeadPath) (n : BeamNow) : Option Suppression :=
  x.suppressed.find? (fun u => u.seg == n.seg && u.item == n.item && (u.stretch == none || u.stretch == some n.stretch))

/-- Spans of emission of one beamlet from a tick, and what it emits at the end. -/
def spansFrom (cut : BeamNow → Option Suppression) (b : Nat) (stop : Tick) : Tick → BeamNow → List Edge → List BeamSpan × BeamNow
  | t, n, [] => (if t < stop ∧ 0 < n.power then [⟨b, t, stop, n, cut n⟩] else [], n)
  | t, n, e :: rest =>
    let r := spansFrom cut b stop (max t e.et) e.begins rest
    (if t < e.et ∧ 0 < n.power then ⟨b, t, e.et, n, cut n⟩ :: r.1 else r.1, r.2)

/-- The emission of beamlet b in the frame that begins at an ET, and after it. -/
def HeadPath.beamSpans (x : HeadPath) (start : Tick) (b : Nat) : List BeamSpan × BeamNow :=
  spansFrom x.cutOf b (start + 125) start (x.beams.getD b BeamNow.dark)
    ((x.buffers.getD b []).filter (fun e => decide (e.et < start + 125)))

/-- The emission of the head in the frame. -/
def HeadPath.frameSpans (x : HeadPath) (start : Tick) : List BeamSpan := (List.range 8).flatMap (fun b => (x.beamSpans start b).1)

/-- CORR of a power correction (R317). -/
def corrOf (u : Int) : Int := (u + 16384) / 32768

/-- The commanded word (R317); PREHEAT_ON emission is not scaled. -/
def BeamNow.word (n : BeamNow) (corr : Int) : Nat :=
  if n.preheat then n.power else min 65535 (((n.power : Int) * (32768 + corr) + 16384) / 32768).toNat

/-- What a span books: p, c, d, w of R111. Emission with EN 0 is suppressed. -/
def BeamSpan.tally (x : BeamSpan) (on : Bool) (corr : Int) : Tally :=
  let ticks : Int := (x.last - x.first : Nat)
  let p := x.now.power * ticks
  if on && x.cut.isNone then ⟨p, x.now.word corr * ticks - p, x.now.word corr * ticks, 0⟩ else ⟨p, 0, 0, p⟩

/-! ### Edges as sent -/

/-- Edges with the suppressed emission turned off (R189, R229). -/
def effectiveFrom (cut : BeamNow → Option Suppression) : (on : Bool) → List Edge → List Edge
  | _, [] => []
  | on, e :: rest =>
    let lit := decide (0 < e.begins.power) && (cut e.begins).isNone
    if lit then (if e.kind = .level && !on then { e with kind := .on } else e) :: effectiveFrom cut true rest
    else if on then { e with kind := .off, power := 0 } :: effectiveFrom cut false rest
    else effectiveFrom cut false rest

/-- The effective edges of a beamlet from a frame on. -/
def HeadPath.effective (x : HeadPath) (b : Nat) : List Edge :=
  let n := x.beams.getD b BeamNow.dark
  effectiveFrom x.cutOf (decide (0 < n.power) && (x.cutOf n).isNone) (x.buffers.getD b [])

/-! ### Trains (R345 to R348) -/

/-- T_k of R347. -/
def Train.startOf (t : Train) (b k : Nat) : Int := (t.base : Int) + t.delays.getD b 0 + (roundDivNat (k * t.n) t.m : Nat)

/-- The elements of a beamlet that start in an interval. -/
def Train.within (t : Train) (b : Nat) (a e : Tick) : List Nat :=
  (List.range t.count).filter (fun k => decide ((a : Int) ≤ t.startOf b k) && decide (t.startOf b k < e))

/-- The weight of an element. -/
def Train.weightAt (t : Train) (b k : Nat) : Nat := (t.weights.getD b []).getD k 32

/-- The weight before an element. -/
def Train.weightBefore (t : Train) (b : Nat) : Nat → Nat
  | 0 => 32
  | k + 1 => t.weightAt b k

/-- A train has all its messages sent and beamlet b takes part. -/
def Train.serves (t : Train) (b : Nat) : Bool := t.unsent == 0 && t.beamlets.testBit b

/-- An edge is one that a train makes (R345): pre-heat stands before the train. -/
def Train.makes (t : Train) (b : Nat) (e : Edge) : Bool :=
  t.serves b && e.seg == t.seg && e.item == t.item && e.stretch == t.stretch && decide (t.startOf b 0 ≤ e.et)

/-- The six messages of a train (R346), with their slot types. -/
def Train.messages (t : Train) : List (List Byte) :=
  let no := t.number * 64
  let pad (bs : List Byte) : List Byte := padTo 16 bs
  let pair (b : Nat) : List Byte := byteOf 6 :: pad ([byteOf (no + b * 8), 0] ++ leBytes 2 (t.powers.getD b 0) ++ leBytesInt 4 (t.delays.getD b 0)
    ++ leBytes 2 (t.powers.getD (b + 1) 0) ++ leBytesInt 4 (t.delays.getD (b + 1) 0))
  [ byteOf 4 :: pad ([byteOf (no + (if t.pixels then 2 else 1) * 16), byteOf t.factor, byteOf t.beamlets] ++ leBytes 4 t.base ++ leBytes 6 t.n
      ++ leBytes 3 t.m),
    byteOf 5 :: pad ([byteOf no, 0] ++ leBytes 2 t.onTicks ++ leBytes 4 t.count), pair 0, pair 2, pair 4, pair 6 ]

/-- The power levels that edges make, in order: each tick at which the word changes, with the word from then on. -/
def levelsOf : Nat → List (Int × Nat) → List (Int × Nat)
  | _, [] => []
  | p, x :: rest => if x.2 = p then levelsOf p rest else x :: levelsOf x.2 rest

/-- The word of an element of beamlet b (R348). -/
def Train.word (t : Train) (b k : Nat) : Nat :=
  let p := t.powers.getD b 0
  let planned := if t.pixels then roundDivNat (p * (t.codes.getD b []).getD k 0) 15 else p
  roundDivNat (roundDivNat (planned * t.factor) 16 * t.weightAt b k) 32

/-- The levels of a train on beamlet b (R347, R348). -/
def Train.levels (t : Train) (b : Nat) : List (Int × Nat) :=
  let ks := List.range t.count
  let on := max 16 (roundDivNat (t.onTicks * 16) t.factor)
  levelsOf 0 (if t.pixels then ks.map (fun k => (t.startOf b k, t.word b k)) ++ [(t.startOf b t.count, 0)]
    else ks.flatMap (fun k => [(t.startOf b k, t.word b k), (t.startOf b k + on, 0)]))

/-- Every event of beamlet b in the stretch is one that the train makes, and the pre-heat is over before it (R345). -/
def Train.fits (t : Train) (r : ItemRun) (b : Nat) : Bool :=
  let es := (r.planned.getD b []).filter (fun e => e.stretch == t.stretch)
  let main := es.filter (fun e => decide (t.startOf b 0 ≤ e.et))
  let before := (es.filter (fun e => decide ((e.et : Int) < t.startOf b 0))).getLast?
  main.all (fun e => e.kind != .preheatOn) && before.all (fun e => e.kind == .off)
    && levelsOf 0 (main.map (fun e => ((e.et : Int), e.begins.power))) == t.levels b

/-- The train for the beamlets that it fits, if it fits any. -/
def Train.fitted (t : Train) (r : ItemRun) : Option Train :=
  let mask := ((bitList 8 t.beamlets).filter (t.fits r)).foldl setBit 0
  if mask = 0 then none else some { t with beamlets := mask }

/-- The train of a stretch that R345 allows: an unmerged POINTS item or a FURROW pass, for the beamlets whose every event follows
R347 and R348. -/
def trainOf (c : HeadCfg) (stc : StitchCfg) (layer : Nat) (words : List Nat) (it : Item) (r : ItemRun) (k number : Nat) (st : Stretch) :
    Option Train :=
  match (c.stretches it)[k]? with
  | none => none
  | some g =>
    let base := (st.mark + 32768) / 65536
    let common : Train :=
      { number := number, pixels := false, factor := r.factor, beamlets := g.mask, base := base, n := it.par.pointPeriod * 16, m := r.factor
        onTicks := 0, count := 0, powers := (List.range 8).map it.par.powerOf, delays := st.delays, codes := [], weights := [], stretch := k
        item := it.index, seg := r.seg, unsent := 6 }
    match it.body with
    | .points _ _ _ _ onTicks _ =>
      if it.merges r.factor then none
      else
        let n := pointCount (pathLength g.path) it.par.markSpeed it.par.pointPeriod
        let spot (b ticks : Nat) : Pos :=
          addPos (alongDir (firstPos g.path) (startDir g.path) (roundDiv (ticks * st.speed * 65536) 156250000)) (c.spotShift (startDir g.path) b)
        Train.fitted (r := r) { common with
          onTicks := onTicks, count := n
          weights := (List.range 8).map (fun b => (List.range n).map (fun i =>
            stc.weight layer it.head (spot b (roundDivNat (i * it.par.pointPeriod * 16) r.factor)))) }
    | .furrow _ _ _ _ angle pitch _ columns bitmap =>
      match g.pass with
      | none => none
      | some pass =>
        let lanes := c.lanes angle pitch
        let row (b : Nat) : Nat := (pass.base + ((lanes.find? (fun l => l.1 == b)).map (fun l => l.2.1)).getD 0).toNat
        Train.fitted (r := r) { common with
          pixels := true, n := pitch * 156250000, m := st.speed, count := columns
          codes := (List.range 8).map (fun b => (List.range columns).map (fun i =>
            pixelAt words bitmap columns (row b) (if g.reversed then columns - 1 - i else i)))
          weights := (List.range 8).map (fun b => (List.range columns).map (fun (i : Nat) =>
            stc.weight layer it.head (addPos (lerpPos (firstPos g.path) (lastPos g.path) (2 * i + 1) (2 * columns))
              (c.spotShift (startDir g.path) b)))) }
    | _ => none

/-! ### Beamlet records (R340 to R344) -/

/-- A record: the beamlet and the slot it addresses, its bits and their number, and the edge it sends if it is an EVENT. -/
structure Record where
  beam : Nat
  slot : Nat
  value : Nat
  width : Nat
  edge : Option Edge
  /-- for a WEIGHT or CODES record of a train, which one of its slot: 0 CODES, n + 1 the n-th WEIGHT -/
  part : Option Nat
  deriving DecidableEq, Repr

/-- The 9-bit header. -/
def recordHead (type b ahead : Nat) : Nat := type + 8 * b + 64 * ahead

/-- KIND of an EVENT record (R341). -/
def EdgeKind.wire : EdgeKind → Nat
  | .off => 0
  | .on => 1
  | .level => 2
  | .preheatOn => 3

/-- An EVENT record. -/
def eventRecord (f b : Nat) (e : Edge) : Record :=
  let slot := e.et / 125
  let head := recordHead 1 b (slot - f) + 512 * (e.et % 125) + 65536 * e.kind.wire
  if e.kind = .off then ⟨b, slot, head, 18, some e, none⟩ else ⟨b, slot, head + 262144 * e.power, 34, some e, none⟩

/-- A CLEAR record of the frame's own slot. -/
def clearRecord (f b : Nat) : Record := ⟨b, f, recordHead 4 b 0, 9, none, none⟩

/-- The records of a train for a beamlet and a slot: WEIGHT where the weight changes, and CODES (R341, R348). -/
def Train.records (t : Train) (f b slot : Nat) : List Record :=
  let ks := t.within b (125 * slot) (125 * slot + 125)
  let weights := (ks.zip (List.range ks.length)).filterMap (fun (k, i) =>
    if t.weightAt b k = t.weightBefore b k then none
    else some (Record.mk b slot (recordHead 3 b (slot - f) + 512 * i + 4096 * t.weightAt b k) 18 none (some (i + 1))))
  let codes := ks.map (fun k => (t.codes.getD b []).getD k 0)
  let packed := (codes.zip (List.range codes.length)).foldl (fun a x => a + x.1 * 2 ^ (9 + 4 * x.2)) (recordHead 2 b (slot - f))
  weights ++ (if t.pixels && !ks.isEmpty then [⟨b, slot, packed, 9 + 4 * ks.length, none, some 0⟩] else [])

/-- Records taken in order while the area and the 48 outstanding of each beamlet have room (R340, R344). -/
def takeRecords (f : Nat) : (room : Nat) → (outstanding : List Nat) → List Record → List Record
  | _, _, [] => []
  | room, out, r :: rest =>
    let n := out.getD r.beam 0
    if room < r.width ∨ (f < r.slot ∧ 48 ≤ n) then []
    else r :: takeRecords f (room - r.width) (if f < r.slot then out.set r.beam (n + 1) else out) rest

/-- The bits of records in sequence. -/
def packRecords : Nat → List Record → Nat
  | _, [] => 0
  | at_, r :: rest => r.value * 2 ^ at_ + packRecords (at_ + r.width) rest

/-- A head whose emission the records so far no longer describe: an edge already sent is no longer planned, a beamlet that is
lit would stay lit, or a train it takes part in was cut. -/
def Head.mustClear (x : Head) (f b : Nat) : Bool :=
  let eff := x.path.effective b
  let sent := (x.link.sentEdges.filter (fun e => e.1 == b && decide (125 * f ≤ e.2.et))).map (·.2)
  let n := x.path.beams.getD b BeamNow.dark
  let stale := sent.any (fun e => !eff.contains e)
  let cut := decide (0 < n.power) && (x.path.cutOf n).isSome && !sent.any (fun e => decide (e.et = 125 * f))
  let train := x.link.trains.any (fun t => t.serves b && decide ((125 * f : Int) ≤ t.startOf b (t.count - 1))
    && ((x.path.cutOf ⟨1, false, t.seg, t.item, t.stretch⟩).isSome || !x.path.runs.any (fun r => r.seg == t.seg && r.item == t.item)))
  stale || cut || train || x.link.clears.testBit b

/-- The records a frame may carry for a beamlet and a slot: its events not sent yet and not made by a train, then its
train's. -/
def Head.slotRecords (x : Head) (f slot b : Nat) (cleared : Bool) : List Record :=
  let eff := (x.path.effective b).filter (fun e => e.et / 125 == slot)
  let sent := if cleared then [] else (x.link.sentEdges.filter (fun e => e.1 == b)).map (·.2)
  let parts := if cleared then [] else x.link.sentParts
  let trains := if cleared then [] else x.link.trains.filter (fun t => t.serves b)
  (eff.filter (fun e => !sent.contains e && !trains.any (fun t => t.makes b e))).map (eventRecord f b)
    ++ (trains.flatMap (fun t => t.records f b slot)).filter (fun r => !r.part.any (fun n => parts.contains (b, slot, n)))

/-- A beamlet that goes on emitting through a CLEAR is turned on again at the frame's first tick. -/
def Head.relight (x : Head) (f b : Nat) : List Record :=
  let n := x.path.beams.getD b BeamNow.dark
  if 0 < n.power ∧ (x.path.cutOf n).isNone ∧ (x.path.effective b).all (fun e => e.et != 125 * f) then
    [eventRecord f b ⟨125 * f, if n.preheat then .preheatOn else .on, n.power, n.seg, n.item, n.stretch⟩] else []

/-- Records of a beamlet outstanding for slots after a frame (R344). -/
def HeadLink.outstanding (l : HeadLink) (f b : Nat) : Nat :=
  l.sentEdges.countP (fun e => e.1 == b && decide (125 * f + 125 ≤ e.2.et)) + l.sentParts.countP (fun p => p.1 == b && decide (f < p.2.1))

/-- The records of frame f: CLEARs first, then slot by slot up to seven ahead, those of the nearest slot first (R344). -/
def Head.frameRecords (x : Head) (f : Nat) : List Record :=
  let clears := (List.range 8).filter (x.mustClear f)
  let outstanding := (List.range 8).map (fun b => if clears.contains b then 0 else x.link.outstanding f b)
  takeRecords f 424 outstanding
    (clears.flatMap (fun b => clearRecord f b :: x.relight f b)
      ++ (List.range 8).flatMap (fun a => (List.range 8).flatMap (fun b => x.slotRecords f (f + a) b (clears.contains b))))

/-! ### The slot (R337 to R339) -/

/-- The rate that frame f announces. -/
def Engine.announced (e : Engine) (f : Nat) : Nat := e.rateChanges.foldl (fun r c => if c.frame ≤ f then c.rate else r) e.rate

/-- Slots of R337. -/
inductive SlotChoice where
  | none
  | setPoint
  | time
  | camera (bytes : List Byte)
  | train (bytes : List Byte)
  | negotiate
  deriving DecidableEq, Repr

/-- The slot of frame f by the precedence of R338 and R339. -/
def slotChoice (l : HeadLink) (e : Engine) (servoFirst : Bool) (f : Nat) : SlotChoice :=
  if servoFirst then .setPoint
  else if e.rateChanges.any (fun c => c.frame == f) then .time
  else match l.camera with
    | bs :: _ => .camera bs
    | [] =>
      if l.timeSent ≠ some (l.delay, e.announced f) ∨ 255 ≤ l.sinceTime then .time
      else if l.state = .negotiate then .negotiate
      else match l.trainQueue with
        | m :: _ => .train m
        | [] => .none

/-- SLOT_TYPE and the sixteen bytes of a slot (R337, R359). -/
def SlotChoice.bytes (c : SlotChoice) (l : HeadLink) (e : Engine) (group : List Byte) (h f : Nat) : Nat × List Byte :=
  match c with
  | .none => (0, padTo 16 [])
  | .setPoint => (1, padTo 16 group)
  | .time =>
    let rate := e.announced f
    (2, padTo 16 (leBytes 8 (125 * f) ++ leBytes 2 l.delay ++ [byteOf rate, byteOf (if rate = 2 then h % 2 else h % 5), byteOf h]))
  | .camera bs => (3, padTo 16 bs)
  | .train (t :: bs) => (t.toNat, padTo 16 bs)
  | .train [] => (0, padTo 16 [])
  | .negotiate => (7, padTo 16 (leBytes 2 0x0100 ++ leBytes 2 0x0100 ++ leBytes 2 l.version))

/-- The bytes of a frame, CRC included (R328, R334). -/
def frameBytes (owner : Bool) (slot : Nat × List Byte) (en f : Nat) (corr : List (Int × Nat)) (area : Nat) : List Byte :=
  let body := [byteOf (128 * flag owner + slot.1), byteOf en] ++ leBytes 2 (f % 65536)
    ++ corr.flatMap (fun c => leBytesInt 2 c.1 ++ [byteOf c.2]) ++ slot.2 ++ leBytes 53 area
  body ++ leBytes 2 (crc16 body)

/-- AGE of an output (R317). -/
def ageOf (start sample : Tick) : Nat := min 255 ((etSub start sample + 7) / 8)

end Sys2Proof.Machine
end

