-- ==== Sys2Proof/Machine/Downlink.lean ====
section
/-!
DEFINITION. The assembly of a downlink frame: what it books, what it records, what it sends, and the state it leaves (R111,
R114, R116, R123, R172 to R176, R306, R313, R317, R330 to R348, R361).
-/
namespace Sys2Proof.Machine

/-! ### Set-point groups (R123, R152) -/

/-- A head that has executed no item stands at its park position (R152). -/
def HeadPath.parkedAt (x : HeadPath) (park : Pos) : HeadPath := if x.parked ∧ x.coming = [] then { x with pos := park } else x

/-- The same with the configured position. -/
def State.park (s : State) (h : HeadNo) : State :=
  s.onPath h (fun x => x.parkedAt (finePos (s.reg (0x4100 + h) 11) (s.reg (0x4100 + h) 12)))

/-- The group of servo period k formed for a head, once (R123, R151); a link that trains sends the park position (R152). -/
def State.formGroup (s : State) (h : HeadNo) (k : Nat) : State :=
  if ((s.head h).path.setPoints.head?.map (fun g => g.k)) = some k then s
  else
    let s := if (s.head h).link.state = .operation then s else s.park h
    let x := (s.head h).path
    let c := s.cfg h
    let ts := s.servoTicks
    let g := x.group c k ts
    let t := (k + 1) * ts * 65536
    let n := clampCount (c.words (x.posAt t) (x.focusAt c t))
    let u := unitPos (x.posAt t)
    let a := (s.onPath h (fun y => y.withGroup g)).setReg (0x4160 + h) 1 u.1 |>.setReg (0x4160 + h) 2 u.2
    let b := if n = 0 then a else (a.bumpBy (0x4160 + h) 12 n).setLeaf (0x2400 + h) 2
    if s.paired then match x.seg with
      | some key => b.onSeg key (fun y => { y with groups := y.groups ++ g.bytes (ts / 125) })
      | none => b
    else b

/-! ### Corrections in force (R313, R315, R317) -/

/-- The outputs that apply from a frame's start taken into use. -/
def Channel.applyOutputs (c : Channel) (start : Tick) : Channel :=
  (c.next.filter (fun o => decide (o.1 ≤ start))).foldl (fun x o => { x with u := o.2.1, sampleOf := some o.2.2 })
    { c with next := c.next.filter (fun o => decide (start < o.1)) }

/-- CORR and AGE of each beamlet; where no output has been in use AGE is a free value. -/
def Head.corrections (x : Head) (start : Tick) (draw : Nat) : List (Int × Nat) :=
  (x.channels.zip (List.range 8)).map (fun (c, b) => (corrOf c.u, match c.sampleOf with
    | some t => ageOf start t
    | none => Config.freeNat (draw + b) % 256))

/-! ### Books of a frame (R111, R361) -/

/-- The frame booked to its segments; a SHADOW books as its partner does. -/
def State.bookFrame (s : State) (h : HeadNo) (spans : List BeamSpan) (on : Bool) (corr : List (Int × Nat)) : State :=
  spans.foldl (fun t x => t.book x.now.seg h x.beam (x.tally on ((corr.getD x.beam (0, 0)).1))) s

/-- The emission of a frame as it is booked to DELIVERED. -/
def litSpans (spans : List BeamSpan) (on : Bool) (corr : List (Int × Nat)) : List Lit :=
  spans.filterMap (fun x => if on && x.cut.isNone then
    some ⟨x.beam, x.first, x.last, x.now.word ((corr.getD x.beam (0, 0)).1)⟩ else none)

/-- What is kept of a frame sent until its slot is reported; a segment on the head is named even where it emits nothing. -/
def slotBooks (spans : List BeamSpan) (on : Bool) (corr : List (Int × Nat)) (seg : Option Nat) : List SlotBook :=
  (spans.filterMap (fun x =>
    let d := (x.tally on ((corr.getD x.beam (0, 0)).1)).delivered
    if d = 0 then none else some ⟨x.beam, x.now.seg, x.now.item, d⟩))
    ++ (match seg with
        | some key => [⟨0, key, 0xFFFF, 0⟩]
        | none => [])

/-! ### Withheld stretches (R114, R116) -/

/-- A record is an open one of a suppression: of its item, or of the one stretch that it is confined to. -/
def DefectRecord.isOf (r : DefectRecord) (u : Suppression) : Bool :=
  r.withheld && !r.reported && r.cause == u.cause && r.seg == u.seg && r.item == u.item && r.stretch == u.stretch

/-- A record with a suppressed span added. -/
def DefectRecord.withSpan (r : DefectRecord) (x : HeadPath) (sp : BeamSpan) : DefectRecord :=
  { r with
    mask := setBit r.mask sp.beam, energy := r.energy + (sp.now.power * (sp.last - sp.first) : Nat)
    etStart := min r.etStart sp.first, etEnd := max r.etEnd (sp.last - 1)
    start := if sp.first < r.etStart then x.unitAt sp.first else r.start
    finish := if r.etEnd < sp.last - 1 then x.unitAt (sp.last - 1) else r.finish }

/-- A record of a suppression that begins at a tick and holds nothing yet. -/
def Suppression.opens (u : Suppression) (x : HeadPath) (h : HeadNo) (at_ : Tick) : DefectRecord :=
  { cause := u.cause, stretch := u.stretch, head := h, mask := 0, withheld := true, seg := u.seg, item := u.item, detail := u.detail
    etStart := at_, etEnd := at_, start := x.unitAt at_, finish := x.unitAt at_, energy := 0, reported := false, active := 0, ends := none }

/-- The records of a head with a suppressed span noted: in the open record of its suppression, or in a new one; behind the 65,536th
frame of a record the new one begins with the next frame (R116). -/
def HeadPath.noteCut (x : HeadPath) (h : HeadNo) (sp : BeamSpan) (u : Suppression) : HeadPath :=
  let takes (r : DefectRecord) : Bool := r.isOf u && decide (sp.first ≤ lastOfRecord r.etStart)
  if x.records.any takes then { x with records := x.records.map (fun r => if takes r then r.withSpan x sp else r) }
  else
    let at_ := match (x.records.filter (fun r => r.isOf u)).getLast? with
      | some r => lastOfRecord r.etStart + 1
      | none => sp.first
    { x with records := x.records ++ [(u.opens x h at_).withSpan x sp] }

/-- Every suppressed span of a frame noted. -/
def HeadPath.noteCuts (x : HeadPath) (h : HeadNo) (spans : List BeamSpan) : HeadPath :=
  spans.foldl (fun y sp => match sp.cut with
    | some u => y.noteCut h sp u
    | none => y) x

/-- Work is still planned, buffered or lit on a head: an item, or one stretch of it. -/
def HeadPath.holdsWork (x : HeadPath) (seg item : Nat) (stretch : Option Nat) : Bool :=
  let mine (g i k : Nat) : Bool := g == seg && i == item && (stretch == none || stretch == some k)
  x.buffers.any (fun es => es.any (fun e => mine e.seg e.item e.stretch))
    || x.beams.any (fun n => decide (0 < n.power) && mine n.seg n.item n.stretch)
    || x.runs.any (fun r => r.planned.any (fun es => es.any (fun e => mine e.seg e.item e.stretch)))
    || (stretch == none && x.coming.any (fun r => r.seg == seg && r.item == item))

/-- Suppressions and records whose work is over come to an end (R116, R190); those of the control engine once the samples of
their item are in (R314). -/
def State.endCuts (s : State) (h : HeadNo) : State :=
  let t := s.onPath h (fun x => { x with suppressed := x.suppressed.filter (fun u => x.holdsWork u.seg u.item u.stretch) })
  let x := (t.head h).path
  let u := t.closeRecords h x.bookedTo (fun r =>
    r.withheld && !r.reported && !x.holdsWork r.seg r.item r.stretch && decide (r.etEnd < x.bookedTo))
  u.closeRecords h x.bookedTo (fun r => !r.withheld && r.ends.any (fun e => decide (e + 1250 < x.bookedTo)))

/-! ### The path after a frame -/

/-- Levels kept of the recent past, for the samples that fall in them (R298). -/
def keepPast (past : List Edge) (now : List Edge) (start : Tick) : List Edge :=
  let relit := (now.head?).any (fun e => e.et == start && e.kind != .off)
  let all := (if relit then past.filter (fun e => !(e.et == start && e.kind == .off)) else past) ++ now
  all.drop ((all.takeWhile (fun e => decide (e.et + 20000 < start))).length - 1)

/-- The effective levels of a beamlet in a frame, as edges. -/
def levelsIn (spans : List BeamSpan) (on : Bool) (b : Nat) (start : Tick) : List Edge :=
  let mine := spans.filter (fun x => x.beam == b && on && x.cut.isNone)
  let dark (t : Tick) : Edge := ⟨t, .off, 0, 0, 0, 0⟩
  let lit (x : BeamSpan) : Edge := ⟨x.first, if x.now.preheat then .preheatOn else .on, x.now.power, x.now.seg, x.now.item, x.now.stretch⟩
  (mine.flatMap (fun x => [lit x, dark x.last])).foldr (fun e acc => match acc with
    | n :: _ => if e.kind = .off ∧ n.et = e.et then acc else e :: acc
    | [] => [e]) [] |> fun es => if es.isEmpty then [dark start] else if (es.headD (dark start)).et = start then es else dark start :: es

/-- Marked stretches whose marked part begins in a frame, with their delays. -/
def ItemRun.spansBegun (r : ItemRun) (tolerance start : Nat) : List (MarkedSpan × List Int) :=
  ((r.stretches.zip (List.range r.stretches.length)).filter (fun x =>
    x.1.passed && decide (start * 65536 ≤ x.1.mark) && decide (x.1.mark < (start + 125) * 65536))).map (fun x =>
      (⟨ceilDiv x.1.mark 65536, x.1.markEnd / 65536, tolerance, r.seg, r.item, x.2⟩, x.1.delays))

/-- The stretches that begin in a frame taken up: their spans and d_b for 0x4280 (R158, R202). -/
def State.stretchesBegin (s : State) (h : HeadNo) (start : Tick) : State :=
  let spans := (s.head h).path.runs.flatMap (fun r =>
    ((s.itemBy r.seg r.item).map (fun it => r.spansBegun it.par.overspeedTol start)).getD [])
  let t := s.onPath h (fun x => { x with
    marked := (spans.map (fun m => m.1)).reverse ++ x.marked.filter (fun m => decide (start ≤ m.last + 1000000))
    overspeedCount := if spans.isEmpty then x.overspeedCount else 0 })
  spans.foldl (fun u m => (List.range 8).foldl (fun v b => v.setReg (0x4280 + h) (b + 1) (m.2.getD b 0)) u) t

/-- The mid-integration instants, of the generations held, that fall in a frame (R258). -/
def midTicks (gens : List Generation) (start : Tick) : List Tick :=
  gens.filterMap (fun g =>
    let m := g.phase + g.integration / 2
    let n := if start ≤ m then 0 else ceilDiv (start - m) g.period
    if g.enable ∧ 0 < g.period ∧ m + n * g.period < start + 125 ∧ start ≤ m + n * g.period then some (m + n * g.period) else none)

/-- Beamlets that emit at marking power at an instant of a frame. -/
def markingAt (spans : List BeamSpan) (on : Bool) (at_ : Tick) : Nat :=
  spans.foldl (fun m x => if on ∧ x.cut = none ∧ x.first ≤ at_ ∧ at_ < x.last ∧ x.now.preheat = false then setBit m x.beam else m) 0

/-- The direction in which a head's path moves at a fine tick, zero where it stands (R258). -/
def HeadPath.courseAt (x : HeadPath) (t : Nat) : Pos :=
  match x.pieceOf t with
  | some p => if p.start + p.dur ≤ t ∨ p.phase = 1 ∧ t = p.start then (0, 0) else subPos p.p1 p.p0
  | none => (0, 0)

/-- What a head was doing at an instant, for the camera (R258, R259). -/
def HeadPath.midState (x : HeadPath) (at_ : Tick) (mask : Nat) (idOf : Nat → Nat) : MidState :=
  let t := at_ * 65536
  let u := x.unitAt at_
  let step := x.courseAt t
  let moving := step != (0, 0)
  let seg := ((x.runAt t).map (fun r => r.seg)).orElse (fun _ => x.seg)
  { segment := seg, id := (seg.map idOf).getD 0xFFFFFFFF, item := ((x.runAt t).map (fun r => r.item)).getD 0xFFFF
    mask := mask, x := u.1, y := u.2
    angle := if moving then angleOf step else 0
    moving := moving }

/-- A channel at a frame: planned stretches of work that was cut leave; a frame without emission counts as an interruption
(R305). -/
def Channel.atFrame (c : Channel) (x : HeadPath) (start : Tick) (on : Bool) : Channel :=
  let current (st : ChannelStretch) : Bool := x.coming.any (fun r => r.seg == st.seg && r.item == st.item)
  { c with interrupted := c.interrupted || !on, stretches := c.stretches.filter (fun st => decide (st.begins < start) || current st) }

/-- The path and the camera's history after a frame. -/
def Head.afterFrame (x : Head) (start : Tick) (spans : List BeamSpan) (on : Bool) (corr : List (Int × Nat)) (mids : List (Nat × MidState)) : Head :=
  let beams := (List.range 8).map (fun b => (x.path.beamSpans start b).2)
  let path : HeadPath := { x.path with
    beams := beams, bookedTo := start + 125
    buffers := x.path.buffers.map (fun es => es.filter (fun e => decide (start + 125 ≤ e.et)))
    past := (x.path.past.zip (List.range 8)).map (fun (p, b) => keepPast p (levelsIn spans on b start) start) }
  let camera : Camera := { x.camera with
    energy := litSpans spans on corr ++ x.camera.energy
    mids := mids ++ x.camera.mids }
  { x with path := path, camera := camera, channels := x.channels.map (fun c => c.atFrame x.path start on) }

/-! ### Trains taken into use (R345, R346) -/

/-- A train is over when its last element has started. -/
def Train.over (t : Train) (start : Tick) : Bool :=
  (List.range 8).all (fun b => !t.beamlets.testBit b || decide (t.startOf b t.count < start))

/-- A stretch of the item in progress has a train. -/
def HeadLink.hasTrain (l : HeadLink) (r : ItemRun) (k : Nat) : Bool :=
  l.trains.any (fun t => t.seg == r.seg && t.item == r.item && t.stretch == k)

/-- A train number not in use. -/
def HeadLink.freeTrain (l : HeadLink) : Option Nat := [0, 1, 2, 3].find? (fun n => !l.trains.any (fun t => t.number == n))

/-- The next stretch of a head that a train can make: it has passed its entry check and not begun, and none has been defined. -/
def Head.trainStretch (x : Head) (start : Tick) : Option (ItemRun × Nat × Stretch) :=
  x.path.coming.findSome? (fun r => (((List.range r.stretches.length).zip r.stretches).find? (fun y =>
    y.2.passed && !y.2.withheld && decide (start * 65536 < y.2.entry) && !x.link.hasTrain r y.1)).map (fun y => (r, y)))

/-- A train defined for it, when its six messages have slots before its first event; otherwise the stretch is sent as events. -/
def State.defineTrain (s : State) (h : HeadNo) (start : Tick) : State :=
  let l := (s.head h).link
  match (s.head h).trainStretch start, l.freeTrain with
  | some (r, k, st), some number =>
    match s.itemBy r.seg r.item, s.seg? r.seg with
    | some it, some g =>
      if start + 125 * (2 * (l.trainQueue.length + 6) + 2) < st.entry / 65536 ∧ l.state = .operation then
        match trainOf (s.cfg h) s.stitch g.layer g.words it r k number st with
        | some t => s.onHead h (fun y => { y with link := { y.link with
            trains := y.link.trains ++ [t], trainQueue := y.link.trainQueue ++ t.messages } })
        | none => s
      else s
    | _, _ => s
  | _, _ => s

/-- The trains of a link at a frame: those over leave; one not wholly sent by its first element is given up for events. -/
def HeadLink.pruneTrains (l : HeadLink) (start : Tick) : HeadLink :=
  let late (t : Train) : Bool := decide (0 < t.unsent) && (bitList 8 t.beamlets).any (fun b => decide (t.startOf b 0 < ((start + 1000 : Nat) : Int)))
  { l with
    trains := l.trains.filter (fun t => !t.over start && !late t)
    trainQueue := if l.trains.any late then [] else l.trainQueue }

/-- Beamlets cleared in a frame leave the trains. -/
def Train.without (t : Train) (mask : List Nat) : Train := { t with beamlets := mask.foldl clearBit t.beamlets }

/-- One message of the oldest train sent. -/
def countSent : List Train → List Train
  | [] => []
  | t :: rest => if 0 < t.unsent then { t with unsent := t.unsent - 1 } :: rest else t :: countSent rest

/-! ### Sending -/

/-- The link after a frame has been sent. -/
def HeadLink.afterSlot (l : HeadLink) (c : SlotChoice) (e : Engine) (f : Nat) : HeadLink :=
  match c with
  | .time => { l with sinceTime := 0, timeSent := some (l.delay, e.announced f) }
  | .camera _ => { l with camera := l.camera.drop 1, sinceTime := l.sinceTime + 1 }
  | .train _ => { l with trainQueue := l.trainQueue.drop 1, trains := countSent l.trains, sinceTime := l.sinceTime + 1 }
  | _ => { l with sinceTime := l.sinceTime + 1 }

/-- Frames leave a link from ACQUIRE to OPERATION (R357). -/
def LinkState.sends : LinkState → Bool
  | .acquire => true
  | .align => true
  | .negotiate => true
  | .operation => true
  | _ => false

/-- The frame put together and sent. -/
def State.sendFrame (s : State) (h : HeadNo) (f : Nat) (on : Bool) (corr : List (Int × Nat)) : State :=
  let x := s.head h
  let l := x.link
  let servoFirst := decide (125 * f % s.servoTicks = 0)
  let choice := slotChoice l s.engine servoFirst f
  let group := ((x.path.setPoints.head?).map (fun g => g.bytes (s.servoTicks / 125))).getD []
  let records := if l.state = .operation then x.frameRecords f else []
  let cleared := (List.range 8).filter (x.mustClear f)
  let bytes := frameBytes s.speaks (choice.bytes l s.engine group h f) (if on then 255 else 0) f corr (packRecords 0 records)
  let coded := frameChars l.disparity bytes
  let link (y : HeadLink) : HeadLink :=
    { (y.afterSlot choice s.engine f) with
      disparity := coded.2
      sentParts := (y.sentParts.filter (fun p => !cleared.contains p.1) ++ records.filterMap (fun r => r.part.map (fun n => (r.beam, r.slot, n)))).filter
        (fun p => decide (f < p.2.1))
      sentEdges := (y.sentEdges.filter (fun e => !cleared.contains e.1) ++ records.filterMap (fun r => r.edge.map (fun e => (r.beam, e)))).filter
        (fun e => decide (125 * f + 125 ≤ e.2.et))
      clears := 0
      book := { y.book with assembled := y.book.assembled + 1, sent := y.book.sent + 1 }
      trains := (y.afterSlot choice s.engine f).trains.map (fun t => t.without cleared) }
  let t := s.onHead h (fun y => { y with link := link y.link })
  { t with out := t.out ++ [Out.head h coded.1] }

/-- The slot of the frame kept until it is reported (R361). -/
def State.keepSlot (s : State) (h : HeadNo) (f : Nat) (spans : List BeamSpan) (on : Bool) (corr : List (Int × Nat)) : State :=
  s.onHead h (fun y => { y with link := { y.link with
    sent := y.link.sent ++ [⟨f, slotBooks spans on corr y.path.seg⟩] } })

/-- The content of the CAMERA slot (R337). -/
def Generation.slot (g : Generation) : List Byte :=
  leBytes 2 g.number ++ [byteOf g.format, byteOf g.gain, byteOf (flag g.enable), 0] ++ leBytes 2 (g.period / 125) ++ leBytes 2 (g.phase / 125)
    ++ leBytes 4 g.integration ++ [0, 0]

/-- The oldest commit of a head completes at the start of assembly of a frame that begins no servo period and announces no sample rate:
the generation is held, and its CAMERA slot follows (R246, R338, R339). -/
def Head.completeCommit (x : Head) : Head :=
  match x.camera.forming with
  | [] => x
  | g :: rest =>
    { x with
      camera := { x.camera with committed := g.number, forming := rest, gens := (g :: x.camera.gens).take 4 }
      link := { x.link with camera := x.link.camera ++ [g.slot] } }

/-- The same in a frame of head h. -/
def State.completeCommit (s : State) (h : HeadNo) (f : Nat) : State :=
  if 125 * f % s.servoTicks = 0 ∨ s.engine.rateChanges.any (fun c => c.frame == f) then s else s.onHead h Head.completeCommit

/-- Items planned, checks decided, the set-point group formed where the frame begins a servo period, and entries moved into the line
buffers up to 33 frames ahead (R123, R173, R460). -/
def State.prepareFrame (s : State) (h : HeadNo) (f : Nat) : State :=
  let start := 125 * f
  let first := decide (start % s.servoTicks = 0)
  let p := ((s.completeCommit h f).planAhead h (start + if first then s.servoTicks else 125)).decideEntries
  let a := if first then p.formGroup h (start / s.servoTicks) else p
  (List.range 8).foldl (fun t k => t.writeEdges h k (start + 125 + 4000) 4096) a

/-- Items whose emission begins in a frame while the link is out of OPERATION are withheld (R363); a SHADOW books nothing for it
(R462). -/
def State.withholdUnlinked (s : State) (h : HeadNo) (start : Tick) : State :=
  let x := s.head h
  if x.link.state = .operation ∨ s.twin.role = .shadow then s
  else (x.path.coming.filter (fun r => decide (r.start < start + 125)
      && !x.path.suppressed.any (fun u => u.seg == r.seg && u.item == r.item && u.stretch == none))).foldl
    (fun t r => t.suppressWork h (r.seg, r.item) none 0x09 1) s

/-- A frame books emission as sent: with EN set; and in a SHADOW whose own link is out of OPERATION, as its partner's does (R462). -/
def State.booksSent (s : State) (h : HeadNo) : Bool :=
  s.enables h || (s.twin.role == .shadow && s.dev.state == .exposing && !s.power.inhibit && !s.thermal.tripped
    && (s.head h).link.state != .operation)

/-- Frame f of head h assembled. -/
def State.assemble (s : State) (h : HeadNo) (f : Nat) : State :=
  let start := 125 * f
  let c := (((s.prepareFrame h f).withholdUnlinked h start).stretchesBegin h start).onHead h (fun y =>
    { y with channels := y.channels.map (fun q => q.applyOutputs start), link := y.link.pruneTrains start })
  let d := c.defineTrain h start
  let x := d.head h
  let on := d.enables h
  let corr := x.corrections start d.fresh
  let spans := x.path.frameSpans start
  let operating := x.link.state == .operation
  let sent := if x.link.state.sends then d.sendFrame h f on corr else d
  let mids := (midTicks x.camera.gens start).map (fun m => (m, x.path.midState m (markingAt spans on m) s.idOf))
  let e := if operating then sent.keepSlot h f spans on corr else sent
  let g := (e.bookFrame h spans (d.booksSent h) corr).onHead h (fun y => { (y.afterFrame start spans on corr mids) with
    path := ((y.afterFrame start spans on corr mids).path).noteCuts h spans })
  ({ g with fresh := g.fresh + 8 }).endCuts h

end Sys2Proof.Machine
end

