-- ==== Sys2Proof/Machine/Control.lean ====
section
/-!
DEFINITION. The control engine: dark baselines, estimates, laws, updates, the outer loop, the repetitive controller, lanes,
holds and their records (R284 to R324).
-/
namespace Sys2Proof.Machine

/-! ### Numbers (R290, R291) -/

/-- sat() of R291. -/
def sat (v : Int) : Int := clampInt (-2147483648) 2147483647 v

/-- A coefficient with its shift. -/
structure Coeff where
  k : Int
  shift : Nat
  deriving DecidableEq, Repr

/-- m(K, x) of R290. -/
def Coeff.mul (c : Coeff) (x : Int) : Int :=
  sat ((c.k * x + (if c.shift = 0 then 0 else 2 ^ (c.shift - 1))) / 2 ^ c.shift)

/-- B of R293. -/
def outputBound : Int := 322122547

/-! ### Laws (R294) -/

/-- A law as its fields. -/
structure Law where
  terms : Nat
  intLimit : Int
  kp : Coeff
  ki : Coeff
  bq1 : List Coeff
  bq2 : List Coeff
  kff : Coeff
  ko : Coeff
  kr : Coeff
  kf : Coeff
  target : Int
  rampTime : Nat
  refPower : Int
  feature : Nat
  minLines : Nat
  featureTarget : Int
  outerLimit : Int
  lead : Nat
  holdLimit : Nat
  holdRecord : Nat
  boundRecord : Nat
  deriving DecidableEq, Repr

/-- The law of 128 bytes. -/
def lawOf (bs : List Byte) : Law :=
  let n (off len : Nat) : Nat := leAt bs off len
  let c (off i : Nat) : Coeff := ⟨sext 32 (n off 4), n (72 + i) 1⟩
  { terms := n 0 4, intLimit := n 4 4, kp := c 8 0, ki := c 12 1
    bq1 := (List.range 5).map (fun i => c (16 + 4 * i) (2 + i)), bq2 := (List.range 5).map (fun i => c (36 + 4 * i) (7 + i))
    kff := c 56 12, ko := c 60 13, kr := c 64 14, kf := c 68 15, target := n 88 2, rampTime := n 90 2, refPower := n 92 2
    feature := n 94 1, minLines := n 95 1, featureTarget := n 96 2, outerLimit := n 98 2, lead := n 100 2, holdLimit := n 102 2
    holdRecord := n 104 1, boundRecord := n 105 1 }

/-- The form of a law (R294, R295): empty, or 128 bytes with every field in its range. -/
def lawOk (bs : List Byte) : Bool :=
  bs.isEmpty || (bs.length == 128 && leAt bs 0 4 / 64 == 0 && decide (leAt bs 4 4 ≤ 2147483647)
    && (List.range 16).all (fun i => decide (leAt bs (72 + i) 1 ≤ 31)) && decide (leAt bs 90 2 ≤ 1000) && decide (leAt bs 94 1 ≤ 4)
    && decide (1 ≤ leAt bs 95 1) && decide (leAt bs 100 2 ≤ 255) && decide (1 ≤ leAt bs 104 1) && decide (1 ≤ leAt bs 105 1)
    && (bs.drop 106).all (fun b => b == 0))

/-- A term of a law is enabled: 0 PI, 1 BQ1, 2 BQ2, 3 FF, 4 OUTER, 5 RC. -/
def Law.has (l : Law) (i : Nat) : Bool := l.terms.testBit i

/-- Law n of the table. -/
def State.law (s : State) (n : Nat) : Law := lawOf (s.blob (0x7010 + n) 1)

/-! ### Channels -/

/-- A channel of a head. -/
def State.chan (s : State) (h : HeadNo) (b : Nat) : Channel := (s.head h).channels.getD b Channel.initial

/-- A channel changed. -/
def State.onChan (s : State) (h : HeadNo) (b : Nat) (f : Channel → Channel) : State :=
  s.onHead h (fun x => { x with channels := x.channels.modify b f })

/-- A channel reset: a ramp begins (R305). -/
def Channel.reset (c : Channel) : Channel :=
  { c with i := 0, vpi := 0, bq1 := [0, 0, 0, 0], bq2 := [0, 0, 0, 0], rampWaiting := true, ramp := none }

/-! ### Bins (R307 to R310) -/

/-- The value of a bin, if it is valid. -/
def binGet (bins : List Bin) (i : Nat) : Option Int := (bins.find? (fun b => b.index == i)).map (fun b => b.value)

/-- A bin set. -/
def binPut (bins : List Bin) (i : Nat) (v : Int) : List Bin :=
  bins.filter (fun b => decide (b.index < i)) ++ ⟨i, v⟩ :: bins.filter (fun b => decide (i < b.index))

/-- The bin in accumulation committed (R309). -/
def Channel.commitBin (c : Channel) (l : Law) : Channel :=
  if c.accCount = 0 then c
  else
    let old := (binGet c.bins c.accBin).getD 0
    let mean := c.accSum.tdiv c.accCount
    { c with bins := binPut c.bins c.accBin (sat (sat (old - l.kf.mul old) + l.kr.mul mean)), accSum := 0, accCount := 0, committed := true }

/-- The bin of a sample (R307). -/
def ChannelStretch.bin (x : ChannelStretch) (t : Tick) : Nat :=
  if x.length = 0 then 0 else (clampInt 0 2047 (2048 * ((t : Int) - x.begins) / x.length)).toNat

/-- The stretch under way ends: its last bin is committed and the line counted (R309). -/
def Channel.endLine (c : Channel) (l : Law) : Channel :=
  let d := c.commitBin l
  { d with rcLines := if d.committed then min 65535 (d.rcLines + 1) else d.rcLines, committed := false }

/-- The training key of a stretch (R310). -/
def State.keyOf (s : State) (x : ChannelStretch) : Nat × Nat × Nat × Nat := (x.set, x.version, x.law, s.regN (0x7010 + x.law) 2)

/-- A stretch begins on a channel: its key is compared, and the channel resets where R305 says so. Outer updates handed over before
it go with the term that a new key clears (R304, R310). -/
def Channel.beginLine (c : Channel) (key : Nat × Nat × Nat × Nat) (x : ChannelStretch) : Channel :=
  let d : Channel := { c with stretch := some x, law := x.law, committed := false, accSum := 0, accCount := 0, interrupted := false }
  if c.key ≠ some key then
    { d.reset with
      bins := [], rcLines := 0, o := 0, oWaiting := c.oWaiting.filter (fun o => decide (x.begins ≤ (o.1 : Int))), key := some key }
  else if x.soft ∨ c.interrupted then d.reset
  else d

/-- The stretch of a channel at an instant: the latest that has begun (R296). -/
def Channel.stretchAt (c : Channel) (t : Tick) : Option ChannelStretch :=
  match (c.stretches.filter (fun x => decide (x.begins ≤ (t : Int)))).getLast? with
  | some x => some x
  | none => c.stretch

/-- The law of a channel at an instant; between stretches it keeps its last one (R296). -/
def Channel.lawAt (c : Channel) (t : Tick) : Nat := ((c.stretchAt t).map (fun x => x.law)).getD c.law

/-- The stretches of a channel taken up to a sample, in the order of the samples; a closed loop keeps its states (R297). -/
def State.catchUp (s : State) (t : Tick) : List ChannelStretch → Channel → Channel
  | [], c =>
    let ended := match c.stretch with
      | some x => decide (x.ends ≤ t)
      | none => false
    { (if ended && c.enabled then c.endLine (s.law c.law) else c) with stretches := [] }
  | x :: rest, c =>
    if x.begins ≤ t then
      let d := if c.enabled then (if c.stretch.isSome then c.endLine (s.law c.law) else c).beginLine (s.keyOf x) x
        else { c with stretch := some x, law := x.law, interrupted := false }
      s.catchUp t rest d
    else
      let ended := match c.stretch with
        | some y => decide (y.ends ≤ t)
        | none => false
      { (if ended && c.enabled then c.endLine (s.law c.law) else c) with stretches := x :: rest }

/-! ### Sample instants (R285, R297) -/

/-- The number k of a sample of a head at a rate. -/
def sampleIndex (h rate : Nat) (t : Tick) : Nat :=
  if rate = 2 then (2 * (t - 125 * (h % 2)) + 1) / 625 else (t - 125 * (h % 5)) / 625

/-- The sample instant that the uplink frame u carries, if it carries one (R353): the one after 125u − 125 and not after
125u. -/
def sampleIn (h rate u : Nat) : Option Tick :=
  (List.range 125).findSome? (fun d =>
    let t := 125 * u - d
    if 125 * u < d then none
    else if rate = 2 then
      let x := t - 125 * (h % 2)
      if 125 * (h % 2) ≤ t ∧ (625 * sampleIndex h 2 t) / 2 = x then some t else none
    else if 125 * (h % 5) ≤ t ∧ (t - 125 * (h % 5)) % 625 = 0 then some t else none)

/-- The next frame not yet assembled begins here. -/
def State.nextStart (s : State) (h : HeadNo) : Tick := max (s.head h).path.bookedTo (125 * frameAt s.et)

/-- LOOP_ENABLE as it takes effect at a sample instant: closing zeroes the output, opening the loop anew resets (R297, R305). -/
def State.loopAt (s : State) (h : HeadNo) (b : Nat) (c : Channel) : Channel :=
  let on := s.reg (0x7100 + h) (b + 1) == 1
  if on && !c.enabled then { c.reset with enabled := true }
  else if !on && c.enabled then { c with enabled := false, next := [(s.nextStart h, 0, c.sampleOf.getD s.et)] }
  else c

/-! ### Candidates (R298, R299) -/

/-- The level of a beamlet at a tick, from its recent past. -/
def levelAt (past : List Edge) (t : Tick) : Option Edge := (past.filter (fun e => decide (e.et ≤ t))).getLast?

/-- An emission begun by ON or LEVEL. -/
def Edge.marks (e : Edge) : Bool := e.kind == .on || e.kind == .level

/-- A sample is a candidate: the loop is closed and the emission has been on since EDGE_BLANK before it. -/
def isCandidate (past : List Edge) (blank t : Nat) : Bool :=
  ((levelAt past t).map Edge.marks).getD false && ((levelAt past (t - blank)).map Edge.marks).getD false
    && past.all (fun e => e.marks || decide (e.et ≤ t - blank) || decide (t < e.et))

/-! ### The estimate (R288) -/

/-- T_pd, or none where the estimate is invalid. MIN_PD 0 lets L′ be 0, where the ratio is a free value. -/
def State.estimate (s : State) (h : HeadNo) (b : Nat) (c : Channel) (pdL pdS : Nat) : Option Int :=
  let table := s.blob (0x7220 + h) 3
  let gains := s.blob (0x7200 + h) 3
  let l : Int := pdL - c.darkL
  let sh : Int := pdS - c.darkS
  let least := s.reg 0x7000 5
  if !c.darkValid || pdL == 65535 || pdS == 65535 || decide (l < least) || decide (sh < least) || table.isEmpty then none
  else
    let g := if gains.isEmpty then 4096 else leAt gains (2 * b) 2
    let r := if l = 0 then Config.freeNat s.fresh % 65536 else min 65535 (16384 * sh.toNat * g / (l.toNat * 4096))
    let i := r / 256
    let f := r % 256
    let e0 := leAt table (2 * i) 2
    let e1 := leAt table (2 * (i + 1)) 2
    if e0 = 0 ∨ e1 = 0 ∧ f ≠ 0 then none
    else some ((e0 : Int) + (((e1 : Int) - e0) * f + 128) / 256)

/-! ### Abnormal stretches (R302, R316) -/

/-- The last tick of the item of a stretch, once the item has ended on its head. -/
def HeadPath.endOfItem (x : HeadPath) (st : ChannelStretch) : Option Tick :=
  if x.coming.any (fun r => r.seg == st.seg && r.item == st.item) then none else some (ceilDiv x.endedAt 65536 - 1)

/-- An abnormal stretch begins on a beamlet: it joins the record of its cause that began in the same frame, or opens one. -/
def State.openAbnormal (s : State) (h : HeadNo) (cause detail b : Nat) (from_ : Tick) (st : ChannelStretch) : State :=
  let same (r : DefectRecord) : Bool :=
    !r.withheld && r.cause == cause && r.seg == st.seg && r.item == st.item && r.etStart / 125 == from_ / 125
  let x := (s.head h).path
  if x.records.any same then
    s.onPath h (fun y => { y with records := y.records.map (fun r =>
      if same r then { r with mask := setBit r.mask b, active := setBit r.active b, detail := r.detail ||| detail } else r) })
  else s.openRecord h ⟨cause, none, h, 2 ^ b, false, st.seg, st.item, detail, from_, from_, x.unitAt from_, x.unitAt from_, 0, false, 2 ^ b,
    x.endOfItem st⟩

/-- A record of a cause is open on a beamlet for the item of a stretch. -/
def HeadPath.abnormalOpen (x : HeadPath) (cause b : Nat) (st : ChannelStretch) : Bool :=
  x.records.any (fun r => !r.withheld && r.cause == cause && r.seg == st.seg && r.item == st.item && r.active.testBit b)

/-- The cause ends on a beamlet: the record closes when it has ended on every beamlet of it. -/
def State.closeAbnormal (s : State) (h : HeadNo) (cause b : Nat) (at_ : Tick) : State :=
  let t := s.onPath h (fun y => { y with records := y.records.map (fun r =>
    if !r.withheld && r.cause == cause && r.active.testBit b then { r with active := clearBit r.active b } else r) })
  t.closeRecords h at_ (fun r => !r.withheld && r.cause == cause && r.active == 0)

/-- DETAIL of an open record of a beamlet, with bits added. -/
def State.detailAbnormal (s : State) (h : HeadNo) (cause b bits : Nat) : State :=
  s.onPath h (fun y => { y with records := y.records.map (fun r =>
    if !r.withheld && r.cause == cause && r.active.testBit b then { r with detail := r.detail ||| bits } else r) })

/-- One more of a run of samples that make a record at a limit: the record open on the beamlet is kept, or one opens; a run
that its record's item did not outlast goes on in the next item (R116). -/
def State.runAbnormal (s : State) (h : HeadNo) (cause detail b run limit : Nat) (first t : Tick) (st : ChannelStretch) : State :=
  if (s.head h).path.abnormalOpen cause b st then s.detailAbnormal h cause b detail
  else if run = limit then s.openAbnormal h cause detail b first st
  else if limit < run then s.openAbnormal h cause detail b t st
  else s

/-! ### Holds (R314 to R316) -/

/-- A sample held on a channel of a candidate. -/
def State.holdSample (s : State) (h : HeadNo) (b : Nat) (t reason : Nat) : State :=
  let c := s.chan h b
  let l := s.law (c.lawAt t)
  let first := if c.holdRun = 0 then t else c.holdFirst
  let reasons := (if c.holdRun = 0 then 0 else c.holdReasons) ||| reason
  let u := (((s.onChan h b (fun c => { c with holdRun := c.holdRun + 1, holdFirst := first, holdReasons := reasons })).bump (0x7160 + h)
    (b + 1)).bump 0x7001 12).setLeaf (0x2460 + h) 1
  let v := match c.stretchAt t with
    | some st => u.runAbnormal h 0x23 (if c.holdRun + 1 = l.holdRecord then reasons else reason) b (c.holdRun + 1) l.holdRecord first t st
    | none => u
  if 0 < l.holdLimit ∧ c.holdRun + 1 = l.holdLimit then
    ((v.onChan h b (fun c => { c.reset with next := [(s.nextStart h, 0, c.sampleOf.getD t)] })).bump 0x7001 13).setLeaf (0x2460 + h) 2
  else v

/-! ### An update (R300, R301, R306, R308) -/

/-- A biquad: its output and its histories x1 x2 y1 y2 after it. -/
def biquad (k : List Coeff) (hist : List Int) (x : Int) : Int × List Int :=
  let c (i : Nat) : Coeff := k.getD i ⟨0, 0⟩
  let v (i : Nat) : Int := hist.getD i 0
  let y := sat (sat (sat (sat ((c 0).mul x + (c 1).mul (v 0)) + (c 2).mul (v 1)) - (c 3).mul (v 2)) - (c 4).mul (v 3))
  (y, [x, v 0, y, v 2])

/-- The outer term at a sample instant (R304). -/
def Channel.outerAt (c : Channel) (t : Tick) : Channel :=
  (c.oWaiting.filter (fun o => decide (o.1 ≤ t))).foldl (fun d o => { d with o := clampInt (-o.2.2) o.2.2 (sat (d.o + o.2.1)) })
    { c with oWaiting := c.oWaiting.filter (fun o => decide (t < o.1)) }

/-- The ramp at an update with an estimate: begun when it waits (R306). -/
def Channel.rampAt (c : Channel) (l : Law) (rate index : Nat) (tPd : Int) : Channel :=
  let k := l.rampTime * rate
  if c.rampWaiting then { c with rampWaiting := false, ramp := if k = 0 then none else some (tPd, index) }
  else match c.ramp with
    | some (_, first) => if k ≤ index - first then { c with ramp := none } else c
    | none => c

/-- T_set of an update (R300, R306). -/
def Channel.targetAt (c : Channel) (l : Law) (rate index : Nat) : Int :=
  let goal := sat (l.target + c.o)
  match c.ramp with
  | some (t0, first) => sat (t0 + (sat (goal - t0) * (index - first : Nat)).tdiv (l.rampTime * rate : Nat))
  | none => goal

/-- What an update computes: the channel after it, u_raw, e_f, and its cycles (R312). -/
structure Computed where
  chan : Channel
  raw : Int
  cycles : Nat
  deriving DecidableEq, Repr

/-- The read of the repetitive controller (R308). -/
def Channel.readRc (c : Channel) (l : Law) (bin : Nat) : Int :=
  if l.has 5 && decide (l.minLines ≤ c.rcLines) then (binGet c.bins (min 2047 (bin + l.lead))).getD 0 else 0

/-- A sample's bin entered: the one before is committed (R309). -/
def Channel.enterBin (c : Channel) (l : Law) (bin : Nat) : Channel :=
  if l.has 5 && c.accBin != bin then { c.commitBin l with accBin := bin } else c

/-- Cycles of the parts that both kinds of update share (R312). -/
def Channel.sharedCycles (c : Channel) (l : Law) (bin : Nat) : Nat :=
  2 + (if l.has 3 then 2 else 0) + (if l.has 5 then 4 else 0) + (if l.has 5 && c.accBin != bin && decide (0 < c.accCount) then 2 else 0)

/-- A full update (R300). -/
def Channel.full (c : Channel) (l : Law) (st : ChannelStretch) (rate index : Nat) (t : Tick) (tPd : Int) (power : Nat) : Computed :=
  let bin := st.bin t
  let a := (c.outerAt t).rampAt l rate index tPd
  let e := sat (a.targetAt l rate index - tPd)
  let q1 := if l.has 1 then biquad l.bq1 a.bq1 e else (e, a.bq1)
  let q2 := if l.has 2 then biquad l.bq2 a.bq2 q1.1 else (q1.1, a.bq2)
  let ef := q2.1
  let i1 := if l.has 0 then clampInt (-l.intLimit) l.intLimit (sat (a.i + l.ki.mul ef)) else a.i
  let vpi := if l.has 0 then sat (l.kp.mul ef + i1) else 0
  let d := a.enterBin l bin
  let rc := d.readRc l bin
  let ff := if l.has 3 then l.kff.mul ((power : Int) - l.refPower) else 0
  let raw := sat (sat (vpi + ff) + rc)
  let keep := (decide (outputBound < raw) && decide (0 < ef)) || (decide (raw < -outputBound) && decide (ef < 0))
  { chan := { d with
      bq1 := q1.2, bq2 := q2.2, vpi := vpi, i := if keep then a.i else i1
      accSum := if l.has 5 then sat (d.accSum + ef) else d.accSum, accCount := if l.has 5 then d.accCount + 1 else d.accCount }
    raw := raw
    cycles := 6 + (if l.has 0 then 3 else 0) + (if l.has 1 then 5 else 0) + (if l.has 2 then 5 else 0) + c.sharedCycles l bin }

/-- A frozen update (R301). -/
def Channel.frozen (c : Channel) (l : Law) (st : ChannelStretch) (t : Tick) (power : Nat) : Computed :=
  let bin := st.bin t
  let d := (c.outerAt t).enterBin l bin
  let rc := d.readRc l bin
  let ff := if l.has 3 then l.kff.mul ((power : Int) - l.refPower) else 0
  { chan := d, raw := sat (sat (c.vpi + ff) + rc), cycles := c.sharedCycles l bin }

/-- The start of the frame that takes an output ready at an ET (R313). -/
def frameFor (done : Tick) : Tick := ceilDiv (done + 125) 125 * 125

/-- Ticks of a number of lane cycles. -/
def laneTicks (cycles : Nat) : Nat := ceilDiv (cycles * 5) 8

/-- A bounded update counted, with the record that BOUND_RECORD of them open (R302). -/
def State.noteBound (s : State) (h : HeadNo) (b : Nat) (t : Tick) (raw : Int) (st : ChannelStretch) : State :=
  let c := s.chan h b
  if outputBound < raw ∨ raw < -outputBound then
    let first := if c.boundRun = 0 then t else c.boundFirst
    let u := ((s.onChan h b (fun c => { c with boundRun := c.boundRun + 1, boundFirst := first })).bump (0x7180 + h) (b + 1)).setLeaf
      (0x2460 + h) 0
    u.runAbnormal h 0x22 (if 0 < raw then 1 else 2) b (c.boundRun + 1) (s.law c.law).boundRecord first t st
  else (s.onChan h b (fun c => { c with boundRun := 0 })).closeAbnormal h 0x22 b (t - 1)

/-- An output handed to the frame assembler (R313). -/
def State.output (s : State) (h : HeadNo) (b : Nat) (t : Tick) (r : Computed) (st : ChannelStretch) : State :=
  let f := frameFor (s.et + laneTicks r.cycles)
  let u := clampInt (-outputBound) outputBound r.raw
  let a := s.onChan h b (fun _ => { r.chan with next := r.chan.next ++ [(f, u, t)], holdRun := 0, holdReasons := 0 })
  (((a.closeAbnormal h 0x23 b (t - 1)).noteBound h b t r.raw st).bump 0x7001 11).raiseReg 0x7001 10 ((f - t : Nat) : Int)

/-- An update of a candidate at its dispatch: full or frozen, or held (R299, R314); none where the loop has opened since (R297). The
channel's stretches are taken up to the sample first. The second component is its cycles. -/
def State.update (s : State) (t : Tick) (h : HeadNo) (b pdL pdS : Nat) : State × Nat :=
  let s := s.onChan h b (fun c => s.catchUp t c.stretches c)
  let c := s.chan h b
  match c.enabled, c.stretch, levelAt ((s.head h).path.past.getD b []) t with
  | true, some st, some e =>
    let l := s.law c.law
    let rate := s.engine.rateAt t
    let full := e.power == st.nominal
    let est := s.estimate h b c pdL pdS
    let r := if full then c.full l st rate (sampleIndex h rate t) t (est.getD 0) e.power else c.frozen l st t e.power
    if t + 1250 < frameFor (s.et + laneTicks r.cycles) then (s.holdSample h b t 1, 0)
    else if full ∧ est = none then (s.holdSample h b t 4, 6)
    else (s.output h b t r st, r.cycles)
  | _, _, _ => (s, 0)

/-! ### Samples (R286, R287, R298) -/

/-- A capture takes a sample of a dark channel; a lit or missing one begins it anew. -/
def Channel.capture (c : Channel) (limit : Nat) (dark : Bool) (pd : Option (Nat × Nat)) : Channel :=
  match c.darkSums with
  | none => c
  | some (n, l, sh) =>
    match dark, pd with
    | true, some (a, b) => if n < limit then { c with darkSums := some (n + 1, l + a, sh + b) } else c
    | _, _ => if n < limit then { c with darkSums := some (0, 0, 0) } else c

/-- The ET and the channel of an update that waits, or of a missing sample behind one. -/
def LaneWork.sampleOf : LaneWork → Option (HeadNo × Nat)
  | .update _ h b _ _ => some (h, b)
  | .missing _ h b => some (h, b)
  | .outer _ _ _ _ => none

/-- Samples of a channel wait at its lane. -/
def State.samplesWait (s : State) (h : HeadNo) (b : Nat) : Bool :=
  ((s.engine.lanes[b]?).map (fun x => x.waiting.any (fun w => w.sampleOf == some (h, b)))).getD false

/-- Work put to wait at a lane. -/
def State.toLane (s : State) (b : Nat) (w : LaneWork) : State :=
  { s with engine := { s.engine with lanes := s.engine.lanes.modify b (fun x => { x with waiting := x.waiting ++ [w] }) } }

/-- A sample instant of one channel: its stretches where no earlier sample waits, the loop's setting, a capture in progress; a
candidate waits at its lane, or is held where its sample is missing. -/
def State.sampleChan (s : State) (h : HeadNo) (t : Tick) (pd : Nat → Option (Nat × Nat)) (b : Nat) : State :=
  let past := (s.head h).path.past.getD b []
  let lit := ((levelAt past t).map (fun e => e.kind != .off)).getD false
  let behind := s.samplesWait h b
  let u := s.onChan h b (fun c =>
    let d := s.loopAt h b (if behind then c else s.catchUp t c.stretches c)
    d.capture (s.regN 0x7000 4) (!lit) (pd b))
  if (u.chan h b).enabled && isCandidate past (s.regN 0x7000 3) t then
    match pd b with
    | some (l, sh) => u.toLane b (.update t h b l sh)
    | none => if behind then u.toLane b (.missing t h b) else u.holdSample h b t 2
  else u

/-- A sample instant of a head. -/
def State.sampleHead (s : State) (h : HeadNo) (t : Tick) (pd : Nat → Option (Nat × Nat)) : State :=
  (List.range 8).foldl (fun u b => u.sampleChan h t pd b) s

/-- The sample instant before a frame of a head whose link is out of OPERATION: no reading comes, and settings of the loop take effect
(R297, R314). -/
def State.unlinkedSample (s : State) (h f : Nat) : State :=
  if (s.head h).link.state = .operation then s
  else match sampleIn h (s.engine.rateAt (125 * f)) f with
    | some t => s.sampleHead h t (fun _ => none)
    | none => s

/-- DOWNLINK_FRAME_ASSEMBLY (R111, R330): the frame of the interval after the present one, once. -/
def execDownlinkFrameAssembly (h : Nat) (s : State) : Host.Outcome State Fault Refusal :=
  .next (if s.seqRuns ∧ (s.head h).path.bookedTo ≤ 125 * frameAt s.et ∧ h < 32 then
    (s.unlinkedSample h (frameAt s.et - 1)).assemble h (frameAt s.et) else s)

/-! ### The outer loop (R303, R304) -/

/-- The value of OUTER_FEATURE in a feature record (R259, R294). -/
def featureOf (record : List Byte) (n : Nat) : Nat :=
  match n with
  | 0 => leAt record 28 2
  | 1 => leAt record 30 2
  | 2 => leAt record 24 2
  | 3 => leAt record 26 2
  | _ => leAt record 4 2

/-- The outer update of a channel from a record handed over at an ET, under the law of that ET. -/
def State.outer (s : State) (et : Tick) (h : HeadNo) (b : Nat) (record : List Byte) : State :=
  let l := s.law ((s.chan h b).lawAt et)
  s.onChan h b (fun c => { c with
    oWaiting := c.oWaiting ++ [(et, l.ko.mul (sat (l.featureTarget - (featureOf record l.feature : Nat))), l.outerLimit)] })

/-! ### Lanes (R311, R312) -/

/-- The ET and head by which a lane orders its work. -/
def LaneWork.order : LaneWork → Tick × Nat
  | .update t h _ _ _ => (t, h)
  | .missing t h _ => (t, h)
  | .outer t h _ _ => (t, h)

/-- The work a free lane takes: the earliest, the lower head on equal ETs, the first come among equals. -/
def nextWork (ws : List LaneWork) : Option LaneWork :=
  ws.foldl (fun best w => match best with
    | none => some w
    | some v => if w.order.1 < v.order.1 ∨ (w.order.1 = v.order.1 ∧ w.order.2 < v.order.2) then some w else some v) none

/-- The first occurrence of an item of work taken out. -/
def removeFirst (w : LaneWork) : List LaneWork → List LaneWork
  | [] => []
  | v :: rest => if v = w then rest else v :: removeFirst w rest

/-- Busy cycles of a lane over the last 1 ms, per mille, the work in progress included (R312, R321); a cycle is 0.625 tick. -/
def Lane.load (x : Lane) (et : Tick) : Nat :=
  ((x.passes.map (fun p => (min et p.1 - max (p.1 - laneTicks p.2) (et - 625000)) * 8 / 5)).sum) / 1000

/-- The work of a lane carried out, and the lane busy until its end. -/
def State.runLane (s : State) (lane : Nat) (w : LaneWork) : State :=
  let t := { s with engine := { s.engine with lanes := s.engine.lanes.modify lane (fun (x : Lane) => { x with waiting := removeFirst w x.waiting }) } }
  let r := match w with
    | .update et h b l sh => let u := t.update et h b l sh; ({ u.1 with fresh := u.1.fresh + 1 }, u.2)
    | .missing et h b => ((t.onChan h b (fun c => t.catchUp et c.stretches c)).holdSample h b et 2, 0)
    | .outer et h b record => (t.outer et h b record, 4)
  let done := s.et + laneTicks r.2
  let u := { r.1 with engine := { r.1.engine with lanes := r.1.engine.lanes.modify lane (fun (x : Lane) =>
    { x with freeAt := done, passes := x.passes.filter (fun (p : Tick × Nat) => Decidable.decide (s.et < p.1 + 625000)) ++ [(done, r.2)] }) } }
  u.raiseReg 0x7001 9 ((((u.engine.lanes[lane]?).map (fun (x : Lane) => x.load done)).getD 0 : Nat) : Int)

/-- LANE_DISPATCH (R311). -/
def execLaneDispatch (lane : Nat) (s : State) : Host.Outcome State Fault Refusal :=
  .next (match s.engine.lanes[lane]? with
    | some x => if x.freeAt ≤ s.et then
        match nextWork x.waiting with
        | some w => s.runLane lane w
        | none => s
      else s
    | none => s)

/-! ### Commands of the dictionary (R287, R295, R297, R320) -/

/-- The device states in which DARK_CAPTURE is taken (R287). -/
def DevState.captures : DevState → Bool
  | .standby => true
  | .armed => true
  | .paused => true
  | _ => false

/-- DARK_CAPTURE (R287): a write of 1 captures every head in operation. -/
def execDarkCapture (path : Path) (value : Nat) (s : State) : Host.Outcome State Fault Refusal :=
  .next (s.inTurnOf path (.darkCapture path value) (s.access path
    (orElse (s.writeGate path 0x7000 6)
      (orElse (numberTest 0x7000 6 (leBytes 1 value)) (refuseIf (!s.dev.state.captures) .conditions)))
    ((if value = 1 then s.captureAll else s).mirror 0x7000 6 (leBytes 1 value)) []))

/-- A mean rounded to nearest, halves upwards (R287). -/
def meanOf (sum n : Nat) : Nat := roundDivNat sum n

/-- DARK_CAPTURE_COMPLETE (R287): the baseline of a channel whose samples are all in. -/
def execDarkCaptureComplete (h b : Nat) (s : State) : Host.Outcome State Fault Refusal :=
  .next (match (s.chan h b).darkSums with
    | some (n, l, sh) =>
      if n = s.regN 0x7000 4 then
        s.onChan h b (fun c => { c with darkL := meanOf l n, darkS := meanOf sh n, darkValid := true, darkSums := none })
      else s
    | none => s)

/-- LOOP_ENABLE (R297): stored; it takes effect at the channel's next sample instant. -/
def execLoopEnable (path : Path) (h sub value : Nat) (s : State) : Host.Outcome State Fault Refusal :=
  .next (s.inTurnOf path (.loopEnable path h sub value) (s.access path
    (orElse (refuseIf (decide (32 ≤ h)) .noObject)
      (orElse (s.writeGate path (0x7100 + h) sub) (numberTest (0x7100 + h) sub (leBytes 1 value))))
    ((s.setReg (0x7100 + h) sub (value % 2 : Nat)).mirror (0x7100 + h) sub (leBytes 1 value)) []))

/-- The refusal of a write to a law (R295). -/
def State.lawRefusal (s : State) (p : Path) (law sub : Nat) (data : List Byte) : Option Abort :=
  orElse (refuseIf (decide (16 ≤ law)) .noObject)
    (orElse (s.writeGate p (0x7010 + law) sub)
      (orElse (refuseIf (!lawOk data) .range)
        (refuseIf (s.job.segments.any (fun g => g.state == .admitted || g.state == .staged || g.state == .running)) .conditions)))

/-- LAW_WRITE (R295). -/
def execLawWrite (path : Path) (law sub : Nat) (data : List Byte) (s : State) : Host.Outcome State Fault Refusal :=
  .next (s.inTurnOf path (.lawWrite path law sub data) (s.access path (s.lawRefusal path law sub data)
    (((s.setBlob (0x7010 + law) 1 data).bump (0x7010 + law) 2).mirror (0x7010 + law) 1 data) []))

/-- SAMPLE_RATE_SWITCH (R339): a rate whose M has come is the rate in force. -/
def execSampleRateSwitch (s : State) : Host.Outcome State Fault Refusal :=
  .next { s with engine := { s.engine with
    rate := s.engine.rateAt s.et, rateChanges := s.engine.rateChanges.filter (fun c => decide (s.et < c.at_)) } }

end Sys2Proof.Machine
end

