-- ==== Sys2Proof/Machine/Picture.lean ====
section
/-!
DEFINITION. The processing stages of a camera frame, from raw pixels to features (R241, R242, R250 to R258, R268, R270).
-/
namespace Sys2Proof.Machine

/-! ### Formats (R241) -/

/-- Pixels along a side of the window. -/
def formatWidth (format : Nat) : Nat := if format = 1 then 128 else 64

/-- The sensor coordinate at which the window begins. -/
def formatOffset (format : Nat) : Nat := if format = 1 then 0 else 32

/-- Pixels of a frame. -/
def formatPixels (format : Nat) : Nat := formatWidth format * formatWidth format

/-- The least FRAME_PERIOD. -/
def formatPeriod (format : Nat) : Nat := if format = 1 then 62500 else 15625

/-- CLK_PIX cycles of a full and of a features-only pass (R268). -/
def passCycles (format : Nat) (featuresOnly : Bool) : Nat := formatPixels format / (if featuresOnly then 16 else 4) + 64

/-- A pass in ticks: a cycle of CLK_PIX is 1.25 ticks. -/
def passTicks (format : Nat) (featuresOnly : Bool) : Nat := passCycles format featuresOnly * 5 / 4

/-! ### Stages 1 to 3 (R251 to R253) -/

/-- A pixel after stages 1 and 2: its corrected value, and whether it is saturated. -/
abbrev Pixel := Nat × Bool

/-- A sensor pixel is a long-wavelength pixel (R242). -/
def Generation.isLong (g : Generation) (x y : Nat) : Bool := (x + y + g.mosaic) % 2 == 0

/-- Stage 1 (R251). -/
def Generation.corrected (g : Generation) (x y raw : Nat) : Pixel :=
  let black := if g.isLong x y then g.blackLevel % 65536 else g.blackLevel / 65536
  let gain := if g.flatField.isEmpty then 4096 else leAt g.flatField (2 * (128 * y + x)) 2
  (if raw < black then 0 else min 65535 (roundDivNat ((raw - black) * gain) 4096), raw == 4095)

/-- A sensor pixel is in the effective defect list. -/
def Generation.listed (g : Generation) (x y : Nat) : Bool :=
  (chunks 4 g.defectPixels).any (fun e => leAt e 0 1 == x && leAt e 1 1 == y)

/-- The pixel of column i and row j of a window of width n. -/
def pixelOf (ps : Array Pixel) (n i j : Nat) : Pixel := ps.getD (n * j + i) (0, false)

/-- Stage 2 for one pixel (R252). -/
def Generation.replaced (g : Generation) (ps : Array Pixel) (n off i j : Nat) : Pixel :=
  if g.listed (off + i) (off + j) then
    let near := [(i + 1, j + 1), (i + 1, j - 1), (i - 1, j + 1), (i - 1, j - 1)]
    let used := near.filter (fun q => q.1 != i && q.2 != j && decide (q.1 < n) && decide (q.2 < n) && !g.listed (off + q.1) (off + q.2))
    let vals := used.map (fun q => pixelOf ps n q.1 q.2)
    if vals.isEmpty then (0, true)
    else (((vals.map (fun v => v.1)).sum + vals.length / 2) / vals.length, vals.any (fun v => v.2))
  else pixelOf ps n i j

/-- An index reflected at the window's edges (R253): the one before k, and the one after. -/
def before (k : Nat) : Nat := if k = 0 then 1 else k - 1

/-- The index after k in a window of width n, reflected. -/
def after (n k : Nat) : Nat := if k + 1 < n then k + 1 else n - 2

/-- The other colour of a pixel, estimated along the smaller gradient (R253). -/
def estimateAt (ps : Array Pixel) (n i j : Nat) : Pixel :=
  let left := pixelOf ps n (before i) j
  let right := pixelOf ps n (after n i) j
  let up := pixelOf ps n i (before j)
  let down := pixelOf ps n i (after n j)
  let gh := (left.1 - right.1) + (right.1 - left.1)
  let gv := (up.1 - down.1) + (down.1 - up.1)
  if gh < gv then ((left.1 + right.1 + 1) / 2, left.2 || right.2)
  else if gv < gh then ((up.1 + down.1 + 1) / 2, up.2 || down.2)
  else ((left.1 + right.1 + up.1 + down.1 + 2) / 4, left.2 || right.2 || up.2 || down.2)

/-- One cell of the picture that stages 4 to 7 work on: a pixel of a full pass, or a 2 × 2 bin of a features-only pass. -/
structure Cell where
  l : Nat
  s : Nat
  saturated : Bool
  temp : Option Nat
  deriving DecidableEq, Repr

/-- Stage 3 for one pixel (R253): L, S and saturation. -/
def Generation.demosaic (g : Generation) (ps : Array Pixel) (n off i j : Nat) : Cell :=
  let own := pixelOf ps n i j
  let other := estimateAt ps n i j
  if g.isLong (off + i) (off + j) then ⟨own.1, other.1, own.2 || other.2, none⟩ else ⟨other.1, own.1, own.2 || other.2, none⟩

/-- A bin of a features-only pass (R270): rounded means of its two L and its two S pixels. -/
def Generation.bin (g : Generation) (ps : Array Pixel) (n off i j : Nat) : Cell :=
  let a := pixelOf ps n (2 * i) (2 * j)
  let b := pixelOf ps n (2 * i + 1) (2 * j)
  let c := pixelOf ps n (2 * i) (2 * j + 1)
  let d := pixelOf ps n (2 * i + 1) (2 * j + 1)
  let even := (a.1 + d.1 + 1) / 2
  let odd := (b.1 + c.1 + 1) / 2
  let sat := a.2 || b.2 || c.2 || d.2
  if g.isLong (off + 2 * i) (off + 2 * j) then ⟨even, odd, sat, none⟩ else ⟨odd, even, sat, none⟩

/-! ### Stage 4 (R254, R255) -/

/-- The ratio code; L of 0 under MIN_SIGNAL 0 leaves it free. -/
def Generation.ratio (g : Generation) (draw l s : Nat) : Nat :=
  if l = 0 then Config.freeNat draw % 65536 else min 65535 (16384 * s * g.ratioGain / (l * 4096))

/-- The temperature of a ratio code, 0.1 K; an entry of 0 that is used makes it invalid. -/
def Generation.tempOf (g : Generation) (r : Nat) : Option Nat :=
  let e0 := leAt g.tempTable (2 * (r / 64)) 2
  let e1 := leAt g.tempTable (2 * (r / 64 + 1)) 2
  let f := r % 64
  if e0 = 0 ∨ (e1 = 0 ∧ f ≠ 0) then none
  else some ((e0 : Int) + (((e1 : Int) - e0) * f + 32) / 64).toNat

/-- A cell with its temperature. -/
def Generation.withTemp (g : Generation) (draw : Nat) (c : Cell) : Cell :=
  if c.l < g.minSignal ∨ c.s < g.minSignal ∨ c.saturated ∨ g.tempTable.isEmpty then { c with temp := none }
  else { c with temp := g.tempOf (g.ratio draw c.l c.s) }

/-- The picture: its width in cells, the sensor coordinate at which it begins, pixels per side of a cell, and the cells in
raster order. -/
structure Picture where
  width : Nat
  off : Nat
  step : Nat
  cells : Array Cell

/-- Stages 1 to 4 of a pass over raw pixels. -/
def Generation.picture (g : Generation) (format draw : Nat) (featuresOnly : Bool) (raw : List Nat) : Picture :=
  let n := formatWidth format
  let off := formatOffset format
  let at_ (k : Nat) : Nat × Nat := (k % n, k / n)
  let one : Array Pixel := ((raw.zip (List.range (n * n))).map (fun (v, k) => g.corrected (off + (at_ k).1) (off + (at_ k).2) v)).toArray
  let two : Array Pixel := ((List.range (n * n)).map (fun k => g.replaced one n off (at_ k).1 (at_ k).2)).toArray
  let w := if featuresOnly then n / 2 else n
  let cell (k : Nat) : Cell := if featuresOnly then g.bin two n off (k % w) (k / w) else g.demosaic two n off (k % w) (k / w)
  ⟨w, off, if featuresOnly then 2 else 1, ((List.range (w * w)).map (fun k => g.withTemp (draw + k) (cell k))).toArray⟩

/-! ### Stage 5 (R256, R257) -/

/-- A cell of the picture by its raster number. -/
def Picture.cell (p : Picture) (k : Nat) : Cell := p.cells.getD k ⟨0, 0, false, none⟩

/-- The eight neighbours of a cell. -/
def Picture.near (p : Picture) (k : Nat) : List Nat :=
  let w := p.width
  let i := k % w
  let j := k / w
  ([(i + 1, j + 1), (i + 1, j), (i + 1, j - 1), (i, j + 1), (i, j - 1), (i - 1, j + 1), (i - 1, j), (i - 1, j - 1)].filter (fun q =>
    decide (q.1 < w) && decide (q.2 < w))).map (fun q => w * q.2 + q.1)

/-- The 8-connected set of cells that meet a test, from the cells of a stack: cells seen, and the set so far. -/
def Picture.flood (p : Picture) (ok : Nat → Bool) : Nat → List Nat → Array Bool → List Nat → Array Bool × List Nat
  | 0, _, seen, acc => (seen, acc)
  | _ + 1, [], seen, acc => (seen, acc)
  | fuel + 1, k :: rest, seen, acc =>
    let next := ((p.near k).filter (fun q => ok q && !(seen.getD q true))).eraseDups
    p.flood ok fuel (next ++ rest) (next.foldl (fun a q => a.setIfInBounds q true) seen) (k :: acc)

/-- No cell seen yet. -/
def Picture.unseen (p : Picture) : Array Bool := Array.replicate (p.width * p.width) false

/-- The quantity segmented: T where there is a table, else L (R256). -/
def Generation.measure (g : Generation) (c : Cell) : Option Nat := if g.tempTable.isEmpty then some c.l else c.temp

/-- The hottest cell: the first in raster order among equals. -/
def Picture.hottest (p : Picture) (g : Generation) : Option (Nat × Nat) :=
  (List.range (p.width * p.width)).foldl (fun best k => match g.measure (p.cell k), best with
    | some v, some b => if b.2 < v then some (k, v) else some b
    | some v, none => some (k, v)
    | none, b => b) none

/-- The melt-pool region, as raster numbers; empty when there is none (R256). -/
def Picture.region (p : Picture) (g : Generation) : List Nat :=
  match p.hottest g with
  | some (k, v) =>
    if v < g.segThreshold then []
    else (p.flood (fun q => ((g.measure (p.cell q)).map (fun m => decide (g.segThreshold ≤ m))).getD false) (p.width * p.width) [k]
      (p.unseen.setIfInBounds k true) []).2
  | none => []

/-- The number of spatter blobs (R257). -/
def Picture.spatter (p : Picture) (g : Generation) (region : List Nat) : Nat :=
  let ok (q : Nat) : Bool := decide (g.spatterLevel ≤ (p.cell q).l)
  let r := (List.range (p.width * p.width)).foldl (fun (a : Array Bool × Nat) k =>
    if ok k && !(a.1.getD k true) then
      let f := p.flood ok (p.width * p.width) [k] (a.1.setIfInBounds k true) []
      let area := f.2.length * (p.step * p.step)
      (f.1, if !f.2.any region.contains && decide (g.spatterMin ≤ area) && decide (area ≤ g.spatterMax) then a.2 + 1 else a.2)
    else a) (p.unseen, 0)
  min 255 r.2

/-! ### Stage 6 (R258) -/

/-- The features of a frame. -/
structure Features where
  pool : Bool
  area : Nat
  cx : Nat
  cy : Nat
  length : Nat
  width : Nat
  peak : Nat
  mean : Nat
  meanL : Nat
  spatter : Nat
  saturated : Nat
  deriving DecidableEq, Repr

/-- The centre of a cell in half pixels. -/
def Picture.centre (p : Picture) (k : Nat) : Nat × Nat :=
  (2 * (p.off + p.step * (k % p.width)) + (p.step - 1), 2 * (p.off + p.step * (k / p.width)) + (p.step - 1))

/-- The extent of cells along an angle, in 1/16 pixel. -/
def Picture.extent (p : Picture) (region : List Nat) (angle : Nat) : Nat :=
  let along := region.map (fun k => ((p.centre k).1 : Int) * cosQ angle + ((p.centre k).2 : Int) * sinQ angle)
  let lo := along.foldl min (along.headD 0)
  let hi := along.foldl max (along.headD 0)
  roundDivNat (hi - lo).toNat (2 ^ 27) + 16

/-- The features of a picture, with φ. DESIGN CHOICE (log entry 100): the manual gives no rounding of MEAN_T and MEAN_L;
both round to nearest. -/
def Picture.features (p : Picture) (g : Generation) (angle : Nat) : Features :=
  let region := p.region g
  let n := region.length
  let cells := region.map p.cell
  let temps := cells.filterMap (fun c => c.temp)
  let spatter := p.spatter g region
  let saturated := (p.cells.toList.countP (fun c => c.saturated)) * (p.step * p.step)
  if n = 0 then ⟨false, 0, 0, 0, 0, 0, 0, 0, 0, spatter, saturated⟩
  else
    { pool := true, area := min 65535 (n * (p.step * p.step))
      cx := roundDivNat (128 * (region.map (fun k => (p.centre k).1)).sum) n
      cy := roundDivNat (128 * (region.map (fun k => (p.centre k).2)).sum) n
      length := p.extent region angle, width := p.extent region (angle + 16384)
      peak := temps.foldl max 0, mean := roundDivNat temps.sum temps.length
      meanL := min 65535 (roundDivNat (cells.map (fun c => c.l)).sum n), spatter := spatter, saturated := saturated }

end Sys2Proof.Machine
end

