-- ==== Sys2Proof/Machine/Sieve.lean ====
section
/-!
DEFINITION. Sieve: camera frames and their buffers, generations, passes, feature records, outliers, flicker, the archive and
the feature log (R243 to R249, R259 to R283).
-/
namespace Sys2Proof.Machine

/-! ### Reception (R244, R245, R267, R271) -/

/-- S_n from its low 32 bits: the newest ET with them that lies within 2^31 ticks before arrival. -/
def startFrom (lo arrival : Nat) : Option Tick :=
  let base := arrival / 2 ^ 32 * 2 ^ 32 + lo % 2 ^ 32
  if base ≤ arrival then (if arrival - base < 2 ^ 31 then some base else none)
  else if 2 ^ 32 ≤ base ∧ arrival + 2 ^ 32 - base < 2 ^ 31 then some (base - 2 ^ 32) else none

/-- S_n is a frame start of a generation (R243). -/
def Generation.starts (g : Generation) (start : Tick) : Bool :=
  decide (g.phase ≤ start) && (start - g.phase) % g.period == 0

/-- Room made for an arriving frame: an archiving buffer is abandoned, else the oldest queued one is dropped. -/
def State.makeRoom (s : State) (h : HeadNo) : State :=
  let c := (s.head h).camera
  if c.frames.length < 4 then s
  else match c.frames.find? (fun f => f.state == .archiving) with
    | some f => (s.onCamera h (fun c => { c with frames := c.frames.erase f })).bump (0x6220 + h) 7
    | none => match c.frames.find? (fun f => f.state == .queued) with
      | some f => s.dropBuffer h 1 f
      | none => s

/-- A frame taken into a free buffer, or dropped with reason 1. -/
def State.takeFrame (s : State) (h seq gen format start : Nat) (g : Generation) : State :=
  let m := (s.head h).camera.midAt (start + g.integration / 2)
  let t := s.makeRoom h
  if (t.head h).camera.frames.length < 4 then
    t.onCamera h (fun c => { c with frames := c.frames ++ [⟨.receiving, seq, gen, g, format, start, [], false, false, 0, 0, m⟩] })
  else t.dropFrame h 1 m start g

/-- A camera header (R244): FRAME_SEQ, GEN, FORMAT, START_ET_LO and its arrival. -/
def State.cameraHeader (s : State) (h seq gen format lo arrival : Nat) : State :=
  let t := (s.cameraBroken h).bump (0x6220 + h) 1
  match (s.head h).camera.gen? gen with
  | none => t.countDrop h 4
  | some g =>
    match startFrom lo arrival with
    | none => t.countDrop h 5
    | some start =>
      if format ≠ g.format ∨ g.starts start = false then
        t.dropFrame h 5 ((s.head h).camera.midAt (start + g.integration / 2)) start g
      else t.takeFrame h seq gen format start g

/-- Pixels of the frame in reception; the last one queues it (R244, R245). -/
def CamFrame.withPixels (f : CamFrame) (ps : List Nat) (arrival deadEnd : Tick) : CamFrame :=
  let all := f.pixels ++ ps
  if formatPixels f.format ≤ all.length then
    { f with pixels := all.take (formatPixels f.format), state := .queued, late := decide (deadEnd < arrival) }
  else { f with pixels := all }

/-- Camera pixels that arrive at an ET; GEN_APPLIED follows a frame that is complete (R247). -/
def State.cameraPixels (s : State) (h : HeadNo) (ps : List Nat) (arrival : Tick) : State :=
  match (s.head h).camera.receiving with
  | none => s
  | some f =>
    let g := f.withPixels ps arrival (f.params.endOf f.startEt)
    s.onCamera h (fun c => { c with
      frames := c.frames.map (fun x => if x = f then g else x)
      applied := if g.state = .queued then f.gen else c.applied
      appliedOn := if g.state = .queued then f.params.enable else c.appliedOn })

/-! ### Dispatch (R268 to R270) -/

/-- The heads of a pipeline. -/
def pipeHeads (pipe : Nat) : List HeadNo := (List.range 8).map (fun i => 8 * pipe + i)

/-- The queued frames of a pipeline: deadline, head and frame. -/
def State.queued (s : State) (pipe : Nat) : List (Tick × HeadNo × CamFrame) :=
  (pipeHeads pipe).flatMap (fun h => ((s.head h).camera.frames.filter (fun f => f.state == .queued)).map (fun f =>
    (f.params.deadline f.startEt, h, f)))

/-- The queued frame with the earliest deadline; the lower head on equal deadlines. -/
def State.nextFrame (s : State) (pipe : Nat) : Option (Tick × HeadNo × CamFrame) :=
  (s.queued pipe).foldl (fun best x => match best with
    | some b => if x.1 < b.1 then some x else some b
    | none => some x) none

/-- A pipeline changed. -/
def State.onPipe (s : State) (pipe : Nat) (f : Pipeline → Pipeline) : State :=
  { s with sieve := { s.sieve with pipes := s.sieve.pipes.modify pipe f } }

/-- A pass begun on a frame. -/
def State.startPass (s : State) (pipe : Nat) (h : HeadNo) (f : CamFrame) (only : Bool) : State :=
  (s.onCamera h (fun c => { c with frames := c.frames.map (fun x => if x = f then
    { f with state := .processing, featuresOnly := only, doneAt := s.et + passTicks f.format only } else x) })).onPipe pipe (fun p =>
      { p with busy := some h, since := s.et })

/-- A late frame counted (R280). -/
def State.countLate (s : State) (pipe deadline : Nat) (f : CamFrame) : State :=
  (s.bump (0x6010 + pipe) 3).raiseReg (0x6010 + pipe) 4 ((s.et + passTicks f.format false - deadline : Nat) : Int)

/-- A frame dispatched: a full pass, or what LATE_POLICY gives a late one. -/
def State.dispatch (s : State) (pipe deadline : Nat) (h : HeadNo) (f : CamFrame) : State :=
  if ((s.head h).camera.gen? f.gen).isNone then s.dropBuffer h 4 f
  else if s.et + passTicks f.format false ≤ deadline then s.startPass pipe h f false
  else if s.reg 0x6000 1 = 1 then (s.countLate pipe deadline f).dropBuffer h 2 f
  else (s.countLate pipe deadline f).startPass pipe h f true

/-- PIPELINE_DISPATCH (R269). -/
def execPipelineDispatch (pipe : Nat) (s : State) : Host.Outcome State Fault Refusal :=
  .next (match s.sieve.pipes[pipe]? with
    | some p => if p.busy.isSome then s
      else match s.nextFrame pipe with
        | some (d, h, f) => s.dispatch pipe d h f
        | none => s
    | none => s)

/-! ### Flicker (R264 to R266) -/

/-- The bins of MONITOR: FREQ and THRESHOLD. -/
def binsOf (bs : List Byte) : List (Nat × Nat) := (chunks 8 bs).map (fun e => (leAt e 0 4, leAt e 4 2))

/-- The sums of a window against the cosine and the sine of a bin: values, each 256 times its distance from the mean, with the phase
of each in 1/62,500,000,000 turn. -/
def flickerSums (step : Nat) (ys : List Int) : Int × Int :=
  (ys.zip (List.range ys.length)).foldl (fun a p =>
    let n := step * p.2 % 62500000000
    (a.1 + p.1 * cosTurn60 n 62500000000, a.2 + p.1 * cosTurn60 (n + 46875000000) 62500000000)) (0, 0)

/-- 256 × P_k of a window, from FREQ_k × FRAME_PERIOD, rounded down; 0 where its values do not vary (R265). -/
def flickerPower (step : Nat) (window : List Nat) : Nat :=
  let total := window.sum
  let ys : List Int := window.map (fun v => (256 * v : Nat) - (total : Int))
  let spread := (ys.map (fun y => y * y)).sum
  let s := flickerSums step ys
  if spread = 0 then 0 else (2 * (s.1 * s.1 + s.2 * s.2) / (spread * 2 ^ 120)).toNat

/-- The same as the manual's fixed-point arithmetic gives it: the manual states the formula and not the rounding, so the value is one
of the two whole numbers about it, and which of them is free. 0 where the bin lies outside the stated range. -/
def flickerOf (period freq : Nat) (window : List Nat) : Nat :=
  if freq = 0 ∨ 62500000000 ≤ 2 * freq * period ∨ window.all (fun v => v == window.headD 0) then 0
  else flickerPower (freq * period) window + Config.flickerRound (freq * period) window % 2

/-- The flicker window of a camera at a frame that begins a new generation or follows a gap; the flags and powers of the last completed
window stay (R283). -/
def Camera.windowFor (c : Camera) (f : CamFrame) : Camera :=
  let a : Camera := if c.statGen = f.gen then c
    else { c.restartCount with statGen := f.gen, ready := false, window := [], windowFrames := [], windowMarking := false }
  if c.statGen = f.gen ∧ c.lastSeq = some ((f.seq + 65535) % 65536) then a
  else { a with window := [], windowFrames := [], windowMarking := false }

/-- The value of a frame taken into the window. -/
def Camera.addValue (c : Camera) (f : CamFrame) (value : Nat) : Camera :=
  { c with
    window := c.window ++ [value], lastSeq := some f.seq, windowMarking := c.windowMarking || f.mid.mask != 0
    windowFrames := c.windowFrames ++ [runFrame f.mid 0 f.startEt f.params.integration] }

/-- Powers and flags of a completed window. -/
def windowPowers (bins : List (Nat × Nat)) (period : Nat) (window : List Nat) : List Nat :=
  bins.map (fun b => min 65535 (flickerOf period b.1 window))

/-- Flags of a completed window. -/
def windowFlags (bins : List (Nat × Nat)) (powers : List Nat) : Nat :=
  ((bins.zip powers).zip (List.range 8)).foldl (fun m x => if 0 < x.1.1.1 ∧ x.1.1.2 ≤ x.1.2 ∧ 0 < x.1.2 then setBit m x.2 else m) 0

/-- A completed window evaluated. -/
def State.endWindow (s : State) (h : HeadNo) (g : Generation) : State :=
  let c := (s.head h).camera
  if c.window.length < 256 then s
  else
    let bins := binsOf (s.blob (0x6200 + h) 8)
    let powers := windowPowers bins g.period c.window
    let flags := windowFlags bins powers
    let t := s.onCamera h (fun c => { c with
      ready := true, flags := flags, powers := powers, window := [], windowFrames := [], windowMarking := false })
    if flags = 0 then t
    else
      let u := t.setLeaf (0x2440 + h) 3
      if c.windowMarking then u.writeRun h 0x21 (c.windowFrames.map (fun p => { p with detail := flags })) else u

/-- The flicker statistics at a processed frame. -/
def State.flicker (s : State) (h : HeadNo) (f : CamFrame) (x : Features) : State :=
  (s.onCamera h (fun c => (c.windowFor f).addValue f (if x.pool then x.meanL else 0))).endWindow h f.params

/-! ### Outliers (R262, R263) -/

/-- OUTLIER_MASK of a frame. -/
def State.outliers (s : State) (h : HeadNo) (g : Generation) (x : Features) : Nat :=
  let lim (sub : Nat) : Nat := s.regN (0x6200 + h) sub
  let hot := !g.tempTable.isEmpty
  flag (decide (x.area < lim 1)) + 2 * flag (decide (lim 2 < x.area)) + 4 * flag (hot && decide (lim 3 < x.peak))
    + 8 * flag (hot && decide (x.mean < lim 4)) + 16 * flag (hot && decide (lim 5 < x.mean)) + 32 * flag (decide (lim 6 < x.spatter))

/-- The outlier stretch of a head written, when it has begun; then nothing is kept. -/
def State.flushOutliers (s : State) (h : HeadNo) : State :=
  let c := (s.head h).camera
  let t := s.onCamera h (fun c => { c with outCount := 0, outlying := false, outFrames := [] })
  if c.outlying then t.writeRun h 0x20 c.outFrames else t

/-- An evaluated frame with an outlier: it counts, and from the confirming frame on the stretch has begun. -/
def State.outlierFrame (s : State) (h : HeadNo) (f : CamFrame) (mask : Nat) : State :=
  ((s.bump (0x6220 + h) 16).setLeaf (0x2440 + h) 2).onCamera h (fun c =>
    { c with
      outCount := c.outCount + 1, outlying := c.outlying || decide (s.regN (0x6200 + h) 7 ≤ c.outCount + 1)
      outFrames := c.outFrames ++ [runFrame f.mid mask f.startEt f.params.integration] })

/-- The frames of a run from a tick on. -/
def runFrom (first : Tick) (fs : List RunFrame) : List RunFrame :=
  (fs.filter (fun f => decide (first ≤ f.last))).map (fun f => { f with first := max first f.first })

/-- Parts of items that have ended leave a stretch as records; the part of its last item stays (R116). -/
def State.closedParts (s : State) (h : HeadNo) : State :=
  let x := s.head h
  let ps := x.path.partsOf x.camera.outFrames
  match x.camera.outlying, ps.getLast? with
  | true, some p =>
    if ps.length < 2 then s
    else (s.onCamera h (fun c => { c with outFrames := runFrom p.first c.outFrames })).writeParts h 0x20 ps.dropLast
  | _, _ => s

/-- The outlier evaluation of a processed frame. -/
def State.evaluateOutliers (s : State) (h : HeadNo) (f : CamFrame) (mask : Nat) : State :=
  if f.mid.mask = 0 then s.onCamera h Camera.restartCount
  else if mask = 0 then s.flushOutliers h
  else (s.outlierFrame h f mask).closedParts h

/-! ### Feature records (R259 to R261) -/

/-- φ of a frame (R258). -/
def scanAngle (m : MidState) (field camera : Nat) : Nat := if m.moving then (m.angle + 131072 - field % 65536 - camera % 65536) % 65536 else 0

/-- STATUS (R260). -/
def statusOf (f : CamFrame) (g : Generation) (c : Camera) (x : Features) (mask : Nat) : Nat :=
  128 * flag f.featuresOnly + 64 * flag (f.mid.mask != 0) + 32 * flag x.pool + 16 * flag (!g.tempTable.isEmpty) + 8 * flag c.ready
    + 4 * flag (mask != 0) + 2 * flag f.late

/-- DONE_OFFSET: whole frames from E_n to the end of processing; where processing ends before E_n the manual states none. -/
def doneOffset (done finish draw : Nat) : Nat := if done < finish then Config.freeNat draw % 65536 else min 65535 ((done - finish) / 125)

/-- The 64 bytes of a feature record (R259). -/
def featureRecord (h : HeadNo) (f : CamFrame) (g : Generation) (c : Camera) (x : Features) (mask angle done : Nat) : List Byte :=
  let two (hi lo : Nat) : List Byte := leBytes 4 (hi * 65536 + lo)
  leBytes 4 (h * 2 ^ 24 + statusOf f g c x mask * 65536 + f.seq) ++ two f.gen x.area ++ leBytes 8 f.startEt ++ leBytes 4 g.integration
    ++ two x.cx x.cy ++ two x.length x.width ++ two x.peak x.mean
    ++ leBytes 4 (x.spatter * 2 ^ 24 + (if c.ready then c.flags else 0) * 65536 + min 65535 x.saturated) ++ leBytes 4 f.mid.id
    ++ leBytes 4 (f.mid.item * 65536 + f.mid.mask * 256) ++ leBytesInt 4 f.mid.x ++ leBytesInt 4 f.mid.y ++ two angle x.meanL
    ++ two mask done ++ leBytes 4 0

/-- A record appended to the DRAM feature log, the oldest leaving when it is full (R261, R279). -/
def State.logFeature (s : State) (bytes : List Byte) : State :=
  let all := s.sieve.log ++ [bytes]
  let excess := all.length - s.dram.logMiB * 16384
  ({ s with sieve := { s.sieve with log := all.drop excess, oldest := s.sieve.oldest + excess } }).acceptWrite 4
    (s.sieve.oldest + s.sieve.log.length) bytes

/-- A record that goes to the log, to host software and, unless features-only, to the control engine at its deadline. -/
def State.placeRecord (s : State) (h : HeadNo) (f : CamFrame) (g : Generation) (bytes : List Byte) : State :=
  let t := (s.logFeature bytes).onCamera h (fun c => { c with
    lastRecord := bytes, held := if f.featuresOnly then c.held else c.held ++ [⟨g.deadline f.startEt, bytes⟩] })
  if 0 < g.featureDec ∧ f.seq % g.featureDec = 0 then t.publish 2 0x37 false bytes else t

/-! ### The raw archive (R274, R275) -/

/-- Two pixels in three bytes. -/
def packPixels : List Nat → List Byte
  | p :: q :: rest => byteOf p :: byteOf (p / 256 + q % 16 * 16) :: byteOf (q / 16) :: packPixels rest
  | [p] => [byteOf p, byteOf (p / 256)]
  | [] => []

/-- The payload of an ARCHIVE message. -/
def archivePayload (h : HeadNo) (f : CamFrame) (integration : Nat) : List Byte :=
  [byteOf h, byteOf f.format] ++ leBytes 2 f.gen ++ leBytes 2 f.seq ++ [byteOf f.status, 0] ++ leBytes 8 f.startEt ++ leBytes 4 integration
    ++ packPixels f.pixels

/-- The size of that message. -/
def archiveSize (format : Nat) : Nat := 20 + formatPixels format * 3 / 2

/-- Archive tokens, in 10^−6 byte, accrued up to an ET: ARCHIVE_BUDGET × 125,000 bytes/s is 200 of them a tick for each Mbit/s. -/
def State.accrue (s : State) : State :=
  { s with sieve := { s.sieve with
    tokens := min 65536000000 (s.sieve.tokens + (s.et - s.sieve.tokensAt) * s.regN 0x6000 2 * 200), tokensAt := s.et } }

/-- Frames in the archive queue or being copied to it. -/
def State.archiveUsed (s : State) : Nat :=
  s.sieve.archive.length + (s.heads.map (fun x => x.camera.frames.countP (fun f => f.state == .archiving))).sum

/-- The buffer after its pass: archived when selected and allowed, else freed (R274). -/
def State.archiveOrFree (s : State) (h : HeadNo) (f : CamFrame) (g : Generation) (status : Nat) : State :=
  let freed (t : State) : State := t.onCamera h (fun c => { c with frames := c.frames.erase f })
  if 0 < g.archiveDec ∧ f.seq % g.archiveDec = 0 then
    let t := s.accrue
    if archiveSize f.format * 1000000 ≤ t.sieve.tokens ∧ t.archiveUsed < t.dram.archiveFrames then
      ({ t with sieve := { t.sieve with tokens := t.sieve.tokens - archiveSize f.format * 1000000 } }).onCamera h (fun c =>
        { c with frames := c.frames.map (fun x => if x = f then { f with state := .archiving, status := status } else x) })
    else (freed t).bump (0x6220 + h) 7
  else freed s

/-! ### The end of a pass -/

/-- Cycles of a pass, begun and ended at given ETs, that lie within the last 1 ms; a cycle of CLK_PIX is 1.25 ticks. -/
def cyclesWithin (et begun ended : Tick) : Nat := (min et ended - max begun (et - 625000)) * 4 / 5

/-- LOAD of a pipeline, per mille of the last 1 ms, the pass in progress included (R280). -/
def Pipeline.load (p : Pipeline) (et : Tick) : Nat :=
  ((p.passes.map (fun x => cyclesWithin et (x.1 - x.2 * 5 / 4) x.1)).sum + (if p.busy.isSome then cyclesWithin et p.since et else 0)) / 500

/-- The pipeline after a pass; LOAD is largest as a pass ends. -/
def State.passEnds (s : State) (pipe cycles : Nat) : State :=
  let t := s.onPipe pipe (fun p =>
    { p with busy := none, passes := p.passes.filter (fun x => decide (s.et < x.1 + 625000)) ++ [(p.since + cycles * 5 / 4, cycles)] })
  t.raiseReg (0x6010 + pipe) 2 ((((t.sieve.pipes[pipe]?).map (fun p => p.load s.et)).getD 0 : Nat) : Int)

/-- Passes counted by kind, with the leaf of a features-only pass. -/
def State.countPass (s : State) (h : HeadNo) (only : Bool) : State :=
  if only then (s.bump (0x6220 + h) 3).setLeaf (0x2440 + h) 1 else s.bump (0x6220 + h) 2

/-- The record of drops before a frame that is processed closes (R273). -/
def State.endDrops (s : State) (h : HeadNo) (f : CamFrame) : State :=
  if (s.head h).camera.dropFrames.any (fun q => decide (q.first < f.startEt)) then s.flushDrops h else s

/-- A pass over a frame ends. -/
def State.passDone (s : State) (pipe : Nat) (h : HeadNo) (f : CamFrame) : State :=
  let g := f.params
  let angle := scanAngle f.mid (s.cfg h).angle g.cameraAngle
  let x := (g.picture f.format (s.fresh + 1) f.featuresOnly f.pixels).features g angle
  let mask := if f.mid.mask = 0 then 0 else s.outliers h g x
  let a := (((s.passEnds pipe (passCycles f.format f.featuresOnly)).endDrops h f).countPass h f.featuresOnly).flicker h f x
  let b := a.evaluateOutliers h f mask
  let c := (b.head h).camera
  let t := b.placeRecord h f g (featureRecord h f g c x mask angle (doneOffset s.et (g.endOf f.startEt) s.fresh))
  ({ t with fresh := t.fresh + 1 + formatPixels f.format }).archiveOrFree h f g (statusOf f g c x mask)

/-- PROCESSING_COMPLETE (R259 to R268, R274). -/
def execProcessingComplete (pipe : Nat) (s : State) : Host.Outcome State Fault Refusal :=
  .next (match (s.sieve.pipes[pipe]?).bind (fun p => p.busy) with
    | some h => match (s.head h).camera.frames.find? (fun f => f.state == .processing) with
      | some f => if f.doneAt ≤ s.et then s.passDone pipe h f else s
      | none => s
    | none => s)

/-! ### Hand-over and archive (R261, R274, R303) -/

/-- A record acts on the outer loop of a channel. -/
def State.outerTakes (s : State) (h : HeadNo) (at_ : Tick) (record : List Byte) (b : Nat) : Bool :=
  let status := leAt record 2 1
  let c := s.chan h b
  let l := s.law (c.lawAt at_)
  status.testBit 5 && status.testBit 6 && (status.testBit 4 || decide (1 < l.feature)) && (leAt record 41 1).testBit b && c.enabled && l.has 4

/-- A record handed to the lanes at its deadline. -/
def State.handOver (s : State) (h : HeadNo) (r : HeldRecord) : State :=
  (List.range 8).foldl (fun t b => if s.outerTakes h r.deadline r.bytes b then t.toLane b (.outer r.deadline h b r.bytes) else t) s

/-- FEATURE_RECORD_HANDOVER (R261): the records of a head whose deadline has come. -/
def execFeatureRecordHandover (h : Nat) (s : State) : Host.Outcome State Fault Refusal :=
  .next (((s.head h).camera.held.filter (fun r => decide (r.deadline ≤ s.et))).foldl (fun t r => t.handOver h r)
    (s.onCamera h (fun c => { c with held := c.held.filter (fun r => decide (s.et < r.deadline)) })))

/-- ARCHIVE_COPY_COMPLETE (R274): the oldest copy of a head is in the queue, its buffer free. -/
def execArchiveCopyComplete (h : Nat) (s : State) : Host.Outcome State Fault Refusal :=
  .next (match (s.head h).camera.frames.find? (fun f => f.state == .archiving) with
    | some f =>
      let t := s.onCamera h (fun c => { c with frames := c.frames.erase f })
      let a := archivePayload h f f.params.integration
      (({ t with sieve := { t.sieve with archive := t.sieve.archive ++ [a] } }).acceptWrite 5 (t.regN (0x6220 + h) 6 * 32 + h) a).bump
        (0x6220 + h) 6
    | none => s)

/-- ARCHIVE_MESSAGE_SEND (R274): the tokens that each frame took pace the queue. -/
def execArchiveMessageSend (s : State) : Host.Outcome State Fault Refusal :=
  .next (match s.sieve.archive with
    | a :: rest => ({ s with sieve := { s.sieve with archive := rest } }).publish 3 0x38 false a
    | [] => s)

/-! ### Commits (R246, R247) -/

/-- The generation that a commit forms from the staged and the effective values. -/
def State.staged (s : State) (h number : Nat) : Generation :=
  let o := 0x6100 + h
  let v (sub : Nat) : Nat := s.regN o sub
  { number := number, format := v 1, period := v 2, phase := v 3, integration := v 4, gain := v 5, enable := v 6 == 1, minSignal := v 7
    segThreshold := v 8, spatterLevel := v 9, spatterMin := v 10, spatterMax := v 11, cameraAngle := v 12, mosaic := v 13, budget := v 14
    archiveDec := v 15, featureDec := v 16, blackLevel := s.regN (0x6140 + h) 3, flatField := s.blob (0x6160 + h) 3
    defectPixels := s.blob (0x6180 + h) 3, ratioGain := s.regN (0x61A0 + h) 3, tempTable := s.blob (0x61C0 + h) 3 }

/-- Every staged value lies in its range, and PHASE is less than FRAME_PERIOD (R247, R281). -/
def Generation.inRange (g : Generation) : Bool :=
  decide (g.format ≤ 1) && decide (formatPeriod g.format ≤ g.period) && decide (g.period ≤ 6250000) && g.period % 125 == 0
    && decide (g.phase < g.period) && g.phase % 125 == 0 && decide (125 ≤ g.integration) && decide (g.integration ≤ g.period)
    && decide (g.spatterMin ≤ g.spatterMax) && decide (g.mosaic ≤ 1) && decide (125 ≤ g.budget) && decide (g.budget ≤ 6250000)

/-- The commit before has not been applied yet (R247). DESIGN CHOICE (log entry 107): a commit accepted that no frame has carried yet
counts as one not applied. -/
def State.commitPending (s : State) (h : HeadNo) : Bool :=
  let c := (s.head h).camera
  (c.committed != c.applied || !c.forming.isEmpty) && (s.head h).link.state == .operation && c.appliedOn

/-- The number of the next generation: the count wraps from 65,535 to 1. -/
def nextGeneration (n : Nat) : Nat := if 65535 ≤ n then 1 else n + 1

/-- The number of the newest generation formed, complete or not. -/
def Camera.newest (c : Camera) : Nat := ((c.forming.getLast?).map (fun g => g.number)).getD c.committed

/-- The generation formed; the commit completes at the start of assembly of a frame (R246, R338). -/
def State.commit (s : State) (h : HeadNo) : State :=
  let g := s.staged h (nextGeneration (s.head h).camera.newest)
  s.onCamera h (fun c => { c with forming := c.forming ++ [g] })

/-- The refusal of a commit. -/
def State.commitRefusal (s : State) (h : HeadNo) : Option Abort :=
  refuseIf (!(s.staged h 0).inRange || s.commitPending h) .conditions

/-- COMMIT (R246, R247). -/
def execCommit (path : Path) (h : Nat) (s : State) : Host.Outcome State Fault Refusal :=
  .next (s.inTurnOf path (.commit path h) (s.access path (orElse (refuseIf (decide (32 ≤ h)) .noObject) (orElse (s.writeGate path (0x6100 + h) 17) (s.commitRefusal h)))
    ((s.commit h).mirror (0x6100 + h) 17 [1]) []))

/-! ### The feature log (R279) -/

/-- The position of the first record that a read returns: CURSOR, or OLDEST where the records from CURSOR on are gone. -/
def State.logFrom (s : State) : Nat := max (s.regN 0x6001 1) s.sieve.oldest

/-- The records that a read returns, a line that could not be read as 64 bytes of 0xFF (R536). -/
def State.logBlock (s : State) : List (List Byte) :=
  (((s.sieve.log.drop (s.logFrom - s.sieve.oldest)).take 16).zip (List.range 16)).map (fun (r, i) =>
    if s.dram.unread.contains (s.logFrom + i) then List.replicate 64 255 else r)

/-- CURSOR past the records returned. -/
def State.logRead (s : State) : State :=
  let n := s.logBlock.length
  let t := if n = 0 then s else s.setReg 0x6001 1 ((s.logFrom + n : Nat) : Int)
  { t with dram := { t.dram with unread := t.dram.unread.filter (fun p => decide (p < s.logFrom) || decide (s.logFrom + n ≤ p)) } }

/-- FEATURE_LOG_BLOCK_READ (R279). -/
def execFeatureLogBlockRead (path : Path) (s : State) : Host.Outcome State Fault Refusal :=
  .next (s.inTurnOf path (.featureLogBlockRead path) (s.access path (s.readGate 0x6001 2) s.logRead s.logBlock.flatten))

end Sys2Proof.Machine
end

