-- ==== Sys2Proof/Machine/Uplink.lean ====
section
/-!
DEFINITION. An uplink frame as the controller takes it in: its validity, training, and in OPERATION its photodiode, camera,
position, AUX and DARK_MAP content (R155 to R159, R189, R286, R298, R327, R352 to R363, R473, R474, R577, R578).
-/
namespace Sys2Proof.Machine

/-! ### Fields (R352) -/

/-- The CRC of a frame's bytes is right (R328). -/
def frameCrcOk (bs : List Byte) : Bool := bs.length == 99 && crc16 (bs.take 97) == leAt bs 97 2

/-- The bytes of a frame whose characters and CRC are right (R327, R328). -/
def frameSound (chars : List Nat) : Option (List Byte) := (frameOfChars chars).filter frameCrcOk

/-- The characters of a frame with the pair's polarity as it has been found (R329). -/
def HeadLink.upright (l : HeadLink) (chars : List Nat) : List Nat := if l.inverted then invertChars chars else chars

/-- FRAME_LO. -/
def upFrameLo (bs : List Byte) : Nat := leAt bs 7 2

/-- AUX_TYPE. -/
def upAuxType (bs : List Byte) : Nat := leAt bs 0 1 % 16

/-- AUX. -/
def upAux (bs : List Byte) : Nat := leAt bs 3 4

/-- Pixels packed two in three bytes (R355). -/
def unpackPixels (bs : List Byte) (n : Nat) : List Nat :=
  (List.range n).map (fun i =>
    let at_ := i / 2 * 3
    if i % 2 = 0 then leAt bs at_ 1 + leAt bs (at_ + 1) 1 % 16 * 256 else leAt bs (at_ + 1) 1 / 16 + leAt bs (at_ + 2) 1 * 16)

/-- The photodiode readings of a frame that carries those of an instant. -/
def photodiodes (bs : List Byte) (t : Tick) (b : Nat) : Option (Nat × Nat) :=
  if (leAt bs 0 1).testBit 6 && leAt bs 63 2 == t % 65536 then some (leAt bs (65 + 4 * b) 2, leAt bs (67 + 4 * b) 2) else none

/-! ### Training (R357 to R359) -/

/-- The frame number with given low bits nearest to a number. -/
def frameNear (lo : Nat) (near : Int) : Int := near + sext 16 (unsignedOf 16 ((lo : Int) - near))

/-- ACQUIRE: sound frames whose numbers follow one another. -/
def HeadLink.acquired (l : HeadLink) (sound : Bool) (lo : Nat) : HeadLink :=
  if sound then { l with good := if 0 < l.good ∧ lo = l.nextFrame then l.good + 1 else 1, nextFrame := (lo + 1) % 65536 }
  else { l with good := 0 }

/-- The measurements of ALIGN agree within ±1 tick. -/
def arrivalsAgree (xs : List Int) : Bool :=
  xs.length == 16 && decide (xs.foldl max (xs.headD 0) - xs.foldl min (xs.headD 0) ≤ 2)

/-- Half the mean of the sixteen, rounded up (R358). -/
def delayOf (xs : List Int) : Nat := ((xs.foldl (fun a x => a + x) 0 + 31) / 32).toNat

/-- One frame in ACQUIRE. -/
def State.inAcquire (s : State) (h : HeadNo) (sound : Bool) (bs : List Byte) : State :=
  let l := ((s.head h).link).acquired sound (upFrameLo bs)
  s.onLink h (fun _ => if l.good = 8 then { l.entered .align with nextFrame := l.nextFrame } else l)

/-- The number of frame that a receiver in training expects comes next. -/
def HeadLink.follows (l : HeadLink) (sound : Bool) (bs : List Byte) : Bool := sound && upFrameLo bs == l.nextFrame

/-- The round trip measured on one more frame of ALIGN (R358); a delay above 62 ticks fails the link and stays readable (R333, R357). -/
def State.measureArrival (s : State) (h : HeadNo) (bs : List Byte) (arrival : Int) : State :=
  let u := frameNear (upFrameLo bs) ((arrival - 250) / 125)
  let xs := ((arrival - 125 * u - 250) :: ((s.head h).link).arrivals).take 16
  if arrivalsAgree xs then
    let t := s.onLink h (fun l => { l with arrivals := xs, delay := delayOf xs, good := 0 })
    if 62 < delayOf xs then t.linkFailed h 2 else t
  else s.onLink h (fun l => { l with arrivals := xs })

/-- One frame in ALIGN: w is measured, then 64 frames at their due time are counted (R357, R358, R717). -/
def State.inAlign (s : State) (h : HeadNo) (sound : Bool) (bs : List Byte) (arrival : Int) : State :=
  let l := (s.head h).link
  let ok := l.follows sound bs
  let t := s.onLink h (fun l => { l with nextFrame := (l.nextFrame + 1) % 65536 })
  if arrivalsAgree l.arrivals then
    let u := frameNear (upFrameLo bs) ((arrival - 250) / 125)
    let off := arrival - (125 * u + 250 + l.delay)
    let good := if ok ∧ -2 ≤ off ∧ off ≤ 2 then l.good + 1 else 0
    t.onLink h (fun l => if good = 64 then { l.entered .negotiate with version := 0, ident := [] } else { l with good := good })
  else if ok then t.measureArrival h bs arrival else t

/-- An IDENT payload received, if it was. -/
def HeadLink.identPart (l : HeadLink) (i : Nat) : Option Nat := storeGet (7 + i) l.actParts

/-- An IDENT payload as it reads: reserved bits are zero (R7, R354). -/
def identPayload (i v : Nat) : Nat := if i = 2 then v / 65536 * 65536 else if i = 4 then v % 16 else v

/-- IDENT payloads kept; the selected version once both ends of the head end's range are known (R354, R359, R360). -/
def HeadLink.heardIdent (l : HeadLink) (type aux : Nat) : HeadLink :=
  let parts := if 7 ≤ type ∧ type ≤ 11 then storePut type aux l.actParts else l.actParts
  { l with actParts := parts, ident := (List.range 5).map (fun i => identPayload i ((storeGet (7 + i) parts).getD 0)) }

/-- The range of a head end covers version 1.0. -/
def versionCommon (ident0 ident1 : Nat) : Bool := decide (ident1 / 65536 ≤ 0x0100) && decide (0x0100 ≤ ident0 % 65536)

/-- OPERATION is entered (R287, R357). -/
def State.enterOperation (s : State) (h : HeadNo) : State :=
  let t := (s.onHead h (fun x => { x with
    link := { x.link.entered .operation with trainedEt := s.et, timeSent := none, sent := [] } })).park h
  if s.dev.state = .armed ∨ s.dev.state = .paused then t.captureDark h else t

/-- One frame in NEGOTIATE. -/
def State.inNegotiate (s : State) (h : HeadNo) (sound : Bool) (bs : List Byte) : State :=
  let l := (s.head h).link
  let t := s.onLink h (fun l => { l with nextFrame := (l.nextFrame + 1) % 65536 })
  if l.follows sound bs then
    let heard := ((t.head h).link).heardIdent (upAuxType bs) (upAux bs)
    let u := t.onLink h (fun _ => heard)
    match heard.identPart 0, heard.identPart 1 with
    | some a, some b =>
      if versionCommon a b then
        if l.version = 0x0100 ∧ upAuxType bs = 7 ∧ upAux bs / 65536 = 0x0100 then (u.onLink h (fun l => { l with version := 0x0100 })).enterOperation h
        else u.onLink h (fun l => { l with version := 0x0100 })
      else u.linkFailed h 3
    | _, _ => u
  else t

/-! ### Invalid frames (R360, R367) -/

/-- An invalid frame counted. -/
def State.countInvalid (s : State) (h : HeadNo) : State := (s.bump (0x8040 + h) 6).setLeaf (0x2480 + h) 0

/-! ### Actual positions (R155 to R159, R354) -/

/-- The tracking test of a sample (R156): the largest |e|, and the limit. -/
def State.track (s : State) (h : HeadNo) (a : ActualSample) : State :=
  let x := (s.head h).path
  let c := s.cfg h
  let ts := s.servoTicks
  match x.errorOf ts c.lag a, x.spanAt (a.et - c.lag) with
  | some e, some _ =>
    let square : Nat := ((e.1 * e.1 + e.2 * e.2) * (c.halfXY * c.halfXY)).toNat
    let limit := s.regN (0x4100 + h) 18 * (2 ^ 31 * ts)
    let t := s.raiseReg (0x4160 + h) 6 ((min 4294967295 (roundDivNat (isqrt square) (2 ^ 31 * ts)) : Nat) : Int)
    if limit * limit < square then (t.bump (0x4160 + h) 7).setLeaf (0x2400 + h) 1 else t
  | _, _ => s

/-- DETAIL of an overspeed (R189); v_cmd of 0 leaves it free. -/
def overspeedDetail (meas cmd draw : Nat) : Nat := if cmd = 0 then Config.freeNat draw % 65536 else min 0xFFFF (meas * 1000 / cmd - 1000)

/-- An overspeed onset (R158, R189, R190): counted in every case; a SHADOW's has no other effect (R461). -/
def State.overspeed (s : State) (h : HeadNo) (meas cmd : Nat) (m : MarkedSpan) : State :=
  let t := ({ s with fresh := s.fresh + 1 }.bump (0x4160 + h) 10).setLeaf (0x2400 + h) 0
  if s.twin.role = .shadow ∨ (s.head h).path.scopeEnergy (m.seg, m.item) none = 0 then t
  else
    (((t.suppressWork h (m.seg, m.item) none 0x05 (overspeedDetail meas cmd s.fresh)).bump (0x4260 + h) 5).setLeaf (0x2420 + h) 2).sendCut
      m.seg h 0x05 0xFF s.et

/-- The count of consecutive failing checks set. -/
def State.speedRun (s : State) (h : HeadNo) (n : Nat) : State := s.onPath h (fun x => { x with overspeedCount := n })

/-- The overspeed check at the newest sample (R157 to R159). -/
def State.checkSpeed (s : State) (h : HeadNo) : State :=
  let x := (s.head h).path
  match x.speedCheck (s.cfg h) s.servoTicks (s.regN (0x4100 + h) 16) with
  | .none => s.speedRun h 0
  | .missing => (s.speedRun h 0).bump (0x4160 + h) 11
  | .made fails meas cmd m =>
    let t := (s.setReg (0x4160 + h) 8 (min 4294967295 meas : Nat)).setReg (0x4160 + h) 9 (min 4294967295 cmd : Nat)
    if fails then
      let u := t.speedRun h (x.overspeedCount + 1)
      if x.overspeedCount + 1 = s.regN (0x4100 + h) 17 then u.overspeed h meas cmd m else u
    else t.speedRun h 0

/-- An actual-position sample taken in, or missing. -/
def State.sampled (s : State) (h : HeadNo) (a : ActualSample) : State :=
  let t := s.onPath h (fun x => { x with actuals := (a :: x.actuals).take 1100 })
  let u := if a.ok then
      ((t.setReg (0x4160 + h) 3 a.x).setReg (0x4160 + h) 4 a.y).setReg (0x4160 + h) 5 a.f |>.track h a
    else t
  u.checkSpeed h

/-- The sample whose four frames end with the fourth frame of a servo period (R354). -/
def State.sampleOf (s : State) (h u : Nat) : ActualSample :=
  let l := (s.head h).link
  let ts := s.servoTicks
  let due := 125 * u / ts * ts - ts
  match storeGet 1 l.actParts, storeGet 2 l.actParts, storeGet 3 l.actParts, storeGet 4 l.actParts with
  | some x, some y, some f, some t => ⟨(startFrom t s.et).getD due, true, sext 32 x, sext 32 y, sext 32 f⟩
  | _, _, _, _ => ⟨due, false, 0, 0, 0⟩

/-- The place of an uplink frame in its servo period. -/
def State.framePlace (s : State) (u : Nat) : Nat := 125 * u % s.servoTicks / 125

/-- The position part of a frame, valid or not: parts are gathered over the first four frames of a period. -/
def State.positionFrame (s : State) (h u : Nat) (part : Option (Nat × Nat)) : State :=
  let place := s.framePlace u
  let t := s.onLink h (fun l =>
    let kept := if place = 0 then [] else l.actParts
    { l with actParts := match part with
      | some p => if 1 ≤ p.1 ∧ p.1 ≤ 4 then storePut p.1 p.2 kept else kept
      | none => kept })
  if place = 3 ∧ s.servoTicks ≤ 125 * u then t.sampled h (t.sampleOf h u) else t

/-! ### STATUS and OPTICS_TEMP (R354, R577, R578) -/

/-- A STATUS payload; its reserved bits read zero (R7). -/
def State.headStatus (s : State) (h : HeadNo) (aux : Nat) : State :=
  let old := (s.head h).link.status
  let t := s.onLink h (fun l => { l with status := aux / 65536 * 65536 + aux % 128 })
  if old % 32 = aux % 32 then t else t.setLeaf (0x2480 + h) 4

/-- The optics warning of a head at a valid temperature. -/
def State.opticsWarn (s : State) (h : HeadNo) (v : Int) : State :=
  let w := s.reg 0x2030 2
  let on := (s.head h).link.opticsWarning
  if !on ∧ w ≠ 32767 ∧ w ≤ v then (s.onLink h (fun l => { l with opticsWarning := true })).setLeaf 0x210E 3
  else if on ∧ v < w - 500 then s.onLink h (fun l => { l with opticsWarning := false })
  else s

/-- An OPTICS_TEMP payload of frame u. -/
def State.opticsPayload (s : State) (h u aux : Nat) : State :=
  if aux.testBit 31 then
    let v := sext 16 aux
    let t := s.onHead h (fun x => { x with
      link := { x.link with optics := v, opticsValid := true }
      path := { x.path with temps := ((125 * u, v) :: x.path.temps).take 1000 } })
    (t.setReg (0x4160 + h) 14 1).opticsWarn h v
  else s.opticsLost h

/-- The AUX part of a valid frame beside the positions. -/
def State.auxFrame (s : State) (h u : Nat) (bs : List Byte) : State :=
  if upAuxType bs = 5 then s.headStatus h (upAux bs)
  else if upAuxType bs = 6 then s.opticsPayload h u (upAux bs)
  else s

/-! ### DARK_MAP (R361, R362, R474) -/

/-- DETAIL of a slot reported dark: 0x0003 when the latest STATUS shows a source, scanner or permit fault. -/
def darkDetail (status : Nat) : Nat := if status.testBit 0 ∨ status.testBit 1 ∨ status.testBit 4 then 3 else 2

/-- A record of slots taken into the open record of its cause and item, or opened; behind the 65,536th frame another begins with the
next frame (R116, R362, R474). -/
def HeadPath.withDark (x : HeadPath) (r : DefectRecord) : HeadPath :=
  let same (q : DefectRecord) : Bool := q.reported && q.cause == r.cause && q.detail == r.detail && q.seg == r.seg && q.item == r.item
  let takes (q : DefectRecord) : Bool := same q && decide (r.etStart ≤ lastOfRecord q.etStart)
  if x.records.any takes then
    { x with records := x.records.map (fun q => if takes q then
      { q with mask := q.mask ||| r.mask, energy := q.energy + r.energy, etEnd := max q.etEnd r.etEnd
               finish := if q.etEnd < r.etEnd then r.finish else q.finish } else q) }
  else match (x.records.filter same).getLast? with
    | some q =>
      let from_ := lastOfRecord q.etStart + 1
      { x with records := x.records ++ [{ r with etStart := from_, start := x.unitAt from_ }] }
    | none => { x with records := x.records ++ [r] }

/-- Slots that were dark: booked, in an open record, with the break of the promises (R104, R362, R474). -/
def State.darkSlots (s : State) (h : HeadNo) (slots : List SentSlot) (cause detail : Nat) : State :=
  (slotWork slots).foldl (fun t (seg, item) =>
    (t.onPath h (fun x => x.withDark (darkRecord (s.head h).path h cause detail slots seg item))).breakPromise seg cause h item detail)
    (s.bookDark h slots)

/-- A head's item is over before a tick. -/
def HeadPath.itemOver (x : HeadPath) (seg item : Nat) (et : Tick) : Bool :=
  x.items.any (fun i => i.seg == seg && i.item == item && i.stop.any (fun t => decide (t ≤ et)))

/-- The records of dark slots that a report ends: by a slot behind them that was not dark, or behind the end of their item (R116). -/
def State.endDark (s : State) (h : HeadNo) (k : SentSlot) (dark : Bool) : State :=
  let x := (s.head h).path
  s.closeRecords h s.et (fun r => r.reported && r.cause == 0x09 && decide (r.etEnd < 125 * k.frame)
    && (!dark || x.itemOver r.seg r.item (125 * k.frame)))

/-- The gap records of a head closed. -/
def State.closeGap (s : State) (h : HeadNo) (at_ : Tick) : State := s.closeRecords h at_ (fun r => r.cause == 0x0A)

/-- A slot reported for the first time. -/
def State.slotReported (s : State) (h : HeadNo) (k : SentSlot) (dark : Bool) : State :=
  let t := s.endDark h k dark
  if dark = false then t
  else
    let u := (t.bump (0x8040 + h) 7).setLeaf (0x2480 + h) 1
    if s.twin.gapFrame.any (fun first => decide (125 * k.frame < first)) then u.darkSlots h [k] 0x0A 0
    else u.darkSlots h [k] 0x09 (darkDetail (s.head h).link.status)

/-- The DARK_MAP of frame u: slots u − 1 to u − 8 are reported, the dark ones rebooked; slot F reported lit ends the gap. -/
def State.darkMap (s : State) (h u map : Nat) : State :=
  let covered (k : SentSlot) : Bool := decide (k.frame < u) && decide (u ≤ k.frame + 8)
  let slots := (s.head h).link.sent.filter covered
  let t := s.onLink h (fun l => { l with sent := l.sent.filter (fun k => !covered k) })
  let v := slots.foldl (fun t k => t.slotReported h k (map.testBit (u - 1 - k.frame))) t
  match s.twin.gapFrame with
  | some first =>
    if slots.any (fun k => 125 * k.frame == first && !map.testBit (u - 1 - k.frame)) then v.closeGap h s.et else v
  | none => v

/-! ### Photodiodes and camera -/

/-- The photodiode part: the sample instant that frame u carries, with its readings or without. -/
def State.diodeFrame (s : State) (h u : Nat) (pd : Tick → Nat → Option (Nat × Nat)) : State :=
  match sampleIn h (s.engine.rateAt (125 * u)) u with
  | some t => s.sampleHead h t (pd t)
  | none => s

/-- The camera part of a valid frame (R244, R355). -/
def State.cameraFrame (s : State) (h : HeadNo) (bs : List Byte) : State :=
  let kind := leAt bs 1 1 / 64
  let count := leAt bs 1 1 % 64
  if kind = 2 then
    (s.cameraHeader h (leAt bs 9 2) (leAt bs 11 2) (leAt bs 13 1) (leAt bs 15 4) s.et).cameraPixels h (unpackPixels (bs.drop 19) (min count 29)) s.et
  else if kind = 1 then s.cameraPixels h (unpackPixels (bs.drop 9) (min count 36)) s.et
  else s

/-! ### OPERATION -/

/-- An owner conflict reported; a PRIMARY of rank 1 yields (R364, R473). -/
def State.conflictSeen (s : State) (h : HeadNo) : State :=
  let t := (s.bump (0x8040 + h) 9).setLeaf (0x2480 + h) 3
  if t.twin.role = .primary ∧ t.reg 0xD000 2 = 1 then t.goCold 0x09 else t

/-- What every valid frame reports, in training as in OPERATION: an owner conflict, STATUS, the optics temperature (R354, R364, R367). -/
def State.reported (s : State) (h u : Nat) (bs : List Byte) : State :=
  (if (leAt bs 0 1).testBit 5 then s.conflictSeen h else s).auxFrame h u bs

/-- A frame in training: its report when it is valid, else it is counted; then what the state of training makes of it (R357, R367). -/
def State.trained (s : State) (h : HeadNo) (valid : Bool) (bs : List Byte) (arrival : Int) (f : State → State) : State :=
  f (if valid then s.reported h (frameNear (upFrameLo bs) ((arrival - 250) / 125)).toNat bs else s.countInvalid h)

/-- A valid frame in OPERATION. -/
def State.validFrame (s : State) (h u : Nat) (bs : List Byte) : State :=
  let b := ((s.onLink h (fun l => { l with bad := 0 })).reported h u bs).darkMap h u (leAt bs 2 1)
  ((b.positionFrame h u (some (upAuxType bs, upAux bs))).diodeFrame h u (photodiodes bs)).cameraFrame h bs

/-- An invalid frame in OPERATION; the eighth in a row ends it (R360). -/
def State.invalidFrame (s : State) (h u : Nat) : State :=
  let n := (s.head h).link.bad + 1
  let t := ((s.onLink h (fun l => { l with bad := n })).cameraBroken h).positionFrame h u none
  let v := t.diodeFrame h u (fun _ _ => none)
  if n = 8 then v.linkTo h .acquire 0x09 else v

/-- A frame in OPERATION: its number is that of its arrival time (R327, R717). -/
def State.inOperation (s : State) (h : HeadNo) (frame : Option (List Byte)) (arrival : Int) : State :=
  let u := (roundDiv (arrival - 250 - (s.head h).link.delay) 125).toNat
  match frame with
  | some bs => if upFrameLo bs == u % 65536 then s.validFrame h u bs else (s.countInvalid h).invalidFrame h u
  | none => (s.countInvalid h).invalidFrame h u

/-- The polarity of the uplink pair: in ACQUIRE a frame that is sound only with every bit inverted shows that the pair is inverted, and
from then on it is corrected (R329). -/
def HeadLink.polarity (l : HeadLink) (chars : List Nat) : HeadLink :=
  if l.state = .acquire ∧ (frameSound (l.upright chars)).isNone ∧ (frameSound (invertChars (l.upright chars))).isSome then
    { l with inverted := !l.inverted }
  else l

/-- A frame whose K28.5 arrived at an ET, by the state of its link (R327, R352 to R363). -/
def State.uplinkFrame (s : State) (h : HeadNo) (frame : Option (List Byte)) (arrival : Int) : State :=
  let l := (s.head h).link
  let bs := frame.getD []
  let follows := l.follows frame.isSome bs
  match l.state with
  | .acquire => s.trained h frame.isSome bs arrival (fun t => t.inAcquire h frame.isSome bs)
  | .align => s.trained h follows bs arrival (fun t => t.inAlign h frame.isSome bs arrival)
  | .negotiate => s.trained h follows bs arrival (fun t => t.inNegotiate h frame.isSome bs)
  | .operation => s.inOperation h frame arrival
  | _ => s

/-- The characters of a frame received, with the polarity that they show. -/
def State.uplink (s : State) (h : HeadNo) (chars : List Nat) (arrival : Int) : State :=
  let t := s.onLink h (fun l => l.polarity chars)
  t.uplinkFrame h (frameSound ((t.head h).link.upright chars)) arrival

/-- UPLINK_FRAME_RECEIVED (R326, R327): character 0 and the 99 characters behind it, ten bits each. -/
def execUplinkFrameReceived (h first : Nat) (chars : List Nat) (arrival : Int) (s : State) : Host.Outcome State Fault Refusal :=
  .next (if h < 32 then s.uplink h (first :: chars) arrival else s)

end Sys2Proof.Machine
end

