-- ==== Sys2Proof/Machine/Close.lean ====
section
/-!
DEFINITION. Segments at their end, slack reports, cancellation by host software and the split of long defect records (R79 to
R82, R102, R109, R113, R116, R119, R362, R476).
-/
namespace Sys2Proof.Machine

/-! ### Cross-check of a pair (R476) -/

/-- DIGEST of a segment that ends in a state. -/
def Segment.digest (g : Segment) (state : SegState) : Nat :=
  crc32 (leBytes 4 g.id ++ [byteOf state.code] ++ leBytes 8 g.promise ++ [byteOf (g.broke.getD 0xFF)]
    ++ g.heads.flatMap (fun p => leBytes 8 p.finishEt) ++ g.groups ++ g.entries ++ g.cuts
    ++ g.heads.flatMap (fun p => p.books.flatMap (fun t => leBytesInt 8 t.planned)))

/-- Both digests of a segment compared once both are there; a SHADOW whose own differs becomes COLD. -/
def State.compareDigest (s : State) (id : Nat) : State :=
  match storeGet id s.twin.digests, storeGet id s.twin.partnerDigests with
  | some a, some b =>
    let t := { s with twin := { s.twin with digests := storeErase id s.twin.digests, partnerDigests := storeErase id s.twin.partnerDigests } }
    if s.twin.role = .shadow ∧ a ≠ b then (t.bump 0xD001 12).goCold 0x05 else t
  | _, _ => s

/-- A digest formed and sent. -/
def State.ownDigest (s : State) (g : Segment) (state : SegState) : State :=
  if s.twin.role = .primary ∨ s.twin.role = .shadow then
    let d := g.digest state
    let t := s.onSeg g.key (fun x => { x with digested := true })
    (({ t with twin := { t.twin with digests := storePut g.id d t.twin.digests } }).twinSend 0x0A [g.id, d]).compareDigest g.id
  else s

/-! ### The close of a segment (R113) -/

/-- The identity of R113 holds on every channel of a segment, and nothing was left unbooked (R548). -/
def Segment.balances (g : Segment) : Bool := g.heads.all (fun p => !p.unbooked && p.books.all Tally.balanced)

/-- The CLOSE message (R108, R109). -/
def Segment.closeBytes (g : Segment) : List Byte :=
  leBytes 4 g.id ++ [byteOf g.state.code, byteOf g.heads.length] ++ leBytes 2 (min 0xFFFF g.defects) ++ leBytes 8 g.finalEt
    ++ leBytes 8 g.promise ++ g.heads.flatMap (fun p => [byteOf p.head, 0, 0, 0] ++ p.books.flatMap (fun t =>
      leBytesInt 8 t.planned ++ leBytesInt 8 t.correction ++ leBytesInt 8 t.delivered ++ leBytesInt 8 t.withheld))

/-- The CLOSE message sent and the slot released; where the identity fails on a channel FAULT follows (R79, R87, R113, R362). -/
def State.sendClose (s : State) (key : Nat) : State :=
  match s.seg? key with
  | some g =>
    let a := (g.heads.map (fun (p : SegHead) => p.head)).foldl (fun (t : State) h => t.closeRecords h t.et (fun r => r.seg == key)) s
    match a.seg? key with
    | some g =>
      let t := ((if g.digested then a else a.ownDigest g g.state).jobMessage 0x35 g.closeBytes).release key
      if g.balances then t else t.faultCause 0x34
    | none => a
  | none => s

/-- A segment whose heads have all finished or abandoned their lists closes in the state of its own record; where the
identity fails its CLOSE goes first and FAULT follows. -/
def State.closeSegment (s : State) (key : Nat) : State :=
  match s.seg? key with
  | none => s
  | some g =>
    let t := (s.finalise g g.ownEnd).ownDigest g g.ownEnd
    if g.balances then t else t.sendClose key

/-- SEGMENT_CLOSE (R79, R113). -/
def execSegmentClose (id : Nat) (s : State) : Host.Outcome State Fault Refusal :=
  .next (match s.job.segments.find? (fun g => g.id == id && g.state == .running && g.allDone) with
    | some g => s.closeSegment g.key
    | none => s)

/-- A segment in a final state whose CLOSE has not gone yet. -/
def Segment.awaitsClose (g : Segment) : Bool := g.state == .done || g.state == .broken || g.state == .cancelled

/-- A slot of the segment on some head is not reported yet (R362). -/
def State.unreported (s : State) (key : Nat) : Bool :=
  s.heads.any (fun x => x.link.sent.any (fun k => k.books.any (fun b => b.seg == key)))

/-- CLOSE_MESSAGE_SEND (R362). -/
def execCloseMessageSend (id : Nat) (s : State) : Host.Outcome State Fault Refusal :=
  .next (match s.job.segments.find? (fun g => g.id == id && g.awaitsClose) with
    | some g => if s.unreported g.key then s else s.sendClose g.key
    | none => s)

/-! ### Slack (R102, R109) -/

/-- The unfinished segment with an ID (R119). -/
def State.unfinishedBy (s : State) (id : Nat) : Option Segment := s.job.segments.find? (fun g => g.id == id && g.unfinished)

/-- SLACK_EVALUATION (R102). -/
def execSlackEvaluation (id : Nat) (s : State) : Host.Outcome State Fault Refusal :=
  .next (match s.unfinishedBy id with
    | some g => s.evaluate g.key
    | none => s)

/-- SLACK_REPORT (R109). -/
def execSlackReport (s : State) : Host.Outcome State Fault Refusal :=
  .next (if s.reg 0x3010 13 = 0 then s
    else (s.job.segments.filter (fun g => g.state == .running)).foldl (fun t g => t.progress g 5 0 0 0) s)

/-! ### Cancellation by host software (R119) -/

/-- CANCEL_ID carried out: CANCEL_RESULT tells what was found. -/
def State.cancelId (s : State) (id : Nat) : State :=
  match s.unfinishedBy id with
  | some g => (s.cancel 0x0B 1 g.key).setReg 0x3011 2 0
  | none => s.setReg 0x3011 2 (if s.job.history.any (fun e => e.id == id) then 2 else 1)

/-- CANCEL_ID (R119). -/
def execCancelId (path : Path) (id : Nat) (s : State) : Host.Outcome State Fault Refusal :=
  .next (s.inTurnOf path (.cancelId path id) (s.access path (s.writeGate path 0x3011 1) ((s.cancelId id).mirror 0x3011 1 (leBytes 4 id)) []))

/-! ### Long records (R116) -/

/-- A record whose 65,536th frame is over at a tick. -/
def DefectRecord.full (r : DefectRecord) (cause : Nat) (booked : Tick) : Bool := r.cause == cause && decide (lastOfRecord r.etStart < booked)

/-- A record goes on in another that is open already. -/
def HeadPath.wentOn (x : HeadPath) (r : DefectRecord) : Bool :=
  x.records.any (fun q => q.cause == r.cause && q.seg == r.seg && q.item == r.item && q.stretch == r.stretch
    && q.etStart == lastOfRecord r.etStart + 1)

/-- What goes on of a full record: the stretch goes on in a new one from the first tick of the next frame; where nothing joins it,
nothing is written of it. -/
def DefectRecord.onward (r : DefectRecord) (x : HeadPath) : List DefectRecord :=
  let from_ := lastOfRecord r.etStart + 1
  if x.wentOn r then []
  else [{ r with etStart := from_, etEnd := from_, start := x.unitAt from_, finish := x.unitAt from_, energy := 0
                 mask := if r.withheld then 0 else r.mask }]

/-- The full records of a cause on a head closed and continued. -/
def State.splitRecords (s : State) (h cause : Nat) : State :=
  let x := s.head h
  let full := x.path.records.filter (fun r => r.full cause x.path.bookedTo)
  let t := s.onPath h (fun y => { y with
    records := y.records.filter (fun r => !r.full cause y.bookedTo) ++ full.flatMap (fun r => r.onward y) })
  (full.filter (fun r => !r.empty)).foldl (fun u r => u.writeDefect (r.closed x (if r.withheld then r.etEnd else lastOfRecord r.etStart))) t

/-- DEFECT_RECORD_SPLIT (R116). -/
def execDefectRecordSplit (h cause : Nat) (s : State) : Host.Outcome State Fault Refusal := .next (s.splitRecords h cause)

end Sys2Proof.Machine
end

