-- ==== Sys2Proof/Machine/Motion.lean ====
section
/-!
DEFINITION. The axes' commands and events: enabling, moves, homing, limits and the chopper (R481 to R503, R519, R520).
-/
namespace Sys2Proof.Machine

/-! ### Refusals (R482, R485, R486, R496, R519) -/

/-- The result of a command on an axis before its own conditions: 0x06 not the motion controller, 0x01 device state, 0x04
follower, 0x00 none. DISABLE is also taken in FAULT (R483). -/
def State.axisResult (s : State) (m : Nat) (disable : Bool) : Nat :=
  if s.runsMotion = false then 0x06
  else if !(s.dev.state == .standby || s.dev.state.permits || (disable && s.dev.state == .fault)) then 0x01
  else if s.leaderOf m ≠ m then 0x04
  else 0x00

/-- A refused command's abort code: 0x0003_0002 for a profile, else 0x0003_0003. -/
def resultAbort (result : Nat) : Nat := if result = 3 then Abort.range.code else Abort.conditions.code

/-- A command on an axis answered: RESULT is set before the response, and a refusal aborts (R519). -/
def State.axisCommand (s : State) (p : Path) (m sub result : Nat) (gate : Option Abort) (done : State) : State :=
  if s.served p = false then s
  else match orElse (s.writeGate p (0x9020 + m) sub) gate with
    | some a => s.answer p a.code []
    | none =>
      if result = 0 then (done.setReg (0x9020 + m) 7 0).answer p 0 []
      else (s.setReg (0x9020 + m) 7 result).answer p (resultAbort result) []

/-! ### Enabling (R481, R484, R490) -/

/-- An axis enabled into HOLD, with its offsets at OFFSET_INIT. -/
def Axis.enable (x : Axis) (offset : Int) : Axis :=
  { x with state := .hold, powered := true, running := true
           coilA := { x.coilA with offset := offset, runs := 0 }, coilB := { x.coilB with offset := offset, runs := 0 } }

/-- ENABLE 1 on every DISABLED member of a gang. -/
def State.enableGang (s : State) (m : Nat) : State :=
  (s.gang m).foldl (fun t k => if (t.axis k).state = .disabled then
    (t.onAxis k (fun x => x.enable (t.reg (0x9000 + k) 12))).setReg (0x9040 + k) 7 0 else t) s

/-- DISABLE of a gang. -/
def State.disableGang (s : State) (m : Nat) : State :=
  ((s.abortHoming m 1).onGang m (fun x => x.off .disabled s.et)).recoatFails m

/-- ENABLE (R481, R503): FAULTED is left only by DISABLE and a new ENABLE. -/
def execEnableAxis (path : Path) (m value : Nat) (s : State) : Host.Outcome State Fault Refusal :=
  let r := s.axisResult m (value == 0)
  let result := if r = 0 ∧ value = 1 ∧ (s.axis m).state = .faulted then 0x01 else r
  .next (s.inTurnOf path (.enableAxis path m value) (if m < 8 then
      s.axisCommand path m 1 result (refuseIf (decide (1 < value)) .range) (if value = 1 then s.enableGang m else s.disableGang m)
    else s))

/-! ### Moves (R492 to R495, R499) -/

/-- Every member of a gang is enabled (R497). -/
def State.gangEnabled (s : State) (m : Nat) : Bool :=
  (s.gang m).all (fun k => (s.axis k).state != .disabled && (s.axis k).state != .faulted)

/-- A limit of the gang bars a direction: tripped on that side, true positive (R499). -/
def State.barred (s : State) (m : Nat) (positive : Bool) : Bool :=
  (s.gang m).any (fun k => (s.axis k).state == .limit && (s.axis k).limitSide == some positive)

/-- The microsteps of a move to a target. -/
def State.moveBy (s : State) (m : Nat) (relative : Bool) (target : Int) : Int :=
  if relative then target else target - (s.axis m).position

/-- The speed of a move: its own below V_MAX, 0 for V_MAX (R492, R519). -/
def moveSpeed (speed vMax : Nat) : Nat := if speed = 0 then vMax else min speed vMax

/-- The result of a move before it starts (R494, R495, R497, R499). -/
def State.moveResult (s : State) (m : Nat) (d : Int) (speed : Nat) : Nat :=
  if s.axisResult m false ≠ 0 then s.axisResult m false
  else if (s.axis m).busy then 0x02
  else if s.gangEnabled m = false then 0x01
  else if d ≠ 0 ∧ s.barred m (decide (0 < d)) then 0x05
  else if 5000000 < moveSpeed speed (s.axisCfg m 13) then 0x03
  else 0x00

/-- A move starts. -/
def State.startMove (s : State) (m : Nat) (d : Int) (speed : Nat) : State :=
  let r := moveRamp s.et (if d < 0 then -1 else 1) d.natAbs (moveSpeed speed (s.axisCfg m 13)) (s.axisCfg m 14) (s.axisCfg m 15)
  (s.onGang m (fun x => { x with state := .moving, running := true, into := .hold })).onAxis m (fun x => { x with ramp := some r })

/-- GO (R492 to R495): a write of 1 starts the move to TARGET at SPEED. -/
def execGo (path : Path) (m value : Nat) (s : State) : Host.Outcome State Fault Refusal :=
  let d := s.moveBy m (s.reg (0x9020 + m) 3 == 1) (s.reg (0x9020 + m) 2)
  let speed := s.regN (0x9020 + m) 4
  .next (s.inTurnOf path (.go path m value) (if m < 8 then
      s.axisCommand path m 5 (if value = 1 then s.moveResult m d speed else 0) (numberTest (0x9020 + m) 5 (leBytes 1 value))
        (if value = 1 then s.startMove m d speed else s)
    else s))

/-- STOP_AXIS (R495, R497, R501): STOP_HOME written 1. -/
def execStopAxis (path : Path) (m : Nat) (s : State) : Host.Outcome State Fault Refusal :=
  .next (s.inTurnOf path (.stopAxis path m) (if m < 8 then s.axisCommand path m 6 (s.axisResult m false) none (s.stopAxis m) else s))

/-! ### Homing (R498, R500, R501) -/

/-- The direction of homing, true positive. -/
def State.homePositive (s : State) (m : Nat) : Bool := s.reg (0x9010 + m) 2 == 0

/-- The result of HOME. -/
def State.homeResult (s : State) (m : Nat) : Nat :=
  if s.axisResult m false ≠ 0 then s.axisResult m false
  else if (s.axis m).busy then 0x02
  else if s.gangEnabled m = false then 0x01
  else if s.reg (0x9010 + m) 1 = 0 ∧ s.barred m (s.homePositive m) then 0x05
  else 0x00

/-- The search begins: the gang moves in HOME_DIRECTION at HOME_SPEED (R500, step 1). -/
def State.startHome (s : State) (m : Nat) : State :=
  let r := moveRamp s.et (if s.homePositive m then 1 else -1) (2 ^ 32) (s.regN (0x9010 + m) 3) (s.axisCfg m 14) (s.axisCfg m 15)
  let begin (x : Axis) : Axis :=
    { x with state := .homing, running := true, into := .hold,
             homing := some ⟨.search, none, none, false, false⟩ }
  (s.onGang m begin).onAxis m (fun x => { x with ramp := some r })

/-- HOME (R500): STOP_HOME written 2. -/
def execHome (path : Path) (m : Nat) (s : State) : Host.Outcome State Fault Refusal :=
  .next (s.inTurnOf path (.home path m) (if m < 8 then s.axisCommand path m 6 (s.homeResult m) none (s.startHome m) else s))

/-- The count of the encoder that an axis names. -/
def State.axisCount (s : State) (m : Nat) : Int := ((s.motion.encoders[s.axisCfg m 19]?).map (fun e => e.count)).getD 0

/-- Homing state of an axis changed. -/
def Axis.onHoming (x : Axis) (f : Homing → Homing) : Axis := { x with homing := x.homing.map f }

/-- An edge of the home switch (R500, steps 2 to 4). -/
def State.homeEdge (s : State) (m : Nat) (active : Bool) : State :=
  let t := s.onAxis m (fun x => { x with homeActive := active })
  match (s.axis m).homing with
  | none => t
  | some z =>
    if z.latch.isSome then (if z.chatter then t.bump (0x9040 + m) 9 else t)
    else if z.phase = .search then
      if active then t.onAxis m (fun x => x.onHoming (fun y => { y with candidate := some ((s.axis m).position, s.axisCount m) }))
      else if z.candidate.isSome then (t.onAxis m (fun x => x.onHoming (fun y => { y with candidate := none }))).bump (0x9040 + m) 8
      else t
    else t

/-- HOME_EDGE (R500): an edge of the switch that HOME_SOURCE selects. -/
def execHomeEdge (m : Nat) (active : Bool) (s : State) : Host.Outcome State Fault Refusal :=
  .next (if m < 8 then s.homeEdge m active else s)

/-- Every member of a gang has latched. -/
def State.allLatched (s : State) (l : Nat) : Bool :=
  (s.gang l).all (fun k => ((s.axis k).homing.map (fun z => z.latch.isSome)).getD false)

/-- The gang slows: a single axis at A_MAX, the members of a gang have each stopped already (R498, R500 step 5). -/
def State.slowHoming (s : State) (l : Nat) : State :=
  let t := s.onGang l (fun x => x.onHoming (fun z => { z with phase := .slow }))
  t.onAxis l (fun x => { x with ramp := x.ramp.map (fun r =>
    if (s.gang l).length = 1 then r.takeOver s.et (fun y => stopPieces y (s.axisCfg l 14) (s.axisCfg l 15)) none
    else { r with total := r.done }) })

/-- A candidate qualifies: its positions become the latch, and a gang's member stops stepping (R498, R500 step 3). -/
def State.qualify (s : State) (m : Nat) : State :=
  match (s.axis m).homing with
  | some z =>
    if z.phase = .search ∧ z.latch = none ∧ z.candidate.isSome ∧ (s.axis m).homeActive then
      let l := s.leaderOf m
      let t := s.onAxis m (fun x => x.onHoming (fun y => { y with latch := y.candidate, candidate := none, chatter := true
                                                                  parked := decide (1 < (s.gang l).length) }))
      if t.allLatched l then t.slowHoming l else t
    else s
  | none => s

/-- QUALIFY_TIME_EXPIRY (R500, step 3). -/
def execQualifyTimeExpiry (m : Nat) (s : State) : Host.Outcome State Fault Refusal :=
  .next (if m < 8 then s.qualify m else s)

/-- CHATTER_WINDOW_EXPIRY (R500, step 4). -/
def execChatterWindowExpiry (m : Nat) (s : State) : Host.Outcome State Fault Refusal :=
  .next (s.onAxis m (fun x => x.onHoming (fun z => { z with chatter := false })))

/-- The positions redefined from the latches, and the move to HOME_PARK (R498, R500 step 5). -/
def State.parkHoming (s : State) (l : Nat) : State :=
  let t := (s.gang l).foldl (fun u k =>
    let latch := (((u.axis k).homing.bind (fun z => z.latch)).map (·.1)).getD 0
    (u.onAxis k (fun x => ({ x with position := u.reg (0x9010 + k) 4 + u.reg (0x9010 + k) 5 + (x.position - latch) }).onHoming
      (fun z => { z with phase := .park, parked := false })))) s
  let d := t.reg (0x9010 + l) 6 - (t.axis l).position
  t.onAxis l (fun x => { x with ramp := some (moveRamp s.et (if d < 0 then -1 else 1) d.natAbs (t.axisCfg l 13) (t.axisCfg l 14)
    (t.axisCfg l 15)) })

/-- The leader's ramp has run all its steps. -/
def Axis.atRest (x : Axis) : Bool := (x.ramp.map (fun r => decide (r.total ≤ r.done))).getD false

/-- Homing is complete: HOMED, HOLD, LAST_HOME_LATCH as it was counted before the redefinition, and the channel's expected index count is cleared (R500 step 6, R506). -/
def State.endHoming (s : State) (l : Nat) : State :=
  (s.gang l).foldl (fun t k =>
    let latch := ((((t.axis k).homing.bind (fun z => z.latch)).map (·.1)).getD 0)
    let u := (t.onAxis k (fun x => { x with state := .hold, homed := true, homing := none, ramp := none, running := true })).setReg
      (0x9040 + k) 5 latch
    { u with motion := { u.motion with encoders := u.motion.encoders.modify (u.axisCfg k 19) (fun e => { e with indexPrev := none }) } }) s

/-- HOMING_COMPLETE (R500, step 6): the move to HOME_PARK has ended. -/
def execHomingComplete (m : Nat) (s : State) : Host.Outcome State Fault Refusal :=
  .next (if (s.axis m).state = .homing ∧ ((s.axis m).homing.map (fun z => z.phase)) = some .park ∧ (s.axis m).atRest then
      s.endHoming m else s)

/-! ### Steps (R488, R493, R496, R501) -/

/-- The leader's next microstep, with its followers (R496); a member that has latched in a gang homing stands (R498). -/
def State.stepGang (s : State) (m : Nat) (r : Ramp) : State :=
  let io := r.stepIo (r.done + 1)
  let t := (s.gang m).foldl (fun u k => u.onAxis k (fun x =>
    if (x.homing.map (fun z => z.parked)).getD false then x else x.step r.dir (s.axisCfg k 1))) s
  t.onAxis m (fun x => { x with ramp := some { r with done := r.done + 1, lastIo := io, timer := io - r.lastIo } })

/-- No edge has qualified within HOME_MAX_TRAVEL: the axis stops at A_MAX with reason 0x05 (R501). -/
def State.travelSpent (s : State) (m : Nat) : State :=
  match (s.axis m).homing, (s.axis m).ramp with
  | some z, some r =>
    if z.phase = .search ∧ s.regN (0x9010 + m) 7 ≤ r.done then (s.abortHoming m 5).rampDown m (s.axisCfg m 14) .hold else s
  | _, _ => s

/-- MICROSTEP (R488, R493, R496): axis m, a leader, makes the next step of its ramp. -/
def execMicrostep (m : Nat) (s : State) : Host.Outcome State Fault Refusal :=
  .next (match (s.axis m).ramp with
    | some r => if r.done < r.total then (s.stepGang m r).travelSpent m else s
    | none => s)

/-- HOLD_DELAY_EXPIRY (R488): the coils go to hold current. -/
def execHoldDelayExpiry (m : Nat) (s : State) : Host.Outcome State Fault Refusal :=
  .next (s.onAxis m (fun x => if x.busy then x else { x with running := false }))

/-! ### Limits (R499, R501, R502) -/

/-- The side of a limit that trips: LIMIT_SIDE, or the side towards which the axis moves, unknown at rest. -/
def State.limitSideOf (s : State) (m : Nat) : Option Bool :=
  match s.reg (0x9010 + m) 10 with
  | 0 => some false
  | 1 => some true
  | _ => ((s.axis (s.leaderOf m)).ramp.map (fun r => decide (0 < r.dir)))

/-- The side towards which a gang moves. -/
def State.movingTo (s : State) (l : Nat) : Option Bool :=
  if (s.axis l).busy then (s.axis l).ramp.map (fun r => decide (0 < r.dir)) else none

/-- The abort reason of a limit during homing; none where it is the home switch before qualification (R501). -/
def State.homeLimitReason (s : State) (l m : Nat) (side : Option Bool) : Option Nat :=
  let expected := side == some (s.homePositive l)
  let qualified := ((s.axis m).homing.map (fun z => z.latch.isSome)).getD false
  if expected = false then some 2
  else if qualified then some 4
  else if s.reg (0x9010 + l) 1 = 1 then none
  else some 3

/-- A limit trips (R497, R499, R501). -/
def State.limitTrip (s : State) (m : Nat) : State :=
  let l := s.leaderOf m
  let side := s.limitSideOf m
  let t := (s.onAxis m (fun x => { x with limitActive := true, limitSide := side })).setLeaf (0x24A0 + m) 0
  if (s.axis l).state = .homing then
    match s.homeLimitReason l m side with
    | some r => (((t.abortHoming l r).limitDown l (if side = s.movingTo l then .limit (side.getD true) else .hold)).recoatFails l)
    | none => t
  else if side.isSome ∧ side = s.movingTo l ∧ ((s.axis l).state = .moving ∨ (s.axis l).state = .stopping) then
    (t.limitDown l (.limit (side.getD true))).recoatFails l
  else t

/-- LIMIT_TRIP (R499): the input has been active for LIMIT_FILTER. -/
def execLimitTrip (m : Nat) (s : State) : Host.Outcome State Fault Refusal :=
  .next (s.inTurn (.limitTrip m) (if m < 8 then s.limitTrip m else s))

/-- LIMIT_RELEASE (R499): from LIMIT the state returns to HOLD. -/
def execLimitRelease (m : Nat) (s : State) : Host.Outcome State Fault Refusal :=
  .next (let t := s.onAxis m (fun x => { x with limitActive := false, limitSide := none })
    if (s.axis m).state = .limit then t.onGang (s.leaderOf m) (fun x => if x.state = .limit then { x with state := .hold } else x)
    else t)

/-! ### The chopper (R488 to R491) -/

/-- A shift right that rounds to nearest, halves upwards (R291). -/
def shiftRound (v : Int) (n : Nat) : Int := (v + (2 ^ n / 2 : Nat)) / (2 ^ n : Nat)

/-- A coil's offset after a cycle with decay times t1 and t2; none where the cycle is skipped (R489). -/
def adapted (offset : Int) (tOff p shift t1 t2 : Nat) : Option Int :=
  if t1 < tOff ∧ t2 < tOff ∧ t1 < t2 then
    let e := roundDiv (256 * p * (2 * (t1 : Int) - tOff)) (2 * (t2 - t1))
    some (clampInt (-65536) 65536 (offset + shiftRound (e - offset) shift))
  else none

/-- A coil of an axis. -/
def State.coil (s : State) (m : Nat) (coilB : Bool) : Coil := if coilB then (s.axis m).coilB else (s.axis m).coilA

/-- The target of the cycle that has run: that of its start, or where none was marked as begun the target now (R490). -/
def State.cycleTarget (s : State) (m : Nat) (coilB : Bool) : Int :=
  if (s.coil m coilB).target = 0 then s.coilTarget m coilB else (s.coil m coilB).target

/-- A coil after one cycle: its drive fell OFF_TIME ago, the offset is adapted, and the next cycle begins at the target of now (R487,
R489, R490). -/
def State.cycled (s : State) (m : Nat) (coilB reached : Bool) (offset : Int) : Coil :=
  let c := s.coil m coilB
  ({ c with
    offset := offset, runs := if reached then 0 else c.runs + 1
    fell := some ((s.cycleTarget m coilB).sign, s.et - 625 * s.axisCfg m 6) }).begin (s.coilTarget m coilB) (s.axisCfg m 9) s.et

/-- One cycle of a coil that has a target. -/
def State.chop (s : State) (m : Nat) (coilB reached : Bool) (t1 t2 : Nat) : State :=
  let c := s.coil m coilB
  let a := adapted c.offset (100 * s.axisCfg m 6) (s.axisCfg m 11) (s.axisCfg m 10) t1 t2
  let d := s.cycled m coilB reached (a.getD c.offset)
  let t := s.onAxis m (fun y => if coilB then { y with coilB := d } else { y with coilA := d })
  let u := if a.isNone then t.bump (0x9040 + m) 12 else t
  let v := if reached then u else (u.bump (0x9040 + m) 11).setLeaf (0x24A0 + m) 3
  if 16 ≤ d.runs then v.faultAxis m 3 else v

/-- CHOP_CYCLE (R489 to R491): whether the current reached the code within ON_TIME_MAX, and the two decay times. -/
def execChopCycle (m : Nat) (coilB reached : Bool) (t1 t2 : Nat) (s : State) : Host.Outcome State Fault Refusal :=
  .next (if m < 8 ∧ (s.axis m).powered ∧ s.cycleTarget m coilB ≠ 0 then
      s.chop m coilB reached t1 t2 else s)

/-! ### Coming to rest (R495, R500, R511 to R513) -/

/-- A step of the recoat program: AXIS, relative, REPORT, TARGET, SPEED. -/
structure RecoatStep where
  axis : Nat
  relative : Bool
  report : Bool
  target : Int
  speed : Nat
  deriving DecidableEq, Repr

/-- The steps of PROGRAM (R511). -/
def recoatSteps (bs : List Byte) : List RecoatStep :=
  (chunks 16 bs).map (fun e =>
    ⟨leAt e 0 1, bitAt (leAt e 1 1) 0, bitAt (leAt e 1 1) 1, sext 32 (leAt e 4 4), leAt e 8 4⟩)

/-- A step's move begins; a move that cannot start fails the program (R514). -/
def State.startRecoatStep (s : State) (k : Nat) : State :=
  let t := { s with motion := { s.motion with recoat := { s.motion.recoat with step := k } } }
  match (recoatSteps (s.blob 0x9080 1))[k]? with
  | some x =>
    let d := s.moveBy x.axis x.relative x.target
    if s.moveResult x.axis d x.speed = 0 then t.startMove x.axis d x.speed else t.recoatFails x.axis
  | none => t

/-- Whether step k is the one after which recoat complete is reported (R513). -/
def reportsAfter (steps : List RecoatStep) (k : Nat) : Bool :=
  match steps.findIdx? (fun x => x.report) with
  | some i => k == i
  | none => k + 1 == steps.length

/-- A step of the program has completed: the report, then the next step or the end (R511, R513). -/
def State.advanceRecoat (s : State) : State :=
  let r := s.motion.recoat
  let steps := recoatSteps (s.blob 0x9080 1)
  let t := if r.state = .before ∧ reportsAfter steps r.step then
    ({ s with motion := { s.motion with recoat := { r with state := .after } } }).reportRecoat r.layer else s
  if r.step + 1 < steps.length then t.startRecoatStep (r.step + 1)
  else { t with motion := { t.motion with recoat := { t.motion.recoat with state := .idle, step := 0 } } }

/-- A gang at rest after STOPPING. -/
def State.settle (s : State) (m : Nat) (into : RestInto) : State :=
  s.onGang m (fun x => { x with ramp := none, homing := none, running := true, state := match into with
    | .hold => .hold
    | .limit _ => .limit
    | .faulted _ => .faulted })

/-- An axis has come to rest (R495, R500). -/
def State.moveDone (s : State) (m : Nat) : State :=
  let x := s.axis m
  match x.state with
  | .moving =>
    let t := s.settle m .hold
    if s.recoatAxis = some m then t.advanceRecoat else t
  | .stopping => s.settle m x.into
  | .homing => if (x.homing.map (fun z => z.phase)) = some .slow then s.parkHoming m else s
  | _ => s

/-- MOVE_COMPLETE (R495): axis m, a leader, comes to rest. -/
def execMoveComplete (m : Nat) (s : State) : Host.Outcome State Fault Refusal :=
  .next (if (s.axis m).atRest then s.moveDone m else s)

end Sys2Proof.Machine
end

