-- ==== Sys2Proof/Machine/Feedback.lean ====
section
/-!
DEFINITION. Encoders, probes and compare outputs (R503 to R510, R521, R522).
-/
namespace Sys2Proof.Machine

/-- An encoder channel. -/
def State.encoder (s : State) (e : Nat) : Encoder := s.motion.encoders.getD e ⟨0, 0, 0, false, none, 0, 0⟩

/-- An encoder channel changed. -/
def State.onEncoder (s : State) (e : Nat) (f : Encoder → Encoder) : State :=
  { s with motion := { s.motion with encoders := s.motion.encoders.modify e f } }

/-- COUNT wraps modulo 2^32 (R508). -/
def wrap32 (v : Int) : Int := (v + 2147483648) % 4294967296 - 2147483648

/-! ### What follows an accepted edge -/

/-- DIRECTION after COUNT has moved (R507): hysteresis about the reference while undefined, about the extreme after. The
second value says that the direction changed. -/
def Encoder.track (x : Encoder) (hys : Nat) : Encoder × Bool :=
  let d := wrap32 (x.count - x.dirRef)
  match x.direction with
  | 1 => if 0 ≤ d then ({ x with dirRef := x.count }, false)
      else if d ≤ -(hys : Int) then ({ x with direction := 2, dirRef := x.count }, true) else (x, false)
  | 2 => if d ≤ 0 then ({ x with dirRef := x.count }, false)
      else if (hys : Int) ≤ d then ({ x with direction := 1, dirRef := x.count }, true) else (x, false)
  | _ => if (hys : Int) ≤ d then ({ x with direction := 1, dirRef := x.count }, false)
      else if d ≤ -(hys : Int) then ({ x with direction := 2, dirRef := x.count }, false) else (x, false)

/-- Direction tracking of a channel. -/
def State.trackDirection (s : State) (e : Nat) : State :=
  let r := (s.encoder e).track (s.regN (0x9060 + e) 5)
  let t := s.onEncoder e (fun _ => r.1)
  if r.2 then (t.bump (0x9060 + e) 20).setLeaf (0x24C0 + e) 4 else t

/-- The follow error of an axis (R503). -/
def State.followErr (s : State) (m e : Nat) : Int :=
  (s.encoder e).count - roundDiv ((s.axis m).position * s.reg (0x9000 + m) 20) 65536

/-- The follow-error check of the axes that use a channel (R503). -/
def State.checkFollow (s : State) (e : Nat) : State :=
  (List.range 8).foldl (fun t m =>
    if t.axisCfg m 19 = e ∧ (t.axis m).state ≠ .disabled ∧ (t.axis m).state ≠ .faulted then
      let err := (t.followErr m e).natAbs
      let u := t.raiseReg (0x9040 + m) 13 err
      if t.regN (0x9010 + m) 12 ≠ 0 ∧ t.regN (0x9010 + m) 12 < err ∧ !((t.axis m).state == .stopping && (t.axis m).into == .faulted 1) then
        u.followError m
      else u
    else t) s

/-- A hit of a compare output (R510). -/
def State.compareHit (s : State) (n : Nat) : State :=
  let o := 0x90A0 + n
  let c := s.motion.compares.getD n ⟨false, false, false⟩
  let left := s.reg o 4 - 1
  let done := (c.limited && decide (left ≤ 0)) || s.reg o 3 == 0
  let t := (s.setReg o 2 (wrap32 (s.reg o 2 + s.reg o 3))).bump o 8
  let u := if c.limited then t.setReg o 4 left else t
  let v := if c.asserted then u.bump o 9 else u
  let w := { v with motion := { v.motion with compares := v.motion.compares.set n ⟨!done, c.limited, true⟩ } }
  if c.limited && decide (left ≤ 0) then w.setLeaf 0x210B (20 + n) else w

/-- The compare outputs that watch a channel, after a move of COUNT by one (R510). -/
def State.checkCompare (s : State) (e : Nat) (up : Bool) : State :=
  (List.range 4).foldl (fun t n =>
    let o := 0x90A0 + n
    let sense := decide (t.reg o 3 = 0) || decide (0 < t.reg o 3) == up
    if (t.motion.compares.getD n ⟨false, false, false⟩).armed ∧ t.regN o 1 = e ∧ (t.encoder e).count = t.reg o 2 ∧ sense ∧ t.runsMotion
    then t.compareHit n else t) s

/-- COUNT moved by one through an accepted edge, and what follows from it; Hall mode has no compare function (R505). -/
def State.counted (s : State) (e : Nat) (delta : Int) : State :=
  let t := (s.onEncoder e (fun x => { x with count := wrap32 (x.count + delta) })).setReg (0x9060 + e) 19 s.et
  let u := (t.trackDirection e).checkFollow e
  if s.reg (0x9060 + e) 1 = 0 then u.checkCompare e (decide (0 < delta)) else u

/-! ### Quadrature (R504) -/

/-- The count of a change between two states of A and B, A in bit 1: positive when A leads B; 0 where both change. -/
def quadDelta (old new : Nat) : Int :=
  let order (v : Nat) : Nat := ([0, 3, 1, 2] : List Nat).getD v 0
  match (order new + 4 - order old) % 4 with
  | 1 => 1
  | 3 => -1
  | _ => 0

/-- A loss of synchronism: the levels are taken uncounted. -/
def State.syncLoss (s : State) (e levels : Nat) : State :=
  ((s.onEncoder e (fun x => { x with accepted := levels })).bump (0x9060 + e) 14).setLeaf (0x24C0 + e) 1

/-- A change of A or B. -/
def State.quadEdge (s : State) (e levels : Nat) : State :=
  let x := s.encoder e
  let t := s.onEncoder e (fun y => { y with levels := levels })
  if levels = x.levels then s
  else if x.window then (t.bump (0x9060 + e) 13).setLeaf (0x24C0 + e) 0
  else if levels = x.accepted then t
  else if quadDelta x.accepted levels = 0 then t.syncLoss e levels
  else (t.onEncoder e (fun y => { y with accepted := levels, window := true })).counted e (quadDelta x.accepted levels)

/-- ENCODER_EDGE (R504): the sampled levels of A and B in quadrature mode. -/
def execEncoderEdge (e levels : Nat) (s : State) : Host.Outcome State Fault Refusal :=
  .next (s.inTurn (.encoderEdge e levels) (if e < 8 ∧ s.reg (0x9060 + e) 1 = 0 then s.quadEdge e (levels % 4) else s))

/-- MIN_EDGE_EXPIRY (R504): the window ends; levels that differ from the accepted state are taken uncounted. -/
def execMinEdgeExpiry (e levels : Nat) (s : State) : Host.Outcome State Fault Refusal :=
  .next (if e < 8 ∧ (s.encoder e).window then
      let t := s.onEncoder e (fun x => { x with window := false, levels := levels % 4 })
      if levels % 4 = (s.encoder e).accepted then t else t.syncLoss e (levels % 4)
    else s)

/-! ### Index and Hall (R505, R506) -/

/-- The expected count nearest a latch: INDEX_PREV, or one revolution either side. -/
def nearestIndex (prev rev latch : Int) : Int :=
  [prev - rev, prev, prev + rev].foldl (fun a c => if (wrap32 (c - latch)).natAbs < (wrap32 (a - latch)).natAbs then c else a) prev

/-- An index latched. -/
def State.indexLatch (s : State) (e : Nat) : State :=
  let o := 0x9060 + e
  let latch := (s.encoder e).count
  let t := ((s.setReg o 7 latch).bump o 18).onEncoder e (fun x => { x with indexPrev := some latch })
  match (s.encoder e).indexPrev with
  | some prev =>
    let want := wrap32 (nearestIndex prev (s.reg o 3) latch)
    if s.reg o 3 ≠ 0 ∧ s.regN o 4 < (wrap32 (latch - want)).natAbs then
      (((t.setReg o 9 latch).setReg o 10 want).bump o 11).setLeaf (0x24C0 + e) 3
    else t
  | none => t

/-- INDEX_EDGE (R506): a rising edge of I held for MIN_EDGE, in quadrature mode. -/
def execIndexEdge (e : Nat) (s : State) : Host.Outcome State Fault Refusal :=
  .next (if e < 8 ∧ s.reg (0x9060 + e) 1 = 0 then s.indexLatch e else s)

/-- The place of a Hall state in the positive order; none for 0b000 and 0b111. -/
def hallPlace (v : Nat) : Option Nat := ([1, 3, 2, 6, 4, 5] : List Nat).findIdx? (fun x => x == v)

/-- A Hall state held for MIN_EDGE. -/
def State.hall (s : State) (e v : Nat) : State :=
  let t := s.onEncoder e (fun x => { x with levels := v })
  let accept := (t.onEncoder e (fun x => { x with accepted := v })).setReg (0x9060 + e) 17 v
  match hallPlace v, hallPlace (s.encoder e).accepted with
  | none, _ => (t.bump (0x9060 + e) 15).setLeaf (0x24C0 + e) 2
  | some _, none => accept
  | some n, some o =>
    match (n + 6 - o) % 6 with
    | 0 => accept
    | 1 => accept.counted e 1
    | 5 => accept.counted e (-1)
    | _ => accept.bump (0x9060 + e) 16

/-- HALL_STATE_CHANGE (R505): in Hall mode. -/
def execHallStateChange (e state : Nat) (s : State) : Host.Outcome State Fault Refusal :=
  .next (if e < 8 ∧ s.reg (0x9060 + e) 1 = 1 then s.hall e (state % 8) else s)

/-- A write to COUNT is refused while an axis that uses the channel moves or homes (R508). -/
def State.countHeld (s : State) (e : Nat) : Bool :=
  (List.range 8).any (fun m => s.axisCfg m 19 == e && ((s.axis m).state == .moving || (s.axis m).state == .homing))

/-- COUNT (R507, R508): DIRECTION becomes undefined. -/
def execEncoderCount (path : Path) (e : Nat) (value : Int) (s : State) : Host.Outcome State Fault Refusal :=
  .next (s.inTurnOf path (.encoderCount path e value) (s.access path (orElse (s.writeGate path (0x9060 + e) 6) (refuseIf (s.countHeld e) .conditions))
    (s.onEncoder e (fun x => { x with count := wrap32 value, direction := 0, dirRef := wrap32 value })) []))

/-! ### Compare outputs (R510) -/

/-- COMPARE_PULSE_END: CMP_n is released. -/
def execComparePulseEnd (n : Nat) (s : State) : Host.Outcome State Fault Refusal :=
  .next { s with motion := { s.motion with compares := s.motion.compares.modify n (fun c => { c with asserted := false }) } }

/-- ARM_COMPARE: 1 arms with the VALUE and REMAINING in force, 0 disarms; REMAINING 0 at arming means no limit. -/
def execArmCompare (path : Path) (n value : Nat) (s : State) : Host.Outcome State Fault Refusal :=
  .next (s.inTurnOf path (.armCompare path n value) (s.access path (orElse (s.writeGate path (0x90A0 + n) 6) (orElse (numberTest (0x90A0 + n) 6 (leBytes 1 value))
      (refuseIf (decide (1 < value)) .range)))
    { s with motion := { s.motion with compares := s.motion.compares.modify n (fun c =>
      { c with armed := value == 1, limited := if value = 1 then s.reg (0x90A0 + n) 4 != 0 else c.limited }) } } []))

/-! ### Probes (R509) -/

/-- PROBE_EDGE selects an edge: 1 rising, 2 falling, 3 both. -/
def probeSelects (mode : Nat) (rising : Bool) : Bool := if rising then mode.testBit 0 else mode.testBit 1

/-- A probe event recorded, or counted as an overflow at 16. -/
def State.probed (s : State) (n : Nat) : State :=
  let q := (s.motion.probes.getD n ⟨[]⟩).queue
  if 16 ≤ q.length then (s.bump (0x9090 + n) 4).setLeaf 0x210B (16 + n)
  else
    let entry : ProbeEvent := ⟨s.et, s.motion.encoders.map (fun e => e.count), s.motion.axes.map (fun x => x.position)⟩
    { s with motion := { s.motion with probes := s.motion.probes.set n ⟨q ++ [entry]⟩ } }

/-- PROBE_EDGE (R509). -/
def execProbeEdge (n : Nat) (rising : Bool) (s : State) : Host.Outcome State Fault Refusal :=
  .next (if n < 4 ∧ probeSelects (s.regN (0x9090 + n) 1) rising then s.probed n else s)

/-- The 72 bytes of a probe event (R522). -/
def ProbeEvent.bytes (x : ProbeEvent) : List Byte :=
  leBytes 8 x.et ++ x.counts.flatMap (leBytesInt 4) ++ x.positions.flatMap (leBytesInt 4)

/-- What EVENT reads: the oldest event, empty for an empty queue. -/
def State.probeBytes (s : State) (n : Nat) : List Byte :=
  (((s.motion.probes.getD n ⟨[]⟩).queue.head?).map ProbeEvent.bytes).getD []

/-- The oldest event removed. -/
def State.probeTaken (s : State) (n : Nat) : State :=
  { s with motion := { s.motion with probes := s.motion.probes.modify n (fun p => ⟨p.queue.drop 1⟩) } }

/-- EVENT (R486, R509): a read removes the oldest event; only the motion controller of a pair accepts it. -/
def execProbeEvent (path : Path) (n : Nat) (s : State) : Host.Outcome State Fault Refusal :=
  .next (s.inTurnOf path (.probeEvent path n) (s.access path (orElse (s.readGate (0x9090 + n) 3) (refuseIf (!s.runsMotion) .conditions)) (s.probeTaken n) (s.probeBytes n)))

end Sys2Proof.Machine
end

