-- ==== Sys2Proof/Machine/Session.lean ====
section
/-!
DEFINITION. Sessions and the reliable transport on the controller's side: opening, closing, acknowledgements and repeats
(R382 to R388, R392 to R394, R463).
-/
namespace Sys2Proof.Machine

/-! ### Opening (R382, R383, R385) -/

/-- The fields of a SESSION_OPEN. -/
structure OpenAsk where
  level : Nat
  job : Bool
  ringMax : Nat
  ringMin : Nat
  dictMax : Nat
  dictMin : Nat
  formatMax : Nat
  formatMin : Nat
  deriving DecidableEq, Repr

/-- A SESSION_OPEN read out of its 16 bytes (R382). -/
def openAsk (bs : List Byte) : OpenAsk :=
  ⟨leAt bs 0 1, leAt bs 1 1 == 1, leAt bs 4 2, leAt bs 6 2, leAt bs 8 2, leAt bs 10 2, leAt bs 12 2, leAt bs 14 2⟩

/-- The highest version within two ranges, if any (R383). -/
def commonVersion (ownMax ownMin max min : Nat) : Option Nat :=
  let v := if ownMax ≤ max then ownMax else max
  if ownMin ≤ v ∧ min ≤ v then some v else none

/-- The versions that a SESSION_OPEN leads to: ring, dictionary and job format. -/
def State.versionsFor (s : State) (a : OpenAsk) : Option Nat × Option Nat × Option Nat :=
  (commonVersion (s.regN 0x1001 3) (s.regN 0x1001 4) a.ringMax a.ringMin,
    commonVersion (s.regN 0x1001 5) 0x0100 a.dictMax a.dictMin,
    if a.job then commonVersion (s.regN 0x3000 1) (s.regN 0x3000 2) a.formatMax a.formatMin else some 0)

/-- The lowest session number that is not open. -/
def State.freeSession (s : State) : Option Nat := [1, 2, 3, 4].find? (fun n => !(s.session n).isOpen)

/-- RESULT of a SESSION_OPEN (R383); with several failures, the lowest code. -/
def State.openResult (s : State) (a : OpenAsk) : Nat :=
  let v := s.versionsFor a
  if v.1.isNone ∨ v.2.1.isNone then 0x01
  else if v.2.2.isNone then 0x02
  else if s.freeSession.isNone then 0x03
  else if a.job ∧ s.jobSession.isSome then 0x04
  else if a.job ∧ (s.twin.role = .shadow ∨ s.twin.role = .cold) then 0x05
  else 0x00

/-- The level a session opens at (R385). -/
def openingLevel (a : OpenAsk) : Level := if a.level = 0 ∧ a.job = false then .observer else .operator

/-- A level's code in SESSION_ACCEPT (R382). -/
def Level.code : Level → Nat
  | .observer => 0
  | .operator => 1
  | .service => 2

/-- A session just opened: both numberings begin at 1 (R380, R392). -/
def Session.opened (peer : Nat) (a : OpenAsk) (v : Option Nat × Option Nat × Option Nat) : Session :=
  { Session.closed with
    isOpen := true, peer := peer, level := openingLevel a, openLevel := openingLevel a, job := a.job
    ringVersion := v.1.getD 0, dictVersion := v.2.1.getD 0, formatVersion := v.2.2.getD 0, txSeq := 1, txCount := 1, rxNext := 1 }

/-- SESSION_ACCEPT (R382). -/
def acceptBytes (result n : Nat) (x : Session) : List Byte :=
  [byteOf result, byteOf n, byteOf x.level.code, 0] ++ leBytes 2 x.ringVersion ++ leBytes 2 x.dictVersion
    ++ leBytes 2 x.formatVersion ++ leBytes 2 0

/-- The frame of a SESSION_ACCEPT: KIND 2 of session 0, unreliable (R380, R390). Neither direction of session 0 has numbers, so SEQ
and ACK are 0: DESIGN CHOICE (log 110). -/
def acceptFrame (payload : List Byte) : TreyxFrame :=
  ⟨2, Config.ownHops, false, false, false, false, 0, 0, 0, 0, payload⟩

/-- A new credit session (R83, R384): the account begins at 0. -/
def State.beginCredit (s : State) (format : Nat) : State :=
  (((({ s with job := { s.job with receiving := none, offset := 0, freedRemainder := 0, unsentGrant := 0 } }).setReg 0x3000 3 format).setReg
    0x3012 5 0).setReg 0x3012 6 0)

/-- The first grant of a session: CREDIT_LIMIT rises to STAGING_BYTES (R83). -/
def State.firstGrant (s : State) : State :=
  (s.setReg 0x3012 5 (s.reg 0x3012 4)).jobMessage 0x30 (leBytes 8 (s.regN 0x3012 4))

/-- A session under a number, with the credit session that a job session begins. -/
def State.openQuiet (s : State) (n peer : Nat) (a : OpenAsk) : State :=
  let x := Session.opened peer a (s.versionsFor a)
  let t := { s with sessions := s.sessions.set n x }
  if a.job then (t.beginCredit x.formatVersion).firstGrant else t

/-- A session opened under a number and accepted. -/
def State.openAs (s : State) (n peer : Nat) (a : OpenAsk) : State :=
  (s.sendFrames peer [acceptFrame (acceptBytes 0 n (Session.opened peer a (s.versionsFor a)))]).openQuiet n peer a

/-- The SESSION_OPEN that a PRIMARY copies to its partner carries the number it gave (R463). -/
def openFrame (n : Nat) (payload : List Byte) : TreyxFrame :=
  ⟨1, 0, false, false, false, false, n, 0, 0, 0, payload⟩

/-- The fields of a twin message that carries a frame. -/
def frameFields (f : TreyxFrame) : List Int := f.bytes.map (fun b => (b.toNat : Int))

/-- SESSION_OPEN (R382 to R385): opened, or refused with a RESULT. -/
def State.openSession (s : State) (peer : Nat) (payload : List Byte) : State :=
  let a := openAsk payload
  match s.openResult a, s.freeSession with
  | 0, some n =>
    let t := s.openAs n peer a
    if a.job then t.twinLead 0x08 (frameFields (openFrame n payload)) else t
  | r, _ => s.sendFrames peer [acceptFrame (acceptBytes r 0 { Session.closed with level := .observer })]

/-- The states in which ring sessions are served (R415, R416). -/
def State.ringServed (s : State) : Bool :=
  match s.dev.state with
  | .off => false
  | .aux => false
  | .boot => false
  | _ => true

/-- SESSION_OPEN (R383): 16 bytes of payload. -/
def execSessionOpen (source : Nat) (payload : List Byte) (s : State) : Host.Outcome State Fault Refusal :=
  .next (s.inTurn (.sessionOpen source payload) (if s.ringServed ∧ payload.length = 16 then s.openSession source payload else s))

/-! ### Closing (R384, R388, R421) -/

/-- The end of the job session: the partly stored segment is discarded; admitted ones stay (R384). -/
def State.endJob (s : State) : State :=
  ({ s with job := { s.job with receiving := none, offset := 0 }, twin := { s.twin with hostCopies := [] } }).setReg 0x3000 3 0

/-- An open ring session. -/
def State.openRing (s : State) (n : Nat) : Bool := decide (1 ≤ n) && decide (n ≤ 4) && (s.session n).isOpen

/-- A session closed with a reason: 1 by the peer, 2 under R397, 3 a timeout, 4 retries exhausted. The controller tells the
peer of a close of its own. -/
def State.closeSession (s : State) (n reason : Nat) : State :=
  if s.openRing n then
    let t := (if reason = 1 then s.message n 4 false [] else s.message n 3 true [])
    let u := (t.setSession n Session.closed).setReg 0x1031 5 reason
    let v := if reason = 1 then u else u.setLeaf 0x2108 3
    if (s.session n).job then v.endJob else v
  else s

/-! ### Acknowledgements and repeats (R392 to R394) -/

/-- A session after one more reliable frame in order, which an acknowledgement will answer (R392, R394). -/
def Session.took (x : Session) : Session := { x with rxNext := (x.rxNext + 1) % 2 ^ 32, ackOwed := true }

/-- A message of a ring path stands for one reliable frame received in order. -/
def State.tookFrame (s : State) (p : Path) : State :=
  match p with
  | .spi => s
  | .ring n => if s.openRing n then s.setSession n (s.session n).took else s

/-- Messages that wait leave as far as there is room (R14, R393). -/
def State.drain (s : State) (n : Nat) : State :=
  (s.session n).backlog.foldl (fun (t : State) m => t.message n m.1 true m.2) (s.setSession n { s.session n with backlog := [] })

/-- A kept frame sent once more, with the acknowledgement of the moment. -/
def Session.repeated (x : Session) (u : SentFrame) : SentFrame :=
  ⟨{ u.frame with retransmit := true, ack := x.ackNumber, sack := x.sackBits }, u.sends + 1⟩

/-- A frame repeated, or the session closed when it has been sent MAX_RETRIES times (R388, R393). -/
def State.repeatFrame (s : State) (n seq : Nat) : State :=
  let x := s.session n
  match x.unacked.find? (fun u => u.frame.seq == seq) with
  | none => s
  | some u =>
    if s.regN 0x1030 4 ≤ u.sends then s.closeSession n 4
    else if s.ringUp then
      let v := x.repeated u
      (({ s with sessions := s.sessions.set n { x with
            ackOwed := false, unacked := x.unacked.map (fun (w : SentFrame) => if w.frame.seq = seq then v else w) } }).sendFrames
        x.peer [v.frame]).bump 0x1031 2
    else s

/-- A session after an acknowledgement: the frames below ACK are no longer kept (R393). -/
def Session.acked (x : Session) (ack : Nat) : Session :=
  { x with unacked := x.unacked.filter (fun u => !seqBelow u.frame.seq ack) }

/-- An acknowledgement taken in; it may cause one repeat per value of ACK (R393). It also releases the copies that a
SHADOW holds (R465). -/
def State.acked (s : State) (n ack sack : Nat) : State :=
  if s.openRing n ∧ seqAhead ack (s.session n).txSeq ≤ 64 then
    let x := (s.session n).acked ack
    let again := decide (sack ≠ 0) && decide (x.repeatedAt ≠ some ack) && x.unacked.any (fun u => u.frame.seq == ack)
    let t := s.setSession n (if again then { x with repeatedAt := some ack } else x)
    let u := if x.job then { t with twin := { t.twin with hostCopies := t.twin.hostCopies.filter (fun f => !seqBelow f.seq ack) } } else t
    (if again then u.repeatFrame n ack else u).drain n
  else s

/-- ACK (R393). -/
def execAck (n ack sack : Nat) (s : State) : Host.Outcome State Fault Refusal := .next (s.acked n ack sack)

/-- RTO_EXPIRY (R393). -/
def execRtoExpiry (n seq : Nat) (s : State) : Host.Outcome State Fault Refusal :=
  .next (if s.openRing n then s.repeatFrame n seq else s)

/-- ACK_DELAY_EXPIRY (R394). -/
def execAckDelayExpiry (n : Nat) (s : State) : Host.Outcome State Fault Refusal :=
  .next (if s.openRing n ∧ (s.session n).ackOwed ∧ s.ringUp then s.message n 4 false [] else s)

/-- SESSION_TIMEOUT (R388). -/
def execSessionTimeout (n : Nat) (s : State) : Host.Outcome State Fault Refusal := .next (s.closeSession n 3)

/-- SESSION_CLOSE (R388): from host software; the frame is acknowledged and the session closes. -/
def execSessionClose (n : Nat) (s : State) : Host.Outcome State Fault Refusal :=
  .next (s.inTurn (.sessionClose n) ((s.tookFrame (.ring n)).closeSession n 1))

end Sys2Proof.Machine
end

