-- ==== Sys2Proof/Machine/JobStream.lean ====
section
/-!
DEFINITION. The job byte stream: offsets, credits, framing and the segment in reception (R83 to R86, R396 to R399).
-/
namespace Sys2Proof.Machine

/-- The header of a segment in reception is stored in full (R38). -/
def Reception.headed (r : Reception) : Bool := decide (32 ≤ r.bytes.length)

/-- SEGMENT_WORDS of a header in reception. -/
def Reception.words (r : Reception) : Nat := leAt r.bytes 24 3

/-- The SEGMENT_ID a refusal names (R85, R398). -/
def Reception.id (r : Reception) : Nat := if r.headed then leAt r.bytes 0 4 else 0xFFFFFFFF

/-- Job bytes counted as received (R120). -/
def State.received (s : State) (n : Nat) : State := s.bumpBy 0x3012 6 n

/-- What the history keeps of a segment refused in reception: the ID its refusal names (R119). -/
def Job.refusedEarly (j : Job) (r : Reception) : Job := { j with receiving := none }.remember ⟨r.id, .refused, 0, 0, none, none, 0⟩

/-- A segment refused in reception, with bytes that are discarded and still count as received (R85, R86, R398). -/
def State.refuseEarly (s : State) (r : Reception) (code extra : Nat) : State :=
  ((((({ s with job := s.job.refusedEarly r }).received extra).free (r.bytes.length + extra)).setLeaf 0x2101 1).jobMessage 0x32
    (refuseBytes r.id r.seq code 0xFFFF (2 ^ 64 - 1)))

/-- Job bytes that arrive at or above CREDIT_LIMIT are discarded, counted in CREDIT_VIOLATIONS and not as received (R85); the data
is discarded until the next START (R399). -/
def State.violated (s : State) (seq : Nat) : State :=
  let t := (s.bump 0x3012 7).setLeaf 0x2101 2
  { t with job := { t.job with receiving := some ⟨seq, [], true⟩ } }

/-- A credit violation in the segment in reception (R85, R399): it is refused, and its rest is discarded. -/
def State.creditViolation (s : State) (r : Reception) : State := (s.refuseEarly r 0x0210 0).violated r.seq

/-- Of so many bytes discarded for their framing (R398), so many lie below CREDIT_LIMIT: they count as received and are freed; those
at or above it violate the credits. -/
def State.discarded (s : State) (seq all below : Nat) : State :=
  if below < all then s.violated seq else s

/-- A segment complete: it becomes SUBMITTED (R79), and its lines in the staging area are accepted for writing. -/
def State.submit (s : State) (r : Reception) : State :=
  let ws := wordsOf r.bytes
  let g : Segment :=
    { key := s.job.nextKey, id := segId ws, seq := r.seq, layer := segLayer ws, mask := segMask ws, startEt := segStart ws
      priority := segPriority ws, words := ws, state := .submitted, items := [], heads := [], admitNo := 0, promise := 0, slack := 0
      broke := none, finalEt := 0, defects := 0, digested := false, groups := [], entries := [], cuts := [] }
  ({ s with job := { s.job with segments := s.job.segments ++ [g], nextKey := s.job.nextKey + 1, receiving := none } }).acceptWrite 0
    s.job.nextKey r.bytes

/-- SEGMENT_WORDS lies within the limits of R39. -/
def State.wordsOk (s : State) (n : Nat) : Bool := decide (12 ≤ n) && decide (n ≤ s.regN 0x3000 6)

/-- The data bytes of a frame taken into a reception; off is the position of the first of them (R84, R85, R398). The bytes
below CREDIT_LIMIT are stored. -/
def State.takeJob (s : State) (r : Reception) (off : Nat) (data : List Byte) : State :=
  let room := s.regN 0x3012 5 - off
  let kept := r.bytes ++ data.take room
  let all := r.bytes ++ data
  let total := 4 * (leAt kept 24 3)
  if r.headed = false ∧ 32 ≤ kept.length ∧ s.wordsOk (leAt kept 24 3) = false then
    ((s.received (32 - r.bytes.length)).refuseEarly { r with bytes := kept.take 32 } 0x0211 (kept.length - 32)).discarded r.seq
      all.length kept.length
  else if 32 ≤ kept.length ∧ total ≤ kept.length then
    let t := s.received (total - r.bytes.length)
    if total < all.length then
      (t.refuseEarly { r with bytes := kept.take total } 0x0211 (kept.length - total)).discarded r.seq all.length kept.length
    else t.submit { r with bytes := all }
  else
    let t := s.received (kept.length - r.bytes.length)
    if kept.length < all.length then t.creditViolation { r with bytes := kept }
    else { t with job := { t.job with receiving := some { r with bytes := all } } }

/-- A frame with START set ends the reception before it (R398, R399). -/
def State.beforeStart (s : State) : State :=
  match s.job.receiving with
  | some r => if r.discarding then { s with job := { s.job with receiving := none } } else s.refuseEarly r 0x0211 0
  | none => s

/-- A JOB frame's data (R396 to R399). -/
def State.jobData (s : State) (seq : Nat) (start : Bool) (off : Nat) (data : List Byte) : State :=
  let t := { s with job := { s.job with offset := s.job.offset + data.length } }
  if start then t.beforeStart.takeJob ⟨seq, [], false⟩ off data
  else match t.job.receiving with
    | some r => if r.discarding then t else t.takeJob r off data
    | none =>
      let below := min data.length (t.regN 0x3012 5 - off)
      let u := (t.received below).free below
      if below < data.length then u.creditViolation ⟨seq, [], false⟩ else u

/-- The data of a JOB message: 4 to 1,476 bytes, a multiple of 4 (R396). -/
def jobFormOk (payload : List Byte) : Bool :=
  decide (12 ≤ payload.length) && decide (payload.length ≤ 1484) && payload.length % 4 == 0

/-- A JOB message (R396, R397): a JOB_OFFSET other than the count delivered closes the job session; a message of another
form is discarded. -/
def State.jobMessageIn (s : State) (n seq : Nat) (start : Bool) (payload : List Byte) : State :=
  if (s.session n).job = false ∨ jobFormOk payload = false then s
  else if leNat (payload.take 8) ≠ s.job.offset then s.closeSession n 2
  else s.jobData seq start s.job.offset (payload.drop 8)

/-- JOB (R396): the frame next in order of session n. MORE has no meaning for a JOB message, which fits one frame. -/
def execJob (n : Nat) (start _more : Bool) (data : List Byte) (s : State) : Host.Outcome State Fault Refusal :=
  .next (s.inTurn (.job n start _more data) (if s.openRing n ∧ s.ringServed then
      (s.tookFrame (.ring n)).jobMessageIn n (s.session n).rxNext start data
    else s))

/-- GRANT_TIMER_EXPIRY (R86). -/
def execGrantTimerExpiry (s : State) : Host.Outcome State Fault Refusal := .next s.grant

end Sys2Proof.Machine
end

