-- ==== Sys2Proof/Machine/Time.lean ====
section
/-!
DEFINITION. Network Time: its servo, its steps and its conversions (R425 to R449). ET is never touched here (R443).
-/
namespace Sys2Proof.Machine

/-- The bound of |ρ|: 200 ppm in 2^−40 (R426). -/
def rhoMax : Int := 219902325

/-- NT of an ET held in 1/16 tick, in 0.1 ns (R426, R431). -/
def TimeUnit.ntFine (t : TimeUnit) (e16 : Int) : Int :=
  let d := signedOf 68 (e16 - 16 * t.anchorEt)
  t.anchorNt + d + (d * t.rho) / 2 ^ 40

/-- The anchor moved to an ET under the old ρ: NT is continuous (R427). -/
def TimeUnit.reanchor (t : TimeUnit) (et : Tick) : TimeUnit :=
  { t with anchorEt := et, anchorNt := t.nt et }

/-- The anchor moved, then a new ρ (R427). -/
def TimeUnit.setRho (t : TimeUnit) (et : Tick) (rho : Int) : TimeUnit :=
  { t.reanchor et with rho := clampInt (-rhoMax) rhoMax rho }

/-- ρ in LOCKED: ρ_f − offset / SERVO_TC; the offset is in 0.1 ns and SERVO_TC in ms (R436). -/
def lockedRho (rhoF offset : Int) (tc : Nat) : Int :=
  clampInt (-rhoMax) rhoMax (rhoF - roundDiv (offset * 2 ^ 40) (tc * 10000000))

/-- ρ in SLEWING (R436). -/
def slewRho (offset : Int) : Int := if 0 < offset then -rhoMax else rhoMax

/-- ρ_f after an accepted exchange (R437); times in 0.1 ns. -/
def nextRhoF (rhoF offset prev : Int) (t tPrev : Tick) : Int :=
  clampInt (-rhoMax) rhoMax (rhoF + roundDiv ((offset - prev) * 2 ^ 40) ((t - tPrev) * 16 * 8))

/-- Local NT minus grandmaster time, and the mean path delay, of an exchange in 0.1 ns (R435, IEEE 1588-2019). -/
def exchangeOffset (t1 c1 t2 t3 t4 c2 : Int) : Int := ((t2 - t1 - c1) - (t4 - c2 - t3)) / 2

/-- The mean path delay of an exchange. -/
def exchangeDelay (t1 c1 t2 t3 t4 c2 : Int) : Int := ((t2 - t1 - c1) + (t4 - c2 - t3)) / 2

/-- The servo after acquisition: N_A such that the offset is 0 (R437). -/
def TimeUnit.acquired (t : TimeUnit) (et : Tick) (offset : Int) : TimeUnit :=
  { t.reanchor et with
    anchorNt := t.nt et - offset, unset := false, servo := .locked, last := some (0, et), exchange := none }

/-- The servo after an exchange whose offset is above STEP_THRESHOLD: it slews and never steps (R438). -/
def TimeUnit.slewed (t : TimeUnit) (et : Tick) (offset : Int) : TimeUnit :=
  { t.setRho et (slewRho offset) with servo := .slewing, last := some (offset, et), exchange := none }

/-- The servo after an exchange within STEP_THRESHOLD: LOCKED; ρ_f is updated unless it was SLEWING (R437, R438). -/
def TimeUnit.tracked (t : TimeUnit) (et : Tick) (offset : Int) (tc : Nat) : TimeUnit :=
  let rhoF := match t.servo, t.last with
    | .slewing, _ => t.rhoF
    | _, some (prev, tPrev) => if tPrev < et then nextRhoF t.rhoF offset prev et tPrev else t.rhoF
    | _, none => t.rhoF
  { t.setRho et (lockedRho rhoF offset tc) with
    servo := .locked, rhoF := rhoF, last := some (offset, et), exchange := none }

/-- The counts of an accepted exchange (R448). -/
def State.countExchange (s : State) (offset delay : Int) : State :=
  ((s.setReg 0x2023 4 offset).setReg 0x2023 5 delay).bump 0x2023 8

/-- The servo's answer to an accepted exchange (R437, R438). -/
def State.servoUpdate (s : State) (offset delay : Int) : State :=
  let threshold := s.reg 0x2022 1 * 10
  let big := decide (threshold < offset) || decide (offset < -threshold)
  let t := s.countExchange offset delay
  if s.time.unset then { t with time := s.time.acquired s.et offset }
  else if big then
    if s.time.servo = .slewing then { t with time := s.time.slewed s.et offset }
    else (({ t with time := s.time.slewed s.et offset }).bump 0x2023 6).setLeaf 0x2109 0
  else { t with time := s.time.tracked s.et offset (s.regN 0x2022 2) }

/-- The exchange in progress began with a Sync at most 10 ms ago (R435). -/
def State.exchangeInTime (s : State) : Bool :=
  match s.time.exchange with
  | some (_, began) => decide (s.et ≤ began + 6250000)
  | none => false

/-- An exchange is accepted: a grandmaster is selected, it is in progress and none of its messages was lost, and no step fell between
the first and the last stamp (R435, R442). -/
def State.exchangeAccepted (s : State) (t2 : Nat) : Bool :=
  s.time.master.isSome && s.clk.running && s.exchangeInTime &&
  match s.time.stepEt with
  | some e => decide (e < t2 / 16)
  | none => true

/-- The corrected ingress and egress stamps of the selected port, in 1/16 tick (R431). -/
def State.stamps (s : State) (t2 t3 : Nat) : Int × Int :=
  let p := (s.time.master.map (fun m => m.port)).getD 0
  ((t2 : Int) - s.corrAt p t2, (t3 : Int) + s.corrAt (2 + p) t3)

/-- PTP_EXCHANGE_COMPLETE (R435 to R438): t1 and t4 are the grandmaster's times and c1 and c2 the correction fields, in
0.1 ns; t2 and t3 are the port's captures, in 1/16 tick. -/
def execPtpExchangeComplete (t1 c1 : Int) (t2 t3 : Nat) (t4 c2 : Int) (s : State) :
    Host.Outcome State Fault Refusal :=
  let st := s.stamps t2 t3
  let n2 := s.time.ntFine st.1
  let n3 := s.time.ntFine st.2
  .next (s.inTurn (.ptpExchangeComplete t1 c1 t2 t3 t4 c2)
    (if s.exchangeAccepted t2 then s.servoUpdate (exchangeOffset t1 c1 n2 n3 t4 c2) (exchangeDelay t1 c1 n2 n3 t4 c2)
     else { s with time := { s.time with exchange := none } }))

/-- PTP_EXCHANGE_TIMEOUT (R435): the exchange is discarded. -/
def execPtpExchangeTimeout (s : State) : Host.Outcome State Fault Refusal :=
  .next { s with time := { s.time with exchange := none } }

/-! ### The choice of grandmaster (R434, R439, R440) -/

/-- The order of data set comparison: the quality fields in turn, then the identity (IEEE 1588-2019). -/
def listLess : List Nat → List Nat → Bool
  | [], [] => false
  | [], _ => true
  | _, [] => false
  | x :: xs, y :: ys => decide (x < y) || (decide (x = y) && listLess xs ys)

/-- One Announce is preferred to another: of one grandmaster the lower stepsRemoved, on equal values port A; of two the better
quality fields in turn, then the lower identity (R434, IEEE 1588-2019). -/
def Announce.better (a b : Announce) : Bool :=
  if a.identity = b.identity then listLess [a.stepsRemoved, a.port] [b.stepsRemoved, b.port]
  else listLess (a.quality ++ [a.identity]) (b.quality ++ [b.identity])

/-- The best of the masters heard. -/
def bestMaster : List Announce → Option Announce
  | [] => none
  | a :: rest =>
    match bestMaster rest with
    | some b => if b.better a then some b else some a
    | none => some a

/-- A selection put into effect: identity and port read in 0x2023, and a change of identity is counted (R440). -/
def State.selectMaster (s : State) (m : Option Announce) : State :=
  let id := (m.map (fun x => x.identity)).getD 0
  let changed := decide (id ≠ 0) && decide (s.time.lastIdentity ≠ 0) && decide (s.time.lastIdentity ≠ id)
  let t := (({ s with time := { s.time with master := m, exchange := none, lastIdentity := if id = 0 then s.time.lastIdentity else id } }).setReg
    0x2023 2 id).setReg 0x2023 3 ((m.map (fun (x : Announce) => (x.port : Int))).getD 0xFF)
  if changed then (t.bump 0x2023 7).setLeaf 0x2109 2 else t

/-- An Announce taken in: it replaces what its port offered of that grandmaster, and the choice is made again (R434). -/
def State.announced (s : State) (a : Announce) : State :=
  let heard := s.time.heard.filter (fun b => !(b.port == a.port && b.identity == a.identity)) ++ [a]
  let t := { s with time := { s.time with heard := heard } }
  if bestMaster heard = s.time.master then t else t.selectMaster (bestMaster heard)

/-- ANNOUNCE_TIMEOUT (R439): the selected grandmaster is silent on the selected port; the servo holds ρ_f. -/
def State.holdTime (s : State) : State :=
  let heard := s.time.heard.filter (fun b => decide (some b ≠ s.time.master))
  let t := { s with time := { s.time.setRho s.et s.time.rhoF with servo := .holdover, heard := heard, exchange := none } }
  (t.selectMaster (bestMaster heard)).setLeaf 0x2109 1

/-- ANNOUNCE_TIMEOUT (R439). -/
def execAnnounceTimeout (s : State) : Host.Outcome State Fault Refusal :=
  .next (if s.time.master.isSome then s.holdTime else s)

/-- NT_REANCHOR (R427). -/
def execNtReanchor (s : State) : Host.Outcome State Fault Refusal :=
  .next { s with time := s.time.reanchor s.et }

/-! ### Steps and conversions (R428, R441, R446) -/

/-- An exchange has been accepted within the last 2 s (R441). -/
def State.freshExchange (s : State) : Bool :=
  match s.time.last with
  | some (_, e) => decide (s.et ≤ e + 1250000000)
  | none => false

/-- NT stepped by the newest offset (R441). -/
def State.stepTime (s : State) : State :=
  let offset := (s.time.last.map (·.1)).getD 0
  let rho := lockedRho s.time.rhoF 0 (s.regN 0x2022 2)
  let t := { s with time := { s.time.setRho s.et rho with
    anchorNt := s.time.nt s.et - offset, servo := .locked, stepEt := some s.et } }
  ((t.setReg 0x2020 6 (-offset)).bump 0x2020 5).setLeaf 0x2109 3

/-- STEP_NOW (R441): a write of 1 at Service level. -/
def execStepNow (path : Path) (value : Nat) (s : State) : Host.Outcome State Fault Refusal :=
  .next (s.inTurnOf path (.stepNow path value) (s.access path
    (orElse (s.writeGate path 0x2022 4)
      (orElse (numberTest 0x2022 4 (leBytes 1 value)) (refuseIf (decide (value = 1) && !s.freshExchange) .conditions)))
    (if value = 1 then s.stepTime else s) []))

/-- ET_IN converted under the present anchor and ρ (R426, R446). -/
def State.convertEt (s : State) (value : Nat) : State :=
  let nt := s.time.nt value
  ((s.setReg 0x2021 1 value).setReg 0x2021 2 (ntSeconds nt)).setReg 0x2021 3 (s.time.stampWord nt)

/-- ET_IN (R446). -/
def execEtIn (path : Path) (value : Nat) (s : State) : Host.Outcome State Fault Refusal :=
  .next (s.inTurnOf path (.etIn path value) (s.access path (orElse (s.writeGate path 0x2021 1) (numberTest 0x2021 1 (leBytes 8 value)))
    (s.convertEt value) []))

/-- The least E between E_A − 2^62 and E_A + 2^62 whose N(E) is at or after an NT; 0 where it is negative, all ones
where there is none (R428). -/
def TimeUnit.etOf (t : TimeUnit) (nt : Int) : Nat :=
  let low := t.anchorEt - 2 ^ 62
  if t.nt (t.anchorEt + 2 ^ 62) < nt then 2 ^ 64 - 1
  else (low + leastAt (fun k => decide (nt ≤ t.nt (low + k))) 63).toNat

/-- The NT_IN pair converted (R428, R446). -/
def State.convertNt (s : State) (value : Nat) : State :=
  let nt := (s.reg 0x2021 4 * 1000000000 + value) * 10
  (s.setReg 0x2021 5 value).setReg 0x2021 6 (s.time.etOf nt)

/-- NT_IN_NANOSECONDS (R446). -/
def execNtInNanoseconds (path : Path) (value : Nat) (s : State) : Host.Outcome State Fault Refusal :=
  .next (s.inTurnOf path (.ntInNanoseconds path value) (s.access path (orElse (s.writeGate path 0x2021 5) (numberTest 0x2021 5 (leBytes 4 value)))
    (s.convertNt value) []))

end Sys2Proof.Machine
end

