-- ==== Sys2Proof/Machine/Reading.lean ====
section
/-!
DEFINITION. What the dictionary's objects read: values that follow from the machine's state are formed at the read, all
others are the stored values (R11, R400, R403 and the object tables of every chapter).
-/
namespace Sys2Proof.Machine

/-- The value read at a subindex, for a table of computed ones; none where the stored value is read. -/
def pick (l : List (Nat × Int)) (sub : Nat) : Option Int := (l.find? (fun p => p.1 == sub)).map (fun p => p.2)

/-- A number out of a Bool. -/
def one (b : Bool) : Int := (flag b : Nat)

/-! ### Identity and communication (R417 to R421) -/

/-- VERSION of an image of the running slot. -/
def Images.runningVersion (i : Images) (f : Slot → Option (List Byte)) : Nat :=
  match i.running with
  | some n => ((f (i.slot n)).map imageVersion).getD 0
  | none => 0

/-- VERSION of a stored image, 0 when it is not valid (R632). -/
def versionOf (kind revision : Nat) (i : Option (List Byte)) : Nat :=
  match i with
  | some bs => if (imageFault kind revision bs).isNone then imageVersion bs else 0
  | none => 0

/-- Ring sessions open. -/
def State.sessionsOpen (s : State) : Nat := [1, 2, 3, 4].countP (fun n => (s.session n).isOpen)

/-- 0x1000 to 0x1FFF. -/
def State.readComm (s : State) (p : Path) (index sub : Nat) : Option Int :=
  let x := s.on p
  match index with
  | 0x1000 => pick [(3, s.fuses.revision), (4, s.fuses.serial), (6, s.fuses.nodeMac)] sub
  | 0x1001 =>
    pick [(1, s.images.runningVersion (fun k => k.sf)), (2, s.images.runningVersion (fun k => k.mc)),
      (6, if p = .spi then 0 else x.ringVersion), (7, if p = .spi then 0 else x.dictVersion)] sub
  | 0x1010 => pick [(3, s.flash.result)] sub
  | 0x1030 => pick [(11, x.subscribe)] sub
  | 0x1031 => pick [(1, s.sessionsOpen)] sub
  | 0x1040 => pick [(1, one s.ring.portA.lock)] sub
  | 0x1041 => pick [(1, one s.ring.portB.lock)] sub
  | _ => none

/-! ### Device-wide objects (R15, R445, R448, R570, R571, R585, R609, R650, R651) -/

/-- SERVO_STATE (R436). -/
def ServoState.code : ServoState → Nat
  | .noMaster => 0
  | .locked => 1
  | .slewing => 2
  | .holdover => 3

/-- Bits set where a test holds. -/
def bitsWhere (n : Nat) (p : Nat → Bool) : Nat := (List.range n).foldl (fun a i => if p i then setBit a i else a) 0

/-- 0x2000 to 0x20FF. -/
def State.readDevice (s : State) (p : Path) (index sub : Nat) : Option Int :=
  let d := s.dev
  let c := s.clocks
  let th := s.thermal
  match index with
  | 0x2001 =>
    pick [(1, d.state.code), (3, d.cause), (4, d.result), (5, d.transEt), (6, d.prev.code), (7, d.count)] sub
  | 0x2011 =>
    pick [(1, c.root), (2, one c.xoQualified), (7, c.judgeGates), (8, c.judgeRef),
      (9, flag c.mainLock + 2 * flag c.dramLock + 4 * flag c.serdesLock),
      (10, flag c.portA.qualified + 2 * flag c.portB.qualified + 4 * flag c.twinLink.qualified + 8 * flag c.xoQualified)] sub
  | 0x2012 => pick [(6, one c.freqBusy)] sub
  | 0x2020 =>
    pick [(1, s.et), (2, ntSeconds (s.time.nt s.et)), (3, s.time.stampWord (s.time.nt s.et)), (4, s.time.rho)] sub
  | 0x2023 => pick [(1, s.time.servo.code)] sub
  | 0x2031 =>
    pick [(3, one th.fast), (4, one th.warning), (5, one th.tripped),
      (6, bitsWhere 16 (fun k => ((th.sensors[k]?).map (fun x => x.excluded)).getD false)), (7, one th.limitSet),
      (8, bitsWhere 32 (fun h => (s.head h).link.opticsValid))] sub
  | 0x2040 =>
    pick [(1, s.power.resetCause), (2, s.power.railFault), (3, s.power.powerCycles), (4, one s.power.inhibit), (6, s.power.step),
      (7, s.power.startupTime)] sub
  | 0x2050 => pick [(1, s.gis), (3, one s.intAsserted), (4, (s.on p).eventMask)] sub
  | _ =>
    if 0x2024 ≤ index ∧ index < 0x2028 then
      let factory := s.fuses.corr.getD (index - 0x2024) 0
      pick [(1, factory), (3, (factory : Int) + s.reg index 2)] sub
    else if 0x2100 ≤ index ∧ index < 0x2500 then pick [(1, s.causeBits index), (4, (s.on p).takeMask index)] sub
    else none

/-! ### Jobs and heads (R76 to R78, R118 to R120, R160 to R164, R240) -/

/-- The segment that QUERY_ID addresses: the unfinished one, else the newest of the history (R119). -/
def State.queried (s : State) : Option SegHistory :=
  let id := s.regN 0x3011 3
  match s.unfinishedBy id with
  | some g => some (g.entry g.state)
  | none => (s.job.history.filter (fun e => e.id == id)).getLast?

/-- 0x3000 to 0x3FFF. -/
def State.readJob (s : State) (index sub : Nat) : Option Int :=
  match index with
  | 0x3001 =>
    let used := s.job.params.length
    pick [(3, ((storeGet (s.regN 0x3001 1) s.job.paramWrites).getD 0 : Nat)), (4, used), (5, (4096 : Int) - used)] sub
  | 0x3010 => pick [(4, s.dramLatency)] sub
  | 0x3011 =>
    match s.queried with
    | some e => pick [(4, e.state.code), (5, e.promise), (6, e.slack), (7, (e.broke.getD 0xFF : Nat))] sub
    | none => none
  | 0x3012 => pick [(1, s.slotsAdmitted), (2, s.slotsFree), (3, 0)] sub
  | _ => none

/-- 0x4000 to 0x5FFF: SERVO_PERIOD_TICKS, the commanded position before any set-point, QUERY_SEAM. -/
def State.readScan (s : State) (index sub : Nat) : Option Int :=
  if index = 0x4120 then pick [(2, 625 * s.reg 0x4120 3)] sub
  else if 0x4160 ≤ index ∧ index < 0x4180 ∧ (s.head (index - 0x4160)).path.setPoints = [] then
    pick [(1, s.reg (0x4100 + (index - 0x4160)) 11), (2, s.reg (0x4100 + (index - 0x4160)) 12)] sub
  else if 0x5040 ≤ index ∧ index < 0x5080 then pick [(7, s.stitch.seam (index - 0x5040) (s.regN index 6))] sub
  else none

/-! ### Sieve and control (R279 to R283, R320 to R323) -/

/-- Buffers of a camera context in a state. -/
def Camera.inState (c : Camera) (b : BufState) : Nat := c.frames.countP (fun f => f.state == b)

/-- Heads of a pipeline whose applied generation has ENABLE 1. -/
def State.contextsActive (s : State) (pipe : Nat) : Nat :=
  (pipeHeads pipe).countP (fun h => (s.head h).camera.appliedOn)

/-- 0x6000 to 0x6FFF. -/
def State.readSieve (s : State) (index sub : Nat) : Option Int :=
  if index = 0x6001 then pick [(3, s.sieve.oldest), (4, s.sieve.oldest + s.sieve.log.length)] sub
  else if 0x6010 ≤ index ∧ index < 0x6014 then
    let k := index - 0x6010
    pick [(1, ((s.sieve.pipes.getD k ⟨none, 0, []⟩).load s.et : Nat)), (5, s.contextsActive k)] sub
  else if 0x6100 ≤ index ∧ index < 0x6120 then
    let c := (s.head (index - 0x6100)).camera
    pick [(18, c.committed), (19, c.applied)] sub
  else if 0x6220 ≤ index ∧ index < 0x6240 then
    let c := (s.head (index - 0x6220)).camera
    pick [(8, (4 : Int) - c.frames.length), (9, c.inState .receiving), (10, c.inState .queued), (11, c.inState .processing),
      (12, c.inState .archiving), (13, one c.ready), (14, c.flags)] sub
  else none

/-- PD_DARK (R287, R323). -/
def Channel.pdDark (c : Channel) : Nat := if c.darkValid then c.darkS * 65536 + c.darkL else 0xFFFFFFFF

/-- 0x7000 to 0x7FFF; subindex b + 1 is beamlet b. -/
def State.readControl (s : State) (index sub : Nat) : Option Int :=
  if index = 0x7000 then pick [(2, s.engine.rateAt s.et)] sub
  else if index = 0x7001 ∧ 1 ≤ sub ∧ sub ≤ 8 then some (((s.engine.lanes.getD (sub - 1) ⟨[], 0, []⟩).load s.et : Nat) : Int)
  else if 0x7120 ≤ index ∧ index < 0x7140 then some (s.chan (index - 0x7120) (sub - 1)).pdDark
  else if 0x7140 ≤ index ∧ index < 0x7160 then some (s.chan (index - 0x7140) (sub - 1)).u
  else if 0x71A0 ≤ index ∧ index < 0x71C0 then some (s.chan (index - 0x71A0) (sub - 1)).rcLines
  else if 0x71C0 ≤ index ∧ index < 0x71E0 then some ((s.chan (index - 0x71C0) (sub - 1)).outerAt s.et).o
  else none

/-! ### Links, motion, memory (R367, R520 to R523, R553, R554) -/

/-- STATE of a head link (R367). -/
def LinkState.code : LinkState → Nat
  | .disabled => 0
  | .acquire => 1
  | .align => 2
  | .negotiate => 3
  | .operation => 4
  | .failed => 5

/-- 0x8040+h LINK_STATUS. -/
def State.readLink (s : State) (index sub : Nat) : Option Int :=
  if 0x8040 ≤ index ∧ index < 0x8060 then
    let l := (s.head (index - 0x8040)).link
    pick [(1, l.state.code), (2, l.failReason), (3, l.version), (4, l.delay), (10, l.status), (11, l.optics), (12, l.trainedEt)] sub
  else none

/-- STATE of an axis (R481). -/
def AxisState.code : AxisState → Nat
  | .disabled => 0
  | .hold => 1
  | .moving => 2
  | .homing => 3
  | .stopping => 4
  | .limit => 5
  | .faulted => 6

/-- The speed of a motion at an ET, in microsteps per second. -/
def Ramp.speedAt (r : Ramp) (et : Tick) : Int :=
  r.dir * (r.at_ ((etSub et r.start * 16 / 10) * 2 ^ 48 / 10)).w.tdiv (2 * (motionSecond : Int) * motionSecond)

/-- OFFSET_A in [15:0] and OFFSET_B in [31:16], whole codes (R520). -/
def Axis.offsets (x : Axis) : Int :=
  sext 32 (unsignedOf 16 (x.coilB.offset.tdiv 256) * 65536 + unsignedOf 16 (x.coilA.offset.tdiv 256))

/-- RECOAT_STATE (R523). -/
def RecoatState.code : RecoatState → Nat
  | .idle => 0
  | .before => 1
  | .after => 2
  | .failed => 3

/-- 0x9000 to 0x9FFF. -/
def State.readMotion (s : State) (index sub : Nat) : Option Int :=
  if 0x9040 ≤ index ∧ index < 0x9048 then
    let x := s.axis (index - 0x9040)
    pick [(1, x.state.code), (2, x.position), (3, ((x.ramp.map (fun r => r.speedAt s.et)).getD 0)), (4, one x.homed), (10, x.offsets)] sub
  else if 0x9060 ≤ index ∧ index < 0x9068 then
    let x := s.encoder (index - 0x9060)
    pick [(6, x.count), (8, x.indexPrev.getD 0), (12, x.direction), (21, one x.indexPrev.isSome)] sub
  else if index = 0x9080 then
    let r := s.motion.recoat
    pick [(4, r.state.code), (5, r.reported), (6, one r.valid), (7, r.reportEt), (8, r.step)] sub
  else if 0x9090 ≤ index ∧ index < 0x9094 then pick [(2, ((s.motion.probes.getD (index - 0x9090) ⟨[]⟩).queue.length : Nat))] sub
  else if 0x90A0 ≤ index ∧ index < 0x90A4 then pick [(7, one (s.motion.compares.getD (index - 0x90A0) ⟨false, false, false⟩).armed)] sub
  else none

/-- Device width, gigabits per device, ranks and GiB of an organisation code (R524). -/
def organisation (code : Nat) : Nat × Nat × Nat × Nat :=
  ([(16, 2, 1, 2), (16, 4, 1, 4), (16, 8, 1, 8), (16, 16, 1, 16), (8, 4, 1, 8), (8, 4, 2, 16), (8, 8, 1, 16), (8, 8, 2, 32),
    (8, 16, 1, 32)] : List (Nat × Nat × Nat × Nat)).getD code (0, 0, 0, 0)

/-- 0xA000 to 0xAFFF. -/
def State.readMemory (s : State) (index sub : Nat) : Option Int :=
  if index = 0xA001 then
    let o := organisation s.power.dramOrg
    pick [(1, s.power.dramOrg), (2, o.1), (3, o.2.1), (4, o.2.2.1), (5, o.2.2.2 * 2 ^ 30),
      (6, (o.2.2.2 * 2 ^ 30 : Nat) - s.reg 0x3012 4)] sub
  else if 0xA010 ≤ index ∧ index < 0xA012 then
    pick [(10, one (s.channel (index - 0xA010)).doubled), (11, if s.reg 0xA000 2 = 0 then 0x7FFF else s.reg index 11)] sub
  else none

/-! ### Images, recorder, twin (R632 to R634, R662, R663, R479) -/

/-- 0xB000 to 0xBFFF. -/
def State.readImages (s : State) (index sub : Nat) : Option Int :=
  let i := s.images
  let v := s.fuses.revision
  match index with
  | 0xB000 =>
    pick [(1, (i.running.getD 0xFF : Nat)), (2, i.current.preferred), (3, one i.tested), (4, versionOf 1 v i.slotA.sf),
      (5, versionOf 2 v i.slotA.mc), (6, versionOf 1 v i.slotB.sf), (7, versionOf 2 v i.slotB.mc), (8, one i.fallback),
      (9, i.current.trial)] sub
  | 0xB001 => pick [(6, i.target)] sub
  | 0xB010 => pick [(1, one i.blockValid), (3, leAt i.block 4 2), (4, i.failReason)] sub
  | _ => none

/-- 0xC000 to 0xCFFF. -/
def State.readRecorder (s : State) (p : Path) (index sub : Nat) : Option Int :=
  let r := s.recorder
  let x := s.on p
  match index with
  | 0xC000 => pick [(1, r.next), (2, ((min r.next 4096 : Nat) : Int)), (3, r.oldest), (4, r.queue.length), (7, s.hours)] sub
  | 0xC001 => pick [(1, x.recArea), (2, x.recCursor), (3, x.recOffset), (6, r.readStatus x.recArea x.recCursor)] sub
  | _ => none

/-- The persistent values of the objects 0x3000 to 0x9FFF, packed in ascending index and subindex (R472). -/
def State.configBytes (s : State) : List Byte :=
  objectTable.flatMap (fun r => if 0x3000 ≤ r.base ∧ r.base < 0xA000 then
    (List.range r.count).flatMap (fun i => r.entries.flatMap (fun e => if e.persistent then
      (List.range e.n).flatMap (fun k => if e.isBytes then s.blob (r.base + i) (e.sub + k)
        else e.type.write (s.reg (r.base + i) (e.sub + k)))
      else []))
    else [])

/-- CONFIG_DIGEST (R472). -/
def State.configDigest (s : State) : Nat := crc32 s.configBytes

/-- 0xD000 to 0xDFFF. -/
def State.readTwin (s : State) (index sub : Nat) : Option Int :=
  let t := s.twin
  if index = 0xD001 then
    if sub = 9 then some s.configDigest
    else pick [(1, t.role.code), (2, if t.role = .cold then t.coldCause else 0), (3, one t.linkLock), (4, t.version), (5, t.partnerSerial),
      (6, t.linkDelay), (7, t.epoch), (8, t.pairOffset)] sub
  else none

/-! ### Any value -/

/-- The value of a numeric subindex as a path reads it. -/
def State.numberAt (s : State) (p : Path) (index sub : Nat) : Int :=
  let own := match index / 4096 with
    | 1 => s.readComm p index sub
    | 2 => s.readDevice p index sub
    | 3 => s.readJob index sub
    | 4 => s.readScan index sub
    | 5 => s.readScan index sub
    | 6 => s.readSieve index sub
    | 7 => s.readControl index sub
    | 8 => s.readLink index sub
    | 9 => s.readMotion index sub
    | 10 => s.readMemory index sub
    | 11 => s.readImages index sub
    | 12 => s.readRecorder p index sub
    | 13 => s.readTwin index sub
    | _ => none
  own.getD (s.reg index sub)

/-- The name of the device (R417). -/
def deviceName : List Byte := "ZH-3256".toList.map (fun c => byteOf c.toNat)

/-- The value of a STR or DOMAIN subindex as a path reads it, without a read's side effects. -/
def State.bytesAt (s : State) (p : Path) (index sub : Nat) : List Byte :=
  if index = 0x1000 then deviceName
  else if 0x2100 ≤ index ∧ index < 0x2500 then (if sub = 5 then s.takeBytes index else s.countBytes index)
  else if index = 0x3001 then (((newestVersion s.job.params (s.regN 0x3001 1)).map (fun v => v.words.flatMap (leBytes 4))).getD [])
  else if index = 0x6001 then s.logBlock.flatten
  else if 0x6220 ≤ index ∧ index < 0x6240 then
    let c := (s.head (index - 0x6220)).camera
    if sub = 15 then c.powers.flatMap (leBytes 2) else c.lastRecord
  else if 0x8040 ≤ index ∧ index < 0x8060 then (s.head (index - 0x8040)).link.ident.flatMap (leBytes 4)
  else if 0x9090 ≤ index ∧ index < 0x9094 then s.probeBytes (index - 0x9090)
  else if index = 0xB010 then s.images.block
  else if index = 0xC001 then s.recorder.window (s.on p)
  else s.blob index sub

/-- The bytes of an entry's subindex. -/
def State.valueBytes (s : State) (p : Path) (e : ObjEntry) (index sub : Nat) : List Byte :=
  if e.isBytes then s.bytesAt p index sub
  else if sub = 0 then e.type.write e.default
  else e.type.write (s.numberAt p index sub)

/-- Subindices whose own read has a side effect (R403). -/
def readActs (index sub : Nat) : Bool :=
  (index == 0x1020 && sub == 1) || (index == 0x6001 && sub == 2) || (decide (0x9090 ≤ index) && decide (index < 0x9094) && sub == 3)
    || (decide (0x2100 ≤ index) && decide (index < 0x2500) && sub == 5)

/-- What a subindex contributes to a packed read (R403). -/
def State.packedPart (s : State) (p : Path) (e : ObjEntry) (index sub : Nat) : List Byte :=
  if e.access = .wo ∨ readActs index sub then (if e.isBytes then leBytes 4 0 else List.replicate e.type.bytes 0)
  else if e.isBytes then packedBytes (s.bytesAt p index sub)
  else s.valueBytes p e index sub

/-- A read of subindex 0xFF (R403). -/
def State.packed (s : State) (p : Path) (index : Nat) : List Byte :=
  match objRow index with
  | some r => (List.range r.highest).flatMap (fun k => match r.entry (k + 1) with
    | some e => s.packedPart p e index (k + 1)
    | none => [])
  | none => []

/-- The size that a type definition object reads (R400). -/
def typeSize (code : Nat) : Nat := ([0, 1, 1, 2, 4, 8, 2, 4, 8, 0, 0] : List Nat).getD code 0

/-- The bytes of a read that the gate admits: a type object, the vendor range, a packed read or one subindex. -/
def State.readBytes (s : State) (p : Path) (index sub : Nat) : List Byte :=
  if index ≤ 10 then leBytes 4 (typeSize index)
  else if 0xF000 ≤ index then leBytes 4 0
  else if sub = 0xFF then s.packed p index
  else match entryOf index sub with
    | some e => s.valueBytes p e index sub
    | none => []

end Sys2Proof.Machine
end

