-- ==== Sys2Proof/Machine/Exposure.lean ====
section
/-!
DEFINITION. The commands of the exposure sequencer (R63, R66, R69, R79, R81, R102, R121, R173, R185, R460).
-/
namespace Sys2Proof.Machine

/-- The segment in reception order that an ID names among those not finished. -/
def State.segById (s : State) (id : Nat) : Option Segment := s.job.segments.find? (fun g => g.id == id && g.unfinished)

/-! ### Staging (R79) -/

/-- The bytes of a head's list that staging asks for: 8 KiB, or the whole list when it is shorter. -/
def Segment.stagingBytes (g : Segment) (h : HeadNo) : Nat := min 8192 (((g.listOf h).map Item.bytes).sum)

/-- The segment staged: the event says that every item buffer holds the start of its list. -/
def State.stage (s : State) (g : Segment) : State :=
  let t := s.onSeg g.key (fun y => { y with
    state := .staged, heads := y.heads.map (fun p => { p with fetched := p.fetched.raise (g.stagingBytes p.head) }) })
  t.progress g 1 0 0 0

/-- SEGMENT_STAGED (R79). -/
def execSegmentStaged (id : Nat) (s : State) : Host.Outcome State Fault Refusal :=
  .next (match s.segById id with
    | some g => if g.state = .admitted then s.stage g else s
    | none => s)

/-! ### A head starts (R81) -/

/-- The head starts its part; the first head takes the segment to RUNNING (R79, R81, R108). -/
def State.startPart (s : State) (h : HeadNo) (g : Segment) : State :=
  let t := (s.onSeg g.key (fun y => { y.onPart h (fun p => { p with part := .running }) with
    state := .running })).onPath h (fun x => { x with seg := some g.key, hold := .idle })
  t.progress g 2 h 0 0

/-- A head starts: where its data is known to be lost it abandons its list at once (R547). -/
def State.headStart (s : State) (h : HeadNo) (g : Segment) : State :=
  let t := s.startPart h g
  match (g.part? h).bind (fun p => p.failed) with
  | some detail => t.abandonList g.key h detail
  | none => (t.goOn h).evaluate g.key

/-- HEAD_START (R81). -/
def execHeadStart (h id : Nat) (s : State) : Host.Outcome State Fault Refusal :=
  .next (match s.segById id with
    | some g => if s.mayStart h g then s.headStart h g else s
    | none => s)

/-! ### Items (R102, R121) -/

/-- The slack of the segment a head was in, evaluated at its item boundary (R102). -/
def State.evaluateAt (s : State) (seg : Option Nat) : State :=
  match seg with
  | some key => s.evaluate key
  | none => s

/-- ITEM_COMPLETE (R121): the item ends when its motion has ended. -/
def execItemComplete (h : Nat) (s : State) : Host.Outcome State Fault Refusal :=
  .next (if s.seqRuns ∧ s.itemDone h (s.et * 65536) then (s.completeItem h).evaluateAt (s.head h).path.seg else s)

/-! ### Holds (R63, R69, R185) -/

/-- A barrier may release: its ET is reached, and every head of it has arrived or has left its list (R63, R98). -/
def State.barrierOpen (s : State) (g : Segment) (id : Nat) : Bool :=
  let heads := ((g.items.findSome? (fun i => i.body.barrierOf.bind (fun b => if b.1 = id then some b.2 else none)))).getD 0
  (bitList 32 heads).all (fun h => match g.part? h with
    | some p => (p.arrived.contains id || p.part == .abandoned || p.part == .finished) && decide ((storeGet id p.barriers).getD 0 ≤ s.et)
    | none => false)

/-- The heads that hold at a barrier of a segment. -/
def State.heldAt (s : State) (g : Segment) (id : Nat) : List HeadNo :=
  (g.heads.map (fun p => p.head)).filter (fun h => (s.head h).path.seg == some g.key && (s.head h).path.barrierHeld == some id)

/-- BARRIER_RELEASE (R63): every head held at the barrier goes on with its next item. -/
def execBarrierRelease (id barrier : Nat) (s : State) : Host.Outcome State Fault Refusal :=
  .next (match s.segById id with
    | some g => if s.barrierOpen g barrier then ((s.heldAt g barrier).foldl (fun t h => (t.holdFor h .idle).goOn h) s).evaluate g.key else s
    | none => s)

/-- The data of the head's next item is present: the event says so (R69). -/
def State.dataPresent (s : State) (h : HeadNo) : State :=
  match (s.head h).path.seg.bind s.seg? with
  | none => s
  | some g =>
    let c := s.cfg h
    let items := g.listOf h
    s.onSeg g.key (fun y => y.onPart h (fun p =>
      { p with fetched := p.fetched.raise (((items.take (p.next + 1)).map Item.bytes).sum)
               rows := p.rows.raise (((items.take (p.next + 1)).map (fun i => (c.passBytes i).sum)).sum) }))

/-- The item a head waits to begin, at full speed. -/
def State.beginHeld (s : State) (h : HeadNo) : State :=
  match (s.head h).path.seg.bind s.seg? with
  | none => s
  | some g =>
    match g.part? h with
    | none => s
    | some p =>
      match (g.listOf h)[p.next]? with
      | none => s
      | some it =>
        if s.itemsRun then (s.beginItem h g p.next 16 (s.freeFrom h) it).twinLead 0x04 [g.id, h, 1, it.index, s.et, 16]
        else s.holdFor h .pause

/-- DATA_WAIT_END (R69). -/
def execDataWaitEnd (h : Nat) (s : State) : Host.Outcome State Fault Refusal :=
  .next (if (s.head h).path.hold = .data ∧ (s.head h).path.run = none then
    ((s.dataPresent h).beginHeld h).evaluateAt (s.head h).path.seg else s)

/-- DRAIN_HOLD_END (R185): the head's item is judged afresh, and starts when some factor passes. -/
def execDrainHoldEnd (h : Nat) (s : State) : Host.Outcome State Fault Refusal :=
  .next (if (s.head h).path.hold = .drain ∧ (s.head h).path.run = none then (s.goOn h).evaluateAt (s.head h).path.seg else s)

/-- LINE_BUFFER_WRITE (R173). -/
def execLineBufferWrite (h b : Nat) (s : State) : Host.Outcome State Fault Refusal := .next (if s.seqRuns then s.writeEdge h b else s)

/-! ### The decisions of a PRIMARY (R460) -/

/-- A head that holds decides for the frame 2,500 ticks on whether its item can begin. -/
def State.orderHeld (s : State) (h : HeadNo) : State :=
  match (s.head h).path.seg.bind s.seg? with
  | none => s
  | some g =>
    match g.part? h with
    | none => s
    | some p =>
      match (g.listOf h)[p.next]? with
      | none => s
      | some it => if it.body.marks then s.orderFactor h g p.next it ((s.head h).path.posAt ((s.et + 2500) * 65536)) (s.et + 2500) else s

/-- PLAN_DECISION (R460): the PRIMARY decides for the boundaries of the next 2,500 ticks and tells its partner. -/
def execPlanDecision (h : Nat) (s : State) : Host.Outcome State Fault Refusal :=
  .next (if s.twin.role = .primary then
    if (s.head h).path.coming.isEmpty ∧ (s.head h).path.hold = .drain then s.orderHeld h
    else (s.planAhead h (s.et + 2500)).decideEntries
    else s)

end Sys2Proof.Machine
end

