-- ==== Sys2Proof/Machine/Requests.lean ====
section
/-!
DEFINITION. State requests, the pause, the watchdog (R15 to R31, R714).
-/
namespace Sys2Proof.Machine

/-- The states from which R19 lists a request: 1 ARM, 2 RUN, 3 PAUSE, 4 RESUME, 5 STOP, 6 DISARM, 7 CLEAR, 8 RESTART. DESIGN
CHOICE (log entry 90): R19 lists RESTART for BOOT held with cause 0x0010 to 0x0012 and does not say whether it is listed
while a trip that came upon such a hold lasts (cause 0x0030); it is not. -/
def State.requestListed (s : State) (code : Nat) : Bool :=
  let d := s.dev
  match code with
  | 1 => d.state == .standby
  | 2 => d.state == .armed
  | 3 => d.state == .exposing && !d.pausePending
  | 4 => d.state == .paused
  | 5 => d.state == .exposing || d.state == .paused
  | 6 => d.state == .armed
  | 7 => d.state == .fault
  | 8 => d.state == .restricted || d.state == .standby || d.state == .fault
      || (d.state == .boot && decide (0x10 ≤ d.cause) && decide (d.cause ≤ 0x12))
  | _ => false

/-- The first condition that is not met, as the STATE_CAUSE it leaves; none when all are met (R19, R20, R714). -/
def State.unmet (s : State) (code : Nat) : Option Nat :=
  match code with
  | 1 => if s.power.inhibit then some 0x44 else if s.operating = [] then some 0x43 else none
  | 4 => if s.power.inhibit then some 0x46
      else if s.thermal.tripped || [0x31, 0x32, 0x33].any s.present then some 0x45 else none
  | 7 => if s.present s.dev.cause then some s.dev.cause else none
  | _ => none

/-- REQUEST_RESULT of a request, and the STATE_CAUSE that a condition not met leaves (R29, R714). -/
def State.judgeRequest (s : State) (p : Path) (alone : Bool) (code : Nat) : Nat × Option Nat :=
  if s.dev.autoThisCycle then (0x04, none)
  else if s.requestListed code = false then (0x01, none)
  else if code = 8 ∧ (s.on p).level ≠ .service then (0x03, none)
  else if (s.twin.role = .shadow ∧ alone) ∨ (s.twin.role = .cold ∧ code = 1) then (0x05, none)
  else match s.unmet code with
    | some c => (0x02, some c)
    | none => (0x00, none)

/-- No head has an item in progress, or one planned ahead that an assembled frame reaches. -/
def State.allHold (s : State) : Bool := s.heads.all (fun x => x.path.run.isNone && x.path.aheadBegun.isEmpty)

/-- A head that waits for its entry check at the boundary itself, before any motion of its item (R225). -/
def ItemRun.atBoundary (r : ItemRun) : Bool :=
  match r.stretches with
  | st :: _ => !st.passed && (st.waited || st.keepoutCounted) && r.pieces.all (fun p => decide (st.entry ≤ p.start))
  | [] => false

/-- Such a head takes the pause there and gives up its place; its item begins afresh after RESUME (R225). -/
def State.giveUpPlace (s : State) (h : HeadNo) : State :=
  match (s.head h).path.run with
  | some r =>
    if r.atBoundary then
      (s.onSeg r.seg (fun g => g.onPart h (fun p => { p with next := p.next - 1 }))).onPath h (fun x =>
        { x with run := none, ahead := [], endedAt := s.et * 65536, items := x.items.drop 1 })
    else s
  | none => s

/-- Heads between items hold for the pause; other holds stay what they are. -/
def State.pauseIdle (s : State) : State :=
  { s with heads := s.heads.map (fun x => { x with path := { x.path with hold := if x.path.run.isNone ∧ x.path.seg.isSome
    ∧ x.path.hold = .idle then .pause else x.path.hold } }) }

/-- Items planned ahead that no assembled frame reaches begin afresh after RESUME. -/
def State.leaveAhead (s : State) : State := { s with heads := s.heads.map (fun x => { x with path := x.path.dropAhead }) }

/-- A pause accepted (R24): heads without an item under way hold at once; the state follows when the last head holds. -/
def State.pause (s : State) : State :=
  let t := (((List.range 32).foldl State.giveUpPlace { s with dev := { s.dev with pausePending := true } }).leaveAhead).pauseIdle
  if t.allHold then t.requested .paused else t

/-- Heads held by a pause continue with their next item (R24). -/
def State.resumeHeads (s : State) : State :=
  (List.range 32).foldl (fun t h => if (t.head h).path.hold = .pause ∧ (t.head h).path.run = none then
    (t.holdFor h .idle).goOn h else t) s

/-- STOP (R24): every unfinished segment is cancelled and booked. -/
def State.stopAll (s : State) : State := ((s.requested .armed).cancelAll 0x0B 0).flushHeads

/-- What an accepted request does (R19, R24, R287, R605). -/
def State.carryOut (s : State) (code : Nat) : State :=
  match code with
  | 1 => (s.requested .armed).captureAll
  | 2 => s.requested .exposing
  | 3 => s.pause
  | 4 => (s.requested .exposing).resumeHeads
  | 5 => s.stopAll
  | 6 => s.requested .standby
  | 7 => s.requested .standby
  | 8 => s.restarted
  | _ => s

/-- REQUEST_RESULT written, with its leaf when it is not 0x00 (R638). -/
def State.withResult (s : State) (result : Nat) : State :=
  let t := { s with dev := { s.dev with result := result } }
  if result = 0 then t else t.setLeaf 0x2100 2

/-- Ticks from the acceptance of a request to the ET at which a pair carries it out. DESIGN CHOICE (log entry 106): the manual has the
PRIMARY send that ET and does not say how far ahead it lies; the model takes the 4 µs of R460. -/
def stateLead : Nat := 2500

/-- The controller leads a partner that is SHADOW. -/
def State.hasShadow (s : State) : Bool := s.twin.leads && s.twin.partnerRole == .shadow

/-- A request judged and carried out. A PRIMARY with a SHADOW sets an ET at which both carry it out; a SHADOW waits for it (R31). -/
def State.request (s : State) (p : Path) (alone : Bool) (code : Nat) : State :=
  let r := s.judgeRequest p alone code
  let t := s.withResult r.1
  if r.1 ≠ 0 then
    match r.2 with
    | some c => { t with dev := { t.dev with cause := c } }
    | none => t
  else if s.twin.role = .shadow then t
  else if s.hasShadow then
    ({ t with twin := { t.twin with orders := t.twin.orders ++ [TwinOrder.state code 0 (s.et + stateLead)] } }).twinLead 0x06
      [code, 0, ((s.et + stateLead : Nat) : Int)]
  else t.carryOut code

/-- A request written to STATE_REQUEST by a path: the gate, then the judgement (R15, R714). -/
def State.writeRequest (s : State) (p : Path) (alone : Bool) (code : Nat) : State :=
  s.access p (orElse (s.writeGate p 0x2001 2) (refuseIf (decide (8 < code)) .range))
    (if code = 0 then s else s.request p alone code) []

/-- ARM (R19, R287). -/
def execArm (path : Path) (alone : Bool) (s : State) : Host.Outcome State Fault Refusal :=
  .next (s.inTurnOf path (.arm path alone) (s.writeRequest path alone 1))

/-- RUN (R19, R24). -/
def execRun (path : Path) (alone : Bool) (s : State) : Host.Outcome State Fault Refusal :=
  .next (s.inTurnOf path (.run path alone) (s.writeRequest path alone 2))

/-- PAUSE (R19, R24). -/
def execPause (path : Path) (alone : Bool) (s : State) : Host.Outcome State Fault Refusal :=
  .next (s.inTurnOf path (.pause path alone) (s.writeRequest path alone 3))

/-- RESUME (R19, R24). -/
def execResume (path : Path) (alone : Bool) (s : State) : Host.Outcome State Fault Refusal :=
  .next (s.inTurnOf path (.resume path alone) (s.writeRequest path alone 4))

/-- STOP (R19, R24). -/
def execStop (path : Path) (alone : Bool) (s : State) : Host.Outcome State Fault Refusal :=
  .next (s.inTurnOf path (.stop path alone) (s.writeRequest path alone 5))

/-- DISARM (R19). -/
def execDisarm (path : Path) (alone : Bool) (s : State) : Host.Outcome State Fault Refusal :=
  .next (s.inTurnOf path (.disarm path alone) (s.writeRequest path alone 6))

/-- CLEAR (R19, R20). -/
def execClear (path : Path) (alone : Bool) (s : State) : Host.Outcome State Fault Refusal :=
  .next (s.inTurnOf path (.clear path alone) (s.writeRequest path alone 7))

/-- RESTART (R19, R605). -/
def execRestart (path : Path) (alone : Bool) (s : State) : Host.Outcome State Fault Refusal :=
  .next (s.inTurnOf path (.restart path alone) (s.writeRequest path alone 8))

/-- REQUEST_NONE (R714): accepted, and nothing happens. -/
def execRequestNone (path : Path) (alone : Bool) (s : State) : Host.Outcome State Fault Refusal :=
  .next (s.inTurnOf path (.requestNone path alone) (s.writeRequest path alone 0))

/-- STATE_REQUEST_INVALID_CODE (R714): a code from 0x09 aborts and changes nothing; a lower code is judged as it is. -/
def execStateRequestInvalid (path : Path) (code : Nat) (s : State) : Host.Outcome State Fault Refusal :=
  .next (s.inTurnOf path (.stateRequestInvalid path code) (s.writeRequest path true code))

/-- PAUSE_HOLD_REACHED (R24): the last head holds at its item boundary. -/
def execPauseHoldReached (s : State) : Host.Outcome State Fault Refusal :=
  .next (if s.dev.state = .exposing ∧ s.dev.pausePending ∧ s.allHold then s.requested .paused else s)

/-- WATCHDOG_EXPIRY (R20): the cores restart at once; cause 0x0033. -/
def execWatchdogExpiry (s : State) : Host.Outcome State Fault Refusal :=
  .next (s.inTurn (.watchdogExpiry) (if s.dev.state = .off ∨ s.dev.state = .aux then s
    else ({ s with dev := { s.dev with coresDown := true } }).faultCause 0x33))

/-- FIRMWARE_RESTART_COMPLETE (R20): the cause is no longer present; what the front end held joins the queue (R654). -/
def execFirmwareRestartComplete (s : State) : Host.Outcome State Fault Refusal :=
  .next (if s.dev.coresDown then
      ({ s with dev := { s.dev with coresDown := false } } : State).enqueueAll s.recorder.front
    else s)

end Sys2Proof.Machine
end

