-- ==== Sys2Proof/Machine/Orders.lean ====
section
/-!
DEFINITION. What a SHADOW does with the PRIMARY's orders for a later moment, and the numbering of twin messages (R31, R457,
R460, R461).
-/
namespace Sys2Proof.Machine

/-! ### State transitions of the PRIMARY (R31, R461, R470) -/

/-- The transition that a STATE order asks for: a request, where R19 lists it for the present state, or the inhibit's. A PRIMARY whose
request can no longer be carried out answers 0x04 (R29, DEDUCED). -/
def State.obey (s : State) (request cause : Nat) : State :=
  if request ≠ 0 then
    (if s.requestListed request then s.carryOut request else if s.twin.role = .primary then s.withResult 0x04 else s)
  else if cause = 0x0040 then s.inhibitMove
  else s

/-- A STATE order whose moment has come. -/
def TwinOrder.due (et : Tick) : TwinOrder → Option (Nat × Nat)
  | .plan _ _ _ _ _ _ => none
  | .state request cause at_ => if at_ ≤ et then some (request, cause) else none

/-- The STATE orders whose moment has come are carried out, in the order they came: at the PRIMARY and at the SHADOW at the same ET. -/
def State.dueOrders (s : State) : State :=
  (s.twin.orders.filterMap (fun o => o.due s.et)).foldl (fun (t : State) o => t.obey o.1 o.2)
    { s with twin := { s.twin with orders := s.twin.orders.filter (fun o => (o.due s.et).isNone) } }

/-! ### Plans of the PRIMARY at their APPLY_ET (R460, R462) -/

/-- A factor ordered for an item whose moment has come: segment, head, item and APPLY_ET. -/
def TwinOrder.factorDue (et : Tick) : TwinOrder → Option (Nat × HeadNo × Nat × Tick)
  | .plan seg h kind item at_ _ => if kind = 1 ∧ at_ ≤ et then some (seg, h, item, at_) else none
  | .state _ _ _ => none

/-- A head that waits for the order of its next marking item. -/
def State.awaitsFactor (s : State) (h : HeadNo) (seg item : Nat) : Bool :=
  let x := (s.head h).path
  x.hold == .drain && x.run.isNone && match x.seg.bind s.seg? with
    | some g => g.id == seg && ((g.part? h).bind (fun p => (g.listOf h)[p.next]?)).any (fun it => it.index == item)
    | none => false

/-- A head goes on from an ET that has come. -/
def State.goOnFrom (s : State) (h : HeadNo) (et : Tick) : State :=
  match (s.head h).path.seg.bind s.seg? with
  | some g => s.advance h (max (et * 65536) (s.head h).path.endedAt) ((g.listOf h).length + 1)
  | none => s

/-- A factor order applied by a SHADOW at its APPLY_ET: a segment that is not staged there makes it COLD (R462); a head that waits for
the order begins its item. -/
def State.applyFactor (s : State) (o : Nat × HeadNo × Nat × Tick) : State :=
  if s.twin.role ≠ .shadow then s
  else if s.job.segments.any (fun g => g.id == o.1 && g.state == .admitted) then s.goCold 0x0D
  else if s.awaitsFactor o.2.1 o.1 o.2.2.1 then (s.holdFor o.2.1 .idle).goOnFrom o.2.1 o.2.2.2
  else s

/-- Every factor order whose moment has come. -/
def State.dueFactors (s : State) : State := (s.twin.orders.filterMap (fun o => o.factorDue s.et)).foldl State.applyFactor s

/-- A SHADOW applies the entry orders whose boundaries have passed without it. -/
def State.dueEntries (s : State) : State := if s.twin.role = .shadow ∧ 0 < s.et then s.entryChecks (s.et - 1) else s

/-! ### Numbered messages (R457) -/

/-- The next number expected after numbers received beyond a gap are taken up. -/
def nextNumber : Nat → Nat → List Nat → Nat × List Nat
  | 0, n, l => (n, l)
  | k + 1, n, l => if l.contains n then nextNumber k ((n + 1) % 2 ^ 32) (l.erase n) else (n, l)

/-- A number has not been received yet. -/
def Twin.awaits (t : Twin) (seq : Nat) : Bool := !seqBelow seq t.rxNext && !t.beyond.contains seq

/-- The twin unit after a number has been received. -/
def Twin.counted (t : Twin) (seq : Nat) : Twin :=
  let n := nextNumber (t.beyond.length + 1) t.rxNext (t.beyond ++ [seq])
  { t with rxNext := n.1, beyond := n.2, askedTo := if seqBelow t.askedTo ((seq + 1) % 2 ^ 32) then (seq + 1) % 2 ^ 32 else t.askedTo }

/-- Numbers put in order of their distance ahead of one. -/
def insertAhead (a n : Nat) : List Nat → List Nat
  | [] => [n]
  | m :: rest => if seqAhead a n ≤ seqAhead a m then n :: m :: rest else m :: insertAhead a n rest

/-- The gaps between numbers received, from one on up to another: the first missing number of each, and their count. -/
def gapsFrom : (a : Nat) → List Nat → (upTo : Nat) → List (Nat × Nat)
  | a, [], upTo => if a = upTo then [] else [(a, seqAhead a upTo)]
  | a, n :: rest, upTo => (if a = n then [] else [(a, seqAhead a n)]) ++ gapsFrom ((n + 1) % 2 ^ 32) rest upTo

/-- The gaps below a number that have not been asked for yet (R457). -/
def Twin.gaps (t : Twin) (upTo : Nat) : List (Nat × Nat) :=
  let a := if seqBelow t.rxNext t.askedTo then t.askedTo else t.rxNext
  if seqBelow a upTo then
    gapsFrom a ((t.beyond.filter (fun n => !seqBelow n a && seqBelow n upTo)).foldl (fun l n => insertAhead a n l) []) upTo
  else []

/-- A REPEAT for each gap below a number (R457). -/
def State.askRepeat (s : State) (upTo : Nat) : State :=
  let gaps := s.twin.gaps upTo
  if gaps.isEmpty then s
  else gaps.foldl (fun t g => t.twinSend 0x0D [(g.1 : Int), g.2]) { s with twin := { s.twin with askedTo := upTo } }

/-- A numbered message taken in: a gap before it is asked for, and one that was asked for is counted in REPEATS. None for a
duplicate, or where no partner is (R456). -/
def State.takeNumber (s : State) (seq : Nat) : Option State :=
  if s.paired = false ∨ s.twin.linkLock = false ∨ s.twin.awaits seq = false then none
  else
    let asked := seqBelow seq s.twin.askedTo
    let t := if asked then s.bump 0xD001 13 else if seq = s.twin.rxNext then s else s.askRepeat seq
    some { t with twin := t.twin.counted seq }

/-- The effect of a numbered message. -/
def State.numbered (s : State) (seq : Nat) (f : State → State) : State :=
  match s.takeNumber seq with
  | some t => f t
  | none => s

/-- The effect of a message that only a SHADOW acts on. -/
def State.shadowing (s : State) (seq : Nat) (f : State → State) : State :=
  s.numbered seq (fun t => if t.twin.role = .shadow then f t else t)

end Sys2Proof.Machine
end

