-- ==== Sys2Proof/Machine/HeadLink.lean ====
section
/-!
DEFINITION. The head-link commands that are not frames: ENABLE, the training timers, the loss of lock, and the photodiode
sample rate that the count of enabled links decides (R284, R339, R357, R360, R366).
-/
namespace Sys2Proof.Machine

/-! ### ENABLE (R357, R360, R366) -/

/-- The refusal of a write to ENABLE. -/
def State.linkEnableRefusal (s : State) (p : Path) (h value : Nat) : Option Abort :=
  orElse (refuseIf (decide (32 ≤ h)) .noObject)
    (orElse (s.writeGate p (0x8020 + h) 1) (numberTest (0x8020 + h) 1 (leBytes 1 value)))

/-- ENABLE written: 0 disables the link, 1 begins training where the device state lets links train. -/
def State.writeLinkEnable (s : State) (h value : Nat) : State :=
  let t := (s.setReg (0x8020 + h) 1 (value % 2 : Nat)).judgeRate
  let u := if value % 2 = 0 then t.linkTo h .disabled 0x09
    else if (t.head h).link.state = .disabled ∧ t.linksTrain then t.linkTo h .acquire 0x09
    else t
  u.mirror (0x8020 + h) 1 (leBytes 1 value)

/-- HEAD_LINK_ENABLE_WRITE (R366, R357). -/
def execHeadLinkEnableWrite (path : Path) (h value : Nat) (s : State) : Host.Outcome State Fault Refusal :=
  .next (s.inTurnOf path (.headLinkEnableWrite path h value) (s.access path (s.linkEnableRefusal path h value) (s.writeLinkEnable h value) []))

/-! ### Training (R357, R360) -/

/-- A link is training. -/
def LinkState.training : LinkState → Bool
  | .acquire => true
  | .align => true
  | .negotiate => true
  | _ => false

/-- HEAD_LINK_TRAINING_TIMEOUT (R357): 20 ms have passed in one training state. -/
def execHeadLinkTrainingTimeout (h : Nat) (s : State) : Host.Outcome State Fault Refusal :=
  .next (if (s.head h).link.state.training then s.linkFailed h 1 else s)

/-- RETRAIN_HOLDOFF_EXPIRY (R357): a FAILED link with AUTO_RETRAIN trains again. -/
def execRetrainHoldoffExpiry (h : Nat) (s : State) : Host.Outcome State Fault Refusal :=
  .next (if (s.head h).link.state = .failed ∧ s.reg (0x8020 + h) 2 = 1 ∧ s.linkEnabled h ∧ s.linksTrain then
    s.linkTo h .acquire 0x09 else s)

/-- UPLINK_LOCK_LOSS (R360): a link in OPERATION returns to ACQUIRE; a training link counts its valid frames afresh. -/
def execUplinkLockLoss (h : Nat) (s : State) : Host.Outcome State Fault Refusal :=
  .next (if (s.head h).link.state = .operation then s.linkTo h .acquire 0x09
    else s.onLink h (fun l => { l with good := 0, arrivals := [] }))

end Sys2Proof.Machine
end

