-- ==== Sys2Proof/Machine/Interrupt.lean ====
section
/-!
DEFINITION. The interrupt tree's commands: the clear by CAUSE and the read of TAKE (R641 to R644).
-/
namespace Sys2Proof.Machine

/-- Clears the leaf bits of a register that a written value names (R641). -/
def State.clearCauses (s : State) (reg value : Nat) : State :=
  { s with leaves := leavesCleared s.leaves reg value }

/-- Clears what a TAKE by a path takes (R642, R644). -/
def State.takeCauses (s : State) (p : Path) (reg : Nat) : State :=
  { s with leaves := leavesTaken s.leaves reg ((s.on p).takeMask reg) }

/-- CAUSE: a write to :01 of a cause register (R641). -/
def execCause (path : Path) (reg value : Nat) (s : State) : Host.Outcome State Fault Refusal :=
  .next (s.inTurnOf path (.cause path reg value) (s.access path (orElse (s.writeGate path reg 1) (numberTest reg 1 (leBytes 4 value)))
    (s.clearCauses reg value) []))

/-- TAKE: a read of :05 of a cause register (R642). -/
def execTake (path : Path) (reg : Nat) (s : State) : Host.Outcome State Fault Refusal :=
  .next (s.inTurnOf path (.take path reg) (s.access path (s.readGate reg 5) (s.takeCauses path reg) (s.takeBytes reg)))

end Sys2Proof.Machine
end

