-- ==== Sys2Proof/Machine/Recoating.lean ====
section
/-!
DEFINITION. The recoat program's start and the manual report (R511, R512, R515).
-/
namespace Sys2Proof.Machine

/-- RECOAT_STATE admits a new start or report (R512, R515). -/
def State.recoatFree (s : State) : Bool := s.motion.recoat.state == .idle || s.motion.recoat.state == .failed

/-- The conditions of R512. -/
def State.recoatAllowed (s : State) (layer : Nat) : Bool :=
  let steps := recoatSteps (s.blob 0x9080 1)
  s.recoatFree && decide (s.motion.recoat.reported ≤ layer) && !steps.isEmpty
    && steps.all (fun x => (s.axis x.axis).homed && (s.axis x.axis).state != .disabled && (s.axis x.axis).state != .faulted)
    && !s.job.segments.any (fun g => g.state == .running)

/-- The program starts: no report is in force until the next (R512). -/
def State.startRecoat (s : State) (layer : Nat) : State :=
  ({ s with motion := { s.motion with recoat := { s.motion.recoat with state := .before, layer := layer, step := 0, valid := false } } }).startRecoatStep 0

/-- RECOAT_START (R512). -/
def execRecoatStart (path : Path) (layer : Nat) (s : State) : Host.Outcome State Fault Refusal :=
  .next (s.inTurnOf path (.recoatStart path layer) (s.access path (orElse (s.writeGate path 0x9080 2) (orElse (numberTest 0x9080 2 (leBytes 4 layer))
      (refuseIf (!s.recoatAllowed layer) .conditions)))
    (s.startRecoat layer) []))

/-- MANUAL_REPORT (R515). -/
def execManualReport (path : Path) (layer : Nat) (s : State) : Host.Outcome State Fault Refusal :=
  .next (s.inTurnOf path (.manualReport path layer) (s.access path (orElse (s.writeGate path 0x9080 3) (orElse (numberTest 0x9080 3 (leBytes 4 layer))
      (refuseIf (!(s.recoatFree && decide (s.motion.recoat.reported ≤ layer))) .conditions)))
    (s.reportRecoat layer) []))

end Sys2Proof.Machine
end

