-- ==== Sys2Proof/Machine/Writing.lean ====
section
/-!
DEFINITION. A write to any object of the dictionary: the objects with a behaviour of their own are given to that
behaviour's command, and every other value is stored under its access class and its range (R402, R7, R408 and the object
tables of every chapter).
-/
namespace Sys2Proof.Machine

/-- A command carried out as part of another: it belongs to the same moment and gives way to nothing. -/
def nextState (s : State) (f : State → Host.Outcome State Fault Refusal) : State :=
  match f { s with pending := [], deferred := [] } with
  | .next t => { t with pending := s.pending, deferred := s.deferred }
  | _ => s

/-! ### Values without a behaviour of their own -/

/-- The form of a recoat program (R511, R7). -/
def programOk (bs : List Byte) : Bool :=
  decide (bs.length ≤ 256) && bs.length % 16 == 0 && (chunks 16 bs).all (fun x =>
    decide (leAt x 0 1 < 8) && decide (leAt x 1 1 < 4) && leAt x 2 2 == 0 && leAt x 12 4 == 0)

/-- The form of FLICKER_BINS (R282, R7). -/
def binsOk (bs : List Byte) : Bool :=
  bs.isEmpty || (bs.length == 64 && (chunks 8 bs).all (fun x =>
    decide (1 ≤ leAt x 4 2) && decide (leAt x 4 2 ≤ 256) && leAt x 6 2 == 0))

/-- A MONITOR object (R282). -/
def isMonitor (index : Nat) : Bool := decide (0x6200 ≤ index) && decide (index < 0x6220)

/-- An axis configuration object (R517). -/
def isAxisConfig (index : Nat) : Bool := decide (0x9000 ≤ index) && decide (index < 0x9008)

/-- Values that an object's own rule admits beside its range (R143, R282, R420, R488, R511). -/
def plainValue (index sub : Nat) (data : List Byte) : Bool :=
  let v := (numberOf index sub data).toNat
  if index = 0x1030 ∧ sub = 1 then v != 0x88F7
  else if index = 0x4120 ∧ sub = 3 then [1, 2, 4, 5, 10].contains v
  else if isAxisConfig index ∧ sub = 1 then [1, 2, 4, 8, 16, 32, 64, 128, 256].contains v
  else if index = 0x9080 ∧ sub = 1 then programOk data
  else if isMonitor index ∧ sub = 8 then binsOk data
  else true

/-- Conditions that hold a write back: a step list of a head with committed segments (R143), an axis that is not DISABLED
(R481), a move's operands at the controller that does not run the motion block (R486). -/
def State.plainHeld (s : State) (index sub : Nat) : Bool :=
  if 0x4220 ≤ index ∧ index < 0x4240 then s.headCommitted (index - 0x4220)
  else if isAxisConfig index then (s.axis (index - 0x9000)).state != .disabled
  else if 0x9020 ≤ index ∧ index < 0x9028 ∧ 2 ≤ sub then !s.runsMotion
  else false

/-- A value stored in its object. -/
def State.store (s : State) (index sub : Nat) (data : List Byte) : State :=
  match entryOf index sub with
  | some e => if e.isBytes then s.setBlob index sub data else s.setReg index sub (numberOf index sub data)
  | none => s

/-- A camera whose flicker window starts afresh (R264). -/
def Camera.newWindow (c : Camera) : Camera := { c with window := [], windowFrames := [], windowMarking := false, lastSeq := none }

/-- A stored value with what follows from it at once: archive tokens accrue at the old budget up to now (R274), the sample
rate is judged (R339), the refresh rate follows the case temperature (R542), a flicker window starts afresh (R264). -/
def State.plainEffect (s : State) (index sub : Nat) (data : List Byte) : State :=
  if index = 0x6000 ∧ sub = 2 then s.accrue.store index sub data
  else if index = 0x7000 ∧ sub = 1 then (s.store index sub data).judgeRate
  else if index = 0xA000 ∧ sub = 2 then s.caseSource (numberOf index sub data)
  else if index = 0x2010 ∧ sub = 1 then s.selectRoot (numberOf index sub data)
  else if index = 0xA000 ∧ sub = 5 then s.caseWritten (numberOf index sub data)
  else if isMonitor index then (s.store index sub data).onCamera (index - 0x6200) Camera.newWindow
  else s.store index sub data

/-- The refusal of a write to an object without a behaviour of its own (R408). -/
def State.plainRefusal (s : State) (p : Path) (index sub : Nat) (data : List Byte) : Option Abort :=
  orElse (s.writeGate p index sub) (orElse (numberTest index sub data)
    (orElse (refuseIf (!plainValue index sub data) .range) (refuseIf (s.plainHeld index sub) .conditions)))

/-- A write to an object without a behaviour of its own. -/
def State.plainWrite (s : State) (p : Path) (index sub : Nat) (data : List Byte) : State :=
  s.access p (s.plainRefusal p index sub data) ((s.plainEffect index sub data).mirror index sub data) []

/-! ### Values of a session (R420, R644, R648, R660) -/

/-- A session with a value of its own written: SUBSCRIBE, EVENT_MASK, AREA or a TAKE_MASK. -/
def Session.withOwn (x : Session) (index sub v : Nat) : Session :=
  if index = 0x1030 then { x with subscribe := v }
  else if index = 0x2050 then { x with eventMask := v }
  else if index = 0xC001 then { x with recArea := v }
  else if sub = 4 then x.withTakeMask index v
  else x

/-- A value held for each session. -/
def sessionValue (index sub : Nat) : Bool :=
  (index == 0x1030 && sub == 11) || (index == 0x2050 && sub == 4) || (index == 0xC001 && sub == 1)
    || (decide (0x2100 ≤ index) && decide (index < 0x2500) && sub == 4)

/-- A write to a value held for each session. -/
def State.ownValue (s : State) (p : Path) (index sub : Nat) (data : List Byte) : State :=
  s.access p (orElse (s.writeGate p index sub) (numberTest index sub data))
    (s.setSession (pathNumber p) ((s.on p).withOwn index sub (numberOf index sub data).toNat)) []

/-! ### Objects with a behaviour of their own -/

/-- A write whose command acts on the value 1 only: any other value is accepted and does nothing. -/
def State.onOne (s : State) (p : Path) (v : Nat) (f : State → Host.Outcome State Fault Refusal) : State :=
  if v = 1 then nextState s f else s.answer p 0 []

/-- 0x1000 to 0x1FFF. -/
def State.writeComm (s : State) (p : Path) (index sub v : Nat) (data : List Byte) : Option State :=
  match index, sub with
  | 0x1010, 1 => some (nextState s (execStore p v))
  | 0x1010, 2 => some (nextState s (execRestoreDefaults p v))
  | 0x1020, 2 => some (nextState s (execResponse p data))
  | 0x1020, 3 => some (s.onOne p v (execDrop p))
  | 0x1030, 10 => some (nextState s (execBypassEnableWrite p v))
  | _, _ => none

/-- 0x2000 to 0x2FFF. -/
def State.writeDevice (s : State) (p : Path) (alone : Bool) (index sub v : Nat) (data : List Byte) : Option State :=
  match index, sub with
  | 0x2001, 2 => some (s.writeRequest p alone v)
  | 0x2012, 5 => some (nextState s (execStartMeasurement p v))
  | 0x2021, 1 => some (nextState s (execEtIn p v))
  | 0x2021, 5 => some (nextState s (execNtInNanoseconds p v))
  | 0x2022, 4 => some (nextState s (execStepNow p v))
  | _, _ =>
    if 0x2024 ≤ index ∧ index < 0x2028 then some (nextState s (execCalibrationUserWrite p index sub data))
    else if 0x2100 ≤ index ∧ sub = 1 then some (nextState s (execCause p index v))
    else none

/-- 0x3000 to 0x7FFF. -/
def State.writeJob (s : State) (p : Path) (index sub v : Nat) (data : List Byte) : Option State :=
  if stitchObject index sub then some (nextState s (execStitchTableWrite p index sub data))
  else if (quantityOf index).isSome then some (nextState s (execCalibrationUserWrite p index sub data))
  else if index = 0x3011 ∧ sub = 1 then some (nextState s (execCancelId p v))
  else if 0x6100 ≤ index ∧ index < 0x6120 ∧ sub = 17 then some (s.onOne p v (execCommit p (index - 0x6100)))
  else if index = 0x7000 ∧ sub = 6 then some (nextState s (execDarkCapture p v))
  else if 0x7010 ≤ index ∧ index < 0x7020 then some (nextState s (execLawWrite p (index - 0x7010) sub data))
  else if 0x7100 ≤ index ∧ index < 0x7120 then some (nextState s (execLoopEnable p (index - 0x7100) sub v))
  else none

/-- STOP_HOME (R519): 1 stops, 2 homes; any other value lies outside its form. -/
def State.stopHome (s : State) (p : Path) (m v : Nat) : State :=
  if v = 1 then nextState s (execStopAxis p m)
  else if v = 2 then nextState s (execHome p m)
  else s.answer p Abort.range.code []

/-- 0x8000 to 0x9FFF. -/
def State.writeMotion (s : State) (p : Path) (index sub v : Nat) (data : List Byte) : Option State :=
  let m := index - 0x9020
  if 0x8020 ≤ index ∧ index < 0x8040 ∧ sub = 1 then some (nextState s (execHeadLinkEnableWrite p (index - 0x8020) v))
  else if 0x9020 ≤ index ∧ index < 0x9028 ∧ sub = 1 then some (nextState s (execEnableAxis p m v))
  else if 0x9020 ≤ index ∧ index < 0x9028 ∧ sub = 5 then some (nextState s (execGo p m v))
  else if 0x9020 ≤ index ∧ index < 0x9028 ∧ sub = 6 then some (s.stopHome p m v)
  else if 0x9060 ≤ index ∧ index < 0x9068 ∧ sub = 6 then
    some (nextState s (execEncoderCount p (index - 0x9060) (numberOf index sub data)))
  else if index = 0x9080 ∧ sub = 2 then some (nextState s (execRecoatStart p v))
  else if index = 0x9080 ∧ sub = 3 then some (nextState s (execManualReport p v))
  else if 0x90A0 ≤ index ∧ index < 0x90A4 ∧ sub = 6 then some (nextState s (execArmCompare p (index - 0x90A0) v))
  else none

/-- 0xA000 to 0xCFFF. The flash takes an image that a transfer carries; a failure of the flash is the operand of the image
commands. -/
def State.writeImages (s : State) (p : Path) (index sub v : Nat) (data : List Byte) : Option State :=
  match index, sub with
  | 0xB001, 1 => some (nextState s (execSfImage p data true))
  | 0xB001, 2 => some (nextState s (execMcImage p data true))
  | 0xB001, 3 => some (nextState s (execTrial p v))
  | 0xB001, 4 => some (nextState s (execConfirm p v))
  | 0xB010, 2 => some (nextState s (execFactoryBlock p data))
  | 0xC001, 2 => some (nextState s (execCursor p v))
  | 0xC001, 5 => some (nextState s (execNextRecord p v))
  | 0xC002, 1 => some (nextState s (execClearTopsoil p v))
  | 0xC002, 2 => some (nextState s (execFlush p v))
  | 0xC002, 3 => some (nextState s (execHostRecord p data))
  | _, _ => none

/-! ### A write of the PRIMARY (R464) -/

/-- The effect of a write that the PRIMARY has accepted, at its partner. -/
def State.applyWrite (s : State) (index sub : Nat) (data : List Byte) : State :=
  let v := (numberOf index sub data).toNat
  if stitchObject index sub then s.writeStitch index sub data
  else if (quantityOf index).isSome then s.writeUser index data
  else if index = 0x3011 ∧ sub = 1 then s.cancelId v
  else if 0x6100 ≤ index ∧ index < 0x6120 ∧ sub = 17 then s.commit (index - 0x6100)
  else if index = 0x7000 ∧ sub = 6 then (if v = 1 then s.captureAll else s)
  else if 0x7010 ≤ index ∧ index < 0x7020 then (s.setBlob index 1 data).bump index 2
  else if 0x8020 ≤ index ∧ index < 0x8040 ∧ sub = 1 then s.writeLinkEnable (index - 0x8020) v
  else s.plainEffect index sub data

end Sys2Proof.Machine
end

