-- ==== Sys2Proof/Machine/Reckoner.lean ====
section
/-!
DEFINITION. The Reckoner's decisions in their order, alone and in a pair (R14, R60, R89, R91, R459, R464).
-/
namespace Sys2Proof.Machine

/-- The next segment to be decided (R60, R89). DESIGN CHOICE (log entry 91): where segments of a closed job session are still
SUBMITTED beside those of the next session, whose SEQ restarts (R392), the manual gives no order between them; the model
decides in the order of reception. -/
def State.nextSubmitted (s : State) : Option Segment := s.job.segments.find? (fun g => g.state == .submitted)

/-! ### Alone, or leading a pair -/

/-- A decision of a SOLO or PRIMARY controller; a PRIMARY tells its partner at the start and at the end of it (R456). -/
def State.leadDecision (s : State) (g : Segment) : State :=
  let j := s.judgeSegment g s.et s.dramLatency
  ((s.twinLead 0x02 [(g.seq : Int), s.et, s.dramLatency]).settleSegment g j).twinLead 0x03
    [(g.seq : Int), g.id, (outcomeOf j).1, (outcomeOf j).2]

/-! ### Following the PRIMARY (R459, R464) -/

/-- A write may be applied: no decision before it is outstanding. -/
def State.writeDue (s : State) (before : Nat) : Bool :=
  !s.job.segments.any (fun g => g.state == .submitted && seqBelow g.seq before)
    && !s.twin.decision.any (fun d => seqBelow d.2.1 before)

/-- The held writes that may be applied, in their order. -/
def State.applyWrites (s : State) : State :=
  let due := s.twin.writes.takeWhile (fun w => s.writeDue w.1)
  due.foldl (fun (t : State) w => t.applyWrite w.2.1 w.2.2.1 w.2.2.2)
    { s with twin := { s.twin with writes := s.twin.writes.drop due.length } }

/-- The first decision of which both outcomes are there. -/
def Twin.bothOutcomes (t : Twin) : Option ((Nat × Nat × Nat × Nat) × (Nat × Nat × Nat × Nat)) :=
  t.ownOutcome.findSome? (fun a => (t.outcome.find? (fun b => b.1 == a.1)).map (fun b => (a, b)))

/-- Both outcomes of a decision compared once both are there: a difference makes the SHADOW COLD with cause 0x06. -/
def State.compareOutcome (s : State) : State :=
  match s.twin.bothOutcomes with
  | some (a, b) =>
    let t := { s with twin := { s.twin with ownOutcome := s.twin.ownOutcome.erase a, outcome := s.twin.outcome.erase b } }
    if a = b then t else t.goCold 0x06
  | none => s

/-- A SHADOW's decision on the segment that its oldest DECISION names, with the PRIMARY's T_REF and L_DRAM. -/
def State.decideAs (s : State) (g : Segment) (tRef latency : Nat) : State :=
  let j := s.judgeSegment g tRef latency
  let t := s.settleSegment g j
  ({ t with twin := { t.twin with
      decision := t.twin.decision.drop 1
      ownOutcome := t.twin.ownOutcome ++ [(g.seq, g.id, (outcomeOf j).1, (outcomeOf j).2)] } }).compareOutcome.applyWrites

/-- A SHADOW decides when it holds the DECISION, every message numbered before it, and the segment (R457, R459). -/
def State.followDecision (s : State) : State :=
  match s.twin.decision with
  | [] => s
  | (seq, n, tRef, latency) :: _ =>
    if seqBelow seq s.twin.rxNext = false then s
    else
      let t := s.applyWrites
      match t.nextSubmitted with
      | some g => if g.seq = n then t.decideAs g tRef latency else t
      | none => t

/-- SEGMENT_DECISION (R91): the next SUBMITTED segment; none while no ring port is in operation (R14). -/
def execSegmentDecision (s : State) : Host.Outcome State Fault Refusal :=
  .next (if s.twin.role = .shadow then s.followDecision
    else if s.ringUp then
      match s.nextSubmitted with
      | some g => s.leadDecision g
      | none => s
    else s)

end Sys2Proof.Machine
end

