-- ==== Sys2Proof/Machine/Twin.lean ====
section
/-!
DEFINITION. The twin messages and the twin's clocks: heartbeats, the alive line, takeover, the messages of the PRIMARY to its
SHADOW, and the cross-checks (R456 to R477).
-/
namespace Sys2Proof.Machine

/-- The effect of a message that only a SHADOW acts on, and of the decision that it may have waited for. -/
def State.follow (s : State) (seq : Nat) (f : State → State) : State := s.shadowing seq (fun t => (f t).followDecision)

/-! ### Heartbeat and alive line (R463, R467, R468) -/

/-- The states in which a controller of a pair sends HEARTBEATs (R467). -/
def DevState.beats : DevState → Bool
  | .off => false
  | .aux => false
  | .boot => false
  | .fault => false
  | _ => true

/-- JOB_HELD: the next host SEQ of the job session below which every frame is held. -/
def State.jobHeld (s : State) : Nat := ((s.jobSession.map (fun n => (s.session n).rxNext))).getD 0

/-- The fields of a HEARTBEAT (R456). -/
def State.heartbeatFields (s : State) : List Int :=
  [(s.et : Int), s.twin.role.code, s.dev.state.code, s.twin.epoch, s.twin.txSeq, s.jobHeld]

/-- A HEARTBEAT sent: unnumbered. -/
def State.beat (s : State) : State :=
  { s with
    twin := { s.twin with ownEt := some s.et }
    out := if s.twin.linkLock then s.out ++ [twinOut 0x01 0 s.heartbeatFields] else s.out }

/-- TWIN_ALIVE_OUT toggles, or is held low. -/
def State.alive (s : State) (level : Bool) : State := { s with twin := { s.twin with aliveOut := level } }

/-- HEARTBEAT_SEND (R467): at every ET that is a multiple of 625 ticks, while frames are sent. -/
def execHeartbeatSend (s : State) : Host.Outcome State Fault Refusal :=
  .next (if s.paired ∧ s.et % 625 = 0 then
      if s.dev.state.beats ∧ s.seqRuns then s.beat.alive (!s.twin.aliveOut) else s.alive false
    else s)

/-- HEARTBEATs missing between two SEND_ETs. -/
def missedBetween (a b : Tick) : Nat := (etSub b a - 1) / 625

/-- HEARTBEATs that did not come, counted with their leaf (R479, R480). -/
def State.countMissed (s : State) (n : Nat) : State := if n = 0 then s else (s.bumpBy 0xD001 14 n).setLeaf 0x210A 2

/-- The acknowledgements of the job session follow the partner's JOB_HELD while it is SHADOW (R463). -/
def State.limitAcks (s : State) (role : Role) (held : Nat) : State :=
  match s.jobSession with
  | some n =>
    if s.twin.role = .primary then
      let limit := if role = .shadow then some held else none
      s.setSession n { s.session n with ackLimit := limit, ackOwed := (s.session n).ackOwed || limit != (s.session n).ackLimit }
    else s
  | none => s

/-- What a HEARTBEAT tells of the partner. -/
def Twin.heard (t : Twin) (own : Nat) (et sendEt role state epoch : Nat) : Twin :=
  { t with
    heardEt := some (max sendEt (t.heardEt.getD 0)), partnerRole := roleOfCode role, partnerState := state
    epoch := if t.role = .shadow then epoch else t.epoch
    divergedAt := (({ t with partnerState := state }).compareStates own et).divergedAt }

/-- A HEARTBEAT received. -/
def State.hear (s : State) (sendEt role state epoch nextSeq held : Nat) : State :=
  let t := s.countMissed ((s.twin.heardEt.map (fun e => missedBetween e sendEt)).getD 0)
  let u := ({ t with twin := t.twin.heard s.dev.state.code s.et sendEt role state epoch }).limitAcks (roleOfCode role) held
  let v := if seqBelow u.twin.rxNext nextSeq then u.askRepeat nextSeq else u
  if s.twin.role = .primary ∧ role = 1 ∧ s.twin.epoch < epoch then v.goCold 0x08 else v

/-- HEARTBEAT (R468, R473): liveness, the partner's role and state, EPOCH, NEXT_SEQ and JOB_HELD. -/
def execHeartbeat (sendEt role state epoch nextSeq jobHeld : Nat) (s : State) : Host.Outcome State Fault Refusal :=
  .next (if s.paired ∧ s.twin.linkLock then s.hear sendEt role state epoch nextSeq jobHeld else s)

/-- TWIN_ALIVE_EDGE (R468). -/
def execTwinAliveEdge (s : State) : Host.Outcome State Fault Refusal :=
  .next { s with twin := { s.twin with aliveEt := some s.et } }

/-- No valid HEARTBEAT with SEND_ET later than D − 5,000 has been received (R468). -/
def State.unheard (s : State) : Bool := ((s.twin.heardEt.map (fun e => decide (e + 5000 ≤ s.et)))).getD true

/-- An edge has been seen on TWIN_ALIVE_IN at or after D − 4,750. -/
def State.aliveSeen (s : State) : Bool := ((s.twin.aliveEt.map (fun e => decide (s.et ≤ e + 4750)))).getD false

/-- The HEARTBEATs that did not come up to now. -/
def State.missedNow (s : State) : Nat := (s.twin.heardEt.map (fun e => missedBetween e s.et)).getD 0

/-- TWIN_LINK_FAILED (R468): a SHADOW becomes COLD, a PRIMARY continues without a partner to wait for. -/
def execTwinLinkFailed (s : State) : Host.Outcome State Fault Refusal :=
  .next (s.inTurn (.twinLinkFailed) (if s.paired ∧ s.unheard ∧ s.aliveSeen then
      let t := s.countMissed s.missedNow
      let u := ({ t with twin := { t.twin with heardEt := none } }).limitAcks .cold 0
      if s.twin.role = .shadow then u.goCold 0x03 else u
    else s))

/-- OWN_HEARTBEAT_LAPSE (R473). -/
def execOwnHeartbeatLapse (s : State) : Host.Outcome State Fault Refusal :=
  .next (s.inTurn (.ownHeartbeatLapse) (if s.twin.role = .primary ∧ (s.twin.ownEt.map (fun e => decide (e + 5000 ≤ s.et))).getD false then s.goCold 0x0A else s))

/-! ### Takeover (R32, R471, R474) -/

/-- The Tally of a channel replaced up to a snapshot: what was booked since it came in stays. -/
def State.adopt (s : State) (r : LedgerRow) : State :=
  match s.unfinishedBy r.seg with
  | some g => s.book g.key (r.channel / 8) (r.channel % 8)
      ⟨r.tally.planned - r.own.planned, r.tally.correction - r.own.correction, r.tally.delivered - r.own.delivered,
        r.tally.withheld - r.own.withheld⟩
  | none => s

/-- The copies that host software has not acknowledged are the job session's kept frames, and leave once more unchanged. -/
def State.resume (s : State) : State :=
  match s.jobSession with
  | some n =>
    let x := s.session n
    ({ s with
      sessions := s.sessions.set n { x with unacked := s.twin.hostCopies.map (fun f => ⟨f, 1⟩), ackLimit := none }
      twin := { s.twin with hostCopies := [] } }).sendFrames x.peer s.twin.hostCopies
  | none => { s with twin := { s.twin with hostCopies := [] } }

/-- The twin unit as a takeover at D leaves it. -/
def Twin.takenOver (t : Twin) (d : Tick) : Twin :=
  { t with
    role := .primary, epoch := (t.epoch + 1) % 2 ^ 16, gapFrame := some (d + 125), heardEt := none, ledger := [], decision := []
    writes := [], ownOutcome := [], outcome := [], divergedAt := none }

/-- The takeover at D. Writes that still waited for their decision come into force before the new PRIMARY decides. -/
def State.takeOver (s : State) : State :=
  let a := s.countMissed s.missedNow
  let b := (a.twin.writes).foldl (fun (t : State) w => t.applyWrite w.2.1 w.2.2.1 w.2.2.2) a
  let c := (s.twin.ledger).foldl State.adopt b
  let d := ({ c with twin := c.twin.takenOver s.et }).beat.resume
  (((d.bump 0xD001 10).setReg 0xD001 11 s.et).setLeaf 0x210A 0).record 0x0060 (leBytes 2 d.twin.epoch ++ leBytes 8 s.et)

/-- TAKEOVER (R471): the PRIMARY is silent at D. -/
def execTakeover (s : State) : Host.Outcome State Fault Refusal :=
  .next (if s.twin.role = .shadow ∧ s.unheard ∧ s.aliveSeen = false then s.takeOver else s)

/-- GAP_RECORD_TIMEOUT (R474): 64 frames after F. -/
def execGapRecordTimeout (h : Nat) (s : State) : Host.Outcome State Fault Refusal :=
  .next (match s.twin.gapFrame with
    | some f => if f + 64 * 125 ≤ s.et then s.closeGap h s.et else s
    | none => s)

/-! ### Decisions, plans and cuts of the PRIMARY (R459 to R461) -/

/-- DECISION (R459): the SHADOW starts the decision of that segment, at once or when it has the segment and every message before. -/
def execDecision (seq transport tRef latency : Nat) (s : State) : Host.Outcome State Fault Refusal :=
  .next (s.follow seq (fun t => { t with twin := { t.twin with decision := t.twin.decision ++ [(seq, transport, tRef, latency)] } }))

/-- OUTCOME (R459). -/
def execOutcome (seq transport id code promise : Nat) (s : State) : Host.Outcome State Fault Refusal :=
  .next (s.follow seq (fun t => ({ t with twin := { t.twin with
    outcome := t.twin.outcome ++ [(transport, id, code, promise)] } }).compareOutcome))

/-- PLAN (R460): kept until its APPLY_ET; where that has come, it is applied at once. -/
def execPlan (seq id h kind item applyEt value : Nat) (s : State) : Host.Outcome State Fault Refusal :=
  .next (s.follow seq (fun t => (({ t with twin := { t.twin with
    orders := t.twin.orders ++ [TwinOrder.plan id h kind item applyEt value] } }).dueFactors).dueEntries))

/-- The books of a sent slot that a cut concerns. -/
def SentSlot.cutBooks (k : SentSlot) (key mask : Nat) (onset : Tick) : List SlotBook :=
  if onset < 125 * k.frame + 125 then k.books.filter (fun b => b.seg == key && mask.testBit b.beam) else []

/-- The slots sent from the onset on: the d of the cut channels moves to WITHHELD, once. -/
def State.cutSent (s : State) (key h mask : Nat) (onset : Tick) : State :=
  let slots := (s.head h).link.sent
  let t := s.bookDark h (slots.map (fun k => { k with books := k.cutBooks key mask onset }))
  t.onLink h (fun l => { l with
    sent := slots.map (fun (k : SentSlot) => { k with books := k.books.filter (fun b => !(k.cutBooks key mask onset).contains b) })
    clears := l.clears ||| mask })

/-- The work that a CUT concerns: the emission at its onset, or where none is lit the item in progress there; the whole item for an
overspeed, else one stretch. -/
def HeadPath.cutScope (x : HeadPath) (cause mask : Nat) (onset : Tick) : Option (Nat × Nat × Option Nat) :=
  match (x.marking onset).find? (fun n => mask.testBit n.1) with
  | some n => some (n.2.seg, n.2.item, if cause = 0x05 then none else some n.2.stretch)
  | none => (x.runAt (onset * 65536)).map (fun r => (r.seg, r.item, if cause = 0x05 then none else
      (((List.range r.stretches.length).zip r.stretches).filter (fun y => decide (y.2.entry ≤ onset * 65536))).getLast?.map (fun y => y.1)))

/-- A CUT of the PRIMARY applied from its onset: the events of the cut stretch not yet in frames are suppressed, those already placed
are cleared in the next frame, and the promise breaks (R461). -/
def State.applyCut (s : State) (g : Segment) (h cause mask : Nat) (onset : Tick) : State :=
  let w := ((s.head h).path.cutScope cause mask onset).getD (g.key, 0xFFFF, none)
  let t := ((s.cutSent g.key h mask onset).suppressWork h (w.1, w.2.1) w.2.2 cause s.freeDetail).drawn.sendCut g.key h cause mask onset
  let u := if cause = 0x05 then (t.bump (0x4260 + h) 5).setLeaf (0x2420 + h) 2 else t
  u.breakPromise g.key cause h w.2.1 s.freeDetail

/-- CUT (R461). -/
def execCut (seq id h cause mask onsetEt : Nat) (s : State) : Host.Outcome State Fault Refusal :=
  .next (s.follow seq (fun t => match t.unfinishedBy id with
    | some g => t.applyCut g h cause mask onsetEt
    | none => t))

/-- STATE (R31, R461): made at its APPLY_ET. -/
def execStateMessage (seq request cause applyEt : Nat) (s : State) : Host.Outcome State Fault Refusal :=
  .next (s.follow seq (fun t => ({ t with twin := { t.twin with
    orders := t.twin.orders ++ [TwinOrder.state request cause applyEt] } }).dueOrders))

/-- WRITE (R464): applied before the decision it names, at once where no earlier one is outstanding. -/
def execTwinWrite (seq before index sub : Nat) (data : List Byte) (s : State) : Host.Outcome State Fault Refusal :=
  .next (s.follow seq (fun t => ({ t with twin := { t.twin with
    writes := t.twin.writes ++ [(before, index, sub, data)] } }).applyWrites))

/-! ### Copies, digests, ledgers, motion (R456, R465, R466, R476) -/

/-- A Treyx frame read out of its bytes (R380). -/
def frameOf (bs : List Byte) : TreyxFrame :=
  let fl := leAt bs 2 1
  { kind := leAt bs 0 1, hops := leAt bs 1 1, reliable := fl.testBit 7, more := fl.testBit 6, start := fl.testBit 5
    retransmit := fl.testBit 4, session := leAt bs 3 1, seq := leAt bs 4 4, ack := leAt bs 8 4, sack := leAt bs 14 2
    data := (bs.drop 16).take (leAt bs 12 2) }

/-- A copy held: the session continues behind it; a SESSION_CLOSE ends the session here too. -/
def State.holdCopy (s : State) (f : TreyxFrame) : State :=
  match s.jobSession with
  | some n =>
    if f.kind = 3 then (s.setSession n Session.closed).endJob
    else
      { s with
        sessions := s.sessions.set n { s.session n with txSeq := (f.seq + 1) % 2 ^ 32 }
        twin := { s.twin with hostCopies := s.twin.hostCopies ++ [f] } }
  | none => s

/-- HOST_COPY (R465). -/
def execHostCopy (seq : Nat) (frame : List Byte) (s : State) : Host.Outcome State Fault Refusal :=
  .next (s.follow seq (fun t => t.holdCopy (frameOf frame)))

/-- DIGEST (R476). -/
def execDigest (seq id value : Nat) (s : State) : Host.Outcome State Fault Refusal :=
  .next (s.numbered seq (fun t => ({ t with twin := { t.twin with
    partnerDigests := storePut id value t.twin.partnerDigests } }).compareDigest id))

/-- The books of a channel of a segment. -/
def Segment.bookOf (g : Segment) (channel : Nat) : Tally :=
  ((g.part? (channel / 8)).bind (fun p => p.books[channel % 8]?)).getD Tally.zero

/-- A snapshot of one channel kept in place of the one before, beside the own amounts of the moment. -/
def State.keepLedger (s : State) (et : Tick) (id channel : Nat) (t : Tally) : State :=
  match s.unfinishedBy id with
  | some g => { s with twin := { s.twin with
      ledger := s.twin.ledger.filter (fun r => !(r.seg == id && r.channel == channel)) ++ [⟨et, id, channel, t, g.bookOf channel⟩] } }
  | none => s

/-- The Tallies of a LEDGER message out of its columns. -/
def talliesOf (planned correction delivered withheld : List Int) : List Tally :=
  (planned.zip (correction.zip (delivered.zip withheld))).map (fun x => ⟨x.1, x.2.1, x.2.2.1, x.2.2.2⟩)

/-- LEDGER (R456): the snapshot's ET and its rows, one for each channel, column by column. -/
def execLedger (seq snapshotEt : Nat) (ids channels : List Nat) (planned correction delivered withheld : List Int) (s : State) :
    Host.Outcome State Fault Refusal :=
  .next (s.follow seq (fun t => (ids.zip (channels.zip (talliesOf planned correction delivered withheld))).foldl
    (fun u r => u.keepLedger snapshotEt r.1 r.2.1 r.2.2) t))

/-- A head's part ran within the 512 frames up to now. -/
def SegHead.ranLately (p : SegHead) (et : Tick) : Bool :=
  p.part == .running || ((p.part == .finished || p.part == .abandoned) && decide (et ≤ p.finishEt + 64000))

/-- The rows of a LEDGER message. -/
def Segment.ledgerRows (g : Segment) (et : Tick) : List Int :=
  (g.heads.filter (fun p => p.ranLately et)).flatMap (fun p => ((p.books).zip (List.range 8)).flatMap (fun (t, b) =>
    [(g.id : Int), (8 * p.head + b : Nat), t.planned, t.correction, t.delivered, t.withheld]))

/-- LEDGER_SEND (R456): every 512 frames. -/
def execLedgerSend (s : State) : Host.Outcome State Fault Refusal :=
  .next (if s.et % 64000 = 0 then
      s.twinLead 0x0B ((s.et : Int) :: (s.job.segments.flatMap (fun g => g.ledgerRows s.et)))
    else s)

/-- MOTION (R466): taken by the controller that does not run its motion block; a new layer acts as its report does (R73).
DESIGN CHOICE (log entries 80, 95): the manual names no value for LAYER while no report is in force; the motion controller sends
REPORTED_LAYER, and the partner takes the layer as that of a report in force. -/
def State.takeMotion (s : State) (count : Int) (layer : Nat) : State :=
  let t := { s with twin := { s.twin with motionCount := count, motionLayer := some layer } }
  if s.twin.motionLayer = some layer then t else t.cancelBelow layer

/-- MOTION (R466). -/
def execMotion (seq : Nat) (count : Int) (layer : Nat) (s : State) : Host.Outcome State Fault Refusal :=
  .next (s.numbered seq (fun t => if t.runsMotion then t else t.takeMotion count layer))

/-- REPEAT (R457): the messages asked for leave again under their own numbers, as far as they are kept. -/
def State.repeatMessages (s : State) (first count : Nat) : State :=
  let ms := s.twin.kept.filter (fun m => decide (seqAhead first m.seq < count) && decide (s.et ≤ m.sentEt + 62500))
  ({ s with out := s.out ++ ms.map (fun (m : TwinSent) => twinOut m.kind m.seq m.fields) }).bumpBy 0xD001 13 ms.length

/-- REPEAT (R457). -/
def execRepeatRequest (seq first count : Nat) (s : State) : Host.Outcome State Fault Refusal :=
  .next (s.numbered seq (fun t => t.repeatMessages first count))

/-! ### Lateness and divergence (R457, R461) -/

/-- TWIN_MESSAGE_LATE (R457). -/
def execTwinMessageLate (seq : Nat) (s : State) : Host.Outcome State Fault Refusal :=
  .next (s.inTurn (.twinMessageLate seq) (if s.twin.role = .shadow ∧ s.twin.awaits seq then s.goCold 0x07 else s))

/-- STATE_DIVERGENCE_TIMEOUT (R461): the device states have differed for more than 1 ms. -/
def execStateDivergenceTimeout (s : State) : Host.Outcome State Fault Refusal :=
  .next (s.inTurn (.stateDivergenceTimeout) (if s.twin.role = .shadow ∧ s.dev.state.code ≠ s.twin.partnerState
      ∧ (s.twin.divergedAt.map (fun e => decide (e + 625000 < s.et))).getD false then s.goCold 0x0C
    else s))

end Sys2Proof.Machine
end

