-- ==== Sys2Proof/Machine/Pairing.lean ====
section
/-!
DEFINITION. Forming, joining and leaving a pair (R450 to R454, R458, R469, R470, R472, R477).
-/
namespace Sys2Proof.Machine

/-! ### Candidates (R451, R472) -/

/-- The highest twin link version within both ranges. -/
def State.twinVersion (s : State) (n : Negotiate) : Option Nat :=
  commonVersion (s.regN 0xD000 5) (s.regN 0xD000 6) n.versionMax n.versionMin

/-- Why a partner is no candidate: 0x01 the version set, 0x02 the digest. -/
def State.mismatch (s : State) (n : Negotiate) : Option Nat :=
  if n.systemFirmware ≠ s.images.runningVersion (fun k => k.sf) ∨ n.microcode ≠ s.images.runningVersion (fun k => k.mc)
      ∨ s.twinVersion n = none then some 0x01
  else if n.digest ≠ s.configDigest then some 0x02
  else none

/-- Why a pair is not formed with a partner: no candidate, or 0x03 a delay above 250 ticks. -/
def State.pairFault (s : State) (n : Negotiate) : Option Nat :=
  match s.mismatch n with
  | some c => some c
  | none => if 250 < s.twin.linkDelay then some 0x03 else none

/-! ### ETs that move with PAIR_OFFSET (R458) -/

/-- An ET moved. -/
def moveTick (m : Int) (t : Tick) : Tick := ((t : Int) + m).toNat

/-- A capture in 1/16 tick moved. -/
def moveFine (m : Int) (c : Nat) : Nat := ((c : Int) + 16 * m).toNat

/-- A ring port's captures moved. -/
def RingPort.moved (p : RingPort) (m : Int) : RingPort := { p with queue := p.queue.map (fun q => (moveFine m q.1, q.2)) }

/-- A camera frame's interval moved. -/
def RunFrame.moved (m : Int) (f : RunFrame) : RunFrame := { f with first := moveTick m f.first, last := moveTick m f.last }

/-- A head's ETs moved: what it keeps of its past path and set-points is of the old count and leaves. -/
def Head.moveEts (x : Head) (m : Int) : Head :=
  { x with
    path := { x.path with
      bookedTo := 0, endedAt := 0, trail := [], recent := [], setPoints := [], actuals := [], marked := [], past := List.replicate 8 []
      items := x.path.items.map (fun i => { i with start := moveTick m i.start, stop := i.stop.map (moveTick m) })
      temps := x.path.temps.map (fun t => (moveTick m t.1, t.2)) }
    camera := { x.camera with
      frames := x.camera.frames.map (fun f => { f with startEt := moveTick m f.startEt, doneAt := moveTick m f.doneAt })
      held := x.camera.held.map (fun r => { r with deadline := moveTick m r.deadline })
      windowFrames := x.camera.windowFrames.map (RunFrame.moved m), outFrames := x.camera.outFrames.map (RunFrame.moved m)
      dropFrames := x.camera.dropFrames.map (RunFrame.moved m), dropNext := moveTick m x.camera.dropNext
      energy := [], mids := [] }
    channels := x.channels.map (fun c => { c with
      oWaiting := c.oWaiting.map (fun o => (moveTick m o.1, o.2)), next := c.next.map (fun o => (moveTick m o.1, o.2.1, moveTick m o.2.2))
      sampleOf := c.sampleOf.map (moveTick m), boundFirst := moveTick m c.boundFirst, holdFirst := moveTick m c.holdFirst }) }

/-- Every ET held that is compared with one to come moved. -/
def State.moveEts (s : State) (m : Int) : State :=
  { s with
    clk := { s.clk with et := moveTick m s.clk.et }
    time := { s.time with
      anchorEt := s.time.anchorEt + m, last := s.time.last.map (fun e => (e.1, moveTick m e.2)), stepEt := s.time.stepEt.map (moveTick m)
      exchange := s.time.exchange.map (fun e => (e.1, moveTick m e.2))
      corrections := s.time.corrections.map (fun c => (c.1, c.2.1, moveTick m c.2.2)) }
    clocks := { s.clocks with holdoverFrom := moveTick m s.clocks.holdoverFrom }
    ring := { s.ring with
      edgeAt := s.ring.edgeAt.map (moveTick m), portA := s.ring.portA.moved m, portB := s.ring.portB.moved m
      seen := s.ring.seen.map (fun x => { x with at_ := moveFine m x.at_ }) }
    sieve := { s.sieve with
      pipes := s.sieve.pipes.map (fun (p : Pipeline) => { p with since := moveTick m p.since, passes := p.passes.map (fun q => (moveTick m q.1, q.2)) })
      tokensAt := moveTick m s.sieve.tokensAt }
    engine := { s.engine with
      lanes := s.engine.lanes.map (fun (l : Lane) => { l with freeAt := moveTick m l.freeAt, passes := l.passes.map (fun q => (moveTick m q.1, q.2)) })
      rateChanges := s.engine.rateChanges.map (fun (c : RateChange) => { c with frame := moveTick m (125 * c.frame) / 125, at_ := moveTick m c.at_ }) }
    motion := { s.motion with axes := s.motion.axes.map (fun (x : Axis) => { x with
      ramp := x.ramp.map (fun (r : Ramp) => { r with start := moveTick m r.start }) }) }
    dram := { s.dram with channels := s.dram.channels.map (fun (c : DramChannel) => { c with lastTrain := moveTick m c.lastTrain }) }
    heads := s.heads.map (fun x => x.moveEts m) }

/-! ### Roles taken (R453, R458, R469) -/

/-- A role taken; the partner has just been heard. -/
def State.takeRole (s : State) (r : Role) : State :=
  { s with twin := { s.twin with
    role := r, coldCause := 0, heardEt := some s.et, aliveEt := some s.et, ownEt := some s.et, divergedAt := none } }

/-- d of R458: half the mean round trip of the HEARTBEAT exchanges, rounded up to a tick. -/
def delayOfTrips (trips : List Nat) : Nat := ceilDiv trips.sum (2 * trips.length)

/-- What the measurement gives for PAIR_OFFSET: the PRIMARY's ET as a HEARTBEAT sent at an ET arrives, less the counter (R458). -/
def State.offsetOf (s : State) (delay sendEt : Nat) : Int := (sendEt : Int) + delay - ((s.clk.et : Int) - s.twin.pairOffset)

/-- PAIR_OFFSET fixed: the ET in use and every ET held that is compared with one to come move with it, so that NT, too, is continuous
(R458). -/
def State.fixOffset (s : State) : State :=
  let move := s.twin.offsetSeen - s.twin.pairOffset
  { (s.moveEts move) with twin := { s.twin with pairOffset := s.twin.offsetSeen } }

/-- Step 4 of R469, for a controller that has no role yet: ranks differ, and the link holds block lock. -/
def State.pair (s : State) : State :=
  match s.twin.partner with
  | none => s
  | some n =>
    if s.twin.role ≠ .solo ∨ s.twin.linkLock = false ∨ n.rank = s.regN 0xD000 2 then s
    else if s.twin.partnerRole = .primary then s.goCold ((s.pairFault n).getD 0x0E)
    else if s.reg 0xD000 2 = 0 then s.takeRole .primary
    else match s.pairFault n with
      | some c => s.goCold c
      | none => s.fixOffset.takeRole .shadow

/-! ### The link (R451, R452, R469, R472) -/

/-- The fields of NEGOTIATE. -/
def State.negotiateFields (s : State) : List Int :=
  [s.reg 0xD000 5, s.reg 0xD000 6, s.images.runningVersion (fun k => k.sf), s.images.runningVersion (fun k => k.mc), s.configDigest,
    s.reg 0xD000 2]

/-- The twin unit after block lock and the exchange of NEGOTIATE: both directions number from 1. -/
def Twin.locked (t : Twin) (n : Negotiate) (version role delay : Nat) (offset : Int) : Twin :=
  { t with
    linkLock := true, partner := some n, partnerSerial := n.serial, partnerRole := roleOfCode role, linkDelay := delay
    version := version, offsetSeen := offset, txSeq := 1, rxNext := 1, beyond := [], askedTo := 1, kept := [] }

/-- TWIN_LINK_BLOCK_LOCK (R469): the link locks, and with twin operation enabled the pairing runs. -/
def execTwinLinkBlockLock (versionMax versionMin firmware microcode digest rank serial role : Nat) (trips : List Nat) (sendEt : Nat)
    (s : State) : Host.Outcome State Fault Refusal :=
  let n : Negotiate := ⟨versionMax, versionMin, firmware, microcode, digest, rank, serial⟩
  let delay := delayOfTrips trips
  let offset := s.offsetOf delay sendEt
  let t := { s with twin := s.twin.locked n ((s.twinVersion n).getD 0) role delay offset }
  let u := if s.reg 0xD000 1 = 1 then ({ t with out := t.out ++ [twinOut 0x0F 0 s.negotiateFields] }).pair else t
  .next (if s.dev.state = .off ∨ s.dev.state = .aux then s else u.sourceLocked 3)

/-- TWIN_LINK_LOCK_LOSS (R452, R560): no partner is waited for while the link is down. -/
def execTwinLinkLockLoss (s : State) : Host.Outcome State Fault Refusal :=
  .next ((({ s with twin := { s.twin with linkLock := false } }).limitAcks .cold 0).sourceLost 3)

/-- TWIN_SOLO_TIMEOUT (R469): PRIMARY alone. -/
def execTwinSoloTimeout (s : State) : Host.Outcome State Fault Refusal :=
  .next (if s.reg 0xD000 1 = 1 ∧ s.twin.role = .solo ∧ s.twin.linkLock = false ∧ s.dev.state = .standby then s.takeRole .primary else s)

/-! ### TWIN_ENABLE and RELEASE (R454, R477) -/

/-- The gate of a write to TWIN_ENABLE: outside STANDBY it is refused with 0x0003_0003. -/
def State.enableGate (s : State) (p : Path) : Option Abort :=
  match s.writeGate p 0xD000 1 with
  | some .notStandby => some .conditions
  | g => g

/-- The refusal of a write to TWIN_ENABLE. -/
def State.enableRefusal (s : State) (p : Path) (value : Nat) : Option Abort :=
  orElse (s.enableGate p) (orElse (numberTest 0xD000 1 (leBytes 1 value)) (refuseIf s.anyCommitted .conditions))

/-- TWIN_ENABLE written: 0 makes the controller SOLO; 1 pairs it where the link already holds block lock. -/
def State.writeTwinEnable (s : State) (value : Nat) : State :=
  let t := s.setReg 0xD000 1 ((value % 2 : Nat) : Int)
  if value % 2 = 0 then { t with twin := { t.twin with role := .solo, coldCause := 0 } } else t.pair

/-- TWIN_ENABLE (R454). -/
def execTwinEnable (path : Path) (value : Nat) (s : State) : Host.Outcome State Fault Refusal :=
  .next (s.inTurnOf path (.twinEnable path value) (s.access path (s.enableRefusal path value) (s.writeTwinEnable value) []))

/-- RELEASE (R477): a write of 1 makes a SHADOW COLD. -/
def execRelease (path : Path) (value : Nat) (s : State) : Host.Outcome State Fault Refusal :=
  .next (s.inTurnOf path (.release path value) (s.access path (orElse (s.writeGate path 0xD002 2) (numberTest 0xD002 2 (leBytes 1 value)))
    (if value = 1 ∧ s.twin.role = .shadow then s.goCold 0x0B else s) []))

/-! ### JOIN (R470) -/

/-- The bytes of a camera generation in JOIN. -/
def Generation.joinBytes (g : Generation) : List Byte :=
  leBytes 2 g.number ++ [byteOf g.format, byteOf g.gain, byteOf (flag g.enable), byteOf g.mosaic] ++ leBytes 4 g.period ++ leBytes 4 g.phase
    ++ leBytes 4 g.integration ++ leBytes 2 g.minSignal ++ leBytes 2 g.segThreshold ++ leBytes 2 g.spatterLevel ++ leBytes 2 g.spatterMin
    ++ leBytes 2 g.spatterMax ++ leBytes 2 g.cameraAngle ++ leBytes 4 g.budget ++ leBytes 2 g.archiveDec ++ leBytes 2 g.featureDec
    ++ leBytes 4 g.blackLevel ++ leBytes 2 g.ratioGain ++ packedBytes g.flatField ++ packedBytes g.defectPixels ++ packedBytes g.tempTable

/-- The sets of the store, each once. -/
def State.setsStored (s : State) : List Nat :=
  s.job.params.foldl (fun acc v => if acc.contains v.set then acc else acc ++ [v.set]) []

/-- The job session in JOIN: number, SEQ in each direction, JOB_OFFSET, CREDIT_LIMIT and bytes received; number 0 for none. -/
def State.joinSession (s : State) : List Byte :=
  let n := s.jobSession.getD 0
  [byteOf n] ++ leBytes 4 (s.session n).txSeq ++ leBytes 4 (s.session n).rxNext ++ leBytes 8 s.job.offset ++ leBytes 8 (s.regN 0x3012 5)
    ++ leBytes 8 (s.regN 0x3012 6)

/-- The content of JOIN. The manual lists what it holds and gives no layout. -/
def State.joinContent (s : State) : List Byte :=
  let sets := s.setsStored
  leBytes 2 sets.length
    ++ sets.flatMap (fun n => leBytes 2 n ++ ((newestVersion s.job.params n).map (fun v => v.words.flatMap (leBytes 4))).getD (List.replicate 64 0))
    ++ (List.range 32).flatMap (fun h => leBytesInt 8 (s.planFrom h).1 ++ leBytesInt 8 (s.planFrom h).2)
    ++ s.joinSession
    ++ [byteOf (flag s.recoatLayer.isSome)] ++ leBytes 4 (s.recoatLayer.getD 0)
    ++ s.heads.flatMap (fun x => [byteOf x.camera.gens.length] ++ x.camera.gens.flatMap Generation.joinBytes)

/-- The conditions of a join. -/
def State.joinReady (s : State) : Bool :=
  s.twin.role == .primary && s.twin.linkLock && s.twin.partnerRole == .cold
    && ((s.twin.partner.map (fun n => (s.mismatch n).isNone)).getD false) && !s.job.segments.any (fun g => g.unfinished)

/-- The requests that bring a new SHADOW to the device state. -/
def DevState.joinRequests : DevState → List Nat
  | .armed => [1]
  | .exposing => [1, 2]
  | .paused => [1, 2, 3]
  | _ => []

/-- A join that proceeds: JOIN, then the device state as STATE requests. -/
def State.startJoin (s : State) : State :=
  let t := s.twinLead 0x0E (s.joinContent.map (fun b => (b.toNat : Int)))
  (s.dev.state.joinRequests.foldl (fun (u : State) (r : Nat) => u.twinLead 0x06 [(r : Int), 0, u.et]) t).setReg 0xD002 3 0

/-- JOIN (R470): otherwise JOIN_RESULT reads 0x01 and nothing changes. -/
def execJoin (path : Path) (value : Nat) (s : State) : Host.Outcome State Fault Refusal :=
  .next (s.inTurnOf path (.join path value) (s.access path (orElse (s.writeGate path 0xD002 1) (numberTest 0xD002 1 (leBytes 1 value)))
    (if value = 1 then (if s.joinReady then s.startJoin else s.setReg 0xD002 3 1) else s) []))

/-- AUTO_JOIN_START (R470). -/
def execAutoJoinStart (s : State) : Host.Outcome State Fault Refusal :=
  .next (if s.reg 0xD000 4 = 1 ∧ s.joinReady then s.startJoin else s)

/-- Length and bytes of a DOMAIN in JOIN, and the rest. -/
def takeDomain (bs : List Byte) : List Byte × List Byte := ((bs.drop 4).take (leAt bs 0 4), bs.drop (4 + leAt bs 0 4))

/-- A camera generation read out of JOIN, and the rest. -/
def takeGeneration (bs : List Byte) : Generation × List Byte :=
  let a := takeDomain (bs.drop 44)
  let b := takeDomain a.2
  let c := takeDomain b.2
  ({ number := leAt bs 0 2, format := leAt bs 2 1, gain := leAt bs 3 1, enable := leAt bs 4 1 == 1, mosaic := leAt bs 5 1
     period := leAt bs 6 4, phase := leAt bs 10 4, integration := leAt bs 14 4, minSignal := leAt bs 18 2, segThreshold := leAt bs 20 2
     spatterLevel := leAt bs 22 2, spatterMin := leAt bs 24 2, spatterMax := leAt bs 26 2, cameraAngle := leAt bs 28 2
     budget := leAt bs 30 4, archiveDec := leAt bs 34 2, featureDec := leAt bs 36 2, blackLevel := leAt bs 38 4, ratioGain := leAt bs 42 2
     flatField := a.1, defectPixels := b.1, tempTable := c.1 }, c.2)

/-- Generations read out of JOIN. -/
def takeGenerations : Nat → List Byte → List Generation × List Byte
  | 0, bs => ([], bs)
  | n + 1, bs =>
    let a := takeGeneration bs
    let b := takeGenerations n a.2
    (a.1 :: b.1, b.2)

/-- The generations of each head. -/
def takeCameras : Nat → List Byte → List (List Generation)
  | 0, _ => []
  | n + 1, bs =>
    let a := takeGenerations (leAt bs 0 1) (bs.drop 1)
    a.1 :: takeCameras n a.2

/-- A camera that takes the generations of the PRIMARY. -/
def Camera.joined (c : Camera) (gs : List Generation) : Camera :=
  match gs with
  | [] => c
  | g :: _ => { c with gens := gs, committed := g.number, forming := [], applied := g.number, appliedOn := g.enable }

/-- The job session taken over as it stands at the PRIMARY; its peer is learned from the frames it sends (R463). -/
def State.joinedSession (s : State) (bs : List Byte) : State :=
  let n := leAt bs 0 1
  if n = 0 ∨ 4 < n then s
  else
    let x : Session := { Session.closed with
      isOpen := true, level := .operator, openLevel := .operator, job := true, ringVersion := 0x0100, dictVersion := 0x0100
      formatVersion := s.regN 0x3000 1, txSeq := leAt bs 1 4, rxNext := leAt bs 5 4, txCount := 1 }
    let t := s.setSession n x
    ((({ t with job := { t.job with receiving := none, offset := leAt bs 9 8 } }).setReg 0x3000 3 x.formatVersion).setReg 0x3012 5
      (leAt bs 17 8)).setReg 0x3012 6 (leAt bs 25 8)

/-- The content of JOIN taken in. -/
def State.takeJoin (s : State) (bs : List Byte) : State :=
  let n := leAt bs 0 2
  let versions := (List.range n).map (fun i =>
    (⟨i + 1, leAt bs (2 + 66 * i) 2, (List.range 16).map (fun k => leAt bs (4 + 66 * i + 4 * k) 4)⟩ : ParamVersion))
  let heads := 2 + 66 * n
  let tails := (List.range 32).map (fun h => (h, 0, (sext 64 (leAt bs (heads + 16 * h) 8), sext 64 (leAt bs (heads + 16 * h + 8) 8))))
  let rest := heads + 512
  let cams := takeCameras 32 (bs.drop (rest + 38))
  let t := { s with
    job := { s.job with params := versions, nextVersion := n + 1, tails := tails }
    twin := { s.twin with motionLayer := if leAt bs (rest + 33) 1 = 1 then some (leAt bs (rest + 34) 4) else none }
    heads := (s.heads.zip cams).map (fun (q : Head × List Generation) => { q.1 with camera := q.1.camera.joined q.2 }) }
  t.joinedSession (bs.drop rest)

/-- JOIN_RECEIVED (R470): a COLD controller fixes PAIR_OFFSET and becomes SHADOW, when the delay lets a pair be formed. -/
def State.joinReceived (s : State) (content : List Byte) (offset : Int) (delay : Nat) : State :=
  let t := { s with twin := { s.twin with linkDelay := delay, offsetSeen := offset, rxNext := (s.twin.rxNext + 1) % 2 ^ 32 } }
  if s.twin.role ≠ .cold then t
  else if 250 < delay then { t with twin := { t.twin with coldCause := 0x03 } }
  else (t.takeJoin content).fixOffset.takeRole .shadow

/-- JOIN_RECEIVED (R470). -/
def execJoinReceived (content : List Byte) (trips : List Nat) (sendEt : Nat) (s : State) : Host.Outcome State Fault Refusal :=
  .next (if s.paired ∧ s.twin.linkLock then s.joinReceived content (s.offsetOf (delayOfTrips trips) sendEt) (delayOfTrips trips) else s)

end Sys2Proof.Machine
end

