-- ==== Sys2Proof/Machine/Dictionary.lean ====
section
/-!
DEFINITION. The dictionary's accesses as host software makes them: expedited and block transfers on a ring session or the
management port, and that port's own transactions (R401 to R407, R411 to R415).
-/
namespace Sys2Proof.Machine

/-! ### Any write -/

/-- The twin's objects with a behaviour of their own. -/
def State.writeTwin (s : State) (p : Path) (index sub v : Nat) : Option State :=
  match index, sub with
  | 0xD000, 1 => some (nextState s (execTwinEnable p v))
  | 0xD002, 1 => some (nextState s (execJoin p v))
  | 0xD002, 2 => some (nextState s (execRelease p v))
  | _, _ => none

/-- A write to an object with a behaviour of its own; none for any other object. -/
def State.ownWrite (s : State) (p : Path) (alone : Bool) (index sub : Nat) (data : List Byte) : Option State :=
  let v := (numberOf index sub data).toNat
  match index / 4096 with
  | 1 => s.writeComm p index sub v data
  | 2 => s.writeDevice p alone index sub v data
  | 8 => s.writeMotion p index sub v data
  | 9 => s.writeMotion p index sub v data
  | 11 => s.writeImages p index sub v data
  | 12 => s.writeImages p index sub v data
  | 13 => s.writeTwin p index sub v
  | _ => s.writeJob p index sub v data

/-- The gate of a write to any subindex. -/
def State.anyGate (s : State) (p : Path) (index sub : Nat) : Option Abort :=
  if index = 0xD000 ∧ sub = 1 then s.enableGate p else s.writeGate p index sub

/-- A write to any subindex, answered on its path. -/
def State.odWrite (s : State) (p : Path) (index sub : Nat) (data : List Byte) (alone : Bool) : State :=
  match orElse (s.anyGate p index sub) (numberTest index sub data) with
  | some a => s.access p (some a) s []
  | none =>
    if sessionValue index sub then s.ownValue p index sub data
    else (s.ownWrite p alone index sub data).getD (s.plainWrite p index sub data)

/-- DICTIONARY_WRITE (R402): stored under the access class and the range; an object with a behaviour of its own behaves. -/
def execDictionaryWrite (path : Path) (index sub : Nat) (data : List Byte) (s : State) : Host.Outcome State Fault Refusal :=
  .next (s.inTurnOf path (.dictionaryWrite path index sub data) (if s.served path then s.odWrite path index sub data true else s))

/-! ### Any read (R403) -/

/-- The gate of a read, subindex 0xFF included. -/
def State.anyReadGate (s : State) (index sub : Nat) : Option Abort :=
  if sub = 0xFF ∧ (objRow index).isSome then s.readGate index 0 else s.readGate index sub

/-- A read of any subindex, answered on its path, with the side effect of its own read. -/
def State.odRead (s : State) (p : Path) (index sub : Nat) : State :=
  if readActs index sub then
    if index = 0x1020 then nextState s (execChallenge p)
    else if index = 0x6001 then nextState s (execFeatureLogBlockRead p)
    else if index < 0x2500 then nextState s (execTake p index)
    else nextState s (execProbeEvent p (index - 0x9090))
  else s.access p (s.anyReadGate index sub) s (s.readBytes p index sub)

/-! ### Responses (R401) -/

/-- An SDO_RESPONSE. -/
def sdoResponse (op tid index sub size abort : Nat) (data : List Byte) : List Byte :=
  [byteOf op, byteOf tid] ++ leBytes 2 index ++ [byteOf sub, byteOf size, 0, 0] ++ leBytes 4 abort ++ padTo 8 data

/-- A message of the controller for the management port: in the response place, or behind what waits there (R413). -/
def State.place (s : State) (kind : Nat) (bytes : List Byte) : State :=
  if s.spi.response.isNone then { s with spi := { s.spi with response := some bytes } }
  else { s with spi := { s.spi with behind := s.spi.behind ++ [(kind, bytes)] } }

/-- A message of the controller on a path: a reliable frame of the session, or the port's response place. -/
def State.reply (s : State) (p : Path) (kind : Nat) (bytes : List Byte) : State :=
  match p with
  | .spi => s.place kind bytes
  | .ring n => s.message n kind true bytes

/-- A response without data. -/
def State.respond (s : State) (p : Path) (op tid index sub abort : Nat) : State :=
  s.reply p 0x11 (sdoResponse op tid index sub 0 abort [])

/-- The answer that an access has just given, taken back from what leaves. -/
def State.answered (s : State) : Option (Nat × List Byte) :=
  match s.out.getLast? with
  | some (.answer _ abort data) => some (abort, data)
  | _ => none

/-- The state without that answer. -/
def State.unanswered (s : State) : State := { s with out := s.out.dropLast }

/-- The answer of an access sent as its response: SIZE and value for a read that went well. -/
def State.wrap (s : State) (p : Path) (op tid index sub : Nat) : State :=
  match s.answered with
  | some (abort, data) => s.unanswered.reply p 0x11 (sdoResponse op tid index sub data.length abort data)
  | none => s

/-! ### Expedited transfers (R401, R404) -/

/-- READ. A value larger than 8 bytes moves by block transfer only. -/
def State.sdoRead (s : State) (p : Path) (tid index sub : Nat) : State :=
  (if 8 < (s.readBytes p index sub).length then s.access p (orElse (s.anyReadGate index sub) (some .size)) s []
   else s.odRead p index sub).wrap p 1 tid index sub

/-- SDO_READ (R401, R403). -/
def execSdoRead (path : Path) (tid index sub : Nat) (s : State) : Host.Outcome State Fault Refusal :=
  .next (s.inTurnOf path (.sdoRead path tid index sub) (if s.served path then (s.tookFrame path).sdoRead path tid index sub else s))

/-- WRITE. -/
def State.sdoWrite (s : State) (p : Path) (tid index sub : Nat) (data : List Byte) (alone : Bool) : State :=
  (if 8 < data.length then s.access p (orElse (s.anyGate p index sub) (some .size)) s []
   else s.odWrite p index sub data alone).wrap p 2 tid index sub

/-- SDO_WRITE (R401, R402). -/
def execSdoWrite (path : Path) (tid index sub : Nat) (data : List Byte) (alone : Bool) (s : State) :
    Host.Outcome State Fault Refusal :=
  .next (s.inTurnOf path (.sdoWrite path tid index sub data alone)
    (if s.served path then (s.tookFrame path).sdoWrite path tid index sub data alone else s))

/-! ### Block transfers (R404 to R406) -/

/-- Segments of a block read that still wait on a path. -/
def State.readPending (s : State) (p : Path) : Bool :=
  match p with
  | .spi => s.spi.behind.any (fun r => r.1 == 0x12)
  | .ring n => (s.session n).backlog.any (fun m => m.1 == 0x12)

/-- A block transfer is open on a path. -/
def State.transferOpen (s : State) (p : Path) : Bool := (s.on p).transfer.isSome || s.readPending p

/-- The block write of a path set or ended. -/
def State.withTransfer (s : State) (p : Path) (t : Option Transfer) : State :=
  s.setSession (pathNumber p) { s.on p with transfer := t }

/-- The refusal of a BLOCK_WRITE as it opens. -/
def State.blockRefused (s : State) (p : Path) (index sub total : Nat) : Option Abort :=
  orElse (s.anyGate p index sub) (orElse (refuseIf (decide (16777216 < total)) .total) (refuseIf (s.transferOpen p) .alreadyOpen))

/-- BLOCK_WRITE: ready for segments; TOTAL 0 writes an empty value at once. -/
def State.openBlock (s : State) (p : Path) (tid index sub total : Nat) : State :=
  match s.blockRefused p index sub total with
  | some a => s.respond p 3 tid index sub a.code
  | none =>
    if total = 0 then (s.odWrite p index sub [] true).wrap p 3 tid index sub
    else (s.withTransfer p (some ⟨index, sub, tid, total, 0, []⟩)).respond p 3 tid index sub 0

/-- BLOCK_WRITE (R405). -/
def execBlockWrite (path : Path) (tid index sub total : Nat) (s : State) : Host.Outcome State Fault Refusal :=
  .next (s.inTurnOf path (.blockWrite path tid index sub total) (if s.served path then (s.tookFrame path).openBlock path tid index sub total else s))

/-- A BLOCK_SEGMENT message (R404). -/
def segmentBytes (tid number : Nat) (data : List Byte) : List Byte :=
  [byteOf tid, 0] ++ leBytes 2 number ++ leBytes 2 data.length ++ leBytes 2 0 ++ leBytes 4 (crc32 data) ++ data

/-- The segments of a value, in their order. -/
def State.sendSegments (s : State) (p : Path) (tid : Nat) (data : List Byte) : State :=
  let parts := chunks 1024 data
  (parts.zip (List.range parts.length)).foldl (fun (t : State) (d, i) => t.reply p 0x12 (segmentBytes tid i d)) s

/-- The answer of a read sent as a block read: TOTAL, then the segments. -/
def State.wrapBlock (s : State) (p : Path) (tid index sub : Nat) : State :=
  match s.answered with
  | some (0, data) =>
    (s.unanswered.reply p 0x11 (sdoResponse 4 tid index sub 4 0 (leBytes 4 data.length))).sendSegments p tid data
  | _ => s.wrap p 4 tid index sub

/-- BLOCK_READ: the value as it stands; the gate comes before the test for an open transfer (R11). -/
def State.readBlock (s : State) (p : Path) (tid index sub : Nat) : State :=
  match s.anyReadGate index sub with
  | some a => s.respond p 4 tid index sub a.code
  | none =>
    if s.transferOpen p then s.respond p 4 tid index sub Abort.alreadyOpen.code
    else (s.odRead p index sub).wrapBlock p tid index sub

/-- BLOCK_READ (R405). -/
def execBlockRead (path : Path) (tid index sub : Nat) (s : State) : Host.Outcome State Fault Refusal :=
  .next (s.inTurnOf path (.blockRead path tid index sub) (if s.served path then (s.tookFrame path).readBlock path tid index sub else s))

/-- The segments of a block read that wait are dropped. -/
def State.dropSegments (s : State) (p : Path) : State :=
  match p with
  | .spi => { s with spi := { s.spi with behind := s.spi.behind.filter (fun r => r.1 != 0x12) } }
  | .ring n => s.setSession n { s.session n with backlog := (s.session n).backlog.filter (fun m => m.1 != 0x12) }

/-- ABORT: the block transfer of the session ends; the response tells whether one was open (R408). -/
def State.abortBlock (s : State) (p : Path) (tid index sub : Nat) : State :=
  let code := if s.transferOpen p then Abort.aborted.code else 0
  ((s.withTransfer p none).dropSegments p).respond p 6 tid index sub code

/-- SDO_ABORT (R401). -/
def execSdoAbort (path : Path) (tid index sub : Nat) (s : State) : Host.Outcome State Fault Refusal :=
  .next (s.inTurnOf path (.sdoAbort path tid index sub) (if s.served path then (s.tookFrame path).abortBlock path tid index sub else s))

/-- A transfer refused: it ends and the old value stays. -/
def State.failBlock (s : State) (p : Path) (t : Transfer) (a : Abort) : State :=
  (s.withTransfer p none).respond p 3 t.tid t.index t.sub a.code

/-- The length that the next segment must have. -/
def Transfer.expects (t : Transfer) : Nat := min 1024 (t.total - t.data.length)

/-- A segment with its CRC checked; the last one commits the value (R405). -/
def State.segmentIn (s : State) (p : Path) (tid number : Nat) (crcOk : Bool) (data : List Byte) : State :=
  match (s.on p).transfer with
  | none => s
  | some t =>
    if t.tid ≠ tid % 256 then s
    else if crcOk = false then s.failBlock p t .segmentCrc
    else if number ≠ t.nextSeg ∨ data.length ≠ t.expects then s.failBlock p t .segmentOrder
    else
      let all := t.data ++ data
      if all.length < t.total then s.withTransfer p (some { t with nextSeg := t.nextSeg + 1, data := all })
      else ((s.withTransfer p none).odWrite p t.index t.sub all true).wrap p 3 t.tid t.index t.sub

/-- The last segment is the one that completes TOTAL. -/
def State.lastRight (s : State) (p : Path) (last : Bool) (data : List Byte) : Bool :=
  match (s.on p).transfer with
  | some t => last == decide (t.total ≤ t.data.length + data.length)
  | none => true

/-- BLOCK_SEGMENT (R405): its CRC is right; last is what its place in TOTAL makes it. -/
def execBlockSegment (path : Path) (tid number : Nat) (last : Bool) (data : List Byte) (s : State) :
    Host.Outcome State Fault Refusal :=
  .next (s.inTurnOf path (.blockSegment path tid number last data) (if s.served path then
      (s.tookFrame path).segmentIn path tid (if s.lastRight path last data then number else 65536) true data
    else s))

/-- BLOCK_TRANSFER_TIMEOUT (R406). -/
def execBlockTransferTimeout (path : Path) (s : State) : Host.Outcome State Fault Refusal :=
  .next (s.inTurnOf path (.blockTransferTimeout path) (match (s.on path).transfer with
    | some t => if s.served path then s.failBlock path t .timeout else s
    | none => s))

/-! ### Requests as they arrive (R401, R404) -/

/-- An SDO_REQUEST read out of its 16 bytes; a shorter message or another OP is discarded. -/
def State.sdoRequest (s : State) (p : Path) (alone : Bool) (bs : List Byte) : State :=
  let tid := leAt bs 1 1
  let index := leAt bs 2 2
  let sub := leAt bs 4 1
  let size := leAt bs 5 1
  if bs.length < 16 then s
  else match leAt bs 0 1 with
    | 1 => s.sdoRead p tid index sub
    | 2 => s.sdoWrite p tid index sub (if 8 < size then List.replicate 9 0 else (bs.drop 8).take size) alone
    | 3 => s.openBlock p tid index sub (leAt bs 8 4)
    | 4 => s.readBlock p tid index sub
    | 6 => s.abortBlock p tid index sub
    | _ => s

/-- A BLOCK_SEGMENT read out of its bytes; LEN must be what follows. -/
def State.segmentMessage (s : State) (p : Path) (bs : List Byte) : State :=
  let data := bs.drop 12
  if bs.length < 12 then s
  else s.segmentIn p (leAt bs 0 1) (if leAt bs 4 2 = data.length then leAt bs 2 2 else 65536) (leAt bs 8 4 == crc32 data) data

/-! ### The management port (R411 to R414) -/

/-- A message on the port is a BLOCK_SEGMENT: a block write is open, and the message has not the 16 bytes of an SDO_REQUEST, or
it is exactly the segment of 4 bytes that the transfer awaits. The payloads carry no kind (R413). -/
def State.spiSegment (s : State) (bs : List Byte) : Bool :=
  match (s.on .spi).transfer with
  | none => false
  | some t => bs.length != 16 || (leAt bs 0 1 == t.tid && leAt bs 1 1 == 0 && leAt bs 2 2 == t.nextSeg && leAt bs 4 2 == 4
      && t.expects == 4 && leAt bs 6 2 == 0 && leAt bs 8 4 == crc32 (bs.drop 12))

/-- The request carried out when the response place is free: a BLOCK_SEGMENT or an SDO_REQUEST. -/
def State.spiRun (s : State) : State :=
  match s.spi.request with
  | some bs =>
    if s.spi.response.isSome then s
    else
      let t := { s with spi := { s.spi with request := none } }
      if s.spiSegment bs then t.segmentMessage .spi bs
      else t.sdoRequest .spi true bs
  | none => s

/-- A WRITE transaction is well formed: LEN of at most 1,036, that many bytes, and the CRC-16 over LEN and the message. -/
def spiFrameOk (bs : List Byte) : Bool :=
  let n := leAt bs 0 2
  decide (n ≤ 1036) && bs.length == n + 4 && leAt bs (n + 2) 2 == crc16 (bs.take (n + 2))

/-- SPI_WRITE (R413): delivered, or discarded when the buffer is full or the CRC fails. -/
def execSpiWrite (bytes : List Byte) (s : State) : Host.Outcome State Fault Refusal :=
  .next (s.inTurn (.spiWrite bytes) (if s.served .spi then
      if s.spi.request.isNone ∧ spiFrameOk bytes then
        ({ s with spi := { s.spi with request := some ((bytes.drop 2).take (leAt bytes 0 2)), discarded := false } }).spiRun
      else { s with spi := { s.spi with discarded := true } }
    else s))

/-- LEN, message and CRC of a READ. -/
def spiReadBytes (m : List Byte) : List Byte :=
  let body := leBytes 2 m.length ++ m
  body ++ leBytes 2 (crc16 body)

/-- SPI_READ (R413): the waiting response is transferred and freed; LEN 0 when none waits. -/
def execSpiRead (s : State) : Host.Outcome State Fault Refusal :=
  .next (s.inTurn (.spiRead) (if s.served .spi then
      ({ s with spi := { s.spi with
        response := s.spi.behind.head?.map (fun (r : Nat × List Byte) => r.2)
        behind := s.spi.behind.drop 1
        shifted := spiReadBytes (s.spi.response.getD []) } }).spiRun
    else s))

/-- The STATUS byte (R412). -/
def State.spiStatus (s : State) : Nat :=
  flag s.spi.response.isSome + 2 * flag s.spi.request.isNone + 4 * flag s.spi.discarded + 8 * flag s.intAsserted

/-- SPI_STATUS (R412). -/
def execSpiStatus (s : State) : Host.Outcome State Fault Refusal :=
  .next (if s.served .spi then { s with spi := { s.spi with shifted := [byteOf s.spiStatus] } } else s)

end Sys2Proof.Machine
end

