-- ==== Sys2Proof/Machine/Delivery.lean ====
section
/-!
DEFINITION. Frames of a session as they arrive: the reliable window, delivery in order, fragments, and the copies that a SHADOW
gets of the job session's frames (R380 to R382, R390 to R395, R463).
-/
namespace Sys2Proof.Machine

/-! ### Messages (R390) -/

/-- A reliable message delivered; kinds that host software does not send are discarded. -/
def State.deliverMessage (s : State) (n kind : Nat) (alone : Bool) (bs : List Byte) : State :=
  match kind with
  | 0x03 => s.closeSession n 1
  | 0x10 => s.sdoRequest (.ring n) alone bs
  | 0x12 => s.segmentMessage (.ring n) bs
  | _ => s

/-- A frame next in order: its number is taken, and its message delivered when complete. A JOB message fits one frame. -/
def State.takeInOrder (s : State) (n : Nat) (f : TreyxFrame) (alone : Bool) : State :=
  let t := s.tookFrame (.ring n)
  let x := t.session n
  if f.kind = 0x20 then t.jobMessageIn n f.seq f.start f.data
  else if f.more then t.setSession n { x with fragments := x.fragments ++ f.data }
  else (t.setSession n { x with fragments := [] }).deliverMessage n f.kind alone (x.fragments ++ f.data)

/-- Held frames delivered while the next one is there. -/
def State.takeHeld (n : Nat) : Nat → State → State
  | 0, s => s
  | fuel + 1, s =>
    let x := s.session n
    match x.held.find? (fun h => h.frame.seq == x.rxNext) with
    | none => s
    | some h =>
      State.takeHeld n fuel ((s.setSession n { x with held := x.held.filter (fun k => k.frame.seq != x.rxNext) }).takeInOrder n h.frame h.alone)

/-- A frame has been received before: below the next one expected, or held. -/
def Session.hasFrame (x : Session) (seq : Nat) : Bool := seqBelow seq x.rxNext || x.held.any (fun h => h.frame.seq == seq)

/-- A reliable frame (R392): in order, held beyond a gap, a duplicate answered with an ACK, or outside the window. -/
def State.reliableFrame (s : State) (n : Nat) (f : TreyxFrame) (alone : Bool) : State :=
  let x := s.session n
  let d := seqAhead x.rxNext f.seq
  if x.hasFrame f.seq then (s.bump 0x1031 3).message n 4 false []
  else if 64 ≤ d then s.bump 0x1031 4
  else if d = 0 then State.takeHeld n (x.held.length + 1) (s.takeInOrder n f alone)
  else s.setSession n { x with held := x.held ++ [⟨f, alone⟩], ackOwed := true }

/-- The RELIABLE value that a kind of host software's messages has. -/
def reliableKind (kind : Nat) : Bool := kind == 0x03 || kind == 0x10 || kind == 0x12 || kind == 0x20

/-- A frame of an open session: its acknowledgement, then its message. -/
def State.sessionFrame (s : State) (n : Nat) (f : TreyxFrame) (alone : Bool) : State :=
  let t := s.acked n f.ack f.sack
  if t.openRing n = false then t
  else if f.reliable then
    (if reliableKind f.kind then t.reliableFrame n f alone
     else t.reliableFrame n { f with kind := 0, more := false } alone)
  else t

/-- The peer of a session that a SHADOW follows is learned from its frames. -/
def State.learnPeer (s : State) (n source : Nat) : State :=
  if (s.session n).peer = 0 then s.setSession n { s.session n with peer := source } else s

/-- A job-session frame copied by a PRIMARY to its partner (R463). -/
def State.copyJob (s : State) (n : Nat) (f : TreyxFrame) : State :=
  if (s.session n).job then s.twinLead 0x08 (frameFields f) else s

/-- A Treyx frame consumed. -/
def State.consume (s : State) (source : Nat) (f : TreyxFrame) (alone : Bool) : State :=
  if s.ringServed = false then s
  else if f.session = 0 then
    if f.kind ≠ 1 ∨ f.reliable ∨ f.data.length ≠ 16 then s
    else s.openSession source f.data
  else if s.openRing f.session then ((s.learnPeer f.session source).copyJob f.session f).sessionFrame f.session f alone
  else s

/-! ### JOB_COPY (R463) -/

/-- A copied frame: a SESSION_OPEN opens the session under the PRIMARY's number; any other is taken in unless it is held. -/
def State.takeCopy (s : State) (f : TreyxFrame) : State :=
  if f.kind = 1 then
    if 1 ≤ f.session ∧ f.session ≤ 4 ∧ f.data.length = 16 then s.openQuiet f.session 0 (openAsk f.data) else s
  else if s.openRing f.session ∧ (s.session f.session).job then
    if f.reliable ∧ (s.session f.session).hasFrame f.seq then s else s.sessionFrame f.session f false
  else s

/-- JOB_COPY (R463). -/
def execJobCopy (seq : Nat) (frame : List Byte) (s : State) : Host.Outcome State Fault Refusal :=
  .next (s.shadowing seq (fun t => t.takeCopy (frameOf frame)))

end Sys2Proof.Machine
end

