-- ==== Sys2Proof/Machine/Jtag.lean ====
section
/-!
DEFINITION. The test access port (R682 to R684). PRESUMED from IEEE 1149.1, which R682 names without its text: the sixteen
states, capture and shift at rising edges, update and TDO at falling edges, IDCODE selected in Test-Logic-Reset, the word 01
captured in the two low bits of the instruction register, and all ones selecting BYPASS.
-/
namespace Sys2Proof.Machine

/-- The next state of the controller at a rising edge. -/
def TapState.next : TapState → Bool → TapState
  | .testLogicReset, tms => if tms then .testLogicReset else .runTestIdle
  | .runTestIdle, tms => if tms then .selectDr else .runTestIdle
  | .selectDr, tms => if tms then .selectIr else .captureDr
  | .captureDr, tms => if tms then .exit1Dr else .shiftDr
  | .shiftDr, tms => if tms then .exit1Dr else .shiftDr
  | .exit1Dr, tms => if tms then .updateDr else .pauseDr
  | .pauseDr, tms => if tms then .exit2Dr else .pauseDr
  | .exit2Dr, tms => if tms then .updateDr else .shiftDr
  | .updateDr, tms => if tms then .selectDr else .runTestIdle
  | .selectIr, tms => if tms then .testLogicReset else .captureIr
  | .captureIr, tms => if tms then .exit1Ir else .shiftIr
  | .shiftIr, tms => if tms then .exit1Ir else .shiftIr
  | .exit1Ir, tms => if tms then .updateIr else .pauseIr
  | .pauseIr, tms => if tms then .exit2Ir else .pauseIr
  | .exit2Ir, tms => if tms then .updateIr else .shiftIr
  | .updateIr, tms => if tms then .selectDr else .runTestIdle

/-- IDCODE (R682): 0x0325_6B5B with bits [3:0] of the minor field of REVISION in its version field. -/
def idcode (revision : Nat) : Nat := (0x03256B5B + (revision % 16) * 2 ^ 28) % 2 ^ 32

/-- EXTEST, CLAMP and HIGHZ may take effect (R683). -/
def State.testAllowed (s : State) : Bool := s.power.pwrgood && !s.power.resetFree

/-- The instruction that the bits of a complete instruction register select. Codes the manual does not give are those of
Config; all ones, and a code of no listed instruction, select BYPASS. -/
def tapInstrOf (bits : List Bool) : TapInstr :=
  if bits.all id then .bypass
  else match Config.tapOpcode bits with
    | 1 => .idcode
    | 2 => .samplePreload
    | 3 => .extest
    | 4 => .clamp
    | 5 => .highz
    | _ => .bypass

/-- What the data register captures: one 0 for BYPASS, CLAMP and HIGHZ, IDCODE, or the balls of the boundary register,
whose cells and order the manual does not list. -/
def State.tapCapture (s : State) : List Bool :=
  match s.tap.instr with
  | .idcode => (List.range 32).map (fun i => (idcode s.fuses.revision).testBit i)
  | .samplePreload => Config.boundaryCapture s.fresh
  | .extest => Config.boundaryCapture s.fresh
  | _ => [false]

/-- What the instruction register captures: 1 and 0 in its two low bits, the rest free. -/
def State.irCapture (s : State) : List Bool :=
  true :: false :: (List.range (Config.tapIrLength - 2)).map (fun i => (Config.freeNat s.fresh).testBit i)

/-- One bit shifted in at the far end as one leaves at the near end. -/
def shiftIn (reg : List Bool) (tdi : Bool) : List Bool := reg.drop 1 ++ [tdi]

/-- The registers at a rising edge, by the state the edge finds. -/
def State.tapClocked (s : State) (tdi : Bool) : State :=
  match s.tap.state with
  | .captureDr => { s with tap := { s.tap with shiftDr := s.tapCapture }, fresh := s.fresh + 1 }
  | .captureIr => { s with tap := { s.tap with shiftIr := s.irCapture }, fresh := s.fresh + 1 }
  | .shiftDr => { s with tap := { s.tap with shiftDr := shiftIn s.tap.shiftDr tdi } }
  | .shiftIr => { s with tap := { s.tap with shiftIr := shiftIn s.tap.shiftIr tdi } }
  | _ => s

/-- A rising edge: the registers clock, and the controller moves. -/
def State.tapRises (s : State) (tms tdi : Bool) : State :=
  let t := s.tapClocked tdi
  { t with tap := { t.tap with state := t.tap.state.next tms } }

/-- An instruction loaded: EXTEST, CLAMP and HIGHZ load BYPASS when they may not take effect (R683). -/
def State.loadInstr (s : State) : State :=
  let i := tapInstrOf s.tap.shiftIr
  { s with tap := { s.tap with instr := if s.testAllowed then i else i.harmless } }

/-- The update latches of the boundary register take the bits shifted in. -/
def State.updateLatches (s : State) : State :=
  match s.tap.instr with
  | .samplePreload => { s with tap := { s.tap with latches := s.tap.shiftDr } }
  | .extest => { s with tap := { s.tap with latches := s.tap.shiftDr } }
  | _ => s

/-- A falling edge: updates, and TDO, which is driven only while the TAP shifts (R675). -/
def State.tapFalls (s : State) : State :=
  let t := match s.tap.state with
    | .updateIr => s.loadInstr
    | .updateDr => s.updateLatches
    | .testLogicReset => { s with tap := { s.tap with instr := .idcode } }
    | _ => s
  { t with tap := { t.tap with tdo := match t.tap.state with
    | .shiftDr => t.tap.shiftDr.head?
    | .shiftIr => t.tap.shiftIr.head?
    | _ => none } }

/-- JTAG_TRST_N low holds the TAP in Test-Logic-Reset; the boundary register keeps its latches. -/
def State.tapReset (s : State) : State :=
  { s with tap := { s.tap with state := .testLogicReset, instr := .idcode, tdo := none } }

/-- JTAG_TCK_EDGE (R682 to R684): in OFF nothing feeds the port. -/
def execJtagTckEdge (rising tms tdi trstN : Bool) (s : State) : Host.Outcome State Fault Refusal :=
  .next (if s.dev.state = .off then s
    else if trstN = false then s.tapReset
    else if rising then s.tapRises tms tdi
    else s.tapFalls)

/-- The cells of EMIT_hh and BYPASS_HOLD cannot drive their balls high (R684): under EXTEST and CLAMP the balls are low. -/
def State.emitBall (s : State) (h : HeadNo) : Bool :=
  match s.tap.instr with
  | .extest => false
  | .clamp => false
  | _ => s.permit h

/-- The BYPASS_HOLD ball, in the same way (R684). -/
def State.bypassBall (s : State) : Bool :=
  match s.tap.instr with
  | .extest => false
  | .clamp => false
  | _ => s.bypassHold

end Sys2Proof.Machine
end

