-- ==== Sys2Proof/Machine/Power.lean ====
section
/-!
DEFINITION. Supplies, reset and the laser inhibit: VAUX, RESET_N, PWRGOOD, the rails, the exit from AUX (R587 to R600).
-/
namespace Sys2Proof.Machine

/-- VAUX_APPLIED (R589): VAUX has stayed at or above 2.65 V for 1 ms in OFF. The inhibit input is taken as low, as the
board's pull-down leaves it (R593, R595); operating hours resume from the stored value (R653). -/
def execVauxApplied (s : State) : Host.Outcome State Fault Refusal :=
  .next (if s.dev.state = .off then
      ({ s with
         dev := { s.dev with state := .aux, prev := .off }
         power := { s.power with vaux := true, inhibit := true, resetCause := 0x01, railFault := 0
                                 pwrgood := false, resetFree := false, entered := none }
         clk := { s.clk with island := 0 }
         recorder := { s.recorder with baseHours := s.recorder.storedHours, baseIsland := 0 } }).record 0x0001 [0x01, 0]
    else s)

/-- OFF: nothing but fuses and flash is left; a trip ends (R589, R715). -/
def State.poweredOff (s : State) : State :=
  let t := (s.failTrial s.dev.cause).tear.lost
  { t with
    dev := { t.dev with state := .off, prev := s.dev.state, cause := 0 }
    thermal := Thermal.initial
    recorder := { t.recorder with front := [], lost := 0 }
    power := { t.power with vaux := false, inhibit := true, powerCycles := 0
                            pwrgood := false, resetFree := false, entered := none } }

/-- VAUX_LOST (R589): any state falls to OFF. -/
def execVauxLost (s : State) : Host.Outcome State Fault Refusal :=
  .next (if s.dev.state = .off then s else s.poweredOff)

/-- RESET_N_ASSERTED (R19, R590, R592). -/
def execResetNAsserted (s : State) : Host.Outcome State Fault Refusal := .next (s.mainReset 0x04 0)

/-- PWRGOOD_DEASSERTED (R19, R590, R592). -/
def execPwrgoodDeasserted (s : State) : Host.Outcome State Fault Refusal := .next (s.mainReset 0x02 0)

/-- RAIL_UNDERVOLTAGE (R587): counts as a deasserted PWRGOOD; RAIL_FAULT names the rail, 0 VCORE to 4 VIO. -/
def execRailUndervoltage (rail : Nat) (s : State) : Host.Outcome State Fault Refusal :=
  .next (if rail < 5 then s.mainReset 0x03 (2 ^ rail) else s)

/-- The exit from AUX (R591): straps are sampled, BOOT is entered, start-up step 2 begins, or waits for cooling when the
island holds a trip (R19, R715). An inhibit in effect is counted at the first CLK_SYS cycle (R598). -/
def State.leaveAux (s : State) (dramOrg : Nat) (testEn : Bool) : State :=
  { s with
    dev := { s.dev with state := .boot, prev := .aux, cause := if s.thermal.tripped then 0x30 else 0x01, transEt := 0, count := 0
                        tripFrom := .boot, tripCause := 0x01 }
    power := { s.power with step := 2, startupTime := 0, startMark := s.clk.island, waitCool := s.thermal.tripped
                            dramOrg := dramOrg, testEn := testEn, inhibitMark := s.power.inhibit } }

/-- AUX_EXIT (R591). With TEST_EN high the straps are sampled and the controller stays in AUX until a later exit finds it
low (R680). EXTEST, CLAMP and HIGHZ end with the release of RESET_N (R683). -/
def execAuxExit (dramOrg : Nat) (testEn : Bool) (s : State) : Host.Outcome State Fault Refusal :=
  let t := ({ s with power := { s.power with pwrgood := true, resetFree := true, entered := none } }).testEnds
  .next (if s.dev.state = .aux then
      (if testEn then { t with power := { t.power with dramOrg := dramOrg % 16, testEn := true } }
       else t.leaveAux (dramOrg % 16) testEn)
    else s)

/-- LASER_INHIBIT_ASSERTED (R595, R596, R598): in AUX the island alone holds it; it is counted after the exit. -/
def execLaserInhibitAsserted (s : State) : Host.Outcome State Fault Refusal :=
  .next (s.inTurn (.laserInhibitAsserted) (if s.dev.state = .off ∨ s.power.inhibit then s
    else if s.dev.state = .aux then { s with power := { s.power with inhibit := true } }
    else s.inhibited))

/-- A release takes effect (R597, R598): the permits may rise, emission does not restart. -/
def State.released (s : State) : State :=
  (({ s with power := { s.power with inhibit := false } }).setLeaf 0x210F 1).record 0x0031 (leBytes 8 s.et)

/-- LASER_INHIBIT_RELEASED (R595): the input has stayed high for 1 ms. -/
def execLaserInhibitReleased (s : State) : Host.Outcome State Fault Refusal :=
  .next (s.inTurn (.laserInhibitReleased) (if s.dev.state = .off ∨ s.power.inhibit = false then s
    else if s.dev.state = .aux then { s with power := { s.power with inhibit := false } }
    else s.released))

end Sys2Proof.Machine
end

