-- ==== Sys2Proof/Machine/Ring.lean ====
section
/-!
DEFINITION. The ring ports: block lock, the fate of a received frame, forwarding, and the transparent clock (R14, R368 to R379,
R431, R433 to R435).
-/
namespace Sys2Proof.Machine

/-! ### Ports -/

/-- A port of the ring: 0 A, 1 B. -/
def Ring.port (r : Ring) (p : Nat) : RingPort := if p = 0 then r.portA else r.portB

/-- A port replaced. -/
def Ring.withPort (r : Ring) (p : Nat) (x : RingPort) : Ring := if p = 0 then { r with portA := x } else { r with portB := x }

/-- The ring side is powered: not in OFF or AUX. -/
def State.ringOn (s : State) : Bool := s.dev.state != .off && s.dev.state != .aux

/-- BLOCK_LOCK_LOSS (R377, R421, R560): counted with its leaf; the root is judged afresh. -/
def execBlockLockLoss (port : Nat) (s : State) : Host.Outcome State Fault Refusal :=
  .next (if port < 2 ∧ s.ringOn ∧ (s.ring.port port).lock then
      ((({ s with ring := s.ring.withPort port { s.ring.port port with lock := false } }).bump (0x1040 + port) 2).setLeaf 0x2108 port).sourceLost
        port
    else s)

/-- BLOCK_LOCK_GAIN (R14, R377, R378, R559): messages and a grant of 64 KiB that waited for a port leave, and a trial with both locks there has
succeeded. -/
def execBlockLockGain (port : Nat) (s : State) : Host.Outcome State Fault Refusal :=
  .next (if port < 2 ∧ s.ringOn then
      let t := ({ s with ring := s.ring.withPort port { s.ring.port port with lock := true } }).sourceLocked port
      let w := [1, 2, 3, 4].foldl (fun (v : State) n => if v.openRing n then v.drain n else v) t
      let u := if 65536 ≤ w.job.unsentGrant then w.grant else w
      if u.ring.bypass = .trial ∧ u.ring.bothLocked then u.raiseBypass else u
    else s)

/-! ### Fields of a frame: bytes from the destination address on, without the FCS -/

/-- The destination and source addresses. -/
def frameTo (bs : List Byte) : Nat := beNat (bs.take 6)

/-- The source address. -/
def frameFrom (bs : List Byte) : Nat := beNat ((bs.drop 6).take 6)

/-- A big-endian field. -/
def beAt (bs : List Byte) (off n : Nat) : Nat := beNat ((bs.drop off).take n)

/-- An IEEE 802.1Q tag. -/
def isTagged (bs : List Byte) : Bool := beAt bs 12 2 == 0x8100

/-- The EtherType, behind a tag where there is one. -/
def etherType (bs : List Byte) : Nat := if isTagged bs then beAt bs 16 2 else beAt bs 12 2

/-- Bytes put over a frame at an offset. -/
def patch (bs : List Byte) (off : Nat) (new : List Byte) : List Byte := bs.take off ++ new ++ bs.drop (off + new.length)

/-! ### The transparent clock (R370, R433) -/

/-- The residence time between an ingress and an egress capture, 2^−16 ns (R431 to R433). -/
def State.residence (s : State) (port ingress egress : Nat) : Int :=
  let i : Int := (ingress : Int) - s.corrAt port ingress
  let e : Int := (egress : Int) + s.corrAt (2 + (1 - port)) egress
  roundDiv ((e - i) * (2 ^ 40 + s.time.rho) * 65536) (10 * 2 ^ 40)

/-- What a forwarded Sync or Delay_Req leaves for its match. -/
def State.noteSeen (s : State) (kind : Nat) (bs : List Byte) (port ingress egress : Nat) : State :=
  let x : PtpSeen := ⟨kind, beAt bs 34 10, beAt bs 44 2, s.residence port ingress egress, ingress⟩
  let kept := s.ring.seen.filter (fun y => decide (ingress ≤ y.at_ + 100000000)
    && !(y.kind == kind && y.source == x.source && y.sequence == x.sequence))
  { s with ring := { s.ring with seen := kept ++ [x] } }

/-- A correctionField with a residence time added. -/
def corrected (bs : List Byte) (r : Int) : List Byte := patch bs 22 (beBytes 8 (unsignedOf 64 (sext 64 (beAt bs 22 8) + r)))

/-- A Follow_Up or Delay_Resp as it is forwarded: corrected by its match, or unchanged and counted. -/
def State.matchSeen (s : State) (kind source : Nat) (bs : List Byte) (port ingress : Nat) : State × List Byte :=
  match s.ring.seen.find? (fun y => y.kind == kind && y.source == source && y.sequence == beAt bs 44 2
      && decide (ingress ≤ y.at_ + 100000000)) with
  | some y => ({ s with ring := { s.ring with seen := s.ring.seen.filter (fun z => z != y) } }, corrected bs y.residence)
  | none => (s.bump (0x1040 + port) 10, bs)

/-- The Announce of a frame (IEEE 1588-2019). -/
def announceOf (bs : List Byte) (port : Nat) : Announce :=
  { port := port, quality := [beAt bs 61 1, beAt bs 62 1, beAt bs 63 1, beAt bs 64 2, beAt bs 66 1], identity := beAt bs 67 8
    stepsRemoved := beAt bs 75 2, senderId := beAt bs 34 10 }

/-- A frame is of the configured PTP domain. -/
def State.inDomain (s : State) (bs : List Byte) : Bool := beAt bs 18 1 == s.regN 0x1030 7

/-- The multicast address of PTP over IEEE 802.3 (R368). -/
def ptpAddress : Nat := 0x011B19000000

/-- twoStepFlag: the first byte of flagField, bit 1 (IEEE 1588-2019). -/
def twoStep (bs : List Byte) : Bool := (beAt bs 20 1).testBit 1

/-- logSyncInterval lies from −7 to 0 (R435). -/
def syncIntervalOk (bs : List Byte) : Bool :=
  let v := sext 8 (beAt bs 47 1)
  decide (-7 ≤ v) && decide (v ≤ 0)

/-- The clock identity made of NODE_MAC, and the port number. PRESUMED: IEEE 1588-2019 (log 110). -/
def State.portIdentity (s : State) (port : Nat) : List Byte :=
  let mac := beBytes 6 s.fuses.nodeMac
  mac.take 3 ++ [0xFF, 0xFE] ++ mac.drop 3 ++ beBytes 2 (port + 1)

/-- A Delay_Req of the controller's own, 44 bytes with every time and correction 0. PRESUMED: IEEE 1588-2019 (log 110). -/
def State.delayReqBytes (s : State) (port : Nat) : List Byte :=
  [0x01, 0x02] ++ beBytes 2 44 ++ [byteOf (s.regN 0x1030 7), 0] ++ List.replicate 14 0 ++ s.portIdentity port
    ++ beBytes 2 s.time.delaySeq ++ [0x01, 0x7F] ++ List.replicate 10 0

/-- A Delay_Req sent by a port (R369, R435). -/
def State.sendDelayReq (s : State) (port : Nat) : State :=
  let t := s.sendOwn port [s.ethernet ptpAddress 0x88F7 (s.delayReqBytes port)]
  { t with time := { t.time with delaySeq := (t.time.delaySeq + 1) % 65536 } }

/-- A two-step Sync of the selected grandmaster on the selected port begins an exchange and is answered with a Delay_Req (R368, R435). -/
def State.ptpSync (s : State) (bs : List Byte) (port : Nat) : State :=
  match s.time.master with
  | some m =>
    if m.port = port ∧ m.senderId = beAt bs 34 10 ∧ twoStep bs ∧ syncIntervalOk bs then
      ({ s with time := { s.time with exchange := some (beAt bs 44 2, s.et) } }).sendDelayReq port
    else s
  | none => s

/-- What the controller itself takes from a PTP frame to the multicast address (R368). -/
def State.usePtp (s : State) (bs : List Byte) (port : Nat) : State :=
  if s.inDomain bs = false ∨ frameTo bs ≠ ptpAddress then s
  else match beAt bs 14 1 % 16 with
    | 0x0 => s.ptpSync bs port
    | 0xB => s.announced (announceOf bs port)
    | _ => s

/-- A PTP frame as it is forwarded. -/
def State.transparent (s : State) (bs : List Byte) (port ingress egress : Nat) : State × List Byte :=
  if frameTo bs ≠ ptpAddress then (s, bs)
  else match beAt bs 14 1 % 16 with
  | 0x0 => (if twoStep bs then s.noteSeen 0 bs port ingress egress else s, bs)
  | 0x1 => (s.noteSeen 1 bs port ingress egress, bs)
  | 0x8 => s.matchSeen 0 (beAt bs 34 10) bs port ingress
  | 0x9 => s.matchSeen 1 (beAt bs 58 10) bs port ingress
  | _ => (s, bs)

/-! ### Forwarding (R372 to R374) -/

/-- The bytes that wait in the forwarding queue of the other port at an ingress capture. -/
def State.waitingOut (s : State) (port ingress : Nat) : List (Nat × Nat) :=
  (s.ring.port (1 - port)).queue.filter (fun q => decide (ingress < q.1))

/-- The forwarding queue of 16 KiB has room for a frame and its FCS. -/
def State.queueRoom (s : State) (port ingress : Nat) (bs : List Byte) : Bool :=
  decide (((s.waitingOut port ingress).map (fun q => q.2)).sum + (bs.length + 4) ≤ 16384)

/-- A frame sent on by the other port: counted at the port it came in by, and stomped when its FCS was wrong. -/
def State.sendOn (s : State) (port ingress egress : Nat) (fcsOk : Bool) (bs : List Byte) : State :=
  let q := s.waitingOut port ingress ++ [(egress, bs.length + 4)]
  let t := ({ s with
    ring := s.ring.withPort (1 - port) { s.ring.port (1 - port) with queue := q }
    out := s.out ++ [Out.forwarded (1 - port) bs (!fcsOk)] }).bump (0x1040 + port) 4
  if fcsOk then t else t.bump (0x1040 + port) 6

/-- A frame to be forwarded: while forwarding runs, and unless the queue is full. -/
def State.forward (s : State) (port ingress egress : Nat) (fcsOk : Bool) (bs : List Byte) : State :=
  if s.ring.forwarding = false then s
  else if s.queueRoom port ingress bs then s.sendOn port ingress egress fcsOk bs
  else s.bump (0x1040 + port) 7

/-- A PTP frame forwarded, with the transparent clock's part while forwarding runs. -/
def State.forwardPtp (s : State) (port ingress egress : Nat) (fcsOk : Bool) (bs : List Byte) : State :=
  if s.ring.forwarding ∧ fcsOk ∧ s.queueRoom port ingress bs then
    let x := s.transparent bs port ingress egress
    x.1.sendOn port ingress egress fcsOk x.2
  else s.forward port ingress egress fcsOk bs

/-- A Treyx frame with HOPS one lower (R372). -/
def oneHopLess (bs : List Byte) : List Byte := patch bs 15 [byteOf (beAt bs 15 1 - 1)]

/-! ### The fate of a frame (R371) -/

/-- The fates of R371. -/
inductive Fate where
  | own
  | foreign
  | ptp
  | tagged
  | mine
  | group
  | other
  deriving DecidableEq, Repr

/-- The first row of R371 whose condition holds. A tagged frame of a known EtherType is forwarded unchanged and never
consumed (R368). -/
def State.fate (s : State) (bs : List Byte) : Fate :=
  let dest := frameTo bs
  if frameFrom bs = s.fuses.nodeMac then .own
  else if etherType bs ≠ s.regN 0x1030 1 ∧ etherType bs ≠ 0x88F7 then .foreign
  else if isTagged bs then .tagged
  else if etherType bs = 0x88F7 then .ptp
  else if dest = s.fuses.nodeMac then .mine
  else if dest = 2 ^ 48 - 1 ∨ (s.reg 0x1030 2 ≠ 0 ∧ dest = s.regN 0x1030 2 % 2 ^ 48) then .group
  else .other

/-- A frame consumed when its FCS is right (R369). -/
def State.consumeFrame (s : State) (fcsOk : Bool) (bs : List Byte) (alone : Bool) : State :=
  if fcsOk then s.consume (frameFrom bs) (frameOf (bs.drop 14)) alone else s

/-- A frame dealt with by its fate. -/
def State.dispose (s : State) (port ingress egress : Nat) (fcsOk : Bool) (bs : List Byte) : State :=
  let hops := beAt bs 15 1
  match s.fate bs with
  | .own => s
  | .foreign => s.bump (0x1040 + port) 7
  | .tagged => s.forward port ingress egress fcsOk bs
  | .ptp => (if fcsOk then s.usePtp bs port else s).forwardPtp port ingress egress fcsOk bs
  | .mine => s.consumeFrame fcsOk bs true
  | .group => (if 0 < hops then s.forward port ingress egress fcsOk (oneHopLess bs) else s).consumeFrame fcsOk bs false
  | .other => if 0 < hops then s.forward port ingress egress fcsOk (oneHopLess bs) else s.bump (0x1040 + port) 7

/-- Within 2 µs of an edge of BYPASS_HOLD (R379). -/
def State.changingOver (s : State) : Bool :=
  match s.ring.edgeAt with
  | some e => decide (s.et ≤ e + 1250)
  | none => false

/-- A frame counted as it comes in: truncated or damaged ones within a change-over besides (R379, R421). -/
def State.countFrame (s : State) (port : Nat) (whole fcsOk : Bool) : State :=
  let t := s.bump (0x1040 + port) 3
  let u := if fcsOk then t else t.bump (0x1040 + port) 5
  if s.changingOver ∧ (fcsOk = false ∨ whole = false) then u.bump (0x1040 + port) 8 else u

/-- RING_FRAME_RECEIVED (R371): the bytes from the destination address to the end of the padding, whether the FCS is right,
and the captures at ingress and, for a forwarded frame, at egress in 1/16 tick (R431). A frame above 1,518 bytes is discarded and
counted; one cut short below 64 bytes has no right FCS: once its 16 header bytes are in it is on its way out and leaves stomped
(R368, R372, R373). -/
def execRingFrameReceived (port : Nat) (bytes : List Byte) (fcsOk : Bool) (ingress egress : Nat) (s : State) :
    Host.Outcome State Fault Refusal :=
  .next (s.inTurn (.ringFrameReceived port bytes fcsOk ingress egress) (if port < 2 ∧ s.ringServed ∧ (s.ring.port port).lock then
      let t := s.countFrame port (decide (60 ≤ bytes.length)) fcsOk
      if bytes.length < 30 then t
      else if 1514 < bytes.length then t.bump (0x1040 + port) 7
      else t.dispose port ingress egress (fcsOk && decide (60 ≤ bytes.length)) bytes
    else s))

end Sys2Proof.Machine
end

