-- ==== Sys2Proof/Machine/Servo.lean ====
section
/-!
DEFINITION. The servo period boundary: running checks of the period that ends, entry checks due, and the set-point groups of
the period that begins (R123, R222 to R233).
-/
namespace Sys2Proof.Machine

/-- The groups of servo period k formed for the heads whose links send frames. -/
def State.formGroups (s : State) (k : Nat) : State :=
  (List.range 32).foldl (fun t h => if (t.head h).link.state = .operation then t.formGroup h k else t) s

/-- The items of every head planned up to the end of the servo period that begins. -/
def State.planHeads (s : State) (b : Tick) : State := (List.range 32).foldl (fun t h => t.planAhead h (b + t.servoTicks)) s

/-- What happens at the boundary b. A SHADOW makes the running checks too, and only counts (R234). -/
def State.servoBoundary (s : State) (b : Tick) : State :=
  (((s.runningChecks.keepoutChecks).planHeads b).entryChecks b).formGroups (b / s.servoTicks)

/-- The fields of a MOTION message: the recoater axis and the newest report. -/
def State.motionFields (s : State) : List Int :=
  [if s.reg 0x5002 1 < 8 then s.recoaterCount (s.regN 0x5002 1) else 0, (s.motion.recoat.reported : Nat)]

/-- The motion controller of a pair tells its partner of the recoater every servo period (R456, R466). -/
def State.tellMotion (s : State) : State := if s.paired ∧ s.runsMotion then s.twinSend 0x0C s.motionFields else s

/-- SERVO_PERIOD_TICK (R123): has its effect at a servo period boundary. -/
def execServoPeriodTick (s : State) : Host.Outcome State Fault Refusal :=
  .next (if s.seqRuns ∧ s.et % s.servoTicks = 0 then (s.servoBoundary s.et).tellMotion else s)

end Sys2Proof.Machine
end

