-- ==== Sys2Proof/Machine/Thermal.lean ====
section
/-!
DEFINITION. The thermal monitor: measurements, exclusion, fast mode, warnings, the trip and the restart (R572 to R586,
R715). Readings are in 0.01 °C.
-/
namespace Sys2Proof.Machine

/-! ### Exclusion (R572, R574, R575) -/

/-- The neighbours of TSk on the 4 × 4 grid. -/
def neighbours (k : Nat) : List Nat :=
  (List.range 16).filter (fun n => (n / 4 == k / 4 && (n + 1 == k || k + 1 == n)) || (n % 4 == k % 4 && (n + 4 == k || k + 4 == n)))

/-- Inserts into an ascending list. -/
def insertInt (x : Int) : List Int → List Int
  | [] => [x]
  | y :: ys => if x ≤ y then x :: y :: ys else y :: insertInt x ys

/-- Twice the median: the mean of the two middle readings for an even number. -/
def median2 (xs : List Int) : Int :=
  let s := xs.foldl (fun acc x => insertInt x acc) []
  let n := s.length
  s.getD ((n - 1) / 2) 0 + s.getD (n / 2) 0

/-- Twice the median of a sensor's valid neighbours; none with fewer than two (R574). -/
def Thermal.median (t : Thermal) (readings : List Int) (k : Nat) : Option Int :=
  let vs := (neighbours k).filter (fun n => !(t.sensors.getD n ⟨0, false, 0, none⟩).excluded)
  if vs.length < 2 then none else some (median2 (vs.map (fun n => readings.getD n 0)))

/-- A sensor judged at a measurement, before any change of status (R574). -/
def Sensor.judged (x : Sensor) (reading : Int) (median : Option Int) (now : Nat) : Sensor :=
  match median with
  | none => { x with reading := reading, disagree := 0, agreeSince := none }
  | some m =>
    let d := if 2 * reading < m then m - 2 * reading else 2 * reading - m
    if x.excluded then { x with reading := reading, agreeSince := if d ≤ 1600 then some (x.agreeSince.getD now) else none }
    else { x with reading := reading, disagree := if 2400 < d then x.disagree + 1 else 0 }

/-- A sensor is due for restoration: it has agreed for 1 s. -/
def Sensor.restores (x : Sensor) (now : Nat) : Bool :=
  x.excluded && match x.agreeSince with
    | some t => decide (t + 625000000 ≤ now)
    | none => false

/-- A sensor is due for exclusion: the fourth consecutive disagreement. -/
def Sensor.excludes (x : Sensor) : Bool := !x.excluded && decide (4 ≤ x.disagree)

/-- Exclusions in ascending k up to four at once; the second value says that one was turned away (R575). -/
def excludeInOrder : (count : Nat) → List Sensor → List Sensor × Bool
  | _, [] => ([], false)
  | c, x :: xs =>
    if x.excludes then
      if c < 4 then
        let r := excludeInOrder (c + 1) xs
        ({ x with excluded := true, disagree := 0, agreeSince := none } :: r.1, r.2)
      else let r := excludeInOrder c xs; (x :: r.1, true)
    else let r := excludeInOrder c xs; (x :: r.1, r.2)

/-- The sensors after a measurement: restorations first, then exclusions (R575). -/
def Thermal.measured (t : Thermal) (readings : List Int) (now : Nat) : List Sensor × Bool :=
  let js := (t.sensors.zip (List.range 16)).map (fun (x, k) => x.judged (readings.getD k 0) (t.median readings k) now)
  let rs := js.map (fun x => if x.restores now then { x with excluded := false, disagree := 0, agreeSince := none } else x)
  excludeInOrder (rs.countP (fun x => x.excluded)) rs

/-- The readings that take part in a measurement: valid before it or after it (R576). -/
def partReadings (before after : List Sensor) : List (Nat × Int) :=
  ((before.zip after).zip (List.range 16)).filterMap (fun ((x, y), k) =>
    if x.excluded && y.excluded then none else some (k, y.reading))

/-- The highest reading and its lowest sensor. -/
def hottest (rs : List (Nat × Int)) : Nat × Int :=
  rs.foldl (fun a r => if a.2 < r.2 then r else a) (rs.headD (0, 0))

/-! ### Effects of a measurement -/

/-- Changes of status reported: records, EXCLUSIONS, leaves (R574, R586, R655). -/
def State.reportExclusions (s : State) (before : List Sensor) (readings : List Int) : State :=
  ((before.zip s.thermal.sensors).zip (List.range 16)).foldl (fun t ((x, y), k) =>
    if x.excluded = y.excluded then t
    else
      let m := ((Thermal.median { s.thermal with sensors := before } readings k).getD 0) / 2
      let r := t.record 0x0022 ([byteOf k, byteOf (flag y.excluded)] ++ leBytesInt 2 y.reading ++ leBytesInt 2 m)
      if y.excluded then (r.bump 0x2031 13).setLeaf 0x210E 5 else r) s

/-- EXCLUSION_LIMIT (R575). -/
def State.exclusionLimit (s : State) (turned : Bool) : State :=
  let set := turned || (s.thermal.limitSet && decide (4 ≤ s.thermal.sensors.countP (fun x => x.excluded)))
  let t := { s with thermal := { s.thermal with limitSet := set } }
  if set && !s.thermal.limitSet then t.setLeaf 0x210E 6 else t

/-- DIE_MAX, DIE_MAX_SENSOR and PEAK (R585). -/
def State.dieMax (s : State) (top : Nat × Int) : State :=
  ((s.setReg 0x2031 1 top.2).setReg 0x2031 2 top.1).raiseReg 0x2031 14 top.2

/-- Fast mode (R573). -/
def State.fastMode (s : State) (top : Int) : State :=
  if !s.thermal.fast && decide (10800 ≤ top) then ({ s with thermal := { s.thermal with fast := true } }).setLeaf 0x210E 4
  else if s.thermal.fast && decide (top < 10600) then { s with thermal := { s.thermal with fast := false } }
  else s

/-- The die warning (R578). -/
def State.dieWarning (s : State) (top : Int) : State :=
  if !s.thermal.warning && decide (s.reg 0x2030 1 ≤ top) then
    (({ s with thermal := { s.thermal with warning := true } }).bump 0x2031 12).setLeaf 0x210E 2
  else if s.thermal.warning && decide (top < s.reg 0x2030 1 - 500) then { s with thermal := { s.thermal with warning := false } }
  else s

/-- The onset of a trip (R579 to R581): counts, leaf and record; emission is removed head by head, every link is held in
DISABLED and every optics temperature is invalid; then the states follow. -/
def State.trip (s : State) (top : Nat × Int) : State :=
  let t := { s with thermal := { s.thermal with tripped := true } }
  let u := (((t.bump 0x2031 9).setReg 0x2031 10 s.et).setReg 0x2031 11 top.1).setLeaf 0x210E 0
  let v := u.record 0x0020 (leBytes 8 s.et ++ [byteOf top.1] ++ leBytesInt 2 top.2 ++ [byteOf s.dev.state.code])
  (((List.range 32).foldl State.tripHead v).stopLinks 0x07).tripState

/-- The trip at a measurement; the time of the latest reading at or above 118.00 °C (R579, R582). -/
def State.judgeTrip (s : State) (top : Nat × Int) : State :=
  if 11800 ≤ top.2 then
    let t := { s with thermal := { s.thermal with hotAt := s.clk.island } }
    if s.thermal.tripped then t else t.trip top
  else s

/-- A channel retrains when the sensor at its interface, TS12 or TS13, has moved by more than RETRAIN_DELTA (R545). -/
def State.retrainByDelta (s : State) (readings : List Int) : State :=
  { s with dram := { s.dram with channels := (s.dram.channels.zip (List.range 2)).map (fun (c, k) =>
    let d := readings.getD (12 + k) 0 - c.trainedAt
    if c.trained && decide (s.reg 0xA000 3 * 100 < (if d < 0 then -d else d)) then { c with retrainDue := true } else c) } }

/-- A measurement of the 16 sensors. A sensor that changes status counts as valid in it, for DIE_MAX and PEAK as for what R576 names: DEDUCED
(log 113). -/
def State.measure (s : State) (readings : List Int) : State :=
  let m := s.thermal.measured readings s.clk.island
  let before := s.thermal.sensors
  let parts := partReadings before m.1
  let t := { s with thermal := { s.thermal with sensors := m.1, cool := parts.all (fun x => decide (x.2 < 10000)) } }
  let top := hottest parts
  (((((((t.reportExclusions before readings).exclusionLimit m.2).dieMax top).fastMode top.2).dieWarning top.2).retrainByDelta
    readings).judgeTrip top)

/-- THERMAL_MEASUREMENT (R573): in every state except OFF and AUX. -/
def execThermalMeasurement (readings : List Int) (s : State) : Host.Outcome State Fault Refusal :=
  .next (s.inTurn (.thermalMeasurement readings) (if s.dev.state = .off ∨ s.dev.state = .aux then s else s.measure readings))

/-! ### The restart (R582, R583) -/

/-- The restart condition. -/
def State.cooled (s : State) : Bool :=
  s.thermal.tripped && s.thermal.cool && decide (s.thermal.hotAt + 625000000 ≤ s.clk.island)

/-- Start-up goes on after a trip in BOOT: at step 3 when the main PLL is locked, else with judgement from its first gate
(R19, R564). -/
def State.resumeBoot (s : State) : State :=
  { s with
    power := { s.power with waitCool := false, step := if s.clocks.mainLock then 3 else 2 }
    clocks := if s.clocks.mainLock then s.clocks else { s.clocks with judged := [], judgeGates := 0, stable := false } }

/-- The state after the restart from FAULT with cause 0x0030 (R19, R583). -/
def State.leaveTrip (s : State) : State :=
  let still := s.dev.kept.filter s.present
  let t := { s with dev := { s.dev with kept := [] } }
  if still ≠ [] then t.automatic .fault (still.foldl max 0)
  else match s.dev.tripFrom with
    | .fault => t.automatic .standby 0x42
    | .standby => t.automatic .standby 0x42
    | .restricted =>
      if s.power.step = 0 then (t.automatic .restricted s.dev.tripCause).axesOff
      else ({ t with power := { t.power with step := 5 } }.automatic .restricted 0x01).axesOff
    | _ => (t.automatic .paused 0x42).holdHeads

/-- The restart carried out: the gated branches and the links resume. -/
def State.restartAfterTrip (s : State) : State :=
  let t := ({ s with thermal := { s.thermal with tripped := false } }).setLeaf 0x210E 1
  let u := if s.dev.state = .fault ∧ s.dev.cause = 0x30 then t.leaveTrip
    else if s.dev.state = .boot then
      if 0x10 ≤ s.dev.tripCause ∧ s.dev.tripCause ≤ 0x12 then t.automatic .boot s.dev.tripCause
      else (t.automatic .boot 0x01).resumeBoot
    else t
  let v := u.record 0x0021 (leBytes 8 s.et ++ [byteOf u.dev.state.code])
  if v.linksTrain then v.startLinks else v

/-- THERMAL_RESTART (R582). -/
def execThermalRestart (s : State) : Host.Outcome State Fault Refusal :=
  .next (if s.cooled then s.restartAfterTrip else s)

/-- OPTICS_TEMP_TIMEOUT (R577): no valid payload of a head for 10 ms. -/
def execOpticsTempTimeout (h : Nat) (s : State) : Host.Outcome State Fault Refusal :=
  .next (if h < 32 then s.opticsLost h else s)

end Sys2Proof.Machine
end

