-- ==== Sys2Proof/Machine/Dispatch.lean ====
section
/-!
DEFINITION. The dispatch: one arm per command, each one direct call of the command's meaning.
-/
namespace Sys2Proof.Machine

def exec (i : Instr) (s : State) : Host.Outcome State Fault Refusal :=
  match i with
  | .vauxApplied => Sys2Proof.Machine.execVauxApplied s
  | .vauxLost => Sys2Proof.Machine.execVauxLost s
  | .resetNAsserted => Sys2Proof.Machine.execResetNAsserted s
  | .pwrgoodDeasserted => Sys2Proof.Machine.execPwrgoodDeasserted s
  | .railUndervoltage rail => Sys2Proof.Machine.execRailUndervoltage rail s
  | .auxExit dramOrg testEn => Sys2Proof.Machine.execAuxExit dramOrg testEn s
  | .laserInhibitAsserted => Sys2Proof.Machine.execLaserInhibitAsserted s
  | .laserInhibitReleased => Sys2Proof.Machine.execLaserInhibitReleased s
  | .oscillatorGate reference count => Sys2Proof.Machine.execOscillatorGate reference count s
  | .mainPllLock => Sys2Proof.Machine.execMainPllLock s
  | .pllsLocked => Sys2Proof.Machine.execPllsLocked s
  | .dramTrainingDone failed seed0 seed1 => Sys2Proof.Machine.execDramTrainingDone failed seed0 seed1 s
  | .imageCheckDone => Sys2Proof.Machine.execImageCheckDone s
  | .ringJoinDone => Sys2Proof.Machine.execRingJoinDone s
  | .ringWaitExpiry => Sys2Proof.Machine.execRingWaitExpiry s
  | .headLinkStepDone => Sys2Proof.Machine.execHeadLinkStepDone s
  | .calibrationLoadDone => Sys2Proof.Machine.execCalibrationLoadDone s
  | .arm path alone => Sys2Proof.Machine.execArm path alone s
  | .run path alone => Sys2Proof.Machine.execRun path alone s
  | .pause path alone => Sys2Proof.Machine.execPause path alone s
  | .pauseHoldReached => Sys2Proof.Machine.execPauseHoldReached s
  | .resume path alone => Sys2Proof.Machine.execResume path alone s
  | .stop path alone => Sys2Proof.Machine.execStop path alone s
  | .disarm path alone => Sys2Proof.Machine.execDisarm path alone s
  | .clear path alone => Sys2Proof.Machine.execClear path alone s
  | .restart path alone => Sys2Proof.Machine.execRestart path alone s
  | .requestNone path alone => Sys2Proof.Machine.execRequestNone path alone s
  | .stateRequestInvalid path code => Sys2Proof.Machine.execStateRequestInvalid path code s
  | .watchdogExpiry => Sys2Proof.Machine.execWatchdogExpiry s
  | .firmwareRestartComplete => Sys2Proof.Machine.execFirmwareRestartComplete s
  | .thermalMeasurement readings => Sys2Proof.Machine.execThermalMeasurement readings s
  | .thermalRestart => Sys2Proof.Machine.execThermalRestart s
  | .opticsTempTimeout h => Sys2Proof.Machine.execOpticsTempTimeout h s
  | .downlinkFrameAssembly h => Sys2Proof.Machine.execDownlinkFrameAssembly h s
  | .uplinkFrameReceived h first chars arrival => Sys2Proof.Machine.execUplinkFrameReceived h first chars arrival s
  | .headLinkEnableWrite path h value => Sys2Proof.Machine.execHeadLinkEnableWrite path h value s
  | .headLinkTrainingTimeout h => Sys2Proof.Machine.execHeadLinkTrainingTimeout h s
  | .retrainHoldoffExpiry h => Sys2Proof.Machine.execRetrainHoldoffExpiry h s
  | .uplinkLockLoss h => Sys2Proof.Machine.execUplinkLockLoss h s
  | .ringFrameReceived port bytes fcsOk ingress egress => Sys2Proof.Machine.execRingFrameReceived port bytes fcsOk ingress egress s
  | .blockLockLoss port => Sys2Proof.Machine.execBlockLockLoss port s
  | .bypassLossTimeout => Sys2Proof.Machine.execBypassLossTimeout s
  | .bypassRaise => Sys2Proof.Machine.execBypassRaise s
  | .bypassRetryExpiry => Sys2Proof.Machine.execBypassRetryExpiry s
  | .bypassTrialTimeout => Sys2Proof.Machine.execBypassTrialTimeout s
  | .bypassEnableWrite path value => Sys2Proof.Machine.execBypassEnableWrite path value s
  | .sessionOpen source payload => Sys2Proof.Machine.execSessionOpen source payload s
  | .sessionClose n => Sys2Proof.Machine.execSessionClose n s
  | .ack n ack sack => Sys2Proof.Machine.execAck n ack sack s
  | .rtoExpiry n seq => Sys2Proof.Machine.execRtoExpiry n seq s
  | .ackDelayExpiry n => Sys2Proof.Machine.execAckDelayExpiry n s
  | .sessionTimeout n => Sys2Proof.Machine.execSessionTimeout n s
  | .sdoRead path tid index sub => Sys2Proof.Machine.execSdoRead path tid index sub s
  | .sdoWrite path tid index sub data alone => Sys2Proof.Machine.execSdoWrite path tid index sub data alone s
  | .blockWrite path tid index sub total => Sys2Proof.Machine.execBlockWrite path tid index sub total s
  | .blockRead path tid index sub => Sys2Proof.Machine.execBlockRead path tid index sub s
  | .sdoAbort path tid index sub => Sys2Proof.Machine.execSdoAbort path tid index sub s
  | .blockSegment path tid number last data => Sys2Proof.Machine.execBlockSegment path tid number last data s
  | .blockTransferTimeout path => Sys2Proof.Machine.execBlockTransferTimeout path s
  | .dictionaryWrite path index sub data => Sys2Proof.Machine.execDictionaryWrite path index sub data s
  | .spiWrite bytes => Sys2Proof.Machine.execSpiWrite bytes s
  | .spiRead => Sys2Proof.Machine.execSpiRead s
  | .spiStatus => Sys2Proof.Machine.execSpiStatus s
  | .challenge path => Sys2Proof.Machine.execChallenge path s
  | .response path data => Sys2Proof.Machine.execResponse path data s
  | .drop path => Sys2Proof.Machine.execDrop path s
  | .authLockoutExpiry => Sys2Proof.Machine.execAuthLockoutExpiry s
  | .store path value => Sys2Proof.Machine.execStore path value s
  | .storeComplete good => Sys2Proof.Machine.execStoreComplete good s
  | .restoreDefaults path value => Sys2Proof.Machine.execRestoreDefaults path value s
  | .job n start more data => Sys2Proof.Machine.execJob n start more data s
  | .grantTimerExpiry => Sys2Proof.Machine.execGrantTimerExpiry s
  | .segmentDecision => Sys2Proof.Machine.execSegmentDecision s
  | .segmentStaged id => Sys2Proof.Machine.execSegmentStaged id s
  | .headStart h id => Sys2Proof.Machine.execHeadStart h id s
  | .itemComplete h => Sys2Proof.Machine.execItemComplete h s
  | .barrierRelease id barrier => Sys2Proof.Machine.execBarrierRelease id barrier s
  | .dataWaitEnd h => Sys2Proof.Machine.execDataWaitEnd h s
  | .drainHoldEnd h => Sys2Proof.Machine.execDrainHoldEnd h s
  | .lineBufferWrite h b => Sys2Proof.Machine.execLineBufferWrite h b s
  | .segmentClose id => Sys2Proof.Machine.execSegmentClose id s
  | .closeMessageSend id => Sys2Proof.Machine.execCloseMessageSend id s
  | .slackEvaluation id => Sys2Proof.Machine.execSlackEvaluation id s
  | .slackReport => Sys2Proof.Machine.execSlackReport s
  | .cancelId path id => Sys2Proof.Machine.execCancelId path id s
  | .defectRecordSplit h cause => Sys2Proof.Machine.execDefectRecordSplit h cause s
  | .servoPeriodTick => Sys2Proof.Machine.execServoPeriodTick s
  | .stitchTableWrite path index sub data => Sys2Proof.Machine.execStitchTableWrite path index sub data s
  | .pipelineDispatch pipe => Sys2Proof.Machine.execPipelineDispatch pipe s
  | .processingComplete pipe => Sys2Proof.Machine.execProcessingComplete pipe s
  | .featureRecordHandover h => Sys2Proof.Machine.execFeatureRecordHandover h s
  | .archiveCopyComplete h => Sys2Proof.Machine.execArchiveCopyComplete h s
  | .commit path h => Sys2Proof.Machine.execCommit path h s
  | .laneDispatch lane => Sys2Proof.Machine.execLaneDispatch lane s
  | .darkCapture path value => Sys2Proof.Machine.execDarkCapture path value s
  | .darkCaptureComplete h b => Sys2Proof.Machine.execDarkCaptureComplete h b s
  | .loopEnable path h sub value => Sys2Proof.Machine.execLoopEnable path h sub value s
  | .lawWrite path law sub data => Sys2Proof.Machine.execLawWrite path law sub data s
  | .sampleRateSwitch => Sys2Proof.Machine.execSampleRateSwitch s
  | .ptpExchangeComplete t1 c1 t2 t3 t4 c2 => Sys2Proof.Machine.execPtpExchangeComplete t1 c1 t2 t3 t4 c2 s
  | .ptpExchangeTimeout => Sys2Proof.Machine.execPtpExchangeTimeout s
  | .announceTimeout => Sys2Proof.Machine.execAnnounceTimeout s
  | .ntReanchor => Sys2Proof.Machine.execNtReanchor s
  | .stepNow path value => Sys2Proof.Machine.execStepNow path value s
  | .etIn path value => Sys2Proof.Machine.execEtIn path value s
  | .ntInNanoseconds path value => Sys2Proof.Machine.execNtInNanoseconds path value s
  | .heartbeatSend => Sys2Proof.Machine.execHeartbeatSend s
  | .heartbeat sendEt role state epoch nextSeq jobHeld => Sys2Proof.Machine.execHeartbeat sendEt role state epoch nextSeq jobHeld s
  | .twinAliveEdge => Sys2Proof.Machine.execTwinAliveEdge s
  | .takeover => Sys2Proof.Machine.execTakeover s
  | .twinLinkFailed => Sys2Proof.Machine.execTwinLinkFailed s
  | .ownHeartbeatLapse => Sys2Proof.Machine.execOwnHeartbeatLapse s
  | .decision seq transport tRef latency => Sys2Proof.Machine.execDecision seq transport tRef latency s
  | .outcome seq transport id code promise => Sys2Proof.Machine.execOutcome seq transport id code promise s
  | .plan seq id h kind item applyEt value => Sys2Proof.Machine.execPlan seq id h kind item applyEt value s
  | .cut seq id h cause mask onsetEt => Sys2Proof.Machine.execCut seq id h cause mask onsetEt s
  | .stateMessage seq request cause applyEt => Sys2Proof.Machine.execStateMessage seq request cause applyEt s
  | .twinWrite seq before index sub data => Sys2Proof.Machine.execTwinWrite seq before index sub data s
  | .jobCopy seq frame => Sys2Proof.Machine.execJobCopy seq frame s
  | .hostCopy seq frame => Sys2Proof.Machine.execHostCopy seq frame s
  | .digest seq id value => Sys2Proof.Machine.execDigest seq id value s
  | .ledger seq snapshotEt ids channels planned correction delivered withheld => Sys2Proof.Machine.execLedger seq snapshotEt ids channels planned correction delivered withheld s
  | .ledgerSend => Sys2Proof.Machine.execLedgerSend s
  | .motion seq count layer => Sys2Proof.Machine.execMotion seq count layer s
  | .repeatRequest seq first count => Sys2Proof.Machine.execRepeatRequest seq first count s
  | .twinMessageLate seq => Sys2Proof.Machine.execTwinMessageLate seq s
  | .stateDivergenceTimeout => Sys2Proof.Machine.execStateDivergenceTimeout s
  | .twinLinkBlockLock versionMax versionMin firmware microcode digest rank serial role trips sendEt => Sys2Proof.Machine.execTwinLinkBlockLock versionMax versionMin firmware microcode digest rank serial role trips sendEt s
  | .twinSoloTimeout => Sys2Proof.Machine.execTwinSoloTimeout s
  | .join path value => Sys2Proof.Machine.execJoin path value s
  | .autoJoinStart => Sys2Proof.Machine.execAutoJoinStart s
  | .joinReceived content trips sendEt => Sys2Proof.Machine.execJoinReceived content trips sendEt s
  | .release path value => Sys2Proof.Machine.execRelease path value s
  | .twinEnable path value => Sys2Proof.Machine.execTwinEnable path value s
  | .gapRecordTimeout h => Sys2Proof.Machine.execGapRecordTimeout h s
  | .enableAxis path m value => Sys2Proof.Machine.execEnableAxis path m value s
  | .go path m value => Sys2Proof.Machine.execGo path m value s
  | .stopAxis path m => Sys2Proof.Machine.execStopAxis path m s
  | .home path m => Sys2Proof.Machine.execHome path m s
  | .microstep m => Sys2Proof.Machine.execMicrostep m s
  | .moveComplete m => Sys2Proof.Machine.execMoveComplete m s
  | .holdDelayExpiry m => Sys2Proof.Machine.execHoldDelayExpiry m s
  | .chopCycle m coilB reached t1 t2 => Sys2Proof.Machine.execChopCycle m coilB reached t1 t2 s
  | .homeEdge m active => Sys2Proof.Machine.execHomeEdge m active s
  | .qualifyTimeExpiry m => Sys2Proof.Machine.execQualifyTimeExpiry m s
  | .chatterWindowExpiry m => Sys2Proof.Machine.execChatterWindowExpiry m s
  | .homingComplete m => Sys2Proof.Machine.execHomingComplete m s
  | .limitTrip m => Sys2Proof.Machine.execLimitTrip m s
  | .limitRelease m => Sys2Proof.Machine.execLimitRelease m s
  | .encoderEdge e levels => Sys2Proof.Machine.execEncoderEdge e levels s
  | .minEdgeExpiry e levels => Sys2Proof.Machine.execMinEdgeExpiry e levels s
  | .indexEdge e => Sys2Proof.Machine.execIndexEdge e s
  | .hallStateChange e state => Sys2Proof.Machine.execHallStateChange e state s
  | .comparePulseEnd n => Sys2Proof.Machine.execComparePulseEnd n s
  | .probeEdge n rising => Sys2Proof.Machine.execProbeEdge n rising s
  | .probeEvent path n => Sys2Proof.Machine.execProbeEvent path n s
  | .encoderCount path e value => Sys2Proof.Machine.execEncoderCount path e value s
  | .armCompare path n value => Sys2Proof.Machine.execArmCompare path n value s
  | .recoatStart path layer => Sys2Proof.Machine.execRecoatStart path layer s
  | .manualReport path layer => Sys2Proof.Machine.execManualReport path layer s
  | .dramReadComplete ch client address line latency activated h id place => Sys2Proof.Machine.execDramReadComplete ch client address line latency activated h id place s
  | .caAlert ch => Sys2Proof.Machine.execCaAlert ch s
  | .caAlertRelease ch => Sys2Proof.Machine.execCaAlertRelease ch s
  | .caAlertStuck ch => Sys2Proof.Machine.execCaAlertStuck ch s
  | .refresh ch rank waiting => Sys2Proof.Machine.execRefresh ch rank waiting s
  | .zqCalibration => Sys2Proof.Machine.execZqCalibration s
  | .caseTempRead ch value => Sys2Proof.Machine.execCaseTempRead ch value s
  | .caseTempTimeout => Sys2Proof.Machine.execCaseTempTimeout s
  | .retrainStart ch => Sys2Proof.Machine.execRetrainStart ch s
  | .retrainComplete ch rank good => Sys2Proof.Machine.execRetrainComplete ch rank good s
  | .faultRetrainRetry good => Sys2Proof.Machine.execFaultRetrainRetry good s
  | .rootGate offA offB offTwin offXo => Sys2Proof.Machine.execRootGate offA offB offTwin offXo s
  | .xoEdgeLoss => Sys2Proof.Machine.execXoEdgeLoss s
  | .holdoverTimeExpiry => Sys2Proof.Machine.execHoldoverTimeExpiry s
  | .pllUnlock pll => Sys2Proof.Machine.execPllUnlock pll s
  | .startMeasurement path value => Sys2Proof.Machine.execStartMeasurement path value s
  | .freqMeasurementComplete running count => Sys2Proof.Machine.execFreqMeasurementComplete running count s
  | .cause path reg value => Sys2Proof.Machine.execCause path reg value s
  | .take path reg => Sys2Proof.Machine.execTake path reg s
  | .hostRecord path data => Sys2Proof.Machine.execHostRecord path data s
  | .clearTopsoil path value => Sys2Proof.Machine.execClearTopsoil path value s
  | .flush path value => Sys2Proof.Machine.execFlush path value s
  | .nextRecord path value => Sys2Proof.Machine.execNextRecord path value s
  | .cursor path value => Sys2Proof.Machine.execCursor path value s
  | .recordFlashWrite good => Sys2Proof.Machine.execRecordFlashWrite good s
  | .hoursStore => Sys2Proof.Machine.execHoursStore s
  | .sfImage path image flashGood => Sys2Proof.Machine.execSfImage path image flashGood s
  | .mcImage path image flashGood => Sys2Proof.Machine.execMcImage path image flashGood s
  | .trial path value => Sys2Proof.Machine.execTrial path value s
  | .confirm path value => Sys2Proof.Machine.execConfirm path value s
  | .factoryBlock path block => Sys2Proof.Machine.execFactoryBlock path block s
  | .calibrationUserWrite path index sub data => Sys2Proof.Machine.execCalibrationUserWrite path index sub data s
  | .blockLockGain port => Sys2Proof.Machine.execBlockLockGain port s
  | .twinLinkLockLoss => Sys2Proof.Machine.execTwinLinkLockLoss s
  | .pllLockRegained pll => Sys2Proof.Machine.execPllLockRegained pll s
  | .startupBoundExpiry => Sys2Proof.Machine.execStartupBoundExpiry s
  | .planDecision h => Sys2Proof.Machine.execPlanDecision h s
  | .archiveMessageSend => Sys2Proof.Machine.execArchiveMessageSend s
  | .featureLogBlockRead path => Sys2Proof.Machine.execFeatureLogBlockRead path s
  | .jtagTckEdge rising tms tdi trstN => Sys2Proof.Machine.execJtagTckEdge rising tms tdi trstN s

end Sys2Proof.Machine
end

