-- ==== Sys2Proof/Machine/Idle.lean ====
section
/-!
DEFINITION. What one tick does when no command waits (a design choice: the table has no row for a tick). Commands with
no idle step between them fall in one CLK_SYS cycle; an idle step ends that cycle.
-/
namespace Sys2Proof.Machine

/-- A leaf at the end of a CLK_SYS cycle: the events of the cycle join those before it (R640, R643); a leaf that is
not set leaves the list. -/
def Leaf.endCycle (l : Leaf) : Option Leaf :=
  if l.before + l.now = 0 then none
  else some { l with before := min 255 (l.before + l.now), now := 0, quiet := false }

/-- An inhibit in effect at the exit from AUX counts as one assertion at the first CLK_SYS cycle, with ET 0 (R598). -/
def State.markInhibit (s : State) : State :=
  if s.power.inhibitMark then
    ((({ s with power := { s.power with inhibitMark := false } }).bump 0x2040 5).setLeaf 0x210F 0).record 0x0030 (leBytes 8 0)
  else s

/-- A replay whose every command has been issued, cut short by no further fall of ALERT_N, is complete (R533). -/
def State.replayed (s : State) (ch : Nat) : State :=
  match s.dram.channels[ch]? with
  | some c =>
    if c.alert = .replay ∧ c.replaying = 0 then
      ({ s with dram := { s.dram with channels := s.dram.channels.set ch { c with alert := .none, falls := 0 } } }).bump (0xA010 + ch) 2
    else s
  | none => s

/-- A channel at a tick: the next command that waits is issued, else the oldest write drains (R532, R539). -/
def State.serveDram (s : State) (ch : Nat) : State :=
  if (s.channel ch).toIssue.isEmpty then s.drainWrite ch else s.onChannel ch (fun c => c.issueNext s.et)

/-- Reads whose line no write of the queue matches any more return (R539). -/
def State.unblock (s : State) : State :=
  { s with
    pending := s.pending ++ (s.dram.blocked.filter (fun b => !s.writeWaits b.address)).map (fun b => b.returned s.et)
    dram := { s.dram with blocked := s.dram.blocked.filter (fun b => s.writeWaits b.address) } }

/-- The CLK_SYS cycle just ended: its marks are taken away (R28, R29, R640). -/
def State.endCycle (s : State) : State :=
  { s with
    leaves := s.leaves.filterMap Leaf.endCycle
    dev := { s.dev with autoThisCycle := false }
    power := { s.power with entered := none }
    out := [] }

/-- One tick of CLK_SEQ: Exposure Time runs, modulo 2^64, once the main PLL has locked (R5, R26, R422), and the island counts while VAUX is
present (R653). -/
def State.tick (s : State) : State :=
  { s with
    clk := { s.clk with
      et := if s.clk.running then (s.clk.et + 1) % 2 ^ 64 else s.clk.et
      island := if s.power.vaux then s.clk.island + 1 else s.clk.island } }

/-- What a step does on an empty queue; a SHADOW carries out the orders of the PRIMARY whose ET has come (R31, R461). -/
def idleTick (s : State) : State := ((((s.endCycle.replayed 0).replayed 1).tick).markInhibit.dueOrders).dueFactors.releaseOwn.driveCoils.serveDram 0 |>.serveDram 1 |>.unblock

end Sys2Proof.Machine
end

