-- ==== Sys2Proof/Machine/Step.lean ====
section
/-!
DEFINITION. The step: the command at the front of the queue is taken and given its meaning on the state with the
queue's rest; on an empty queue the commands of the cycle that gave way take their turn, and then one tick of CLK_SEQ passes
(Machine/Turn.lean, Machine/Idle.lean).
-/
namespace Sys2Proof.Machine

/-- One step of the block. -/
def step (s : State) : Host.Outcome State Fault Refusal :=
  match s.pending with
  | [] => .next (if s.deferred = [] then idleTick s else { s with pending := s.waiting, deferred := [] })
  | c :: rest => exec c { s with pending := rest }

/-- s with the command that a table word spells at the front of its queue; no row of the table gives bits, so no word
spells a command and s is unchanged. -/
def State.withFetchWord (s : State) (nbits w : Nat) : State :=
  match decodeTableWord nbits w with
  | some c => { s with pending := c :: s.pending }
  | none => s

end Sys2Proof.Machine
end

