-- ==== Sys2Proof/Machine/Pins.lean ====
section
/-!
DEFINITION. The signal balls that the controller drives, as functions of the state (R27, R467, R487, R551, R594, R675, R680).
-/
namespace Sys2Proof.Machine

/-- An output ball, or a group of balls of one function: ports 0 ring A, 1 ring B, 2 the twin link; flash group 0 FLASH_CS_n_N, 1
FLASH_SCK, 2 FLASH_IO_n. -/
inductive OutPin where
  | headLink (h : HeadNo)
  | emit (h : HeadNo)
  | serial (port : Nat)
  | dramData (ch : Nat)
  | dramCommand (ch : Nat)
  | dramReset (ch : Nat)
  | dramCke (ch rank : Nat)
  | bypassHold
  | twinAlive
  | int
  /-- GATE_m_AH (false, false), AL (false, true), BH (true, false), BL (true, true) -/
  | gate (m : Nat) (coilB negative : Bool)
  | compare (n : Nat)
  | miso
  | flash (group : Nat)
  | tdo
  deriving DecidableEq, Repr

/-- What is at an output: a level, electrical idle of a lane, high impedance with or without a pull, or what the function of the ball
drives there at the moment. -/
inductive PinLevel where
  | low
  | high
  | electricalIdle
  | highZ
  | pulledUp
  | pulledDown
  | active
  deriving DecidableEq, Repr

/-- A level as a Bool. -/
def levelOf (b : Bool) : PinLevel := if b then .high else .low

/-- The reset state of an output (R675). -/
def OutPin.atReset : OutPin → PinLevel
  | .headLink _ => .electricalIdle
  | .emit _ => .low
  | .serial _ => .electricalIdle
  | .dramData _ => .highZ
  | .dramCommand _ => .highZ
  | .dramReset _ => .low
  | .dramCke _ _ => .low
  | .bypassHold => .low
  | .twinAlive => .low
  | .int => .highZ
  | .gate _ _ _ => .low
  | .compare _ => .low
  | .miso => .highZ
  | .flash 1 => .pulledDown
  | .flash _ => .pulledUp
  | .tdo => .highZ

/-- The reset state holds: in OFF and AUX (R594, R675, R680). -/
def State.pinsHeld (s : State) : Bool := s.dev.state == .off || s.dev.state == .aux

/-- A head's downlink transmitter is idle while the link is DISABLED, in BOOT and after a thermal trip (R27). -/
def State.headLinkIdle (s : State) (h : HeadNo) : Bool :=
  (s.head h).link.state == .disabled || s.dev.state == .boot || s.thermal.tripped

/-- The DRAM pins are in operation from start-up step 3 on, where training acts on them; before that step of BOOT they keep what AUX
left: DEDUCED (R551, log 112). -/
def State.dramPinsRun (s : State) : Bool := !s.pinsHeld && !(s.dev.state == .boot && decide (s.power.step < 3))

/-- What is at an output (R27, R551, R594, R675). -/
def State.pin (s : State) (p : OutPin) : PinLevel :=
  if s.pinsHeld && p != .tdo then p.atReset
  else match p with
    | .headLink h => if s.headLinkIdle h then .electricalIdle else .active
    | .emit h => levelOf (s.emitBall h)
    | .serial _ => .active
    | .dramData _ => if s.dramPinsRun then .active else p.atReset
    | .dramCommand _ => if s.dramPinsRun then .active else p.atReset
    | .dramReset _ => if s.dramPinsRun then .active else p.atReset
    | .dramCke _ _ => if s.dramPinsRun then .active else p.atReset
    | .bypassHold => levelOf s.bypassBall
    | .twinAlive => levelOf (s.twin.aliveOut && s.dev.state.beats)
    | .int => if s.intAsserted then .low else .highZ
    | .gate m coilB negative => levelOf (if negative then (s.gates m coilB).2 else (s.gates m coilB).1)
    | .compare n => levelOf (((s.motion.compares[n]?).map (fun c => c.asserted)).getD false)
    | .miso => .active
    | .flash _ => .active
    | .tdo => match s.tap.tdo with
      | some b => levelOf b
      | none => .highZ

end Sys2Proof.Machine
end

