-- ==== Sys2Proof/Safety.lean ====
section
/-!
DEFINITION. Safety: what counts as a safe state of the machine, and the relations the statements are written in: the
canonical form of what is stored, what a report may change, and what a dictionary write leaves alone.
-/
namespace Sys2Proof

/-! ### Which commands can touch the state machine, and which come by a path -/

/-- The commands that can lead to a transition (R19, R32) or to another change of 0x2001: a request, directly or carried
by an access or a message, a supply, reset or start-up event, a fault or inhibit event, and what the path side finds. -/
def Instr.touchesDeviceState (c : Instr) : Bool :=
  match c with
  | .vauxApplied => true
  | .vauxLost => true
  | .resetNAsserted => true
  | .pwrgoodDeasserted => true
  | .railUndervoltage .. => true
  | .auxExit .. => true
  | .laserInhibitAsserted => true
  | .oscillatorGate .. => true
  | .dramTrainingDone .. => true
  | .imageCheckDone => true
  | .calibrationLoadDone => true
  | .arm .. => true
  | .run .. => true
  | .pause .. => true
  | .pauseHoldReached => true
  | .resume .. => true
  | .stop .. => true
  | .disarm .. => true
  | .clear .. => true
  | .restart .. => true
  | .requestNone .. => true
  | .stateRequestInvalid .. => true
  | .watchdogExpiry => true
  | .firmwareRestartComplete => true
  | .thermalMeasurement .. => true
  | .thermalRestart => true
  | .downlinkFrameAssembly .. => true
  | .uplinkFrameReceived .. => true
  | .ringFrameReceived .. => true
  | .blockLockLoss .. => true
  | .sdoWrite .. => true
  | .blockWrite .. => true
  | .blockSegment .. => true
  | .dictionaryWrite .. => true
  | .spiWrite .. => true
  | .spiRead => true
  | .segmentDecision => true
  | .headStart .. => true
  | .itemComplete .. => true
  | .barrierRelease .. => true
  | .drainHoldEnd .. => true
  | .lineBufferWrite .. => true
  | .segmentClose .. => true
  | .closeMessageSend .. => true
  | .heartbeat .. => true
  | .twinLinkFailed => true
  | .ownHeartbeatLapse => true
  | .decision .. => true
  | .outcome .. => true
  | .plan .. => true
  | .cut .. => true
  | .stateMessage .. => true
  | .twinWrite .. => true
  | .jobCopy .. => true
  | .hostCopy .. => true
  | .digest .. => true
  | .ledger .. => true
  | .twinMessageLate .. => true
  | .stateDivergenceTimeout => true
  | .twinLinkBlockLock .. => true
  | .release .. => true
  | .twinEnable .. => true
  | .dramReadComplete .. => true
  | .retrainComplete .. => true
  | .faultRetrainRetry .. => true
  | .rootGate .. => true
  | .xoEdgeLoss => true
  | .holdoverTimeExpiry => true
  | .pllUnlock .. => true
  | .twinLinkLockLoss => true
  | .startupBoundExpiry => true
  | _ => false

end Sys2Proof

namespace Sys2Proof.Machine

/-! ### Emission -/

/-- The state machine lets beamlets emit (R23): only in EXPOSING. -/
def State.exposing (s : State) : Prop := s.dev.state = .exposing

/-- The hardware conditions for a permit (R27, R579, R596): neither an inhibit in effect nor a trip. -/
def State.hardwareClear (s : State) : Prop := s.power.inhibit = false ∧ s.thermal.tripped = false

/-- A state in which emission could leave the device. -/
def State.mayEmit (s : State) : Prop := s.exposing ∧ s.hardwareClear

/-! ### The canonical form of what is stored -/

/-- Keys strictly rising: at most one entry a key. -/
def Rising {α : Type} (l : List (Nat × α)) : Prop := l.Pairwise (fun a b => a.1 < b.1)

/-- Numeric values listed in order of their keys, and only where they differ from the object's default. -/
def RegsOk (l : List (Nat × Int)) : Prop := Rising l ∧ ∀ p ∈ l, p.2 ≠ regDefault p.1

/-- Byte strings listed in order of their keys, and only where they are not empty. -/
def BlobsOk (l : List (Nat × List Byte)) : Prop := Rising l ∧ ∀ p ∈ l, p.2 ≠ []

/-- The stored set in flash, and the snapshot of a store in progress, have the same form. -/
structure FlashOk (f : FlashStore) : Prop where
  regs : RegsOk f.regs
  blobs : BlobsOk f.blobs
  writing : ∀ w ∈ f.writing, RegsOk w.1 ∧ BlobsOk w.2

/-- Leaves of the interrupt tree listed in order of register and bit, each once. -/
def LeavesOk (l : List Leaf) : Prop := l.Pairwise (fun a b => a.key < b.key)

/-- Everything that is stored has its canonical form, so that equal contents are equal data. -/
structure State.Stored (s : State) : Prop where
  regs : RegsOk s.regs
  blobs : BlobsOk s.blobs
  flash : FlashOk s.flash
  leaves : LeavesOk s.leaves

/-! ### Relations between a state and a later one -/

/-- Every stored number but those of the listed keys reads as it did. -/
def State.KeepsRegs (s t : State) (except : List Nat) : Prop := ∀ k, k ∉ except → regsGet k t.regs = regsGet k s.regs

/-- t differs from s only by what reporting changes: interrupt leaves, the event recorder with its count of lost records
(0xC000:05), and the messages that leave or wait for a port, with the sessions and the twin unit that keep them for a repeat; and by the
stored numbers of the listed keys. -/
structure State.ReportsWith (s t : State) (keys : List Nat) : Prop where
  pending : t.pending = s.pending
  deferred : t.deferred = s.deferred
  dev : t.dev = s.dev
  power : t.power = s.power
  clk : t.clk = s.clk
  fuses : t.fuses = s.fuses
  regs : s.KeepsRegs t (regKey 0xC000 5 :: keys)
  blobs : t.blobs = s.blobs
  flash : t.flash = s.flash
  flashRecords : t.recorder.flash = s.recorder.flash
  auth : t.auth = s.auth
  spi : t.spi = s.spi
  ring : t.ring = s.ring
  job : t.job = s.job
  heads : t.heads = s.heads
  sieve : t.sieve = s.sieve
  engine : t.engine = s.engine
  time : t.time = s.time
  twin : t.twin = { s.twin with txSeq := t.twin.txSeq, kept := t.twin.kept }
  motion : t.motion = s.motion
  dram : t.dram = s.dram
  clocks : t.clocks = s.clocks
  thermal : t.thermal = s.thermal
  images : t.images = s.images
  tap : t.tap = s.tap
  fresh : t.fresh = s.fresh

/-- The same with no stored number but the count of lost records. -/
abbrev State.Reports (s t : State) : Prop := s.ReportsWith t []

/-- An access accepted: its path is served, its turn in the CLK_SYS cycle has come (R28, R407) and no test refuses it. -/
structure State.Takes (s : State) (p : Path) (refusal : Option Abort) : Prop where
  served : s.served p = true
  turn : s.turn (pathRank p) = true
  accepted : refusal = none

/-- An object whose write has no effect but that its value is stored: not a value of a session, and none of those that an
archive budget (0x6000:02), a sample rate (0x7000:01), a refresh rate (0xA000:02, :05) or a flicker window follow at once. -/
def plainObject (index sub : Nat) : Bool :=
  !sessionValue index sub && !isMonitor index && !(index == 0x6000 && sub == 2) && !(index == 0x7000 && sub == 1)
    && !(index == 0xA000 && (sub == 2 || sub == 5))

/-- The controller is a SHADOW on a locked link, and a number is the one it expects next and never asked for (R457). -/
structure State.Expects (s : State) (seq : Nat) : Prop where
  role : s.twin.role = .shadow
  lock : s.twin.linkLock = true
  next : s.twin.rxNext = seq
  beyond : s.twin.beyond = []
  asked : seqBelow seq s.twin.askedTo = false

/-- The state once a numbered message has been counted. -/
abbrev State.past (s : State) (seq : Nat) : State := { s with twin := s.twin.counted seq }

/-- t is s with the role COLD and a cause: from a state with no permit only reports (with the stored numbers of the listed
keys) go with it; from any other the device state falls to STANDBY (R32). -/
structure State.BecomesCold (s t : State) (cause : Nat) (keys : List Nat) : Prop where
  role : t.twin.role = .cold
  cause : t.twin.coldCause = cause
  leaf : (leafAt t.leaves 0x210A 1).isSome = true
  quiet : s.dev.state.permits = false → ({ s with twin := t.twin } : State).ReportsWith t keys
  falls : s.dev.state.permits = true → t.dev.state = .standby ∧ t.dev.prev = s.dev.state ∧ t.dev.cause = 0x0041

/-- t is the controller in AUX as an entry from s leaves it: everything volatile is at its value after reset but for what
the island, the fuses and flash hold. -/
structure State.InAuxFrom (t s : State) : Prop where
  state : t.dev.state = .aux
  prev : t.dev.prev = s.dev.state
  cause : t.dev.cause = 0
  heads : t.heads = State.reset.heads
  job : t.job = Job.initial
  blobs : t.blobs = []
  regs : State.reset.KeepsRegs t [regKey 0xC000 5]
  clk : t.clk = { et := 0, running := false, island := s.clk.island }
  fuses : t.fuses = s.fuses
  tripped : t.thermal.tripped = s.thermal.tripped
  inhibit : t.power.inhibit = s.power.inhibit
  slotA : t.images.slotA = s.images.slotA
  slotB : t.images.slotB = s.images.slotB
  flash : t.flash = s.flash.cutShort

end Sys2Proof.Machine
end

