-- ==== Sys2Proof/Certificates/Slice0/Obligations.lean ====
section
/-!
DEFINITION. The statements about the block, each a rule or several rules of the specification said of the model.
-/
open Sys2Proof Sys2Proof.Machine

/-- When commands wait, one step is the command at the front carried out on the state with the queue's rest.
(17_power_reset_startup.md, 10_ring_and_dictionary.md) -/
def Obligations.StepRunsFrontCommand : Prop :=
  ∀ (c : Instr) (rest : List Instr) (s : State), s.pending = c :: rest → step s = exec c { s with pending := rest }

/-- On an empty queue with no command that gave way, a step answers a next state in which Exposure Time has gone
on by one tick modulo 2^64 if it runs, the island's time by one tick while VAUX is present, and fuses and thermal
trip are as before (a state in which a pair has ordered a RESTART is left out). On an empty queue with commands
that gave way, a step puts those in the queue and changes nothing else. (R5, R26, R28, R422, R653, 11_time.md) -/
def Obligations.IdleStepIsOneTick : Prop :=
  (∀ s : State, s.pending = [] → s.deferred = [] → (∀ o ∈ s.twin.orders, ∀ c e, o ≠ TwinOrder.state 8 c e) →
      ∃ t, step s = .next t ∧ t.deferred = []
        ∧ t.clk.et = (if s.clk.running then (s.clk.et + 1) % 2 ^ 64 else s.clk.et)
        ∧ t.clk.island = (if s.power.vaux then s.clk.island + 1 else s.clk.island)
        ∧ t.clk.running = s.clk.running ∧ t.fuses = s.fuses ∧ t.thermal = s.thermal)
  ∧ (∀ s : State, s.pending = [] → s.deferred ≠ [] → step s = .next { s with pending := s.waiting, deferred := [] })

/-- For every command and every state exec answers a next state, neither a fault nor a refusal, and the queue of
waiting commands and what the fuses hold are unchanged. (R417, R616, 10_ring_and_dictionary.md,
17_power_reset_startup.md) -/
def Obligations.EveryCommandAnswersNextState : Prop :=
  ∀ (c : Instr) (s : State), ∃ t, exec c s = .next t ∧ t.pending = s.pending ∧ t.fuses = s.fuses

/-- From every state in which dictionary values, byte strings, the stored set in flash and the interrupt leaves
are listed in rising order, each key once and no default value listed, every step leads to a state of the same
form. (10_ring_and_dictionary.md, R410, R640) -/
def Obligations.StepKeepsStoredCanonical : Prop :=
  ∀ s t : State, s.Stored → step s = .next t → t.Stored

/-- State.reset stores everything in the canonical form that every step keeps. (10_ring_and_dictionary.md, R410) -/
def Obligations.ResetIsStoredCanonical : Prop :=
  State.reset.Stored

/-- After reset the device is in BOOT with cause 0x0001, no transition counted, start-up at step 2, no permit
high and no interrupt leaf set, every numeric object at its default, the role SOLO, and no command waiting. (That
State.reset stands at the exit from AUX is the model's choice, log entry 4.) (R15, R18, R592, R606, R640, R454) -/
def Obligations.ResetStateAtExitFromAux : Prop :=
  State.reset.dev.state = .boot ∧ State.reset.dev.cause = 0x0001 ∧ State.reset.dev.result = 0 ∧ State.reset.dev.count = 0
    ∧ State.reset.power.resetCause = 0x01 ∧ State.reset.power.step = 2 ∧ State.reset.leaves = [] ∧ State.reset.pending = []
    ∧ State.reset.twin.role = .solo ∧ (∀ h, State.reset.permit h = false)
    ∧ ∀ index sub, State.reset.reg index sub = regDefault (regKey index sub)

/-- A command that is neither a request, a reset or supply event, a start-up event, a fault, trip or inhibit
event, a dictionary access that may carry a request, nor a twin event that may change the role leaves
DEVICE_STATE, its cause and its count as they are. (R19, R15, 01_architecture.md) -/
def Obligations.OnlyTheseCommandsMoveTheDeviceState : Prop :=
  ∀ (c : Instr) (s t : State), c.touchesDeviceState = false → exec c s = .next t → t.dev = s.dev

/-- While LASER_INHIBIT_N is in effect, every command but LASER_INHIBIT_RELEASED leaves it in effect, so that no
permit is high in any state it leads to. (R595, R597, R598, 17_power_reset_startup.md) -/
def Obligations.InhibitStaysUntilReleased : Prop :=
  ∀ (c : Instr) (s t : State), s.power.inhibit = true → c ≠ .laserInhibitReleased → exec c s = .next t →
    t.power.inhibit = true ∧ ∀ h, t.permit h = false

/-- While a trip is in effect, every command but THERMAL_RESTART and VAUX_LOST leaves it in effect, so that no
permit is high in any state it leads to. (R582, R583, R589, R715, 16_thermal.md) -/
def Obligations.TripStaysUntilRestart : Prop :=
  ∀ (c : Instr) (s t : State), s.thermal.tripped = true → c ≠ .thermalRestart → c ≠ .vauxLost → exec c s = .next t →
    t.thermal.tripped = true ∧ ∀ h, t.permit h = false

/-- A command that comes by a dictionary path leaves the whole state as it is when that path is not served: in
OFF and AUX, by a ring session that is not open, and by the ring in BOOT. On a served path a command whose turn
in its CLK_SYS cycle has not come gives way and changes nothing else. (R28, R407, R415, R416,
10_ring_and_dictionary.md) -/
def Obligations.UnservedPathHasNoEffect : Prop :=
  (∀ (c : Instr) (p : Path) (s : State), c.path? = some p → s.served p = false → exec c s = .next s)
  ∧ (∀ (c : Instr) (p : Path) (s : State), c.path? = some p → s.served p = true → s.turn (pathRank p) = false →
      exec c s = .next { s with deferred := s.deferred ++ [c] })

/-- VAUX_APPLIED in OFF enters AUX with RESET_CAUSE 0x01, the inhibit in effect and operating hours resuming from
the stored value, and changes nothing else but what its record reports. VAUX_LOST in any other state falls to OFF
with VAUX gone, the inhibit in effect and no trip: every dictionary value, head, job, session and leaf is gone,
fuses and both image slots stay, and a store in progress is cut short. AUX_EXIT in AUX samples the straps and
enters BOOT at start-up step 2, with cause 0x0001, or 0x0030 where a trip is in effect; with TEST_EN high it
stays in AUX. Without a trip nothing else changes but the test access port. (R589, R591, R19, R653, R680) -/
def Obligations.SupplyEventsComplete : Prop :=
  (∀ s : State, s.dev.state = .off → ∃ t, exec .vauxApplied s = .next t ∧
      ({ s with
         dev := { s.dev with state := .aux, prev := .off }
         power := { s.power with vaux := true, inhibit := true, resetCause := 0x01, railFault := 0
                                 pwrgood := false, resetFree := false, entered := none }
         clk := { s.clk with island := 0 }
         recorder := { s.recorder with baseHours := s.recorder.storedHours, baseIsland := 0 } } : State).Reports t)
  ∧ (∀ s : State, s.dev.state ≠ .off → ∃ t, exec .vauxLost s = .next t ∧ t.dev.state = .off ∧ t.power.vaux = false
      ∧ t.power.inhibit = true ∧ t.thermal = Thermal.initial ∧ t.regs = [] ∧ t.blobs = [] ∧ t.heads = State.reset.heads
      ∧ t.job = Job.initial ∧ t.sessions = State.reset.sessions ∧ t.leaves = [] ∧ t.flash = s.flash.cutShort
      ∧ t.fuses = s.fuses ∧ t.images.slotA = s.images.slotA ∧ t.images.slotB = s.images.slotB)
  ∧ (∀ (s : State) (org : Nat), s.dev.state = .aux → s.thermal.tripped = false → ∃ t, exec (.auxExit org false) s = .next t
      ∧ t = { s with
          dev := { s.dev with state := .boot, prev := .aux, cause := 0x01, transEt := 0, count := 0, tripFrom := .boot, tripCause := 0x01 }
          power := { s.power with pwrgood := true, resetFree := true, entered := none, step := 2, startupTime := 0
                                  startMark := s.clk.island, waitCool := false, dramOrg := org % 16, testEn := false
                                  inhibitMark := s.power.inhibit }
          tap := t.tap })
  ∧ (∀ (s : State) (org : Nat), s.dev.state = .aux → s.thermal.tripped = true → ∃ t, exec (.auxExit org false) s = .next t
      ∧ t.dev.state = .boot ∧ t.dev.cause = 0x30 ∧ t.power.waitCool = true ∧ t.power.step = 2)
  ∧ (∀ (s : State) (org : Nat), s.dev.state = .aux → ∃ t, exec (.auxExit org true) s = .next t
      ∧ t = { s with
          power := { s.power with pwrgood := true, resetFree := true, entered := none, dramOrg := org % 16, testEn := true }
          tap := t.tap })

/-- In every state but OFF and AUX each of the three enters AUX with its RESET_CAUSE (0x04, 0x02, 0x03 with the
rail's bit in RAIL_FAULT); heads, jobs, byte strings and numeric values (but the count of lost records) are gone,
Exposure Time stops at 0, a store in progress is cut short, and fuses, the trip, the inhibit and both image slots
stay. (R19, R587, R590, R592, R594) -/
def Obligations.MainResetsEnterAux : Prop :=
  ∀ (s : State), s.dev.state ≠ .off → s.dev.state ≠ .aux →
    (∃ t, exec .resetNAsserted s = .next t ∧ t.power.resetCause = 0x04 ∧ t.power.railFault = 0 ∧ t.power.resetFree = false ∧ t.InAuxFrom s)
    ∧ (∃ t, exec .pwrgoodDeasserted s = .next t ∧ t.power.resetCause = 0x02 ∧ t.power.railFault = 0 ∧ t.power.pwrgood = false ∧ t.InAuxFrom s)
    ∧ (∀ rail, rail < 5 → ∃ t, exec (.railUndervoltage rail) s = .next t ∧ t.power.resetCause = 0x03
        ∧ t.power.railFault = 2 ^ rail ∧ t.power.pwrgood = false ∧ t.InAuxFrom s)

/-- In its turn an assertion outside OFF and AUX with no inhibit in effect drops every permit, falls from ARMED
to STANDBY and from EXPOSING to PAUSED with cause 0x0040 (a SHADOW waits for the PRIMARY) and keeps every other
state; Exposure Time, motion, the thermal unit, fuses and flash are untouched. A release ends the inhibit, and
nothing else changes but what its leaf and record report. (R19, R27, R595, R596, R597, R598, R461) -/
def Obligations.LaserInhibitCommandsComplete : Prop :=
  (∀ s : State, s.turn 4 = true → s.dev.state ≠ .off → s.dev.state ≠ .aux → s.power.inhibit = false →
      ∃ t, exec .laserInhibitAsserted s = .next t ∧ t.power = { s.power with inhibit := true } ∧ (∀ h, t.permit h = false)
        ∧ (s.twin.role = .shadow → t.dev = s.dev)
        ∧ (s.twin.role ≠ .shadow → s.dev.state = .armed → t.dev.state = .standby ∧ t.dev.cause = 0x0040 ∧ t.dev.prev = .armed)
        ∧ (s.twin.role ≠ .shadow → s.dev.state = .exposing → t.dev.state = .paused ∧ t.dev.cause = 0x0040 ∧ t.dev.prev = .exposing)
        ∧ (s.dev.state ≠ .armed → s.dev.state ≠ .exposing → t.dev = s.dev)
        ∧ t.clk = s.clk ∧ t.motion = s.motion ∧ t.thermal = s.thermal ∧ t.fuses = s.fuses ∧ t.flash = s.flash)
  ∧ (∀ s : State, s.turn 4 = true → s.dev.state ≠ .off → s.dev.state ≠ .aux → s.power.inhibit = true →
      ∃ t, exec .laserInhibitReleased s = .next t ∧ ({ s with power := { s.power with inhibit := false } } : State).Reports t)

/-- At step 2 an OSCILLATOR_JUDGEMENT_GATE is judged and changes only the clock unit until the hundredth gate
without stability, which holds BOOT with cause 0x0010. The first MAIN_PLL_LOCK after a stable judgement starts
Exposure Time at 0 and Network Time afresh; a later one, with Exposure Time running, records the lock and nothing
else. PLLS_LOCKED ends the step. (R18, R19, R26, R422, R429, R563, R564) -/
def Obligations.ClockStartupStepsComplete : Prop :=
  (∀ (s : State) (r n : Nat), s.atStep 2 = true → s.clocks.stable = false →
      ∃ t, exec (.oscillatorGate r n) s = .next t ∧ t.clocks = s.clocks.judge (min r 2) n
        ∧ ((t.clocks.stable = true ∨ t.clocks.judgeGates < 100) → t = { s with clocks := t.clocks })
        ∧ (t.clocks.stable = false → 100 ≤ t.clocks.judgeGates → t.dev.state = .boot ∧ t.dev.cause = 0x10))
  ∧ (∀ s : State, s.atStep 2 = true → s.clocks.stable = true → s.clocks.mainLock = false → s.clk.running = false →
      exec .mainPllLock s = .next { s with clocks := { s.clocks with mainLock := true }, clk := { s.clk with et := 0, running := true }, time := TimeUnit.initial })
  ∧ (∀ s : State, s.atStep 2 = true → s.clocks.stable = true → s.clocks.mainLock = false → s.clk.running = true →
      exec .mainPllLock s = .next { s with clocks := { s.clocks with mainLock := true } })
  ∧ (∀ s : State, s.atStep 2 = true → s.clocks.mainLock = true →
      exec .pllsLocked s = .next { s with clocks := { s.clocks with dramLock := true, serdesLock := true }, power := { s.power with step := 3 } })

/-- At step 3 a DRAM_TRAINING_DONE without a failed rank, for an organisation the straps name, divides the memory
with the stored sizes, marks every channel trained and reaches step 4 with an empty job and no write or blocked
read left; nothing else changes but STAGING_BYTES. A failed rank holds BOOT with cause 0x0011. At step 4 an
IMAGE_CHECK_DONE that finds a complete slot runs it and enters RESTRICTED with cause 0x0001 at step 5, with the
stored factory block in use exactly where it is valid; one that finds none holds BOOT with cause 0x0012. (R18,
R19, R524, R527, R543, R617, R623) -/
def Obligations.MemoryAndImageStartupStepsComplete : Prop :=
  (∀ (s : State) (a b gib ranks : Nat), s.atStep 3 = true → dramSize s.power.dramOrg = some (gib, ranks) →
      ∃ t, exec (.dramTrainingDone none a b) s = .next t ∧ t.power = { s.power with step := 4 } ∧ t.job = Job.initial
        ∧ t.dram.logMiB = (regsGet (regKey 0x6000 4) s.flash.regs).toNat
        ∧ t.dram.archiveFrames = (regsGet (regKey 0x6000 3) s.flash.regs).toNat
        ∧ (∀ c ∈ t.dram.channels, c.trained = true) ∧ t.dram.writes = [] ∧ t.dram.blocked = [] ∧ s.KeepsRegs t [regKey 0x3012 4]
        ∧ t = { s with dram := t.dram, job := t.job, power := t.power, regs := t.regs })
  ∧ (∀ (s : State) (r a b : Nat), s.atStep 3 = true →
      ∃ t, exec (.dramTrainingDone (some r) a b) s = .next t ∧ t.dev.state = .boot ∧ t.dev.cause = 0x11 ∧ t.power = s.power)
  ∧ (∀ (s : State) (n : Nat) (f : Bool), s.atStep 4 = true → s.chosenSlot = some (n, f) →
      ∃ t, exec .imageCheckDone s = .next t ∧ t.dev.state = .restricted ∧ t.dev.cause = 0x01 ∧ t.power.step = 5
        ∧ t.images.running = some n ∧ t.images.fallback = f ∧ t.images.blockValid = (s.blockFault s.images.block == 0)
        ∧ t.images.inUse = (if s.blockFault s.images.block = 0 then some s.images.block else none)
        ∧ t.clk = s.clk ∧ t.fuses = s.fuses ∧ t.heads = s.heads ∧ t.motion = s.motion ∧ t.thermal = s.thermal)
  ∧ (∀ s : State, s.atStep 4 = true → s.chosenSlot = none →
      ∃ t, exec .imageCheckDone s = .next t ∧ t.dev.state = .boot ∧ t.dev.cause = 0x12 ∧ t.power = s.power)

/-- At step 5 RING_JOIN_DONE with both ports forwarding, and RING_WAIT_EXPIRY, reach step 6 with the sample rate
that the loaded values ask for, and leave the device state, Exposure Time, the clocks, motion and the thermal
unit as they are. At step 6 HEAD_LINK_STEP_DONE with every enabled link settled reaches step 7 and changes
nothing else. At step 7 CALIBRATION_LOAD_DONE ends start-up: for a tested pair and a valid block in STANDBY with
cause 0, else in the present state with cause 0x0020 (untested) or 0x0021; heads, job, Exposure Time and the
clocks stay. STARTUP_BOUND_EXPIRY holds BOOT with cause 0x0010, 0x0011 or 0x0012 at step 2, 3 or 4, and at steps
5, 6 and 7 reaches step 6, step 7 and the end of start-up. (R18, R19, R601, R603, R604, R606) -/
def Obligations.LateStartupStepsComplete : Prop :=
  (∀ s : State, s.atStep 5 = true → s.ring.forwarding = true →
      ∃ t, exec .ringJoinDone s = .next t ∧ t.power = { s.power with step := 6 } ∧ t.engine.rate = s.rateAsked ∧ t.dev = s.dev
        ∧ t.clk = s.clk ∧ t.clocks = s.clocks ∧ t.motion = s.motion ∧ t.thermal = s.thermal)
  ∧ (∀ s : State, s.atStep 5 = true →
      ∃ t, exec .ringWaitExpiry s = .next t ∧ t.power = { s.power with step := 6 } ∧ t.engine.rate = s.rateAsked ∧ t.dev = s.dev
        ∧ t.clk = s.clk ∧ t.clocks = s.clocks ∧ t.motion = s.motion ∧ t.thermal = s.thermal)
  ∧ (∀ s : State, s.atStep 6 = true → s.linksSettled = true →
      ∃ t, exec .headLinkStepDone s = .next t ∧ t = { s with power := { s.power with step := 7 } })
  ∧ (∀ s : State, s.atStep 7 = true → s.images.tested = true → s.images.blockValid = true →
      ∃ t, exec .calibrationLoadDone s = .next t ∧ t.dev.state = .standby ∧ t.dev.cause = 0 ∧ t.power.step = 0
        ∧ t.heads = s.heads ∧ t.job = s.job ∧ t.clk = s.clk ∧ t.clocks = s.clocks)
  ∧ (∀ s : State, s.atStep 7 = true → s.images.tested = false ∨ s.images.blockValid = false →
      ∃ t, exec .calibrationLoadDone s = .next t ∧ t.dev.state = s.dev.state
        ∧ t.dev.cause = (if s.images.tested then 0x21 else 0x20) ∧ t.power.step = 0
        ∧ t.heads = s.heads ∧ t.job = s.job ∧ t.clk = s.clk ∧ t.clocks = s.clocks)
  ∧ (∀ s : State, s.atStep 2 = true → ∃ t, exec .startupBoundExpiry s = .next t ∧ t.dev.state = .boot ∧ t.dev.cause = 0x10)
  ∧ (∀ s : State, s.atStep 3 = true → ∃ t, exec .startupBoundExpiry s = .next t ∧ t.dev.state = .boot ∧ t.dev.cause = 0x11)
  ∧ (∀ s : State, s.atStep 4 = true → ∃ t, exec .startupBoundExpiry s = .next t ∧ t.dev.state = .boot ∧ t.dev.cause = 0x12)
  ∧ (∀ s : State, s.atStep 5 = true → ∃ t, exec .startupBoundExpiry s = .next t ∧ t.power.step = 6 ∧ t.dev = s.dev)
  ∧ (∀ s : State, s.atStep 6 = true → ∃ t, exec .startupBoundExpiry s = .next t ∧ t = { s with power := { s.power with step := 7 } })
  ∧ (∀ s : State, s.atStep 7 = true → ∃ t, exec .startupBoundExpiry s = .next t ∧ t.power.step = 0)

/-- In their turn, written by a path that may write, with no automatic transition in the same cycle: by a SOLO
controller or a PRIMARY without a SHADOW, ARM in STANDBY with the inhibit released and a head link in operation
enters ARMED, RUN in ARMED enters EXPOSING, DISARM in ARMED enters STANDBY, and CLEAR in FAULT whose cause is
gone enters STANDBY. REQUEST_RESULT reads 0, STATE_CAUSE 0, TRANSITION_ET the present ET, and nothing else
changes but the answer and, at ARM, the heads, which capture a dark frame. A PRIMARY with a SHADOW answers with
result 0 and orders the request for the ET 2,500 ticks on (log entry 106); its device state stays. (R15, R19,
R20, R714, R31) -/
def Obligations.ArmRunDisarmClearComplete : Prop :=
  ∀ (s : State) (p : Path) (alone : Bool), s.Takes p (s.writeGate p 0x2001 2) → s.dev.autoThisCycle = false →
    (s.twin.role = .solo ∨ s.twin.role = .primary → s.hasShadow = false →
      (s.dev.state = .standby → s.power.inhibit = false → s.operating ≠ [] →
        ∃ t, exec (.arm p alone) s = .next t ∧ t.dev = ({ s.dev with result := 0 } : Dev).moved .armed 0 s.et
          ∧ t = ({ s with dev := t.dev, heads := t.heads } : State).answer p 0 [])
      ∧ (s.dev.state = .armed →
        ∃ t, exec (.run p alone) s = .next t ∧ t.dev = ({ s.dev with result := 0 } : Dev).moved .exposing 0 s.et
          ∧ t = ({ s with dev := t.dev } : State).answer p 0 [])
      ∧ (s.dev.state = .armed →
        ∃ t, exec (.disarm p alone) s = .next t ∧ t.dev = ({ s.dev with result := 0 } : Dev).moved .standby 0 s.et
          ∧ t = ({ s with dev := t.dev } : State).answer p 0 [])
      ∧ (s.dev.state = .fault → s.present s.dev.cause = false →
        ∃ t, exec (.clear p alone) s = .next t ∧ t.dev = ({ s.dev with result := 0 } : Dev).moved .standby 0 s.et
          ∧ t = ({ s with dev := t.dev } : State).answer p 0 []))
    ∧ (s.hasShadow = true → s.twin.role = .primary →
      (s.dev.state = .standby → s.power.inhibit = false → s.operating ≠ [] →
        ∃ t, exec (.arm p alone) s = .next t ∧ t.dev = { s.dev with result := 0 } ∧ t.heads = s.heads
          ∧ t.twin.orders = s.twin.orders ++ [TwinOrder.state 1 0 (s.et + 2500)])
      ∧ (s.dev.state = .armed →
        ∃ t, exec (.run p alone) s = .next t ∧ t.dev = { s.dev with result := 0 } ∧ t.heads = s.heads
          ∧ t.twin.orders = s.twin.orders ++ [TwinOrder.state 2 0 (s.et + 2500)])
      ∧ (s.dev.state = .armed →
        ∃ t, exec (.disarm p alone) s = .next t ∧ t.dev = { s.dev with result := 0 } ∧ t.heads = s.heads
          ∧ t.twin.orders = s.twin.orders ++ [TwinOrder.state 6 0 (s.et + 2500)]))

/-- In their turn, written by a path that may write, with no automatic transition in the same cycle, by a SOLO
controller or a PRIMARY without a SHADOW: PAUSE in EXPOSING is accepted with result 0, and the state is PAUSED at
once where every head holds, else EXPOSING with the pause pending; RESUME in PAUSED with the inhibit released and
no trip or fault cause present enters EXPOSING; STOP in EXPOSING or PAUSED enters ARMED, with every head without
an item, its line buffers empty and its beamlets dark. In these three Exposure Time, motion and supplies stay.
RESTART at Service level in RESTRICTED, STANDBY or FAULT enters BOOT with cause 0x0001 (0x0030 while a trip is in
effect); every numeric value, byte string, head, job, session, camera, engine, axis, DRAM and ring state is back
at its value after reset, no leaf is set but BOOT_HELD, Exposure Time is the counter's own (without PAIR_OFFSET),
and fuses, the thermal unit and the cause of the last reset stay. (R19, R24, R605, R608, R645, R714) -/
def Obligations.PauseResumeStopRestartComplete : Prop :=
  ∀ (s : State) (p : Path) (alone : Bool), s.Takes p (s.writeGate p 0x2001 2) → s.dev.autoThisCycle = false → s.twin.role = .solo ∨ s.twin.role = .primary →
    s.hasShadow = false →
    (s.dev.state = .exposing → s.dev.pausePending = false →
      ∃ t, exec (.pause p alone) s = .next t ∧ t.dev.result = 0 ∧ t.clk = s.clk ∧ t.motion = s.motion ∧ t.power = s.power
        ∧ (t.dev.state = .exposing ∧ t.dev.pausePending = true ∧ t.allHold = false ∨ t.dev.state = .paused ∧ t.allHold = true))
    ∧ (s.dev.state = .paused → s.power.inhibit = false → s.thermal.tripped = false → [0x31, 0x32, 0x33].any s.present = false →
      ∃ t, exec (.resume p alone) s = .next t ∧ t.dev = ({ s.dev with result := 0 } : Dev).moved .exposing 0 s.et
        ∧ t.clk = s.clk ∧ t.motion = s.motion ∧ t.power = s.power)
    ∧ (s.dev.state = .exposing ∨ s.dev.state = .paused →
      ∃ t, exec (.stop p alone) s = .next t ∧ t.dev = ({ s.dev with result := 0 } : Dev).moved .armed 0 s.et
        ∧ (∀ x ∈ t.heads, x.path.run = none ∧ x.path.buffers = List.replicate 8 [] ∧ x.path.beams = List.replicate 8 BeamNow.dark)
        ∧ t.clk = s.clk ∧ t.motion = s.motion ∧ t.power = s.power)
    ∧ (s.dev.state = .restricted ∨ s.dev.state = .standby ∨ s.dev.state = .fault → (s.on p).level = .service →
      ∃ t, exec (.restart p alone) s = .next t ∧ t.dev.state = .boot ∧ t.dev.prev = s.dev.state ∧ t.dev.result = 0
        ∧ t.dev.cause = (if s.thermal.tripped then 0x30 else 0x01) ∧ t.regs = [] ∧ t.blobs = [] ∧ t.heads = State.reset.heads
        ∧ t.job = Job.initial ∧ t.sessions = State.reset.sessions ∧ t.sieve = State.reset.sieve ∧ t.engine = State.reset.engine
        ∧ t.motion = State.reset.motion ∧ t.dram = State.reset.dram ∧ t.ring = State.reset.ring
        ∧ (∀ l ∈ t.leaves, bootHeld l.reg l.bit = true)
        ∧ t.clk = { s.clk with et := ((s.clk.et : Int) - s.twin.pairOffset).toNat }
        ∧ t.fuses = s.fuses ∧ t.thermal = s.thermal ∧ t.power.resetCause = s.power.resetCause)

/-- In its turn a request code 0 is answered with success and changes nothing else; a code above 8 aborts with
0x0003_0002. PAUSE_HOLD_REACHED with every head holding enters PAUSED with cause 0 at the present ET and changes
nothing else but, at a SHADOW, what it compares with its partner. In its turn WATCHDOG_EXPIRY of a SOLO
controller with no trip in effect enters FAULT with cause 0x0033 from the states that R19 lists: no permit is
high, and Exposure Time, supplies and the thermal unit stay. FIRMWARE_RESTART_COMPLETE ends the cores' restart
and takes the front end's records into the queue where they fit. (R19, R20, R24, R25, R408, R654, R714) -/
def Obligations.OtherRequestsAndWatchdogComplete : Prop :=
  (∀ (s : State) (p : Path) (alone : Bool), s.Takes p (s.writeGate p 0x2001 2) → exec (.requestNone p alone) s = .next (s.answer p 0 []))
  ∧ (∀ (s : State) (p : Path) (code : Nat), s.Takes p (s.writeGate p 0x2001 2) → 8 < code →
      exec (.stateRequestInvalid p code) s = .next (s.answer p 0x00030002 []))
  ∧ (∀ s : State, s.dev.state = .exposing → s.dev.pausePending = true → s.allHold = true →
      ∃ t, exec .pauseHoldReached s = .next t ∧ t.dev = s.dev.moved .paused 0 s.et
        ∧ t = { s with dev := t.dev, twin := t.twin } ∧ (s.twin.role ≠ .shadow → t.twin = s.twin))
  ∧ (∀ s : State, s.turn 3 = true → s.dev.state.faults = true → s.thermal.tripped = false → s.twin.role = .solo →
      ∃ t, exec .watchdogExpiry s = .next t ∧ t.dev.state = .fault ∧ t.dev.cause = 0x33 ∧ t.dev.prev = s.dev.state
        ∧ t.dev.coresDown = true ∧ (∀ h, t.permit h = false) ∧ t.clk = s.clk ∧ t.power = s.power ∧ t.thermal = s.thermal)
  ∧ (∀ s : State, s.dev.coresDown = true → s.recorder.queue.length + s.recorder.front.length ≤ 256 →
      exec .firmwareRestartComplete s = .next { s with
        dev := { s.dev with coresDown := false }
        recorder := { s.recorder with queue := s.recorder.queue ++ s.recorder.front, front := [] } })

/-- In its turn, outside OFF and AUX, a measurement of the 16 sensors is taken in. With every reading that takes
part below 118.00 °C it leaves the trip, the device state, the heads, the axes, the job, Exposure Time and
supplies as they are, and DIE_MAX, DIE_MAX_SENSOR and PEAK follow it. With one at or above 118.00 °C while no
trip is in effect, it trips: no permit is high, and the device is in FAULT, or in BOOT when it was there, with
cause 0x0030; Exposure Time, supplies, fuses and flash stay. A restart, once cooled, ends the trip and leads from
FAULT with cause 0x0030 to PAUSED (for a trip in ARMED, EXPOSING or PAUSED) or STANDBY (in STANDBY or FAULT) with
cause 0x0042, or back to FAULT with the highest kept cause that is still present. An optics temperature timeout
makes the temperature of its head invalid, its warning and THERMAL_VALID 0, and changes nothing else but what its
leaves report. (R573, R577, R579, R580, R582, R583, R585, R19) -/
def Obligations.ThermalCommandsComplete : Prop :=
  (∀ (s : State) (readings : List Int), s.turn 2 = true → s.dev.state ≠ .off → s.dev.state ≠ .aux →
      let m := s.thermal.measured readings s.clk.island
      let top := hottest (partReadings s.thermal.sensors m.1)
      (top.2 < 11800 → ∃ t, exec (.thermalMeasurement readings) s = .next t ∧ t.thermal.sensors = m.1
        ∧ t.reg 0x2031 1 = top.2 ∧ t.reg 0x2031 2 = top.1 ∧ t.reg 0x2031 14 = max (s.reg 0x2031 14) top.2
        ∧ t.thermal.tripped = s.thermal.tripped ∧ t.thermal.hotAt = s.thermal.hotAt ∧ t.dev = s.dev ∧ t.heads = s.heads
        ∧ t.motion = s.motion ∧ t.job = s.job ∧ t.clk = s.clk ∧ t.power = s.power)
      ∧ (11800 ≤ top.2 → s.thermal.tripped = false → ∃ t, exec (.thermalMeasurement readings) s = .next t
        ∧ t.thermal.sensors = m.1 ∧ t.thermal.tripped = true ∧ t.thermal.hotAt = s.clk.island ∧ (∀ h, t.permit h = false)
        ∧ t.dev.state = (if s.dev.state = .boot then .boot else .fault) ∧ t.dev.cause = 0x30
        ∧ t.clk = s.clk ∧ t.power = s.power ∧ t.fuses = s.fuses ∧ t.flash = s.flash))
  ∧ (∀ s : State, s.cooled = true → s.dev.state = .fault → s.dev.cause = 0x30 → s.dev.kept.filter s.present = [] →
      (s.dev.tripFrom = .armed ∨ s.dev.tripFrom = .exposing ∨ s.dev.tripFrom = .paused → ∃ t, exec .thermalRestart s = .next t
        ∧ t.thermal.tripped = false ∧ t.dev.state = .paused ∧ t.dev.cause = 0x42 ∧ t.dev.kept = [] ∧ t.clk = s.clk ∧ t.power = s.power)
      ∧ (s.dev.tripFrom = .standby ∨ s.dev.tripFrom = .fault → ∃ t, exec .thermalRestart s = .next t
        ∧ t.thermal.tripped = false ∧ t.dev.state = .standby ∧ t.dev.cause = 0x42 ∧ t.dev.kept = [] ∧ t.clk = s.clk ∧ t.power = s.power))
  ∧ (∀ s : State, s.cooled = true → s.dev.state = .fault → s.dev.cause = 0x30 → 0x30 ∉ s.dev.kept →
      s.dev.kept.filter s.present ≠ [] →
      ∃ t, exec .thermalRestart s = .next t ∧ t.thermal.tripped = false ∧ t.dev.state = .fault ∧ t.dev.kept = []
        ∧ t.dev.cause ∈ s.dev.kept ∧ (∀ c ∈ s.dev.kept, s.present c = true → c ≤ t.dev.cause))
  ∧ (∀ (s : State) (h : Nat), h < 32 → ∃ t, exec (.opticsTempTimeout h) s = .next t
        ∧ t.heads = s.heads.modify h (fun x => { x with link := { x.link with opticsValid := false, opticsWarning := false } })
        ∧ ({ s with heads := t.heads } : State).ReportsWith t [regKey (0x4160 + h) 14]
        ∧ ((s.head h).link.opticsValid = true → t.reg (0x4160 + h) 14 = 0))

/-- In its turn, with the main PLL locked, a gate judges every source. Where the preferred source was and stays
qualified, it is the root, outside holdover. Where it gains its qualification, it is the root too and the four
qualifications are those of the gate. Where it is not qualified and HOLDOVER_TIME, not 0, has not passed, the
root is holdover. A loss of the oscillator's edges takes its qualification at once; with the PLL locked and
another preferred source qualified, that is the root. When HOLDOVER_TIME passes in holdover with the preferred
source unqualified, the root is the oscillator if that is qualified. Except at a gain, nothing changes but the
clock unit, its counters and what is reported. (R557, R559, R560, R561, R562, R569, R571, R452) -/
def Obligations.ClockRootCommandsComplete : Prop :=
  (∀ (s : State) (a b c x : Int), s.turn 3 = true → s.clocks.mainLock = true →
      let k := ({ s.clocks with portA := s.clocks.portA.gate a s.clk.island, portB := s.clocks.portB.gate b s.clk.island,
                                twinLink := s.clocks.twinLink.gate c s.clk.island } : ClockUnit).oscillator x
      (s.clocks.qualified s.preferred = true → k.qualified s.preferred = true → ∃ t, exec (.rootGate a b c x) s = .next t
        ∧ t.clocks = { k with root := s.preferred, inHoldover := false, holdoverSpent := false
                              rootGates := if s.clocks.root = s.preferred then k.rootGates else 0 }
        ∧ ({ s with clocks := t.clocks } : State).ReportsWith t [regKey 0x2011 3, regKey 0x2011 4, regKey 0x2011 6]
        ∧ t.reg 0x2011 3 = xoMean k.xoOffsets)
      ∧ (k.qualified s.preferred = true → ∃ t, exec (.rootGate a b c x) s = .next t
        ∧ t.clocks.root = s.preferred ∧ t.clocks.inHoldover = false ∧ t.clocks.holdoverSpent = false
        ∧ t.clocks.portA = k.portA ∧ t.clocks.portB = k.portB ∧ t.clocks.twinLink = k.twinLink ∧ t.clocks.xoQualified = k.xoQualified)
      ∧ (k.qualified s.preferred = false → k.holdoverSpent = false → s.reg 0x2010 2 ≠ 0 → ∃ t, exec (.rootGate a b c x) s = .next t
        ∧ t.clocks.inHoldover = true ∧ (s.clocks.inHoldover = false → t.clocks.root = 4 ∧ t.clocks.holdoverFrom = s.et)
        ∧ ({ s with clocks := t.clocks } : State).ReportsWith t [regKey 0x2011 3, regKey 0x2011 4, regKey 0x2011 5]))
  ∧ (∀ s : State, s.turn 3 = true → s.dev.state ≠ .off → s.dev.state ≠ .aux → s.clocks.mainLock = false → ∃ t, exec .xoEdgeLoss s = .next t
        ∧ t.clocks = { s.clocks with xoQualified := false, xoGood := 0, xoOffsets := [] }
        ∧ ({ s with clocks := t.clocks } : State).Reports t)
  ∧ (∀ s : State, s.turn 3 = true → s.dev.state ≠ .off → s.dev.state ≠ .aux → s.clocks.mainLock = true → s.preferred ≠ 2 →
      s.clocks.qualified s.preferred = true → ∃ t, exec .xoEdgeLoss s = .next t
        ∧ t.clocks.xoQualified = false ∧ t.clocks.root = s.preferred
        ∧ ({ s with clocks := t.clocks } : State).ReportsWith t [regKey 0x2011 4, regKey 0x2011 6])
  ∧ (∀ s : State, s.turn 3 = true → s.clocks.inHoldover = true → s.clocks.qualified s.preferred = false → s.clocks.xoQualified = true →
      ∃ t, exec .holdoverTimeExpiry s = .next t
        ∧ t.clocks = { s.clocks with holdoverSpent := true, inHoldover := false, root := 2
                                     rootGates := if s.clocks.root = 2 then s.clocks.rootGates else 0 }
        ∧ ({ s with clocks := t.clocks } : State).ReportsWith t [regKey 0x2011 4, regKey 0x2011 6])

/-- In its turn a PLL that loses lock leads from RESTRICTED, STANDBY, ARMED, EXPOSING and PAUSED to FAULT with
cause 0x0031 and no permit high (Exposure Time, supplies and the thermal unit stay), and under a trip the cause
is kept and heads and axes stay. A PLL that start-up has locked regains lock and nothing else changes. A START of
1 while no measurement runs makes BUSY 1. The end of a measurement clears BUSY and gives RESULT and PPM; RESULT
of a gated or stopped target reads 0 and its PPM the most negative value. Nothing else changes. (R20, R561, R567,
R568, R583, R19) -/
def Obligations.PllAndFrequencyCommandsComplete : Prop :=
  (∀ (s : State) (pll : Nat), s.turn 3 = true → s.clocks.lockOf pll = true → s.thermal.tripped = false → s.dev.state.faults = true →
      ∃ t, exec (.pllUnlock pll) s = .next t ∧ t.clocks = s.clocks.withLock pll false ∧ t.dev.state = .fault ∧ t.dev.cause = 0x31
        ∧ (∀ h, t.permit h = false) ∧ t.clk = s.clk ∧ t.power = s.power ∧ t.thermal = s.thermal)
  ∧ (∀ (s : State) (pll : Nat), s.turn 3 = true → s.clocks.lockOf pll = true → s.thermal.tripped = true →
      ∃ t, exec (.pllUnlock pll) s = .next t ∧ t.clocks = s.clocks.withLock pll false ∧ 0x31 ∈ t.dev.kept
        ∧ t.dev = { s.dev with kept := t.dev.kept } ∧ t.heads = s.heads ∧ t.motion = s.motion)
  ∧ (∀ (s : State) (pll : Nat), s.clk.running = true → s.power.step ≠ 2 →
      exec (.pllLockRegained pll) s = .next { s with clocks := s.clocks.withLock pll true })
  ∧ (∀ (s : State) (p : Path), s.Takes p (s.writeGate p 0x2012 5) → s.clocks.freqBusy = false →
      exec (.startMeasurement p 1) s = .next (({ s with clocks := { s.clocks with freqBusy := true } } : State).answer p 0 []))
  ∧ (∀ (s : State) (count : Nat), s.clocks.freqBusy = true →
      (s.ungated (s.regN 0x2012 1) = true → ∃ t, exec (.freqMeasurementComplete true count) s = .next t ∧ t.reg 0x2012 7 = count
        ∧ t.reg 0x2012 8 = roundDiv (((count * nominalHz (s.regN 0x2012 2) : Nat) - (s.regN 0x2012 3 * nominalHz (s.regN 0x2012 1) : Nat) : Int)
            * 100000000) (s.regN 0x2012 3 * nominalHz (s.regN 0x2012 1))
        ∧ s.KeepsRegs t [regKey 0x2012 7, regKey 0x2012 8]
        ∧ t = { s with clocks := { s.clocks with freqBusy := false }, regs := t.regs })
      ∧ (∀ running, (running && s.ungated (s.regN 0x2012 1)) = false →
        ∃ t, exec (.freqMeasurementComplete running count) s = .next t ∧ t.reg 0x2012 7 = 0 ∧ t.reg 0x2012 8 = -2147483648
        ∧ s.KeepsRegs t [regKey 0x2012 7, regKey 0x2012 8]
        ∧ t = { s with clocks := { s.clocks with freqBusy := false }, regs := t.regs }))

/-- On a trained channel a read whose line a write of the queue matches waits and changes nothing else. A line
that passes its parity, of a client other than exposure, changes nothing but the retry buffer, or where it was
repeated the repeat and READ_RECOVERED; one of exposure gives its latency and reaches the head's item buffer. A
line that fails is counted and repeated, up to three times. A fall of ALERT_N is counted with its leaf; its
release replays the commands of the last 40 clocks before the fall, ahead of what waits; one that stays low
retrains the channel with its count and leaf. (An ACTIVATE is not part of these reads.) (R529, R532, R533, R534,
R535, R536, R537, R538, R539) -/
def Obligations.MemoryReadsAndAlertsComplete : Prop :=
  (∀ (s : State) (ch client address latency h id place : Nat) (line : List Byte) (act bitmap : Bool), ch < 2 → h < 32 →
      (s.channel ch).trained = true → s.writeWaits address = true →
      exec (.dramReadComplete ch client address line latency act h id ⟨bitmap, place⟩) s = .next { s with dram := { s.dram with
        blocked := s.dram.blocked ++ [⟨.dramReadComplete ch client address line latency act h id ⟨bitmap, place⟩, s.et⟩] } })
  ∧ (∀ (s : State) (ch client address latency h id place : Nat) (line : List Byte) (bitmap : Bool), ch < 2 → h < 32 →
      (s.channel ch).trained = true → s.writeWaits address = false → failingLanes line = 0 →
      (clientCode client ≠ 2 → (s.channel ch).repeatsOf (clientCode client) address = 0 →
        exec (.dramReadComplete ch client address line latency false h id ⟨bitmap, place⟩) s
          = .next (s.onChannel ch (fun c => c.noteIssued (s.et - 11) (.read address))))
      ∧ (clientCode client ≠ 2 → (s.channel ch).repeatsOf (clientCode client) address ≠ 0 →
        ∃ t, exec (.dramReadComplete ch client address line latency false h id ⟨bitmap, place⟩) s = .next t
          ∧ t.dram = { s.dram with channels := s.dram.channels.modify ch (fun c => c.settled (clientCode client) address) }
          ∧ t.reg (0xA010 + ch) 4 = counterNext (regKey (0xA010 + ch) 4) (s.reg (0xA010 + ch) 4) 1
          ∧ s.KeepsRegs t [regKey (0xA010 + ch) 4] ∧ t = { s with dram := t.dram, regs := t.regs })
      ∧ (clientCode client = 2 → (s.channel ch).repeatsOf 2 address = 0 →
        ∃ t, exec (.dramReadComplete ch client address line latency false h id ⟨bitmap, place⟩) s = .next t
          ∧ t.dram = { s.dram with channels := s.dram.channels.modify ch (fun c => c.noteIssued (s.et - 11) (.read address)) }
          ∧ t.job.latencies = (latency :: s.job.latencies).take 1048576
          ∧ t.reg (0xA010 + ch) 14 = max (s.reg (0xA010 + ch) 14) latency
          ∧ s.KeepsRegs t [regKey 0x3010 5, regKey (0xA010 + ch) 14] ∧ t = { s with dram := t.dram, job := t.job, regs := t.regs }))
  ∧ (∀ (s : State) (ch client address latency h id place : Nat) (line : List Byte) (bitmap : Bool), ch < 2 → h < 32 →
      (s.channel ch).trained = true → s.writeWaits address = false → failingLanes line ≠ 0 →
      (s.channel ch).repeatsOf (clientCode client) address < 3 →
      ∃ t, exec (.dramReadComplete ch client address line latency false h id ⟨bitmap, place⟩) s = .next t
        ∧ (ch < s.dram.channels.length → (t.channel ch).repeats = ((s.channel ch).again (clientCode client) address).repeats)
        ∧ t.dram = { s.dram with channels := t.dram.channels }
        ∧ t.reg (0xA010 + ch) 3 = counterNext (regKey (0xA010 + ch) 3) (s.reg (0xA010 + ch) 3) 1
        ∧ ({ s with dram := t.dram } : State).ReportsWith t [regKey (0xA010 + ch) 3])
  ∧ (∀ (s : State) (ch : Nat), ch < 2 → (s.channel ch).trained = true → (s.channel ch).alert ≠ .low →
      ∃ t, exec (.caAlert ch) s = .next t
        ∧ (ch < s.dram.channels.length → (t.channel ch).alert = .low ∧ (t.channel ch).fellAt = s.et)
        ∧ t.reg (0xA010 + ch) 1 = counterNext (regKey (0xA010 + ch) 1) (s.reg (0xA010 + ch) 1) 1
        ∧ (leafAt t.leaves 0x210C (8 * ch)).isSome = true
        ∧ ({ s with dram := { s.dram with channels := t.dram.channels } } : State).ReportsWith t [regKey (0xA010 + ch) 1])
  ∧ (∀ (s : State) (ch : Nat), ch < 2 → ch < s.dram.channels.length → (s.channel ch).alert = .low → (s.channel ch).falls < 3 →
      (s.channel ch).retraining = false →
      ∃ t, exec (.caAlertRelease ch) s = .next t ∧ (t.channel ch).alert = .replay
        ∧ (∃ rows, (t.channel ch).toIssue = rows ++ (s.channel ch).recent (s.channel ch).fellAt ++ (s.channel ch).toIssue)
        ∧ s.KeepsRegs t [regKey (0xA010 + ch) 9]
        ∧ t = { s with dram := { s.dram with channels := t.dram.channels }, regs := t.regs, fresh := t.fresh })
  ∧ (∀ (s : State) (ch : Nat), ch < 2 → (s.channel ch).alert = .low → (s.channel ch).retraining = false →
      ∃ t, exec (.caAlertStuck ch) s = .next t
        ∧ t.dram = { s.dram with channels := s.dram.channels.modify ch (fun c =>
            { c with retraining := true, retrainDue := false, repeated := false }) }
        ∧ t.reg (0xA010 + ch) 12 = counterNext (regKey (0xA010 + ch) 12) (s.reg (0xA010 + ch) 12) 1
        ∧ (leafAt t.leaves 0x210C (8 * ch + 3)).isSome = true
        ∧ ({ s with dram := t.dram } : State).ReportsWith t [regKey (0xA010 + ch) 12])

/-- A refresh of a trained channel's rank is counted and its command given to the channel with those that were
postponed, or it is postponed while exposure reads wait and fewer than four are; ZQ_CALIBRATION counts one
calibration of every rank of each trained channel and gives the channel its commands. A case temperature read
under source 1 above 85 °C doubles the refresh rate, one below 83 °C ends the doubling, and one between changes
no channel; a write that is missing for 1 s under source 2 doubles it on both channels. Nothing else changes but
the value read and what the leaf reports. (R541, R542) -/
def Obligations.RefreshAndTemperatureCommandsComplete : Prop :=
  (∀ (s : State) (ch rank : Nat), ch < 2 → rank < s.ranks → (s.channel ch).trained = true →
      let n := (s.channel ch).postponed.getD rank 0
      (n < 4 → exec (.refresh ch rank true) s = .next (s.onChannel ch (fun c => { c with postponed := c.postponed.set rank (n + 1) })))
      ∧ (4 ≤ n → exec (.refresh ch rank true) s = .next (s.onChannel ch (fun c =>
          ({ c with refreshes := c.refreshes + 1 } : DramChannel).issue s.et (.refresh rank))))
      ∧ exec (.refresh ch rank false) s = .next (s.onChannel ch (fun c => (List.replicate (1 + n) (DramCommand.refresh rank)).foldl
          (fun x y => x.issue s.et y) { c with refreshes := c.refreshes + (1 + n), postponed := c.postponed.set rank 0 })))
  ∧ (∀ s : State, ∃ t, exec .zqCalibration s = .next t ∧ t = { s with dram := { s.dram with channels := t.dram.channels } }
      ∧ t.dram.channels.length = s.dram.channels.length
      ∧ ∀ (i : Nat) (c : DramChannel), s.dram.channels[i]? = some c → ∃ d : DramChannel, t.dram.channels[i]? = some d ∧ (c.trained = false → d = c)
        ∧ (c.trained = true → d.zqCalibrations = c.zqCalibrations + s.ranks
            ∧ d = { c with zqCalibrations := d.zqCalibrations, issued := d.issued, toIssue := d.toIssue }))
  ∧ (∀ (s : State) (ch : Nat) (v : Int), ch < s.dram.channels.length → ch < 2 → (s.channel ch).trained = true → s.reg 0xA000 2 = 1 →
      -32768 ≤ v → v ≤ 32767 →
      ∃ t, exec (.caseTempRead ch v) s = .next t ∧ t.reg (0xA010 + ch) 11 = v
        ∧ (8500 < v → (t.channel ch).doubled = true) ∧ (v < 8300 → (t.channel ch).doubled = false)
        ∧ (8300 ≤ v → v ≤ 8500 → t.dram = s.dram)
        ∧ ({ s with dram := t.dram } : State).ReportsWith t [regKey (0xA010 + ch) 11])
  ∧ (∀ s : State, s.reg 0xA000 2 = 2 → s.dram.channels.length = 2 → ∃ t, exec .caseTempTimeout s = .next t
        ∧ (t.channel 0).doubled = true ∧ (t.channel 1).doubled = true
        ∧ ({ s with dram := t.dram } : State).Reports t)

/-- A due retraining starts with its count when no alert sequence and no repeat is in progress, and otherwise
stays due; nothing else changes but what its leaf reports. In its turn, a rank inside its margins that is not the
last leads on to the next, and the last one ends the retraining with its ET, and replays the buffer where an
alert had called for it; a rank outside is repeated once, and outside again leads to FAULT with cause 0x0032 and
no permit high. A retry in FAULT that succeeds takes the cause away; one that fails is counted and changes
nothing else but what its leaf reports. (R20, R545, R546, R550, R583) -/
def Obligations.RetrainingCommandsComplete : Prop :=
  (∀ (s : State) (ch : Nat), ch < 2 → (s.channel ch).trained = true → (s.channel ch).retraining = false → s.retrainDue ch = true →
      ((s.channel ch).alert = .none → (s.channel ch).repeats = [] → ∃ t, exec (.retrainStart ch) s = .next t
        ∧ t.dram = { s.dram with channels := s.dram.channels.modify ch (fun c =>
            { c with retraining := true, retrainDue := false, repeated := false }) }
        ∧ t.reg (0xA010 + ch) 12 = counterNext (regKey (0xA010 + ch) 12) (s.reg (0xA010 + ch) 12) 1
        ∧ ({ s with dram := t.dram } : State).ReportsWith t [regKey (0xA010 + ch) 12])
      ∧ ((s.channel ch).alert ≠ .none ∨ (s.channel ch).repeats ≠ [] →
        exec (.retrainStart ch) s = .next (s.onChannel ch (fun c => { c with retrainDue := true }))))
  ∧ (∀ (s : State) (ch rank : Nat), s.turn 3 = true → ch < 2 → (s.channel ch).retraining = true → rank < s.ranks →
      (rank + 1 = s.ranks → ∃ t, exec (.retrainComplete ch rank true) s = .next t ∧ (s.dram.channels.length = 2 →
          (t.channel ch).retraining = false ∧ (t.channel ch).lastTrain = s.et
          ∧ (t.channel ch).alert = (if (s.channel ch).alert = .low then .replay else (s.channel ch).alert))
        ∧ t.reg (0xA010 + ch) 13 = s.et ∧ s.KeepsRegs t [regKey (0xA010 + ch) 13, regKey (0xA010 + ch) 9]
        ∧ t = { s with dram := { s.dram with channels := t.dram.channels }, regs := t.regs, fresh := t.fresh })
      ∧ (rank + 1 < s.ranks →
        exec (.retrainComplete ch rank true) s = .next (s.onChannel ch (fun c => { c with repeated := false })))
      ∧ ((s.channel ch).repeated = false →
        exec (.retrainComplete ch rank false) s = .next (s.onChannel ch (fun c => { c with repeated := true })))
      ∧ ((s.channel ch).repeated = true → s.thermal.tripped = false → s.dev.state.faults = true →
        ∃ t, exec (.retrainComplete ch rank false) s = .next t ∧ t.dev.state = .fault ∧ t.dev.cause = 0x32
          ∧ t.dev.failedRank = some (ch, rank) ∧ (∀ h, t.permit h = false) ∧ t.clk = s.clk ∧ t.power = s.power))
  ∧ (∀ (s : State) (ch rank : Nat), s.dev.failedRank = some (ch, rank) →
      (∃ t, exec (.faultRetrainRetry true) s = .next t ∧ t.dev = { s.dev with failedRank := none } ∧ t.present 0x32 = false
        ∧ t.reg (0xA010 + ch) 13 = s.et)
      ∧ (∃ t, exec (.faultRetrainRetry false) s = .next t ∧ s.ReportsWith t [regKey (0xA010 + ch) 12]))

/-- An accepted write to CAUSE clears each leaf bit it names with its counter, unless the leaf's cause occurred
in the same CLK_SYS cycle, and leaves every other leaf and BOOT_HELD as they are; an accepted read of TAKE
answers CAUSE and the 32 counters without the events of the cycle of the read, and clears what the path's
TAKE_MASK names. Nothing but the leaves and the answer changes. (Each in its turn. That commands with no idle
step between them share a cycle is the model's choice, log entry 1.) (R641, R642, R643, R644, R646, R651) -/
def Obligations.CauseAndTakeComplete : Prop :=
  (∀ (s : State) (p : Path) (reg value : Nat), s.Takes p (orElse (s.writeGate p reg 1) (numberTest reg 1 (leBytes 4 value))) →
      ∃ t, exec (.cause p reg value) s = .next t ∧ t = { s with leaves := t.leaves, out := s.out ++ [.answer p 0 []] }
        ∧ t.leaves.map Leaf.key = s.leaves.map Leaf.key
        ∧ ∀ i (h : i < s.leaves.length), ∃ l, t.leaves[i]? = some l ∧
            ((s.leaves[i].reg = reg ∧ value.testBit s.leaves[i].bit = true ∧ bootHeld reg s.leaves[i].bit = false) →
              l.count = min 255 s.leaves[i].now ∧ l.isSet = decide (0 < s.leaves[i].now))
            ∧ (¬(s.leaves[i].reg = reg ∧ value.testBit s.leaves[i].bit = true ∧ bootHeld reg s.leaves[i].bit = false) → l = s.leaves[i]))
  ∧ (∀ (s : State) (p : Path) (reg : Nat), s.Takes p (s.readGate reg 5) →
      ∃ t, exec (.take p reg) s = .next t
        ∧ t = { s with leaves := t.leaves, out := s.out ++ [.answer p 0 (s.takeBytes reg)] }
        ∧ t.leaves.map Leaf.key = s.leaves.map Leaf.key
        ∧ ∀ i (h : i < s.leaves.length), ∃ l, t.leaves[i]? = some l ∧
            ((s.leaves[i].reg = reg ∧ ((s.on p).takeMask reg).testBit s.leaves[i].bit = true ∧ 0 < s.leaves[i].before
                ∧ bootHeld reg s.leaves[i].bit = false) → l.before = 0 ∧ l.now = s.leaves[i].now)
            ∧ (¬(s.leaves[i].reg = reg ∧ ((s.on p).takeMask reg).testBit s.leaves[i].bit = true ∧ 0 < s.leaves[i].before
                ∧ bootHeld reg s.leaves[i].bit = false) → l = s.leaves[i]))

/-- An accepted HOST_RECORD of type 0x8000 or above with up to 1,024 bytes joins the queue, stamped with the
hours and the power cycles, when there is room. A flash write numbers the oldest queued record with NEXT_RECORD,
which rises by one; a failed one keeps the record for one retry. HOURS_STORE stores the operating hours while
VAUX is present. An accepted FLUSH of 1 writes every queued record; CLEAR_TOPSOIL of 1 does the same, leaves no
record from 4,096 on in flash, makes TOPSOIL_OLDEST the next record number, and queues the record of type 0x00A0
that takes it. Nothing else changes but what is reported. (Each with no lost record to report.) (R653, R654,
R656, R657, R658, R659, R664) -/
def Obligations.RecorderWritesComplete : Prop :=
  (∀ (s : State) (p : Path) (data : List Byte), s.Takes p (s.writeGate p 0xC002 3) → 2 ≤ data.length → data.length ≤ 1026 →
      0x8000 ≤ leAt data 0 2 → s.firmwareUp = true → s.recorder.queue.length < 256 →
      exec (.hostRecord p data) s = .next (({ s with recorder := { s.recorder with queue := s.recorder.queue
        ++ [⟨leAt data 0 2, s.hours, s.power.powerCycles, data.drop 2⟩] } } : State).answer p 0 []))
  ∧ (∀ (s : State) (e : EventRecord) (rest : List EventRecord), s.recorder.queue = e :: rest → s.recorder.lost = 0 →
      s.recorder.oldest ≤ s.recorder.next →
      ∃ t, exec (.recordFlashWrite true) s = .next t ∧ t.recorder.queue = rest ∧ t.recorder.next = s.recorder.next + 1
        ∧ (s.recorder.next, e) ∈ t.recorder.flash
        ∧ t.recorder.storedHours = e.hours
        ∧ ({ s with recorder := t.recorder } : State).Reports t)
  ∧ (∀ (s : State), s.recorder.queue ≠ [] → s.recorder.retried = false →
      ∃ t, exec (.recordFlashWrite false) s = .next t ∧ t.recorder = { s.recorder with retried := true }
        ∧ ({ s with recorder := t.recorder } : State).Reports t)
  ∧ (∀ s : State, s.power.vaux = true → exec .hoursStore s = .next { s with recorder := { s.recorder with storedHours := s.hours } })
  ∧ (∀ (s : State) (p : Path), s.Takes p (s.writeGate p 0xC002 2) → s.recorder.lost = 0 →
      ∃ t, exec (.flush p 1) s = .next t ∧ t.recorder.queue = [] ∧ t.recorder.next = s.recorder.next + s.recorder.queue.length
        ∧ ({ s with recorder := t.recorder } : State).Reports t)
  ∧ (∀ (s : State) (p : Path), s.Takes p (s.writeGate p 0xC002 1) → s.recorder.lost = 0 →
      ∃ t, exec (.clearTopsoil p 1) s = .next t ∧ t.recorder.oldest = s.recorder.next + s.recorder.queue.length
        ∧ t.recorder.next = t.recorder.oldest ∧ (∀ x ∈ t.recorder.flash, x.1 < 4096)
        ∧ (s.firmwareUp = true → ∃ e, t.recorder.queue = [e] ∧ e.type = 0xA0)
        ∧ t.dev = s.dev ∧ t.power = s.power ∧ t.heads = s.heads)

/-- An accepted CURSOR selects the record for its own path and its OFFSET becomes 0. NEXT of 1 moves the window
on by 256 bytes within a record, to the next record at its end, and to the oldest one from a record that is no
longer held. No other path's window and nothing else changes. (R660, R661) -/
def Obligations.RecorderReadingCommandsComplete : Prop :=
  (∀ (s : State) (p : Path) (n : Nat), n < 4294967296 → s.Takes p (s.writeGate p 0xC001 2) →
      exec (.cursor p n) s = .next ((s.setSession (pathNumber p) { s.on p with recCursor := n, recOffset := 0 }).answer p 0 []))
  ∧ (∀ (s : State) (p : Path), s.Takes p (s.writeGate p 0xC001 5) →
      (∀ e, s.recorder.record? (s.on p).recArea (s.on p).recCursor = some e →
        ((s.on p).recOffset + 256 < e.bytes.length → exec (.nextRecord p 1) s = .next ((s.setSession (pathNumber p)
            { s.on p with recOffset := (s.on p).recOffset + 256 }).answer p 0 []))
        ∧ (e.bytes.length ≤ (s.on p).recOffset + 256 → exec (.nextRecord p 1) s = .next ((s.setSession (pathNumber p)
            { s.on p with recCursor := (s.on p).recCursor + 1, recOffset := 0 }).answer p 0 [])))
      ∧ (s.recorder.readStatus (s.on p).recArea (s.on p).recCursor = 1 → ∃ x : Session,
        exec (.nextRecord p 1) s = .next ((s.setSession (pathNumber p) x).answer p 0 [])
          ∧ x = { s.on p with recCursor := s.recorder.oldestOf (s.on p).recArea, recOffset := 0 }))

/-- Each access in its turn: an accepted read of CHALLENGE draws a value for its own path and answers it (the
value is free, log entry 12). A right RESPONSE raises its path to Service level and spends the challenge; a wrong
one aborts with 0x0002_0005, counts and spends it, and the third starts the lockout; during the lockout every one
aborts. DROP returns the path to its opening level, and the expiry ends the lockout. STORE takes a snapshot of
the persistent values, which its end makes the stored set or leaves the old set with STORE_RESULT 2;
RESTORE_DEFAULTS erases the stored set. Nothing else changes but the answer and what the record of type 0x0090
reports. (R386, R389, R410, R419, R408, R655) -/
def Obligations.AuthenticationAndStoresComplete : Prop :=
  (∀ (s : State) (p : Path), s.Takes p (s.readGate 0x1020 1) → ∃ v, v < 2 ^ 64 ∧ exec (.challenge p) s =
      .next (({ s with
        auth := { s.auth with drawn := s.auth.drawn + 1 }
        sessions := s.sessions.set (pathNumber p) { s.on p with challenge := some v } } : State).answer p 0 (leBytes 8 v)))
  ∧ (∀ (s : State) (p : Path) (data : List Byte), s.Takes p (s.writeGate p 0x1020 2) → s.auth.locked = false →
      (∀ c, (s.on p).challenge = some c → data = Config.hmacService c s.fuses.serial (pathNumber p) →
        ∃ t, exec (.response p data) s = .next t ∧ t.auth = { s.auth with wrong := 0 }
          ∧ ({ s with auth := t.auth } : State).Reports t ∧ t.out.getLast? = some (.answer p 0 [])
          ∧ (pathNumber p < s.sessions.length → (t.on p).level = .service ∧ (t.on p).challenge = none))
      ∧ ((∀ c, (s.on p).challenge = some c → data ≠ Config.hmacService c s.fuses.serial (pathNumber p)) →
        (s.auth.wrong < 2 → exec (.response p data) s = .next (({ s with
            auth := { s.auth with wrong := s.auth.wrong + 1 }
            sessions := s.sessions.set (pathNumber p) { s.on p with challenge := none } } : State).answer p 0x00020005 []))
        ∧ (s.auth.wrong = 2 → ∃ t, exec (.response p data) s = .next t ∧ t.auth = { s.auth with wrong := 0, locked := true }
          ∧ ({ s with auth := t.auth } : State).Reports t ∧ t.out.getLast? = some (.answer p 0x00020005 []))))
  ∧ (∀ (s : State) (p : Path) (data : List Byte), s.Takes p (s.writeGate p 0x1020 2) → s.auth.locked = true →
      exec (.response p data) s = .next ((s.setSession (pathNumber p) { s.on p with challenge := none }).answer p 0x00020005 []))
  ∧ (∀ (s : State) (p : Path), s.Takes p (s.writeGate p 0x1020 3) →
      exec (.drop p) s = .next ((s.setSession (pathNumber p) { s.on p with level := (s.on p).openLevel }).answer p 0 []))
  ∧ (∀ s : State, exec .authLockoutExpiry s = .next { s with auth := { s.auth with locked := false } })
  ∧ (∀ (s : State) (p : Path), s.Takes p (s.writeGate p 0x1010 1) → s.flash.writing = none →
      ∃ w, exec (.store p 1) s = .next (({ s with flash := { s.flash with writing := some w, result := 1 } } : State).answer p 0 [])
        ∧ (∀ x, x ∈ w.1 ↔ x ∈ s.regs ∧ isPersistent x.1 = true) ∧ (∀ x, x ∈ w.2 ↔ x ∈ s.blobs ∧ isPersistent x.1 = true))
  ∧ (∀ (s : State) (w : List (Nat × Int) × List (Nat × List Byte)), s.flash.writing = some w →
      exec (.storeComplete true) s = .next { s with flash := { regs := w.1, blobs := w.2, writing := none, result := 0 } }
      ∧ exec (.storeComplete false) s = .next { s with flash := { s.flash with writing := none, result := 2 } })
  ∧ (∀ (s : State) (p : Path), s.Takes p (s.writeGate p 0x1010 2) →
      exec (.restoreDefaults p 1) s = .next (({ s with flash := { s.flash with regs := [], blobs := [] } } : State).answer p 0 []))

/-- Each access in its turn: an accepted image whose checks pass and whose flash write succeeds stands in the
target slot with RESULT 0; one that fails a check aborts with 0x0003_0002 and its RESULT, and one whose flash
write fails aborts with 0x0005_0001 and RESULT 4, with every slot as it was. TRIAL of 1 marks a complete target
slot for a trial and refuses any other with RESULT 5. CONFIRM of 1 in STANDBY during a trial makes the running
slot the preferred one. An accepted BLOCK is stored. (Hashes and signatures are opaque functions, log entry 11.)
(R615, R616, R618, R620, R626, R627, R629, R630, R631, R633) -/
def Obligations.ImageAndTrialCommandsComplete : Prop :=
  (∀ (s : State) (p : Path) (bs : List Byte), s.Takes p (s.imageRefusal p 1) →
      (imageFault 1 s.fuses.revision bs = none → ∃ t, exec (.sfImage p bs true) s = .next t ∧ t.reg 0xB001 5 = 0
        ∧ (t.images.slot s.images.target).sf = some bs ∧ (t.images.slot (1 - s.images.target)) = s.images.slot (1 - s.images.target)
        ∧ t.images.boot = s.images.boot ∧ t.out.getLast? = some (.answer p 0 [])
        ∧ ({ s with images := t.images } : State).ReportsWith t [regKey 0xB001 5])
      ∧ (imageFault 1 s.fuses.revision bs = none →
        exec (.sfImage p bs false) s = .next ((s.setReg 0xB001 5 4).answer p 0x00050001 []))
      ∧ (∀ (r : Nat) (good : Bool), imageFault 1 s.fuses.revision bs = some r →
        exec (.sfImage p bs good) s = .next ((s.setReg 0xB001 5 r).answer p 0x00030002 [])))
  ∧ (∀ (s : State) (p : Path) (bs : List Byte), s.Takes p (s.imageRefusal p 2) →
      (imageFault 2 s.fuses.revision bs = none → ∃ t, exec (.mcImage p bs true) s = .next t ∧ t.reg 0xB001 5 = 0
        ∧ (t.images.slot s.images.target).mc = some bs ∧ (t.images.slot (1 - s.images.target)) = s.images.slot (1 - s.images.target)
        ∧ t.images.boot = s.images.boot ∧ t.out.getLast? = some (.answer p 0 [])
        ∧ ({ s with images := t.images } : State).ReportsWith t [regKey 0xB001 5])
      ∧ (imageFault 2 s.fuses.revision bs = none →
        exec (.mcImage p bs false) s = .next ((s.setReg 0xB001 5 4).answer p 0x00050001 []))
      ∧ (∀ (r : Nat) (good : Bool), imageFault 2 s.fuses.revision bs = some r →
        exec (.mcImage p bs good) s = .next ((s.setReg 0xB001 5 r).answer p 0x00030002 [])))
  ∧ (∀ (s : State) (p : Path), s.Takes p (s.writeGate p 0xB001 3) →
      ((s.images.slot s.images.target).complete s.fuses.revision = true →
        exec (.trial p 1) s = .next (({ s with images := s.images.writeBoot s.images.current.preferred 1 s.images.target } : State).answer p 0 []))
      ∧ ((s.images.slot s.images.target).complete s.fuses.revision = false →
        exec (.trial p 1) s = .next ((s.setReg 0xB001 5 5).answer p 0x00030003 [])))
  ∧ (∀ (s : State) (p : Path) (n : Nat), s.Takes p (s.writeGate p 0xB001 4) → s.dev.state = .standby → s.images.current.trial = 2 →
      s.images.running = some n → ∃ t, exec (.confirm p 1) s = .next t ∧ t.images.current.preferred = n ∧ t.images.current.trial = 4
        ∧ t.images.slotA = s.images.slotA ∧ t.images.slotB = s.images.slotB ∧ t.out.getLast? = some (.answer p 0 [])
        ∧ ({ s with images := t.images } : State).Reports t)
  ∧ (∀ (s : State) (p : Path) (bs : List Byte), s.Takes p (s.blockRefusal p bs) →
      exec (.factoryBlock p bs) s = .next (({ s with images := { s.images with block := bs } } : State).answer p 0 []))

/-- An accepted write to a user layer stores it and forms the effective value: the sum of the layers for a port
correction and a lag; a port correction keeps the one it replaces, with the time of the write, for captures made
before it. An accepted write to a stitching object stores the value, and one that starts the check of the cell
table leaves 0x5003:01 at 1 exactly when the check finds no fault in the table as it now stands. No other numeric
value changes but the effective ones, the check's, and the count of lost records. (R143, R207, R216, R217, R432,
R464, R612, R613) -/
def Obligations.LayerAndTableWritesComplete : Prop :=
  (∀ (s : State) (p : Path) (index : Nat) (q : Quantity) (data : List Byte), quantityOf index = some q → s.Takes p (s.userRefusal p index data) →
      ∃ t, exec (.calibrationUserWrite p index 2 data) s = .next t ∧ t.out.getLast? = some (.answer p 0 [])
        ∧ (q.numeric = true → t.reg index 2 = numberOf index 2 data) ∧ (q.numeric = false → t.blob index 2 = data)
        ∧ (∀ k, q = .portCorr k → t.reg index 3 = s.fuses.corr.getD k 0 + numberOf index 2 data
            ∧ ∃ recent, t.time = { s.time with corrections := recent ++ [(k, s.fuses.corr.getD k 0 + s.reg index 2, s.et)] })
        ∧ ((∀ k, q ≠ .portCorr k) → t.time = s.time)
        ∧ (∀ h, q = .lag h → t.reg index 3 = s.reg index 1 + numberOf index 2 data)
        ∧ s.KeepsRegs t [regKey index 2, regKey index 3]
        ∧ t = { s with regs := t.regs, blobs := t.blobs, out := t.out, twin := t.twin, time := t.time })
  ∧ (∀ (s : State) (p : Path) (index sub : Nat) (data : List Byte), s.Takes p (s.stitchRefusal p index sub data) →
      ∃ t, exec (.stitchTableWrite p index sub data) s = .next t ∧ t.out.getLast? = some (.answer p 0 [])
        ∧ (index = 0x5010 → t.blob index sub = data) ∧ (index ≠ 0x5010 → t.reg index sub = numberOf index sub data)
        ∧ (checksTable index sub = true → (t.reg 0x5003 1 = 1 ↔ t.tableFault = none))
        ∧ (checksTable index sub = false → t.reg 0x5003 1 = s.reg 0x5003 1)
        ∧ s.KeepsRegs t [regKey index sub, regKey 0x5003 1, regKey 0x5003 2, regKey 0x5003 3]
        ∧ t = { s with regs := t.regs, blobs := t.blobs, out := t.out, twin := t.twin, leaves := t.leaves, sessions := t.sessions })

/-- An accepted write of 1 to ENABLE of a disabled link, in a state in which links train, takes the link to
ACQUIRE, and of 0 to a link that is not in OPERATION takes it to DISABLED; a training that times out goes to
FAILED with reason 1; the hold-off of a FAILED, enabled link with AUTO_RETRAIN leads to ACQUIRE; a lock lost by a
link in OPERATION leads to ACQUIRE, and one lost in training restarts the count of frames. No other head's link
changes. (R284, R339, R357, R360, R366) -/
def Obligations.HeadLinkCommandsComplete : Prop :=
  (∀ (s : State) (p : Path) (h : Nat), h < 32 → h < s.heads.length → s.Takes p (s.writeGate p (0x8020 + h) 1) →
      ((s.head h).link.state = .disabled → s.linksTrain = true → ∃ t, exec (.headLinkEnableWrite p h 1) s = .next t
        ∧ t.reg (0x8020 + h) 1 = 1 ∧ (t.head h).link.state = .acquire ∧ (∀ k, k ≠ h → t.head k = s.head k)
        ∧ t.dev = s.dev ∧ t.job = s.job ∧ t.out.getLast? = some (.answer p 0 []))
      ∧ ((s.head h).link.state ≠ .operation → ∃ t, exec (.headLinkEnableWrite p h 0) s = .next t
        ∧ t.reg (0x8020 + h) 1 = 0 ∧ (t.head h).link.state = .disabled ∧ (∀ k, k ≠ h → t.head k = s.head k)
        ∧ t.dev = s.dev ∧ t.job = s.job ∧ t.out.getLast? = some (.answer p 0 [])))
  ∧ (∀ (s : State) (h : Nat), (s.head h).link.state = .acquire ∨ (s.head h).link.state = .align ∨ (s.head h).link.state = .negotiate →
      ∃ t, exec (.headLinkTrainingTimeout h) s = .next t ∧ (t.head h).link.state = .failed ∧ (t.head h).link.failReason = 1
        ∧ (∀ k, k ≠ h → t.head k = s.head k) ∧ t = { s with heads := t.heads })
  ∧ (∀ (s : State) (h : Nat), (s.head h).link.state = .failed → s.reg (0x8020 + h) 2 = 1 → s.linkEnabled h = true → s.linksTrain = true →
      ∃ t, exec (.retrainHoldoffExpiry h) s = .next t ∧ (t.head h).link.state = .acquire ∧ (∀ k, k ≠ h → t.head k = s.head k)
        ∧ ({ s with heads := t.heads } : State).ReportsWith t [regKey (0x4160 + h) 14])
  ∧ (∀ (s : State) (h : Nat), (s.head h).link.state = .operation → s.twin.role = .shadow → ∃ t, exec (.uplinkLockLoss h) s = .next t
        ∧ (t.head h).link.state = .acquire ∧ (t.head h).link.sent = [] ∧ (∀ k, k ≠ h → t.head k = s.head k)
        ∧ t.reg (0x8040 + h) 8 = counterNext (regKey (0x8040 + h) 8) (s.reg (0x8040 + h) 8) 1
        ∧ ({ s with heads := t.heads } : State).ReportsWith t [regKey (0x8040 + h) 8, regKey (0x4160 + h) 14])
  ∧ (∀ (s : State) (h : Nat), (s.head h).link.state = .operation → s.twin.role ≠ .shadow → ∃ t, exec (.uplinkLockLoss h) s = .next t
        ∧ (t.head h).link.state = .acquire ∧ (t.head h).link.sent = [] ∧ t.dev = s.dev ∧ t.motion = s.motion ∧ t.clk = s.clk)
  ∧ (∀ (s : State) (h : Nat), (s.head h).link.state ≠ .operation →
      exec (.uplinkLockLoss h) s = .next (s.onLink h (fun l => { l with good := 0, arrivals := [] })))

/-- From RESTRICTED on, with both block locks and the bypass enabled, BYPASS_RAISE starts forwarding with
BYPASS_HOLD high. With a lock missing, the loss timeout lowers it. After a fall, with BYPASS_RETRY not 0, the
retry starts a trial, and the trial's timeout lowers it and counts the failure at both ports. In its turn an
accepted BYPASS_ENABLE of 0 lowers it, and of 1 after a fall starts a trial, which both locks end at once with
forwarding; with no fall before, 1 changes only the value. Nothing else changes but the leaf and what it reports.
(R376, R377, R378, R379, R421) -/
def Obligations.BypassCommandsComplete : Prop :=
  (∀ s : State, s.dev.state.ringRuns = true → s.ring.bothLocked = true → s.bypassEnabled = true → s.ring.forwarding = false →
      ∃ t, exec .bypassRaise s = .next t ∧ t.bypassHold = true ∧ t.ring.forwarding = true ∧ t.ring.portA = s.ring.portA
        ∧ t.ring.portB = s.ring.portB ∧ t = { s with ring := t.ring })
  ∧ (∀ s : State, s.ring.bypass = .high → s.ring.bothLocked = false → ∃ t, exec .bypassLossTimeout s = .next t
        ∧ t.bypassHold = false ∧ t.ring = { s.ring with bypass := .low, forwarding := false, fallen := true, edgeAt := some s.et }
        ∧ (leafAt t.leaves 0x2108 2).isSome = true ∧ ({ s with ring := t.ring } : State).Reports t)
  ∧ (∀ s : State, s.dev.state.ringRuns = true → s.ring.bypass = .low → s.ring.fallen = true → s.reg 0x1030 9 ≠ 0 →
      (s.ring.bothLocked = false →
        exec .bypassRetryExpiry s = .next { s with ring := { s.ring with bypass := .trial, edgeAt := some s.et } })
      ∧ (s.ring.bothLocked = true → ∃ t, exec .bypassRetryExpiry s = .next t ∧ t.bypassHold = true ∧ t.ring.forwarding = true
        ∧ t = { s with ring := t.ring }))
  ∧ (∀ s : State, s.ring.bypass = .trial → s.ring.bothLocked = false → ∃ t, exec .bypassTrialTimeout s = .next t
        ∧ t.ring = { s.ring with bypass := .low, forwarding := false, fallen := true, edgeAt := some s.et }
        ∧ t.reg 0x1040 9 = counterNext (regKey 0x1040 9) (s.reg 0x1040 9) 1
        ∧ t.reg 0x1041 9 = counterNext (regKey 0x1041 9) (s.reg 0x1041 9) 1
        ∧ ({ s with ring := t.ring } : State).ReportsWith t [regKey 0x1040 9, regKey 0x1041 9])
  ∧ (∀ (s : State) (p : Path), s.Takes p (s.writeGate p 0x1030 10) →
      (∃ t, exec (.bypassEnableWrite p 0) s = .next t ∧ t.reg 0x1030 10 = 0 ∧ t.bypassHold = false
        ∧ t.out.getLast? = some (.answer p 0 []) ∧ ({ s with ring := t.ring } : State).ReportsWith t [regKey 0x1030 10])
      ∧ (s.dev.state.ringRuns = true → s.ring.bypass = .low → s.ring.fallen = true → ∃ t, exec (.bypassEnableWrite p 1) s = .next t
        ∧ t.reg 0x1030 10 = 1 ∧ t.bypassHold = true ∧ t.ring.forwarding = (s.ring.bothLocked || s.ring.forwarding)
        ∧ t.out.getLast? = some (.answer p 0 []) ∧ ({ s with ring := t.ring } : State).ReportsWith t [regKey 0x1030 10])
      ∧ (s.ring.fallen = false → ∃ t, exec (.bypassEnableWrite p 1) s = .next t ∧ t.reg 0x1030 10 = 1 ∧ t.ring = s.ring
        ∧ s.ReportsWith t [regKey 0x1030 10]))

/-- In its turn a whole frame with a right FCS on a port in block lock is counted; the controller's own returning
frame has no other effect, a frame of a foreign EtherType is discarded and counted, and a Treyx frame for another
node leaves by the other port with HOPS one lower while forwarding runs and the queue has room. A loss of block
lock takes the source's qualification (Exposure Time, supplies and the thermal unit stay), and while the main PLL
is not locked is counted with its leaf and changes nothing else but what is reported. A gain outside a trial
restores the lock and begins the time of the source, and changes nothing else where no message and no grant of 64
KiB waits; during a trial, with the other port in lock, it starts forwarding. (R14, R368, R371, R372, R374, R377,
R421, R559, R560) -/
def Obligations.RingPortCommandsComplete : Prop :=
  (∀ (s : State) (port : Nat) (bytes : List Byte) (ingress egress : Nat), s.turn 7 = true → port < 2 → s.ringServed = true → (s.ring.port port).lock = true →
      60 ≤ bytes.length → bytes.length ≤ 1514 →
      (s.fate bytes = .own → ∃ t, exec (.ringFrameReceived port bytes true ingress egress) s = .next t
        ∧ t.reg (0x1040 + port) 3 = counterNext (regKey (0x1040 + port) 3) (s.reg (0x1040 + port) 3) 1
        ∧ s.KeepsRegs t [regKey (0x1040 + port) 3] ∧ t = { s with regs := t.regs })
      ∧ (s.fate bytes = .foreign → ∃ t, exec (.ringFrameReceived port bytes true ingress egress) s = .next t
        ∧ t.reg (0x1040 + port) 7 = counterNext (regKey (0x1040 + port) 7) (s.reg (0x1040 + port) 7) 1
        ∧ s.KeepsRegs t [regKey (0x1040 + port) 3, regKey (0x1040 + port) 7] ∧ t = { s with regs := t.regs })
      ∧ (s.fate bytes = .other → 0 < beAt bytes 15 1 → s.ring.forwarding = true → s.queueRoom port ingress (oneHopLess bytes) = true →
        ∃ t, exec (.ringFrameReceived port bytes true ingress egress) s = .next t
          ∧ t.out = s.out ++ [.forwarded (1 - port) (oneHopLess bytes) false]
          ∧ t.reg (0x1040 + port) 4 = counterNext (regKey (0x1040 + port) 4) (s.reg (0x1040 + port) 4) 1
          ∧ (t.ring.port (1 - port)).queue.getLast? = some (egress, (oneHopLess bytes).length + 4)
          ∧ s.KeepsRegs t [regKey (0x1040 + port) 3, regKey (0x1040 + port) 4]
          ∧ t = { s with regs := t.regs, out := t.out, ring := t.ring }))
  ∧ (∀ (s : State) (port : Nat), port < 2 → s.ringOn = true → (s.ring.port port).lock = true →
      (∃ t, exec (.blockLockLoss port) s = .next t ∧ t.ring = s.ring.withPort port { s.ring.port port with lock := false }
        ∧ t.clocks.qualified port = false ∧ t.clk = s.clk ∧ t.power = s.power ∧ t.thermal = s.thermal)
      ∧ (s.clocks.mainLock = false → ∃ t, exec (.blockLockLoss port) s = .next t ∧ t.dev = s.dev
        ∧ t.reg (0x1040 + port) 2 = counterNext (regKey (0x1040 + port) 2) (s.reg (0x1040 + port) 2) 1
        ∧ (leafAt t.leaves 0x2108 port).isSome = true
        ∧ ({ s with ring := t.ring, clocks := t.clocks } : State).ReportsWith t [regKey (0x1040 + port) 2]))
  ∧ (∀ (s : State) (port : Nat), port < 2 → s.ringOn = true → s.ring.bypass ≠ .trial → ∃ t, exec (.blockLockGain port) s = .next t
        ∧ t.ring = s.ring.withPort port { s.ring.port port with lock := true } ∧ t.clocks.mainLock = s.clocks.mainLock
        ∧ (port = 0 → t.clocks = { s.clocks with portA := { s.clocks.portA with
            lock := true, since := if s.clocks.portA.lock then s.clocks.portA.since else s.clk.island } })
        ∧ (port = 1 → t.clocks = { s.clocks with portB := { s.clocks.portB with
            lock := true, since := if s.clocks.portB.lock then s.clocks.portB.since else s.clk.island } })
        ∧ t.dev = s.dev ∧ t.heads = s.heads ∧ t.clk = s.clk ∧ t.job.segments = s.job.segments
        ∧ ((∀ n, (s.session n).backlog = []) → s.job.unsentGrant < 65536 → t = { s with ring := t.ring, clocks := t.clocks }))
  ∧ (∀ (s : State) (port : Nat), port < 2 → s.ringOn = true → s.ring.bypass = .trial → (s.ring.port (1 - port)).lock = true →
      ∃ t, exec (.blockLockGain port) s = .next t ∧ t.bypassHold = true ∧ t.ring.forwarding = true ∧ t.ring.bypass = .high)

/-- In its turn a SESSION_OPEN of 16 bytes outside OFF, AUX and BOOT that no test refuses opens the lowest free
number for its sender at the level it asked, both numberings at 1, and is answered with SESSION_ACCEPT; for a job
session the credit account begins at 0 and CREDIT_LIMIT rises to STAGING_BYTES. A refused one is answered with
its RESULT and opens nothing. In its turn a close of an open session closes it with reason 1, and a job session's
reception ends with it; a timeout closes it with reason 3 and its leaf, and leaves the device state, the heads
and the segments. (R382, R383, R384, R385, R388, R392) -/
def Obligations.SessionOpenAndCloseComplete : Prop :=
  (∀ (s : State) (source : Nat) (payload : List Byte), s.turn 7 = true → s.ringServed = true → payload.length = 16 →
      (∀ n, s.openResult (openAsk payload) = 0 → s.freeSession = some n → (openAsk payload).job = false → ∃ x : Session,
        exec (.sessionOpen source payload) s = .next
          (({ s with sessions := s.sessions.set n x } : State).sendFrames source [acceptFrame (acceptBytes 0 n x)])
        ∧ x.isOpen = true ∧ x.peer = source ∧ x.job = false ∧ x.level = openingLevel (openAsk payload) ∧ x.openLevel = x.level
        ∧ x.txSeq = 1 ∧ x.rxNext = 1 ∧ x.unacked = [] ∧ x.held = [] ∧ x.subscribe = 0 ∧ x.transfer = none)
      ∧ (∀ n, s.openResult (openAsk payload) = 0 → s.freeSession = some n → n < s.sessions.length → (openAsk payload).job = true →
        ∃ t, exec (.sessionOpen source payload) s = .next t ∧ (t.session n).isOpen = true ∧ (t.session n).peer = source
          ∧ (t.session n).job = true ∧ t.reg 0x3012 5 = s.reg 0x3012 4 ∧ t.reg 0x3012 6 = 0
          ∧ t.job = { s.job with receiving := none, offset := 0, freedRemainder := 0, unsentGrant := 0 }
          ∧ t.dev = s.dev ∧ t.heads = s.heads)
      ∧ (s.openResult (openAsk payload) ≠ 0 → ∃ b : List Byte,
        exec (.sessionOpen source payload) s = .next (s.sendFrames source [acceptFrame b])
          ∧ b.head? = some (byteOf (s.openResult (openAsk payload)))))
  ∧ (∀ (s : State) (n : Nat), s.turn 7 = true → s.openRing n = true → (s.session n).job = false →
      ∃ t, exec (.sessionClose n) s = .next t ∧ (t.session n).isOpen = false ∧ t.reg 0x1031 5 = 1
        ∧ s.ReportsWith t [regKey 0x1031 5])
  ∧ (∀ (s : State) (n : Nat), s.turn 7 = true → s.openRing n = true → (s.session n).job = true →
      ∃ t, exec (.sessionClose n) s = .next t ∧ (t.session n).isOpen = false ∧ t.reg 0x1031 5 = 1 ∧ t.reg 0x3000 3 = 0
        ∧ t.job = { s.job with receiving := none, offset := 0 })
  ∧ (∀ (s : State) (n : Nat), s.openRing n = true →
      ∃ t, exec (.sessionTimeout n) s = .next t ∧ (t.session n).isOpen = false ∧ t.reg 0x1031 5 = 3
        ∧ (leafAt t.leaves 0x2108 3).isSome = true ∧ t.dev = s.dev ∧ t.heads = s.heads
        ∧ t.job.segments = s.job.segments)

/-- On an open session an acknowledgement without SACK frees the kept frames below it. A frame that is still kept
is repeated when its RTO passes, with RETRANSMIT set, while it has been sent fewer than MAX_RETRIES times, and
closes the session with reason 4 otherwise. An owed acknowledgement leaves as one unreliable ACK frame. (R380,
R388, R391, R392, R393, R394) -/
def Obligations.AcknowledgementCommandsComplete : Prop :=
  (∀ (s : State) (n a : Nat), s.openRing n = true → seqAhead a (s.session n).txSeq ≤ 64 → (s.session n).job = false → (s.session n).backlog = [] →
      exec (.ack n a 0) s = .next (s.setSession n { s.session n with
        unacked := (s.session n).unacked.filter (fun u => !seqBelow u.frame.seq a) }))
  ∧ (∀ (s : State) (n q : Nat) (u : SentFrame), s.openRing n = true → (s.session n).unacked.find? (fun x => x.frame.seq == q) = some u →
      (u.sends < s.regN 0x1030 4 → s.ringUp = true → ∃ (t : State) (f : TreyxFrame), exec (.rtoExpiry n q) s = .next t
        ∧ f.retransmit = true ∧ f.seq = u.frame.seq ∧ f.data = u.frame.data
        ∧ f.ack = (s.session n).ackNumber ∧ t.reg 0x1031 2 = counterNext (regKey 0x1031 2) (s.reg 0x1031 2) 1
        ∧ s.KeepsRegs t [regKey 0x1031 2]
        ∧ t = ({ s with regs := t.regs, sessions := t.sessions } : State).sendFrames (s.session n).peer [f])
      ∧ (s.regN 0x1030 4 ≤ u.sends → ∃ t, exec (.rtoExpiry n q) s = .next t ∧ (t.session n).isOpen = false ∧ t.reg 0x1031 5 = 4
        ∧ t.dev = s.dev ∧ t.heads = s.heads))
  ∧ (∀ (s : State) (n : Nat), s.openRing n = true → (s.session n).ackOwed = true → s.ringUp = true → s.speaks = true →
      exec (.ackDelayExpiry n) s = .next (({ s with
        sessions := s.sessions.set n { s.session n with ackOwed := false, txCount := ((s.session n).txCount + 1) % 2 ^ 32 } } : State).sendFrames
          (s.session n).peer [(s.session n).frame n 4 false false false ((s.session n).txCount % 2 ^ 32) []]))

/-- On a served path, in its turn, a read that is not refused, of a value of at most 8 bytes without a side
effect, answers the value and changes nothing else; one that is refused answers its abort code. A write of at
most 8 bytes to an object without a behaviour of its own and without an immediate effect is stored and answered
with success, and a refused one answers its code and changes nothing. An ABORT ends the block transfer of its
path. A frame of a ring session is taken in order first. (R401, R402, R403, R404, R408) -/
def Obligations.ExpeditedTransfersComplete : Prop :=
  (∀ (s : State) (p : Path) (tid index sub : Nat), s.served p = true → s.turn (pathRank p) = true → readActs index sub = false →
      let u := s.tookFrame p
      ((u.readBytes p index sub).length ≤ 8 → u.anyReadGate index sub = none →
        exec (.sdoRead p tid index sub) s = .next (u.reply p 0x11
          (sdoResponse 1 tid index sub (u.readBytes p index sub).length 0 (u.readBytes p index sub))))
      ∧ (∀ a : Abort, u.anyReadGate index sub = some a →
        exec (.sdoRead p tid index sub) s = .next (u.reply p 0x11 (sdoResponse 1 tid index sub 0 a.code [])))
      ∧ (8 < (u.readBytes p index sub).length → u.anyReadGate index sub = none →
        exec (.sdoRead p tid index sub) s = .next (u.reply p 0x11 (sdoResponse 1 tid index sub 0 0x00030001 []))))
  ∧ (∀ (s : State) (p : Path) (tid index sub : Nat) (data : List Byte) (alone : Bool), s.served p = true → s.turn (pathRank p) = true → data.length ≤ 8 →
      let u := s.tookFrame p
      (∀ a : Abort, orElse (u.anyGate p index sub) (numberTest index sub data) = some a →
        exec (.sdoWrite p tid index sub data alone) s = .next (u.reply p 0x11 (sdoResponse 2 tid index sub 0 a.code [])))
      ∧ (orElse (u.anyGate p index sub) (numberTest index sub data) = none → sessionValue index sub = true →
        exec (.sdoWrite p tid index sub data alone) s = .next ((u.setSession (pathNumber p) ((u.on p).withOwn index sub
          (numberOf index sub data).toNat)).reply p 0x11 (sdoResponse 2 tid index sub 0 0 []))))
  ∧ (∀ (s : State) (p : Path) (tid index sub : Nat) (data : List Byte) (alone : Bool), s.served p = true → s.turn (pathRank p) = true → 8 < data.length →
      (s.tookFrame p).anyGate p index sub = none →
      exec (.sdoWrite p tid index sub data alone) s = .next ((s.tookFrame p).reply p 0x11 (sdoResponse 2 tid index sub 0 0x00030001 [])))
  ∧ (∀ (s : State) (p : Path) (tid index sub : Nat) (data : List Byte) (alone : Bool) (e : ObjEntry), s.served p = true → s.turn (pathRank p) = true →
      data.length ≤ 8 → entryOf index sub = some e → plainObject index sub = true →
      let u := s.tookFrame p
      u.ownWrite p alone index sub data = none → u.plainRefusal p index sub data = none → ∃ t : State,
        exec (.sdoWrite p tid index sub data alone) s = .next (t.reply p 0x11 (sdoResponse 2 tid index sub 0 0 []))
        ∧ (e.isBytes = false → t.reg index sub = e.type.read data ∧ t.blobs = u.blobs ∧ u.KeepsRegs t [regKey index sub])
        ∧ (e.isBytes = true → t.blob index sub = data ∧ t.regs = u.regs)
        ∧ t = { u with regs := t.regs, blobs := t.blobs, out := t.out, twin := t.twin })
  ∧ (∀ (s : State) (p : Path) (index sub : Nat) (data : List Byte) (e : ObjEntry), s.served p = true → s.turn (pathRank p) = true →
      entryOf index sub = some e → plainObject index sub = true →
      s.ownWrite p true index sub data = none → s.plainRefusal p index sub data = none → ∃ t,
        exec (.dictionaryWrite p index sub data) s = .next t ∧ t.out.getLast? = some (.answer p 0 [])
        ∧ (e.isBytes = false → t.reg index sub = e.type.read data ∧ t.blobs = s.blobs ∧ s.KeepsRegs t [regKey index sub])
        ∧ (e.isBytes = true → t.blob index sub = data ∧ t.regs = s.regs)
        ∧ t = { s with regs := t.regs, blobs := t.blobs, out := t.out, twin := t.twin })
  ∧ (∀ (s : State) (p : Path) (index sub : Nat) (data : List Byte) (a : Abort), s.served p = true → s.turn (pathRank p) = true →
      orElse (s.anyGate p index sub) (numberTest index sub data) = some a →
      exec (.dictionaryWrite p index sub data) s = .next (s.answer p a.code []))
  ∧ (∀ (s : State) (p : Path) (tid index sub : Nat), s.served p = true → s.turn (pathRank p) = true →
      let u := s.tookFrame p
      exec (.sdoAbort p tid index sub) s = .next (((u.withTransfer p none).dropSegments p).reply p 0x11
        (sdoResponse 6 tid index sub 0 (if u.transferOpen p then 0x00040005 else 0) [])))

/-- On a served path, in its turn: a block write that is not refused opens with TOTAL on its path and is
answered; a segment that follows in order with the right length extends it, and one out of order ends it with
0x0004_0002. A block read without a side effect answers TOTAL and then the segments of the value as it stands. A
block read while a transfer is open answers 0x0004_0006. A write without a segment for 100 ms ends with
0x0004_0004. The value written to stays as it was in all of these. (R404, R405, R406, R408) -/
def Obligations.BlockTransfersComplete : Prop :=
  (∀ (s : State) (p : Path) (tid index sub total : Nat), s.served p = true → s.turn (pathRank p) = true → total ≠ 0 →
      let u := s.tookFrame p
      (u.blockRefused p index sub total = none → exec (.blockWrite p tid index sub total) s =
        .next ((u.setSession (pathNumber p) { u.on p with transfer := some ⟨index, sub, tid, total, 0, []⟩ }).reply p 0x11
          (sdoResponse 3 tid index sub 0 0 [])))
      ∧ (∀ a : Abort, u.blockRefused p index sub total = some a →
        exec (.blockWrite p tid index sub total) s = .next (u.reply p 0x11 (sdoResponse 3 tid index sub 0 a.code []))))
  ∧ (∀ (s : State) (p : Path) (tid index sub : Nat), s.served p = true → s.turn (pathRank p) = true → readActs index sub = false →
      let u := s.tookFrame p
      (u.transferOpen p = false → u.anyReadGate index sub = none →
        exec (.blockRead p tid index sub) s = .next ((u.reply p 0x11
          (sdoResponse 4 tid index sub 4 0 (leBytes 4 (u.readBytes p index sub).length))).sendSegments p tid (u.readBytes p index sub)))
      ∧ (u.transferOpen p = true → u.anyReadGate index sub = none →
        exec (.blockRead p tid index sub) s = .next (u.reply p 0x11 (sdoResponse 4 tid index sub 0 0x00040006 [])))
      ∧ (∀ a : Abort, u.anyReadGate index sub = some a →
        exec (.blockRead p tid index sub) s = .next (u.reply p 0x11 (sdoResponse 4 tid index sub 0 a.code []))))
  ∧ (∀ (s : State) (p : Path) (tid number : Nat) (data : List Byte) (x : Transfer), s.served p = true → s.turn (pathRank p) = true →
      (s.tookFrame p).served p = true → (s.on p).transfer = some x → ((s.tookFrame p).on p).transfer = some x → x.tid = tid % 256 →
      let u := s.tookFrame p
      (number = x.nextSeg → data.length = min 1024 (x.total - x.data.length) → x.data.length + data.length < x.total →
        exec (.blockSegment p tid number false data) s = .next (u.setSession (pathNumber p)
          { u.on p with transfer := some { x with nextSeg := x.nextSeg + 1, data := x.data ++ data } }))
      ∧ (number ≠ x.nextSeg → number < 65536 → x.nextSeg ≠ 65536 → ∀ last, exec (.blockSegment p tid number last data) s =
        .next ((u.setSession (pathNumber p) { u.on p with transfer := none }).reply p 0x11
          (sdoResponse 3 x.tid x.index x.sub 0 0x00040002 []))))
  ∧ (∀ (s : State) (p : Path) (x : Transfer), s.served p = true → s.turn (pathRank p) = true → (s.on p).transfer = some x →
      exec (.blockTransferTimeout p) s = .next ((s.setSession (pathNumber p) { s.on p with transfer := none }).reply p 0x11
        (sdoResponse 3 x.tid x.index x.sub 0 0x00040004 [])))

/-- Outside OFF and AUX, in its turn, a well-formed WRITE waits in the request buffer while a response waits, and
is else carried out at once as the segment or the request that it is; a WRITE that finds the buffer full or whose
CRC fails is discarded and marked. A READ shifts out the waiting response, which the next one behind it replaces,
and LEN 0 when none waits; a request that waited for the last one is then carried out. STATUS shifts out the
status byte and changes nothing else. The first byte of a transaction names the command. (R411, R412, R413, R414,
R415) -/
def Obligations.SpiPortCommandsComplete : Prop :=
  (∀ (s : State) (bytes : List Byte), s.served .spi = true → s.turn 6 = true →
      (s.spi.request = none → spiFrameOk bytes = true → s.spi.response ≠ none → exec (.spiWrite bytes) s = .next { s with
        spi := { s.spi with request := some ((bytes.drop 2).take (leAt bytes 0 2)), discarded := false } })
      ∧ (s.spi.request ≠ none ∨ spiFrameOk bytes = false →
        exec (.spiWrite bytes) s = .next { s with spi := { s.spi with discarded := true } })
      ∧ (s.spi.request = none → spiFrameOk bytes = true → s.spi.response = none →
        let u : State := { s with spi := { s.spi with request := none, discarded := false } }
        let m := (bytes.drop 2).take (leAt bytes 0 2)
        exec (.spiWrite bytes) s = .next (if u.spiSegment m then u.segmentMessage .spi m else u.sdoRequest .spi true m)))
  ∧ (∀ s : State, s.served .spi = true → s.turn 6 = true →
      let u : State := { s with spi := { s.spi with
        request := none, response := s.spi.behind.head?.map (fun r => r.2), behind := s.spi.behind.drop 1
        shifted := spiReadBytes (s.spi.response.getD []) } }
      (s.spi.request = none → exec .spiRead s = .next u)
      ∧ (∀ m, s.spi.request = some m → s.spi.behind = [] →
        exec .spiRead s = .next (if u.spiSegment m then u.segmentMessage .spi m else u.sdoRequest .spi true m))
      ∧ (∀ m, s.spi.request = some m → s.spi.behind ≠ [] →
        exec .spiRead s = .next { u with spi := { u.spi with request := some m } })
      ∧ (s.spi.response = none → u.spi.shifted.take 2 = [0, 0]))
  ∧ (∀ s : State, s.served .spi = true → ∃ v, v < 16 ∧ exec .spiStatus s = .next { s with spi := { s.spi with shifted := [byteOf v] } }
        ∧ (v.testBit 0 = true ↔ s.spi.response ≠ none) ∧ (v.testBit 1 = true ↔ s.spi.request = none)
        ∧ (v.testBit 2 = true ↔ s.spi.discarded = true) ∧ (v.testBit 3 = true ↔ s.intAsserted = true))
  ∧ (∀ rest : List Byte, spiTransaction (1 :: rest) = some (.spiWrite rest) ∧ spiTransaction (2 :: rest) = some .spiRead
      ∧ spiTransaction (3 :: rest) = some .spiStatus)

/-- In its turn a JOB message of the job session whose JOB_OFFSET is the count delivered and that continues a
reception within the credit limit adds its bytes to the segment, which stays in reception while bytes are missing
and becomes SUBMITTED, its lines accepted for writing, when the last one has come; a JOB_OFFSET of another value
closes the session with reason 2. When the grant timer expires with units unsent, a job session open and a port
in lock, CREDIT_LIMIT rises by them and nothing else changes but the message. (R83, R84, R86, R396, R397, R398,
R399) -/
def Obligations.JobStreamCommandsComplete : Prop :=
  (∀ (s : State) (n : Nat) (more : Bool) (payload : List Byte) (r : Reception), s.turn 7 = true → s.openRing n = true → s.ringServed = true →
      (s.session n).job = true → jobFormOk payload = true → leNat (payload.take 8) = s.job.offset → s.job.receiving = some r →
      r.discarding = false → s.job.offset + (payload.drop 8).length ≤ s.regN 0x3012 5 → 32 ≤ r.bytes.length →
      let all := r.bytes ++ payload.drop 8
      (all.length < 4 * leAt all 24 3 → ∃ t, exec (.job n false more payload) s = .next t
        ∧ t.job = { s.job with offset := s.job.offset + (payload.drop 8).length, receiving := some { r with bytes := all } }
        ∧ ({ s with job := t.job } : State).ReportsWith t [regKey 0x3012 6])
      ∧ (all.length = 4 * leAt all 24 3 → ∃ (t : State) (g : Segment), exec (.job n false more payload) s = .next t
        ∧ t.job.receiving = none ∧ t.job.segments = s.job.segments ++ [g] ∧ g.state = .submitted ∧ g.words = wordsOf all
        ∧ g.id = segId g.words ∧ g.seq = r.seq ∧ g.key = s.job.nextKey ∧ t.job.nextKey = s.job.nextKey + 1
        ∧ t.dram = { s.dram with writes := t.dram.writes }
        ∧ ({ s with job := t.job, dram := t.dram } : State).ReportsWith t [regKey 0x3012 6]))
  ∧ (∀ (s : State) (n : Nat) (start more : Bool) (payload : List Byte), s.turn 7 = true → s.openRing n = true → s.ringServed = true →
      (s.session n).job = true → jobFormOk payload = true → leNat (payload.take 8) ≠ s.job.offset →
      ∃ t, exec (.job n start more payload) s = .next t ∧ (t.session n).isOpen = false ∧ t.reg 0x1031 5 = 2
        ∧ t.job = { s.job with receiving := none, offset := 0 } ∧ t.dev = s.dev ∧ t.heads = s.heads)
  ∧ (∀ (s : State) (n : Nat), s.job.unsentGrant ≠ 0 → s.jobSession = some n → s.ringUp = true →
      ∃ t, exec .grantTimerExpiry s = .next t ∧ t.reg 0x3012 5 = (s.regN 0x3012 5 + s.job.unsentGrant : Nat)
        ∧ t.job = { s.job with unsentGrant := 0 } ∧ ({ s with job := t.job } : State).ReportsWith t [regKey 0x3012 5])

/-- Outside OFF a low JTAG_TRST_N holds the port in Test-Logic-Reset with IDCODE selected and TDO released. A
rising edge moves the controller as IEEE 1149.1 (presumed, log entry 7) says, and five of them with TMS high
reach Test-Logic-Reset from every state. A falling edge changes neither the controller's state nor anything but
the port, and EXTEST, CLAMP or HIGHZ is never loaded while PWRGOOD and RESET_N are not both asserted. Nothing
outside the port changes but the count of free values drawn. (R682, R683, R684, R675) -/
def Obligations.TapClockComplete : Prop :=
  (∀ (s : State) (rising tms tdi : Bool), s.dev.state ≠ .off → ∃ t, exec (.jtagTckEdge rising tms tdi false) s = .next t
      ∧ t.tap.state = .testLogicReset ∧ t.tap.instr = .idcode ∧ t.tap.tdo = none ∧ t = { s with tap := t.tap })
  ∧ (∀ (s : State) (tms tdi : Bool), s.dev.state ≠ .off → ∃ t, exec (.jtagTckEdge true tms tdi true) s = .next t
      ∧ t.tap.state = s.tap.state.next tms ∧ t.tap.instr = s.tap.instr ∧ t.tap.latches = s.tap.latches
      ∧ t = { s with tap := t.tap, fresh := t.fresh })
  ∧ (∀ (s : State) (tms tdi : Bool), s.dev.state ≠ .off → ∃ t, exec (.jtagTckEdge false tms tdi true) s = .next t
      ∧ t.tap.state = s.tap.state ∧ t = { s with tap := t.tap }
      ∧ (s.tap.state = .updateIr → s.testAllowed = false → t.tap.instr = t.tap.instr.harmless))
  ∧ (∀ x : TapState, ((((x.next true).next true).next true).next true).next true = .testLogicReset)

/-- For a head with no item in progress or planned, nothing buffered and nothing lit, on a controller that is no
PRIMARY, and a frame inside a servo period with no sample of a head out of OPERATION due, the assembly leaves the
frame books one frame on, sends exactly one frame when the link sends frames (its characters are those of 99
bytes, EN as the enables give it, FRAME_LO as the frame number) and counts it as assembled and sent, sends none
otherwise, completes the oldest accepted commit unless the frame ends a sample rate, and in OPERATION keeps the
slot until it is reported; no other head changes. A frame already assembled is not assembled again, and without
running clocks, or after a trip, none is. (R26, R111, R117, R330, R335, R338, R361) -/
def Obligations.DownlinkFrameComplete : Prop :=
  (∀ (s : State) (h : Nat), s.seqRuns = true → h < 32 → h < s.heads.length → s.twin.role ≠ .primary → s.planPoint h = none
      → (s.head h).path.run = none → (s.head h).path.ahead = [] → (s.head h).path.recent = []
      → (s.head h).path.suppressed = [] → (s.head h).path.records = [] → (∀ es ∈ (s.head h).path.buffers, es = [])
      → (∀ n ∈ (s.head h).path.beams, n.power = 0) → (s.head h).path.bookedTo ≤ 125 * frameAt s.et
      → 125 * frameAt s.et % s.servoTicks ≠ 0
      → ((s.head h).link.state = .operation ∨ sampleIn h (s.engine.rateAt (125 * (frameAt s.et - 1))) (frameAt s.et - 1) = none) →
      ∃ t, exec (.downlinkFrameAssembly h) s = .next t ∧ (t.head h).path.bookedTo = 125 * frameAt s.et + 125
        ∧ (∀ k, k ≠ h → t.head k = s.head k) ∧ t = { s with heads := t.heads, out := t.out, fresh := s.fresh + 8 }
        ∧ ((s.head h).link.state.sends = true → ∃ bs : List Byte, bs.length = 99 ∧ t.out = s.out ++ [.head h (frameChars (s.head h).link.disparity bs).1]
          ∧ leAt bs 1 1 = (if s.enables h = true then 255 else 0) ∧ leAt bs 2 2 = frameAt s.et % 65536
          ∧ (t.head h).link.book.assembled = (s.head h).link.book.assembled + 1 ∧ (t.head h).link.book.sent = (s.head h).link.book.sent + 1)
        ∧ ((s.head h).link.state.sends = false → t.out = s.out)
        ∧ (s.engine.rateChanges.any (fun c => c.frame == frameAt s.et) = false → ∀ g rest, (s.head h).camera.forming = g :: rest →
          (t.head h).camera.committed = g.number ∧ (t.head h).camera.forming = rest ∧ (t.head h).camera.gens.head? = some g)
        ∧ ((s.head h).link.state = .operation → ((t.head h).link.sent.getLast?).map (fun k => k.frame) = some (frameAt s.et)))
  ∧ (∀ (s : State) (h : Nat), s.seqRuns = false ∨ 125 * frameAt s.et < (s.head h).path.bookedTo →
      exec (.downlinkFrameAssembly h) s = .next s)

/-- In ACQUIRE a sound frame with no conflict, STATUS or temperature in it counts, from one where its number does
not follow, and the eighth leads to ALIGN; a frame that is sound with neither polarity is counted in the counter
of invalid frames and restarts the count; one that is sound only with every bit inverted turns the polarity in
use over. In OPERATION a valid frame that carries STATUS, no camera content and no sample ends a run of invalid
frames and replaces the status word, its reserved bits zero. No other head changes. (R327, R329, R352, R354,
R357, R360) -/
def Obligations.UplinkFrameComplete : Prop :=
  (∀ (s : State) (h : Nat) (c : Nat) (chars : List Nat) (bs : List Byte) (arrival : Int), h < 32 → h < s.heads.length → (s.head h).link.state = .acquire →
      frameSound ((s.head h).link.upright (c :: chars)) = some bs → (leAt bs 0 1).testBit 5 = false → upAuxType bs ≠ 5 → upAuxType bs ≠ 6 →
      ∃ t n, exec (.uplinkFrameReceived h c chars arrival) s = .next t
        ∧ n = (if 0 < (s.head h).link.good ∧ upFrameLo bs = (s.head h).link.nextFrame then (s.head h).link.good + 1 else 1)
        ∧ (n ≠ 8 → (t.head h).link = { (s.head h).link with good := n, nextFrame := (upFrameLo bs + 1) % 65536 })
        ∧ (n = 8 → (t.head h).link.state = .align ∧ (t.head h).link.good = 0 ∧ (t.head h).link.nextFrame = (upFrameLo bs + 1) % 65536)
        ∧ (∀ k, k ≠ h → t.head k = s.head k) ∧ t = { s with heads := t.heads })
  ∧ (∀ (s : State) (h : Nat) (c : Nat) (chars : List Nat) (arrival : Int), h < 32 → h < s.heads.length → (s.head h).link.state = .acquire →
      frameSound ((s.head h).link.upright (c :: chars)) = none → frameSound (invertChars ((s.head h).link.upright (c :: chars))) = none →
      ∃ t, exec (.uplinkFrameReceived h c chars arrival) s = .next t
        ∧ (t.head h).link = { (s.head h).link with good := 0 } ∧ (∀ k, k ≠ h → t.head k = s.head k)
        ∧ t.reg (0x8040 + h) 6 = counterNext (regKey (0x8040 + h) 6) (s.reg (0x8040 + h) 6) 1
        ∧ ({ s with heads := t.heads } : State).ReportsWith t [regKey (0x8040 + h) 6])
  ∧ (∀ (s : State) (h : Nat) (c : Nat) (chars : List Nat) (bs : List Byte) (arrival : Int), h < 32 → h < s.heads.length → (s.head h).link.state = .acquire →
      (s.head h).link.inverted = false → (s.head h).link.good ≠ 7 → frameSound (c :: chars) = none → frameSound (invertChars (c :: chars)) = some bs →
      (leAt bs 0 1).testBit 5 = false → upAuxType bs ≠ 5 → upAuxType bs ≠ 6 →
      ∃ t, exec (.uplinkFrameReceived h c chars arrival) s = .next t ∧ (t.head h).link.inverted = true
        ∧ (t.head h).link.nextFrame = (upFrameLo bs + 1) % 65536 ∧ (∀ k, k ≠ h → t.head k = s.head k) ∧ t = { s with heads := t.heads })
  ∧ (∀ (s : State) (h u : Nat) (c : Nat) (chars : List Nat) (bs : List Byte) (arrival : Int), h < 32 → h < s.heads.length →
      (s.head h).link.state = .operation → u = (roundDiv (arrival - 250 - (s.head h).link.delay) 125).toNat →
      frameSound ((s.head h).link.upright (c :: chars)) = some bs → upFrameLo bs = u % 65536 →
      (leAt bs 0 1).testBit 5 = false → upAuxType bs = 5 → leAt bs 1 1 / 64 = 0 → (s.head h).link.sent = [] → s.framePlace u ≠ 3 →
      sampleIn h (s.engine.rateAt (125 * u)) u = none →
      ∃ t, exec (.uplinkFrameReceived h c chars arrival) s = .next t ∧ (t.head h).link.status = upAux bs / 65536 * 65536 + upAux bs % 128
        ∧ (t.head h).link.bad = 0 ∧ (t.head h).link.state = .operation ∧ (t.head h).path = (s.head h).path ∧ (∀ k, k ≠ h → t.head k = s.head k)
        ∧ ((s.head h).link.status % 32 ≠ upAux bs % 32 → (leafAt t.leaves (0x2480 + h) 4).isSome = true)
        ∧ ({ s with heads := t.heads } : State).Reports t)

/-- SEGMENT_STAGED takes an ADMITTED segment to STAGED, with what must be staged of each head present. HEAD_START
of a head that may start takes the segment to RUNNING and, where the list begins with a barrier, holds the head
there. ITEM_COMPLETE of a head whose list is over finishes the head's part at the present ET. DATA_WAIT_END
begins the item that waited at full speed, DRAIN_HOLD_END, with no item planned ahead and no order of a partner,
at the largest factor that passes. After each of the last four the slack of the segment is evaluated. (R69, R79,
R81, R102, R108, R121, R185) -/
def Obligations.SegmentStartComplete : Prop :=
  (∀ (s : State) (id : Nat) (g : Segment), s.segById id = some g → g.state = .admitted → ∃ t, exec (.segmentStaged id) s = .next t
      ∧ (t.seg? g.key).map (fun x => x.state) = some .staged
      ∧ (∀ x, t.seg? g.key = some x → ∀ p ∈ x.heads, g.stagingBytes p.head ≤ p.fetched.upTo)
      ∧ (∀ k, k ≠ g.key → t.seg? k = s.seg? k) ∧ t.job = { s.job with segments := t.job.segments } ∧ ({ s with job := t.job } : State).Reports t)
  ∧ (∀ (s : State) (h id b mask : Nat) (g : Segment) (p : SegHead) (it : Item), s.segById id = some g → s.seg? g.key = some g →
      s.mayStart h g = true → h < s.heads.length → g.part? h = some p → p.failed = none → (g.listOf h)[p.next]? = some it →
      it.body = .barrier b mask → s.plannedAhead h g it = none → s.itemsRun = true →
      ∃ u : State, exec (.headStart h id) s = .next (u.evaluate g.key) ∧ (u.seg? g.key).map (fun x => x.state) = some .running
        ∧ ((u.seg? g.key).bind (fun x => x.part? h)).map (fun q => (q.part, q.next, q.arrived)) = some (.running, p.next + 1, p.arrived ++ [b])
        ∧ (u.head h).path = { (s.head h).path with seg := some g.key, hold := .barrier b } ∧ (∀ k, k ≠ h → u.head k = s.head k)
        ∧ ({ s with job := u.job, heads := u.heads } : State).Reports u)
  ∧ (∀ (s : State) (h : Nat) (g : Segment) (p : SegHead) (r : ItemRun), (s.head h).path.run = some r → r.finish ≤ s.et * 65536 →
      s.seqRuns = true → r.unpassed = none → (s.head h).path.seg = some g.key → s.seg? g.key = some g → g.part? h = some p → (g.listOf h)[p.next]? = none →
      ∃ u : State, exec (.itemComplete h) s = .next (u.evaluate g.key) ∧ (u.head h).path.run = none ∧ (u.head h).path.seg = none
        ∧ (u.head h).path.pos = (s.head h).path.posAt r.finish ∧ (u.head h).path.endedAt = r.finish ∧ (∀ k, k ≠ h → u.head k = s.head k)
        ∧ ((u.seg? g.key).bind (fun x => x.part? h)).map (fun q => (q.part, q.finishEt)) = some (.finished, s.et)
        ∧ ({ s with job := u.job, heads := u.heads } : State).Reports u)
  ∧ (∀ (s : State) (h : Nat) (g : Segment) (p : SegHead) (it : Item), (s.head h).path.hold = .data → (s.head h).path.run = none →
      (s.head h).path.seg = some g.key → s.seg? g.key = some g → g.part? h = some p → (g.listOf h)[p.next]? = some it → s.itemsRun = true →
      ∃ (u : State) (q : ItemRun), exec (.dataWaitEnd h) s = .next (u.evaluate g.key) ∧ (u.head h).path.run = some q ∧ q.seg = g.key ∧ q.item = it.index
        ∧ q.factor = 16 ∧ (u.head h).path.hold = .idle ∧ (∀ k, k ≠ h → u.head k = s.head k) ∧ u.dev = s.dev
        ∧ ((u.seg? g.key).bind (fun x => x.part? h)).map (fun y => y.next) = some (p.next + 1))
  ∧ (∀ (s : State) (h f : Nat) (g : Segment) (p : SegHead) (it : Item), (s.head h).path.hold = .drain → (s.head h).path.run = none →
      (s.head h).path.seg = some g.key → s.seg? g.key = some g → g.part? h = some p → (g.listOf h)[p.next]? = some it → s.itemsRun = true →
      (s.head h).path.ahead = [] → it.body.marks = true → s.twin.role ≠ .shadow →
      s.twin.factorOrder g.id h it.index s.et = none → s.chooseFactor h g p p.next it (s.head h).path.pos = some f →
      ∃ (u : State) (q : ItemRun), exec (.drainHoldEnd h) s = .next (u.evaluate g.key) ∧ (u.head h).path.run = some q ∧ q.seg = g.key ∧ q.item = it.index
        ∧ q.factor = f ∧ (u.head h).path.hold = .idle ∧ (∀ k, k ≠ h → u.head k = s.head k) ∧ u.dev = s.dev
        ∧ ((u.seg? g.key).bind (fun x => x.part? h)).map (fun y => y.next) = some (p.next + 1))

/-- A barrier whose conditions hold lets the one head that waits there go on; with its list over the head
finishes, and the slack is evaluated. A line buffer write moves the next planned edge of a beamlet into its place
in its buffer, at the first tick not yet assembled at the earliest. Of a PRIMARY, PLAN_DECISION for a head that
holds orders the factor of its marking item for 2,500 ticks later, or a hold; otherwise, where no head has more
to plan and one check falls due within 2,500 ticks, it decides that check ahead of its boundary. It keeps each
order and, while the link is in lock, sends it. At a servo period boundary, with guard and keep-out off, nothing
to plan and no check due, every head in OPERATION has the set-point group of the period, and the motion
controller of a pair tells its partner of the recoater. (R63, R98, R123, R172, R173, R174, R188, R460, R466) -/
def Obligations.HeadEventsComplete : Prop :=
  (∀ (s : State) (id b h : Nat) (g : Segment) (p : SegHead), s.segById id = some g → s.seg? g.key = some g → s.barrierOpen g b = true →
      s.heldAt g b = [h] → g.part? h = some p → (g.listOf h)[p.next]? = none →
      ∃ u : State, exec (.barrierRelease id b) s = .next (u.evaluate g.key) ∧ (u.head h).path.seg = none ∧ (u.head h).path.hold = .idle
        ∧ ((u.seg? g.key).bind (fun x => x.part? h)).map (fun q => (q.part, q.finishEt)) = some (.finished, s.et)
        ∧ (∀ k, k ≠ h → u.head k = s.head k) ∧ ({ s with job := u.job, heads := u.heads } : State).Reports u)
  ∧ (∀ (s : State) (h b : Nat) (r : ItemRun) (e : Edge) (rest : List Edge) (st : Stretch), s.seqRuns = true →
      (s.head h).path.nextEntry b = some (r, e, rest) → r.stretches[e.stretch]? = some st → st.passed = true →
      b < (s.head h).path.buffers.length → ((s.head h).path.buffers.getD b []).length < 4096 → e.et / 125 * 125 ≤ s.et + 2 ^ 30 →
      st.withheld = true ∨ s.passShort h r e.stretch = false →
      ∃ t, exec (.lineBufferWrite h b) s = .next t
        ∧ (t.head h).path.buffers.getD b [] =
          placeEdge { e with et := max e.et (s.head h).path.bookedTo } ((s.head h).path.buffers.getD b [])
        ∧ (∀ c, c ≠ b → (t.head h).path.buffers.getD c [] = (s.head h).path.buffers.getD c [])
        ∧ (t.head h).path.run = ((s.head h).path.onItem r.seg r.item (fun q => { q with planned := q.planned.set b rest })).run
        ∧ (∀ k, k ≠ h → t.head k = s.head k) ∧ t = { s with heads := t.heads, job := t.job } ∧ (s.paired = false → t.job = s.job))
  ∧ (∀ (s : State) (h : Nat) (g : Segment) (p : SegHead) (it : Item), s.twin.role = .primary → (s.head h).path.coming = [] →
      (s.head h).path.hold = .drain → (s.head h).path.seg = some g.key → s.seg? g.key = some g → g.part? h = some p →
      (g.listOf h)[p.next]? = some it → it.body.marks = true →
      ∃ t c, exec (.planDecision h) s = .next t
        ∧ c = s.chooseFactor h g p p.next it ((s.head h).path.posAt ((s.et + 2500) * 65536))
        ∧ t.twin.orders = s.twin.orders ++ [.plan g.id h (if c.isSome = true then 1 else 2) it.index (s.et + 2500) (c.getD 0)]
        ∧ (s.twin.linkLock = true → t.out = s.out ++ [twinOut 0x04 s.twin.txSeq
            [g.id, h, if c.isSome = true then 1 else 2, it.index, s.et + 2500, c.getD 0]])
        ∧ (s.twin.linkLock = false → t.out = s.out) ∧ t = { s with twin := t.twin, out := t.out })
  ∧ (∀ (s : State) (h a k : Nat) (r : ItemRun) (st : Stretch) (v : Bool × Bool), s.twin.role = .primary →
      ¬((s.head h).path.coming = [] ∧ (s.head h).path.hold = .drain) → s.planPoint h = none → s.nextCheck (s.et + 2500) = some a →
      (s.head a).path.unpassed = some (r, k, st) → s.et ≤ st.boundary s.servoTicks →
      s.twin.entryOrder (s.idOf r.seg) a r.item (st.boundary s.servoTicks) = none →
      v = s.entryVerdict a r k st (st.boundary s.servoTicks) →
      (s.applyEntry a r k st (st.boundary s.servoTicks) v).nextCheck (s.et + 2500) = none →
      ∃ t, ∃ kind : Nat, exec (.planDecision h) s = .next t ∧ kind = (if (v.1 || v.2) = true then 3 else 4)
        ∧ t.twin.orders = s.twin.orders ++ [.plan (s.idOf r.seg) a kind r.item (st.boundary s.servoTicks) (flag v.2)]
        ∧ (s.twin.linkLock = true → t.out = s.out ++ [twinOut 0x04 s.twin.txSeq [s.idOf r.seg, a, kind, r.item, st.boundary s.servoTicks, 0]])
        ∧ (s.twin.linkLock = false → t.out = s.out) ∧ t = { s with twin := t.twin, out := t.out })
  ∧ (∀ s : State, s.seqRuns = true → s.et % s.servoTicks = 0 → s.reg 0x5001 1 = 0 → 7 < s.reg 0x5002 1 → s.nextCheck s.et = none →
      (∀ h, h < 32 → s.planPoint h = none) →
      ∃ t, exec .servoPeriodTick s = .next t
        ∧ (∀ h, h < 32 → (s.head h).link.state = .operation →
          ((t.head h).path.setPoints.head?).map (fun x => x.k) = some (s.et / s.servoTicks))
        ∧ (∀ h, (s.head h).link.state ≠ .operation → t.head h = s.head h)
        ∧ (s.paired = true → s.runsMotion = true → s.twin.linkLock = true → t.twin.kept.getLast?.map (fun m => (m.kind, m.fields)) = some (0x0C, s.motionFields))
        ∧ t = { s with heads := t.heads, job := t.job, regs := t.regs, leaves := t.leaves, sessions := t.sessions, ownWaiting := t.ownWaiting, out := t.out, twin := t.twin })

/-- A SOLO controller's decision on the next submitted segment admits it with its promise, or refuses it and
keeps it in the history. A segment all of whose heads are done, with its books balanced, takes its final state at
the present ET and goes into the ledger log; its CLOSE then leaves and frees its slot, and where its books do not
balance FAULT 0x0034 follows. CANCEL_ID ends the unfinished segment of an ID with result 0 (CANCELLED, or its own
end when all its heads are done), and answers 1 or 2 for an unknown or a finished one. A full record of an
abnormal stretch is written and goes on from the next tick while its stretch goes on. (R79, R80, R82, R86, R92,
R108, R109, R113, R116, R119, R362) -/
def Obligations.SegmentEndComplete : Prop :=
  (∀ (s : State) (g : Segment), s.twin.role = .solo → s.ringUp = true → s.nextSubmitted = some g → s.seg? g.key = some g →
      (∀ a, s.judgeSegment g s.et s.dramLatency = .ok a → ∃ t, exec .segmentDecision s = .next t
        ∧ t.seg? g.key = some (g.admitted a s.job.nextAdmit) ∧ t.job.params = a.made.store ∧ t.job.nextAdmit = s.job.nextAdmit + 1
        ∧ (∀ k, k ≠ g.key → t.seg? k = s.seg? k) ∧ t.dev = s.dev ∧ t.fresh = s.fresh + 1
        ∧ ({ s with job := t.job, dram := t.dram, fresh := t.fresh } : State).Reports t)
      ∧ (∀ r, s.judgeSegment g s.et s.dramLatency = .error r → ∃ t, exec .segmentDecision s = .next t
        ∧ t.seg? g.key = none ∧ t.job.history.getLast? = some (g.entry .refused) ∧ (∀ k, k ≠ g.key → t.seg? k = s.seg? k)
        ∧ (leafAt t.leaves 0x2101 1).isSome = true
        ∧ ({ s with job := t.job } : State).ReportsWith t [regKey 0x3002 1, regKey 0x3002 2, regKey 0x3002 3, regKey 0x3002 4,
            regKey 0x3002 5, regKey 0x3012 5]))
  ∧ (∀ (s : State) (id : Nat) (g : Segment),
      s.job.segments.find? (fun g => g.id == id && g.state == .running && g.allDone) = some g → s.seg? g.key = some g →
      g.balances = true → s.twin.role = .solo →
      ∃ t, exec (.segmentClose id) s = .next t ∧ (t.seg? g.key).map (fun x => (x.state, x.finalEt)) = some (g.ownEnd, s.et)
        ∧ t.job.history.getLast? = some (g.entry g.ownEnd)
        ∧ t.job.ledgerLog = s.job.ledgerLog ++ g.heads.map (fun p => (g.id, p.head, p.books))
        ∧ (∀ x ∈ t.dram.summaries, x.1 ≠ g.key) ∧ (∀ k, k ≠ g.key → t.seg? k = s.seg? k)
        ∧ ({ s with job := t.job, dram := t.dram } : State).ReportsWith t [regKey 0x3012 5])
  ∧ (∀ (s : State) (id : Nat) (g : Segment), s.job.segments.find? (fun g => g.id == id && g.awaitsClose) = some g → s.seg? g.key = some g →
      s.unreported g.key = false → (∀ x ∈ s.heads, x.path.records = []) → s.twin.role = .solo →
      (g.balances = true → ∃ t, exec (.closeMessageSend id) s = .next t ∧ t.seg? g.key = none ∧ (∀ k, k ≠ g.key → t.seg? k = s.seg? k)
        ∧ t.out = (s.jobMessage 0x35 g.closeBytes).out ∧ t.sessions = (s.jobMessage 0x35 g.closeBytes).sessions
        ∧ t.job = { s.job with segments := t.job.segments } ∧ ({ s with job := t.job } : State).Reports t)
      ∧ (g.balances = false → exec (.closeMessageSend id) s = .next (((s.jobMessage 0x35 g.closeBytes).release g.key).faultCause 0x34)))
  ∧ (∀ (s : State) (p : Path) (id : Nat), s.Takes p (s.writeGate p 0x3011 1) →
      (∀ g, s.unfinishedBy id = some g → s.seg? g.key = some g → g.state ≠ .submitted → ∃ t, exec (.cancelId p id) s = .next t
        ∧ (t.seg? g.key).map (fun x => (x.state, x.finalEt)) = some (if g.state = .running ∧ g.allDone = true then g.ownEnd else .cancelled, s.et) ∧ t.reg 0x3011 2 = 0
        ∧ t.out.getLast? = some (.answer p 0 []) ∧ t.dev = s.dev)
      ∧ (s.unfinishedBy id = none → ∃ t, exec (.cancelId p id) s = .next t
        ∧ t.reg 0x3011 2 = (if s.job.history.any (fun e => e.id == id) = true then 2 else 1) ∧ t.out.getLast? = some (.answer p 0 [])
        ∧ s.ReportsWith t [regKey 0x3011 2]))
  ∧ (∀ (s : State) (h c : Nat) (r : DefectRecord) (g : Segment), h < s.heads.length → (s.head h).path.records = [r] → r.withheld = false → r.empty = false →
      r.full c (s.head h).path.bookedTo = true → s.seg? r.seg = some g →
      ∃ t, exec (.defectRecordSplit h c) s = .next t ∧ (t.head h).path.records = r.onward (s.head h).path
        ∧ t.job.defectLog = s.job.defectLog ++ [(r.closed (s.head h) (lastOfRecord r.etStart)).bytes g.id g.layer s.job.nextDefect]
        ∧ t.reg 0x3012 9 = counterNext (regKey 0x3012 9) (s.reg 0x3012 9) 1 ∧ (∀ k, k ≠ h → t.head k = s.head k)
        ∧ ({ s with heads := t.heads, job := t.job, dram := t.dram } : State).ReportsWith t [regKey 0x3012 9])

/-- An evaluation keeps the slack of the segment, and one below 0 breaks a promise that can still break, with
cause 0x00, its counter, its leaf and its message; with cancellation after a break off, nothing else happens. A
slack report changes nothing but the messages it sends, and with one RUNNING segment it is that segment's
PROGRESS message. (R102, R104, R105, R109) -/
def Obligations.SlackCommandsComplete : Prop :=
  (∀ (s : State) (id : Nat) (g : Segment), s.unfinishedBy id = some g → s.seg? g.key = some g → g.admitNo ≠ 0 →
      (0 ≤ s.slackOf g → ∃ t, exec (.slackEvaluation id) s = .next t ∧ (t.seg? g.key) = some { g with slack := s.slackOf g }
        ∧ (∀ k, k ≠ g.key → t.seg? k = s.seg? k) ∧ t = { s with job := { s.job with segments := t.job.segments } })
      ∧ (s.slackOf g < 0 → g.mayBreak = true → s.reg 0x3010 10 = 0 → ∃ t, exec (.slackEvaluation id) s = .next t
        ∧ (t.seg? g.key) = some { g with slack := s.slackOf g, broke := some 0 } ∧ (leafAt t.leaves 0x2101 0).isSome = true
        ∧ t.reg 0x3012 8 = counterNext (regKey 0x3012 8) (s.reg 0x3012 8) 1 ∧ (∀ k, k ≠ g.key → t.seg? k = s.seg? k)
        ∧ ({ s with job := t.job } : State).ReportsWith t [regKey 0x3012 8]))
  ∧ (∀ s : State, s.reg 0x3010 13 ≠ 0 → ∃ t, exec .slackReport s = .next t ∧ s.Reports t
      ∧ (∀ g, s.job.segments.filter (fun g => g.state == .running) = [g] → t = s.progress g 5 0 0 0))

/-- A free pipeline takes the queued frame with the earliest deadline when a full pass still meets it. The
records of a head whose deadline has come leave and wait at the lane of each channel whose outer loop takes them.
The oldest archiving buffer is freed into the archive queue and counted. An accepted COMMIT forms the next
generation of the staged values and changes nothing else of the head; the next frame that may completes it
(DownlinkFrameComplete). The oldest message of the archive queue leaves. A read of the feature log answers the
records from CURSOR on and moves CURSOR past them. (R246, R247, R261, R268, R269, R274, R279, R303) -/
def Obligations.SieveCommandsComplete : Prop :=
  (∀ (s : State) (pipe d : Nat) (h : HeadNo) (f : CamFrame) (p : Pipeline), s.sieve.pipes[pipe]? = some p → p.busy = none →
      s.nextFrame pipe = some (d, h, f) → ((s.head h).camera.gen? f.gen).isSome = true → s.et + passTicks f.format false ≤ d →
      ∃ t, exec (.pipelineDispatch pipe) s = .next t ∧ (t.sieve.pipes[pipe]?).map (fun q => q.busy) = some (some h)
        ∧ { f with state := .processing, featuresOnly := false, doneAt := s.et + passTicks f.format false } ∈ (t.head h).camera.frames
        ∧ (t.head h).camera.frames.length = (s.head h).camera.frames.length ∧ (∀ k, k ≠ h → t.head k = s.head k)
        ∧ t = { s with heads := t.heads, sieve := { s.sieve with pipes := t.sieve.pipes } })
  ∧ (∀ (s : State) (h : Nat), ∃ t, exec (.featureRecordHandover h) s = .next t
        ∧ (t.head h).camera.held = (s.head h).camera.held.filter (fun r => decide (s.et < r.deadline))
        ∧ (∀ k, k ≠ h → t.head k = s.head k)
        ∧ (∀ r ∈ (s.head h).camera.held, r.deadline ≤ s.et → ∀ b, b < 8 → s.outerTakes h r.deadline r.bytes b = true →
          ∀ x, t.engine.lanes[b]? = some x → LaneWork.outer r.deadline h b r.bytes ∈ x.waiting)
        ∧ t = { s with heads := t.heads, engine := { s.engine with lanes := t.engine.lanes } })
  ∧ (∀ (s : State) (h : Nat) (f : CamFrame), (s.head h).camera.frames.find? (fun f => f.state == .archiving) = some f →
      ∃ t, exec (.archiveCopyComplete h) s = .next t ∧ (t.head h).camera.frames = (s.head h).camera.frames.erase f
        ∧ t.sieve.archive = s.sieve.archive ++ [archivePayload h f f.params.integration]
        ∧ t.reg (0x6220 + h) 6 = counterNext (regKey (0x6220 + h) 6) (s.reg (0x6220 + h) 6) 1
        ∧ s.KeepsRegs t [regKey (0x6220 + h) 6] ∧ (∀ k, k ≠ h → t.head k = s.head k)
        ∧ t = { s with heads := t.heads, regs := t.regs, sieve := { s.sieve with archive := t.sieve.archive }, dram := t.dram })
  ∧ (∀ (s : State) (p : Path) (h : Nat), h < 32 → h < s.heads.length →
      s.Takes p (orElse (s.writeGate p (0x6100 + h) 17) (s.commitRefusal h)) →
      ∃ t, exec (.commit p h) s = .next t
        ∧ (t.head h) = { s.head h with camera := { (s.head h).camera with
            forming := (s.head h).camera.forming ++ [s.staged h (nextGeneration (s.head h).camera.newest)] } } ∧ (∀ k, k ≠ h → t.head k = s.head k) ∧ t.out.getLast? = some (.answer p 0 [])
        ∧ ({ s with heads := t.heads } : State).Reports t)
  ∧ (∀ (s : State) (a : List Byte) (rest : List (List Byte)), s.sieve.archive = a :: rest → ∃ t, exec .archiveMessageSend s = .next t
        ∧ t.sieve = { s.sieve with archive := rest } ∧ ({ s with sieve := t.sieve } : State).Reports t
        ∧ t = ({ s with sieve := t.sieve } : State).publish 3 0x38 false a)
  ∧ (∀ (s : State) (p : Path), s.Takes p (s.readGate 0x6001 2) → s.logBlock ≠ [] → ∃ t, exec (.featureLogBlockRead p) s = .next t
        ∧ t.out = s.out ++ [.answer p 0 s.logBlock.flatten] ∧ t.reg 0x6001 1 = (s.logFrom + s.logBlock.length : Nat)
        ∧ s.KeepsRegs t [regKey 0x6001 1] ∧ t = { s with regs := t.regs, dram := t.dram, out := t.out })

/-- When the pass under way has come to its end and the frame is not selected for the archive, the pipeline is
free, the frame's buffer is freed, and a feature record of 64 bytes is the newest of the feature log and the
head's last record. The device state does not change. (R259, R261, R268, R274, R279) -/
def Obligations.CameraPassComplete : Prop :=
  ∀ (s : State) (pipe : Nat) (p : Pipeline) (h : HeadNo) (f : CamFrame), s.sieve.pipes[pipe]? = some p → p.busy = some h →
    (s.head h).camera.frames.find? (fun f => f.state == .processing) = some f → f.doneAt ≤ s.et →
    f.params.archiveDec = 0 → 0 < s.dram.logMiB →
    ∃ t r, exec (.processingComplete pipe) s = .next t ∧ (t.sieve.pipes[pipe]?).map (fun q => q.busy) = some none
      ∧ (t.head h).camera.frames = (s.head h).camera.frames.erase f ∧ t.sieve.log.getLast? = some r ∧ r.length = 64
      ∧ (t.head h).camera.lastRecord = r ∧ t.dev = s.dev ∧ t.clk = s.clk ∧ t.power = s.power ∧ t.motion = s.motion

/-- A free lane takes its earliest work and is busy for its cycles; an outer update leaves its step and bound, of
the law in force at its ET, to apply from that ET on. DARK_CAPTURE begins a capture on every channel of each head
in OPERATION, and its completion makes the mean the baseline. LOOP_ENABLE is stored; a law is stored and its
WRITES counted; a rate whose moment has come is the rate in force. (R285, R287, R295, R297, R303, R304, R311,
R312, R339) -/
def Obligations.ControlCommandsComplete : Prop :=
  (∀ (s : State) (lane : Nat) (x : Lane) (w : LaneWork), s.engine.lanes[lane]? = some x → x.freeAt ≤ s.et → nextWork x.waiting = some w →
      ∃ t n, exec (.laneDispatch lane) s = .next t
        ∧ (t.engine.lanes[lane]?).map (fun y => (y.freeAt, y.waiting)) = some (s.et + laneTicks n, removeFirst w x.waiting)
        ∧ t.dev = s.dev ∧ t.sieve = s.sieve ∧ t.motion = s.motion ∧ t.time = s.time
        ∧ (∀ (et : Tick) (h : HeadNo) (b : Nat) (record : List Byte), w = .outer et h b record → h < s.heads.length →
          b < (s.head h).channels.length → n = 4
          ∧ (∀ l, l = s.law ((s.chan h b).lawAt et) → (t.chan h b).oWaiting = (s.chan h b).oWaiting
            ++ [(et, l.ko.mul (sat (l.featureTarget - (featureOf record l.feature : Nat))), l.outerLimit)])
          ∧ (∀ k, k ≠ h → t.head k = s.head k) ∧ s.KeepsRegs t [regKey 0x7001 9]))
  ∧ (∀ (s : State) (p : Path), s.Takes p (orElse (s.writeGate p 0x7000 6) (orElse (numberTest 0x7000 6 (leBytes 1 1))
      (refuseIf (!s.dev.state.captures) .conditions))) →
      ∃ t, exec (.darkCapture p 1) s = .next t
        ∧ (∀ h, h < 32 → (s.head h).link.state = .operation → ∀ c ∈ (t.head h).channels, c.darkSums = some (0, 0, 0))
        ∧ (∀ h, (s.head h).link.state ≠ .operation → t.head h = s.head h) ∧ t.out.getLast? = some (.answer p 0 [])
        ∧ ({ s with heads := t.heads } : State).Reports t)
  ∧ (∀ (s : State) (h b n l sh : Nat), (s.chan h b).darkSums = some (n, l, sh) → n = s.regN 0x7000 4 →
      ∃ t, exec (.darkCaptureComplete h b) s = .next t
        ∧ t.chan h b = { s.chan h b with darkL := meanOf l n, darkS := meanOf sh n, darkValid := true, darkSums := none }
        ∧ (∀ k, k ≠ h → t.head k = s.head k) ∧ (∀ c, c ≠ b → t.chan h c = s.chan h c) ∧ t = { s with heads := t.heads })
  ∧ (∀ (s : State) (p : Path) (h sub v : Nat), h < 32 →
      s.Takes p (orElse (s.writeGate p (0x7100 + h) sub) (numberTest (0x7100 + h) sub (leBytes 1 v))) →
      ∃ t, exec (.loopEnable p h sub v) s = .next t ∧ t.reg (0x7100 + h) sub = (v % 2 : Nat) ∧ t.out.getLast? = some (.answer p 0 [])
        ∧ s.ReportsWith t [regKey (0x7100 + h) sub])
  ∧ (∀ (s : State) (p : Path) (law sub : Nat) (data : List Byte), s.Takes p (s.lawRefusal p law sub data) →
      ∃ t, exec (.lawWrite p law sub data) s = .next t ∧ t.blob (0x7010 + law) 1 = data
        ∧ t.reg (0x7010 + law) 2 = counterNext (regKey (0x7010 + law) 2) (s.reg (0x7010 + law) 2) 1
        ∧ (∀ i j, regKey i j ≠ regKey (0x7010 + law) 1 → t.blob i j = s.blob i j) ∧ t.out.getLast? = some (.answer p 0 [])
        ∧ ({ s with blobs := t.blobs } : State).ReportsWith t [regKey (0x7010 + law) 2])
  ∧ (∀ (s : State) (c : RateChange), s.engine.rateChanges = [c] →
      (c.at_ ≤ s.et → exec .sampleRateSwitch s = .next { s with engine := { s.engine with rate := c.rate, rateChanges := [] } })
      ∧ (s.et < c.at_ → exec .sampleRateSwitch s = .next s))

/-- An accepted exchange, its turn in its CLK_SYS cycle come (log entry 102), of a controller that has not
acquired NT moves NT by the offset and locks the servo; one within the step threshold locks it with NT
continuous. A timeout discards the exchange. A silent grandmaster leads to HOLDOVER with NT continuous.
NT_REANCHOR moves the anchor to the present ET with NT and the rate as they were. STEP_NOW steps NT by the newest
offset. ET_IN and the NT_IN pair are converted. The clock of ET is the same after each. (R426, R427, R435, R436,
R437, R439, R441, R446, R448) -/
def Obligations.TimeCommandsComplete : Prop :=
  (∀ (s : State) (t1 c1 : Int) (t2 t3 : Nat) (t4 c2 off del : Int), s.exchangeAccepted t2 = true → s.turn 8 = true →
      off = exchangeOffset t1 c1 (s.time.ntFine (s.stamps t2 t3).1) (s.time.ntFine (s.stamps t2 t3).2) t4 c2 →
      del = exchangeDelay t1 c1 (s.time.ntFine (s.stamps t2 t3).1) (s.time.ntFine (s.stamps t2 t3).2) t4 c2 →
      (s.time.unset = true → ∃ t, exec (.ptpExchangeComplete t1 c1 t2 t3 t4 c2) s = .next t ∧ t.time.unset = false
        ∧ t.time.servo = .locked ∧ t.time.nt s.et = s.time.nt s.et - off ∧ t.reg 0x2023 4 = off ∧ t.reg 0x2023 5 = del
        ∧ t.reg 0x2023 8 = counterNext (regKey 0x2023 8) (s.reg 0x2023 8) 1
        ∧ ({ s with time := t.time } : State).ReportsWith t [regKey 0x2023 4, regKey 0x2023 5, regKey 0x2023 8])
      ∧ (s.time.unset = false → off ≤ s.reg 0x2022 1 * 10 → -(s.reg 0x2022 1 * 10) ≤ off →
        ∃ t, exec (.ptpExchangeComplete t1 c1 t2 t3 t4 c2) s = .next t ∧ t.time.servo = .locked ∧ t.time.nt s.et = s.time.nt s.et
        ∧ t.time.rho = lockedRho t.time.rhoF off (s.regN 0x2022 2) ∧ t.time.last = some (off, s.et)
        ∧ t.reg 0x2023 4 = off ∧ t.reg 0x2023 5 = del
        ∧ ({ s with time := t.time } : State).ReportsWith t [regKey 0x2023 4, regKey 0x2023 5, regKey 0x2023 8]))
  ∧ (∀ s : State, exec .ptpExchangeTimeout s = .next { s with time := { s.time with exchange := none } })
  ∧ (∀ s : State, s.time.master.isSome = true → ∃ t, exec .announceTimeout s = .next t ∧ t.time.servo = .holdover
      ∧ t.time.rho = clampInt (-rhoMax) rhoMax s.time.rhoF ∧ t.time.nt s.et = s.time.nt s.et ∧ t.time.exchange = none
      ∧ (∀ a ∈ t.time.heard, some a ≠ s.time.master) ∧ t.time.master = bestMaster t.time.heard ∧ (leafAt t.leaves 0x2109 1).isSome = true
      ∧ ({ s with time := t.time } : State).ReportsWith t [regKey 0x2023 2, regKey 0x2023 3, regKey 0x2023 7])
  ∧ (∀ s : State, ∃ t, exec .ntReanchor s = .next t ∧ t.time.anchorEt = s.et ∧ t.time.nt s.et = s.time.nt s.et
      ∧ t = { s with time := { s.time with anchorEt := t.time.anchorEt, anchorNt := t.time.anchorNt } })
  ∧ (∀ (s : State) (p : Path) (off : Int) (e : Tick), s.Takes p (orElse (s.writeGate p 0x2022 4) (numberTest 0x2022 4 (leBytes 1 1))) →
      s.time.last = some (off, e) → s.et ≤ e + 1250000000 →
      ∃ t, exec (.stepNow p 1) s = .next t ∧ t.time.nt s.et = s.time.nt s.et - off ∧ t.time.servo = .locked ∧ t.time.stepEt = some s.et
        ∧ t.reg 0x2020 6 = -off ∧ t.reg 0x2020 5 = counterNext (regKey 0x2020 5) (s.reg 0x2020 5) 1
        ∧ (leafAt t.leaves 0x2109 3).isSome = true ∧ t.out.getLast? = some (.answer p 0 [])
        ∧ ({ s with time := t.time } : State).ReportsWith t [regKey 0x2020 5, regKey 0x2020 6])
  ∧ (∀ (s : State) (p : Path) (v : Nat), s.Takes p (orElse (s.writeGate p 0x2021 1) (numberTest 0x2021 1 (leBytes 8 v))) →
      ∃ t, exec (.etIn p v) s = .next t ∧ t.reg 0x2021 1 = v ∧ t.reg 0x2021 2 = ntSeconds (s.time.nt v)
        ∧ t.reg 0x2021 3 = s.time.stampWord (s.time.nt v) ∧ s.KeepsRegs t [regKey 0x2021 1, regKey 0x2021 2, regKey 0x2021 3]
        ∧ t = { s with regs := t.regs, out := s.out ++ [.answer p 0 []] })
  ∧ (∀ (s : State) (p : Path) (v : Nat), s.Takes p (orElse (s.writeGate p 0x2021 5) (numberTest 0x2021 5 (leBytes 4 v))) →
      ∃ t, exec (.ntInNanoseconds p v) s = .next t ∧ t.reg 0x2021 5 = v
        ∧ t.reg 0x2021 6 = s.time.etOf ((s.reg 0x2021 4 * 1000000000 + v) * 10) ∧ s.KeepsRegs t [regKey 0x2021 5, regKey 0x2021 6]
        ∧ t = { s with regs := t.regs, out := s.out ++ [.answer p 0 []] })

/-- A controller of a pair sends HEARTBEAT at every multiple of 625 ticks and toggles its alive line; where it
sends none it holds the line low. A HEARTBEAT in time tells a SHADOW its partner's role, state and EPOCH. A
silent PRIMARY is taken over from with EPOCH one higher, the counter, the ET and the leaf; a failed link makes a
SHADOW COLD and leaves a PRIMARY without a partner to wait for. Its own lapse makes a PRIMARY COLD, a late
message or diverging states a SHADOW (each when its turn in its CLK_SYS cycle has come, log entry 102). The gap
records of a head are closed 64 frames after F; the ledger is sent every 512 frames; messages asked for leave
again under their own numbers. (R26, R32, R456, R457, R461, R467, R468, R471, R473, R474) -/
def Obligations.TwinClockCommandsComplete : Prop :=
  (∀ s : State, s.paired = true → s.et % 625 = 0 →
      (s.dev.state.beats = true → s.seqRuns = true → ∃ t, exec .heartbeatSend s = .next t
        ∧ t.twin = { s.twin with aliveOut := !s.twin.aliveOut, ownEt := some s.et }
        ∧ (s.twin.linkLock = true → t.out = s.out ++ [twinOut 0x01 0 s.heartbeatFields]) ∧ (s.twin.linkLock = false → t.out = s.out)
        ∧ t = { s with twin := t.twin, out := t.out })
      ∧ (s.dev.state.beats = false ∨ s.seqRuns = false → exec .heartbeatSend s = .next { s with twin := { s.twin with aliveOut := false } }))
  ∧ (∀ (s : State) (e role state epoch next held : Nat), s.twin.role = .shadow → s.twin.linkLock = true → s.twin.heardEt = some e →
      seqBelow s.twin.rxNext next = false → ∃ t, exec (.heartbeat (e + 625) role state epoch next held) s = .next t
      ∧ t.twin.heardEt = some (e + 625) ∧ t.twin.partnerRole = roleOfCode role ∧ t.twin.partnerState = state ∧ t.twin.epoch = epoch
      ∧ (s.dev.state.code = state → t.twin.divergedAt = none) ∧ t = { s with twin := t.twin })
  ∧ (∀ s : State, exec .twinAliveEdge s = .next { s with twin := { s.twin with aliveEt := some s.et } })
  ∧ (∀ s : State, s.twin.role = .shadow → s.unheard = true → s.aliveSeen = false → s.twin.writes = [] → s.twin.ledger = [] →
      ∃ t, exec .takeover s = .next t ∧ t.twin.role = .primary ∧ t.twin.epoch = (s.twin.epoch + 1) % 2 ^ 16
      ∧ t.twin.gapFrame = some (s.et + 125) ∧ t.twin.ownEt = some s.et ∧ t.twin.hostCopies = []
      ∧ t.reg 0xD001 10 = counterNext (regKey 0xD001 10) (s.reg 0xD001 10) 1 ∧ t.reg 0xD001 11 = s.et
      ∧ (leafAt t.leaves 0x210A 0).isSome = true
      ∧ ({ s with twin := t.twin } : State).ReportsWith t [regKey 0xD001 10, regKey 0xD001 11, regKey 0xD001 14])
  ∧ (∀ s : State, s.unheard = true → s.aliveSeen = true → s.turn 5 = true →
      (s.twin.role = .primary → ∃ t, exec .twinLinkFailed s = .next t ∧ t.twin.role = .primary ∧ t.twin.heardEt = none
        ∧ ({ s with twin := t.twin } : State).ReportsWith t [regKey 0xD001 14])
      ∧ (s.twin.role = .shadow → ∃ t, exec .twinLinkFailed s = .next t ∧ s.BecomesCold t 0x03 [regKey 0xD001 14]))
  ∧ (∀ (s : State) (e : Tick), s.twin.role = .primary → s.twin.ownEt = some e → e + 5000 ≤ s.et → s.turn 5 = true →
      ∃ t, exec .ownHeartbeatLapse s = .next t ∧ s.BecomesCold t 0x0A [])
  ∧ (∀ (s : State) (seq : Nat), s.twin.role = .shadow → s.twin.awaits seq = true → s.turn 5 = true →
      ∃ t, exec (.twinMessageLate seq) s = .next t ∧ s.BecomesCold t 0x07 [])
  ∧ (∀ (s : State) (e : Tick), s.twin.role = .shadow → s.dev.state.code ≠ s.twin.partnerState → s.twin.divergedAt = some e → e + 625000 < s.et →
      s.turn 5 = true → ∃ t, exec .stateDivergenceTimeout s = .next t ∧ s.BecomesCold t 0x0C [])
  ∧ (∀ (s : State) (h : Nat) (f : Tick), s.twin.gapFrame = some f → f + 8000 ≤ s.et → ∃ t, exec (.gapRecordTimeout h) s = .next t
      ∧ (t.head h).path.records = (s.head h).path.records.filter (fun r => r.cause != 0x0A) ∧ (∀ k, k ≠ h → t.head k = s.head k)
      ∧ ({ s with heads := t.heads, job := t.job, dram := t.dram } : State).ReportsWith t [regKey 0x3012 9])
  ∧ (∀ s : State, s.et % 64000 = 0 → s.twin.role = .primary → s.twin.linkLock = true → ∃ t, exec .ledgerSend s = .next t
      ∧ t.out = s.out ++ [twinOut 0x0B s.twin.txSeq ((s.et : Int) :: s.job.segments.flatMap (fun g => g.ledgerRows s.et))]
      ∧ t.twin.txSeq = (s.twin.txSeq + 1) % 2 ^ 32 ∧ s.Reports t)
  ∧ (∀ (s : State) (seq first count : Nat), s.Expects seq → ∃ (t : State) (ms : List TwinSent), exec (.repeatRequest seq first count) s = .next t
      ∧ (∀ m, m ∈ ms ↔ m ∈ s.twin.kept ∧ seqAhead first m.seq < count ∧ s.et ≤ m.sentEt + 62500)
      ∧ t.out = s.out ++ ms.map (fun m => twinOut m.kind m.seq m.fields)
      ∧ t.reg 0xD001 13 = counterNext (regKey 0xD001 13) (s.reg 0xD001 13) ms.length
      ∧ s.KeepsRegs t [regKey 0xD001 13] ∧ t = { s.past seq with regs := t.regs, out := t.out })

/-- A message with the number a SHADOW expects is counted and acts. DECISION is kept until its segment is there,
which is decided when it is; OUTCOME is kept until the own outcome is there, PLAN and STATE until their moment,
WRITE is applied at once where no earlier decision is outstanding and kept otherwise, CUT suppresses the events
not yet in frames of what was cut, clears those already placed and breaks the promise, JOB_COPY holds a frame
beyond a gap, HOST_COPY keeps a frame sent to host software, DIGEST and LEDGER are kept for their comparison,
MOTION gives the recoater's count and layer. After OUTCOME, PLAN, STATE, WRITE, CUT, HOST_COPY and LEDGER a
decision that waits is taken up. (R456, R457, R459, R460, R461, R463, R464, R465, R466, R476) -/
def Obligations.TwinMessagesComplete : Prop :=
  (∀ (s : State) (seq : Nat), s.Expects seq → seq < 2 ^ 32 → (s.past seq).twin.rxNext = (seq + 1) % 2 ^ 32 ∧ (s.past seq).twin.beyond = [])
  ∧ (∀ (s : State) (seq n tRef latency : Nat), s.Expects seq → s.twin.writes = [] →
      (s.nextSubmitted = none → exec (.decision seq n tRef latency) s = .next { s.past seq with
        twin := { (s.past seq).twin with decision := s.twin.decision ++ [(seq, n, tRef, latency)] } })
      ∧ (∀ g, s.nextSubmitted = some g → g.seq = n → s.twin.decision = [] → seq < 2 ^ 32 → exec (.decision seq n tRef latency) s =
        .next ({ s.past seq with twin := { (s.past seq).twin with decision := [(seq, n, tRef, latency)] } }.decideAs g tRef latency)))
  ∧ (∀ (s : State) (seq n id code promise : Nat), s.Expects seq → s.twin.ownOutcome = [] → exec (.outcome seq n id code promise) s =
      .next { s.past seq with twin := { (s.past seq).twin with outcome := s.twin.outcome ++ [(n, id, code, promise)] } }.followDecision)
  ∧ (∀ (s : State) (seq id h kind item at_ value : Nat), s.Expects seq → (∀ o ∈ s.twin.orders, o.factorDue s.et = none) → s.et < at_ →
      (∀ k, k < 32 → (s.head k).path.unpassed = none) → exec (.plan seq id h kind item at_ value) s =
      .next { s.past seq with twin := { (s.past seq).twin with orders := s.twin.orders ++ [TwinOrder.plan id h kind item at_ value] } }.followDecision)
  ∧ (∀ (s : State) (seq request cause at_ : Nat), s.Expects seq → s.et < at_ → (∀ o ∈ s.twin.orders, o.due s.et = none) →
      exec (.stateMessage seq request cause at_) s = .next
        { s.past seq with twin := { (s.past seq).twin with orders := s.twin.orders ++ [TwinOrder.state request cause at_] } }.followDecision)
  ∧ (∀ (s : State) (seq before index sub : Nat) (data : List Byte), s.Expects seq → s.twin.writes = [] →
      (s.writeDue before = true → exec (.twinWrite seq before index sub data) s = .next ((s.past seq).applyWrite index sub data).followDecision)
      ∧ (s.writeDue before = false → exec (.twinWrite seq before index sub data) s = .next
        { s.past seq with twin := { (s.past seq).twin with writes := [(before, index, sub, data)] } }.followDecision))
  ∧ (∀ (s : State) (seq id h cause mask onset : Nat) (g : Segment) (w : Nat × Nat × Option Nat), s.Expects seq → s.unfinishedBy id = some g →
      s.seg? g.key = some g → s.reg 0x3010 10 = 0 → g.mayBreak = true →
      w = ((s.head h).path.cutScope cause mask onset).getD (g.key, 0xFFFF, none) → (s.head h).path.scopeEnergy (w.1, w.2.1) w.2.2 ≠ 0 →
      ∃ u : State, exec (.cut seq id h cause mask onset) s = .next u.followDecision
        ∧ (u.head h).path.suppressed = (s.head h).path.suppressed ++ [⟨w.1, w.2.1, w.2.2, cause, s.freeDetail⟩]
        ∧ (u.head h).link.clears = (s.head h).link.clears ||| mask ∧ (u.seg? g.key).map (fun x => x.broke) = some (some cause)
        ∧ (∀ k, k ≠ h → u.head k = s.head k) ∧ u.dev = s.dev ∧ u.fresh = s.fresh + 1)
  ∧ (∀ (s : State) (seq : Nat) (frame : List Byte) (n : Nat), s.Expects seq → n = (frameOf frame).session → s.openRing n = true →
      n < s.sessions.length → (s.session n).job = true → (s.session n).backlog = [] → (frameOf frame).kind ≠ 1 → (frameOf frame).kind ≠ 0 →
      reliableKind (frameOf frame).kind = true → (frameOf frame).reliable = true → (frameOf frame).sack = 0 →
      (s.session n).hasFrame (frameOf frame).seq = false → 0 < seqAhead (s.session n).rxNext (frameOf frame).seq →
      seqAhead (s.session n).rxNext (frameOf frame).seq < 64 →
      ∃ t, exec (.jobCopy seq frame) s = .next t ∧ (t.session n).held = (s.session n).held ++ [⟨frameOf frame, false⟩]
        ∧ (t.session n).ackOwed = true ∧ (t.session n).rxNext = (s.session n).rxNext ∧ t.job = s.job ∧ t.dev = s.dev ∧ t.regs = s.regs)
  ∧ (∀ (s : State) (seq : Nat) (frame : List Byte) (n : Nat), s.Expects seq → s.jobSession = some n → (frameOf frame).kind ≠ 3 →
      exec (.hostCopy seq frame) s = .next { s.past seq with
        sessions := s.sessions.set n { s.session n with txSeq := ((frameOf frame).seq + 1) % 2 ^ 32 }
        twin := { (s.past seq).twin with hostCopies := s.twin.hostCopies ++ [frameOf frame] } }.followDecision)
  ∧ (∀ (s : State) (seq id value : Nat), s.Expects seq → storeGet id s.twin.digests = none → exec (.digest seq id value) s =
      .next { s.past seq with twin := { (s.past seq).twin with partnerDigests := storePut id value s.twin.partnerDigests } })
  ∧ (∀ (s : State) (seq et id channel : Nat) (planned correction delivered withheld : Int) (g : Segment), s.Expects seq →
      s.unfinishedBy id = some g →
      ∃ u : State, exec (.ledger seq et [id] [channel] [planned] [correction] [delivered] [withheld]) s = .next u.followDecision
        ∧ u.twin.ledger.getLast? = some ⟨et, id, channel, ⟨planned, correction, delivered, withheld⟩, g.bookOf channel⟩
        ∧ (∀ r ∈ u.twin.ledger.dropLast, ¬(r.seg = id ∧ r.channel = channel) ∧ r ∈ s.twin.ledger)
        ∧ u = { s.past seq with twin := { (s.past seq).twin with ledger := u.twin.ledger } })
  ∧ (∀ (s : State) (seq : Nat) (count : Int) (layer : Nat), s.Expects seq → s.runsMotion = false →
      (∀ g ∈ s.job.segments, g.layer < layer → g.state ≠ .admitted ∧ g.state ≠ .staged) → exec (.motion seq count layer) s =
        .next { s.past seq with twin := { (s.past seq).twin with motionCount := count, motionLayer := some layer } })

/-- Block lock of the twin link keeps the partner's NEGOTIATE, numbers both directions from 1 and, with twin
operation enabled, makes the controller of rank 0 PRIMARY and, where nothing stands against the pair, that of
rank 1 SHADOW with the ET of its partner; its loss ends the lock and takes the source. Alone in STANDBY after the
timeout a controller becomes PRIMARY. A join that proceeds sends JOIN with result 0, any other answers 1; a COLD
controller that receives JOIN fixes PAIR_OFFSET, by which ET moves, and becomes SHADOW. RELEASE makes a SHADOW
COLD; TWIN_ENABLE of 0 makes the controller SOLO. (R451, R452, R454, R458, R469, R470, R472, R477, R560) -/
def Obligations.PairingCommandsComplete : Prop :=
  (∀ (s : State) (vMax vMin fw mc dig rank serial role : Nat) (trips : List Nat) (sendEt : Nat), s.dev.state ≠ .off → s.dev.state ≠ .aux →
      (s.reg 0xD000 1 ≠ 1 → ∃ t, exec (.twinLinkBlockLock vMax vMin fw mc dig rank serial role trips sendEt) s = .next t
        ∧ t.twin.linkLock = true ∧ t.twin.partner = some ⟨vMax, vMin, fw, mc, dig, rank, serial⟩ ∧ t.twin.role = s.twin.role
        ∧ t.twin.txSeq = 1 ∧ t.twin.rxNext = 1 ∧ t.twin.linkDelay = delayOfTrips trips ∧ t.twin.offsetSeen = s.offsetOf (delayOfTrips trips) sendEt
        ∧ t.clocks = { s.clocks with twinLink := { s.clocks.twinLink with
            lock := true, since := if s.clocks.twinLink.lock = true then s.clocks.twinLink.since else s.clk.island } }
        ∧ t = { s with twin := t.twin, clocks := t.clocks })
      ∧ (s.reg 0xD000 1 = 1 → s.twin.role = .solo → s.reg 0xD000 2 = 0 → rank ≠ 0 → roleOfCode role ≠ .primary →
        ∃ t, exec (.twinLinkBlockLock vMax vMin fw mc dig rank serial role trips sendEt) s = .next t
        ∧ t.twin.linkLock = true ∧ t.twin.role = .primary ∧ t.twin.heardEt = some s.et ∧ t.clocks.twinLink.lock = true ∧ t.clk = s.clk
        ∧ t = { s with twin := t.twin, clocks := t.clocks, out := t.out })
      ∧ (s.reg 0xD000 1 = 1 → s.twin.role = .solo → s.reg 0xD000 2 = 1 → rank = 0 → roleOfCode role ≠ .primary →
        s.mismatch ⟨vMax, vMin, fw, mc, dig, rank, serial⟩ = none → delayOfTrips trips ≤ 250 →
        ∃ t, exec (.twinLinkBlockLock vMax vMin fw mc dig rank serial role trips sendEt) s = .next t
        ∧ t.twin.linkLock = true ∧ t.twin.role = .shadow ∧ t.twin.pairOffset = s.offsetOf (delayOfTrips trips) sendEt
        ∧ t.clk = { s.clk with et := moveTick (s.offsetOf (delayOfTrips trips) sendEt - s.twin.pairOffset) s.clk.et }
        ∧ t.dev = s.dev ∧ t.regs = s.regs ∧ t.job = s.job))
  ∧ (∀ s : State, s.clocks.mainLock = false → ∃ t, exec .twinLinkLockLoss s = .next t ∧ t.twin = { s.twin with linkLock := false }
      ∧ t.clocks = { s.clocks with twinLink := ⟨false, 0, false⟩ } ∧ t = { s with twin := t.twin, clocks := t.clocks, sessions := t.sessions })
  ∧ (∀ s : State, s.reg 0xD000 1 = 1 → s.twin.role = .solo → s.twin.linkLock = false → s.dev.state = .standby →
      ∃ t, exec .twinSoloTimeout s = .next t ∧ t.twin.role = .primary ∧ t.twin.coldCause = 0 ∧ t = { s with twin := t.twin })
  ∧ (∀ (s : State) (p : Path), s.Takes p (orElse (s.writeGate p 0xD002 1) (numberTest 0xD002 1 (leBytes 1 1))) →
      (s.joinReady = true → ∃ t, exec (.join p 1) s = .next t ∧ t.reg 0xD002 3 = 0 ∧ t.out.getLast? = some (.answer p 0 [])
        ∧ (∃ rest, t.out = s.out ++ twinOut 0x0E s.twin.txSeq (s.joinContent.map (fun b => (b.toNat : Int))) :: rest) ∧ s.ReportsWith t [regKey 0xD002 3])
      ∧ (s.joinReady = false → ∃ t, exec (.join p 1) s = .next t ∧ t.reg 0xD002 3 = 1 ∧ s.KeepsRegs t [regKey 0xD002 3]
        ∧ t = { s with regs := t.regs, out := s.out ++ [.answer p 0 []] }))
  ∧ (∀ s : State, s.reg 0xD000 4 = 1 → s.joinReady = true → ∃ t, exec .autoJoinStart s = .next t ∧ t.reg 0xD002 3 = 0
        ∧ (∃ rest, t.out = s.out ++ twinOut 0x0E s.twin.txSeq (s.joinContent.map (fun b => (b.toNat : Int))) :: rest) ∧ s.ReportsWith t [regKey 0xD002 3])
  ∧ (∀ (s : State) (content : List Byte) (trips : List Nat) (sendEt : Nat) (offset : Int), s.twin.role = .cold → s.twin.linkLock = true →
      offset = s.offsetOf (delayOfTrips trips) sendEt →
      (delayOfTrips trips ≤ 250 → ∃ t, exec (.joinReceived content trips sendEt) s = .next t ∧ t.twin.role = .shadow ∧ t.twin.coldCause = 0
        ∧ t.twin.pairOffset = offset ∧ t.twin.rxNext = (s.twin.rxNext + 1) % 2 ^ 32
        ∧ t.clk = { s.clk with et := moveTick (offset - s.twin.pairOffset) s.clk.et }
        ∧ t.time.anchorEt = s.time.anchorEt + (offset - s.twin.pairOffset) ∧ t.time.anchorNt = s.time.anchorNt ∧ t.dev = s.dev)
      ∧ (250 < delayOfTrips trips → ∃ t, exec (.joinReceived content trips sendEt) s = .next t ∧ t.twin.role = .cold ∧ t.twin.coldCause = 3
        ∧ t.twin.pairOffset = s.twin.pairOffset ∧ t = { s with twin := t.twin }))
  ∧ (∀ (s : State) (p : Path), s.Takes p (orElse (s.writeGate p 0xD002 2) (numberTest 0xD002 2 (leBytes 1 1))) → s.twin.role = .shadow →
      ∃ t, exec (.release p 1) s = .next t ∧ t.out.getLast? = some (.answer p 0 []) ∧ s.BecomesCold t 0x0B [])
  ∧ (∀ (s : State) (p : Path), s.Takes p (s.enableRefusal p 0) → ∃ t, exec (.twinEnable p 0) s = .next t ∧ t.reg 0xD000 1 = 0
        ∧ t.twin = { s.twin with role := .solo, coldCause := 0 } ∧ s.KeepsRegs t [regKey 0xD000 1]
        ∧ t = { s with regs := t.regs, twin := t.twin, out := s.out ++ [.answer p 0 []] })
  ∧ (∀ (s : State) (p : Path), s.Takes p (s.enableRefusal p 1) → s.twin.linkLock = false → ∃ t, exec (.twinEnable p 1) s = .next t
        ∧ t.reg 0xD000 1 = 1 ∧ s.KeepsRegs t [regKey 0xD000 1] ∧ t = { s with regs := t.regs, out := s.out ++ [.answer p 0 []] })

/-- An accepted ENABLE of 1 takes every disabled member of the gang to HOLD, and of 0 every member to DISABLED
with HOMED lost; GO starts the move of the distance that the target asks for; STOP brings a moving axis to rest;
HOME begins the search. Each leaves RESULT 0 and answers. A microstep moves every member of the gang by one in
the ramp's direction; a move that has come to rest leaves the gang in HOLD; the hold delay takes the run current
away; a chopping cycle that reaches its code adapts the coil's offset and begins the next at the target of now.
The device state does not change. (R481, R484, R488, R489, R492, R493, R495, R496, R497, R519) -/
def Obligations.AxisCommandsComplete : Prop :=
  (∀ (s : State) (p : Path) (m : Nat), m < 8 → s.motion.axes.length = 8 → s.Takes p (s.writeGate p (0x9020 + m) 1) →
      (s.axisResult m false = 0 → (s.axis m).state ≠ .faulted → ∃ t, exec (.enableAxis p m 1) s = .next t
        ∧ (∀ k ∈ s.gang m, (s.axis k).state = .disabled → (t.axis k).state = .hold ∧ (t.axis k).running = true)
        ∧ (∀ k, k ∉ s.gang m ∨ (s.axis k).state ≠ .disabled → t.axis k = s.axis k) ∧ t.reg (0x9020 + m) 7 = 0
        ∧ t = { s with regs := t.regs, motion := { s.motion with axes := t.motion.axes }, out := s.out ++ [.answer p 0 []] })
      ∧ (s.axisResult m true = 0 → ∃ t, exec (.enableAxis p m 0) s = .next t
        ∧ (∀ k ∈ s.gang m, (t.axis k).state = .disabled ∧ (t.axis k).homed = false ∧ (t.axis k).ramp = none)
        ∧ (∀ k, k ∉ s.gang m → t.axis k = s.axis k) ∧ t.reg (0x9020 + m) 7 = 0 ∧ t.out.getLast? = some (.answer p 0 [])
        ∧ ({ s with motion := t.motion } : State).ReportsWith t [regKey (0x9020 + m) 7, regKey (0x9040 + m) 6]))
  ∧ (∀ (s : State) (p : Path) (m : Nat) (d : Int), m < 8 → s.motion.axes.length = 8 →
      s.Takes p (orElse (s.writeGate p (0x9020 + m) 5) (numberTest (0x9020 + m) 5 (leBytes 1 1))) →
      d = s.moveBy m (s.reg (0x9020 + m) 3 == 1) (s.reg (0x9020 + m) 2) → s.moveResult m d (s.regN (0x9020 + m) 4) = 0 →
      ∃ t r, exec (.go p m 1) s = .next t ∧ (t.axis m).ramp = some r ∧ r.total = d.natAbs ∧ r.done = 0 ∧ r.start = s.et
        ∧ r.dir = (if d < 0 then -1 else 1) ∧ (∀ k ∈ s.gang m, (t.axis k).state = .moving ∧ (t.axis k).position = (s.axis k).position)
        ∧ (∀ k, k ∉ s.gang m → t.axis k = s.axis k) ∧ t.reg (0x9020 + m) 7 = 0 ∧ s.KeepsRegs t [regKey (0x9020 + m) 7]
        ∧ t = { s with regs := t.regs, motion := { s.motion with axes := t.motion.axes }, out := s.out ++ [.answer p 0 []] })
  ∧ (∀ (s : State) (p : Path) (m : Nat) (r : Ramp), m < 8 → s.motion.axes.length = 8 → s.Takes p (s.writeGate p (0x9020 + m) 6) →
      s.axisResult m false = 0 → (s.axis m).state = .moving → (s.axis m).ramp = some r → s.recoatAxis ≠ some (s.leaderOf m) →
      ∃ t, exec (.stopAxis p m) s = .next t ∧ (∀ k ∈ s.gang m, (t.axis k).state = .stopping ∧ (t.axis k).into = .hold)
        ∧ (t.axis m).ramp.isSome = true ∧ (∀ k, k ∉ s.gang m → t.axis k = s.axis k) ∧ t.reg (0x9020 + m) 7 = 0
        ∧ s.KeepsRegs t [regKey (0x9020 + m) 7]
        ∧ t = { s with regs := t.regs, motion := { s.motion with axes := t.motion.axes }, out := s.out ++ [.answer p 0 []] })
  ∧ (∀ (s : State) (p : Path) (m : Nat), m < 8 → s.motion.axes.length = 8 → s.Takes p (s.writeGate p (0x9020 + m) 6) → s.homeResult m = 0 →
      ∃ t r, exec (.home p m) s = .next t ∧ (t.axis m).ramp = some r ∧ r.done = 0 ∧ r.start = s.et
        ∧ r.dir = (if s.homePositive m = true then 1 else -1)
        ∧ (∀ k ∈ s.gang m, (t.axis k).state = .homing ∧ ((t.axis k).homing.map (fun z => z.phase)) = some .search)
        ∧ (∀ k, k ∉ s.gang m → t.axis k = s.axis k) ∧ t.reg (0x9020 + m) 7 = 0 ∧ s.KeepsRegs t [regKey (0x9020 + m) 7]
        ∧ t = { s with regs := t.regs, motion := { s.motion with axes := t.motion.axes }, out := s.out ++ [.answer p 0 []] })
  ∧ (∀ (s : State) (m : Nat) (r : Ramp), s.motion.axes.length = 8 → (s.axis m).ramp = some r → r.done < r.total →
      (∀ k ∈ s.gang m, (s.axis k).homing = none) → ∃ t q, exec (.microstep m) s = .next t ∧ (t.axis m).ramp = some q
        ∧ q.done = r.done + 1 ∧ q.total = r.total ∧ q.lastIo = r.stepIo (r.done + 1)
        ∧ (∀ k ∈ s.gang m, (t.axis k).position = (s.axis k).position + r.dir ∧ (t.axis k).state = (s.axis k).state)
        ∧ (∀ k, k ∉ s.gang m → t.axis k = s.axis k) ∧ t = { s with motion := { s.motion with axes := t.motion.axes } })
  ∧ (∀ (s : State) (m : Nat) (r : Ramp), s.motion.axes.length = 8 → (s.axis m).ramp = some r → r.total ≤ r.done → (s.axis m).state = .moving →
      s.recoatAxis ≠ some m → ∃ t, exec (.moveComplete m) s = .next t
        ∧ (∀ k ∈ s.gang m, (t.axis k).state = .hold ∧ (t.axis k).ramp = none ∧ (t.axis k).position = (s.axis k).position)
        ∧ (∀ k, k ∉ s.gang m → t.axis k = s.axis k) ∧ t = { s with motion := { s.motion with axes := t.motion.axes } })
  ∧ (∀ (s : State) (m : Nat), m < s.motion.axes.length → (s.axis m).busy = false → ∃ t, exec (.holdDelayExpiry m) s = .next t
        ∧ t.axis m = { s.axis m with running := false } ∧ (∀ k, k ≠ m → t.axis k = s.axis k)
        ∧ t = { s with motion := { s.motion with axes := t.motion.axes } })
  ∧ (∀ (s : State) (m t1 t2 : Nat) (a : Int), m < 8 → m < s.motion.axes.length → (s.axis m).powered = true → s.cycleTarget m false ≠ 0 →
      adapted (s.axis m).coilA.offset (100 * s.axisCfg m 6) (s.axisCfg m 11) (s.axisCfg m 10) t1 t2 = some a →
      ∃ t d, exec (.chopCycle m false true t1 t2) s = .next t ∧ t.axis m = { s.axis m with coilA := d }
        ∧ d.offset = a ∧ d.runs = 0 ∧ d.target = s.coilTarget m false ∧ d.fell = some ((s.cycleTarget m false).sign, s.et - 625 * s.axisCfg m 6)
        ∧ (∀ k, k ≠ m → t.axis k = s.axis k) ∧ t = { s with motion := { s.motion with axes := t.motion.axes } })

/-- During the search an edge of the home switch to active makes the present position the candidate, and the
qualify time makes a candidate the latch; the chatter window ends; a completed move to HOME_PARK leaves every
member of the gang homed in HOLD with its latch read in LAST_HOME_LATCH. A limit at rest, its turn in its CLK_SYS
cycle come (log entry 102), is recorded with its leaf and its release clears it. An accepted RECOAT_START takes
the newest report out of force and starts the first step's move; an accepted MANUAL_REPORT puts the layer's
report in force with its leaf. (R73, R483, R498, R499, R500, R506, R512, R513, R515) -/
def Obligations.HomingAndLimitsComplete : Prop :=
  (∀ (s : State) (m : Nat) (z : Homing), m < 8 → m < s.motion.axes.length → (s.axis m).homing = some z → z.latch = none → z.phase = .search →
      ∃ t, exec (.homeEdge m true) s = .next t ∧ t.axis m = { s.axis m with
          homeActive := true, homing := some { z with candidate := some ((s.axis m).position, s.axisCount m) } }
        ∧ (∀ k, k ≠ m → t.axis k = s.axis k) ∧ t = { s with motion := { s.motion with axes := t.motion.axes } })
  ∧ (∀ (s : State) (m : Nat) (active : Bool), m < 8 → m < s.motion.axes.length → (s.axis m).homing = none →
      ∃ t, exec (.homeEdge m active) s = .next t ∧ t.axis m = { s.axis m with homeActive := active }
        ∧ (∀ k, k ≠ m → t.axis k = s.axis k) ∧ t = { s with motion := { s.motion with axes := t.motion.axes } })
  ∧ (∀ (s : State) (m : Nat) (z : Homing) (c : Int × Int), m < 8 → (s.axis m).homing = some z → z.phase = .search → z.latch = none →
      z.candidate = some c → (s.axis m).homeActive = true → ∃ t y, exec (.qualifyTimeExpiry m) s = .next t ∧ (t.axis m).homing = some y
        ∧ y.latch = some c ∧ y.candidate = none ∧ y.chatter = true ∧ (t.axis m).position = (s.axis m).position
        ∧ t = { s with motion := { s.motion with axes := t.motion.axes } })
  ∧ (∀ (s : State) (m : Nat) (z : Homing), (s.axis m).homing = some z → ∃ t, exec (.chatterWindowExpiry m) s = .next t
        ∧ t.axis m = { s.axis m with homing := some { z with chatter := false } } ∧ (∀ k, k ≠ m → t.axis k = s.axis k)
        ∧ t = { s with motion := { s.motion with axes := t.motion.axes } })
  ∧ (∀ (s : State) (m : Nat) (z : Homing) (r : Ramp), s.motion.axes.length = 8 → (s.axis m).state = .homing → (s.axis m).homing = some z →
      z.phase = .park → (s.axis m).ramp = some r → r.total ≤ r.done → ∃ t, exec (.homingComplete m) s = .next t
        ∧ (∀ k ∈ s.gang m, (t.axis k).state = .hold ∧ (t.axis k).homed = true ∧ (t.axis k).homing = none ∧ (t.axis k).ramp = none
          ∧ (t.axis k).position = (s.axis k).position ∧ (t.encoder (s.axisCfg k 19)).indexPrev = none)
        ∧ (∀ k ∈ s.gang m, t.reg (0x9040 + k) 5 = ((((s.axis k).homing.bind (fun y => y.latch)).map (fun c => c.1)).getD 0))
        ∧ (∀ k, k ∉ s.gang m → t.axis k = s.axis k) ∧ s.KeepsRegs t ((s.gang m).map (fun k => regKey (0x9040 + k) 5))
        ∧ t = { s with regs := t.regs, motion := { s.motion with axes := t.motion.axes, encoders := t.motion.encoders } })
  ∧ (∀ (s : State) (m : Nat), m < 8 → m < s.motion.axes.length → (s.axis (s.leaderOf m)).busy = false → s.turn 10 = true →
      ∃ t, exec (.limitTrip m) s = .next t
        ∧ t.axis m = { s.axis m with limitActive := true, limitSide := s.limitSideOf m } ∧ (∀ k, k ≠ m → t.axis k = s.axis k)
        ∧ (leafAt t.leaves (0x24A0 + m) 0).isSome = true
        ∧ ({ s with motion := { s.motion with axes := t.motion.axes } } : State).Reports t)
  ∧ (∀ (s : State) (m : Nat), m < s.motion.axes.length → (s.axis m).state ≠ .limit → ∃ t, exec (.limitRelease m) s = .next t
        ∧ t.axis m = { s.axis m with limitActive := false, limitSide := none } ∧ (∀ k, k ≠ m → t.axis k = s.axis k)
        ∧ t = { s with motion := { s.motion with axes := t.motion.axes } })
  ∧ (∀ (s : State) (m : Nat), m < 8 → s.motion.axes.length = 8 → (s.axis m).state = .limit → ∃ t, exec (.limitRelease m) s = .next t
        ∧ (t.axis m).limitActive = false ∧ (t.axis m).state = .hold
        ∧ (∀ k, k ≠ m → k ∈ s.gang (s.leaderOf m) → (s.axis k).state = .limit → t.axis k = { s.axis k with state := .hold })
        ∧ (∀ k, k ≠ m → k ∉ s.gang (s.leaderOf m) → t.axis k = s.axis k) ∧ t = { s with motion := { s.motion with axes := t.motion.axes } })
  ∧ (∀ (s : State) (p : Path) (layer : Nat) (x : RecoatStep) (rest : List RecoatStep),
      s.Takes p (orElse (s.writeGate p 0x9080 2) (orElse (numberTest 0x9080 2 (leBytes 4 layer)) (refuseIf (!s.recoatAllowed layer) .conditions))) →
      s.motion.axes.length = 8 → recoatSteps (s.blob 0x9080 1) = x :: rest → s.moveResult x.axis (s.moveBy x.axis x.relative x.target) x.speed = 0 →
      x.axis < 8 → ∃ t, exec (.recoatStart p layer) s = .next t
        ∧ t.motion.recoat = { s.motion.recoat with state := .before, layer := layer, step := 0, valid := false }
        ∧ (∀ k ∈ s.gang x.axis, (t.axis k).state = .moving)
        ∧ ((t.axis x.axis).ramp.map (fun r => r.total)) = some (s.moveBy x.axis x.relative x.target).natAbs
        ∧ t = { s with
          motion := { s.motion with axes := t.motion.axes, recoat := t.motion.recoat }
          out := s.out ++ [.answer p 0 []] })
  ∧ (∀ (s : State) (p : Path) (layer : Nat),
      s.Takes p (orElse (s.writeGate p 0x9080 3) (orElse (numberTest 0x9080 3 (leBytes 4 layer))
        (refuseIf (!(s.recoatFree && decide (s.motion.recoat.reported ≤ layer))) .conditions))) →
      (∀ g ∈ s.job.segments, g.layer < layer → g.state ≠ .admitted ∧ g.state ≠ .staged) → ∃ t, exec (.manualReport p layer) s = .next t
        ∧ t.motion.recoat = { s.motion.recoat with reported := layer, valid := true, reportEt := s.et }
        ∧ (leafAt t.leaves 0x210B 24).isSome = true ∧ t.out.getLast? = some (.answer p 0 [])
        ∧ ({ s with motion := { s.motion with recoat := t.motion.recoat } } : State).Reports t)

/-- A quadrature change outside the window, its turn in its CLK_SYS cycle come (log entry 102), is accepted and
moves COUNT by one modulo 2^32 with its ET; the window's end with unchanged levels only ends it; an index latches
COUNT; a Hall state one place on moves COUNT by one. A probe event is recorded with every count and position at
its ET and read out oldest first. A write sets COUNT with DIRECTION undefined. A compare output is armed or
disarmed, and its pulse ends. (R503, R504, R505, R506, R507, R508, R509, R510, R522) -/
def Obligations.FeedbackCommandsComplete : Prop :=
  (∀ (s : State) (e levels : Nat), e < 8 → e < s.motion.encoders.length → s.reg (0x9060 + e) 1 = 0 → (s.encoder e).window = false →
      s.turn 10 = true →
      quadDelta (s.encoder e).accepted (levels % 4) ≠ 0 → ∃ t, exec (.encoderEdge e levels) s = .next t
        ∧ (t.encoder e).count = wrap32 ((s.encoder e).count + quadDelta (s.encoder e).accepted (levels % 4))
        ∧ (t.encoder e).accepted = levels % 4 ∧ (t.encoder e).window = true ∧ t.reg (0x9060 + e) 19 = s.et
        ∧ (∀ k, k ≠ e → t.encoder k = s.encoder k) ∧ t.dev = s.dev ∧ t.motion.probes = s.motion.probes ∧ t.clk = s.clk)
  ∧ (∀ (s : State) (e levels : Nat), e < 8 → (s.encoder e).window = true → levels % 4 = (s.encoder e).accepted →
      ∃ t, exec (.minEdgeExpiry e levels) s = .next t ∧ t.encoder e = { s.encoder e with window := false, levels := levels % 4 }
        ∧ (∀ k, k ≠ e → t.encoder k = s.encoder k) ∧ t = { s with motion := { s.motion with encoders := t.motion.encoders } })
  ∧ (∀ (s : State) (e : Nat), e < 8 → e < s.motion.encoders.length → s.reg (0x9060 + e) 1 = 0 → (s.encoder e).indexPrev = none →
      ∃ t, exec (.indexEdge e) s = .next t ∧ t.reg (0x9060 + e) 7 = (s.encoder e).count
        ∧ t.reg (0x9060 + e) 18 = counterNext (regKey (0x9060 + e) 18) (s.reg (0x9060 + e) 18) 1
        ∧ t.encoder e = { s.encoder e with indexPrev := some (s.encoder e).count } ∧ (∀ k, k ≠ e → t.encoder k = s.encoder k)
        ∧ s.KeepsRegs t [regKey (0x9060 + e) 7, regKey (0x9060 + e) 18]
        ∧ t = { s with regs := t.regs, motion := { s.motion with encoders := t.motion.encoders } })
  ∧ (∀ (s : State) (e v n o : Nat), e < 8 → e < s.motion.encoders.length → s.reg (0x9060 + e) 1 = 1 → hallPlace (v % 8) = some n →
      hallPlace (s.encoder e).accepted = some o → (n + 6 - o) % 6 = 1 ∨ (n + 6 - o) % 6 = 5 → ∃ t, exec (.hallStateChange e v) s = .next t
        ∧ (t.encoder e).count = wrap32 ((s.encoder e).count + (if (n + 6 - o) % 6 = 1 then 1 else -1))
        ∧ (t.encoder e).accepted = v % 8 ∧ t.reg (0x9060 + e) 17 = (v % 8 : Nat) ∧ t.reg (0x9060 + e) 19 = s.et
        ∧ (∀ k, k ≠ e → t.encoder k = s.encoder k) ∧ t.dev = s.dev ∧ t.motion.probes = s.motion.probes ∧ t.clk = s.clk)
  ∧ (∀ (s : State) (n : Nat), ∃ t, exec (.comparePulseEnd n) s = .next t
        ∧ (∀ c, s.motion.compares[n]? = some c → t.motion.compares[n]? = some { c with asserted := false })
        ∧ (∀ k, k ≠ n → t.motion.compares[k]? = s.motion.compares[k]?)
        ∧ t = { s with motion := { s.motion with compares := t.motion.compares } })
  ∧ (∀ (s : State) (n : Nat) (rising : Bool) (q : Probe), n < 4 → s.motion.probes[n]? = some q → probeSelects (s.regN (0x9090 + n) 1) rising = true →
      (q.queue.length < 16 → ∃ t, exec (.probeEdge n rising) s = .next t ∧ t.motion.probes[n]? = some ⟨q.queue
          ++ [⟨s.et, s.motion.encoders.map (fun e => e.count), s.motion.axes.map (fun x => x.position)⟩]⟩
        ∧ (∀ k, k ≠ n → t.motion.probes[k]? = s.motion.probes[k]?) ∧ t = { s with motion := { s.motion with probes := t.motion.probes } })
      ∧ (q.queue.length = 16 → ∃ t, exec (.probeEdge n rising) s = .next t ∧ (leafAt t.leaves 0x210B (16 + n)).isSome = true
        ∧ t.reg (0x9090 + n) 4 = counterNext (regKey (0x9090 + n) 4) (s.reg (0x9090 + n) 4) 1 ∧ s.ReportsWith t [regKey (0x9090 + n) 4]))
  ∧ (∀ (s : State) (p : Path) (n : Nat) (x : ProbeEvent) (rest : List ProbeEvent), s.Takes p (orElse (s.readGate (0x9090 + n) 3)
        (refuseIf (!s.runsMotion) .conditions)) → s.motion.probes[n]? = some ⟨x :: rest⟩ → ∃ t, exec (.probeEvent p n) s = .next t
        ∧ t.out = s.out ++ [.answer p 0 x.bytes] ∧ t.motion.probes[n]? = some ⟨rest⟩ ∧ (∀ k, k ≠ n → t.motion.probes[k]? = s.motion.probes[k]?)
        ∧ t = { s with motion := { s.motion with probes := t.motion.probes }, out := t.out })
  ∧ (∀ (s : State) (p : Path) (e : Nat) (v : Int), e < s.motion.encoders.length →
      s.Takes p (orElse (s.writeGate p (0x9060 + e) 6) (refuseIf (s.countHeld e) .conditions)) →
      ∃ t, exec (.encoderCount p e v) s = .next t ∧ t.encoder e = { s.encoder e with count := wrap32 v, direction := 0, dirRef := wrap32 v }
        ∧ (∀ k, k ≠ e → t.encoder k = s.encoder k)
        ∧ t = { s with motion := { s.motion with encoders := t.motion.encoders }, out := s.out ++ [.answer p 0 []] })
  ∧ (∀ (s : State) (p : Path) (n v : Nat) (c : Compare), v ≤ 1 → s.motion.compares[n]? = some c →
      s.Takes p (orElse (s.writeGate p (0x90A0 + n) 6) (numberTest (0x90A0 + n) 6 (leBytes 1 v))) →
      ∃ t, exec (.armCompare p n v) s = .next t ∧ t.motion.compares[n]? = some { c with
          armed := decide (v = 1), limited := if v = 1 then decide (s.reg (0x90A0 + n) 4 ≠ 0) else c.limited }
        ∧ (∀ k, k ≠ n → t.motion.compares[k]? = s.motion.compares[k]?)
        ∧ t = { s with motion := { s.motion with compares := t.motion.compares }, out := s.out ++ [.answer p 0 []] })

/-- A write of 1 to CONFIRM by a path that may write it makes the running slot the preferred one and TRIAL_STATE
0x04 when the device is in STANDBY and TRIAL_STATE is 0x02; in every other case it aborts with 0x0003_0003 and
changes nothing. (R630) -/
def Obligations.ConfirmEndsATrialInStandbyOnly : Prop :=
  ∀ (s : State) (p : Path), s.Takes p (s.writeGate p 0xB001 4) →
    (s.dev.state = .standby → s.images.current.trial = 2 → ∀ n, s.images.running = some n →
      ∃ t, exec (.confirm p 1) s = .next t ∧ t.images.current.preferred = n ∧ t.images.current.trial = 4
        ∧ t.images.slotA = s.images.slotA ∧ t.images.slotB = s.images.slotB ∧ t.images.running = s.images.running
        ∧ t.out.getLast? = some (.answer p 0 []) ∧ ({ s with images := t.images } : State).Reports t)
    ∧ (¬(s.dev.state = .standby ∧ s.images.current.trial = 2) → exec (.confirm p 1) s = .next (s.answer p 0x00030003 []))

/-- A chopping cycle that reaches ON_TIME_MAX, on a coil whose last 15 cycles or more did so, makes the axis
FAULTED with reason 0x03: neither coil is driven, no motion goes on, and HOMED is lost. With fewer such cycles
before it the axis is not FAULTED by it, and the count of the coil is one higher. (R491) -/
def Obligations.SixteenLongCyclesFaultTheAxis : Prop :=
  ∀ (s : State) (m t1 t2 : Nat) (coilB : Bool), m < 8 → s.motion.axes.length = 8 → (s.axis m).powered = true →
    s.cycleTarget m coilB ≠ 0 →
    (15 ≤ (if coilB = true then (s.axis m).coilB.runs else (s.axis m).coilA.runs) →
      ∃ t, exec (.chopCycle m coilB false t1 t2) s = .next t ∧ (t.axis m).state = .faulted ∧ t.reg (0x9040 + m) 7 = 3
        ∧ (t.axis m).running = false ∧ (t.axis m).ramp = none ∧ (t.axis m).homed = false ∧ (t.axis m).position = (s.axis m).position
        ∧ (leafAt t.leaves (0x24A0 + m) 1).isSome = true ∧ t.dev = s.dev)
    ∧ ((if coilB = true then (s.axis m).coilB.runs else (s.axis m).coilA.runs) < 15 →
      ∃ t, exec (.chopCycle m coilB false t1 t2) s = .next t ∧ (t.axis m).state = (s.axis m).state
        ∧ (if coilB = true then (t.axis m).coilB.runs = (s.axis m).coilB.runs + 1 else (t.axis m).coilA.runs = (s.axis m).coilA.runs + 1)
        ∧ (∀ k, k ≠ m → t.axis k = s.axis k) ∧ t.dev = s.dev)

/-- A JOB frame of the form that carries data, on the open job session of a served ring, its turn in its CLK_SYS
cycle come (log entry 102), with a JOB_OFFSET other than the count of bytes delivered, leaves the session closed
with LAST_CLOSE_REASON 0x02 and no reception in progress; no segment and no other session changes its place.
(R397) -/
def Obligations.WrongJobOffsetClosesTheSession : Prop :=
  ∀ (s : State) (n : Nat) (start more : Bool) (payload : List Byte), s.openRing n = true → s.ringServed = true → s.turn 7 = true →
    (s.session n).job = true →
    jobFormOk payload = true → leNat (payload.take 8) ≠ s.job.offset →
    ∃ t, exec (.job n start more payload) s = .next t ∧ t.session n = Session.closed ∧ t.reg 0x1031 5 = 2
      ∧ t.job.receiving = none ∧ t.job.segments = s.job.segments ∧ (∀ k, k ≠ n → (t.session k).isOpen = (s.session k).isOpen)
      ∧ (leafAt t.leaves 0x2108 3).isSome = true ∧ t.dev = s.dev ∧ s.KeepsRegs t [regKey 0x1031 5, regKey 0x3000 3]
end

