-- ==== Sys2Proof/Laws/State.lean ====
section
/-!
SUPPORT. The parts of the state: what a fold and a choice leave of a part, and, for every operation that is one record
update, the part it writes (`<operation>_<part>`) and the parts it leaves as they are (`frame_<operation>`).
-/
set_option linter.all false
namespace Sys2Proof.Machine

/-! ### Folds and choices -/

/-- A part of the state, named so that two states are compared before the part is taken. -/
def State.part {β : Type} (φ : State → β) (s : State) : β := φ s
@[simp] theorem State.part_eq {β : Type} (φ : State → β) (s : State) : s.part φ = φ s := by
  rw [State.part]
theorem foldl_keeps {α β : Type} (φ : State → β) {f : State → α → State} (h : ∀ t a, φ (f t a) = φ t) (l : List α) (s : State) :
    φ (l.foldl f s) = φ s := by
  induction l generalizing s with
  | nil => rfl
  | cons a l ih => simp only [List.foldl_cons, ih, h]
@[simp] theorem foldl_pending {α : Type} {f : State → α → State} (h : ∀ t a, (f t a).part State.pending = t.part State.pending) (l : List α) (s : State) : (l.foldl f s).pending = s.pending :=
  foldl_keeps State.pending h l s
@[simp] theorem ite_pending (c : Prop) [Decidable c] (a b : State) : (if c then a else b).pending = if c then a.pending else b.pending := by split <;> rfl
@[simp] theorem foldl_deferred {α : Type} {f : State → α → State} (h : ∀ t a, (f t a).part State.deferred = t.part State.deferred) (l : List α) (s : State) : (l.foldl f s).deferred = s.deferred :=
  foldl_keeps State.deferred h l s
@[simp] theorem ite_deferred (c : Prop) [Decidable c] (a b : State) : (if c then a else b).deferred = if c then a.deferred else b.deferred := by split <;> rfl
@[simp] theorem foldl_dev {α : Type} {f : State → α → State} (h : ∀ t a, (f t a).part State.dev = t.part State.dev) (l : List α) (s : State) : (l.foldl f s).dev = s.dev :=
  foldl_keeps State.dev h l s
@[simp] theorem ite_dev (c : Prop) [Decidable c] (a b : State) : (if c then a else b).dev = if c then a.dev else b.dev := by split <;> rfl
@[simp] theorem foldl_power {α : Type} {f : State → α → State} (h : ∀ t a, (f t a).part State.power = t.part State.power) (l : List α) (s : State) : (l.foldl f s).power = s.power :=
  foldl_keeps State.power h l s
@[simp] theorem ite_power (c : Prop) [Decidable c] (a b : State) : (if c then a else b).power = if c then a.power else b.power := by split <;> rfl
@[simp] theorem foldl_clk {α : Type} {f : State → α → State} (h : ∀ t a, (f t a).part State.clk = t.part State.clk) (l : List α) (s : State) : (l.foldl f s).clk = s.clk :=
  foldl_keeps State.clk h l s
@[simp] theorem ite_clk (c : Prop) [Decidable c] (a b : State) : (if c then a else b).clk = if c then a.clk else b.clk := by split <;> rfl
@[simp] theorem foldl_fuses {α : Type} {f : State → α → State} (h : ∀ t a, (f t a).part State.fuses = t.part State.fuses) (l : List α) (s : State) : (l.foldl f s).fuses = s.fuses :=
  foldl_keeps State.fuses h l s
@[simp] theorem ite_fuses (c : Prop) [Decidable c] (a b : State) : (if c then a else b).fuses = if c then a.fuses else b.fuses := by split <;> rfl
@[simp] theorem foldl_regs {α : Type} {f : State → α → State} (h : ∀ t a, (f t a).part State.regs = t.part State.regs) (l : List α) (s : State) : (l.foldl f s).regs = s.regs :=
  foldl_keeps State.regs h l s
@[simp] theorem ite_regs (c : Prop) [Decidable c] (a b : State) : (if c then a else b).regs = if c then a.regs else b.regs := by split <;> rfl
@[simp] theorem foldl_blobs {α : Type} {f : State → α → State} (h : ∀ t a, (f t a).part State.blobs = t.part State.blobs) (l : List α) (s : State) : (l.foldl f s).blobs = s.blobs :=
  foldl_keeps State.blobs h l s
@[simp] theorem ite_blobs (c : Prop) [Decidable c] (a b : State) : (if c then a else b).blobs = if c then a.blobs else b.blobs := by split <;> rfl
@[simp] theorem foldl_flash {α : Type} {f : State → α → State} (h : ∀ t a, (f t a).part State.flash = t.part State.flash) (l : List α) (s : State) : (l.foldl f s).flash = s.flash :=
  foldl_keeps State.flash h l s
@[simp] theorem ite_flash (c : Prop) [Decidable c] (a b : State) : (if c then a else b).flash = if c then a.flash else b.flash := by split <;> rfl
@[simp] theorem foldl_leaves {α : Type} {f : State → α → State} (h : ∀ t a, (f t a).part State.leaves = t.part State.leaves) (l : List α) (s : State) : (l.foldl f s).leaves = s.leaves :=
  foldl_keeps State.leaves h l s
@[simp] theorem ite_leaves (c : Prop) [Decidable c] (a b : State) : (if c then a else b).leaves = if c then a.leaves else b.leaves := by split <;> rfl
@[simp] theorem foldl_recorder {α : Type} {f : State → α → State} (h : ∀ t a, (f t a).part State.recorder = t.part State.recorder) (l : List α) (s : State) : (l.foldl f s).recorder = s.recorder :=
  foldl_keeps State.recorder h l s
@[simp] theorem ite_recorder (c : Prop) [Decidable c] (a b : State) : (if c then a else b).recorder = if c then a.recorder else b.recorder := by split <;> rfl
@[simp] theorem foldl_sessions {α : Type} {f : State → α → State} (h : ∀ t a, (f t a).part State.sessions = t.part State.sessions) (l : List α) (s : State) : (l.foldl f s).sessions = s.sessions :=
  foldl_keeps State.sessions h l s
@[simp] theorem ite_sessions (c : Prop) [Decidable c] (a b : State) : (if c then a else b).sessions = if c then a.sessions else b.sessions := by split <;> rfl
@[simp] theorem foldl_auth {α : Type} {f : State → α → State} (h : ∀ t a, (f t a).part State.auth = t.part State.auth) (l : List α) (s : State) : (l.foldl f s).auth = s.auth :=
  foldl_keeps State.auth h l s
@[simp] theorem ite_auth (c : Prop) [Decidable c] (a b : State) : (if c then a else b).auth = if c then a.auth else b.auth := by split <;> rfl
@[simp] theorem foldl_spi {α : Type} {f : State → α → State} (h : ∀ t a, (f t a).part State.spi = t.part State.spi) (l : List α) (s : State) : (l.foldl f s).spi = s.spi :=
  foldl_keeps State.spi h l s
@[simp] theorem ite_spi (c : Prop) [Decidable c] (a b : State) : (if c then a else b).spi = if c then a.spi else b.spi := by split <;> rfl
@[simp] theorem foldl_ring {α : Type} {f : State → α → State} (h : ∀ t a, (f t a).part State.ring = t.part State.ring) (l : List α) (s : State) : (l.foldl f s).ring = s.ring :=
  foldl_keeps State.ring h l s
@[simp] theorem ite_ring (c : Prop) [Decidable c] (a b : State) : (if c then a else b).ring = if c then a.ring else b.ring := by split <;> rfl
@[simp] theorem foldl_ownWaiting {α : Type} {f : State → α → State} (h : ∀ t a, (f t a).part State.ownWaiting = t.part State.ownWaiting) (l : List α) (s : State) : (l.foldl f s).ownWaiting = s.ownWaiting :=
  foldl_keeps State.ownWaiting h l s
@[simp] theorem ite_ownWaiting (c : Prop) [Decidable c] (a b : State) : (if c then a else b).ownWaiting = if c then a.ownWaiting else b.ownWaiting := by split <;> rfl
@[simp] theorem foldl_out {α : Type} {f : State → α → State} (h : ∀ t a, (f t a).part State.out = t.part State.out) (l : List α) (s : State) : (l.foldl f s).out = s.out :=
  foldl_keeps State.out h l s
@[simp] theorem ite_out (c : Prop) [Decidable c] (a b : State) : (if c then a else b).out = if c then a.out else b.out := by split <;> rfl
@[simp] theorem foldl_job {α : Type} {f : State → α → State} (h : ∀ t a, (f t a).part State.job = t.part State.job) (l : List α) (s : State) : (l.foldl f s).job = s.job :=
  foldl_keeps State.job h l s
@[simp] theorem ite_job (c : Prop) [Decidable c] (a b : State) : (if c then a else b).job = if c then a.job else b.job := by split <;> rfl
@[simp] theorem foldl_heads {α : Type} {f : State → α → State} (h : ∀ t a, (f t a).part State.heads = t.part State.heads) (l : List α) (s : State) : (l.foldl f s).heads = s.heads :=
  foldl_keeps State.heads h l s
@[simp] theorem ite_heads (c : Prop) [Decidable c] (a b : State) : (if c then a else b).heads = if c then a.heads else b.heads := by split <;> rfl
@[simp] theorem foldl_sieve {α : Type} {f : State → α → State} (h : ∀ t a, (f t a).part State.sieve = t.part State.sieve) (l : List α) (s : State) : (l.foldl f s).sieve = s.sieve :=
  foldl_keeps State.sieve h l s
@[simp] theorem ite_sieve (c : Prop) [Decidable c] (a b : State) : (if c then a else b).sieve = if c then a.sieve else b.sieve := by split <;> rfl
@[simp] theorem foldl_engine {α : Type} {f : State → α → State} (h : ∀ t a, (f t a).part State.engine = t.part State.engine) (l : List α) (s : State) : (l.foldl f s).engine = s.engine :=
  foldl_keeps State.engine h l s
@[simp] theorem ite_engine (c : Prop) [Decidable c] (a b : State) : (if c then a else b).engine = if c then a.engine else b.engine := by split <;> rfl
@[simp] theorem foldl_time {α : Type} {f : State → α → State} (h : ∀ t a, (f t a).part State.time = t.part State.time) (l : List α) (s : State) : (l.foldl f s).time = s.time :=
  foldl_keeps State.time h l s
@[simp] theorem ite_time (c : Prop) [Decidable c] (a b : State) : (if c then a else b).time = if c then a.time else b.time := by split <;> rfl
@[simp] theorem foldl_twin {α : Type} {f : State → α → State} (h : ∀ t a, (f t a).part State.twin = t.part State.twin) (l : List α) (s : State) : (l.foldl f s).twin = s.twin :=
  foldl_keeps State.twin h l s
@[simp] theorem ite_twin (c : Prop) [Decidable c] (a b : State) : (if c then a else b).twin = if c then a.twin else b.twin := by split <;> rfl
@[simp] theorem foldl_motion {α : Type} {f : State → α → State} (h : ∀ t a, (f t a).part State.motion = t.part State.motion) (l : List α) (s : State) : (l.foldl f s).motion = s.motion :=
  foldl_keeps State.motion h l s
@[simp] theorem ite_motion (c : Prop) [Decidable c] (a b : State) : (if c then a else b).motion = if c then a.motion else b.motion := by split <;> rfl
@[simp] theorem foldl_dram {α : Type} {f : State → α → State} (h : ∀ t a, (f t a).part State.dram = t.part State.dram) (l : List α) (s : State) : (l.foldl f s).dram = s.dram :=
  foldl_keeps State.dram h l s
@[simp] theorem ite_dram (c : Prop) [Decidable c] (a b : State) : (if c then a else b).dram = if c then a.dram else b.dram := by split <;> rfl
@[simp] theorem foldl_clocks {α : Type} {f : State → α → State} (h : ∀ t a, (f t a).part State.clocks = t.part State.clocks) (l : List α) (s : State) : (l.foldl f s).clocks = s.clocks :=
  foldl_keeps State.clocks h l s
@[simp] theorem ite_clocks (c : Prop) [Decidable c] (a b : State) : (if c then a else b).clocks = if c then a.clocks else b.clocks := by split <;> rfl
@[simp] theorem foldl_thermal {α : Type} {f : State → α → State} (h : ∀ t a, (f t a).part State.thermal = t.part State.thermal) (l : List α) (s : State) : (l.foldl f s).thermal = s.thermal :=
  foldl_keeps State.thermal h l s
@[simp] theorem ite_thermal (c : Prop) [Decidable c] (a b : State) : (if c then a else b).thermal = if c then a.thermal else b.thermal := by split <;> rfl
@[simp] theorem foldl_images {α : Type} {f : State → α → State} (h : ∀ t a, (f t a).part State.images = t.part State.images) (l : List α) (s : State) : (l.foldl f s).images = s.images :=
  foldl_keeps State.images h l s
@[simp] theorem ite_images (c : Prop) [Decidable c] (a b : State) : (if c then a else b).images = if c then a.images else b.images := by split <;> rfl
@[simp] theorem foldl_tap {α : Type} {f : State → α → State} (h : ∀ t a, (f t a).part State.tap = t.part State.tap) (l : List α) (s : State) : (l.foldl f s).tap = s.tap :=
  foldl_keeps State.tap h l s
@[simp] theorem ite_tap (c : Prop) [Decidable c] (a b : State) : (if c then a else b).tap = if c then a.tap else b.tap := by split <;> rfl
@[simp] theorem foldl_fresh {α : Type} {f : State → α → State} (h : ∀ t a, (f t a).part State.fresh = t.part State.fresh) (l : List α) (s : State) : (l.foldl f s).fresh = s.fresh :=
  foldl_keeps State.fresh h l s
@[simp] theorem ite_fresh (c : Prop) [Decidable c] (a b : State) : (if c then a else b).fresh = if c then a.fresh else b.fresh := by split <;> rfl

/-! ### Record updates -/

@[simp] theorem frame_setReg (s : State) (index sub : Nat) (v : Int) : (s.setReg index sub v).pending = s.pending ∧
    (s.setReg index sub v).deferred = s.deferred ∧ (s.setReg index sub v).dev = s.dev ∧
    (s.setReg index sub v).power = s.power ∧ (s.setReg index sub v).clk = s.clk ∧
    (s.setReg index sub v).fuses = s.fuses ∧ (s.setReg index sub v).blobs = s.blobs ∧
    (s.setReg index sub v).flash = s.flash ∧ (s.setReg index sub v).leaves = s.leaves ∧
    (s.setReg index sub v).recorder = s.recorder ∧ (s.setReg index sub v).sessions = s.sessions ∧
    (s.setReg index sub v).auth = s.auth ∧ (s.setReg index sub v).spi = s.spi ∧ (s.setReg index sub v).ring = s.ring ∧
    (s.setReg index sub v).ownWaiting = s.ownWaiting ∧ (s.setReg index sub v).out = s.out ∧
    (s.setReg index sub v).job = s.job ∧ (s.setReg index sub v).heads = s.heads ∧
    (s.setReg index sub v).sieve = s.sieve ∧ (s.setReg index sub v).engine = s.engine ∧
    (s.setReg index sub v).time = s.time ∧ (s.setReg index sub v).twin = s.twin ∧
    (s.setReg index sub v).motion = s.motion ∧ (s.setReg index sub v).dram = s.dram ∧
    (s.setReg index sub v).clocks = s.clocks ∧ (s.setReg index sub v).thermal = s.thermal ∧
    (s.setReg index sub v).images = s.images ∧ (s.setReg index sub v).tap = s.tap ∧
    (s.setReg index sub v).fresh = s.fresh :=
  ⟨rfl, rfl, rfl, rfl, rfl, rfl, rfl, rfl, rfl, rfl, rfl, rfl, rfl, rfl, rfl, rfl, rfl, rfl, rfl, rfl, rfl, rfl, rfl, rfl, rfl, rfl, rfl, rfl, rfl⟩
theorem setReg_regs (s : State) (index sub : Nat) (v : Int) : (s.setReg index sub v).regs = regsPut (regKey index sub) v s.regs := rfl

@[simp] theorem frame_setBlob (s : State) (index sub : Nat) (v : List Byte) : (s.setBlob index sub v).pending = s.pending ∧
    (s.setBlob index sub v).deferred = s.deferred ∧ (s.setBlob index sub v).dev = s.dev ∧
    (s.setBlob index sub v).power = s.power ∧ (s.setBlob index sub v).clk = s.clk ∧
    (s.setBlob index sub v).fuses = s.fuses ∧ (s.setBlob index sub v).regs = s.regs ∧
    (s.setBlob index sub v).flash = s.flash ∧ (s.setBlob index sub v).leaves = s.leaves ∧
    (s.setBlob index sub v).recorder = s.recorder ∧ (s.setBlob index sub v).sessions = s.sessions ∧
    (s.setBlob index sub v).auth = s.auth ∧ (s.setBlob index sub v).spi = s.spi ∧
    (s.setBlob index sub v).ring = s.ring ∧ (s.setBlob index sub v).ownWaiting = s.ownWaiting ∧
    (s.setBlob index sub v).out = s.out ∧ (s.setBlob index sub v).job = s.job ∧
    (s.setBlob index sub v).heads = s.heads ∧ (s.setBlob index sub v).sieve = s.sieve ∧
    (s.setBlob index sub v).engine = s.engine ∧ (s.setBlob index sub v).time = s.time ∧
    (s.setBlob index sub v).twin = s.twin ∧ (s.setBlob index sub v).motion = s.motion ∧
    (s.setBlob index sub v).dram = s.dram ∧ (s.setBlob index sub v).clocks = s.clocks ∧
    (s.setBlob index sub v).thermal = s.thermal ∧ (s.setBlob index sub v).images = s.images ∧
    (s.setBlob index sub v).tap = s.tap ∧ (s.setBlob index sub v).fresh = s.fresh :=
  ⟨rfl, rfl, rfl, rfl, rfl, rfl, rfl, rfl, rfl, rfl, rfl, rfl, rfl, rfl, rfl, rfl, rfl, rfl, rfl, rfl, rfl, rfl, rfl, rfl, rfl, rfl, rfl, rfl, rfl⟩
theorem setBlob_blobs (s : State) (index sub : Nat) (v : List Byte) : (s.setBlob index sub v).blobs = blobsPut (regKey index sub) v s.blobs := rfl

@[simp] theorem frame_setSession (s : State) (n : Nat) (x : Session) : (s.setSession n x).pending = s.pending ∧
    (s.setSession n x).deferred = s.deferred ∧ (s.setSession n x).dev = s.dev ∧ (s.setSession n x).power = s.power ∧
    (s.setSession n x).clk = s.clk ∧ (s.setSession n x).fuses = s.fuses ∧ (s.setSession n x).regs = s.regs ∧
    (s.setSession n x).blobs = s.blobs ∧ (s.setSession n x).flash = s.flash ∧ (s.setSession n x).leaves = s.leaves ∧
    (s.setSession n x).recorder = s.recorder ∧ (s.setSession n x).auth = s.auth ∧ (s.setSession n x).spi = s.spi ∧
    (s.setSession n x).ring = s.ring ∧ (s.setSession n x).ownWaiting = s.ownWaiting ∧ (s.setSession n x).out = s.out ∧
    (s.setSession n x).job = s.job ∧ (s.setSession n x).heads = s.heads ∧ (s.setSession n x).sieve = s.sieve ∧
    (s.setSession n x).engine = s.engine ∧ (s.setSession n x).time = s.time ∧ (s.setSession n x).twin = s.twin ∧
    (s.setSession n x).motion = s.motion ∧ (s.setSession n x).dram = s.dram ∧ (s.setSession n x).clocks = s.clocks ∧
    (s.setSession n x).thermal = s.thermal ∧ (s.setSession n x).images = s.images ∧ (s.setSession n x).tap = s.tap ∧
    (s.setSession n x).fresh = s.fresh :=
  ⟨rfl, rfl, rfl, rfl, rfl, rfl, rfl, rfl, rfl, rfl, rfl, rfl, rfl, rfl, rfl, rfl, rfl, rfl, rfl, rfl, rfl, rfl, rfl, rfl, rfl, rfl, rfl, rfl, rfl⟩
theorem setSession_sessions (s : State) (n : Nat) (x : Session) : (s.setSession n x).sessions = s.sessions.set n x := rfl

@[simp] theorem frame_answer (s : State) (p : Path) (abort : Nat) (data : List Byte) : (s.answer p abort data).pending = s.pending ∧
    (s.answer p abort data).deferred = s.deferred ∧ (s.answer p abort data).dev = s.dev ∧
    (s.answer p abort data).power = s.power ∧ (s.answer p abort data).clk = s.clk ∧
    (s.answer p abort data).fuses = s.fuses ∧ (s.answer p abort data).regs = s.regs ∧
    (s.answer p abort data).blobs = s.blobs ∧ (s.answer p abort data).flash = s.flash ∧
    (s.answer p abort data).leaves = s.leaves ∧ (s.answer p abort data).recorder = s.recorder ∧
    (s.answer p abort data).sessions = s.sessions ∧ (s.answer p abort data).auth = s.auth ∧
    (s.answer p abort data).spi = s.spi ∧ (s.answer p abort data).ring = s.ring ∧
    (s.answer p abort data).ownWaiting = s.ownWaiting ∧ (s.answer p abort data).job = s.job ∧
    (s.answer p abort data).heads = s.heads ∧ (s.answer p abort data).sieve = s.sieve ∧
    (s.answer p abort data).engine = s.engine ∧ (s.answer p abort data).time = s.time ∧
    (s.answer p abort data).twin = s.twin ∧ (s.answer p abort data).motion = s.motion ∧
    (s.answer p abort data).dram = s.dram ∧ (s.answer p abort data).clocks = s.clocks ∧
    (s.answer p abort data).thermal = s.thermal ∧ (s.answer p abort data).images = s.images ∧
    (s.answer p abort data).tap = s.tap ∧ (s.answer p abort data).fresh = s.fresh :=
  ⟨rfl, rfl, rfl, rfl, rfl, rfl, rfl, rfl, rfl, rfl, rfl, rfl, rfl, rfl, rfl, rfl, rfl, rfl, rfl, rfl, rfl, rfl, rfl, rfl, rfl, rfl, rfl, rfl, rfl⟩
theorem answer_out (s : State) (p : Path) (abort : Nat) (data : List Byte) : (s.answer p abort data).out = s.out ++ [Out.answer p abort data] := rfl

@[simp] theorem frame_beginStore (s : State) : (s.beginStore).pending = s.pending ∧
    (s.beginStore).deferred = s.deferred ∧ (s.beginStore).dev = s.dev ∧ (s.beginStore).power = s.power ∧
    (s.beginStore).clk = s.clk ∧ (s.beginStore).fuses = s.fuses ∧ (s.beginStore).regs = s.regs ∧
    (s.beginStore).blobs = s.blobs ∧ (s.beginStore).leaves = s.leaves ∧ (s.beginStore).recorder = s.recorder ∧
    (s.beginStore).sessions = s.sessions ∧ (s.beginStore).auth = s.auth ∧ (s.beginStore).spi = s.spi ∧
    (s.beginStore).ring = s.ring ∧ (s.beginStore).ownWaiting = s.ownWaiting ∧ (s.beginStore).out = s.out ∧
    (s.beginStore).job = s.job ∧ (s.beginStore).heads = s.heads ∧ (s.beginStore).sieve = s.sieve ∧
    (s.beginStore).engine = s.engine ∧ (s.beginStore).time = s.time ∧ (s.beginStore).twin = s.twin ∧
    (s.beginStore).motion = s.motion ∧ (s.beginStore).dram = s.dram ∧ (s.beginStore).clocks = s.clocks ∧
    (s.beginStore).thermal = s.thermal ∧ (s.beginStore).images = s.images ∧ (s.beginStore).tap = s.tap ∧
    (s.beginStore).fresh = s.fresh :=
  ⟨rfl, rfl, rfl, rfl, rfl, rfl, rfl, rfl, rfl, rfl, rfl, rfl, rfl, rfl, rfl, rfl, rfl, rfl, rfl, rfl, rfl, rfl, rfl, rfl, rfl, rfl, rfl, rfl, rfl⟩
theorem beginStore_flash (s : State) : (s.beginStore).flash = { s.flash with writing := some (persistentOf s.regs, persistentOf s.blobs), result := 1 } := rfl

@[simp] theorem frame_eraseStored (s : State) : (s.eraseStored).pending = s.pending ∧
    (s.eraseStored).deferred = s.deferred ∧ (s.eraseStored).dev = s.dev ∧ (s.eraseStored).power = s.power ∧
    (s.eraseStored).clk = s.clk ∧ (s.eraseStored).fuses = s.fuses ∧ (s.eraseStored).regs = s.regs ∧
    (s.eraseStored).blobs = s.blobs ∧ (s.eraseStored).leaves = s.leaves ∧ (s.eraseStored).recorder = s.recorder ∧
    (s.eraseStored).sessions = s.sessions ∧ (s.eraseStored).auth = s.auth ∧ (s.eraseStored).spi = s.spi ∧
    (s.eraseStored).ring = s.ring ∧ (s.eraseStored).ownWaiting = s.ownWaiting ∧ (s.eraseStored).out = s.out ∧
    (s.eraseStored).job = s.job ∧ (s.eraseStored).heads = s.heads ∧ (s.eraseStored).sieve = s.sieve ∧
    (s.eraseStored).engine = s.engine ∧ (s.eraseStored).time = s.time ∧ (s.eraseStored).twin = s.twin ∧
    (s.eraseStored).motion = s.motion ∧ (s.eraseStored).dram = s.dram ∧ (s.eraseStored).clocks = s.clocks ∧
    (s.eraseStored).thermal = s.thermal ∧ (s.eraseStored).images = s.images ∧ (s.eraseStored).tap = s.tap ∧
    (s.eraseStored).fresh = s.fresh :=
  ⟨rfl, rfl, rfl, rfl, rfl, rfl, rfl, rfl, rfl, rfl, rfl, rfl, rfl, rfl, rfl, rfl, rfl, rfl, rfl, rfl, rfl, rfl, rfl, rfl, rfl, rfl, rfl, rfl, rfl⟩
theorem eraseStored_flash (s : State) : (s.eraseStored).flash = { s.flash with regs := [], blobs := [] } := rfl

@[simp] theorem frame_onChannel (s : State) (ch : Nat) (f : DramChannel → DramChannel) : (s.onChannel ch f).pending = s.pending ∧
    (s.onChannel ch f).deferred = s.deferred ∧ (s.onChannel ch f).dev = s.dev ∧ (s.onChannel ch f).power = s.power ∧
    (s.onChannel ch f).clk = s.clk ∧ (s.onChannel ch f).fuses = s.fuses ∧ (s.onChannel ch f).regs = s.regs ∧
    (s.onChannel ch f).blobs = s.blobs ∧ (s.onChannel ch f).flash = s.flash ∧ (s.onChannel ch f).leaves = s.leaves ∧
    (s.onChannel ch f).recorder = s.recorder ∧ (s.onChannel ch f).sessions = s.sessions ∧
    (s.onChannel ch f).auth = s.auth ∧ (s.onChannel ch f).spi = s.spi ∧ (s.onChannel ch f).ring = s.ring ∧
    (s.onChannel ch f).ownWaiting = s.ownWaiting ∧ (s.onChannel ch f).out = s.out ∧ (s.onChannel ch f).job = s.job ∧
    (s.onChannel ch f).heads = s.heads ∧ (s.onChannel ch f).sieve = s.sieve ∧ (s.onChannel ch f).engine = s.engine ∧
    (s.onChannel ch f).time = s.time ∧ (s.onChannel ch f).twin = s.twin ∧ (s.onChannel ch f).motion = s.motion ∧
    (s.onChannel ch f).clocks = s.clocks ∧ (s.onChannel ch f).thermal = s.thermal ∧
    (s.onChannel ch f).images = s.images ∧ (s.onChannel ch f).tap = s.tap ∧ (s.onChannel ch f).fresh = s.fresh :=
  ⟨rfl, rfl, rfl, rfl, rfl, rfl, rfl, rfl, rfl, rfl, rfl, rfl, rfl, rfl, rfl, rfl, rfl, rfl, rfl, rfl, rfl, rfl, rfl, rfl, rfl, rfl, rfl, rfl, rfl⟩
theorem onChannel_dram (s : State) (ch : Nat) (f : DramChannel → DramChannel) : (s.onChannel ch f).dram = { s.dram with channels := s.dram.channels.modify ch f } := rfl

@[simp] theorem frame_onHead (s : State) (h : HeadNo) (f : Head → Head) : (s.onHead h f).pending = s.pending ∧
    (s.onHead h f).deferred = s.deferred ∧ (s.onHead h f).dev = s.dev ∧ (s.onHead h f).power = s.power ∧
    (s.onHead h f).clk = s.clk ∧ (s.onHead h f).fuses = s.fuses ∧ (s.onHead h f).regs = s.regs ∧
    (s.onHead h f).blobs = s.blobs ∧ (s.onHead h f).flash = s.flash ∧ (s.onHead h f).leaves = s.leaves ∧
    (s.onHead h f).recorder = s.recorder ∧ (s.onHead h f).sessions = s.sessions ∧ (s.onHead h f).auth = s.auth ∧
    (s.onHead h f).spi = s.spi ∧ (s.onHead h f).ring = s.ring ∧ (s.onHead h f).ownWaiting = s.ownWaiting ∧
    (s.onHead h f).out = s.out ∧ (s.onHead h f).job = s.job ∧ (s.onHead h f).sieve = s.sieve ∧
    (s.onHead h f).engine = s.engine ∧ (s.onHead h f).time = s.time ∧ (s.onHead h f).twin = s.twin ∧
    (s.onHead h f).motion = s.motion ∧ (s.onHead h f).dram = s.dram ∧ (s.onHead h f).clocks = s.clocks ∧
    (s.onHead h f).thermal = s.thermal ∧ (s.onHead h f).images = s.images ∧ (s.onHead h f).tap = s.tap ∧
    (s.onHead h f).fresh = s.fresh :=
  ⟨rfl, rfl, rfl, rfl, rfl, rfl, rfl, rfl, rfl, rfl, rfl, rfl, rfl, rfl, rfl, rfl, rfl, rfl, rfl, rfl, rfl, rfl, rfl, rfl, rfl, rfl, rfl, rfl, rfl⟩
theorem onHead_heads (s : State) (h : HeadNo) (f : Head → Head) : (s.onHead h f).heads = s.heads.modify h f := rfl

@[simp] theorem frame_onSeg (s : State) (key : Nat) (f : Segment → Segment) : (s.onSeg key f).pending = s.pending ∧
    (s.onSeg key f).deferred = s.deferred ∧ (s.onSeg key f).dev = s.dev ∧ (s.onSeg key f).power = s.power ∧
    (s.onSeg key f).clk = s.clk ∧ (s.onSeg key f).fuses = s.fuses ∧ (s.onSeg key f).regs = s.regs ∧
    (s.onSeg key f).blobs = s.blobs ∧ (s.onSeg key f).flash = s.flash ∧ (s.onSeg key f).leaves = s.leaves ∧
    (s.onSeg key f).recorder = s.recorder ∧ (s.onSeg key f).sessions = s.sessions ∧ (s.onSeg key f).auth = s.auth ∧
    (s.onSeg key f).spi = s.spi ∧ (s.onSeg key f).ring = s.ring ∧ (s.onSeg key f).ownWaiting = s.ownWaiting ∧
    (s.onSeg key f).out = s.out ∧ (s.onSeg key f).heads = s.heads ∧ (s.onSeg key f).sieve = s.sieve ∧
    (s.onSeg key f).engine = s.engine ∧ (s.onSeg key f).time = s.time ∧ (s.onSeg key f).twin = s.twin ∧
    (s.onSeg key f).motion = s.motion ∧ (s.onSeg key f).dram = s.dram ∧ (s.onSeg key f).clocks = s.clocks ∧
    (s.onSeg key f).thermal = s.thermal ∧ (s.onSeg key f).images = s.images ∧ (s.onSeg key f).tap = s.tap ∧
    (s.onSeg key f).fresh = s.fresh :=
  ⟨rfl, rfl, rfl, rfl, rfl, rfl, rfl, rfl, rfl, rfl, rfl, rfl, rfl, rfl, rfl, rfl, rfl, rfl, rfl, rfl, rfl, rfl, rfl, rfl, rfl, rfl, rfl, rfl, rfl⟩
theorem onSeg_job (s : State) (key : Nat) (f : Segment → Segment) : (s.onSeg key f).job = { s.job with segments := s.job.segments.map (fun g => if g.key = key then f g else g) } := rfl

@[simp] theorem frame_release (s : State) (key : Nat) : (s.release key).pending = s.pending ∧
    (s.release key).deferred = s.deferred ∧ (s.release key).dev = s.dev ∧ (s.release key).power = s.power ∧
    (s.release key).clk = s.clk ∧ (s.release key).fuses = s.fuses ∧ (s.release key).regs = s.regs ∧
    (s.release key).blobs = s.blobs ∧ (s.release key).flash = s.flash ∧ (s.release key).leaves = s.leaves ∧
    (s.release key).recorder = s.recorder ∧ (s.release key).sessions = s.sessions ∧ (s.release key).auth = s.auth ∧
    (s.release key).spi = s.spi ∧ (s.release key).ring = s.ring ∧ (s.release key).ownWaiting = s.ownWaiting ∧
    (s.release key).out = s.out ∧ (s.release key).heads = s.heads ∧ (s.release key).sieve = s.sieve ∧
    (s.release key).engine = s.engine ∧ (s.release key).time = s.time ∧ (s.release key).twin = s.twin ∧
    (s.release key).motion = s.motion ∧ (s.release key).dram = s.dram ∧ (s.release key).clocks = s.clocks ∧
    (s.release key).thermal = s.thermal ∧ (s.release key).images = s.images ∧ (s.release key).tap = s.tap ∧
    (s.release key).fresh = s.fresh :=
  ⟨rfl, rfl, rfl, rfl, rfl, rfl, rfl, rfl, rfl, rfl, rfl, rfl, rfl, rfl, rfl, rfl, rfl, rfl, rfl, rfl, rfl, rfl, rfl, rfl, rfl, rfl, rfl, rfl, rfl⟩
theorem release_job (s : State) (key : Nat) : (s.release key).job = { s.job with segments := s.job.segments.filter (fun g => decide (g.key ≠ key)) } := rfl

@[simp] theorem frame_drawn (s : State) : (s.drawn).pending = s.pending ∧ (s.drawn).deferred = s.deferred ∧
    (s.drawn).dev = s.dev ∧ (s.drawn).power = s.power ∧ (s.drawn).clk = s.clk ∧ (s.drawn).fuses = s.fuses ∧
    (s.drawn).regs = s.regs ∧ (s.drawn).blobs = s.blobs ∧ (s.drawn).flash = s.flash ∧ (s.drawn).leaves = s.leaves ∧
    (s.drawn).recorder = s.recorder ∧ (s.drawn).sessions = s.sessions ∧ (s.drawn).auth = s.auth ∧
    (s.drawn).spi = s.spi ∧ (s.drawn).ring = s.ring ∧ (s.drawn).ownWaiting = s.ownWaiting ∧ (s.drawn).out = s.out ∧
    (s.drawn).job = s.job ∧ (s.drawn).heads = s.heads ∧ (s.drawn).sieve = s.sieve ∧ (s.drawn).engine = s.engine ∧
    (s.drawn).time = s.time ∧ (s.drawn).twin = s.twin ∧ (s.drawn).motion = s.motion ∧ (s.drawn).dram = s.dram ∧
    (s.drawn).clocks = s.clocks ∧ (s.drawn).thermal = s.thermal ∧ (s.drawn).images = s.images ∧
    (s.drawn).tap = s.tap :=
  ⟨rfl, rfl, rfl, rfl, rfl, rfl, rfl, rfl, rfl, rfl, rfl, rfl, rfl, rfl, rfl, rfl, rfl, rfl, rfl, rfl, rfl, rfl, rfl, rfl, rfl, rfl, rfl, rfl, rfl⟩
theorem drawn_fresh (s : State) : (s.drawn).fresh = s.fresh + 1 := rfl

@[simp] theorem frame_onAxis (s : State) (m : Nat) (f : Axis → Axis) : (s.onAxis m f).pending = s.pending ∧
    (s.onAxis m f).deferred = s.deferred ∧ (s.onAxis m f).dev = s.dev ∧ (s.onAxis m f).power = s.power ∧
    (s.onAxis m f).clk = s.clk ∧ (s.onAxis m f).fuses = s.fuses ∧ (s.onAxis m f).regs = s.regs ∧
    (s.onAxis m f).blobs = s.blobs ∧ (s.onAxis m f).flash = s.flash ∧ (s.onAxis m f).leaves = s.leaves ∧
    (s.onAxis m f).recorder = s.recorder ∧ (s.onAxis m f).sessions = s.sessions ∧ (s.onAxis m f).auth = s.auth ∧
    (s.onAxis m f).spi = s.spi ∧ (s.onAxis m f).ring = s.ring ∧ (s.onAxis m f).ownWaiting = s.ownWaiting ∧
    (s.onAxis m f).out = s.out ∧ (s.onAxis m f).job = s.job ∧ (s.onAxis m f).heads = s.heads ∧
    (s.onAxis m f).sieve = s.sieve ∧ (s.onAxis m f).engine = s.engine ∧ (s.onAxis m f).time = s.time ∧
    (s.onAxis m f).twin = s.twin ∧ (s.onAxis m f).dram = s.dram ∧ (s.onAxis m f).clocks = s.clocks ∧
    (s.onAxis m f).thermal = s.thermal ∧ (s.onAxis m f).images = s.images ∧ (s.onAxis m f).tap = s.tap ∧
    (s.onAxis m f).fresh = s.fresh :=
  ⟨rfl, rfl, rfl, rfl, rfl, rfl, rfl, rfl, rfl, rfl, rfl, rfl, rfl, rfl, rfl, rfl, rfl, rfl, rfl, rfl, rfl, rfl, rfl, rfl, rfl, rfl, rfl, rfl, rfl⟩
theorem onAxis_motion (s : State) (m : Nat) (f : Axis → Axis) : (s.onAxis m f).motion = { s.motion with axes := s.motion.axes.modify m f } := rfl

@[simp] theorem frame_flushHeads (s : State) : (s.flushHeads).pending = s.pending ∧
    (s.flushHeads).deferred = s.deferred ∧ (s.flushHeads).dev = s.dev ∧ (s.flushHeads).power = s.power ∧
    (s.flushHeads).clk = s.clk ∧ (s.flushHeads).fuses = s.fuses ∧ (s.flushHeads).regs = s.regs ∧
    (s.flushHeads).blobs = s.blobs ∧ (s.flushHeads).flash = s.flash ∧ (s.flushHeads).leaves = s.leaves ∧
    (s.flushHeads).recorder = s.recorder ∧ (s.flushHeads).sessions = s.sessions ∧ (s.flushHeads).auth = s.auth ∧
    (s.flushHeads).spi = s.spi ∧ (s.flushHeads).ring = s.ring ∧ (s.flushHeads).ownWaiting = s.ownWaiting ∧
    (s.flushHeads).out = s.out ∧ (s.flushHeads).job = s.job ∧ (s.flushHeads).sieve = s.sieve ∧
    (s.flushHeads).engine = s.engine ∧ (s.flushHeads).time = s.time ∧ (s.flushHeads).twin = s.twin ∧
    (s.flushHeads).motion = s.motion ∧ (s.flushHeads).dram = s.dram ∧ (s.flushHeads).clocks = s.clocks ∧
    (s.flushHeads).thermal = s.thermal ∧ (s.flushHeads).images = s.images ∧ (s.flushHeads).tap = s.tap ∧
    (s.flushHeads).fresh = s.fresh :=
  ⟨rfl, rfl, rfl, rfl, rfl, rfl, rfl, rfl, rfl, rfl, rfl, rfl, rfl, rfl, rfl, rfl, rfl, rfl, rfl, rfl, rfl, rfl, rfl, rfl, rfl, rfl, rfl, rfl, rfl⟩
theorem flushHeads_heads (s : State) : (s.flushHeads).heads = s.heads.map (fun x => { x with path := { x.path.stopped s.et with seg := x.path.seg } }) := rfl

@[simp] theorem frame_raiseBypass (s : State) : (s.raiseBypass).pending = s.pending ∧
    (s.raiseBypass).deferred = s.deferred ∧ (s.raiseBypass).dev = s.dev ∧ (s.raiseBypass).power = s.power ∧
    (s.raiseBypass).clk = s.clk ∧ (s.raiseBypass).fuses = s.fuses ∧ (s.raiseBypass).regs = s.regs ∧
    (s.raiseBypass).blobs = s.blobs ∧ (s.raiseBypass).flash = s.flash ∧ (s.raiseBypass).leaves = s.leaves ∧
    (s.raiseBypass).recorder = s.recorder ∧ (s.raiseBypass).sessions = s.sessions ∧ (s.raiseBypass).auth = s.auth ∧
    (s.raiseBypass).spi = s.spi ∧ (s.raiseBypass).ownWaiting = s.ownWaiting ∧ (s.raiseBypass).out = s.out ∧
    (s.raiseBypass).job = s.job ∧ (s.raiseBypass).heads = s.heads ∧ (s.raiseBypass).sieve = s.sieve ∧
    (s.raiseBypass).engine = s.engine ∧ (s.raiseBypass).time = s.time ∧ (s.raiseBypass).twin = s.twin ∧
    (s.raiseBypass).motion = s.motion ∧ (s.raiseBypass).dram = s.dram ∧ (s.raiseBypass).clocks = s.clocks ∧
    (s.raiseBypass).thermal = s.thermal ∧ (s.raiseBypass).images = s.images ∧ (s.raiseBypass).tap = s.tap ∧
    (s.raiseBypass).fresh = s.fresh :=
  ⟨rfl, rfl, rfl, rfl, rfl, rfl, rfl, rfl, rfl, rfl, rfl, rfl, rfl, rfl, rfl, rfl, rfl, rfl, rfl, rfl, rfl, rfl, rfl, rfl, rfl, rfl, rfl, rfl, rfl⟩
theorem raiseBypass_ring (s : State) : (s.raiseBypass).ring = { s.ring with bypass := .high, forwarding := true, edgeAt := if s.ring.bypass = .low then some s.et else s.ring.edgeAt } := rfl

@[simp] theorem frame_toStep (s : State) (n : Nat) : (s.toStep n).pending = s.pending ∧
    (s.toStep n).deferred = s.deferred ∧ (s.toStep n).dev = s.dev ∧ (s.toStep n).clk = s.clk ∧
    (s.toStep n).fuses = s.fuses ∧ (s.toStep n).regs = s.regs ∧ (s.toStep n).blobs = s.blobs ∧
    (s.toStep n).flash = s.flash ∧ (s.toStep n).leaves = s.leaves ∧ (s.toStep n).recorder = s.recorder ∧
    (s.toStep n).sessions = s.sessions ∧ (s.toStep n).auth = s.auth ∧ (s.toStep n).spi = s.spi ∧
    (s.toStep n).ring = s.ring ∧ (s.toStep n).ownWaiting = s.ownWaiting ∧ (s.toStep n).out = s.out ∧
    (s.toStep n).job = s.job ∧ (s.toStep n).heads = s.heads ∧ (s.toStep n).sieve = s.sieve ∧
    (s.toStep n).engine = s.engine ∧ (s.toStep n).time = s.time ∧ (s.toStep n).twin = s.twin ∧
    (s.toStep n).motion = s.motion ∧ (s.toStep n).dram = s.dram ∧ (s.toStep n).clocks = s.clocks ∧
    (s.toStep n).thermal = s.thermal ∧ (s.toStep n).images = s.images ∧ (s.toStep n).tap = s.tap ∧
    (s.toStep n).fresh = s.fresh :=
  ⟨rfl, rfl, rfl, rfl, rfl, rfl, rfl, rfl, rfl, rfl, rfl, rfl, rfl, rfl, rfl, rfl, rfl, rfl, rfl, rfl, rfl, rfl, rfl, rfl, rfl, rfl, rfl, rfl, rfl⟩
theorem toStep_power (s : State) (n : Nat) : (s.toStep n).power = { s.power with step := n } := rfl

@[simp] theorem frame_toLane (s : State) (b : Nat) (w : LaneWork) : (s.toLane b w).pending = s.pending ∧
    (s.toLane b w).deferred = s.deferred ∧ (s.toLane b w).dev = s.dev ∧ (s.toLane b w).power = s.power ∧
    (s.toLane b w).clk = s.clk ∧ (s.toLane b w).fuses = s.fuses ∧ (s.toLane b w).regs = s.regs ∧
    (s.toLane b w).blobs = s.blobs ∧ (s.toLane b w).flash = s.flash ∧ (s.toLane b w).leaves = s.leaves ∧
    (s.toLane b w).recorder = s.recorder ∧ (s.toLane b w).sessions = s.sessions ∧ (s.toLane b w).auth = s.auth ∧
    (s.toLane b w).spi = s.spi ∧ (s.toLane b w).ring = s.ring ∧ (s.toLane b w).ownWaiting = s.ownWaiting ∧
    (s.toLane b w).out = s.out ∧ (s.toLane b w).job = s.job ∧ (s.toLane b w).heads = s.heads ∧
    (s.toLane b w).sieve = s.sieve ∧ (s.toLane b w).time = s.time ∧ (s.toLane b w).twin = s.twin ∧
    (s.toLane b w).motion = s.motion ∧ (s.toLane b w).dram = s.dram ∧ (s.toLane b w).clocks = s.clocks ∧
    (s.toLane b w).thermal = s.thermal ∧ (s.toLane b w).images = s.images ∧ (s.toLane b w).tap = s.tap ∧
    (s.toLane b w).fresh = s.fresh :=
  ⟨rfl, rfl, rfl, rfl, rfl, rfl, rfl, rfl, rfl, rfl, rfl, rfl, rfl, rfl, rfl, rfl, rfl, rfl, rfl, rfl, rfl, rfl, rfl, rfl, rfl, rfl, rfl, rfl, rfl⟩
theorem toLane_engine (s : State) (b : Nat) (w : LaneWork) : (s.toLane b w).engine = { s.engine with lanes := s.engine.lanes.modify b (fun x => { x with waiting := x.waiting ++ [w] }) } := rfl

@[simp] theorem frame_onPipe (s : State) (pipe : Nat) (f : Pipeline → Pipeline) : (s.onPipe pipe f).pending = s.pending ∧
    (s.onPipe pipe f).deferred = s.deferred ∧ (s.onPipe pipe f).dev = s.dev ∧ (s.onPipe pipe f).power = s.power ∧
    (s.onPipe pipe f).clk = s.clk ∧ (s.onPipe pipe f).fuses = s.fuses ∧ (s.onPipe pipe f).regs = s.regs ∧
    (s.onPipe pipe f).blobs = s.blobs ∧ (s.onPipe pipe f).flash = s.flash ∧ (s.onPipe pipe f).leaves = s.leaves ∧
    (s.onPipe pipe f).recorder = s.recorder ∧ (s.onPipe pipe f).sessions = s.sessions ∧
    (s.onPipe pipe f).auth = s.auth ∧ (s.onPipe pipe f).spi = s.spi ∧ (s.onPipe pipe f).ring = s.ring ∧
    (s.onPipe pipe f).ownWaiting = s.ownWaiting ∧ (s.onPipe pipe f).out = s.out ∧ (s.onPipe pipe f).job = s.job ∧
    (s.onPipe pipe f).heads = s.heads ∧ (s.onPipe pipe f).engine = s.engine ∧ (s.onPipe pipe f).time = s.time ∧
    (s.onPipe pipe f).twin = s.twin ∧ (s.onPipe pipe f).motion = s.motion ∧ (s.onPipe pipe f).dram = s.dram ∧
    (s.onPipe pipe f).clocks = s.clocks ∧ (s.onPipe pipe f).thermal = s.thermal ∧
    (s.onPipe pipe f).images = s.images ∧ (s.onPipe pipe f).tap = s.tap ∧ (s.onPipe pipe f).fresh = s.fresh :=
  ⟨rfl, rfl, rfl, rfl, rfl, rfl, rfl, rfl, rfl, rfl, rfl, rfl, rfl, rfl, rfl, rfl, rfl, rfl, rfl, rfl, rfl, rfl, rfl, rfl, rfl, rfl, rfl, rfl, rfl⟩
theorem onPipe_sieve (s : State) (pipe : Nat) (f : Pipeline → Pipeline) : (s.onPipe pipe f).sieve = { s.sieve with pipes := s.sieve.pipes.modify pipe f } := rfl

@[simp] theorem frame_leaveAhead (s : State) : (s.leaveAhead).pending = s.pending ∧
    (s.leaveAhead).deferred = s.deferred ∧ (s.leaveAhead).dev = s.dev ∧ (s.leaveAhead).power = s.power ∧
    (s.leaveAhead).clk = s.clk ∧ (s.leaveAhead).fuses = s.fuses ∧ (s.leaveAhead).regs = s.regs ∧
    (s.leaveAhead).blobs = s.blobs ∧ (s.leaveAhead).flash = s.flash ∧ (s.leaveAhead).leaves = s.leaves ∧
    (s.leaveAhead).recorder = s.recorder ∧ (s.leaveAhead).sessions = s.sessions ∧ (s.leaveAhead).auth = s.auth ∧
    (s.leaveAhead).spi = s.spi ∧ (s.leaveAhead).ring = s.ring ∧ (s.leaveAhead).ownWaiting = s.ownWaiting ∧
    (s.leaveAhead).out = s.out ∧ (s.leaveAhead).job = s.job ∧ (s.leaveAhead).sieve = s.sieve ∧
    (s.leaveAhead).engine = s.engine ∧ (s.leaveAhead).time = s.time ∧ (s.leaveAhead).twin = s.twin ∧
    (s.leaveAhead).motion = s.motion ∧ (s.leaveAhead).dram = s.dram ∧ (s.leaveAhead).clocks = s.clocks ∧
    (s.leaveAhead).thermal = s.thermal ∧ (s.leaveAhead).images = s.images ∧ (s.leaveAhead).tap = s.tap ∧
    (s.leaveAhead).fresh = s.fresh :=
  ⟨rfl, rfl, rfl, rfl, rfl, rfl, rfl, rfl, rfl, rfl, rfl, rfl, rfl, rfl, rfl, rfl, rfl, rfl, rfl, rfl, rfl, rfl, rfl, rfl, rfl, rfl, rfl, rfl, rfl⟩
theorem leaveAhead_heads (s : State) : (s.leaveAhead).heads = s.heads.map (fun x => { x with path := x.path.dropAhead }) := rfl

@[simp] theorem frame_onEncoder (s : State) (e : Nat) (f : Encoder → Encoder) : (s.onEncoder e f).pending = s.pending ∧
    (s.onEncoder e f).deferred = s.deferred ∧ (s.onEncoder e f).dev = s.dev ∧ (s.onEncoder e f).power = s.power ∧
    (s.onEncoder e f).clk = s.clk ∧ (s.onEncoder e f).fuses = s.fuses ∧ (s.onEncoder e f).regs = s.regs ∧
    (s.onEncoder e f).blobs = s.blobs ∧ (s.onEncoder e f).flash = s.flash ∧ (s.onEncoder e f).leaves = s.leaves ∧
    (s.onEncoder e f).recorder = s.recorder ∧ (s.onEncoder e f).sessions = s.sessions ∧
    (s.onEncoder e f).auth = s.auth ∧ (s.onEncoder e f).spi = s.spi ∧ (s.onEncoder e f).ring = s.ring ∧
    (s.onEncoder e f).ownWaiting = s.ownWaiting ∧ (s.onEncoder e f).out = s.out ∧ (s.onEncoder e f).job = s.job ∧
    (s.onEncoder e f).heads = s.heads ∧ (s.onEncoder e f).sieve = s.sieve ∧ (s.onEncoder e f).engine = s.engine ∧
    (s.onEncoder e f).time = s.time ∧ (s.onEncoder e f).twin = s.twin ∧ (s.onEncoder e f).dram = s.dram ∧
    (s.onEncoder e f).clocks = s.clocks ∧ (s.onEncoder e f).thermal = s.thermal ∧
    (s.onEncoder e f).images = s.images ∧ (s.onEncoder e f).tap = s.tap ∧ (s.onEncoder e f).fresh = s.fresh :=
  ⟨rfl, rfl, rfl, rfl, rfl, rfl, rfl, rfl, rfl, rfl, rfl, rfl, rfl, rfl, rfl, rfl, rfl, rfl, rfl, rfl, rfl, rfl, rfl, rfl, rfl, rfl, rfl, rfl, rfl⟩
theorem onEncoder_motion (s : State) (e : Nat) (f : Encoder → Encoder) : (s.onEncoder e f).motion = { s.motion with encoders := s.motion.encoders.modify e f } := rfl

@[simp] theorem frame_probeTaken (s : State) (n : Nat) : (s.probeTaken n).pending = s.pending ∧
    (s.probeTaken n).deferred = s.deferred ∧ (s.probeTaken n).dev = s.dev ∧ (s.probeTaken n).power = s.power ∧
    (s.probeTaken n).clk = s.clk ∧ (s.probeTaken n).fuses = s.fuses ∧ (s.probeTaken n).regs = s.regs ∧
    (s.probeTaken n).blobs = s.blobs ∧ (s.probeTaken n).flash = s.flash ∧ (s.probeTaken n).leaves = s.leaves ∧
    (s.probeTaken n).recorder = s.recorder ∧ (s.probeTaken n).sessions = s.sessions ∧ (s.probeTaken n).auth = s.auth ∧
    (s.probeTaken n).spi = s.spi ∧ (s.probeTaken n).ring = s.ring ∧ (s.probeTaken n).ownWaiting = s.ownWaiting ∧
    (s.probeTaken n).out = s.out ∧ (s.probeTaken n).job = s.job ∧ (s.probeTaken n).heads = s.heads ∧
    (s.probeTaken n).sieve = s.sieve ∧ (s.probeTaken n).engine = s.engine ∧ (s.probeTaken n).time = s.time ∧
    (s.probeTaken n).twin = s.twin ∧ (s.probeTaken n).dram = s.dram ∧ (s.probeTaken n).clocks = s.clocks ∧
    (s.probeTaken n).thermal = s.thermal ∧ (s.probeTaken n).images = s.images ∧ (s.probeTaken n).tap = s.tap ∧
    (s.probeTaken n).fresh = s.fresh :=
  ⟨rfl, rfl, rfl, rfl, rfl, rfl, rfl, rfl, rfl, rfl, rfl, rfl, rfl, rfl, rfl, rfl, rfl, rfl, rfl, rfl, rfl, rfl, rfl, rfl, rfl, rfl, rfl, rfl, rfl⟩
theorem probeTaken_motion (s : State) (n : Nat) : (s.probeTaken n).motion = { s.motion with probes := s.motion.probes.modify n (fun p => ⟨p.queue.drop 1⟩) } := rfl

@[simp] theorem frame_clearCauses (s : State) (reg value : Nat) : (s.clearCauses reg value).pending = s.pending ∧
    (s.clearCauses reg value).deferred = s.deferred ∧ (s.clearCauses reg value).dev = s.dev ∧
    (s.clearCauses reg value).power = s.power ∧ (s.clearCauses reg value).clk = s.clk ∧
    (s.clearCauses reg value).fuses = s.fuses ∧ (s.clearCauses reg value).regs = s.regs ∧
    (s.clearCauses reg value).blobs = s.blobs ∧ (s.clearCauses reg value).flash = s.flash ∧
    (s.clearCauses reg value).recorder = s.recorder ∧ (s.clearCauses reg value).sessions = s.sessions ∧
    (s.clearCauses reg value).auth = s.auth ∧ (s.clearCauses reg value).spi = s.spi ∧
    (s.clearCauses reg value).ring = s.ring ∧ (s.clearCauses reg value).ownWaiting = s.ownWaiting ∧
    (s.clearCauses reg value).out = s.out ∧ (s.clearCauses reg value).job = s.job ∧
    (s.clearCauses reg value).heads = s.heads ∧ (s.clearCauses reg value).sieve = s.sieve ∧
    (s.clearCauses reg value).engine = s.engine ∧ (s.clearCauses reg value).time = s.time ∧
    (s.clearCauses reg value).twin = s.twin ∧ (s.clearCauses reg value).motion = s.motion ∧
    (s.clearCauses reg value).dram = s.dram ∧ (s.clearCauses reg value).clocks = s.clocks ∧
    (s.clearCauses reg value).thermal = s.thermal ∧ (s.clearCauses reg value).images = s.images ∧
    (s.clearCauses reg value).tap = s.tap ∧ (s.clearCauses reg value).fresh = s.fresh :=
  ⟨rfl, rfl, rfl, rfl, rfl, rfl, rfl, rfl, rfl, rfl, rfl, rfl, rfl, rfl, rfl, rfl, rfl, rfl, rfl, rfl, rfl, rfl, rfl, rfl, rfl, rfl, rfl, rfl, rfl⟩
theorem clearCauses_leaves (s : State) (reg value : Nat) : (s.clearCauses reg value).leaves = leavesCleared s.leaves reg value := rfl

@[simp] theorem frame_takeCauses (s : State) (p : Path) (reg : Nat) : (s.takeCauses p reg).pending = s.pending ∧
    (s.takeCauses p reg).deferred = s.deferred ∧ (s.takeCauses p reg).dev = s.dev ∧
    (s.takeCauses p reg).power = s.power ∧ (s.takeCauses p reg).clk = s.clk ∧ (s.takeCauses p reg).fuses = s.fuses ∧
    (s.takeCauses p reg).regs = s.regs ∧ (s.takeCauses p reg).blobs = s.blobs ∧ (s.takeCauses p reg).flash = s.flash ∧
    (s.takeCauses p reg).recorder = s.recorder ∧ (s.takeCauses p reg).sessions = s.sessions ∧
    (s.takeCauses p reg).auth = s.auth ∧ (s.takeCauses p reg).spi = s.spi ∧ (s.takeCauses p reg).ring = s.ring ∧
    (s.takeCauses p reg).ownWaiting = s.ownWaiting ∧ (s.takeCauses p reg).out = s.out ∧
    (s.takeCauses p reg).job = s.job ∧ (s.takeCauses p reg).heads = s.heads ∧ (s.takeCauses p reg).sieve = s.sieve ∧
    (s.takeCauses p reg).engine = s.engine ∧ (s.takeCauses p reg).time = s.time ∧ (s.takeCauses p reg).twin = s.twin ∧
    (s.takeCauses p reg).motion = s.motion ∧ (s.takeCauses p reg).dram = s.dram ∧
    (s.takeCauses p reg).clocks = s.clocks ∧ (s.takeCauses p reg).thermal = s.thermal ∧
    (s.takeCauses p reg).images = s.images ∧ (s.takeCauses p reg).tap = s.tap ∧
    (s.takeCauses p reg).fresh = s.fresh :=
  ⟨rfl, rfl, rfl, rfl, rfl, rfl, rfl, rfl, rfl, rfl, rfl, rfl, rfl, rfl, rfl, rfl, rfl, rfl, rfl, rfl, rfl, rfl, rfl, rfl, rfl, rfl, rfl, rfl, rfl⟩
theorem takeCauses_leaves (s : State) (p : Path) (reg : Nat) : (s.takeCauses p reg).leaves = leavesTaken s.leaves reg ((s.on p).takeMask reg) := rfl

@[simp] theorem frame_alive (s : State) (level : Bool) : (s.alive level).pending = s.pending ∧
    (s.alive level).deferred = s.deferred ∧ (s.alive level).dev = s.dev ∧ (s.alive level).power = s.power ∧
    (s.alive level).clk = s.clk ∧ (s.alive level).fuses = s.fuses ∧ (s.alive level).regs = s.regs ∧
    (s.alive level).blobs = s.blobs ∧ (s.alive level).flash = s.flash ∧ (s.alive level).leaves = s.leaves ∧
    (s.alive level).recorder = s.recorder ∧ (s.alive level).sessions = s.sessions ∧ (s.alive level).auth = s.auth ∧
    (s.alive level).spi = s.spi ∧ (s.alive level).ring = s.ring ∧ (s.alive level).ownWaiting = s.ownWaiting ∧
    (s.alive level).out = s.out ∧ (s.alive level).job = s.job ∧ (s.alive level).heads = s.heads ∧
    (s.alive level).sieve = s.sieve ∧ (s.alive level).engine = s.engine ∧ (s.alive level).time = s.time ∧
    (s.alive level).motion = s.motion ∧ (s.alive level).dram = s.dram ∧ (s.alive level).clocks = s.clocks ∧
    (s.alive level).thermal = s.thermal ∧ (s.alive level).images = s.images ∧ (s.alive level).tap = s.tap ∧
    (s.alive level).fresh = s.fresh :=
  ⟨rfl, rfl, rfl, rfl, rfl, rfl, rfl, rfl, rfl, rfl, rfl, rfl, rfl, rfl, rfl, rfl, rfl, rfl, rfl, rfl, rfl, rfl, rfl, rfl, rfl, rfl, rfl, rfl, rfl⟩
theorem alive_twin (s : State) (level : Bool) : (s.alive level).twin = { s.twin with aliveOut := level } := rfl

@[simp] theorem frame_unanswered (s : State) : (s.unanswered).pending = s.pending ∧
    (s.unanswered).deferred = s.deferred ∧ (s.unanswered).dev = s.dev ∧ (s.unanswered).power = s.power ∧
    (s.unanswered).clk = s.clk ∧ (s.unanswered).fuses = s.fuses ∧ (s.unanswered).regs = s.regs ∧
    (s.unanswered).blobs = s.blobs ∧ (s.unanswered).flash = s.flash ∧ (s.unanswered).leaves = s.leaves ∧
    (s.unanswered).recorder = s.recorder ∧ (s.unanswered).sessions = s.sessions ∧ (s.unanswered).auth = s.auth ∧
    (s.unanswered).spi = s.spi ∧ (s.unanswered).ring = s.ring ∧ (s.unanswered).ownWaiting = s.ownWaiting ∧
    (s.unanswered).job = s.job ∧ (s.unanswered).heads = s.heads ∧ (s.unanswered).sieve = s.sieve ∧
    (s.unanswered).engine = s.engine ∧ (s.unanswered).time = s.time ∧ (s.unanswered).twin = s.twin ∧
    (s.unanswered).motion = s.motion ∧ (s.unanswered).dram = s.dram ∧ (s.unanswered).clocks = s.clocks ∧
    (s.unanswered).thermal = s.thermal ∧ (s.unanswered).images = s.images ∧ (s.unanswered).tap = s.tap ∧
    (s.unanswered).fresh = s.fresh :=
  ⟨rfl, rfl, rfl, rfl, rfl, rfl, rfl, rfl, rfl, rfl, rfl, rfl, rfl, rfl, rfl, rfl, rfl, rfl, rfl, rfl, rfl, rfl, rfl, rfl, rfl, rfl, rfl, rfl, rfl⟩
theorem unanswered_out (s : State) : (s.unanswered).out = s.out.dropLast := rfl

@[simp] theorem frame_tapReset (s : State) : (s.tapReset).pending = s.pending ∧ (s.tapReset).deferred = s.deferred ∧
    (s.tapReset).dev = s.dev ∧ (s.tapReset).power = s.power ∧ (s.tapReset).clk = s.clk ∧
    (s.tapReset).fuses = s.fuses ∧ (s.tapReset).regs = s.regs ∧ (s.tapReset).blobs = s.blobs ∧
    (s.tapReset).flash = s.flash ∧ (s.tapReset).leaves = s.leaves ∧ (s.tapReset).recorder = s.recorder ∧
    (s.tapReset).sessions = s.sessions ∧ (s.tapReset).auth = s.auth ∧ (s.tapReset).spi = s.spi ∧
    (s.tapReset).ring = s.ring ∧ (s.tapReset).ownWaiting = s.ownWaiting ∧ (s.tapReset).out = s.out ∧
    (s.tapReset).job = s.job ∧ (s.tapReset).heads = s.heads ∧ (s.tapReset).sieve = s.sieve ∧
    (s.tapReset).engine = s.engine ∧ (s.tapReset).time = s.time ∧ (s.tapReset).twin = s.twin ∧
    (s.tapReset).motion = s.motion ∧ (s.tapReset).dram = s.dram ∧ (s.tapReset).clocks = s.clocks ∧
    (s.tapReset).thermal = s.thermal ∧ (s.tapReset).images = s.images ∧ (s.tapReset).fresh = s.fresh :=
  ⟨rfl, rfl, rfl, rfl, rfl, rfl, rfl, rfl, rfl, rfl, rfl, rfl, rfl, rfl, rfl, rfl, rfl, rfl, rfl, rfl, rfl, rfl, rfl, rfl, rfl, rfl, rfl, rfl, rfl⟩
theorem tapReset_tap (s : State) : (s.tapReset).tap = { s.tap with state := .testLogicReset, instr := .idcode, tdo := none } := rfl

end Sys2Proof.Machine
end

