-- ==== Sys2Proof/Laws/Frames.lean ====
section
/-!
SUPPORT. Frames: for every shared operation on the state, one lemma that says which parts of the state it leaves as they
are (`frame_<operation>`), so that no later proof unfolds the operation to learn what it does not touch. The operations
come in the order in which they use one another.
-/
set_option linter.all false
namespace Sys2Proof.Machine

/-! ### Outcomes -/

/-- The state an outcome answers; the given one where it answers none. -/
def outcomeState (s0 : State) : Host.Outcome State Fault Refusal → State
  | .next t => t
  | _ => s0
@[simp] theorem outcomeState_next (s0 t : State) : outcomeState s0 (.next t) = t := rfl
@[simp] theorem outcomeState_ite (s0 : State) (c : Prop) [Decidable c] (a b : Host.Outcome State Fault Refusal) :
    outcomeState s0 (if c then a else b) = if c then outcomeState s0 a else outcomeState s0 b := by split <;> rfl
theorem nextState_eq (s : State) (f : State → Host.Outcome State Fault Refusal) :
    nextState s f = { outcomeState s (f { s with pending := [], deferred := [] }) with pending := s.pending, deferred := s.deferred } := by
  unfold nextState
  generalize f { s with pending := [], deferred := [] } = o
  cases o <;> rfl
@[simp] theorem nextState_pending (s : State) (f : State → Host.Outcome State Fault Refusal) : (nextState s f).pending = s.pending := by
  rw [nextState_eq]
@[simp] theorem nextState_deferred (s : State) (f : State → Host.Outcome State Fault Refusal) : (nextState s f).deferred = s.deferred := by
  rw [nextState_eq]
@[simp] theorem nextState_dev (s : State) (f : State → Host.Outcome State Fault Refusal) : (nextState s f).dev = (outcomeState s (f { s with pending := [], deferred := [] })).dev := by
  rw [nextState_eq]
@[simp] theorem nextState_power (s : State) (f : State → Host.Outcome State Fault Refusal) : (nextState s f).power = (outcomeState s (f { s with pending := [], deferred := [] })).power := by
  rw [nextState_eq]
@[simp] theorem nextState_clk (s : State) (f : State → Host.Outcome State Fault Refusal) : (nextState s f).clk = (outcomeState s (f { s with pending := [], deferred := [] })).clk := by
  rw [nextState_eq]
@[simp] theorem nextState_fuses (s : State) (f : State → Host.Outcome State Fault Refusal) : (nextState s f).fuses = (outcomeState s (f { s with pending := [], deferred := [] })).fuses := by
  rw [nextState_eq]
@[simp] theorem nextState_regs (s : State) (f : State → Host.Outcome State Fault Refusal) : (nextState s f).regs = (outcomeState s (f { s with pending := [], deferred := [] })).regs := by
  rw [nextState_eq]
@[simp] theorem nextState_blobs (s : State) (f : State → Host.Outcome State Fault Refusal) : (nextState s f).blobs = (outcomeState s (f { s with pending := [], deferred := [] })).blobs := by
  rw [nextState_eq]
@[simp] theorem nextState_flash (s : State) (f : State → Host.Outcome State Fault Refusal) : (nextState s f).flash = (outcomeState s (f { s with pending := [], deferred := [] })).flash := by
  rw [nextState_eq]
@[simp] theorem nextState_leaves (s : State) (f : State → Host.Outcome State Fault Refusal) : (nextState s f).leaves = (outcomeState s (f { s with pending := [], deferred := [] })).leaves := by
  rw [nextState_eq]
@[simp] theorem nextState_recorder (s : State) (f : State → Host.Outcome State Fault Refusal) : (nextState s f).recorder = (outcomeState s (f { s with pending := [], deferred := [] })).recorder := by
  rw [nextState_eq]
@[simp] theorem nextState_sessions (s : State) (f : State → Host.Outcome State Fault Refusal) : (nextState s f).sessions = (outcomeState s (f { s with pending := [], deferred := [] })).sessions := by
  rw [nextState_eq]
@[simp] theorem nextState_auth (s : State) (f : State → Host.Outcome State Fault Refusal) : (nextState s f).auth = (outcomeState s (f { s with pending := [], deferred := [] })).auth := by
  rw [nextState_eq]
@[simp] theorem nextState_spi (s : State) (f : State → Host.Outcome State Fault Refusal) : (nextState s f).spi = (outcomeState s (f { s with pending := [], deferred := [] })).spi := by
  rw [nextState_eq]
@[simp] theorem nextState_ring (s : State) (f : State → Host.Outcome State Fault Refusal) : (nextState s f).ring = (outcomeState s (f { s with pending := [], deferred := [] })).ring := by
  rw [nextState_eq]
@[simp] theorem nextState_ownWaiting (s : State) (f : State → Host.Outcome State Fault Refusal) : (nextState s f).ownWaiting = (outcomeState s (f { s with pending := [], deferred := [] })).ownWaiting := by
  rw [nextState_eq]
@[simp] theorem nextState_out (s : State) (f : State → Host.Outcome State Fault Refusal) : (nextState s f).out = (outcomeState s (f { s with pending := [], deferred := [] })).out := by
  rw [nextState_eq]
@[simp] theorem nextState_job (s : State) (f : State → Host.Outcome State Fault Refusal) : (nextState s f).job = (outcomeState s (f { s with pending := [], deferred := [] })).job := by
  rw [nextState_eq]
@[simp] theorem nextState_heads (s : State) (f : State → Host.Outcome State Fault Refusal) : (nextState s f).heads = (outcomeState s (f { s with pending := [], deferred := [] })).heads := by
  rw [nextState_eq]
@[simp] theorem nextState_sieve (s : State) (f : State → Host.Outcome State Fault Refusal) : (nextState s f).sieve = (outcomeState s (f { s with pending := [], deferred := [] })).sieve := by
  rw [nextState_eq]
@[simp] theorem nextState_engine (s : State) (f : State → Host.Outcome State Fault Refusal) : (nextState s f).engine = (outcomeState s (f { s with pending := [], deferred := [] })).engine := by
  rw [nextState_eq]
@[simp] theorem nextState_time (s : State) (f : State → Host.Outcome State Fault Refusal) : (nextState s f).time = (outcomeState s (f { s with pending := [], deferred := [] })).time := by
  rw [nextState_eq]
@[simp] theorem nextState_twin (s : State) (f : State → Host.Outcome State Fault Refusal) : (nextState s f).twin = (outcomeState s (f { s with pending := [], deferred := [] })).twin := by
  rw [nextState_eq]
@[simp] theorem nextState_motion (s : State) (f : State → Host.Outcome State Fault Refusal) : (nextState s f).motion = (outcomeState s (f { s with pending := [], deferred := [] })).motion := by
  rw [nextState_eq]
@[simp] theorem nextState_dram (s : State) (f : State → Host.Outcome State Fault Refusal) : (nextState s f).dram = (outcomeState s (f { s with pending := [], deferred := [] })).dram := by
  rw [nextState_eq]
@[simp] theorem nextState_clocks (s : State) (f : State → Host.Outcome State Fault Refusal) : (nextState s f).clocks = (outcomeState s (f { s with pending := [], deferred := [] })).clocks := by
  rw [nextState_eq]
@[simp] theorem nextState_thermal (s : State) (f : State → Host.Outcome State Fault Refusal) : (nextState s f).thermal = (outcomeState s (f { s with pending := [], deferred := [] })).thermal := by
  rw [nextState_eq]
@[simp] theorem nextState_images (s : State) (f : State → Host.Outcome State Fault Refusal) : (nextState s f).images = (outcomeState s (f { s with pending := [], deferred := [] })).images := by
  rw [nextState_eq]
@[simp] theorem nextState_tap (s : State) (f : State → Host.Outcome State Fault Refusal) : (nextState s f).tap = (outcomeState s (f { s with pending := [], deferred := [] })).tap := by
  rw [nextState_eq]
@[simp] theorem nextState_fresh (s : State) (f : State → Host.Outcome State Fault Refusal) : (nextState s f).fresh = (outcomeState s (f { s with pending := [], deferred := [] })).fresh := by
  rw [nextState_eq]

/-! ### Operations -/


@[simp] theorem frame_bumpBy (s : State) (index sub : Nat) (n : Int) : (s.bumpBy index sub n).pending = s.pending ∧
    (s.bumpBy index sub n).deferred = s.deferred ∧ (s.bumpBy index sub n).dev = s.dev ∧
    (s.bumpBy index sub n).power = s.power ∧ (s.bumpBy index sub n).clk = s.clk ∧
    (s.bumpBy index sub n).fuses = s.fuses ∧ (s.bumpBy index sub n).blobs = s.blobs ∧
    (s.bumpBy index sub n).flash = s.flash ∧ (s.bumpBy index sub n).leaves = s.leaves ∧
    (s.bumpBy index sub n).recorder = s.recorder ∧ (s.bumpBy index sub n).sessions = s.sessions ∧
    (s.bumpBy index sub n).auth = s.auth ∧ (s.bumpBy index sub n).spi = s.spi ∧ (s.bumpBy index sub n).ring = s.ring ∧
    (s.bumpBy index sub n).ownWaiting = s.ownWaiting ∧ (s.bumpBy index sub n).out = s.out ∧
    (s.bumpBy index sub n).job = s.job ∧ (s.bumpBy index sub n).heads = s.heads ∧
    (s.bumpBy index sub n).sieve = s.sieve ∧ (s.bumpBy index sub n).engine = s.engine ∧
    (s.bumpBy index sub n).time = s.time ∧ (s.bumpBy index sub n).twin = s.twin ∧
    (s.bumpBy index sub n).motion = s.motion ∧ (s.bumpBy index sub n).dram = s.dram ∧
    (s.bumpBy index sub n).clocks = s.clocks ∧ (s.bumpBy index sub n).thermal = s.thermal ∧
    (s.bumpBy index sub n).images = s.images ∧ (s.bumpBy index sub n).tap = s.tap ∧
    (s.bumpBy index sub n).fresh = s.fresh := by
  unfold State.bumpBy
  (repeat' split) <;> simp

@[simp] theorem frame_bump (s : State) (index sub : Nat) : (s.bump index sub).pending = s.pending ∧
    (s.bump index sub).deferred = s.deferred ∧ (s.bump index sub).dev = s.dev ∧ (s.bump index sub).power = s.power ∧
    (s.bump index sub).clk = s.clk ∧ (s.bump index sub).fuses = s.fuses ∧ (s.bump index sub).blobs = s.blobs ∧
    (s.bump index sub).flash = s.flash ∧ (s.bump index sub).leaves = s.leaves ∧
    (s.bump index sub).recorder = s.recorder ∧ (s.bump index sub).sessions = s.sessions ∧
    (s.bump index sub).auth = s.auth ∧ (s.bump index sub).spi = s.spi ∧ (s.bump index sub).ring = s.ring ∧
    (s.bump index sub).ownWaiting = s.ownWaiting ∧ (s.bump index sub).out = s.out ∧ (s.bump index sub).job = s.job ∧
    (s.bump index sub).heads = s.heads ∧ (s.bump index sub).sieve = s.sieve ∧ (s.bump index sub).engine = s.engine ∧
    (s.bump index sub).time = s.time ∧ (s.bump index sub).twin = s.twin ∧ (s.bump index sub).motion = s.motion ∧
    (s.bump index sub).dram = s.dram ∧ (s.bump index sub).clocks = s.clocks ∧ (s.bump index sub).thermal = s.thermal ∧
    (s.bump index sub).images = s.images ∧ (s.bump index sub).tap = s.tap ∧ (s.bump index sub).fresh = s.fresh := by
  unfold State.bump
  (repeat' split) <;> simp

@[simp] theorem frame_raiseReg (s : State) (index sub : Nat) (v : Int) : (s.raiseReg index sub v).pending = s.pending ∧
    (s.raiseReg index sub v).deferred = s.deferred ∧ (s.raiseReg index sub v).dev = s.dev ∧
    (s.raiseReg index sub v).power = s.power ∧ (s.raiseReg index sub v).clk = s.clk ∧
    (s.raiseReg index sub v).fuses = s.fuses ∧ (s.raiseReg index sub v).blobs = s.blobs ∧
    (s.raiseReg index sub v).flash = s.flash ∧ (s.raiseReg index sub v).leaves = s.leaves ∧
    (s.raiseReg index sub v).recorder = s.recorder ∧ (s.raiseReg index sub v).sessions = s.sessions ∧
    (s.raiseReg index sub v).auth = s.auth ∧ (s.raiseReg index sub v).spi = s.spi ∧
    (s.raiseReg index sub v).ring = s.ring ∧ (s.raiseReg index sub v).ownWaiting = s.ownWaiting ∧
    (s.raiseReg index sub v).out = s.out ∧ (s.raiseReg index sub v).job = s.job ∧
    (s.raiseReg index sub v).heads = s.heads ∧ (s.raiseReg index sub v).sieve = s.sieve ∧
    (s.raiseReg index sub v).engine = s.engine ∧ (s.raiseReg index sub v).time = s.time ∧
    (s.raiseReg index sub v).twin = s.twin ∧ (s.raiseReg index sub v).motion = s.motion ∧
    (s.raiseReg index sub v).dram = s.dram ∧ (s.raiseReg index sub v).clocks = s.clocks ∧
    (s.raiseReg index sub v).thermal = s.thermal ∧ (s.raiseReg index sub v).images = s.images ∧
    (s.raiseReg index sub v).tap = s.tap ∧ (s.raiseReg index sub v).fresh = s.fresh := by
  unfold State.raiseReg
  (repeat' split) <;> simp

@[simp] theorem frame_keepCorr (s : State) (k : Nat) : (s.keepCorr k).pending = s.pending ∧
    (s.keepCorr k).deferred = s.deferred ∧ (s.keepCorr k).dev = s.dev ∧ (s.keepCorr k).power = s.power ∧
    (s.keepCorr k).clk = s.clk ∧ (s.keepCorr k).fuses = s.fuses ∧ (s.keepCorr k).regs = s.regs ∧
    (s.keepCorr k).blobs = s.blobs ∧ (s.keepCorr k).flash = s.flash ∧ (s.keepCorr k).leaves = s.leaves ∧
    (s.keepCorr k).recorder = s.recorder ∧ (s.keepCorr k).sessions = s.sessions ∧ (s.keepCorr k).auth = s.auth ∧
    (s.keepCorr k).spi = s.spi ∧ (s.keepCorr k).ring = s.ring ∧ (s.keepCorr k).ownWaiting = s.ownWaiting ∧
    (s.keepCorr k).out = s.out ∧ (s.keepCorr k).job = s.job ∧ (s.keepCorr k).heads = s.heads ∧
    (s.keepCorr k).sieve = s.sieve ∧ (s.keepCorr k).engine = s.engine ∧ (s.keepCorr k).twin = s.twin ∧
    (s.keepCorr k).motion = s.motion ∧ (s.keepCorr k).dram = s.dram ∧ (s.keepCorr k).clocks = s.clocks ∧
    (s.keepCorr k).thermal = s.thermal ∧ (s.keepCorr k).images = s.images ∧ (s.keepCorr k).tap = s.tap ∧
    (s.keepCorr k).fresh = s.fresh := by
  unfold State.keepCorr
  (repeat' split) <;> simp

@[simp] theorem frame_twinSend (s : State) (kind : Nat) (fields : List Int) : (s.twinSend kind fields).pending = s.pending ∧
    (s.twinSend kind fields).deferred = s.deferred ∧ (s.twinSend kind fields).dev = s.dev ∧
    (s.twinSend kind fields).power = s.power ∧ (s.twinSend kind fields).clk = s.clk ∧
    (s.twinSend kind fields).fuses = s.fuses ∧ (s.twinSend kind fields).regs = s.regs ∧
    (s.twinSend kind fields).blobs = s.blobs ∧ (s.twinSend kind fields).flash = s.flash ∧
    (s.twinSend kind fields).leaves = s.leaves ∧ (s.twinSend kind fields).recorder = s.recorder ∧
    (s.twinSend kind fields).sessions = s.sessions ∧ (s.twinSend kind fields).auth = s.auth ∧
    (s.twinSend kind fields).spi = s.spi ∧ (s.twinSend kind fields).ring = s.ring ∧
    (s.twinSend kind fields).ownWaiting = s.ownWaiting ∧ (s.twinSend kind fields).job = s.job ∧
    (s.twinSend kind fields).heads = s.heads ∧ (s.twinSend kind fields).sieve = s.sieve ∧
    (s.twinSend kind fields).engine = s.engine ∧ (s.twinSend kind fields).time = s.time ∧
    (s.twinSend kind fields).motion = s.motion ∧ (s.twinSend kind fields).dram = s.dram ∧
    (s.twinSend kind fields).clocks = s.clocks ∧ (s.twinSend kind fields).thermal = s.thermal ∧
    (s.twinSend kind fields).images = s.images ∧ (s.twinSend kind fields).tap = s.tap ∧
    (s.twinSend kind fields).fresh = s.fresh := by
  unfold State.twinSend
  (repeat' split) <;> simp

@[simp] theorem frame_twinLead (s : State) (kind : Nat) (fields : List Int) : (s.twinLead kind fields).pending = s.pending ∧
    (s.twinLead kind fields).deferred = s.deferred ∧ (s.twinLead kind fields).dev = s.dev ∧
    (s.twinLead kind fields).power = s.power ∧ (s.twinLead kind fields).clk = s.clk ∧
    (s.twinLead kind fields).fuses = s.fuses ∧ (s.twinLead kind fields).regs = s.regs ∧
    (s.twinLead kind fields).blobs = s.blobs ∧ (s.twinLead kind fields).flash = s.flash ∧
    (s.twinLead kind fields).leaves = s.leaves ∧ (s.twinLead kind fields).recorder = s.recorder ∧
    (s.twinLead kind fields).sessions = s.sessions ∧ (s.twinLead kind fields).auth = s.auth ∧
    (s.twinLead kind fields).spi = s.spi ∧ (s.twinLead kind fields).ring = s.ring ∧
    (s.twinLead kind fields).ownWaiting = s.ownWaiting ∧ (s.twinLead kind fields).job = s.job ∧
    (s.twinLead kind fields).heads = s.heads ∧ (s.twinLead kind fields).sieve = s.sieve ∧
    (s.twinLead kind fields).engine = s.engine ∧ (s.twinLead kind fields).time = s.time ∧
    (s.twinLead kind fields).motion = s.motion ∧ (s.twinLead kind fields).dram = s.dram ∧
    (s.twinLead kind fields).clocks = s.clocks ∧ (s.twinLead kind fields).thermal = s.thermal ∧
    (s.twinLead kind fields).images = s.images ∧ (s.twinLead kind fields).tap = s.tap ∧
    (s.twinLead kind fields).fresh = s.fresh := by
  unfold State.twinLead
  (repeat' split) <;> simp

@[simp] theorem frame_sendOwn (s : State) (port : Nat) (frames : List (List Byte)) : (s.sendOwn port frames).pending = s.pending ∧
    (s.sendOwn port frames).deferred = s.deferred ∧ (s.sendOwn port frames).dev = s.dev ∧
    (s.sendOwn port frames).power = s.power ∧ (s.sendOwn port frames).clk = s.clk ∧
    (s.sendOwn port frames).fuses = s.fuses ∧ (s.sendOwn port frames).regs = s.regs ∧
    (s.sendOwn port frames).blobs = s.blobs ∧ (s.sendOwn port frames).flash = s.flash ∧
    (s.sendOwn port frames).leaves = s.leaves ∧ (s.sendOwn port frames).recorder = s.recorder ∧
    (s.sendOwn port frames).sessions = s.sessions ∧ (s.sendOwn port frames).auth = s.auth ∧
    (s.sendOwn port frames).spi = s.spi ∧ (s.sendOwn port frames).ring = s.ring ∧
    (s.sendOwn port frames).job = s.job ∧ (s.sendOwn port frames).heads = s.heads ∧
    (s.sendOwn port frames).sieve = s.sieve ∧ (s.sendOwn port frames).engine = s.engine ∧
    (s.sendOwn port frames).time = s.time ∧ (s.sendOwn port frames).twin = s.twin ∧
    (s.sendOwn port frames).motion = s.motion ∧ (s.sendOwn port frames).dram = s.dram ∧
    (s.sendOwn port frames).clocks = s.clocks ∧ (s.sendOwn port frames).thermal = s.thermal ∧
    (s.sendOwn port frames).images = s.images ∧ (s.sendOwn port frames).tap = s.tap ∧
    (s.sendOwn port frames).fresh = s.fresh := by
  unfold State.sendOwn
  (repeat' split) <;> simp

@[simp] theorem frame_releaseOwn (s : State) : (s.releaseOwn).pending = s.pending ∧
    (s.releaseOwn).deferred = s.deferred ∧ (s.releaseOwn).dev = s.dev ∧ (s.releaseOwn).power = s.power ∧
    (s.releaseOwn).clk = s.clk ∧ (s.releaseOwn).fuses = s.fuses ∧ (s.releaseOwn).regs = s.regs ∧
    (s.releaseOwn).blobs = s.blobs ∧ (s.releaseOwn).flash = s.flash ∧ (s.releaseOwn).leaves = s.leaves ∧
    (s.releaseOwn).recorder = s.recorder ∧ (s.releaseOwn).sessions = s.sessions ∧ (s.releaseOwn).auth = s.auth ∧
    (s.releaseOwn).spi = s.spi ∧ (s.releaseOwn).ring = s.ring ∧ (s.releaseOwn).job = s.job ∧
    (s.releaseOwn).heads = s.heads ∧ (s.releaseOwn).sieve = s.sieve ∧ (s.releaseOwn).engine = s.engine ∧
    (s.releaseOwn).time = s.time ∧ (s.releaseOwn).twin = s.twin ∧ (s.releaseOwn).motion = s.motion ∧
    (s.releaseOwn).dram = s.dram ∧ (s.releaseOwn).clocks = s.clocks ∧ (s.releaseOwn).thermal = s.thermal ∧
    (s.releaseOwn).images = s.images ∧ (s.releaseOwn).tap = s.tap ∧ (s.releaseOwn).fresh = s.fresh := by
  unfold State.releaseOwn
  (repeat' split) <;> simp

@[simp] theorem frame_sendFrames (s : State) (dest : Nat) (fs : List TreyxFrame) : (s.sendFrames dest fs).pending = s.pending ∧
    (s.sendFrames dest fs).deferred = s.deferred ∧ (s.sendFrames dest fs).dev = s.dev ∧
    (s.sendFrames dest fs).power = s.power ∧ (s.sendFrames dest fs).clk = s.clk ∧
    (s.sendFrames dest fs).fuses = s.fuses ∧ (s.sendFrames dest fs).regs = s.regs ∧
    (s.sendFrames dest fs).blobs = s.blobs ∧ (s.sendFrames dest fs).flash = s.flash ∧
    (s.sendFrames dest fs).leaves = s.leaves ∧ (s.sendFrames dest fs).recorder = s.recorder ∧
    (s.sendFrames dest fs).sessions = s.sessions ∧ (s.sendFrames dest fs).auth = s.auth ∧
    (s.sendFrames dest fs).spi = s.spi ∧ (s.sendFrames dest fs).ring = s.ring ∧ (s.sendFrames dest fs).job = s.job ∧
    (s.sendFrames dest fs).heads = s.heads ∧ (s.sendFrames dest fs).sieve = s.sieve ∧
    (s.sendFrames dest fs).engine = s.engine ∧ (s.sendFrames dest fs).time = s.time ∧
    (s.sendFrames dest fs).twin = s.twin ∧ (s.sendFrames dest fs).motion = s.motion ∧
    (s.sendFrames dest fs).dram = s.dram ∧ (s.sendFrames dest fs).clocks = s.clocks ∧
    (s.sendFrames dest fs).thermal = s.thermal ∧ (s.sendFrames dest fs).images = s.images ∧
    (s.sendFrames dest fs).tap = s.tap ∧ (s.sendFrames dest fs).fresh = s.fresh := by
  unfold State.sendFrames
  (repeat' split) <;> simp

@[simp] theorem frame_message (s : State) (n kind : Nat) (reliable : Bool) (bytes : List Byte) : (s.message n kind reliable bytes).pending = s.pending ∧
    (s.message n kind reliable bytes).deferred = s.deferred ∧ (s.message n kind reliable bytes).dev = s.dev ∧
    (s.message n kind reliable bytes).power = s.power ∧ (s.message n kind reliable bytes).clk = s.clk ∧
    (s.message n kind reliable bytes).fuses = s.fuses ∧ (s.message n kind reliable bytes).regs = s.regs ∧
    (s.message n kind reliable bytes).blobs = s.blobs ∧ (s.message n kind reliable bytes).flash = s.flash ∧
    (s.message n kind reliable bytes).leaves = s.leaves ∧ (s.message n kind reliable bytes).recorder = s.recorder ∧
    (s.message n kind reliable bytes).auth = s.auth ∧ (s.message n kind reliable bytes).spi = s.spi ∧
    (s.message n kind reliable bytes).ring = s.ring ∧ (s.message n kind reliable bytes).job = s.job ∧
    (s.message n kind reliable bytes).heads = s.heads ∧ (s.message n kind reliable bytes).sieve = s.sieve ∧
    (s.message n kind reliable bytes).engine = s.engine ∧ (s.message n kind reliable bytes).time = s.time ∧
    (s.message n kind reliable bytes).motion = s.motion ∧ (s.message n kind reliable bytes).dram = s.dram ∧
    (s.message n kind reliable bytes).clocks = s.clocks ∧ (s.message n kind reliable bytes).thermal = s.thermal ∧
    (s.message n kind reliable bytes).images = s.images ∧ (s.message n kind reliable bytes).tap = s.tap ∧
    (s.message n kind reliable bytes).fresh = s.fresh := by
  unfold State.message
  (repeat' split) <;> simp

@[simp] theorem frame_jobMessage (s : State) (kind : Nat) (bytes : List Byte) : (s.jobMessage kind bytes).pending = s.pending ∧
    (s.jobMessage kind bytes).deferred = s.deferred ∧ (s.jobMessage kind bytes).dev = s.dev ∧
    (s.jobMessage kind bytes).power = s.power ∧ (s.jobMessage kind bytes).clk = s.clk ∧
    (s.jobMessage kind bytes).fuses = s.fuses ∧ (s.jobMessage kind bytes).regs = s.regs ∧
    (s.jobMessage kind bytes).blobs = s.blobs ∧ (s.jobMessage kind bytes).flash = s.flash ∧
    (s.jobMessage kind bytes).leaves = s.leaves ∧ (s.jobMessage kind bytes).recorder = s.recorder ∧
    (s.jobMessage kind bytes).auth = s.auth ∧ (s.jobMessage kind bytes).spi = s.spi ∧
    (s.jobMessage kind bytes).ring = s.ring ∧ (s.jobMessage kind bytes).job = s.job ∧
    (s.jobMessage kind bytes).heads = s.heads ∧ (s.jobMessage kind bytes).sieve = s.sieve ∧
    (s.jobMessage kind bytes).engine = s.engine ∧ (s.jobMessage kind bytes).time = s.time ∧
    (s.jobMessage kind bytes).motion = s.motion ∧ (s.jobMessage kind bytes).dram = s.dram ∧
    (s.jobMessage kind bytes).clocks = s.clocks ∧ (s.jobMessage kind bytes).thermal = s.thermal ∧
    (s.jobMessage kind bytes).images = s.images ∧ (s.jobMessage kind bytes).tap = s.tap ∧
    (s.jobMessage kind bytes).fresh = s.fresh := by
  unfold State.jobMessage
  (repeat' split) <;> simp

@[simp] theorem frame_messageWhere (s : State) (p : Session → Bool) (kind : Nat) (reliable : Bool) (bytes : List Byte) : (s.messageWhere p kind reliable bytes).pending = s.pending ∧
    (s.messageWhere p kind reliable bytes).deferred = s.deferred ∧
    (s.messageWhere p kind reliable bytes).dev = s.dev ∧ (s.messageWhere p kind reliable bytes).power = s.power ∧
    (s.messageWhere p kind reliable bytes).clk = s.clk ∧ (s.messageWhere p kind reliable bytes).fuses = s.fuses ∧
    (s.messageWhere p kind reliable bytes).regs = s.regs ∧ (s.messageWhere p kind reliable bytes).blobs = s.blobs ∧
    (s.messageWhere p kind reliable bytes).flash = s.flash ∧
    (s.messageWhere p kind reliable bytes).leaves = s.leaves ∧
    (s.messageWhere p kind reliable bytes).recorder = s.recorder ∧
    (s.messageWhere p kind reliable bytes).auth = s.auth ∧ (s.messageWhere p kind reliable bytes).spi = s.spi ∧
    (s.messageWhere p kind reliable bytes).ring = s.ring ∧ (s.messageWhere p kind reliable bytes).job = s.job ∧
    (s.messageWhere p kind reliable bytes).heads = s.heads ∧ (s.messageWhere p kind reliable bytes).sieve = s.sieve ∧
    (s.messageWhere p kind reliable bytes).engine = s.engine ∧ (s.messageWhere p kind reliable bytes).time = s.time ∧
    (s.messageWhere p kind reliable bytes).motion = s.motion ∧ (s.messageWhere p kind reliable bytes).dram = s.dram ∧
    (s.messageWhere p kind reliable bytes).clocks = s.clocks ∧
    (s.messageWhere p kind reliable bytes).thermal = s.thermal ∧
    (s.messageWhere p kind reliable bytes).images = s.images ∧ (s.messageWhere p kind reliable bytes).tap = s.tap ∧
    (s.messageWhere p kind reliable bytes).fresh = s.fresh := by
  unfold State.messageWhere
  (repeat' split) <;> simp

@[simp] theorem frame_publish (s : State) (bit kind : Nat) (reliable : Bool) (bytes : List Byte) : (s.publish bit kind reliable bytes).pending = s.pending ∧
    (s.publish bit kind reliable bytes).deferred = s.deferred ∧ (s.publish bit kind reliable bytes).dev = s.dev ∧
    (s.publish bit kind reliable bytes).power = s.power ∧ (s.publish bit kind reliable bytes).clk = s.clk ∧
    (s.publish bit kind reliable bytes).fuses = s.fuses ∧ (s.publish bit kind reliable bytes).regs = s.regs ∧
    (s.publish bit kind reliable bytes).blobs = s.blobs ∧ (s.publish bit kind reliable bytes).flash = s.flash ∧
    (s.publish bit kind reliable bytes).leaves = s.leaves ∧
    (s.publish bit kind reliable bytes).recorder = s.recorder ∧ (s.publish bit kind reliable bytes).auth = s.auth ∧
    (s.publish bit kind reliable bytes).spi = s.spi ∧ (s.publish bit kind reliable bytes).ring = s.ring ∧
    (s.publish bit kind reliable bytes).job = s.job ∧ (s.publish bit kind reliable bytes).heads = s.heads ∧
    (s.publish bit kind reliable bytes).sieve = s.sieve ∧ (s.publish bit kind reliable bytes).engine = s.engine ∧
    (s.publish bit kind reliable bytes).time = s.time ∧ (s.publish bit kind reliable bytes).motion = s.motion ∧
    (s.publish bit kind reliable bytes).dram = s.dram ∧ (s.publish bit kind reliable bytes).clocks = s.clocks ∧
    (s.publish bit kind reliable bytes).thermal = s.thermal ∧ (s.publish bit kind reliable bytes).images = s.images ∧
    (s.publish bit kind reliable bytes).tap = s.tap ∧ (s.publish bit kind reliable bytes).fresh = s.fresh := by
  unfold State.publish
  (repeat' split) <;> simp

@[simp] theorem frame_setLeaf (s : State) (reg bit : Nat) : (s.setLeaf reg bit).pending = s.pending ∧
    (s.setLeaf reg bit).deferred = s.deferred ∧ (s.setLeaf reg bit).dev = s.dev ∧
    (s.setLeaf reg bit).power = s.power ∧ (s.setLeaf reg bit).clk = s.clk ∧ (s.setLeaf reg bit).fuses = s.fuses ∧
    (s.setLeaf reg bit).regs = s.regs ∧ (s.setLeaf reg bit).blobs = s.blobs ∧ (s.setLeaf reg bit).flash = s.flash ∧
    (s.setLeaf reg bit).recorder = s.recorder ∧ (s.setLeaf reg bit).auth = s.auth ∧ (s.setLeaf reg bit).spi = s.spi ∧
    (s.setLeaf reg bit).ring = s.ring ∧ (s.setLeaf reg bit).job = s.job ∧ (s.setLeaf reg bit).heads = s.heads ∧
    (s.setLeaf reg bit).sieve = s.sieve ∧ (s.setLeaf reg bit).engine = s.engine ∧ (s.setLeaf reg bit).time = s.time ∧
    (s.setLeaf reg bit).motion = s.motion ∧ (s.setLeaf reg bit).dram = s.dram ∧
    (s.setLeaf reg bit).clocks = s.clocks ∧ (s.setLeaf reg bit).thermal = s.thermal ∧
    (s.setLeaf reg bit).images = s.images ∧ (s.setLeaf reg bit).tap = s.tap ∧
    (s.setLeaf reg bit).fresh = s.fresh := by
  unfold State.setLeaf
  (repeat' split) <;> simp

@[simp] theorem frame_record (s : State) (type : Nat) (payload : List Byte) : (s.record type payload).pending = s.pending ∧
    (s.record type payload).deferred = s.deferred ∧ (s.record type payload).dev = s.dev ∧
    (s.record type payload).power = s.power ∧ (s.record type payload).clk = s.clk ∧
    (s.record type payload).fuses = s.fuses ∧ (s.record type payload).blobs = s.blobs ∧
    (s.record type payload).flash = s.flash ∧ (s.record type payload).auth = s.auth ∧
    (s.record type payload).spi = s.spi ∧ (s.record type payload).ring = s.ring ∧
    (s.record type payload).job = s.job ∧ (s.record type payload).heads = s.heads ∧
    (s.record type payload).sieve = s.sieve ∧ (s.record type payload).engine = s.engine ∧
    (s.record type payload).time = s.time ∧ (s.record type payload).motion = s.motion ∧
    (s.record type payload).dram = s.dram ∧ (s.record type payload).clocks = s.clocks ∧
    (s.record type payload).thermal = s.thermal ∧ (s.record type payload).images = s.images ∧
    (s.record type payload).tap = s.tap ∧ (s.record type payload).fresh = s.fresh := by
  unfold State.record
  (repeat' split) <;> simp

@[simp] theorem frame_enqueue (s : State) (e : EventRecord) : (s.enqueue e).pending = s.pending ∧
    (s.enqueue e).deferred = s.deferred ∧ (s.enqueue e).dev = s.dev ∧ (s.enqueue e).power = s.power ∧
    (s.enqueue e).clk = s.clk ∧ (s.enqueue e).fuses = s.fuses ∧ (s.enqueue e).blobs = s.blobs ∧
    (s.enqueue e).flash = s.flash ∧ (s.enqueue e).auth = s.auth ∧ (s.enqueue e).spi = s.spi ∧
    (s.enqueue e).ring = s.ring ∧ (s.enqueue e).job = s.job ∧ (s.enqueue e).heads = s.heads ∧
    (s.enqueue e).sieve = s.sieve ∧ (s.enqueue e).engine = s.engine ∧ (s.enqueue e).time = s.time ∧
    (s.enqueue e).motion = s.motion ∧ (s.enqueue e).dram = s.dram ∧ (s.enqueue e).clocks = s.clocks ∧
    (s.enqueue e).thermal = s.thermal ∧ (s.enqueue e).images = s.images ∧ (s.enqueue e).tap = s.tap ∧
    (s.enqueue e).fresh = s.fresh := by
  unfold State.enqueue
  (repeat' split) <;> simp

@[simp] theorem frame_enqueueAll (s : State) (l : List EventRecord) : (s.enqueueAll l).pending = s.pending ∧
    (s.enqueueAll l).deferred = s.deferred ∧ (s.enqueueAll l).dev = s.dev ∧ (s.enqueueAll l).power = s.power ∧
    (s.enqueueAll l).clk = s.clk ∧ (s.enqueueAll l).fuses = s.fuses ∧ (s.enqueueAll l).blobs = s.blobs ∧
    (s.enqueueAll l).flash = s.flash ∧ (s.enqueueAll l).auth = s.auth ∧ (s.enqueueAll l).spi = s.spi ∧
    (s.enqueueAll l).ring = s.ring ∧ (s.enqueueAll l).job = s.job ∧ (s.enqueueAll l).heads = s.heads ∧
    (s.enqueueAll l).sieve = s.sieve ∧ (s.enqueueAll l).engine = s.engine ∧ (s.enqueueAll l).time = s.time ∧
    (s.enqueueAll l).motion = s.motion ∧ (s.enqueueAll l).dram = s.dram ∧ (s.enqueueAll l).clocks = s.clocks ∧
    (s.enqueueAll l).thermal = s.thermal ∧ (s.enqueueAll l).images = s.images ∧ (s.enqueueAll l).tap = s.tap ∧
    (s.enqueueAll l).fresh = s.fresh := by
  unfold State.enqueueAll
  (repeat' split) <;> simp

@[simp] theorem frame_judged_pending (s : State) (p : Path) (r : Option Abort) (d : State) (b : List Byte) (h : d.pending = s.pending) : (s.judged p r d b).pending = s.pending := by
  unfold State.judged
  split <;> simp [h]
@[simp] theorem frame_judged_deferred (s : State) (p : Path) (r : Option Abort) (d : State) (b : List Byte) (h : d.deferred = s.deferred) : (s.judged p r d b).deferred = s.deferred := by
  unfold State.judged
  split <;> simp [h]
@[simp] theorem frame_judged_dev (s : State) (p : Path) (r : Option Abort) (d : State) (b : List Byte) (h : d.dev = s.dev) : (s.judged p r d b).dev = s.dev := by
  unfold State.judged
  split <;> simp [h]
@[simp] theorem frame_judged_power (s : State) (p : Path) (r : Option Abort) (d : State) (b : List Byte) (h : d.power = s.power) : (s.judged p r d b).power = s.power := by
  unfold State.judged
  split <;> simp [h]
@[simp] theorem frame_judged_clk (s : State) (p : Path) (r : Option Abort) (d : State) (b : List Byte) (h : d.clk = s.clk) : (s.judged p r d b).clk = s.clk := by
  unfold State.judged
  split <;> simp [h]
@[simp] theorem frame_judged_fuses (s : State) (p : Path) (r : Option Abort) (d : State) (b : List Byte) (h : d.fuses = s.fuses) : (s.judged p r d b).fuses = s.fuses := by
  unfold State.judged
  split <;> simp [h]
@[simp] theorem frame_judged_regs (s : State) (p : Path) (r : Option Abort) (d : State) (b : List Byte) (h : d.regs = s.regs) : (s.judged p r d b).regs = s.regs := by
  unfold State.judged
  split <;> simp [h]
@[simp] theorem frame_judged_blobs (s : State) (p : Path) (r : Option Abort) (d : State) (b : List Byte) (h : d.blobs = s.blobs) : (s.judged p r d b).blobs = s.blobs := by
  unfold State.judged
  split <;> simp [h]
@[simp] theorem frame_judged_flash (s : State) (p : Path) (r : Option Abort) (d : State) (b : List Byte) (h : d.flash = s.flash) : (s.judged p r d b).flash = s.flash := by
  unfold State.judged
  split <;> simp [h]
@[simp] theorem frame_judged_leaves (s : State) (p : Path) (r : Option Abort) (d : State) (b : List Byte) (h : d.leaves = s.leaves) : (s.judged p r d b).leaves = s.leaves := by
  unfold State.judged
  split <;> simp [h]
@[simp] theorem frame_judged_recorder (s : State) (p : Path) (r : Option Abort) (d : State) (b : List Byte) (h : d.recorder = s.recorder) : (s.judged p r d b).recorder = s.recorder := by
  unfold State.judged
  split <;> simp [h]
@[simp] theorem frame_judged_sessions (s : State) (p : Path) (r : Option Abort) (d : State) (b : List Byte) (h : d.sessions = s.sessions) : (s.judged p r d b).sessions = s.sessions := by
  unfold State.judged
  split <;> simp [h]
@[simp] theorem frame_judged_auth (s : State) (p : Path) (r : Option Abort) (d : State) (b : List Byte) (h : d.auth = s.auth) : (s.judged p r d b).auth = s.auth := by
  unfold State.judged
  split <;> simp [h]
@[simp] theorem frame_judged_spi (s : State) (p : Path) (r : Option Abort) (d : State) (b : List Byte) (h : d.spi = s.spi) : (s.judged p r d b).spi = s.spi := by
  unfold State.judged
  split <;> simp [h]
@[simp] theorem frame_judged_ring (s : State) (p : Path) (r : Option Abort) (d : State) (b : List Byte) (h : d.ring = s.ring) : (s.judged p r d b).ring = s.ring := by
  unfold State.judged
  split <;> simp [h]
@[simp] theorem frame_judged_ownWaiting (s : State) (p : Path) (r : Option Abort) (d : State) (b : List Byte) (h : d.ownWaiting = s.ownWaiting) : (s.judged p r d b).ownWaiting = s.ownWaiting := by
  unfold State.judged
  split <;> simp [h]
@[simp] theorem frame_judged_job (s : State) (p : Path) (r : Option Abort) (d : State) (b : List Byte) (h : d.job = s.job) : (s.judged p r d b).job = s.job := by
  unfold State.judged
  split <;> simp [h]
@[simp] theorem frame_judged_heads (s : State) (p : Path) (r : Option Abort) (d : State) (b : List Byte) (h : d.heads = s.heads) : (s.judged p r d b).heads = s.heads := by
  unfold State.judged
  split <;> simp [h]
@[simp] theorem frame_judged_sieve (s : State) (p : Path) (r : Option Abort) (d : State) (b : List Byte) (h : d.sieve = s.sieve) : (s.judged p r d b).sieve = s.sieve := by
  unfold State.judged
  split <;> simp [h]
@[simp] theorem frame_judged_engine (s : State) (p : Path) (r : Option Abort) (d : State) (b : List Byte) (h : d.engine = s.engine) : (s.judged p r d b).engine = s.engine := by
  unfold State.judged
  split <;> simp [h]
@[simp] theorem frame_judged_time (s : State) (p : Path) (r : Option Abort) (d : State) (b : List Byte) (h : d.time = s.time) : (s.judged p r d b).time = s.time := by
  unfold State.judged
  split <;> simp [h]
@[simp] theorem frame_judged_twin (s : State) (p : Path) (r : Option Abort) (d : State) (b : List Byte) (h : d.twin = s.twin) : (s.judged p r d b).twin = s.twin := by
  unfold State.judged
  split <;> simp [h]
@[simp] theorem frame_judged_motion (s : State) (p : Path) (r : Option Abort) (d : State) (b : List Byte) (h : d.motion = s.motion) : (s.judged p r d b).motion = s.motion := by
  unfold State.judged
  split <;> simp [h]
@[simp] theorem frame_judged_dram (s : State) (p : Path) (r : Option Abort) (d : State) (b : List Byte) (h : d.dram = s.dram) : (s.judged p r d b).dram = s.dram := by
  unfold State.judged
  split <;> simp [h]
@[simp] theorem frame_judged_clocks (s : State) (p : Path) (r : Option Abort) (d : State) (b : List Byte) (h : d.clocks = s.clocks) : (s.judged p r d b).clocks = s.clocks := by
  unfold State.judged
  split <;> simp [h]
@[simp] theorem frame_judged_thermal (s : State) (p : Path) (r : Option Abort) (d : State) (b : List Byte) (h : d.thermal = s.thermal) : (s.judged p r d b).thermal = s.thermal := by
  unfold State.judged
  split <;> simp [h]
@[simp] theorem frame_judged_images (s : State) (p : Path) (r : Option Abort) (d : State) (b : List Byte) (h : d.images = s.images) : (s.judged p r d b).images = s.images := by
  unfold State.judged
  split <;> simp [h]
@[simp] theorem frame_judged_tap (s : State) (p : Path) (r : Option Abort) (d : State) (b : List Byte) (h : d.tap = s.tap) : (s.judged p r d b).tap = s.tap := by
  unfold State.judged
  split <;> simp [h]
@[simp] theorem frame_judged_fresh (s : State) (p : Path) (r : Option Abort) (d : State) (b : List Byte) (h : d.fresh = s.fresh) : (s.judged p r d b).fresh = s.fresh := by
  unfold State.judged
  split <;> simp [h]

@[simp] theorem frame_access_pending (s : State) (p : Path) (r : Option Abort) (d : State) (b : List Byte) (h : d.pending = s.pending) : (s.access p r d b).pending = s.pending := by
  unfold State.access
  split <;> simp [h]
@[simp] theorem frame_access_deferred (s : State) (p : Path) (r : Option Abort) (d : State) (b : List Byte) (h : d.deferred = s.deferred) : (s.access p r d b).deferred = s.deferred := by
  unfold State.access
  split <;> simp [h]
@[simp] theorem frame_access_dev (s : State) (p : Path) (r : Option Abort) (d : State) (b : List Byte) (h : d.dev = s.dev) : (s.access p r d b).dev = s.dev := by
  unfold State.access
  split <;> simp [h]
@[simp] theorem frame_access_power (s : State) (p : Path) (r : Option Abort) (d : State) (b : List Byte) (h : d.power = s.power) : (s.access p r d b).power = s.power := by
  unfold State.access
  split <;> simp [h]
@[simp] theorem frame_access_clk (s : State) (p : Path) (r : Option Abort) (d : State) (b : List Byte) (h : d.clk = s.clk) : (s.access p r d b).clk = s.clk := by
  unfold State.access
  split <;> simp [h]
@[simp] theorem frame_access_fuses (s : State) (p : Path) (r : Option Abort) (d : State) (b : List Byte) (h : d.fuses = s.fuses) : (s.access p r d b).fuses = s.fuses := by
  unfold State.access
  split <;> simp [h]
@[simp] theorem frame_access_regs (s : State) (p : Path) (r : Option Abort) (d : State) (b : List Byte) (h : d.regs = s.regs) : (s.access p r d b).regs = s.regs := by
  unfold State.access
  split <;> simp [h]
@[simp] theorem frame_access_blobs (s : State) (p : Path) (r : Option Abort) (d : State) (b : List Byte) (h : d.blobs = s.blobs) : (s.access p r d b).blobs = s.blobs := by
  unfold State.access
  split <;> simp [h]
@[simp] theorem frame_access_flash (s : State) (p : Path) (r : Option Abort) (d : State) (b : List Byte) (h : d.flash = s.flash) : (s.access p r d b).flash = s.flash := by
  unfold State.access
  split <;> simp [h]
@[simp] theorem frame_access_leaves (s : State) (p : Path) (r : Option Abort) (d : State) (b : List Byte) (h : d.leaves = s.leaves) : (s.access p r d b).leaves = s.leaves := by
  unfold State.access
  split <;> simp [h]
@[simp] theorem frame_access_recorder (s : State) (p : Path) (r : Option Abort) (d : State) (b : List Byte) (h : d.recorder = s.recorder) : (s.access p r d b).recorder = s.recorder := by
  unfold State.access
  split <;> simp [h]
@[simp] theorem frame_access_sessions (s : State) (p : Path) (r : Option Abort) (d : State) (b : List Byte) (h : d.sessions = s.sessions) : (s.access p r d b).sessions = s.sessions := by
  unfold State.access
  split <;> simp [h]
@[simp] theorem frame_access_auth (s : State) (p : Path) (r : Option Abort) (d : State) (b : List Byte) (h : d.auth = s.auth) : (s.access p r d b).auth = s.auth := by
  unfold State.access
  split <;> simp [h]
@[simp] theorem frame_access_spi (s : State) (p : Path) (r : Option Abort) (d : State) (b : List Byte) (h : d.spi = s.spi) : (s.access p r d b).spi = s.spi := by
  unfold State.access
  split <;> simp [h]
@[simp] theorem frame_access_ring (s : State) (p : Path) (r : Option Abort) (d : State) (b : List Byte) (h : d.ring = s.ring) : (s.access p r d b).ring = s.ring := by
  unfold State.access
  split <;> simp [h]
@[simp] theorem frame_access_ownWaiting (s : State) (p : Path) (r : Option Abort) (d : State) (b : List Byte) (h : d.ownWaiting = s.ownWaiting) : (s.access p r d b).ownWaiting = s.ownWaiting := by
  unfold State.access
  split <;> simp [h]
@[simp] theorem frame_access_job (s : State) (p : Path) (r : Option Abort) (d : State) (b : List Byte) (h : d.job = s.job) : (s.access p r d b).job = s.job := by
  unfold State.access
  split <;> simp [h]
@[simp] theorem frame_access_heads (s : State) (p : Path) (r : Option Abort) (d : State) (b : List Byte) (h : d.heads = s.heads) : (s.access p r d b).heads = s.heads := by
  unfold State.access
  split <;> simp [h]
@[simp] theorem frame_access_sieve (s : State) (p : Path) (r : Option Abort) (d : State) (b : List Byte) (h : d.sieve = s.sieve) : (s.access p r d b).sieve = s.sieve := by
  unfold State.access
  split <;> simp [h]
@[simp] theorem frame_access_engine (s : State) (p : Path) (r : Option Abort) (d : State) (b : List Byte) (h : d.engine = s.engine) : (s.access p r d b).engine = s.engine := by
  unfold State.access
  split <;> simp [h]
@[simp] theorem frame_access_time (s : State) (p : Path) (r : Option Abort) (d : State) (b : List Byte) (h : d.time = s.time) : (s.access p r d b).time = s.time := by
  unfold State.access
  split <;> simp [h]
@[simp] theorem frame_access_twin (s : State) (p : Path) (r : Option Abort) (d : State) (b : List Byte) (h : d.twin = s.twin) : (s.access p r d b).twin = s.twin := by
  unfold State.access
  split <;> simp [h]
@[simp] theorem frame_access_motion (s : State) (p : Path) (r : Option Abort) (d : State) (b : List Byte) (h : d.motion = s.motion) : (s.access p r d b).motion = s.motion := by
  unfold State.access
  split <;> simp [h]
@[simp] theorem frame_access_dram (s : State) (p : Path) (r : Option Abort) (d : State) (b : List Byte) (h : d.dram = s.dram) : (s.access p r d b).dram = s.dram := by
  unfold State.access
  split <;> simp [h]
@[simp] theorem frame_access_clocks (s : State) (p : Path) (r : Option Abort) (d : State) (b : List Byte) (h : d.clocks = s.clocks) : (s.access p r d b).clocks = s.clocks := by
  unfold State.access
  split <;> simp [h]
@[simp] theorem frame_access_thermal (s : State) (p : Path) (r : Option Abort) (d : State) (b : List Byte) (h : d.thermal = s.thermal) : (s.access p r d b).thermal = s.thermal := by
  unfold State.access
  split <;> simp [h]
@[simp] theorem frame_access_images (s : State) (p : Path) (r : Option Abort) (d : State) (b : List Byte) (h : d.images = s.images) : (s.access p r d b).images = s.images := by
  unfold State.access
  split <;> simp [h]
@[simp] theorem frame_access_tap (s : State) (p : Path) (r : Option Abort) (d : State) (b : List Byte) (h : d.tap = s.tap) : (s.access p r d b).tap = s.tap := by
  unfold State.access
  split <;> simp [h]
@[simp] theorem frame_access_fresh (s : State) (p : Path) (r : Option Abort) (d : State) (b : List Byte) (h : d.fresh = s.fresh) : (s.access p r d b).fresh = s.fresh := by
  unfold State.access
  split <;> simp [h]

@[simp] theorem frame_inTurn_pending (s : State) (c : Instr) (d : State) (h : d.pending = s.pending) : (s.inTurn c d).pending = s.pending := by
  unfold State.inTurn
  (repeat' split) <;> simp [h]
@[simp] theorem frame_inTurn_dev (s : State) (c : Instr) (d : State) (h : d.dev = s.dev) : (s.inTurn c d).dev = s.dev := by
  unfold State.inTurn
  (repeat' split) <;> simp [h]
@[simp] theorem frame_inTurn_power (s : State) (c : Instr) (d : State) (h : d.power = s.power) : (s.inTurn c d).power = s.power := by
  unfold State.inTurn
  (repeat' split) <;> simp [h]
@[simp] theorem frame_inTurn_clk (s : State) (c : Instr) (d : State) (h : d.clk = s.clk) : (s.inTurn c d).clk = s.clk := by
  unfold State.inTurn
  (repeat' split) <;> simp [h]
@[simp] theorem frame_inTurn_fuses (s : State) (c : Instr) (d : State) (h : d.fuses = s.fuses) : (s.inTurn c d).fuses = s.fuses := by
  unfold State.inTurn
  (repeat' split) <;> simp [h]
@[simp] theorem frame_inTurn_regs (s : State) (c : Instr) (d : State) (h : d.regs = s.regs) : (s.inTurn c d).regs = s.regs := by
  unfold State.inTurn
  (repeat' split) <;> simp [h]
@[simp] theorem frame_inTurn_blobs (s : State) (c : Instr) (d : State) (h : d.blobs = s.blobs) : (s.inTurn c d).blobs = s.blobs := by
  unfold State.inTurn
  (repeat' split) <;> simp [h]
@[simp] theorem frame_inTurn_flash (s : State) (c : Instr) (d : State) (h : d.flash = s.flash) : (s.inTurn c d).flash = s.flash := by
  unfold State.inTurn
  (repeat' split) <;> simp [h]
@[simp] theorem frame_inTurn_leaves (s : State) (c : Instr) (d : State) (h : d.leaves = s.leaves) : (s.inTurn c d).leaves = s.leaves := by
  unfold State.inTurn
  (repeat' split) <;> simp [h]
@[simp] theorem frame_inTurn_recorder (s : State) (c : Instr) (d : State) (h : d.recorder = s.recorder) : (s.inTurn c d).recorder = s.recorder := by
  unfold State.inTurn
  (repeat' split) <;> simp [h]
@[simp] theorem frame_inTurn_sessions (s : State) (c : Instr) (d : State) (h : d.sessions = s.sessions) : (s.inTurn c d).sessions = s.sessions := by
  unfold State.inTurn
  (repeat' split) <;> simp [h]
@[simp] theorem frame_inTurn_auth (s : State) (c : Instr) (d : State) (h : d.auth = s.auth) : (s.inTurn c d).auth = s.auth := by
  unfold State.inTurn
  (repeat' split) <;> simp [h]
@[simp] theorem frame_inTurn_spi (s : State) (c : Instr) (d : State) (h : d.spi = s.spi) : (s.inTurn c d).spi = s.spi := by
  unfold State.inTurn
  (repeat' split) <;> simp [h]
@[simp] theorem frame_inTurn_ring (s : State) (c : Instr) (d : State) (h : d.ring = s.ring) : (s.inTurn c d).ring = s.ring := by
  unfold State.inTurn
  (repeat' split) <;> simp [h]
@[simp] theorem frame_inTurn_ownWaiting (s : State) (c : Instr) (d : State) (h : d.ownWaiting = s.ownWaiting) : (s.inTurn c d).ownWaiting = s.ownWaiting := by
  unfold State.inTurn
  (repeat' split) <;> simp [h]
@[simp] theorem frame_inTurn_out (s : State) (c : Instr) (d : State) (h : d.out = s.out) : (s.inTurn c d).out = s.out := by
  unfold State.inTurn
  (repeat' split) <;> simp [h]
@[simp] theorem frame_inTurn_job (s : State) (c : Instr) (d : State) (h : d.job = s.job) : (s.inTurn c d).job = s.job := by
  unfold State.inTurn
  (repeat' split) <;> simp [h]
@[simp] theorem frame_inTurn_heads (s : State) (c : Instr) (d : State) (h : d.heads = s.heads) : (s.inTurn c d).heads = s.heads := by
  unfold State.inTurn
  (repeat' split) <;> simp [h]
@[simp] theorem frame_inTurn_sieve (s : State) (c : Instr) (d : State) (h : d.sieve = s.sieve) : (s.inTurn c d).sieve = s.sieve := by
  unfold State.inTurn
  (repeat' split) <;> simp [h]
@[simp] theorem frame_inTurn_engine (s : State) (c : Instr) (d : State) (h : d.engine = s.engine) : (s.inTurn c d).engine = s.engine := by
  unfold State.inTurn
  (repeat' split) <;> simp [h]
@[simp] theorem frame_inTurn_time (s : State) (c : Instr) (d : State) (h : d.time = s.time) : (s.inTurn c d).time = s.time := by
  unfold State.inTurn
  (repeat' split) <;> simp [h]
@[simp] theorem frame_inTurn_twin (s : State) (c : Instr) (d : State) (h : d.twin = s.twin) : (s.inTurn c d).twin = s.twin := by
  unfold State.inTurn
  (repeat' split) <;> simp [h]
@[simp] theorem frame_inTurn_motion (s : State) (c : Instr) (d : State) (h : d.motion = s.motion) : (s.inTurn c d).motion = s.motion := by
  unfold State.inTurn
  (repeat' split) <;> simp [h]
@[simp] theorem frame_inTurn_dram (s : State) (c : Instr) (d : State) (h : d.dram = s.dram) : (s.inTurn c d).dram = s.dram := by
  unfold State.inTurn
  (repeat' split) <;> simp [h]
@[simp] theorem frame_inTurn_clocks (s : State) (c : Instr) (d : State) (h : d.clocks = s.clocks) : (s.inTurn c d).clocks = s.clocks := by
  unfold State.inTurn
  (repeat' split) <;> simp [h]
@[simp] theorem frame_inTurn_thermal (s : State) (c : Instr) (d : State) (h : d.thermal = s.thermal) : (s.inTurn c d).thermal = s.thermal := by
  unfold State.inTurn
  (repeat' split) <;> simp [h]
@[simp] theorem frame_inTurn_images (s : State) (c : Instr) (d : State) (h : d.images = s.images) : (s.inTurn c d).images = s.images := by
  unfold State.inTurn
  (repeat' split) <;> simp [h]
@[simp] theorem frame_inTurn_tap (s : State) (c : Instr) (d : State) (h : d.tap = s.tap) : (s.inTurn c d).tap = s.tap := by
  unfold State.inTurn
  (repeat' split) <;> simp [h]
@[simp] theorem frame_inTurn_fresh (s : State) (c : Instr) (d : State) (h : d.fresh = s.fresh) : (s.inTurn c d).fresh = s.fresh := by
  unfold State.inTurn
  (repeat' split) <;> simp [h]

@[simp] theorem frame_inTurnOf_pending (s : State) (p : Path) (c : Instr) (d : State) (h : d.pending = s.pending) : (s.inTurnOf p c d).pending = s.pending := by
  unfold State.inTurnOf
  (repeat' split) <;> simp [h]
@[simp] theorem frame_inTurnOf_dev (s : State) (p : Path) (c : Instr) (d : State) (h : d.dev = s.dev) : (s.inTurnOf p c d).dev = s.dev := by
  unfold State.inTurnOf
  (repeat' split) <;> simp [h]
@[simp] theorem frame_inTurnOf_power (s : State) (p : Path) (c : Instr) (d : State) (h : d.power = s.power) : (s.inTurnOf p c d).power = s.power := by
  unfold State.inTurnOf
  (repeat' split) <;> simp [h]
@[simp] theorem frame_inTurnOf_clk (s : State) (p : Path) (c : Instr) (d : State) (h : d.clk = s.clk) : (s.inTurnOf p c d).clk = s.clk := by
  unfold State.inTurnOf
  (repeat' split) <;> simp [h]
@[simp] theorem frame_inTurnOf_fuses (s : State) (p : Path) (c : Instr) (d : State) (h : d.fuses = s.fuses) : (s.inTurnOf p c d).fuses = s.fuses := by
  unfold State.inTurnOf
  (repeat' split) <;> simp [h]
@[simp] theorem frame_inTurnOf_regs (s : State) (p : Path) (c : Instr) (d : State) (h : d.regs = s.regs) : (s.inTurnOf p c d).regs = s.regs := by
  unfold State.inTurnOf
  (repeat' split) <;> simp [h]
@[simp] theorem frame_inTurnOf_blobs (s : State) (p : Path) (c : Instr) (d : State) (h : d.blobs = s.blobs) : (s.inTurnOf p c d).blobs = s.blobs := by
  unfold State.inTurnOf
  (repeat' split) <;> simp [h]
@[simp] theorem frame_inTurnOf_flash (s : State) (p : Path) (c : Instr) (d : State) (h : d.flash = s.flash) : (s.inTurnOf p c d).flash = s.flash := by
  unfold State.inTurnOf
  (repeat' split) <;> simp [h]
@[simp] theorem frame_inTurnOf_leaves (s : State) (p : Path) (c : Instr) (d : State) (h : d.leaves = s.leaves) : (s.inTurnOf p c d).leaves = s.leaves := by
  unfold State.inTurnOf
  (repeat' split) <;> simp [h]
@[simp] theorem frame_inTurnOf_recorder (s : State) (p : Path) (c : Instr) (d : State) (h : d.recorder = s.recorder) : (s.inTurnOf p c d).recorder = s.recorder := by
  unfold State.inTurnOf
  (repeat' split) <;> simp [h]
@[simp] theorem frame_inTurnOf_sessions (s : State) (p : Path) (c : Instr) (d : State) (h : d.sessions = s.sessions) : (s.inTurnOf p c d).sessions = s.sessions := by
  unfold State.inTurnOf
  (repeat' split) <;> simp [h]
@[simp] theorem frame_inTurnOf_auth (s : State) (p : Path) (c : Instr) (d : State) (h : d.auth = s.auth) : (s.inTurnOf p c d).auth = s.auth := by
  unfold State.inTurnOf
  (repeat' split) <;> simp [h]
@[simp] theorem frame_inTurnOf_spi (s : State) (p : Path) (c : Instr) (d : State) (h : d.spi = s.spi) : (s.inTurnOf p c d).spi = s.spi := by
  unfold State.inTurnOf
  (repeat' split) <;> simp [h]
@[simp] theorem frame_inTurnOf_ring (s : State) (p : Path) (c : Instr) (d : State) (h : d.ring = s.ring) : (s.inTurnOf p c d).ring = s.ring := by
  unfold State.inTurnOf
  (repeat' split) <;> simp [h]
@[simp] theorem frame_inTurnOf_ownWaiting (s : State) (p : Path) (c : Instr) (d : State) (h : d.ownWaiting = s.ownWaiting) : (s.inTurnOf p c d).ownWaiting = s.ownWaiting := by
  unfold State.inTurnOf
  (repeat' split) <;> simp [h]
@[simp] theorem frame_inTurnOf_out (s : State) (p : Path) (c : Instr) (d : State) (h : d.out = s.out) : (s.inTurnOf p c d).out = s.out := by
  unfold State.inTurnOf
  (repeat' split) <;> simp [h]
@[simp] theorem frame_inTurnOf_job (s : State) (p : Path) (c : Instr) (d : State) (h : d.job = s.job) : (s.inTurnOf p c d).job = s.job := by
  unfold State.inTurnOf
  (repeat' split) <;> simp [h]
@[simp] theorem frame_inTurnOf_heads (s : State) (p : Path) (c : Instr) (d : State) (h : d.heads = s.heads) : (s.inTurnOf p c d).heads = s.heads := by
  unfold State.inTurnOf
  (repeat' split) <;> simp [h]
@[simp] theorem frame_inTurnOf_sieve (s : State) (p : Path) (c : Instr) (d : State) (h : d.sieve = s.sieve) : (s.inTurnOf p c d).sieve = s.sieve := by
  unfold State.inTurnOf
  (repeat' split) <;> simp [h]
@[simp] theorem frame_inTurnOf_engine (s : State) (p : Path) (c : Instr) (d : State) (h : d.engine = s.engine) : (s.inTurnOf p c d).engine = s.engine := by
  unfold State.inTurnOf
  (repeat' split) <;> simp [h]
@[simp] theorem frame_inTurnOf_time (s : State) (p : Path) (c : Instr) (d : State) (h : d.time = s.time) : (s.inTurnOf p c d).time = s.time := by
  unfold State.inTurnOf
  (repeat' split) <;> simp [h]
@[simp] theorem frame_inTurnOf_twin (s : State) (p : Path) (c : Instr) (d : State) (h : d.twin = s.twin) : (s.inTurnOf p c d).twin = s.twin := by
  unfold State.inTurnOf
  (repeat' split) <;> simp [h]
@[simp] theorem frame_inTurnOf_motion (s : State) (p : Path) (c : Instr) (d : State) (h : d.motion = s.motion) : (s.inTurnOf p c d).motion = s.motion := by
  unfold State.inTurnOf
  (repeat' split) <;> simp [h]
@[simp] theorem frame_inTurnOf_dram (s : State) (p : Path) (c : Instr) (d : State) (h : d.dram = s.dram) : (s.inTurnOf p c d).dram = s.dram := by
  unfold State.inTurnOf
  (repeat' split) <;> simp [h]
@[simp] theorem frame_inTurnOf_clocks (s : State) (p : Path) (c : Instr) (d : State) (h : d.clocks = s.clocks) : (s.inTurnOf p c d).clocks = s.clocks := by
  unfold State.inTurnOf
  (repeat' split) <;> simp [h]
@[simp] theorem frame_inTurnOf_thermal (s : State) (p : Path) (c : Instr) (d : State) (h : d.thermal = s.thermal) : (s.inTurnOf p c d).thermal = s.thermal := by
  unfold State.inTurnOf
  (repeat' split) <;> simp [h]
@[simp] theorem frame_inTurnOf_images (s : State) (p : Path) (c : Instr) (d : State) (h : d.images = s.images) : (s.inTurnOf p c d).images = s.images := by
  unfold State.inTurnOf
  (repeat' split) <;> simp [h]
@[simp] theorem frame_inTurnOf_tap (s : State) (p : Path) (c : Instr) (d : State) (h : d.tap = s.tap) : (s.inTurnOf p c d).tap = s.tap := by
  unfold State.inTurnOf
  (repeat' split) <;> simp [h]
@[simp] theorem frame_inTurnOf_fresh (s : State) (p : Path) (c : Instr) (d : State) (h : d.fresh = s.fresh) : (s.inTurnOf p c d).fresh = s.fresh := by
  unfold State.inTurnOf
  (repeat' split) <;> simp [h]

@[simp] theorem frame_drawChallenge (s : State) (p : Path) : (s.drawChallenge p).pending = s.pending ∧
    (s.drawChallenge p).deferred = s.deferred ∧ (s.drawChallenge p).dev = s.dev ∧
    (s.drawChallenge p).power = s.power ∧ (s.drawChallenge p).clk = s.clk ∧ (s.drawChallenge p).fuses = s.fuses ∧
    (s.drawChallenge p).regs = s.regs ∧ (s.drawChallenge p).blobs = s.blobs ∧ (s.drawChallenge p).flash = s.flash ∧
    (s.drawChallenge p).leaves = s.leaves ∧ (s.drawChallenge p).recorder = s.recorder ∧
    (s.drawChallenge p).spi = s.spi ∧ (s.drawChallenge p).ring = s.ring ∧
    (s.drawChallenge p).ownWaiting = s.ownWaiting ∧ (s.drawChallenge p).out = s.out ∧
    (s.drawChallenge p).job = s.job ∧ (s.drawChallenge p).heads = s.heads ∧ (s.drawChallenge p).sieve = s.sieve ∧
    (s.drawChallenge p).engine = s.engine ∧ (s.drawChallenge p).time = s.time ∧ (s.drawChallenge p).twin = s.twin ∧
    (s.drawChallenge p).motion = s.motion ∧ (s.drawChallenge p).dram = s.dram ∧
    (s.drawChallenge p).clocks = s.clocks ∧ (s.drawChallenge p).thermal = s.thermal ∧
    (s.drawChallenge p).images = s.images ∧ (s.drawChallenge p).tap = s.tap ∧
    (s.drawChallenge p).fresh = s.fresh := by
  unfold State.drawChallenge
  (repeat' split) <;> simp

@[simp] theorem frame_execChallenge (path : Path) (s : State) (s0 : State) : (outcomeState s0 (execChallenge path s)).pending = s.pending ∧
    (outcomeState s0 (execChallenge path s)).dev = s.dev ∧ (outcomeState s0 (execChallenge path s)).power = s.power ∧
    (outcomeState s0 (execChallenge path s)).clk = s.clk ∧ (outcomeState s0 (execChallenge path s)).fuses = s.fuses ∧
    (outcomeState s0 (execChallenge path s)).regs = s.regs ∧
    (outcomeState s0 (execChallenge path s)).blobs = s.blobs ∧
    (outcomeState s0 (execChallenge path s)).flash = s.flash ∧
    (outcomeState s0 (execChallenge path s)).leaves = s.leaves ∧
    (outcomeState s0 (execChallenge path s)).recorder = s.recorder ∧
    (outcomeState s0 (execChallenge path s)).spi = s.spi ∧ (outcomeState s0 (execChallenge path s)).ring = s.ring ∧
    (outcomeState s0 (execChallenge path s)).ownWaiting = s.ownWaiting ∧
    (outcomeState s0 (execChallenge path s)).job = s.job ∧ (outcomeState s0 (execChallenge path s)).heads = s.heads ∧
    (outcomeState s0 (execChallenge path s)).sieve = s.sieve ∧
    (outcomeState s0 (execChallenge path s)).engine = s.engine ∧
    (outcomeState s0 (execChallenge path s)).time = s.time ∧ (outcomeState s0 (execChallenge path s)).twin = s.twin ∧
    (outcomeState s0 (execChallenge path s)).motion = s.motion ∧
    (outcomeState s0 (execChallenge path s)).dram = s.dram ∧
    (outcomeState s0 (execChallenge path s)).clocks = s.clocks ∧
    (outcomeState s0 (execChallenge path s)).thermal = s.thermal ∧
    (outcomeState s0 (execChallenge path s)).images = s.images ∧
    (outcomeState s0 (execChallenge path s)).tap = s.tap ∧
    (outcomeState s0 (execChallenge path s)).fresh = s.fresh := by
  simp only [execChallenge]
  (repeat' split) <;> simp

@[simp] theorem frame_spendChallenge (s : State) (p : Path) : (s.spendChallenge p).pending = s.pending ∧
    (s.spendChallenge p).deferred = s.deferred ∧ (s.spendChallenge p).dev = s.dev ∧
    (s.spendChallenge p).power = s.power ∧ (s.spendChallenge p).clk = s.clk ∧ (s.spendChallenge p).fuses = s.fuses ∧
    (s.spendChallenge p).regs = s.regs ∧ (s.spendChallenge p).blobs = s.blobs ∧ (s.spendChallenge p).flash = s.flash ∧
    (s.spendChallenge p).leaves = s.leaves ∧ (s.spendChallenge p).recorder = s.recorder ∧
    (s.spendChallenge p).auth = s.auth ∧ (s.spendChallenge p).spi = s.spi ∧ (s.spendChallenge p).ring = s.ring ∧
    (s.spendChallenge p).ownWaiting = s.ownWaiting ∧ (s.spendChallenge p).out = s.out ∧
    (s.spendChallenge p).job = s.job ∧ (s.spendChallenge p).heads = s.heads ∧ (s.spendChallenge p).sieve = s.sieve ∧
    (s.spendChallenge p).engine = s.engine ∧ (s.spendChallenge p).time = s.time ∧ (s.spendChallenge p).twin = s.twin ∧
    (s.spendChallenge p).motion = s.motion ∧ (s.spendChallenge p).dram = s.dram ∧
    (s.spendChallenge p).clocks = s.clocks ∧ (s.spendChallenge p).thermal = s.thermal ∧
    (s.spendChallenge p).images = s.images ∧ (s.spendChallenge p).tap = s.tap ∧
    (s.spendChallenge p).fresh = s.fresh := by
  unfold State.spendChallenge
  (repeat' split) <;> simp

@[simp] theorem frame_grantService (s : State) (p : Path) : (s.grantService p).pending = s.pending ∧
    (s.grantService p).deferred = s.deferred ∧ (s.grantService p).dev = s.dev ∧ (s.grantService p).power = s.power ∧
    (s.grantService p).clk = s.clk ∧ (s.grantService p).fuses = s.fuses ∧ (s.grantService p).blobs = s.blobs ∧
    (s.grantService p).flash = s.flash ∧ (s.grantService p).spi = s.spi ∧ (s.grantService p).ring = s.ring ∧
    (s.grantService p).job = s.job ∧ (s.grantService p).heads = s.heads ∧ (s.grantService p).sieve = s.sieve ∧
    (s.grantService p).engine = s.engine ∧ (s.grantService p).time = s.time ∧ (s.grantService p).motion = s.motion ∧
    (s.grantService p).dram = s.dram ∧ (s.grantService p).clocks = s.clocks ∧ (s.grantService p).thermal = s.thermal ∧
    (s.grantService p).images = s.images ∧ (s.grantService p).tap = s.tap ∧ (s.grantService p).fresh = s.fresh := by
  unfold State.grantService
  (repeat' split) <;> simp

@[simp] theorem frame_wrongResponse (s : State) (p : Path) : (s.wrongResponse p).pending = s.pending ∧
    (s.wrongResponse p).deferred = s.deferred ∧ (s.wrongResponse p).dev = s.dev ∧
    (s.wrongResponse p).power = s.power ∧ (s.wrongResponse p).clk = s.clk ∧ (s.wrongResponse p).fuses = s.fuses ∧
    (s.wrongResponse p).blobs = s.blobs ∧ (s.wrongResponse p).flash = s.flash ∧ (s.wrongResponse p).spi = s.spi ∧
    (s.wrongResponse p).ring = s.ring ∧ (s.wrongResponse p).job = s.job ∧ (s.wrongResponse p).heads = s.heads ∧
    (s.wrongResponse p).sieve = s.sieve ∧ (s.wrongResponse p).engine = s.engine ∧ (s.wrongResponse p).time = s.time ∧
    (s.wrongResponse p).motion = s.motion ∧ (s.wrongResponse p).dram = s.dram ∧
    (s.wrongResponse p).clocks = s.clocks ∧ (s.wrongResponse p).thermal = s.thermal ∧
    (s.wrongResponse p).images = s.images ∧ (s.wrongResponse p).tap = s.tap ∧
    (s.wrongResponse p).fresh = s.fresh := by
  unfold State.wrongResponse
  (repeat' split) <;> simp

@[simp] theorem frame_judgeResponse (s : State) (p : Path) (data : List Byte) : (s.judgeResponse p data).pending = s.pending ∧
    (s.judgeResponse p data).deferred = s.deferred ∧ (s.judgeResponse p data).dev = s.dev ∧
    (s.judgeResponse p data).power = s.power ∧ (s.judgeResponse p data).clk = s.clk ∧
    (s.judgeResponse p data).fuses = s.fuses ∧ (s.judgeResponse p data).blobs = s.blobs ∧
    (s.judgeResponse p data).flash = s.flash ∧ (s.judgeResponse p data).spi = s.spi ∧
    (s.judgeResponse p data).ring = s.ring ∧ (s.judgeResponse p data).job = s.job ∧
    (s.judgeResponse p data).heads = s.heads ∧ (s.judgeResponse p data).sieve = s.sieve ∧
    (s.judgeResponse p data).engine = s.engine ∧ (s.judgeResponse p data).time = s.time ∧
    (s.judgeResponse p data).motion = s.motion ∧ (s.judgeResponse p data).dram = s.dram ∧
    (s.judgeResponse p data).clocks = s.clocks ∧ (s.judgeResponse p data).thermal = s.thermal ∧
    (s.judgeResponse p data).images = s.images ∧ (s.judgeResponse p data).tap = s.tap ∧
    (s.judgeResponse p data).fresh = s.fresh := by
  unfold State.judgeResponse
  (repeat' split) <;> simp

@[simp] theorem frame_execResponse (path : Path) (data : List Byte) (s : State) (s0 : State) : (outcomeState s0 (execResponse path data s)).pending = s.pending ∧
    (outcomeState s0 (execResponse path data s)).dev = s.dev ∧
    (outcomeState s0 (execResponse path data s)).power = s.power ∧
    (outcomeState s0 (execResponse path data s)).clk = s.clk ∧
    (outcomeState s0 (execResponse path data s)).fuses = s.fuses ∧
    (outcomeState s0 (execResponse path data s)).blobs = s.blobs ∧
    (outcomeState s0 (execResponse path data s)).flash = s.flash ∧
    (outcomeState s0 (execResponse path data s)).spi = s.spi ∧
    (outcomeState s0 (execResponse path data s)).ring = s.ring ∧
    (outcomeState s0 (execResponse path data s)).job = s.job ∧
    (outcomeState s0 (execResponse path data s)).heads = s.heads ∧
    (outcomeState s0 (execResponse path data s)).sieve = s.sieve ∧
    (outcomeState s0 (execResponse path data s)).engine = s.engine ∧
    (outcomeState s0 (execResponse path data s)).time = s.time ∧
    (outcomeState s0 (execResponse path data s)).motion = s.motion ∧
    (outcomeState s0 (execResponse path data s)).dram = s.dram ∧
    (outcomeState s0 (execResponse path data s)).clocks = s.clocks ∧
    (outcomeState s0 (execResponse path data s)).thermal = s.thermal ∧
    (outcomeState s0 (execResponse path data s)).images = s.images ∧
    (outcomeState s0 (execResponse path data s)).tap = s.tap ∧
    (outcomeState s0 (execResponse path data s)).fresh = s.fresh := by
  simp only [execResponse]
  (repeat' split) <;> simp

@[simp] theorem frame_dropLevel (s : State) (p : Path) (value : Nat) : (s.dropLevel p value).pending = s.pending ∧
    (s.dropLevel p value).deferred = s.deferred ∧ (s.dropLevel p value).dev = s.dev ∧
    (s.dropLevel p value).power = s.power ∧ (s.dropLevel p value).clk = s.clk ∧
    (s.dropLevel p value).fuses = s.fuses ∧ (s.dropLevel p value).regs = s.regs ∧
    (s.dropLevel p value).blobs = s.blobs ∧ (s.dropLevel p value).flash = s.flash ∧
    (s.dropLevel p value).leaves = s.leaves ∧ (s.dropLevel p value).recorder = s.recorder ∧
    (s.dropLevel p value).auth = s.auth ∧ (s.dropLevel p value).spi = s.spi ∧ (s.dropLevel p value).ring = s.ring ∧
    (s.dropLevel p value).ownWaiting = s.ownWaiting ∧ (s.dropLevel p value).out = s.out ∧
    (s.dropLevel p value).job = s.job ∧ (s.dropLevel p value).heads = s.heads ∧
    (s.dropLevel p value).sieve = s.sieve ∧ (s.dropLevel p value).engine = s.engine ∧
    (s.dropLevel p value).time = s.time ∧ (s.dropLevel p value).twin = s.twin ∧
    (s.dropLevel p value).motion = s.motion ∧ (s.dropLevel p value).dram = s.dram ∧
    (s.dropLevel p value).clocks = s.clocks ∧ (s.dropLevel p value).thermal = s.thermal ∧
    (s.dropLevel p value).images = s.images ∧ (s.dropLevel p value).tap = s.tap ∧
    (s.dropLevel p value).fresh = s.fresh := by
  unfold State.dropLevel
  (repeat' split) <;> simp

@[simp] theorem frame_execDrop (path : Path) (s : State) (s0 : State) : (outcomeState s0 (execDrop path s)).pending = s.pending ∧
    (outcomeState s0 (execDrop path s)).dev = s.dev ∧ (outcomeState s0 (execDrop path s)).power = s.power ∧
    (outcomeState s0 (execDrop path s)).clk = s.clk ∧ (outcomeState s0 (execDrop path s)).fuses = s.fuses ∧
    (outcomeState s0 (execDrop path s)).regs = s.regs ∧ (outcomeState s0 (execDrop path s)).blobs = s.blobs ∧
    (outcomeState s0 (execDrop path s)).flash = s.flash ∧ (outcomeState s0 (execDrop path s)).leaves = s.leaves ∧
    (outcomeState s0 (execDrop path s)).recorder = s.recorder ∧ (outcomeState s0 (execDrop path s)).auth = s.auth ∧
    (outcomeState s0 (execDrop path s)).spi = s.spi ∧ (outcomeState s0 (execDrop path s)).ring = s.ring ∧
    (outcomeState s0 (execDrop path s)).ownWaiting = s.ownWaiting ∧ (outcomeState s0 (execDrop path s)).job = s.job ∧
    (outcomeState s0 (execDrop path s)).heads = s.heads ∧ (outcomeState s0 (execDrop path s)).sieve = s.sieve ∧
    (outcomeState s0 (execDrop path s)).engine = s.engine ∧ (outcomeState s0 (execDrop path s)).time = s.time ∧
    (outcomeState s0 (execDrop path s)).twin = s.twin ∧ (outcomeState s0 (execDrop path s)).motion = s.motion ∧
    (outcomeState s0 (execDrop path s)).dram = s.dram ∧ (outcomeState s0 (execDrop path s)).clocks = s.clocks ∧
    (outcomeState s0 (execDrop path s)).thermal = s.thermal ∧ (outcomeState s0 (execDrop path s)).images = s.images ∧
    (outcomeState s0 (execDrop path s)).tap = s.tap ∧ (outcomeState s0 (execDrop path s)).fresh = s.fresh := by
  simp only [execDrop]
  (repeat' split) <;> simp

@[simp] theorem frame_execStore (path : Path) (value : Nat) (s : State) (s0 : State) : (outcomeState s0 (execStore path value s)).pending = s.pending ∧
    (outcomeState s0 (execStore path value s)).dev = s.dev ∧
    (outcomeState s0 (execStore path value s)).power = s.power ∧
    (outcomeState s0 (execStore path value s)).clk = s.clk ∧
    (outcomeState s0 (execStore path value s)).fuses = s.fuses ∧
    (outcomeState s0 (execStore path value s)).regs = s.regs ∧
    (outcomeState s0 (execStore path value s)).blobs = s.blobs ∧
    (outcomeState s0 (execStore path value s)).leaves = s.leaves ∧
    (outcomeState s0 (execStore path value s)).recorder = s.recorder ∧
    (outcomeState s0 (execStore path value s)).sessions = s.sessions ∧
    (outcomeState s0 (execStore path value s)).auth = s.auth ∧
    (outcomeState s0 (execStore path value s)).spi = s.spi ∧
    (outcomeState s0 (execStore path value s)).ring = s.ring ∧
    (outcomeState s0 (execStore path value s)).ownWaiting = s.ownWaiting ∧
    (outcomeState s0 (execStore path value s)).job = s.job ∧
    (outcomeState s0 (execStore path value s)).heads = s.heads ∧
    (outcomeState s0 (execStore path value s)).sieve = s.sieve ∧
    (outcomeState s0 (execStore path value s)).engine = s.engine ∧
    (outcomeState s0 (execStore path value s)).time = s.time ∧
    (outcomeState s0 (execStore path value s)).twin = s.twin ∧
    (outcomeState s0 (execStore path value s)).motion = s.motion ∧
    (outcomeState s0 (execStore path value s)).dram = s.dram ∧
    (outcomeState s0 (execStore path value s)).clocks = s.clocks ∧
    (outcomeState s0 (execStore path value s)).thermal = s.thermal ∧
    (outcomeState s0 (execStore path value s)).images = s.images ∧
    (outcomeState s0 (execStore path value s)).tap = s.tap ∧
    (outcomeState s0 (execStore path value s)).fresh = s.fresh := by
  simp only [execStore]
  (repeat' split) <;> simp

@[simp] theorem frame_execRestoreDefaults (path : Path) (value : Nat) (s : State) (s0 : State) : (outcomeState s0 (execRestoreDefaults path value s)).pending = s.pending ∧
    (outcomeState s0 (execRestoreDefaults path value s)).dev = s.dev ∧
    (outcomeState s0 (execRestoreDefaults path value s)).power = s.power ∧
    (outcomeState s0 (execRestoreDefaults path value s)).clk = s.clk ∧
    (outcomeState s0 (execRestoreDefaults path value s)).fuses = s.fuses ∧
    (outcomeState s0 (execRestoreDefaults path value s)).regs = s.regs ∧
    (outcomeState s0 (execRestoreDefaults path value s)).blobs = s.blobs ∧
    (outcomeState s0 (execRestoreDefaults path value s)).leaves = s.leaves ∧
    (outcomeState s0 (execRestoreDefaults path value s)).recorder = s.recorder ∧
    (outcomeState s0 (execRestoreDefaults path value s)).sessions = s.sessions ∧
    (outcomeState s0 (execRestoreDefaults path value s)).auth = s.auth ∧
    (outcomeState s0 (execRestoreDefaults path value s)).spi = s.spi ∧
    (outcomeState s0 (execRestoreDefaults path value s)).ring = s.ring ∧
    (outcomeState s0 (execRestoreDefaults path value s)).ownWaiting = s.ownWaiting ∧
    (outcomeState s0 (execRestoreDefaults path value s)).job = s.job ∧
    (outcomeState s0 (execRestoreDefaults path value s)).heads = s.heads ∧
    (outcomeState s0 (execRestoreDefaults path value s)).sieve = s.sieve ∧
    (outcomeState s0 (execRestoreDefaults path value s)).engine = s.engine ∧
    (outcomeState s0 (execRestoreDefaults path value s)).time = s.time ∧
    (outcomeState s0 (execRestoreDefaults path value s)).twin = s.twin ∧
    (outcomeState s0 (execRestoreDefaults path value s)).motion = s.motion ∧
    (outcomeState s0 (execRestoreDefaults path value s)).dram = s.dram ∧
    (outcomeState s0 (execRestoreDefaults path value s)).clocks = s.clocks ∧
    (outcomeState s0 (execRestoreDefaults path value s)).thermal = s.thermal ∧
    (outcomeState s0 (execRestoreDefaults path value s)).images = s.images ∧
    (outcomeState s0 (execRestoreDefaults path value s)).tap = s.tap ∧
    (outcomeState s0 (execRestoreDefaults path value s)).fresh = s.fresh := by
  simp only [execRestoreDefaults]
  (repeat' split) <;> simp

@[simp] theorem frame_acceptLine (s : State) (address : Nat) (data : List Byte) : (s.acceptLine address data).pending = s.pending ∧
    (s.acceptLine address data).deferred = s.deferred ∧ (s.acceptLine address data).dev = s.dev ∧
    (s.acceptLine address data).power = s.power ∧ (s.acceptLine address data).clk = s.clk ∧
    (s.acceptLine address data).fuses = s.fuses ∧ (s.acceptLine address data).regs = s.regs ∧
    (s.acceptLine address data).blobs = s.blobs ∧ (s.acceptLine address data).flash = s.flash ∧
    (s.acceptLine address data).leaves = s.leaves ∧ (s.acceptLine address data).recorder = s.recorder ∧
    (s.acceptLine address data).sessions = s.sessions ∧ (s.acceptLine address data).auth = s.auth ∧
    (s.acceptLine address data).spi = s.spi ∧ (s.acceptLine address data).ring = s.ring ∧
    (s.acceptLine address data).ownWaiting = s.ownWaiting ∧ (s.acceptLine address data).out = s.out ∧
    (s.acceptLine address data).job = s.job ∧ (s.acceptLine address data).heads = s.heads ∧
    (s.acceptLine address data).sieve = s.sieve ∧ (s.acceptLine address data).engine = s.engine ∧
    (s.acceptLine address data).time = s.time ∧ (s.acceptLine address data).twin = s.twin ∧
    (s.acceptLine address data).motion = s.motion ∧ (s.acceptLine address data).clocks = s.clocks ∧
    (s.acceptLine address data).thermal = s.thermal ∧ (s.acceptLine address data).images = s.images ∧
    (s.acceptLine address data).tap = s.tap ∧ (s.acceptLine address data).fresh = s.fresh := by
  unfold State.acceptLine
  (repeat' split) <;> simp

@[simp] theorem frame_acceptWrite (s : State) (area datum : Nat) (data : List Byte) : (s.acceptWrite area datum data).pending = s.pending ∧
    (s.acceptWrite area datum data).deferred = s.deferred ∧ (s.acceptWrite area datum data).dev = s.dev ∧
    (s.acceptWrite area datum data).power = s.power ∧ (s.acceptWrite area datum data).clk = s.clk ∧
    (s.acceptWrite area datum data).fuses = s.fuses ∧ (s.acceptWrite area datum data).regs = s.regs ∧
    (s.acceptWrite area datum data).blobs = s.blobs ∧ (s.acceptWrite area datum data).flash = s.flash ∧
    (s.acceptWrite area datum data).leaves = s.leaves ∧ (s.acceptWrite area datum data).recorder = s.recorder ∧
    (s.acceptWrite area datum data).sessions = s.sessions ∧ (s.acceptWrite area datum data).auth = s.auth ∧
    (s.acceptWrite area datum data).spi = s.spi ∧ (s.acceptWrite area datum data).ring = s.ring ∧
    (s.acceptWrite area datum data).ownWaiting = s.ownWaiting ∧ (s.acceptWrite area datum data).out = s.out ∧
    (s.acceptWrite area datum data).job = s.job ∧ (s.acceptWrite area datum data).heads = s.heads ∧
    (s.acceptWrite area datum data).sieve = s.sieve ∧ (s.acceptWrite area datum data).engine = s.engine ∧
    (s.acceptWrite area datum data).time = s.time ∧ (s.acceptWrite area datum data).twin = s.twin ∧
    (s.acceptWrite area datum data).motion = s.motion ∧ (s.acceptWrite area datum data).clocks = s.clocks ∧
    (s.acceptWrite area datum data).thermal = s.thermal ∧ (s.acceptWrite area datum data).images = s.images ∧
    (s.acceptWrite area datum data).tap = s.tap ∧ (s.acceptWrite area datum data).fresh = s.fresh := by
  unfold State.acceptWrite
  (repeat' split) <;> simp

@[simp] theorem frame_acceptBoth (s : State) (area datum : Nat) (data : List Byte) : (s.acceptBoth area datum data).pending = s.pending ∧
    (s.acceptBoth area datum data).deferred = s.deferred ∧ (s.acceptBoth area datum data).dev = s.dev ∧
    (s.acceptBoth area datum data).power = s.power ∧ (s.acceptBoth area datum data).clk = s.clk ∧
    (s.acceptBoth area datum data).fuses = s.fuses ∧ (s.acceptBoth area datum data).regs = s.regs ∧
    (s.acceptBoth area datum data).blobs = s.blobs ∧ (s.acceptBoth area datum data).flash = s.flash ∧
    (s.acceptBoth area datum data).leaves = s.leaves ∧ (s.acceptBoth area datum data).recorder = s.recorder ∧
    (s.acceptBoth area datum data).sessions = s.sessions ∧ (s.acceptBoth area datum data).auth = s.auth ∧
    (s.acceptBoth area datum data).spi = s.spi ∧ (s.acceptBoth area datum data).ring = s.ring ∧
    (s.acceptBoth area datum data).ownWaiting = s.ownWaiting ∧ (s.acceptBoth area datum data).out = s.out ∧
    (s.acceptBoth area datum data).job = s.job ∧ (s.acceptBoth area datum data).heads = s.heads ∧
    (s.acceptBoth area datum data).sieve = s.sieve ∧ (s.acceptBoth area datum data).engine = s.engine ∧
    (s.acceptBoth area datum data).time = s.time ∧ (s.acceptBoth area datum data).twin = s.twin ∧
    (s.acceptBoth area datum data).motion = s.motion ∧ (s.acceptBoth area datum data).clocks = s.clocks ∧
    (s.acceptBoth area datum data).thermal = s.thermal ∧ (s.acceptBoth area datum data).images = s.images ∧
    (s.acceptBoth area datum data).tap = s.tap ∧ (s.acceptBoth area datum data).fresh = s.fresh := by
  unfold State.acceptBoth
  (repeat' split) <;> simp

@[simp] theorem frame_drainWrite (s : State) (ch : Nat) : (s.drainWrite ch).pending = s.pending ∧
    (s.drainWrite ch).deferred = s.deferred ∧ (s.drainWrite ch).dev = s.dev ∧ (s.drainWrite ch).power = s.power ∧
    (s.drainWrite ch).clk = s.clk ∧ (s.drainWrite ch).fuses = s.fuses ∧ (s.drainWrite ch).regs = s.regs ∧
    (s.drainWrite ch).blobs = s.blobs ∧ (s.drainWrite ch).flash = s.flash ∧ (s.drainWrite ch).leaves = s.leaves ∧
    (s.drainWrite ch).recorder = s.recorder ∧ (s.drainWrite ch).sessions = s.sessions ∧
    (s.drainWrite ch).auth = s.auth ∧ (s.drainWrite ch).spi = s.spi ∧ (s.drainWrite ch).ring = s.ring ∧
    (s.drainWrite ch).ownWaiting = s.ownWaiting ∧ (s.drainWrite ch).out = s.out ∧ (s.drainWrite ch).job = s.job ∧
    (s.drainWrite ch).heads = s.heads ∧ (s.drainWrite ch).sieve = s.sieve ∧ (s.drainWrite ch).engine = s.engine ∧
    (s.drainWrite ch).time = s.time ∧ (s.drainWrite ch).twin = s.twin ∧ (s.drainWrite ch).motion = s.motion ∧
    (s.drainWrite ch).clocks = s.clocks ∧ (s.drainWrite ch).thermal = s.thermal ∧
    (s.drainWrite ch).images = s.images ∧ (s.drainWrite ch).tap = s.tap ∧ (s.drainWrite ch).fresh = s.fresh := by
  unfold State.drainWrite
  (repeat' split) <;> simp

@[simp] theorem frame_activated (s : State) (ch : Nat) : (s.activated ch).pending = s.pending ∧
    (s.activated ch).deferred = s.deferred ∧ (s.activated ch).dev = s.dev ∧ (s.activated ch).power = s.power ∧
    (s.activated ch).clk = s.clk ∧ (s.activated ch).fuses = s.fuses ∧ (s.activated ch).blobs = s.blobs ∧
    (s.activated ch).flash = s.flash ∧ (s.activated ch).leaves = s.leaves ∧ (s.activated ch).recorder = s.recorder ∧
    (s.activated ch).sessions = s.sessions ∧ (s.activated ch).auth = s.auth ∧ (s.activated ch).spi = s.spi ∧
    (s.activated ch).ring = s.ring ∧ (s.activated ch).ownWaiting = s.ownWaiting ∧ (s.activated ch).out = s.out ∧
    (s.activated ch).job = s.job ∧ (s.activated ch).heads = s.heads ∧ (s.activated ch).sieve = s.sieve ∧
    (s.activated ch).engine = s.engine ∧ (s.activated ch).time = s.time ∧ (s.activated ch).twin = s.twin ∧
    (s.activated ch).motion = s.motion ∧ (s.activated ch).clocks = s.clocks ∧ (s.activated ch).thermal = s.thermal ∧
    (s.activated ch).images = s.images ∧ (s.activated ch).tap = s.tap := by
  unfold State.activated
  (repeat' split) <;> simp

@[simp] theorem frame_onPath (s : State) (h : HeadNo) (f : HeadPath → HeadPath) : (s.onPath h f).pending = s.pending ∧
    (s.onPath h f).deferred = s.deferred ∧ (s.onPath h f).dev = s.dev ∧ (s.onPath h f).power = s.power ∧
    (s.onPath h f).clk = s.clk ∧ (s.onPath h f).fuses = s.fuses ∧ (s.onPath h f).regs = s.regs ∧
    (s.onPath h f).blobs = s.blobs ∧ (s.onPath h f).flash = s.flash ∧ (s.onPath h f).leaves = s.leaves ∧
    (s.onPath h f).recorder = s.recorder ∧ (s.onPath h f).sessions = s.sessions ∧ (s.onPath h f).auth = s.auth ∧
    (s.onPath h f).spi = s.spi ∧ (s.onPath h f).ring = s.ring ∧ (s.onPath h f).ownWaiting = s.ownWaiting ∧
    (s.onPath h f).out = s.out ∧ (s.onPath h f).job = s.job ∧ (s.onPath h f).sieve = s.sieve ∧
    (s.onPath h f).engine = s.engine ∧ (s.onPath h f).time = s.time ∧ (s.onPath h f).twin = s.twin ∧
    (s.onPath h f).motion = s.motion ∧ (s.onPath h f).dram = s.dram ∧ (s.onPath h f).clocks = s.clocks ∧
    (s.onPath h f).thermal = s.thermal ∧ (s.onPath h f).images = s.images ∧ (s.onPath h f).tap = s.tap ∧
    (s.onPath h f).fresh = s.fresh := by
  unfold State.onPath
  (repeat' split) <;> simp

@[simp] theorem frame_book (s : State) (key : Nat) (h : HeadNo) (b : Nat) (t : Tally) : (s.book key h b t).pending = s.pending ∧
    (s.book key h b t).deferred = s.deferred ∧ (s.book key h b t).dev = s.dev ∧ (s.book key h b t).power = s.power ∧
    (s.book key h b t).clk = s.clk ∧ (s.book key h b t).fuses = s.fuses ∧ (s.book key h b t).regs = s.regs ∧
    (s.book key h b t).blobs = s.blobs ∧ (s.book key h b t).flash = s.flash ∧ (s.book key h b t).leaves = s.leaves ∧
    (s.book key h b t).recorder = s.recorder ∧ (s.book key h b t).sessions = s.sessions ∧
    (s.book key h b t).auth = s.auth ∧ (s.book key h b t).spi = s.spi ∧ (s.book key h b t).ring = s.ring ∧
    (s.book key h b t).ownWaiting = s.ownWaiting ∧ (s.book key h b t).out = s.out ∧
    (s.book key h b t).heads = s.heads ∧ (s.book key h b t).sieve = s.sieve ∧ (s.book key h b t).engine = s.engine ∧
    (s.book key h b t).time = s.time ∧ (s.book key h b t).twin = s.twin ∧ (s.book key h b t).motion = s.motion ∧
    (s.book key h b t).dram = s.dram ∧ (s.book key h b t).clocks = s.clocks ∧ (s.book key h b t).thermal = s.thermal ∧
    (s.book key h b t).images = s.images ∧ (s.book key h b t).tap = s.tap ∧ (s.book key h b t).fresh = s.fresh := by
  unfold State.book
  (repeat' split) <;> simp

@[simp] theorem frame_bookAll (s : State) (key : Nat) (h : HeadNo) (ts : List Tally) : (s.bookAll key h ts).pending = s.pending ∧
    (s.bookAll key h ts).deferred = s.deferred ∧ (s.bookAll key h ts).dev = s.dev ∧
    (s.bookAll key h ts).power = s.power ∧ (s.bookAll key h ts).clk = s.clk ∧ (s.bookAll key h ts).fuses = s.fuses ∧
    (s.bookAll key h ts).regs = s.regs ∧ (s.bookAll key h ts).blobs = s.blobs ∧ (s.bookAll key h ts).flash = s.flash ∧
    (s.bookAll key h ts).leaves = s.leaves ∧ (s.bookAll key h ts).recorder = s.recorder ∧
    (s.bookAll key h ts).sessions = s.sessions ∧ (s.bookAll key h ts).auth = s.auth ∧
    (s.bookAll key h ts).spi = s.spi ∧ (s.bookAll key h ts).ring = s.ring ∧
    (s.bookAll key h ts).ownWaiting = s.ownWaiting ∧ (s.bookAll key h ts).out = s.out ∧
    (s.bookAll key h ts).heads = s.heads ∧ (s.bookAll key h ts).sieve = s.sieve ∧
    (s.bookAll key h ts).engine = s.engine ∧ (s.bookAll key h ts).time = s.time ∧ (s.bookAll key h ts).twin = s.twin ∧
    (s.bookAll key h ts).motion = s.motion ∧ (s.bookAll key h ts).dram = s.dram ∧
    (s.bookAll key h ts).clocks = s.clocks ∧ (s.bookAll key h ts).thermal = s.thermal ∧
    (s.bookAll key h ts).images = s.images ∧ (s.bookAll key h ts).tap = s.tap ∧
    (s.bookAll key h ts).fresh = s.fresh := by
  unfold State.bookAll
  (repeat' split) <;> simp

@[simp] theorem frame_writeDefect (s : State) (r : DefectRecord) : (s.writeDefect r).pending = s.pending ∧
    (s.writeDefect r).deferred = s.deferred ∧ (s.writeDefect r).dev = s.dev ∧ (s.writeDefect r).power = s.power ∧
    (s.writeDefect r).clk = s.clk ∧ (s.writeDefect r).fuses = s.fuses ∧ (s.writeDefect r).blobs = s.blobs ∧
    (s.writeDefect r).flash = s.flash ∧ (s.writeDefect r).leaves = s.leaves ∧
    (s.writeDefect r).recorder = s.recorder ∧ (s.writeDefect r).auth = s.auth ∧ (s.writeDefect r).spi = s.spi ∧
    (s.writeDefect r).ring = s.ring ∧ (s.writeDefect r).heads = s.heads ∧ (s.writeDefect r).sieve = s.sieve ∧
    (s.writeDefect r).engine = s.engine ∧ (s.writeDefect r).time = s.time ∧ (s.writeDefect r).motion = s.motion ∧
    (s.writeDefect r).clocks = s.clocks ∧ (s.writeDefect r).thermal = s.thermal ∧
    (s.writeDefect r).images = s.images ∧ (s.writeDefect r).tap = s.tap ∧ (s.writeDefect r).fresh = s.fresh := by
  unfold State.writeDefect
  (repeat' split) <;> simp

@[simp] theorem frame_openRecord (s : State) (h : HeadNo) (r : DefectRecord) : (s.openRecord h r).pending = s.pending ∧
    (s.openRecord h r).deferred = s.deferred ∧ (s.openRecord h r).dev = s.dev ∧ (s.openRecord h r).power = s.power ∧
    (s.openRecord h r).clk = s.clk ∧ (s.openRecord h r).fuses = s.fuses ∧ (s.openRecord h r).regs = s.regs ∧
    (s.openRecord h r).blobs = s.blobs ∧ (s.openRecord h r).flash = s.flash ∧ (s.openRecord h r).leaves = s.leaves ∧
    (s.openRecord h r).recorder = s.recorder ∧ (s.openRecord h r).sessions = s.sessions ∧
    (s.openRecord h r).auth = s.auth ∧ (s.openRecord h r).spi = s.spi ∧ (s.openRecord h r).ring = s.ring ∧
    (s.openRecord h r).ownWaiting = s.ownWaiting ∧ (s.openRecord h r).out = s.out ∧ (s.openRecord h r).job = s.job ∧
    (s.openRecord h r).sieve = s.sieve ∧ (s.openRecord h r).engine = s.engine ∧ (s.openRecord h r).time = s.time ∧
    (s.openRecord h r).twin = s.twin ∧ (s.openRecord h r).motion = s.motion ∧ (s.openRecord h r).dram = s.dram ∧
    (s.openRecord h r).clocks = s.clocks ∧ (s.openRecord h r).thermal = s.thermal ∧
    (s.openRecord h r).images = s.images ∧ (s.openRecord h r).tap = s.tap ∧ (s.openRecord h r).fresh = s.fresh := by
  unfold State.openRecord
  (repeat' split) <;> simp

@[simp] theorem frame_closeRecords (s : State) (h : HeadNo) (et : Tick) (p : DefectRecord → Bool) : (s.closeRecords h et p).pending = s.pending ∧
    (s.closeRecords h et p).deferred = s.deferred ∧ (s.closeRecords h et p).dev = s.dev ∧
    (s.closeRecords h et p).power = s.power ∧ (s.closeRecords h et p).clk = s.clk ∧
    (s.closeRecords h et p).fuses = s.fuses ∧ (s.closeRecords h et p).blobs = s.blobs ∧
    (s.closeRecords h et p).flash = s.flash ∧ (s.closeRecords h et p).leaves = s.leaves ∧
    (s.closeRecords h et p).recorder = s.recorder ∧ (s.closeRecords h et p).auth = s.auth ∧
    (s.closeRecords h et p).spi = s.spi ∧ (s.closeRecords h et p).ring = s.ring ∧
    (s.closeRecords h et p).sieve = s.sieve ∧ (s.closeRecords h et p).engine = s.engine ∧
    (s.closeRecords h et p).time = s.time ∧ (s.closeRecords h et p).motion = s.motion ∧
    (s.closeRecords h et p).clocks = s.clocks ∧ (s.closeRecords h et p).thermal = s.thermal ∧
    (s.closeRecords h et p).images = s.images ∧ (s.closeRecords h et p).tap = s.tap ∧
    (s.closeRecords h et p).fresh = s.fresh := by
  unfold State.closeRecords
  (repeat' split) <;> simp

@[simp] theorem frame_grant (s : State) : (s.grant).pending = s.pending ∧ (s.grant).deferred = s.deferred ∧
    (s.grant).dev = s.dev ∧ (s.grant).power = s.power ∧ (s.grant).clk = s.clk ∧ (s.grant).fuses = s.fuses ∧
    (s.grant).blobs = s.blobs ∧ (s.grant).flash = s.flash ∧ (s.grant).leaves = s.leaves ∧
    (s.grant).recorder = s.recorder ∧ (s.grant).auth = s.auth ∧ (s.grant).spi = s.spi ∧ (s.grant).ring = s.ring ∧
    (s.grant).heads = s.heads ∧ (s.grant).sieve = s.sieve ∧ (s.grant).engine = s.engine ∧ (s.grant).time = s.time ∧
    (s.grant).motion = s.motion ∧ (s.grant).dram = s.dram ∧ (s.grant).clocks = s.clocks ∧
    (s.grant).thermal = s.thermal ∧ (s.grant).images = s.images ∧ (s.grant).tap = s.tap ∧
    (s.grant).fresh = s.fresh := by
  unfold State.grant
  (repeat' split) <;> simp

@[simp] theorem frame_free (s : State) (bytes : Nat) : (s.free bytes).pending = s.pending ∧
    (s.free bytes).deferred = s.deferred ∧ (s.free bytes).dev = s.dev ∧ (s.free bytes).power = s.power ∧
    (s.free bytes).clk = s.clk ∧ (s.free bytes).fuses = s.fuses ∧ (s.free bytes).blobs = s.blobs ∧
    (s.free bytes).flash = s.flash ∧ (s.free bytes).leaves = s.leaves ∧ (s.free bytes).recorder = s.recorder ∧
    (s.free bytes).auth = s.auth ∧ (s.free bytes).spi = s.spi ∧ (s.free bytes).ring = s.ring ∧
    (s.free bytes).heads = s.heads ∧ (s.free bytes).sieve = s.sieve ∧ (s.free bytes).engine = s.engine ∧
    (s.free bytes).time = s.time ∧ (s.free bytes).motion = s.motion ∧ (s.free bytes).dram = s.dram ∧
    (s.free bytes).clocks = s.clocks ∧ (s.free bytes).thermal = s.thermal ∧ (s.free bytes).images = s.images ∧
    (s.free bytes).tap = s.tap ∧ (s.free bytes).fresh = s.fresh := by
  unfold State.free
  (repeat' split) <;> simp

@[simp] theorem frame_logLedger (s : State) (key : Nat) : (s.logLedger key).pending = s.pending ∧
    (s.logLedger key).deferred = s.deferred ∧ (s.logLedger key).dev = s.dev ∧ (s.logLedger key).power = s.power ∧
    (s.logLedger key).clk = s.clk ∧ (s.logLedger key).fuses = s.fuses ∧ (s.logLedger key).regs = s.regs ∧
    (s.logLedger key).blobs = s.blobs ∧ (s.logLedger key).flash = s.flash ∧ (s.logLedger key).leaves = s.leaves ∧
    (s.logLedger key).recorder = s.recorder ∧ (s.logLedger key).sessions = s.sessions ∧
    (s.logLedger key).auth = s.auth ∧ (s.logLedger key).spi = s.spi ∧ (s.logLedger key).ring = s.ring ∧
    (s.logLedger key).ownWaiting = s.ownWaiting ∧ (s.logLedger key).out = s.out ∧ (s.logLedger key).heads = s.heads ∧
    (s.logLedger key).sieve = s.sieve ∧ (s.logLedger key).engine = s.engine ∧ (s.logLedger key).time = s.time ∧
    (s.logLedger key).twin = s.twin ∧ (s.logLedger key).motion = s.motion ∧ (s.logLedger key).clocks = s.clocks ∧
    (s.logLedger key).thermal = s.thermal ∧ (s.logLedger key).images = s.images ∧ (s.logLedger key).tap = s.tap ∧
    (s.logLedger key).fresh = s.fresh := by
  unfold State.logLedger
  (repeat' split) <;> simp

@[simp] theorem frame_finalise (s : State) (g : Segment) (state : SegState) : (s.finalise g state).pending = s.pending ∧
    (s.finalise g state).deferred = s.deferred ∧ (s.finalise g state).dev = s.dev ∧
    (s.finalise g state).power = s.power ∧ (s.finalise g state).clk = s.clk ∧ (s.finalise g state).fuses = s.fuses ∧
    (s.finalise g state).blobs = s.blobs ∧ (s.finalise g state).flash = s.flash ∧
    (s.finalise g state).leaves = s.leaves ∧ (s.finalise g state).recorder = s.recorder ∧
    (s.finalise g state).auth = s.auth ∧ (s.finalise g state).spi = s.spi ∧ (s.finalise g state).ring = s.ring ∧
    (s.finalise g state).heads = s.heads ∧ (s.finalise g state).sieve = s.sieve ∧
    (s.finalise g state).engine = s.engine ∧ (s.finalise g state).time = s.time ∧
    (s.finalise g state).motion = s.motion ∧ (s.finalise g state).clocks = s.clocks ∧
    (s.finalise g state).thermal = s.thermal ∧ (s.finalise g state).images = s.images ∧
    (s.finalise g state).tap = s.tap ∧ (s.finalise g state).fresh = s.fresh := by
  unfold State.finalise
  (repeat' split) <;> simp

@[simp] theorem frame_recordBreak (s : State) (g : Segment) (cause head item detail : Nat) : (s.recordBreak g cause head item detail).pending = s.pending ∧
    (s.recordBreak g cause head item detail).deferred = s.deferred ∧
    (s.recordBreak g cause head item detail).dev = s.dev ∧ (s.recordBreak g cause head item detail).power = s.power ∧
    (s.recordBreak g cause head item detail).clk = s.clk ∧ (s.recordBreak g cause head item detail).fuses = s.fuses ∧
    (s.recordBreak g cause head item detail).blobs = s.blobs ∧
    (s.recordBreak g cause head item detail).flash = s.flash ∧
    (s.recordBreak g cause head item detail).auth = s.auth ∧ (s.recordBreak g cause head item detail).spi = s.spi ∧
    (s.recordBreak g cause head item detail).ring = s.ring ∧
    (s.recordBreak g cause head item detail).heads = s.heads ∧
    (s.recordBreak g cause head item detail).sieve = s.sieve ∧
    (s.recordBreak g cause head item detail).engine = s.engine ∧
    (s.recordBreak g cause head item detail).time = s.time ∧
    (s.recordBreak g cause head item detail).motion = s.motion ∧
    (s.recordBreak g cause head item detail).dram = s.dram ∧
    (s.recordBreak g cause head item detail).clocks = s.clocks ∧
    (s.recordBreak g cause head item detail).thermal = s.thermal ∧
    (s.recordBreak g cause head item detail).images = s.images ∧
    (s.recordBreak g cause head item detail).tap = s.tap ∧
    (s.recordBreak g cause head item detail).fresh = s.fresh := by
  unfold State.recordBreak
  (repeat' split) <;> simp

@[simp] theorem frame_bookCut (s : State) (h : HeadNo) (x : HeadPath) (w : Nat × Nat) : (s.bookCut h x w).pending = s.pending ∧
    (s.bookCut h x w).deferred = s.deferred ∧ (s.bookCut h x w).dev = s.dev ∧ (s.bookCut h x w).power = s.power ∧
    (s.bookCut h x w).clk = s.clk ∧ (s.bookCut h x w).fuses = s.fuses ∧ (s.bookCut h x w).regs = s.regs ∧
    (s.bookCut h x w).blobs = s.blobs ∧ (s.bookCut h x w).flash = s.flash ∧ (s.bookCut h x w).leaves = s.leaves ∧
    (s.bookCut h x w).recorder = s.recorder ∧ (s.bookCut h x w).sessions = s.sessions ∧
    (s.bookCut h x w).auth = s.auth ∧ (s.bookCut h x w).spi = s.spi ∧ (s.bookCut h x w).ring = s.ring ∧
    (s.bookCut h x w).ownWaiting = s.ownWaiting ∧ (s.bookCut h x w).out = s.out ∧ (s.bookCut h x w).heads = s.heads ∧
    (s.bookCut h x w).sieve = s.sieve ∧ (s.bookCut h x w).engine = s.engine ∧ (s.bookCut h x w).time = s.time ∧
    (s.bookCut h x w).twin = s.twin ∧ (s.bookCut h x w).motion = s.motion ∧ (s.bookCut h x w).dram = s.dram ∧
    (s.bookCut h x w).clocks = s.clocks ∧ (s.bookCut h x w).thermal = s.thermal ∧
    (s.bookCut h x w).images = s.images ∧ (s.bookCut h x w).tap = s.tap ∧ (s.bookCut h x w).fresh = s.fresh := by
  unfold State.bookCut
  (repeat' split) <;> simp

@[simp] theorem frame_bookDark (s : State) (h : HeadNo) (slots : List SentSlot) : (s.bookDark h slots).pending = s.pending ∧
    (s.bookDark h slots).deferred = s.deferred ∧ (s.bookDark h slots).dev = s.dev ∧
    (s.bookDark h slots).power = s.power ∧ (s.bookDark h slots).clk = s.clk ∧ (s.bookDark h slots).fuses = s.fuses ∧
    (s.bookDark h slots).regs = s.regs ∧ (s.bookDark h slots).blobs = s.blobs ∧ (s.bookDark h slots).flash = s.flash ∧
    (s.bookDark h slots).leaves = s.leaves ∧ (s.bookDark h slots).recorder = s.recorder ∧
    (s.bookDark h slots).sessions = s.sessions ∧ (s.bookDark h slots).auth = s.auth ∧
    (s.bookDark h slots).spi = s.spi ∧ (s.bookDark h slots).ring = s.ring ∧
    (s.bookDark h slots).ownWaiting = s.ownWaiting ∧ (s.bookDark h slots).out = s.out ∧
    (s.bookDark h slots).heads = s.heads ∧ (s.bookDark h slots).sieve = s.sieve ∧
    (s.bookDark h slots).engine = s.engine ∧ (s.bookDark h slots).time = s.time ∧ (s.bookDark h slots).twin = s.twin ∧
    (s.bookDark h slots).motion = s.motion ∧ (s.bookDark h slots).dram = s.dram ∧
    (s.bookDark h slots).clocks = s.clocks ∧ (s.bookDark h slots).thermal = s.thermal ∧
    (s.bookDark h slots).images = s.images ∧ (s.bookDark h slots).tap = s.tap ∧
    (s.bookDark h slots).fresh = s.fresh := by
  unfold State.bookDark
  (repeat' split) <;> simp

@[simp] theorem frame_bookInterrupted (s : State) (h : HeadNo) (cause : Nat) (slots : List SentSlot) : (s.bookInterrupted h cause slots).pending = s.pending ∧
    (s.bookInterrupted h cause slots).deferred = s.deferred ∧ (s.bookInterrupted h cause slots).dev = s.dev ∧
    (s.bookInterrupted h cause slots).power = s.power ∧ (s.bookInterrupted h cause slots).clk = s.clk ∧
    (s.bookInterrupted h cause slots).fuses = s.fuses ∧ (s.bookInterrupted h cause slots).regs = s.regs ∧
    (s.bookInterrupted h cause slots).blobs = s.blobs ∧ (s.bookInterrupted h cause slots).flash = s.flash ∧
    (s.bookInterrupted h cause slots).leaves = s.leaves ∧ (s.bookInterrupted h cause slots).recorder = s.recorder ∧
    (s.bookInterrupted h cause slots).sessions = s.sessions ∧ (s.bookInterrupted h cause slots).auth = s.auth ∧
    (s.bookInterrupted h cause slots).spi = s.spi ∧ (s.bookInterrupted h cause slots).ring = s.ring ∧
    (s.bookInterrupted h cause slots).ownWaiting = s.ownWaiting ∧ (s.bookInterrupted h cause slots).out = s.out ∧
    (s.bookInterrupted h cause slots).heads = s.heads ∧ (s.bookInterrupted h cause slots).sieve = s.sieve ∧
    (s.bookInterrupted h cause slots).engine = s.engine ∧ (s.bookInterrupted h cause slots).time = s.time ∧
    (s.bookInterrupted h cause slots).twin = s.twin ∧ (s.bookInterrupted h cause slots).motion = s.motion ∧
    (s.bookInterrupted h cause slots).dram = s.dram ∧ (s.bookInterrupted h cause slots).clocks = s.clocks ∧
    (s.bookInterrupted h cause slots).thermal = s.thermal ∧ (s.bookInterrupted h cause slots).images = s.images ∧
    (s.bookInterrupted h cause slots).tap = s.tap ∧ (s.bookInterrupted h cause slots).fresh = s.fresh := by
  unfold State.bookInterrupted
  (repeat' split) <;> simp

@[simp] theorem frame_discardFrames (s : State) (h : HeadNo) : (s.discardFrames h).pending = s.pending ∧
    (s.discardFrames h).deferred = s.deferred ∧ (s.discardFrames h).dev = s.dev ∧
    (s.discardFrames h).power = s.power ∧ (s.discardFrames h).clk = s.clk ∧ (s.discardFrames h).fuses = s.fuses ∧
    (s.discardFrames h).regs = s.regs ∧ (s.discardFrames h).blobs = s.blobs ∧ (s.discardFrames h).flash = s.flash ∧
    (s.discardFrames h).leaves = s.leaves ∧ (s.discardFrames h).recorder = s.recorder ∧
    (s.discardFrames h).sessions = s.sessions ∧ (s.discardFrames h).auth = s.auth ∧ (s.discardFrames h).spi = s.spi ∧
    (s.discardFrames h).ring = s.ring ∧ (s.discardFrames h).ownWaiting = s.ownWaiting ∧
    (s.discardFrames h).out = s.out ∧ (s.discardFrames h).job = s.job ∧ (s.discardFrames h).sieve = s.sieve ∧
    (s.discardFrames h).engine = s.engine ∧ (s.discardFrames h).time = s.time ∧ (s.discardFrames h).twin = s.twin ∧
    (s.discardFrames h).motion = s.motion ∧ (s.discardFrames h).dram = s.dram ∧
    (s.discardFrames h).clocks = s.clocks ∧ (s.discardFrames h).thermal = s.thermal ∧
    (s.discardFrames h).images = s.images ∧ (s.discardFrames h).tap = s.tap ∧
    (s.discardFrames h).fresh = s.fresh := by
  unfold State.discardFrames
  (repeat' split) <;> simp

@[simp] theorem frame_reachAhead (s : State) (h : HeadNo) : (s.reachAhead h).pending = s.pending ∧
    (s.reachAhead h).deferred = s.deferred ∧ (s.reachAhead h).dev = s.dev ∧ (s.reachAhead h).power = s.power ∧
    (s.reachAhead h).clk = s.clk ∧ (s.reachAhead h).fuses = s.fuses ∧ (s.reachAhead h).regs = s.regs ∧
    (s.reachAhead h).blobs = s.blobs ∧ (s.reachAhead h).flash = s.flash ∧ (s.reachAhead h).leaves = s.leaves ∧
    (s.reachAhead h).recorder = s.recorder ∧ (s.reachAhead h).sessions = s.sessions ∧ (s.reachAhead h).auth = s.auth ∧
    (s.reachAhead h).spi = s.spi ∧ (s.reachAhead h).ring = s.ring ∧ (s.reachAhead h).ownWaiting = s.ownWaiting ∧
    (s.reachAhead h).out = s.out ∧ (s.reachAhead h).heads = s.heads ∧ (s.reachAhead h).sieve = s.sieve ∧
    (s.reachAhead h).engine = s.engine ∧ (s.reachAhead h).time = s.time ∧ (s.reachAhead h).twin = s.twin ∧
    (s.reachAhead h).motion = s.motion ∧ (s.reachAhead h).dram = s.dram ∧ (s.reachAhead h).clocks = s.clocks ∧
    (s.reachAhead h).thermal = s.thermal ∧ (s.reachAhead h).images = s.images ∧ (s.reachAhead h).tap = s.tap ∧
    (s.reachAhead h).fresh = s.fresh := by
  unfold State.reachAhead
  (repeat' split) <;> simp

@[simp] theorem frame_cutItem (s : State) (h : HeadNo) (cause detail : Nat) (slots : List SentSlot) : (s.cutItem h cause detail slots).pending = s.pending ∧
    (s.cutItem h cause detail slots).deferred = s.deferred ∧ (s.cutItem h cause detail slots).dev = s.dev ∧
    (s.cutItem h cause detail slots).power = s.power ∧ (s.cutItem h cause detail slots).clk = s.clk ∧
    (s.cutItem h cause detail slots).fuses = s.fuses ∧ (s.cutItem h cause detail slots).blobs = s.blobs ∧
    (s.cutItem h cause detail slots).flash = s.flash ∧ (s.cutItem h cause detail slots).leaves = s.leaves ∧
    (s.cutItem h cause detail slots).recorder = s.recorder ∧ (s.cutItem h cause detail slots).auth = s.auth ∧
    (s.cutItem h cause detail slots).spi = s.spi ∧ (s.cutItem h cause detail slots).ring = s.ring ∧
    (s.cutItem h cause detail slots).sieve = s.sieve ∧ (s.cutItem h cause detail slots).engine = s.engine ∧
    (s.cutItem h cause detail slots).time = s.time ∧ (s.cutItem h cause detail slots).motion = s.motion ∧
    (s.cutItem h cause detail slots).clocks = s.clocks ∧ (s.cutItem h cause detail slots).thermal = s.thermal ∧
    (s.cutItem h cause detail slots).images = s.images ∧ (s.cutItem h cause detail slots).tap = s.tap ∧
    (s.cutItem h cause detail slots).fresh = s.fresh := by
  unfold State.cutItem
  (repeat' split) <;> simp

@[simp] theorem frame_abandonRest (s : State) (g : Segment) (h : HeadNo) (cause detail : Nat) : (s.abandonRest g h cause detail).pending = s.pending ∧
    (s.abandonRest g h cause detail).deferred = s.deferred ∧ (s.abandonRest g h cause detail).dev = s.dev ∧
    (s.abandonRest g h cause detail).power = s.power ∧ (s.abandonRest g h cause detail).clk = s.clk ∧
    (s.abandonRest g h cause detail).fuses = s.fuses ∧ (s.abandonRest g h cause detail).blobs = s.blobs ∧
    (s.abandonRest g h cause detail).flash = s.flash ∧ (s.abandonRest g h cause detail).leaves = s.leaves ∧
    (s.abandonRest g h cause detail).recorder = s.recorder ∧ (s.abandonRest g h cause detail).auth = s.auth ∧
    (s.abandonRest g h cause detail).spi = s.spi ∧ (s.abandonRest g h cause detail).ring = s.ring ∧
    (s.abandonRest g h cause detail).heads = s.heads ∧ (s.abandonRest g h cause detail).sieve = s.sieve ∧
    (s.abandonRest g h cause detail).engine = s.engine ∧ (s.abandonRest g h cause detail).time = s.time ∧
    (s.abandonRest g h cause detail).motion = s.motion ∧ (s.abandonRest g h cause detail).clocks = s.clocks ∧
    (s.abandonRest g h cause detail).thermal = s.thermal ∧ (s.abandonRest g h cause detail).images = s.images ∧
    (s.abandonRest g h cause detail).tap = s.tap ∧ (s.abandonRest g h cause detail).fresh = s.fresh := by
  unfold State.abandonRest
  (repeat' split) <;> simp

@[simp] theorem frame_abandonPart (s : State) (g : Segment) (cause detail : Nat) (h : HeadNo) : (s.abandonPart g cause detail h).pending = s.pending ∧
    (s.abandonPart g cause detail h).deferred = s.deferred ∧ (s.abandonPart g cause detail h).dev = s.dev ∧
    (s.abandonPart g cause detail h).power = s.power ∧ (s.abandonPart g cause detail h).clk = s.clk ∧
    (s.abandonPart g cause detail h).fuses = s.fuses ∧ (s.abandonPart g cause detail h).blobs = s.blobs ∧
    (s.abandonPart g cause detail h).flash = s.flash ∧ (s.abandonPart g cause detail h).leaves = s.leaves ∧
    (s.abandonPart g cause detail h).recorder = s.recorder ∧ (s.abandonPart g cause detail h).auth = s.auth ∧
    (s.abandonPart g cause detail h).spi = s.spi ∧ (s.abandonPart g cause detail h).ring = s.ring ∧
    (s.abandonPart g cause detail h).sieve = s.sieve ∧ (s.abandonPart g cause detail h).engine = s.engine ∧
    (s.abandonPart g cause detail h).time = s.time ∧ (s.abandonPart g cause detail h).motion = s.motion ∧
    (s.abandonPart g cause detail h).clocks = s.clocks ∧ (s.abandonPart g cause detail h).thermal = s.thermal ∧
    (s.abandonPart g cause detail h).images = s.images ∧ (s.abandonPart g cause detail h).tap = s.tap ∧
    (s.abandonPart g cause detail h).fresh = s.fresh := by
  unfold State.abandonPart
  (repeat' split) <;> simp

@[simp] theorem frame_cancel (s : State) (cause detail : Nat) (key : Nat) : (s.cancel cause detail key).pending = s.pending ∧
    (s.cancel cause detail key).deferred = s.deferred ∧ (s.cancel cause detail key).dev = s.dev ∧
    (s.cancel cause detail key).power = s.power ∧ (s.cancel cause detail key).clk = s.clk ∧
    (s.cancel cause detail key).fuses = s.fuses ∧ (s.cancel cause detail key).blobs = s.blobs ∧
    (s.cancel cause detail key).flash = s.flash ∧ (s.cancel cause detail key).leaves = s.leaves ∧
    (s.cancel cause detail key).recorder = s.recorder ∧ (s.cancel cause detail key).auth = s.auth ∧
    (s.cancel cause detail key).spi = s.spi ∧ (s.cancel cause detail key).ring = s.ring ∧
    (s.cancel cause detail key).sieve = s.sieve ∧ (s.cancel cause detail key).engine = s.engine ∧
    (s.cancel cause detail key).time = s.time ∧ (s.cancel cause detail key).motion = s.motion ∧
    (s.cancel cause detail key).clocks = s.clocks ∧ (s.cancel cause detail key).thermal = s.thermal ∧
    (s.cancel cause detail key).images = s.images ∧ (s.cancel cause detail key).tap = s.tap ∧
    (s.cancel cause detail key).fresh = s.fresh := by
  unfold State.cancel
  (repeat' split) <;> simp

@[simp] theorem frame_breakPromise (s : State) (key cause head item detail : Nat) : (s.breakPromise key cause head item detail).pending = s.pending ∧
    (s.breakPromise key cause head item detail).deferred = s.deferred ∧
    (s.breakPromise key cause head item detail).dev = s.dev ∧
    (s.breakPromise key cause head item detail).power = s.power ∧
    (s.breakPromise key cause head item detail).clk = s.clk ∧
    (s.breakPromise key cause head item detail).fuses = s.fuses ∧
    (s.breakPromise key cause head item detail).blobs = s.blobs ∧
    (s.breakPromise key cause head item detail).flash = s.flash ∧
    (s.breakPromise key cause head item detail).auth = s.auth ∧
    (s.breakPromise key cause head item detail).spi = s.spi ∧
    (s.breakPromise key cause head item detail).ring = s.ring ∧
    (s.breakPromise key cause head item detail).sieve = s.sieve ∧
    (s.breakPromise key cause head item detail).engine = s.engine ∧
    (s.breakPromise key cause head item detail).time = s.time ∧
    (s.breakPromise key cause head item detail).motion = s.motion ∧
    (s.breakPromise key cause head item detail).clocks = s.clocks ∧
    (s.breakPromise key cause head item detail).thermal = s.thermal ∧
    (s.breakPromise key cause head item detail).images = s.images ∧
    (s.breakPromise key cause head item detail).tap = s.tap ∧
    (s.breakPromise key cause head item detail).fresh = s.fresh := by
  unfold State.breakPromise
  (repeat' split) <;> simp

@[simp] theorem frame_breakWork (s : State) (h cause detail : Nat) (x : HeadPath) (slots : List SentSlot) : (s.breakWork h cause detail x slots).pending = s.pending ∧
    (s.breakWork h cause detail x slots).deferred = s.deferred ∧ (s.breakWork h cause detail x slots).dev = s.dev ∧
    (s.breakWork h cause detail x slots).power = s.power ∧ (s.breakWork h cause detail x slots).clk = s.clk ∧
    (s.breakWork h cause detail x slots).fuses = s.fuses ∧ (s.breakWork h cause detail x slots).blobs = s.blobs ∧
    (s.breakWork h cause detail x slots).flash = s.flash ∧ (s.breakWork h cause detail x slots).auth = s.auth ∧
    (s.breakWork h cause detail x slots).spi = s.spi ∧ (s.breakWork h cause detail x slots).ring = s.ring ∧
    (s.breakWork h cause detail x slots).sieve = s.sieve ∧ (s.breakWork h cause detail x slots).engine = s.engine ∧
    (s.breakWork h cause detail x slots).time = s.time ∧ (s.breakWork h cause detail x slots).motion = s.motion ∧
    (s.breakWork h cause detail x slots).clocks = s.clocks ∧
    (s.breakWork h cause detail x slots).thermal = s.thermal ∧
    (s.breakWork h cause detail x slots).images = s.images ∧ (s.breakWork h cause detail x slots).tap = s.tap ∧
    (s.breakWork h cause detail x slots).fresh = s.fresh := by
  unfold State.breakWork
  (repeat' split) <;> simp

@[simp] theorem frame_cutAndBreak (s : State) (cause detail : Nat) (h : HeadNo) (slots : List SentSlot) : (s.cutAndBreak cause detail h slots).pending = s.pending ∧
    (s.cutAndBreak cause detail h slots).deferred = s.deferred ∧ (s.cutAndBreak cause detail h slots).dev = s.dev ∧
    (s.cutAndBreak cause detail h slots).power = s.power ∧ (s.cutAndBreak cause detail h slots).clk = s.clk ∧
    (s.cutAndBreak cause detail h slots).fuses = s.fuses ∧ (s.cutAndBreak cause detail h slots).blobs = s.blobs ∧
    (s.cutAndBreak cause detail h slots).flash = s.flash ∧ (s.cutAndBreak cause detail h slots).auth = s.auth ∧
    (s.cutAndBreak cause detail h slots).spi = s.spi ∧ (s.cutAndBreak cause detail h slots).ring = s.ring ∧
    (s.cutAndBreak cause detail h slots).sieve = s.sieve ∧ (s.cutAndBreak cause detail h slots).engine = s.engine ∧
    (s.cutAndBreak cause detail h slots).time = s.time ∧ (s.cutAndBreak cause detail h slots).motion = s.motion ∧
    (s.cutAndBreak cause detail h slots).clocks = s.clocks ∧
    (s.cutAndBreak cause detail h slots).thermal = s.thermal ∧
    (s.cutAndBreak cause detail h slots).images = s.images ∧ (s.cutAndBreak cause detail h slots).tap = s.tap ∧
    (s.cutAndBreak cause detail h slots).fresh = s.fresh := by
  unfold State.cutAndBreak
  (repeat' split) <;> simp

@[simp] theorem frame_cancelAll (s : State) (cause detail : Nat) : (s.cancelAll cause detail).pending = s.pending ∧
    (s.cancelAll cause detail).deferred = s.deferred ∧ (s.cancelAll cause detail).dev = s.dev ∧
    (s.cancelAll cause detail).power = s.power ∧ (s.cancelAll cause detail).clk = s.clk ∧
    (s.cancelAll cause detail).fuses = s.fuses ∧ (s.cancelAll cause detail).blobs = s.blobs ∧
    (s.cancelAll cause detail).flash = s.flash ∧ (s.cancelAll cause detail).leaves = s.leaves ∧
    (s.cancelAll cause detail).recorder = s.recorder ∧ (s.cancelAll cause detail).auth = s.auth ∧
    (s.cancelAll cause detail).spi = s.spi ∧ (s.cancelAll cause detail).ring = s.ring ∧
    (s.cancelAll cause detail).sieve = s.sieve ∧ (s.cancelAll cause detail).engine = s.engine ∧
    (s.cancelAll cause detail).time = s.time ∧ (s.cancelAll cause detail).motion = s.motion ∧
    (s.cancelAll cause detail).clocks = s.clocks ∧ (s.cancelAll cause detail).thermal = s.thermal ∧
    (s.cancelAll cause detail).images = s.images ∧ (s.cancelAll cause detail).tap = s.tap ∧
    (s.cancelAll cause detail).fresh = s.fresh := by
  unfold State.cancelAll
  (repeat' split) <;> simp

@[simp] theorem frame_cutHead (s : State) (cause : Nat) (h : HeadNo) : (s.cutHead cause h).pending = s.pending ∧
    (s.cutHead cause h).deferred = s.deferred ∧ (s.cutHead cause h).dev = s.dev ∧
    (s.cutHead cause h).power = s.power ∧ (s.cutHead cause h).clk = s.clk ∧ (s.cutHead cause h).fuses = s.fuses ∧
    (s.cutHead cause h).blobs = s.blobs ∧ (s.cutHead cause h).flash = s.flash ∧ (s.cutHead cause h).auth = s.auth ∧
    (s.cutHead cause h).spi = s.spi ∧ (s.cutHead cause h).ring = s.ring ∧ (s.cutHead cause h).sieve = s.sieve ∧
    (s.cutHead cause h).engine = s.engine ∧ (s.cutHead cause h).time = s.time ∧
    (s.cutHead cause h).motion = s.motion ∧ (s.cutHead cause h).clocks = s.clocks ∧
    (s.cutHead cause h).thermal = s.thermal ∧ (s.cutHead cause h).images = s.images ∧
    (s.cutHead cause h).tap = s.tap := by
  unfold State.cutHead
  (repeat' split) <;> simp

@[simp] theorem frame_cutHeads (s : State) (cause : Nat) : (s.cutHeads cause).pending = s.pending ∧
    (s.cutHeads cause).deferred = s.deferred ∧ (s.cutHeads cause).dev = s.dev ∧ (s.cutHeads cause).power = s.power ∧
    (s.cutHeads cause).clk = s.clk ∧ (s.cutHeads cause).fuses = s.fuses ∧ (s.cutHeads cause).blobs = s.blobs ∧
    (s.cutHeads cause).flash = s.flash ∧ (s.cutHeads cause).auth = s.auth ∧ (s.cutHeads cause).spi = s.spi ∧
    (s.cutHeads cause).ring = s.ring ∧ (s.cutHeads cause).sieve = s.sieve ∧ (s.cutHeads cause).engine = s.engine ∧
    (s.cutHeads cause).time = s.time ∧ (s.cutHeads cause).motion = s.motion ∧ (s.cutHeads cause).clocks = s.clocks ∧
    (s.cutHeads cause).thermal = s.thermal ∧ (s.cutHeads cause).images = s.images ∧
    (s.cutHeads cause).tap = s.tap := by
  unfold State.cutHeads
  (repeat' split) <;> simp

@[simp] theorem frame_breakAll (s : State) (cause : Nat) : (s.breakAll cause).pending = s.pending ∧
    (s.breakAll cause).deferred = s.deferred ∧ (s.breakAll cause).dev = s.dev ∧ (s.breakAll cause).power = s.power ∧
    (s.breakAll cause).clk = s.clk ∧ (s.breakAll cause).fuses = s.fuses ∧ (s.breakAll cause).blobs = s.blobs ∧
    (s.breakAll cause).flash = s.flash ∧ (s.breakAll cause).auth = s.auth ∧ (s.breakAll cause).spi = s.spi ∧
    (s.breakAll cause).ring = s.ring ∧ (s.breakAll cause).sieve = s.sieve ∧ (s.breakAll cause).engine = s.engine ∧
    (s.breakAll cause).time = s.time ∧ (s.breakAll cause).motion = s.motion ∧ (s.breakAll cause).clocks = s.clocks ∧
    (s.breakAll cause).thermal = s.thermal ∧ (s.breakAll cause).images = s.images ∧ (s.breakAll cause).tap = s.tap ∧
    (s.breakAll cause).fresh = s.fresh := by
  unfold State.breakAll
  (repeat' split) <;> simp

@[simp] theorem frame_cutAll (s : State) (cause : Nat) : (s.cutAll cause).pending = s.pending ∧
    (s.cutAll cause).deferred = s.deferred ∧ (s.cutAll cause).dev = s.dev ∧ (s.cutAll cause).power = s.power ∧
    (s.cutAll cause).clk = s.clk ∧ (s.cutAll cause).fuses = s.fuses ∧ (s.cutAll cause).blobs = s.blobs ∧
    (s.cutAll cause).flash = s.flash ∧ (s.cutAll cause).auth = s.auth ∧ (s.cutAll cause).spi = s.spi ∧
    (s.cutAll cause).ring = s.ring ∧ (s.cutAll cause).sieve = s.sieve ∧ (s.cutAll cause).engine = s.engine ∧
    (s.cutAll cause).time = s.time ∧ (s.cutAll cause).motion = s.motion ∧ (s.cutAll cause).clocks = s.clocks ∧
    (s.cutAll cause).thermal = s.thermal ∧ (s.cutAll cause).images = s.images ∧ (s.cutAll cause).tap = s.tap := by
  unfold State.cutAll
  (repeat' split) <;> simp

@[simp] theorem frame_breakRunning (s : State) (cause detail : Nat) : (s.breakRunning cause detail).pending = s.pending ∧
    (s.breakRunning cause detail).deferred = s.deferred ∧ (s.breakRunning cause detail).dev = s.dev ∧
    (s.breakRunning cause detail).power = s.power ∧ (s.breakRunning cause detail).clk = s.clk ∧
    (s.breakRunning cause detail).fuses = s.fuses ∧ (s.breakRunning cause detail).blobs = s.blobs ∧
    (s.breakRunning cause detail).flash = s.flash ∧ (s.breakRunning cause detail).leaves = s.leaves ∧
    (s.breakRunning cause detail).recorder = s.recorder ∧ (s.breakRunning cause detail).auth = s.auth ∧
    (s.breakRunning cause detail).spi = s.spi ∧ (s.breakRunning cause detail).ring = s.ring ∧
    (s.breakRunning cause detail).sieve = s.sieve ∧ (s.breakRunning cause detail).engine = s.engine ∧
    (s.breakRunning cause detail).time = s.time ∧ (s.breakRunning cause detail).motion = s.motion ∧
    (s.breakRunning cause detail).clocks = s.clocks ∧ (s.breakRunning cause detail).thermal = s.thermal ∧
    (s.breakRunning cause detail).images = s.images ∧ (s.breakRunning cause detail).tap = s.tap ∧
    (s.breakRunning cause detail).fresh = s.fresh := by
  unfold State.breakRunning
  refine ⟨?_, ?_, ?_, ?_, ?_, ?_, ?_, ?_, ?_, ?_, ?_, ?_, ?_, ?_, ?_, ?_, ?_, ?_, ?_, ?_, ?_, ?_⟩
  · rw [foldl_pending]
    intro t a
    dsimp only
    (repeat' split) <;> simp
  · rw [foldl_deferred]
    intro t a
    dsimp only
    (repeat' split) <;> simp
  · rw [foldl_dev]
    intro t a
    dsimp only
    (repeat' split) <;> simp
  · rw [foldl_power]
    intro t a
    dsimp only
    (repeat' split) <;> simp
  · rw [foldl_clk]
    intro t a
    dsimp only
    (repeat' split) <;> simp
  · rw [foldl_fuses]
    intro t a
    dsimp only
    (repeat' split) <;> simp
  · rw [foldl_blobs]
    intro t a
    dsimp only
    (repeat' split) <;> simp
  · rw [foldl_flash]
    intro t a
    dsimp only
    (repeat' split) <;> simp
  · rw [foldl_leaves]
    intro t a
    dsimp only
    (repeat' split) <;> simp
  · rw [foldl_recorder]
    intro t a
    dsimp only
    (repeat' split) <;> simp
  · rw [foldl_auth]
    intro t a
    dsimp only
    (repeat' split) <;> simp
  · rw [foldl_spi]
    intro t a
    dsimp only
    (repeat' split) <;> simp
  · rw [foldl_ring]
    intro t a
    dsimp only
    (repeat' split) <;> simp
  · rw [foldl_sieve]
    intro t a
    dsimp only
    (repeat' split) <;> simp
  · rw [foldl_engine]
    intro t a
    dsimp only
    (repeat' split) <;> simp
  · rw [foldl_time]
    intro t a
    dsimp only
    (repeat' split) <;> simp
  · rw [foldl_motion]
    intro t a
    dsimp only
    (repeat' split) <;> simp
  · rw [foldl_clocks]
    intro t a
    dsimp only
    (repeat' split) <;> simp
  · rw [foldl_thermal]
    intro t a
    dsimp only
    (repeat' split) <;> simp
  · rw [foldl_images]
    intro t a
    dsimp only
    (repeat' split) <;> simp
  · rw [foldl_tap]
    intro t a
    dsimp only
    (repeat' split) <;> simp
  · rw [foldl_fresh]
    intro t a
    dsimp only
    (repeat' split) <;> simp

@[simp] theorem frame_suppressWork (s : State) (h : HeadNo) (w : Nat × Nat) (stretch : Option Nat) (cause detail : Nat) : (s.suppressWork h w stretch cause detail).pending = s.pending ∧
    (s.suppressWork h w stretch cause detail).deferred = s.deferred ∧
    (s.suppressWork h w stretch cause detail).dev = s.dev ∧
    (s.suppressWork h w stretch cause detail).power = s.power ∧
    (s.suppressWork h w stretch cause detail).clk = s.clk ∧
    (s.suppressWork h w stretch cause detail).fuses = s.fuses ∧
    (s.suppressWork h w stretch cause detail).blobs = s.blobs ∧
    (s.suppressWork h w stretch cause detail).flash = s.flash ∧
    (s.suppressWork h w stretch cause detail).auth = s.auth ∧ (s.suppressWork h w stretch cause detail).spi = s.spi ∧
    (s.suppressWork h w stretch cause detail).ring = s.ring ∧
    (s.suppressWork h w stretch cause detail).sieve = s.sieve ∧
    (s.suppressWork h w stretch cause detail).engine = s.engine ∧
    (s.suppressWork h w stretch cause detail).time = s.time ∧
    (s.suppressWork h w stretch cause detail).motion = s.motion ∧
    (s.suppressWork h w stretch cause detail).clocks = s.clocks ∧
    (s.suppressWork h w stretch cause detail).thermal = s.thermal ∧
    (s.suppressWork h w stretch cause detail).images = s.images ∧
    (s.suppressWork h w stretch cause detail).tap = s.tap ∧
    (s.suppressWork h w stretch cause detail).fresh = s.fresh := by
  unfold State.suppressWork
  (repeat' split) <;> simp

@[simp] theorem frame_flushRunning (s : State) (h : HeadNo) (cause detail : Nat) (slots : List SentSlot) : (s.flushRunning h cause detail slots).pending = s.pending ∧
    (s.flushRunning h cause detail slots).deferred = s.deferred ∧ (s.flushRunning h cause detail slots).dev = s.dev ∧
    (s.flushRunning h cause detail slots).power = s.power ∧ (s.flushRunning h cause detail slots).clk = s.clk ∧
    (s.flushRunning h cause detail slots).fuses = s.fuses ∧ (s.flushRunning h cause detail slots).blobs = s.blobs ∧
    (s.flushRunning h cause detail slots).flash = s.flash ∧ (s.flushRunning h cause detail slots).auth = s.auth ∧
    (s.flushRunning h cause detail slots).spi = s.spi ∧ (s.flushRunning h cause detail slots).ring = s.ring ∧
    (s.flushRunning h cause detail slots).sieve = s.sieve ∧ (s.flushRunning h cause detail slots).engine = s.engine ∧
    (s.flushRunning h cause detail slots).time = s.time ∧ (s.flushRunning h cause detail slots).motion = s.motion ∧
    (s.flushRunning h cause detail slots).clocks = s.clocks ∧
    (s.flushRunning h cause detail slots).thermal = s.thermal ∧
    (s.flushRunning h cause detail slots).images = s.images ∧ (s.flushRunning h cause detail slots).tap = s.tap ∧
    (s.flushRunning h cause detail slots).fresh = s.fresh := by
  unfold State.flushRunning
  (repeat' split) <;> simp

@[simp] theorem frame_onGang (s : State) (m : Nat) (f : Axis → Axis) : (s.onGang m f).pending = s.pending ∧
    (s.onGang m f).deferred = s.deferred ∧ (s.onGang m f).dev = s.dev ∧ (s.onGang m f).power = s.power ∧
    (s.onGang m f).clk = s.clk ∧ (s.onGang m f).fuses = s.fuses ∧ (s.onGang m f).regs = s.regs ∧
    (s.onGang m f).blobs = s.blobs ∧ (s.onGang m f).flash = s.flash ∧ (s.onGang m f).leaves = s.leaves ∧
    (s.onGang m f).recorder = s.recorder ∧ (s.onGang m f).sessions = s.sessions ∧ (s.onGang m f).auth = s.auth ∧
    (s.onGang m f).spi = s.spi ∧ (s.onGang m f).ring = s.ring ∧ (s.onGang m f).ownWaiting = s.ownWaiting ∧
    (s.onGang m f).out = s.out ∧ (s.onGang m f).job = s.job ∧ (s.onGang m f).heads = s.heads ∧
    (s.onGang m f).sieve = s.sieve ∧ (s.onGang m f).engine = s.engine ∧ (s.onGang m f).time = s.time ∧
    (s.onGang m f).twin = s.twin ∧ (s.onGang m f).dram = s.dram ∧ (s.onGang m f).clocks = s.clocks ∧
    (s.onGang m f).thermal = s.thermal ∧ (s.onGang m f).images = s.images ∧ (s.onGang m f).tap = s.tap ∧
    (s.onGang m f).fresh = s.fresh := by
  unfold State.onGang
  (repeat' split) <;> simp

@[simp] theorem frame_driveCoils (s : State) : (s.driveCoils).pending = s.pending ∧
    (s.driveCoils).deferred = s.deferred ∧ (s.driveCoils).dev = s.dev ∧ (s.driveCoils).power = s.power ∧
    (s.driveCoils).clk = s.clk ∧ (s.driveCoils).fuses = s.fuses ∧ (s.driveCoils).regs = s.regs ∧
    (s.driveCoils).blobs = s.blobs ∧ (s.driveCoils).flash = s.flash ∧ (s.driveCoils).leaves = s.leaves ∧
    (s.driveCoils).recorder = s.recorder ∧ (s.driveCoils).sessions = s.sessions ∧ (s.driveCoils).auth = s.auth ∧
    (s.driveCoils).spi = s.spi ∧ (s.driveCoils).ring = s.ring ∧ (s.driveCoils).ownWaiting = s.ownWaiting ∧
    (s.driveCoils).out = s.out ∧ (s.driveCoils).job = s.job ∧ (s.driveCoils).heads = s.heads ∧
    (s.driveCoils).sieve = s.sieve ∧ (s.driveCoils).engine = s.engine ∧ (s.driveCoils).time = s.time ∧
    (s.driveCoils).twin = s.twin ∧ (s.driveCoils).dram = s.dram ∧ (s.driveCoils).clocks = s.clocks ∧
    (s.driveCoils).thermal = s.thermal ∧ (s.driveCoils).images = s.images ∧ (s.driveCoils).tap = s.tap ∧
    (s.driveCoils).fresh = s.fresh := by
  unfold State.driveCoils
  (repeat' split) <;> simp

@[simp] theorem frame_recoatFails (s : State) (m : Nat) : (s.recoatFails m).pending = s.pending ∧
    (s.recoatFails m).deferred = s.deferred ∧ (s.recoatFails m).dev = s.dev ∧ (s.recoatFails m).power = s.power ∧
    (s.recoatFails m).clk = s.clk ∧ (s.recoatFails m).fuses = s.fuses ∧ (s.recoatFails m).regs = s.regs ∧
    (s.recoatFails m).blobs = s.blobs ∧ (s.recoatFails m).flash = s.flash ∧ (s.recoatFails m).recorder = s.recorder ∧
    (s.recoatFails m).auth = s.auth ∧ (s.recoatFails m).spi = s.spi ∧ (s.recoatFails m).ring = s.ring ∧
    (s.recoatFails m).job = s.job ∧ (s.recoatFails m).heads = s.heads ∧ (s.recoatFails m).sieve = s.sieve ∧
    (s.recoatFails m).engine = s.engine ∧ (s.recoatFails m).time = s.time ∧ (s.recoatFails m).dram = s.dram ∧
    (s.recoatFails m).clocks = s.clocks ∧ (s.recoatFails m).thermal = s.thermal ∧
    (s.recoatFails m).images = s.images ∧ (s.recoatFails m).tap = s.tap ∧ (s.recoatFails m).fresh = s.fresh := by
  unfold State.recoatFails
  (repeat' split) <;> simp

@[simp] theorem frame_abortHoming (s : State) (m reason : Nat) : (s.abortHoming m reason).pending = s.pending ∧
    (s.abortHoming m reason).deferred = s.deferred ∧ (s.abortHoming m reason).dev = s.dev ∧
    (s.abortHoming m reason).power = s.power ∧ (s.abortHoming m reason).clk = s.clk ∧
    (s.abortHoming m reason).fuses = s.fuses ∧ (s.abortHoming m reason).blobs = s.blobs ∧
    (s.abortHoming m reason).flash = s.flash ∧ (s.abortHoming m reason).recorder = s.recorder ∧
    (s.abortHoming m reason).auth = s.auth ∧ (s.abortHoming m reason).spi = s.spi ∧
    (s.abortHoming m reason).ring = s.ring ∧ (s.abortHoming m reason).job = s.job ∧
    (s.abortHoming m reason).heads = s.heads ∧ (s.abortHoming m reason).sieve = s.sieve ∧
    (s.abortHoming m reason).engine = s.engine ∧ (s.abortHoming m reason).time = s.time ∧
    (s.abortHoming m reason).dram = s.dram ∧ (s.abortHoming m reason).clocks = s.clocks ∧
    (s.abortHoming m reason).thermal = s.thermal ∧ (s.abortHoming m reason).images = s.images ∧
    (s.abortHoming m reason).tap = s.tap ∧ (s.abortHoming m reason).fresh = s.fresh := by
  unfold State.abortHoming
  (repeat' split) <;> simp

@[simp] theorem frame_rampDown (s : State) (m decel : Nat) (into : RestInto) : (s.rampDown m decel into).pending = s.pending ∧
    (s.rampDown m decel into).deferred = s.deferred ∧ (s.rampDown m decel into).dev = s.dev ∧
    (s.rampDown m decel into).power = s.power ∧ (s.rampDown m decel into).clk = s.clk ∧
    (s.rampDown m decel into).fuses = s.fuses ∧ (s.rampDown m decel into).regs = s.regs ∧
    (s.rampDown m decel into).blobs = s.blobs ∧ (s.rampDown m decel into).flash = s.flash ∧
    (s.rampDown m decel into).leaves = s.leaves ∧ (s.rampDown m decel into).recorder = s.recorder ∧
    (s.rampDown m decel into).sessions = s.sessions ∧ (s.rampDown m decel into).auth = s.auth ∧
    (s.rampDown m decel into).spi = s.spi ∧ (s.rampDown m decel into).ring = s.ring ∧
    (s.rampDown m decel into).ownWaiting = s.ownWaiting ∧ (s.rampDown m decel into).out = s.out ∧
    (s.rampDown m decel into).job = s.job ∧ (s.rampDown m decel into).heads = s.heads ∧
    (s.rampDown m decel into).sieve = s.sieve ∧ (s.rampDown m decel into).engine = s.engine ∧
    (s.rampDown m decel into).time = s.time ∧ (s.rampDown m decel into).twin = s.twin ∧
    (s.rampDown m decel into).dram = s.dram ∧ (s.rampDown m decel into).clocks = s.clocks ∧
    (s.rampDown m decel into).thermal = s.thermal ∧ (s.rampDown m decel into).images = s.images ∧
    (s.rampDown m decel into).tap = s.tap ∧ (s.rampDown m decel into).fresh = s.fresh := by
  unfold State.rampDown
  (repeat' split) <;> simp

@[simp] theorem frame_limitDown (s : State) (m : Nat) (into : RestInto) : (s.limitDown m into).pending = s.pending ∧
    (s.limitDown m into).deferred = s.deferred ∧ (s.limitDown m into).dev = s.dev ∧
    (s.limitDown m into).power = s.power ∧ (s.limitDown m into).clk = s.clk ∧ (s.limitDown m into).fuses = s.fuses ∧
    (s.limitDown m into).regs = s.regs ∧ (s.limitDown m into).blobs = s.blobs ∧ (s.limitDown m into).flash = s.flash ∧
    (s.limitDown m into).leaves = s.leaves ∧ (s.limitDown m into).recorder = s.recorder ∧
    (s.limitDown m into).sessions = s.sessions ∧ (s.limitDown m into).auth = s.auth ∧
    (s.limitDown m into).spi = s.spi ∧ (s.limitDown m into).ring = s.ring ∧
    (s.limitDown m into).ownWaiting = s.ownWaiting ∧ (s.limitDown m into).out = s.out ∧
    (s.limitDown m into).job = s.job ∧ (s.limitDown m into).heads = s.heads ∧ (s.limitDown m into).sieve = s.sieve ∧
    (s.limitDown m into).engine = s.engine ∧ (s.limitDown m into).time = s.time ∧ (s.limitDown m into).twin = s.twin ∧
    (s.limitDown m into).dram = s.dram ∧ (s.limitDown m into).clocks = s.clocks ∧
    (s.limitDown m into).thermal = s.thermal ∧ (s.limitDown m into).images = s.images ∧
    (s.limitDown m into).tap = s.tap ∧ (s.limitDown m into).fresh = s.fresh := by
  unfold State.limitDown
  (repeat' split) <;> simp

@[simp] theorem frame_stopAxis (s : State) (m : Nat) : (s.stopAxis m).pending = s.pending ∧
    (s.stopAxis m).deferred = s.deferred ∧ (s.stopAxis m).dev = s.dev ∧ (s.stopAxis m).power = s.power ∧
    (s.stopAxis m).clk = s.clk ∧ (s.stopAxis m).fuses = s.fuses ∧ (s.stopAxis m).blobs = s.blobs ∧
    (s.stopAxis m).flash = s.flash ∧ (s.stopAxis m).recorder = s.recorder ∧ (s.stopAxis m).auth = s.auth ∧
    (s.stopAxis m).spi = s.spi ∧ (s.stopAxis m).ring = s.ring ∧ (s.stopAxis m).job = s.job ∧
    (s.stopAxis m).heads = s.heads ∧ (s.stopAxis m).sieve = s.sieve ∧ (s.stopAxis m).engine = s.engine ∧
    (s.stopAxis m).time = s.time ∧ (s.stopAxis m).dram = s.dram ∧ (s.stopAxis m).clocks = s.clocks ∧
    (s.stopAxis m).thermal = s.thermal ∧ (s.stopAxis m).images = s.images ∧ (s.stopAxis m).tap = s.tap ∧
    (s.stopAxis m).fresh = s.fresh := by
  unfold State.stopAxis
  (repeat' split) <;> simp

@[simp] theorem frame_faultAxis (s : State) (m reason : Nat) : (s.faultAxis m reason).pending = s.pending ∧
    (s.faultAxis m reason).deferred = s.deferred ∧ (s.faultAxis m reason).dev = s.dev ∧
    (s.faultAxis m reason).power = s.power ∧ (s.faultAxis m reason).clk = s.clk ∧
    (s.faultAxis m reason).fuses = s.fuses ∧ (s.faultAxis m reason).blobs = s.blobs ∧
    (s.faultAxis m reason).flash = s.flash ∧ (s.faultAxis m reason).recorder = s.recorder ∧
    (s.faultAxis m reason).auth = s.auth ∧ (s.faultAxis m reason).spi = s.spi ∧ (s.faultAxis m reason).ring = s.ring ∧
    (s.faultAxis m reason).job = s.job ∧ (s.faultAxis m reason).heads = s.heads ∧
    (s.faultAxis m reason).sieve = s.sieve ∧ (s.faultAxis m reason).engine = s.engine ∧
    (s.faultAxis m reason).time = s.time ∧ (s.faultAxis m reason).dram = s.dram ∧
    (s.faultAxis m reason).clocks = s.clocks ∧ (s.faultAxis m reason).thermal = s.thermal ∧
    (s.faultAxis m reason).images = s.images ∧ (s.faultAxis m reason).tap = s.tap ∧
    (s.faultAxis m reason).fresh = s.fresh := by
  unfold State.faultAxis
  (repeat' split) <;> simp

@[simp] theorem frame_followError (s : State) (m : Nat) : (s.followError m).pending = s.pending ∧
    (s.followError m).deferred = s.deferred ∧ (s.followError m).dev = s.dev ∧ (s.followError m).power = s.power ∧
    (s.followError m).clk = s.clk ∧ (s.followError m).fuses = s.fuses ∧ (s.followError m).blobs = s.blobs ∧
    (s.followError m).flash = s.flash ∧ (s.followError m).recorder = s.recorder ∧ (s.followError m).auth = s.auth ∧
    (s.followError m).spi = s.spi ∧ (s.followError m).ring = s.ring ∧ (s.followError m).job = s.job ∧
    (s.followError m).heads = s.heads ∧ (s.followError m).sieve = s.sieve ∧ (s.followError m).engine = s.engine ∧
    (s.followError m).time = s.time ∧ (s.followError m).dram = s.dram ∧ (s.followError m).clocks = s.clocks ∧
    (s.followError m).thermal = s.thermal ∧ (s.followError m).images = s.images ∧ (s.followError m).tap = s.tap ∧
    (s.followError m).fresh = s.fresh := by
  unfold State.followError
  (repeat' split) <;> simp

@[simp] theorem frame_axesOff (s : State) : (s.axesOff).pending = s.pending ∧ (s.axesOff).deferred = s.deferred ∧
    (s.axesOff).dev = s.dev ∧ (s.axesOff).power = s.power ∧ (s.axesOff).clk = s.clk ∧ (s.axesOff).fuses = s.fuses ∧
    (s.axesOff).blobs = s.blobs ∧ (s.axesOff).flash = s.flash ∧ (s.axesOff).recorder = s.recorder ∧
    (s.axesOff).auth = s.auth ∧ (s.axesOff).spi = s.spi ∧ (s.axesOff).ring = s.ring ∧ (s.axesOff).job = s.job ∧
    (s.axesOff).heads = s.heads ∧ (s.axesOff).sieve = s.sieve ∧ (s.axesOff).engine = s.engine ∧
    (s.axesOff).time = s.time ∧ (s.axesOff).dram = s.dram ∧ (s.axesOff).clocks = s.clocks ∧
    (s.axesOff).thermal = s.thermal ∧ (s.axesOff).images = s.images ∧ (s.axesOff).tap = s.tap ∧
    (s.axesOff).fresh = s.fresh := by
  unfold State.axesOff
  (repeat' split) <;> simp

@[simp] theorem frame_axesStop (s : State) : (s.axesStop).pending = s.pending ∧ (s.axesStop).deferred = s.deferred ∧
    (s.axesStop).dev = s.dev ∧ (s.axesStop).power = s.power ∧ (s.axesStop).clk = s.clk ∧
    (s.axesStop).fuses = s.fuses ∧ (s.axesStop).blobs = s.blobs ∧ (s.axesStop).flash = s.flash ∧
    (s.axesStop).recorder = s.recorder ∧ (s.axesStop).auth = s.auth ∧ (s.axesStop).spi = s.spi ∧
    (s.axesStop).ring = s.ring ∧ (s.axesStop).job = s.job ∧ (s.axesStop).heads = s.heads ∧
    (s.axesStop).sieve = s.sieve ∧ (s.axesStop).engine = s.engine ∧ (s.axesStop).time = s.time ∧
    (s.axesStop).dram = s.dram ∧ (s.axesStop).clocks = s.clocks ∧ (s.axesStop).thermal = s.thermal ∧
    (s.axesStop).images = s.images ∧ (s.axesStop).tap = s.tap ∧ (s.axesStop).fresh = s.fresh := by
  unfold State.axesStop
  (repeat' split) <;> simp

@[simp] theorem frame_cancelBelow (s : State) (layer : Nat) : (s.cancelBelow layer).pending = s.pending ∧
    (s.cancelBelow layer).deferred = s.deferred ∧ (s.cancelBelow layer).dev = s.dev ∧
    (s.cancelBelow layer).power = s.power ∧ (s.cancelBelow layer).clk = s.clk ∧
    (s.cancelBelow layer).fuses = s.fuses ∧ (s.cancelBelow layer).blobs = s.blobs ∧
    (s.cancelBelow layer).flash = s.flash ∧ (s.cancelBelow layer).leaves = s.leaves ∧
    (s.cancelBelow layer).recorder = s.recorder ∧ (s.cancelBelow layer).auth = s.auth ∧
    (s.cancelBelow layer).spi = s.spi ∧ (s.cancelBelow layer).ring = s.ring ∧ (s.cancelBelow layer).sieve = s.sieve ∧
    (s.cancelBelow layer).engine = s.engine ∧ (s.cancelBelow layer).time = s.time ∧
    (s.cancelBelow layer).motion = s.motion ∧ (s.cancelBelow layer).clocks = s.clocks ∧
    (s.cancelBelow layer).thermal = s.thermal ∧ (s.cancelBelow layer).images = s.images ∧
    (s.cancelBelow layer).tap = s.tap ∧ (s.cancelBelow layer).fresh = s.fresh := by
  unfold State.cancelBelow
  (repeat' split) <;> simp

@[simp] theorem frame_reportRecoat (s : State) (layer : Nat) : (s.reportRecoat layer).pending = s.pending ∧
    (s.reportRecoat layer).deferred = s.deferred ∧ (s.reportRecoat layer).dev = s.dev ∧
    (s.reportRecoat layer).power = s.power ∧ (s.reportRecoat layer).clk = s.clk ∧
    (s.reportRecoat layer).fuses = s.fuses ∧ (s.reportRecoat layer).blobs = s.blobs ∧
    (s.reportRecoat layer).flash = s.flash ∧ (s.reportRecoat layer).recorder = s.recorder ∧
    (s.reportRecoat layer).auth = s.auth ∧ (s.reportRecoat layer).spi = s.spi ∧ (s.reportRecoat layer).ring = s.ring ∧
    (s.reportRecoat layer).sieve = s.sieve ∧ (s.reportRecoat layer).engine = s.engine ∧
    (s.reportRecoat layer).time = s.time ∧ (s.reportRecoat layer).clocks = s.clocks ∧
    (s.reportRecoat layer).thermal = s.thermal ∧ (s.reportRecoat layer).images = s.images ∧
    (s.reportRecoat layer).tap = s.tap ∧ (s.reportRecoat layer).fresh = s.fresh := by
  unfold State.reportRecoat
  (repeat' split) <;> simp

@[simp] theorem frame_compareStates (s : State) : (s.compareStates).pending = s.pending ∧
    (s.compareStates).deferred = s.deferred ∧ (s.compareStates).dev = s.dev ∧ (s.compareStates).power = s.power ∧
    (s.compareStates).clk = s.clk ∧ (s.compareStates).fuses = s.fuses ∧ (s.compareStates).regs = s.regs ∧
    (s.compareStates).blobs = s.blobs ∧ (s.compareStates).flash = s.flash ∧ (s.compareStates).leaves = s.leaves ∧
    (s.compareStates).recorder = s.recorder ∧ (s.compareStates).sessions = s.sessions ∧
    (s.compareStates).auth = s.auth ∧ (s.compareStates).spi = s.spi ∧ (s.compareStates).ring = s.ring ∧
    (s.compareStates).ownWaiting = s.ownWaiting ∧ (s.compareStates).out = s.out ∧ (s.compareStates).job = s.job ∧
    (s.compareStates).heads = s.heads ∧ (s.compareStates).sieve = s.sieve ∧ (s.compareStates).engine = s.engine ∧
    (s.compareStates).time = s.time ∧ (s.compareStates).motion = s.motion ∧ (s.compareStates).dram = s.dram ∧
    (s.compareStates).clocks = s.clocks ∧ (s.compareStates).thermal = s.thermal ∧
    (s.compareStates).images = s.images ∧ (s.compareStates).tap = s.tap ∧ (s.compareStates).fresh = s.fresh := by
  unfold State.compareStates
  (repeat' split) <;> simp

@[simp] theorem frame_requested (s : State) (next : DevState) : (s.requested next).pending = s.pending ∧
    (s.requested next).deferred = s.deferred ∧ (s.requested next).power = s.power ∧ (s.requested next).clk = s.clk ∧
    (s.requested next).fuses = s.fuses ∧ (s.requested next).regs = s.regs ∧ (s.requested next).blobs = s.blobs ∧
    (s.requested next).flash = s.flash ∧ (s.requested next).leaves = s.leaves ∧
    (s.requested next).recorder = s.recorder ∧ (s.requested next).sessions = s.sessions ∧
    (s.requested next).auth = s.auth ∧ (s.requested next).spi = s.spi ∧ (s.requested next).ring = s.ring ∧
    (s.requested next).ownWaiting = s.ownWaiting ∧ (s.requested next).out = s.out ∧ (s.requested next).job = s.job ∧
    (s.requested next).heads = s.heads ∧ (s.requested next).sieve = s.sieve ∧ (s.requested next).engine = s.engine ∧
    (s.requested next).time = s.time ∧ (s.requested next).motion = s.motion ∧ (s.requested next).dram = s.dram ∧
    (s.requested next).clocks = s.clocks ∧ (s.requested next).thermal = s.thermal ∧
    (s.requested next).images = s.images ∧ (s.requested next).tap = s.tap ∧ (s.requested next).fresh = s.fresh := by
  unfold State.requested
  (repeat' split) <;> simp

@[simp] theorem frame_automatic (s : State) (next : DevState) (cause : Nat) : (s.automatic next cause).pending = s.pending ∧
    (s.automatic next cause).deferred = s.deferred ∧ (s.automatic next cause).power = s.power ∧
    (s.automatic next cause).clk = s.clk ∧ (s.automatic next cause).fuses = s.fuses ∧
    (s.automatic next cause).blobs = s.blobs ∧ (s.automatic next cause).flash = s.flash ∧
    (s.automatic next cause).auth = s.auth ∧ (s.automatic next cause).spi = s.spi ∧
    (s.automatic next cause).ring = s.ring ∧ (s.automatic next cause).job = s.job ∧
    (s.automatic next cause).heads = s.heads ∧ (s.automatic next cause).sieve = s.sieve ∧
    (s.automatic next cause).engine = s.engine ∧ (s.automatic next cause).time = s.time ∧
    (s.automatic next cause).motion = s.motion ∧ (s.automatic next cause).dram = s.dram ∧
    (s.automatic next cause).clocks = s.clocks ∧ (s.automatic next cause).thermal = s.thermal ∧
    (s.automatic next cause).images = s.images ∧ (s.automatic next cause).tap = s.tap ∧
    (s.automatic next cause).fresh = s.fresh := by
  unfold State.automatic
  (repeat' split) <;> simp

@[simp] theorem frame_goCold (s : State) (cause : Nat) : (s.goCold cause).pending = s.pending ∧
    (s.goCold cause).deferred = s.deferred ∧ (s.goCold cause).power = s.power ∧ (s.goCold cause).clk = s.clk ∧
    (s.goCold cause).fuses = s.fuses ∧ (s.goCold cause).blobs = s.blobs ∧ (s.goCold cause).flash = s.flash ∧
    (s.goCold cause).auth = s.auth ∧ (s.goCold cause).spi = s.spi ∧ (s.goCold cause).ring = s.ring ∧
    (s.goCold cause).sieve = s.sieve ∧ (s.goCold cause).engine = s.engine ∧ (s.goCold cause).time = s.time ∧
    (s.goCold cause).motion = s.motion ∧ (s.goCold cause).clocks = s.clocks ∧ (s.goCold cause).thermal = s.thermal ∧
    (s.goCold cause).images = s.images ∧ (s.goCold cause).tap = s.tap ∧ (s.goCold cause).fresh = s.fresh := by
  unfold State.goCold
  (repeat' split) <;> simp

@[simp] theorem frame_toFault (s : State) (cause : Nat) : (s.toFault cause).pending = s.pending ∧
    (s.toFault cause).deferred = s.deferred ∧ (s.toFault cause).power = s.power ∧ (s.toFault cause).clk = s.clk ∧
    (s.toFault cause).fuses = s.fuses ∧ (s.toFault cause).blobs = s.blobs ∧ (s.toFault cause).flash = s.flash ∧
    (s.toFault cause).auth = s.auth ∧ (s.toFault cause).spi = s.spi ∧ (s.toFault cause).ring = s.ring ∧
    (s.toFault cause).sieve = s.sieve ∧ (s.toFault cause).engine = s.engine ∧ (s.toFault cause).time = s.time ∧
    (s.toFault cause).clocks = s.clocks ∧ (s.toFault cause).thermal = s.thermal ∧
    (s.toFault cause).images = s.images ∧ (s.toFault cause).tap = s.tap := by
  unfold State.toFault
  (repeat' split) <;> simp

@[simp] theorem frame_faultCause (s : State) (cause : Nat) : (s.faultCause cause).pending = s.pending ∧
    (s.faultCause cause).deferred = s.deferred ∧ (s.faultCause cause).power = s.power ∧
    (s.faultCause cause).clk = s.clk ∧ (s.faultCause cause).fuses = s.fuses ∧ (s.faultCause cause).blobs = s.blobs ∧
    (s.faultCause cause).flash = s.flash ∧ (s.faultCause cause).auth = s.auth ∧ (s.faultCause cause).spi = s.spi ∧
    (s.faultCause cause).ring = s.ring ∧ (s.faultCause cause).sieve = s.sieve ∧
    (s.faultCause cause).engine = s.engine ∧ (s.faultCause cause).time = s.time ∧
    (s.faultCause cause).clocks = s.clocks ∧ (s.faultCause cause).thermal = s.thermal ∧
    (s.faultCause cause).images = s.images ∧ (s.faultCause cause).tap = s.tap := by
  unfold State.faultCause
  (repeat' split) <;> simp

@[simp] theorem frame_tripState (s : State) : (s.tripState).pending = s.pending ∧
    (s.tripState).deferred = s.deferred ∧ (s.tripState).power = s.power ∧ (s.tripState).clk = s.clk ∧
    (s.tripState).fuses = s.fuses ∧ (s.tripState).blobs = s.blobs ∧ (s.tripState).flash = s.flash ∧
    (s.tripState).auth = s.auth ∧ (s.tripState).spi = s.spi ∧ (s.tripState).ring = s.ring ∧
    (s.tripState).sieve = s.sieve ∧ (s.tripState).engine = s.engine ∧ (s.tripState).time = s.time ∧
    (s.tripState).clocks = s.clocks ∧ (s.tripState).thermal = s.thermal ∧ (s.tripState).images = s.images ∧
    (s.tripState).tap = s.tap := by
  unfold State.tripState
  dsimp only
  (repeat' split) <;> simp

@[simp] theorem frame_holdHeads (s : State) : (s.holdHeads).pending = s.pending ∧
    (s.holdHeads).deferred = s.deferred ∧ (s.holdHeads).dev = s.dev ∧ (s.holdHeads).power = s.power ∧
    (s.holdHeads).clk = s.clk ∧ (s.holdHeads).fuses = s.fuses ∧ (s.holdHeads).regs = s.regs ∧
    (s.holdHeads).blobs = s.blobs ∧ (s.holdHeads).flash = s.flash ∧ (s.holdHeads).leaves = s.leaves ∧
    (s.holdHeads).recorder = s.recorder ∧ (s.holdHeads).sessions = s.sessions ∧ (s.holdHeads).auth = s.auth ∧
    (s.holdHeads).spi = s.spi ∧ (s.holdHeads).ring = s.ring ∧ (s.holdHeads).ownWaiting = s.ownWaiting ∧
    (s.holdHeads).out = s.out ∧ (s.holdHeads).job = s.job ∧ (s.holdHeads).sieve = s.sieve ∧
    (s.holdHeads).engine = s.engine ∧ (s.holdHeads).time = s.time ∧ (s.holdHeads).twin = s.twin ∧
    (s.holdHeads).motion = s.motion ∧ (s.holdHeads).dram = s.dram ∧ (s.holdHeads).clocks = s.clocks ∧
    (s.holdHeads).thermal = s.thermal ∧ (s.holdHeads).images = s.images ∧ (s.holdHeads).tap = s.tap ∧
    (s.holdHeads).fresh = s.fresh := by
  unfold State.holdHeads
  (repeat' split) <;> simp

@[simp] theorem frame_countInhibit (s : State) (et : Tick) : (s.countInhibit et).pending = s.pending ∧
    (s.countInhibit et).deferred = s.deferred ∧ (s.countInhibit et).dev = s.dev ∧
    (s.countInhibit et).power = s.power ∧ (s.countInhibit et).clk = s.clk ∧ (s.countInhibit et).fuses = s.fuses ∧
    (s.countInhibit et).blobs = s.blobs ∧ (s.countInhibit et).flash = s.flash ∧ (s.countInhibit et).auth = s.auth ∧
    (s.countInhibit et).spi = s.spi ∧ (s.countInhibit et).ring = s.ring ∧ (s.countInhibit et).job = s.job ∧
    (s.countInhibit et).heads = s.heads ∧ (s.countInhibit et).sieve = s.sieve ∧
    (s.countInhibit et).engine = s.engine ∧ (s.countInhibit et).time = s.time ∧
    (s.countInhibit et).motion = s.motion ∧ (s.countInhibit et).dram = s.dram ∧
    (s.countInhibit et).clocks = s.clocks ∧ (s.countInhibit et).thermal = s.thermal ∧
    (s.countInhibit et).images = s.images ∧ (s.countInhibit et).tap = s.tap ∧
    (s.countInhibit et).fresh = s.fresh := by
  unfold State.countInhibit
  (repeat' split) <;> simp

@[simp] theorem frame_inhibitMove (s : State) : (s.inhibitMove).pending = s.pending ∧
    (s.inhibitMove).deferred = s.deferred ∧ (s.inhibitMove).power = s.power ∧ (s.inhibitMove).clk = s.clk ∧
    (s.inhibitMove).fuses = s.fuses ∧ (s.inhibitMove).blobs = s.blobs ∧ (s.inhibitMove).flash = s.flash ∧
    (s.inhibitMove).auth = s.auth ∧ (s.inhibitMove).spi = s.spi ∧ (s.inhibitMove).ring = s.ring ∧
    (s.inhibitMove).job = s.job ∧ (s.inhibitMove).sieve = s.sieve ∧ (s.inhibitMove).engine = s.engine ∧
    (s.inhibitMove).time = s.time ∧ (s.inhibitMove).motion = s.motion ∧ (s.inhibitMove).dram = s.dram ∧
    (s.inhibitMove).clocks = s.clocks ∧ (s.inhibitMove).thermal = s.thermal ∧ (s.inhibitMove).images = s.images ∧
    (s.inhibitMove).tap = s.tap ∧ (s.inhibitMove).fresh = s.fresh := by
  unfold State.inhibitMove
  (repeat' split) <;> simp

@[simp] theorem frame_inhibitState (s : State) : (s.inhibitState).pending = s.pending ∧
    (s.inhibitState).deferred = s.deferred ∧ (s.inhibitState).power = s.power ∧ (s.inhibitState).clk = s.clk ∧
    (s.inhibitState).fuses = s.fuses ∧ (s.inhibitState).blobs = s.blobs ∧ (s.inhibitState).flash = s.flash ∧
    (s.inhibitState).auth = s.auth ∧ (s.inhibitState).spi = s.spi ∧ (s.inhibitState).ring = s.ring ∧
    (s.inhibitState).job = s.job ∧ (s.inhibitState).sieve = s.sieve ∧ (s.inhibitState).engine = s.engine ∧
    (s.inhibitState).time = s.time ∧ (s.inhibitState).motion = s.motion ∧ (s.inhibitState).dram = s.dram ∧
    (s.inhibitState).clocks = s.clocks ∧ (s.inhibitState).thermal = s.thermal ∧ (s.inhibitState).images = s.images ∧
    (s.inhibitState).tap = s.tap ∧ (s.inhibitState).fresh = s.fresh := by
  unfold State.inhibitState
  (repeat' split) <;> simp

@[simp] theorem frame_inhibited (s : State) : (s.inhibited).pending = s.pending ∧
    (s.inhibited).deferred = s.deferred ∧ (s.inhibited).clk = s.clk ∧ (s.inhibited).fuses = s.fuses ∧
    (s.inhibited).blobs = s.blobs ∧ (s.inhibited).flash = s.flash ∧ (s.inhibited).auth = s.auth ∧
    (s.inhibited).spi = s.spi ∧ (s.inhibited).ring = s.ring ∧ (s.inhibited).sieve = s.sieve ∧
    (s.inhibited).engine = s.engine ∧ (s.inhibited).time = s.time ∧ (s.inhibited).motion = s.motion ∧
    (s.inhibited).clocks = s.clocks ∧ (s.inhibited).thermal = s.thermal ∧ (s.inhibited).images = s.images ∧
    (s.inhibited).tap = s.tap := by
  unfold State.inhibited
  (repeat' split) <;> simp

@[simp] theorem frame_formEffective (s : State) (index : Nat) : (s.formEffective index).pending = s.pending ∧
    (s.formEffective index).deferred = s.deferred ∧ (s.formEffective index).dev = s.dev ∧
    (s.formEffective index).power = s.power ∧ (s.formEffective index).clk = s.clk ∧
    (s.formEffective index).fuses = s.fuses ∧ (s.formEffective index).flash = s.flash ∧
    (s.formEffective index).leaves = s.leaves ∧ (s.formEffective index).recorder = s.recorder ∧
    (s.formEffective index).sessions = s.sessions ∧ (s.formEffective index).auth = s.auth ∧
    (s.formEffective index).spi = s.spi ∧ (s.formEffective index).ring = s.ring ∧
    (s.formEffective index).ownWaiting = s.ownWaiting ∧ (s.formEffective index).out = s.out ∧
    (s.formEffective index).job = s.job ∧ (s.formEffective index).heads = s.heads ∧
    (s.formEffective index).sieve = s.sieve ∧ (s.formEffective index).engine = s.engine ∧
    (s.formEffective index).time = s.time ∧ (s.formEffective index).twin = s.twin ∧
    (s.formEffective index).motion = s.motion ∧ (s.formEffective index).dram = s.dram ∧
    (s.formEffective index).clocks = s.clocks ∧ (s.formEffective index).thermal = s.thermal ∧
    (s.formEffective index).images = s.images ∧ (s.formEffective index).tap = s.tap ∧
    (s.formEffective index).fresh = s.fresh := by
  unfold State.formEffective
  (repeat' split) <;> simp

@[simp] theorem frame_storeUser (s : State) (index : Nat) (q : Quantity) (data : List Byte) : (s.storeUser index q data).pending = s.pending ∧
    (s.storeUser index q data).deferred = s.deferred ∧ (s.storeUser index q data).dev = s.dev ∧
    (s.storeUser index q data).power = s.power ∧ (s.storeUser index q data).clk = s.clk ∧
    (s.storeUser index q data).fuses = s.fuses ∧ (s.storeUser index q data).flash = s.flash ∧
    (s.storeUser index q data).leaves = s.leaves ∧ (s.storeUser index q data).recorder = s.recorder ∧
    (s.storeUser index q data).sessions = s.sessions ∧ (s.storeUser index q data).auth = s.auth ∧
    (s.storeUser index q data).spi = s.spi ∧ (s.storeUser index q data).ring = s.ring ∧
    (s.storeUser index q data).ownWaiting = s.ownWaiting ∧ (s.storeUser index q data).out = s.out ∧
    (s.storeUser index q data).job = s.job ∧ (s.storeUser index q data).heads = s.heads ∧
    (s.storeUser index q data).sieve = s.sieve ∧ (s.storeUser index q data).engine = s.engine ∧
    (s.storeUser index q data).twin = s.twin ∧ (s.storeUser index q data).motion = s.motion ∧
    (s.storeUser index q data).dram = s.dram ∧ (s.storeUser index q data).clocks = s.clocks ∧
    (s.storeUser index q data).thermal = s.thermal ∧ (s.storeUser index q data).images = s.images ∧
    (s.storeUser index q data).tap = s.tap ∧ (s.storeUser index q data).fresh = s.fresh := by
  unfold State.storeUser
  (repeat' split) <;> simp

@[simp] theorem frame_mirror (s : State) (index sub : Nat) (data : List Byte) : (s.mirror index sub data).pending = s.pending ∧
    (s.mirror index sub data).deferred = s.deferred ∧ (s.mirror index sub data).dev = s.dev ∧
    (s.mirror index sub data).power = s.power ∧ (s.mirror index sub data).clk = s.clk ∧
    (s.mirror index sub data).fuses = s.fuses ∧ (s.mirror index sub data).regs = s.regs ∧
    (s.mirror index sub data).blobs = s.blobs ∧ (s.mirror index sub data).flash = s.flash ∧
    (s.mirror index sub data).leaves = s.leaves ∧ (s.mirror index sub data).recorder = s.recorder ∧
    (s.mirror index sub data).sessions = s.sessions ∧ (s.mirror index sub data).auth = s.auth ∧
    (s.mirror index sub data).spi = s.spi ∧ (s.mirror index sub data).ring = s.ring ∧
    (s.mirror index sub data).ownWaiting = s.ownWaiting ∧ (s.mirror index sub data).job = s.job ∧
    (s.mirror index sub data).heads = s.heads ∧ (s.mirror index sub data).sieve = s.sieve ∧
    (s.mirror index sub data).engine = s.engine ∧ (s.mirror index sub data).time = s.time ∧
    (s.mirror index sub data).motion = s.motion ∧ (s.mirror index sub data).dram = s.dram ∧
    (s.mirror index sub data).clocks = s.clocks ∧ (s.mirror index sub data).thermal = s.thermal ∧
    (s.mirror index sub data).images = s.images ∧ (s.mirror index sub data).tap = s.tap ∧
    (s.mirror index sub data).fresh = s.fresh := by
  unfold State.mirror
  (repeat' split) <;> simp

@[simp] theorem frame_writeUser (s : State) (index : Nat) (data : List Byte) : (s.writeUser index data).pending = s.pending ∧
    (s.writeUser index data).deferred = s.deferred ∧ (s.writeUser index data).dev = s.dev ∧
    (s.writeUser index data).power = s.power ∧ (s.writeUser index data).clk = s.clk ∧
    (s.writeUser index data).fuses = s.fuses ∧ (s.writeUser index data).flash = s.flash ∧
    (s.writeUser index data).leaves = s.leaves ∧ (s.writeUser index data).recorder = s.recorder ∧
    (s.writeUser index data).sessions = s.sessions ∧ (s.writeUser index data).auth = s.auth ∧
    (s.writeUser index data).spi = s.spi ∧ (s.writeUser index data).ring = s.ring ∧
    (s.writeUser index data).ownWaiting = s.ownWaiting ∧ (s.writeUser index data).job = s.job ∧
    (s.writeUser index data).heads = s.heads ∧ (s.writeUser index data).sieve = s.sieve ∧
    (s.writeUser index data).engine = s.engine ∧ (s.writeUser index data).motion = s.motion ∧
    (s.writeUser index data).dram = s.dram ∧ (s.writeUser index data).clocks = s.clocks ∧
    (s.writeUser index data).thermal = s.thermal ∧ (s.writeUser index data).images = s.images ∧
    (s.writeUser index data).tap = s.tap ∧ (s.writeUser index data).fresh = s.fresh := by
  unfold State.writeUser
  (repeat' split) <;> simp

@[simp] theorem frame_execCalibrationUserWrite (path : Path) (index sub : Nat) (data : List Byte) (s : State) (s0 : State) : (outcomeState s0 (execCalibrationUserWrite path index sub data s)).pending = s.pending ∧
    (outcomeState s0 (execCalibrationUserWrite path index sub data s)).dev = s.dev ∧
    (outcomeState s0 (execCalibrationUserWrite path index sub data s)).power = s.power ∧
    (outcomeState s0 (execCalibrationUserWrite path index sub data s)).clk = s.clk ∧
    (outcomeState s0 (execCalibrationUserWrite path index sub data s)).fuses = s.fuses ∧
    (outcomeState s0 (execCalibrationUserWrite path index sub data s)).flash = s.flash ∧
    (outcomeState s0 (execCalibrationUserWrite path index sub data s)).leaves = s.leaves ∧
    (outcomeState s0 (execCalibrationUserWrite path index sub data s)).recorder = s.recorder ∧
    (outcomeState s0 (execCalibrationUserWrite path index sub data s)).sessions = s.sessions ∧
    (outcomeState s0 (execCalibrationUserWrite path index sub data s)).auth = s.auth ∧
    (outcomeState s0 (execCalibrationUserWrite path index sub data s)).spi = s.spi ∧
    (outcomeState s0 (execCalibrationUserWrite path index sub data s)).ring = s.ring ∧
    (outcomeState s0 (execCalibrationUserWrite path index sub data s)).ownWaiting = s.ownWaiting ∧
    (outcomeState s0 (execCalibrationUserWrite path index sub data s)).job = s.job ∧
    (outcomeState s0 (execCalibrationUserWrite path index sub data s)).heads = s.heads ∧
    (outcomeState s0 (execCalibrationUserWrite path index sub data s)).sieve = s.sieve ∧
    (outcomeState s0 (execCalibrationUserWrite path index sub data s)).engine = s.engine ∧
    (outcomeState s0 (execCalibrationUserWrite path index sub data s)).motion = s.motion ∧
    (outcomeState s0 (execCalibrationUserWrite path index sub data s)).dram = s.dram ∧
    (outcomeState s0 (execCalibrationUserWrite path index sub data s)).clocks = s.clocks ∧
    (outcomeState s0 (execCalibrationUserWrite path index sub data s)).thermal = s.thermal ∧
    (outcomeState s0 (execCalibrationUserWrite path index sub data s)).images = s.images ∧
    (outcomeState s0 (execCalibrationUserWrite path index sub data s)).tap = s.tap ∧
    (outcomeState s0 (execCalibrationUserWrite path index sub data s)).fresh = s.fresh := by
  simp only [execCalibrationUserWrite]
  (repeat' split) <;> simp

@[simp] theorem frame_formAll (s : State) : (s.formAll).pending = s.pending ∧ (s.formAll).deferred = s.deferred ∧
    (s.formAll).dev = s.dev ∧ (s.formAll).power = s.power ∧ (s.formAll).clk = s.clk ∧ (s.formAll).fuses = s.fuses ∧
    (s.formAll).flash = s.flash ∧ (s.formAll).leaves = s.leaves ∧ (s.formAll).recorder = s.recorder ∧
    (s.formAll).sessions = s.sessions ∧ (s.formAll).auth = s.auth ∧ (s.formAll).spi = s.spi ∧
    (s.formAll).ring = s.ring ∧ (s.formAll).ownWaiting = s.ownWaiting ∧ (s.formAll).out = s.out ∧
    (s.formAll).job = s.job ∧ (s.formAll).heads = s.heads ∧ (s.formAll).sieve = s.sieve ∧
    (s.formAll).engine = s.engine ∧ (s.formAll).time = s.time ∧ (s.formAll).twin = s.twin ∧
    (s.formAll).motion = s.motion ∧ (s.formAll).dram = s.dram ∧ (s.formAll).clocks = s.clocks ∧
    (s.formAll).thermal = s.thermal ∧ (s.formAll).images = s.images ∧ (s.formAll).tap = s.tap ∧
    (s.formAll).fresh = s.fresh := by
  unfold State.formAll
  (repeat' split) <;> simp

@[simp] theorem frame_checkTable (s : State) : (s.checkTable).pending = s.pending ∧
    (s.checkTable).deferred = s.deferred ∧ (s.checkTable).dev = s.dev ∧ (s.checkTable).power = s.power ∧
    (s.checkTable).clk = s.clk ∧ (s.checkTable).fuses = s.fuses ∧ (s.checkTable).blobs = s.blobs ∧
    (s.checkTable).flash = s.flash ∧ (s.checkTable).recorder = s.recorder ∧ (s.checkTable).auth = s.auth ∧
    (s.checkTable).spi = s.spi ∧ (s.checkTable).ring = s.ring ∧ (s.checkTable).job = s.job ∧
    (s.checkTable).heads = s.heads ∧ (s.checkTable).sieve = s.sieve ∧ (s.checkTable).engine = s.engine ∧
    (s.checkTable).time = s.time ∧ (s.checkTable).motion = s.motion ∧ (s.checkTable).dram = s.dram ∧
    (s.checkTable).clocks = s.clocks ∧ (s.checkTable).thermal = s.thermal ∧ (s.checkTable).images = s.images ∧
    (s.checkTable).tap = s.tap ∧ (s.checkTable).fresh = s.fresh := by
  unfold State.checkTable
  (repeat' split) <;> simp

@[simp] theorem frame_writeStitch (s : State) (index sub : Nat) (data : List Byte) : (s.writeStitch index sub data).pending = s.pending ∧
    (s.writeStitch index sub data).deferred = s.deferred ∧ (s.writeStitch index sub data).dev = s.dev ∧
    (s.writeStitch index sub data).power = s.power ∧ (s.writeStitch index sub data).clk = s.clk ∧
    (s.writeStitch index sub data).fuses = s.fuses ∧ (s.writeStitch index sub data).flash = s.flash ∧
    (s.writeStitch index sub data).recorder = s.recorder ∧ (s.writeStitch index sub data).auth = s.auth ∧
    (s.writeStitch index sub data).spi = s.spi ∧ (s.writeStitch index sub data).ring = s.ring ∧
    (s.writeStitch index sub data).job = s.job ∧ (s.writeStitch index sub data).heads = s.heads ∧
    (s.writeStitch index sub data).sieve = s.sieve ∧ (s.writeStitch index sub data).engine = s.engine ∧
    (s.writeStitch index sub data).time = s.time ∧ (s.writeStitch index sub data).motion = s.motion ∧
    (s.writeStitch index sub data).dram = s.dram ∧ (s.writeStitch index sub data).clocks = s.clocks ∧
    (s.writeStitch index sub data).thermal = s.thermal ∧ (s.writeStitch index sub data).images = s.images ∧
    (s.writeStitch index sub data).tap = s.tap ∧ (s.writeStitch index sub data).fresh = s.fresh := by
  unfold State.writeStitch
  (repeat' split) <;> simp

@[simp] theorem frame_execStitchTableWrite (path : Path) (index sub : Nat) (data : List Byte) (s : State) (s0 : State) : (outcomeState s0 (execStitchTableWrite path index sub data s)).pending = s.pending ∧
    (outcomeState s0 (execStitchTableWrite path index sub data s)).dev = s.dev ∧
    (outcomeState s0 (execStitchTableWrite path index sub data s)).power = s.power ∧
    (outcomeState s0 (execStitchTableWrite path index sub data s)).clk = s.clk ∧
    (outcomeState s0 (execStitchTableWrite path index sub data s)).fuses = s.fuses ∧
    (outcomeState s0 (execStitchTableWrite path index sub data s)).flash = s.flash ∧
    (outcomeState s0 (execStitchTableWrite path index sub data s)).recorder = s.recorder ∧
    (outcomeState s0 (execStitchTableWrite path index sub data s)).auth = s.auth ∧
    (outcomeState s0 (execStitchTableWrite path index sub data s)).spi = s.spi ∧
    (outcomeState s0 (execStitchTableWrite path index sub data s)).ring = s.ring ∧
    (outcomeState s0 (execStitchTableWrite path index sub data s)).job = s.job ∧
    (outcomeState s0 (execStitchTableWrite path index sub data s)).heads = s.heads ∧
    (outcomeState s0 (execStitchTableWrite path index sub data s)).sieve = s.sieve ∧
    (outcomeState s0 (execStitchTableWrite path index sub data s)).engine = s.engine ∧
    (outcomeState s0 (execStitchTableWrite path index sub data s)).time = s.time ∧
    (outcomeState s0 (execStitchTableWrite path index sub data s)).motion = s.motion ∧
    (outcomeState s0 (execStitchTableWrite path index sub data s)).dram = s.dram ∧
    (outcomeState s0 (execStitchTableWrite path index sub data s)).clocks = s.clocks ∧
    (outcomeState s0 (execStitchTableWrite path index sub data s)).thermal = s.thermal ∧
    (outcomeState s0 (execStitchTableWrite path index sub data s)).images = s.images ∧
    (outcomeState s0 (execStitchTableWrite path index sub data s)).tap = s.tap ∧
    (outcomeState s0 (execStitchTableWrite path index sub data s)).fresh = s.fresh := by
  simp only [execStitchTableWrite]
  (repeat' split) <;> simp

@[simp] theorem frame_noteFailure (s : State) (g : Segment) (r : Refused) : (s.noteFailure g r).pending = s.pending ∧
    (s.noteFailure g r).deferred = s.deferred ∧ (s.noteFailure g r).dev = s.dev ∧
    (s.noteFailure g r).power = s.power ∧ (s.noteFailure g r).clk = s.clk ∧ (s.noteFailure g r).fuses = s.fuses ∧
    (s.noteFailure g r).blobs = s.blobs ∧ (s.noteFailure g r).flash = s.flash ∧
    (s.noteFailure g r).leaves = s.leaves ∧ (s.noteFailure g r).recorder = s.recorder ∧
    (s.noteFailure g r).sessions = s.sessions ∧ (s.noteFailure g r).auth = s.auth ∧ (s.noteFailure g r).spi = s.spi ∧
    (s.noteFailure g r).ring = s.ring ∧ (s.noteFailure g r).ownWaiting = s.ownWaiting ∧
    (s.noteFailure g r).out = s.out ∧ (s.noteFailure g r).job = s.job ∧ (s.noteFailure g r).heads = s.heads ∧
    (s.noteFailure g r).sieve = s.sieve ∧ (s.noteFailure g r).engine = s.engine ∧ (s.noteFailure g r).time = s.time ∧
    (s.noteFailure g r).twin = s.twin ∧ (s.noteFailure g r).motion = s.motion ∧ (s.noteFailure g r).dram = s.dram ∧
    (s.noteFailure g r).clocks = s.clocks ∧ (s.noteFailure g r).thermal = s.thermal ∧
    (s.noteFailure g r).images = s.images ∧ (s.noteFailure g r).tap = s.tap ∧
    (s.noteFailure g r).fresh = s.fresh := by
  unfold State.noteFailure
  (repeat' split) <;> simp

@[simp] theorem frame_refuse (s : State) (g : Segment) (r : Refused) : (s.refuse g r).pending = s.pending ∧
    (s.refuse g r).deferred = s.deferred ∧ (s.refuse g r).dev = s.dev ∧ (s.refuse g r).power = s.power ∧
    (s.refuse g r).clk = s.clk ∧ (s.refuse g r).fuses = s.fuses ∧ (s.refuse g r).blobs = s.blobs ∧
    (s.refuse g r).flash = s.flash ∧ (s.refuse g r).recorder = s.recorder ∧ (s.refuse g r).auth = s.auth ∧
    (s.refuse g r).spi = s.spi ∧ (s.refuse g r).ring = s.ring ∧ (s.refuse g r).heads = s.heads ∧
    (s.refuse g r).sieve = s.sieve ∧ (s.refuse g r).engine = s.engine ∧ (s.refuse g r).time = s.time ∧
    (s.refuse g r).motion = s.motion ∧ (s.refuse g r).dram = s.dram ∧ (s.refuse g r).clocks = s.clocks ∧
    (s.refuse g r).thermal = s.thermal ∧ (s.refuse g r).images = s.images ∧ (s.refuse g r).tap = s.tap ∧
    (s.refuse g r).fresh = s.fresh := by
  unfold State.refuse
  (repeat' split) <;> simp

@[simp] theorem frame_writeSummaries (s : State) (xs : List (Nat × HeadNo × List Int × Nat)) : (s.writeSummaries xs).pending = s.pending ∧
    (s.writeSummaries xs).deferred = s.deferred ∧ (s.writeSummaries xs).dev = s.dev ∧
    (s.writeSummaries xs).power = s.power ∧ (s.writeSummaries xs).clk = s.clk ∧
    (s.writeSummaries xs).fuses = s.fuses ∧ (s.writeSummaries xs).regs = s.regs ∧
    (s.writeSummaries xs).blobs = s.blobs ∧ (s.writeSummaries xs).flash = s.flash ∧
    (s.writeSummaries xs).leaves = s.leaves ∧ (s.writeSummaries xs).recorder = s.recorder ∧
    (s.writeSummaries xs).sessions = s.sessions ∧ (s.writeSummaries xs).auth = s.auth ∧
    (s.writeSummaries xs).spi = s.spi ∧ (s.writeSummaries xs).ring = s.ring ∧
    (s.writeSummaries xs).ownWaiting = s.ownWaiting ∧ (s.writeSummaries xs).out = s.out ∧
    (s.writeSummaries xs).job = s.job ∧ (s.writeSummaries xs).heads = s.heads ∧
    (s.writeSummaries xs).sieve = s.sieve ∧ (s.writeSummaries xs).engine = s.engine ∧
    (s.writeSummaries xs).time = s.time ∧ (s.writeSummaries xs).twin = s.twin ∧
    (s.writeSummaries xs).motion = s.motion ∧ (s.writeSummaries xs).clocks = s.clocks ∧
    (s.writeSummaries xs).thermal = s.thermal ∧ (s.writeSummaries xs).images = s.images ∧
    (s.writeSummaries xs).tap = s.tap ∧ (s.writeSummaries xs).fresh = s.fresh := by
  unfold State.writeSummaries
  (repeat' split) <;> simp

@[simp] theorem frame_admitSegment (s : State) (g : Segment) (a : Admission) : (s.admitSegment g a).pending = s.pending ∧
    (s.admitSegment g a).deferred = s.deferred ∧ (s.admitSegment g a).dev = s.dev ∧
    (s.admitSegment g a).power = s.power ∧ (s.admitSegment g a).clk = s.clk ∧ (s.admitSegment g a).fuses = s.fuses ∧
    (s.admitSegment g a).regs = s.regs ∧ (s.admitSegment g a).blobs = s.blobs ∧ (s.admitSegment g a).flash = s.flash ∧
    (s.admitSegment g a).recorder = s.recorder ∧ (s.admitSegment g a).auth = s.auth ∧
    (s.admitSegment g a).spi = s.spi ∧ (s.admitSegment g a).ring = s.ring ∧ (s.admitSegment g a).heads = s.heads ∧
    (s.admitSegment g a).sieve = s.sieve ∧ (s.admitSegment g a).engine = s.engine ∧
    (s.admitSegment g a).time = s.time ∧ (s.admitSegment g a).motion = s.motion ∧
    (s.admitSegment g a).clocks = s.clocks ∧ (s.admitSegment g a).thermal = s.thermal ∧
    (s.admitSegment g a).images = s.images ∧ (s.admitSegment g a).tap = s.tap := by
  unfold State.admitSegment
  (repeat' split) <;> simp

@[simp] theorem frame_settleSegment (s : State) (g : Segment) (r : Except Refused Admission) : (s.settleSegment g r).pending = s.pending ∧
    (s.settleSegment g r).deferred = s.deferred ∧ (s.settleSegment g r).dev = s.dev ∧
    (s.settleSegment g r).power = s.power ∧ (s.settleSegment g r).clk = s.clk ∧
    (s.settleSegment g r).fuses = s.fuses ∧ (s.settleSegment g r).blobs = s.blobs ∧
    (s.settleSegment g r).flash = s.flash ∧ (s.settleSegment g r).recorder = s.recorder ∧
    (s.settleSegment g r).auth = s.auth ∧ (s.settleSegment g r).spi = s.spi ∧ (s.settleSegment g r).ring = s.ring ∧
    (s.settleSegment g r).heads = s.heads ∧ (s.settleSegment g r).sieve = s.sieve ∧
    (s.settleSegment g r).engine = s.engine ∧ (s.settleSegment g r).time = s.time ∧
    (s.settleSegment g r).motion = s.motion ∧ (s.settleSegment g r).clocks = s.clocks ∧
    (s.settleSegment g r).thermal = s.thermal ∧ (s.settleSegment g r).images = s.images ∧
    (s.settleSegment g r).tap = s.tap := by
  cases r <;> simp [State.settleSegment]

@[simp] theorem frame_lowerBypass (s : State) : (s.lowerBypass).pending = s.pending ∧
    (s.lowerBypass).deferred = s.deferred ∧ (s.lowerBypass).dev = s.dev ∧ (s.lowerBypass).power = s.power ∧
    (s.lowerBypass).clk = s.clk ∧ (s.lowerBypass).fuses = s.fuses ∧ (s.lowerBypass).regs = s.regs ∧
    (s.lowerBypass).blobs = s.blobs ∧ (s.lowerBypass).flash = s.flash ∧ (s.lowerBypass).recorder = s.recorder ∧
    (s.lowerBypass).auth = s.auth ∧ (s.lowerBypass).spi = s.spi ∧ (s.lowerBypass).job = s.job ∧
    (s.lowerBypass).heads = s.heads ∧ (s.lowerBypass).sieve = s.sieve ∧ (s.lowerBypass).engine = s.engine ∧
    (s.lowerBypass).time = s.time ∧ (s.lowerBypass).motion = s.motion ∧ (s.lowerBypass).dram = s.dram ∧
    (s.lowerBypass).clocks = s.clocks ∧ (s.lowerBypass).thermal = s.thermal ∧ (s.lowerBypass).images = s.images ∧
    (s.lowerBypass).tap = s.tap ∧ (s.lowerBypass).fresh = s.fresh := by
  unfold State.lowerBypass
  (repeat' split) <;> simp

@[simp] theorem frame_tryBypass (s : State) : (s.tryBypass).pending = s.pending ∧
    (s.tryBypass).deferred = s.deferred ∧ (s.tryBypass).dev = s.dev ∧ (s.tryBypass).power = s.power ∧
    (s.tryBypass).clk = s.clk ∧ (s.tryBypass).fuses = s.fuses ∧ (s.tryBypass).regs = s.regs ∧
    (s.tryBypass).blobs = s.blobs ∧ (s.tryBypass).flash = s.flash ∧ (s.tryBypass).leaves = s.leaves ∧
    (s.tryBypass).recorder = s.recorder ∧ (s.tryBypass).sessions = s.sessions ∧ (s.tryBypass).auth = s.auth ∧
    (s.tryBypass).spi = s.spi ∧ (s.tryBypass).ownWaiting = s.ownWaiting ∧ (s.tryBypass).out = s.out ∧
    (s.tryBypass).job = s.job ∧ (s.tryBypass).heads = s.heads ∧ (s.tryBypass).sieve = s.sieve ∧
    (s.tryBypass).engine = s.engine ∧ (s.tryBypass).time = s.time ∧ (s.tryBypass).twin = s.twin ∧
    (s.tryBypass).motion = s.motion ∧ (s.tryBypass).dram = s.dram ∧ (s.tryBypass).clocks = s.clocks ∧
    (s.tryBypass).thermal = s.thermal ∧ (s.tryBypass).images = s.images ∧ (s.tryBypass).tap = s.tap ∧
    (s.tryBypass).fresh = s.fresh := by
  unfold State.tryBypass
  (repeat' split) <;> simp

@[simp] theorem frame_trialFailed (s : State) : (s.trialFailed).pending = s.pending ∧
    (s.trialFailed).deferred = s.deferred ∧ (s.trialFailed).dev = s.dev ∧ (s.trialFailed).power = s.power ∧
    (s.trialFailed).clk = s.clk ∧ (s.trialFailed).fuses = s.fuses ∧ (s.trialFailed).blobs = s.blobs ∧
    (s.trialFailed).flash = s.flash ∧ (s.trialFailed).recorder = s.recorder ∧ (s.trialFailed).auth = s.auth ∧
    (s.trialFailed).spi = s.spi ∧ (s.trialFailed).job = s.job ∧ (s.trialFailed).heads = s.heads ∧
    (s.trialFailed).sieve = s.sieve ∧ (s.trialFailed).engine = s.engine ∧ (s.trialFailed).time = s.time ∧
    (s.trialFailed).motion = s.motion ∧ (s.trialFailed).dram = s.dram ∧ (s.trialFailed).clocks = s.clocks ∧
    (s.trialFailed).thermal = s.thermal ∧ (s.trialFailed).images = s.images ∧ (s.trialFailed).tap = s.tap ∧
    (s.trialFailed).fresh = s.fresh := by
  unfold State.trialFailed
  (repeat' split) <;> simp

@[simp] theorem frame_writeBypass (s : State) (value : Int) : (s.writeBypass value).pending = s.pending ∧
    (s.writeBypass value).deferred = s.deferred ∧ (s.writeBypass value).dev = s.dev ∧
    (s.writeBypass value).power = s.power ∧ (s.writeBypass value).clk = s.clk ∧
    (s.writeBypass value).fuses = s.fuses ∧ (s.writeBypass value).blobs = s.blobs ∧
    (s.writeBypass value).flash = s.flash ∧ (s.writeBypass value).recorder = s.recorder ∧
    (s.writeBypass value).auth = s.auth ∧ (s.writeBypass value).spi = s.spi ∧ (s.writeBypass value).job = s.job ∧
    (s.writeBypass value).heads = s.heads ∧ (s.writeBypass value).sieve = s.sieve ∧
    (s.writeBypass value).engine = s.engine ∧ (s.writeBypass value).time = s.time ∧
    (s.writeBypass value).motion = s.motion ∧ (s.writeBypass value).dram = s.dram ∧
    (s.writeBypass value).clocks = s.clocks ∧ (s.writeBypass value).thermal = s.thermal ∧
    (s.writeBypass value).images = s.images ∧ (s.writeBypass value).tap = s.tap ∧
    (s.writeBypass value).fresh = s.fresh := by
  unfold State.writeBypass
  (repeat' split) <;> simp

@[simp] theorem frame_execBypassEnableWrite (path : Path) (value : Nat) (s : State) (s0 : State) : (outcomeState s0 (execBypassEnableWrite path value s)).pending = s.pending ∧
    (outcomeState s0 (execBypassEnableWrite path value s)).dev = s.dev ∧
    (outcomeState s0 (execBypassEnableWrite path value s)).power = s.power ∧
    (outcomeState s0 (execBypassEnableWrite path value s)).clk = s.clk ∧
    (outcomeState s0 (execBypassEnableWrite path value s)).fuses = s.fuses ∧
    (outcomeState s0 (execBypassEnableWrite path value s)).blobs = s.blobs ∧
    (outcomeState s0 (execBypassEnableWrite path value s)).flash = s.flash ∧
    (outcomeState s0 (execBypassEnableWrite path value s)).recorder = s.recorder ∧
    (outcomeState s0 (execBypassEnableWrite path value s)).auth = s.auth ∧
    (outcomeState s0 (execBypassEnableWrite path value s)).spi = s.spi ∧
    (outcomeState s0 (execBypassEnableWrite path value s)).job = s.job ∧
    (outcomeState s0 (execBypassEnableWrite path value s)).heads = s.heads ∧
    (outcomeState s0 (execBypassEnableWrite path value s)).sieve = s.sieve ∧
    (outcomeState s0 (execBypassEnableWrite path value s)).engine = s.engine ∧
    (outcomeState s0 (execBypassEnableWrite path value s)).time = s.time ∧
    (outcomeState s0 (execBypassEnableWrite path value s)).motion = s.motion ∧
    (outcomeState s0 (execBypassEnableWrite path value s)).dram = s.dram ∧
    (outcomeState s0 (execBypassEnableWrite path value s)).clocks = s.clocks ∧
    (outcomeState s0 (execBypassEnableWrite path value s)).thermal = s.thermal ∧
    (outcomeState s0 (execBypassEnableWrite path value s)).images = s.images ∧
    (outcomeState s0 (execBypassEnableWrite path value s)).tap = s.tap ∧
    (outcomeState s0 (execBypassEnableWrite path value s)).fresh = s.fresh := by
  simp only [execBypassEnableWrite]
  (repeat' split) <;> simp

@[simp] theorem frame_onCamera (s : State) (h : HeadNo) (f : Camera → Camera) : (s.onCamera h f).pending = s.pending ∧
    (s.onCamera h f).deferred = s.deferred ∧ (s.onCamera h f).dev = s.dev ∧ (s.onCamera h f).power = s.power ∧
    (s.onCamera h f).clk = s.clk ∧ (s.onCamera h f).fuses = s.fuses ∧ (s.onCamera h f).regs = s.regs ∧
    (s.onCamera h f).blobs = s.blobs ∧ (s.onCamera h f).flash = s.flash ∧ (s.onCamera h f).leaves = s.leaves ∧
    (s.onCamera h f).recorder = s.recorder ∧ (s.onCamera h f).sessions = s.sessions ∧ (s.onCamera h f).auth = s.auth ∧
    (s.onCamera h f).spi = s.spi ∧ (s.onCamera h f).ring = s.ring ∧ (s.onCamera h f).ownWaiting = s.ownWaiting ∧
    (s.onCamera h f).out = s.out ∧ (s.onCamera h f).job = s.job ∧ (s.onCamera h f).sieve = s.sieve ∧
    (s.onCamera h f).engine = s.engine ∧ (s.onCamera h f).time = s.time ∧ (s.onCamera h f).twin = s.twin ∧
    (s.onCamera h f).motion = s.motion ∧ (s.onCamera h f).dram = s.dram ∧ (s.onCamera h f).clocks = s.clocks ∧
    (s.onCamera h f).thermal = s.thermal ∧ (s.onCamera h f).images = s.images ∧ (s.onCamera h f).tap = s.tap ∧
    (s.onCamera h f).fresh = s.fresh := by
  unfold State.onCamera
  (repeat' split) <;> simp

@[simp] theorem frame_writeParts (s : State) (h cause : Nat) (ps : List OutPart) : (s.writeParts h cause ps).pending = s.pending ∧
    (s.writeParts h cause ps).deferred = s.deferred ∧ (s.writeParts h cause ps).dev = s.dev ∧
    (s.writeParts h cause ps).power = s.power ∧ (s.writeParts h cause ps).clk = s.clk ∧
    (s.writeParts h cause ps).fuses = s.fuses ∧ (s.writeParts h cause ps).blobs = s.blobs ∧
    (s.writeParts h cause ps).flash = s.flash ∧ (s.writeParts h cause ps).leaves = s.leaves ∧
    (s.writeParts h cause ps).recorder = s.recorder ∧ (s.writeParts h cause ps).auth = s.auth ∧
    (s.writeParts h cause ps).spi = s.spi ∧ (s.writeParts h cause ps).ring = s.ring ∧
    (s.writeParts h cause ps).heads = s.heads ∧ (s.writeParts h cause ps).sieve = s.sieve ∧
    (s.writeParts h cause ps).engine = s.engine ∧ (s.writeParts h cause ps).time = s.time ∧
    (s.writeParts h cause ps).motion = s.motion ∧ (s.writeParts h cause ps).clocks = s.clocks ∧
    (s.writeParts h cause ps).thermal = s.thermal ∧ (s.writeParts h cause ps).images = s.images ∧
    (s.writeParts h cause ps).tap = s.tap ∧ (s.writeParts h cause ps).fresh = s.fresh := by
  unfold State.writeParts
  (repeat' split) <;> simp

@[simp] theorem frame_writeRun (s : State) (h cause : Nat) (fs : List RunFrame) : (s.writeRun h cause fs).pending = s.pending ∧
    (s.writeRun h cause fs).deferred = s.deferred ∧ (s.writeRun h cause fs).dev = s.dev ∧
    (s.writeRun h cause fs).power = s.power ∧ (s.writeRun h cause fs).clk = s.clk ∧
    (s.writeRun h cause fs).fuses = s.fuses ∧ (s.writeRun h cause fs).blobs = s.blobs ∧
    (s.writeRun h cause fs).flash = s.flash ∧ (s.writeRun h cause fs).leaves = s.leaves ∧
    (s.writeRun h cause fs).recorder = s.recorder ∧ (s.writeRun h cause fs).auth = s.auth ∧
    (s.writeRun h cause fs).spi = s.spi ∧ (s.writeRun h cause fs).ring = s.ring ∧
    (s.writeRun h cause fs).heads = s.heads ∧ (s.writeRun h cause fs).sieve = s.sieve ∧
    (s.writeRun h cause fs).engine = s.engine ∧ (s.writeRun h cause fs).time = s.time ∧
    (s.writeRun h cause fs).motion = s.motion ∧ (s.writeRun h cause fs).clocks = s.clocks ∧
    (s.writeRun h cause fs).thermal = s.thermal ∧ (s.writeRun h cause fs).images = s.images ∧
    (s.writeRun h cause fs).tap = s.tap ∧ (s.writeRun h cause fs).fresh = s.fresh := by
  unfold State.writeRun
  (repeat' split) <;> simp

@[simp] theorem frame_flushDrops (s : State) (h : HeadNo) : (s.flushDrops h).pending = s.pending ∧
    (s.flushDrops h).deferred = s.deferred ∧ (s.flushDrops h).dev = s.dev ∧ (s.flushDrops h).power = s.power ∧
    (s.flushDrops h).clk = s.clk ∧ (s.flushDrops h).fuses = s.fuses ∧ (s.flushDrops h).blobs = s.blobs ∧
    (s.flushDrops h).flash = s.flash ∧ (s.flushDrops h).leaves = s.leaves ∧ (s.flushDrops h).recorder = s.recorder ∧
    (s.flushDrops h).auth = s.auth ∧ (s.flushDrops h).spi = s.spi ∧ (s.flushDrops h).ring = s.ring ∧
    (s.flushDrops h).sieve = s.sieve ∧ (s.flushDrops h).engine = s.engine ∧ (s.flushDrops h).time = s.time ∧
    (s.flushDrops h).motion = s.motion ∧ (s.flushDrops h).clocks = s.clocks ∧ (s.flushDrops h).thermal = s.thermal ∧
    (s.flushDrops h).images = s.images ∧ (s.flushDrops h).tap = s.tap ∧ (s.flushDrops h).fresh = s.fresh := by
  unfold State.flushDrops
  (repeat' split) <;> simp

@[simp] theorem frame_dropRecord (s : State) (h : HeadNo) (f : RunFrame) (next : Tick) : (s.dropRecord h f next).pending = s.pending ∧
    (s.dropRecord h f next).deferred = s.deferred ∧ (s.dropRecord h f next).dev = s.dev ∧
    (s.dropRecord h f next).power = s.power ∧ (s.dropRecord h f next).clk = s.clk ∧
    (s.dropRecord h f next).fuses = s.fuses ∧ (s.dropRecord h f next).blobs = s.blobs ∧
    (s.dropRecord h f next).flash = s.flash ∧ (s.dropRecord h f next).leaves = s.leaves ∧
    (s.dropRecord h f next).recorder = s.recorder ∧ (s.dropRecord h f next).auth = s.auth ∧
    (s.dropRecord h f next).spi = s.spi ∧ (s.dropRecord h f next).ring = s.ring ∧
    (s.dropRecord h f next).sieve = s.sieve ∧ (s.dropRecord h f next).engine = s.engine ∧
    (s.dropRecord h f next).time = s.time ∧ (s.dropRecord h f next).motion = s.motion ∧
    (s.dropRecord h f next).clocks = s.clocks ∧ (s.dropRecord h f next).thermal = s.thermal ∧
    (s.dropRecord h f next).images = s.images ∧ (s.dropRecord h f next).tap = s.tap ∧
    (s.dropRecord h f next).fresh = s.fresh := by
  unfold State.dropRecord
  (repeat' split) <;> simp

@[simp] theorem frame_countDrop (s : State) (h reason : Nat) : (s.countDrop h reason).pending = s.pending ∧
    (s.countDrop h reason).deferred = s.deferred ∧ (s.countDrop h reason).dev = s.dev ∧
    (s.countDrop h reason).power = s.power ∧ (s.countDrop h reason).clk = s.clk ∧
    (s.countDrop h reason).fuses = s.fuses ∧ (s.countDrop h reason).blobs = s.blobs ∧
    (s.countDrop h reason).flash = s.flash ∧ (s.countDrop h reason).recorder = s.recorder ∧
    (s.countDrop h reason).auth = s.auth ∧ (s.countDrop h reason).spi = s.spi ∧ (s.countDrop h reason).ring = s.ring ∧
    (s.countDrop h reason).job = s.job ∧ (s.countDrop h reason).sieve = s.sieve ∧
    (s.countDrop h reason).engine = s.engine ∧ (s.countDrop h reason).time = s.time ∧
    (s.countDrop h reason).motion = s.motion ∧ (s.countDrop h reason).dram = s.dram ∧
    (s.countDrop h reason).clocks = s.clocks ∧ (s.countDrop h reason).thermal = s.thermal ∧
    (s.countDrop h reason).images = s.images ∧ (s.countDrop h reason).tap = s.tap ∧
    (s.countDrop h reason).fresh = s.fresh := by
  unfold State.countDrop
  (repeat' split) <;> simp

@[simp] theorem frame_dropFrame (s : State) (h reason : Nat) (m : MidState) (start : Tick) (g : Generation) : (s.dropFrame h reason m start g).pending = s.pending ∧
    (s.dropFrame h reason m start g).deferred = s.deferred ∧ (s.dropFrame h reason m start g).dev = s.dev ∧
    (s.dropFrame h reason m start g).power = s.power ∧ (s.dropFrame h reason m start g).clk = s.clk ∧
    (s.dropFrame h reason m start g).fuses = s.fuses ∧ (s.dropFrame h reason m start g).blobs = s.blobs ∧
    (s.dropFrame h reason m start g).flash = s.flash ∧ (s.dropFrame h reason m start g).recorder = s.recorder ∧
    (s.dropFrame h reason m start g).auth = s.auth ∧ (s.dropFrame h reason m start g).spi = s.spi ∧
    (s.dropFrame h reason m start g).ring = s.ring ∧ (s.dropFrame h reason m start g).sieve = s.sieve ∧
    (s.dropFrame h reason m start g).engine = s.engine ∧ (s.dropFrame h reason m start g).time = s.time ∧
    (s.dropFrame h reason m start g).motion = s.motion ∧ (s.dropFrame h reason m start g).clocks = s.clocks ∧
    (s.dropFrame h reason m start g).thermal = s.thermal ∧ (s.dropFrame h reason m start g).images = s.images ∧
    (s.dropFrame h reason m start g).tap = s.tap ∧ (s.dropFrame h reason m start g).fresh = s.fresh := by
  unfold State.dropFrame
  (repeat' split) <;> simp

@[simp] theorem frame_dropBuffer (s : State) (h reason : Nat) (f : CamFrame) : (s.dropBuffer h reason f).pending = s.pending ∧
    (s.dropBuffer h reason f).deferred = s.deferred ∧ (s.dropBuffer h reason f).dev = s.dev ∧
    (s.dropBuffer h reason f).power = s.power ∧ (s.dropBuffer h reason f).clk = s.clk ∧
    (s.dropBuffer h reason f).fuses = s.fuses ∧ (s.dropBuffer h reason f).blobs = s.blobs ∧
    (s.dropBuffer h reason f).flash = s.flash ∧ (s.dropBuffer h reason f).recorder = s.recorder ∧
    (s.dropBuffer h reason f).auth = s.auth ∧ (s.dropBuffer h reason f).spi = s.spi ∧
    (s.dropBuffer h reason f).ring = s.ring ∧ (s.dropBuffer h reason f).sieve = s.sieve ∧
    (s.dropBuffer h reason f).engine = s.engine ∧ (s.dropBuffer h reason f).time = s.time ∧
    (s.dropBuffer h reason f).motion = s.motion ∧ (s.dropBuffer h reason f).clocks = s.clocks ∧
    (s.dropBuffer h reason f).thermal = s.thermal ∧ (s.dropBuffer h reason f).images = s.images ∧
    (s.dropBuffer h reason f).tap = s.tap ∧ (s.dropBuffer h reason f).fresh = s.fresh := by
  unfold State.dropBuffer
  (repeat' split) <;> simp

@[simp] theorem frame_cameraBroken (s : State) (h : HeadNo) : (s.cameraBroken h).pending = s.pending ∧
    (s.cameraBroken h).deferred = s.deferred ∧ (s.cameraBroken h).dev = s.dev ∧ (s.cameraBroken h).power = s.power ∧
    (s.cameraBroken h).clk = s.clk ∧ (s.cameraBroken h).fuses = s.fuses ∧ (s.cameraBroken h).blobs = s.blobs ∧
    (s.cameraBroken h).flash = s.flash ∧ (s.cameraBroken h).recorder = s.recorder ∧ (s.cameraBroken h).auth = s.auth ∧
    (s.cameraBroken h).spi = s.spi ∧ (s.cameraBroken h).ring = s.ring ∧ (s.cameraBroken h).sieve = s.sieve ∧
    (s.cameraBroken h).engine = s.engine ∧ (s.cameraBroken h).time = s.time ∧ (s.cameraBroken h).motion = s.motion ∧
    (s.cameraBroken h).clocks = s.clocks ∧ (s.cameraBroken h).thermal = s.thermal ∧
    (s.cameraBroken h).images = s.images ∧ (s.cameraBroken h).tap = s.tap ∧ (s.cameraBroken h).fresh = s.fresh := by
  unfold State.cameraBroken
  (repeat' split) <;> simp

@[simp] theorem frame_onLink (s : State) (h : HeadNo) (f : HeadLink → HeadLink) : (s.onLink h f).pending = s.pending ∧
    (s.onLink h f).deferred = s.deferred ∧ (s.onLink h f).dev = s.dev ∧ (s.onLink h f).power = s.power ∧
    (s.onLink h f).clk = s.clk ∧ (s.onLink h f).fuses = s.fuses ∧ (s.onLink h f).regs = s.regs ∧
    (s.onLink h f).blobs = s.blobs ∧ (s.onLink h f).flash = s.flash ∧ (s.onLink h f).leaves = s.leaves ∧
    (s.onLink h f).recorder = s.recorder ∧ (s.onLink h f).sessions = s.sessions ∧ (s.onLink h f).auth = s.auth ∧
    (s.onLink h f).spi = s.spi ∧ (s.onLink h f).ring = s.ring ∧ (s.onLink h f).ownWaiting = s.ownWaiting ∧
    (s.onLink h f).out = s.out ∧ (s.onLink h f).job = s.job ∧ (s.onLink h f).sieve = s.sieve ∧
    (s.onLink h f).engine = s.engine ∧ (s.onLink h f).time = s.time ∧ (s.onLink h f).twin = s.twin ∧
    (s.onLink h f).motion = s.motion ∧ (s.onLink h f).dram = s.dram ∧ (s.onLink h f).clocks = s.clocks ∧
    (s.onLink h f).thermal = s.thermal ∧ (s.onLink h f).images = s.images ∧ (s.onLink h f).tap = s.tap ∧
    (s.onLink h f).fresh = s.fresh := by
  unfold State.onLink
  (repeat' split) <;> simp

@[simp] theorem frame_opticsLost (s : State) (h : HeadNo) : (s.opticsLost h).pending = s.pending ∧
    (s.opticsLost h).deferred = s.deferred ∧ (s.opticsLost h).dev = s.dev ∧ (s.opticsLost h).power = s.power ∧
    (s.opticsLost h).clk = s.clk ∧ (s.opticsLost h).fuses = s.fuses ∧ (s.opticsLost h).blobs = s.blobs ∧
    (s.opticsLost h).flash = s.flash ∧ (s.opticsLost h).recorder = s.recorder ∧ (s.opticsLost h).auth = s.auth ∧
    (s.opticsLost h).spi = s.spi ∧ (s.opticsLost h).ring = s.ring ∧ (s.opticsLost h).job = s.job ∧
    (s.opticsLost h).sieve = s.sieve ∧ (s.opticsLost h).engine = s.engine ∧ (s.opticsLost h).time = s.time ∧
    (s.opticsLost h).motion = s.motion ∧ (s.opticsLost h).dram = s.dram ∧ (s.opticsLost h).clocks = s.clocks ∧
    (s.opticsLost h).thermal = s.thermal ∧ (s.opticsLost h).images = s.images ∧ (s.opticsLost h).tap = s.tap ∧
    (s.opticsLost h).fresh = s.fresh := by
  unfold State.opticsLost
  (repeat' split) <;> simp

@[simp] theorem frame_linkLost (s : State) (h : HeadNo) (cause : Nat) : (s.linkLost h cause).pending = s.pending ∧
    (s.linkLost h cause).deferred = s.deferred ∧ (s.linkLost h cause).dev = s.dev ∧
    (s.linkLost h cause).power = s.power ∧ (s.linkLost h cause).clk = s.clk ∧ (s.linkLost h cause).fuses = s.fuses ∧
    (s.linkLost h cause).blobs = s.blobs ∧ (s.linkLost h cause).flash = s.flash ∧ (s.linkLost h cause).auth = s.auth ∧
    (s.linkLost h cause).spi = s.spi ∧ (s.linkLost h cause).ring = s.ring ∧ (s.linkLost h cause).sieve = s.sieve ∧
    (s.linkLost h cause).engine = s.engine ∧ (s.linkLost h cause).time = s.time ∧
    (s.linkLost h cause).motion = s.motion ∧ (s.linkLost h cause).clocks = s.clocks ∧
    (s.linkLost h cause).thermal = s.thermal ∧ (s.linkLost h cause).images = s.images ∧
    (s.linkLost h cause).tap = s.tap ∧ (s.linkLost h cause).fresh = s.fresh := by
  unfold State.linkLost
  (repeat' split) <;> simp

@[simp] theorem frame_linkTo (s : State) (h : HeadNo) (state : LinkState) (cause : Nat) : (s.linkTo h state cause).pending = s.pending ∧
    (s.linkTo h state cause).deferred = s.deferred ∧ (s.linkTo h state cause).dev = s.dev ∧
    (s.linkTo h state cause).power = s.power ∧ (s.linkTo h state cause).clk = s.clk ∧
    (s.linkTo h state cause).fuses = s.fuses ∧ (s.linkTo h state cause).blobs = s.blobs ∧
    (s.linkTo h state cause).flash = s.flash ∧ (s.linkTo h state cause).auth = s.auth ∧
    (s.linkTo h state cause).spi = s.spi ∧ (s.linkTo h state cause).ring = s.ring ∧
    (s.linkTo h state cause).sieve = s.sieve ∧ (s.linkTo h state cause).engine = s.engine ∧
    (s.linkTo h state cause).time = s.time ∧ (s.linkTo h state cause).motion = s.motion ∧
    (s.linkTo h state cause).clocks = s.clocks ∧ (s.linkTo h state cause).thermal = s.thermal ∧
    (s.linkTo h state cause).images = s.images ∧ (s.linkTo h state cause).tap = s.tap ∧
    (s.linkTo h state cause).fresh = s.fresh := by
  unfold State.linkTo
  (repeat' split) <;> simp

@[simp] theorem frame_captureDark (s : State) (h : HeadNo) : (s.captureDark h).pending = s.pending ∧
    (s.captureDark h).deferred = s.deferred ∧ (s.captureDark h).dev = s.dev ∧ (s.captureDark h).power = s.power ∧
    (s.captureDark h).clk = s.clk ∧ (s.captureDark h).fuses = s.fuses ∧ (s.captureDark h).regs = s.regs ∧
    (s.captureDark h).blobs = s.blobs ∧ (s.captureDark h).flash = s.flash ∧ (s.captureDark h).leaves = s.leaves ∧
    (s.captureDark h).recorder = s.recorder ∧ (s.captureDark h).sessions = s.sessions ∧
    (s.captureDark h).auth = s.auth ∧ (s.captureDark h).spi = s.spi ∧ (s.captureDark h).ring = s.ring ∧
    (s.captureDark h).ownWaiting = s.ownWaiting ∧ (s.captureDark h).out = s.out ∧ (s.captureDark h).job = s.job ∧
    (s.captureDark h).sieve = s.sieve ∧ (s.captureDark h).engine = s.engine ∧ (s.captureDark h).time = s.time ∧
    (s.captureDark h).twin = s.twin ∧ (s.captureDark h).motion = s.motion ∧ (s.captureDark h).dram = s.dram ∧
    (s.captureDark h).clocks = s.clocks ∧ (s.captureDark h).thermal = s.thermal ∧
    (s.captureDark h).images = s.images ∧ (s.captureDark h).tap = s.tap ∧ (s.captureDark h).fresh = s.fresh := by
  unfold State.captureDark
  (repeat' split) <;> simp

@[simp] theorem frame_captureAll (s : State) : (s.captureAll).pending = s.pending ∧
    (s.captureAll).deferred = s.deferred ∧ (s.captureAll).dev = s.dev ∧ (s.captureAll).power = s.power ∧
    (s.captureAll).clk = s.clk ∧ (s.captureAll).fuses = s.fuses ∧ (s.captureAll).regs = s.regs ∧
    (s.captureAll).blobs = s.blobs ∧ (s.captureAll).flash = s.flash ∧ (s.captureAll).leaves = s.leaves ∧
    (s.captureAll).recorder = s.recorder ∧ (s.captureAll).sessions = s.sessions ∧ (s.captureAll).auth = s.auth ∧
    (s.captureAll).spi = s.spi ∧ (s.captureAll).ring = s.ring ∧ (s.captureAll).ownWaiting = s.ownWaiting ∧
    (s.captureAll).out = s.out ∧ (s.captureAll).job = s.job ∧ (s.captureAll).sieve = s.sieve ∧
    (s.captureAll).engine = s.engine ∧ (s.captureAll).time = s.time ∧ (s.captureAll).twin = s.twin ∧
    (s.captureAll).motion = s.motion ∧ (s.captureAll).dram = s.dram ∧ (s.captureAll).clocks = s.clocks ∧
    (s.captureAll).thermal = s.thermal ∧ (s.captureAll).images = s.images ∧ (s.captureAll).tap = s.tap ∧
    (s.captureAll).fresh = s.fresh := by
  unfold State.captureAll
  (repeat' split) <;> simp

@[simp] theorem frame_judgeRate (s : State) : (s.judgeRate).pending = s.pending ∧
    (s.judgeRate).deferred = s.deferred ∧ (s.judgeRate).dev = s.dev ∧ (s.judgeRate).power = s.power ∧
    (s.judgeRate).clk = s.clk ∧ (s.judgeRate).fuses = s.fuses ∧ (s.judgeRate).regs = s.regs ∧
    (s.judgeRate).blobs = s.blobs ∧ (s.judgeRate).flash = s.flash ∧ (s.judgeRate).leaves = s.leaves ∧
    (s.judgeRate).recorder = s.recorder ∧ (s.judgeRate).sessions = s.sessions ∧ (s.judgeRate).auth = s.auth ∧
    (s.judgeRate).spi = s.spi ∧ (s.judgeRate).ring = s.ring ∧ (s.judgeRate).ownWaiting = s.ownWaiting ∧
    (s.judgeRate).out = s.out ∧ (s.judgeRate).job = s.job ∧ (s.judgeRate).heads = s.heads ∧
    (s.judgeRate).sieve = s.sieve ∧ (s.judgeRate).time = s.time ∧ (s.judgeRate).twin = s.twin ∧
    (s.judgeRate).motion = s.motion ∧ (s.judgeRate).dram = s.dram ∧ (s.judgeRate).clocks = s.clocks ∧
    (s.judgeRate).thermal = s.thermal ∧ (s.judgeRate).images = s.images ∧ (s.judgeRate).tap = s.tap ∧
    (s.judgeRate).fresh = s.fresh := by
  unfold State.judgeRate
  (repeat' split) <;> simp

@[simp] theorem frame_startLinks (s : State) : (s.startLinks).pending = s.pending ∧
    (s.startLinks).deferred = s.deferred ∧ (s.startLinks).dev = s.dev ∧ (s.startLinks).power = s.power ∧
    (s.startLinks).clk = s.clk ∧ (s.startLinks).fuses = s.fuses ∧ (s.startLinks).blobs = s.blobs ∧
    (s.startLinks).flash = s.flash ∧ (s.startLinks).auth = s.auth ∧ (s.startLinks).spi = s.spi ∧
    (s.startLinks).ring = s.ring ∧ (s.startLinks).sieve = s.sieve ∧ (s.startLinks).engine = s.engine ∧
    (s.startLinks).time = s.time ∧ (s.startLinks).motion = s.motion ∧ (s.startLinks).clocks = s.clocks ∧
    (s.startLinks).thermal = s.thermal ∧ (s.startLinks).images = s.images ∧ (s.startLinks).tap = s.tap ∧
    (s.startLinks).fresh = s.fresh := by
  unfold State.startLinks
  (repeat' split) <;> simp

@[simp] theorem frame_stopLinks (s : State) (cause : Nat) : (s.stopLinks cause).pending = s.pending ∧
    (s.stopLinks cause).deferred = s.deferred ∧ (s.stopLinks cause).dev = s.dev ∧
    (s.stopLinks cause).power = s.power ∧ (s.stopLinks cause).clk = s.clk ∧ (s.stopLinks cause).fuses = s.fuses ∧
    (s.stopLinks cause).blobs = s.blobs ∧ (s.stopLinks cause).flash = s.flash ∧ (s.stopLinks cause).auth = s.auth ∧
    (s.stopLinks cause).spi = s.spi ∧ (s.stopLinks cause).ring = s.ring ∧ (s.stopLinks cause).sieve = s.sieve ∧
    (s.stopLinks cause).engine = s.engine ∧ (s.stopLinks cause).time = s.time ∧
    (s.stopLinks cause).motion = s.motion ∧ (s.stopLinks cause).clocks = s.clocks ∧
    (s.stopLinks cause).thermal = s.thermal ∧ (s.stopLinks cause).images = s.images ∧
    (s.stopLinks cause).tap = s.tap ∧ (s.stopLinks cause).fresh = s.fresh := by
  unfold State.stopLinks
  (repeat' split) <;> simp

@[simp] theorem frame_tripHead (s : State) (h : HeadNo) : (s.tripHead h).pending = s.pending ∧
    (s.tripHead h).deferred = s.deferred ∧ (s.tripHead h).dev = s.dev ∧ (s.tripHead h).power = s.power ∧
    (s.tripHead h).clk = s.clk ∧ (s.tripHead h).fuses = s.fuses ∧ (s.tripHead h).blobs = s.blobs ∧
    (s.tripHead h).flash = s.flash ∧ (s.tripHead h).auth = s.auth ∧ (s.tripHead h).spi = s.spi ∧
    (s.tripHead h).ring = s.ring ∧ (s.tripHead h).sieve = s.sieve ∧ (s.tripHead h).engine = s.engine ∧
    (s.tripHead h).time = s.time ∧ (s.tripHead h).motion = s.motion ∧ (s.tripHead h).clocks = s.clocks ∧
    (s.tripHead h).thermal = s.thermal ∧ (s.tripHead h).images = s.images ∧ (s.tripHead h).tap = s.tap := by
  unfold State.tripHead
  (repeat' split) <;> simp

@[simp] theorem frame_linkFailed (s : State) (h : HeadNo) (reason : Nat) : (s.linkFailed h reason).pending = s.pending ∧
    (s.linkFailed h reason).deferred = s.deferred ∧ (s.linkFailed h reason).dev = s.dev ∧
    (s.linkFailed h reason).power = s.power ∧ (s.linkFailed h reason).clk = s.clk ∧
    (s.linkFailed h reason).fuses = s.fuses ∧ (s.linkFailed h reason).regs = s.regs ∧
    (s.linkFailed h reason).blobs = s.blobs ∧ (s.linkFailed h reason).flash = s.flash ∧
    (s.linkFailed h reason).leaves = s.leaves ∧ (s.linkFailed h reason).recorder = s.recorder ∧
    (s.linkFailed h reason).sessions = s.sessions ∧ (s.linkFailed h reason).auth = s.auth ∧
    (s.linkFailed h reason).spi = s.spi ∧ (s.linkFailed h reason).ring = s.ring ∧
    (s.linkFailed h reason).ownWaiting = s.ownWaiting ∧ (s.linkFailed h reason).out = s.out ∧
    (s.linkFailed h reason).job = s.job ∧ (s.linkFailed h reason).sieve = s.sieve ∧
    (s.linkFailed h reason).engine = s.engine ∧ (s.linkFailed h reason).time = s.time ∧
    (s.linkFailed h reason).twin = s.twin ∧ (s.linkFailed h reason).motion = s.motion ∧
    (s.linkFailed h reason).dram = s.dram ∧ (s.linkFailed h reason).clocks = s.clocks ∧
    (s.linkFailed h reason).thermal = s.thermal ∧ (s.linkFailed h reason).images = s.images ∧
    (s.linkFailed h reason).tap = s.tap ∧ (s.linkFailed h reason).fresh = s.fresh := by
  unfold State.linkFailed
  (repeat' split) <;> simp

@[simp] theorem frame_changeRoot (s : State) (source : Nat) : (s.changeRoot source).pending = s.pending ∧
    (s.changeRoot source).deferred = s.deferred ∧ (s.changeRoot source).dev = s.dev ∧
    (s.changeRoot source).power = s.power ∧ (s.changeRoot source).clk = s.clk ∧
    (s.changeRoot source).fuses = s.fuses ∧ (s.changeRoot source).blobs = s.blobs ∧
    (s.changeRoot source).flash = s.flash ∧ (s.changeRoot source).auth = s.auth ∧ (s.changeRoot source).spi = s.spi ∧
    (s.changeRoot source).ring = s.ring ∧ (s.changeRoot source).job = s.job ∧ (s.changeRoot source).heads = s.heads ∧
    (s.changeRoot source).sieve = s.sieve ∧ (s.changeRoot source).engine = s.engine ∧
    (s.changeRoot source).time = s.time ∧ (s.changeRoot source).motion = s.motion ∧
    (s.changeRoot source).dram = s.dram ∧ (s.changeRoot source).thermal = s.thermal ∧
    (s.changeRoot source).images = s.images ∧ (s.changeRoot source).tap = s.tap ∧
    (s.changeRoot source).fresh = s.fresh := by
  unfold State.changeRoot
  (repeat' split) <;> simp

@[simp] theorem frame_enterHoldover (s : State) : (s.enterHoldover).pending = s.pending ∧
    (s.enterHoldover).deferred = s.deferred ∧ (s.enterHoldover).dev = s.dev ∧ (s.enterHoldover).power = s.power ∧
    (s.enterHoldover).clk = s.clk ∧ (s.enterHoldover).fuses = s.fuses ∧ (s.enterHoldover).blobs = s.blobs ∧
    (s.enterHoldover).flash = s.flash ∧ (s.enterHoldover).auth = s.auth ∧ (s.enterHoldover).spi = s.spi ∧
    (s.enterHoldover).ring = s.ring ∧ (s.enterHoldover).job = s.job ∧ (s.enterHoldover).heads = s.heads ∧
    (s.enterHoldover).sieve = s.sieve ∧ (s.enterHoldover).engine = s.engine ∧ (s.enterHoldover).time = s.time ∧
    (s.enterHoldover).motion = s.motion ∧ (s.enterHoldover).dram = s.dram ∧ (s.enterHoldover).thermal = s.thermal ∧
    (s.enterHoldover).images = s.images ∧ (s.enterHoldover).tap = s.tap ∧ (s.enterHoldover).fresh = s.fresh := by
  unfold State.enterHoldover
  (repeat' split) <;> simp

@[simp] theorem frame_leaveHoldover (s : State) (source : Nat) : (s.leaveHoldover source).pending = s.pending ∧
    (s.leaveHoldover source).deferred = s.deferred ∧ (s.leaveHoldover source).dev = s.dev ∧
    (s.leaveHoldover source).power = s.power ∧ (s.leaveHoldover source).clk = s.clk ∧
    (s.leaveHoldover source).fuses = s.fuses ∧ (s.leaveHoldover source).blobs = s.blobs ∧
    (s.leaveHoldover source).flash = s.flash ∧ (s.leaveHoldover source).auth = s.auth ∧
    (s.leaveHoldover source).spi = s.spi ∧ (s.leaveHoldover source).ring = s.ring ∧
    (s.leaveHoldover source).job = s.job ∧ (s.leaveHoldover source).heads = s.heads ∧
    (s.leaveHoldover source).sieve = s.sieve ∧ (s.leaveHoldover source).engine = s.engine ∧
    (s.leaveHoldover source).time = s.time ∧ (s.leaveHoldover source).motion = s.motion ∧
    (s.leaveHoldover source).dram = s.dram ∧ (s.leaveHoldover source).thermal = s.thermal ∧
    (s.leaveHoldover source).images = s.images ∧ (s.leaveHoldover source).tap = s.tap ∧
    (s.leaveHoldover source).fresh = s.fresh := by
  unfold State.leaveHoldover
  (repeat' split) <;> simp

@[simp] theorem frame_evaluateRoot (s : State) : (s.evaluateRoot).pending = s.pending ∧
    (s.evaluateRoot).deferred = s.deferred ∧ (s.evaluateRoot).power = s.power ∧ (s.evaluateRoot).clk = s.clk ∧
    (s.evaluateRoot).fuses = s.fuses ∧ (s.evaluateRoot).blobs = s.blobs ∧ (s.evaluateRoot).flash = s.flash ∧
    (s.evaluateRoot).auth = s.auth ∧ (s.evaluateRoot).spi = s.spi ∧ (s.evaluateRoot).ring = s.ring ∧
    (s.evaluateRoot).sieve = s.sieve ∧ (s.evaluateRoot).engine = s.engine ∧ (s.evaluateRoot).time = s.time ∧
    (s.evaluateRoot).thermal = s.thermal ∧ (s.evaluateRoot).images = s.images ∧ (s.evaluateRoot).tap = s.tap := by
  unfold State.evaluateRoot
  dsimp only
  (repeat' split) <;> simp

@[simp] theorem frame_xoLeaf (s : State) (before : Bool) : (s.xoLeaf before).pending = s.pending ∧
    (s.xoLeaf before).deferred = s.deferred ∧ (s.xoLeaf before).dev = s.dev ∧ (s.xoLeaf before).power = s.power ∧
    (s.xoLeaf before).clk = s.clk ∧ (s.xoLeaf before).fuses = s.fuses ∧ (s.xoLeaf before).regs = s.regs ∧
    (s.xoLeaf before).blobs = s.blobs ∧ (s.xoLeaf before).flash = s.flash ∧ (s.xoLeaf before).recorder = s.recorder ∧
    (s.xoLeaf before).auth = s.auth ∧ (s.xoLeaf before).spi = s.spi ∧ (s.xoLeaf before).ring = s.ring ∧
    (s.xoLeaf before).job = s.job ∧ (s.xoLeaf before).heads = s.heads ∧ (s.xoLeaf before).sieve = s.sieve ∧
    (s.xoLeaf before).engine = s.engine ∧ (s.xoLeaf before).time = s.time ∧ (s.xoLeaf before).motion = s.motion ∧
    (s.xoLeaf before).dram = s.dram ∧ (s.xoLeaf before).clocks = s.clocks ∧ (s.xoLeaf before).thermal = s.thermal ∧
    (s.xoLeaf before).images = s.images ∧ (s.xoLeaf before).tap = s.tap ∧ (s.xoLeaf before).fresh = s.fresh := by
  unfold State.xoLeaf
  (repeat' split) <;> simp

@[simp] theorem frame_qualify4 (s : State) (d : ClockUnit) : (s.qualify4 d).pending = s.pending ∧
    (s.qualify4 d).deferred = s.deferred ∧ (s.qualify4 d).dev = s.dev ∧ (s.qualify4 d).power = s.power ∧
    (s.qualify4 d).clk = s.clk ∧ (s.qualify4 d).fuses = s.fuses ∧ (s.qualify4 d).regs = s.regs ∧
    (s.qualify4 d).blobs = s.blobs ∧ (s.qualify4 d).flash = s.flash ∧ (s.qualify4 d).leaves = s.leaves ∧
    (s.qualify4 d).recorder = s.recorder ∧ (s.qualify4 d).sessions = s.sessions ∧ (s.qualify4 d).auth = s.auth ∧
    (s.qualify4 d).spi = s.spi ∧ (s.qualify4 d).ring = s.ring ∧ (s.qualify4 d).ownWaiting = s.ownWaiting ∧
    (s.qualify4 d).out = s.out ∧ (s.qualify4 d).job = s.job ∧ (s.qualify4 d).heads = s.heads ∧
    (s.qualify4 d).sieve = s.sieve ∧ (s.qualify4 d).engine = s.engine ∧ (s.qualify4 d).time = s.time ∧
    (s.qualify4 d).twin = s.twin ∧ (s.qualify4 d).motion = s.motion ∧ (s.qualify4 d).dram = s.dram ∧
    (s.qualify4 d).thermal = s.thermal ∧ (s.qualify4 d).images = s.images ∧ (s.qualify4 d).tap = s.tap ∧
    (s.qualify4 d).fresh = s.fresh := by
  unfold State.qualify4
  (repeat' split) <;> simp

@[simp] theorem frame_afterGate (s : State) (c : ClockUnit) : (s.afterGate c).pending = s.pending ∧
    (s.afterGate c).deferred = s.deferred ∧ (s.afterGate c).power = s.power ∧ (s.afterGate c).clk = s.clk ∧
    (s.afterGate c).fuses = s.fuses ∧ (s.afterGate c).blobs = s.blobs ∧ (s.afterGate c).flash = s.flash ∧
    (s.afterGate c).auth = s.auth ∧ (s.afterGate c).spi = s.spi ∧ (s.afterGate c).ring = s.ring ∧
    (s.afterGate c).sieve = s.sieve ∧ (s.afterGate c).engine = s.engine ∧ (s.afterGate c).time = s.time ∧
    (s.afterGate c).thermal = s.thermal ∧ (s.afterGate c).images = s.images ∧ (s.afterGate c).tap = s.tap := by
  unfold State.afterGate
  (repeat' split) <;> simp

@[simp] theorem frame_sourceLost (s : State) (source : Nat) : (s.sourceLost source).pending = s.pending ∧
    (s.sourceLost source).deferred = s.deferred ∧ (s.sourceLost source).power = s.power ∧
    (s.sourceLost source).clk = s.clk ∧ (s.sourceLost source).fuses = s.fuses ∧
    (s.sourceLost source).blobs = s.blobs ∧ (s.sourceLost source).flash = s.flash ∧
    (s.sourceLost source).auth = s.auth ∧ (s.sourceLost source).spi = s.spi ∧ (s.sourceLost source).ring = s.ring ∧
    (s.sourceLost source).sieve = s.sieve ∧ (s.sourceLost source).engine = s.engine ∧
    (s.sourceLost source).time = s.time ∧ (s.sourceLost source).thermal = s.thermal ∧
    (s.sourceLost source).images = s.images ∧ (s.sourceLost source).tap = s.tap := by
  unfold State.sourceLost
  (repeat' split) <;> simp

@[simp] theorem frame_sourceLocked (s : State) (source : Nat) : (s.sourceLocked source).pending = s.pending ∧
    (s.sourceLocked source).deferred = s.deferred ∧ (s.sourceLocked source).dev = s.dev ∧
    (s.sourceLocked source).power = s.power ∧ (s.sourceLocked source).clk = s.clk ∧
    (s.sourceLocked source).fuses = s.fuses ∧ (s.sourceLocked source).regs = s.regs ∧
    (s.sourceLocked source).blobs = s.blobs ∧ (s.sourceLocked source).flash = s.flash ∧
    (s.sourceLocked source).leaves = s.leaves ∧ (s.sourceLocked source).recorder = s.recorder ∧
    (s.sourceLocked source).sessions = s.sessions ∧ (s.sourceLocked source).auth = s.auth ∧
    (s.sourceLocked source).spi = s.spi ∧ (s.sourceLocked source).ring = s.ring ∧
    (s.sourceLocked source).ownWaiting = s.ownWaiting ∧ (s.sourceLocked source).out = s.out ∧
    (s.sourceLocked source).job = s.job ∧ (s.sourceLocked source).heads = s.heads ∧
    (s.sourceLocked source).sieve = s.sieve ∧ (s.sourceLocked source).engine = s.engine ∧
    (s.sourceLocked source).time = s.time ∧ (s.sourceLocked source).twin = s.twin ∧
    (s.sourceLocked source).motion = s.motion ∧ (s.sourceLocked source).dram = s.dram ∧
    (s.sourceLocked source).thermal = s.thermal ∧ (s.sourceLocked source).images = s.images ∧
    (s.sourceLocked source).tap = s.tap ∧ (s.sourceLocked source).fresh = s.fresh := by
  unfold State.sourceLocked
  (repeat' split) <;> simp

@[simp] theorem frame_execStartMeasurement (path : Path) (value : Nat) (s : State) (s0 : State) : (outcomeState s0 (execStartMeasurement path value s)).pending = s.pending ∧
    (outcomeState s0 (execStartMeasurement path value s)).dev = s.dev ∧
    (outcomeState s0 (execStartMeasurement path value s)).power = s.power ∧
    (outcomeState s0 (execStartMeasurement path value s)).clk = s.clk ∧
    (outcomeState s0 (execStartMeasurement path value s)).fuses = s.fuses ∧
    (outcomeState s0 (execStartMeasurement path value s)).regs = s.regs ∧
    (outcomeState s0 (execStartMeasurement path value s)).blobs = s.blobs ∧
    (outcomeState s0 (execStartMeasurement path value s)).flash = s.flash ∧
    (outcomeState s0 (execStartMeasurement path value s)).leaves = s.leaves ∧
    (outcomeState s0 (execStartMeasurement path value s)).recorder = s.recorder ∧
    (outcomeState s0 (execStartMeasurement path value s)).sessions = s.sessions ∧
    (outcomeState s0 (execStartMeasurement path value s)).auth = s.auth ∧
    (outcomeState s0 (execStartMeasurement path value s)).spi = s.spi ∧
    (outcomeState s0 (execStartMeasurement path value s)).ring = s.ring ∧
    (outcomeState s0 (execStartMeasurement path value s)).ownWaiting = s.ownWaiting ∧
    (outcomeState s0 (execStartMeasurement path value s)).job = s.job ∧
    (outcomeState s0 (execStartMeasurement path value s)).heads = s.heads ∧
    (outcomeState s0 (execStartMeasurement path value s)).sieve = s.sieve ∧
    (outcomeState s0 (execStartMeasurement path value s)).engine = s.engine ∧
    (outcomeState s0 (execStartMeasurement path value s)).time = s.time ∧
    (outcomeState s0 (execStartMeasurement path value s)).twin = s.twin ∧
    (outcomeState s0 (execStartMeasurement path value s)).motion = s.motion ∧
    (outcomeState s0 (execStartMeasurement path value s)).dram = s.dram ∧
    (outcomeState s0 (execStartMeasurement path value s)).thermal = s.thermal ∧
    (outcomeState s0 (execStartMeasurement path value s)).images = s.images ∧
    (outcomeState s0 (execStartMeasurement path value s)).tap = s.tap ∧
    (outcomeState s0 (execStartMeasurement path value s)).fresh = s.fresh := by
  simp only [execStartMeasurement]
  (repeat' split) <;> simp

@[simp] theorem frame_formFrequency (s : State) (running : Bool) (count : Nat) : (s.formFrequency running count).pending = s.pending ∧
    (s.formFrequency running count).deferred = s.deferred ∧ (s.formFrequency running count).dev = s.dev ∧
    (s.formFrequency running count).power = s.power ∧ (s.formFrequency running count).clk = s.clk ∧
    (s.formFrequency running count).fuses = s.fuses ∧ (s.formFrequency running count).blobs = s.blobs ∧
    (s.formFrequency running count).flash = s.flash ∧ (s.formFrequency running count).leaves = s.leaves ∧
    (s.formFrequency running count).recorder = s.recorder ∧ (s.formFrequency running count).sessions = s.sessions ∧
    (s.formFrequency running count).auth = s.auth ∧ (s.formFrequency running count).spi = s.spi ∧
    (s.formFrequency running count).ring = s.ring ∧ (s.formFrequency running count).ownWaiting = s.ownWaiting ∧
    (s.formFrequency running count).out = s.out ∧ (s.formFrequency running count).job = s.job ∧
    (s.formFrequency running count).heads = s.heads ∧ (s.formFrequency running count).sieve = s.sieve ∧
    (s.formFrequency running count).engine = s.engine ∧ (s.formFrequency running count).time = s.time ∧
    (s.formFrequency running count).twin = s.twin ∧ (s.formFrequency running count).motion = s.motion ∧
    (s.formFrequency running count).dram = s.dram ∧ (s.formFrequency running count).thermal = s.thermal ∧
    (s.formFrequency running count).images = s.images ∧ (s.formFrequency running count).tap = s.tap ∧
    (s.formFrequency running count).fresh = s.fresh := by
  unfold State.formFrequency
  (repeat' split) <;> simp

@[simp] theorem frame_selectRoot (s : State) (value : Int) : (s.selectRoot value).pending = s.pending ∧
    (s.selectRoot value).deferred = s.deferred ∧ (s.selectRoot value).dev = s.dev ∧
    (s.selectRoot value).power = s.power ∧ (s.selectRoot value).clk = s.clk ∧ (s.selectRoot value).fuses = s.fuses ∧
    (s.selectRoot value).blobs = s.blobs ∧ (s.selectRoot value).flash = s.flash ∧
    (s.selectRoot value).leaves = s.leaves ∧ (s.selectRoot value).recorder = s.recorder ∧
    (s.selectRoot value).sessions = s.sessions ∧ (s.selectRoot value).auth = s.auth ∧
    (s.selectRoot value).spi = s.spi ∧ (s.selectRoot value).ring = s.ring ∧
    (s.selectRoot value).ownWaiting = s.ownWaiting ∧ (s.selectRoot value).out = s.out ∧
    (s.selectRoot value).job = s.job ∧ (s.selectRoot value).heads = s.heads ∧ (s.selectRoot value).sieve = s.sieve ∧
    (s.selectRoot value).engine = s.engine ∧ (s.selectRoot value).time = s.time ∧ (s.selectRoot value).twin = s.twin ∧
    (s.selectRoot value).motion = s.motion ∧ (s.selectRoot value).dram = s.dram ∧
    (s.selectRoot value).thermal = s.thermal ∧ (s.selectRoot value).images = s.images ∧
    (s.selectRoot value).tap = s.tap ∧ (s.selectRoot value).fresh = s.fresh := by
  unfold State.selectRoot
  (repeat' split) <;> simp

@[simp] theorem frame_evaluate (s : State) (key : Nat) : (s.evaluate key).pending = s.pending ∧
    (s.evaluate key).deferred = s.deferred ∧ (s.evaluate key).dev = s.dev ∧ (s.evaluate key).power = s.power ∧
    (s.evaluate key).clk = s.clk ∧ (s.evaluate key).fuses = s.fuses ∧ (s.evaluate key).blobs = s.blobs ∧
    (s.evaluate key).flash = s.flash ∧ (s.evaluate key).auth = s.auth ∧ (s.evaluate key).spi = s.spi ∧
    (s.evaluate key).ring = s.ring ∧ (s.evaluate key).sieve = s.sieve ∧ (s.evaluate key).engine = s.engine ∧
    (s.evaluate key).time = s.time ∧ (s.evaluate key).motion = s.motion ∧ (s.evaluate key).clocks = s.clocks ∧
    (s.evaluate key).thermal = s.thermal ∧ (s.evaluate key).images = s.images ∧ (s.evaluate key).tap = s.tap ∧
    (s.evaluate key).fresh = s.fresh := by
  unfold State.evaluate
  (repeat' split) <;> simp

@[simp] theorem frame_progress (s : State) (g : Segment) (kind head marker tag : Nat) : (s.progress g kind head marker tag).pending = s.pending ∧
    (s.progress g kind head marker tag).deferred = s.deferred ∧ (s.progress g kind head marker tag).dev = s.dev ∧
    (s.progress g kind head marker tag).power = s.power ∧ (s.progress g kind head marker tag).clk = s.clk ∧
    (s.progress g kind head marker tag).fuses = s.fuses ∧ (s.progress g kind head marker tag).regs = s.regs ∧
    (s.progress g kind head marker tag).blobs = s.blobs ∧ (s.progress g kind head marker tag).flash = s.flash ∧
    (s.progress g kind head marker tag).leaves = s.leaves ∧
    (s.progress g kind head marker tag).recorder = s.recorder ∧ (s.progress g kind head marker tag).auth = s.auth ∧
    (s.progress g kind head marker tag).spi = s.spi ∧ (s.progress g kind head marker tag).ring = s.ring ∧
    (s.progress g kind head marker tag).job = s.job ∧ (s.progress g kind head marker tag).heads = s.heads ∧
    (s.progress g kind head marker tag).sieve = s.sieve ∧ (s.progress g kind head marker tag).engine = s.engine ∧
    (s.progress g kind head marker tag).time = s.time ∧ (s.progress g kind head marker tag).motion = s.motion ∧
    (s.progress g kind head marker tag).dram = s.dram ∧ (s.progress g kind head marker tag).clocks = s.clocks ∧
    (s.progress g kind head marker tag).thermal = s.thermal ∧ (s.progress g kind head marker tag).images = s.images ∧
    (s.progress g kind head marker tag).tap = s.tap ∧ (s.progress g kind head marker tag).fresh = s.fresh := by
  unfold State.progress
  (repeat' split) <;> simp

@[simp] theorem frame_onItem (s : State) (h : HeadNo) (r : ItemRun) (f : ItemRun → ItemRun) : (s.onItem h r f).pending = s.pending ∧
    (s.onItem h r f).deferred = s.deferred ∧ (s.onItem h r f).dev = s.dev ∧ (s.onItem h r f).power = s.power ∧
    (s.onItem h r f).clk = s.clk ∧ (s.onItem h r f).fuses = s.fuses ∧ (s.onItem h r f).regs = s.regs ∧
    (s.onItem h r f).blobs = s.blobs ∧ (s.onItem h r f).flash = s.flash ∧ (s.onItem h r f).leaves = s.leaves ∧
    (s.onItem h r f).recorder = s.recorder ∧ (s.onItem h r f).sessions = s.sessions ∧ (s.onItem h r f).auth = s.auth ∧
    (s.onItem h r f).spi = s.spi ∧ (s.onItem h r f).ring = s.ring ∧ (s.onItem h r f).ownWaiting = s.ownWaiting ∧
    (s.onItem h r f).out = s.out ∧ (s.onItem h r f).job = s.job ∧ (s.onItem h r f).sieve = s.sieve ∧
    (s.onItem h r f).engine = s.engine ∧ (s.onItem h r f).time = s.time ∧ (s.onItem h r f).twin = s.twin ∧
    (s.onItem h r f).motion = s.motion ∧ (s.onItem h r f).dram = s.dram ∧ (s.onItem h r f).clocks = s.clocks ∧
    (s.onItem h r f).thermal = s.thermal ∧ (s.onItem h r f).images = s.images ∧ (s.onItem h r f).tap = s.tap ∧
    (s.onItem h r f).fresh = s.fresh := by
  unfold State.onItem
  (repeat' split) <;> simp

@[simp] theorem frame_passEntry (s : State) (h : HeadNo) (r : ItemRun) (k : Nat) (st : Stretch) (b : Tick) : (s.passEntry h r k st b).pending = s.pending ∧
    (s.passEntry h r k st b).deferred = s.deferred ∧ (s.passEntry h r k st b).dev = s.dev ∧
    (s.passEntry h r k st b).power = s.power ∧ (s.passEntry h r k st b).clk = s.clk ∧
    (s.passEntry h r k st b).fuses = s.fuses ∧ (s.passEntry h r k st b).regs = s.regs ∧
    (s.passEntry h r k st b).blobs = s.blobs ∧ (s.passEntry h r k st b).flash = s.flash ∧
    (s.passEntry h r k st b).leaves = s.leaves ∧ (s.passEntry h r k st b).recorder = s.recorder ∧
    (s.passEntry h r k st b).sessions = s.sessions ∧ (s.passEntry h r k st b).auth = s.auth ∧
    (s.passEntry h r k st b).spi = s.spi ∧ (s.passEntry h r k st b).ring = s.ring ∧
    (s.passEntry h r k st b).ownWaiting = s.ownWaiting ∧ (s.passEntry h r k st b).out = s.out ∧
    (s.passEntry h r k st b).job = s.job ∧ (s.passEntry h r k st b).sieve = s.sieve ∧
    (s.passEntry h r k st b).engine = s.engine ∧ (s.passEntry h r k st b).time = s.time ∧
    (s.passEntry h r k st b).twin = s.twin ∧ (s.passEntry h r k st b).motion = s.motion ∧
    (s.passEntry h r k st b).dram = s.dram ∧ (s.passEntry h r k st b).clocks = s.clocks ∧
    (s.passEntry h r k st b).thermal = s.thermal ∧ (s.passEntry h r k st b).images = s.images ∧
    (s.passEntry h r k st b).tap = s.tap ∧ (s.passEntry h r k st b).fresh = s.fresh := by
  unfold State.passEntry
  (repeat' split) <;> simp

@[simp] theorem frame_countWait (s : State) (st : Stretch) (keepout : Bool) (ts : Nat) : (s.countWait st keepout ts).pending = s.pending ∧
    (s.countWait st keepout ts).deferred = s.deferred ∧ (s.countWait st keepout ts).dev = s.dev ∧
    (s.countWait st keepout ts).power = s.power ∧ (s.countWait st keepout ts).clk = s.clk ∧
    (s.countWait st keepout ts).fuses = s.fuses ∧ (s.countWait st keepout ts).blobs = s.blobs ∧
    (s.countWait st keepout ts).flash = s.flash ∧ (s.countWait st keepout ts).leaves = s.leaves ∧
    (s.countWait st keepout ts).recorder = s.recorder ∧ (s.countWait st keepout ts).sessions = s.sessions ∧
    (s.countWait st keepout ts).auth = s.auth ∧ (s.countWait st keepout ts).spi = s.spi ∧
    (s.countWait st keepout ts).ring = s.ring ∧ (s.countWait st keepout ts).ownWaiting = s.ownWaiting ∧
    (s.countWait st keepout ts).out = s.out ∧ (s.countWait st keepout ts).job = s.job ∧
    (s.countWait st keepout ts).heads = s.heads ∧ (s.countWait st keepout ts).sieve = s.sieve ∧
    (s.countWait st keepout ts).engine = s.engine ∧ (s.countWait st keepout ts).time = s.time ∧
    (s.countWait st keepout ts).twin = s.twin ∧ (s.countWait st keepout ts).motion = s.motion ∧
    (s.countWait st keepout ts).dram = s.dram ∧ (s.countWait st keepout ts).clocks = s.clocks ∧
    (s.countWait st keepout ts).thermal = s.thermal ∧ (s.countWait st keepout ts).images = s.images ∧
    (s.countWait st keepout ts).tap = s.tap ∧ (s.countWait st keepout ts).fresh = s.fresh := by
  unfold State.countWait
  (repeat' split) <;> simp

@[simp] theorem frame_failEntry (s : State) (h : HeadNo) (r : ItemRun) (k : Nat) (st : Stretch) (b : Tick) (keepout : Bool) : (s.failEntry h r k st b keepout).pending = s.pending ∧
    (s.failEntry h r k st b keepout).deferred = s.deferred ∧ (s.failEntry h r k st b keepout).dev = s.dev ∧
    (s.failEntry h r k st b keepout).power = s.power ∧ (s.failEntry h r k st b keepout).clk = s.clk ∧
    (s.failEntry h r k st b keepout).fuses = s.fuses ∧ (s.failEntry h r k st b keepout).blobs = s.blobs ∧
    (s.failEntry h r k st b keepout).flash = s.flash ∧ (s.failEntry h r k st b keepout).leaves = s.leaves ∧
    (s.failEntry h r k st b keepout).recorder = s.recorder ∧ (s.failEntry h r k st b keepout).sessions = s.sessions ∧
    (s.failEntry h r k st b keepout).auth = s.auth ∧ (s.failEntry h r k st b keepout).spi = s.spi ∧
    (s.failEntry h r k st b keepout).ring = s.ring ∧ (s.failEntry h r k st b keepout).ownWaiting = s.ownWaiting ∧
    (s.failEntry h r k st b keepout).out = s.out ∧ (s.failEntry h r k st b keepout).job = s.job ∧
    (s.failEntry h r k st b keepout).sieve = s.sieve ∧ (s.failEntry h r k st b keepout).engine = s.engine ∧
    (s.failEntry h r k st b keepout).time = s.time ∧ (s.failEntry h r k st b keepout).twin = s.twin ∧
    (s.failEntry h r k st b keepout).motion = s.motion ∧ (s.failEntry h r k st b keepout).dram = s.dram ∧
    (s.failEntry h r k st b keepout).clocks = s.clocks ∧ (s.failEntry h r k st b keepout).thermal = s.thermal ∧
    (s.failEntry h r k st b keepout).images = s.images ∧ (s.failEntry h r k st b keepout).tap = s.tap ∧
    (s.failEntry h r k st b keepout).fresh = s.fresh := by
  unfold State.failEntry
  (repeat' split) <;> simp

@[simp] theorem frame_applyEntry (s : State) (h : HeadNo) (r : ItemRun) (k : Nat) (st : Stretch) (b : Tick) (v : Bool × Bool) : (s.applyEntry h r k st b v).pending = s.pending ∧
    (s.applyEntry h r k st b v).deferred = s.deferred ∧ (s.applyEntry h r k st b v).dev = s.dev ∧
    (s.applyEntry h r k st b v).power = s.power ∧ (s.applyEntry h r k st b v).clk = s.clk ∧
    (s.applyEntry h r k st b v).fuses = s.fuses ∧ (s.applyEntry h r k st b v).blobs = s.blobs ∧
    (s.applyEntry h r k st b v).flash = s.flash ∧ (s.applyEntry h r k st b v).leaves = s.leaves ∧
    (s.applyEntry h r k st b v).recorder = s.recorder ∧ (s.applyEntry h r k st b v).sessions = s.sessions ∧
    (s.applyEntry h r k st b v).auth = s.auth ∧ (s.applyEntry h r k st b v).spi = s.spi ∧
    (s.applyEntry h r k st b v).ring = s.ring ∧ (s.applyEntry h r k st b v).ownWaiting = s.ownWaiting ∧
    (s.applyEntry h r k st b v).out = s.out ∧ (s.applyEntry h r k st b v).job = s.job ∧
    (s.applyEntry h r k st b v).sieve = s.sieve ∧ (s.applyEntry h r k st b v).engine = s.engine ∧
    (s.applyEntry h r k st b v).time = s.time ∧ (s.applyEntry h r k st b v).twin = s.twin ∧
    (s.applyEntry h r k st b v).motion = s.motion ∧ (s.applyEntry h r k st b v).dram = s.dram ∧
    (s.applyEntry h r k st b v).clocks = s.clocks ∧ (s.applyEntry h r k st b v).thermal = s.thermal ∧
    (s.applyEntry h r k st b v).images = s.images ∧ (s.applyEntry h r k st b v).tap = s.tap ∧
    (s.applyEntry h r k st b v).fresh = s.fresh := by
  unfold State.applyEntry
  (repeat' split) <;> simp

@[simp] theorem frame_obeyEntry (s : State) (h : HeadNo) (r : ItemRun) (k : Nat) (st : Stretch) (b : Tick) (o : Nat × Nat) : (s.obeyEntry h r k st b o).pending = s.pending ∧
    (s.obeyEntry h r k st b o).deferred = s.deferred ∧ (s.obeyEntry h r k st b o).dev = s.dev ∧
    (s.obeyEntry h r k st b o).power = s.power ∧ (s.obeyEntry h r k st b o).clk = s.clk ∧
    (s.obeyEntry h r k st b o).fuses = s.fuses ∧ (s.obeyEntry h r k st b o).blobs = s.blobs ∧
    (s.obeyEntry h r k st b o).flash = s.flash ∧ (s.obeyEntry h r k st b o).leaves = s.leaves ∧
    (s.obeyEntry h r k st b o).recorder = s.recorder ∧ (s.obeyEntry h r k st b o).sessions = s.sessions ∧
    (s.obeyEntry h r k st b o).auth = s.auth ∧ (s.obeyEntry h r k st b o).spi = s.spi ∧
    (s.obeyEntry h r k st b o).ring = s.ring ∧ (s.obeyEntry h r k st b o).ownWaiting = s.ownWaiting ∧
    (s.obeyEntry h r k st b o).out = s.out ∧ (s.obeyEntry h r k st b o).job = s.job ∧
    (s.obeyEntry h r k st b o).sieve = s.sieve ∧ (s.obeyEntry h r k st b o).engine = s.engine ∧
    (s.obeyEntry h r k st b o).time = s.time ∧ (s.obeyEntry h r k st b o).motion = s.motion ∧
    (s.obeyEntry h r k st b o).dram = s.dram ∧ (s.obeyEntry h r k st b o).clocks = s.clocks ∧
    (s.obeyEntry h r k st b o).thermal = s.thermal ∧ (s.obeyEntry h r k st b o).images = s.images ∧
    (s.obeyEntry h r k st b o).tap = s.tap ∧ (s.obeyEntry h r k st b o).fresh = s.fresh := by
  unfold State.obeyEntry
  (repeat' split) <;> simp

@[simp] theorem frame_checkEntry (s : State) (h : HeadNo) : (s.checkEntry h).pending = s.pending ∧
    (s.checkEntry h).deferred = s.deferred ∧ (s.checkEntry h).dev = s.dev ∧ (s.checkEntry h).power = s.power ∧
    (s.checkEntry h).clk = s.clk ∧ (s.checkEntry h).fuses = s.fuses ∧ (s.checkEntry h).blobs = s.blobs ∧
    (s.checkEntry h).flash = s.flash ∧ (s.checkEntry h).leaves = s.leaves ∧ (s.checkEntry h).recorder = s.recorder ∧
    (s.checkEntry h).sessions = s.sessions ∧ (s.checkEntry h).auth = s.auth ∧ (s.checkEntry h).spi = s.spi ∧
    (s.checkEntry h).ring = s.ring ∧ (s.checkEntry h).ownWaiting = s.ownWaiting ∧ (s.checkEntry h).job = s.job ∧
    (s.checkEntry h).sieve = s.sieve ∧ (s.checkEntry h).engine = s.engine ∧ (s.checkEntry h).time = s.time ∧
    (s.checkEntry h).motion = s.motion ∧ (s.checkEntry h).dram = s.dram ∧ (s.checkEntry h).clocks = s.clocks ∧
    (s.checkEntry h).thermal = s.thermal ∧ (s.checkEntry h).images = s.images ∧ (s.checkEntry h).tap = s.tap ∧
    (s.checkEntry h).fresh = s.fresh := by
  unfold State.checkEntry
  dsimp only
  (repeat' split) <;> simp

@[simp] theorem frame_checksRun (s : State) (b : Tick) (n : Nat) : (s.checksRun b n).pending = s.pending ∧
    (s.checksRun b n).deferred = s.deferred ∧ (s.checksRun b n).dev = s.dev ∧ (s.checksRun b n).power = s.power ∧
    (s.checksRun b n).clk = s.clk ∧ (s.checksRun b n).fuses = s.fuses ∧ (s.checksRun b n).blobs = s.blobs ∧
    (s.checksRun b n).flash = s.flash ∧ (s.checksRun b n).leaves = s.leaves ∧
    (s.checksRun b n).recorder = s.recorder ∧ (s.checksRun b n).sessions = s.sessions ∧
    (s.checksRun b n).auth = s.auth ∧ (s.checksRun b n).spi = s.spi ∧ (s.checksRun b n).ring = s.ring ∧
    (s.checksRun b n).ownWaiting = s.ownWaiting ∧ (s.checksRun b n).job = s.job ∧ (s.checksRun b n).sieve = s.sieve ∧
    (s.checksRun b n).engine = s.engine ∧ (s.checksRun b n).time = s.time ∧ (s.checksRun b n).motion = s.motion ∧
    (s.checksRun b n).dram = s.dram ∧ (s.checksRun b n).clocks = s.clocks ∧ (s.checksRun b n).thermal = s.thermal ∧
    (s.checksRun b n).images = s.images ∧ (s.checksRun b n).tap = s.tap ∧ (s.checksRun b n).fresh = s.fresh := by
  induction n generalizing s with
  | zero => simp [State.checksRun]
  | succ n ih =>
    simp only [State.checksRun]
    (repeat' split) <;> simp [ih]

@[simp] theorem frame_entryChecks (s : State) (b : Tick) : (s.entryChecks b).pending = s.pending ∧
    (s.entryChecks b).deferred = s.deferred ∧ (s.entryChecks b).dev = s.dev ∧ (s.entryChecks b).power = s.power ∧
    (s.entryChecks b).clk = s.clk ∧ (s.entryChecks b).fuses = s.fuses ∧ (s.entryChecks b).blobs = s.blobs ∧
    (s.entryChecks b).flash = s.flash ∧ (s.entryChecks b).leaves = s.leaves ∧
    (s.entryChecks b).recorder = s.recorder ∧ (s.entryChecks b).sessions = s.sessions ∧
    (s.entryChecks b).auth = s.auth ∧ (s.entryChecks b).spi = s.spi ∧ (s.entryChecks b).ring = s.ring ∧
    (s.entryChecks b).ownWaiting = s.ownWaiting ∧ (s.entryChecks b).job = s.job ∧ (s.entryChecks b).sieve = s.sieve ∧
    (s.entryChecks b).engine = s.engine ∧ (s.entryChecks b).time = s.time ∧ (s.entryChecks b).motion = s.motion ∧
    (s.entryChecks b).dram = s.dram ∧ (s.entryChecks b).clocks = s.clocks ∧ (s.entryChecks b).thermal = s.thermal ∧
    (s.entryChecks b).images = s.images ∧ (s.entryChecks b).tap = s.tap ∧ (s.entryChecks b).fresh = s.fresh := by
  unfold State.entryChecks
  (repeat' split) <;> simp

@[simp] theorem frame_order (s : State) (seg h kind item : Nat) (at_ : Tick) (value sent : Nat) : (s.order seg h kind item at_ value sent).pending = s.pending ∧
    (s.order seg h kind item at_ value sent).deferred = s.deferred ∧
    (s.order seg h kind item at_ value sent).dev = s.dev ∧ (s.order seg h kind item at_ value sent).power = s.power ∧
    (s.order seg h kind item at_ value sent).clk = s.clk ∧ (s.order seg h kind item at_ value sent).fuses = s.fuses ∧
    (s.order seg h kind item at_ value sent).regs = s.regs ∧
    (s.order seg h kind item at_ value sent).blobs = s.blobs ∧
    (s.order seg h kind item at_ value sent).flash = s.flash ∧
    (s.order seg h kind item at_ value sent).leaves = s.leaves ∧
    (s.order seg h kind item at_ value sent).recorder = s.recorder ∧
    (s.order seg h kind item at_ value sent).sessions = s.sessions ∧
    (s.order seg h kind item at_ value sent).auth = s.auth ∧ (s.order seg h kind item at_ value sent).spi = s.spi ∧
    (s.order seg h kind item at_ value sent).ring = s.ring ∧
    (s.order seg h kind item at_ value sent).ownWaiting = s.ownWaiting ∧
    (s.order seg h kind item at_ value sent).job = s.job ∧ (s.order seg h kind item at_ value sent).heads = s.heads ∧
    (s.order seg h kind item at_ value sent).sieve = s.sieve ∧
    (s.order seg h kind item at_ value sent).engine = s.engine ∧
    (s.order seg h kind item at_ value sent).time = s.time ∧
    (s.order seg h kind item at_ value sent).motion = s.motion ∧
    (s.order seg h kind item at_ value sent).dram = s.dram ∧
    (s.order seg h kind item at_ value sent).clocks = s.clocks ∧
    (s.order seg h kind item at_ value sent).thermal = s.thermal ∧
    (s.order seg h kind item at_ value sent).images = s.images ∧
    (s.order seg h kind item at_ value sent).tap = s.tap ∧
    (s.order seg h kind item at_ value sent).fresh = s.fresh := by
  unfold State.order
  (repeat' split) <;> simp

@[simp] theorem frame_decideRun (plan : State) (b : Tick) (n : Nat) (s : State) : (State.decideRun plan b n s).pending = s.pending ∧
    (State.decideRun plan b n s).deferred = s.deferred ∧ (State.decideRun plan b n s).dev = s.dev ∧
    (State.decideRun plan b n s).power = s.power ∧ (State.decideRun plan b n s).clk = s.clk ∧
    (State.decideRun plan b n s).fuses = s.fuses ∧ (State.decideRun plan b n s).blobs = s.blobs ∧
    (State.decideRun plan b n s).flash = s.flash ∧ (State.decideRun plan b n s).leaves = s.leaves ∧
    (State.decideRun plan b n s).recorder = s.recorder ∧ (State.decideRun plan b n s).sessions = s.sessions ∧
    (State.decideRun plan b n s).auth = s.auth ∧ (State.decideRun plan b n s).spi = s.spi ∧
    (State.decideRun plan b n s).ring = s.ring ∧ (State.decideRun plan b n s).ownWaiting = s.ownWaiting ∧
    (State.decideRun plan b n s).job = s.job ∧ (State.decideRun plan b n s).sieve = s.sieve ∧
    (State.decideRun plan b n s).engine = s.engine ∧ (State.decideRun plan b n s).time = s.time ∧
    (State.decideRun plan b n s).motion = s.motion ∧ (State.decideRun plan b n s).dram = s.dram ∧
    (State.decideRun plan b n s).clocks = s.clocks ∧ (State.decideRun plan b n s).thermal = s.thermal ∧
    (State.decideRun plan b n s).images = s.images ∧ (State.decideRun plan b n s).tap = s.tap ∧
    (State.decideRun plan b n s).fresh = s.fresh := by
  induction n generalizing plan s with
  | zero => simp [State.decideRun]
  | succ n ih =>
    simp only [State.decideRun]
    (repeat' split) <;> simp [ih]

@[simp] theorem frame_decideEntries (s : State) : (s.decideEntries).pending = s.pending ∧
    (s.decideEntries).deferred = s.deferred ∧ (s.decideEntries).dev = s.dev ∧ (s.decideEntries).power = s.power ∧
    (s.decideEntries).clk = s.clk ∧ (s.decideEntries).fuses = s.fuses ∧ (s.decideEntries).blobs = s.blobs ∧
    (s.decideEntries).flash = s.flash ∧ (s.decideEntries).leaves = s.leaves ∧
    (s.decideEntries).recorder = s.recorder ∧ (s.decideEntries).sessions = s.sessions ∧
    (s.decideEntries).auth = s.auth ∧ (s.decideEntries).spi = s.spi ∧ (s.decideEntries).ring = s.ring ∧
    (s.decideEntries).ownWaiting = s.ownWaiting ∧ (s.decideEntries).job = s.job ∧ (s.decideEntries).sieve = s.sieve ∧
    (s.decideEntries).engine = s.engine ∧ (s.decideEntries).time = s.time ∧ (s.decideEntries).motion = s.motion ∧
    (s.decideEntries).dram = s.dram ∧ (s.decideEntries).clocks = s.clocks ∧ (s.decideEntries).thermal = s.thermal ∧
    (s.decideEntries).images = s.images ∧ (s.decideEntries).tap = s.tap ∧ (s.decideEntries).fresh = s.fresh := by
  unfold State.decideEntries
  (repeat' split) <;> simp

@[simp] theorem frame_sendCut (s : State) (key h cause mask : Nat) (onset : Tick) : (s.sendCut key h cause mask onset).pending = s.pending ∧
    (s.sendCut key h cause mask onset).deferred = s.deferred ∧ (s.sendCut key h cause mask onset).dev = s.dev ∧
    (s.sendCut key h cause mask onset).power = s.power ∧ (s.sendCut key h cause mask onset).clk = s.clk ∧
    (s.sendCut key h cause mask onset).fuses = s.fuses ∧ (s.sendCut key h cause mask onset).regs = s.regs ∧
    (s.sendCut key h cause mask onset).blobs = s.blobs ∧ (s.sendCut key h cause mask onset).flash = s.flash ∧
    (s.sendCut key h cause mask onset).leaves = s.leaves ∧ (s.sendCut key h cause mask onset).recorder = s.recorder ∧
    (s.sendCut key h cause mask onset).sessions = s.sessions ∧ (s.sendCut key h cause mask onset).auth = s.auth ∧
    (s.sendCut key h cause mask onset).spi = s.spi ∧ (s.sendCut key h cause mask onset).ring = s.ring ∧
    (s.sendCut key h cause mask onset).ownWaiting = s.ownWaiting ∧
    (s.sendCut key h cause mask onset).heads = s.heads ∧ (s.sendCut key h cause mask onset).sieve = s.sieve ∧
    (s.sendCut key h cause mask onset).engine = s.engine ∧ (s.sendCut key h cause mask onset).time = s.time ∧
    (s.sendCut key h cause mask onset).motion = s.motion ∧ (s.sendCut key h cause mask onset).dram = s.dram ∧
    (s.sendCut key h cause mask onset).clocks = s.clocks ∧ (s.sendCut key h cause mask onset).thermal = s.thermal ∧
    (s.sendCut key h cause mask onset).images = s.images ∧ (s.sendCut key h cause mask onset).tap = s.tap ∧
    (s.sendCut key h cause mask onset).fresh = s.fresh := by
  unfold State.sendCut
  (repeat' split) <;> simp

@[simp] theorem frame_guardCut (s : State) (h : HeadNo) (cause detail counter bit : Nat) : (s.guardCut h cause detail counter bit).pending = s.pending ∧
    (s.guardCut h cause detail counter bit).deferred = s.deferred ∧
    (s.guardCut h cause detail counter bit).dev = s.dev ∧ (s.guardCut h cause detail counter bit).power = s.power ∧
    (s.guardCut h cause detail counter bit).clk = s.clk ∧ (s.guardCut h cause detail counter bit).fuses = s.fuses ∧
    (s.guardCut h cause detail counter bit).blobs = s.blobs ∧
    (s.guardCut h cause detail counter bit).flash = s.flash ∧ (s.guardCut h cause detail counter bit).auth = s.auth ∧
    (s.guardCut h cause detail counter bit).spi = s.spi ∧ (s.guardCut h cause detail counter bit).ring = s.ring ∧
    (s.guardCut h cause detail counter bit).sieve = s.sieve ∧
    (s.guardCut h cause detail counter bit).engine = s.engine ∧
    (s.guardCut h cause detail counter bit).time = s.time ∧
    (s.guardCut h cause detail counter bit).motion = s.motion ∧
    (s.guardCut h cause detail counter bit).clocks = s.clocks ∧
    (s.guardCut h cause detail counter bit).thermal = s.thermal ∧
    (s.guardCut h cause detail counter bit).images = s.images ∧ (s.guardCut h cause detail counter bit).tap = s.tap ∧
    (s.guardCut h cause detail counter bit).fresh = s.fresh := by
  unfold State.guardCut
  dsimp only
  (repeat' split) <;> simp

@[simp] theorem frame_runningPair (s : State) (a b : HeadNo) : (s.runningPair a b).pending = s.pending ∧
    (s.runningPair a b).deferred = s.deferred ∧ (s.runningPair a b).dev = s.dev ∧
    (s.runningPair a b).power = s.power ∧ (s.runningPair a b).clk = s.clk ∧ (s.runningPair a b).fuses = s.fuses ∧
    (s.runningPair a b).blobs = s.blobs ∧ (s.runningPair a b).flash = s.flash ∧ (s.runningPair a b).auth = s.auth ∧
    (s.runningPair a b).spi = s.spi ∧ (s.runningPair a b).ring = s.ring ∧ (s.runningPair a b).sieve = s.sieve ∧
    (s.runningPair a b).engine = s.engine ∧ (s.runningPair a b).time = s.time ∧
    (s.runningPair a b).motion = s.motion ∧ (s.runningPair a b).clocks = s.clocks ∧
    (s.runningPair a b).thermal = s.thermal ∧ (s.runningPair a b).images = s.images ∧
    (s.runningPair a b).tap = s.tap ∧ (s.runningPair a b).fresh = s.fresh := by
  unfold State.runningPair
  (repeat' split) <;> simp

@[simp] theorem frame_runningChecks (s : State) : (s.runningChecks).pending = s.pending ∧
    (s.runningChecks).deferred = s.deferred ∧ (s.runningChecks).dev = s.dev ∧ (s.runningChecks).power = s.power ∧
    (s.runningChecks).clk = s.clk ∧ (s.runningChecks).fuses = s.fuses ∧ (s.runningChecks).blobs = s.blobs ∧
    (s.runningChecks).flash = s.flash ∧ (s.runningChecks).auth = s.auth ∧ (s.runningChecks).spi = s.spi ∧
    (s.runningChecks).ring = s.ring ∧ (s.runningChecks).sieve = s.sieve ∧ (s.runningChecks).engine = s.engine ∧
    (s.runningChecks).time = s.time ∧ (s.runningChecks).motion = s.motion ∧ (s.runningChecks).clocks = s.clocks ∧
    (s.runningChecks).thermal = s.thermal ∧ (s.runningChecks).images = s.images ∧ (s.runningChecks).tap = s.tap ∧
    (s.runningChecks).fresh = s.fresh := by
  unfold State.runningChecks
  (repeat' split) <;> simp

@[simp] theorem frame_keepoutChecks (s : State) : (s.keepoutChecks).pending = s.pending ∧
    (s.keepoutChecks).deferred = s.deferred ∧ (s.keepoutChecks).dev = s.dev ∧ (s.keepoutChecks).power = s.power ∧
    (s.keepoutChecks).clk = s.clk ∧ (s.keepoutChecks).fuses = s.fuses ∧ (s.keepoutChecks).blobs = s.blobs ∧
    (s.keepoutChecks).flash = s.flash ∧ (s.keepoutChecks).auth = s.auth ∧ (s.keepoutChecks).spi = s.spi ∧
    (s.keepoutChecks).ring = s.ring ∧ (s.keepoutChecks).sieve = s.sieve ∧ (s.keepoutChecks).engine = s.engine ∧
    (s.keepoutChecks).time = s.time ∧ (s.keepoutChecks).motion = s.motion ∧ (s.keepoutChecks).clocks = s.clocks ∧
    (s.keepoutChecks).thermal = s.thermal ∧ (s.keepoutChecks).images = s.images ∧ (s.keepoutChecks).tap = s.tap ∧
    (s.keepoutChecks).fresh = s.fresh := by
  unfold State.keepoutChecks
  (repeat' split) <;> simp

@[simp] theorem frame_failTrial (s : State) (cause : Nat) : (s.failTrial cause).pending = s.pending ∧
    (s.failTrial cause).deferred = s.deferred ∧ (s.failTrial cause).dev = s.dev ∧
    (s.failTrial cause).power = s.power ∧ (s.failTrial cause).clk = s.clk ∧ (s.failTrial cause).fuses = s.fuses ∧
    (s.failTrial cause).blobs = s.blobs ∧ (s.failTrial cause).flash = s.flash ∧ (s.failTrial cause).auth = s.auth ∧
    (s.failTrial cause).spi = s.spi ∧ (s.failTrial cause).ring = s.ring ∧ (s.failTrial cause).job = s.job ∧
    (s.failTrial cause).heads = s.heads ∧ (s.failTrial cause).sieve = s.sieve ∧
    (s.failTrial cause).engine = s.engine ∧ (s.failTrial cause).time = s.time ∧
    (s.failTrial cause).motion = s.motion ∧ (s.failTrial cause).dram = s.dram ∧
    (s.failTrial cause).clocks = s.clocks ∧ (s.failTrial cause).thermal = s.thermal ∧
    (s.failTrial cause).tap = s.tap ∧ (s.failTrial cause).fresh = s.fresh := by
  unfold State.failTrial
  (repeat' split) <;> simp

@[simp] theorem frame_lost (s : State) : (s.lost).pending = s.pending ∧ (s.lost).deferred = s.deferred ∧
    (s.lost).fuses = s.fuses ∧ (s.lost).fresh = s.fresh := by
  unfold State.lost
  (repeat' split) <;> simp

@[simp] theorem frame_tear (s : State) : (s.tear).pending = s.pending ∧ (s.tear).deferred = s.deferred ∧
    (s.tear).dev = s.dev ∧ (s.tear).power = s.power ∧ (s.tear).clk = s.clk ∧ (s.tear).fuses = s.fuses ∧
    (s.tear).regs = s.regs ∧ (s.tear).blobs = s.blobs ∧ (s.tear).flash = s.flash ∧ (s.tear).leaves = s.leaves ∧
    (s.tear).sessions = s.sessions ∧ (s.tear).auth = s.auth ∧ (s.tear).spi = s.spi ∧ (s.tear).ring = s.ring ∧
    (s.tear).ownWaiting = s.ownWaiting ∧ (s.tear).out = s.out ∧ (s.tear).job = s.job ∧ (s.tear).heads = s.heads ∧
    (s.tear).sieve = s.sieve ∧ (s.tear).engine = s.engine ∧ (s.tear).time = s.time ∧ (s.tear).twin = s.twin ∧
    (s.tear).motion = s.motion ∧ (s.tear).dram = s.dram ∧ (s.tear).clocks = s.clocks ∧ (s.tear).thermal = s.thermal ∧
    (s.tear).images = s.images ∧ (s.tear).tap = s.tap := by
  unfold State.tear
  (repeat' split) <;> simp

@[simp] theorem frame_toAux (s : State) (cause railFault : Nat) : (s.toAux cause railFault).pending = s.pending ∧
    (s.toAux cause railFault).deferred = s.deferred ∧ (s.toAux cause railFault).fuses = s.fuses := by
  unfold State.toAux
  (repeat' split) <;> simp

@[simp] theorem frame_coincide (s : State) (cause railFault : Nat) : (s.coincide cause railFault).pending = s.pending ∧
    (s.coincide cause railFault).deferred = s.deferred ∧ (s.coincide cause railFault).dev = s.dev ∧
    (s.coincide cause railFault).clk = s.clk ∧ (s.coincide cause railFault).fuses = s.fuses ∧
    (s.coincide cause railFault).regs = s.regs ∧ (s.coincide cause railFault).blobs = s.blobs ∧
    (s.coincide cause railFault).flash = s.flash ∧ (s.coincide cause railFault).leaves = s.leaves ∧
    (s.coincide cause railFault).sessions = s.sessions ∧ (s.coincide cause railFault).auth = s.auth ∧
    (s.coincide cause railFault).spi = s.spi ∧ (s.coincide cause railFault).ring = s.ring ∧
    (s.coincide cause railFault).ownWaiting = s.ownWaiting ∧ (s.coincide cause railFault).out = s.out ∧
    (s.coincide cause railFault).job = s.job ∧ (s.coincide cause railFault).heads = s.heads ∧
    (s.coincide cause railFault).sieve = s.sieve ∧ (s.coincide cause railFault).engine = s.engine ∧
    (s.coincide cause railFault).time = s.time ∧ (s.coincide cause railFault).twin = s.twin ∧
    (s.coincide cause railFault).motion = s.motion ∧ (s.coincide cause railFault).dram = s.dram ∧
    (s.coincide cause railFault).clocks = s.clocks ∧ (s.coincide cause railFault).thermal = s.thermal ∧
    (s.coincide cause railFault).images = s.images ∧ (s.coincide cause railFault).tap = s.tap ∧
    (s.coincide cause railFault).fresh = s.fresh := by
  unfold State.coincide
  (repeat' split) <;> simp

@[simp] theorem frame_testEnds (s : State) : (s.testEnds).pending = s.pending ∧ (s.testEnds).deferred = s.deferred ∧
    (s.testEnds).dev = s.dev ∧ (s.testEnds).power = s.power ∧ (s.testEnds).clk = s.clk ∧
    (s.testEnds).fuses = s.fuses ∧ (s.testEnds).regs = s.regs ∧ (s.testEnds).blobs = s.blobs ∧
    (s.testEnds).flash = s.flash ∧ (s.testEnds).leaves = s.leaves ∧ (s.testEnds).recorder = s.recorder ∧
    (s.testEnds).sessions = s.sessions ∧ (s.testEnds).auth = s.auth ∧ (s.testEnds).spi = s.spi ∧
    (s.testEnds).ring = s.ring ∧ (s.testEnds).ownWaiting = s.ownWaiting ∧ (s.testEnds).out = s.out ∧
    (s.testEnds).job = s.job ∧ (s.testEnds).heads = s.heads ∧ (s.testEnds).sieve = s.sieve ∧
    (s.testEnds).engine = s.engine ∧ (s.testEnds).time = s.time ∧ (s.testEnds).twin = s.twin ∧
    (s.testEnds).motion = s.motion ∧ (s.testEnds).dram = s.dram ∧ (s.testEnds).clocks = s.clocks ∧
    (s.testEnds).thermal = s.thermal ∧ (s.testEnds).images = s.images ∧ (s.testEnds).fresh = s.fresh := by
  unfold State.testEnds
  (repeat' split) <;> simp

@[simp] theorem frame_resetPins (s : State) (cause : Nat) : (s.resetPins cause).pending = s.pending ∧
    (s.resetPins cause).deferred = s.deferred ∧ (s.resetPins cause).dev = s.dev ∧ (s.resetPins cause).clk = s.clk ∧
    (s.resetPins cause).fuses = s.fuses ∧ (s.resetPins cause).regs = s.regs ∧ (s.resetPins cause).blobs = s.blobs ∧
    (s.resetPins cause).flash = s.flash ∧ (s.resetPins cause).leaves = s.leaves ∧
    (s.resetPins cause).recorder = s.recorder ∧ (s.resetPins cause).sessions = s.sessions ∧
    (s.resetPins cause).auth = s.auth ∧ (s.resetPins cause).spi = s.spi ∧ (s.resetPins cause).ring = s.ring ∧
    (s.resetPins cause).ownWaiting = s.ownWaiting ∧ (s.resetPins cause).out = s.out ∧
    (s.resetPins cause).job = s.job ∧ (s.resetPins cause).heads = s.heads ∧ (s.resetPins cause).sieve = s.sieve ∧
    (s.resetPins cause).engine = s.engine ∧ (s.resetPins cause).time = s.time ∧ (s.resetPins cause).twin = s.twin ∧
    (s.resetPins cause).motion = s.motion ∧ (s.resetPins cause).dram = s.dram ∧
    (s.resetPins cause).clocks = s.clocks ∧ (s.resetPins cause).thermal = s.thermal ∧
    (s.resetPins cause).images = s.images ∧ (s.resetPins cause).fresh = s.fresh := by
  unfold State.resetPins
  (repeat' split) <;> simp

@[simp] theorem frame_mainReset (s : State) (cause railFault : Nat) : (s.mainReset cause railFault).pending = s.pending ∧
    (s.mainReset cause railFault).deferred = s.deferred ∧ (s.mainReset cause railFault).fuses = s.fuses := by
  unfold State.mainReset
  (repeat' split) <;> simp

@[simp] theorem frame_restarted (s : State) : (s.restarted).pending = s.pending ∧
    (s.restarted).deferred = s.deferred ∧ (s.restarted).fuses = s.fuses ∧ (s.restarted).clocks = s.clocks ∧
    (s.restarted).thermal = s.thermal ∧ (s.restarted).tap = s.tap ∧ (s.restarted).fresh = s.fresh := by
  unfold State.restarted
  dsimp only
  (repeat' split) <;> (try simp) <;> (repeat' split) <;> simp

@[simp] theorem frame_imageWritten (s : State) (kind : Nat) (bs : List Byte) : (s.imageWritten kind bs).pending = s.pending ∧
    (s.imageWritten kind bs).deferred = s.deferred ∧ (s.imageWritten kind bs).dev = s.dev ∧
    (s.imageWritten kind bs).power = s.power ∧ (s.imageWritten kind bs).clk = s.clk ∧
    (s.imageWritten kind bs).fuses = s.fuses ∧ (s.imageWritten kind bs).blobs = s.blobs ∧
    (s.imageWritten kind bs).flash = s.flash ∧ (s.imageWritten kind bs).auth = s.auth ∧
    (s.imageWritten kind bs).spi = s.spi ∧ (s.imageWritten kind bs).ring = s.ring ∧
    (s.imageWritten kind bs).job = s.job ∧ (s.imageWritten kind bs).heads = s.heads ∧
    (s.imageWritten kind bs).sieve = s.sieve ∧ (s.imageWritten kind bs).engine = s.engine ∧
    (s.imageWritten kind bs).time = s.time ∧ (s.imageWritten kind bs).motion = s.motion ∧
    (s.imageWritten kind bs).dram = s.dram ∧ (s.imageWritten kind bs).clocks = s.clocks ∧
    (s.imageWritten kind bs).thermal = s.thermal ∧ (s.imageWritten kind bs).tap = s.tap ∧
    (s.imageWritten kind bs).fresh = s.fresh := by
  unfold State.imageWritten
  (repeat' split) <;> simp

@[simp] theorem frame_writeImage (s : State) (p : Path) (kind : Nat) (bs : List Byte) (flashGood : Bool) : (s.writeImage p kind bs flashGood).pending = s.pending ∧
    (s.writeImage p kind bs flashGood).deferred = s.deferred ∧ (s.writeImage p kind bs flashGood).dev = s.dev ∧
    (s.writeImage p kind bs flashGood).power = s.power ∧ (s.writeImage p kind bs flashGood).clk = s.clk ∧
    (s.writeImage p kind bs flashGood).fuses = s.fuses ∧ (s.writeImage p kind bs flashGood).blobs = s.blobs ∧
    (s.writeImage p kind bs flashGood).flash = s.flash ∧ (s.writeImage p kind bs flashGood).auth = s.auth ∧
    (s.writeImage p kind bs flashGood).spi = s.spi ∧ (s.writeImage p kind bs flashGood).ring = s.ring ∧
    (s.writeImage p kind bs flashGood).job = s.job ∧ (s.writeImage p kind bs flashGood).heads = s.heads ∧
    (s.writeImage p kind bs flashGood).sieve = s.sieve ∧ (s.writeImage p kind bs flashGood).engine = s.engine ∧
    (s.writeImage p kind bs flashGood).time = s.time ∧ (s.writeImage p kind bs flashGood).motion = s.motion ∧
    (s.writeImage p kind bs flashGood).dram = s.dram ∧ (s.writeImage p kind bs flashGood).clocks = s.clocks ∧
    (s.writeImage p kind bs flashGood).thermal = s.thermal ∧ (s.writeImage p kind bs flashGood).tap = s.tap ∧
    (s.writeImage p kind bs flashGood).fresh = s.fresh := by
  unfold State.writeImage
  (repeat' split) <;> simp

@[simp] theorem frame_execSfImage (path : Path) (image : List Byte) (flashGood : Bool) (s : State) (s0 : State) : (outcomeState s0 (execSfImage path image flashGood s)).pending = s.pending ∧
    (outcomeState s0 (execSfImage path image flashGood s)).dev = s.dev ∧
    (outcomeState s0 (execSfImage path image flashGood s)).power = s.power ∧
    (outcomeState s0 (execSfImage path image flashGood s)).clk = s.clk ∧
    (outcomeState s0 (execSfImage path image flashGood s)).fuses = s.fuses ∧
    (outcomeState s0 (execSfImage path image flashGood s)).blobs = s.blobs ∧
    (outcomeState s0 (execSfImage path image flashGood s)).flash = s.flash ∧
    (outcomeState s0 (execSfImage path image flashGood s)).auth = s.auth ∧
    (outcomeState s0 (execSfImage path image flashGood s)).spi = s.spi ∧
    (outcomeState s0 (execSfImage path image flashGood s)).ring = s.ring ∧
    (outcomeState s0 (execSfImage path image flashGood s)).job = s.job ∧
    (outcomeState s0 (execSfImage path image flashGood s)).heads = s.heads ∧
    (outcomeState s0 (execSfImage path image flashGood s)).sieve = s.sieve ∧
    (outcomeState s0 (execSfImage path image flashGood s)).engine = s.engine ∧
    (outcomeState s0 (execSfImage path image flashGood s)).time = s.time ∧
    (outcomeState s0 (execSfImage path image flashGood s)).motion = s.motion ∧
    (outcomeState s0 (execSfImage path image flashGood s)).dram = s.dram ∧
    (outcomeState s0 (execSfImage path image flashGood s)).clocks = s.clocks ∧
    (outcomeState s0 (execSfImage path image flashGood s)).thermal = s.thermal ∧
    (outcomeState s0 (execSfImage path image flashGood s)).tap = s.tap ∧
    (outcomeState s0 (execSfImage path image flashGood s)).fresh = s.fresh := by
  simp only [execSfImage]
  (repeat' split) <;> simp

@[simp] theorem frame_execMcImage (path : Path) (image : List Byte) (flashGood : Bool) (s : State) (s0 : State) : (outcomeState s0 (execMcImage path image flashGood s)).pending = s.pending ∧
    (outcomeState s0 (execMcImage path image flashGood s)).dev = s.dev ∧
    (outcomeState s0 (execMcImage path image flashGood s)).power = s.power ∧
    (outcomeState s0 (execMcImage path image flashGood s)).clk = s.clk ∧
    (outcomeState s0 (execMcImage path image flashGood s)).fuses = s.fuses ∧
    (outcomeState s0 (execMcImage path image flashGood s)).blobs = s.blobs ∧
    (outcomeState s0 (execMcImage path image flashGood s)).flash = s.flash ∧
    (outcomeState s0 (execMcImage path image flashGood s)).auth = s.auth ∧
    (outcomeState s0 (execMcImage path image flashGood s)).spi = s.spi ∧
    (outcomeState s0 (execMcImage path image flashGood s)).ring = s.ring ∧
    (outcomeState s0 (execMcImage path image flashGood s)).job = s.job ∧
    (outcomeState s0 (execMcImage path image flashGood s)).heads = s.heads ∧
    (outcomeState s0 (execMcImage path image flashGood s)).sieve = s.sieve ∧
    (outcomeState s0 (execMcImage path image flashGood s)).engine = s.engine ∧
    (outcomeState s0 (execMcImage path image flashGood s)).time = s.time ∧
    (outcomeState s0 (execMcImage path image flashGood s)).motion = s.motion ∧
    (outcomeState s0 (execMcImage path image flashGood s)).dram = s.dram ∧
    (outcomeState s0 (execMcImage path image flashGood s)).clocks = s.clocks ∧
    (outcomeState s0 (execMcImage path image flashGood s)).thermal = s.thermal ∧
    (outcomeState s0 (execMcImage path image flashGood s)).tap = s.tap ∧
    (outcomeState s0 (execMcImage path image flashGood s)).fresh = s.fresh := by
  simp only [execMcImage]
  (repeat' split) <;> simp

@[simp] theorem frame_writeTrial (s : State) (p : Path) (value : Nat) : (s.writeTrial p value).pending = s.pending ∧
    (s.writeTrial p value).deferred = s.deferred ∧ (s.writeTrial p value).dev = s.dev ∧
    (s.writeTrial p value).power = s.power ∧ (s.writeTrial p value).clk = s.clk ∧
    (s.writeTrial p value).fuses = s.fuses ∧ (s.writeTrial p value).blobs = s.blobs ∧
    (s.writeTrial p value).flash = s.flash ∧ (s.writeTrial p value).leaves = s.leaves ∧
    (s.writeTrial p value).recorder = s.recorder ∧ (s.writeTrial p value).sessions = s.sessions ∧
    (s.writeTrial p value).auth = s.auth ∧ (s.writeTrial p value).spi = s.spi ∧ (s.writeTrial p value).ring = s.ring ∧
    (s.writeTrial p value).ownWaiting = s.ownWaiting ∧ (s.writeTrial p value).job = s.job ∧
    (s.writeTrial p value).heads = s.heads ∧ (s.writeTrial p value).sieve = s.sieve ∧
    (s.writeTrial p value).engine = s.engine ∧ (s.writeTrial p value).time = s.time ∧
    (s.writeTrial p value).twin = s.twin ∧ (s.writeTrial p value).motion = s.motion ∧
    (s.writeTrial p value).dram = s.dram ∧ (s.writeTrial p value).clocks = s.clocks ∧
    (s.writeTrial p value).thermal = s.thermal ∧ (s.writeTrial p value).tap = s.tap ∧
    (s.writeTrial p value).fresh = s.fresh := by
  unfold State.writeTrial
  (repeat' split) <;> simp

@[simp] theorem frame_execTrial (path : Path) (value : Nat) (s : State) (s0 : State) : (outcomeState s0 (execTrial path value s)).pending = s.pending ∧
    (outcomeState s0 (execTrial path value s)).dev = s.dev ∧
    (outcomeState s0 (execTrial path value s)).power = s.power ∧
    (outcomeState s0 (execTrial path value s)).clk = s.clk ∧
    (outcomeState s0 (execTrial path value s)).fuses = s.fuses ∧
    (outcomeState s0 (execTrial path value s)).blobs = s.blobs ∧
    (outcomeState s0 (execTrial path value s)).flash = s.flash ∧
    (outcomeState s0 (execTrial path value s)).leaves = s.leaves ∧
    (outcomeState s0 (execTrial path value s)).recorder = s.recorder ∧
    (outcomeState s0 (execTrial path value s)).sessions = s.sessions ∧
    (outcomeState s0 (execTrial path value s)).auth = s.auth ∧
    (outcomeState s0 (execTrial path value s)).spi = s.spi ∧
    (outcomeState s0 (execTrial path value s)).ring = s.ring ∧
    (outcomeState s0 (execTrial path value s)).ownWaiting = s.ownWaiting ∧
    (outcomeState s0 (execTrial path value s)).job = s.job ∧
    (outcomeState s0 (execTrial path value s)).heads = s.heads ∧
    (outcomeState s0 (execTrial path value s)).sieve = s.sieve ∧
    (outcomeState s0 (execTrial path value s)).engine = s.engine ∧
    (outcomeState s0 (execTrial path value s)).time = s.time ∧
    (outcomeState s0 (execTrial path value s)).twin = s.twin ∧
    (outcomeState s0 (execTrial path value s)).motion = s.motion ∧
    (outcomeState s0 (execTrial path value s)).dram = s.dram ∧
    (outcomeState s0 (execTrial path value s)).clocks = s.clocks ∧
    (outcomeState s0 (execTrial path value s)).thermal = s.thermal ∧
    (outcomeState s0 (execTrial path value s)).tap = s.tap ∧
    (outcomeState s0 (execTrial path value s)).fresh = s.fresh := by
  simp only [execTrial]
  (repeat' split) <;> simp

@[simp] theorem frame_confirmTrial (s : State) : (s.confirmTrial).pending = s.pending ∧
    (s.confirmTrial).deferred = s.deferred ∧ (s.confirmTrial).dev = s.dev ∧ (s.confirmTrial).power = s.power ∧
    (s.confirmTrial).clk = s.clk ∧ (s.confirmTrial).fuses = s.fuses ∧ (s.confirmTrial).blobs = s.blobs ∧
    (s.confirmTrial).flash = s.flash ∧ (s.confirmTrial).auth = s.auth ∧ (s.confirmTrial).spi = s.spi ∧
    (s.confirmTrial).ring = s.ring ∧ (s.confirmTrial).job = s.job ∧ (s.confirmTrial).heads = s.heads ∧
    (s.confirmTrial).sieve = s.sieve ∧ (s.confirmTrial).engine = s.engine ∧ (s.confirmTrial).time = s.time ∧
    (s.confirmTrial).motion = s.motion ∧ (s.confirmTrial).dram = s.dram ∧ (s.confirmTrial).clocks = s.clocks ∧
    (s.confirmTrial).thermal = s.thermal ∧ (s.confirmTrial).tap = s.tap ∧ (s.confirmTrial).fresh = s.fresh := by
  unfold State.confirmTrial
  (repeat' split) <;> simp

@[simp] theorem frame_execConfirm (path : Path) (value : Nat) (s : State) (s0 : State) : (outcomeState s0 (execConfirm path value s)).pending = s.pending ∧
    (outcomeState s0 (execConfirm path value s)).dev = s.dev ∧
    (outcomeState s0 (execConfirm path value s)).power = s.power ∧
    (outcomeState s0 (execConfirm path value s)).clk = s.clk ∧
    (outcomeState s0 (execConfirm path value s)).fuses = s.fuses ∧
    (outcomeState s0 (execConfirm path value s)).blobs = s.blobs ∧
    (outcomeState s0 (execConfirm path value s)).flash = s.flash ∧
    (outcomeState s0 (execConfirm path value s)).auth = s.auth ∧
    (outcomeState s0 (execConfirm path value s)).spi = s.spi ∧
    (outcomeState s0 (execConfirm path value s)).ring = s.ring ∧
    (outcomeState s0 (execConfirm path value s)).job = s.job ∧
    (outcomeState s0 (execConfirm path value s)).heads = s.heads ∧
    (outcomeState s0 (execConfirm path value s)).sieve = s.sieve ∧
    (outcomeState s0 (execConfirm path value s)).engine = s.engine ∧
    (outcomeState s0 (execConfirm path value s)).time = s.time ∧
    (outcomeState s0 (execConfirm path value s)).motion = s.motion ∧
    (outcomeState s0 (execConfirm path value s)).dram = s.dram ∧
    (outcomeState s0 (execConfirm path value s)).clocks = s.clocks ∧
    (outcomeState s0 (execConfirm path value s)).thermal = s.thermal ∧
    (outcomeState s0 (execConfirm path value s)).tap = s.tap ∧
    (outcomeState s0 (execConfirm path value s)).fresh = s.fresh := by
  simp only [execConfirm]
  (repeat' split) <;> simp

@[simp] theorem frame_execFactoryBlock (path : Path) (block : List Byte) (s : State) (s0 : State) : (outcomeState s0 (execFactoryBlock path block s)).pending = s.pending ∧
    (outcomeState s0 (execFactoryBlock path block s)).dev = s.dev ∧
    (outcomeState s0 (execFactoryBlock path block s)).power = s.power ∧
    (outcomeState s0 (execFactoryBlock path block s)).clk = s.clk ∧
    (outcomeState s0 (execFactoryBlock path block s)).fuses = s.fuses ∧
    (outcomeState s0 (execFactoryBlock path block s)).regs = s.regs ∧
    (outcomeState s0 (execFactoryBlock path block s)).blobs = s.blobs ∧
    (outcomeState s0 (execFactoryBlock path block s)).flash = s.flash ∧
    (outcomeState s0 (execFactoryBlock path block s)).leaves = s.leaves ∧
    (outcomeState s0 (execFactoryBlock path block s)).recorder = s.recorder ∧
    (outcomeState s0 (execFactoryBlock path block s)).sessions = s.sessions ∧
    (outcomeState s0 (execFactoryBlock path block s)).auth = s.auth ∧
    (outcomeState s0 (execFactoryBlock path block s)).spi = s.spi ∧
    (outcomeState s0 (execFactoryBlock path block s)).ring = s.ring ∧
    (outcomeState s0 (execFactoryBlock path block s)).ownWaiting = s.ownWaiting ∧
    (outcomeState s0 (execFactoryBlock path block s)).job = s.job ∧
    (outcomeState s0 (execFactoryBlock path block s)).heads = s.heads ∧
    (outcomeState s0 (execFactoryBlock path block s)).sieve = s.sieve ∧
    (outcomeState s0 (execFactoryBlock path block s)).engine = s.engine ∧
    (outcomeState s0 (execFactoryBlock path block s)).time = s.time ∧
    (outcomeState s0 (execFactoryBlock path block s)).twin = s.twin ∧
    (outcomeState s0 (execFactoryBlock path block s)).motion = s.motion ∧
    (outcomeState s0 (execFactoryBlock path block s)).dram = s.dram ∧
    (outcomeState s0 (execFactoryBlock path block s)).clocks = s.clocks ∧
    (outcomeState s0 (execFactoryBlock path block s)).thermal = s.thermal ∧
    (outcomeState s0 (execFactoryBlock path block s)).tap = s.tap ∧
    (outcomeState s0 (execFactoryBlock path block s)).fresh = s.fresh := by
  simp only [execFactoryBlock]
  (repeat' split) <;> simp

@[simp] theorem frame_takeSlot (s : State) (n : Nat) (fallback : Bool) : (s.takeSlot n fallback).pending = s.pending ∧
    (s.takeSlot n fallback).deferred = s.deferred ∧ (s.takeSlot n fallback).dev = s.dev ∧
    (s.takeSlot n fallback).power = s.power ∧ (s.takeSlot n fallback).clk = s.clk ∧
    (s.takeSlot n fallback).fuses = s.fuses ∧ (s.takeSlot n fallback).blobs = s.blobs ∧
    (s.takeSlot n fallback).flash = s.flash ∧ (s.takeSlot n fallback).auth = s.auth ∧
    (s.takeSlot n fallback).spi = s.spi ∧ (s.takeSlot n fallback).ring = s.ring ∧
    (s.takeSlot n fallback).job = s.job ∧ (s.takeSlot n fallback).heads = s.heads ∧
    (s.takeSlot n fallback).sieve = s.sieve ∧ (s.takeSlot n fallback).engine = s.engine ∧
    (s.takeSlot n fallback).time = s.time ∧ (s.takeSlot n fallback).motion = s.motion ∧
    (s.takeSlot n fallback).dram = s.dram ∧ (s.takeSlot n fallback).clocks = s.clocks ∧
    (s.takeSlot n fallback).thermal = s.thermal ∧ (s.takeSlot n fallback).tap = s.tap ∧
    (s.takeSlot n fallback).fresh = s.fresh := by
  unfold State.takeSlot
  (repeat' split) <;> simp

@[simp] theorem frame_judgeBlock (s : State) : (s.judgeBlock).pending = s.pending ∧
    (s.judgeBlock).deferred = s.deferred ∧ (s.judgeBlock).dev = s.dev ∧ (s.judgeBlock).power = s.power ∧
    (s.judgeBlock).clk = s.clk ∧ (s.judgeBlock).fuses = s.fuses ∧ (s.judgeBlock).blobs = s.blobs ∧
    (s.judgeBlock).flash = s.flash ∧ (s.judgeBlock).auth = s.auth ∧ (s.judgeBlock).spi = s.spi ∧
    (s.judgeBlock).ring = s.ring ∧ (s.judgeBlock).job = s.job ∧ (s.judgeBlock).heads = s.heads ∧
    (s.judgeBlock).sieve = s.sieve ∧ (s.judgeBlock).engine = s.engine ∧ (s.judgeBlock).time = s.time ∧
    (s.judgeBlock).motion = s.motion ∧ (s.judgeBlock).dram = s.dram ∧ (s.judgeBlock).clocks = s.clocks ∧
    (s.judgeBlock).thermal = s.thermal ∧ (s.judgeBlock).tap = s.tap ∧ (s.judgeBlock).fresh = s.fresh := by
  unfold State.judgeBlock
  (repeat' split) <;> simp

@[simp] theorem frame_frontToQueue (s : State) : (s.frontToQueue).pending = s.pending ∧
    (s.frontToQueue).deferred = s.deferred ∧ (s.frontToQueue).dev = s.dev ∧ (s.frontToQueue).power = s.power ∧
    (s.frontToQueue).clk = s.clk ∧ (s.frontToQueue).fuses = s.fuses ∧ (s.frontToQueue).blobs = s.blobs ∧
    (s.frontToQueue).flash = s.flash ∧ (s.frontToQueue).auth = s.auth ∧ (s.frontToQueue).spi = s.spi ∧
    (s.frontToQueue).ring = s.ring ∧ (s.frontToQueue).job = s.job ∧ (s.frontToQueue).heads = s.heads ∧
    (s.frontToQueue).sieve = s.sieve ∧ (s.frontToQueue).engine = s.engine ∧ (s.frontToQueue).time = s.time ∧
    (s.frontToQueue).motion = s.motion ∧ (s.frontToQueue).dram = s.dram ∧ (s.frontToQueue).clocks = s.clocks ∧
    (s.frontToQueue).thermal = s.thermal ∧ (s.frontToQueue).images = s.images ∧ (s.frontToQueue).tap = s.tap ∧
    (s.frontToQueue).fresh = s.fresh := by
  unfold State.frontToQueue
  (repeat' split) <;> simp

@[simp] theorem frame_dropTorn (s : State) : (s.dropTorn).pending = s.pending ∧ (s.dropTorn).deferred = s.deferred ∧
    (s.dropTorn).dev = s.dev ∧ (s.dropTorn).power = s.power ∧ (s.dropTorn).clk = s.clk ∧
    (s.dropTorn).fuses = s.fuses ∧ (s.dropTorn).blobs = s.blobs ∧ (s.dropTorn).flash = s.flash ∧
    (s.dropTorn).auth = s.auth ∧ (s.dropTorn).spi = s.spi ∧ (s.dropTorn).ring = s.ring ∧ (s.dropTorn).job = s.job ∧
    (s.dropTorn).heads = s.heads ∧ (s.dropTorn).sieve = s.sieve ∧ (s.dropTorn).engine = s.engine ∧
    (s.dropTorn).time = s.time ∧ (s.dropTorn).motion = s.motion ∧ (s.dropTorn).dram = s.dram ∧
    (s.dropTorn).clocks = s.clocks ∧ (s.dropTorn).thermal = s.thermal ∧ (s.dropTorn).images = s.images ∧
    (s.dropTorn).tap = s.tap ∧ (s.dropTorn).fresh = s.fresh := by
  unfold State.dropTorn
  (repeat' split) <;> simp

@[simp] theorem frame_loadStored (s : State) : (s.loadStored).pending = s.pending ∧
    (s.loadStored).deferred = s.deferred ∧ (s.loadStored).dev = s.dev ∧ (s.loadStored).power = s.power ∧
    (s.loadStored).clk = s.clk ∧ (s.loadStored).fuses = s.fuses ∧ (s.loadStored).flash = s.flash ∧
    (s.loadStored).leaves = s.leaves ∧ (s.loadStored).recorder = s.recorder ∧ (s.loadStored).sessions = s.sessions ∧
    (s.loadStored).auth = s.auth ∧ (s.loadStored).spi = s.spi ∧ (s.loadStored).ring = s.ring ∧
    (s.loadStored).ownWaiting = s.ownWaiting ∧ (s.loadStored).out = s.out ∧ (s.loadStored).job = s.job ∧
    (s.loadStored).heads = s.heads ∧ (s.loadStored).sieve = s.sieve ∧ (s.loadStored).engine = s.engine ∧
    (s.loadStored).time = s.time ∧ (s.loadStored).twin = s.twin ∧ (s.loadStored).motion = s.motion ∧
    (s.loadStored).dram = s.dram ∧ (s.loadStored).clocks = s.clocks ∧ (s.loadStored).thermal = s.thermal ∧
    (s.loadStored).images = s.images ∧ (s.loadStored).tap = s.tap ∧ (s.loadStored).fresh = s.fresh := by
  unfold State.loadStored
  (repeat' split) <;> simp

@[simp] theorem frame_bedrockFull (s : State) : (s.bedrockFull).pending = s.pending ∧
    (s.bedrockFull).deferred = s.deferred ∧ (s.bedrockFull).dev = s.dev ∧ (s.bedrockFull).power = s.power ∧
    (s.bedrockFull).clk = s.clk ∧ (s.bedrockFull).fuses = s.fuses ∧ (s.bedrockFull).regs = s.regs ∧
    (s.bedrockFull).blobs = s.blobs ∧ (s.bedrockFull).flash = s.flash ∧ (s.bedrockFull).recorder = s.recorder ∧
    (s.bedrockFull).auth = s.auth ∧ (s.bedrockFull).spi = s.spi ∧ (s.bedrockFull).ring = s.ring ∧
    (s.bedrockFull).job = s.job ∧ (s.bedrockFull).heads = s.heads ∧ (s.bedrockFull).sieve = s.sieve ∧
    (s.bedrockFull).engine = s.engine ∧ (s.bedrockFull).time = s.time ∧ (s.bedrockFull).motion = s.motion ∧
    (s.bedrockFull).dram = s.dram ∧ (s.bedrockFull).clocks = s.clocks ∧ (s.bedrockFull).thermal = s.thermal ∧
    (s.bedrockFull).images = s.images ∧ (s.bedrockFull).tap = s.tap ∧ (s.bedrockFull).fresh = s.fresh := by
  unfold State.bedrockFull
  (repeat' split) <;> simp

@[simp] theorem frame_reportLost (s : State) : (s.reportLost).pending = s.pending ∧
    (s.reportLost).deferred = s.deferred ∧ (s.reportLost).dev = s.dev ∧ (s.reportLost).power = s.power ∧
    (s.reportLost).clk = s.clk ∧ (s.reportLost).fuses = s.fuses ∧ (s.reportLost).regs = s.regs ∧
    (s.reportLost).blobs = s.blobs ∧ (s.reportLost).flash = s.flash ∧ (s.reportLost).leaves = s.leaves ∧
    (s.reportLost).sessions = s.sessions ∧ (s.reportLost).auth = s.auth ∧ (s.reportLost).spi = s.spi ∧
    (s.reportLost).ring = s.ring ∧ (s.reportLost).ownWaiting = s.ownWaiting ∧ (s.reportLost).out = s.out ∧
    (s.reportLost).job = s.job ∧ (s.reportLost).heads = s.heads ∧ (s.reportLost).sieve = s.sieve ∧
    (s.reportLost).engine = s.engine ∧ (s.reportLost).time = s.time ∧ (s.reportLost).twin = s.twin ∧
    (s.reportLost).motion = s.motion ∧ (s.reportLost).dram = s.dram ∧ (s.reportLost).clocks = s.clocks ∧
    (s.reportLost).thermal = s.thermal ∧ (s.reportLost).images = s.images ∧ (s.reportLost).tap = s.tap ∧
    (s.reportLost).fresh = s.fresh := by
  unfold State.reportLost
  (repeat' split) <;> simp

@[simp] theorem frame_flashOne (s : State) : (s.flashOne).pending = s.pending ∧ (s.flashOne).deferred = s.deferred ∧
    (s.flashOne).dev = s.dev ∧ (s.flashOne).power = s.power ∧ (s.flashOne).clk = s.clk ∧
    (s.flashOne).fuses = s.fuses ∧ (s.flashOne).regs = s.regs ∧ (s.flashOne).blobs = s.blobs ∧
    (s.flashOne).flash = s.flash ∧ (s.flashOne).auth = s.auth ∧ (s.flashOne).spi = s.spi ∧
    (s.flashOne).ring = s.ring ∧ (s.flashOne).job = s.job ∧ (s.flashOne).heads = s.heads ∧
    (s.flashOne).sieve = s.sieve ∧ (s.flashOne).engine = s.engine ∧ (s.flashOne).time = s.time ∧
    (s.flashOne).motion = s.motion ∧ (s.flashOne).dram = s.dram ∧ (s.flashOne).clocks = s.clocks ∧
    (s.flashOne).thermal = s.thermal ∧ (s.flashOne).images = s.images ∧ (s.flashOne).tap = s.tap ∧
    (s.flashOne).fresh = s.fresh := by
  unfold State.flashOne
  (repeat' split) <;> simp

@[simp] theorem frame_flashFailed (s : State) : (s.flashFailed).pending = s.pending ∧
    (s.flashFailed).deferred = s.deferred ∧ (s.flashFailed).dev = s.dev ∧ (s.flashFailed).power = s.power ∧
    (s.flashFailed).clk = s.clk ∧ (s.flashFailed).fuses = s.fuses ∧ (s.flashFailed).blobs = s.blobs ∧
    (s.flashFailed).flash = s.flash ∧ (s.flashFailed).auth = s.auth ∧ (s.flashFailed).spi = s.spi ∧
    (s.flashFailed).ring = s.ring ∧ (s.flashFailed).job = s.job ∧ (s.flashFailed).heads = s.heads ∧
    (s.flashFailed).sieve = s.sieve ∧ (s.flashFailed).engine = s.engine ∧ (s.flashFailed).time = s.time ∧
    (s.flashFailed).motion = s.motion ∧ (s.flashFailed).dram = s.dram ∧ (s.flashFailed).clocks = s.clocks ∧
    (s.flashFailed).thermal = s.thermal ∧ (s.flashFailed).images = s.images ∧ (s.flashFailed).tap = s.tap ∧
    (s.flashFailed).fresh = s.fresh := by
  unfold State.flashFailed
  (repeat' split) <;> simp

@[simp] theorem frame_flashAll (n : Nat) (s : State) : (State.flashAll n s).pending = s.pending ∧
    (State.flashAll n s).deferred = s.deferred ∧ (State.flashAll n s).dev = s.dev ∧
    (State.flashAll n s).power = s.power ∧ (State.flashAll n s).clk = s.clk ∧ (State.flashAll n s).fuses = s.fuses ∧
    (State.flashAll n s).regs = s.regs ∧ (State.flashAll n s).blobs = s.blobs ∧ (State.flashAll n s).flash = s.flash ∧
    (State.flashAll n s).auth = s.auth ∧ (State.flashAll n s).spi = s.spi ∧ (State.flashAll n s).ring = s.ring ∧
    (State.flashAll n s).job = s.job ∧ (State.flashAll n s).heads = s.heads ∧ (State.flashAll n s).sieve = s.sieve ∧
    (State.flashAll n s).engine = s.engine ∧ (State.flashAll n s).time = s.time ∧
    (State.flashAll n s).motion = s.motion ∧ (State.flashAll n s).dram = s.dram ∧
    (State.flashAll n s).clocks = s.clocks ∧ (State.flashAll n s).thermal = s.thermal ∧
    (State.flashAll n s).images = s.images ∧ (State.flashAll n s).tap = s.tap ∧
    (State.flashAll n s).fresh = s.fresh := by
  induction n generalizing s with
  | zero => simp [State.flashAll]
  | succ n ih =>
    simp only [State.flashAll]
    (repeat' split) <;> simp [ih]

@[simp] theorem frame_execHostRecord (path : Path) (data : List Byte) (s : State) (s0 : State) : (outcomeState s0 (execHostRecord path data s)).pending = s.pending ∧
    (outcomeState s0 (execHostRecord path data s)).dev = s.dev ∧
    (outcomeState s0 (execHostRecord path data s)).power = s.power ∧
    (outcomeState s0 (execHostRecord path data s)).clk = s.clk ∧
    (outcomeState s0 (execHostRecord path data s)).fuses = s.fuses ∧
    (outcomeState s0 (execHostRecord path data s)).blobs = s.blobs ∧
    (outcomeState s0 (execHostRecord path data s)).flash = s.flash ∧
    (outcomeState s0 (execHostRecord path data s)).auth = s.auth ∧
    (outcomeState s0 (execHostRecord path data s)).spi = s.spi ∧
    (outcomeState s0 (execHostRecord path data s)).ring = s.ring ∧
    (outcomeState s0 (execHostRecord path data s)).job = s.job ∧
    (outcomeState s0 (execHostRecord path data s)).heads = s.heads ∧
    (outcomeState s0 (execHostRecord path data s)).sieve = s.sieve ∧
    (outcomeState s0 (execHostRecord path data s)).engine = s.engine ∧
    (outcomeState s0 (execHostRecord path data s)).time = s.time ∧
    (outcomeState s0 (execHostRecord path data s)).motion = s.motion ∧
    (outcomeState s0 (execHostRecord path data s)).dram = s.dram ∧
    (outcomeState s0 (execHostRecord path data s)).clocks = s.clocks ∧
    (outcomeState s0 (execHostRecord path data s)).thermal = s.thermal ∧
    (outcomeState s0 (execHostRecord path data s)).images = s.images ∧
    (outcomeState s0 (execHostRecord path data s)).tap = s.tap ∧
    (outcomeState s0 (execHostRecord path data s)).fresh = s.fresh := by
  simp only [execHostRecord]
  (repeat' split) <;> simp

@[simp] theorem frame_clearTopsoil (s : State) : (s.clearTopsoil).pending = s.pending ∧
    (s.clearTopsoil).deferred = s.deferred ∧ (s.clearTopsoil).dev = s.dev ∧ (s.clearTopsoil).power = s.power ∧
    (s.clearTopsoil).clk = s.clk ∧ (s.clearTopsoil).fuses = s.fuses ∧ (s.clearTopsoil).blobs = s.blobs ∧
    (s.clearTopsoil).flash = s.flash ∧ (s.clearTopsoil).auth = s.auth ∧ (s.clearTopsoil).spi = s.spi ∧
    (s.clearTopsoil).ring = s.ring ∧ (s.clearTopsoil).job = s.job ∧ (s.clearTopsoil).heads = s.heads ∧
    (s.clearTopsoil).sieve = s.sieve ∧ (s.clearTopsoil).engine = s.engine ∧ (s.clearTopsoil).time = s.time ∧
    (s.clearTopsoil).motion = s.motion ∧ (s.clearTopsoil).dram = s.dram ∧ (s.clearTopsoil).clocks = s.clocks ∧
    (s.clearTopsoil).thermal = s.thermal ∧ (s.clearTopsoil).images = s.images ∧ (s.clearTopsoil).tap = s.tap ∧
    (s.clearTopsoil).fresh = s.fresh := by
  unfold State.clearTopsoil
  (repeat' split) <;> simp

@[simp] theorem frame_execClearTopsoil (path : Path) (value : Nat) (s : State) (s0 : State) : (outcomeState s0 (execClearTopsoil path value s)).pending = s.pending ∧
    (outcomeState s0 (execClearTopsoil path value s)).dev = s.dev ∧
    (outcomeState s0 (execClearTopsoil path value s)).power = s.power ∧
    (outcomeState s0 (execClearTopsoil path value s)).clk = s.clk ∧
    (outcomeState s0 (execClearTopsoil path value s)).fuses = s.fuses ∧
    (outcomeState s0 (execClearTopsoil path value s)).blobs = s.blobs ∧
    (outcomeState s0 (execClearTopsoil path value s)).flash = s.flash ∧
    (outcomeState s0 (execClearTopsoil path value s)).auth = s.auth ∧
    (outcomeState s0 (execClearTopsoil path value s)).spi = s.spi ∧
    (outcomeState s0 (execClearTopsoil path value s)).ring = s.ring ∧
    (outcomeState s0 (execClearTopsoil path value s)).job = s.job ∧
    (outcomeState s0 (execClearTopsoil path value s)).heads = s.heads ∧
    (outcomeState s0 (execClearTopsoil path value s)).sieve = s.sieve ∧
    (outcomeState s0 (execClearTopsoil path value s)).engine = s.engine ∧
    (outcomeState s0 (execClearTopsoil path value s)).time = s.time ∧
    (outcomeState s0 (execClearTopsoil path value s)).motion = s.motion ∧
    (outcomeState s0 (execClearTopsoil path value s)).dram = s.dram ∧
    (outcomeState s0 (execClearTopsoil path value s)).clocks = s.clocks ∧
    (outcomeState s0 (execClearTopsoil path value s)).thermal = s.thermal ∧
    (outcomeState s0 (execClearTopsoil path value s)).images = s.images ∧
    (outcomeState s0 (execClearTopsoil path value s)).tap = s.tap ∧
    (outcomeState s0 (execClearTopsoil path value s)).fresh = s.fresh := by
  simp only [execClearTopsoil]
  (repeat' split) <;> simp

@[simp] theorem frame_execFlush (path : Path) (value : Nat) (s : State) (s0 : State) : (outcomeState s0 (execFlush path value s)).pending = s.pending ∧
    (outcomeState s0 (execFlush path value s)).dev = s.dev ∧
    (outcomeState s0 (execFlush path value s)).power = s.power ∧
    (outcomeState s0 (execFlush path value s)).clk = s.clk ∧
    (outcomeState s0 (execFlush path value s)).fuses = s.fuses ∧
    (outcomeState s0 (execFlush path value s)).regs = s.regs ∧
    (outcomeState s0 (execFlush path value s)).blobs = s.blobs ∧
    (outcomeState s0 (execFlush path value s)).flash = s.flash ∧
    (outcomeState s0 (execFlush path value s)).auth = s.auth ∧
    (outcomeState s0 (execFlush path value s)).spi = s.spi ∧
    (outcomeState s0 (execFlush path value s)).ring = s.ring ∧
    (outcomeState s0 (execFlush path value s)).job = s.job ∧
    (outcomeState s0 (execFlush path value s)).heads = s.heads ∧
    (outcomeState s0 (execFlush path value s)).sieve = s.sieve ∧
    (outcomeState s0 (execFlush path value s)).engine = s.engine ∧
    (outcomeState s0 (execFlush path value s)).time = s.time ∧
    (outcomeState s0 (execFlush path value s)).motion = s.motion ∧
    (outcomeState s0 (execFlush path value s)).dram = s.dram ∧
    (outcomeState s0 (execFlush path value s)).clocks = s.clocks ∧
    (outcomeState s0 (execFlush path value s)).thermal = s.thermal ∧
    (outcomeState s0 (execFlush path value s)).images = s.images ∧
    (outcomeState s0 (execFlush path value s)).tap = s.tap ∧
    (outcomeState s0 (execFlush path value s)).fresh = s.fresh := by
  simp only [execFlush]
  (repeat' split) <;> simp

@[simp] theorem frame_execNextRecord (path : Path) (value : Nat) (s : State) (s0 : State) : (outcomeState s0 (execNextRecord path value s)).pending = s.pending ∧
    (outcomeState s0 (execNextRecord path value s)).dev = s.dev ∧
    (outcomeState s0 (execNextRecord path value s)).power = s.power ∧
    (outcomeState s0 (execNextRecord path value s)).clk = s.clk ∧
    (outcomeState s0 (execNextRecord path value s)).fuses = s.fuses ∧
    (outcomeState s0 (execNextRecord path value s)).regs = s.regs ∧
    (outcomeState s0 (execNextRecord path value s)).blobs = s.blobs ∧
    (outcomeState s0 (execNextRecord path value s)).flash = s.flash ∧
    (outcomeState s0 (execNextRecord path value s)).leaves = s.leaves ∧
    (outcomeState s0 (execNextRecord path value s)).recorder = s.recorder ∧
    (outcomeState s0 (execNextRecord path value s)).auth = s.auth ∧
    (outcomeState s0 (execNextRecord path value s)).spi = s.spi ∧
    (outcomeState s0 (execNextRecord path value s)).ring = s.ring ∧
    (outcomeState s0 (execNextRecord path value s)).ownWaiting = s.ownWaiting ∧
    (outcomeState s0 (execNextRecord path value s)).job = s.job ∧
    (outcomeState s0 (execNextRecord path value s)).heads = s.heads ∧
    (outcomeState s0 (execNextRecord path value s)).sieve = s.sieve ∧
    (outcomeState s0 (execNextRecord path value s)).engine = s.engine ∧
    (outcomeState s0 (execNextRecord path value s)).time = s.time ∧
    (outcomeState s0 (execNextRecord path value s)).twin = s.twin ∧
    (outcomeState s0 (execNextRecord path value s)).motion = s.motion ∧
    (outcomeState s0 (execNextRecord path value s)).dram = s.dram ∧
    (outcomeState s0 (execNextRecord path value s)).clocks = s.clocks ∧
    (outcomeState s0 (execNextRecord path value s)).thermal = s.thermal ∧
    (outcomeState s0 (execNextRecord path value s)).images = s.images ∧
    (outcomeState s0 (execNextRecord path value s)).tap = s.tap ∧
    (outcomeState s0 (execNextRecord path value s)).fresh = s.fresh := by
  simp only [execNextRecord]
  (repeat' split) <;> simp

@[simp] theorem frame_execCursor (path : Path) (value : Nat) (s : State) (s0 : State) : (outcomeState s0 (execCursor path value s)).pending = s.pending ∧
    (outcomeState s0 (execCursor path value s)).dev = s.dev ∧
    (outcomeState s0 (execCursor path value s)).power = s.power ∧
    (outcomeState s0 (execCursor path value s)).clk = s.clk ∧
    (outcomeState s0 (execCursor path value s)).fuses = s.fuses ∧
    (outcomeState s0 (execCursor path value s)).regs = s.regs ∧
    (outcomeState s0 (execCursor path value s)).blobs = s.blobs ∧
    (outcomeState s0 (execCursor path value s)).flash = s.flash ∧
    (outcomeState s0 (execCursor path value s)).leaves = s.leaves ∧
    (outcomeState s0 (execCursor path value s)).recorder = s.recorder ∧
    (outcomeState s0 (execCursor path value s)).auth = s.auth ∧
    (outcomeState s0 (execCursor path value s)).spi = s.spi ∧
    (outcomeState s0 (execCursor path value s)).ring = s.ring ∧
    (outcomeState s0 (execCursor path value s)).ownWaiting = s.ownWaiting ∧
    (outcomeState s0 (execCursor path value s)).job = s.job ∧
    (outcomeState s0 (execCursor path value s)).heads = s.heads ∧
    (outcomeState s0 (execCursor path value s)).sieve = s.sieve ∧
    (outcomeState s0 (execCursor path value s)).engine = s.engine ∧
    (outcomeState s0 (execCursor path value s)).time = s.time ∧
    (outcomeState s0 (execCursor path value s)).twin = s.twin ∧
    (outcomeState s0 (execCursor path value s)).motion = s.motion ∧
    (outcomeState s0 (execCursor path value s)).dram = s.dram ∧
    (outcomeState s0 (execCursor path value s)).clocks = s.clocks ∧
    (outcomeState s0 (execCursor path value s)).thermal = s.thermal ∧
    (outcomeState s0 (execCursor path value s)).images = s.images ∧
    (outcomeState s0 (execCursor path value s)).tap = s.tap ∧
    (outcomeState s0 (execCursor path value s)).fresh = s.fresh := by
  simp only [execCursor]
  (repeat' split) <;> simp

@[simp] theorem frame_holdBoot (s : State) (cause : Nat) : (s.holdBoot cause).pending = s.pending ∧
    (s.holdBoot cause).deferred = s.deferred ∧ (s.holdBoot cause).power = s.power ∧ (s.holdBoot cause).clk = s.clk ∧
    (s.holdBoot cause).fuses = s.fuses ∧ (s.holdBoot cause).blobs = s.blobs ∧ (s.holdBoot cause).flash = s.flash ∧
    (s.holdBoot cause).auth = s.auth ∧ (s.holdBoot cause).spi = s.spi ∧ (s.holdBoot cause).ring = s.ring ∧
    (s.holdBoot cause).job = s.job ∧ (s.holdBoot cause).heads = s.heads ∧ (s.holdBoot cause).sieve = s.sieve ∧
    (s.holdBoot cause).engine = s.engine ∧ (s.holdBoot cause).time = s.time ∧ (s.holdBoot cause).motion = s.motion ∧
    (s.holdBoot cause).dram = s.dram ∧ (s.holdBoot cause).clocks = s.clocks ∧ (s.holdBoot cause).thermal = s.thermal ∧
    (s.holdBoot cause).tap = s.tap ∧ (s.holdBoot cause).fresh = s.fresh := by
  unfold State.holdBoot
  (repeat' split) <;> simp

@[simp] theorem frame_divideDram (s : State) (gib ranks seed0 seed1 : Nat) : (s.divideDram gib ranks seed0 seed1).pending = s.pending ∧
    (s.divideDram gib ranks seed0 seed1).deferred = s.deferred ∧ (s.divideDram gib ranks seed0 seed1).dev = s.dev ∧
    (s.divideDram gib ranks seed0 seed1).clk = s.clk ∧ (s.divideDram gib ranks seed0 seed1).fuses = s.fuses ∧
    (s.divideDram gib ranks seed0 seed1).blobs = s.blobs ∧ (s.divideDram gib ranks seed0 seed1).flash = s.flash ∧
    (s.divideDram gib ranks seed0 seed1).leaves = s.leaves ∧
    (s.divideDram gib ranks seed0 seed1).recorder = s.recorder ∧
    (s.divideDram gib ranks seed0 seed1).sessions = s.sessions ∧ (s.divideDram gib ranks seed0 seed1).auth = s.auth ∧
    (s.divideDram gib ranks seed0 seed1).spi = s.spi ∧ (s.divideDram gib ranks seed0 seed1).ring = s.ring ∧
    (s.divideDram gib ranks seed0 seed1).ownWaiting = s.ownWaiting ∧
    (s.divideDram gib ranks seed0 seed1).out = s.out ∧ (s.divideDram gib ranks seed0 seed1).heads = s.heads ∧
    (s.divideDram gib ranks seed0 seed1).sieve = s.sieve ∧ (s.divideDram gib ranks seed0 seed1).engine = s.engine ∧
    (s.divideDram gib ranks seed0 seed1).time = s.time ∧ (s.divideDram gib ranks seed0 seed1).twin = s.twin ∧
    (s.divideDram gib ranks seed0 seed1).motion = s.motion ∧ (s.divideDram gib ranks seed0 seed1).clocks = s.clocks ∧
    (s.divideDram gib ranks seed0 seed1).thermal = s.thermal ∧
    (s.divideDram gib ranks seed0 seed1).images = s.images ∧ (s.divideDram gib ranks seed0 seed1).tap = s.tap ∧
    (s.divideDram gib ranks seed0 seed1).fresh = s.fresh := by
  unfold State.divideDram
  (repeat' split) <;> simp

@[simp] theorem frame_leaveBoot (s : State) : (s.leaveBoot).pending = s.pending ∧
    (s.leaveBoot).deferred = s.deferred ∧ (s.leaveBoot).clk = s.clk ∧ (s.leaveBoot).fuses = s.fuses ∧
    (s.leaveBoot).blobs = s.blobs ∧ (s.leaveBoot).flash = s.flash ∧ (s.leaveBoot).auth = s.auth ∧
    (s.leaveBoot).spi = s.spi ∧ (s.leaveBoot).ring = s.ring ∧ (s.leaveBoot).job = s.job ∧
    (s.leaveBoot).heads = s.heads ∧ (s.leaveBoot).sieve = s.sieve ∧ (s.leaveBoot).engine = s.engine ∧
    (s.leaveBoot).time = s.time ∧ (s.leaveBoot).motion = s.motion ∧ (s.leaveBoot).dram = s.dram ∧
    (s.leaveBoot).clocks = s.clocks ∧ (s.leaveBoot).thermal = s.thermal ∧ (s.leaveBoot).images = s.images ∧
    (s.leaveBoot).tap = s.tap ∧ (s.leaveBoot).fresh = s.fresh := by
  unfold State.leaveBoot
  (repeat' split) <;> simp

@[simp] theorem frame_imageCheck (s : State) : (s.imageCheck).pending = s.pending ∧
    (s.imageCheck).deferred = s.deferred ∧ (s.imageCheck).clk = s.clk ∧ (s.imageCheck).fuses = s.fuses ∧
    (s.imageCheck).flash = s.flash ∧ (s.imageCheck).auth = s.auth ∧ (s.imageCheck).spi = s.spi ∧
    (s.imageCheck).ring = s.ring ∧ (s.imageCheck).job = s.job ∧ (s.imageCheck).heads = s.heads ∧
    (s.imageCheck).sieve = s.sieve ∧ (s.imageCheck).engine = s.engine ∧ (s.imageCheck).time = s.time ∧
    (s.imageCheck).motion = s.motion ∧ (s.imageCheck).dram = s.dram ∧ (s.imageCheck).clocks = s.clocks ∧
    (s.imageCheck).thermal = s.thermal ∧ (s.imageCheck).tap = s.tap ∧ (s.imageCheck).fresh = s.fresh := by
  unfold State.imageCheck
  (repeat' split) <;> simp

@[simp] theorem frame_endRingStep (s : State) : (s.endRingStep).pending = s.pending ∧
    (s.endRingStep).deferred = s.deferred ∧ (s.endRingStep).dev = s.dev ∧ (s.endRingStep).clk = s.clk ∧
    (s.endRingStep).fuses = s.fuses ∧ (s.endRingStep).blobs = s.blobs ∧ (s.endRingStep).flash = s.flash ∧
    (s.endRingStep).auth = s.auth ∧ (s.endRingStep).spi = s.spi ∧ (s.endRingStep).ring = s.ring ∧
    (s.endRingStep).sieve = s.sieve ∧ (s.endRingStep).time = s.time ∧ (s.endRingStep).motion = s.motion ∧
    (s.endRingStep).clocks = s.clocks ∧ (s.endRingStep).thermal = s.thermal ∧ (s.endRingStep).images = s.images ∧
    (s.endRingStep).tap = s.tap ∧ (s.endRingStep).fresh = s.fresh := by
  unfold State.endRingStep
  (repeat' split) <;> simp

@[simp] theorem frame_recordStart (s : State) (leaf : Nat) : (s.recordStart leaf).pending = s.pending ∧
    (s.recordStart leaf).deferred = s.deferred ∧ (s.recordStart leaf).dev = s.dev ∧ (s.recordStart leaf).clk = s.clk ∧
    (s.recordStart leaf).fuses = s.fuses ∧ (s.recordStart leaf).blobs = s.blobs ∧
    (s.recordStart leaf).flash = s.flash ∧ (s.recordStart leaf).auth = s.auth ∧ (s.recordStart leaf).spi = s.spi ∧
    (s.recordStart leaf).ring = s.ring ∧ (s.recordStart leaf).job = s.job ∧ (s.recordStart leaf).heads = s.heads ∧
    (s.recordStart leaf).sieve = s.sieve ∧ (s.recordStart leaf).engine = s.engine ∧
    (s.recordStart leaf).time = s.time ∧ (s.recordStart leaf).motion = s.motion ∧ (s.recordStart leaf).dram = s.dram ∧
    (s.recordStart leaf).clocks = s.clocks ∧ (s.recordStart leaf).thermal = s.thermal ∧
    (s.recordStart leaf).images = s.images ∧ (s.recordStart leaf).tap = s.tap ∧
    (s.recordStart leaf).fresh = s.fresh := by
  unfold State.recordStart
  (repeat' split) <;> simp

@[simp] theorem frame_stepEight (s : State) : (s.stepEight).pending = s.pending ∧
    (s.stepEight).deferred = s.deferred ∧ (s.stepEight).clk = s.clk ∧ (s.stepEight).fuses = s.fuses ∧
    (s.stepEight).blobs = s.blobs ∧ (s.stepEight).flash = s.flash ∧ (s.stepEight).auth = s.auth ∧
    (s.stepEight).spi = s.spi ∧ (s.stepEight).ring = s.ring ∧ (s.stepEight).job = s.job ∧
    (s.stepEight).heads = s.heads ∧ (s.stepEight).sieve = s.sieve ∧ (s.stepEight).engine = s.engine ∧
    (s.stepEight).time = s.time ∧ (s.stepEight).motion = s.motion ∧ (s.stepEight).dram = s.dram ∧
    (s.stepEight).clocks = s.clocks ∧ (s.stepEight).thermal = s.thermal ∧ (s.stepEight).tap = s.tap ∧
    (s.stepEight).fresh = s.fresh := by
  unfold State.stepEight
  (repeat' split) <;> simp

@[simp] theorem frame_boundExpired (s : State) : (s.boundExpired).pending = s.pending ∧
    (s.boundExpired).deferred = s.deferred ∧ (s.boundExpired).clk = s.clk ∧ (s.boundExpired).fuses = s.fuses ∧
    (s.boundExpired).blobs = s.blobs ∧ (s.boundExpired).flash = s.flash ∧ (s.boundExpired).auth = s.auth ∧
    (s.boundExpired).spi = s.spi ∧ (s.boundExpired).ring = s.ring ∧ (s.boundExpired).sieve = s.sieve ∧
    (s.boundExpired).time = s.time ∧ (s.boundExpired).motion = s.motion ∧ (s.boundExpired).clocks = s.clocks ∧
    (s.boundExpired).thermal = s.thermal ∧ (s.boundExpired).tap = s.tap ∧ (s.boundExpired).fresh = s.fresh := by
  unfold State.boundExpired
  (repeat' split) <;> simp

@[simp] theorem frame_memoryLeaf (s : State) (ch bit : Nat) : (s.memoryLeaf ch bit).pending = s.pending ∧
    (s.memoryLeaf ch bit).deferred = s.deferred ∧ (s.memoryLeaf ch bit).dev = s.dev ∧
    (s.memoryLeaf ch bit).power = s.power ∧ (s.memoryLeaf ch bit).clk = s.clk ∧
    (s.memoryLeaf ch bit).fuses = s.fuses ∧ (s.memoryLeaf ch bit).regs = s.regs ∧
    (s.memoryLeaf ch bit).blobs = s.blobs ∧ (s.memoryLeaf ch bit).flash = s.flash ∧
    (s.memoryLeaf ch bit).recorder = s.recorder ∧ (s.memoryLeaf ch bit).auth = s.auth ∧
    (s.memoryLeaf ch bit).spi = s.spi ∧ (s.memoryLeaf ch bit).ring = s.ring ∧ (s.memoryLeaf ch bit).job = s.job ∧
    (s.memoryLeaf ch bit).heads = s.heads ∧ (s.memoryLeaf ch bit).sieve = s.sieve ∧
    (s.memoryLeaf ch bit).engine = s.engine ∧ (s.memoryLeaf ch bit).time = s.time ∧
    (s.memoryLeaf ch bit).motion = s.motion ∧ (s.memoryLeaf ch bit).dram = s.dram ∧
    (s.memoryLeaf ch bit).clocks = s.clocks ∧ (s.memoryLeaf ch bit).thermal = s.thermal ∧
    (s.memoryLeaf ch bit).images = s.images ∧ (s.memoryLeaf ch bit).tap = s.tap ∧
    (s.memoryLeaf ch bit).fresh = s.fresh := by
  unfold State.memoryLeaf
  (repeat' split) <;> simp

@[simp] theorem frame_abandonList (s : State) (key : Nat) (h : HeadNo) (detail : Nat) : (s.abandonList key h detail).pending = s.pending ∧
    (s.abandonList key h detail).deferred = s.deferred ∧ (s.abandonList key h detail).dev = s.dev ∧
    (s.abandonList key h detail).power = s.power ∧ (s.abandonList key h detail).clk = s.clk ∧
    (s.abandonList key h detail).fuses = s.fuses ∧ (s.abandonList key h detail).blobs = s.blobs ∧
    (s.abandonList key h detail).flash = s.flash ∧ (s.abandonList key h detail).auth = s.auth ∧
    (s.abandonList key h detail).spi = s.spi ∧ (s.abandonList key h detail).ring = s.ring ∧
    (s.abandonList key h detail).sieve = s.sieve ∧ (s.abandonList key h detail).engine = s.engine ∧
    (s.abandonList key h detail).time = s.time ∧ (s.abandonList key h detail).motion = s.motion ∧
    (s.abandonList key h detail).clocks = s.clocks ∧ (s.abandonList key h detail).thermal = s.thermal ∧
    (s.abandonList key h detail).images = s.images ∧ (s.abandonList key h detail).tap = s.tap ∧
    (s.abandonList key h detail).fresh = s.fresh := by
  unfold State.abandonList
  (repeat' split) <;> simp

@[simp] theorem frame_dataLost (s : State) (id h detail : Nat) : (s.dataLost id h detail).pending = s.pending ∧
    (s.dataLost id h detail).deferred = s.deferred ∧ (s.dataLost id h detail).power = s.power ∧
    (s.dataLost id h detail).clk = s.clk ∧ (s.dataLost id h detail).fuses = s.fuses ∧
    (s.dataLost id h detail).blobs = s.blobs ∧ (s.dataLost id h detail).flash = s.flash ∧
    (s.dataLost id h detail).auth = s.auth ∧ (s.dataLost id h detail).spi = s.spi ∧
    (s.dataLost id h detail).ring = s.ring ∧ (s.dataLost id h detail).sieve = s.sieve ∧
    (s.dataLost id h detail).engine = s.engine ∧ (s.dataLost id h detail).time = s.time ∧
    (s.dataLost id h detail).motion = s.motion ∧ (s.dataLost id h detail).clocks = s.clocks ∧
    (s.dataLost id h detail).thermal = s.thermal ∧ (s.dataLost id h detail).images = s.images ∧
    (s.dataLost id h detail).tap = s.tap ∧ (s.dataLost id h detail).fresh = s.fresh := by
  unfold State.dataLost
  (repeat' split) <;> simp

@[simp] theorem frame_measured (s : State) (ch latency : Nat) : (s.measured ch latency).pending = s.pending ∧
    (s.measured ch latency).deferred = s.deferred ∧ (s.measured ch latency).dev = s.dev ∧
    (s.measured ch latency).power = s.power ∧ (s.measured ch latency).clk = s.clk ∧
    (s.measured ch latency).fuses = s.fuses ∧ (s.measured ch latency).blobs = s.blobs ∧
    (s.measured ch latency).flash = s.flash ∧ (s.measured ch latency).leaves = s.leaves ∧
    (s.measured ch latency).recorder = s.recorder ∧ (s.measured ch latency).sessions = s.sessions ∧
    (s.measured ch latency).auth = s.auth ∧ (s.measured ch latency).spi = s.spi ∧
    (s.measured ch latency).ring = s.ring ∧ (s.measured ch latency).ownWaiting = s.ownWaiting ∧
    (s.measured ch latency).out = s.out ∧ (s.measured ch latency).heads = s.heads ∧
    (s.measured ch latency).sieve = s.sieve ∧ (s.measured ch latency).engine = s.engine ∧
    (s.measured ch latency).time = s.time ∧ (s.measured ch latency).twin = s.twin ∧
    (s.measured ch latency).motion = s.motion ∧ (s.measured ch latency).dram = s.dram ∧
    (s.measured ch latency).clocks = s.clocks ∧ (s.measured ch latency).thermal = s.thermal ∧
    (s.measured ch latency).images = s.images ∧ (s.measured ch latency).tap = s.tap ∧
    (s.measured ch latency).fresh = s.fresh := by
  unfold State.measured
  (repeat' split) <;> simp

@[simp] theorem frame_deliver (s : State) (id h : Nat) (bitmap : Bool) (place : Nat) : (s.deliver id h bitmap place).pending = s.pending ∧
    (s.deliver id h bitmap place).deferred = s.deferred ∧ (s.deliver id h bitmap place).dev = s.dev ∧
    (s.deliver id h bitmap place).power = s.power ∧ (s.deliver id h bitmap place).clk = s.clk ∧
    (s.deliver id h bitmap place).fuses = s.fuses ∧ (s.deliver id h bitmap place).regs = s.regs ∧
    (s.deliver id h bitmap place).blobs = s.blobs ∧ (s.deliver id h bitmap place).flash = s.flash ∧
    (s.deliver id h bitmap place).leaves = s.leaves ∧ (s.deliver id h bitmap place).recorder = s.recorder ∧
    (s.deliver id h bitmap place).sessions = s.sessions ∧ (s.deliver id h bitmap place).auth = s.auth ∧
    (s.deliver id h bitmap place).spi = s.spi ∧ (s.deliver id h bitmap place).ring = s.ring ∧
    (s.deliver id h bitmap place).ownWaiting = s.ownWaiting ∧ (s.deliver id h bitmap place).out = s.out ∧
    (s.deliver id h bitmap place).heads = s.heads ∧ (s.deliver id h bitmap place).sieve = s.sieve ∧
    (s.deliver id h bitmap place).engine = s.engine ∧ (s.deliver id h bitmap place).time = s.time ∧
    (s.deliver id h bitmap place).twin = s.twin ∧ (s.deliver id h bitmap place).motion = s.motion ∧
    (s.deliver id h bitmap place).dram = s.dram ∧ (s.deliver id h bitmap place).clocks = s.clocks ∧
    (s.deliver id h bitmap place).thermal = s.thermal ∧ (s.deliver id h bitmap place).images = s.images ∧
    (s.deliver id h bitmap place).tap = s.tap ∧ (s.deliver id h bitmap place).fresh = s.fresh := by
  unfold State.deliver
  (repeat' split) <;> simp

@[simp] theorem frame_readPassed (s : State) (ch client address latency h id : Nat) (bitmap : Bool) (place : Nat) : (s.readPassed ch client address latency h id bitmap place).pending = s.pending ∧
    (s.readPassed ch client address latency h id bitmap place).deferred = s.deferred ∧
    (s.readPassed ch client address latency h id bitmap place).dev = s.dev ∧
    (s.readPassed ch client address latency h id bitmap place).power = s.power ∧
    (s.readPassed ch client address latency h id bitmap place).clk = s.clk ∧
    (s.readPassed ch client address latency h id bitmap place).fuses = s.fuses ∧
    (s.readPassed ch client address latency h id bitmap place).blobs = s.blobs ∧
    (s.readPassed ch client address latency h id bitmap place).flash = s.flash ∧
    (s.readPassed ch client address latency h id bitmap place).leaves = s.leaves ∧
    (s.readPassed ch client address latency h id bitmap place).recorder = s.recorder ∧
    (s.readPassed ch client address latency h id bitmap place).sessions = s.sessions ∧
    (s.readPassed ch client address latency h id bitmap place).auth = s.auth ∧
    (s.readPassed ch client address latency h id bitmap place).spi = s.spi ∧
    (s.readPassed ch client address latency h id bitmap place).ring = s.ring ∧
    (s.readPassed ch client address latency h id bitmap place).ownWaiting = s.ownWaiting ∧
    (s.readPassed ch client address latency h id bitmap place).out = s.out ∧
    (s.readPassed ch client address latency h id bitmap place).heads = s.heads ∧
    (s.readPassed ch client address latency h id bitmap place).sieve = s.sieve ∧
    (s.readPassed ch client address latency h id bitmap place).engine = s.engine ∧
    (s.readPassed ch client address latency h id bitmap place).time = s.time ∧
    (s.readPassed ch client address latency h id bitmap place).twin = s.twin ∧
    (s.readPassed ch client address latency h id bitmap place).motion = s.motion ∧
    (s.readPassed ch client address latency h id bitmap place).clocks = s.clocks ∧
    (s.readPassed ch client address latency h id bitmap place).thermal = s.thermal ∧
    (s.readPassed ch client address latency h id bitmap place).images = s.images ∧
    (s.readPassed ch client address latency h id bitmap place).tap = s.tap ∧
    (s.readPassed ch client address latency h id bitmap place).fresh = s.fresh := by
  unfold State.readPassed
  (repeat' split) <;> simp

@[simp] theorem frame_skipArchive (s : State) : (s.skipArchive).pending = s.pending ∧
    (s.skipArchive).deferred = s.deferred ∧ (s.skipArchive).dev = s.dev ∧ (s.skipArchive).power = s.power ∧
    (s.skipArchive).clk = s.clk ∧ (s.skipArchive).fuses = s.fuses ∧ (s.skipArchive).blobs = s.blobs ∧
    (s.skipArchive).flash = s.flash ∧ (s.skipArchive).leaves = s.leaves ∧ (s.skipArchive).recorder = s.recorder ∧
    (s.skipArchive).sessions = s.sessions ∧ (s.skipArchive).auth = s.auth ∧ (s.skipArchive).spi = s.spi ∧
    (s.skipArchive).ring = s.ring ∧ (s.skipArchive).ownWaiting = s.ownWaiting ∧ (s.skipArchive).out = s.out ∧
    (s.skipArchive).job = s.job ∧ (s.skipArchive).heads = s.heads ∧ (s.skipArchive).engine = s.engine ∧
    (s.skipArchive).time = s.time ∧ (s.skipArchive).twin = s.twin ∧ (s.skipArchive).motion = s.motion ∧
    (s.skipArchive).dram = s.dram ∧ (s.skipArchive).clocks = s.clocks ∧ (s.skipArchive).thermal = s.thermal ∧
    (s.skipArchive).images = s.images ∧ (s.skipArchive).tap = s.tap ∧ (s.skipArchive).fresh = s.fresh := by
  unfold State.skipArchive
  (repeat' split) <;> simp

@[simp] theorem frame_clientLost (s : State) (ch client h id : Nat) (bitmap : Bool) : (s.clientLost ch client h id bitmap).pending = s.pending ∧
    (s.clientLost ch client h id bitmap).deferred = s.deferred ∧
    (s.clientLost ch client h id bitmap).power = s.power ∧ (s.clientLost ch client h id bitmap).clk = s.clk ∧
    (s.clientLost ch client h id bitmap).fuses = s.fuses ∧ (s.clientLost ch client h id bitmap).blobs = s.blobs ∧
    (s.clientLost ch client h id bitmap).flash = s.flash ∧ (s.clientLost ch client h id bitmap).auth = s.auth ∧
    (s.clientLost ch client h id bitmap).spi = s.spi ∧ (s.clientLost ch client h id bitmap).ring = s.ring ∧
    (s.clientLost ch client h id bitmap).engine = s.engine ∧ (s.clientLost ch client h id bitmap).time = s.time ∧
    (s.clientLost ch client h id bitmap).motion = s.motion ∧ (s.clientLost ch client h id bitmap).clocks = s.clocks ∧
    (s.clientLost ch client h id bitmap).thermal = s.thermal ∧
    (s.clientLost ch client h id bitmap).images = s.images ∧ (s.clientLost ch client h id bitmap).tap = s.tap ∧
    (s.clientLost ch client h id bitmap).fresh = s.fresh := by
  unfold State.clientLost
  (repeat' split) <;> simp

@[simp] theorem frame_uncorrectable (s : State) (ch client address lanes h id : Nat) (bitmap : Bool) : (s.uncorrectable ch client address lanes h id bitmap).pending = s.pending ∧
    (s.uncorrectable ch client address lanes h id bitmap).deferred = s.deferred ∧
    (s.uncorrectable ch client address lanes h id bitmap).power = s.power ∧
    (s.uncorrectable ch client address lanes h id bitmap).clk = s.clk ∧
    (s.uncorrectable ch client address lanes h id bitmap).fuses = s.fuses ∧
    (s.uncorrectable ch client address lanes h id bitmap).blobs = s.blobs ∧
    (s.uncorrectable ch client address lanes h id bitmap).flash = s.flash ∧
    (s.uncorrectable ch client address lanes h id bitmap).auth = s.auth ∧
    (s.uncorrectable ch client address lanes h id bitmap).spi = s.spi ∧
    (s.uncorrectable ch client address lanes h id bitmap).ring = s.ring ∧
    (s.uncorrectable ch client address lanes h id bitmap).engine = s.engine ∧
    (s.uncorrectable ch client address lanes h id bitmap).time = s.time ∧
    (s.uncorrectable ch client address lanes h id bitmap).motion = s.motion ∧
    (s.uncorrectable ch client address lanes h id bitmap).clocks = s.clocks ∧
    (s.uncorrectable ch client address lanes h id bitmap).thermal = s.thermal ∧
    (s.uncorrectable ch client address lanes h id bitmap).images = s.images ∧
    (s.uncorrectable ch client address lanes h id bitmap).tap = s.tap ∧
    (s.uncorrectable ch client address lanes h id bitmap).fresh = s.fresh := by
  unfold State.uncorrectable
  (repeat' split) <;> simp

@[simp] theorem frame_readFailed (s : State) (ch client address lanes h id : Nat) (bitmap : Bool) : (s.readFailed ch client address lanes h id bitmap).pending = s.pending ∧
    (s.readFailed ch client address lanes h id bitmap).deferred = s.deferred ∧
    (s.readFailed ch client address lanes h id bitmap).power = s.power ∧
    (s.readFailed ch client address lanes h id bitmap).clk = s.clk ∧
    (s.readFailed ch client address lanes h id bitmap).fuses = s.fuses ∧
    (s.readFailed ch client address lanes h id bitmap).blobs = s.blobs ∧
    (s.readFailed ch client address lanes h id bitmap).flash = s.flash ∧
    (s.readFailed ch client address lanes h id bitmap).auth = s.auth ∧
    (s.readFailed ch client address lanes h id bitmap).spi = s.spi ∧
    (s.readFailed ch client address lanes h id bitmap).ring = s.ring ∧
    (s.readFailed ch client address lanes h id bitmap).engine = s.engine ∧
    (s.readFailed ch client address lanes h id bitmap).time = s.time ∧
    (s.readFailed ch client address lanes h id bitmap).motion = s.motion ∧
    (s.readFailed ch client address lanes h id bitmap).clocks = s.clocks ∧
    (s.readFailed ch client address lanes h id bitmap).thermal = s.thermal ∧
    (s.readFailed ch client address lanes h id bitmap).images = s.images ∧
    (s.readFailed ch client address lanes h id bitmap).tap = s.tap ∧
    (s.readFailed ch client address lanes h id bitmap).fresh = s.fresh := by
  unfold State.readFailed
  (repeat' split) <;> simp

@[simp] theorem frame_noteRead (s : State) (ch client address : Nat) : (s.noteRead ch client address).pending = s.pending ∧
    (s.noteRead ch client address).deferred = s.deferred ∧ (s.noteRead ch client address).dev = s.dev ∧
    (s.noteRead ch client address).power = s.power ∧ (s.noteRead ch client address).clk = s.clk ∧
    (s.noteRead ch client address).fuses = s.fuses ∧ (s.noteRead ch client address).regs = s.regs ∧
    (s.noteRead ch client address).blobs = s.blobs ∧ (s.noteRead ch client address).flash = s.flash ∧
    (s.noteRead ch client address).leaves = s.leaves ∧ (s.noteRead ch client address).recorder = s.recorder ∧
    (s.noteRead ch client address).sessions = s.sessions ∧ (s.noteRead ch client address).auth = s.auth ∧
    (s.noteRead ch client address).spi = s.spi ∧ (s.noteRead ch client address).ring = s.ring ∧
    (s.noteRead ch client address).ownWaiting = s.ownWaiting ∧ (s.noteRead ch client address).out = s.out ∧
    (s.noteRead ch client address).job = s.job ∧ (s.noteRead ch client address).heads = s.heads ∧
    (s.noteRead ch client address).sieve = s.sieve ∧ (s.noteRead ch client address).engine = s.engine ∧
    (s.noteRead ch client address).time = s.time ∧ (s.noteRead ch client address).twin = s.twin ∧
    (s.noteRead ch client address).motion = s.motion ∧ (s.noteRead ch client address).clocks = s.clocks ∧
    (s.noteRead ch client address).thermal = s.thermal ∧ (s.noteRead ch client address).images = s.images ∧
    (s.noteRead ch client address).tap = s.tap ∧ (s.noteRead ch client address).fresh = s.fresh := by
  unfold State.noteRead
  (repeat' split) <;> simp

@[simp] theorem frame_readComplete (s : State) (ch client address : Nat) (line : List Byte) (latency : Nat) (activated : Bool) (h id : Nat)
    (bitmap : Bool) (place : Nat) : (s.readComplete ch client address line latency activated h id bitmap place).pending = s.pending ∧
    (s.readComplete ch client address line latency activated h id bitmap place).deferred = s.deferred ∧
    (s.readComplete ch client address line latency activated h id bitmap place).power = s.power ∧
    (s.readComplete ch client address line latency activated h id bitmap place).clk = s.clk ∧
    (s.readComplete ch client address line latency activated h id bitmap place).fuses = s.fuses ∧
    (s.readComplete ch client address line latency activated h id bitmap place).blobs = s.blobs ∧
    (s.readComplete ch client address line latency activated h id bitmap place).flash = s.flash ∧
    (s.readComplete ch client address line latency activated h id bitmap place).auth = s.auth ∧
    (s.readComplete ch client address line latency activated h id bitmap place).spi = s.spi ∧
    (s.readComplete ch client address line latency activated h id bitmap place).ring = s.ring ∧
    (s.readComplete ch client address line latency activated h id bitmap place).engine = s.engine ∧
    (s.readComplete ch client address line latency activated h id bitmap place).time = s.time ∧
    (s.readComplete ch client address line latency activated h id bitmap place).motion = s.motion ∧
    (s.readComplete ch client address line latency activated h id bitmap place).clocks = s.clocks ∧
    (s.readComplete ch client address line latency activated h id bitmap place).thermal = s.thermal ∧
    (s.readComplete ch client address line latency activated h id bitmap place).images = s.images ∧
    (s.readComplete ch client address line latency activated h id bitmap place).tap = s.tap := by
  unfold State.readComplete
  (repeat' split) <;> simp

@[simp] theorem frame_alertFalls (s : State) (ch : Nat) : (s.alertFalls ch).pending = s.pending ∧
    (s.alertFalls ch).deferred = s.deferred ∧ (s.alertFalls ch).dev = s.dev ∧ (s.alertFalls ch).power = s.power ∧
    (s.alertFalls ch).clk = s.clk ∧ (s.alertFalls ch).fuses = s.fuses ∧ (s.alertFalls ch).blobs = s.blobs ∧
    (s.alertFalls ch).flash = s.flash ∧ (s.alertFalls ch).recorder = s.recorder ∧ (s.alertFalls ch).auth = s.auth ∧
    (s.alertFalls ch).spi = s.spi ∧ (s.alertFalls ch).ring = s.ring ∧ (s.alertFalls ch).job = s.job ∧
    (s.alertFalls ch).heads = s.heads ∧ (s.alertFalls ch).sieve = s.sieve ∧ (s.alertFalls ch).engine = s.engine ∧
    (s.alertFalls ch).time = s.time ∧ (s.alertFalls ch).motion = s.motion ∧ (s.alertFalls ch).clocks = s.clocks ∧
    (s.alertFalls ch).thermal = s.thermal ∧ (s.alertFalls ch).images = s.images ∧ (s.alertFalls ch).tap = s.tap ∧
    (s.alertFalls ch).fresh = s.fresh := by
  unfold State.alertFalls
  (repeat' split) <;> simp

@[simp] theorem frame_replay (s : State) (ch : Nat) (cs : List DramCommand) : (s.replay ch cs).pending = s.pending ∧
    (s.replay ch cs).deferred = s.deferred ∧ (s.replay ch cs).dev = s.dev ∧ (s.replay ch cs).power = s.power ∧
    (s.replay ch cs).clk = s.clk ∧ (s.replay ch cs).fuses = s.fuses ∧ (s.replay ch cs).blobs = s.blobs ∧
    (s.replay ch cs).flash = s.flash ∧ (s.replay ch cs).leaves = s.leaves ∧ (s.replay ch cs).recorder = s.recorder ∧
    (s.replay ch cs).sessions = s.sessions ∧ (s.replay ch cs).auth = s.auth ∧ (s.replay ch cs).spi = s.spi ∧
    (s.replay ch cs).ring = s.ring ∧ (s.replay ch cs).ownWaiting = s.ownWaiting ∧ (s.replay ch cs).out = s.out ∧
    (s.replay ch cs).job = s.job ∧ (s.replay ch cs).heads = s.heads ∧ (s.replay ch cs).sieve = s.sieve ∧
    (s.replay ch cs).engine = s.engine ∧ (s.replay ch cs).time = s.time ∧ (s.replay ch cs).twin = s.twin ∧
    (s.replay ch cs).motion = s.motion ∧ (s.replay ch cs).clocks = s.clocks ∧ (s.replay ch cs).thermal = s.thermal ∧
    (s.replay ch cs).images = s.images ∧ (s.replay ch cs).tap = s.tap := by
  unfold State.replay
  (repeat' split) <;> simp

@[simp] theorem frame_startRetraining (s : State) (ch : Nat) : (s.startRetraining ch).pending = s.pending ∧
    (s.startRetraining ch).deferred = s.deferred ∧ (s.startRetraining ch).dev = s.dev ∧
    (s.startRetraining ch).power = s.power ∧ (s.startRetraining ch).clk = s.clk ∧
    (s.startRetraining ch).fuses = s.fuses ∧ (s.startRetraining ch).blobs = s.blobs ∧
    (s.startRetraining ch).flash = s.flash ∧ (s.startRetraining ch).recorder = s.recorder ∧
    (s.startRetraining ch).auth = s.auth ∧ (s.startRetraining ch).spi = s.spi ∧ (s.startRetraining ch).ring = s.ring ∧
    (s.startRetraining ch).job = s.job ∧ (s.startRetraining ch).heads = s.heads ∧
    (s.startRetraining ch).sieve = s.sieve ∧ (s.startRetraining ch).engine = s.engine ∧
    (s.startRetraining ch).time = s.time ∧ (s.startRetraining ch).motion = s.motion ∧
    (s.startRetraining ch).clocks = s.clocks ∧ (s.startRetraining ch).thermal = s.thermal ∧
    (s.startRetraining ch).images = s.images ∧ (s.startRetraining ch).tap = s.tap ∧
    (s.startRetraining ch).fresh = s.fresh := by
  unfold State.startRetraining
  (repeat' split) <;> simp

@[simp] theorem frame_setDoubled (s : State) (ch : Nat) (on : Bool) : (s.setDoubled ch on).pending = s.pending ∧
    (s.setDoubled ch on).deferred = s.deferred ∧ (s.setDoubled ch on).dev = s.dev ∧
    (s.setDoubled ch on).power = s.power ∧ (s.setDoubled ch on).clk = s.clk ∧ (s.setDoubled ch on).fuses = s.fuses ∧
    (s.setDoubled ch on).regs = s.regs ∧ (s.setDoubled ch on).blobs = s.blobs ∧ (s.setDoubled ch on).flash = s.flash ∧
    (s.setDoubled ch on).recorder = s.recorder ∧ (s.setDoubled ch on).auth = s.auth ∧
    (s.setDoubled ch on).spi = s.spi ∧ (s.setDoubled ch on).ring = s.ring ∧ (s.setDoubled ch on).job = s.job ∧
    (s.setDoubled ch on).heads = s.heads ∧ (s.setDoubled ch on).sieve = s.sieve ∧
    (s.setDoubled ch on).engine = s.engine ∧ (s.setDoubled ch on).time = s.time ∧
    (s.setDoubled ch on).motion = s.motion ∧ (s.setDoubled ch on).clocks = s.clocks ∧
    (s.setDoubled ch on).thermal = s.thermal ∧ (s.setDoubled ch on).images = s.images ∧
    (s.setDoubled ch on).tap = s.tap ∧ (s.setDoubled ch on).fresh = s.fresh := by
  unfold State.setDoubled
  (repeat' split) <;> simp

@[simp] theorem frame_caseTemperature (s : State) (ch : Nat) (value : Int) : (s.caseTemperature ch value).pending = s.pending ∧
    (s.caseTemperature ch value).deferred = s.deferred ∧ (s.caseTemperature ch value).dev = s.dev ∧
    (s.caseTemperature ch value).power = s.power ∧ (s.caseTemperature ch value).clk = s.clk ∧
    (s.caseTemperature ch value).fuses = s.fuses ∧ (s.caseTemperature ch value).blobs = s.blobs ∧
    (s.caseTemperature ch value).flash = s.flash ∧ (s.caseTemperature ch value).recorder = s.recorder ∧
    (s.caseTemperature ch value).auth = s.auth ∧ (s.caseTemperature ch value).spi = s.spi ∧
    (s.caseTemperature ch value).ring = s.ring ∧ (s.caseTemperature ch value).job = s.job ∧
    (s.caseTemperature ch value).heads = s.heads ∧ (s.caseTemperature ch value).sieve = s.sieve ∧
    (s.caseTemperature ch value).engine = s.engine ∧ (s.caseTemperature ch value).time = s.time ∧
    (s.caseTemperature ch value).motion = s.motion ∧ (s.caseTemperature ch value).clocks = s.clocks ∧
    (s.caseTemperature ch value).thermal = s.thermal ∧ (s.caseTemperature ch value).images = s.images ∧
    (s.caseTemperature ch value).tap = s.tap ∧ (s.caseTemperature ch value).fresh = s.fresh := by
  unfold State.caseTemperature
  (repeat' split) <;> simp

@[simp] theorem frame_caseWritten (s : State) (value : Int) : (s.caseWritten value).pending = s.pending ∧
    (s.caseWritten value).deferred = s.deferred ∧ (s.caseWritten value).dev = s.dev ∧
    (s.caseWritten value).power = s.power ∧ (s.caseWritten value).clk = s.clk ∧
    (s.caseWritten value).fuses = s.fuses ∧ (s.caseWritten value).blobs = s.blobs ∧
    (s.caseWritten value).flash = s.flash ∧ (s.caseWritten value).recorder = s.recorder ∧
    (s.caseWritten value).auth = s.auth ∧ (s.caseWritten value).spi = s.spi ∧ (s.caseWritten value).ring = s.ring ∧
    (s.caseWritten value).job = s.job ∧ (s.caseWritten value).heads = s.heads ∧
    (s.caseWritten value).sieve = s.sieve ∧ (s.caseWritten value).engine = s.engine ∧
    (s.caseWritten value).time = s.time ∧ (s.caseWritten value).motion = s.motion ∧
    (s.caseWritten value).clocks = s.clocks ∧ (s.caseWritten value).thermal = s.thermal ∧
    (s.caseWritten value).images = s.images ∧ (s.caseWritten value).tap = s.tap ∧
    (s.caseWritten value).fresh = s.fresh := by
  unfold State.caseWritten
  (repeat' split) <;> simp

@[simp] theorem frame_caseSource (s : State) (value : Int) : (s.caseSource value).pending = s.pending ∧
    (s.caseSource value).deferred = s.deferred ∧ (s.caseSource value).dev = s.dev ∧
    (s.caseSource value).power = s.power ∧ (s.caseSource value).clk = s.clk ∧ (s.caseSource value).fuses = s.fuses ∧
    (s.caseSource value).blobs = s.blobs ∧ (s.caseSource value).flash = s.flash ∧
    (s.caseSource value).recorder = s.recorder ∧ (s.caseSource value).auth = s.auth ∧
    (s.caseSource value).spi = s.spi ∧ (s.caseSource value).ring = s.ring ∧ (s.caseSource value).job = s.job ∧
    (s.caseSource value).heads = s.heads ∧ (s.caseSource value).sieve = s.sieve ∧
    (s.caseSource value).engine = s.engine ∧ (s.caseSource value).time = s.time ∧
    (s.caseSource value).motion = s.motion ∧ (s.caseSource value).clocks = s.clocks ∧
    (s.caseSource value).thermal = s.thermal ∧ (s.caseSource value).images = s.images ∧
    (s.caseSource value).tap = s.tap ∧ (s.caseSource value).fresh = s.fresh := by
  unfold State.caseSource
  (repeat' split) <;> simp

@[simp] theorem frame_trainedNow (s : State) (ch : Nat) : (s.trainedNow ch).pending = s.pending ∧
    (s.trainedNow ch).deferred = s.deferred ∧ (s.trainedNow ch).dev = s.dev ∧ (s.trainedNow ch).power = s.power ∧
    (s.trainedNow ch).clk = s.clk ∧ (s.trainedNow ch).fuses = s.fuses ∧ (s.trainedNow ch).blobs = s.blobs ∧
    (s.trainedNow ch).flash = s.flash ∧ (s.trainedNow ch).leaves = s.leaves ∧
    (s.trainedNow ch).recorder = s.recorder ∧ (s.trainedNow ch).sessions = s.sessions ∧
    (s.trainedNow ch).auth = s.auth ∧ (s.trainedNow ch).spi = s.spi ∧ (s.trainedNow ch).ring = s.ring ∧
    (s.trainedNow ch).ownWaiting = s.ownWaiting ∧ (s.trainedNow ch).out = s.out ∧ (s.trainedNow ch).job = s.job ∧
    (s.trainedNow ch).heads = s.heads ∧ (s.trainedNow ch).sieve = s.sieve ∧ (s.trainedNow ch).engine = s.engine ∧
    (s.trainedNow ch).time = s.time ∧ (s.trainedNow ch).twin = s.twin ∧ (s.trainedNow ch).motion = s.motion ∧
    (s.trainedNow ch).clocks = s.clocks ∧ (s.trainedNow ch).thermal = s.thermal ∧
    (s.trainedNow ch).images = s.images ∧ (s.trainedNow ch).tap = s.tap := by
  unfold State.trainedNow
  (repeat' split) <;> simp

@[simp] theorem frame_rankFailed (s : State) (ch rank : Nat) : (s.rankFailed ch rank).pending = s.pending ∧
    (s.rankFailed ch rank).deferred = s.deferred ∧ (s.rankFailed ch rank).power = s.power ∧
    (s.rankFailed ch rank).clk = s.clk ∧ (s.rankFailed ch rank).fuses = s.fuses ∧
    (s.rankFailed ch rank).blobs = s.blobs ∧ (s.rankFailed ch rank).flash = s.flash ∧
    (s.rankFailed ch rank).auth = s.auth ∧ (s.rankFailed ch rank).spi = s.spi ∧ (s.rankFailed ch rank).ring = s.ring ∧
    (s.rankFailed ch rank).sieve = s.sieve ∧ (s.rankFailed ch rank).engine = s.engine ∧
    (s.rankFailed ch rank).time = s.time ∧ (s.rankFailed ch rank).clocks = s.clocks ∧
    (s.rankFailed ch rank).thermal = s.thermal ∧ (s.rankFailed ch rank).images = s.images ∧
    (s.rankFailed ch rank).tap = s.tap := by
  unfold State.rankFailed
  (repeat' split) <;> simp

@[simp] theorem frame_countItem (s : State) (h : HeadNo) (it : Item) (r : ItemRun) : (s.countItem h it r).pending = s.pending ∧
    (s.countItem h it r).deferred = s.deferred ∧ (s.countItem h it r).dev = s.dev ∧
    (s.countItem h it r).power = s.power ∧ (s.countItem h it r).clk = s.clk ∧ (s.countItem h it r).fuses = s.fuses ∧
    (s.countItem h it r).blobs = s.blobs ∧ (s.countItem h it r).flash = s.flash ∧
    (s.countItem h it r).recorder = s.recorder ∧ (s.countItem h it r).auth = s.auth ∧
    (s.countItem h it r).spi = s.spi ∧ (s.countItem h it r).ring = s.ring ∧ (s.countItem h it r).job = s.job ∧
    (s.countItem h it r).heads = s.heads ∧ (s.countItem h it r).sieve = s.sieve ∧
    (s.countItem h it r).engine = s.engine ∧ (s.countItem h it r).time = s.time ∧
    (s.countItem h it r).motion = s.motion ∧ (s.countItem h it r).dram = s.dram ∧
    (s.countItem h it r).clocks = s.clocks ∧ (s.countItem h it r).thermal = s.thermal ∧
    (s.countItem h it r).images = s.images ∧ (s.countItem h it r).tap = s.tap ∧
    (s.countItem h it r).fresh = s.fresh := by
  unfold State.countItem
  (repeat' split) <;> simp

@[simp] theorem frame_lateChecks (s : State) (h : HeadNo) (et : Tick) (n : Nat) : (s.lateChecks h et n).pending = s.pending ∧
    (s.lateChecks h et n).deferred = s.deferred ∧ (s.lateChecks h et n).dev = s.dev ∧
    (s.lateChecks h et n).power = s.power ∧ (s.lateChecks h et n).clk = s.clk ∧
    (s.lateChecks h et n).fuses = s.fuses ∧ (s.lateChecks h et n).blobs = s.blobs ∧
    (s.lateChecks h et n).flash = s.flash ∧ (s.lateChecks h et n).leaves = s.leaves ∧
    (s.lateChecks h et n).recorder = s.recorder ∧ (s.lateChecks h et n).sessions = s.sessions ∧
    (s.lateChecks h et n).auth = s.auth ∧ (s.lateChecks h et n).spi = s.spi ∧ (s.lateChecks h et n).ring = s.ring ∧
    (s.lateChecks h et n).ownWaiting = s.ownWaiting ∧ (s.lateChecks h et n).job = s.job ∧
    (s.lateChecks h et n).sieve = s.sieve ∧ (s.lateChecks h et n).engine = s.engine ∧
    (s.lateChecks h et n).time = s.time ∧ (s.lateChecks h et n).motion = s.motion ∧
    (s.lateChecks h et n).dram = s.dram ∧ (s.lateChecks h et n).clocks = s.clocks ∧
    (s.lateChecks h et n).thermal = s.thermal ∧ (s.lateChecks h et n).images = s.images ∧
    (s.lateChecks h et n).tap = s.tap ∧ (s.lateChecks h et n).fresh = s.fresh := by
  induction n generalizing s with
  | zero => simp [State.lateChecks]
  | succ n ih =>
    simp only [State.lateChecks]
    (repeat' split) <;> simp [ih]

@[simp] theorem frame_beginRun (s : State) (h : HeadNo) (g : Segment) (n : Nat) (it : Item) (r : ItemRun) (later : List ItemRun) (et : Tick) : (s.beginRun h g n it r later et).pending = s.pending ∧
    (s.beginRun h g n it r later et).deferred = s.deferred ∧ (s.beginRun h g n it r later et).dev = s.dev ∧
    (s.beginRun h g n it r later et).power = s.power ∧ (s.beginRun h g n it r later et).clk = s.clk ∧
    (s.beginRun h g n it r later et).fuses = s.fuses ∧ (s.beginRun h g n it r later et).blobs = s.blobs ∧
    (s.beginRun h g n it r later et).flash = s.flash ∧ (s.beginRun h g n it r later et).recorder = s.recorder ∧
    (s.beginRun h g n it r later et).auth = s.auth ∧ (s.beginRun h g n it r later et).spi = s.spi ∧
    (s.beginRun h g n it r later et).ring = s.ring ∧ (s.beginRun h g n it r later et).sieve = s.sieve ∧
    (s.beginRun h g n it r later et).engine = s.engine ∧ (s.beginRun h g n it r later et).time = s.time ∧
    (s.beginRun h g n it r later et).motion = s.motion ∧ (s.beginRun h g n it r later et).dram = s.dram ∧
    (s.beginRun h g n it r later et).clocks = s.clocks ∧ (s.beginRun h g n it r later et).thermal = s.thermal ∧
    (s.beginRun h g n it r later et).images = s.images ∧ (s.beginRun h g n it r later et).tap = s.tap ∧
    (s.beginRun h g n it r later et).fresh = s.fresh := by
  unfold State.beginRun
  (repeat' split) <;> simp

@[simp] theorem frame_beginItem (s : State) (h : HeadNo) (g : Segment) (n factor t0 : Nat) (it : Item) : (s.beginItem h g n factor t0 it).pending = s.pending ∧
    (s.beginItem h g n factor t0 it).deferred = s.deferred ∧ (s.beginItem h g n factor t0 it).dev = s.dev ∧
    (s.beginItem h g n factor t0 it).power = s.power ∧ (s.beginItem h g n factor t0 it).clk = s.clk ∧
    (s.beginItem h g n factor t0 it).fuses = s.fuses ∧ (s.beginItem h g n factor t0 it).blobs = s.blobs ∧
    (s.beginItem h g n factor t0 it).flash = s.flash ∧ (s.beginItem h g n factor t0 it).recorder = s.recorder ∧
    (s.beginItem h g n factor t0 it).auth = s.auth ∧ (s.beginItem h g n factor t0 it).spi = s.spi ∧
    (s.beginItem h g n factor t0 it).ring = s.ring ∧ (s.beginItem h g n factor t0 it).sieve = s.sieve ∧
    (s.beginItem h g n factor t0 it).engine = s.engine ∧ (s.beginItem h g n factor t0 it).time = s.time ∧
    (s.beginItem h g n factor t0 it).motion = s.motion ∧ (s.beginItem h g n factor t0 it).dram = s.dram ∧
    (s.beginItem h g n factor t0 it).clocks = s.clocks ∧ (s.beginItem h g n factor t0 it).thermal = s.thermal ∧
    (s.beginItem h g n factor t0 it).images = s.images ∧ (s.beginItem h g n factor t0 it).tap = s.tap ∧
    (s.beginItem h g n factor t0 it).fresh = s.fresh := by
  unfold State.beginItem
  (repeat' split) <;> simp

@[simp] theorem frame_finishPart (s : State) (h : HeadNo) (g : Segment) : (s.finishPart h g).pending = s.pending ∧
    (s.finishPart h g).deferred = s.deferred ∧ (s.finishPart h g).dev = s.dev ∧ (s.finishPart h g).power = s.power ∧
    (s.finishPart h g).clk = s.clk ∧ (s.finishPart h g).fuses = s.fuses ∧ (s.finishPart h g).regs = s.regs ∧
    (s.finishPart h g).blobs = s.blobs ∧ (s.finishPart h g).flash = s.flash ∧ (s.finishPart h g).leaves = s.leaves ∧
    (s.finishPart h g).recorder = s.recorder ∧ (s.finishPart h g).auth = s.auth ∧ (s.finishPart h g).spi = s.spi ∧
    (s.finishPart h g).ring = s.ring ∧ (s.finishPart h g).sieve = s.sieve ∧ (s.finishPart h g).engine = s.engine ∧
    (s.finishPart h g).time = s.time ∧ (s.finishPart h g).motion = s.motion ∧ (s.finishPart h g).dram = s.dram ∧
    (s.finishPart h g).clocks = s.clocks ∧ (s.finishPart h g).thermal = s.thermal ∧
    (s.finishPart h g).images = s.images ∧ (s.finishPart h g).tap = s.tap ∧ (s.finishPart h g).fresh = s.fresh := by
  unfold State.finishPart
  (repeat' split) <;> simp

@[simp] theorem frame_holdFor (s : State) (h : HeadNo) (r : HoldReason) : (s.holdFor h r).pending = s.pending ∧
    (s.holdFor h r).deferred = s.deferred ∧ (s.holdFor h r).dev = s.dev ∧ (s.holdFor h r).power = s.power ∧
    (s.holdFor h r).clk = s.clk ∧ (s.holdFor h r).fuses = s.fuses ∧ (s.holdFor h r).regs = s.regs ∧
    (s.holdFor h r).blobs = s.blobs ∧ (s.holdFor h r).flash = s.flash ∧ (s.holdFor h r).leaves = s.leaves ∧
    (s.holdFor h r).recorder = s.recorder ∧ (s.holdFor h r).sessions = s.sessions ∧ (s.holdFor h r).auth = s.auth ∧
    (s.holdFor h r).spi = s.spi ∧ (s.holdFor h r).ring = s.ring ∧ (s.holdFor h r).ownWaiting = s.ownWaiting ∧
    (s.holdFor h r).out = s.out ∧ (s.holdFor h r).job = s.job ∧ (s.holdFor h r).sieve = s.sieve ∧
    (s.holdFor h r).engine = s.engine ∧ (s.holdFor h r).time = s.time ∧ (s.holdFor h r).twin = s.twin ∧
    (s.holdFor h r).motion = s.motion ∧ (s.holdFor h r).dram = s.dram ∧ (s.holdFor h r).clocks = s.clocks ∧
    (s.holdFor h r).thermal = s.thermal ∧ (s.holdFor h r).images = s.images ∧ (s.holdFor h r).tap = s.tap ∧
    (s.holdFor h r).fresh = s.fresh := by
  unfold State.holdFor
  (repeat' split) <;> simp

@[simp] theorem frame_holdData (s : State) (h : HeadNo) (r : HoldReason) : (s.holdData h r).pending = s.pending ∧
    (s.holdData h r).deferred = s.deferred ∧ (s.holdData h r).dev = s.dev ∧ (s.holdData h r).power = s.power ∧
    (s.holdData h r).clk = s.clk ∧ (s.holdData h r).fuses = s.fuses ∧ (s.holdData h r).blobs = s.blobs ∧
    (s.holdData h r).flash = s.flash ∧ (s.holdData h r).recorder = s.recorder ∧ (s.holdData h r).auth = s.auth ∧
    (s.holdData h r).spi = s.spi ∧ (s.holdData h r).ring = s.ring ∧ (s.holdData h r).job = s.job ∧
    (s.holdData h r).sieve = s.sieve ∧ (s.holdData h r).engine = s.engine ∧ (s.holdData h r).time = s.time ∧
    (s.holdData h r).motion = s.motion ∧ (s.holdData h r).dram = s.dram ∧ (s.holdData h r).clocks = s.clocks ∧
    (s.holdData h r).thermal = s.thermal ∧ (s.holdData h r).images = s.images ∧ (s.holdData h r).tap = s.tap ∧
    (s.holdData h r).fresh = s.fresh := by
  unfold State.holdData
  (repeat' split) <;> simp

@[simp] theorem frame_beginMarking (s : State) (h : HeadNo) (g : Segment) (p : SegHead) (n t0 : Nat) (it : Item) : (s.beginMarking h g p n t0 it).pending = s.pending ∧
    (s.beginMarking h g p n t0 it).deferred = s.deferred ∧ (s.beginMarking h g p n t0 it).power = s.power ∧
    (s.beginMarking h g p n t0 it).clk = s.clk ∧ (s.beginMarking h g p n t0 it).fuses = s.fuses ∧
    (s.beginMarking h g p n t0 it).blobs = s.blobs ∧ (s.beginMarking h g p n t0 it).flash = s.flash ∧
    (s.beginMarking h g p n t0 it).auth = s.auth ∧ (s.beginMarking h g p n t0 it).spi = s.spi ∧
    (s.beginMarking h g p n t0 it).ring = s.ring ∧ (s.beginMarking h g p n t0 it).sieve = s.sieve ∧
    (s.beginMarking h g p n t0 it).engine = s.engine ∧ (s.beginMarking h g p n t0 it).time = s.time ∧
    (s.beginMarking h g p n t0 it).motion = s.motion ∧ (s.beginMarking h g p n t0 it).clocks = s.clocks ∧
    (s.beginMarking h g p n t0 it).thermal = s.thermal ∧ (s.beginMarking h g p n t0 it).images = s.images ∧
    (s.beginMarking h g p n t0 it).tap = s.tap ∧ (s.beginMarking h g p n t0 it).fresh = s.fresh := by
  unfold State.beginMarking
  (repeat' split) <;> simp

@[simp] theorem frame_advance (s : State) (h t0 n : Nat) : (s.advance h t0 n).pending = s.pending ∧
    (s.advance h t0 n).deferred = s.deferred ∧ (s.advance h t0 n).power = s.power ∧ (s.advance h t0 n).clk = s.clk ∧
    (s.advance h t0 n).fuses = s.fuses ∧ (s.advance h t0 n).blobs = s.blobs ∧ (s.advance h t0 n).flash = s.flash ∧
    (s.advance h t0 n).auth = s.auth ∧ (s.advance h t0 n).spi = s.spi ∧ (s.advance h t0 n).ring = s.ring ∧
    (s.advance h t0 n).sieve = s.sieve ∧ (s.advance h t0 n).engine = s.engine ∧ (s.advance h t0 n).time = s.time ∧
    (s.advance h t0 n).motion = s.motion ∧ (s.advance h t0 n).clocks = s.clocks ∧
    (s.advance h t0 n).thermal = s.thermal ∧ (s.advance h t0 n).images = s.images ∧ (s.advance h t0 n).tap = s.tap ∧
    (s.advance h t0 n).fresh = s.fresh := by
  induction n generalizing s with
  | zero => simp [State.advance]
  | succ n ih =>
    simp only [State.advance]
    (repeat' split) <;> simp [ih]

@[simp] theorem frame_goOn (s : State) (h : HeadNo) : (s.goOn h).pending = s.pending ∧
    (s.goOn h).deferred = s.deferred ∧ (s.goOn h).power = s.power ∧ (s.goOn h).clk = s.clk ∧
    (s.goOn h).fuses = s.fuses ∧ (s.goOn h).blobs = s.blobs ∧ (s.goOn h).flash = s.flash ∧ (s.goOn h).auth = s.auth ∧
    (s.goOn h).spi = s.spi ∧ (s.goOn h).ring = s.ring ∧ (s.goOn h).sieve = s.sieve ∧ (s.goOn h).engine = s.engine ∧
    (s.goOn h).time = s.time ∧ (s.goOn h).motion = s.motion ∧ (s.goOn h).clocks = s.clocks ∧
    (s.goOn h).thermal = s.thermal ∧ (s.goOn h).images = s.images ∧ (s.goOn h).tap = s.tap ∧
    (s.goOn h).fresh = s.fresh := by
  unfold State.goOn
  (repeat' split) <;> simp

@[simp] theorem frame_endItem (s : State) (h : HeadNo) : (s.endItem h).pending = s.pending ∧
    (s.endItem h).deferred = s.deferred ∧ (s.endItem h).dev = s.dev ∧ (s.endItem h).power = s.power ∧
    (s.endItem h).clk = s.clk ∧ (s.endItem h).fuses = s.fuses ∧ (s.endItem h).regs = s.regs ∧
    (s.endItem h).blobs = s.blobs ∧ (s.endItem h).flash = s.flash ∧ (s.endItem h).leaves = s.leaves ∧
    (s.endItem h).recorder = s.recorder ∧ (s.endItem h).sessions = s.sessions ∧ (s.endItem h).auth = s.auth ∧
    (s.endItem h).spi = s.spi ∧ (s.endItem h).ring = s.ring ∧ (s.endItem h).ownWaiting = s.ownWaiting ∧
    (s.endItem h).out = s.out ∧ (s.endItem h).job = s.job ∧ (s.endItem h).sieve = s.sieve ∧
    (s.endItem h).engine = s.engine ∧ (s.endItem h).time = s.time ∧ (s.endItem h).twin = s.twin ∧
    (s.endItem h).motion = s.motion ∧ (s.endItem h).dram = s.dram ∧ (s.endItem h).clocks = s.clocks ∧
    (s.endItem h).thermal = s.thermal ∧ (s.endItem h).images = s.images ∧ (s.endItem h).tap = s.tap ∧
    (s.endItem h).fresh = s.fresh := by
  unfold State.endItem
  (repeat' split) <;> simp

@[simp] theorem frame_completeItem (s : State) (h : HeadNo) : (s.completeItem h).pending = s.pending ∧
    (s.completeItem h).deferred = s.deferred ∧ (s.completeItem h).power = s.power ∧ (s.completeItem h).clk = s.clk ∧
    (s.completeItem h).fuses = s.fuses ∧ (s.completeItem h).blobs = s.blobs ∧ (s.completeItem h).flash = s.flash ∧
    (s.completeItem h).auth = s.auth ∧ (s.completeItem h).spi = s.spi ∧ (s.completeItem h).ring = s.ring ∧
    (s.completeItem h).sieve = s.sieve ∧ (s.completeItem h).engine = s.engine ∧ (s.completeItem h).time = s.time ∧
    (s.completeItem h).motion = s.motion ∧ (s.completeItem h).clocks = s.clocks ∧
    (s.completeItem h).thermal = s.thermal ∧ (s.completeItem h).images = s.images ∧ (s.completeItem h).tap = s.tap ∧
    (s.completeItem h).fresh = s.fresh := by
  unfold State.completeItem
  dsimp only
  (repeat' split) <;> simp

@[simp] theorem frame_orderFactor (s : State) (h : HeadNo) (g : Segment) (n : Nat) (it : Item) (at_ : Pos) (b : Tick) : (s.orderFactor h g n it at_ b).pending = s.pending ∧
    (s.orderFactor h g n it at_ b).deferred = s.deferred ∧ (s.orderFactor h g n it at_ b).dev = s.dev ∧
    (s.orderFactor h g n it at_ b).power = s.power ∧ (s.orderFactor h g n it at_ b).clk = s.clk ∧
    (s.orderFactor h g n it at_ b).fuses = s.fuses ∧ (s.orderFactor h g n it at_ b).regs = s.regs ∧
    (s.orderFactor h g n it at_ b).blobs = s.blobs ∧ (s.orderFactor h g n it at_ b).flash = s.flash ∧
    (s.orderFactor h g n it at_ b).leaves = s.leaves ∧ (s.orderFactor h g n it at_ b).recorder = s.recorder ∧
    (s.orderFactor h g n it at_ b).sessions = s.sessions ∧ (s.orderFactor h g n it at_ b).auth = s.auth ∧
    (s.orderFactor h g n it at_ b).spi = s.spi ∧ (s.orderFactor h g n it at_ b).ring = s.ring ∧
    (s.orderFactor h g n it at_ b).ownWaiting = s.ownWaiting ∧ (s.orderFactor h g n it at_ b).job = s.job ∧
    (s.orderFactor h g n it at_ b).heads = s.heads ∧ (s.orderFactor h g n it at_ b).sieve = s.sieve ∧
    (s.orderFactor h g n it at_ b).engine = s.engine ∧ (s.orderFactor h g n it at_ b).time = s.time ∧
    (s.orderFactor h g n it at_ b).motion = s.motion ∧ (s.orderFactor h g n it at_ b).dram = s.dram ∧
    (s.orderFactor h g n it at_ b).clocks = s.clocks ∧ (s.orderFactor h g n it at_ b).thermal = s.thermal ∧
    (s.orderFactor h g n it at_ b).images = s.images ∧ (s.orderFactor h g n it at_ b).tap = s.tap ∧
    (s.orderFactor h g n it at_ b).fresh = s.fresh := by
  unfold State.orderFactor
  (repeat' split) <;> simp

@[simp] theorem frame_planNext (s : State) (h : HeadNo) (horizon : Tick) : (s.planNext h horizon).pending = s.pending ∧
    (s.planNext h horizon).deferred = s.deferred ∧ (s.planNext h horizon).dev = s.dev ∧
    (s.planNext h horizon).power = s.power ∧ (s.planNext h horizon).clk = s.clk ∧
    (s.planNext h horizon).fuses = s.fuses ∧ (s.planNext h horizon).regs = s.regs ∧
    (s.planNext h horizon).blobs = s.blobs ∧ (s.planNext h horizon).flash = s.flash ∧
    (s.planNext h horizon).leaves = s.leaves ∧ (s.planNext h horizon).recorder = s.recorder ∧
    (s.planNext h horizon).sessions = s.sessions ∧ (s.planNext h horizon).auth = s.auth ∧
    (s.planNext h horizon).spi = s.spi ∧ (s.planNext h horizon).ring = s.ring ∧
    (s.planNext h horizon).ownWaiting = s.ownWaiting ∧ (s.planNext h horizon).job = s.job ∧
    (s.planNext h horizon).sieve = s.sieve ∧ (s.planNext h horizon).engine = s.engine ∧
    (s.planNext h horizon).time = s.time ∧ (s.planNext h horizon).motion = s.motion ∧
    (s.planNext h horizon).dram = s.dram ∧ (s.planNext h horizon).clocks = s.clocks ∧
    (s.planNext h horizon).thermal = s.thermal ∧ (s.planNext h horizon).images = s.images ∧
    (s.planNext h horizon).tap = s.tap ∧ (s.planNext h horizon).fresh = s.fresh := by
  unfold State.planNext
  dsimp only
  (repeat' split) <;> simp

@[simp] theorem frame_planItems (s : State) (h : HeadNo) (horizon : Tick) (n : Nat) : (s.planItems h horizon n).pending = s.pending ∧
    (s.planItems h horizon n).deferred = s.deferred ∧ (s.planItems h horizon n).dev = s.dev ∧
    (s.planItems h horizon n).power = s.power ∧ (s.planItems h horizon n).clk = s.clk ∧
    (s.planItems h horizon n).fuses = s.fuses ∧ (s.planItems h horizon n).regs = s.regs ∧
    (s.planItems h horizon n).blobs = s.blobs ∧ (s.planItems h horizon n).flash = s.flash ∧
    (s.planItems h horizon n).leaves = s.leaves ∧ (s.planItems h horizon n).recorder = s.recorder ∧
    (s.planItems h horizon n).sessions = s.sessions ∧ (s.planItems h horizon n).auth = s.auth ∧
    (s.planItems h horizon n).spi = s.spi ∧ (s.planItems h horizon n).ring = s.ring ∧
    (s.planItems h horizon n).ownWaiting = s.ownWaiting ∧ (s.planItems h horizon n).job = s.job ∧
    (s.planItems h horizon n).sieve = s.sieve ∧ (s.planItems h horizon n).engine = s.engine ∧
    (s.planItems h horizon n).time = s.time ∧ (s.planItems h horizon n).motion = s.motion ∧
    (s.planItems h horizon n).dram = s.dram ∧ (s.planItems h horizon n).clocks = s.clocks ∧
    (s.planItems h horizon n).thermal = s.thermal ∧ (s.planItems h horizon n).images = s.images ∧
    (s.planItems h horizon n).tap = s.tap ∧ (s.planItems h horizon n).fresh = s.fresh := by
  induction n generalizing s with
  | zero => simp [State.planItems]
  | succ n ih =>
    simp only [State.planItems]
    (repeat' split) <;> simp [ih]

@[simp] theorem frame_planAhead (s : State) (h : HeadNo) (horizon : Tick) : (s.planAhead h horizon).pending = s.pending ∧
    (s.planAhead h horizon).deferred = s.deferred ∧ (s.planAhead h horizon).dev = s.dev ∧
    (s.planAhead h horizon).power = s.power ∧ (s.planAhead h horizon).clk = s.clk ∧
    (s.planAhead h horizon).fuses = s.fuses ∧ (s.planAhead h horizon).regs = s.regs ∧
    (s.planAhead h horizon).blobs = s.blobs ∧ (s.planAhead h horizon).flash = s.flash ∧
    (s.planAhead h horizon).leaves = s.leaves ∧ (s.planAhead h horizon).recorder = s.recorder ∧
    (s.planAhead h horizon).sessions = s.sessions ∧ (s.planAhead h horizon).auth = s.auth ∧
    (s.planAhead h horizon).spi = s.spi ∧ (s.planAhead h horizon).ring = s.ring ∧
    (s.planAhead h horizon).ownWaiting = s.ownWaiting ∧ (s.planAhead h horizon).job = s.job ∧
    (s.planAhead h horizon).sieve = s.sieve ∧ (s.planAhead h horizon).engine = s.engine ∧
    (s.planAhead h horizon).time = s.time ∧ (s.planAhead h horizon).motion = s.motion ∧
    (s.planAhead h horizon).dram = s.dram ∧ (s.planAhead h horizon).clocks = s.clocks ∧
    (s.planAhead h horizon).thermal = s.thermal ∧ (s.planAhead h horizon).images = s.images ∧
    (s.planAhead h horizon).tap = s.tap ∧ (s.planAhead h horizon).fresh = s.fresh := by
  unfold State.planAhead
  (repeat' split) <;> simp

@[simp] theorem frame_withholdPass (s : State) (h : HeadNo) (r : ItemRun) (k : Nat) : (s.withholdPass h r k).pending = s.pending ∧
    (s.withholdPass h r k).deferred = s.deferred ∧ (s.withholdPass h r k).power = s.power ∧
    (s.withholdPass h r k).clk = s.clk ∧ (s.withholdPass h r k).fuses = s.fuses ∧
    (s.withholdPass h r k).blobs = s.blobs ∧ (s.withholdPass h r k).flash = s.flash ∧
    (s.withholdPass h r k).auth = s.auth ∧ (s.withholdPass h r k).spi = s.spi ∧ (s.withholdPass h r k).ring = s.ring ∧
    (s.withholdPass h r k).sieve = s.sieve ∧ (s.withholdPass h r k).engine = s.engine ∧
    (s.withholdPass h r k).time = s.time ∧ (s.withholdPass h r k).motion = s.motion ∧
    (s.withholdPass h r k).clocks = s.clocks ∧ (s.withholdPass h r k).thermal = s.thermal ∧
    (s.withholdPass h r k).images = s.images ∧ (s.withholdPass h r k).tap = s.tap ∧
    (s.withholdPass h r k).fresh = s.fresh := by
  unfold State.withholdPass
  (repeat' split) <;> simp

@[simp] theorem frame_writeEdge (s : State) (h b : Nat) : (s.writeEdge h b).pending = s.pending ∧
    (s.writeEdge h b).deferred = s.deferred ∧ (s.writeEdge h b).power = s.power ∧ (s.writeEdge h b).clk = s.clk ∧
    (s.writeEdge h b).fuses = s.fuses ∧ (s.writeEdge h b).blobs = s.blobs ∧ (s.writeEdge h b).flash = s.flash ∧
    (s.writeEdge h b).auth = s.auth ∧ (s.writeEdge h b).spi = s.spi ∧ (s.writeEdge h b).ring = s.ring ∧
    (s.writeEdge h b).sieve = s.sieve ∧ (s.writeEdge h b).engine = s.engine ∧ (s.writeEdge h b).time = s.time ∧
    (s.writeEdge h b).motion = s.motion ∧ (s.writeEdge h b).clocks = s.clocks ∧
    (s.writeEdge h b).thermal = s.thermal ∧ (s.writeEdge h b).images = s.images ∧ (s.writeEdge h b).tap = s.tap ∧
    (s.writeEdge h b).fresh = s.fresh := by
  unfold State.writeEdge
  dsimp only
  (repeat' split) <;> simp

@[simp] theorem frame_writeEdges (s : State) (h b : Nat) (et : Tick) (n : Nat) : (s.writeEdges h b et n).pending = s.pending ∧
    (s.writeEdges h b et n).deferred = s.deferred ∧ (s.writeEdges h b et n).power = s.power ∧
    (s.writeEdges h b et n).clk = s.clk ∧ (s.writeEdges h b et n).fuses = s.fuses ∧
    (s.writeEdges h b et n).blobs = s.blobs ∧ (s.writeEdges h b et n).flash = s.flash ∧
    (s.writeEdges h b et n).auth = s.auth ∧ (s.writeEdges h b et n).spi = s.spi ∧
    (s.writeEdges h b et n).ring = s.ring ∧ (s.writeEdges h b et n).sieve = s.sieve ∧
    (s.writeEdges h b et n).engine = s.engine ∧ (s.writeEdges h b et n).time = s.time ∧
    (s.writeEdges h b et n).motion = s.motion ∧ (s.writeEdges h b et n).clocks = s.clocks ∧
    (s.writeEdges h b et n).thermal = s.thermal ∧ (s.writeEdges h b et n).images = s.images ∧
    (s.writeEdges h b et n).tap = s.tap ∧ (s.writeEdges h b et n).fresh = s.fresh := by
  induction n generalizing s with
  | zero => simp [State.writeEdges]
  | succ n ih =>
    simp only [State.writeEdges]
    (repeat' split) <;> simp [ih]

@[simp] theorem frame_park (s : State) (h : HeadNo) : (s.park h).pending = s.pending ∧
    (s.park h).deferred = s.deferred ∧ (s.park h).dev = s.dev ∧ (s.park h).power = s.power ∧ (s.park h).clk = s.clk ∧
    (s.park h).fuses = s.fuses ∧ (s.park h).regs = s.regs ∧ (s.park h).blobs = s.blobs ∧ (s.park h).flash = s.flash ∧
    (s.park h).leaves = s.leaves ∧ (s.park h).recorder = s.recorder ∧ (s.park h).sessions = s.sessions ∧
    (s.park h).auth = s.auth ∧ (s.park h).spi = s.spi ∧ (s.park h).ring = s.ring ∧
    (s.park h).ownWaiting = s.ownWaiting ∧ (s.park h).out = s.out ∧ (s.park h).job = s.job ∧
    (s.park h).sieve = s.sieve ∧ (s.park h).engine = s.engine ∧ (s.park h).time = s.time ∧ (s.park h).twin = s.twin ∧
    (s.park h).motion = s.motion ∧ (s.park h).dram = s.dram ∧ (s.park h).clocks = s.clocks ∧
    (s.park h).thermal = s.thermal ∧ (s.park h).images = s.images ∧ (s.park h).tap = s.tap ∧
    (s.park h).fresh = s.fresh := by
  unfold State.park
  (repeat' split) <;> simp

@[simp] theorem frame_formGroup (s : State) (h : HeadNo) (k : Nat) : (s.formGroup h k).pending = s.pending ∧
    (s.formGroup h k).deferred = s.deferred ∧ (s.formGroup h k).dev = s.dev ∧ (s.formGroup h k).power = s.power ∧
    (s.formGroup h k).clk = s.clk ∧ (s.formGroup h k).fuses = s.fuses ∧ (s.formGroup h k).blobs = s.blobs ∧
    (s.formGroup h k).flash = s.flash ∧ (s.formGroup h k).recorder = s.recorder ∧ (s.formGroup h k).auth = s.auth ∧
    (s.formGroup h k).spi = s.spi ∧ (s.formGroup h k).ring = s.ring ∧ (s.formGroup h k).sieve = s.sieve ∧
    (s.formGroup h k).engine = s.engine ∧ (s.formGroup h k).time = s.time ∧ (s.formGroup h k).motion = s.motion ∧
    (s.formGroup h k).dram = s.dram ∧ (s.formGroup h k).clocks = s.clocks ∧ (s.formGroup h k).thermal = s.thermal ∧
    (s.formGroup h k).images = s.images ∧ (s.formGroup h k).tap = s.tap ∧ (s.formGroup h k).fresh = s.fresh := by
  unfold State.formGroup
  dsimp only
  (repeat' split) <;> simp

@[simp] theorem frame_bookFrame (s : State) (h : HeadNo) (spans : List BeamSpan) (on : Bool) (corr : List (Int × Nat)) : (s.bookFrame h spans on corr).pending = s.pending ∧
    (s.bookFrame h spans on corr).deferred = s.deferred ∧ (s.bookFrame h spans on corr).dev = s.dev ∧
    (s.bookFrame h spans on corr).power = s.power ∧ (s.bookFrame h spans on corr).clk = s.clk ∧
    (s.bookFrame h spans on corr).fuses = s.fuses ∧ (s.bookFrame h spans on corr).regs = s.regs ∧
    (s.bookFrame h spans on corr).blobs = s.blobs ∧ (s.bookFrame h spans on corr).flash = s.flash ∧
    (s.bookFrame h spans on corr).leaves = s.leaves ∧ (s.bookFrame h spans on corr).recorder = s.recorder ∧
    (s.bookFrame h spans on corr).sessions = s.sessions ∧ (s.bookFrame h spans on corr).auth = s.auth ∧
    (s.bookFrame h spans on corr).spi = s.spi ∧ (s.bookFrame h spans on corr).ring = s.ring ∧
    (s.bookFrame h spans on corr).ownWaiting = s.ownWaiting ∧ (s.bookFrame h spans on corr).out = s.out ∧
    (s.bookFrame h spans on corr).heads = s.heads ∧ (s.bookFrame h spans on corr).sieve = s.sieve ∧
    (s.bookFrame h spans on corr).engine = s.engine ∧ (s.bookFrame h spans on corr).time = s.time ∧
    (s.bookFrame h spans on corr).twin = s.twin ∧ (s.bookFrame h spans on corr).motion = s.motion ∧
    (s.bookFrame h spans on corr).dram = s.dram ∧ (s.bookFrame h spans on corr).clocks = s.clocks ∧
    (s.bookFrame h spans on corr).thermal = s.thermal ∧ (s.bookFrame h spans on corr).images = s.images ∧
    (s.bookFrame h spans on corr).tap = s.tap ∧ (s.bookFrame h spans on corr).fresh = s.fresh := by
  unfold State.bookFrame
  (repeat' split) <;> simp

@[simp] theorem frame_endCuts (s : State) (h : HeadNo) : (s.endCuts h).pending = s.pending ∧
    (s.endCuts h).deferred = s.deferred ∧ (s.endCuts h).dev = s.dev ∧ (s.endCuts h).power = s.power ∧
    (s.endCuts h).clk = s.clk ∧ (s.endCuts h).fuses = s.fuses ∧ (s.endCuts h).blobs = s.blobs ∧
    (s.endCuts h).flash = s.flash ∧ (s.endCuts h).leaves = s.leaves ∧ (s.endCuts h).recorder = s.recorder ∧
    (s.endCuts h).auth = s.auth ∧ (s.endCuts h).spi = s.spi ∧ (s.endCuts h).ring = s.ring ∧
    (s.endCuts h).sieve = s.sieve ∧ (s.endCuts h).engine = s.engine ∧ (s.endCuts h).time = s.time ∧
    (s.endCuts h).motion = s.motion ∧ (s.endCuts h).clocks = s.clocks ∧ (s.endCuts h).thermal = s.thermal ∧
    (s.endCuts h).images = s.images ∧ (s.endCuts h).tap = s.tap ∧ (s.endCuts h).fresh = s.fresh := by
  unfold State.endCuts
  (repeat' split) <;> simp

@[simp] theorem frame_stretchesBegin (s : State) (h : HeadNo) (start : Tick) : (s.stretchesBegin h start).pending = s.pending ∧
    (s.stretchesBegin h start).deferred = s.deferred ∧ (s.stretchesBegin h start).dev = s.dev ∧
    (s.stretchesBegin h start).power = s.power ∧ (s.stretchesBegin h start).clk = s.clk ∧
    (s.stretchesBegin h start).fuses = s.fuses ∧ (s.stretchesBegin h start).blobs = s.blobs ∧
    (s.stretchesBegin h start).flash = s.flash ∧ (s.stretchesBegin h start).leaves = s.leaves ∧
    (s.stretchesBegin h start).recorder = s.recorder ∧ (s.stretchesBegin h start).sessions = s.sessions ∧
    (s.stretchesBegin h start).auth = s.auth ∧ (s.stretchesBegin h start).spi = s.spi ∧
    (s.stretchesBegin h start).ring = s.ring ∧ (s.stretchesBegin h start).ownWaiting = s.ownWaiting ∧
    (s.stretchesBegin h start).out = s.out ∧ (s.stretchesBegin h start).job = s.job ∧
    (s.stretchesBegin h start).sieve = s.sieve ∧ (s.stretchesBegin h start).engine = s.engine ∧
    (s.stretchesBegin h start).time = s.time ∧ (s.stretchesBegin h start).twin = s.twin ∧
    (s.stretchesBegin h start).motion = s.motion ∧ (s.stretchesBegin h start).dram = s.dram ∧
    (s.stretchesBegin h start).clocks = s.clocks ∧ (s.stretchesBegin h start).thermal = s.thermal ∧
    (s.stretchesBegin h start).images = s.images ∧ (s.stretchesBegin h start).tap = s.tap ∧
    (s.stretchesBegin h start).fresh = s.fresh := by
  unfold State.stretchesBegin
  (repeat' split) <;> simp

@[simp] theorem frame_defineTrain (s : State) (h : HeadNo) (start : Tick) : (s.defineTrain h start).pending = s.pending ∧
    (s.defineTrain h start).deferred = s.deferred ∧ (s.defineTrain h start).dev = s.dev ∧
    (s.defineTrain h start).power = s.power ∧ (s.defineTrain h start).clk = s.clk ∧
    (s.defineTrain h start).fuses = s.fuses ∧ (s.defineTrain h start).regs = s.regs ∧
    (s.defineTrain h start).blobs = s.blobs ∧ (s.defineTrain h start).flash = s.flash ∧
    (s.defineTrain h start).leaves = s.leaves ∧ (s.defineTrain h start).recorder = s.recorder ∧
    (s.defineTrain h start).sessions = s.sessions ∧ (s.defineTrain h start).auth = s.auth ∧
    (s.defineTrain h start).spi = s.spi ∧ (s.defineTrain h start).ring = s.ring ∧
    (s.defineTrain h start).ownWaiting = s.ownWaiting ∧ (s.defineTrain h start).out = s.out ∧
    (s.defineTrain h start).job = s.job ∧ (s.defineTrain h start).sieve = s.sieve ∧
    (s.defineTrain h start).engine = s.engine ∧ (s.defineTrain h start).time = s.time ∧
    (s.defineTrain h start).twin = s.twin ∧ (s.defineTrain h start).motion = s.motion ∧
    (s.defineTrain h start).dram = s.dram ∧ (s.defineTrain h start).clocks = s.clocks ∧
    (s.defineTrain h start).thermal = s.thermal ∧ (s.defineTrain h start).images = s.images ∧
    (s.defineTrain h start).tap = s.tap ∧ (s.defineTrain h start).fresh = s.fresh := by
  unfold State.defineTrain
  dsimp only
  (repeat' split) <;> simp

@[simp] theorem frame_sendFrame (s : State) (h : HeadNo) (f : Nat) (on : Bool) (corr : List (Int × Nat)) : (s.sendFrame h f on corr).pending = s.pending ∧
    (s.sendFrame h f on corr).deferred = s.deferred ∧ (s.sendFrame h f on corr).dev = s.dev ∧
    (s.sendFrame h f on corr).power = s.power ∧ (s.sendFrame h f on corr).clk = s.clk ∧
    (s.sendFrame h f on corr).fuses = s.fuses ∧ (s.sendFrame h f on corr).regs = s.regs ∧
    (s.sendFrame h f on corr).blobs = s.blobs ∧ (s.sendFrame h f on corr).flash = s.flash ∧
    (s.sendFrame h f on corr).leaves = s.leaves ∧ (s.sendFrame h f on corr).recorder = s.recorder ∧
    (s.sendFrame h f on corr).sessions = s.sessions ∧ (s.sendFrame h f on corr).auth = s.auth ∧
    (s.sendFrame h f on corr).spi = s.spi ∧ (s.sendFrame h f on corr).ring = s.ring ∧
    (s.sendFrame h f on corr).ownWaiting = s.ownWaiting ∧ (s.sendFrame h f on corr).job = s.job ∧
    (s.sendFrame h f on corr).sieve = s.sieve ∧ (s.sendFrame h f on corr).engine = s.engine ∧
    (s.sendFrame h f on corr).time = s.time ∧ (s.sendFrame h f on corr).twin = s.twin ∧
    (s.sendFrame h f on corr).motion = s.motion ∧ (s.sendFrame h f on corr).dram = s.dram ∧
    (s.sendFrame h f on corr).clocks = s.clocks ∧ (s.sendFrame h f on corr).thermal = s.thermal ∧
    (s.sendFrame h f on corr).images = s.images ∧ (s.sendFrame h f on corr).tap = s.tap ∧
    (s.sendFrame h f on corr).fresh = s.fresh := by
  unfold State.sendFrame
  (repeat' split) <;> simp

@[simp] theorem frame_keepSlot (s : State) (h : HeadNo) (f : Nat) (spans : List BeamSpan) (on : Bool) (corr : List (Int × Nat)) : (s.keepSlot h f spans on corr).pending = s.pending ∧
    (s.keepSlot h f spans on corr).deferred = s.deferred ∧ (s.keepSlot h f spans on corr).dev = s.dev ∧
    (s.keepSlot h f spans on corr).power = s.power ∧ (s.keepSlot h f spans on corr).clk = s.clk ∧
    (s.keepSlot h f spans on corr).fuses = s.fuses ∧ (s.keepSlot h f spans on corr).regs = s.regs ∧
    (s.keepSlot h f spans on corr).blobs = s.blobs ∧ (s.keepSlot h f spans on corr).flash = s.flash ∧
    (s.keepSlot h f spans on corr).leaves = s.leaves ∧ (s.keepSlot h f spans on corr).recorder = s.recorder ∧
    (s.keepSlot h f spans on corr).sessions = s.sessions ∧ (s.keepSlot h f spans on corr).auth = s.auth ∧
    (s.keepSlot h f spans on corr).spi = s.spi ∧ (s.keepSlot h f spans on corr).ring = s.ring ∧
    (s.keepSlot h f spans on corr).ownWaiting = s.ownWaiting ∧ (s.keepSlot h f spans on corr).out = s.out ∧
    (s.keepSlot h f spans on corr).job = s.job ∧ (s.keepSlot h f spans on corr).sieve = s.sieve ∧
    (s.keepSlot h f spans on corr).engine = s.engine ∧ (s.keepSlot h f spans on corr).time = s.time ∧
    (s.keepSlot h f spans on corr).twin = s.twin ∧ (s.keepSlot h f spans on corr).motion = s.motion ∧
    (s.keepSlot h f spans on corr).dram = s.dram ∧ (s.keepSlot h f spans on corr).clocks = s.clocks ∧
    (s.keepSlot h f spans on corr).thermal = s.thermal ∧ (s.keepSlot h f spans on corr).images = s.images ∧
    (s.keepSlot h f spans on corr).tap = s.tap ∧ (s.keepSlot h f spans on corr).fresh = s.fresh := by
  unfold State.keepSlot
  (repeat' split) <;> simp

@[simp] theorem frame_completeCommit (s : State) (h : HeadNo) (f : Nat) : (s.completeCommit h f).pending = s.pending ∧
    (s.completeCommit h f).deferred = s.deferred ∧ (s.completeCommit h f).dev = s.dev ∧
    (s.completeCommit h f).power = s.power ∧ (s.completeCommit h f).clk = s.clk ∧
    (s.completeCommit h f).fuses = s.fuses ∧ (s.completeCommit h f).regs = s.regs ∧
    (s.completeCommit h f).blobs = s.blobs ∧ (s.completeCommit h f).flash = s.flash ∧
    (s.completeCommit h f).leaves = s.leaves ∧ (s.completeCommit h f).recorder = s.recorder ∧
    (s.completeCommit h f).sessions = s.sessions ∧ (s.completeCommit h f).auth = s.auth ∧
    (s.completeCommit h f).spi = s.spi ∧ (s.completeCommit h f).ring = s.ring ∧
    (s.completeCommit h f).ownWaiting = s.ownWaiting ∧ (s.completeCommit h f).out = s.out ∧
    (s.completeCommit h f).job = s.job ∧ (s.completeCommit h f).sieve = s.sieve ∧
    (s.completeCommit h f).engine = s.engine ∧ (s.completeCommit h f).time = s.time ∧
    (s.completeCommit h f).twin = s.twin ∧ (s.completeCommit h f).motion = s.motion ∧
    (s.completeCommit h f).dram = s.dram ∧ (s.completeCommit h f).clocks = s.clocks ∧
    (s.completeCommit h f).thermal = s.thermal ∧ (s.completeCommit h f).images = s.images ∧
    (s.completeCommit h f).tap = s.tap ∧ (s.completeCommit h f).fresh = s.fresh := by
  unfold State.completeCommit
  (repeat' split) <;> simp

@[simp] theorem frame_prepareFrame (s : State) (h : HeadNo) (f : Nat) : (s.prepareFrame h f).pending = s.pending ∧
    (s.prepareFrame h f).deferred = s.deferred ∧ (s.prepareFrame h f).power = s.power ∧
    (s.prepareFrame h f).clk = s.clk ∧ (s.prepareFrame h f).fuses = s.fuses ∧ (s.prepareFrame h f).blobs = s.blobs ∧
    (s.prepareFrame h f).flash = s.flash ∧ (s.prepareFrame h f).auth = s.auth ∧ (s.prepareFrame h f).spi = s.spi ∧
    (s.prepareFrame h f).ring = s.ring ∧ (s.prepareFrame h f).sieve = s.sieve ∧
    (s.prepareFrame h f).engine = s.engine ∧ (s.prepareFrame h f).time = s.time ∧
    (s.prepareFrame h f).motion = s.motion ∧ (s.prepareFrame h f).clocks = s.clocks ∧
    (s.prepareFrame h f).thermal = s.thermal ∧ (s.prepareFrame h f).images = s.images ∧
    (s.prepareFrame h f).tap = s.tap ∧ (s.prepareFrame h f).fresh = s.fresh := by
  unfold State.prepareFrame
  (repeat' split) <;> simp

@[simp] theorem frame_withholdUnlinked (s : State) (h : HeadNo) (start : Tick) : (s.withholdUnlinked h start).pending = s.pending ∧
    (s.withholdUnlinked h start).deferred = s.deferred ∧ (s.withholdUnlinked h start).dev = s.dev ∧
    (s.withholdUnlinked h start).power = s.power ∧ (s.withholdUnlinked h start).clk = s.clk ∧
    (s.withholdUnlinked h start).fuses = s.fuses ∧ (s.withholdUnlinked h start).blobs = s.blobs ∧
    (s.withholdUnlinked h start).flash = s.flash ∧ (s.withholdUnlinked h start).auth = s.auth ∧
    (s.withholdUnlinked h start).spi = s.spi ∧ (s.withholdUnlinked h start).ring = s.ring ∧
    (s.withholdUnlinked h start).sieve = s.sieve ∧ (s.withholdUnlinked h start).engine = s.engine ∧
    (s.withholdUnlinked h start).time = s.time ∧ (s.withholdUnlinked h start).motion = s.motion ∧
    (s.withholdUnlinked h start).clocks = s.clocks ∧ (s.withholdUnlinked h start).thermal = s.thermal ∧
    (s.withholdUnlinked h start).images = s.images ∧ (s.withholdUnlinked h start).tap = s.tap ∧
    (s.withholdUnlinked h start).fresh = s.fresh := by
  unfold State.withholdUnlinked
  (repeat' split) <;> simp

@[simp] theorem frame_assemble (s : State) (h : HeadNo) (f : Nat) : (s.assemble h f).pending = s.pending ∧
    (s.assemble h f).deferred = s.deferred ∧ (s.assemble h f).power = s.power ∧ (s.assemble h f).clk = s.clk ∧
    (s.assemble h f).fuses = s.fuses ∧ (s.assemble h f).blobs = s.blobs ∧ (s.assemble h f).flash = s.flash ∧
    (s.assemble h f).auth = s.auth ∧ (s.assemble h f).spi = s.spi ∧ (s.assemble h f).ring = s.ring ∧
    (s.assemble h f).sieve = s.sieve ∧ (s.assemble h f).engine = s.engine ∧ (s.assemble h f).time = s.time ∧
    (s.assemble h f).motion = s.motion ∧ (s.assemble h f).clocks = s.clocks ∧ (s.assemble h f).thermal = s.thermal ∧
    (s.assemble h f).images = s.images ∧ (s.assemble h f).tap = s.tap := by
  unfold State.assemble
  (repeat' split) <;> simp

@[simp] theorem frame_onChan (s : State) (h : HeadNo) (b : Nat) (f : Channel → Channel) : (s.onChan h b f).pending = s.pending ∧
    (s.onChan h b f).deferred = s.deferred ∧ (s.onChan h b f).dev = s.dev ∧ (s.onChan h b f).power = s.power ∧
    (s.onChan h b f).clk = s.clk ∧ (s.onChan h b f).fuses = s.fuses ∧ (s.onChan h b f).regs = s.regs ∧
    (s.onChan h b f).blobs = s.blobs ∧ (s.onChan h b f).flash = s.flash ∧ (s.onChan h b f).leaves = s.leaves ∧
    (s.onChan h b f).recorder = s.recorder ∧ (s.onChan h b f).sessions = s.sessions ∧ (s.onChan h b f).auth = s.auth ∧
    (s.onChan h b f).spi = s.spi ∧ (s.onChan h b f).ring = s.ring ∧ (s.onChan h b f).ownWaiting = s.ownWaiting ∧
    (s.onChan h b f).out = s.out ∧ (s.onChan h b f).job = s.job ∧ (s.onChan h b f).sieve = s.sieve ∧
    (s.onChan h b f).engine = s.engine ∧ (s.onChan h b f).time = s.time ∧ (s.onChan h b f).twin = s.twin ∧
    (s.onChan h b f).motion = s.motion ∧ (s.onChan h b f).dram = s.dram ∧ (s.onChan h b f).clocks = s.clocks ∧
    (s.onChan h b f).thermal = s.thermal ∧ (s.onChan h b f).images = s.images ∧ (s.onChan h b f).tap = s.tap ∧
    (s.onChan h b f).fresh = s.fresh := by
  unfold State.onChan
  (repeat' split) <;> simp

@[simp] theorem frame_openAbnormal (s : State) (h : HeadNo) (cause detail b : Nat) (from_ : Tick) (st : ChannelStretch) : (s.openAbnormal h cause detail b from_ st).pending = s.pending ∧
    (s.openAbnormal h cause detail b from_ st).deferred = s.deferred ∧
    (s.openAbnormal h cause detail b from_ st).dev = s.dev ∧
    (s.openAbnormal h cause detail b from_ st).power = s.power ∧
    (s.openAbnormal h cause detail b from_ st).clk = s.clk ∧
    (s.openAbnormal h cause detail b from_ st).fuses = s.fuses ∧
    (s.openAbnormal h cause detail b from_ st).regs = s.regs ∧
    (s.openAbnormal h cause detail b from_ st).blobs = s.blobs ∧
    (s.openAbnormal h cause detail b from_ st).flash = s.flash ∧
    (s.openAbnormal h cause detail b from_ st).leaves = s.leaves ∧
    (s.openAbnormal h cause detail b from_ st).recorder = s.recorder ∧
    (s.openAbnormal h cause detail b from_ st).sessions = s.sessions ∧
    (s.openAbnormal h cause detail b from_ st).auth = s.auth ∧
    (s.openAbnormal h cause detail b from_ st).spi = s.spi ∧
    (s.openAbnormal h cause detail b from_ st).ring = s.ring ∧
    (s.openAbnormal h cause detail b from_ st).ownWaiting = s.ownWaiting ∧
    (s.openAbnormal h cause detail b from_ st).out = s.out ∧ (s.openAbnormal h cause detail b from_ st).job = s.job ∧
    (s.openAbnormal h cause detail b from_ st).sieve = s.sieve ∧
    (s.openAbnormal h cause detail b from_ st).engine = s.engine ∧
    (s.openAbnormal h cause detail b from_ st).time = s.time ∧
    (s.openAbnormal h cause detail b from_ st).twin = s.twin ∧
    (s.openAbnormal h cause detail b from_ st).motion = s.motion ∧
    (s.openAbnormal h cause detail b from_ st).dram = s.dram ∧
    (s.openAbnormal h cause detail b from_ st).clocks = s.clocks ∧
    (s.openAbnormal h cause detail b from_ st).thermal = s.thermal ∧
    (s.openAbnormal h cause detail b from_ st).images = s.images ∧
    (s.openAbnormal h cause detail b from_ st).tap = s.tap ∧
    (s.openAbnormal h cause detail b from_ st).fresh = s.fresh := by
  unfold State.openAbnormal
  (repeat' split) <;> simp

@[simp] theorem frame_closeAbnormal (s : State) (h : HeadNo) (cause b : Nat) (at_ : Tick) : (s.closeAbnormal h cause b at_).pending = s.pending ∧
    (s.closeAbnormal h cause b at_).deferred = s.deferred ∧ (s.closeAbnormal h cause b at_).dev = s.dev ∧
    (s.closeAbnormal h cause b at_).power = s.power ∧ (s.closeAbnormal h cause b at_).clk = s.clk ∧
    (s.closeAbnormal h cause b at_).fuses = s.fuses ∧ (s.closeAbnormal h cause b at_).blobs = s.blobs ∧
    (s.closeAbnormal h cause b at_).flash = s.flash ∧ (s.closeAbnormal h cause b at_).leaves = s.leaves ∧
    (s.closeAbnormal h cause b at_).recorder = s.recorder ∧ (s.closeAbnormal h cause b at_).auth = s.auth ∧
    (s.closeAbnormal h cause b at_).spi = s.spi ∧ (s.closeAbnormal h cause b at_).ring = s.ring ∧
    (s.closeAbnormal h cause b at_).sieve = s.sieve ∧ (s.closeAbnormal h cause b at_).engine = s.engine ∧
    (s.closeAbnormal h cause b at_).time = s.time ∧ (s.closeAbnormal h cause b at_).motion = s.motion ∧
    (s.closeAbnormal h cause b at_).clocks = s.clocks ∧ (s.closeAbnormal h cause b at_).thermal = s.thermal ∧
    (s.closeAbnormal h cause b at_).images = s.images ∧ (s.closeAbnormal h cause b at_).tap = s.tap ∧
    (s.closeAbnormal h cause b at_).fresh = s.fresh := by
  unfold State.closeAbnormal
  (repeat' split) <;> simp

@[simp] theorem frame_detailAbnormal (s : State) (h : HeadNo) (cause b bits : Nat) : (s.detailAbnormal h cause b bits).pending = s.pending ∧
    (s.detailAbnormal h cause b bits).deferred = s.deferred ∧ (s.detailAbnormal h cause b bits).dev = s.dev ∧
    (s.detailAbnormal h cause b bits).power = s.power ∧ (s.detailAbnormal h cause b bits).clk = s.clk ∧
    (s.detailAbnormal h cause b bits).fuses = s.fuses ∧ (s.detailAbnormal h cause b bits).regs = s.regs ∧
    (s.detailAbnormal h cause b bits).blobs = s.blobs ∧ (s.detailAbnormal h cause b bits).flash = s.flash ∧
    (s.detailAbnormal h cause b bits).leaves = s.leaves ∧ (s.detailAbnormal h cause b bits).recorder = s.recorder ∧
    (s.detailAbnormal h cause b bits).sessions = s.sessions ∧ (s.detailAbnormal h cause b bits).auth = s.auth ∧
    (s.detailAbnormal h cause b bits).spi = s.spi ∧ (s.detailAbnormal h cause b bits).ring = s.ring ∧
    (s.detailAbnormal h cause b bits).ownWaiting = s.ownWaiting ∧ (s.detailAbnormal h cause b bits).out = s.out ∧
    (s.detailAbnormal h cause b bits).job = s.job ∧ (s.detailAbnormal h cause b bits).sieve = s.sieve ∧
    (s.detailAbnormal h cause b bits).engine = s.engine ∧ (s.detailAbnormal h cause b bits).time = s.time ∧
    (s.detailAbnormal h cause b bits).twin = s.twin ∧ (s.detailAbnormal h cause b bits).motion = s.motion ∧
    (s.detailAbnormal h cause b bits).dram = s.dram ∧ (s.detailAbnormal h cause b bits).clocks = s.clocks ∧
    (s.detailAbnormal h cause b bits).thermal = s.thermal ∧ (s.detailAbnormal h cause b bits).images = s.images ∧
    (s.detailAbnormal h cause b bits).tap = s.tap ∧ (s.detailAbnormal h cause b bits).fresh = s.fresh := by
  unfold State.detailAbnormal
  (repeat' split) <;> simp

@[simp] theorem frame_runAbnormal (s : State) (h : HeadNo) (cause detail b run limit : Nat) (first t : Tick) (st : ChannelStretch) : (s.runAbnormal h cause detail b run limit first t st).pending = s.pending ∧
    (s.runAbnormal h cause detail b run limit first t st).deferred = s.deferred ∧
    (s.runAbnormal h cause detail b run limit first t st).dev = s.dev ∧
    (s.runAbnormal h cause detail b run limit first t st).power = s.power ∧
    (s.runAbnormal h cause detail b run limit first t st).clk = s.clk ∧
    (s.runAbnormal h cause detail b run limit first t st).fuses = s.fuses ∧
    (s.runAbnormal h cause detail b run limit first t st).regs = s.regs ∧
    (s.runAbnormal h cause detail b run limit first t st).blobs = s.blobs ∧
    (s.runAbnormal h cause detail b run limit first t st).flash = s.flash ∧
    (s.runAbnormal h cause detail b run limit first t st).leaves = s.leaves ∧
    (s.runAbnormal h cause detail b run limit first t st).recorder = s.recorder ∧
    (s.runAbnormal h cause detail b run limit first t st).sessions = s.sessions ∧
    (s.runAbnormal h cause detail b run limit first t st).auth = s.auth ∧
    (s.runAbnormal h cause detail b run limit first t st).spi = s.spi ∧
    (s.runAbnormal h cause detail b run limit first t st).ring = s.ring ∧
    (s.runAbnormal h cause detail b run limit first t st).ownWaiting = s.ownWaiting ∧
    (s.runAbnormal h cause detail b run limit first t st).out = s.out ∧
    (s.runAbnormal h cause detail b run limit first t st).job = s.job ∧
    (s.runAbnormal h cause detail b run limit first t st).sieve = s.sieve ∧
    (s.runAbnormal h cause detail b run limit first t st).engine = s.engine ∧
    (s.runAbnormal h cause detail b run limit first t st).time = s.time ∧
    (s.runAbnormal h cause detail b run limit first t st).twin = s.twin ∧
    (s.runAbnormal h cause detail b run limit first t st).motion = s.motion ∧
    (s.runAbnormal h cause detail b run limit first t st).dram = s.dram ∧
    (s.runAbnormal h cause detail b run limit first t st).clocks = s.clocks ∧
    (s.runAbnormal h cause detail b run limit first t st).thermal = s.thermal ∧
    (s.runAbnormal h cause detail b run limit first t st).images = s.images ∧
    (s.runAbnormal h cause detail b run limit first t st).tap = s.tap ∧
    (s.runAbnormal h cause detail b run limit first t st).fresh = s.fresh := by
  unfold State.runAbnormal
  (repeat' split) <;> simp

@[simp] theorem frame_holdSample (s : State) (h : HeadNo) (b : Nat) (t reason : Nat) : (s.holdSample h b t reason).pending = s.pending ∧
    (s.holdSample h b t reason).deferred = s.deferred ∧ (s.holdSample h b t reason).dev = s.dev ∧
    (s.holdSample h b t reason).power = s.power ∧ (s.holdSample h b t reason).clk = s.clk ∧
    (s.holdSample h b t reason).fuses = s.fuses ∧ (s.holdSample h b t reason).blobs = s.blobs ∧
    (s.holdSample h b t reason).flash = s.flash ∧ (s.holdSample h b t reason).recorder = s.recorder ∧
    (s.holdSample h b t reason).auth = s.auth ∧ (s.holdSample h b t reason).spi = s.spi ∧
    (s.holdSample h b t reason).ring = s.ring ∧ (s.holdSample h b t reason).job = s.job ∧
    (s.holdSample h b t reason).sieve = s.sieve ∧ (s.holdSample h b t reason).engine = s.engine ∧
    (s.holdSample h b t reason).time = s.time ∧ (s.holdSample h b t reason).motion = s.motion ∧
    (s.holdSample h b t reason).dram = s.dram ∧ (s.holdSample h b t reason).clocks = s.clocks ∧
    (s.holdSample h b t reason).thermal = s.thermal ∧ (s.holdSample h b t reason).images = s.images ∧
    (s.holdSample h b t reason).tap = s.tap ∧ (s.holdSample h b t reason).fresh = s.fresh := by
  unfold State.holdSample
  dsimp only
  (repeat' split) <;> simp

@[simp] theorem frame_noteBound (s : State) (h : HeadNo) (b : Nat) (t : Tick) (raw : Int) (st : ChannelStretch) : (s.noteBound h b t raw st).pending = s.pending ∧
    (s.noteBound h b t raw st).deferred = s.deferred ∧ (s.noteBound h b t raw st).dev = s.dev ∧
    (s.noteBound h b t raw st).power = s.power ∧ (s.noteBound h b t raw st).clk = s.clk ∧
    (s.noteBound h b t raw st).fuses = s.fuses ∧ (s.noteBound h b t raw st).blobs = s.blobs ∧
    (s.noteBound h b t raw st).flash = s.flash ∧ (s.noteBound h b t raw st).recorder = s.recorder ∧
    (s.noteBound h b t raw st).auth = s.auth ∧ (s.noteBound h b t raw st).spi = s.spi ∧
    (s.noteBound h b t raw st).ring = s.ring ∧ (s.noteBound h b t raw st).sieve = s.sieve ∧
    (s.noteBound h b t raw st).engine = s.engine ∧ (s.noteBound h b t raw st).time = s.time ∧
    (s.noteBound h b t raw st).motion = s.motion ∧ (s.noteBound h b t raw st).clocks = s.clocks ∧
    (s.noteBound h b t raw st).thermal = s.thermal ∧ (s.noteBound h b t raw st).images = s.images ∧
    (s.noteBound h b t raw st).tap = s.tap ∧ (s.noteBound h b t raw st).fresh = s.fresh := by
  unfold State.noteBound
  (repeat' split) <;> simp

@[simp] theorem frame_output (s : State) (h : HeadNo) (b : Nat) (t : Tick) (r : Computed) (st : ChannelStretch) : (s.output h b t r st).pending = s.pending ∧
    (s.output h b t r st).deferred = s.deferred ∧ (s.output h b t r st).dev = s.dev ∧
    (s.output h b t r st).power = s.power ∧ (s.output h b t r st).clk = s.clk ∧
    (s.output h b t r st).fuses = s.fuses ∧ (s.output h b t r st).blobs = s.blobs ∧
    (s.output h b t r st).flash = s.flash ∧ (s.output h b t r st).recorder = s.recorder ∧
    (s.output h b t r st).auth = s.auth ∧ (s.output h b t r st).spi = s.spi ∧ (s.output h b t r st).ring = s.ring ∧
    (s.output h b t r st).sieve = s.sieve ∧ (s.output h b t r st).engine = s.engine ∧
    (s.output h b t r st).time = s.time ∧ (s.output h b t r st).motion = s.motion ∧
    (s.output h b t r st).clocks = s.clocks ∧ (s.output h b t r st).thermal = s.thermal ∧
    (s.output h b t r st).images = s.images ∧ (s.output h b t r st).tap = s.tap ∧
    (s.output h b t r st).fresh = s.fresh := by
  unfold State.output
  (repeat' split) <;> simp

@[simp] theorem frame_update (s : State) (t : Tick) (h : HeadNo) (b pdL pdS : Nat) : (s.update t h b pdL pdS).1.pending = s.pending ∧
    (s.update t h b pdL pdS).1.deferred = s.deferred ∧ (s.update t h b pdL pdS).1.dev = s.dev ∧
    (s.update t h b pdL pdS).1.power = s.power ∧ (s.update t h b pdL pdS).1.clk = s.clk ∧
    (s.update t h b pdL pdS).1.fuses = s.fuses ∧ (s.update t h b pdL pdS).1.blobs = s.blobs ∧
    (s.update t h b pdL pdS).1.flash = s.flash ∧ (s.update t h b pdL pdS).1.recorder = s.recorder ∧
    (s.update t h b pdL pdS).1.auth = s.auth ∧ (s.update t h b pdL pdS).1.spi = s.spi ∧
    (s.update t h b pdL pdS).1.ring = s.ring ∧ (s.update t h b pdL pdS).1.sieve = s.sieve ∧
    (s.update t h b pdL pdS).1.engine = s.engine ∧ (s.update t h b pdL pdS).1.time = s.time ∧
    (s.update t h b pdL pdS).1.motion = s.motion ∧ (s.update t h b pdL pdS).1.clocks = s.clocks ∧
    (s.update t h b pdL pdS).1.thermal = s.thermal ∧ (s.update t h b pdL pdS).1.images = s.images ∧
    (s.update t h b pdL pdS).1.tap = s.tap ∧ (s.update t h b pdL pdS).1.fresh = s.fresh := by
  unfold State.update
  dsimp only
  (repeat' split) <;> simp

@[simp] theorem frame_sampleChan (s : State) (h : HeadNo) (t : Tick) (pd : Nat → Option (Nat × Nat)) (b : Nat) : (s.sampleChan h t pd b).pending = s.pending ∧
    (s.sampleChan h t pd b).deferred = s.deferred ∧ (s.sampleChan h t pd b).dev = s.dev ∧
    (s.sampleChan h t pd b).power = s.power ∧ (s.sampleChan h t pd b).clk = s.clk ∧
    (s.sampleChan h t pd b).fuses = s.fuses ∧ (s.sampleChan h t pd b).blobs = s.blobs ∧
    (s.sampleChan h t pd b).flash = s.flash ∧ (s.sampleChan h t pd b).recorder = s.recorder ∧
    (s.sampleChan h t pd b).auth = s.auth ∧ (s.sampleChan h t pd b).spi = s.spi ∧
    (s.sampleChan h t pd b).ring = s.ring ∧ (s.sampleChan h t pd b).job = s.job ∧
    (s.sampleChan h t pd b).sieve = s.sieve ∧ (s.sampleChan h t pd b).time = s.time ∧
    (s.sampleChan h t pd b).motion = s.motion ∧ (s.sampleChan h t pd b).dram = s.dram ∧
    (s.sampleChan h t pd b).clocks = s.clocks ∧ (s.sampleChan h t pd b).thermal = s.thermal ∧
    (s.sampleChan h t pd b).images = s.images ∧ (s.sampleChan h t pd b).tap = s.tap ∧
    (s.sampleChan h t pd b).fresh = s.fresh := by
  unfold State.sampleChan
  (repeat' split) <;> simp

@[simp] theorem frame_sampleHead (s : State) (h : HeadNo) (t : Tick) (pd : Nat → Option (Nat × Nat)) : (s.sampleHead h t pd).pending = s.pending ∧
    (s.sampleHead h t pd).deferred = s.deferred ∧ (s.sampleHead h t pd).dev = s.dev ∧
    (s.sampleHead h t pd).power = s.power ∧ (s.sampleHead h t pd).clk = s.clk ∧
    (s.sampleHead h t pd).fuses = s.fuses ∧ (s.sampleHead h t pd).blobs = s.blobs ∧
    (s.sampleHead h t pd).flash = s.flash ∧ (s.sampleHead h t pd).recorder = s.recorder ∧
    (s.sampleHead h t pd).auth = s.auth ∧ (s.sampleHead h t pd).spi = s.spi ∧ (s.sampleHead h t pd).ring = s.ring ∧
    (s.sampleHead h t pd).job = s.job ∧ (s.sampleHead h t pd).sieve = s.sieve ∧ (s.sampleHead h t pd).time = s.time ∧
    (s.sampleHead h t pd).motion = s.motion ∧ (s.sampleHead h t pd).dram = s.dram ∧
    (s.sampleHead h t pd).clocks = s.clocks ∧ (s.sampleHead h t pd).thermal = s.thermal ∧
    (s.sampleHead h t pd).images = s.images ∧ (s.sampleHead h t pd).tap = s.tap ∧
    (s.sampleHead h t pd).fresh = s.fresh := by
  unfold State.sampleHead
  (repeat' split) <;> simp

@[simp] theorem frame_unlinkedSample (s : State) (h f : Nat) : (s.unlinkedSample h f).pending = s.pending ∧
    (s.unlinkedSample h f).deferred = s.deferred ∧ (s.unlinkedSample h f).dev = s.dev ∧
    (s.unlinkedSample h f).power = s.power ∧ (s.unlinkedSample h f).clk = s.clk ∧
    (s.unlinkedSample h f).fuses = s.fuses ∧ (s.unlinkedSample h f).blobs = s.blobs ∧
    (s.unlinkedSample h f).flash = s.flash ∧ (s.unlinkedSample h f).recorder = s.recorder ∧
    (s.unlinkedSample h f).auth = s.auth ∧ (s.unlinkedSample h f).spi = s.spi ∧ (s.unlinkedSample h f).ring = s.ring ∧
    (s.unlinkedSample h f).job = s.job ∧ (s.unlinkedSample h f).sieve = s.sieve ∧
    (s.unlinkedSample h f).time = s.time ∧ (s.unlinkedSample h f).motion = s.motion ∧
    (s.unlinkedSample h f).dram = s.dram ∧ (s.unlinkedSample h f).clocks = s.clocks ∧
    (s.unlinkedSample h f).thermal = s.thermal ∧ (s.unlinkedSample h f).images = s.images ∧
    (s.unlinkedSample h f).tap = s.tap ∧ (s.unlinkedSample h f).fresh = s.fresh := by
  unfold State.unlinkedSample
  (repeat' split) <;> simp

@[simp] theorem frame_outer (s : State) (et : Tick) (h : HeadNo) (b : Nat) (record : List Byte) : (s.outer et h b record).pending = s.pending ∧
    (s.outer et h b record).deferred = s.deferred ∧ (s.outer et h b record).dev = s.dev ∧
    (s.outer et h b record).power = s.power ∧ (s.outer et h b record).clk = s.clk ∧
    (s.outer et h b record).fuses = s.fuses ∧ (s.outer et h b record).regs = s.regs ∧
    (s.outer et h b record).blobs = s.blobs ∧ (s.outer et h b record).flash = s.flash ∧
    (s.outer et h b record).leaves = s.leaves ∧ (s.outer et h b record).recorder = s.recorder ∧
    (s.outer et h b record).sessions = s.sessions ∧ (s.outer et h b record).auth = s.auth ∧
    (s.outer et h b record).spi = s.spi ∧ (s.outer et h b record).ring = s.ring ∧
    (s.outer et h b record).ownWaiting = s.ownWaiting ∧ (s.outer et h b record).out = s.out ∧
    (s.outer et h b record).job = s.job ∧ (s.outer et h b record).sieve = s.sieve ∧
    (s.outer et h b record).engine = s.engine ∧ (s.outer et h b record).time = s.time ∧
    (s.outer et h b record).twin = s.twin ∧ (s.outer et h b record).motion = s.motion ∧
    (s.outer et h b record).dram = s.dram ∧ (s.outer et h b record).clocks = s.clocks ∧
    (s.outer et h b record).thermal = s.thermal ∧ (s.outer et h b record).images = s.images ∧
    (s.outer et h b record).tap = s.tap ∧ (s.outer et h b record).fresh = s.fresh := by
  unfold State.outer
  (repeat' split) <;> simp

@[simp] theorem frame_runLane (s : State) (lane : Nat) (w : LaneWork) : (s.runLane lane w).pending = s.pending ∧
    (s.runLane lane w).deferred = s.deferred ∧ (s.runLane lane w).dev = s.dev ∧ (s.runLane lane w).power = s.power ∧
    (s.runLane lane w).clk = s.clk ∧ (s.runLane lane w).fuses = s.fuses ∧ (s.runLane lane w).blobs = s.blobs ∧
    (s.runLane lane w).flash = s.flash ∧ (s.runLane lane w).recorder = s.recorder ∧ (s.runLane lane w).auth = s.auth ∧
    (s.runLane lane w).spi = s.spi ∧ (s.runLane lane w).ring = s.ring ∧ (s.runLane lane w).sieve = s.sieve ∧
    (s.runLane lane w).time = s.time ∧ (s.runLane lane w).motion = s.motion ∧ (s.runLane lane w).clocks = s.clocks ∧
    (s.runLane lane w).thermal = s.thermal ∧ (s.runLane lane w).images = s.images ∧
    (s.runLane lane w).tap = s.tap := by
  unfold State.runLane
  (repeat' split) <;> simp

@[simp] theorem frame_execDarkCapture (path : Path) (value : Nat) (s : State) (s0 : State) : (outcomeState s0 (execDarkCapture path value s)).pending = s.pending ∧
    (outcomeState s0 (execDarkCapture path value s)).dev = s.dev ∧
    (outcomeState s0 (execDarkCapture path value s)).power = s.power ∧
    (outcomeState s0 (execDarkCapture path value s)).clk = s.clk ∧
    (outcomeState s0 (execDarkCapture path value s)).fuses = s.fuses ∧
    (outcomeState s0 (execDarkCapture path value s)).regs = s.regs ∧
    (outcomeState s0 (execDarkCapture path value s)).blobs = s.blobs ∧
    (outcomeState s0 (execDarkCapture path value s)).flash = s.flash ∧
    (outcomeState s0 (execDarkCapture path value s)).leaves = s.leaves ∧
    (outcomeState s0 (execDarkCapture path value s)).recorder = s.recorder ∧
    (outcomeState s0 (execDarkCapture path value s)).sessions = s.sessions ∧
    (outcomeState s0 (execDarkCapture path value s)).auth = s.auth ∧
    (outcomeState s0 (execDarkCapture path value s)).spi = s.spi ∧
    (outcomeState s0 (execDarkCapture path value s)).ring = s.ring ∧
    (outcomeState s0 (execDarkCapture path value s)).ownWaiting = s.ownWaiting ∧
    (outcomeState s0 (execDarkCapture path value s)).job = s.job ∧
    (outcomeState s0 (execDarkCapture path value s)).sieve = s.sieve ∧
    (outcomeState s0 (execDarkCapture path value s)).engine = s.engine ∧
    (outcomeState s0 (execDarkCapture path value s)).time = s.time ∧
    (outcomeState s0 (execDarkCapture path value s)).motion = s.motion ∧
    (outcomeState s0 (execDarkCapture path value s)).dram = s.dram ∧
    (outcomeState s0 (execDarkCapture path value s)).clocks = s.clocks ∧
    (outcomeState s0 (execDarkCapture path value s)).thermal = s.thermal ∧
    (outcomeState s0 (execDarkCapture path value s)).images = s.images ∧
    (outcomeState s0 (execDarkCapture path value s)).tap = s.tap ∧
    (outcomeState s0 (execDarkCapture path value s)).fresh = s.fresh := by
  simp only [execDarkCapture]
  (repeat' split) <;> simp

@[simp] theorem frame_execLoopEnable (path : Path) (h sub value : Nat) (s : State) (s0 : State) : (outcomeState s0 (execLoopEnable path h sub value s)).pending = s.pending ∧
    (outcomeState s0 (execLoopEnable path h sub value s)).dev = s.dev ∧
    (outcomeState s0 (execLoopEnable path h sub value s)).power = s.power ∧
    (outcomeState s0 (execLoopEnable path h sub value s)).clk = s.clk ∧
    (outcomeState s0 (execLoopEnable path h sub value s)).fuses = s.fuses ∧
    (outcomeState s0 (execLoopEnable path h sub value s)).blobs = s.blobs ∧
    (outcomeState s0 (execLoopEnable path h sub value s)).flash = s.flash ∧
    (outcomeState s0 (execLoopEnable path h sub value s)).leaves = s.leaves ∧
    (outcomeState s0 (execLoopEnable path h sub value s)).recorder = s.recorder ∧
    (outcomeState s0 (execLoopEnable path h sub value s)).sessions = s.sessions ∧
    (outcomeState s0 (execLoopEnable path h sub value s)).auth = s.auth ∧
    (outcomeState s0 (execLoopEnable path h sub value s)).spi = s.spi ∧
    (outcomeState s0 (execLoopEnable path h sub value s)).ring = s.ring ∧
    (outcomeState s0 (execLoopEnable path h sub value s)).ownWaiting = s.ownWaiting ∧
    (outcomeState s0 (execLoopEnable path h sub value s)).job = s.job ∧
    (outcomeState s0 (execLoopEnable path h sub value s)).heads = s.heads ∧
    (outcomeState s0 (execLoopEnable path h sub value s)).sieve = s.sieve ∧
    (outcomeState s0 (execLoopEnable path h sub value s)).engine = s.engine ∧
    (outcomeState s0 (execLoopEnable path h sub value s)).time = s.time ∧
    (outcomeState s0 (execLoopEnable path h sub value s)).motion = s.motion ∧
    (outcomeState s0 (execLoopEnable path h sub value s)).dram = s.dram ∧
    (outcomeState s0 (execLoopEnable path h sub value s)).clocks = s.clocks ∧
    (outcomeState s0 (execLoopEnable path h sub value s)).thermal = s.thermal ∧
    (outcomeState s0 (execLoopEnable path h sub value s)).images = s.images ∧
    (outcomeState s0 (execLoopEnable path h sub value s)).tap = s.tap ∧
    (outcomeState s0 (execLoopEnable path h sub value s)).fresh = s.fresh := by
  simp only [execLoopEnable]
  (repeat' split) <;> simp

@[simp] theorem frame_execLawWrite (path : Path) (law sub : Nat) (data : List Byte) (s : State) (s0 : State) : (outcomeState s0 (execLawWrite path law sub data s)).pending = s.pending ∧
    (outcomeState s0 (execLawWrite path law sub data s)).dev = s.dev ∧
    (outcomeState s0 (execLawWrite path law sub data s)).power = s.power ∧
    (outcomeState s0 (execLawWrite path law sub data s)).clk = s.clk ∧
    (outcomeState s0 (execLawWrite path law sub data s)).fuses = s.fuses ∧
    (outcomeState s0 (execLawWrite path law sub data s)).flash = s.flash ∧
    (outcomeState s0 (execLawWrite path law sub data s)).leaves = s.leaves ∧
    (outcomeState s0 (execLawWrite path law sub data s)).recorder = s.recorder ∧
    (outcomeState s0 (execLawWrite path law sub data s)).sessions = s.sessions ∧
    (outcomeState s0 (execLawWrite path law sub data s)).auth = s.auth ∧
    (outcomeState s0 (execLawWrite path law sub data s)).spi = s.spi ∧
    (outcomeState s0 (execLawWrite path law sub data s)).ring = s.ring ∧
    (outcomeState s0 (execLawWrite path law sub data s)).ownWaiting = s.ownWaiting ∧
    (outcomeState s0 (execLawWrite path law sub data s)).job = s.job ∧
    (outcomeState s0 (execLawWrite path law sub data s)).heads = s.heads ∧
    (outcomeState s0 (execLawWrite path law sub data s)).sieve = s.sieve ∧
    (outcomeState s0 (execLawWrite path law sub data s)).engine = s.engine ∧
    (outcomeState s0 (execLawWrite path law sub data s)).time = s.time ∧
    (outcomeState s0 (execLawWrite path law sub data s)).motion = s.motion ∧
    (outcomeState s0 (execLawWrite path law sub data s)).dram = s.dram ∧
    (outcomeState s0 (execLawWrite path law sub data s)).clocks = s.clocks ∧
    (outcomeState s0 (execLawWrite path law sub data s)).thermal = s.thermal ∧
    (outcomeState s0 (execLawWrite path law sub data s)).images = s.images ∧
    (outcomeState s0 (execLawWrite path law sub data s)).tap = s.tap ∧
    (outcomeState s0 (execLawWrite path law sub data s)).fresh = s.fresh := by
  simp only [execLawWrite]
  (repeat' split) <;> simp

@[simp] theorem frame_makeRoom (s : State) (h : HeadNo) : (s.makeRoom h).pending = s.pending ∧
    (s.makeRoom h).deferred = s.deferred ∧ (s.makeRoom h).dev = s.dev ∧ (s.makeRoom h).power = s.power ∧
    (s.makeRoom h).clk = s.clk ∧ (s.makeRoom h).fuses = s.fuses ∧ (s.makeRoom h).blobs = s.blobs ∧
    (s.makeRoom h).flash = s.flash ∧ (s.makeRoom h).recorder = s.recorder ∧ (s.makeRoom h).auth = s.auth ∧
    (s.makeRoom h).spi = s.spi ∧ (s.makeRoom h).ring = s.ring ∧ (s.makeRoom h).sieve = s.sieve ∧
    (s.makeRoom h).engine = s.engine ∧ (s.makeRoom h).time = s.time ∧ (s.makeRoom h).motion = s.motion ∧
    (s.makeRoom h).clocks = s.clocks ∧ (s.makeRoom h).thermal = s.thermal ∧ (s.makeRoom h).images = s.images ∧
    (s.makeRoom h).tap = s.tap ∧ (s.makeRoom h).fresh = s.fresh := by
  unfold State.makeRoom
  dsimp only
  (repeat' split) <;> simp

@[simp] theorem frame_takeFrame (s : State) (h seq gen format start : Nat) (g : Generation) : (s.takeFrame h seq gen format start g).pending = s.pending ∧
    (s.takeFrame h seq gen format start g).deferred = s.deferred ∧
    (s.takeFrame h seq gen format start g).dev = s.dev ∧ (s.takeFrame h seq gen format start g).power = s.power ∧
    (s.takeFrame h seq gen format start g).clk = s.clk ∧ (s.takeFrame h seq gen format start g).fuses = s.fuses ∧
    (s.takeFrame h seq gen format start g).blobs = s.blobs ∧ (s.takeFrame h seq gen format start g).flash = s.flash ∧
    (s.takeFrame h seq gen format start g).recorder = s.recorder ∧
    (s.takeFrame h seq gen format start g).auth = s.auth ∧ (s.takeFrame h seq gen format start g).spi = s.spi ∧
    (s.takeFrame h seq gen format start g).ring = s.ring ∧ (s.takeFrame h seq gen format start g).sieve = s.sieve ∧
    (s.takeFrame h seq gen format start g).engine = s.engine ∧ (s.takeFrame h seq gen format start g).time = s.time ∧
    (s.takeFrame h seq gen format start g).motion = s.motion ∧
    (s.takeFrame h seq gen format start g).clocks = s.clocks ∧
    (s.takeFrame h seq gen format start g).thermal = s.thermal ∧
    (s.takeFrame h seq gen format start g).images = s.images ∧ (s.takeFrame h seq gen format start g).tap = s.tap ∧
    (s.takeFrame h seq gen format start g).fresh = s.fresh := by
  unfold State.takeFrame
  (repeat' split) <;> simp

@[simp] theorem frame_cameraHeader (s : State) (h seq gen format lo arrival : Nat) : (s.cameraHeader h seq gen format lo arrival).pending = s.pending ∧
    (s.cameraHeader h seq gen format lo arrival).deferred = s.deferred ∧
    (s.cameraHeader h seq gen format lo arrival).dev = s.dev ∧
    (s.cameraHeader h seq gen format lo arrival).power = s.power ∧
    (s.cameraHeader h seq gen format lo arrival).clk = s.clk ∧
    (s.cameraHeader h seq gen format lo arrival).fuses = s.fuses ∧
    (s.cameraHeader h seq gen format lo arrival).blobs = s.blobs ∧
    (s.cameraHeader h seq gen format lo arrival).flash = s.flash ∧
    (s.cameraHeader h seq gen format lo arrival).recorder = s.recorder ∧
    (s.cameraHeader h seq gen format lo arrival).auth = s.auth ∧
    (s.cameraHeader h seq gen format lo arrival).spi = s.spi ∧
    (s.cameraHeader h seq gen format lo arrival).ring = s.ring ∧
    (s.cameraHeader h seq gen format lo arrival).sieve = s.sieve ∧
    (s.cameraHeader h seq gen format lo arrival).engine = s.engine ∧
    (s.cameraHeader h seq gen format lo arrival).time = s.time ∧
    (s.cameraHeader h seq gen format lo arrival).motion = s.motion ∧
    (s.cameraHeader h seq gen format lo arrival).clocks = s.clocks ∧
    (s.cameraHeader h seq gen format lo arrival).thermal = s.thermal ∧
    (s.cameraHeader h seq gen format lo arrival).images = s.images ∧
    (s.cameraHeader h seq gen format lo arrival).tap = s.tap ∧
    (s.cameraHeader h seq gen format lo arrival).fresh = s.fresh := by
  simp only [State.cameraHeader]
  cases hg : (s.head h).camera.gen? gen with
  | none => simp only [frame_countDrop, frame_bump, frame_cameraBroken, and_self]
  | some g =>
    cases hs : startFrom lo arrival with
    | none => simp only [frame_countDrop, frame_bump, frame_cameraBroken, and_self]
    | some st =>
      dsimp only
      split
      · simp only [frame_dropFrame, frame_bump, frame_cameraBroken, and_self]
      · simp only [frame_takeFrame, frame_bump, frame_cameraBroken, and_self]

@[simp] theorem frame_cameraPixels (s : State) (h : HeadNo) (ps : List Nat) (arrival : Tick) : (s.cameraPixels h ps arrival).pending = s.pending ∧
    (s.cameraPixels h ps arrival).deferred = s.deferred ∧ (s.cameraPixels h ps arrival).dev = s.dev ∧
    (s.cameraPixels h ps arrival).power = s.power ∧ (s.cameraPixels h ps arrival).clk = s.clk ∧
    (s.cameraPixels h ps arrival).fuses = s.fuses ∧ (s.cameraPixels h ps arrival).regs = s.regs ∧
    (s.cameraPixels h ps arrival).blobs = s.blobs ∧ (s.cameraPixels h ps arrival).flash = s.flash ∧
    (s.cameraPixels h ps arrival).leaves = s.leaves ∧ (s.cameraPixels h ps arrival).recorder = s.recorder ∧
    (s.cameraPixels h ps arrival).sessions = s.sessions ∧ (s.cameraPixels h ps arrival).auth = s.auth ∧
    (s.cameraPixels h ps arrival).spi = s.spi ∧ (s.cameraPixels h ps arrival).ring = s.ring ∧
    (s.cameraPixels h ps arrival).ownWaiting = s.ownWaiting ∧ (s.cameraPixels h ps arrival).out = s.out ∧
    (s.cameraPixels h ps arrival).job = s.job ∧ (s.cameraPixels h ps arrival).sieve = s.sieve ∧
    (s.cameraPixels h ps arrival).engine = s.engine ∧ (s.cameraPixels h ps arrival).time = s.time ∧
    (s.cameraPixels h ps arrival).twin = s.twin ∧ (s.cameraPixels h ps arrival).motion = s.motion ∧
    (s.cameraPixels h ps arrival).dram = s.dram ∧ (s.cameraPixels h ps arrival).clocks = s.clocks ∧
    (s.cameraPixels h ps arrival).thermal = s.thermal ∧ (s.cameraPixels h ps arrival).images = s.images ∧
    (s.cameraPixels h ps arrival).tap = s.tap ∧ (s.cameraPixels h ps arrival).fresh = s.fresh := by
  unfold State.cameraPixels
  (repeat' split) <;> simp

@[simp] theorem frame_startPass (s : State) (pipe : Nat) (h : HeadNo) (f : CamFrame) (only : Bool) : (s.startPass pipe h f only).pending = s.pending ∧
    (s.startPass pipe h f only).deferred = s.deferred ∧ (s.startPass pipe h f only).dev = s.dev ∧
    (s.startPass pipe h f only).power = s.power ∧ (s.startPass pipe h f only).clk = s.clk ∧
    (s.startPass pipe h f only).fuses = s.fuses ∧ (s.startPass pipe h f only).regs = s.regs ∧
    (s.startPass pipe h f only).blobs = s.blobs ∧ (s.startPass pipe h f only).flash = s.flash ∧
    (s.startPass pipe h f only).leaves = s.leaves ∧ (s.startPass pipe h f only).recorder = s.recorder ∧
    (s.startPass pipe h f only).sessions = s.sessions ∧ (s.startPass pipe h f only).auth = s.auth ∧
    (s.startPass pipe h f only).spi = s.spi ∧ (s.startPass pipe h f only).ring = s.ring ∧
    (s.startPass pipe h f only).ownWaiting = s.ownWaiting ∧ (s.startPass pipe h f only).out = s.out ∧
    (s.startPass pipe h f only).job = s.job ∧ (s.startPass pipe h f only).engine = s.engine ∧
    (s.startPass pipe h f only).time = s.time ∧ (s.startPass pipe h f only).twin = s.twin ∧
    (s.startPass pipe h f only).motion = s.motion ∧ (s.startPass pipe h f only).dram = s.dram ∧
    (s.startPass pipe h f only).clocks = s.clocks ∧ (s.startPass pipe h f only).thermal = s.thermal ∧
    (s.startPass pipe h f only).images = s.images ∧ (s.startPass pipe h f only).tap = s.tap ∧
    (s.startPass pipe h f only).fresh = s.fresh := by
  unfold State.startPass
  (repeat' split) <;> simp

@[simp] theorem frame_countLate (s : State) (pipe deadline : Nat) (f : CamFrame) : (s.countLate pipe deadline f).pending = s.pending ∧
    (s.countLate pipe deadline f).deferred = s.deferred ∧ (s.countLate pipe deadline f).dev = s.dev ∧
    (s.countLate pipe deadline f).power = s.power ∧ (s.countLate pipe deadline f).clk = s.clk ∧
    (s.countLate pipe deadline f).fuses = s.fuses ∧ (s.countLate pipe deadline f).blobs = s.blobs ∧
    (s.countLate pipe deadline f).flash = s.flash ∧ (s.countLate pipe deadline f).leaves = s.leaves ∧
    (s.countLate pipe deadline f).recorder = s.recorder ∧ (s.countLate pipe deadline f).sessions = s.sessions ∧
    (s.countLate pipe deadline f).auth = s.auth ∧ (s.countLate pipe deadline f).spi = s.spi ∧
    (s.countLate pipe deadline f).ring = s.ring ∧ (s.countLate pipe deadline f).ownWaiting = s.ownWaiting ∧
    (s.countLate pipe deadline f).out = s.out ∧ (s.countLate pipe deadline f).job = s.job ∧
    (s.countLate pipe deadline f).heads = s.heads ∧ (s.countLate pipe deadline f).sieve = s.sieve ∧
    (s.countLate pipe deadline f).engine = s.engine ∧ (s.countLate pipe deadline f).time = s.time ∧
    (s.countLate pipe deadline f).twin = s.twin ∧ (s.countLate pipe deadline f).motion = s.motion ∧
    (s.countLate pipe deadline f).dram = s.dram ∧ (s.countLate pipe deadline f).clocks = s.clocks ∧
    (s.countLate pipe deadline f).thermal = s.thermal ∧ (s.countLate pipe deadline f).images = s.images ∧
    (s.countLate pipe deadline f).tap = s.tap ∧ (s.countLate pipe deadline f).fresh = s.fresh := by
  unfold State.countLate
  (repeat' split) <;> simp

@[simp] theorem frame_dispatch (s : State) (pipe deadline : Nat) (h : HeadNo) (f : CamFrame) : (s.dispatch pipe deadline h f).pending = s.pending ∧
    (s.dispatch pipe deadline h f).deferred = s.deferred ∧ (s.dispatch pipe deadline h f).dev = s.dev ∧
    (s.dispatch pipe deadline h f).power = s.power ∧ (s.dispatch pipe deadline h f).clk = s.clk ∧
    (s.dispatch pipe deadline h f).fuses = s.fuses ∧ (s.dispatch pipe deadline h f).blobs = s.blobs ∧
    (s.dispatch pipe deadline h f).flash = s.flash ∧ (s.dispatch pipe deadline h f).recorder = s.recorder ∧
    (s.dispatch pipe deadline h f).auth = s.auth ∧ (s.dispatch pipe deadline h f).spi = s.spi ∧
    (s.dispatch pipe deadline h f).ring = s.ring ∧ (s.dispatch pipe deadline h f).engine = s.engine ∧
    (s.dispatch pipe deadline h f).time = s.time ∧ (s.dispatch pipe deadline h f).motion = s.motion ∧
    (s.dispatch pipe deadline h f).clocks = s.clocks ∧ (s.dispatch pipe deadline h f).thermal = s.thermal ∧
    (s.dispatch pipe deadline h f).images = s.images ∧ (s.dispatch pipe deadline h f).tap = s.tap ∧
    (s.dispatch pipe deadline h f).fresh = s.fresh := by
  unfold State.dispatch
  (repeat' split) <;> simp

@[simp] theorem frame_endWindow (s : State) (h : HeadNo) (g : Generation) : (s.endWindow h g).pending = s.pending ∧
    (s.endWindow h g).deferred = s.deferred ∧ (s.endWindow h g).dev = s.dev ∧ (s.endWindow h g).power = s.power ∧
    (s.endWindow h g).clk = s.clk ∧ (s.endWindow h g).fuses = s.fuses ∧ (s.endWindow h g).blobs = s.blobs ∧
    (s.endWindow h g).flash = s.flash ∧ (s.endWindow h g).recorder = s.recorder ∧ (s.endWindow h g).auth = s.auth ∧
    (s.endWindow h g).spi = s.spi ∧ (s.endWindow h g).ring = s.ring ∧ (s.endWindow h g).sieve = s.sieve ∧
    (s.endWindow h g).engine = s.engine ∧ (s.endWindow h g).time = s.time ∧ (s.endWindow h g).motion = s.motion ∧
    (s.endWindow h g).clocks = s.clocks ∧ (s.endWindow h g).thermal = s.thermal ∧
    (s.endWindow h g).images = s.images ∧ (s.endWindow h g).tap = s.tap ∧ (s.endWindow h g).fresh = s.fresh := by
  unfold State.endWindow
  (repeat' split) <;> simp

@[simp] theorem frame_flicker (s : State) (h : HeadNo) (f : CamFrame) (x : Features) : (s.flicker h f x).pending = s.pending ∧
    (s.flicker h f x).deferred = s.deferred ∧ (s.flicker h f x).dev = s.dev ∧ (s.flicker h f x).power = s.power ∧
    (s.flicker h f x).clk = s.clk ∧ (s.flicker h f x).fuses = s.fuses ∧ (s.flicker h f x).blobs = s.blobs ∧
    (s.flicker h f x).flash = s.flash ∧ (s.flicker h f x).recorder = s.recorder ∧ (s.flicker h f x).auth = s.auth ∧
    (s.flicker h f x).spi = s.spi ∧ (s.flicker h f x).ring = s.ring ∧ (s.flicker h f x).sieve = s.sieve ∧
    (s.flicker h f x).engine = s.engine ∧ (s.flicker h f x).time = s.time ∧ (s.flicker h f x).motion = s.motion ∧
    (s.flicker h f x).clocks = s.clocks ∧ (s.flicker h f x).thermal = s.thermal ∧
    (s.flicker h f x).images = s.images ∧ (s.flicker h f x).tap = s.tap ∧ (s.flicker h f x).fresh = s.fresh := by
  unfold State.flicker
  (repeat' split) <;> simp

@[simp] theorem frame_flushOutliers (s : State) (h : HeadNo) : (s.flushOutliers h).pending = s.pending ∧
    (s.flushOutliers h).deferred = s.deferred ∧ (s.flushOutliers h).dev = s.dev ∧
    (s.flushOutliers h).power = s.power ∧ (s.flushOutliers h).clk = s.clk ∧ (s.flushOutliers h).fuses = s.fuses ∧
    (s.flushOutliers h).blobs = s.blobs ∧ (s.flushOutliers h).flash = s.flash ∧
    (s.flushOutliers h).leaves = s.leaves ∧ (s.flushOutliers h).recorder = s.recorder ∧
    (s.flushOutliers h).auth = s.auth ∧ (s.flushOutliers h).spi = s.spi ∧ (s.flushOutliers h).ring = s.ring ∧
    (s.flushOutliers h).sieve = s.sieve ∧ (s.flushOutliers h).engine = s.engine ∧ (s.flushOutliers h).time = s.time ∧
    (s.flushOutliers h).motion = s.motion ∧ (s.flushOutliers h).clocks = s.clocks ∧
    (s.flushOutliers h).thermal = s.thermal ∧ (s.flushOutliers h).images = s.images ∧
    (s.flushOutliers h).tap = s.tap ∧ (s.flushOutliers h).fresh = s.fresh := by
  unfold State.flushOutliers
  (repeat' split) <;> simp

@[simp] theorem frame_outlierFrame (s : State) (h : HeadNo) (f : CamFrame) (mask : Nat) : (s.outlierFrame h f mask).pending = s.pending ∧
    (s.outlierFrame h f mask).deferred = s.deferred ∧ (s.outlierFrame h f mask).dev = s.dev ∧
    (s.outlierFrame h f mask).power = s.power ∧ (s.outlierFrame h f mask).clk = s.clk ∧
    (s.outlierFrame h f mask).fuses = s.fuses ∧ (s.outlierFrame h f mask).blobs = s.blobs ∧
    (s.outlierFrame h f mask).flash = s.flash ∧ (s.outlierFrame h f mask).recorder = s.recorder ∧
    (s.outlierFrame h f mask).auth = s.auth ∧ (s.outlierFrame h f mask).spi = s.spi ∧
    (s.outlierFrame h f mask).ring = s.ring ∧ (s.outlierFrame h f mask).job = s.job ∧
    (s.outlierFrame h f mask).sieve = s.sieve ∧ (s.outlierFrame h f mask).engine = s.engine ∧
    (s.outlierFrame h f mask).time = s.time ∧ (s.outlierFrame h f mask).motion = s.motion ∧
    (s.outlierFrame h f mask).dram = s.dram ∧ (s.outlierFrame h f mask).clocks = s.clocks ∧
    (s.outlierFrame h f mask).thermal = s.thermal ∧ (s.outlierFrame h f mask).images = s.images ∧
    (s.outlierFrame h f mask).tap = s.tap ∧ (s.outlierFrame h f mask).fresh = s.fresh := by
  unfold State.outlierFrame
  (repeat' split) <;> simp

@[simp] theorem frame_closedParts (s : State) (h : HeadNo) : (s.closedParts h).pending = s.pending ∧
    (s.closedParts h).deferred = s.deferred ∧ (s.closedParts h).dev = s.dev ∧ (s.closedParts h).power = s.power ∧
    (s.closedParts h).clk = s.clk ∧ (s.closedParts h).fuses = s.fuses ∧ (s.closedParts h).blobs = s.blobs ∧
    (s.closedParts h).flash = s.flash ∧ (s.closedParts h).leaves = s.leaves ∧
    (s.closedParts h).recorder = s.recorder ∧ (s.closedParts h).auth = s.auth ∧ (s.closedParts h).spi = s.spi ∧
    (s.closedParts h).ring = s.ring ∧ (s.closedParts h).sieve = s.sieve ∧ (s.closedParts h).engine = s.engine ∧
    (s.closedParts h).time = s.time ∧ (s.closedParts h).motion = s.motion ∧ (s.closedParts h).clocks = s.clocks ∧
    (s.closedParts h).thermal = s.thermal ∧ (s.closedParts h).images = s.images ∧ (s.closedParts h).tap = s.tap ∧
    (s.closedParts h).fresh = s.fresh := by
  unfold State.closedParts
  dsimp only
  (repeat' split) <;> simp

@[simp] theorem frame_evaluateOutliers (s : State) (h : HeadNo) (f : CamFrame) (mask : Nat) : (s.evaluateOutliers h f mask).pending = s.pending ∧
    (s.evaluateOutliers h f mask).deferred = s.deferred ∧ (s.evaluateOutliers h f mask).dev = s.dev ∧
    (s.evaluateOutliers h f mask).power = s.power ∧ (s.evaluateOutliers h f mask).clk = s.clk ∧
    (s.evaluateOutliers h f mask).fuses = s.fuses ∧ (s.evaluateOutliers h f mask).blobs = s.blobs ∧
    (s.evaluateOutliers h f mask).flash = s.flash ∧ (s.evaluateOutliers h f mask).recorder = s.recorder ∧
    (s.evaluateOutliers h f mask).auth = s.auth ∧ (s.evaluateOutliers h f mask).spi = s.spi ∧
    (s.evaluateOutliers h f mask).ring = s.ring ∧ (s.evaluateOutliers h f mask).sieve = s.sieve ∧
    (s.evaluateOutliers h f mask).engine = s.engine ∧ (s.evaluateOutliers h f mask).time = s.time ∧
    (s.evaluateOutliers h f mask).motion = s.motion ∧ (s.evaluateOutliers h f mask).clocks = s.clocks ∧
    (s.evaluateOutliers h f mask).thermal = s.thermal ∧ (s.evaluateOutliers h f mask).images = s.images ∧
    (s.evaluateOutliers h f mask).tap = s.tap ∧ (s.evaluateOutliers h f mask).fresh = s.fresh := by
  unfold State.evaluateOutliers
  (repeat' split) <;> simp

@[simp] theorem frame_logFeature (s : State) (bytes : List Byte) : (s.logFeature bytes).pending = s.pending ∧
    (s.logFeature bytes).deferred = s.deferred ∧ (s.logFeature bytes).dev = s.dev ∧
    (s.logFeature bytes).power = s.power ∧ (s.logFeature bytes).clk = s.clk ∧ (s.logFeature bytes).fuses = s.fuses ∧
    (s.logFeature bytes).regs = s.regs ∧ (s.logFeature bytes).blobs = s.blobs ∧ (s.logFeature bytes).flash = s.flash ∧
    (s.logFeature bytes).leaves = s.leaves ∧ (s.logFeature bytes).recorder = s.recorder ∧
    (s.logFeature bytes).sessions = s.sessions ∧ (s.logFeature bytes).auth = s.auth ∧
    (s.logFeature bytes).spi = s.spi ∧ (s.logFeature bytes).ring = s.ring ∧
    (s.logFeature bytes).ownWaiting = s.ownWaiting ∧ (s.logFeature bytes).out = s.out ∧
    (s.logFeature bytes).job = s.job ∧ (s.logFeature bytes).heads = s.heads ∧ (s.logFeature bytes).engine = s.engine ∧
    (s.logFeature bytes).time = s.time ∧ (s.logFeature bytes).twin = s.twin ∧ (s.logFeature bytes).motion = s.motion ∧
    (s.logFeature bytes).clocks = s.clocks ∧ (s.logFeature bytes).thermal = s.thermal ∧
    (s.logFeature bytes).images = s.images ∧ (s.logFeature bytes).tap = s.tap ∧
    (s.logFeature bytes).fresh = s.fresh := by
  unfold State.logFeature
  (repeat' split) <;> simp

@[simp] theorem frame_placeRecord (s : State) (h : HeadNo) (f : CamFrame) (g : Generation) (bytes : List Byte) : (s.placeRecord h f g bytes).pending = s.pending ∧
    (s.placeRecord h f g bytes).deferred = s.deferred ∧ (s.placeRecord h f g bytes).dev = s.dev ∧
    (s.placeRecord h f g bytes).power = s.power ∧ (s.placeRecord h f g bytes).clk = s.clk ∧
    (s.placeRecord h f g bytes).fuses = s.fuses ∧ (s.placeRecord h f g bytes).regs = s.regs ∧
    (s.placeRecord h f g bytes).blobs = s.blobs ∧ (s.placeRecord h f g bytes).flash = s.flash ∧
    (s.placeRecord h f g bytes).leaves = s.leaves ∧ (s.placeRecord h f g bytes).recorder = s.recorder ∧
    (s.placeRecord h f g bytes).auth = s.auth ∧ (s.placeRecord h f g bytes).spi = s.spi ∧
    (s.placeRecord h f g bytes).ring = s.ring ∧ (s.placeRecord h f g bytes).job = s.job ∧
    (s.placeRecord h f g bytes).engine = s.engine ∧ (s.placeRecord h f g bytes).time = s.time ∧
    (s.placeRecord h f g bytes).motion = s.motion ∧ (s.placeRecord h f g bytes).clocks = s.clocks ∧
    (s.placeRecord h f g bytes).thermal = s.thermal ∧ (s.placeRecord h f g bytes).images = s.images ∧
    (s.placeRecord h f g bytes).tap = s.tap ∧ (s.placeRecord h f g bytes).fresh = s.fresh := by
  unfold State.placeRecord
  (repeat' split) <;> simp

@[simp] theorem frame_accrue (s : State) : (s.accrue).pending = s.pending ∧ (s.accrue).deferred = s.deferred ∧
    (s.accrue).dev = s.dev ∧ (s.accrue).power = s.power ∧ (s.accrue).clk = s.clk ∧ (s.accrue).fuses = s.fuses ∧
    (s.accrue).regs = s.regs ∧ (s.accrue).blobs = s.blobs ∧ (s.accrue).flash = s.flash ∧
    (s.accrue).leaves = s.leaves ∧ (s.accrue).recorder = s.recorder ∧ (s.accrue).sessions = s.sessions ∧
    (s.accrue).auth = s.auth ∧ (s.accrue).spi = s.spi ∧ (s.accrue).ring = s.ring ∧
    (s.accrue).ownWaiting = s.ownWaiting ∧ (s.accrue).out = s.out ∧ (s.accrue).job = s.job ∧
    (s.accrue).heads = s.heads ∧ (s.accrue).engine = s.engine ∧ (s.accrue).time = s.time ∧ (s.accrue).twin = s.twin ∧
    (s.accrue).motion = s.motion ∧ (s.accrue).dram = s.dram ∧ (s.accrue).clocks = s.clocks ∧
    (s.accrue).thermal = s.thermal ∧ (s.accrue).images = s.images ∧ (s.accrue).tap = s.tap ∧
    (s.accrue).fresh = s.fresh := by
  unfold State.accrue
  (repeat' split) <;> simp

@[simp] theorem frame_archiveOrFree (s : State) (h : HeadNo) (f : CamFrame) (g : Generation) (status : Nat) : (s.archiveOrFree h f g status).pending = s.pending ∧
    (s.archiveOrFree h f g status).deferred = s.deferred ∧ (s.archiveOrFree h f g status).dev = s.dev ∧
    (s.archiveOrFree h f g status).power = s.power ∧ (s.archiveOrFree h f g status).clk = s.clk ∧
    (s.archiveOrFree h f g status).fuses = s.fuses ∧ (s.archiveOrFree h f g status).blobs = s.blobs ∧
    (s.archiveOrFree h f g status).flash = s.flash ∧ (s.archiveOrFree h f g status).leaves = s.leaves ∧
    (s.archiveOrFree h f g status).recorder = s.recorder ∧ (s.archiveOrFree h f g status).sessions = s.sessions ∧
    (s.archiveOrFree h f g status).auth = s.auth ∧ (s.archiveOrFree h f g status).spi = s.spi ∧
    (s.archiveOrFree h f g status).ring = s.ring ∧ (s.archiveOrFree h f g status).ownWaiting = s.ownWaiting ∧
    (s.archiveOrFree h f g status).out = s.out ∧ (s.archiveOrFree h f g status).job = s.job ∧
    (s.archiveOrFree h f g status).engine = s.engine ∧ (s.archiveOrFree h f g status).time = s.time ∧
    (s.archiveOrFree h f g status).twin = s.twin ∧ (s.archiveOrFree h f g status).motion = s.motion ∧
    (s.archiveOrFree h f g status).dram = s.dram ∧ (s.archiveOrFree h f g status).clocks = s.clocks ∧
    (s.archiveOrFree h f g status).thermal = s.thermal ∧ (s.archiveOrFree h f g status).images = s.images ∧
    (s.archiveOrFree h f g status).tap = s.tap ∧ (s.archiveOrFree h f g status).fresh = s.fresh := by
  unfold State.archiveOrFree
  (repeat' split) <;> simp

@[simp] theorem frame_passEnds (s : State) (pipe cycles : Nat) : (s.passEnds pipe cycles).pending = s.pending ∧
    (s.passEnds pipe cycles).deferred = s.deferred ∧ (s.passEnds pipe cycles).dev = s.dev ∧
    (s.passEnds pipe cycles).power = s.power ∧ (s.passEnds pipe cycles).clk = s.clk ∧
    (s.passEnds pipe cycles).fuses = s.fuses ∧ (s.passEnds pipe cycles).blobs = s.blobs ∧
    (s.passEnds pipe cycles).flash = s.flash ∧ (s.passEnds pipe cycles).leaves = s.leaves ∧
    (s.passEnds pipe cycles).recorder = s.recorder ∧ (s.passEnds pipe cycles).sessions = s.sessions ∧
    (s.passEnds pipe cycles).auth = s.auth ∧ (s.passEnds pipe cycles).spi = s.spi ∧
    (s.passEnds pipe cycles).ring = s.ring ∧ (s.passEnds pipe cycles).ownWaiting = s.ownWaiting ∧
    (s.passEnds pipe cycles).out = s.out ∧ (s.passEnds pipe cycles).job = s.job ∧
    (s.passEnds pipe cycles).heads = s.heads ∧ (s.passEnds pipe cycles).engine = s.engine ∧
    (s.passEnds pipe cycles).time = s.time ∧ (s.passEnds pipe cycles).twin = s.twin ∧
    (s.passEnds pipe cycles).motion = s.motion ∧ (s.passEnds pipe cycles).dram = s.dram ∧
    (s.passEnds pipe cycles).clocks = s.clocks ∧ (s.passEnds pipe cycles).thermal = s.thermal ∧
    (s.passEnds pipe cycles).images = s.images ∧ (s.passEnds pipe cycles).tap = s.tap ∧
    (s.passEnds pipe cycles).fresh = s.fresh := by
  unfold State.passEnds
  (repeat' split) <;> simp

@[simp] theorem frame_countPass (s : State) (h : HeadNo) (only : Bool) : (s.countPass h only).pending = s.pending ∧
    (s.countPass h only).deferred = s.deferred ∧ (s.countPass h only).dev = s.dev ∧
    (s.countPass h only).power = s.power ∧ (s.countPass h only).clk = s.clk ∧ (s.countPass h only).fuses = s.fuses ∧
    (s.countPass h only).blobs = s.blobs ∧ (s.countPass h only).flash = s.flash ∧
    (s.countPass h only).recorder = s.recorder ∧ (s.countPass h only).auth = s.auth ∧
    (s.countPass h only).spi = s.spi ∧ (s.countPass h only).ring = s.ring ∧ (s.countPass h only).job = s.job ∧
    (s.countPass h only).heads = s.heads ∧ (s.countPass h only).sieve = s.sieve ∧
    (s.countPass h only).engine = s.engine ∧ (s.countPass h only).time = s.time ∧
    (s.countPass h only).motion = s.motion ∧ (s.countPass h only).dram = s.dram ∧
    (s.countPass h only).clocks = s.clocks ∧ (s.countPass h only).thermal = s.thermal ∧
    (s.countPass h only).images = s.images ∧ (s.countPass h only).tap = s.tap ∧
    (s.countPass h only).fresh = s.fresh := by
  unfold State.countPass
  (repeat' split) <;> simp

@[simp] theorem frame_endDrops (s : State) (h : HeadNo) (f : CamFrame) : (s.endDrops h f).pending = s.pending ∧
    (s.endDrops h f).deferred = s.deferred ∧ (s.endDrops h f).dev = s.dev ∧ (s.endDrops h f).power = s.power ∧
    (s.endDrops h f).clk = s.clk ∧ (s.endDrops h f).fuses = s.fuses ∧ (s.endDrops h f).blobs = s.blobs ∧
    (s.endDrops h f).flash = s.flash ∧ (s.endDrops h f).leaves = s.leaves ∧ (s.endDrops h f).recorder = s.recorder ∧
    (s.endDrops h f).auth = s.auth ∧ (s.endDrops h f).spi = s.spi ∧ (s.endDrops h f).ring = s.ring ∧
    (s.endDrops h f).sieve = s.sieve ∧ (s.endDrops h f).engine = s.engine ∧ (s.endDrops h f).time = s.time ∧
    (s.endDrops h f).motion = s.motion ∧ (s.endDrops h f).clocks = s.clocks ∧ (s.endDrops h f).thermal = s.thermal ∧
    (s.endDrops h f).images = s.images ∧ (s.endDrops h f).tap = s.tap ∧ (s.endDrops h f).fresh = s.fresh := by
  unfold State.endDrops
  (repeat' split) <;> simp

@[simp] theorem frame_passDone (s : State) (pipe : Nat) (h : HeadNo) (f : CamFrame) : (s.passDone pipe h f).pending = s.pending ∧
    (s.passDone pipe h f).deferred = s.deferred ∧ (s.passDone pipe h f).dev = s.dev ∧
    (s.passDone pipe h f).power = s.power ∧ (s.passDone pipe h f).clk = s.clk ∧
    (s.passDone pipe h f).fuses = s.fuses ∧ (s.passDone pipe h f).blobs = s.blobs ∧
    (s.passDone pipe h f).flash = s.flash ∧ (s.passDone pipe h f).recorder = s.recorder ∧
    (s.passDone pipe h f).auth = s.auth ∧ (s.passDone pipe h f).spi = s.spi ∧ (s.passDone pipe h f).ring = s.ring ∧
    (s.passDone pipe h f).engine = s.engine ∧ (s.passDone pipe h f).time = s.time ∧
    (s.passDone pipe h f).motion = s.motion ∧ (s.passDone pipe h f).clocks = s.clocks ∧
    (s.passDone pipe h f).thermal = s.thermal ∧ (s.passDone pipe h f).images = s.images ∧
    (s.passDone pipe h f).tap = s.tap := by
  unfold State.passDone
  (repeat' split) <;> simp

@[simp] theorem frame_handOver (s : State) (h : HeadNo) (r : HeldRecord) : (s.handOver h r).pending = s.pending ∧
    (s.handOver h r).deferred = s.deferred ∧ (s.handOver h r).dev = s.dev ∧ (s.handOver h r).power = s.power ∧
    (s.handOver h r).clk = s.clk ∧ (s.handOver h r).fuses = s.fuses ∧ (s.handOver h r).regs = s.regs ∧
    (s.handOver h r).blobs = s.blobs ∧ (s.handOver h r).flash = s.flash ∧ (s.handOver h r).leaves = s.leaves ∧
    (s.handOver h r).recorder = s.recorder ∧ (s.handOver h r).sessions = s.sessions ∧ (s.handOver h r).auth = s.auth ∧
    (s.handOver h r).spi = s.spi ∧ (s.handOver h r).ring = s.ring ∧ (s.handOver h r).ownWaiting = s.ownWaiting ∧
    (s.handOver h r).out = s.out ∧ (s.handOver h r).job = s.job ∧ (s.handOver h r).heads = s.heads ∧
    (s.handOver h r).sieve = s.sieve ∧ (s.handOver h r).time = s.time ∧ (s.handOver h r).twin = s.twin ∧
    (s.handOver h r).motion = s.motion ∧ (s.handOver h r).dram = s.dram ∧ (s.handOver h r).clocks = s.clocks ∧
    (s.handOver h r).thermal = s.thermal ∧ (s.handOver h r).images = s.images ∧ (s.handOver h r).tap = s.tap ∧
    (s.handOver h r).fresh = s.fresh := by
  unfold State.handOver
  (repeat' split) <;> simp

@[simp] theorem frame_commit (s : State) (h : HeadNo) : (s.commit h).pending = s.pending ∧
    (s.commit h).deferred = s.deferred ∧ (s.commit h).dev = s.dev ∧ (s.commit h).power = s.power ∧
    (s.commit h).clk = s.clk ∧ (s.commit h).fuses = s.fuses ∧ (s.commit h).regs = s.regs ∧
    (s.commit h).blobs = s.blobs ∧ (s.commit h).flash = s.flash ∧ (s.commit h).leaves = s.leaves ∧
    (s.commit h).recorder = s.recorder ∧ (s.commit h).sessions = s.sessions ∧ (s.commit h).auth = s.auth ∧
    (s.commit h).spi = s.spi ∧ (s.commit h).ring = s.ring ∧ (s.commit h).ownWaiting = s.ownWaiting ∧
    (s.commit h).out = s.out ∧ (s.commit h).job = s.job ∧ (s.commit h).sieve = s.sieve ∧
    (s.commit h).engine = s.engine ∧ (s.commit h).time = s.time ∧ (s.commit h).twin = s.twin ∧
    (s.commit h).motion = s.motion ∧ (s.commit h).dram = s.dram ∧ (s.commit h).clocks = s.clocks ∧
    (s.commit h).thermal = s.thermal ∧ (s.commit h).images = s.images ∧ (s.commit h).tap = s.tap ∧
    (s.commit h).fresh = s.fresh := by
  unfold State.commit
  (repeat' split) <;> simp

@[simp] theorem frame_execCommit (path : Path) (h : Nat) (s : State) (s0 : State) : (outcomeState s0 (execCommit path h s)).pending = s.pending ∧
    (outcomeState s0 (execCommit path h s)).dev = s.dev ∧ (outcomeState s0 (execCommit path h s)).power = s.power ∧
    (outcomeState s0 (execCommit path h s)).clk = s.clk ∧ (outcomeState s0 (execCommit path h s)).fuses = s.fuses ∧
    (outcomeState s0 (execCommit path h s)).regs = s.regs ∧ (outcomeState s0 (execCommit path h s)).blobs = s.blobs ∧
    (outcomeState s0 (execCommit path h s)).flash = s.flash ∧
    (outcomeState s0 (execCommit path h s)).leaves = s.leaves ∧
    (outcomeState s0 (execCommit path h s)).recorder = s.recorder ∧
    (outcomeState s0 (execCommit path h s)).sessions = s.sessions ∧
    (outcomeState s0 (execCommit path h s)).auth = s.auth ∧ (outcomeState s0 (execCommit path h s)).spi = s.spi ∧
    (outcomeState s0 (execCommit path h s)).ring = s.ring ∧
    (outcomeState s0 (execCommit path h s)).ownWaiting = s.ownWaiting ∧
    (outcomeState s0 (execCommit path h s)).job = s.job ∧ (outcomeState s0 (execCommit path h s)).sieve = s.sieve ∧
    (outcomeState s0 (execCommit path h s)).engine = s.engine ∧
    (outcomeState s0 (execCommit path h s)).time = s.time ∧
    (outcomeState s0 (execCommit path h s)).motion = s.motion ∧
    (outcomeState s0 (execCommit path h s)).dram = s.dram ∧
    (outcomeState s0 (execCommit path h s)).clocks = s.clocks ∧
    (outcomeState s0 (execCommit path h s)).thermal = s.thermal ∧
    (outcomeState s0 (execCommit path h s)).images = s.images ∧ (outcomeState s0 (execCommit path h s)).tap = s.tap ∧
    (outcomeState s0 (execCommit path h s)).fresh = s.fresh := by
  simp only [execCommit]
  (repeat' split) <;> simp

@[simp] theorem frame_logRead (s : State) : (s.logRead).pending = s.pending ∧ (s.logRead).deferred = s.deferred ∧
    (s.logRead).dev = s.dev ∧ (s.logRead).power = s.power ∧ (s.logRead).clk = s.clk ∧ (s.logRead).fuses = s.fuses ∧
    (s.logRead).blobs = s.blobs ∧ (s.logRead).flash = s.flash ∧ (s.logRead).leaves = s.leaves ∧
    (s.logRead).recorder = s.recorder ∧ (s.logRead).sessions = s.sessions ∧ (s.logRead).auth = s.auth ∧
    (s.logRead).spi = s.spi ∧ (s.logRead).ring = s.ring ∧ (s.logRead).ownWaiting = s.ownWaiting ∧
    (s.logRead).out = s.out ∧ (s.logRead).job = s.job ∧ (s.logRead).heads = s.heads ∧ (s.logRead).sieve = s.sieve ∧
    (s.logRead).engine = s.engine ∧ (s.logRead).time = s.time ∧ (s.logRead).twin = s.twin ∧
    (s.logRead).motion = s.motion ∧ (s.logRead).clocks = s.clocks ∧ (s.logRead).thermal = s.thermal ∧
    (s.logRead).images = s.images ∧ (s.logRead).tap = s.tap ∧ (s.logRead).fresh = s.fresh := by
  unfold State.logRead
  (repeat' split) <;> simp

@[simp] theorem frame_execFeatureLogBlockRead (path : Path) (s : State) (s0 : State) : (outcomeState s0 (execFeatureLogBlockRead path s)).pending = s.pending ∧
    (outcomeState s0 (execFeatureLogBlockRead path s)).dev = s.dev ∧
    (outcomeState s0 (execFeatureLogBlockRead path s)).power = s.power ∧
    (outcomeState s0 (execFeatureLogBlockRead path s)).clk = s.clk ∧
    (outcomeState s0 (execFeatureLogBlockRead path s)).fuses = s.fuses ∧
    (outcomeState s0 (execFeatureLogBlockRead path s)).blobs = s.blobs ∧
    (outcomeState s0 (execFeatureLogBlockRead path s)).flash = s.flash ∧
    (outcomeState s0 (execFeatureLogBlockRead path s)).leaves = s.leaves ∧
    (outcomeState s0 (execFeatureLogBlockRead path s)).recorder = s.recorder ∧
    (outcomeState s0 (execFeatureLogBlockRead path s)).sessions = s.sessions ∧
    (outcomeState s0 (execFeatureLogBlockRead path s)).auth = s.auth ∧
    (outcomeState s0 (execFeatureLogBlockRead path s)).spi = s.spi ∧
    (outcomeState s0 (execFeatureLogBlockRead path s)).ring = s.ring ∧
    (outcomeState s0 (execFeatureLogBlockRead path s)).ownWaiting = s.ownWaiting ∧
    (outcomeState s0 (execFeatureLogBlockRead path s)).job = s.job ∧
    (outcomeState s0 (execFeatureLogBlockRead path s)).heads = s.heads ∧
    (outcomeState s0 (execFeatureLogBlockRead path s)).sieve = s.sieve ∧
    (outcomeState s0 (execFeatureLogBlockRead path s)).engine = s.engine ∧
    (outcomeState s0 (execFeatureLogBlockRead path s)).time = s.time ∧
    (outcomeState s0 (execFeatureLogBlockRead path s)).twin = s.twin ∧
    (outcomeState s0 (execFeatureLogBlockRead path s)).motion = s.motion ∧
    (outcomeState s0 (execFeatureLogBlockRead path s)).clocks = s.clocks ∧
    (outcomeState s0 (execFeatureLogBlockRead path s)).thermal = s.thermal ∧
    (outcomeState s0 (execFeatureLogBlockRead path s)).images = s.images ∧
    (outcomeState s0 (execFeatureLogBlockRead path s)).tap = s.tap ∧
    (outcomeState s0 (execFeatureLogBlockRead path s)).fresh = s.fresh := by
  simp only [execFeatureLogBlockRead]
  (repeat' split) <;> simp

@[simp] theorem frame_inAcquire (s : State) (h : HeadNo) (sound : Bool) (bs : List Byte) : (s.inAcquire h sound bs).pending = s.pending ∧
    (s.inAcquire h sound bs).deferred = s.deferred ∧ (s.inAcquire h sound bs).dev = s.dev ∧
    (s.inAcquire h sound bs).power = s.power ∧ (s.inAcquire h sound bs).clk = s.clk ∧
    (s.inAcquire h sound bs).fuses = s.fuses ∧ (s.inAcquire h sound bs).regs = s.regs ∧
    (s.inAcquire h sound bs).blobs = s.blobs ∧ (s.inAcquire h sound bs).flash = s.flash ∧
    (s.inAcquire h sound bs).leaves = s.leaves ∧ (s.inAcquire h sound bs).recorder = s.recorder ∧
    (s.inAcquire h sound bs).sessions = s.sessions ∧ (s.inAcquire h sound bs).auth = s.auth ∧
    (s.inAcquire h sound bs).spi = s.spi ∧ (s.inAcquire h sound bs).ring = s.ring ∧
    (s.inAcquire h sound bs).ownWaiting = s.ownWaiting ∧ (s.inAcquire h sound bs).out = s.out ∧
    (s.inAcquire h sound bs).job = s.job ∧ (s.inAcquire h sound bs).sieve = s.sieve ∧
    (s.inAcquire h sound bs).engine = s.engine ∧ (s.inAcquire h sound bs).time = s.time ∧
    (s.inAcquire h sound bs).twin = s.twin ∧ (s.inAcquire h sound bs).motion = s.motion ∧
    (s.inAcquire h sound bs).dram = s.dram ∧ (s.inAcquire h sound bs).clocks = s.clocks ∧
    (s.inAcquire h sound bs).thermal = s.thermal ∧ (s.inAcquire h sound bs).images = s.images ∧
    (s.inAcquire h sound bs).tap = s.tap ∧ (s.inAcquire h sound bs).fresh = s.fresh := by
  unfold State.inAcquire
  (repeat' split) <;> simp

@[simp] theorem frame_measureArrival (s : State) (h : HeadNo) (bs : List Byte) (arrival : Int) : (s.measureArrival h bs arrival).pending = s.pending ∧
    (s.measureArrival h bs arrival).deferred = s.deferred ∧ (s.measureArrival h bs arrival).dev = s.dev ∧
    (s.measureArrival h bs arrival).power = s.power ∧ (s.measureArrival h bs arrival).clk = s.clk ∧
    (s.measureArrival h bs arrival).fuses = s.fuses ∧ (s.measureArrival h bs arrival).regs = s.regs ∧
    (s.measureArrival h bs arrival).blobs = s.blobs ∧ (s.measureArrival h bs arrival).flash = s.flash ∧
    (s.measureArrival h bs arrival).leaves = s.leaves ∧ (s.measureArrival h bs arrival).recorder = s.recorder ∧
    (s.measureArrival h bs arrival).sessions = s.sessions ∧ (s.measureArrival h bs arrival).auth = s.auth ∧
    (s.measureArrival h bs arrival).spi = s.spi ∧ (s.measureArrival h bs arrival).ring = s.ring ∧
    (s.measureArrival h bs arrival).ownWaiting = s.ownWaiting ∧ (s.measureArrival h bs arrival).out = s.out ∧
    (s.measureArrival h bs arrival).job = s.job ∧ (s.measureArrival h bs arrival).sieve = s.sieve ∧
    (s.measureArrival h bs arrival).engine = s.engine ∧ (s.measureArrival h bs arrival).time = s.time ∧
    (s.measureArrival h bs arrival).twin = s.twin ∧ (s.measureArrival h bs arrival).motion = s.motion ∧
    (s.measureArrival h bs arrival).dram = s.dram ∧ (s.measureArrival h bs arrival).clocks = s.clocks ∧
    (s.measureArrival h bs arrival).thermal = s.thermal ∧ (s.measureArrival h bs arrival).images = s.images ∧
    (s.measureArrival h bs arrival).tap = s.tap ∧ (s.measureArrival h bs arrival).fresh = s.fresh := by
  unfold State.measureArrival
  dsimp only
  (repeat' split) <;> simp

@[simp] theorem frame_inAlign (s : State) (h : HeadNo) (sound : Bool) (bs : List Byte) (arrival : Int) : (s.inAlign h sound bs arrival).pending = s.pending ∧
    (s.inAlign h sound bs arrival).deferred = s.deferred ∧ (s.inAlign h sound bs arrival).dev = s.dev ∧
    (s.inAlign h sound bs arrival).power = s.power ∧ (s.inAlign h sound bs arrival).clk = s.clk ∧
    (s.inAlign h sound bs arrival).fuses = s.fuses ∧ (s.inAlign h sound bs arrival).regs = s.regs ∧
    (s.inAlign h sound bs arrival).blobs = s.blobs ∧ (s.inAlign h sound bs arrival).flash = s.flash ∧
    (s.inAlign h sound bs arrival).leaves = s.leaves ∧ (s.inAlign h sound bs arrival).recorder = s.recorder ∧
    (s.inAlign h sound bs arrival).sessions = s.sessions ∧ (s.inAlign h sound bs arrival).auth = s.auth ∧
    (s.inAlign h sound bs arrival).spi = s.spi ∧ (s.inAlign h sound bs arrival).ring = s.ring ∧
    (s.inAlign h sound bs arrival).ownWaiting = s.ownWaiting ∧ (s.inAlign h sound bs arrival).out = s.out ∧
    (s.inAlign h sound bs arrival).job = s.job ∧ (s.inAlign h sound bs arrival).sieve = s.sieve ∧
    (s.inAlign h sound bs arrival).engine = s.engine ∧ (s.inAlign h sound bs arrival).time = s.time ∧
    (s.inAlign h sound bs arrival).twin = s.twin ∧ (s.inAlign h sound bs arrival).motion = s.motion ∧
    (s.inAlign h sound bs arrival).dram = s.dram ∧ (s.inAlign h sound bs arrival).clocks = s.clocks ∧
    (s.inAlign h sound bs arrival).thermal = s.thermal ∧ (s.inAlign h sound bs arrival).images = s.images ∧
    (s.inAlign h sound bs arrival).tap = s.tap ∧ (s.inAlign h sound bs arrival).fresh = s.fresh := by
  unfold State.inAlign
  (repeat' split) <;> simp

@[simp] theorem frame_enterOperation (s : State) (h : HeadNo) : (s.enterOperation h).pending = s.pending ∧
    (s.enterOperation h).deferred = s.deferred ∧ (s.enterOperation h).dev = s.dev ∧
    (s.enterOperation h).power = s.power ∧ (s.enterOperation h).clk = s.clk ∧ (s.enterOperation h).fuses = s.fuses ∧
    (s.enterOperation h).regs = s.regs ∧ (s.enterOperation h).blobs = s.blobs ∧ (s.enterOperation h).flash = s.flash ∧
    (s.enterOperation h).leaves = s.leaves ∧ (s.enterOperation h).recorder = s.recorder ∧
    (s.enterOperation h).sessions = s.sessions ∧ (s.enterOperation h).auth = s.auth ∧
    (s.enterOperation h).spi = s.spi ∧ (s.enterOperation h).ring = s.ring ∧
    (s.enterOperation h).ownWaiting = s.ownWaiting ∧ (s.enterOperation h).out = s.out ∧
    (s.enterOperation h).job = s.job ∧ (s.enterOperation h).sieve = s.sieve ∧ (s.enterOperation h).engine = s.engine ∧
    (s.enterOperation h).time = s.time ∧ (s.enterOperation h).twin = s.twin ∧ (s.enterOperation h).motion = s.motion ∧
    (s.enterOperation h).dram = s.dram ∧ (s.enterOperation h).clocks = s.clocks ∧
    (s.enterOperation h).thermal = s.thermal ∧ (s.enterOperation h).images = s.images ∧
    (s.enterOperation h).tap = s.tap ∧ (s.enterOperation h).fresh = s.fresh := by
  unfold State.enterOperation
  (repeat' split) <;> simp

@[simp] theorem frame_inNegotiate (s : State) (h : HeadNo) (sound : Bool) (bs : List Byte) : (s.inNegotiate h sound bs).pending = s.pending ∧
    (s.inNegotiate h sound bs).deferred = s.deferred ∧ (s.inNegotiate h sound bs).dev = s.dev ∧
    (s.inNegotiate h sound bs).power = s.power ∧ (s.inNegotiate h sound bs).clk = s.clk ∧
    (s.inNegotiate h sound bs).fuses = s.fuses ∧ (s.inNegotiate h sound bs).regs = s.regs ∧
    (s.inNegotiate h sound bs).blobs = s.blobs ∧ (s.inNegotiate h sound bs).flash = s.flash ∧
    (s.inNegotiate h sound bs).leaves = s.leaves ∧ (s.inNegotiate h sound bs).recorder = s.recorder ∧
    (s.inNegotiate h sound bs).sessions = s.sessions ∧ (s.inNegotiate h sound bs).auth = s.auth ∧
    (s.inNegotiate h sound bs).spi = s.spi ∧ (s.inNegotiate h sound bs).ring = s.ring ∧
    (s.inNegotiate h sound bs).ownWaiting = s.ownWaiting ∧ (s.inNegotiate h sound bs).out = s.out ∧
    (s.inNegotiate h sound bs).job = s.job ∧ (s.inNegotiate h sound bs).sieve = s.sieve ∧
    (s.inNegotiate h sound bs).engine = s.engine ∧ (s.inNegotiate h sound bs).time = s.time ∧
    (s.inNegotiate h sound bs).twin = s.twin ∧ (s.inNegotiate h sound bs).motion = s.motion ∧
    (s.inNegotiate h sound bs).dram = s.dram ∧ (s.inNegotiate h sound bs).clocks = s.clocks ∧
    (s.inNegotiate h sound bs).thermal = s.thermal ∧ (s.inNegotiate h sound bs).images = s.images ∧
    (s.inNegotiate h sound bs).tap = s.tap ∧ (s.inNegotiate h sound bs).fresh = s.fresh := by
  unfold State.inNegotiate
  dsimp only
  (repeat' split) <;> simp

@[simp] theorem frame_countInvalid (s : State) (h : HeadNo) : (s.countInvalid h).pending = s.pending ∧
    (s.countInvalid h).deferred = s.deferred ∧ (s.countInvalid h).dev = s.dev ∧ (s.countInvalid h).power = s.power ∧
    (s.countInvalid h).clk = s.clk ∧ (s.countInvalid h).fuses = s.fuses ∧ (s.countInvalid h).blobs = s.blobs ∧
    (s.countInvalid h).flash = s.flash ∧ (s.countInvalid h).recorder = s.recorder ∧ (s.countInvalid h).auth = s.auth ∧
    (s.countInvalid h).spi = s.spi ∧ (s.countInvalid h).ring = s.ring ∧ (s.countInvalid h).job = s.job ∧
    (s.countInvalid h).heads = s.heads ∧ (s.countInvalid h).sieve = s.sieve ∧ (s.countInvalid h).engine = s.engine ∧
    (s.countInvalid h).time = s.time ∧ (s.countInvalid h).motion = s.motion ∧ (s.countInvalid h).dram = s.dram ∧
    (s.countInvalid h).clocks = s.clocks ∧ (s.countInvalid h).thermal = s.thermal ∧
    (s.countInvalid h).images = s.images ∧ (s.countInvalid h).tap = s.tap ∧ (s.countInvalid h).fresh = s.fresh := by
  unfold State.countInvalid
  (repeat' split) <;> simp

@[simp] theorem frame_track (s : State) (h : HeadNo) (a : ActualSample) : (s.track h a).pending = s.pending ∧
    (s.track h a).deferred = s.deferred ∧ (s.track h a).dev = s.dev ∧ (s.track h a).power = s.power ∧
    (s.track h a).clk = s.clk ∧ (s.track h a).fuses = s.fuses ∧ (s.track h a).blobs = s.blobs ∧
    (s.track h a).flash = s.flash ∧ (s.track h a).recorder = s.recorder ∧ (s.track h a).auth = s.auth ∧
    (s.track h a).spi = s.spi ∧ (s.track h a).ring = s.ring ∧ (s.track h a).job = s.job ∧
    (s.track h a).heads = s.heads ∧ (s.track h a).sieve = s.sieve ∧ (s.track h a).engine = s.engine ∧
    (s.track h a).time = s.time ∧ (s.track h a).motion = s.motion ∧ (s.track h a).dram = s.dram ∧
    (s.track h a).clocks = s.clocks ∧ (s.track h a).thermal = s.thermal ∧ (s.track h a).images = s.images ∧
    (s.track h a).tap = s.tap ∧ (s.track h a).fresh = s.fresh := by
  unfold State.track
  dsimp only
  (repeat' split) <;> simp

@[simp] theorem frame_overspeed (s : State) (h : HeadNo) (meas cmd : Nat) (m : MarkedSpan) : (s.overspeed h meas cmd m).pending = s.pending ∧
    (s.overspeed h meas cmd m).deferred = s.deferred ∧ (s.overspeed h meas cmd m).dev = s.dev ∧
    (s.overspeed h meas cmd m).power = s.power ∧ (s.overspeed h meas cmd m).clk = s.clk ∧
    (s.overspeed h meas cmd m).fuses = s.fuses ∧ (s.overspeed h meas cmd m).blobs = s.blobs ∧
    (s.overspeed h meas cmd m).flash = s.flash ∧ (s.overspeed h meas cmd m).auth = s.auth ∧
    (s.overspeed h meas cmd m).spi = s.spi ∧ (s.overspeed h meas cmd m).ring = s.ring ∧
    (s.overspeed h meas cmd m).sieve = s.sieve ∧ (s.overspeed h meas cmd m).engine = s.engine ∧
    (s.overspeed h meas cmd m).time = s.time ∧ (s.overspeed h meas cmd m).motion = s.motion ∧
    (s.overspeed h meas cmd m).clocks = s.clocks ∧ (s.overspeed h meas cmd m).thermal = s.thermal ∧
    (s.overspeed h meas cmd m).images = s.images ∧ (s.overspeed h meas cmd m).tap = s.tap := by
  unfold State.overspeed
  (repeat' split) <;> simp

@[simp] theorem frame_speedRun (s : State) (h : HeadNo) (n : Nat) : (s.speedRun h n).pending = s.pending ∧
    (s.speedRun h n).deferred = s.deferred ∧ (s.speedRun h n).dev = s.dev ∧ (s.speedRun h n).power = s.power ∧
    (s.speedRun h n).clk = s.clk ∧ (s.speedRun h n).fuses = s.fuses ∧ (s.speedRun h n).regs = s.regs ∧
    (s.speedRun h n).blobs = s.blobs ∧ (s.speedRun h n).flash = s.flash ∧ (s.speedRun h n).leaves = s.leaves ∧
    (s.speedRun h n).recorder = s.recorder ∧ (s.speedRun h n).sessions = s.sessions ∧ (s.speedRun h n).auth = s.auth ∧
    (s.speedRun h n).spi = s.spi ∧ (s.speedRun h n).ring = s.ring ∧ (s.speedRun h n).ownWaiting = s.ownWaiting ∧
    (s.speedRun h n).out = s.out ∧ (s.speedRun h n).job = s.job ∧ (s.speedRun h n).sieve = s.sieve ∧
    (s.speedRun h n).engine = s.engine ∧ (s.speedRun h n).time = s.time ∧ (s.speedRun h n).twin = s.twin ∧
    (s.speedRun h n).motion = s.motion ∧ (s.speedRun h n).dram = s.dram ∧ (s.speedRun h n).clocks = s.clocks ∧
    (s.speedRun h n).thermal = s.thermal ∧ (s.speedRun h n).images = s.images ∧ (s.speedRun h n).tap = s.tap ∧
    (s.speedRun h n).fresh = s.fresh := by
  unfold State.speedRun
  (repeat' split) <;> simp

@[simp] theorem frame_checkSpeed (s : State) (h : HeadNo) : (s.checkSpeed h).pending = s.pending ∧
    (s.checkSpeed h).deferred = s.deferred ∧ (s.checkSpeed h).dev = s.dev ∧ (s.checkSpeed h).power = s.power ∧
    (s.checkSpeed h).clk = s.clk ∧ (s.checkSpeed h).fuses = s.fuses ∧ (s.checkSpeed h).blobs = s.blobs ∧
    (s.checkSpeed h).flash = s.flash ∧ (s.checkSpeed h).auth = s.auth ∧ (s.checkSpeed h).spi = s.spi ∧
    (s.checkSpeed h).ring = s.ring ∧ (s.checkSpeed h).sieve = s.sieve ∧ (s.checkSpeed h).engine = s.engine ∧
    (s.checkSpeed h).time = s.time ∧ (s.checkSpeed h).motion = s.motion ∧ (s.checkSpeed h).clocks = s.clocks ∧
    (s.checkSpeed h).thermal = s.thermal ∧ (s.checkSpeed h).images = s.images ∧ (s.checkSpeed h).tap = s.tap := by
  unfold State.checkSpeed
  dsimp only
  (repeat' split) <;> simp

@[simp] theorem frame_sampled (s : State) (h : HeadNo) (a : ActualSample) : (s.sampled h a).pending = s.pending ∧
    (s.sampled h a).deferred = s.deferred ∧ (s.sampled h a).dev = s.dev ∧ (s.sampled h a).power = s.power ∧
    (s.sampled h a).clk = s.clk ∧ (s.sampled h a).fuses = s.fuses ∧ (s.sampled h a).blobs = s.blobs ∧
    (s.sampled h a).flash = s.flash ∧ (s.sampled h a).auth = s.auth ∧ (s.sampled h a).spi = s.spi ∧
    (s.sampled h a).ring = s.ring ∧ (s.sampled h a).sieve = s.sieve ∧ (s.sampled h a).engine = s.engine ∧
    (s.sampled h a).time = s.time ∧ (s.sampled h a).motion = s.motion ∧ (s.sampled h a).clocks = s.clocks ∧
    (s.sampled h a).thermal = s.thermal ∧ (s.sampled h a).images = s.images ∧ (s.sampled h a).tap = s.tap := by
  unfold State.sampled
  (repeat' split) <;> simp

@[simp] theorem frame_positionFrame (s : State) (h u : Nat) (part : Option (Nat × Nat)) : (s.positionFrame h u part).pending = s.pending ∧
    (s.positionFrame h u part).deferred = s.deferred ∧ (s.positionFrame h u part).dev = s.dev ∧
    (s.positionFrame h u part).power = s.power ∧ (s.positionFrame h u part).clk = s.clk ∧
    (s.positionFrame h u part).fuses = s.fuses ∧ (s.positionFrame h u part).blobs = s.blobs ∧
    (s.positionFrame h u part).flash = s.flash ∧ (s.positionFrame h u part).auth = s.auth ∧
    (s.positionFrame h u part).spi = s.spi ∧ (s.positionFrame h u part).ring = s.ring ∧
    (s.positionFrame h u part).sieve = s.sieve ∧ (s.positionFrame h u part).engine = s.engine ∧
    (s.positionFrame h u part).time = s.time ∧ (s.positionFrame h u part).motion = s.motion ∧
    (s.positionFrame h u part).clocks = s.clocks ∧ (s.positionFrame h u part).thermal = s.thermal ∧
    (s.positionFrame h u part).images = s.images ∧ (s.positionFrame h u part).tap = s.tap := by
  unfold State.positionFrame
  (repeat' split) <;> simp

@[simp] theorem frame_headStatus (s : State) (h : HeadNo) (aux : Nat) : (s.headStatus h aux).pending = s.pending ∧
    (s.headStatus h aux).deferred = s.deferred ∧ (s.headStatus h aux).dev = s.dev ∧
    (s.headStatus h aux).power = s.power ∧ (s.headStatus h aux).clk = s.clk ∧ (s.headStatus h aux).fuses = s.fuses ∧
    (s.headStatus h aux).regs = s.regs ∧ (s.headStatus h aux).blobs = s.blobs ∧ (s.headStatus h aux).flash = s.flash ∧
    (s.headStatus h aux).recorder = s.recorder ∧ (s.headStatus h aux).auth = s.auth ∧
    (s.headStatus h aux).spi = s.spi ∧ (s.headStatus h aux).ring = s.ring ∧ (s.headStatus h aux).job = s.job ∧
    (s.headStatus h aux).sieve = s.sieve ∧ (s.headStatus h aux).engine = s.engine ∧
    (s.headStatus h aux).time = s.time ∧ (s.headStatus h aux).motion = s.motion ∧ (s.headStatus h aux).dram = s.dram ∧
    (s.headStatus h aux).clocks = s.clocks ∧ (s.headStatus h aux).thermal = s.thermal ∧
    (s.headStatus h aux).images = s.images ∧ (s.headStatus h aux).tap = s.tap ∧
    (s.headStatus h aux).fresh = s.fresh := by
  unfold State.headStatus
  (repeat' split) <;> simp

@[simp] theorem frame_opticsWarn (s : State) (h : HeadNo) (v : Int) : (s.opticsWarn h v).pending = s.pending ∧
    (s.opticsWarn h v).deferred = s.deferred ∧ (s.opticsWarn h v).dev = s.dev ∧ (s.opticsWarn h v).power = s.power ∧
    (s.opticsWarn h v).clk = s.clk ∧ (s.opticsWarn h v).fuses = s.fuses ∧ (s.opticsWarn h v).regs = s.regs ∧
    (s.opticsWarn h v).blobs = s.blobs ∧ (s.opticsWarn h v).flash = s.flash ∧
    (s.opticsWarn h v).recorder = s.recorder ∧ (s.opticsWarn h v).auth = s.auth ∧ (s.opticsWarn h v).spi = s.spi ∧
    (s.opticsWarn h v).ring = s.ring ∧ (s.opticsWarn h v).job = s.job ∧ (s.opticsWarn h v).sieve = s.sieve ∧
    (s.opticsWarn h v).engine = s.engine ∧ (s.opticsWarn h v).time = s.time ∧ (s.opticsWarn h v).motion = s.motion ∧
    (s.opticsWarn h v).dram = s.dram ∧ (s.opticsWarn h v).clocks = s.clocks ∧ (s.opticsWarn h v).thermal = s.thermal ∧
    (s.opticsWarn h v).images = s.images ∧ (s.opticsWarn h v).tap = s.tap ∧ (s.opticsWarn h v).fresh = s.fresh := by
  unfold State.opticsWarn
  (repeat' split) <;> simp

@[simp] theorem frame_opticsPayload (s : State) (h u aux : Nat) : (s.opticsPayload h u aux).pending = s.pending ∧
    (s.opticsPayload h u aux).deferred = s.deferred ∧ (s.opticsPayload h u aux).dev = s.dev ∧
    (s.opticsPayload h u aux).power = s.power ∧ (s.opticsPayload h u aux).clk = s.clk ∧
    (s.opticsPayload h u aux).fuses = s.fuses ∧ (s.opticsPayload h u aux).blobs = s.blobs ∧
    (s.opticsPayload h u aux).flash = s.flash ∧ (s.opticsPayload h u aux).recorder = s.recorder ∧
    (s.opticsPayload h u aux).auth = s.auth ∧ (s.opticsPayload h u aux).spi = s.spi ∧
    (s.opticsPayload h u aux).ring = s.ring ∧ (s.opticsPayload h u aux).job = s.job ∧
    (s.opticsPayload h u aux).sieve = s.sieve ∧ (s.opticsPayload h u aux).engine = s.engine ∧
    (s.opticsPayload h u aux).time = s.time ∧ (s.opticsPayload h u aux).motion = s.motion ∧
    (s.opticsPayload h u aux).dram = s.dram ∧ (s.opticsPayload h u aux).clocks = s.clocks ∧
    (s.opticsPayload h u aux).thermal = s.thermal ∧ (s.opticsPayload h u aux).images = s.images ∧
    (s.opticsPayload h u aux).tap = s.tap ∧ (s.opticsPayload h u aux).fresh = s.fresh := by
  unfold State.opticsPayload
  (repeat' split) <;> simp

@[simp] theorem frame_auxFrame (s : State) (h u : Nat) (bs : List Byte) : (s.auxFrame h u bs).pending = s.pending ∧
    (s.auxFrame h u bs).deferred = s.deferred ∧ (s.auxFrame h u bs).dev = s.dev ∧
    (s.auxFrame h u bs).power = s.power ∧ (s.auxFrame h u bs).clk = s.clk ∧ (s.auxFrame h u bs).fuses = s.fuses ∧
    (s.auxFrame h u bs).blobs = s.blobs ∧ (s.auxFrame h u bs).flash = s.flash ∧
    (s.auxFrame h u bs).recorder = s.recorder ∧ (s.auxFrame h u bs).auth = s.auth ∧ (s.auxFrame h u bs).spi = s.spi ∧
    (s.auxFrame h u bs).ring = s.ring ∧ (s.auxFrame h u bs).job = s.job ∧ (s.auxFrame h u bs).sieve = s.sieve ∧
    (s.auxFrame h u bs).engine = s.engine ∧ (s.auxFrame h u bs).time = s.time ∧
    (s.auxFrame h u bs).motion = s.motion ∧ (s.auxFrame h u bs).dram = s.dram ∧
    (s.auxFrame h u bs).clocks = s.clocks ∧ (s.auxFrame h u bs).thermal = s.thermal ∧
    (s.auxFrame h u bs).images = s.images ∧ (s.auxFrame h u bs).tap = s.tap ∧
    (s.auxFrame h u bs).fresh = s.fresh := by
  unfold State.auxFrame
  (repeat' split) <;> simp

@[simp] theorem frame_darkSlots (s : State) (h : HeadNo) (slots : List SentSlot) (cause detail : Nat) : (s.darkSlots h slots cause detail).pending = s.pending ∧
    (s.darkSlots h slots cause detail).deferred = s.deferred ∧ (s.darkSlots h slots cause detail).dev = s.dev ∧
    (s.darkSlots h slots cause detail).power = s.power ∧ (s.darkSlots h slots cause detail).clk = s.clk ∧
    (s.darkSlots h slots cause detail).fuses = s.fuses ∧ (s.darkSlots h slots cause detail).blobs = s.blobs ∧
    (s.darkSlots h slots cause detail).flash = s.flash ∧ (s.darkSlots h slots cause detail).auth = s.auth ∧
    (s.darkSlots h slots cause detail).spi = s.spi ∧ (s.darkSlots h slots cause detail).ring = s.ring ∧
    (s.darkSlots h slots cause detail).sieve = s.sieve ∧ (s.darkSlots h slots cause detail).engine = s.engine ∧
    (s.darkSlots h slots cause detail).time = s.time ∧ (s.darkSlots h slots cause detail).motion = s.motion ∧
    (s.darkSlots h slots cause detail).clocks = s.clocks ∧ (s.darkSlots h slots cause detail).thermal = s.thermal ∧
    (s.darkSlots h slots cause detail).images = s.images ∧ (s.darkSlots h slots cause detail).tap = s.tap ∧
    (s.darkSlots h slots cause detail).fresh = s.fresh := by
  unfold State.darkSlots
  (repeat' split) <;> simp

@[simp] theorem frame_endDark (s : State) (h : HeadNo) (k : SentSlot) (dark : Bool) : (s.endDark h k dark).pending = s.pending ∧
    (s.endDark h k dark).deferred = s.deferred ∧ (s.endDark h k dark).dev = s.dev ∧
    (s.endDark h k dark).power = s.power ∧ (s.endDark h k dark).clk = s.clk ∧ (s.endDark h k dark).fuses = s.fuses ∧
    (s.endDark h k dark).blobs = s.blobs ∧ (s.endDark h k dark).flash = s.flash ∧
    (s.endDark h k dark).leaves = s.leaves ∧ (s.endDark h k dark).recorder = s.recorder ∧
    (s.endDark h k dark).auth = s.auth ∧ (s.endDark h k dark).spi = s.spi ∧ (s.endDark h k dark).ring = s.ring ∧
    (s.endDark h k dark).sieve = s.sieve ∧ (s.endDark h k dark).engine = s.engine ∧
    (s.endDark h k dark).time = s.time ∧ (s.endDark h k dark).motion = s.motion ∧
    (s.endDark h k dark).clocks = s.clocks ∧ (s.endDark h k dark).thermal = s.thermal ∧
    (s.endDark h k dark).images = s.images ∧ (s.endDark h k dark).tap = s.tap ∧
    (s.endDark h k dark).fresh = s.fresh := by
  unfold State.endDark
  (repeat' split) <;> simp

@[simp] theorem frame_closeGap (s : State) (h : HeadNo) (at_ : Tick) : (s.closeGap h at_).pending = s.pending ∧
    (s.closeGap h at_).deferred = s.deferred ∧ (s.closeGap h at_).dev = s.dev ∧ (s.closeGap h at_).power = s.power ∧
    (s.closeGap h at_).clk = s.clk ∧ (s.closeGap h at_).fuses = s.fuses ∧ (s.closeGap h at_).blobs = s.blobs ∧
    (s.closeGap h at_).flash = s.flash ∧ (s.closeGap h at_).leaves = s.leaves ∧
    (s.closeGap h at_).recorder = s.recorder ∧ (s.closeGap h at_).auth = s.auth ∧ (s.closeGap h at_).spi = s.spi ∧
    (s.closeGap h at_).ring = s.ring ∧ (s.closeGap h at_).sieve = s.sieve ∧ (s.closeGap h at_).engine = s.engine ∧
    (s.closeGap h at_).time = s.time ∧ (s.closeGap h at_).motion = s.motion ∧ (s.closeGap h at_).clocks = s.clocks ∧
    (s.closeGap h at_).thermal = s.thermal ∧ (s.closeGap h at_).images = s.images ∧ (s.closeGap h at_).tap = s.tap ∧
    (s.closeGap h at_).fresh = s.fresh := by
  unfold State.closeGap
  (repeat' split) <;> simp

@[simp] theorem frame_slotReported (s : State) (h : HeadNo) (k : SentSlot) (dark : Bool) : (s.slotReported h k dark).pending = s.pending ∧
    (s.slotReported h k dark).deferred = s.deferred ∧ (s.slotReported h k dark).dev = s.dev ∧
    (s.slotReported h k dark).power = s.power ∧ (s.slotReported h k dark).clk = s.clk ∧
    (s.slotReported h k dark).fuses = s.fuses ∧ (s.slotReported h k dark).blobs = s.blobs ∧
    (s.slotReported h k dark).flash = s.flash ∧ (s.slotReported h k dark).auth = s.auth ∧
    (s.slotReported h k dark).spi = s.spi ∧ (s.slotReported h k dark).ring = s.ring ∧
    (s.slotReported h k dark).sieve = s.sieve ∧ (s.slotReported h k dark).engine = s.engine ∧
    (s.slotReported h k dark).time = s.time ∧ (s.slotReported h k dark).motion = s.motion ∧
    (s.slotReported h k dark).clocks = s.clocks ∧ (s.slotReported h k dark).thermal = s.thermal ∧
    (s.slotReported h k dark).images = s.images ∧ (s.slotReported h k dark).tap = s.tap ∧
    (s.slotReported h k dark).fresh = s.fresh := by
  unfold State.slotReported
  (repeat' split) <;> simp

@[simp] theorem frame_darkMap (s : State) (h u map : Nat) : (s.darkMap h u map).pending = s.pending ∧
    (s.darkMap h u map).deferred = s.deferred ∧ (s.darkMap h u map).dev = s.dev ∧
    (s.darkMap h u map).power = s.power ∧ (s.darkMap h u map).clk = s.clk ∧ (s.darkMap h u map).fuses = s.fuses ∧
    (s.darkMap h u map).blobs = s.blobs ∧ (s.darkMap h u map).flash = s.flash ∧ (s.darkMap h u map).auth = s.auth ∧
    (s.darkMap h u map).spi = s.spi ∧ (s.darkMap h u map).ring = s.ring ∧ (s.darkMap h u map).sieve = s.sieve ∧
    (s.darkMap h u map).engine = s.engine ∧ (s.darkMap h u map).time = s.time ∧
    (s.darkMap h u map).motion = s.motion ∧ (s.darkMap h u map).clocks = s.clocks ∧
    (s.darkMap h u map).thermal = s.thermal ∧ (s.darkMap h u map).images = s.images ∧
    (s.darkMap h u map).tap = s.tap ∧ (s.darkMap h u map).fresh = s.fresh := by
  unfold State.darkMap
  (repeat' split) <;> simp

@[simp] theorem frame_diodeFrame (s : State) (h u : Nat) (pd : Tick → Nat → Option (Nat × Nat)) : (s.diodeFrame h u pd).pending = s.pending ∧
    (s.diodeFrame h u pd).deferred = s.deferred ∧ (s.diodeFrame h u pd).dev = s.dev ∧
    (s.diodeFrame h u pd).power = s.power ∧ (s.diodeFrame h u pd).clk = s.clk ∧
    (s.diodeFrame h u pd).fuses = s.fuses ∧ (s.diodeFrame h u pd).blobs = s.blobs ∧
    (s.diodeFrame h u pd).flash = s.flash ∧ (s.diodeFrame h u pd).recorder = s.recorder ∧
    (s.diodeFrame h u pd).auth = s.auth ∧ (s.diodeFrame h u pd).spi = s.spi ∧ (s.diodeFrame h u pd).ring = s.ring ∧
    (s.diodeFrame h u pd).job = s.job ∧ (s.diodeFrame h u pd).sieve = s.sieve ∧ (s.diodeFrame h u pd).time = s.time ∧
    (s.diodeFrame h u pd).motion = s.motion ∧ (s.diodeFrame h u pd).dram = s.dram ∧
    (s.diodeFrame h u pd).clocks = s.clocks ∧ (s.diodeFrame h u pd).thermal = s.thermal ∧
    (s.diodeFrame h u pd).images = s.images ∧ (s.diodeFrame h u pd).tap = s.tap ∧
    (s.diodeFrame h u pd).fresh = s.fresh := by
  unfold State.diodeFrame
  (repeat' split) <;> simp

@[simp] theorem frame_cameraFrame (s : State) (h : HeadNo) (bs : List Byte) : (s.cameraFrame h bs).pending = s.pending ∧
    (s.cameraFrame h bs).deferred = s.deferred ∧ (s.cameraFrame h bs).dev = s.dev ∧
    (s.cameraFrame h bs).power = s.power ∧ (s.cameraFrame h bs).clk = s.clk ∧ (s.cameraFrame h bs).fuses = s.fuses ∧
    (s.cameraFrame h bs).blobs = s.blobs ∧ (s.cameraFrame h bs).flash = s.flash ∧
    (s.cameraFrame h bs).recorder = s.recorder ∧ (s.cameraFrame h bs).auth = s.auth ∧
    (s.cameraFrame h bs).spi = s.spi ∧ (s.cameraFrame h bs).ring = s.ring ∧ (s.cameraFrame h bs).sieve = s.sieve ∧
    (s.cameraFrame h bs).engine = s.engine ∧ (s.cameraFrame h bs).time = s.time ∧
    (s.cameraFrame h bs).motion = s.motion ∧ (s.cameraFrame h bs).clocks = s.clocks ∧
    (s.cameraFrame h bs).thermal = s.thermal ∧ (s.cameraFrame h bs).images = s.images ∧
    (s.cameraFrame h bs).tap = s.tap ∧ (s.cameraFrame h bs).fresh = s.fresh := by
  unfold State.cameraFrame
  (repeat' split) <;> simp

@[simp] theorem frame_conflictSeen (s : State) (h : HeadNo) : (s.conflictSeen h).pending = s.pending ∧
    (s.conflictSeen h).deferred = s.deferred ∧ (s.conflictSeen h).power = s.power ∧ (s.conflictSeen h).clk = s.clk ∧
    (s.conflictSeen h).fuses = s.fuses ∧ (s.conflictSeen h).blobs = s.blobs ∧ (s.conflictSeen h).flash = s.flash ∧
    (s.conflictSeen h).auth = s.auth ∧ (s.conflictSeen h).spi = s.spi ∧ (s.conflictSeen h).ring = s.ring ∧
    (s.conflictSeen h).sieve = s.sieve ∧ (s.conflictSeen h).engine = s.engine ∧ (s.conflictSeen h).time = s.time ∧
    (s.conflictSeen h).motion = s.motion ∧ (s.conflictSeen h).clocks = s.clocks ∧
    (s.conflictSeen h).thermal = s.thermal ∧ (s.conflictSeen h).images = s.images ∧ (s.conflictSeen h).tap = s.tap ∧
    (s.conflictSeen h).fresh = s.fresh := by
  unfold State.conflictSeen
  (repeat' split) <;> simp

@[simp] theorem frame_reported (s : State) (h u : Nat) (bs : List Byte) : (s.reported h u bs).pending = s.pending ∧
    (s.reported h u bs).deferred = s.deferred ∧ (s.reported h u bs).power = s.power ∧
    (s.reported h u bs).clk = s.clk ∧ (s.reported h u bs).fuses = s.fuses ∧ (s.reported h u bs).blobs = s.blobs ∧
    (s.reported h u bs).flash = s.flash ∧ (s.reported h u bs).auth = s.auth ∧ (s.reported h u bs).spi = s.spi ∧
    (s.reported h u bs).ring = s.ring ∧ (s.reported h u bs).sieve = s.sieve ∧ (s.reported h u bs).engine = s.engine ∧
    (s.reported h u bs).time = s.time ∧ (s.reported h u bs).motion = s.motion ∧
    (s.reported h u bs).clocks = s.clocks ∧ (s.reported h u bs).thermal = s.thermal ∧
    (s.reported h u bs).images = s.images ∧ (s.reported h u bs).tap = s.tap ∧
    (s.reported h u bs).fresh = s.fresh := by
  unfold State.reported
  (repeat' split) <;> simp

@[simp] theorem frame_trained_pending (s : State) (h : HeadNo) (v : Bool) (bs : List Byte) (a : Int) (g : State → State) (hg : ∀ t, (g t).pending = t.pending) : (s.trained h v bs a g).pending = s.pending := by
  unfold State.trained
  rw [hg]
  split <;> simp
@[simp] theorem frame_trained_deferred (s : State) (h : HeadNo) (v : Bool) (bs : List Byte) (a : Int) (g : State → State) (hg : ∀ t, (g t).deferred = t.deferred) : (s.trained h v bs a g).deferred = s.deferred := by
  unfold State.trained
  rw [hg]
  split <;> simp
@[simp] theorem frame_trained_power (s : State) (h : HeadNo) (v : Bool) (bs : List Byte) (a : Int) (g : State → State) (hg : ∀ t, (g t).power = t.power) : (s.trained h v bs a g).power = s.power := by
  unfold State.trained
  rw [hg]
  split <;> simp
@[simp] theorem frame_trained_clk (s : State) (h : HeadNo) (v : Bool) (bs : List Byte) (a : Int) (g : State → State) (hg : ∀ t, (g t).clk = t.clk) : (s.trained h v bs a g).clk = s.clk := by
  unfold State.trained
  rw [hg]
  split <;> simp
@[simp] theorem frame_trained_fuses (s : State) (h : HeadNo) (v : Bool) (bs : List Byte) (a : Int) (g : State → State) (hg : ∀ t, (g t).fuses = t.fuses) : (s.trained h v bs a g).fuses = s.fuses := by
  unfold State.trained
  rw [hg]
  split <;> simp
@[simp] theorem frame_trained_blobs (s : State) (h : HeadNo) (v : Bool) (bs : List Byte) (a : Int) (g : State → State) (hg : ∀ t, (g t).blobs = t.blobs) : (s.trained h v bs a g).blobs = s.blobs := by
  unfold State.trained
  rw [hg]
  split <;> simp
@[simp] theorem frame_trained_flash (s : State) (h : HeadNo) (v : Bool) (bs : List Byte) (a : Int) (g : State → State) (hg : ∀ t, (g t).flash = t.flash) : (s.trained h v bs a g).flash = s.flash := by
  unfold State.trained
  rw [hg]
  split <;> simp
@[simp] theorem frame_trained_auth (s : State) (h : HeadNo) (v : Bool) (bs : List Byte) (a : Int) (g : State → State) (hg : ∀ t, (g t).auth = t.auth) : (s.trained h v bs a g).auth = s.auth := by
  unfold State.trained
  rw [hg]
  split <;> simp
@[simp] theorem frame_trained_spi (s : State) (h : HeadNo) (v : Bool) (bs : List Byte) (a : Int) (g : State → State) (hg : ∀ t, (g t).spi = t.spi) : (s.trained h v bs a g).spi = s.spi := by
  unfold State.trained
  rw [hg]
  split <;> simp
@[simp] theorem frame_trained_ring (s : State) (h : HeadNo) (v : Bool) (bs : List Byte) (a : Int) (g : State → State) (hg : ∀ t, (g t).ring = t.ring) : (s.trained h v bs a g).ring = s.ring := by
  unfold State.trained
  rw [hg]
  split <;> simp
@[simp] theorem frame_trained_sieve (s : State) (h : HeadNo) (v : Bool) (bs : List Byte) (a : Int) (g : State → State) (hg : ∀ t, (g t).sieve = t.sieve) : (s.trained h v bs a g).sieve = s.sieve := by
  unfold State.trained
  rw [hg]
  split <;> simp
@[simp] theorem frame_trained_engine (s : State) (h : HeadNo) (v : Bool) (bs : List Byte) (a : Int) (g : State → State) (hg : ∀ t, (g t).engine = t.engine) : (s.trained h v bs a g).engine = s.engine := by
  unfold State.trained
  rw [hg]
  split <;> simp
@[simp] theorem frame_trained_time (s : State) (h : HeadNo) (v : Bool) (bs : List Byte) (a : Int) (g : State → State) (hg : ∀ t, (g t).time = t.time) : (s.trained h v bs a g).time = s.time := by
  unfold State.trained
  rw [hg]
  split <;> simp
@[simp] theorem frame_trained_motion (s : State) (h : HeadNo) (v : Bool) (bs : List Byte) (a : Int) (g : State → State) (hg : ∀ t, (g t).motion = t.motion) : (s.trained h v bs a g).motion = s.motion := by
  unfold State.trained
  rw [hg]
  split <;> simp
@[simp] theorem frame_trained_clocks (s : State) (h : HeadNo) (v : Bool) (bs : List Byte) (a : Int) (g : State → State) (hg : ∀ t, (g t).clocks = t.clocks) : (s.trained h v bs a g).clocks = s.clocks := by
  unfold State.trained
  rw [hg]
  split <;> simp
@[simp] theorem frame_trained_thermal (s : State) (h : HeadNo) (v : Bool) (bs : List Byte) (a : Int) (g : State → State) (hg : ∀ t, (g t).thermal = t.thermal) : (s.trained h v bs a g).thermal = s.thermal := by
  unfold State.trained
  rw [hg]
  split <;> simp
@[simp] theorem frame_trained_images (s : State) (h : HeadNo) (v : Bool) (bs : List Byte) (a : Int) (g : State → State) (hg : ∀ t, (g t).images = t.images) : (s.trained h v bs a g).images = s.images := by
  unfold State.trained
  rw [hg]
  split <;> simp
@[simp] theorem frame_trained_tap (s : State) (h : HeadNo) (v : Bool) (bs : List Byte) (a : Int) (g : State → State) (hg : ∀ t, (g t).tap = t.tap) : (s.trained h v bs a g).tap = s.tap := by
  unfold State.trained
  rw [hg]
  split <;> simp
@[simp] theorem frame_trained_fresh (s : State) (h : HeadNo) (v : Bool) (bs : List Byte) (a : Int) (g : State → State) (hg : ∀ t, (g t).fresh = t.fresh) : (s.trained h v bs a g).fresh = s.fresh := by
  unfold State.trained
  rw [hg]
  split <;> simp

@[simp] theorem frame_validFrame (s : State) (h u : Nat) (bs : List Byte) : (s.validFrame h u bs).pending = s.pending ∧
    (s.validFrame h u bs).deferred = s.deferred ∧ (s.validFrame h u bs).power = s.power ∧
    (s.validFrame h u bs).clk = s.clk ∧ (s.validFrame h u bs).fuses = s.fuses ∧
    (s.validFrame h u bs).blobs = s.blobs ∧ (s.validFrame h u bs).flash = s.flash ∧
    (s.validFrame h u bs).auth = s.auth ∧ (s.validFrame h u bs).spi = s.spi ∧ (s.validFrame h u bs).ring = s.ring ∧
    (s.validFrame h u bs).sieve = s.sieve ∧ (s.validFrame h u bs).time = s.time ∧
    (s.validFrame h u bs).motion = s.motion ∧ (s.validFrame h u bs).clocks = s.clocks ∧
    (s.validFrame h u bs).thermal = s.thermal ∧ (s.validFrame h u bs).images = s.images ∧
    (s.validFrame h u bs).tap = s.tap := by
  unfold State.validFrame
  (repeat' split) <;> simp

@[simp] theorem frame_invalidFrame (s : State) (h u : Nat) : (s.invalidFrame h u).pending = s.pending ∧
    (s.invalidFrame h u).deferred = s.deferred ∧ (s.invalidFrame h u).dev = s.dev ∧
    (s.invalidFrame h u).power = s.power ∧ (s.invalidFrame h u).clk = s.clk ∧ (s.invalidFrame h u).fuses = s.fuses ∧
    (s.invalidFrame h u).blobs = s.blobs ∧ (s.invalidFrame h u).flash = s.flash ∧ (s.invalidFrame h u).auth = s.auth ∧
    (s.invalidFrame h u).spi = s.spi ∧ (s.invalidFrame h u).ring = s.ring ∧ (s.invalidFrame h u).sieve = s.sieve ∧
    (s.invalidFrame h u).time = s.time ∧ (s.invalidFrame h u).motion = s.motion ∧
    (s.invalidFrame h u).clocks = s.clocks ∧ (s.invalidFrame h u).thermal = s.thermal ∧
    (s.invalidFrame h u).images = s.images ∧ (s.invalidFrame h u).tap = s.tap := by
  unfold State.invalidFrame
  (repeat' split) <;> simp

@[simp] theorem frame_inOperation (s : State) (h : HeadNo) (frame : Option (List Byte)) (arrival : Int) : (s.inOperation h frame arrival).pending = s.pending ∧
    (s.inOperation h frame arrival).deferred = s.deferred ∧ (s.inOperation h frame arrival).power = s.power ∧
    (s.inOperation h frame arrival).clk = s.clk ∧ (s.inOperation h frame arrival).fuses = s.fuses ∧
    (s.inOperation h frame arrival).blobs = s.blobs ∧ (s.inOperation h frame arrival).flash = s.flash ∧
    (s.inOperation h frame arrival).auth = s.auth ∧ (s.inOperation h frame arrival).spi = s.spi ∧
    (s.inOperation h frame arrival).ring = s.ring ∧ (s.inOperation h frame arrival).sieve = s.sieve ∧
    (s.inOperation h frame arrival).time = s.time ∧ (s.inOperation h frame arrival).motion = s.motion ∧
    (s.inOperation h frame arrival).clocks = s.clocks ∧ (s.inOperation h frame arrival).thermal = s.thermal ∧
    (s.inOperation h frame arrival).images = s.images ∧ (s.inOperation h frame arrival).tap = s.tap := by
  unfold State.inOperation
  (repeat' split) <;> simp

@[simp] theorem frame_uplinkFrame (s : State) (h : HeadNo) (frame : Option (List Byte)) (arrival : Int) : (s.uplinkFrame h frame arrival).pending = s.pending ∧
    (s.uplinkFrame h frame arrival).deferred = s.deferred ∧ (s.uplinkFrame h frame arrival).power = s.power ∧
    (s.uplinkFrame h frame arrival).clk = s.clk ∧ (s.uplinkFrame h frame arrival).fuses = s.fuses ∧
    (s.uplinkFrame h frame arrival).blobs = s.blobs ∧ (s.uplinkFrame h frame arrival).flash = s.flash ∧
    (s.uplinkFrame h frame arrival).auth = s.auth ∧ (s.uplinkFrame h frame arrival).spi = s.spi ∧
    (s.uplinkFrame h frame arrival).ring = s.ring ∧ (s.uplinkFrame h frame arrival).sieve = s.sieve ∧
    (s.uplinkFrame h frame arrival).time = s.time ∧ (s.uplinkFrame h frame arrival).motion = s.motion ∧
    (s.uplinkFrame h frame arrival).clocks = s.clocks ∧ (s.uplinkFrame h frame arrival).thermal = s.thermal ∧
    (s.uplinkFrame h frame arrival).images = s.images ∧ (s.uplinkFrame h frame arrival).tap = s.tap := by
  unfold State.uplinkFrame
  dsimp only
  (repeat' split) <;> simp

@[simp] theorem frame_uplink (s : State) (h : HeadNo) (chars : List Nat) (arrival : Int) : (s.uplink h chars arrival).pending = s.pending ∧
    (s.uplink h chars arrival).deferred = s.deferred ∧ (s.uplink h chars arrival).power = s.power ∧
    (s.uplink h chars arrival).clk = s.clk ∧ (s.uplink h chars arrival).fuses = s.fuses ∧
    (s.uplink h chars arrival).blobs = s.blobs ∧ (s.uplink h chars arrival).flash = s.flash ∧
    (s.uplink h chars arrival).auth = s.auth ∧ (s.uplink h chars arrival).spi = s.spi ∧
    (s.uplink h chars arrival).ring = s.ring ∧ (s.uplink h chars arrival).sieve = s.sieve ∧
    (s.uplink h chars arrival).time = s.time ∧ (s.uplink h chars arrival).motion = s.motion ∧
    (s.uplink h chars arrival).clocks = s.clocks ∧ (s.uplink h chars arrival).thermal = s.thermal ∧
    (s.uplink h chars arrival).images = s.images ∧ (s.uplink h chars arrival).tap = s.tap := by
  unfold State.uplink
  (repeat' split) <;> simp

@[simp] theorem frame_compareDigest (s : State) (id : Nat) : (s.compareDigest id).pending = s.pending ∧
    (s.compareDigest id).deferred = s.deferred ∧ (s.compareDigest id).power = s.power ∧
    (s.compareDigest id).clk = s.clk ∧ (s.compareDigest id).fuses = s.fuses ∧ (s.compareDigest id).blobs = s.blobs ∧
    (s.compareDigest id).flash = s.flash ∧ (s.compareDigest id).auth = s.auth ∧ (s.compareDigest id).spi = s.spi ∧
    (s.compareDigest id).ring = s.ring ∧ (s.compareDigest id).sieve = s.sieve ∧
    (s.compareDigest id).engine = s.engine ∧ (s.compareDigest id).time = s.time ∧
    (s.compareDigest id).motion = s.motion ∧ (s.compareDigest id).clocks = s.clocks ∧
    (s.compareDigest id).thermal = s.thermal ∧ (s.compareDigest id).images = s.images ∧
    (s.compareDigest id).tap = s.tap ∧ (s.compareDigest id).fresh = s.fresh := by
  unfold State.compareDigest
  (repeat' split) <;> simp

@[simp] theorem frame_ownDigest (s : State) (g : Segment) (state : SegState) : (s.ownDigest g state).pending = s.pending ∧
    (s.ownDigest g state).deferred = s.deferred ∧ (s.ownDigest g state).power = s.power ∧
    (s.ownDigest g state).clk = s.clk ∧ (s.ownDigest g state).fuses = s.fuses ∧
    (s.ownDigest g state).blobs = s.blobs ∧ (s.ownDigest g state).flash = s.flash ∧
    (s.ownDigest g state).auth = s.auth ∧ (s.ownDigest g state).spi = s.spi ∧ (s.ownDigest g state).ring = s.ring ∧
    (s.ownDigest g state).sieve = s.sieve ∧ (s.ownDigest g state).engine = s.engine ∧
    (s.ownDigest g state).time = s.time ∧ (s.ownDigest g state).motion = s.motion ∧
    (s.ownDigest g state).clocks = s.clocks ∧ (s.ownDigest g state).thermal = s.thermal ∧
    (s.ownDigest g state).images = s.images ∧ (s.ownDigest g state).tap = s.tap ∧
    (s.ownDigest g state).fresh = s.fresh := by
  unfold State.ownDigest
  (repeat' split) <;> simp

@[simp] theorem frame_sendClose (s : State) (key : Nat) : (s.sendClose key).pending = s.pending ∧
    (s.sendClose key).deferred = s.deferred ∧ (s.sendClose key).power = s.power ∧ (s.sendClose key).clk = s.clk ∧
    (s.sendClose key).fuses = s.fuses ∧ (s.sendClose key).blobs = s.blobs ∧ (s.sendClose key).flash = s.flash ∧
    (s.sendClose key).auth = s.auth ∧ (s.sendClose key).spi = s.spi ∧ (s.sendClose key).ring = s.ring ∧
    (s.sendClose key).sieve = s.sieve ∧ (s.sendClose key).engine = s.engine ∧ (s.sendClose key).time = s.time ∧
    (s.sendClose key).clocks = s.clocks ∧ (s.sendClose key).thermal = s.thermal ∧
    (s.sendClose key).images = s.images ∧ (s.sendClose key).tap = s.tap := by
  unfold State.sendClose
  dsimp only
  (repeat' split) <;> simp

@[simp] theorem frame_closeSegment (s : State) (key : Nat) : (s.closeSegment key).pending = s.pending ∧
    (s.closeSegment key).deferred = s.deferred ∧ (s.closeSegment key).power = s.power ∧
    (s.closeSegment key).clk = s.clk ∧ (s.closeSegment key).fuses = s.fuses ∧ (s.closeSegment key).blobs = s.blobs ∧
    (s.closeSegment key).flash = s.flash ∧ (s.closeSegment key).auth = s.auth ∧ (s.closeSegment key).spi = s.spi ∧
    (s.closeSegment key).ring = s.ring ∧ (s.closeSegment key).sieve = s.sieve ∧
    (s.closeSegment key).engine = s.engine ∧ (s.closeSegment key).time = s.time ∧
    (s.closeSegment key).clocks = s.clocks ∧ (s.closeSegment key).thermal = s.thermal ∧
    (s.closeSegment key).images = s.images ∧ (s.closeSegment key).tap = s.tap := by
  unfold State.closeSegment
  (repeat' split) <;> simp

@[simp] theorem frame_cancelId (s : State) (id : Nat) : (s.cancelId id).pending = s.pending ∧
    (s.cancelId id).deferred = s.deferred ∧ (s.cancelId id).dev = s.dev ∧ (s.cancelId id).power = s.power ∧
    (s.cancelId id).clk = s.clk ∧ (s.cancelId id).fuses = s.fuses ∧ (s.cancelId id).blobs = s.blobs ∧
    (s.cancelId id).flash = s.flash ∧ (s.cancelId id).leaves = s.leaves ∧ (s.cancelId id).recorder = s.recorder ∧
    (s.cancelId id).auth = s.auth ∧ (s.cancelId id).spi = s.spi ∧ (s.cancelId id).ring = s.ring ∧
    (s.cancelId id).sieve = s.sieve ∧ (s.cancelId id).engine = s.engine ∧ (s.cancelId id).time = s.time ∧
    (s.cancelId id).motion = s.motion ∧ (s.cancelId id).clocks = s.clocks ∧ (s.cancelId id).thermal = s.thermal ∧
    (s.cancelId id).images = s.images ∧ (s.cancelId id).tap = s.tap ∧ (s.cancelId id).fresh = s.fresh := by
  unfold State.cancelId
  (repeat' split) <;> simp

@[simp] theorem frame_execCancelId (path : Path) (id : Nat) (s : State) (s0 : State) : (outcomeState s0 (execCancelId path id s)).pending = s.pending ∧
    (outcomeState s0 (execCancelId path id s)).dev = s.dev ∧
    (outcomeState s0 (execCancelId path id s)).power = s.power ∧
    (outcomeState s0 (execCancelId path id s)).clk = s.clk ∧
    (outcomeState s0 (execCancelId path id s)).fuses = s.fuses ∧
    (outcomeState s0 (execCancelId path id s)).blobs = s.blobs ∧
    (outcomeState s0 (execCancelId path id s)).flash = s.flash ∧
    (outcomeState s0 (execCancelId path id s)).leaves = s.leaves ∧
    (outcomeState s0 (execCancelId path id s)).recorder = s.recorder ∧
    (outcomeState s0 (execCancelId path id s)).auth = s.auth ∧
    (outcomeState s0 (execCancelId path id s)).spi = s.spi ∧
    (outcomeState s0 (execCancelId path id s)).ring = s.ring ∧
    (outcomeState s0 (execCancelId path id s)).sieve = s.sieve ∧
    (outcomeState s0 (execCancelId path id s)).engine = s.engine ∧
    (outcomeState s0 (execCancelId path id s)).time = s.time ∧
    (outcomeState s0 (execCancelId path id s)).motion = s.motion ∧
    (outcomeState s0 (execCancelId path id s)).clocks = s.clocks ∧
    (outcomeState s0 (execCancelId path id s)).thermal = s.thermal ∧
    (outcomeState s0 (execCancelId path id s)).images = s.images ∧
    (outcomeState s0 (execCancelId path id s)).tap = s.tap ∧
    (outcomeState s0 (execCancelId path id s)).fresh = s.fresh := by
  simp only [execCancelId]
  (repeat' split) <;> simp

@[simp] theorem frame_splitRecords (s : State) (h cause : Nat) : (s.splitRecords h cause).pending = s.pending ∧
    (s.splitRecords h cause).deferred = s.deferred ∧ (s.splitRecords h cause).dev = s.dev ∧
    (s.splitRecords h cause).power = s.power ∧ (s.splitRecords h cause).clk = s.clk ∧
    (s.splitRecords h cause).fuses = s.fuses ∧ (s.splitRecords h cause).blobs = s.blobs ∧
    (s.splitRecords h cause).flash = s.flash ∧ (s.splitRecords h cause).leaves = s.leaves ∧
    (s.splitRecords h cause).recorder = s.recorder ∧ (s.splitRecords h cause).auth = s.auth ∧
    (s.splitRecords h cause).spi = s.spi ∧ (s.splitRecords h cause).ring = s.ring ∧
    (s.splitRecords h cause).sieve = s.sieve ∧ (s.splitRecords h cause).engine = s.engine ∧
    (s.splitRecords h cause).time = s.time ∧ (s.splitRecords h cause).motion = s.motion ∧
    (s.splitRecords h cause).clocks = s.clocks ∧ (s.splitRecords h cause).thermal = s.thermal ∧
    (s.splitRecords h cause).images = s.images ∧ (s.splitRecords h cause).tap = s.tap ∧
    (s.splitRecords h cause).fresh = s.fresh := by
  unfold State.splitRecords
  (repeat' split) <;> simp

@[simp] theorem frame_poweredOff (s : State) : (s.poweredOff).pending = s.pending ∧
    (s.poweredOff).deferred = s.deferred ∧ (s.poweredOff).fuses = s.fuses := by
  unfold State.poweredOff
  (repeat' split) <;> simp

@[simp] theorem frame_leaveAux (s : State) (dramOrg : Nat) (testEn : Bool) : (s.leaveAux dramOrg testEn).pending = s.pending ∧
    (s.leaveAux dramOrg testEn).deferred = s.deferred ∧ (s.leaveAux dramOrg testEn).clk = s.clk ∧
    (s.leaveAux dramOrg testEn).fuses = s.fuses ∧ (s.leaveAux dramOrg testEn).regs = s.regs ∧
    (s.leaveAux dramOrg testEn).blobs = s.blobs ∧ (s.leaveAux dramOrg testEn).flash = s.flash ∧
    (s.leaveAux dramOrg testEn).leaves = s.leaves ∧ (s.leaveAux dramOrg testEn).recorder = s.recorder ∧
    (s.leaveAux dramOrg testEn).sessions = s.sessions ∧ (s.leaveAux dramOrg testEn).auth = s.auth ∧
    (s.leaveAux dramOrg testEn).spi = s.spi ∧ (s.leaveAux dramOrg testEn).ring = s.ring ∧
    (s.leaveAux dramOrg testEn).ownWaiting = s.ownWaiting ∧ (s.leaveAux dramOrg testEn).out = s.out ∧
    (s.leaveAux dramOrg testEn).job = s.job ∧ (s.leaveAux dramOrg testEn).heads = s.heads ∧
    (s.leaveAux dramOrg testEn).sieve = s.sieve ∧ (s.leaveAux dramOrg testEn).engine = s.engine ∧
    (s.leaveAux dramOrg testEn).time = s.time ∧ (s.leaveAux dramOrg testEn).twin = s.twin ∧
    (s.leaveAux dramOrg testEn).motion = s.motion ∧ (s.leaveAux dramOrg testEn).dram = s.dram ∧
    (s.leaveAux dramOrg testEn).clocks = s.clocks ∧ (s.leaveAux dramOrg testEn).thermal = s.thermal ∧
    (s.leaveAux dramOrg testEn).images = s.images ∧ (s.leaveAux dramOrg testEn).tap = s.tap ∧
    (s.leaveAux dramOrg testEn).fresh = s.fresh := by
  unfold State.leaveAux
  (repeat' split) <;> simp

@[simp] theorem frame_released (s : State) : (s.released).pending = s.pending ∧ (s.released).deferred = s.deferred ∧
    (s.released).dev = s.dev ∧ (s.released).clk = s.clk ∧ (s.released).fuses = s.fuses ∧
    (s.released).blobs = s.blobs ∧ (s.released).flash = s.flash ∧ (s.released).auth = s.auth ∧
    (s.released).spi = s.spi ∧ (s.released).ring = s.ring ∧ (s.released).job = s.job ∧ (s.released).heads = s.heads ∧
    (s.released).sieve = s.sieve ∧ (s.released).engine = s.engine ∧ (s.released).time = s.time ∧
    (s.released).motion = s.motion ∧ (s.released).dram = s.dram ∧ (s.released).clocks = s.clocks ∧
    (s.released).thermal = s.thermal ∧ (s.released).images = s.images ∧ (s.released).tap = s.tap ∧
    (s.released).fresh = s.fresh := by
  unfold State.released
  (repeat' split) <;> simp

@[simp] theorem frame_stage (s : State) (g : Segment) : (s.stage g).pending = s.pending ∧
    (s.stage g).deferred = s.deferred ∧ (s.stage g).dev = s.dev ∧ (s.stage g).power = s.power ∧
    (s.stage g).clk = s.clk ∧ (s.stage g).fuses = s.fuses ∧ (s.stage g).regs = s.regs ∧ (s.stage g).blobs = s.blobs ∧
    (s.stage g).flash = s.flash ∧ (s.stage g).leaves = s.leaves ∧ (s.stage g).recorder = s.recorder ∧
    (s.stage g).auth = s.auth ∧ (s.stage g).spi = s.spi ∧ (s.stage g).ring = s.ring ∧ (s.stage g).heads = s.heads ∧
    (s.stage g).sieve = s.sieve ∧ (s.stage g).engine = s.engine ∧ (s.stage g).time = s.time ∧
    (s.stage g).motion = s.motion ∧ (s.stage g).dram = s.dram ∧ (s.stage g).clocks = s.clocks ∧
    (s.stage g).thermal = s.thermal ∧ (s.stage g).images = s.images ∧ (s.stage g).tap = s.tap ∧
    (s.stage g).fresh = s.fresh := by
  unfold State.stage
  (repeat' split) <;> simp

@[simp] theorem frame_startPart (s : State) (h : HeadNo) (g : Segment) : (s.startPart h g).pending = s.pending ∧
    (s.startPart h g).deferred = s.deferred ∧ (s.startPart h g).dev = s.dev ∧ (s.startPart h g).power = s.power ∧
    (s.startPart h g).clk = s.clk ∧ (s.startPart h g).fuses = s.fuses ∧ (s.startPart h g).regs = s.regs ∧
    (s.startPart h g).blobs = s.blobs ∧ (s.startPart h g).flash = s.flash ∧ (s.startPart h g).leaves = s.leaves ∧
    (s.startPart h g).recorder = s.recorder ∧ (s.startPart h g).auth = s.auth ∧ (s.startPart h g).spi = s.spi ∧
    (s.startPart h g).ring = s.ring ∧ (s.startPart h g).sieve = s.sieve ∧ (s.startPart h g).engine = s.engine ∧
    (s.startPart h g).time = s.time ∧ (s.startPart h g).motion = s.motion ∧ (s.startPart h g).dram = s.dram ∧
    (s.startPart h g).clocks = s.clocks ∧ (s.startPart h g).thermal = s.thermal ∧
    (s.startPart h g).images = s.images ∧ (s.startPart h g).tap = s.tap ∧ (s.startPart h g).fresh = s.fresh := by
  unfold State.startPart
  (repeat' split) <;> simp

@[simp] theorem frame_headStart (s : State) (h : HeadNo) (g : Segment) : (s.headStart h g).pending = s.pending ∧
    (s.headStart h g).deferred = s.deferred ∧ (s.headStart h g).power = s.power ∧ (s.headStart h g).clk = s.clk ∧
    (s.headStart h g).fuses = s.fuses ∧ (s.headStart h g).blobs = s.blobs ∧ (s.headStart h g).flash = s.flash ∧
    (s.headStart h g).auth = s.auth ∧ (s.headStart h g).spi = s.spi ∧ (s.headStart h g).ring = s.ring ∧
    (s.headStart h g).sieve = s.sieve ∧ (s.headStart h g).engine = s.engine ∧ (s.headStart h g).time = s.time ∧
    (s.headStart h g).motion = s.motion ∧ (s.headStart h g).clocks = s.clocks ∧
    (s.headStart h g).thermal = s.thermal ∧ (s.headStart h g).images = s.images ∧ (s.headStart h g).tap = s.tap ∧
    (s.headStart h g).fresh = s.fresh := by
  unfold State.headStart
  (repeat' split) <;> simp

@[simp] theorem frame_evaluateAt (s : State) (seg : Option Nat) : (s.evaluateAt seg).pending = s.pending ∧
    (s.evaluateAt seg).deferred = s.deferred ∧ (s.evaluateAt seg).dev = s.dev ∧ (s.evaluateAt seg).power = s.power ∧
    (s.evaluateAt seg).clk = s.clk ∧ (s.evaluateAt seg).fuses = s.fuses ∧ (s.evaluateAt seg).blobs = s.blobs ∧
    (s.evaluateAt seg).flash = s.flash ∧ (s.evaluateAt seg).auth = s.auth ∧ (s.evaluateAt seg).spi = s.spi ∧
    (s.evaluateAt seg).ring = s.ring ∧ (s.evaluateAt seg).sieve = s.sieve ∧ (s.evaluateAt seg).engine = s.engine ∧
    (s.evaluateAt seg).time = s.time ∧ (s.evaluateAt seg).motion = s.motion ∧ (s.evaluateAt seg).clocks = s.clocks ∧
    (s.evaluateAt seg).thermal = s.thermal ∧ (s.evaluateAt seg).images = s.images ∧ (s.evaluateAt seg).tap = s.tap ∧
    (s.evaluateAt seg).fresh = s.fresh := by
  unfold State.evaluateAt
  (repeat' split) <;> simp

@[simp] theorem frame_dataPresent (s : State) (h : HeadNo) : (s.dataPresent h).pending = s.pending ∧
    (s.dataPresent h).deferred = s.deferred ∧ (s.dataPresent h).dev = s.dev ∧ (s.dataPresent h).power = s.power ∧
    (s.dataPresent h).clk = s.clk ∧ (s.dataPresent h).fuses = s.fuses ∧ (s.dataPresent h).regs = s.regs ∧
    (s.dataPresent h).blobs = s.blobs ∧ (s.dataPresent h).flash = s.flash ∧ (s.dataPresent h).leaves = s.leaves ∧
    (s.dataPresent h).recorder = s.recorder ∧ (s.dataPresent h).sessions = s.sessions ∧
    (s.dataPresent h).auth = s.auth ∧ (s.dataPresent h).spi = s.spi ∧ (s.dataPresent h).ring = s.ring ∧
    (s.dataPresent h).ownWaiting = s.ownWaiting ∧ (s.dataPresent h).out = s.out ∧ (s.dataPresent h).heads = s.heads ∧
    (s.dataPresent h).sieve = s.sieve ∧ (s.dataPresent h).engine = s.engine ∧ (s.dataPresent h).time = s.time ∧
    (s.dataPresent h).twin = s.twin ∧ (s.dataPresent h).motion = s.motion ∧ (s.dataPresent h).dram = s.dram ∧
    (s.dataPresent h).clocks = s.clocks ∧ (s.dataPresent h).thermal = s.thermal ∧
    (s.dataPresent h).images = s.images ∧ (s.dataPresent h).tap = s.tap ∧ (s.dataPresent h).fresh = s.fresh := by
  unfold State.dataPresent
  (repeat' split) <;> simp

@[simp] theorem frame_beginHeld (s : State) (h : HeadNo) : (s.beginHeld h).pending = s.pending ∧
    (s.beginHeld h).deferred = s.deferred ∧ (s.beginHeld h).dev = s.dev ∧ (s.beginHeld h).power = s.power ∧
    (s.beginHeld h).clk = s.clk ∧ (s.beginHeld h).fuses = s.fuses ∧ (s.beginHeld h).blobs = s.blobs ∧
    (s.beginHeld h).flash = s.flash ∧ (s.beginHeld h).recorder = s.recorder ∧ (s.beginHeld h).auth = s.auth ∧
    (s.beginHeld h).spi = s.spi ∧ (s.beginHeld h).ring = s.ring ∧ (s.beginHeld h).sieve = s.sieve ∧
    (s.beginHeld h).engine = s.engine ∧ (s.beginHeld h).time = s.time ∧ (s.beginHeld h).motion = s.motion ∧
    (s.beginHeld h).dram = s.dram ∧ (s.beginHeld h).clocks = s.clocks ∧ (s.beginHeld h).thermal = s.thermal ∧
    (s.beginHeld h).images = s.images ∧ (s.beginHeld h).tap = s.tap ∧ (s.beginHeld h).fresh = s.fresh := by
  unfold State.beginHeld
  (repeat' split) <;> simp

@[simp] theorem frame_orderHeld (s : State) (h : HeadNo) : (s.orderHeld h).pending = s.pending ∧
    (s.orderHeld h).deferred = s.deferred ∧ (s.orderHeld h).dev = s.dev ∧ (s.orderHeld h).power = s.power ∧
    (s.orderHeld h).clk = s.clk ∧ (s.orderHeld h).fuses = s.fuses ∧ (s.orderHeld h).regs = s.regs ∧
    (s.orderHeld h).blobs = s.blobs ∧ (s.orderHeld h).flash = s.flash ∧ (s.orderHeld h).leaves = s.leaves ∧
    (s.orderHeld h).recorder = s.recorder ∧ (s.orderHeld h).sessions = s.sessions ∧ (s.orderHeld h).auth = s.auth ∧
    (s.orderHeld h).spi = s.spi ∧ (s.orderHeld h).ring = s.ring ∧ (s.orderHeld h).ownWaiting = s.ownWaiting ∧
    (s.orderHeld h).job = s.job ∧ (s.orderHeld h).heads = s.heads ∧ (s.orderHeld h).sieve = s.sieve ∧
    (s.orderHeld h).engine = s.engine ∧ (s.orderHeld h).time = s.time ∧ (s.orderHeld h).motion = s.motion ∧
    (s.orderHeld h).dram = s.dram ∧ (s.orderHeld h).clocks = s.clocks ∧ (s.orderHeld h).thermal = s.thermal ∧
    (s.orderHeld h).images = s.images ∧ (s.orderHeld h).tap = s.tap ∧ (s.orderHeld h).fresh = s.fresh := by
  unfold State.orderHeld
  (repeat' split) <;> simp

@[simp] theorem frame_giveUpPlace (s : State) (h : HeadNo) : (s.giveUpPlace h).pending = s.pending ∧
    (s.giveUpPlace h).deferred = s.deferred ∧ (s.giveUpPlace h).dev = s.dev ∧ (s.giveUpPlace h).power = s.power ∧
    (s.giveUpPlace h).clk = s.clk ∧ (s.giveUpPlace h).fuses = s.fuses ∧ (s.giveUpPlace h).regs = s.regs ∧
    (s.giveUpPlace h).blobs = s.blobs ∧ (s.giveUpPlace h).flash = s.flash ∧ (s.giveUpPlace h).leaves = s.leaves ∧
    (s.giveUpPlace h).recorder = s.recorder ∧ (s.giveUpPlace h).sessions = s.sessions ∧
    (s.giveUpPlace h).auth = s.auth ∧ (s.giveUpPlace h).spi = s.spi ∧ (s.giveUpPlace h).ring = s.ring ∧
    (s.giveUpPlace h).ownWaiting = s.ownWaiting ∧ (s.giveUpPlace h).out = s.out ∧ (s.giveUpPlace h).sieve = s.sieve ∧
    (s.giveUpPlace h).engine = s.engine ∧ (s.giveUpPlace h).time = s.time ∧ (s.giveUpPlace h).twin = s.twin ∧
    (s.giveUpPlace h).motion = s.motion ∧ (s.giveUpPlace h).dram = s.dram ∧ (s.giveUpPlace h).clocks = s.clocks ∧
    (s.giveUpPlace h).thermal = s.thermal ∧ (s.giveUpPlace h).images = s.images ∧ (s.giveUpPlace h).tap = s.tap ∧
    (s.giveUpPlace h).fresh = s.fresh := by
  unfold State.giveUpPlace
  (repeat' split) <;> simp

@[simp] theorem frame_pauseIdle (s : State) : (s.pauseIdle).pending = s.pending ∧
    (s.pauseIdle).deferred = s.deferred ∧ (s.pauseIdle).dev = s.dev ∧ (s.pauseIdle).power = s.power ∧
    (s.pauseIdle).clk = s.clk ∧ (s.pauseIdle).fuses = s.fuses ∧ (s.pauseIdle).regs = s.regs ∧
    (s.pauseIdle).blobs = s.blobs ∧ (s.pauseIdle).flash = s.flash ∧ (s.pauseIdle).leaves = s.leaves ∧
    (s.pauseIdle).recorder = s.recorder ∧ (s.pauseIdle).sessions = s.sessions ∧ (s.pauseIdle).auth = s.auth ∧
    (s.pauseIdle).spi = s.spi ∧ (s.pauseIdle).ring = s.ring ∧ (s.pauseIdle).ownWaiting = s.ownWaiting ∧
    (s.pauseIdle).out = s.out ∧ (s.pauseIdle).job = s.job ∧ (s.pauseIdle).sieve = s.sieve ∧
    (s.pauseIdle).engine = s.engine ∧ (s.pauseIdle).time = s.time ∧ (s.pauseIdle).twin = s.twin ∧
    (s.pauseIdle).motion = s.motion ∧ (s.pauseIdle).dram = s.dram ∧ (s.pauseIdle).clocks = s.clocks ∧
    (s.pauseIdle).thermal = s.thermal ∧ (s.pauseIdle).images = s.images ∧ (s.pauseIdle).tap = s.tap ∧
    (s.pauseIdle).fresh = s.fresh := by
  unfold State.pauseIdle
  (repeat' split) <;> simp

@[simp] theorem frame_pause (s : State) : (s.pause).pending = s.pending ∧ (s.pause).deferred = s.deferred ∧
    (s.pause).power = s.power ∧ (s.pause).clk = s.clk ∧ (s.pause).fuses = s.fuses ∧ (s.pause).regs = s.regs ∧
    (s.pause).blobs = s.blobs ∧ (s.pause).flash = s.flash ∧ (s.pause).leaves = s.leaves ∧
    (s.pause).recorder = s.recorder ∧ (s.pause).sessions = s.sessions ∧ (s.pause).auth = s.auth ∧
    (s.pause).spi = s.spi ∧ (s.pause).ring = s.ring ∧ (s.pause).ownWaiting = s.ownWaiting ∧ (s.pause).out = s.out ∧
    (s.pause).sieve = s.sieve ∧ (s.pause).engine = s.engine ∧ (s.pause).time = s.time ∧ (s.pause).motion = s.motion ∧
    (s.pause).dram = s.dram ∧ (s.pause).clocks = s.clocks ∧ (s.pause).thermal = s.thermal ∧
    (s.pause).images = s.images ∧ (s.pause).tap = s.tap ∧ (s.pause).fresh = s.fresh := by
  unfold State.pause
  (repeat' split) <;> simp

@[simp] theorem frame_resumeHeads (s : State) : (s.resumeHeads).pending = s.pending ∧
    (s.resumeHeads).deferred = s.deferred ∧ (s.resumeHeads).power = s.power ∧ (s.resumeHeads).clk = s.clk ∧
    (s.resumeHeads).fuses = s.fuses ∧ (s.resumeHeads).blobs = s.blobs ∧ (s.resumeHeads).flash = s.flash ∧
    (s.resumeHeads).auth = s.auth ∧ (s.resumeHeads).spi = s.spi ∧ (s.resumeHeads).ring = s.ring ∧
    (s.resumeHeads).sieve = s.sieve ∧ (s.resumeHeads).engine = s.engine ∧ (s.resumeHeads).time = s.time ∧
    (s.resumeHeads).motion = s.motion ∧ (s.resumeHeads).clocks = s.clocks ∧ (s.resumeHeads).thermal = s.thermal ∧
    (s.resumeHeads).images = s.images ∧ (s.resumeHeads).tap = s.tap ∧ (s.resumeHeads).fresh = s.fresh := by
  unfold State.resumeHeads
  (repeat' split) <;> simp

@[simp] theorem frame_stopAll (s : State) : (s.stopAll).pending = s.pending ∧ (s.stopAll).deferred = s.deferred ∧
    (s.stopAll).power = s.power ∧ (s.stopAll).clk = s.clk ∧ (s.stopAll).fuses = s.fuses ∧
    (s.stopAll).blobs = s.blobs ∧ (s.stopAll).flash = s.flash ∧ (s.stopAll).leaves = s.leaves ∧
    (s.stopAll).recorder = s.recorder ∧ (s.stopAll).auth = s.auth ∧ (s.stopAll).spi = s.spi ∧
    (s.stopAll).ring = s.ring ∧ (s.stopAll).sieve = s.sieve ∧ (s.stopAll).engine = s.engine ∧
    (s.stopAll).time = s.time ∧ (s.stopAll).motion = s.motion ∧ (s.stopAll).clocks = s.clocks ∧
    (s.stopAll).thermal = s.thermal ∧ (s.stopAll).images = s.images ∧ (s.stopAll).tap = s.tap ∧
    (s.stopAll).fresh = s.fresh := by
  unfold State.stopAll
  (repeat' split) <;> simp

@[simp] theorem frame_carryOut (s : State) (code : Nat) : (s.carryOut code).pending = s.pending ∧
    (s.carryOut code).deferred = s.deferred ∧ (s.carryOut code).fuses = s.fuses ∧
    (s.carryOut code).clocks = s.clocks ∧ (s.carryOut code).thermal = s.thermal ∧ (s.carryOut code).tap = s.tap ∧
    (s.carryOut code).fresh = s.fresh := by
  unfold State.carryOut
  (repeat' split) <;> simp

@[simp] theorem frame_withResult (s : State) (result : Nat) : (s.withResult result).pending = s.pending ∧
    (s.withResult result).deferred = s.deferred ∧ (s.withResult result).power = s.power ∧
    (s.withResult result).clk = s.clk ∧ (s.withResult result).fuses = s.fuses ∧ (s.withResult result).regs = s.regs ∧
    (s.withResult result).blobs = s.blobs ∧ (s.withResult result).flash = s.flash ∧
    (s.withResult result).recorder = s.recorder ∧ (s.withResult result).auth = s.auth ∧
    (s.withResult result).spi = s.spi ∧ (s.withResult result).ring = s.ring ∧ (s.withResult result).job = s.job ∧
    (s.withResult result).heads = s.heads ∧ (s.withResult result).sieve = s.sieve ∧
    (s.withResult result).engine = s.engine ∧ (s.withResult result).time = s.time ∧
    (s.withResult result).motion = s.motion ∧ (s.withResult result).dram = s.dram ∧
    (s.withResult result).clocks = s.clocks ∧ (s.withResult result).thermal = s.thermal ∧
    (s.withResult result).images = s.images ∧ (s.withResult result).tap = s.tap ∧
    (s.withResult result).fresh = s.fresh := by
  unfold State.withResult
  (repeat' split) <;> simp

@[simp] theorem frame_request (s : State) (p : Path) (alone : Bool) (code : Nat) : (s.request p alone code).pending = s.pending ∧
    (s.request p alone code).deferred = s.deferred ∧ (s.request p alone code).fuses = s.fuses ∧
    (s.request p alone code).clocks = s.clocks ∧ (s.request p alone code).thermal = s.thermal ∧
    (s.request p alone code).tap = s.tap ∧ (s.request p alone code).fresh = s.fresh := by
  unfold State.request
  dsimp only
  (repeat' split) <;> simp

@[simp] theorem frame_writeRequest (s : State) (p : Path) (alone : Bool) (code : Nat) : (s.writeRequest p alone code).pending = s.pending ∧
    (s.writeRequest p alone code).deferred = s.deferred ∧ (s.writeRequest p alone code).fuses = s.fuses ∧
    (s.writeRequest p alone code).clocks = s.clocks ∧ (s.writeRequest p alone code).thermal = s.thermal ∧
    (s.writeRequest p alone code).tap = s.tap ∧ (s.writeRequest p alone code).fresh = s.fresh := by
  unfold State.writeRequest
  (repeat' split) <;> simp

@[simp] theorem frame_reportExclusions (s : State) (before : List Sensor) (readings : List Int) : (s.reportExclusions before readings).pending = s.pending ∧
    (s.reportExclusions before readings).deferred = s.deferred ∧ (s.reportExclusions before readings).dev = s.dev ∧
    (s.reportExclusions before readings).power = s.power ∧ (s.reportExclusions before readings).clk = s.clk ∧
    (s.reportExclusions before readings).fuses = s.fuses ∧ (s.reportExclusions before readings).blobs = s.blobs ∧
    (s.reportExclusions before readings).flash = s.flash ∧ (s.reportExclusions before readings).auth = s.auth ∧
    (s.reportExclusions before readings).spi = s.spi ∧ (s.reportExclusions before readings).ring = s.ring ∧
    (s.reportExclusions before readings).job = s.job ∧ (s.reportExclusions before readings).heads = s.heads ∧
    (s.reportExclusions before readings).sieve = s.sieve ∧ (s.reportExclusions before readings).engine = s.engine ∧
    (s.reportExclusions before readings).time = s.time ∧ (s.reportExclusions before readings).motion = s.motion ∧
    (s.reportExclusions before readings).dram = s.dram ∧ (s.reportExclusions before readings).clocks = s.clocks ∧
    (s.reportExclusions before readings).thermal = s.thermal ∧
    (s.reportExclusions before readings).images = s.images ∧ (s.reportExclusions before readings).tap = s.tap ∧
    (s.reportExclusions before readings).fresh = s.fresh := by
  unfold State.reportExclusions
  (repeat' split) <;> simp

@[simp] theorem frame_exclusionLimit (s : State) (turned : Bool) : (s.exclusionLimit turned).pending = s.pending ∧
    (s.exclusionLimit turned).deferred = s.deferred ∧ (s.exclusionLimit turned).dev = s.dev ∧
    (s.exclusionLimit turned).power = s.power ∧ (s.exclusionLimit turned).clk = s.clk ∧
    (s.exclusionLimit turned).fuses = s.fuses ∧ (s.exclusionLimit turned).regs = s.regs ∧
    (s.exclusionLimit turned).blobs = s.blobs ∧ (s.exclusionLimit turned).flash = s.flash ∧
    (s.exclusionLimit turned).recorder = s.recorder ∧ (s.exclusionLimit turned).auth = s.auth ∧
    (s.exclusionLimit turned).spi = s.spi ∧ (s.exclusionLimit turned).ring = s.ring ∧
    (s.exclusionLimit turned).job = s.job ∧ (s.exclusionLimit turned).heads = s.heads ∧
    (s.exclusionLimit turned).sieve = s.sieve ∧ (s.exclusionLimit turned).engine = s.engine ∧
    (s.exclusionLimit turned).time = s.time ∧ (s.exclusionLimit turned).motion = s.motion ∧
    (s.exclusionLimit turned).dram = s.dram ∧ (s.exclusionLimit turned).clocks = s.clocks ∧
    (s.exclusionLimit turned).images = s.images ∧ (s.exclusionLimit turned).tap = s.tap ∧
    (s.exclusionLimit turned).fresh = s.fresh := by
  unfold State.exclusionLimit
  (repeat' split) <;> simp

@[simp] theorem frame_dieMax (s : State) (top : Nat × Int) : (s.dieMax top).pending = s.pending ∧
    (s.dieMax top).deferred = s.deferred ∧ (s.dieMax top).dev = s.dev ∧ (s.dieMax top).power = s.power ∧
    (s.dieMax top).clk = s.clk ∧ (s.dieMax top).fuses = s.fuses ∧ (s.dieMax top).blobs = s.blobs ∧
    (s.dieMax top).flash = s.flash ∧ (s.dieMax top).leaves = s.leaves ∧ (s.dieMax top).recorder = s.recorder ∧
    (s.dieMax top).sessions = s.sessions ∧ (s.dieMax top).auth = s.auth ∧ (s.dieMax top).spi = s.spi ∧
    (s.dieMax top).ring = s.ring ∧ (s.dieMax top).ownWaiting = s.ownWaiting ∧ (s.dieMax top).out = s.out ∧
    (s.dieMax top).job = s.job ∧ (s.dieMax top).heads = s.heads ∧ (s.dieMax top).sieve = s.sieve ∧
    (s.dieMax top).engine = s.engine ∧ (s.dieMax top).time = s.time ∧ (s.dieMax top).twin = s.twin ∧
    (s.dieMax top).motion = s.motion ∧ (s.dieMax top).dram = s.dram ∧ (s.dieMax top).clocks = s.clocks ∧
    (s.dieMax top).thermal = s.thermal ∧ (s.dieMax top).images = s.images ∧ (s.dieMax top).tap = s.tap ∧
    (s.dieMax top).fresh = s.fresh := by
  unfold State.dieMax
  (repeat' split) <;> simp

@[simp] theorem frame_fastMode (s : State) (top : Int) : (s.fastMode top).pending = s.pending ∧
    (s.fastMode top).deferred = s.deferred ∧ (s.fastMode top).dev = s.dev ∧ (s.fastMode top).power = s.power ∧
    (s.fastMode top).clk = s.clk ∧ (s.fastMode top).fuses = s.fuses ∧ (s.fastMode top).regs = s.regs ∧
    (s.fastMode top).blobs = s.blobs ∧ (s.fastMode top).flash = s.flash ∧ (s.fastMode top).recorder = s.recorder ∧
    (s.fastMode top).auth = s.auth ∧ (s.fastMode top).spi = s.spi ∧ (s.fastMode top).ring = s.ring ∧
    (s.fastMode top).job = s.job ∧ (s.fastMode top).heads = s.heads ∧ (s.fastMode top).sieve = s.sieve ∧
    (s.fastMode top).engine = s.engine ∧ (s.fastMode top).time = s.time ∧ (s.fastMode top).motion = s.motion ∧
    (s.fastMode top).dram = s.dram ∧ (s.fastMode top).clocks = s.clocks ∧ (s.fastMode top).images = s.images ∧
    (s.fastMode top).tap = s.tap ∧ (s.fastMode top).fresh = s.fresh := by
  unfold State.fastMode
  (repeat' split) <;> simp

@[simp] theorem frame_dieWarning (s : State) (top : Int) : (s.dieWarning top).pending = s.pending ∧
    (s.dieWarning top).deferred = s.deferred ∧ (s.dieWarning top).dev = s.dev ∧ (s.dieWarning top).power = s.power ∧
    (s.dieWarning top).clk = s.clk ∧ (s.dieWarning top).fuses = s.fuses ∧ (s.dieWarning top).blobs = s.blobs ∧
    (s.dieWarning top).flash = s.flash ∧ (s.dieWarning top).recorder = s.recorder ∧ (s.dieWarning top).auth = s.auth ∧
    (s.dieWarning top).spi = s.spi ∧ (s.dieWarning top).ring = s.ring ∧ (s.dieWarning top).job = s.job ∧
    (s.dieWarning top).heads = s.heads ∧ (s.dieWarning top).sieve = s.sieve ∧ (s.dieWarning top).engine = s.engine ∧
    (s.dieWarning top).time = s.time ∧ (s.dieWarning top).motion = s.motion ∧ (s.dieWarning top).dram = s.dram ∧
    (s.dieWarning top).clocks = s.clocks ∧ (s.dieWarning top).images = s.images ∧ (s.dieWarning top).tap = s.tap ∧
    (s.dieWarning top).fresh = s.fresh := by
  unfold State.dieWarning
  (repeat' split) <;> simp

@[simp] theorem frame_trip (s : State) (top : Nat × Int) : (s.trip top).pending = s.pending ∧
    (s.trip top).deferred = s.deferred ∧ (s.trip top).power = s.power ∧ (s.trip top).clk = s.clk ∧
    (s.trip top).fuses = s.fuses ∧ (s.trip top).blobs = s.blobs ∧ (s.trip top).flash = s.flash ∧
    (s.trip top).auth = s.auth ∧ (s.trip top).spi = s.spi ∧ (s.trip top).ring = s.ring ∧
    (s.trip top).sieve = s.sieve ∧ (s.trip top).engine = s.engine ∧ (s.trip top).time = s.time ∧
    (s.trip top).clocks = s.clocks ∧ (s.trip top).images = s.images ∧ (s.trip top).tap = s.tap := by
  unfold State.trip
  (repeat' split) <;> simp

@[simp] theorem frame_judgeTrip (s : State) (top : Nat × Int) : (s.judgeTrip top).pending = s.pending ∧
    (s.judgeTrip top).deferred = s.deferred ∧ (s.judgeTrip top).power = s.power ∧ (s.judgeTrip top).clk = s.clk ∧
    (s.judgeTrip top).fuses = s.fuses ∧ (s.judgeTrip top).blobs = s.blobs ∧ (s.judgeTrip top).flash = s.flash ∧
    (s.judgeTrip top).auth = s.auth ∧ (s.judgeTrip top).spi = s.spi ∧ (s.judgeTrip top).ring = s.ring ∧
    (s.judgeTrip top).sieve = s.sieve ∧ (s.judgeTrip top).engine = s.engine ∧ (s.judgeTrip top).time = s.time ∧
    (s.judgeTrip top).clocks = s.clocks ∧ (s.judgeTrip top).images = s.images ∧ (s.judgeTrip top).tap = s.tap := by
  unfold State.judgeTrip
  (repeat' split) <;> simp

@[simp] theorem frame_retrainByDelta (s : State) (readings : List Int) : (s.retrainByDelta readings).pending = s.pending ∧
    (s.retrainByDelta readings).deferred = s.deferred ∧ (s.retrainByDelta readings).dev = s.dev ∧
    (s.retrainByDelta readings).power = s.power ∧ (s.retrainByDelta readings).clk = s.clk ∧
    (s.retrainByDelta readings).fuses = s.fuses ∧ (s.retrainByDelta readings).regs = s.regs ∧
    (s.retrainByDelta readings).blobs = s.blobs ∧ (s.retrainByDelta readings).flash = s.flash ∧
    (s.retrainByDelta readings).leaves = s.leaves ∧ (s.retrainByDelta readings).recorder = s.recorder ∧
    (s.retrainByDelta readings).sessions = s.sessions ∧ (s.retrainByDelta readings).auth = s.auth ∧
    (s.retrainByDelta readings).spi = s.spi ∧ (s.retrainByDelta readings).ring = s.ring ∧
    (s.retrainByDelta readings).ownWaiting = s.ownWaiting ∧ (s.retrainByDelta readings).out = s.out ∧
    (s.retrainByDelta readings).job = s.job ∧ (s.retrainByDelta readings).heads = s.heads ∧
    (s.retrainByDelta readings).sieve = s.sieve ∧ (s.retrainByDelta readings).engine = s.engine ∧
    (s.retrainByDelta readings).time = s.time ∧ (s.retrainByDelta readings).twin = s.twin ∧
    (s.retrainByDelta readings).motion = s.motion ∧ (s.retrainByDelta readings).clocks = s.clocks ∧
    (s.retrainByDelta readings).thermal = s.thermal ∧ (s.retrainByDelta readings).images = s.images ∧
    (s.retrainByDelta readings).tap = s.tap ∧ (s.retrainByDelta readings).fresh = s.fresh := by
  unfold State.retrainByDelta
  (repeat' split) <;> simp

@[simp] theorem frame_measure (s : State) (readings : List Int) : (s.measure readings).pending = s.pending ∧
    (s.measure readings).deferred = s.deferred ∧ (s.measure readings).power = s.power ∧
    (s.measure readings).clk = s.clk ∧ (s.measure readings).fuses = s.fuses ∧ (s.measure readings).blobs = s.blobs ∧
    (s.measure readings).flash = s.flash ∧ (s.measure readings).auth = s.auth ∧ (s.measure readings).spi = s.spi ∧
    (s.measure readings).ring = s.ring ∧ (s.measure readings).sieve = s.sieve ∧
    (s.measure readings).engine = s.engine ∧ (s.measure readings).time = s.time ∧
    (s.measure readings).clocks = s.clocks ∧ (s.measure readings).images = s.images ∧
    (s.measure readings).tap = s.tap := by
  unfold State.measure
  (repeat' split) <;> simp

@[simp] theorem frame_resumeBoot (s : State) : (s.resumeBoot).pending = s.pending ∧
    (s.resumeBoot).deferred = s.deferred ∧ (s.resumeBoot).dev = s.dev ∧ (s.resumeBoot).clk = s.clk ∧
    (s.resumeBoot).fuses = s.fuses ∧ (s.resumeBoot).regs = s.regs ∧ (s.resumeBoot).blobs = s.blobs ∧
    (s.resumeBoot).flash = s.flash ∧ (s.resumeBoot).leaves = s.leaves ∧ (s.resumeBoot).recorder = s.recorder ∧
    (s.resumeBoot).sessions = s.sessions ∧ (s.resumeBoot).auth = s.auth ∧ (s.resumeBoot).spi = s.spi ∧
    (s.resumeBoot).ring = s.ring ∧ (s.resumeBoot).ownWaiting = s.ownWaiting ∧ (s.resumeBoot).out = s.out ∧
    (s.resumeBoot).job = s.job ∧ (s.resumeBoot).heads = s.heads ∧ (s.resumeBoot).sieve = s.sieve ∧
    (s.resumeBoot).engine = s.engine ∧ (s.resumeBoot).time = s.time ∧ (s.resumeBoot).twin = s.twin ∧
    (s.resumeBoot).motion = s.motion ∧ (s.resumeBoot).dram = s.dram ∧ (s.resumeBoot).thermal = s.thermal ∧
    (s.resumeBoot).images = s.images ∧ (s.resumeBoot).tap = s.tap ∧ (s.resumeBoot).fresh = s.fresh := by
  unfold State.resumeBoot
  (repeat' split) <;> simp

@[simp] theorem frame_leaveTrip (s : State) : (s.leaveTrip).pending = s.pending ∧
    (s.leaveTrip).deferred = s.deferred ∧ (s.leaveTrip).clk = s.clk ∧ (s.leaveTrip).fuses = s.fuses ∧
    (s.leaveTrip).blobs = s.blobs ∧ (s.leaveTrip).flash = s.flash ∧ (s.leaveTrip).auth = s.auth ∧
    (s.leaveTrip).spi = s.spi ∧ (s.leaveTrip).ring = s.ring ∧ (s.leaveTrip).job = s.job ∧
    (s.leaveTrip).sieve = s.sieve ∧ (s.leaveTrip).engine = s.engine ∧ (s.leaveTrip).time = s.time ∧
    (s.leaveTrip).dram = s.dram ∧ (s.leaveTrip).clocks = s.clocks ∧ (s.leaveTrip).thermal = s.thermal ∧
    (s.leaveTrip).images = s.images ∧ (s.leaveTrip).tap = s.tap ∧ (s.leaveTrip).fresh = s.fresh := by
  unfold State.leaveTrip
  (repeat' split) <;> simp

@[simp] theorem frame_restartAfterTrip (s : State) : (s.restartAfterTrip).pending = s.pending ∧
    (s.restartAfterTrip).deferred = s.deferred ∧ (s.restartAfterTrip).clk = s.clk ∧
    (s.restartAfterTrip).fuses = s.fuses ∧ (s.restartAfterTrip).blobs = s.blobs ∧
    (s.restartAfterTrip).flash = s.flash ∧ (s.restartAfterTrip).auth = s.auth ∧ (s.restartAfterTrip).spi = s.spi ∧
    (s.restartAfterTrip).ring = s.ring ∧ (s.restartAfterTrip).sieve = s.sieve ∧
    (s.restartAfterTrip).engine = s.engine ∧ (s.restartAfterTrip).time = s.time ∧
    (s.restartAfterTrip).images = s.images ∧ (s.restartAfterTrip).tap = s.tap ∧
    (s.restartAfterTrip).fresh = s.fresh := by
  unfold State.restartAfterTrip
  (repeat' split) <;> simp

@[simp] theorem frame_writeLinkEnable (s : State) (h value : Nat) : (s.writeLinkEnable h value).pending = s.pending ∧
    (s.writeLinkEnable h value).deferred = s.deferred ∧ (s.writeLinkEnable h value).dev = s.dev ∧
    (s.writeLinkEnable h value).power = s.power ∧ (s.writeLinkEnable h value).clk = s.clk ∧
    (s.writeLinkEnable h value).fuses = s.fuses ∧ (s.writeLinkEnable h value).blobs = s.blobs ∧
    (s.writeLinkEnable h value).flash = s.flash ∧ (s.writeLinkEnable h value).auth = s.auth ∧
    (s.writeLinkEnable h value).spi = s.spi ∧ (s.writeLinkEnable h value).ring = s.ring ∧
    (s.writeLinkEnable h value).sieve = s.sieve ∧ (s.writeLinkEnable h value).time = s.time ∧
    (s.writeLinkEnable h value).motion = s.motion ∧ (s.writeLinkEnable h value).clocks = s.clocks ∧
    (s.writeLinkEnable h value).thermal = s.thermal ∧ (s.writeLinkEnable h value).images = s.images ∧
    (s.writeLinkEnable h value).tap = s.tap ∧ (s.writeLinkEnable h value).fresh = s.fresh := by
  unfold State.writeLinkEnable
  (repeat' split) <;> simp

@[simp] theorem frame_execHeadLinkEnableWrite (path : Path) (h value : Nat) (s : State) (s0 : State) : (outcomeState s0 (execHeadLinkEnableWrite path h value s)).pending = s.pending ∧
    (outcomeState s0 (execHeadLinkEnableWrite path h value s)).dev = s.dev ∧
    (outcomeState s0 (execHeadLinkEnableWrite path h value s)).power = s.power ∧
    (outcomeState s0 (execHeadLinkEnableWrite path h value s)).clk = s.clk ∧
    (outcomeState s0 (execHeadLinkEnableWrite path h value s)).fuses = s.fuses ∧
    (outcomeState s0 (execHeadLinkEnableWrite path h value s)).blobs = s.blobs ∧
    (outcomeState s0 (execHeadLinkEnableWrite path h value s)).flash = s.flash ∧
    (outcomeState s0 (execHeadLinkEnableWrite path h value s)).auth = s.auth ∧
    (outcomeState s0 (execHeadLinkEnableWrite path h value s)).spi = s.spi ∧
    (outcomeState s0 (execHeadLinkEnableWrite path h value s)).ring = s.ring ∧
    (outcomeState s0 (execHeadLinkEnableWrite path h value s)).sieve = s.sieve ∧
    (outcomeState s0 (execHeadLinkEnableWrite path h value s)).time = s.time ∧
    (outcomeState s0 (execHeadLinkEnableWrite path h value s)).motion = s.motion ∧
    (outcomeState s0 (execHeadLinkEnableWrite path h value s)).clocks = s.clocks ∧
    (outcomeState s0 (execHeadLinkEnableWrite path h value s)).thermal = s.thermal ∧
    (outcomeState s0 (execHeadLinkEnableWrite path h value s)).images = s.images ∧
    (outcomeState s0 (execHeadLinkEnableWrite path h value s)).tap = s.tap ∧
    (outcomeState s0 (execHeadLinkEnableWrite path h value s)).fresh = s.fresh := by
  simp only [execHeadLinkEnableWrite]
  (repeat' split) <;> simp

@[simp] theorem frame_axisCommand_pending (s : State) (p : Path) (m sub result : Nat) (gate : Option Abort) (d : State) (h : d.pending = s.pending) : (s.axisCommand p m sub result gate d).pending = s.pending := by
  unfold State.axisCommand
  (repeat' split) <;> simp [h]
@[simp] theorem frame_axisCommand_deferred (s : State) (p : Path) (m sub result : Nat) (gate : Option Abort) (d : State) (h : d.deferred = s.deferred) : (s.axisCommand p m sub result gate d).deferred = s.deferred := by
  unfold State.axisCommand
  (repeat' split) <;> simp [h]
@[simp] theorem frame_axisCommand_dev (s : State) (p : Path) (m sub result : Nat) (gate : Option Abort) (d : State) (h : d.dev = s.dev) : (s.axisCommand p m sub result gate d).dev = s.dev := by
  unfold State.axisCommand
  (repeat' split) <;> simp [h]
@[simp] theorem frame_axisCommand_power (s : State) (p : Path) (m sub result : Nat) (gate : Option Abort) (d : State) (h : d.power = s.power) : (s.axisCommand p m sub result gate d).power = s.power := by
  unfold State.axisCommand
  (repeat' split) <;> simp [h]
@[simp] theorem frame_axisCommand_clk (s : State) (p : Path) (m sub result : Nat) (gate : Option Abort) (d : State) (h : d.clk = s.clk) : (s.axisCommand p m sub result gate d).clk = s.clk := by
  unfold State.axisCommand
  (repeat' split) <;> simp [h]
@[simp] theorem frame_axisCommand_fuses (s : State) (p : Path) (m sub result : Nat) (gate : Option Abort) (d : State) (h : d.fuses = s.fuses) : (s.axisCommand p m sub result gate d).fuses = s.fuses := by
  unfold State.axisCommand
  (repeat' split) <;> simp [h]
@[simp] theorem frame_axisCommand_blobs (s : State) (p : Path) (m sub result : Nat) (gate : Option Abort) (d : State) (h : d.blobs = s.blobs) : (s.axisCommand p m sub result gate d).blobs = s.blobs := by
  unfold State.axisCommand
  (repeat' split) <;> simp [h]
@[simp] theorem frame_axisCommand_flash (s : State) (p : Path) (m sub result : Nat) (gate : Option Abort) (d : State) (h : d.flash = s.flash) : (s.axisCommand p m sub result gate d).flash = s.flash := by
  unfold State.axisCommand
  (repeat' split) <;> simp [h]
@[simp] theorem frame_axisCommand_leaves (s : State) (p : Path) (m sub result : Nat) (gate : Option Abort) (d : State) (h : d.leaves = s.leaves) : (s.axisCommand p m sub result gate d).leaves = s.leaves := by
  unfold State.axisCommand
  (repeat' split) <;> simp [h]
@[simp] theorem frame_axisCommand_recorder (s : State) (p : Path) (m sub result : Nat) (gate : Option Abort) (d : State) (h : d.recorder = s.recorder) : (s.axisCommand p m sub result gate d).recorder = s.recorder := by
  unfold State.axisCommand
  (repeat' split) <;> simp [h]
@[simp] theorem frame_axisCommand_sessions (s : State) (p : Path) (m sub result : Nat) (gate : Option Abort) (d : State) (h : d.sessions = s.sessions) : (s.axisCommand p m sub result gate d).sessions = s.sessions := by
  unfold State.axisCommand
  (repeat' split) <;> simp [h]
@[simp] theorem frame_axisCommand_auth (s : State) (p : Path) (m sub result : Nat) (gate : Option Abort) (d : State) (h : d.auth = s.auth) : (s.axisCommand p m sub result gate d).auth = s.auth := by
  unfold State.axisCommand
  (repeat' split) <;> simp [h]
@[simp] theorem frame_axisCommand_spi (s : State) (p : Path) (m sub result : Nat) (gate : Option Abort) (d : State) (h : d.spi = s.spi) : (s.axisCommand p m sub result gate d).spi = s.spi := by
  unfold State.axisCommand
  (repeat' split) <;> simp [h]
@[simp] theorem frame_axisCommand_ring (s : State) (p : Path) (m sub result : Nat) (gate : Option Abort) (d : State) (h : d.ring = s.ring) : (s.axisCommand p m sub result gate d).ring = s.ring := by
  unfold State.axisCommand
  (repeat' split) <;> simp [h]
@[simp] theorem frame_axisCommand_ownWaiting (s : State) (p : Path) (m sub result : Nat) (gate : Option Abort) (d : State) (h : d.ownWaiting = s.ownWaiting) : (s.axisCommand p m sub result gate d).ownWaiting = s.ownWaiting := by
  unfold State.axisCommand
  (repeat' split) <;> simp [h]
@[simp] theorem frame_axisCommand_job (s : State) (p : Path) (m sub result : Nat) (gate : Option Abort) (d : State) (h : d.job = s.job) : (s.axisCommand p m sub result gate d).job = s.job := by
  unfold State.axisCommand
  (repeat' split) <;> simp [h]
@[simp] theorem frame_axisCommand_heads (s : State) (p : Path) (m sub result : Nat) (gate : Option Abort) (d : State) (h : d.heads = s.heads) : (s.axisCommand p m sub result gate d).heads = s.heads := by
  unfold State.axisCommand
  (repeat' split) <;> simp [h]
@[simp] theorem frame_axisCommand_sieve (s : State) (p : Path) (m sub result : Nat) (gate : Option Abort) (d : State) (h : d.sieve = s.sieve) : (s.axisCommand p m sub result gate d).sieve = s.sieve := by
  unfold State.axisCommand
  (repeat' split) <;> simp [h]
@[simp] theorem frame_axisCommand_engine (s : State) (p : Path) (m sub result : Nat) (gate : Option Abort) (d : State) (h : d.engine = s.engine) : (s.axisCommand p m sub result gate d).engine = s.engine := by
  unfold State.axisCommand
  (repeat' split) <;> simp [h]
@[simp] theorem frame_axisCommand_time (s : State) (p : Path) (m sub result : Nat) (gate : Option Abort) (d : State) (h : d.time = s.time) : (s.axisCommand p m sub result gate d).time = s.time := by
  unfold State.axisCommand
  (repeat' split) <;> simp [h]
@[simp] theorem frame_axisCommand_twin (s : State) (p : Path) (m sub result : Nat) (gate : Option Abort) (d : State) (h : d.twin = s.twin) : (s.axisCommand p m sub result gate d).twin = s.twin := by
  unfold State.axisCommand
  (repeat' split) <;> simp [h]
@[simp] theorem frame_axisCommand_motion (s : State) (p : Path) (m sub result : Nat) (gate : Option Abort) (d : State) (h : d.motion = s.motion) : (s.axisCommand p m sub result gate d).motion = s.motion := by
  unfold State.axisCommand
  (repeat' split) <;> simp [h]
@[simp] theorem frame_axisCommand_dram (s : State) (p : Path) (m sub result : Nat) (gate : Option Abort) (d : State) (h : d.dram = s.dram) : (s.axisCommand p m sub result gate d).dram = s.dram := by
  unfold State.axisCommand
  (repeat' split) <;> simp [h]
@[simp] theorem frame_axisCommand_clocks (s : State) (p : Path) (m sub result : Nat) (gate : Option Abort) (d : State) (h : d.clocks = s.clocks) : (s.axisCommand p m sub result gate d).clocks = s.clocks := by
  unfold State.axisCommand
  (repeat' split) <;> simp [h]
@[simp] theorem frame_axisCommand_thermal (s : State) (p : Path) (m sub result : Nat) (gate : Option Abort) (d : State) (h : d.thermal = s.thermal) : (s.axisCommand p m sub result gate d).thermal = s.thermal := by
  unfold State.axisCommand
  (repeat' split) <;> simp [h]
@[simp] theorem frame_axisCommand_images (s : State) (p : Path) (m sub result : Nat) (gate : Option Abort) (d : State) (h : d.images = s.images) : (s.axisCommand p m sub result gate d).images = s.images := by
  unfold State.axisCommand
  (repeat' split) <;> simp [h]
@[simp] theorem frame_axisCommand_tap (s : State) (p : Path) (m sub result : Nat) (gate : Option Abort) (d : State) (h : d.tap = s.tap) : (s.axisCommand p m sub result gate d).tap = s.tap := by
  unfold State.axisCommand
  (repeat' split) <;> simp [h]
@[simp] theorem frame_axisCommand_fresh (s : State) (p : Path) (m sub result : Nat) (gate : Option Abort) (d : State) (h : d.fresh = s.fresh) : (s.axisCommand p m sub result gate d).fresh = s.fresh := by
  unfold State.axisCommand
  (repeat' split) <;> simp [h]

@[simp] theorem frame_enableGang (s : State) (m : Nat) : (s.enableGang m).pending = s.pending ∧
    (s.enableGang m).deferred = s.deferred ∧ (s.enableGang m).dev = s.dev ∧ (s.enableGang m).power = s.power ∧
    (s.enableGang m).clk = s.clk ∧ (s.enableGang m).fuses = s.fuses ∧ (s.enableGang m).blobs = s.blobs ∧
    (s.enableGang m).flash = s.flash ∧ (s.enableGang m).leaves = s.leaves ∧ (s.enableGang m).recorder = s.recorder ∧
    (s.enableGang m).sessions = s.sessions ∧ (s.enableGang m).auth = s.auth ∧ (s.enableGang m).spi = s.spi ∧
    (s.enableGang m).ring = s.ring ∧ (s.enableGang m).ownWaiting = s.ownWaiting ∧ (s.enableGang m).out = s.out ∧
    (s.enableGang m).job = s.job ∧ (s.enableGang m).heads = s.heads ∧ (s.enableGang m).sieve = s.sieve ∧
    (s.enableGang m).engine = s.engine ∧ (s.enableGang m).time = s.time ∧ (s.enableGang m).twin = s.twin ∧
    (s.enableGang m).dram = s.dram ∧ (s.enableGang m).clocks = s.clocks ∧ (s.enableGang m).thermal = s.thermal ∧
    (s.enableGang m).images = s.images ∧ (s.enableGang m).tap = s.tap ∧ (s.enableGang m).fresh = s.fresh := by
  unfold State.enableGang
  (repeat' split) <;> simp

@[simp] theorem frame_disableGang (s : State) (m : Nat) : (s.disableGang m).pending = s.pending ∧
    (s.disableGang m).deferred = s.deferred ∧ (s.disableGang m).dev = s.dev ∧ (s.disableGang m).power = s.power ∧
    (s.disableGang m).clk = s.clk ∧ (s.disableGang m).fuses = s.fuses ∧ (s.disableGang m).blobs = s.blobs ∧
    (s.disableGang m).flash = s.flash ∧ (s.disableGang m).recorder = s.recorder ∧ (s.disableGang m).auth = s.auth ∧
    (s.disableGang m).spi = s.spi ∧ (s.disableGang m).ring = s.ring ∧ (s.disableGang m).job = s.job ∧
    (s.disableGang m).heads = s.heads ∧ (s.disableGang m).sieve = s.sieve ∧ (s.disableGang m).engine = s.engine ∧
    (s.disableGang m).time = s.time ∧ (s.disableGang m).dram = s.dram ∧ (s.disableGang m).clocks = s.clocks ∧
    (s.disableGang m).thermal = s.thermal ∧ (s.disableGang m).images = s.images ∧ (s.disableGang m).tap = s.tap ∧
    (s.disableGang m).fresh = s.fresh := by
  unfold State.disableGang
  (repeat' split) <;> simp

@[simp] theorem frame_execEnableAxis (path : Path) (m value : Nat) (s : State) (s0 : State) : (outcomeState s0 (execEnableAxis path m value s)).pending = s.pending ∧
    (outcomeState s0 (execEnableAxis path m value s)).dev = s.dev ∧
    (outcomeState s0 (execEnableAxis path m value s)).power = s.power ∧
    (outcomeState s0 (execEnableAxis path m value s)).clk = s.clk ∧
    (outcomeState s0 (execEnableAxis path m value s)).fuses = s.fuses ∧
    (outcomeState s0 (execEnableAxis path m value s)).blobs = s.blobs ∧
    (outcomeState s0 (execEnableAxis path m value s)).flash = s.flash ∧
    (outcomeState s0 (execEnableAxis path m value s)).recorder = s.recorder ∧
    (outcomeState s0 (execEnableAxis path m value s)).auth = s.auth ∧
    (outcomeState s0 (execEnableAxis path m value s)).spi = s.spi ∧
    (outcomeState s0 (execEnableAxis path m value s)).ring = s.ring ∧
    (outcomeState s0 (execEnableAxis path m value s)).job = s.job ∧
    (outcomeState s0 (execEnableAxis path m value s)).heads = s.heads ∧
    (outcomeState s0 (execEnableAxis path m value s)).sieve = s.sieve ∧
    (outcomeState s0 (execEnableAxis path m value s)).engine = s.engine ∧
    (outcomeState s0 (execEnableAxis path m value s)).time = s.time ∧
    (outcomeState s0 (execEnableAxis path m value s)).dram = s.dram ∧
    (outcomeState s0 (execEnableAxis path m value s)).clocks = s.clocks ∧
    (outcomeState s0 (execEnableAxis path m value s)).thermal = s.thermal ∧
    (outcomeState s0 (execEnableAxis path m value s)).images = s.images ∧
    (outcomeState s0 (execEnableAxis path m value s)).tap = s.tap ∧
    (outcomeState s0 (execEnableAxis path m value s)).fresh = s.fresh := by
  simp only [execEnableAxis]
  (repeat' split) <;> simp

@[simp] theorem frame_startMove (s : State) (m : Nat) (d : Int) (speed : Nat) : (s.startMove m d speed).pending = s.pending ∧
    (s.startMove m d speed).deferred = s.deferred ∧ (s.startMove m d speed).dev = s.dev ∧
    (s.startMove m d speed).power = s.power ∧ (s.startMove m d speed).clk = s.clk ∧
    (s.startMove m d speed).fuses = s.fuses ∧ (s.startMove m d speed).regs = s.regs ∧
    (s.startMove m d speed).blobs = s.blobs ∧ (s.startMove m d speed).flash = s.flash ∧
    (s.startMove m d speed).leaves = s.leaves ∧ (s.startMove m d speed).recorder = s.recorder ∧
    (s.startMove m d speed).sessions = s.sessions ∧ (s.startMove m d speed).auth = s.auth ∧
    (s.startMove m d speed).spi = s.spi ∧ (s.startMove m d speed).ring = s.ring ∧
    (s.startMove m d speed).ownWaiting = s.ownWaiting ∧ (s.startMove m d speed).out = s.out ∧
    (s.startMove m d speed).job = s.job ∧ (s.startMove m d speed).heads = s.heads ∧
    (s.startMove m d speed).sieve = s.sieve ∧ (s.startMove m d speed).engine = s.engine ∧
    (s.startMove m d speed).time = s.time ∧ (s.startMove m d speed).twin = s.twin ∧
    (s.startMove m d speed).dram = s.dram ∧ (s.startMove m d speed).clocks = s.clocks ∧
    (s.startMove m d speed).thermal = s.thermal ∧ (s.startMove m d speed).images = s.images ∧
    (s.startMove m d speed).tap = s.tap ∧ (s.startMove m d speed).fresh = s.fresh := by
  unfold State.startMove
  (repeat' split) <;> simp

@[simp] theorem frame_execGo (path : Path) (m value : Nat) (s : State) (s0 : State) : (outcomeState s0 (execGo path m value s)).pending = s.pending ∧
    (outcomeState s0 (execGo path m value s)).dev = s.dev ∧
    (outcomeState s0 (execGo path m value s)).power = s.power ∧
    (outcomeState s0 (execGo path m value s)).clk = s.clk ∧
    (outcomeState s0 (execGo path m value s)).fuses = s.fuses ∧
    (outcomeState s0 (execGo path m value s)).blobs = s.blobs ∧
    (outcomeState s0 (execGo path m value s)).flash = s.flash ∧
    (outcomeState s0 (execGo path m value s)).leaves = s.leaves ∧
    (outcomeState s0 (execGo path m value s)).recorder = s.recorder ∧
    (outcomeState s0 (execGo path m value s)).sessions = s.sessions ∧
    (outcomeState s0 (execGo path m value s)).auth = s.auth ∧ (outcomeState s0 (execGo path m value s)).spi = s.spi ∧
    (outcomeState s0 (execGo path m value s)).ring = s.ring ∧
    (outcomeState s0 (execGo path m value s)).ownWaiting = s.ownWaiting ∧
    (outcomeState s0 (execGo path m value s)).job = s.job ∧
    (outcomeState s0 (execGo path m value s)).heads = s.heads ∧
    (outcomeState s0 (execGo path m value s)).sieve = s.sieve ∧
    (outcomeState s0 (execGo path m value s)).engine = s.engine ∧
    (outcomeState s0 (execGo path m value s)).time = s.time ∧
    (outcomeState s0 (execGo path m value s)).twin = s.twin ∧
    (outcomeState s0 (execGo path m value s)).dram = s.dram ∧
    (outcomeState s0 (execGo path m value s)).clocks = s.clocks ∧
    (outcomeState s0 (execGo path m value s)).thermal = s.thermal ∧
    (outcomeState s0 (execGo path m value s)).images = s.images ∧
    (outcomeState s0 (execGo path m value s)).tap = s.tap ∧
    (outcomeState s0 (execGo path m value s)).fresh = s.fresh := by
  simp only [execGo]
  (repeat' split) <;> simp

@[simp] theorem frame_execStopAxis (path : Path) (m : Nat) (s : State) (s0 : State) : (outcomeState s0 (execStopAxis path m s)).pending = s.pending ∧
    (outcomeState s0 (execStopAxis path m s)).dev = s.dev ∧
    (outcomeState s0 (execStopAxis path m s)).power = s.power ∧
    (outcomeState s0 (execStopAxis path m s)).clk = s.clk ∧
    (outcomeState s0 (execStopAxis path m s)).fuses = s.fuses ∧
    (outcomeState s0 (execStopAxis path m s)).blobs = s.blobs ∧
    (outcomeState s0 (execStopAxis path m s)).flash = s.flash ∧
    (outcomeState s0 (execStopAxis path m s)).recorder = s.recorder ∧
    (outcomeState s0 (execStopAxis path m s)).auth = s.auth ∧ (outcomeState s0 (execStopAxis path m s)).spi = s.spi ∧
    (outcomeState s0 (execStopAxis path m s)).ring = s.ring ∧ (outcomeState s0 (execStopAxis path m s)).job = s.job ∧
    (outcomeState s0 (execStopAxis path m s)).heads = s.heads ∧
    (outcomeState s0 (execStopAxis path m s)).sieve = s.sieve ∧
    (outcomeState s0 (execStopAxis path m s)).engine = s.engine ∧
    (outcomeState s0 (execStopAxis path m s)).time = s.time ∧
    (outcomeState s0 (execStopAxis path m s)).dram = s.dram ∧
    (outcomeState s0 (execStopAxis path m s)).clocks = s.clocks ∧
    (outcomeState s0 (execStopAxis path m s)).thermal = s.thermal ∧
    (outcomeState s0 (execStopAxis path m s)).images = s.images ∧
    (outcomeState s0 (execStopAxis path m s)).tap = s.tap ∧
    (outcomeState s0 (execStopAxis path m s)).fresh = s.fresh := by
  simp only [execStopAxis]
  (repeat' split) <;> simp

@[simp] theorem frame_startHome (s : State) (m : Nat) : (s.startHome m).pending = s.pending ∧
    (s.startHome m).deferred = s.deferred ∧ (s.startHome m).dev = s.dev ∧ (s.startHome m).power = s.power ∧
    (s.startHome m).clk = s.clk ∧ (s.startHome m).fuses = s.fuses ∧ (s.startHome m).regs = s.regs ∧
    (s.startHome m).blobs = s.blobs ∧ (s.startHome m).flash = s.flash ∧ (s.startHome m).leaves = s.leaves ∧
    (s.startHome m).recorder = s.recorder ∧ (s.startHome m).sessions = s.sessions ∧ (s.startHome m).auth = s.auth ∧
    (s.startHome m).spi = s.spi ∧ (s.startHome m).ring = s.ring ∧ (s.startHome m).ownWaiting = s.ownWaiting ∧
    (s.startHome m).out = s.out ∧ (s.startHome m).job = s.job ∧ (s.startHome m).heads = s.heads ∧
    (s.startHome m).sieve = s.sieve ∧ (s.startHome m).engine = s.engine ∧ (s.startHome m).time = s.time ∧
    (s.startHome m).twin = s.twin ∧ (s.startHome m).dram = s.dram ∧ (s.startHome m).clocks = s.clocks ∧
    (s.startHome m).thermal = s.thermal ∧ (s.startHome m).images = s.images ∧ (s.startHome m).tap = s.tap ∧
    (s.startHome m).fresh = s.fresh := by
  unfold State.startHome
  (repeat' split) <;> simp

@[simp] theorem frame_execHome (path : Path) (m : Nat) (s : State) (s0 : State) : (outcomeState s0 (execHome path m s)).pending = s.pending ∧
    (outcomeState s0 (execHome path m s)).dev = s.dev ∧ (outcomeState s0 (execHome path m s)).power = s.power ∧
    (outcomeState s0 (execHome path m s)).clk = s.clk ∧ (outcomeState s0 (execHome path m s)).fuses = s.fuses ∧
    (outcomeState s0 (execHome path m s)).blobs = s.blobs ∧ (outcomeState s0 (execHome path m s)).flash = s.flash ∧
    (outcomeState s0 (execHome path m s)).leaves = s.leaves ∧
    (outcomeState s0 (execHome path m s)).recorder = s.recorder ∧
    (outcomeState s0 (execHome path m s)).sessions = s.sessions ∧
    (outcomeState s0 (execHome path m s)).auth = s.auth ∧ (outcomeState s0 (execHome path m s)).spi = s.spi ∧
    (outcomeState s0 (execHome path m s)).ring = s.ring ∧
    (outcomeState s0 (execHome path m s)).ownWaiting = s.ownWaiting ∧
    (outcomeState s0 (execHome path m s)).job = s.job ∧ (outcomeState s0 (execHome path m s)).heads = s.heads ∧
    (outcomeState s0 (execHome path m s)).sieve = s.sieve ∧ (outcomeState s0 (execHome path m s)).engine = s.engine ∧
    (outcomeState s0 (execHome path m s)).time = s.time ∧ (outcomeState s0 (execHome path m s)).twin = s.twin ∧
    (outcomeState s0 (execHome path m s)).dram = s.dram ∧ (outcomeState s0 (execHome path m s)).clocks = s.clocks ∧
    (outcomeState s0 (execHome path m s)).thermal = s.thermal ∧
    (outcomeState s0 (execHome path m s)).images = s.images ∧ (outcomeState s0 (execHome path m s)).tap = s.tap ∧
    (outcomeState s0 (execHome path m s)).fresh = s.fresh := by
  simp only [execHome]
  (repeat' split) <;> simp

@[simp] theorem frame_homeEdge (s : State) (m : Nat) (active : Bool) : (s.homeEdge m active).pending = s.pending ∧
    (s.homeEdge m active).deferred = s.deferred ∧ (s.homeEdge m active).dev = s.dev ∧
    (s.homeEdge m active).power = s.power ∧ (s.homeEdge m active).clk = s.clk ∧
    (s.homeEdge m active).fuses = s.fuses ∧ (s.homeEdge m active).blobs = s.blobs ∧
    (s.homeEdge m active).flash = s.flash ∧ (s.homeEdge m active).leaves = s.leaves ∧
    (s.homeEdge m active).recorder = s.recorder ∧ (s.homeEdge m active).sessions = s.sessions ∧
    (s.homeEdge m active).auth = s.auth ∧ (s.homeEdge m active).spi = s.spi ∧ (s.homeEdge m active).ring = s.ring ∧
    (s.homeEdge m active).ownWaiting = s.ownWaiting ∧ (s.homeEdge m active).out = s.out ∧
    (s.homeEdge m active).job = s.job ∧ (s.homeEdge m active).heads = s.heads ∧
    (s.homeEdge m active).sieve = s.sieve ∧ (s.homeEdge m active).engine = s.engine ∧
    (s.homeEdge m active).time = s.time ∧ (s.homeEdge m active).twin = s.twin ∧ (s.homeEdge m active).dram = s.dram ∧
    (s.homeEdge m active).clocks = s.clocks ∧ (s.homeEdge m active).thermal = s.thermal ∧
    (s.homeEdge m active).images = s.images ∧ (s.homeEdge m active).tap = s.tap ∧
    (s.homeEdge m active).fresh = s.fresh := by
  unfold State.homeEdge
  (repeat' split) <;> simp

@[simp] theorem frame_slowHoming (s : State) (l : Nat) : (s.slowHoming l).pending = s.pending ∧
    (s.slowHoming l).deferred = s.deferred ∧ (s.slowHoming l).dev = s.dev ∧ (s.slowHoming l).power = s.power ∧
    (s.slowHoming l).clk = s.clk ∧ (s.slowHoming l).fuses = s.fuses ∧ (s.slowHoming l).regs = s.regs ∧
    (s.slowHoming l).blobs = s.blobs ∧ (s.slowHoming l).flash = s.flash ∧ (s.slowHoming l).leaves = s.leaves ∧
    (s.slowHoming l).recorder = s.recorder ∧ (s.slowHoming l).sessions = s.sessions ∧ (s.slowHoming l).auth = s.auth ∧
    (s.slowHoming l).spi = s.spi ∧ (s.slowHoming l).ring = s.ring ∧ (s.slowHoming l).ownWaiting = s.ownWaiting ∧
    (s.slowHoming l).out = s.out ∧ (s.slowHoming l).job = s.job ∧ (s.slowHoming l).heads = s.heads ∧
    (s.slowHoming l).sieve = s.sieve ∧ (s.slowHoming l).engine = s.engine ∧ (s.slowHoming l).time = s.time ∧
    (s.slowHoming l).twin = s.twin ∧ (s.slowHoming l).dram = s.dram ∧ (s.slowHoming l).clocks = s.clocks ∧
    (s.slowHoming l).thermal = s.thermal ∧ (s.slowHoming l).images = s.images ∧ (s.slowHoming l).tap = s.tap ∧
    (s.slowHoming l).fresh = s.fresh := by
  unfold State.slowHoming
  (repeat' split) <;> simp

@[simp] theorem frame_qualify (s : State) (m : Nat) : (s.qualify m).pending = s.pending ∧
    (s.qualify m).deferred = s.deferred ∧ (s.qualify m).dev = s.dev ∧ (s.qualify m).power = s.power ∧
    (s.qualify m).clk = s.clk ∧ (s.qualify m).fuses = s.fuses ∧ (s.qualify m).regs = s.regs ∧
    (s.qualify m).blobs = s.blobs ∧ (s.qualify m).flash = s.flash ∧ (s.qualify m).leaves = s.leaves ∧
    (s.qualify m).recorder = s.recorder ∧ (s.qualify m).sessions = s.sessions ∧ (s.qualify m).auth = s.auth ∧
    (s.qualify m).spi = s.spi ∧ (s.qualify m).ring = s.ring ∧ (s.qualify m).ownWaiting = s.ownWaiting ∧
    (s.qualify m).out = s.out ∧ (s.qualify m).job = s.job ∧ (s.qualify m).heads = s.heads ∧
    (s.qualify m).sieve = s.sieve ∧ (s.qualify m).engine = s.engine ∧ (s.qualify m).time = s.time ∧
    (s.qualify m).twin = s.twin ∧ (s.qualify m).dram = s.dram ∧ (s.qualify m).clocks = s.clocks ∧
    (s.qualify m).thermal = s.thermal ∧ (s.qualify m).images = s.images ∧ (s.qualify m).tap = s.tap ∧
    (s.qualify m).fresh = s.fresh := by
  unfold State.qualify
  (repeat' split) <;> simp

@[simp] theorem frame_parkHoming (s : State) (l : Nat) : (s.parkHoming l).pending = s.pending ∧
    (s.parkHoming l).deferred = s.deferred ∧ (s.parkHoming l).dev = s.dev ∧ (s.parkHoming l).power = s.power ∧
    (s.parkHoming l).clk = s.clk ∧ (s.parkHoming l).fuses = s.fuses ∧ (s.parkHoming l).regs = s.regs ∧
    (s.parkHoming l).blobs = s.blobs ∧ (s.parkHoming l).flash = s.flash ∧ (s.parkHoming l).leaves = s.leaves ∧
    (s.parkHoming l).recorder = s.recorder ∧ (s.parkHoming l).sessions = s.sessions ∧ (s.parkHoming l).auth = s.auth ∧
    (s.parkHoming l).spi = s.spi ∧ (s.parkHoming l).ring = s.ring ∧ (s.parkHoming l).ownWaiting = s.ownWaiting ∧
    (s.parkHoming l).out = s.out ∧ (s.parkHoming l).job = s.job ∧ (s.parkHoming l).heads = s.heads ∧
    (s.parkHoming l).sieve = s.sieve ∧ (s.parkHoming l).engine = s.engine ∧ (s.parkHoming l).time = s.time ∧
    (s.parkHoming l).twin = s.twin ∧ (s.parkHoming l).dram = s.dram ∧ (s.parkHoming l).clocks = s.clocks ∧
    (s.parkHoming l).thermal = s.thermal ∧ (s.parkHoming l).images = s.images ∧ (s.parkHoming l).tap = s.tap ∧
    (s.parkHoming l).fresh = s.fresh := by
  unfold State.parkHoming
  (repeat' split) <;> simp

@[simp] theorem frame_endHoming (s : State) (l : Nat) : (s.endHoming l).pending = s.pending ∧
    (s.endHoming l).deferred = s.deferred ∧ (s.endHoming l).dev = s.dev ∧ (s.endHoming l).power = s.power ∧
    (s.endHoming l).clk = s.clk ∧ (s.endHoming l).fuses = s.fuses ∧ (s.endHoming l).blobs = s.blobs ∧
    (s.endHoming l).flash = s.flash ∧ (s.endHoming l).leaves = s.leaves ∧ (s.endHoming l).recorder = s.recorder ∧
    (s.endHoming l).sessions = s.sessions ∧ (s.endHoming l).auth = s.auth ∧ (s.endHoming l).spi = s.spi ∧
    (s.endHoming l).ring = s.ring ∧ (s.endHoming l).ownWaiting = s.ownWaiting ∧ (s.endHoming l).out = s.out ∧
    (s.endHoming l).job = s.job ∧ (s.endHoming l).heads = s.heads ∧ (s.endHoming l).sieve = s.sieve ∧
    (s.endHoming l).engine = s.engine ∧ (s.endHoming l).time = s.time ∧ (s.endHoming l).twin = s.twin ∧
    (s.endHoming l).dram = s.dram ∧ (s.endHoming l).clocks = s.clocks ∧ (s.endHoming l).thermal = s.thermal ∧
    (s.endHoming l).images = s.images ∧ (s.endHoming l).tap = s.tap ∧ (s.endHoming l).fresh = s.fresh := by
  unfold State.endHoming
  (repeat' split) <;> simp

@[simp] theorem frame_stepGang (s : State) (m : Nat) (r : Ramp) : (s.stepGang m r).pending = s.pending ∧
    (s.stepGang m r).deferred = s.deferred ∧ (s.stepGang m r).dev = s.dev ∧ (s.stepGang m r).power = s.power ∧
    (s.stepGang m r).clk = s.clk ∧ (s.stepGang m r).fuses = s.fuses ∧ (s.stepGang m r).regs = s.regs ∧
    (s.stepGang m r).blobs = s.blobs ∧ (s.stepGang m r).flash = s.flash ∧ (s.stepGang m r).leaves = s.leaves ∧
    (s.stepGang m r).recorder = s.recorder ∧ (s.stepGang m r).sessions = s.sessions ∧ (s.stepGang m r).auth = s.auth ∧
    (s.stepGang m r).spi = s.spi ∧ (s.stepGang m r).ring = s.ring ∧ (s.stepGang m r).ownWaiting = s.ownWaiting ∧
    (s.stepGang m r).out = s.out ∧ (s.stepGang m r).job = s.job ∧ (s.stepGang m r).heads = s.heads ∧
    (s.stepGang m r).sieve = s.sieve ∧ (s.stepGang m r).engine = s.engine ∧ (s.stepGang m r).time = s.time ∧
    (s.stepGang m r).twin = s.twin ∧ (s.stepGang m r).dram = s.dram ∧ (s.stepGang m r).clocks = s.clocks ∧
    (s.stepGang m r).thermal = s.thermal ∧ (s.stepGang m r).images = s.images ∧ (s.stepGang m r).tap = s.tap ∧
    (s.stepGang m r).fresh = s.fresh := by
  unfold State.stepGang
  (repeat' split) <;> simp

@[simp] theorem frame_travelSpent (s : State) (m : Nat) : (s.travelSpent m).pending = s.pending ∧
    (s.travelSpent m).deferred = s.deferred ∧ (s.travelSpent m).dev = s.dev ∧ (s.travelSpent m).power = s.power ∧
    (s.travelSpent m).clk = s.clk ∧ (s.travelSpent m).fuses = s.fuses ∧ (s.travelSpent m).blobs = s.blobs ∧
    (s.travelSpent m).flash = s.flash ∧ (s.travelSpent m).recorder = s.recorder ∧ (s.travelSpent m).auth = s.auth ∧
    (s.travelSpent m).spi = s.spi ∧ (s.travelSpent m).ring = s.ring ∧ (s.travelSpent m).job = s.job ∧
    (s.travelSpent m).heads = s.heads ∧ (s.travelSpent m).sieve = s.sieve ∧ (s.travelSpent m).engine = s.engine ∧
    (s.travelSpent m).time = s.time ∧ (s.travelSpent m).dram = s.dram ∧ (s.travelSpent m).clocks = s.clocks ∧
    (s.travelSpent m).thermal = s.thermal ∧ (s.travelSpent m).images = s.images ∧ (s.travelSpent m).tap = s.tap ∧
    (s.travelSpent m).fresh = s.fresh := by
  unfold State.travelSpent
  (repeat' split) <;> simp

@[simp] theorem frame_limitTrip (s : State) (m : Nat) : (s.limitTrip m).pending = s.pending ∧
    (s.limitTrip m).deferred = s.deferred ∧ (s.limitTrip m).dev = s.dev ∧ (s.limitTrip m).power = s.power ∧
    (s.limitTrip m).clk = s.clk ∧ (s.limitTrip m).fuses = s.fuses ∧ (s.limitTrip m).blobs = s.blobs ∧
    (s.limitTrip m).flash = s.flash ∧ (s.limitTrip m).recorder = s.recorder ∧ (s.limitTrip m).auth = s.auth ∧
    (s.limitTrip m).spi = s.spi ∧ (s.limitTrip m).ring = s.ring ∧ (s.limitTrip m).job = s.job ∧
    (s.limitTrip m).heads = s.heads ∧ (s.limitTrip m).sieve = s.sieve ∧ (s.limitTrip m).engine = s.engine ∧
    (s.limitTrip m).time = s.time ∧ (s.limitTrip m).dram = s.dram ∧ (s.limitTrip m).clocks = s.clocks ∧
    (s.limitTrip m).thermal = s.thermal ∧ (s.limitTrip m).images = s.images ∧ (s.limitTrip m).tap = s.tap ∧
    (s.limitTrip m).fresh = s.fresh := by
  unfold State.limitTrip
  dsimp only
  (repeat' split) <;> simp

@[simp] theorem frame_chop (s : State) (m : Nat) (coilB reached : Bool) (t1 t2 : Nat) : (s.chop m coilB reached t1 t2).pending = s.pending ∧
    (s.chop m coilB reached t1 t2).deferred = s.deferred ∧ (s.chop m coilB reached t1 t2).dev = s.dev ∧
    (s.chop m coilB reached t1 t2).power = s.power ∧ (s.chop m coilB reached t1 t2).clk = s.clk ∧
    (s.chop m coilB reached t1 t2).fuses = s.fuses ∧ (s.chop m coilB reached t1 t2).blobs = s.blobs ∧
    (s.chop m coilB reached t1 t2).flash = s.flash ∧ (s.chop m coilB reached t1 t2).recorder = s.recorder ∧
    (s.chop m coilB reached t1 t2).auth = s.auth ∧ (s.chop m coilB reached t1 t2).spi = s.spi ∧
    (s.chop m coilB reached t1 t2).ring = s.ring ∧ (s.chop m coilB reached t1 t2).job = s.job ∧
    (s.chop m coilB reached t1 t2).heads = s.heads ∧ (s.chop m coilB reached t1 t2).sieve = s.sieve ∧
    (s.chop m coilB reached t1 t2).engine = s.engine ∧ (s.chop m coilB reached t1 t2).time = s.time ∧
    (s.chop m coilB reached t1 t2).dram = s.dram ∧ (s.chop m coilB reached t1 t2).clocks = s.clocks ∧
    (s.chop m coilB reached t1 t2).thermal = s.thermal ∧ (s.chop m coilB reached t1 t2).images = s.images ∧
    (s.chop m coilB reached t1 t2).tap = s.tap ∧ (s.chop m coilB reached t1 t2).fresh = s.fresh := by
  unfold State.chop
  (repeat' split) <;> simp

@[simp] theorem frame_startRecoatStep (s : State) (k : Nat) : (s.startRecoatStep k).pending = s.pending ∧
    (s.startRecoatStep k).deferred = s.deferred ∧ (s.startRecoatStep k).dev = s.dev ∧
    (s.startRecoatStep k).power = s.power ∧ (s.startRecoatStep k).clk = s.clk ∧
    (s.startRecoatStep k).fuses = s.fuses ∧ (s.startRecoatStep k).regs = s.regs ∧
    (s.startRecoatStep k).blobs = s.blobs ∧ (s.startRecoatStep k).flash = s.flash ∧
    (s.startRecoatStep k).recorder = s.recorder ∧ (s.startRecoatStep k).auth = s.auth ∧
    (s.startRecoatStep k).spi = s.spi ∧ (s.startRecoatStep k).ring = s.ring ∧ (s.startRecoatStep k).job = s.job ∧
    (s.startRecoatStep k).heads = s.heads ∧ (s.startRecoatStep k).sieve = s.sieve ∧
    (s.startRecoatStep k).engine = s.engine ∧ (s.startRecoatStep k).time = s.time ∧
    (s.startRecoatStep k).dram = s.dram ∧ (s.startRecoatStep k).clocks = s.clocks ∧
    (s.startRecoatStep k).thermal = s.thermal ∧ (s.startRecoatStep k).images = s.images ∧
    (s.startRecoatStep k).tap = s.tap ∧ (s.startRecoatStep k).fresh = s.fresh := by
  unfold State.startRecoatStep
  (repeat' split) <;> simp

@[simp] theorem frame_advanceRecoat (s : State) : (s.advanceRecoat).pending = s.pending ∧
    (s.advanceRecoat).deferred = s.deferred ∧ (s.advanceRecoat).dev = s.dev ∧ (s.advanceRecoat).power = s.power ∧
    (s.advanceRecoat).clk = s.clk ∧ (s.advanceRecoat).fuses = s.fuses ∧ (s.advanceRecoat).blobs = s.blobs ∧
    (s.advanceRecoat).flash = s.flash ∧ (s.advanceRecoat).recorder = s.recorder ∧ (s.advanceRecoat).auth = s.auth ∧
    (s.advanceRecoat).spi = s.spi ∧ (s.advanceRecoat).ring = s.ring ∧ (s.advanceRecoat).sieve = s.sieve ∧
    (s.advanceRecoat).engine = s.engine ∧ (s.advanceRecoat).time = s.time ∧ (s.advanceRecoat).clocks = s.clocks ∧
    (s.advanceRecoat).thermal = s.thermal ∧ (s.advanceRecoat).images = s.images ∧ (s.advanceRecoat).tap = s.tap ∧
    (s.advanceRecoat).fresh = s.fresh := by
  unfold State.advanceRecoat
  (repeat' split) <;> simp

@[simp] theorem frame_settle (s : State) (m : Nat) (into : RestInto) : (s.settle m into).pending = s.pending ∧
    (s.settle m into).deferred = s.deferred ∧ (s.settle m into).dev = s.dev ∧ (s.settle m into).power = s.power ∧
    (s.settle m into).clk = s.clk ∧ (s.settle m into).fuses = s.fuses ∧ (s.settle m into).regs = s.regs ∧
    (s.settle m into).blobs = s.blobs ∧ (s.settle m into).flash = s.flash ∧ (s.settle m into).leaves = s.leaves ∧
    (s.settle m into).recorder = s.recorder ∧ (s.settle m into).sessions = s.sessions ∧
    (s.settle m into).auth = s.auth ∧ (s.settle m into).spi = s.spi ∧ (s.settle m into).ring = s.ring ∧
    (s.settle m into).ownWaiting = s.ownWaiting ∧ (s.settle m into).out = s.out ∧ (s.settle m into).job = s.job ∧
    (s.settle m into).heads = s.heads ∧ (s.settle m into).sieve = s.sieve ∧ (s.settle m into).engine = s.engine ∧
    (s.settle m into).time = s.time ∧ (s.settle m into).twin = s.twin ∧ (s.settle m into).dram = s.dram ∧
    (s.settle m into).clocks = s.clocks ∧ (s.settle m into).thermal = s.thermal ∧
    (s.settle m into).images = s.images ∧ (s.settle m into).tap = s.tap ∧ (s.settle m into).fresh = s.fresh := by
  unfold State.settle
  (repeat' split) <;> simp

@[simp] theorem frame_moveDone (s : State) (m : Nat) : (s.moveDone m).pending = s.pending ∧
    (s.moveDone m).deferred = s.deferred ∧ (s.moveDone m).dev = s.dev ∧ (s.moveDone m).power = s.power ∧
    (s.moveDone m).clk = s.clk ∧ (s.moveDone m).fuses = s.fuses ∧ (s.moveDone m).blobs = s.blobs ∧
    (s.moveDone m).flash = s.flash ∧ (s.moveDone m).recorder = s.recorder ∧ (s.moveDone m).auth = s.auth ∧
    (s.moveDone m).spi = s.spi ∧ (s.moveDone m).ring = s.ring ∧ (s.moveDone m).sieve = s.sieve ∧
    (s.moveDone m).engine = s.engine ∧ (s.moveDone m).time = s.time ∧ (s.moveDone m).clocks = s.clocks ∧
    (s.moveDone m).thermal = s.thermal ∧ (s.moveDone m).images = s.images ∧ (s.moveDone m).tap = s.tap ∧
    (s.moveDone m).fresh = s.fresh := by
  unfold State.moveDone
  dsimp only
  (repeat' split) <;> simp

@[simp] theorem frame_trackDirection (s : State) (e : Nat) : (s.trackDirection e).pending = s.pending ∧
    (s.trackDirection e).deferred = s.deferred ∧ (s.trackDirection e).dev = s.dev ∧
    (s.trackDirection e).power = s.power ∧ (s.trackDirection e).clk = s.clk ∧ (s.trackDirection e).fuses = s.fuses ∧
    (s.trackDirection e).blobs = s.blobs ∧ (s.trackDirection e).flash = s.flash ∧
    (s.trackDirection e).recorder = s.recorder ∧ (s.trackDirection e).auth = s.auth ∧
    (s.trackDirection e).spi = s.spi ∧ (s.trackDirection e).ring = s.ring ∧ (s.trackDirection e).job = s.job ∧
    (s.trackDirection e).heads = s.heads ∧ (s.trackDirection e).sieve = s.sieve ∧
    (s.trackDirection e).engine = s.engine ∧ (s.trackDirection e).time = s.time ∧ (s.trackDirection e).dram = s.dram ∧
    (s.trackDirection e).clocks = s.clocks ∧ (s.trackDirection e).thermal = s.thermal ∧
    (s.trackDirection e).images = s.images ∧ (s.trackDirection e).tap = s.tap ∧
    (s.trackDirection e).fresh = s.fresh := by
  unfold State.trackDirection
  (repeat' split) <;> simp

@[simp] theorem frame_checkFollow (s : State) (e : Nat) : (s.checkFollow e).pending = s.pending ∧
    (s.checkFollow e).deferred = s.deferred ∧ (s.checkFollow e).dev = s.dev ∧ (s.checkFollow e).power = s.power ∧
    (s.checkFollow e).clk = s.clk ∧ (s.checkFollow e).fuses = s.fuses ∧ (s.checkFollow e).blobs = s.blobs ∧
    (s.checkFollow e).flash = s.flash ∧ (s.checkFollow e).recorder = s.recorder ∧ (s.checkFollow e).auth = s.auth ∧
    (s.checkFollow e).spi = s.spi ∧ (s.checkFollow e).ring = s.ring ∧ (s.checkFollow e).job = s.job ∧
    (s.checkFollow e).heads = s.heads ∧ (s.checkFollow e).sieve = s.sieve ∧ (s.checkFollow e).engine = s.engine ∧
    (s.checkFollow e).time = s.time ∧ (s.checkFollow e).dram = s.dram ∧ (s.checkFollow e).clocks = s.clocks ∧
    (s.checkFollow e).thermal = s.thermal ∧ (s.checkFollow e).images = s.images ∧ (s.checkFollow e).tap = s.tap ∧
    (s.checkFollow e).fresh = s.fresh := by
  unfold State.checkFollow
  (repeat' split) <;> simp

@[simp] theorem frame_compareHit (s : State) (n : Nat) : (s.compareHit n).pending = s.pending ∧
    (s.compareHit n).deferred = s.deferred ∧ (s.compareHit n).dev = s.dev ∧ (s.compareHit n).power = s.power ∧
    (s.compareHit n).clk = s.clk ∧ (s.compareHit n).fuses = s.fuses ∧ (s.compareHit n).blobs = s.blobs ∧
    (s.compareHit n).flash = s.flash ∧ (s.compareHit n).recorder = s.recorder ∧ (s.compareHit n).auth = s.auth ∧
    (s.compareHit n).spi = s.spi ∧ (s.compareHit n).ring = s.ring ∧ (s.compareHit n).job = s.job ∧
    (s.compareHit n).heads = s.heads ∧ (s.compareHit n).sieve = s.sieve ∧ (s.compareHit n).engine = s.engine ∧
    (s.compareHit n).time = s.time ∧ (s.compareHit n).dram = s.dram ∧ (s.compareHit n).clocks = s.clocks ∧
    (s.compareHit n).thermal = s.thermal ∧ (s.compareHit n).images = s.images ∧ (s.compareHit n).tap = s.tap ∧
    (s.compareHit n).fresh = s.fresh := by
  unfold State.compareHit
  (repeat' split) <;> simp

@[simp] theorem frame_checkCompare (s : State) (e : Nat) (up : Bool) : (s.checkCompare e up).pending = s.pending ∧
    (s.checkCompare e up).deferred = s.deferred ∧ (s.checkCompare e up).dev = s.dev ∧
    (s.checkCompare e up).power = s.power ∧ (s.checkCompare e up).clk = s.clk ∧
    (s.checkCompare e up).fuses = s.fuses ∧ (s.checkCompare e up).blobs = s.blobs ∧
    (s.checkCompare e up).flash = s.flash ∧ (s.checkCompare e up).recorder = s.recorder ∧
    (s.checkCompare e up).auth = s.auth ∧ (s.checkCompare e up).spi = s.spi ∧ (s.checkCompare e up).ring = s.ring ∧
    (s.checkCompare e up).job = s.job ∧ (s.checkCompare e up).heads = s.heads ∧
    (s.checkCompare e up).sieve = s.sieve ∧ (s.checkCompare e up).engine = s.engine ∧
    (s.checkCompare e up).time = s.time ∧ (s.checkCompare e up).dram = s.dram ∧
    (s.checkCompare e up).clocks = s.clocks ∧ (s.checkCompare e up).thermal = s.thermal ∧
    (s.checkCompare e up).images = s.images ∧ (s.checkCompare e up).tap = s.tap ∧
    (s.checkCompare e up).fresh = s.fresh := by
  unfold State.checkCompare
  (repeat' split) <;> simp

@[simp] theorem frame_counted (s : State) (e : Nat) (delta : Int) : (s.counted e delta).pending = s.pending ∧
    (s.counted e delta).deferred = s.deferred ∧ (s.counted e delta).dev = s.dev ∧
    (s.counted e delta).power = s.power ∧ (s.counted e delta).clk = s.clk ∧ (s.counted e delta).fuses = s.fuses ∧
    (s.counted e delta).blobs = s.blobs ∧ (s.counted e delta).flash = s.flash ∧
    (s.counted e delta).recorder = s.recorder ∧ (s.counted e delta).auth = s.auth ∧ (s.counted e delta).spi = s.spi ∧
    (s.counted e delta).ring = s.ring ∧ (s.counted e delta).job = s.job ∧ (s.counted e delta).heads = s.heads ∧
    (s.counted e delta).sieve = s.sieve ∧ (s.counted e delta).engine = s.engine ∧ (s.counted e delta).time = s.time ∧
    (s.counted e delta).dram = s.dram ∧ (s.counted e delta).clocks = s.clocks ∧
    (s.counted e delta).thermal = s.thermal ∧ (s.counted e delta).images = s.images ∧
    (s.counted e delta).tap = s.tap ∧ (s.counted e delta).fresh = s.fresh := by
  unfold State.counted
  (repeat' split) <;> simp

@[simp] theorem frame_syncLoss (s : State) (e levels : Nat) : (s.syncLoss e levels).pending = s.pending ∧
    (s.syncLoss e levels).deferred = s.deferred ∧ (s.syncLoss e levels).dev = s.dev ∧
    (s.syncLoss e levels).power = s.power ∧ (s.syncLoss e levels).clk = s.clk ∧
    (s.syncLoss e levels).fuses = s.fuses ∧ (s.syncLoss e levels).blobs = s.blobs ∧
    (s.syncLoss e levels).flash = s.flash ∧ (s.syncLoss e levels).recorder = s.recorder ∧
    (s.syncLoss e levels).auth = s.auth ∧ (s.syncLoss e levels).spi = s.spi ∧ (s.syncLoss e levels).ring = s.ring ∧
    (s.syncLoss e levels).job = s.job ∧ (s.syncLoss e levels).heads = s.heads ∧
    (s.syncLoss e levels).sieve = s.sieve ∧ (s.syncLoss e levels).engine = s.engine ∧
    (s.syncLoss e levels).time = s.time ∧ (s.syncLoss e levels).dram = s.dram ∧
    (s.syncLoss e levels).clocks = s.clocks ∧ (s.syncLoss e levels).thermal = s.thermal ∧
    (s.syncLoss e levels).images = s.images ∧ (s.syncLoss e levels).tap = s.tap ∧
    (s.syncLoss e levels).fresh = s.fresh := by
  unfold State.syncLoss
  (repeat' split) <;> simp

@[simp] theorem frame_quadEdge (s : State) (e levels : Nat) : (s.quadEdge e levels).pending = s.pending ∧
    (s.quadEdge e levels).deferred = s.deferred ∧ (s.quadEdge e levels).dev = s.dev ∧
    (s.quadEdge e levels).power = s.power ∧ (s.quadEdge e levels).clk = s.clk ∧
    (s.quadEdge e levels).fuses = s.fuses ∧ (s.quadEdge e levels).blobs = s.blobs ∧
    (s.quadEdge e levels).flash = s.flash ∧ (s.quadEdge e levels).recorder = s.recorder ∧
    (s.quadEdge e levels).auth = s.auth ∧ (s.quadEdge e levels).spi = s.spi ∧ (s.quadEdge e levels).ring = s.ring ∧
    (s.quadEdge e levels).job = s.job ∧ (s.quadEdge e levels).heads = s.heads ∧
    (s.quadEdge e levels).sieve = s.sieve ∧ (s.quadEdge e levels).engine = s.engine ∧
    (s.quadEdge e levels).time = s.time ∧ (s.quadEdge e levels).dram = s.dram ∧
    (s.quadEdge e levels).clocks = s.clocks ∧ (s.quadEdge e levels).thermal = s.thermal ∧
    (s.quadEdge e levels).images = s.images ∧ (s.quadEdge e levels).tap = s.tap ∧
    (s.quadEdge e levels).fresh = s.fresh := by
  unfold State.quadEdge
  (repeat' split) <;> simp

@[simp] theorem frame_indexLatch (s : State) (e : Nat) : (s.indexLatch e).pending = s.pending ∧
    (s.indexLatch e).deferred = s.deferred ∧ (s.indexLatch e).dev = s.dev ∧ (s.indexLatch e).power = s.power ∧
    (s.indexLatch e).clk = s.clk ∧ (s.indexLatch e).fuses = s.fuses ∧ (s.indexLatch e).blobs = s.blobs ∧
    (s.indexLatch e).flash = s.flash ∧ (s.indexLatch e).recorder = s.recorder ∧ (s.indexLatch e).auth = s.auth ∧
    (s.indexLatch e).spi = s.spi ∧ (s.indexLatch e).ring = s.ring ∧ (s.indexLatch e).job = s.job ∧
    (s.indexLatch e).heads = s.heads ∧ (s.indexLatch e).sieve = s.sieve ∧ (s.indexLatch e).engine = s.engine ∧
    (s.indexLatch e).time = s.time ∧ (s.indexLatch e).dram = s.dram ∧ (s.indexLatch e).clocks = s.clocks ∧
    (s.indexLatch e).thermal = s.thermal ∧ (s.indexLatch e).images = s.images ∧ (s.indexLatch e).tap = s.tap ∧
    (s.indexLatch e).fresh = s.fresh := by
  unfold State.indexLatch
  (repeat' split) <;> simp

@[simp] theorem frame_hall (s : State) (e v : Nat) : (s.hall e v).pending = s.pending ∧
    (s.hall e v).deferred = s.deferred ∧ (s.hall e v).dev = s.dev ∧ (s.hall e v).power = s.power ∧
    (s.hall e v).clk = s.clk ∧ (s.hall e v).fuses = s.fuses ∧ (s.hall e v).blobs = s.blobs ∧
    (s.hall e v).flash = s.flash ∧ (s.hall e v).recorder = s.recorder ∧ (s.hall e v).auth = s.auth ∧
    (s.hall e v).spi = s.spi ∧ (s.hall e v).ring = s.ring ∧ (s.hall e v).job = s.job ∧ (s.hall e v).heads = s.heads ∧
    (s.hall e v).sieve = s.sieve ∧ (s.hall e v).engine = s.engine ∧ (s.hall e v).time = s.time ∧
    (s.hall e v).dram = s.dram ∧ (s.hall e v).clocks = s.clocks ∧ (s.hall e v).thermal = s.thermal ∧
    (s.hall e v).images = s.images ∧ (s.hall e v).tap = s.tap ∧ (s.hall e v).fresh = s.fresh := by
  unfold State.hall
  (repeat' split) <;> simp

@[simp] theorem frame_execEncoderCount (path : Path) (e : Nat) (value : Int) (s : State) (s0 : State) : (outcomeState s0 (execEncoderCount path e value s)).pending = s.pending ∧
    (outcomeState s0 (execEncoderCount path e value s)).dev = s.dev ∧
    (outcomeState s0 (execEncoderCount path e value s)).power = s.power ∧
    (outcomeState s0 (execEncoderCount path e value s)).clk = s.clk ∧
    (outcomeState s0 (execEncoderCount path e value s)).fuses = s.fuses ∧
    (outcomeState s0 (execEncoderCount path e value s)).regs = s.regs ∧
    (outcomeState s0 (execEncoderCount path e value s)).blobs = s.blobs ∧
    (outcomeState s0 (execEncoderCount path e value s)).flash = s.flash ∧
    (outcomeState s0 (execEncoderCount path e value s)).leaves = s.leaves ∧
    (outcomeState s0 (execEncoderCount path e value s)).recorder = s.recorder ∧
    (outcomeState s0 (execEncoderCount path e value s)).sessions = s.sessions ∧
    (outcomeState s0 (execEncoderCount path e value s)).auth = s.auth ∧
    (outcomeState s0 (execEncoderCount path e value s)).spi = s.spi ∧
    (outcomeState s0 (execEncoderCount path e value s)).ring = s.ring ∧
    (outcomeState s0 (execEncoderCount path e value s)).ownWaiting = s.ownWaiting ∧
    (outcomeState s0 (execEncoderCount path e value s)).job = s.job ∧
    (outcomeState s0 (execEncoderCount path e value s)).heads = s.heads ∧
    (outcomeState s0 (execEncoderCount path e value s)).sieve = s.sieve ∧
    (outcomeState s0 (execEncoderCount path e value s)).engine = s.engine ∧
    (outcomeState s0 (execEncoderCount path e value s)).time = s.time ∧
    (outcomeState s0 (execEncoderCount path e value s)).twin = s.twin ∧
    (outcomeState s0 (execEncoderCount path e value s)).dram = s.dram ∧
    (outcomeState s0 (execEncoderCount path e value s)).clocks = s.clocks ∧
    (outcomeState s0 (execEncoderCount path e value s)).thermal = s.thermal ∧
    (outcomeState s0 (execEncoderCount path e value s)).images = s.images ∧
    (outcomeState s0 (execEncoderCount path e value s)).tap = s.tap ∧
    (outcomeState s0 (execEncoderCount path e value s)).fresh = s.fresh := by
  simp only [execEncoderCount]
  (repeat' split) <;> simp

@[simp] theorem frame_execArmCompare (path : Path) (n value : Nat) (s : State) (s0 : State) : (outcomeState s0 (execArmCompare path n value s)).pending = s.pending ∧
    (outcomeState s0 (execArmCompare path n value s)).dev = s.dev ∧
    (outcomeState s0 (execArmCompare path n value s)).power = s.power ∧
    (outcomeState s0 (execArmCompare path n value s)).clk = s.clk ∧
    (outcomeState s0 (execArmCompare path n value s)).fuses = s.fuses ∧
    (outcomeState s0 (execArmCompare path n value s)).regs = s.regs ∧
    (outcomeState s0 (execArmCompare path n value s)).blobs = s.blobs ∧
    (outcomeState s0 (execArmCompare path n value s)).flash = s.flash ∧
    (outcomeState s0 (execArmCompare path n value s)).leaves = s.leaves ∧
    (outcomeState s0 (execArmCompare path n value s)).recorder = s.recorder ∧
    (outcomeState s0 (execArmCompare path n value s)).sessions = s.sessions ∧
    (outcomeState s0 (execArmCompare path n value s)).auth = s.auth ∧
    (outcomeState s0 (execArmCompare path n value s)).spi = s.spi ∧
    (outcomeState s0 (execArmCompare path n value s)).ring = s.ring ∧
    (outcomeState s0 (execArmCompare path n value s)).ownWaiting = s.ownWaiting ∧
    (outcomeState s0 (execArmCompare path n value s)).job = s.job ∧
    (outcomeState s0 (execArmCompare path n value s)).heads = s.heads ∧
    (outcomeState s0 (execArmCompare path n value s)).sieve = s.sieve ∧
    (outcomeState s0 (execArmCompare path n value s)).engine = s.engine ∧
    (outcomeState s0 (execArmCompare path n value s)).time = s.time ∧
    (outcomeState s0 (execArmCompare path n value s)).twin = s.twin ∧
    (outcomeState s0 (execArmCompare path n value s)).dram = s.dram ∧
    (outcomeState s0 (execArmCompare path n value s)).clocks = s.clocks ∧
    (outcomeState s0 (execArmCompare path n value s)).thermal = s.thermal ∧
    (outcomeState s0 (execArmCompare path n value s)).images = s.images ∧
    (outcomeState s0 (execArmCompare path n value s)).tap = s.tap ∧
    (outcomeState s0 (execArmCompare path n value s)).fresh = s.fresh := by
  simp only [execArmCompare]
  (repeat' split) <;> simp

@[simp] theorem frame_probed (s : State) (n : Nat) : (s.probed n).pending = s.pending ∧
    (s.probed n).deferred = s.deferred ∧ (s.probed n).dev = s.dev ∧ (s.probed n).power = s.power ∧
    (s.probed n).clk = s.clk ∧ (s.probed n).fuses = s.fuses ∧ (s.probed n).blobs = s.blobs ∧
    (s.probed n).flash = s.flash ∧ (s.probed n).recorder = s.recorder ∧ (s.probed n).auth = s.auth ∧
    (s.probed n).spi = s.spi ∧ (s.probed n).ring = s.ring ∧ (s.probed n).job = s.job ∧ (s.probed n).heads = s.heads ∧
    (s.probed n).sieve = s.sieve ∧ (s.probed n).engine = s.engine ∧ (s.probed n).time = s.time ∧
    (s.probed n).dram = s.dram ∧ (s.probed n).clocks = s.clocks ∧ (s.probed n).thermal = s.thermal ∧
    (s.probed n).images = s.images ∧ (s.probed n).tap = s.tap ∧ (s.probed n).fresh = s.fresh := by
  unfold State.probed
  (repeat' split) <;> simp

@[simp] theorem frame_execProbeEvent (path : Path) (n : Nat) (s : State) (s0 : State) : (outcomeState s0 (execProbeEvent path n s)).pending = s.pending ∧
    (outcomeState s0 (execProbeEvent path n s)).dev = s.dev ∧
    (outcomeState s0 (execProbeEvent path n s)).power = s.power ∧
    (outcomeState s0 (execProbeEvent path n s)).clk = s.clk ∧
    (outcomeState s0 (execProbeEvent path n s)).fuses = s.fuses ∧
    (outcomeState s0 (execProbeEvent path n s)).regs = s.regs ∧
    (outcomeState s0 (execProbeEvent path n s)).blobs = s.blobs ∧
    (outcomeState s0 (execProbeEvent path n s)).flash = s.flash ∧
    (outcomeState s0 (execProbeEvent path n s)).leaves = s.leaves ∧
    (outcomeState s0 (execProbeEvent path n s)).recorder = s.recorder ∧
    (outcomeState s0 (execProbeEvent path n s)).sessions = s.sessions ∧
    (outcomeState s0 (execProbeEvent path n s)).auth = s.auth ∧
    (outcomeState s0 (execProbeEvent path n s)).spi = s.spi ∧
    (outcomeState s0 (execProbeEvent path n s)).ring = s.ring ∧
    (outcomeState s0 (execProbeEvent path n s)).ownWaiting = s.ownWaiting ∧
    (outcomeState s0 (execProbeEvent path n s)).job = s.job ∧
    (outcomeState s0 (execProbeEvent path n s)).heads = s.heads ∧
    (outcomeState s0 (execProbeEvent path n s)).sieve = s.sieve ∧
    (outcomeState s0 (execProbeEvent path n s)).engine = s.engine ∧
    (outcomeState s0 (execProbeEvent path n s)).time = s.time ∧
    (outcomeState s0 (execProbeEvent path n s)).twin = s.twin ∧
    (outcomeState s0 (execProbeEvent path n s)).dram = s.dram ∧
    (outcomeState s0 (execProbeEvent path n s)).clocks = s.clocks ∧
    (outcomeState s0 (execProbeEvent path n s)).thermal = s.thermal ∧
    (outcomeState s0 (execProbeEvent path n s)).images = s.images ∧
    (outcomeState s0 (execProbeEvent path n s)).tap = s.tap ∧
    (outcomeState s0 (execProbeEvent path n s)).fresh = s.fresh := by
  simp only [execProbeEvent]
  (repeat' split) <;> simp

@[simp] theorem frame_countExchange (s : State) (offset delay : Int) : (s.countExchange offset delay).pending = s.pending ∧
    (s.countExchange offset delay).deferred = s.deferred ∧ (s.countExchange offset delay).dev = s.dev ∧
    (s.countExchange offset delay).power = s.power ∧ (s.countExchange offset delay).clk = s.clk ∧
    (s.countExchange offset delay).fuses = s.fuses ∧ (s.countExchange offset delay).blobs = s.blobs ∧
    (s.countExchange offset delay).flash = s.flash ∧ (s.countExchange offset delay).leaves = s.leaves ∧
    (s.countExchange offset delay).recorder = s.recorder ∧ (s.countExchange offset delay).sessions = s.sessions ∧
    (s.countExchange offset delay).auth = s.auth ∧ (s.countExchange offset delay).spi = s.spi ∧
    (s.countExchange offset delay).ring = s.ring ∧ (s.countExchange offset delay).ownWaiting = s.ownWaiting ∧
    (s.countExchange offset delay).out = s.out ∧ (s.countExchange offset delay).job = s.job ∧
    (s.countExchange offset delay).heads = s.heads ∧ (s.countExchange offset delay).sieve = s.sieve ∧
    (s.countExchange offset delay).engine = s.engine ∧ (s.countExchange offset delay).time = s.time ∧
    (s.countExchange offset delay).twin = s.twin ∧ (s.countExchange offset delay).motion = s.motion ∧
    (s.countExchange offset delay).dram = s.dram ∧ (s.countExchange offset delay).clocks = s.clocks ∧
    (s.countExchange offset delay).thermal = s.thermal ∧ (s.countExchange offset delay).images = s.images ∧
    (s.countExchange offset delay).tap = s.tap ∧ (s.countExchange offset delay).fresh = s.fresh := by
  unfold State.countExchange
  (repeat' split) <;> simp

@[simp] theorem frame_servoUpdate (s : State) (offset delay : Int) : (s.servoUpdate offset delay).pending = s.pending ∧
    (s.servoUpdate offset delay).deferred = s.deferred ∧ (s.servoUpdate offset delay).dev = s.dev ∧
    (s.servoUpdate offset delay).power = s.power ∧ (s.servoUpdate offset delay).clk = s.clk ∧
    (s.servoUpdate offset delay).fuses = s.fuses ∧ (s.servoUpdate offset delay).blobs = s.blobs ∧
    (s.servoUpdate offset delay).flash = s.flash ∧ (s.servoUpdate offset delay).recorder = s.recorder ∧
    (s.servoUpdate offset delay).auth = s.auth ∧ (s.servoUpdate offset delay).spi = s.spi ∧
    (s.servoUpdate offset delay).ring = s.ring ∧ (s.servoUpdate offset delay).job = s.job ∧
    (s.servoUpdate offset delay).heads = s.heads ∧ (s.servoUpdate offset delay).sieve = s.sieve ∧
    (s.servoUpdate offset delay).engine = s.engine ∧ (s.servoUpdate offset delay).motion = s.motion ∧
    (s.servoUpdate offset delay).dram = s.dram ∧ (s.servoUpdate offset delay).clocks = s.clocks ∧
    (s.servoUpdate offset delay).thermal = s.thermal ∧ (s.servoUpdate offset delay).images = s.images ∧
    (s.servoUpdate offset delay).tap = s.tap ∧ (s.servoUpdate offset delay).fresh = s.fresh := by
  unfold State.servoUpdate
  (repeat' split) <;> simp

@[simp] theorem frame_selectMaster (s : State) (m : Option Announce) : (s.selectMaster m).pending = s.pending ∧
    (s.selectMaster m).deferred = s.deferred ∧ (s.selectMaster m).dev = s.dev ∧ (s.selectMaster m).power = s.power ∧
    (s.selectMaster m).clk = s.clk ∧ (s.selectMaster m).fuses = s.fuses ∧ (s.selectMaster m).blobs = s.blobs ∧
    (s.selectMaster m).flash = s.flash ∧ (s.selectMaster m).recorder = s.recorder ∧ (s.selectMaster m).auth = s.auth ∧
    (s.selectMaster m).spi = s.spi ∧ (s.selectMaster m).ring = s.ring ∧ (s.selectMaster m).job = s.job ∧
    (s.selectMaster m).heads = s.heads ∧ (s.selectMaster m).sieve = s.sieve ∧ (s.selectMaster m).engine = s.engine ∧
    (s.selectMaster m).motion = s.motion ∧ (s.selectMaster m).dram = s.dram ∧ (s.selectMaster m).clocks = s.clocks ∧
    (s.selectMaster m).thermal = s.thermal ∧ (s.selectMaster m).images = s.images ∧ (s.selectMaster m).tap = s.tap ∧
    (s.selectMaster m).fresh = s.fresh := by
  unfold State.selectMaster
  (repeat' split) <;> simp

@[simp] theorem frame_announced (s : State) (a : Announce) : (s.announced a).pending = s.pending ∧
    (s.announced a).deferred = s.deferred ∧ (s.announced a).dev = s.dev ∧ (s.announced a).power = s.power ∧
    (s.announced a).clk = s.clk ∧ (s.announced a).fuses = s.fuses ∧ (s.announced a).blobs = s.blobs ∧
    (s.announced a).flash = s.flash ∧ (s.announced a).recorder = s.recorder ∧ (s.announced a).auth = s.auth ∧
    (s.announced a).spi = s.spi ∧ (s.announced a).ring = s.ring ∧ (s.announced a).job = s.job ∧
    (s.announced a).heads = s.heads ∧ (s.announced a).sieve = s.sieve ∧ (s.announced a).engine = s.engine ∧
    (s.announced a).motion = s.motion ∧ (s.announced a).dram = s.dram ∧ (s.announced a).clocks = s.clocks ∧
    (s.announced a).thermal = s.thermal ∧ (s.announced a).images = s.images ∧ (s.announced a).tap = s.tap ∧
    (s.announced a).fresh = s.fresh := by
  unfold State.announced
  (repeat' split) <;> simp

@[simp] theorem frame_holdTime (s : State) : (s.holdTime).pending = s.pending ∧ (s.holdTime).deferred = s.deferred ∧
    (s.holdTime).dev = s.dev ∧ (s.holdTime).power = s.power ∧ (s.holdTime).clk = s.clk ∧
    (s.holdTime).fuses = s.fuses ∧ (s.holdTime).blobs = s.blobs ∧ (s.holdTime).flash = s.flash ∧
    (s.holdTime).recorder = s.recorder ∧ (s.holdTime).auth = s.auth ∧ (s.holdTime).spi = s.spi ∧
    (s.holdTime).ring = s.ring ∧ (s.holdTime).job = s.job ∧ (s.holdTime).heads = s.heads ∧
    (s.holdTime).sieve = s.sieve ∧ (s.holdTime).engine = s.engine ∧ (s.holdTime).motion = s.motion ∧
    (s.holdTime).dram = s.dram ∧ (s.holdTime).clocks = s.clocks ∧ (s.holdTime).thermal = s.thermal ∧
    (s.holdTime).images = s.images ∧ (s.holdTime).tap = s.tap ∧ (s.holdTime).fresh = s.fresh := by
  unfold State.holdTime
  (repeat' split) <;> simp

@[simp] theorem frame_stepTime (s : State) : (s.stepTime).pending = s.pending ∧ (s.stepTime).deferred = s.deferred ∧
    (s.stepTime).dev = s.dev ∧ (s.stepTime).power = s.power ∧ (s.stepTime).clk = s.clk ∧
    (s.stepTime).fuses = s.fuses ∧ (s.stepTime).blobs = s.blobs ∧ (s.stepTime).flash = s.flash ∧
    (s.stepTime).recorder = s.recorder ∧ (s.stepTime).auth = s.auth ∧ (s.stepTime).spi = s.spi ∧
    (s.stepTime).ring = s.ring ∧ (s.stepTime).job = s.job ∧ (s.stepTime).heads = s.heads ∧
    (s.stepTime).sieve = s.sieve ∧ (s.stepTime).engine = s.engine ∧ (s.stepTime).motion = s.motion ∧
    (s.stepTime).dram = s.dram ∧ (s.stepTime).clocks = s.clocks ∧ (s.stepTime).thermal = s.thermal ∧
    (s.stepTime).images = s.images ∧ (s.stepTime).tap = s.tap ∧ (s.stepTime).fresh = s.fresh := by
  unfold State.stepTime
  (repeat' split) <;> simp

@[simp] theorem frame_execStepNow (path : Path) (value : Nat) (s : State) (s0 : State) : (outcomeState s0 (execStepNow path value s)).pending = s.pending ∧
    (outcomeState s0 (execStepNow path value s)).dev = s.dev ∧
    (outcomeState s0 (execStepNow path value s)).power = s.power ∧
    (outcomeState s0 (execStepNow path value s)).clk = s.clk ∧
    (outcomeState s0 (execStepNow path value s)).fuses = s.fuses ∧
    (outcomeState s0 (execStepNow path value s)).blobs = s.blobs ∧
    (outcomeState s0 (execStepNow path value s)).flash = s.flash ∧
    (outcomeState s0 (execStepNow path value s)).recorder = s.recorder ∧
    (outcomeState s0 (execStepNow path value s)).auth = s.auth ∧
    (outcomeState s0 (execStepNow path value s)).spi = s.spi ∧
    (outcomeState s0 (execStepNow path value s)).ring = s.ring ∧
    (outcomeState s0 (execStepNow path value s)).job = s.job ∧
    (outcomeState s0 (execStepNow path value s)).heads = s.heads ∧
    (outcomeState s0 (execStepNow path value s)).sieve = s.sieve ∧
    (outcomeState s0 (execStepNow path value s)).engine = s.engine ∧
    (outcomeState s0 (execStepNow path value s)).motion = s.motion ∧
    (outcomeState s0 (execStepNow path value s)).dram = s.dram ∧
    (outcomeState s0 (execStepNow path value s)).clocks = s.clocks ∧
    (outcomeState s0 (execStepNow path value s)).thermal = s.thermal ∧
    (outcomeState s0 (execStepNow path value s)).images = s.images ∧
    (outcomeState s0 (execStepNow path value s)).tap = s.tap ∧
    (outcomeState s0 (execStepNow path value s)).fresh = s.fresh := by
  simp only [execStepNow]
  (repeat' split) <;> simp

@[simp] theorem frame_convertEt (s : State) (value : Nat) : (s.convertEt value).pending = s.pending ∧
    (s.convertEt value).deferred = s.deferred ∧ (s.convertEt value).dev = s.dev ∧
    (s.convertEt value).power = s.power ∧ (s.convertEt value).clk = s.clk ∧ (s.convertEt value).fuses = s.fuses ∧
    (s.convertEt value).blobs = s.blobs ∧ (s.convertEt value).flash = s.flash ∧
    (s.convertEt value).leaves = s.leaves ∧ (s.convertEt value).recorder = s.recorder ∧
    (s.convertEt value).sessions = s.sessions ∧ (s.convertEt value).auth = s.auth ∧ (s.convertEt value).spi = s.spi ∧
    (s.convertEt value).ring = s.ring ∧ (s.convertEt value).ownWaiting = s.ownWaiting ∧
    (s.convertEt value).out = s.out ∧ (s.convertEt value).job = s.job ∧ (s.convertEt value).heads = s.heads ∧
    (s.convertEt value).sieve = s.sieve ∧ (s.convertEt value).engine = s.engine ∧ (s.convertEt value).time = s.time ∧
    (s.convertEt value).twin = s.twin ∧ (s.convertEt value).motion = s.motion ∧ (s.convertEt value).dram = s.dram ∧
    (s.convertEt value).clocks = s.clocks ∧ (s.convertEt value).thermal = s.thermal ∧
    (s.convertEt value).images = s.images ∧ (s.convertEt value).tap = s.tap ∧
    (s.convertEt value).fresh = s.fresh := by
  unfold State.convertEt
  (repeat' split) <;> simp

@[simp] theorem frame_execEtIn (path : Path) (value : Nat) (s : State) (s0 : State) : (outcomeState s0 (execEtIn path value s)).pending = s.pending ∧
    (outcomeState s0 (execEtIn path value s)).dev = s.dev ∧
    (outcomeState s0 (execEtIn path value s)).power = s.power ∧
    (outcomeState s0 (execEtIn path value s)).clk = s.clk ∧
    (outcomeState s0 (execEtIn path value s)).fuses = s.fuses ∧
    (outcomeState s0 (execEtIn path value s)).blobs = s.blobs ∧
    (outcomeState s0 (execEtIn path value s)).flash = s.flash ∧
    (outcomeState s0 (execEtIn path value s)).leaves = s.leaves ∧
    (outcomeState s0 (execEtIn path value s)).recorder = s.recorder ∧
    (outcomeState s0 (execEtIn path value s)).sessions = s.sessions ∧
    (outcomeState s0 (execEtIn path value s)).auth = s.auth ∧ (outcomeState s0 (execEtIn path value s)).spi = s.spi ∧
    (outcomeState s0 (execEtIn path value s)).ring = s.ring ∧
    (outcomeState s0 (execEtIn path value s)).ownWaiting = s.ownWaiting ∧
    (outcomeState s0 (execEtIn path value s)).job = s.job ∧
    (outcomeState s0 (execEtIn path value s)).heads = s.heads ∧
    (outcomeState s0 (execEtIn path value s)).sieve = s.sieve ∧
    (outcomeState s0 (execEtIn path value s)).engine = s.engine ∧
    (outcomeState s0 (execEtIn path value s)).time = s.time ∧
    (outcomeState s0 (execEtIn path value s)).twin = s.twin ∧
    (outcomeState s0 (execEtIn path value s)).motion = s.motion ∧
    (outcomeState s0 (execEtIn path value s)).dram = s.dram ∧
    (outcomeState s0 (execEtIn path value s)).clocks = s.clocks ∧
    (outcomeState s0 (execEtIn path value s)).thermal = s.thermal ∧
    (outcomeState s0 (execEtIn path value s)).images = s.images ∧
    (outcomeState s0 (execEtIn path value s)).tap = s.tap ∧
    (outcomeState s0 (execEtIn path value s)).fresh = s.fresh := by
  simp only [execEtIn]
  (repeat' split) <;> simp

@[simp] theorem frame_convertNt (s : State) (value : Nat) : (s.convertNt value).pending = s.pending ∧
    (s.convertNt value).deferred = s.deferred ∧ (s.convertNt value).dev = s.dev ∧
    (s.convertNt value).power = s.power ∧ (s.convertNt value).clk = s.clk ∧ (s.convertNt value).fuses = s.fuses ∧
    (s.convertNt value).blobs = s.blobs ∧ (s.convertNt value).flash = s.flash ∧
    (s.convertNt value).leaves = s.leaves ∧ (s.convertNt value).recorder = s.recorder ∧
    (s.convertNt value).sessions = s.sessions ∧ (s.convertNt value).auth = s.auth ∧ (s.convertNt value).spi = s.spi ∧
    (s.convertNt value).ring = s.ring ∧ (s.convertNt value).ownWaiting = s.ownWaiting ∧
    (s.convertNt value).out = s.out ∧ (s.convertNt value).job = s.job ∧ (s.convertNt value).heads = s.heads ∧
    (s.convertNt value).sieve = s.sieve ∧ (s.convertNt value).engine = s.engine ∧ (s.convertNt value).time = s.time ∧
    (s.convertNt value).twin = s.twin ∧ (s.convertNt value).motion = s.motion ∧ (s.convertNt value).dram = s.dram ∧
    (s.convertNt value).clocks = s.clocks ∧ (s.convertNt value).thermal = s.thermal ∧
    (s.convertNt value).images = s.images ∧ (s.convertNt value).tap = s.tap ∧
    (s.convertNt value).fresh = s.fresh := by
  unfold State.convertNt
  (repeat' split) <;> simp

@[simp] theorem frame_execNtInNanoseconds (path : Path) (value : Nat) (s : State) (s0 : State) : (outcomeState s0 (execNtInNanoseconds path value s)).pending = s.pending ∧
    (outcomeState s0 (execNtInNanoseconds path value s)).dev = s.dev ∧
    (outcomeState s0 (execNtInNanoseconds path value s)).power = s.power ∧
    (outcomeState s0 (execNtInNanoseconds path value s)).clk = s.clk ∧
    (outcomeState s0 (execNtInNanoseconds path value s)).fuses = s.fuses ∧
    (outcomeState s0 (execNtInNanoseconds path value s)).blobs = s.blobs ∧
    (outcomeState s0 (execNtInNanoseconds path value s)).flash = s.flash ∧
    (outcomeState s0 (execNtInNanoseconds path value s)).leaves = s.leaves ∧
    (outcomeState s0 (execNtInNanoseconds path value s)).recorder = s.recorder ∧
    (outcomeState s0 (execNtInNanoseconds path value s)).sessions = s.sessions ∧
    (outcomeState s0 (execNtInNanoseconds path value s)).auth = s.auth ∧
    (outcomeState s0 (execNtInNanoseconds path value s)).spi = s.spi ∧
    (outcomeState s0 (execNtInNanoseconds path value s)).ring = s.ring ∧
    (outcomeState s0 (execNtInNanoseconds path value s)).ownWaiting = s.ownWaiting ∧
    (outcomeState s0 (execNtInNanoseconds path value s)).job = s.job ∧
    (outcomeState s0 (execNtInNanoseconds path value s)).heads = s.heads ∧
    (outcomeState s0 (execNtInNanoseconds path value s)).sieve = s.sieve ∧
    (outcomeState s0 (execNtInNanoseconds path value s)).engine = s.engine ∧
    (outcomeState s0 (execNtInNanoseconds path value s)).time = s.time ∧
    (outcomeState s0 (execNtInNanoseconds path value s)).twin = s.twin ∧
    (outcomeState s0 (execNtInNanoseconds path value s)).motion = s.motion ∧
    (outcomeState s0 (execNtInNanoseconds path value s)).dram = s.dram ∧
    (outcomeState s0 (execNtInNanoseconds path value s)).clocks = s.clocks ∧
    (outcomeState s0 (execNtInNanoseconds path value s)).thermal = s.thermal ∧
    (outcomeState s0 (execNtInNanoseconds path value s)).images = s.images ∧
    (outcomeState s0 (execNtInNanoseconds path value s)).tap = s.tap ∧
    (outcomeState s0 (execNtInNanoseconds path value s)).fresh = s.fresh := by
  simp only [execNtInNanoseconds]
  (repeat' split) <;> simp

@[simp] theorem frame_beginCredit (s : State) (format : Nat) : (s.beginCredit format).pending = s.pending ∧
    (s.beginCredit format).deferred = s.deferred ∧ (s.beginCredit format).dev = s.dev ∧
    (s.beginCredit format).power = s.power ∧ (s.beginCredit format).clk = s.clk ∧
    (s.beginCredit format).fuses = s.fuses ∧ (s.beginCredit format).blobs = s.blobs ∧
    (s.beginCredit format).flash = s.flash ∧ (s.beginCredit format).leaves = s.leaves ∧
    (s.beginCredit format).recorder = s.recorder ∧ (s.beginCredit format).sessions = s.sessions ∧
    (s.beginCredit format).auth = s.auth ∧ (s.beginCredit format).spi = s.spi ∧ (s.beginCredit format).ring = s.ring ∧
    (s.beginCredit format).ownWaiting = s.ownWaiting ∧ (s.beginCredit format).out = s.out ∧
    (s.beginCredit format).heads = s.heads ∧ (s.beginCredit format).sieve = s.sieve ∧
    (s.beginCredit format).engine = s.engine ∧ (s.beginCredit format).time = s.time ∧
    (s.beginCredit format).twin = s.twin ∧ (s.beginCredit format).motion = s.motion ∧
    (s.beginCredit format).dram = s.dram ∧ (s.beginCredit format).clocks = s.clocks ∧
    (s.beginCredit format).thermal = s.thermal ∧ (s.beginCredit format).images = s.images ∧
    (s.beginCredit format).tap = s.tap ∧ (s.beginCredit format).fresh = s.fresh := by
  unfold State.beginCredit
  (repeat' split) <;> simp

@[simp] theorem frame_firstGrant (s : State) : (s.firstGrant).pending = s.pending ∧
    (s.firstGrant).deferred = s.deferred ∧ (s.firstGrant).dev = s.dev ∧ (s.firstGrant).power = s.power ∧
    (s.firstGrant).clk = s.clk ∧ (s.firstGrant).fuses = s.fuses ∧ (s.firstGrant).blobs = s.blobs ∧
    (s.firstGrant).flash = s.flash ∧ (s.firstGrant).leaves = s.leaves ∧ (s.firstGrant).recorder = s.recorder ∧
    (s.firstGrant).auth = s.auth ∧ (s.firstGrant).spi = s.spi ∧ (s.firstGrant).ring = s.ring ∧
    (s.firstGrant).job = s.job ∧ (s.firstGrant).heads = s.heads ∧ (s.firstGrant).sieve = s.sieve ∧
    (s.firstGrant).engine = s.engine ∧ (s.firstGrant).time = s.time ∧ (s.firstGrant).motion = s.motion ∧
    (s.firstGrant).dram = s.dram ∧ (s.firstGrant).clocks = s.clocks ∧ (s.firstGrant).thermal = s.thermal ∧
    (s.firstGrant).images = s.images ∧ (s.firstGrant).tap = s.tap ∧ (s.firstGrant).fresh = s.fresh := by
  unfold State.firstGrant
  (repeat' split) <;> simp

@[simp] theorem frame_openQuiet (s : State) (n peer : Nat) (a : OpenAsk) : (s.openQuiet n peer a).pending = s.pending ∧
    (s.openQuiet n peer a).deferred = s.deferred ∧ (s.openQuiet n peer a).dev = s.dev ∧
    (s.openQuiet n peer a).power = s.power ∧ (s.openQuiet n peer a).clk = s.clk ∧
    (s.openQuiet n peer a).fuses = s.fuses ∧ (s.openQuiet n peer a).blobs = s.blobs ∧
    (s.openQuiet n peer a).flash = s.flash ∧ (s.openQuiet n peer a).leaves = s.leaves ∧
    (s.openQuiet n peer a).recorder = s.recorder ∧ (s.openQuiet n peer a).auth = s.auth ∧
    (s.openQuiet n peer a).spi = s.spi ∧ (s.openQuiet n peer a).ring = s.ring ∧
    (s.openQuiet n peer a).heads = s.heads ∧ (s.openQuiet n peer a).sieve = s.sieve ∧
    (s.openQuiet n peer a).engine = s.engine ∧ (s.openQuiet n peer a).time = s.time ∧
    (s.openQuiet n peer a).motion = s.motion ∧ (s.openQuiet n peer a).dram = s.dram ∧
    (s.openQuiet n peer a).clocks = s.clocks ∧ (s.openQuiet n peer a).thermal = s.thermal ∧
    (s.openQuiet n peer a).images = s.images ∧ (s.openQuiet n peer a).tap = s.tap ∧
    (s.openQuiet n peer a).fresh = s.fresh := by
  unfold State.openQuiet
  (repeat' split) <;> simp

@[simp] theorem frame_openAs (s : State) (n peer : Nat) (a : OpenAsk) : (s.openAs n peer a).pending = s.pending ∧
    (s.openAs n peer a).deferred = s.deferred ∧ (s.openAs n peer a).dev = s.dev ∧
    (s.openAs n peer a).power = s.power ∧ (s.openAs n peer a).clk = s.clk ∧ (s.openAs n peer a).fuses = s.fuses ∧
    (s.openAs n peer a).blobs = s.blobs ∧ (s.openAs n peer a).flash = s.flash ∧
    (s.openAs n peer a).leaves = s.leaves ∧ (s.openAs n peer a).recorder = s.recorder ∧
    (s.openAs n peer a).auth = s.auth ∧ (s.openAs n peer a).spi = s.spi ∧ (s.openAs n peer a).ring = s.ring ∧
    (s.openAs n peer a).heads = s.heads ∧ (s.openAs n peer a).sieve = s.sieve ∧
    (s.openAs n peer a).engine = s.engine ∧ (s.openAs n peer a).time = s.time ∧
    (s.openAs n peer a).motion = s.motion ∧ (s.openAs n peer a).dram = s.dram ∧
    (s.openAs n peer a).clocks = s.clocks ∧ (s.openAs n peer a).thermal = s.thermal ∧
    (s.openAs n peer a).images = s.images ∧ (s.openAs n peer a).tap = s.tap ∧
    (s.openAs n peer a).fresh = s.fresh := by
  unfold State.openAs
  (repeat' split) <;> simp

@[simp] theorem frame_openSession (s : State) (peer : Nat) (payload : List Byte) : (s.openSession peer payload).pending = s.pending ∧
    (s.openSession peer payload).deferred = s.deferred ∧ (s.openSession peer payload).dev = s.dev ∧
    (s.openSession peer payload).power = s.power ∧ (s.openSession peer payload).clk = s.clk ∧
    (s.openSession peer payload).fuses = s.fuses ∧ (s.openSession peer payload).blobs = s.blobs ∧
    (s.openSession peer payload).flash = s.flash ∧ (s.openSession peer payload).leaves = s.leaves ∧
    (s.openSession peer payload).recorder = s.recorder ∧ (s.openSession peer payload).auth = s.auth ∧
    (s.openSession peer payload).spi = s.spi ∧ (s.openSession peer payload).ring = s.ring ∧
    (s.openSession peer payload).heads = s.heads ∧ (s.openSession peer payload).sieve = s.sieve ∧
    (s.openSession peer payload).engine = s.engine ∧ (s.openSession peer payload).time = s.time ∧
    (s.openSession peer payload).motion = s.motion ∧ (s.openSession peer payload).dram = s.dram ∧
    (s.openSession peer payload).clocks = s.clocks ∧ (s.openSession peer payload).thermal = s.thermal ∧
    (s.openSession peer payload).images = s.images ∧ (s.openSession peer payload).tap = s.tap ∧
    (s.openSession peer payload).fresh = s.fresh := by
  unfold State.openSession
  dsimp only
  (repeat' split) <;> simp

@[simp] theorem frame_endJob (s : State) : (s.endJob).pending = s.pending ∧ (s.endJob).deferred = s.deferred ∧
    (s.endJob).dev = s.dev ∧ (s.endJob).power = s.power ∧ (s.endJob).clk = s.clk ∧ (s.endJob).fuses = s.fuses ∧
    (s.endJob).blobs = s.blobs ∧ (s.endJob).flash = s.flash ∧ (s.endJob).leaves = s.leaves ∧
    (s.endJob).recorder = s.recorder ∧ (s.endJob).sessions = s.sessions ∧ (s.endJob).auth = s.auth ∧
    (s.endJob).spi = s.spi ∧ (s.endJob).ring = s.ring ∧ (s.endJob).ownWaiting = s.ownWaiting ∧
    (s.endJob).out = s.out ∧ (s.endJob).heads = s.heads ∧ (s.endJob).sieve = s.sieve ∧ (s.endJob).engine = s.engine ∧
    (s.endJob).time = s.time ∧ (s.endJob).motion = s.motion ∧ (s.endJob).dram = s.dram ∧
    (s.endJob).clocks = s.clocks ∧ (s.endJob).thermal = s.thermal ∧ (s.endJob).images = s.images ∧
    (s.endJob).tap = s.tap ∧ (s.endJob).fresh = s.fresh := by
  unfold State.endJob
  (repeat' split) <;> simp

@[simp] theorem frame_closeSession (s : State) (n reason : Nat) : (s.closeSession n reason).pending = s.pending ∧
    (s.closeSession n reason).deferred = s.deferred ∧ (s.closeSession n reason).dev = s.dev ∧
    (s.closeSession n reason).power = s.power ∧ (s.closeSession n reason).clk = s.clk ∧
    (s.closeSession n reason).fuses = s.fuses ∧ (s.closeSession n reason).blobs = s.blobs ∧
    (s.closeSession n reason).flash = s.flash ∧ (s.closeSession n reason).recorder = s.recorder ∧
    (s.closeSession n reason).auth = s.auth ∧ (s.closeSession n reason).spi = s.spi ∧
    (s.closeSession n reason).ring = s.ring ∧ (s.closeSession n reason).heads = s.heads ∧
    (s.closeSession n reason).sieve = s.sieve ∧ (s.closeSession n reason).engine = s.engine ∧
    (s.closeSession n reason).time = s.time ∧ (s.closeSession n reason).motion = s.motion ∧
    (s.closeSession n reason).dram = s.dram ∧ (s.closeSession n reason).clocks = s.clocks ∧
    (s.closeSession n reason).thermal = s.thermal ∧ (s.closeSession n reason).images = s.images ∧
    (s.closeSession n reason).tap = s.tap ∧ (s.closeSession n reason).fresh = s.fresh := by
  unfold State.closeSession
  (repeat' split) <;> simp

@[simp] theorem frame_tookFrame (s : State) (p : Path) : (s.tookFrame p).pending = s.pending ∧
    (s.tookFrame p).deferred = s.deferred ∧ (s.tookFrame p).dev = s.dev ∧ (s.tookFrame p).power = s.power ∧
    (s.tookFrame p).clk = s.clk ∧ (s.tookFrame p).fuses = s.fuses ∧ (s.tookFrame p).regs = s.regs ∧
    (s.tookFrame p).blobs = s.blobs ∧ (s.tookFrame p).flash = s.flash ∧ (s.tookFrame p).leaves = s.leaves ∧
    (s.tookFrame p).recorder = s.recorder ∧ (s.tookFrame p).auth = s.auth ∧ (s.tookFrame p).spi = s.spi ∧
    (s.tookFrame p).ring = s.ring ∧ (s.tookFrame p).ownWaiting = s.ownWaiting ∧ (s.tookFrame p).out = s.out ∧
    (s.tookFrame p).job = s.job ∧ (s.tookFrame p).heads = s.heads ∧ (s.tookFrame p).sieve = s.sieve ∧
    (s.tookFrame p).engine = s.engine ∧ (s.tookFrame p).time = s.time ∧ (s.tookFrame p).twin = s.twin ∧
    (s.tookFrame p).motion = s.motion ∧ (s.tookFrame p).dram = s.dram ∧ (s.tookFrame p).clocks = s.clocks ∧
    (s.tookFrame p).thermal = s.thermal ∧ (s.tookFrame p).images = s.images ∧ (s.tookFrame p).tap = s.tap ∧
    (s.tookFrame p).fresh = s.fresh := by
  unfold State.tookFrame
  (repeat' split) <;> simp

@[simp] theorem frame_drain (s : State) (n : Nat) : (s.drain n).pending = s.pending ∧
    (s.drain n).deferred = s.deferred ∧ (s.drain n).dev = s.dev ∧ (s.drain n).power = s.power ∧
    (s.drain n).clk = s.clk ∧ (s.drain n).fuses = s.fuses ∧ (s.drain n).regs = s.regs ∧ (s.drain n).blobs = s.blobs ∧
    (s.drain n).flash = s.flash ∧ (s.drain n).leaves = s.leaves ∧ (s.drain n).recorder = s.recorder ∧
    (s.drain n).auth = s.auth ∧ (s.drain n).spi = s.spi ∧ (s.drain n).ring = s.ring ∧ (s.drain n).job = s.job ∧
    (s.drain n).heads = s.heads ∧ (s.drain n).sieve = s.sieve ∧ (s.drain n).engine = s.engine ∧
    (s.drain n).time = s.time ∧ (s.drain n).motion = s.motion ∧ (s.drain n).dram = s.dram ∧
    (s.drain n).clocks = s.clocks ∧ (s.drain n).thermal = s.thermal ∧ (s.drain n).images = s.images ∧
    (s.drain n).tap = s.tap ∧ (s.drain n).fresh = s.fresh := by
  unfold State.drain
  (repeat' split) <;> simp

@[simp] theorem frame_repeatFrame (s : State) (n seq : Nat) : (s.repeatFrame n seq).pending = s.pending ∧
    (s.repeatFrame n seq).deferred = s.deferred ∧ (s.repeatFrame n seq).dev = s.dev ∧
    (s.repeatFrame n seq).power = s.power ∧ (s.repeatFrame n seq).clk = s.clk ∧
    (s.repeatFrame n seq).fuses = s.fuses ∧ (s.repeatFrame n seq).blobs = s.blobs ∧
    (s.repeatFrame n seq).flash = s.flash ∧ (s.repeatFrame n seq).recorder = s.recorder ∧
    (s.repeatFrame n seq).auth = s.auth ∧ (s.repeatFrame n seq).spi = s.spi ∧ (s.repeatFrame n seq).ring = s.ring ∧
    (s.repeatFrame n seq).heads = s.heads ∧ (s.repeatFrame n seq).sieve = s.sieve ∧
    (s.repeatFrame n seq).engine = s.engine ∧ (s.repeatFrame n seq).time = s.time ∧
    (s.repeatFrame n seq).motion = s.motion ∧ (s.repeatFrame n seq).dram = s.dram ∧
    (s.repeatFrame n seq).clocks = s.clocks ∧ (s.repeatFrame n seq).thermal = s.thermal ∧
    (s.repeatFrame n seq).images = s.images ∧ (s.repeatFrame n seq).tap = s.tap ∧
    (s.repeatFrame n seq).fresh = s.fresh := by
  unfold State.repeatFrame
  dsimp only
  (repeat' split) <;> simp

@[simp] theorem frame_acked (s : State) (n ack sack : Nat) : (s.acked n ack sack).pending = s.pending ∧
    (s.acked n ack sack).deferred = s.deferred ∧ (s.acked n ack sack).dev = s.dev ∧
    (s.acked n ack sack).power = s.power ∧ (s.acked n ack sack).clk = s.clk ∧ (s.acked n ack sack).fuses = s.fuses ∧
    (s.acked n ack sack).blobs = s.blobs ∧ (s.acked n ack sack).flash = s.flash ∧
    (s.acked n ack sack).recorder = s.recorder ∧ (s.acked n ack sack).auth = s.auth ∧
    (s.acked n ack sack).spi = s.spi ∧ (s.acked n ack sack).ring = s.ring ∧ (s.acked n ack sack).heads = s.heads ∧
    (s.acked n ack sack).sieve = s.sieve ∧ (s.acked n ack sack).engine = s.engine ∧
    (s.acked n ack sack).time = s.time ∧ (s.acked n ack sack).motion = s.motion ∧ (s.acked n ack sack).dram = s.dram ∧
    (s.acked n ack sack).clocks = s.clocks ∧ (s.acked n ack sack).thermal = s.thermal ∧
    (s.acked n ack sack).images = s.images ∧ (s.acked n ack sack).tap = s.tap ∧
    (s.acked n ack sack).fresh = s.fresh := by
  unfold State.acked
  (repeat' split) <;> simp

@[simp] theorem frame_received (s : State) (n : Nat) : (s.received n).pending = s.pending ∧
    (s.received n).deferred = s.deferred ∧ (s.received n).dev = s.dev ∧ (s.received n).power = s.power ∧
    (s.received n).clk = s.clk ∧ (s.received n).fuses = s.fuses ∧ (s.received n).blobs = s.blobs ∧
    (s.received n).flash = s.flash ∧ (s.received n).leaves = s.leaves ∧ (s.received n).recorder = s.recorder ∧
    (s.received n).sessions = s.sessions ∧ (s.received n).auth = s.auth ∧ (s.received n).spi = s.spi ∧
    (s.received n).ring = s.ring ∧ (s.received n).ownWaiting = s.ownWaiting ∧ (s.received n).out = s.out ∧
    (s.received n).job = s.job ∧ (s.received n).heads = s.heads ∧ (s.received n).sieve = s.sieve ∧
    (s.received n).engine = s.engine ∧ (s.received n).time = s.time ∧ (s.received n).twin = s.twin ∧
    (s.received n).motion = s.motion ∧ (s.received n).dram = s.dram ∧ (s.received n).clocks = s.clocks ∧
    (s.received n).thermal = s.thermal ∧ (s.received n).images = s.images ∧ (s.received n).tap = s.tap ∧
    (s.received n).fresh = s.fresh := by
  unfold State.received
  (repeat' split) <;> simp

@[simp] theorem frame_refuseEarly (s : State) (r : Reception) (code extra : Nat) : (s.refuseEarly r code extra).pending = s.pending ∧
    (s.refuseEarly r code extra).deferred = s.deferred ∧ (s.refuseEarly r code extra).dev = s.dev ∧
    (s.refuseEarly r code extra).power = s.power ∧ (s.refuseEarly r code extra).clk = s.clk ∧
    (s.refuseEarly r code extra).fuses = s.fuses ∧ (s.refuseEarly r code extra).blobs = s.blobs ∧
    (s.refuseEarly r code extra).flash = s.flash ∧ (s.refuseEarly r code extra).recorder = s.recorder ∧
    (s.refuseEarly r code extra).auth = s.auth ∧ (s.refuseEarly r code extra).spi = s.spi ∧
    (s.refuseEarly r code extra).ring = s.ring ∧ (s.refuseEarly r code extra).heads = s.heads ∧
    (s.refuseEarly r code extra).sieve = s.sieve ∧ (s.refuseEarly r code extra).engine = s.engine ∧
    (s.refuseEarly r code extra).time = s.time ∧ (s.refuseEarly r code extra).motion = s.motion ∧
    (s.refuseEarly r code extra).dram = s.dram ∧ (s.refuseEarly r code extra).clocks = s.clocks ∧
    (s.refuseEarly r code extra).thermal = s.thermal ∧ (s.refuseEarly r code extra).images = s.images ∧
    (s.refuseEarly r code extra).tap = s.tap ∧ (s.refuseEarly r code extra).fresh = s.fresh := by
  unfold State.refuseEarly
  (repeat' split) <;> simp

@[simp] theorem frame_violated (s : State) (seq : Nat) : (s.violated seq).pending = s.pending ∧
    (s.violated seq).deferred = s.deferred ∧ (s.violated seq).dev = s.dev ∧ (s.violated seq).power = s.power ∧
    (s.violated seq).clk = s.clk ∧ (s.violated seq).fuses = s.fuses ∧ (s.violated seq).blobs = s.blobs ∧
    (s.violated seq).flash = s.flash ∧ (s.violated seq).recorder = s.recorder ∧ (s.violated seq).auth = s.auth ∧
    (s.violated seq).spi = s.spi ∧ (s.violated seq).ring = s.ring ∧ (s.violated seq).heads = s.heads ∧
    (s.violated seq).sieve = s.sieve ∧ (s.violated seq).engine = s.engine ∧ (s.violated seq).time = s.time ∧
    (s.violated seq).motion = s.motion ∧ (s.violated seq).dram = s.dram ∧ (s.violated seq).clocks = s.clocks ∧
    (s.violated seq).thermal = s.thermal ∧ (s.violated seq).images = s.images ∧ (s.violated seq).tap = s.tap ∧
    (s.violated seq).fresh = s.fresh := by
  unfold State.violated
  (repeat' split) <;> simp

@[simp] theorem frame_creditViolation (s : State) (r : Reception) : (s.creditViolation r).pending = s.pending ∧
    (s.creditViolation r).deferred = s.deferred ∧ (s.creditViolation r).dev = s.dev ∧
    (s.creditViolation r).power = s.power ∧ (s.creditViolation r).clk = s.clk ∧
    (s.creditViolation r).fuses = s.fuses ∧ (s.creditViolation r).blobs = s.blobs ∧
    (s.creditViolation r).flash = s.flash ∧ (s.creditViolation r).recorder = s.recorder ∧
    (s.creditViolation r).auth = s.auth ∧ (s.creditViolation r).spi = s.spi ∧ (s.creditViolation r).ring = s.ring ∧
    (s.creditViolation r).heads = s.heads ∧ (s.creditViolation r).sieve = s.sieve ∧
    (s.creditViolation r).engine = s.engine ∧ (s.creditViolation r).time = s.time ∧
    (s.creditViolation r).motion = s.motion ∧ (s.creditViolation r).dram = s.dram ∧
    (s.creditViolation r).clocks = s.clocks ∧ (s.creditViolation r).thermal = s.thermal ∧
    (s.creditViolation r).images = s.images ∧ (s.creditViolation r).tap = s.tap ∧
    (s.creditViolation r).fresh = s.fresh := by
  unfold State.creditViolation
  (repeat' split) <;> simp

@[simp] theorem frame_discarded (s : State) (seq all below : Nat) : (s.discarded seq all below).pending = s.pending ∧
    (s.discarded seq all below).deferred = s.deferred ∧ (s.discarded seq all below).dev = s.dev ∧
    (s.discarded seq all below).power = s.power ∧ (s.discarded seq all below).clk = s.clk ∧
    (s.discarded seq all below).fuses = s.fuses ∧ (s.discarded seq all below).blobs = s.blobs ∧
    (s.discarded seq all below).flash = s.flash ∧ (s.discarded seq all below).recorder = s.recorder ∧
    (s.discarded seq all below).auth = s.auth ∧ (s.discarded seq all below).spi = s.spi ∧
    (s.discarded seq all below).ring = s.ring ∧ (s.discarded seq all below).heads = s.heads ∧
    (s.discarded seq all below).sieve = s.sieve ∧ (s.discarded seq all below).engine = s.engine ∧
    (s.discarded seq all below).time = s.time ∧ (s.discarded seq all below).motion = s.motion ∧
    (s.discarded seq all below).dram = s.dram ∧ (s.discarded seq all below).clocks = s.clocks ∧
    (s.discarded seq all below).thermal = s.thermal ∧ (s.discarded seq all below).images = s.images ∧
    (s.discarded seq all below).tap = s.tap ∧ (s.discarded seq all below).fresh = s.fresh := by
  unfold State.discarded
  (repeat' split) <;> simp

@[simp] theorem frame_submit (s : State) (r : Reception) : (s.submit r).pending = s.pending ∧
    (s.submit r).deferred = s.deferred ∧ (s.submit r).dev = s.dev ∧ (s.submit r).power = s.power ∧
    (s.submit r).clk = s.clk ∧ (s.submit r).fuses = s.fuses ∧ (s.submit r).regs = s.regs ∧
    (s.submit r).blobs = s.blobs ∧ (s.submit r).flash = s.flash ∧ (s.submit r).leaves = s.leaves ∧
    (s.submit r).recorder = s.recorder ∧ (s.submit r).sessions = s.sessions ∧ (s.submit r).auth = s.auth ∧
    (s.submit r).spi = s.spi ∧ (s.submit r).ring = s.ring ∧ (s.submit r).ownWaiting = s.ownWaiting ∧
    (s.submit r).out = s.out ∧ (s.submit r).heads = s.heads ∧ (s.submit r).sieve = s.sieve ∧
    (s.submit r).engine = s.engine ∧ (s.submit r).time = s.time ∧ (s.submit r).twin = s.twin ∧
    (s.submit r).motion = s.motion ∧ (s.submit r).clocks = s.clocks ∧ (s.submit r).thermal = s.thermal ∧
    (s.submit r).images = s.images ∧ (s.submit r).tap = s.tap ∧ (s.submit r).fresh = s.fresh := by
  unfold State.submit
  (repeat' split) <;> simp

@[simp] theorem frame_takeJob (s : State) (r : Reception) (off : Nat) (data : List Byte) : (s.takeJob r off data).pending = s.pending ∧
    (s.takeJob r off data).deferred = s.deferred ∧ (s.takeJob r off data).dev = s.dev ∧
    (s.takeJob r off data).power = s.power ∧ (s.takeJob r off data).clk = s.clk ∧
    (s.takeJob r off data).fuses = s.fuses ∧ (s.takeJob r off data).blobs = s.blobs ∧
    (s.takeJob r off data).flash = s.flash ∧ (s.takeJob r off data).recorder = s.recorder ∧
    (s.takeJob r off data).auth = s.auth ∧ (s.takeJob r off data).spi = s.spi ∧ (s.takeJob r off data).ring = s.ring ∧
    (s.takeJob r off data).heads = s.heads ∧ (s.takeJob r off data).sieve = s.sieve ∧
    (s.takeJob r off data).engine = s.engine ∧ (s.takeJob r off data).time = s.time ∧
    (s.takeJob r off data).motion = s.motion ∧ (s.takeJob r off data).clocks = s.clocks ∧
    (s.takeJob r off data).thermal = s.thermal ∧ (s.takeJob r off data).images = s.images ∧
    (s.takeJob r off data).tap = s.tap ∧ (s.takeJob r off data).fresh = s.fresh := by
  unfold State.takeJob
  (repeat' split) <;> simp

@[simp] theorem frame_beforeStart (s : State) : (s.beforeStart).pending = s.pending ∧
    (s.beforeStart).deferred = s.deferred ∧ (s.beforeStart).dev = s.dev ∧ (s.beforeStart).power = s.power ∧
    (s.beforeStart).clk = s.clk ∧ (s.beforeStart).fuses = s.fuses ∧ (s.beforeStart).blobs = s.blobs ∧
    (s.beforeStart).flash = s.flash ∧ (s.beforeStart).recorder = s.recorder ∧ (s.beforeStart).auth = s.auth ∧
    (s.beforeStart).spi = s.spi ∧ (s.beforeStart).ring = s.ring ∧ (s.beforeStart).heads = s.heads ∧
    (s.beforeStart).sieve = s.sieve ∧ (s.beforeStart).engine = s.engine ∧ (s.beforeStart).time = s.time ∧
    (s.beforeStart).motion = s.motion ∧ (s.beforeStart).dram = s.dram ∧ (s.beforeStart).clocks = s.clocks ∧
    (s.beforeStart).thermal = s.thermal ∧ (s.beforeStart).images = s.images ∧ (s.beforeStart).tap = s.tap ∧
    (s.beforeStart).fresh = s.fresh := by
  unfold State.beforeStart
  (repeat' split) <;> simp

@[simp] theorem frame_jobData (s : State) (seq : Nat) (start : Bool) (off : Nat) (data : List Byte) : (s.jobData seq start off data).pending = s.pending ∧
    (s.jobData seq start off data).deferred = s.deferred ∧ (s.jobData seq start off data).dev = s.dev ∧
    (s.jobData seq start off data).power = s.power ∧ (s.jobData seq start off data).clk = s.clk ∧
    (s.jobData seq start off data).fuses = s.fuses ∧ (s.jobData seq start off data).blobs = s.blobs ∧
    (s.jobData seq start off data).flash = s.flash ∧ (s.jobData seq start off data).recorder = s.recorder ∧
    (s.jobData seq start off data).auth = s.auth ∧ (s.jobData seq start off data).spi = s.spi ∧
    (s.jobData seq start off data).ring = s.ring ∧ (s.jobData seq start off data).heads = s.heads ∧
    (s.jobData seq start off data).sieve = s.sieve ∧ (s.jobData seq start off data).engine = s.engine ∧
    (s.jobData seq start off data).time = s.time ∧ (s.jobData seq start off data).motion = s.motion ∧
    (s.jobData seq start off data).clocks = s.clocks ∧ (s.jobData seq start off data).thermal = s.thermal ∧
    (s.jobData seq start off data).images = s.images ∧ (s.jobData seq start off data).tap = s.tap ∧
    (s.jobData seq start off data).fresh = s.fresh := by
  unfold State.jobData
  dsimp only
  (repeat' split) <;> simp

@[simp] theorem frame_jobMessageIn (s : State) (n seq : Nat) (start : Bool) (payload : List Byte) : (s.jobMessageIn n seq start payload).pending = s.pending ∧
    (s.jobMessageIn n seq start payload).deferred = s.deferred ∧ (s.jobMessageIn n seq start payload).dev = s.dev ∧
    (s.jobMessageIn n seq start payload).power = s.power ∧ (s.jobMessageIn n seq start payload).clk = s.clk ∧
    (s.jobMessageIn n seq start payload).fuses = s.fuses ∧ (s.jobMessageIn n seq start payload).blobs = s.blobs ∧
    (s.jobMessageIn n seq start payload).flash = s.flash ∧
    (s.jobMessageIn n seq start payload).recorder = s.recorder ∧ (s.jobMessageIn n seq start payload).auth = s.auth ∧
    (s.jobMessageIn n seq start payload).spi = s.spi ∧ (s.jobMessageIn n seq start payload).ring = s.ring ∧
    (s.jobMessageIn n seq start payload).heads = s.heads ∧ (s.jobMessageIn n seq start payload).sieve = s.sieve ∧
    (s.jobMessageIn n seq start payload).engine = s.engine ∧ (s.jobMessageIn n seq start payload).time = s.time ∧
    (s.jobMessageIn n seq start payload).motion = s.motion ∧ (s.jobMessageIn n seq start payload).clocks = s.clocks ∧
    (s.jobMessageIn n seq start payload).thermal = s.thermal ∧
    (s.jobMessageIn n seq start payload).images = s.images ∧ (s.jobMessageIn n seq start payload).tap = s.tap ∧
    (s.jobMessageIn n seq start payload).fresh = s.fresh := by
  unfold State.jobMessageIn
  (repeat' split) <;> simp

@[simp] theorem frame_startRecoat (s : State) (layer : Nat) : (s.startRecoat layer).pending = s.pending ∧
    (s.startRecoat layer).deferred = s.deferred ∧ (s.startRecoat layer).dev = s.dev ∧
    (s.startRecoat layer).power = s.power ∧ (s.startRecoat layer).clk = s.clk ∧
    (s.startRecoat layer).fuses = s.fuses ∧ (s.startRecoat layer).regs = s.regs ∧
    (s.startRecoat layer).blobs = s.blobs ∧ (s.startRecoat layer).flash = s.flash ∧
    (s.startRecoat layer).recorder = s.recorder ∧ (s.startRecoat layer).auth = s.auth ∧
    (s.startRecoat layer).spi = s.spi ∧ (s.startRecoat layer).ring = s.ring ∧ (s.startRecoat layer).job = s.job ∧
    (s.startRecoat layer).heads = s.heads ∧ (s.startRecoat layer).sieve = s.sieve ∧
    (s.startRecoat layer).engine = s.engine ∧ (s.startRecoat layer).time = s.time ∧
    (s.startRecoat layer).dram = s.dram ∧ (s.startRecoat layer).clocks = s.clocks ∧
    (s.startRecoat layer).thermal = s.thermal ∧ (s.startRecoat layer).images = s.images ∧
    (s.startRecoat layer).tap = s.tap ∧ (s.startRecoat layer).fresh = s.fresh := by
  unfold State.startRecoat
  (repeat' split) <;> simp

@[simp] theorem frame_execRecoatStart (path : Path) (layer : Nat) (s : State) (s0 : State) : (outcomeState s0 (execRecoatStart path layer s)).pending = s.pending ∧
    (outcomeState s0 (execRecoatStart path layer s)).dev = s.dev ∧
    (outcomeState s0 (execRecoatStart path layer s)).power = s.power ∧
    (outcomeState s0 (execRecoatStart path layer s)).clk = s.clk ∧
    (outcomeState s0 (execRecoatStart path layer s)).fuses = s.fuses ∧
    (outcomeState s0 (execRecoatStart path layer s)).regs = s.regs ∧
    (outcomeState s0 (execRecoatStart path layer s)).blobs = s.blobs ∧
    (outcomeState s0 (execRecoatStart path layer s)).flash = s.flash ∧
    (outcomeState s0 (execRecoatStart path layer s)).recorder = s.recorder ∧
    (outcomeState s0 (execRecoatStart path layer s)).auth = s.auth ∧
    (outcomeState s0 (execRecoatStart path layer s)).spi = s.spi ∧
    (outcomeState s0 (execRecoatStart path layer s)).ring = s.ring ∧
    (outcomeState s0 (execRecoatStart path layer s)).job = s.job ∧
    (outcomeState s0 (execRecoatStart path layer s)).heads = s.heads ∧
    (outcomeState s0 (execRecoatStart path layer s)).sieve = s.sieve ∧
    (outcomeState s0 (execRecoatStart path layer s)).engine = s.engine ∧
    (outcomeState s0 (execRecoatStart path layer s)).time = s.time ∧
    (outcomeState s0 (execRecoatStart path layer s)).dram = s.dram ∧
    (outcomeState s0 (execRecoatStart path layer s)).clocks = s.clocks ∧
    (outcomeState s0 (execRecoatStart path layer s)).thermal = s.thermal ∧
    (outcomeState s0 (execRecoatStart path layer s)).images = s.images ∧
    (outcomeState s0 (execRecoatStart path layer s)).tap = s.tap ∧
    (outcomeState s0 (execRecoatStart path layer s)).fresh = s.fresh := by
  simp only [execRecoatStart]
  (repeat' split) <;> simp

@[simp] theorem frame_execManualReport (path : Path) (layer : Nat) (s : State) (s0 : State) : (outcomeState s0 (execManualReport path layer s)).pending = s.pending ∧
    (outcomeState s0 (execManualReport path layer s)).dev = s.dev ∧
    (outcomeState s0 (execManualReport path layer s)).power = s.power ∧
    (outcomeState s0 (execManualReport path layer s)).clk = s.clk ∧
    (outcomeState s0 (execManualReport path layer s)).fuses = s.fuses ∧
    (outcomeState s0 (execManualReport path layer s)).blobs = s.blobs ∧
    (outcomeState s0 (execManualReport path layer s)).flash = s.flash ∧
    (outcomeState s0 (execManualReport path layer s)).recorder = s.recorder ∧
    (outcomeState s0 (execManualReport path layer s)).auth = s.auth ∧
    (outcomeState s0 (execManualReport path layer s)).spi = s.spi ∧
    (outcomeState s0 (execManualReport path layer s)).ring = s.ring ∧
    (outcomeState s0 (execManualReport path layer s)).sieve = s.sieve ∧
    (outcomeState s0 (execManualReport path layer s)).engine = s.engine ∧
    (outcomeState s0 (execManualReport path layer s)).time = s.time ∧
    (outcomeState s0 (execManualReport path layer s)).clocks = s.clocks ∧
    (outcomeState s0 (execManualReport path layer s)).thermal = s.thermal ∧
    (outcomeState s0 (execManualReport path layer s)).images = s.images ∧
    (outcomeState s0 (execManualReport path layer s)).tap = s.tap ∧
    (outcomeState s0 (execManualReport path layer s)).fresh = s.fresh := by
  simp only [execManualReport]
  (repeat' split) <;> simp

@[simp] theorem frame_execCause (path : Path) (reg value : Nat) (s : State) (s0 : State) : (outcomeState s0 (execCause path reg value s)).pending = s.pending ∧
    (outcomeState s0 (execCause path reg value s)).dev = s.dev ∧
    (outcomeState s0 (execCause path reg value s)).power = s.power ∧
    (outcomeState s0 (execCause path reg value s)).clk = s.clk ∧
    (outcomeState s0 (execCause path reg value s)).fuses = s.fuses ∧
    (outcomeState s0 (execCause path reg value s)).regs = s.regs ∧
    (outcomeState s0 (execCause path reg value s)).blobs = s.blobs ∧
    (outcomeState s0 (execCause path reg value s)).flash = s.flash ∧
    (outcomeState s0 (execCause path reg value s)).recorder = s.recorder ∧
    (outcomeState s0 (execCause path reg value s)).sessions = s.sessions ∧
    (outcomeState s0 (execCause path reg value s)).auth = s.auth ∧
    (outcomeState s0 (execCause path reg value s)).spi = s.spi ∧
    (outcomeState s0 (execCause path reg value s)).ring = s.ring ∧
    (outcomeState s0 (execCause path reg value s)).ownWaiting = s.ownWaiting ∧
    (outcomeState s0 (execCause path reg value s)).job = s.job ∧
    (outcomeState s0 (execCause path reg value s)).heads = s.heads ∧
    (outcomeState s0 (execCause path reg value s)).sieve = s.sieve ∧
    (outcomeState s0 (execCause path reg value s)).engine = s.engine ∧
    (outcomeState s0 (execCause path reg value s)).time = s.time ∧
    (outcomeState s0 (execCause path reg value s)).twin = s.twin ∧
    (outcomeState s0 (execCause path reg value s)).motion = s.motion ∧
    (outcomeState s0 (execCause path reg value s)).dram = s.dram ∧
    (outcomeState s0 (execCause path reg value s)).clocks = s.clocks ∧
    (outcomeState s0 (execCause path reg value s)).thermal = s.thermal ∧
    (outcomeState s0 (execCause path reg value s)).images = s.images ∧
    (outcomeState s0 (execCause path reg value s)).tap = s.tap ∧
    (outcomeState s0 (execCause path reg value s)).fresh = s.fresh := by
  simp only [execCause]
  (repeat' split) <;> simp

@[simp] theorem frame_execTake (path : Path) (reg : Nat) (s : State) (s0 : State) : (outcomeState s0 (execTake path reg s)).pending = s.pending ∧
    (outcomeState s0 (execTake path reg s)).dev = s.dev ∧ (outcomeState s0 (execTake path reg s)).power = s.power ∧
    (outcomeState s0 (execTake path reg s)).clk = s.clk ∧ (outcomeState s0 (execTake path reg s)).fuses = s.fuses ∧
    (outcomeState s0 (execTake path reg s)).regs = s.regs ∧ (outcomeState s0 (execTake path reg s)).blobs = s.blobs ∧
    (outcomeState s0 (execTake path reg s)).flash = s.flash ∧
    (outcomeState s0 (execTake path reg s)).recorder = s.recorder ∧
    (outcomeState s0 (execTake path reg s)).sessions = s.sessions ∧
    (outcomeState s0 (execTake path reg s)).auth = s.auth ∧ (outcomeState s0 (execTake path reg s)).spi = s.spi ∧
    (outcomeState s0 (execTake path reg s)).ring = s.ring ∧
    (outcomeState s0 (execTake path reg s)).ownWaiting = s.ownWaiting ∧
    (outcomeState s0 (execTake path reg s)).job = s.job ∧ (outcomeState s0 (execTake path reg s)).heads = s.heads ∧
    (outcomeState s0 (execTake path reg s)).sieve = s.sieve ∧
    (outcomeState s0 (execTake path reg s)).engine = s.engine ∧
    (outcomeState s0 (execTake path reg s)).time = s.time ∧ (outcomeState s0 (execTake path reg s)).twin = s.twin ∧
    (outcomeState s0 (execTake path reg s)).motion = s.motion ∧
    (outcomeState s0 (execTake path reg s)).dram = s.dram ∧
    (outcomeState s0 (execTake path reg s)).clocks = s.clocks ∧
    (outcomeState s0 (execTake path reg s)).thermal = s.thermal ∧
    (outcomeState s0 (execTake path reg s)).images = s.images ∧ (outcomeState s0 (execTake path reg s)).tap = s.tap ∧
    (outcomeState s0 (execTake path reg s)).fresh = s.fresh := by
  simp only [execTake]
  (repeat' split) <;> simp

@[simp] theorem frame_store (s : State) (index sub : Nat) (data : List Byte) : (s.store index sub data).pending = s.pending ∧
    (s.store index sub data).deferred = s.deferred ∧ (s.store index sub data).dev = s.dev ∧
    (s.store index sub data).power = s.power ∧ (s.store index sub data).clk = s.clk ∧
    (s.store index sub data).fuses = s.fuses ∧ (s.store index sub data).flash = s.flash ∧
    (s.store index sub data).leaves = s.leaves ∧ (s.store index sub data).recorder = s.recorder ∧
    (s.store index sub data).sessions = s.sessions ∧ (s.store index sub data).auth = s.auth ∧
    (s.store index sub data).spi = s.spi ∧ (s.store index sub data).ring = s.ring ∧
    (s.store index sub data).ownWaiting = s.ownWaiting ∧ (s.store index sub data).out = s.out ∧
    (s.store index sub data).job = s.job ∧ (s.store index sub data).heads = s.heads ∧
    (s.store index sub data).sieve = s.sieve ∧ (s.store index sub data).engine = s.engine ∧
    (s.store index sub data).time = s.time ∧ (s.store index sub data).twin = s.twin ∧
    (s.store index sub data).motion = s.motion ∧ (s.store index sub data).dram = s.dram ∧
    (s.store index sub data).clocks = s.clocks ∧ (s.store index sub data).thermal = s.thermal ∧
    (s.store index sub data).images = s.images ∧ (s.store index sub data).tap = s.tap ∧
    (s.store index sub data).fresh = s.fresh := by
  unfold State.store
  (repeat' split) <;> simp

@[simp] theorem frame_plainEffect (s : State) (index sub : Nat) (data : List Byte) : (s.plainEffect index sub data).pending = s.pending ∧
    (s.plainEffect index sub data).deferred = s.deferred ∧ (s.plainEffect index sub data).dev = s.dev ∧
    (s.plainEffect index sub data).power = s.power ∧ (s.plainEffect index sub data).clk = s.clk ∧
    (s.plainEffect index sub data).fuses = s.fuses ∧ (s.plainEffect index sub data).flash = s.flash ∧
    (s.plainEffect index sub data).recorder = s.recorder ∧ (s.plainEffect index sub data).auth = s.auth ∧
    (s.plainEffect index sub data).spi = s.spi ∧ (s.plainEffect index sub data).ring = s.ring ∧
    (s.plainEffect index sub data).job = s.job ∧ (s.plainEffect index sub data).time = s.time ∧
    (s.plainEffect index sub data).motion = s.motion ∧ (s.plainEffect index sub data).thermal = s.thermal ∧
    (s.plainEffect index sub data).images = s.images ∧ (s.plainEffect index sub data).tap = s.tap ∧
    (s.plainEffect index sub data).fresh = s.fresh := by
  unfold State.plainEffect
  (repeat' split) <;> simp

@[simp] theorem frame_plainWrite (s : State) (p : Path) (index sub : Nat) (data : List Byte) : (s.plainWrite p index sub data).pending = s.pending ∧
    (s.plainWrite p index sub data).deferred = s.deferred ∧ (s.plainWrite p index sub data).dev = s.dev ∧
    (s.plainWrite p index sub data).power = s.power ∧ (s.plainWrite p index sub data).clk = s.clk ∧
    (s.plainWrite p index sub data).fuses = s.fuses ∧ (s.plainWrite p index sub data).flash = s.flash ∧
    (s.plainWrite p index sub data).recorder = s.recorder ∧ (s.plainWrite p index sub data).auth = s.auth ∧
    (s.plainWrite p index sub data).spi = s.spi ∧ (s.plainWrite p index sub data).ring = s.ring ∧
    (s.plainWrite p index sub data).job = s.job ∧ (s.plainWrite p index sub data).time = s.time ∧
    (s.plainWrite p index sub data).motion = s.motion ∧ (s.plainWrite p index sub data).thermal = s.thermal ∧
    (s.plainWrite p index sub data).images = s.images ∧ (s.plainWrite p index sub data).tap = s.tap ∧
    (s.plainWrite p index sub data).fresh = s.fresh := by
  unfold State.plainWrite
  (repeat' split) <;> simp

@[simp] theorem frame_ownValue (s : State) (p : Path) (index sub : Nat) (data : List Byte) : (s.ownValue p index sub data).pending = s.pending ∧
    (s.ownValue p index sub data).deferred = s.deferred ∧ (s.ownValue p index sub data).dev = s.dev ∧
    (s.ownValue p index sub data).power = s.power ∧ (s.ownValue p index sub data).clk = s.clk ∧
    (s.ownValue p index sub data).fuses = s.fuses ∧ (s.ownValue p index sub data).regs = s.regs ∧
    (s.ownValue p index sub data).blobs = s.blobs ∧ (s.ownValue p index sub data).flash = s.flash ∧
    (s.ownValue p index sub data).leaves = s.leaves ∧ (s.ownValue p index sub data).recorder = s.recorder ∧
    (s.ownValue p index sub data).auth = s.auth ∧ (s.ownValue p index sub data).spi = s.spi ∧
    (s.ownValue p index sub data).ring = s.ring ∧ (s.ownValue p index sub data).ownWaiting = s.ownWaiting ∧
    (s.ownValue p index sub data).job = s.job ∧ (s.ownValue p index sub data).heads = s.heads ∧
    (s.ownValue p index sub data).sieve = s.sieve ∧ (s.ownValue p index sub data).engine = s.engine ∧
    (s.ownValue p index sub data).time = s.time ∧ (s.ownValue p index sub data).twin = s.twin ∧
    (s.ownValue p index sub data).motion = s.motion ∧ (s.ownValue p index sub data).dram = s.dram ∧
    (s.ownValue p index sub data).clocks = s.clocks ∧ (s.ownValue p index sub data).thermal = s.thermal ∧
    (s.ownValue p index sub data).images = s.images ∧ (s.ownValue p index sub data).tap = s.tap ∧
    (s.ownValue p index sub data).fresh = s.fresh := by
  unfold State.ownValue
  (repeat' split) <;> simp

@[simp] theorem frame_onOne_pending (s : State) (p : Path) (v : Nat) (o : State → Host.Outcome State Fault Refusal) (h : (nextState s o).pending = s.pending) : (s.onOne p v o).pending = s.pending := by
  unfold State.onOne
  split
  · exact h
  · simp
@[simp] theorem frame_onOne_deferred (s : State) (p : Path) (v : Nat) (o : State → Host.Outcome State Fault Refusal) (h : (nextState s o).deferred = s.deferred) : (s.onOne p v o).deferred = s.deferred := by
  unfold State.onOne
  split
  · exact h
  · simp
@[simp] theorem frame_onOne_dev (s : State) (p : Path) (v : Nat) (o : State → Host.Outcome State Fault Refusal) (h : (nextState s o).dev = s.dev) : (s.onOne p v o).dev = s.dev := by
  unfold State.onOne
  split
  · exact h
  · simp
@[simp] theorem frame_onOne_power (s : State) (p : Path) (v : Nat) (o : State → Host.Outcome State Fault Refusal) (h : (nextState s o).power = s.power) : (s.onOne p v o).power = s.power := by
  unfold State.onOne
  split
  · exact h
  · simp
@[simp] theorem frame_onOne_clk (s : State) (p : Path) (v : Nat) (o : State → Host.Outcome State Fault Refusal) (h : (nextState s o).clk = s.clk) : (s.onOne p v o).clk = s.clk := by
  unfold State.onOne
  split
  · exact h
  · simp
@[simp] theorem frame_onOne_fuses (s : State) (p : Path) (v : Nat) (o : State → Host.Outcome State Fault Refusal) (h : (nextState s o).fuses = s.fuses) : (s.onOne p v o).fuses = s.fuses := by
  unfold State.onOne
  split
  · exact h
  · simp
@[simp] theorem frame_onOne_regs (s : State) (p : Path) (v : Nat) (o : State → Host.Outcome State Fault Refusal) (h : (nextState s o).regs = s.regs) : (s.onOne p v o).regs = s.regs := by
  unfold State.onOne
  split
  · exact h
  · simp
@[simp] theorem frame_onOne_blobs (s : State) (p : Path) (v : Nat) (o : State → Host.Outcome State Fault Refusal) (h : (nextState s o).blobs = s.blobs) : (s.onOne p v o).blobs = s.blobs := by
  unfold State.onOne
  split
  · exact h
  · simp
@[simp] theorem frame_onOne_flash (s : State) (p : Path) (v : Nat) (o : State → Host.Outcome State Fault Refusal) (h : (nextState s o).flash = s.flash) : (s.onOne p v o).flash = s.flash := by
  unfold State.onOne
  split
  · exact h
  · simp
@[simp] theorem frame_onOne_leaves (s : State) (p : Path) (v : Nat) (o : State → Host.Outcome State Fault Refusal) (h : (nextState s o).leaves = s.leaves) : (s.onOne p v o).leaves = s.leaves := by
  unfold State.onOne
  split
  · exact h
  · simp
@[simp] theorem frame_onOne_recorder (s : State) (p : Path) (v : Nat) (o : State → Host.Outcome State Fault Refusal) (h : (nextState s o).recorder = s.recorder) : (s.onOne p v o).recorder = s.recorder := by
  unfold State.onOne
  split
  · exact h
  · simp
@[simp] theorem frame_onOne_sessions (s : State) (p : Path) (v : Nat) (o : State → Host.Outcome State Fault Refusal) (h : (nextState s o).sessions = s.sessions) : (s.onOne p v o).sessions = s.sessions := by
  unfold State.onOne
  split
  · exact h
  · simp
@[simp] theorem frame_onOne_auth (s : State) (p : Path) (v : Nat) (o : State → Host.Outcome State Fault Refusal) (h : (nextState s o).auth = s.auth) : (s.onOne p v o).auth = s.auth := by
  unfold State.onOne
  split
  · exact h
  · simp
@[simp] theorem frame_onOne_spi (s : State) (p : Path) (v : Nat) (o : State → Host.Outcome State Fault Refusal) (h : (nextState s o).spi = s.spi) : (s.onOne p v o).spi = s.spi := by
  unfold State.onOne
  split
  · exact h
  · simp
@[simp] theorem frame_onOne_ring (s : State) (p : Path) (v : Nat) (o : State → Host.Outcome State Fault Refusal) (h : (nextState s o).ring = s.ring) : (s.onOne p v o).ring = s.ring := by
  unfold State.onOne
  split
  · exact h
  · simp
@[simp] theorem frame_onOne_ownWaiting (s : State) (p : Path) (v : Nat) (o : State → Host.Outcome State Fault Refusal) (h : (nextState s o).ownWaiting = s.ownWaiting) : (s.onOne p v o).ownWaiting = s.ownWaiting := by
  unfold State.onOne
  split
  · exact h
  · simp
@[simp] theorem frame_onOne_job (s : State) (p : Path) (v : Nat) (o : State → Host.Outcome State Fault Refusal) (h : (nextState s o).job = s.job) : (s.onOne p v o).job = s.job := by
  unfold State.onOne
  split
  · exact h
  · simp
@[simp] theorem frame_onOne_heads (s : State) (p : Path) (v : Nat) (o : State → Host.Outcome State Fault Refusal) (h : (nextState s o).heads = s.heads) : (s.onOne p v o).heads = s.heads := by
  unfold State.onOne
  split
  · exact h
  · simp
@[simp] theorem frame_onOne_sieve (s : State) (p : Path) (v : Nat) (o : State → Host.Outcome State Fault Refusal) (h : (nextState s o).sieve = s.sieve) : (s.onOne p v o).sieve = s.sieve := by
  unfold State.onOne
  split
  · exact h
  · simp
@[simp] theorem frame_onOne_engine (s : State) (p : Path) (v : Nat) (o : State → Host.Outcome State Fault Refusal) (h : (nextState s o).engine = s.engine) : (s.onOne p v o).engine = s.engine := by
  unfold State.onOne
  split
  · exact h
  · simp
@[simp] theorem frame_onOne_time (s : State) (p : Path) (v : Nat) (o : State → Host.Outcome State Fault Refusal) (h : (nextState s o).time = s.time) : (s.onOne p v o).time = s.time := by
  unfold State.onOne
  split
  · exact h
  · simp
@[simp] theorem frame_onOne_twin (s : State) (p : Path) (v : Nat) (o : State → Host.Outcome State Fault Refusal) (h : (nextState s o).twin = s.twin) : (s.onOne p v o).twin = s.twin := by
  unfold State.onOne
  split
  · exact h
  · simp
@[simp] theorem frame_onOne_motion (s : State) (p : Path) (v : Nat) (o : State → Host.Outcome State Fault Refusal) (h : (nextState s o).motion = s.motion) : (s.onOne p v o).motion = s.motion := by
  unfold State.onOne
  split
  · exact h
  · simp
@[simp] theorem frame_onOne_dram (s : State) (p : Path) (v : Nat) (o : State → Host.Outcome State Fault Refusal) (h : (nextState s o).dram = s.dram) : (s.onOne p v o).dram = s.dram := by
  unfold State.onOne
  split
  · exact h
  · simp
@[simp] theorem frame_onOne_clocks (s : State) (p : Path) (v : Nat) (o : State → Host.Outcome State Fault Refusal) (h : (nextState s o).clocks = s.clocks) : (s.onOne p v o).clocks = s.clocks := by
  unfold State.onOne
  split
  · exact h
  · simp
@[simp] theorem frame_onOne_thermal (s : State) (p : Path) (v : Nat) (o : State → Host.Outcome State Fault Refusal) (h : (nextState s o).thermal = s.thermal) : (s.onOne p v o).thermal = s.thermal := by
  unfold State.onOne
  split
  · exact h
  · simp
@[simp] theorem frame_onOne_images (s : State) (p : Path) (v : Nat) (o : State → Host.Outcome State Fault Refusal) (h : (nextState s o).images = s.images) : (s.onOne p v o).images = s.images := by
  unfold State.onOne
  split
  · exact h
  · simp
@[simp] theorem frame_onOne_tap (s : State) (p : Path) (v : Nat) (o : State → Host.Outcome State Fault Refusal) (h : (nextState s o).tap = s.tap) : (s.onOne p v o).tap = s.tap := by
  unfold State.onOne
  split
  · exact h
  · simp
@[simp] theorem frame_onOne_fresh (s : State) (p : Path) (v : Nat) (o : State → Host.Outcome State Fault Refusal) (h : (nextState s o).fresh = s.fresh) : (s.onOne p v o).fresh = s.fresh := by
  unfold State.onOne
  split
  · exact h
  · simp

@[simp] theorem frame_writeComm_pending (s : State) (p : Path) (index sub v : Nat) (data : List Byte) (d0 : State) (h0 : d0.pending = s.pending) : ((s.writeComm p index sub v data).getD d0).pending = s.pending := by
  unfold State.writeComm
  (repeat' split) <;> simp_all
@[simp] theorem frame_writeComm_fuses (s : State) (p : Path) (index sub v : Nat) (data : List Byte) (d0 : State) (h0 : d0.fuses = s.fuses) : ((s.writeComm p index sub v data).getD d0).fuses = s.fuses := by
  unfold State.writeComm
  (repeat' split) <;> simp_all
@[simp] theorem frame_writeComm_spi (s : State) (p : Path) (index sub v : Nat) (data : List Byte) (d0 : State) (h0 : d0.spi = s.spi) : ((s.writeComm p index sub v data).getD d0).spi = s.spi := by
  unfold State.writeComm
  (repeat' split) <;> simp_all
@[simp] theorem frame_writeComm_thermal (s : State) (p : Path) (index sub v : Nat) (data : List Byte) (d0 : State) (h0 : d0.thermal = s.thermal) : ((s.writeComm p index sub v data).getD d0).thermal = s.thermal := by
  unfold State.writeComm
  (repeat' split) <;> simp_all
@[simp] theorem frame_writeComm_tap (s : State) (p : Path) (index sub v : Nat) (data : List Byte) (d0 : State) (h0 : d0.tap = s.tap) : ((s.writeComm p index sub v data).getD d0).tap = s.tap := by
  unfold State.writeComm
  (repeat' split) <;> simp_all
@[simp] theorem frame_writeComm_fresh (s : State) (p : Path) (index sub v : Nat) (data : List Byte) (d0 : State) (h0 : d0.fresh = s.fresh) : ((s.writeComm p index sub v data).getD d0).fresh = s.fresh := by
  unfold State.writeComm
  (repeat' split) <;> simp_all

@[simp] theorem frame_writeDevice_pending (s : State) (p : Path) (alone : Bool) (index sub v : Nat) (data : List Byte) (d0 : State) (h0 : d0.pending = s.pending) : ((s.writeDevice p alone index sub v data).getD d0).pending = s.pending := by
  unfold State.writeDevice
  (repeat' split) <;> simp_all
@[simp] theorem frame_writeDevice_fuses (s : State) (p : Path) (alone : Bool) (index sub v : Nat) (data : List Byte) (d0 : State) (h0 : d0.fuses = s.fuses) : ((s.writeDevice p alone index sub v data).getD d0).fuses = s.fuses := by
  unfold State.writeDevice
  (repeat' split) <;> simp_all
@[simp] theorem frame_writeDevice_thermal (s : State) (p : Path) (alone : Bool) (index sub v : Nat) (data : List Byte) (d0 : State) (h0 : d0.thermal = s.thermal) : ((s.writeDevice p alone index sub v data).getD d0).thermal = s.thermal := by
  unfold State.writeDevice
  (repeat' split) <;> simp_all
@[simp] theorem frame_writeDevice_tap (s : State) (p : Path) (alone : Bool) (index sub v : Nat) (data : List Byte) (d0 : State) (h0 : d0.tap = s.tap) : ((s.writeDevice p alone index sub v data).getD d0).tap = s.tap := by
  unfold State.writeDevice
  (repeat' split) <;> simp_all
@[simp] theorem frame_writeDevice_fresh (s : State) (p : Path) (alone : Bool) (index sub v : Nat) (data : List Byte) (d0 : State) (h0 : d0.fresh = s.fresh) : ((s.writeDevice p alone index sub v data).getD d0).fresh = s.fresh := by
  unfold State.writeDevice
  (repeat' split) <;> simp_all

@[simp] theorem frame_writeJob_pending (s : State) (p : Path) (index sub v : Nat) (data : List Byte) (d0 : State) (h0 : d0.pending = s.pending) : ((s.writeJob p index sub v data).getD d0).pending = s.pending := by
  unfold State.writeJob
  (repeat' split) <;> simp_all
@[simp] theorem frame_writeJob_fuses (s : State) (p : Path) (index sub v : Nat) (data : List Byte) (d0 : State) (h0 : d0.fuses = s.fuses) : ((s.writeJob p index sub v data).getD d0).fuses = s.fuses := by
  unfold State.writeJob
  (repeat' split) <;> simp_all
@[simp] theorem frame_writeJob_spi (s : State) (p : Path) (index sub v : Nat) (data : List Byte) (d0 : State) (h0 : d0.spi = s.spi) : ((s.writeJob p index sub v data).getD d0).spi = s.spi := by
  unfold State.writeJob
  (repeat' split) <;> simp_all
@[simp] theorem frame_writeJob_thermal (s : State) (p : Path) (index sub v : Nat) (data : List Byte) (d0 : State) (h0 : d0.thermal = s.thermal) : ((s.writeJob p index sub v data).getD d0).thermal = s.thermal := by
  unfold State.writeJob
  (repeat' split) <;> simp_all
@[simp] theorem frame_writeJob_tap (s : State) (p : Path) (index sub v : Nat) (data : List Byte) (d0 : State) (h0 : d0.tap = s.tap) : ((s.writeJob p index sub v data).getD d0).tap = s.tap := by
  unfold State.writeJob
  (repeat' split) <;> simp_all
@[simp] theorem frame_writeJob_fresh (s : State) (p : Path) (index sub v : Nat) (data : List Byte) (d0 : State) (h0 : d0.fresh = s.fresh) : ((s.writeJob p index sub v data).getD d0).fresh = s.fresh := by
  unfold State.writeJob
  (repeat' split) <;> simp_all

@[simp] theorem frame_stopHome (s : State) (p : Path) (m v : Nat) : (s.stopHome p m v).pending = s.pending ∧
    (s.stopHome p m v).dev = s.dev ∧ (s.stopHome p m v).power = s.power ∧ (s.stopHome p m v).clk = s.clk ∧
    (s.stopHome p m v).fuses = s.fuses ∧ (s.stopHome p m v).blobs = s.blobs ∧ (s.stopHome p m v).flash = s.flash ∧
    (s.stopHome p m v).recorder = s.recorder ∧ (s.stopHome p m v).auth = s.auth ∧ (s.stopHome p m v).spi = s.spi ∧
    (s.stopHome p m v).ring = s.ring ∧ (s.stopHome p m v).job = s.job ∧ (s.stopHome p m v).heads = s.heads ∧
    (s.stopHome p m v).sieve = s.sieve ∧ (s.stopHome p m v).engine = s.engine ∧ (s.stopHome p m v).time = s.time ∧
    (s.stopHome p m v).dram = s.dram ∧ (s.stopHome p m v).clocks = s.clocks ∧ (s.stopHome p m v).thermal = s.thermal ∧
    (s.stopHome p m v).images = s.images ∧ (s.stopHome p m v).tap = s.tap ∧ (s.stopHome p m v).fresh = s.fresh := by
  unfold State.stopHome
  (repeat' split) <;> simp

@[simp] theorem frame_writeMotion_pending (s : State) (p : Path) (index sub v : Nat) (data : List Byte) (d0 : State) (h0 : d0.pending = s.pending) : ((s.writeMotion p index sub v data).getD d0).pending = s.pending := by
  unfold State.writeMotion
  (repeat' split) <;> simp_all
@[simp] theorem frame_writeMotion_fuses (s : State) (p : Path) (index sub v : Nat) (data : List Byte) (d0 : State) (h0 : d0.fuses = s.fuses) : ((s.writeMotion p index sub v data).getD d0).fuses = s.fuses := by
  unfold State.writeMotion
  (repeat' split) <;> simp_all
@[simp] theorem frame_writeMotion_spi (s : State) (p : Path) (index sub v : Nat) (data : List Byte) (d0 : State) (h0 : d0.spi = s.spi) : ((s.writeMotion p index sub v data).getD d0).spi = s.spi := by
  unfold State.writeMotion
  (repeat' split) <;> simp_all
@[simp] theorem frame_writeMotion_thermal (s : State) (p : Path) (index sub v : Nat) (data : List Byte) (d0 : State) (h0 : d0.thermal = s.thermal) : ((s.writeMotion p index sub v data).getD d0).thermal = s.thermal := by
  unfold State.writeMotion
  (repeat' split) <;> simp_all
@[simp] theorem frame_writeMotion_tap (s : State) (p : Path) (index sub v : Nat) (data : List Byte) (d0 : State) (h0 : d0.tap = s.tap) : ((s.writeMotion p index sub v data).getD d0).tap = s.tap := by
  unfold State.writeMotion
  (repeat' split) <;> simp_all
@[simp] theorem frame_writeMotion_fresh (s : State) (p : Path) (index sub v : Nat) (data : List Byte) (d0 : State) (h0 : d0.fresh = s.fresh) : ((s.writeMotion p index sub v data).getD d0).fresh = s.fresh := by
  unfold State.writeMotion
  (repeat' split) <;> simp_all

@[simp] theorem frame_writeImages_pending (s : State) (p : Path) (index sub v : Nat) (data : List Byte) (d0 : State) (h0 : d0.pending = s.pending) : ((s.writeImages p index sub v data).getD d0).pending = s.pending := by
  unfold State.writeImages
  (repeat' split) <;> simp_all
@[simp] theorem frame_writeImages_fuses (s : State) (p : Path) (index sub v : Nat) (data : List Byte) (d0 : State) (h0 : d0.fuses = s.fuses) : ((s.writeImages p index sub v data).getD d0).fuses = s.fuses := by
  unfold State.writeImages
  (repeat' split) <;> simp_all
@[simp] theorem frame_writeImages_spi (s : State) (p : Path) (index sub v : Nat) (data : List Byte) (d0 : State) (h0 : d0.spi = s.spi) : ((s.writeImages p index sub v data).getD d0).spi = s.spi := by
  unfold State.writeImages
  (repeat' split) <;> simp_all
@[simp] theorem frame_writeImages_thermal (s : State) (p : Path) (index sub v : Nat) (data : List Byte) (d0 : State) (h0 : d0.thermal = s.thermal) : ((s.writeImages p index sub v data).getD d0).thermal = s.thermal := by
  unfold State.writeImages
  (repeat' split) <;> simp_all
@[simp] theorem frame_writeImages_tap (s : State) (p : Path) (index sub v : Nat) (data : List Byte) (d0 : State) (h0 : d0.tap = s.tap) : ((s.writeImages p index sub v data).getD d0).tap = s.tap := by
  unfold State.writeImages
  (repeat' split) <;> simp_all
@[simp] theorem frame_writeImages_fresh (s : State) (p : Path) (index sub v : Nat) (data : List Byte) (d0 : State) (h0 : d0.fresh = s.fresh) : ((s.writeImages p index sub v data).getD d0).fresh = s.fresh := by
  unfold State.writeImages
  (repeat' split) <;> simp_all

@[simp] theorem frame_applyWrite (s : State) (index sub : Nat) (data : List Byte) : (s.applyWrite index sub data).pending = s.pending ∧
    (s.applyWrite index sub data).deferred = s.deferred ∧ (s.applyWrite index sub data).dev = s.dev ∧
    (s.applyWrite index sub data).power = s.power ∧ (s.applyWrite index sub data).clk = s.clk ∧
    (s.applyWrite index sub data).fuses = s.fuses ∧ (s.applyWrite index sub data).flash = s.flash ∧
    (s.applyWrite index sub data).auth = s.auth ∧ (s.applyWrite index sub data).spi = s.spi ∧
    (s.applyWrite index sub data).ring = s.ring ∧ (s.applyWrite index sub data).motion = s.motion ∧
    (s.applyWrite index sub data).thermal = s.thermal ∧ (s.applyWrite index sub data).images = s.images ∧
    (s.applyWrite index sub data).tap = s.tap ∧ (s.applyWrite index sub data).fresh = s.fresh := by
  unfold State.applyWrite
  dsimp only
  (repeat' split) <;> simp

@[simp] theorem frame_obey (s : State) (request cause : Nat) : (s.obey request cause).pending = s.pending ∧
    (s.obey request cause).deferred = s.deferred ∧ (s.obey request cause).fuses = s.fuses ∧
    (s.obey request cause).clocks = s.clocks ∧ (s.obey request cause).thermal = s.thermal ∧
    (s.obey request cause).tap = s.tap ∧ (s.obey request cause).fresh = s.fresh := by
  unfold State.obey
  (repeat' split) <;> simp

@[simp] theorem frame_dueOrders (s : State) : (s.dueOrders).pending = s.pending ∧
    (s.dueOrders).deferred = s.deferred ∧ (s.dueOrders).fuses = s.fuses ∧ (s.dueOrders).clocks = s.clocks ∧
    (s.dueOrders).thermal = s.thermal ∧ (s.dueOrders).tap = s.tap ∧ (s.dueOrders).fresh = s.fresh := by
  unfold State.dueOrders
  (repeat' split) <;> simp

@[simp] theorem frame_goOnFrom (s : State) (h : HeadNo) (et : Tick) : (s.goOnFrom h et).pending = s.pending ∧
    (s.goOnFrom h et).deferred = s.deferred ∧ (s.goOnFrom h et).power = s.power ∧ (s.goOnFrom h et).clk = s.clk ∧
    (s.goOnFrom h et).fuses = s.fuses ∧ (s.goOnFrom h et).blobs = s.blobs ∧ (s.goOnFrom h et).flash = s.flash ∧
    (s.goOnFrom h et).auth = s.auth ∧ (s.goOnFrom h et).spi = s.spi ∧ (s.goOnFrom h et).ring = s.ring ∧
    (s.goOnFrom h et).sieve = s.sieve ∧ (s.goOnFrom h et).engine = s.engine ∧ (s.goOnFrom h et).time = s.time ∧
    (s.goOnFrom h et).motion = s.motion ∧ (s.goOnFrom h et).clocks = s.clocks ∧
    (s.goOnFrom h et).thermal = s.thermal ∧ (s.goOnFrom h et).images = s.images ∧ (s.goOnFrom h et).tap = s.tap ∧
    (s.goOnFrom h et).fresh = s.fresh := by
  unfold State.goOnFrom
  (repeat' split) <;> simp

@[simp] theorem frame_applyFactor (s : State) (o : Nat × HeadNo × Nat × Tick) : (s.applyFactor o).pending = s.pending ∧
    (s.applyFactor o).deferred = s.deferred ∧ (s.applyFactor o).power = s.power ∧ (s.applyFactor o).clk = s.clk ∧
    (s.applyFactor o).fuses = s.fuses ∧ (s.applyFactor o).blobs = s.blobs ∧ (s.applyFactor o).flash = s.flash ∧
    (s.applyFactor o).auth = s.auth ∧ (s.applyFactor o).spi = s.spi ∧ (s.applyFactor o).ring = s.ring ∧
    (s.applyFactor o).sieve = s.sieve ∧ (s.applyFactor o).engine = s.engine ∧ (s.applyFactor o).time = s.time ∧
    (s.applyFactor o).motion = s.motion ∧ (s.applyFactor o).clocks = s.clocks ∧
    (s.applyFactor o).thermal = s.thermal ∧ (s.applyFactor o).images = s.images ∧ (s.applyFactor o).tap = s.tap ∧
    (s.applyFactor o).fresh = s.fresh := by
  unfold State.applyFactor
  (repeat' split) <;> simp

@[simp] theorem frame_dueFactors (s : State) : (s.dueFactors).pending = s.pending ∧
    (s.dueFactors).deferred = s.deferred ∧ (s.dueFactors).power = s.power ∧ (s.dueFactors).clk = s.clk ∧
    (s.dueFactors).fuses = s.fuses ∧ (s.dueFactors).blobs = s.blobs ∧ (s.dueFactors).flash = s.flash ∧
    (s.dueFactors).auth = s.auth ∧ (s.dueFactors).spi = s.spi ∧ (s.dueFactors).ring = s.ring ∧
    (s.dueFactors).sieve = s.sieve ∧ (s.dueFactors).engine = s.engine ∧ (s.dueFactors).time = s.time ∧
    (s.dueFactors).motion = s.motion ∧ (s.dueFactors).clocks = s.clocks ∧ (s.dueFactors).thermal = s.thermal ∧
    (s.dueFactors).images = s.images ∧ (s.dueFactors).tap = s.tap ∧ (s.dueFactors).fresh = s.fresh := by
  unfold State.dueFactors
  (repeat' split) <;> simp

@[simp] theorem frame_dueEntries (s : State) : (s.dueEntries).pending = s.pending ∧
    (s.dueEntries).deferred = s.deferred ∧ (s.dueEntries).dev = s.dev ∧ (s.dueEntries).power = s.power ∧
    (s.dueEntries).clk = s.clk ∧ (s.dueEntries).fuses = s.fuses ∧ (s.dueEntries).blobs = s.blobs ∧
    (s.dueEntries).flash = s.flash ∧ (s.dueEntries).leaves = s.leaves ∧ (s.dueEntries).recorder = s.recorder ∧
    (s.dueEntries).sessions = s.sessions ∧ (s.dueEntries).auth = s.auth ∧ (s.dueEntries).spi = s.spi ∧
    (s.dueEntries).ring = s.ring ∧ (s.dueEntries).ownWaiting = s.ownWaiting ∧ (s.dueEntries).job = s.job ∧
    (s.dueEntries).sieve = s.sieve ∧ (s.dueEntries).engine = s.engine ∧ (s.dueEntries).time = s.time ∧
    (s.dueEntries).motion = s.motion ∧ (s.dueEntries).dram = s.dram ∧ (s.dueEntries).clocks = s.clocks ∧
    (s.dueEntries).thermal = s.thermal ∧ (s.dueEntries).images = s.images ∧ (s.dueEntries).tap = s.tap ∧
    (s.dueEntries).fresh = s.fresh := by
  unfold State.dueEntries
  (repeat' split) <;> simp

@[simp] theorem frame_askRepeat (s : State) (upTo : Nat) : (s.askRepeat upTo).pending = s.pending ∧
    (s.askRepeat upTo).deferred = s.deferred ∧ (s.askRepeat upTo).dev = s.dev ∧ (s.askRepeat upTo).power = s.power ∧
    (s.askRepeat upTo).clk = s.clk ∧ (s.askRepeat upTo).fuses = s.fuses ∧ (s.askRepeat upTo).regs = s.regs ∧
    (s.askRepeat upTo).blobs = s.blobs ∧ (s.askRepeat upTo).flash = s.flash ∧ (s.askRepeat upTo).leaves = s.leaves ∧
    (s.askRepeat upTo).recorder = s.recorder ∧ (s.askRepeat upTo).sessions = s.sessions ∧
    (s.askRepeat upTo).auth = s.auth ∧ (s.askRepeat upTo).spi = s.spi ∧ (s.askRepeat upTo).ring = s.ring ∧
    (s.askRepeat upTo).ownWaiting = s.ownWaiting ∧ (s.askRepeat upTo).job = s.job ∧
    (s.askRepeat upTo).heads = s.heads ∧ (s.askRepeat upTo).sieve = s.sieve ∧ (s.askRepeat upTo).engine = s.engine ∧
    (s.askRepeat upTo).time = s.time ∧ (s.askRepeat upTo).motion = s.motion ∧ (s.askRepeat upTo).dram = s.dram ∧
    (s.askRepeat upTo).clocks = s.clocks ∧ (s.askRepeat upTo).thermal = s.thermal ∧
    (s.askRepeat upTo).images = s.images ∧ (s.askRepeat upTo).tap = s.tap ∧ (s.askRepeat upTo).fresh = s.fresh := by
  unfold State.askRepeat
  (repeat' split) <;> simp

theorem frame_takeNumber_pending (s : State) (n : Nat) (t : State) (e : s.takeNumber n = some t) : t.pending = s.pending := by
  unfold State.takeNumber at e
  split at e
  · cases e
  · cases e
    simp <;> (repeat' split) <;> simp
theorem frame_takeNumber_deferred (s : State) (n : Nat) (t : State) (e : s.takeNumber n = some t) : t.deferred = s.deferred := by
  unfold State.takeNumber at e
  split at e
  · cases e
  · cases e
    simp <;> (repeat' split) <;> simp
theorem frame_takeNumber_dev (s : State) (n : Nat) (t : State) (e : s.takeNumber n = some t) : t.dev = s.dev := by
  unfold State.takeNumber at e
  split at e
  · cases e
  · cases e
    simp <;> (repeat' split) <;> simp
theorem frame_takeNumber_power (s : State) (n : Nat) (t : State) (e : s.takeNumber n = some t) : t.power = s.power := by
  unfold State.takeNumber at e
  split at e
  · cases e
  · cases e
    simp <;> (repeat' split) <;> simp
theorem frame_takeNumber_clk (s : State) (n : Nat) (t : State) (e : s.takeNumber n = some t) : t.clk = s.clk := by
  unfold State.takeNumber at e
  split at e
  · cases e
  · cases e
    simp <;> (repeat' split) <;> simp
theorem frame_takeNumber_fuses (s : State) (n : Nat) (t : State) (e : s.takeNumber n = some t) : t.fuses = s.fuses := by
  unfold State.takeNumber at e
  split at e
  · cases e
  · cases e
    simp <;> (repeat' split) <;> simp
theorem frame_takeNumber_blobs (s : State) (n : Nat) (t : State) (e : s.takeNumber n = some t) : t.blobs = s.blobs := by
  unfold State.takeNumber at e
  split at e
  · cases e
  · cases e
    simp <;> (repeat' split) <;> simp
theorem frame_takeNumber_flash (s : State) (n : Nat) (t : State) (e : s.takeNumber n = some t) : t.flash = s.flash := by
  unfold State.takeNumber at e
  split at e
  · cases e
  · cases e
    simp <;> (repeat' split) <;> simp
theorem frame_takeNumber_leaves (s : State) (n : Nat) (t : State) (e : s.takeNumber n = some t) : t.leaves = s.leaves := by
  unfold State.takeNumber at e
  split at e
  · cases e
  · cases e
    simp <;> (repeat' split) <;> simp
theorem frame_takeNumber_recorder (s : State) (n : Nat) (t : State) (e : s.takeNumber n = some t) : t.recorder = s.recorder := by
  unfold State.takeNumber at e
  split at e
  · cases e
  · cases e
    simp <;> (repeat' split) <;> simp
theorem frame_takeNumber_sessions (s : State) (n : Nat) (t : State) (e : s.takeNumber n = some t) : t.sessions = s.sessions := by
  unfold State.takeNumber at e
  split at e
  · cases e
  · cases e
    simp <;> (repeat' split) <;> simp
theorem frame_takeNumber_auth (s : State) (n : Nat) (t : State) (e : s.takeNumber n = some t) : t.auth = s.auth := by
  unfold State.takeNumber at e
  split at e
  · cases e
  · cases e
    simp <;> (repeat' split) <;> simp
theorem frame_takeNumber_spi (s : State) (n : Nat) (t : State) (e : s.takeNumber n = some t) : t.spi = s.spi := by
  unfold State.takeNumber at e
  split at e
  · cases e
  · cases e
    simp <;> (repeat' split) <;> simp
theorem frame_takeNumber_ring (s : State) (n : Nat) (t : State) (e : s.takeNumber n = some t) : t.ring = s.ring := by
  unfold State.takeNumber at e
  split at e
  · cases e
  · cases e
    simp <;> (repeat' split) <;> simp
theorem frame_takeNumber_ownWaiting (s : State) (n : Nat) (t : State) (e : s.takeNumber n = some t) : t.ownWaiting = s.ownWaiting := by
  unfold State.takeNumber at e
  split at e
  · cases e
  · cases e
    simp <;> (repeat' split) <;> simp
theorem frame_takeNumber_job (s : State) (n : Nat) (t : State) (e : s.takeNumber n = some t) : t.job = s.job := by
  unfold State.takeNumber at e
  split at e
  · cases e
  · cases e
    simp <;> (repeat' split) <;> simp
theorem frame_takeNumber_heads (s : State) (n : Nat) (t : State) (e : s.takeNumber n = some t) : t.heads = s.heads := by
  unfold State.takeNumber at e
  split at e
  · cases e
  · cases e
    simp <;> (repeat' split) <;> simp
theorem frame_takeNumber_sieve (s : State) (n : Nat) (t : State) (e : s.takeNumber n = some t) : t.sieve = s.sieve := by
  unfold State.takeNumber at e
  split at e
  · cases e
  · cases e
    simp <;> (repeat' split) <;> simp
theorem frame_takeNumber_engine (s : State) (n : Nat) (t : State) (e : s.takeNumber n = some t) : t.engine = s.engine := by
  unfold State.takeNumber at e
  split at e
  · cases e
  · cases e
    simp <;> (repeat' split) <;> simp
theorem frame_takeNumber_time (s : State) (n : Nat) (t : State) (e : s.takeNumber n = some t) : t.time = s.time := by
  unfold State.takeNumber at e
  split at e
  · cases e
  · cases e
    simp <;> (repeat' split) <;> simp
theorem frame_takeNumber_motion (s : State) (n : Nat) (t : State) (e : s.takeNumber n = some t) : t.motion = s.motion := by
  unfold State.takeNumber at e
  split at e
  · cases e
  · cases e
    simp <;> (repeat' split) <;> simp
theorem frame_takeNumber_dram (s : State) (n : Nat) (t : State) (e : s.takeNumber n = some t) : t.dram = s.dram := by
  unfold State.takeNumber at e
  split at e
  · cases e
  · cases e
    simp <;> (repeat' split) <;> simp
theorem frame_takeNumber_clocks (s : State) (n : Nat) (t : State) (e : s.takeNumber n = some t) : t.clocks = s.clocks := by
  unfold State.takeNumber at e
  split at e
  · cases e
  · cases e
    simp <;> (repeat' split) <;> simp
theorem frame_takeNumber_thermal (s : State) (n : Nat) (t : State) (e : s.takeNumber n = some t) : t.thermal = s.thermal := by
  unfold State.takeNumber at e
  split at e
  · cases e
  · cases e
    simp <;> (repeat' split) <;> simp
theorem frame_takeNumber_images (s : State) (n : Nat) (t : State) (e : s.takeNumber n = some t) : t.images = s.images := by
  unfold State.takeNumber at e
  split at e
  · cases e
  · cases e
    simp <;> (repeat' split) <;> simp
theorem frame_takeNumber_tap (s : State) (n : Nat) (t : State) (e : s.takeNumber n = some t) : t.tap = s.tap := by
  unfold State.takeNumber at e
  split at e
  · cases e
  · cases e
    simp <;> (repeat' split) <;> simp
theorem frame_takeNumber_fresh (s : State) (n : Nat) (t : State) (e : s.takeNumber n = some t) : t.fresh = s.fresh := by
  unfold State.takeNumber at e
  split at e
  · cases e
  · cases e
    simp <;> (repeat' split) <;> simp

@[simp] theorem frame_numbered_pending (s : State) (n : Nat) (g : State → State) (h : ∀ t, (g t).pending = t.pending) : (s.numbered n g).pending = s.pending := by
  unfold State.numbered
  split
  · rename_i t e
    rw [h, frame_takeNumber_pending s n t e]
  · rfl
@[simp] theorem frame_numbered_deferred (s : State) (n : Nat) (g : State → State) (h : ∀ t, (g t).deferred = t.deferred) : (s.numbered n g).deferred = s.deferred := by
  unfold State.numbered
  split
  · rename_i t e
    rw [h, frame_takeNumber_deferred s n t e]
  · rfl
@[simp] theorem frame_numbered_dev (s : State) (n : Nat) (g : State → State) (h : ∀ t, (g t).dev = t.dev) : (s.numbered n g).dev = s.dev := by
  unfold State.numbered
  split
  · rename_i t e
    rw [h, frame_takeNumber_dev s n t e]
  · rfl
@[simp] theorem frame_numbered_power (s : State) (n : Nat) (g : State → State) (h : ∀ t, (g t).power = t.power) : (s.numbered n g).power = s.power := by
  unfold State.numbered
  split
  · rename_i t e
    rw [h, frame_takeNumber_power s n t e]
  · rfl
@[simp] theorem frame_numbered_clk (s : State) (n : Nat) (g : State → State) (h : ∀ t, (g t).clk = t.clk) : (s.numbered n g).clk = s.clk := by
  unfold State.numbered
  split
  · rename_i t e
    rw [h, frame_takeNumber_clk s n t e]
  · rfl
@[simp] theorem frame_numbered_fuses (s : State) (n : Nat) (g : State → State) (h : ∀ t, (g t).fuses = t.fuses) : (s.numbered n g).fuses = s.fuses := by
  unfold State.numbered
  split
  · rename_i t e
    rw [h, frame_takeNumber_fuses s n t e]
  · rfl
@[simp] theorem frame_numbered_blobs (s : State) (n : Nat) (g : State → State) (h : ∀ t, (g t).blobs = t.blobs) : (s.numbered n g).blobs = s.blobs := by
  unfold State.numbered
  split
  · rename_i t e
    rw [h, frame_takeNumber_blobs s n t e]
  · rfl
@[simp] theorem frame_numbered_flash (s : State) (n : Nat) (g : State → State) (h : ∀ t, (g t).flash = t.flash) : (s.numbered n g).flash = s.flash := by
  unfold State.numbered
  split
  · rename_i t e
    rw [h, frame_takeNumber_flash s n t e]
  · rfl
@[simp] theorem frame_numbered_leaves (s : State) (n : Nat) (g : State → State) (h : ∀ t, (g t).leaves = t.leaves) : (s.numbered n g).leaves = s.leaves := by
  unfold State.numbered
  split
  · rename_i t e
    rw [h, frame_takeNumber_leaves s n t e]
  · rfl
@[simp] theorem frame_numbered_recorder (s : State) (n : Nat) (g : State → State) (h : ∀ t, (g t).recorder = t.recorder) : (s.numbered n g).recorder = s.recorder := by
  unfold State.numbered
  split
  · rename_i t e
    rw [h, frame_takeNumber_recorder s n t e]
  · rfl
@[simp] theorem frame_numbered_sessions (s : State) (n : Nat) (g : State → State) (h : ∀ t, (g t).sessions = t.sessions) : (s.numbered n g).sessions = s.sessions := by
  unfold State.numbered
  split
  · rename_i t e
    rw [h, frame_takeNumber_sessions s n t e]
  · rfl
@[simp] theorem frame_numbered_auth (s : State) (n : Nat) (g : State → State) (h : ∀ t, (g t).auth = t.auth) : (s.numbered n g).auth = s.auth := by
  unfold State.numbered
  split
  · rename_i t e
    rw [h, frame_takeNumber_auth s n t e]
  · rfl
@[simp] theorem frame_numbered_spi (s : State) (n : Nat) (g : State → State) (h : ∀ t, (g t).spi = t.spi) : (s.numbered n g).spi = s.spi := by
  unfold State.numbered
  split
  · rename_i t e
    rw [h, frame_takeNumber_spi s n t e]
  · rfl
@[simp] theorem frame_numbered_ring (s : State) (n : Nat) (g : State → State) (h : ∀ t, (g t).ring = t.ring) : (s.numbered n g).ring = s.ring := by
  unfold State.numbered
  split
  · rename_i t e
    rw [h, frame_takeNumber_ring s n t e]
  · rfl
@[simp] theorem frame_numbered_ownWaiting (s : State) (n : Nat) (g : State → State) (h : ∀ t, (g t).ownWaiting = t.ownWaiting) : (s.numbered n g).ownWaiting = s.ownWaiting := by
  unfold State.numbered
  split
  · rename_i t e
    rw [h, frame_takeNumber_ownWaiting s n t e]
  · rfl
@[simp] theorem frame_numbered_job (s : State) (n : Nat) (g : State → State) (h : ∀ t, (g t).job = t.job) : (s.numbered n g).job = s.job := by
  unfold State.numbered
  split
  · rename_i t e
    rw [h, frame_takeNumber_job s n t e]
  · rfl
@[simp] theorem frame_numbered_heads (s : State) (n : Nat) (g : State → State) (h : ∀ t, (g t).heads = t.heads) : (s.numbered n g).heads = s.heads := by
  unfold State.numbered
  split
  · rename_i t e
    rw [h, frame_takeNumber_heads s n t e]
  · rfl
@[simp] theorem frame_numbered_sieve (s : State) (n : Nat) (g : State → State) (h : ∀ t, (g t).sieve = t.sieve) : (s.numbered n g).sieve = s.sieve := by
  unfold State.numbered
  split
  · rename_i t e
    rw [h, frame_takeNumber_sieve s n t e]
  · rfl
@[simp] theorem frame_numbered_engine (s : State) (n : Nat) (g : State → State) (h : ∀ t, (g t).engine = t.engine) : (s.numbered n g).engine = s.engine := by
  unfold State.numbered
  split
  · rename_i t e
    rw [h, frame_takeNumber_engine s n t e]
  · rfl
@[simp] theorem frame_numbered_time (s : State) (n : Nat) (g : State → State) (h : ∀ t, (g t).time = t.time) : (s.numbered n g).time = s.time := by
  unfold State.numbered
  split
  · rename_i t e
    rw [h, frame_takeNumber_time s n t e]
  · rfl
@[simp] theorem frame_numbered_motion (s : State) (n : Nat) (g : State → State) (h : ∀ t, (g t).motion = t.motion) : (s.numbered n g).motion = s.motion := by
  unfold State.numbered
  split
  · rename_i t e
    rw [h, frame_takeNumber_motion s n t e]
  · rfl
@[simp] theorem frame_numbered_dram (s : State) (n : Nat) (g : State → State) (h : ∀ t, (g t).dram = t.dram) : (s.numbered n g).dram = s.dram := by
  unfold State.numbered
  split
  · rename_i t e
    rw [h, frame_takeNumber_dram s n t e]
  · rfl
@[simp] theorem frame_numbered_clocks (s : State) (n : Nat) (g : State → State) (h : ∀ t, (g t).clocks = t.clocks) : (s.numbered n g).clocks = s.clocks := by
  unfold State.numbered
  split
  · rename_i t e
    rw [h, frame_takeNumber_clocks s n t e]
  · rfl
@[simp] theorem frame_numbered_thermal (s : State) (n : Nat) (g : State → State) (h : ∀ t, (g t).thermal = t.thermal) : (s.numbered n g).thermal = s.thermal := by
  unfold State.numbered
  split
  · rename_i t e
    rw [h, frame_takeNumber_thermal s n t e]
  · rfl
@[simp] theorem frame_numbered_images (s : State) (n : Nat) (g : State → State) (h : ∀ t, (g t).images = t.images) : (s.numbered n g).images = s.images := by
  unfold State.numbered
  split
  · rename_i t e
    rw [h, frame_takeNumber_images s n t e]
  · rfl
@[simp] theorem frame_numbered_tap (s : State) (n : Nat) (g : State → State) (h : ∀ t, (g t).tap = t.tap) : (s.numbered n g).tap = s.tap := by
  unfold State.numbered
  split
  · rename_i t e
    rw [h, frame_takeNumber_tap s n t e]
  · rfl
@[simp] theorem frame_numbered_fresh (s : State) (n : Nat) (g : State → State) (h : ∀ t, (g t).fresh = t.fresh) : (s.numbered n g).fresh = s.fresh := by
  unfold State.numbered
  split
  · rename_i t e
    rw [h, frame_takeNumber_fresh s n t e]
  · rfl

@[simp] theorem frame_shadowing_pending (s : State) (n : Nat) (g : State → State) (h : ∀ t, (g t).pending = t.pending) : (s.shadowing n g).pending = s.pending := by
  unfold State.shadowing
  apply frame_numbered_pending
  intro t
  split
  · exact h t
  · rfl
@[simp] theorem frame_shadowing_deferred (s : State) (n : Nat) (g : State → State) (h : ∀ t, (g t).deferred = t.deferred) : (s.shadowing n g).deferred = s.deferred := by
  unfold State.shadowing
  apply frame_numbered_deferred
  intro t
  split
  · exact h t
  · rfl
@[simp] theorem frame_shadowing_dev (s : State) (n : Nat) (g : State → State) (h : ∀ t, (g t).dev = t.dev) : (s.shadowing n g).dev = s.dev := by
  unfold State.shadowing
  apply frame_numbered_dev
  intro t
  split
  · exact h t
  · rfl
@[simp] theorem frame_shadowing_power (s : State) (n : Nat) (g : State → State) (h : ∀ t, (g t).power = t.power) : (s.shadowing n g).power = s.power := by
  unfold State.shadowing
  apply frame_numbered_power
  intro t
  split
  · exact h t
  · rfl
@[simp] theorem frame_shadowing_clk (s : State) (n : Nat) (g : State → State) (h : ∀ t, (g t).clk = t.clk) : (s.shadowing n g).clk = s.clk := by
  unfold State.shadowing
  apply frame_numbered_clk
  intro t
  split
  · exact h t
  · rfl
@[simp] theorem frame_shadowing_fuses (s : State) (n : Nat) (g : State → State) (h : ∀ t, (g t).fuses = t.fuses) : (s.shadowing n g).fuses = s.fuses := by
  unfold State.shadowing
  apply frame_numbered_fuses
  intro t
  split
  · exact h t
  · rfl
@[simp] theorem frame_shadowing_blobs (s : State) (n : Nat) (g : State → State) (h : ∀ t, (g t).blobs = t.blobs) : (s.shadowing n g).blobs = s.blobs := by
  unfold State.shadowing
  apply frame_numbered_blobs
  intro t
  split
  · exact h t
  · rfl
@[simp] theorem frame_shadowing_flash (s : State) (n : Nat) (g : State → State) (h : ∀ t, (g t).flash = t.flash) : (s.shadowing n g).flash = s.flash := by
  unfold State.shadowing
  apply frame_numbered_flash
  intro t
  split
  · exact h t
  · rfl
@[simp] theorem frame_shadowing_leaves (s : State) (n : Nat) (g : State → State) (h : ∀ t, (g t).leaves = t.leaves) : (s.shadowing n g).leaves = s.leaves := by
  unfold State.shadowing
  apply frame_numbered_leaves
  intro t
  split
  · exact h t
  · rfl
@[simp] theorem frame_shadowing_recorder (s : State) (n : Nat) (g : State → State) (h : ∀ t, (g t).recorder = t.recorder) : (s.shadowing n g).recorder = s.recorder := by
  unfold State.shadowing
  apply frame_numbered_recorder
  intro t
  split
  · exact h t
  · rfl
@[simp] theorem frame_shadowing_sessions (s : State) (n : Nat) (g : State → State) (h : ∀ t, (g t).sessions = t.sessions) : (s.shadowing n g).sessions = s.sessions := by
  unfold State.shadowing
  apply frame_numbered_sessions
  intro t
  split
  · exact h t
  · rfl
@[simp] theorem frame_shadowing_auth (s : State) (n : Nat) (g : State → State) (h : ∀ t, (g t).auth = t.auth) : (s.shadowing n g).auth = s.auth := by
  unfold State.shadowing
  apply frame_numbered_auth
  intro t
  split
  · exact h t
  · rfl
@[simp] theorem frame_shadowing_spi (s : State) (n : Nat) (g : State → State) (h : ∀ t, (g t).spi = t.spi) : (s.shadowing n g).spi = s.spi := by
  unfold State.shadowing
  apply frame_numbered_spi
  intro t
  split
  · exact h t
  · rfl
@[simp] theorem frame_shadowing_ring (s : State) (n : Nat) (g : State → State) (h : ∀ t, (g t).ring = t.ring) : (s.shadowing n g).ring = s.ring := by
  unfold State.shadowing
  apply frame_numbered_ring
  intro t
  split
  · exact h t
  · rfl
@[simp] theorem frame_shadowing_ownWaiting (s : State) (n : Nat) (g : State → State) (h : ∀ t, (g t).ownWaiting = t.ownWaiting) : (s.shadowing n g).ownWaiting = s.ownWaiting := by
  unfold State.shadowing
  apply frame_numbered_ownWaiting
  intro t
  split
  · exact h t
  · rfl
@[simp] theorem frame_shadowing_job (s : State) (n : Nat) (g : State → State) (h : ∀ t, (g t).job = t.job) : (s.shadowing n g).job = s.job := by
  unfold State.shadowing
  apply frame_numbered_job
  intro t
  split
  · exact h t
  · rfl
@[simp] theorem frame_shadowing_heads (s : State) (n : Nat) (g : State → State) (h : ∀ t, (g t).heads = t.heads) : (s.shadowing n g).heads = s.heads := by
  unfold State.shadowing
  apply frame_numbered_heads
  intro t
  split
  · exact h t
  · rfl
@[simp] theorem frame_shadowing_sieve (s : State) (n : Nat) (g : State → State) (h : ∀ t, (g t).sieve = t.sieve) : (s.shadowing n g).sieve = s.sieve := by
  unfold State.shadowing
  apply frame_numbered_sieve
  intro t
  split
  · exact h t
  · rfl
@[simp] theorem frame_shadowing_engine (s : State) (n : Nat) (g : State → State) (h : ∀ t, (g t).engine = t.engine) : (s.shadowing n g).engine = s.engine := by
  unfold State.shadowing
  apply frame_numbered_engine
  intro t
  split
  · exact h t
  · rfl
@[simp] theorem frame_shadowing_time (s : State) (n : Nat) (g : State → State) (h : ∀ t, (g t).time = t.time) : (s.shadowing n g).time = s.time := by
  unfold State.shadowing
  apply frame_numbered_time
  intro t
  split
  · exact h t
  · rfl
@[simp] theorem frame_shadowing_motion (s : State) (n : Nat) (g : State → State) (h : ∀ t, (g t).motion = t.motion) : (s.shadowing n g).motion = s.motion := by
  unfold State.shadowing
  apply frame_numbered_motion
  intro t
  split
  · exact h t
  · rfl
@[simp] theorem frame_shadowing_dram (s : State) (n : Nat) (g : State → State) (h : ∀ t, (g t).dram = t.dram) : (s.shadowing n g).dram = s.dram := by
  unfold State.shadowing
  apply frame_numbered_dram
  intro t
  split
  · exact h t
  · rfl
@[simp] theorem frame_shadowing_clocks (s : State) (n : Nat) (g : State → State) (h : ∀ t, (g t).clocks = t.clocks) : (s.shadowing n g).clocks = s.clocks := by
  unfold State.shadowing
  apply frame_numbered_clocks
  intro t
  split
  · exact h t
  · rfl
@[simp] theorem frame_shadowing_thermal (s : State) (n : Nat) (g : State → State) (h : ∀ t, (g t).thermal = t.thermal) : (s.shadowing n g).thermal = s.thermal := by
  unfold State.shadowing
  apply frame_numbered_thermal
  intro t
  split
  · exact h t
  · rfl
@[simp] theorem frame_shadowing_images (s : State) (n : Nat) (g : State → State) (h : ∀ t, (g t).images = t.images) : (s.shadowing n g).images = s.images := by
  unfold State.shadowing
  apply frame_numbered_images
  intro t
  split
  · exact h t
  · rfl
@[simp] theorem frame_shadowing_tap (s : State) (n : Nat) (g : State → State) (h : ∀ t, (g t).tap = t.tap) : (s.shadowing n g).tap = s.tap := by
  unfold State.shadowing
  apply frame_numbered_tap
  intro t
  split
  · exact h t
  · rfl
@[simp] theorem frame_shadowing_fresh (s : State) (n : Nat) (g : State → State) (h : ∀ t, (g t).fresh = t.fresh) : (s.shadowing n g).fresh = s.fresh := by
  unfold State.shadowing
  apply frame_numbered_fresh
  intro t
  split
  · exact h t
  · rfl

@[simp] theorem frame_leadDecision (s : State) (g : Segment) : (s.leadDecision g).pending = s.pending ∧
    (s.leadDecision g).deferred = s.deferred ∧ (s.leadDecision g).dev = s.dev ∧ (s.leadDecision g).power = s.power ∧
    (s.leadDecision g).clk = s.clk ∧ (s.leadDecision g).fuses = s.fuses ∧ (s.leadDecision g).blobs = s.blobs ∧
    (s.leadDecision g).flash = s.flash ∧ (s.leadDecision g).recorder = s.recorder ∧ (s.leadDecision g).auth = s.auth ∧
    (s.leadDecision g).spi = s.spi ∧ (s.leadDecision g).ring = s.ring ∧ (s.leadDecision g).heads = s.heads ∧
    (s.leadDecision g).sieve = s.sieve ∧ (s.leadDecision g).engine = s.engine ∧ (s.leadDecision g).time = s.time ∧
    (s.leadDecision g).motion = s.motion ∧ (s.leadDecision g).clocks = s.clocks ∧
    (s.leadDecision g).thermal = s.thermal ∧ (s.leadDecision g).images = s.images ∧
    (s.leadDecision g).tap = s.tap := by
  unfold State.leadDecision
  (repeat' split) <;> simp

@[simp] theorem frame_applyWrites (s : State) : (s.applyWrites).pending = s.pending ∧
    (s.applyWrites).deferred = s.deferred ∧ (s.applyWrites).dev = s.dev ∧ (s.applyWrites).power = s.power ∧
    (s.applyWrites).clk = s.clk ∧ (s.applyWrites).fuses = s.fuses ∧ (s.applyWrites).flash = s.flash ∧
    (s.applyWrites).auth = s.auth ∧ (s.applyWrites).spi = s.spi ∧ (s.applyWrites).ring = s.ring ∧
    (s.applyWrites).motion = s.motion ∧ (s.applyWrites).thermal = s.thermal ∧ (s.applyWrites).images = s.images ∧
    (s.applyWrites).tap = s.tap ∧ (s.applyWrites).fresh = s.fresh := by
  unfold State.applyWrites
  (repeat' split) <;> simp

@[simp] theorem frame_compareOutcome (s : State) : (s.compareOutcome).pending = s.pending ∧
    (s.compareOutcome).deferred = s.deferred ∧ (s.compareOutcome).power = s.power ∧ (s.compareOutcome).clk = s.clk ∧
    (s.compareOutcome).fuses = s.fuses ∧ (s.compareOutcome).blobs = s.blobs ∧ (s.compareOutcome).flash = s.flash ∧
    (s.compareOutcome).auth = s.auth ∧ (s.compareOutcome).spi = s.spi ∧ (s.compareOutcome).ring = s.ring ∧
    (s.compareOutcome).sieve = s.sieve ∧ (s.compareOutcome).engine = s.engine ∧ (s.compareOutcome).time = s.time ∧
    (s.compareOutcome).motion = s.motion ∧ (s.compareOutcome).clocks = s.clocks ∧
    (s.compareOutcome).thermal = s.thermal ∧ (s.compareOutcome).images = s.images ∧ (s.compareOutcome).tap = s.tap ∧
    (s.compareOutcome).fresh = s.fresh := by
  unfold State.compareOutcome
  (repeat' split) <;> simp

@[simp] theorem frame_decideAs (s : State) (g : Segment) (tRef latency : Nat) : (s.decideAs g tRef latency).pending = s.pending ∧
    (s.decideAs g tRef latency).deferred = s.deferred ∧ (s.decideAs g tRef latency).power = s.power ∧
    (s.decideAs g tRef latency).clk = s.clk ∧ (s.decideAs g tRef latency).fuses = s.fuses ∧
    (s.decideAs g tRef latency).flash = s.flash ∧ (s.decideAs g tRef latency).auth = s.auth ∧
    (s.decideAs g tRef latency).spi = s.spi ∧ (s.decideAs g tRef latency).ring = s.ring ∧
    (s.decideAs g tRef latency).motion = s.motion ∧ (s.decideAs g tRef latency).thermal = s.thermal ∧
    (s.decideAs g tRef latency).images = s.images ∧ (s.decideAs g tRef latency).tap = s.tap := by
  unfold State.decideAs
  (repeat' split) <;> simp

@[simp] theorem frame_followDecision (s : State) : (s.followDecision).pending = s.pending ∧
    (s.followDecision).deferred = s.deferred ∧ (s.followDecision).power = s.power ∧ (s.followDecision).clk = s.clk ∧
    (s.followDecision).fuses = s.fuses ∧ (s.followDecision).flash = s.flash ∧ (s.followDecision).auth = s.auth ∧
    (s.followDecision).spi = s.spi ∧ (s.followDecision).ring = s.ring ∧ (s.followDecision).motion = s.motion ∧
    (s.followDecision).thermal = s.thermal ∧ (s.followDecision).images = s.images ∧
    (s.followDecision).tap = s.tap := by
  unfold State.followDecision
  dsimp only
  (repeat' split) <;> simp

@[simp] theorem frame_follow_pending (s : State) (n : Nat) (g : State → State) (h : ∀ t, (g t).pending = t.pending) : (s.follow n g).pending = s.pending := by
  unfold State.follow
  apply frame_shadowing_pending
  intro t
  simp [h]
@[simp] theorem frame_follow_deferred (s : State) (n : Nat) (g : State → State) (h : ∀ t, (g t).deferred = t.deferred) : (s.follow n g).deferred = s.deferred := by
  unfold State.follow
  apply frame_shadowing_deferred
  intro t
  simp [h]
@[simp] theorem frame_follow_power (s : State) (n : Nat) (g : State → State) (h : ∀ t, (g t).power = t.power) : (s.follow n g).power = s.power := by
  unfold State.follow
  apply frame_shadowing_power
  intro t
  simp [h]
@[simp] theorem frame_follow_clk (s : State) (n : Nat) (g : State → State) (h : ∀ t, (g t).clk = t.clk) : (s.follow n g).clk = s.clk := by
  unfold State.follow
  apply frame_shadowing_clk
  intro t
  simp [h]
@[simp] theorem frame_follow_fuses (s : State) (n : Nat) (g : State → State) (h : ∀ t, (g t).fuses = t.fuses) : (s.follow n g).fuses = s.fuses := by
  unfold State.follow
  apply frame_shadowing_fuses
  intro t
  simp [h]
@[simp] theorem frame_follow_flash (s : State) (n : Nat) (g : State → State) (h : ∀ t, (g t).flash = t.flash) : (s.follow n g).flash = s.flash := by
  unfold State.follow
  apply frame_shadowing_flash
  intro t
  simp [h]
@[simp] theorem frame_follow_auth (s : State) (n : Nat) (g : State → State) (h : ∀ t, (g t).auth = t.auth) : (s.follow n g).auth = s.auth := by
  unfold State.follow
  apply frame_shadowing_auth
  intro t
  simp [h]
@[simp] theorem frame_follow_spi (s : State) (n : Nat) (g : State → State) (h : ∀ t, (g t).spi = t.spi) : (s.follow n g).spi = s.spi := by
  unfold State.follow
  apply frame_shadowing_spi
  intro t
  simp [h]
@[simp] theorem frame_follow_ring (s : State) (n : Nat) (g : State → State) (h : ∀ t, (g t).ring = t.ring) : (s.follow n g).ring = s.ring := by
  unfold State.follow
  apply frame_shadowing_ring
  intro t
  simp [h]
@[simp] theorem frame_follow_motion (s : State) (n : Nat) (g : State → State) (h : ∀ t, (g t).motion = t.motion) : (s.follow n g).motion = s.motion := by
  unfold State.follow
  apply frame_shadowing_motion
  intro t
  simp [h]
@[simp] theorem frame_follow_thermal (s : State) (n : Nat) (g : State → State) (h : ∀ t, (g t).thermal = t.thermal) : (s.follow n g).thermal = s.thermal := by
  unfold State.follow
  apply frame_shadowing_thermal
  intro t
  simp [h]
@[simp] theorem frame_follow_images (s : State) (n : Nat) (g : State → State) (h : ∀ t, (g t).images = t.images) : (s.follow n g).images = s.images := by
  unfold State.follow
  apply frame_shadowing_images
  intro t
  simp [h]
@[simp] theorem frame_follow_tap (s : State) (n : Nat) (g : State → State) (h : ∀ t, (g t).tap = t.tap) : (s.follow n g).tap = s.tap := by
  unfold State.follow
  apply frame_shadowing_tap
  intro t
  simp [h]

@[simp] theorem frame_beat (s : State) : (s.beat).pending = s.pending ∧ (s.beat).deferred = s.deferred ∧
    (s.beat).dev = s.dev ∧ (s.beat).power = s.power ∧ (s.beat).clk = s.clk ∧ (s.beat).fuses = s.fuses ∧
    (s.beat).regs = s.regs ∧ (s.beat).blobs = s.blobs ∧ (s.beat).flash = s.flash ∧ (s.beat).leaves = s.leaves ∧
    (s.beat).recorder = s.recorder ∧ (s.beat).sessions = s.sessions ∧ (s.beat).auth = s.auth ∧ (s.beat).spi = s.spi ∧
    (s.beat).ring = s.ring ∧ (s.beat).ownWaiting = s.ownWaiting ∧ (s.beat).job = s.job ∧ (s.beat).heads = s.heads ∧
    (s.beat).sieve = s.sieve ∧ (s.beat).engine = s.engine ∧ (s.beat).time = s.time ∧ (s.beat).motion = s.motion ∧
    (s.beat).dram = s.dram ∧ (s.beat).clocks = s.clocks ∧ (s.beat).thermal = s.thermal ∧ (s.beat).images = s.images ∧
    (s.beat).tap = s.tap ∧ (s.beat).fresh = s.fresh := by
  unfold State.beat
  (repeat' split) <;> simp

@[simp] theorem frame_countMissed (s : State) (n : Nat) : (s.countMissed n).pending = s.pending ∧
    (s.countMissed n).deferred = s.deferred ∧ (s.countMissed n).dev = s.dev ∧ (s.countMissed n).power = s.power ∧
    (s.countMissed n).clk = s.clk ∧ (s.countMissed n).fuses = s.fuses ∧ (s.countMissed n).blobs = s.blobs ∧
    (s.countMissed n).flash = s.flash ∧ (s.countMissed n).recorder = s.recorder ∧ (s.countMissed n).auth = s.auth ∧
    (s.countMissed n).spi = s.spi ∧ (s.countMissed n).ring = s.ring ∧ (s.countMissed n).job = s.job ∧
    (s.countMissed n).heads = s.heads ∧ (s.countMissed n).sieve = s.sieve ∧ (s.countMissed n).engine = s.engine ∧
    (s.countMissed n).time = s.time ∧ (s.countMissed n).motion = s.motion ∧ (s.countMissed n).dram = s.dram ∧
    (s.countMissed n).clocks = s.clocks ∧ (s.countMissed n).thermal = s.thermal ∧
    (s.countMissed n).images = s.images ∧ (s.countMissed n).tap = s.tap ∧ (s.countMissed n).fresh = s.fresh := by
  unfold State.countMissed
  (repeat' split) <;> simp

@[simp] theorem frame_limitAcks (s : State) (role : Role) (held : Nat) : (s.limitAcks role held).pending = s.pending ∧
    (s.limitAcks role held).deferred = s.deferred ∧ (s.limitAcks role held).dev = s.dev ∧
    (s.limitAcks role held).power = s.power ∧ (s.limitAcks role held).clk = s.clk ∧
    (s.limitAcks role held).fuses = s.fuses ∧ (s.limitAcks role held).regs = s.regs ∧
    (s.limitAcks role held).blobs = s.blobs ∧ (s.limitAcks role held).flash = s.flash ∧
    (s.limitAcks role held).leaves = s.leaves ∧ (s.limitAcks role held).recorder = s.recorder ∧
    (s.limitAcks role held).auth = s.auth ∧ (s.limitAcks role held).spi = s.spi ∧
    (s.limitAcks role held).ring = s.ring ∧ (s.limitAcks role held).ownWaiting = s.ownWaiting ∧
    (s.limitAcks role held).out = s.out ∧ (s.limitAcks role held).job = s.job ∧
    (s.limitAcks role held).heads = s.heads ∧ (s.limitAcks role held).sieve = s.sieve ∧
    (s.limitAcks role held).engine = s.engine ∧ (s.limitAcks role held).time = s.time ∧
    (s.limitAcks role held).twin = s.twin ∧ (s.limitAcks role held).motion = s.motion ∧
    (s.limitAcks role held).dram = s.dram ∧ (s.limitAcks role held).clocks = s.clocks ∧
    (s.limitAcks role held).thermal = s.thermal ∧ (s.limitAcks role held).images = s.images ∧
    (s.limitAcks role held).tap = s.tap ∧ (s.limitAcks role held).fresh = s.fresh := by
  unfold State.limitAcks
  (repeat' split) <;> simp

@[simp] theorem frame_hear (s : State) (sendEt role state epoch nextSeq held : Nat) : (s.hear sendEt role state epoch nextSeq held).pending = s.pending ∧
    (s.hear sendEt role state epoch nextSeq held).deferred = s.deferred ∧
    (s.hear sendEt role state epoch nextSeq held).power = s.power ∧
    (s.hear sendEt role state epoch nextSeq held).clk = s.clk ∧
    (s.hear sendEt role state epoch nextSeq held).fuses = s.fuses ∧
    (s.hear sendEt role state epoch nextSeq held).blobs = s.blobs ∧
    (s.hear sendEt role state epoch nextSeq held).flash = s.flash ∧
    (s.hear sendEt role state epoch nextSeq held).auth = s.auth ∧
    (s.hear sendEt role state epoch nextSeq held).spi = s.spi ∧
    (s.hear sendEt role state epoch nextSeq held).ring = s.ring ∧
    (s.hear sendEt role state epoch nextSeq held).sieve = s.sieve ∧
    (s.hear sendEt role state epoch nextSeq held).engine = s.engine ∧
    (s.hear sendEt role state epoch nextSeq held).time = s.time ∧
    (s.hear sendEt role state epoch nextSeq held).motion = s.motion ∧
    (s.hear sendEt role state epoch nextSeq held).clocks = s.clocks ∧
    (s.hear sendEt role state epoch nextSeq held).thermal = s.thermal ∧
    (s.hear sendEt role state epoch nextSeq held).images = s.images ∧
    (s.hear sendEt role state epoch nextSeq held).tap = s.tap ∧
    (s.hear sendEt role state epoch nextSeq held).fresh = s.fresh := by
  unfold State.hear
  (repeat' split) <;> simp

@[simp] theorem frame_adopt (s : State) (r : LedgerRow) : (s.adopt r).pending = s.pending ∧
    (s.adopt r).deferred = s.deferred ∧ (s.adopt r).dev = s.dev ∧ (s.adopt r).power = s.power ∧
    (s.adopt r).clk = s.clk ∧ (s.adopt r).fuses = s.fuses ∧ (s.adopt r).regs = s.regs ∧ (s.adopt r).blobs = s.blobs ∧
    (s.adopt r).flash = s.flash ∧ (s.adopt r).leaves = s.leaves ∧ (s.adopt r).recorder = s.recorder ∧
    (s.adopt r).sessions = s.sessions ∧ (s.adopt r).auth = s.auth ∧ (s.adopt r).spi = s.spi ∧
    (s.adopt r).ring = s.ring ∧ (s.adopt r).ownWaiting = s.ownWaiting ∧ (s.adopt r).out = s.out ∧
    (s.adopt r).heads = s.heads ∧ (s.adopt r).sieve = s.sieve ∧ (s.adopt r).engine = s.engine ∧
    (s.adopt r).time = s.time ∧ (s.adopt r).twin = s.twin ∧ (s.adopt r).motion = s.motion ∧
    (s.adopt r).dram = s.dram ∧ (s.adopt r).clocks = s.clocks ∧ (s.adopt r).thermal = s.thermal ∧
    (s.adopt r).images = s.images ∧ (s.adopt r).tap = s.tap ∧ (s.adopt r).fresh = s.fresh := by
  unfold State.adopt
  (repeat' split) <;> simp

@[simp] theorem frame_resume (s : State) : (s.resume).pending = s.pending ∧ (s.resume).deferred = s.deferred ∧
    (s.resume).dev = s.dev ∧ (s.resume).power = s.power ∧ (s.resume).clk = s.clk ∧ (s.resume).fuses = s.fuses ∧
    (s.resume).regs = s.regs ∧ (s.resume).blobs = s.blobs ∧ (s.resume).flash = s.flash ∧
    (s.resume).leaves = s.leaves ∧ (s.resume).recorder = s.recorder ∧ (s.resume).auth = s.auth ∧
    (s.resume).spi = s.spi ∧ (s.resume).ring = s.ring ∧ (s.resume).job = s.job ∧ (s.resume).heads = s.heads ∧
    (s.resume).sieve = s.sieve ∧ (s.resume).engine = s.engine ∧ (s.resume).time = s.time ∧
    (s.resume).motion = s.motion ∧ (s.resume).dram = s.dram ∧ (s.resume).clocks = s.clocks ∧
    (s.resume).thermal = s.thermal ∧ (s.resume).images = s.images ∧ (s.resume).tap = s.tap ∧
    (s.resume).fresh = s.fresh := by
  unfold State.resume
  (repeat' split) <;> simp

@[simp] theorem frame_takeOver (s : State) : (s.takeOver).pending = s.pending ∧ (s.takeOver).deferred = s.deferred ∧
    (s.takeOver).dev = s.dev ∧ (s.takeOver).power = s.power ∧ (s.takeOver).clk = s.clk ∧
    (s.takeOver).fuses = s.fuses ∧ (s.takeOver).flash = s.flash ∧ (s.takeOver).auth = s.auth ∧
    (s.takeOver).spi = s.spi ∧ (s.takeOver).ring = s.ring ∧ (s.takeOver).motion = s.motion ∧
    (s.takeOver).thermal = s.thermal ∧ (s.takeOver).images = s.images ∧ (s.takeOver).tap = s.tap ∧
    (s.takeOver).fresh = s.fresh := by
  unfold State.takeOver
  (repeat' split) <;> simp

@[simp] theorem frame_cutSent (s : State) (key h mask : Nat) (onset : Tick) : (s.cutSent key h mask onset).pending = s.pending ∧
    (s.cutSent key h mask onset).deferred = s.deferred ∧ (s.cutSent key h mask onset).dev = s.dev ∧
    (s.cutSent key h mask onset).power = s.power ∧ (s.cutSent key h mask onset).clk = s.clk ∧
    (s.cutSent key h mask onset).fuses = s.fuses ∧ (s.cutSent key h mask onset).regs = s.regs ∧
    (s.cutSent key h mask onset).blobs = s.blobs ∧ (s.cutSent key h mask onset).flash = s.flash ∧
    (s.cutSent key h mask onset).leaves = s.leaves ∧ (s.cutSent key h mask onset).recorder = s.recorder ∧
    (s.cutSent key h mask onset).sessions = s.sessions ∧ (s.cutSent key h mask onset).auth = s.auth ∧
    (s.cutSent key h mask onset).spi = s.spi ∧ (s.cutSent key h mask onset).ring = s.ring ∧
    (s.cutSent key h mask onset).ownWaiting = s.ownWaiting ∧ (s.cutSent key h mask onset).out = s.out ∧
    (s.cutSent key h mask onset).sieve = s.sieve ∧ (s.cutSent key h mask onset).engine = s.engine ∧
    (s.cutSent key h mask onset).time = s.time ∧ (s.cutSent key h mask onset).twin = s.twin ∧
    (s.cutSent key h mask onset).motion = s.motion ∧ (s.cutSent key h mask onset).dram = s.dram ∧
    (s.cutSent key h mask onset).clocks = s.clocks ∧ (s.cutSent key h mask onset).thermal = s.thermal ∧
    (s.cutSent key h mask onset).images = s.images ∧ (s.cutSent key h mask onset).tap = s.tap ∧
    (s.cutSent key h mask onset).fresh = s.fresh := by
  unfold State.cutSent
  (repeat' split) <;> simp

@[simp] theorem frame_applyCut (s : State) (g : Segment) (h cause mask : Nat) (onset : Tick) : (s.applyCut g h cause mask onset).pending = s.pending ∧
    (s.applyCut g h cause mask onset).deferred = s.deferred ∧ (s.applyCut g h cause mask onset).dev = s.dev ∧
    (s.applyCut g h cause mask onset).power = s.power ∧ (s.applyCut g h cause mask onset).clk = s.clk ∧
    (s.applyCut g h cause mask onset).fuses = s.fuses ∧ (s.applyCut g h cause mask onset).blobs = s.blobs ∧
    (s.applyCut g h cause mask onset).flash = s.flash ∧ (s.applyCut g h cause mask onset).auth = s.auth ∧
    (s.applyCut g h cause mask onset).spi = s.spi ∧ (s.applyCut g h cause mask onset).ring = s.ring ∧
    (s.applyCut g h cause mask onset).sieve = s.sieve ∧ (s.applyCut g h cause mask onset).engine = s.engine ∧
    (s.applyCut g h cause mask onset).time = s.time ∧ (s.applyCut g h cause mask onset).motion = s.motion ∧
    (s.applyCut g h cause mask onset).clocks = s.clocks ∧ (s.applyCut g h cause mask onset).thermal = s.thermal ∧
    (s.applyCut g h cause mask onset).images = s.images ∧ (s.applyCut g h cause mask onset).tap = s.tap := by
  unfold State.applyCut
  (repeat' split) <;> simp

@[simp] theorem frame_holdCopy (s : State) (f : TreyxFrame) : (s.holdCopy f).pending = s.pending ∧
    (s.holdCopy f).deferred = s.deferred ∧ (s.holdCopy f).dev = s.dev ∧ (s.holdCopy f).power = s.power ∧
    (s.holdCopy f).clk = s.clk ∧ (s.holdCopy f).fuses = s.fuses ∧ (s.holdCopy f).blobs = s.blobs ∧
    (s.holdCopy f).flash = s.flash ∧ (s.holdCopy f).leaves = s.leaves ∧ (s.holdCopy f).recorder = s.recorder ∧
    (s.holdCopy f).auth = s.auth ∧ (s.holdCopy f).spi = s.spi ∧ (s.holdCopy f).ring = s.ring ∧
    (s.holdCopy f).ownWaiting = s.ownWaiting ∧ (s.holdCopy f).out = s.out ∧ (s.holdCopy f).heads = s.heads ∧
    (s.holdCopy f).sieve = s.sieve ∧ (s.holdCopy f).engine = s.engine ∧ (s.holdCopy f).time = s.time ∧
    (s.holdCopy f).motion = s.motion ∧ (s.holdCopy f).dram = s.dram ∧ (s.holdCopy f).clocks = s.clocks ∧
    (s.holdCopy f).thermal = s.thermal ∧ (s.holdCopy f).images = s.images ∧ (s.holdCopy f).tap = s.tap ∧
    (s.holdCopy f).fresh = s.fresh := by
  unfold State.holdCopy
  (repeat' split) <;> simp

@[simp] theorem frame_keepLedger (s : State) (et : Tick) (id channel : Nat) (t : Tally) : (s.keepLedger et id channel t).pending = s.pending ∧
    (s.keepLedger et id channel t).deferred = s.deferred ∧ (s.keepLedger et id channel t).dev = s.dev ∧
    (s.keepLedger et id channel t).power = s.power ∧ (s.keepLedger et id channel t).clk = s.clk ∧
    (s.keepLedger et id channel t).fuses = s.fuses ∧ (s.keepLedger et id channel t).regs = s.regs ∧
    (s.keepLedger et id channel t).blobs = s.blobs ∧ (s.keepLedger et id channel t).flash = s.flash ∧
    (s.keepLedger et id channel t).leaves = s.leaves ∧ (s.keepLedger et id channel t).recorder = s.recorder ∧
    (s.keepLedger et id channel t).sessions = s.sessions ∧ (s.keepLedger et id channel t).auth = s.auth ∧
    (s.keepLedger et id channel t).spi = s.spi ∧ (s.keepLedger et id channel t).ring = s.ring ∧
    (s.keepLedger et id channel t).ownWaiting = s.ownWaiting ∧ (s.keepLedger et id channel t).out = s.out ∧
    (s.keepLedger et id channel t).job = s.job ∧ (s.keepLedger et id channel t).heads = s.heads ∧
    (s.keepLedger et id channel t).sieve = s.sieve ∧ (s.keepLedger et id channel t).engine = s.engine ∧
    (s.keepLedger et id channel t).time = s.time ∧ (s.keepLedger et id channel t).motion = s.motion ∧
    (s.keepLedger et id channel t).dram = s.dram ∧ (s.keepLedger et id channel t).clocks = s.clocks ∧
    (s.keepLedger et id channel t).thermal = s.thermal ∧ (s.keepLedger et id channel t).images = s.images ∧
    (s.keepLedger et id channel t).tap = s.tap ∧ (s.keepLedger et id channel t).fresh = s.fresh := by
  unfold State.keepLedger
  (repeat' split) <;> simp

@[simp] theorem frame_takeMotion (s : State) (count : Int) (layer : Nat) : (s.takeMotion count layer).pending = s.pending ∧
    (s.takeMotion count layer).deferred = s.deferred ∧ (s.takeMotion count layer).dev = s.dev ∧
    (s.takeMotion count layer).power = s.power ∧ (s.takeMotion count layer).clk = s.clk ∧
    (s.takeMotion count layer).fuses = s.fuses ∧ (s.takeMotion count layer).blobs = s.blobs ∧
    (s.takeMotion count layer).flash = s.flash ∧ (s.takeMotion count layer).leaves = s.leaves ∧
    (s.takeMotion count layer).recorder = s.recorder ∧ (s.takeMotion count layer).auth = s.auth ∧
    (s.takeMotion count layer).spi = s.spi ∧ (s.takeMotion count layer).ring = s.ring ∧
    (s.takeMotion count layer).sieve = s.sieve ∧ (s.takeMotion count layer).engine = s.engine ∧
    (s.takeMotion count layer).time = s.time ∧ (s.takeMotion count layer).motion = s.motion ∧
    (s.takeMotion count layer).clocks = s.clocks ∧ (s.takeMotion count layer).thermal = s.thermal ∧
    (s.takeMotion count layer).images = s.images ∧ (s.takeMotion count layer).tap = s.tap ∧
    (s.takeMotion count layer).fresh = s.fresh := by
  unfold State.takeMotion
  (repeat' split) <;> simp

@[simp] theorem frame_repeatMessages (s : State) (first count : Nat) : (s.repeatMessages first count).pending = s.pending ∧
    (s.repeatMessages first count).deferred = s.deferred ∧ (s.repeatMessages first count).dev = s.dev ∧
    (s.repeatMessages first count).power = s.power ∧ (s.repeatMessages first count).clk = s.clk ∧
    (s.repeatMessages first count).fuses = s.fuses ∧ (s.repeatMessages first count).blobs = s.blobs ∧
    (s.repeatMessages first count).flash = s.flash ∧ (s.repeatMessages first count).leaves = s.leaves ∧
    (s.repeatMessages first count).recorder = s.recorder ∧ (s.repeatMessages first count).sessions = s.sessions ∧
    (s.repeatMessages first count).auth = s.auth ∧ (s.repeatMessages first count).spi = s.spi ∧
    (s.repeatMessages first count).ring = s.ring ∧ (s.repeatMessages first count).ownWaiting = s.ownWaiting ∧
    (s.repeatMessages first count).job = s.job ∧ (s.repeatMessages first count).heads = s.heads ∧
    (s.repeatMessages first count).sieve = s.sieve ∧ (s.repeatMessages first count).engine = s.engine ∧
    (s.repeatMessages first count).time = s.time ∧ (s.repeatMessages first count).twin = s.twin ∧
    (s.repeatMessages first count).motion = s.motion ∧ (s.repeatMessages first count).dram = s.dram ∧
    (s.repeatMessages first count).clocks = s.clocks ∧ (s.repeatMessages first count).thermal = s.thermal ∧
    (s.repeatMessages first count).images = s.images ∧ (s.repeatMessages first count).tap = s.tap ∧
    (s.repeatMessages first count).fresh = s.fresh := by
  unfold State.repeatMessages
  (repeat' split) <;> simp

@[simp] theorem frame_moveEts (s : State) (m : Int) : (s.moveEts m).pending = s.pending ∧
    (s.moveEts m).deferred = s.deferred ∧ (s.moveEts m).dev = s.dev ∧ (s.moveEts m).power = s.power ∧
    (s.moveEts m).fuses = s.fuses ∧ (s.moveEts m).regs = s.regs ∧ (s.moveEts m).blobs = s.blobs ∧
    (s.moveEts m).flash = s.flash ∧ (s.moveEts m).leaves = s.leaves ∧ (s.moveEts m).recorder = s.recorder ∧
    (s.moveEts m).sessions = s.sessions ∧ (s.moveEts m).auth = s.auth ∧ (s.moveEts m).spi = s.spi ∧
    (s.moveEts m).ownWaiting = s.ownWaiting ∧ (s.moveEts m).out = s.out ∧ (s.moveEts m).job = s.job ∧
    (s.moveEts m).twin = s.twin ∧ (s.moveEts m).thermal = s.thermal ∧ (s.moveEts m).images = s.images ∧
    (s.moveEts m).tap = s.tap ∧ (s.moveEts m).fresh = s.fresh := by
  unfold State.moveEts
  (repeat' split) <;> simp

@[simp] theorem frame_takeRole (s : State) (r : Role) : (s.takeRole r).pending = s.pending ∧
    (s.takeRole r).deferred = s.deferred ∧ (s.takeRole r).dev = s.dev ∧ (s.takeRole r).power = s.power ∧
    (s.takeRole r).clk = s.clk ∧ (s.takeRole r).fuses = s.fuses ∧ (s.takeRole r).regs = s.regs ∧
    (s.takeRole r).blobs = s.blobs ∧ (s.takeRole r).flash = s.flash ∧ (s.takeRole r).leaves = s.leaves ∧
    (s.takeRole r).recorder = s.recorder ∧ (s.takeRole r).sessions = s.sessions ∧ (s.takeRole r).auth = s.auth ∧
    (s.takeRole r).spi = s.spi ∧ (s.takeRole r).ring = s.ring ∧ (s.takeRole r).ownWaiting = s.ownWaiting ∧
    (s.takeRole r).out = s.out ∧ (s.takeRole r).job = s.job ∧ (s.takeRole r).heads = s.heads ∧
    (s.takeRole r).sieve = s.sieve ∧ (s.takeRole r).engine = s.engine ∧ (s.takeRole r).time = s.time ∧
    (s.takeRole r).motion = s.motion ∧ (s.takeRole r).dram = s.dram ∧ (s.takeRole r).clocks = s.clocks ∧
    (s.takeRole r).thermal = s.thermal ∧ (s.takeRole r).images = s.images ∧ (s.takeRole r).tap = s.tap ∧
    (s.takeRole r).fresh = s.fresh := by
  unfold State.takeRole
  (repeat' split) <;> simp

@[simp] theorem frame_fixOffset (s : State) : (s.fixOffset).pending = s.pending ∧
    (s.fixOffset).deferred = s.deferred ∧ (s.fixOffset).dev = s.dev ∧ (s.fixOffset).power = s.power ∧
    (s.fixOffset).fuses = s.fuses ∧ (s.fixOffset).regs = s.regs ∧ (s.fixOffset).blobs = s.blobs ∧
    (s.fixOffset).flash = s.flash ∧ (s.fixOffset).leaves = s.leaves ∧ (s.fixOffset).recorder = s.recorder ∧
    (s.fixOffset).sessions = s.sessions ∧ (s.fixOffset).auth = s.auth ∧ (s.fixOffset).spi = s.spi ∧
    (s.fixOffset).ownWaiting = s.ownWaiting ∧ (s.fixOffset).out = s.out ∧ (s.fixOffset).job = s.job ∧
    (s.fixOffset).thermal = s.thermal ∧ (s.fixOffset).images = s.images ∧ (s.fixOffset).tap = s.tap ∧
    (s.fixOffset).fresh = s.fresh := by
  unfold State.fixOffset
  (repeat' split) <;> simp

@[simp] theorem frame_pair (s : State) : (s.pair).pending = s.pending ∧ (s.pair).deferred = s.deferred ∧
    (s.pair).power = s.power ∧ (s.pair).fuses = s.fuses ∧ (s.pair).blobs = s.blobs ∧ (s.pair).flash = s.flash ∧
    (s.pair).auth = s.auth ∧ (s.pair).spi = s.spi ∧ (s.pair).thermal = s.thermal ∧ (s.pair).images = s.images ∧
    (s.pair).tap = s.tap ∧ (s.pair).fresh = s.fresh := by
  unfold State.pair
  (repeat' split) <;> simp

@[simp] theorem frame_writeTwinEnable (s : State) (value : Nat) : (s.writeTwinEnable value).pending = s.pending ∧
    (s.writeTwinEnable value).deferred = s.deferred ∧ (s.writeTwinEnable value).power = s.power ∧
    (s.writeTwinEnable value).fuses = s.fuses ∧ (s.writeTwinEnable value).blobs = s.blobs ∧
    (s.writeTwinEnable value).flash = s.flash ∧ (s.writeTwinEnable value).auth = s.auth ∧
    (s.writeTwinEnable value).spi = s.spi ∧ (s.writeTwinEnable value).thermal = s.thermal ∧
    (s.writeTwinEnable value).images = s.images ∧ (s.writeTwinEnable value).tap = s.tap ∧
    (s.writeTwinEnable value).fresh = s.fresh := by
  unfold State.writeTwinEnable
  (repeat' split) <;> simp

@[simp] theorem frame_execTwinEnable (path : Path) (value : Nat) (s : State) (s0 : State) : (outcomeState s0 (execTwinEnable path value s)).pending = s.pending ∧
    (outcomeState s0 (execTwinEnable path value s)).power = s.power ∧
    (outcomeState s0 (execTwinEnable path value s)).fuses = s.fuses ∧
    (outcomeState s0 (execTwinEnable path value s)).blobs = s.blobs ∧
    (outcomeState s0 (execTwinEnable path value s)).flash = s.flash ∧
    (outcomeState s0 (execTwinEnable path value s)).auth = s.auth ∧
    (outcomeState s0 (execTwinEnable path value s)).spi = s.spi ∧
    (outcomeState s0 (execTwinEnable path value s)).thermal = s.thermal ∧
    (outcomeState s0 (execTwinEnable path value s)).images = s.images ∧
    (outcomeState s0 (execTwinEnable path value s)).tap = s.tap ∧
    (outcomeState s0 (execTwinEnable path value s)).fresh = s.fresh := by
  simp only [execTwinEnable]
  (repeat' split) <;> simp

@[simp] theorem frame_execRelease (path : Path) (value : Nat) (s : State) (s0 : State) : (outcomeState s0 (execRelease path value s)).pending = s.pending ∧
    (outcomeState s0 (execRelease path value s)).power = s.power ∧
    (outcomeState s0 (execRelease path value s)).clk = s.clk ∧
    (outcomeState s0 (execRelease path value s)).fuses = s.fuses ∧
    (outcomeState s0 (execRelease path value s)).blobs = s.blobs ∧
    (outcomeState s0 (execRelease path value s)).flash = s.flash ∧
    (outcomeState s0 (execRelease path value s)).auth = s.auth ∧
    (outcomeState s0 (execRelease path value s)).spi = s.spi ∧
    (outcomeState s0 (execRelease path value s)).ring = s.ring ∧
    (outcomeState s0 (execRelease path value s)).sieve = s.sieve ∧
    (outcomeState s0 (execRelease path value s)).engine = s.engine ∧
    (outcomeState s0 (execRelease path value s)).time = s.time ∧
    (outcomeState s0 (execRelease path value s)).motion = s.motion ∧
    (outcomeState s0 (execRelease path value s)).clocks = s.clocks ∧
    (outcomeState s0 (execRelease path value s)).thermal = s.thermal ∧
    (outcomeState s0 (execRelease path value s)).images = s.images ∧
    (outcomeState s0 (execRelease path value s)).tap = s.tap ∧
    (outcomeState s0 (execRelease path value s)).fresh = s.fresh := by
  simp only [execRelease]
  (repeat' split) <;> simp

@[simp] theorem frame_startJoin (s : State) : (s.startJoin).pending = s.pending ∧
    (s.startJoin).deferred = s.deferred ∧ (s.startJoin).dev = s.dev ∧ (s.startJoin).power = s.power ∧
    (s.startJoin).clk = s.clk ∧ (s.startJoin).fuses = s.fuses ∧ (s.startJoin).blobs = s.blobs ∧
    (s.startJoin).flash = s.flash ∧ (s.startJoin).leaves = s.leaves ∧ (s.startJoin).recorder = s.recorder ∧
    (s.startJoin).sessions = s.sessions ∧ (s.startJoin).auth = s.auth ∧ (s.startJoin).spi = s.spi ∧
    (s.startJoin).ring = s.ring ∧ (s.startJoin).ownWaiting = s.ownWaiting ∧ (s.startJoin).job = s.job ∧
    (s.startJoin).heads = s.heads ∧ (s.startJoin).sieve = s.sieve ∧ (s.startJoin).engine = s.engine ∧
    (s.startJoin).time = s.time ∧ (s.startJoin).motion = s.motion ∧ (s.startJoin).dram = s.dram ∧
    (s.startJoin).clocks = s.clocks ∧ (s.startJoin).thermal = s.thermal ∧ (s.startJoin).images = s.images ∧
    (s.startJoin).tap = s.tap ∧ (s.startJoin).fresh = s.fresh := by
  unfold State.startJoin
  (repeat' split) <;> simp

@[simp] theorem frame_execJoin (path : Path) (value : Nat) (s : State) (s0 : State) : (outcomeState s0 (execJoin path value s)).pending = s.pending ∧
    (outcomeState s0 (execJoin path value s)).dev = s.dev ∧
    (outcomeState s0 (execJoin path value s)).power = s.power ∧
    (outcomeState s0 (execJoin path value s)).clk = s.clk ∧
    (outcomeState s0 (execJoin path value s)).fuses = s.fuses ∧
    (outcomeState s0 (execJoin path value s)).blobs = s.blobs ∧
    (outcomeState s0 (execJoin path value s)).flash = s.flash ∧
    (outcomeState s0 (execJoin path value s)).leaves = s.leaves ∧
    (outcomeState s0 (execJoin path value s)).recorder = s.recorder ∧
    (outcomeState s0 (execJoin path value s)).sessions = s.sessions ∧
    (outcomeState s0 (execJoin path value s)).auth = s.auth ∧ (outcomeState s0 (execJoin path value s)).spi = s.spi ∧
    (outcomeState s0 (execJoin path value s)).ring = s.ring ∧
    (outcomeState s0 (execJoin path value s)).ownWaiting = s.ownWaiting ∧
    (outcomeState s0 (execJoin path value s)).job = s.job ∧
    (outcomeState s0 (execJoin path value s)).heads = s.heads ∧
    (outcomeState s0 (execJoin path value s)).sieve = s.sieve ∧
    (outcomeState s0 (execJoin path value s)).engine = s.engine ∧
    (outcomeState s0 (execJoin path value s)).time = s.time ∧
    (outcomeState s0 (execJoin path value s)).motion = s.motion ∧
    (outcomeState s0 (execJoin path value s)).dram = s.dram ∧
    (outcomeState s0 (execJoin path value s)).clocks = s.clocks ∧
    (outcomeState s0 (execJoin path value s)).thermal = s.thermal ∧
    (outcomeState s0 (execJoin path value s)).images = s.images ∧
    (outcomeState s0 (execJoin path value s)).tap = s.tap ∧
    (outcomeState s0 (execJoin path value s)).fresh = s.fresh := by
  simp only [execJoin]
  (repeat' split) <;> simp

@[simp] theorem frame_joinedSession (s : State) (bs : List Byte) : (s.joinedSession bs).pending = s.pending ∧
    (s.joinedSession bs).deferred = s.deferred ∧ (s.joinedSession bs).dev = s.dev ∧
    (s.joinedSession bs).power = s.power ∧ (s.joinedSession bs).clk = s.clk ∧ (s.joinedSession bs).fuses = s.fuses ∧
    (s.joinedSession bs).blobs = s.blobs ∧ (s.joinedSession bs).flash = s.flash ∧
    (s.joinedSession bs).leaves = s.leaves ∧ (s.joinedSession bs).recorder = s.recorder ∧
    (s.joinedSession bs).auth = s.auth ∧ (s.joinedSession bs).spi = s.spi ∧ (s.joinedSession bs).ring = s.ring ∧
    (s.joinedSession bs).ownWaiting = s.ownWaiting ∧ (s.joinedSession bs).out = s.out ∧
    (s.joinedSession bs).heads = s.heads ∧ (s.joinedSession bs).sieve = s.sieve ∧
    (s.joinedSession bs).engine = s.engine ∧ (s.joinedSession bs).time = s.time ∧ (s.joinedSession bs).twin = s.twin ∧
    (s.joinedSession bs).motion = s.motion ∧ (s.joinedSession bs).dram = s.dram ∧
    (s.joinedSession bs).clocks = s.clocks ∧ (s.joinedSession bs).thermal = s.thermal ∧
    (s.joinedSession bs).images = s.images ∧ (s.joinedSession bs).tap = s.tap ∧
    (s.joinedSession bs).fresh = s.fresh := by
  unfold State.joinedSession
  (repeat' split) <;> simp

@[simp] theorem frame_takeJoin (s : State) (bs : List Byte) : (s.takeJoin bs).pending = s.pending ∧
    (s.takeJoin bs).deferred = s.deferred ∧ (s.takeJoin bs).dev = s.dev ∧ (s.takeJoin bs).power = s.power ∧
    (s.takeJoin bs).clk = s.clk ∧ (s.takeJoin bs).fuses = s.fuses ∧ (s.takeJoin bs).blobs = s.blobs ∧
    (s.takeJoin bs).flash = s.flash ∧ (s.takeJoin bs).leaves = s.leaves ∧ (s.takeJoin bs).recorder = s.recorder ∧
    (s.takeJoin bs).auth = s.auth ∧ (s.takeJoin bs).spi = s.spi ∧ (s.takeJoin bs).ring = s.ring ∧
    (s.takeJoin bs).ownWaiting = s.ownWaiting ∧ (s.takeJoin bs).out = s.out ∧ (s.takeJoin bs).sieve = s.sieve ∧
    (s.takeJoin bs).engine = s.engine ∧ (s.takeJoin bs).time = s.time ∧ (s.takeJoin bs).motion = s.motion ∧
    (s.takeJoin bs).dram = s.dram ∧ (s.takeJoin bs).clocks = s.clocks ∧ (s.takeJoin bs).thermal = s.thermal ∧
    (s.takeJoin bs).images = s.images ∧ (s.takeJoin bs).tap = s.tap ∧ (s.takeJoin bs).fresh = s.fresh := by
  unfold State.takeJoin
  (repeat' split) <;> simp

@[simp] theorem frame_joinReceived (s : State) (content : List Byte) (offset : Int) (delay : Nat) : (s.joinReceived content offset delay).pending = s.pending ∧
    (s.joinReceived content offset delay).deferred = s.deferred ∧ (s.joinReceived content offset delay).dev = s.dev ∧
    (s.joinReceived content offset delay).power = s.power ∧ (s.joinReceived content offset delay).fuses = s.fuses ∧
    (s.joinReceived content offset delay).blobs = s.blobs ∧ (s.joinReceived content offset delay).flash = s.flash ∧
    (s.joinReceived content offset delay).leaves = s.leaves ∧
    (s.joinReceived content offset delay).recorder = s.recorder ∧
    (s.joinReceived content offset delay).auth = s.auth ∧ (s.joinReceived content offset delay).spi = s.spi ∧
    (s.joinReceived content offset delay).ownWaiting = s.ownWaiting ∧
    (s.joinReceived content offset delay).out = s.out ∧ (s.joinReceived content offset delay).thermal = s.thermal ∧
    (s.joinReceived content offset delay).images = s.images ∧ (s.joinReceived content offset delay).tap = s.tap ∧
    (s.joinReceived content offset delay).fresh = s.fresh := by
  unfold State.joinReceived
  (repeat' split) <;> simp

@[simp] theorem frame_writeTwin_pending (s : State) (p : Path) (index sub v : Nat) (d0 : State) (h0 : d0.pending = s.pending) : ((s.writeTwin p index sub v).getD d0).pending = s.pending := by
  unfold State.writeTwin
  (repeat' split) <;> simp_all
@[simp] theorem frame_writeTwin_fuses (s : State) (p : Path) (index sub v : Nat) (d0 : State) (h0 : d0.fuses = s.fuses) : ((s.writeTwin p index sub v).getD d0).fuses = s.fuses := by
  unfold State.writeTwin
  (repeat' split) <;> simp_all
@[simp] theorem frame_writeTwin_spi (s : State) (p : Path) (index sub v : Nat) (d0 : State) (h0 : d0.spi = s.spi) : ((s.writeTwin p index sub v).getD d0).spi = s.spi := by
  unfold State.writeTwin
  (repeat' split) <;> simp_all
@[simp] theorem frame_writeTwin_thermal (s : State) (p : Path) (index sub v : Nat) (d0 : State) (h0 : d0.thermal = s.thermal) : ((s.writeTwin p index sub v).getD d0).thermal = s.thermal := by
  unfold State.writeTwin
  (repeat' split) <;> simp_all
@[simp] theorem frame_writeTwin_tap (s : State) (p : Path) (index sub v : Nat) (d0 : State) (h0 : d0.tap = s.tap) : ((s.writeTwin p index sub v).getD d0).tap = s.tap := by
  unfold State.writeTwin
  (repeat' split) <;> simp_all
@[simp] theorem frame_writeTwin_fresh (s : State) (p : Path) (index sub v : Nat) (d0 : State) (h0 : d0.fresh = s.fresh) : ((s.writeTwin p index sub v).getD d0).fresh = s.fresh := by
  unfold State.writeTwin
  (repeat' split) <;> simp_all

@[simp] theorem frame_ownWrite_pending (s : State) (p : Path) (alone : Bool) (index sub : Nat) (data : List Byte) (d0 : State) (h0 : d0.pending = s.pending) : ((s.ownWrite p alone index sub data).getD d0).pending = s.pending := by
  unfold State.ownWrite
  (repeat' split) <;> simp_all
@[simp] theorem frame_ownWrite_fuses (s : State) (p : Path) (alone : Bool) (index sub : Nat) (data : List Byte) (d0 : State) (h0 : d0.fuses = s.fuses) : ((s.ownWrite p alone index sub data).getD d0).fuses = s.fuses := by
  unfold State.ownWrite
  (repeat' split) <;> simp_all
@[simp] theorem frame_ownWrite_thermal (s : State) (p : Path) (alone : Bool) (index sub : Nat) (data : List Byte) (d0 : State) (h0 : d0.thermal = s.thermal) : ((s.ownWrite p alone index sub data).getD d0).thermal = s.thermal := by
  unfold State.ownWrite
  (repeat' split) <;> simp_all
@[simp] theorem frame_ownWrite_tap (s : State) (p : Path) (alone : Bool) (index sub : Nat) (data : List Byte) (d0 : State) (h0 : d0.tap = s.tap) : ((s.ownWrite p alone index sub data).getD d0).tap = s.tap := by
  unfold State.ownWrite
  (repeat' split) <;> simp_all
@[simp] theorem frame_ownWrite_fresh (s : State) (p : Path) (alone : Bool) (index sub : Nat) (data : List Byte) (d0 : State) (h0 : d0.fresh = s.fresh) : ((s.ownWrite p alone index sub data).getD d0).fresh = s.fresh := by
  unfold State.ownWrite
  (repeat' split) <;> simp_all

@[simp] theorem frame_odWrite (s : State) (p : Path) (index sub : Nat) (data : List Byte) (alone : Bool) : (s.odWrite p index sub data alone).pending = s.pending ∧
    (s.odWrite p index sub data alone).fuses = s.fuses ∧ (s.odWrite p index sub data alone).thermal = s.thermal ∧
    (s.odWrite p index sub data alone).tap = s.tap ∧ (s.odWrite p index sub data alone).fresh = s.fresh := by
  unfold State.odWrite
  (repeat' split) <;> simp

@[simp] theorem frame_odRead (s : State) (p : Path) (index sub : Nat) : (s.odRead p index sub).pending = s.pending ∧
    (s.odRead p index sub).dev = s.dev ∧ (s.odRead p index sub).power = s.power ∧ (s.odRead p index sub).clk = s.clk ∧
    (s.odRead p index sub).fuses = s.fuses ∧ (s.odRead p index sub).blobs = s.blobs ∧
    (s.odRead p index sub).flash = s.flash ∧ (s.odRead p index sub).recorder = s.recorder ∧
    (s.odRead p index sub).spi = s.spi ∧ (s.odRead p index sub).ring = s.ring ∧
    (s.odRead p index sub).ownWaiting = s.ownWaiting ∧ (s.odRead p index sub).job = s.job ∧
    (s.odRead p index sub).heads = s.heads ∧ (s.odRead p index sub).sieve = s.sieve ∧
    (s.odRead p index sub).engine = s.engine ∧ (s.odRead p index sub).time = s.time ∧
    (s.odRead p index sub).twin = s.twin ∧ (s.odRead p index sub).clocks = s.clocks ∧
    (s.odRead p index sub).thermal = s.thermal ∧ (s.odRead p index sub).images = s.images ∧
    (s.odRead p index sub).tap = s.tap ∧ (s.odRead p index sub).fresh = s.fresh := by
  unfold State.odRead
  (repeat' split) <;> simp

@[simp] theorem frame_place (s : State) (kind : Nat) (bytes : List Byte) : (s.place kind bytes).pending = s.pending ∧
    (s.place kind bytes).deferred = s.deferred ∧ (s.place kind bytes).dev = s.dev ∧
    (s.place kind bytes).power = s.power ∧ (s.place kind bytes).clk = s.clk ∧ (s.place kind bytes).fuses = s.fuses ∧
    (s.place kind bytes).regs = s.regs ∧ (s.place kind bytes).blobs = s.blobs ∧ (s.place kind bytes).flash = s.flash ∧
    (s.place kind bytes).leaves = s.leaves ∧ (s.place kind bytes).recorder = s.recorder ∧
    (s.place kind bytes).sessions = s.sessions ∧ (s.place kind bytes).auth = s.auth ∧
    (s.place kind bytes).ring = s.ring ∧ (s.place kind bytes).ownWaiting = s.ownWaiting ∧
    (s.place kind bytes).out = s.out ∧ (s.place kind bytes).job = s.job ∧ (s.place kind bytes).heads = s.heads ∧
    (s.place kind bytes).sieve = s.sieve ∧ (s.place kind bytes).engine = s.engine ∧
    (s.place kind bytes).time = s.time ∧ (s.place kind bytes).twin = s.twin ∧ (s.place kind bytes).motion = s.motion ∧
    (s.place kind bytes).dram = s.dram ∧ (s.place kind bytes).clocks = s.clocks ∧
    (s.place kind bytes).thermal = s.thermal ∧ (s.place kind bytes).images = s.images ∧
    (s.place kind bytes).tap = s.tap ∧ (s.place kind bytes).fresh = s.fresh := by
  unfold State.place
  (repeat' split) <;> simp

@[simp] theorem frame_reply (s : State) (p : Path) (kind : Nat) (bytes : List Byte) : (s.reply p kind bytes).pending = s.pending ∧
    (s.reply p kind bytes).deferred = s.deferred ∧ (s.reply p kind bytes).dev = s.dev ∧
    (s.reply p kind bytes).power = s.power ∧ (s.reply p kind bytes).clk = s.clk ∧
    (s.reply p kind bytes).fuses = s.fuses ∧ (s.reply p kind bytes).regs = s.regs ∧
    (s.reply p kind bytes).blobs = s.blobs ∧ (s.reply p kind bytes).flash = s.flash ∧
    (s.reply p kind bytes).leaves = s.leaves ∧ (s.reply p kind bytes).recorder = s.recorder ∧
    (s.reply p kind bytes).auth = s.auth ∧ (s.reply p kind bytes).ring = s.ring ∧ (s.reply p kind bytes).job = s.job ∧
    (s.reply p kind bytes).heads = s.heads ∧ (s.reply p kind bytes).sieve = s.sieve ∧
    (s.reply p kind bytes).engine = s.engine ∧ (s.reply p kind bytes).time = s.time ∧
    (s.reply p kind bytes).motion = s.motion ∧ (s.reply p kind bytes).dram = s.dram ∧
    (s.reply p kind bytes).clocks = s.clocks ∧ (s.reply p kind bytes).thermal = s.thermal ∧
    (s.reply p kind bytes).images = s.images ∧ (s.reply p kind bytes).tap = s.tap ∧
    (s.reply p kind bytes).fresh = s.fresh := by
  unfold State.reply
  (repeat' split) <;> simp

@[simp] theorem frame_respond (s : State) (p : Path) (op tid index sub abort : Nat) : (s.respond p op tid index sub abort).pending = s.pending ∧
    (s.respond p op tid index sub abort).deferred = s.deferred ∧ (s.respond p op tid index sub abort).dev = s.dev ∧
    (s.respond p op tid index sub abort).power = s.power ∧ (s.respond p op tid index sub abort).clk = s.clk ∧
    (s.respond p op tid index sub abort).fuses = s.fuses ∧ (s.respond p op tid index sub abort).regs = s.regs ∧
    (s.respond p op tid index sub abort).blobs = s.blobs ∧ (s.respond p op tid index sub abort).flash = s.flash ∧
    (s.respond p op tid index sub abort).leaves = s.leaves ∧
    (s.respond p op tid index sub abort).recorder = s.recorder ∧ (s.respond p op tid index sub abort).auth = s.auth ∧
    (s.respond p op tid index sub abort).ring = s.ring ∧ (s.respond p op tid index sub abort).job = s.job ∧
    (s.respond p op tid index sub abort).heads = s.heads ∧ (s.respond p op tid index sub abort).sieve = s.sieve ∧
    (s.respond p op tid index sub abort).engine = s.engine ∧ (s.respond p op tid index sub abort).time = s.time ∧
    (s.respond p op tid index sub abort).motion = s.motion ∧ (s.respond p op tid index sub abort).dram = s.dram ∧
    (s.respond p op tid index sub abort).clocks = s.clocks ∧
    (s.respond p op tid index sub abort).thermal = s.thermal ∧
    (s.respond p op tid index sub abort).images = s.images ∧ (s.respond p op tid index sub abort).tap = s.tap ∧
    (s.respond p op tid index sub abort).fresh = s.fresh := by
  unfold State.respond
  (repeat' split) <;> simp

@[simp] theorem frame_wrap (s : State) (p : Path) (op tid index sub : Nat) : (s.wrap p op tid index sub).pending = s.pending ∧
    (s.wrap p op tid index sub).deferred = s.deferred ∧ (s.wrap p op tid index sub).dev = s.dev ∧
    (s.wrap p op tid index sub).power = s.power ∧ (s.wrap p op tid index sub).clk = s.clk ∧
    (s.wrap p op tid index sub).fuses = s.fuses ∧ (s.wrap p op tid index sub).regs = s.regs ∧
    (s.wrap p op tid index sub).blobs = s.blobs ∧ (s.wrap p op tid index sub).flash = s.flash ∧
    (s.wrap p op tid index sub).leaves = s.leaves ∧ (s.wrap p op tid index sub).recorder = s.recorder ∧
    (s.wrap p op tid index sub).auth = s.auth ∧ (s.wrap p op tid index sub).ring = s.ring ∧
    (s.wrap p op tid index sub).job = s.job ∧ (s.wrap p op tid index sub).heads = s.heads ∧
    (s.wrap p op tid index sub).sieve = s.sieve ∧ (s.wrap p op tid index sub).engine = s.engine ∧
    (s.wrap p op tid index sub).time = s.time ∧ (s.wrap p op tid index sub).motion = s.motion ∧
    (s.wrap p op tid index sub).dram = s.dram ∧ (s.wrap p op tid index sub).clocks = s.clocks ∧
    (s.wrap p op tid index sub).thermal = s.thermal ∧ (s.wrap p op tid index sub).images = s.images ∧
    (s.wrap p op tid index sub).tap = s.tap ∧ (s.wrap p op tid index sub).fresh = s.fresh := by
  unfold State.wrap
  (repeat' split) <;> simp

@[simp] theorem frame_sdoRead (s : State) (p : Path) (tid index sub : Nat) : (s.sdoRead p tid index sub).pending = s.pending ∧
    (s.sdoRead p tid index sub).dev = s.dev ∧ (s.sdoRead p tid index sub).power = s.power ∧
    (s.sdoRead p tid index sub).clk = s.clk ∧ (s.sdoRead p tid index sub).fuses = s.fuses ∧
    (s.sdoRead p tid index sub).blobs = s.blobs ∧ (s.sdoRead p tid index sub).flash = s.flash ∧
    (s.sdoRead p tid index sub).recorder = s.recorder ∧ (s.sdoRead p tid index sub).ring = s.ring ∧
    (s.sdoRead p tid index sub).job = s.job ∧ (s.sdoRead p tid index sub).heads = s.heads ∧
    (s.sdoRead p tid index sub).sieve = s.sieve ∧ (s.sdoRead p tid index sub).engine = s.engine ∧
    (s.sdoRead p tid index sub).time = s.time ∧ (s.sdoRead p tid index sub).clocks = s.clocks ∧
    (s.sdoRead p tid index sub).thermal = s.thermal ∧ (s.sdoRead p tid index sub).images = s.images ∧
    (s.sdoRead p tid index sub).tap = s.tap ∧ (s.sdoRead p tid index sub).fresh = s.fresh := by
  unfold State.sdoRead
  (repeat' split) <;> simp

@[simp] theorem frame_sdoWrite (s : State) (p : Path) (tid index sub : Nat) (data : List Byte) (alone : Bool) : (s.sdoWrite p tid index sub data alone).pending = s.pending ∧
    (s.sdoWrite p tid index sub data alone).fuses = s.fuses ∧
    (s.sdoWrite p tid index sub data alone).thermal = s.thermal ∧
    (s.sdoWrite p tid index sub data alone).tap = s.tap ∧
    (s.sdoWrite p tid index sub data alone).fresh = s.fresh := by
  unfold State.sdoWrite
  (repeat' split) <;> simp

@[simp] theorem frame_withTransfer (s : State) (p : Path) (t : Option Transfer) : (s.withTransfer p t).pending = s.pending ∧
    (s.withTransfer p t).deferred = s.deferred ∧ (s.withTransfer p t).dev = s.dev ∧
    (s.withTransfer p t).power = s.power ∧ (s.withTransfer p t).clk = s.clk ∧ (s.withTransfer p t).fuses = s.fuses ∧
    (s.withTransfer p t).regs = s.regs ∧ (s.withTransfer p t).blobs = s.blobs ∧ (s.withTransfer p t).flash = s.flash ∧
    (s.withTransfer p t).leaves = s.leaves ∧ (s.withTransfer p t).recorder = s.recorder ∧
    (s.withTransfer p t).auth = s.auth ∧ (s.withTransfer p t).spi = s.spi ∧ (s.withTransfer p t).ring = s.ring ∧
    (s.withTransfer p t).ownWaiting = s.ownWaiting ∧ (s.withTransfer p t).out = s.out ∧
    (s.withTransfer p t).job = s.job ∧ (s.withTransfer p t).heads = s.heads ∧ (s.withTransfer p t).sieve = s.sieve ∧
    (s.withTransfer p t).engine = s.engine ∧ (s.withTransfer p t).time = s.time ∧ (s.withTransfer p t).twin = s.twin ∧
    (s.withTransfer p t).motion = s.motion ∧ (s.withTransfer p t).dram = s.dram ∧
    (s.withTransfer p t).clocks = s.clocks ∧ (s.withTransfer p t).thermal = s.thermal ∧
    (s.withTransfer p t).images = s.images ∧ (s.withTransfer p t).tap = s.tap ∧
    (s.withTransfer p t).fresh = s.fresh := by
  unfold State.withTransfer
  (repeat' split) <;> simp

@[simp] theorem frame_openBlock (s : State) (p : Path) (tid index sub total : Nat) : (s.openBlock p tid index sub total).pending = s.pending ∧
    (s.openBlock p tid index sub total).fuses = s.fuses ∧ (s.openBlock p tid index sub total).thermal = s.thermal ∧
    (s.openBlock p tid index sub total).tap = s.tap ∧ (s.openBlock p tid index sub total).fresh = s.fresh := by
  unfold State.openBlock
  (repeat' split) <;> simp

@[simp] theorem frame_sendSegments (s : State) (p : Path) (tid : Nat) (data : List Byte) : (s.sendSegments p tid data).pending = s.pending ∧
    (s.sendSegments p tid data).deferred = s.deferred ∧ (s.sendSegments p tid data).dev = s.dev ∧
    (s.sendSegments p tid data).power = s.power ∧ (s.sendSegments p tid data).clk = s.clk ∧
    (s.sendSegments p tid data).fuses = s.fuses ∧ (s.sendSegments p tid data).regs = s.regs ∧
    (s.sendSegments p tid data).blobs = s.blobs ∧ (s.sendSegments p tid data).flash = s.flash ∧
    (s.sendSegments p tid data).leaves = s.leaves ∧ (s.sendSegments p tid data).recorder = s.recorder ∧
    (s.sendSegments p tid data).auth = s.auth ∧ (s.sendSegments p tid data).ring = s.ring ∧
    (s.sendSegments p tid data).job = s.job ∧ (s.sendSegments p tid data).heads = s.heads ∧
    (s.sendSegments p tid data).sieve = s.sieve ∧ (s.sendSegments p tid data).engine = s.engine ∧
    (s.sendSegments p tid data).time = s.time ∧ (s.sendSegments p tid data).motion = s.motion ∧
    (s.sendSegments p tid data).dram = s.dram ∧ (s.sendSegments p tid data).clocks = s.clocks ∧
    (s.sendSegments p tid data).thermal = s.thermal ∧ (s.sendSegments p tid data).images = s.images ∧
    (s.sendSegments p tid data).tap = s.tap ∧ (s.sendSegments p tid data).fresh = s.fresh := by
  unfold State.sendSegments
  (repeat' split) <;> simp

@[simp] theorem frame_wrapBlock (s : State) (p : Path) (tid index sub : Nat) : (s.wrapBlock p tid index sub).pending = s.pending ∧
    (s.wrapBlock p tid index sub).deferred = s.deferred ∧ (s.wrapBlock p tid index sub).dev = s.dev ∧
    (s.wrapBlock p tid index sub).power = s.power ∧ (s.wrapBlock p tid index sub).clk = s.clk ∧
    (s.wrapBlock p tid index sub).fuses = s.fuses ∧ (s.wrapBlock p tid index sub).regs = s.regs ∧
    (s.wrapBlock p tid index sub).blobs = s.blobs ∧ (s.wrapBlock p tid index sub).flash = s.flash ∧
    (s.wrapBlock p tid index sub).leaves = s.leaves ∧ (s.wrapBlock p tid index sub).recorder = s.recorder ∧
    (s.wrapBlock p tid index sub).auth = s.auth ∧ (s.wrapBlock p tid index sub).ring = s.ring ∧
    (s.wrapBlock p tid index sub).job = s.job ∧ (s.wrapBlock p tid index sub).heads = s.heads ∧
    (s.wrapBlock p tid index sub).sieve = s.sieve ∧ (s.wrapBlock p tid index sub).engine = s.engine ∧
    (s.wrapBlock p tid index sub).time = s.time ∧ (s.wrapBlock p tid index sub).motion = s.motion ∧
    (s.wrapBlock p tid index sub).dram = s.dram ∧ (s.wrapBlock p tid index sub).clocks = s.clocks ∧
    (s.wrapBlock p tid index sub).thermal = s.thermal ∧ (s.wrapBlock p tid index sub).images = s.images ∧
    (s.wrapBlock p tid index sub).tap = s.tap ∧ (s.wrapBlock p tid index sub).fresh = s.fresh := by
  unfold State.wrapBlock
  (repeat' split) <;> simp

@[simp] theorem frame_readBlock (s : State) (p : Path) (tid index sub : Nat) : (s.readBlock p tid index sub).pending = s.pending ∧
    (s.readBlock p tid index sub).dev = s.dev ∧ (s.readBlock p tid index sub).power = s.power ∧
    (s.readBlock p tid index sub).clk = s.clk ∧ (s.readBlock p tid index sub).fuses = s.fuses ∧
    (s.readBlock p tid index sub).blobs = s.blobs ∧ (s.readBlock p tid index sub).flash = s.flash ∧
    (s.readBlock p tid index sub).recorder = s.recorder ∧ (s.readBlock p tid index sub).ring = s.ring ∧
    (s.readBlock p tid index sub).job = s.job ∧ (s.readBlock p tid index sub).heads = s.heads ∧
    (s.readBlock p tid index sub).sieve = s.sieve ∧ (s.readBlock p tid index sub).engine = s.engine ∧
    (s.readBlock p tid index sub).time = s.time ∧ (s.readBlock p tid index sub).clocks = s.clocks ∧
    (s.readBlock p tid index sub).thermal = s.thermal ∧ (s.readBlock p tid index sub).images = s.images ∧
    (s.readBlock p tid index sub).tap = s.tap ∧ (s.readBlock p tid index sub).fresh = s.fresh := by
  unfold State.readBlock
  (repeat' split) <;> simp

@[simp] theorem frame_dropSegments (s : State) (p : Path) : (s.dropSegments p).pending = s.pending ∧
    (s.dropSegments p).deferred = s.deferred ∧ (s.dropSegments p).dev = s.dev ∧ (s.dropSegments p).power = s.power ∧
    (s.dropSegments p).clk = s.clk ∧ (s.dropSegments p).fuses = s.fuses ∧ (s.dropSegments p).regs = s.regs ∧
    (s.dropSegments p).blobs = s.blobs ∧ (s.dropSegments p).flash = s.flash ∧ (s.dropSegments p).leaves = s.leaves ∧
    (s.dropSegments p).recorder = s.recorder ∧ (s.dropSegments p).auth = s.auth ∧ (s.dropSegments p).ring = s.ring ∧
    (s.dropSegments p).ownWaiting = s.ownWaiting ∧ (s.dropSegments p).out = s.out ∧ (s.dropSegments p).job = s.job ∧
    (s.dropSegments p).heads = s.heads ∧ (s.dropSegments p).sieve = s.sieve ∧ (s.dropSegments p).engine = s.engine ∧
    (s.dropSegments p).time = s.time ∧ (s.dropSegments p).twin = s.twin ∧ (s.dropSegments p).motion = s.motion ∧
    (s.dropSegments p).dram = s.dram ∧ (s.dropSegments p).clocks = s.clocks ∧ (s.dropSegments p).thermal = s.thermal ∧
    (s.dropSegments p).images = s.images ∧ (s.dropSegments p).tap = s.tap ∧ (s.dropSegments p).fresh = s.fresh := by
  unfold State.dropSegments
  (repeat' split) <;> simp

@[simp] theorem frame_abortBlock (s : State) (p : Path) (tid index sub : Nat) : (s.abortBlock p tid index sub).pending = s.pending ∧
    (s.abortBlock p tid index sub).deferred = s.deferred ∧ (s.abortBlock p tid index sub).dev = s.dev ∧
    (s.abortBlock p tid index sub).power = s.power ∧ (s.abortBlock p tid index sub).clk = s.clk ∧
    (s.abortBlock p tid index sub).fuses = s.fuses ∧ (s.abortBlock p tid index sub).regs = s.regs ∧
    (s.abortBlock p tid index sub).blobs = s.blobs ∧ (s.abortBlock p tid index sub).flash = s.flash ∧
    (s.abortBlock p tid index sub).leaves = s.leaves ∧ (s.abortBlock p tid index sub).recorder = s.recorder ∧
    (s.abortBlock p tid index sub).auth = s.auth ∧ (s.abortBlock p tid index sub).ring = s.ring ∧
    (s.abortBlock p tid index sub).job = s.job ∧ (s.abortBlock p tid index sub).heads = s.heads ∧
    (s.abortBlock p tid index sub).sieve = s.sieve ∧ (s.abortBlock p tid index sub).engine = s.engine ∧
    (s.abortBlock p tid index sub).time = s.time ∧ (s.abortBlock p tid index sub).motion = s.motion ∧
    (s.abortBlock p tid index sub).dram = s.dram ∧ (s.abortBlock p tid index sub).clocks = s.clocks ∧
    (s.abortBlock p tid index sub).thermal = s.thermal ∧ (s.abortBlock p tid index sub).images = s.images ∧
    (s.abortBlock p tid index sub).tap = s.tap ∧ (s.abortBlock p tid index sub).fresh = s.fresh := by
  unfold State.abortBlock
  (repeat' split) <;> simp

@[simp] theorem frame_failBlock (s : State) (p : Path) (t : Transfer) (a : Abort) : (s.failBlock p t a).pending = s.pending ∧
    (s.failBlock p t a).deferred = s.deferred ∧ (s.failBlock p t a).dev = s.dev ∧
    (s.failBlock p t a).power = s.power ∧ (s.failBlock p t a).clk = s.clk ∧ (s.failBlock p t a).fuses = s.fuses ∧
    (s.failBlock p t a).regs = s.regs ∧ (s.failBlock p t a).blobs = s.blobs ∧ (s.failBlock p t a).flash = s.flash ∧
    (s.failBlock p t a).leaves = s.leaves ∧ (s.failBlock p t a).recorder = s.recorder ∧
    (s.failBlock p t a).auth = s.auth ∧ (s.failBlock p t a).ring = s.ring ∧ (s.failBlock p t a).job = s.job ∧
    (s.failBlock p t a).heads = s.heads ∧ (s.failBlock p t a).sieve = s.sieve ∧
    (s.failBlock p t a).engine = s.engine ∧ (s.failBlock p t a).time = s.time ∧
    (s.failBlock p t a).motion = s.motion ∧ (s.failBlock p t a).dram = s.dram ∧
    (s.failBlock p t a).clocks = s.clocks ∧ (s.failBlock p t a).thermal = s.thermal ∧
    (s.failBlock p t a).images = s.images ∧ (s.failBlock p t a).tap = s.tap ∧
    (s.failBlock p t a).fresh = s.fresh := by
  unfold State.failBlock
  (repeat' split) <;> simp

@[simp] theorem frame_segmentIn (s : State) (p : Path) (tid number : Nat) (crcOk : Bool) (data : List Byte) : (s.segmentIn p tid number crcOk data).pending = s.pending ∧
    (s.segmentIn p tid number crcOk data).fuses = s.fuses ∧
    (s.segmentIn p tid number crcOk data).thermal = s.thermal ∧ (s.segmentIn p tid number crcOk data).tap = s.tap ∧
    (s.segmentIn p tid number crcOk data).fresh = s.fresh := by
  unfold State.segmentIn
  (repeat' split) <;> simp

@[simp] theorem frame_sdoRequest (s : State) (p : Path) (alone : Bool) (bs : List Byte) : (s.sdoRequest p alone bs).pending = s.pending ∧
    (s.sdoRequest p alone bs).fuses = s.fuses ∧ (s.sdoRequest p alone bs).thermal = s.thermal ∧
    (s.sdoRequest p alone bs).tap = s.tap ∧ (s.sdoRequest p alone bs).fresh = s.fresh := by
  unfold State.sdoRequest
  (repeat' split) <;> simp

@[simp] theorem frame_segmentMessage (s : State) (p : Path) (bs : List Byte) : (s.segmentMessage p bs).pending = s.pending ∧
    (s.segmentMessage p bs).fuses = s.fuses ∧ (s.segmentMessage p bs).thermal = s.thermal ∧
    (s.segmentMessage p bs).tap = s.tap ∧ (s.segmentMessage p bs).fresh = s.fresh := by
  unfold State.segmentMessage
  (repeat' split) <;> simp

@[simp] theorem frame_spiRun (s : State) : (s.spiRun).pending = s.pending ∧ (s.spiRun).fuses = s.fuses ∧
    (s.spiRun).thermal = s.thermal ∧ (s.spiRun).tap = s.tap ∧ (s.spiRun).fresh = s.fresh := by
  unfold State.spiRun
  (repeat' split) <;> simp

@[simp] theorem frame_deliverMessage (s : State) (n kind : Nat) (alone : Bool) (bs : List Byte) : (s.deliverMessage n kind alone bs).pending = s.pending ∧
    (s.deliverMessage n kind alone bs).fuses = s.fuses ∧ (s.deliverMessage n kind alone bs).thermal = s.thermal ∧
    (s.deliverMessage n kind alone bs).tap = s.tap ∧ (s.deliverMessage n kind alone bs).fresh = s.fresh := by
  unfold State.deliverMessage
  (repeat' split) <;> simp

@[simp] theorem frame_takeInOrder (s : State) (n : Nat) (f : TreyxFrame) (alone : Bool) : (s.takeInOrder n f alone).pending = s.pending ∧
    (s.takeInOrder n f alone).fuses = s.fuses ∧ (s.takeInOrder n f alone).thermal = s.thermal ∧
    (s.takeInOrder n f alone).tap = s.tap ∧ (s.takeInOrder n f alone).fresh = s.fresh := by
  unfold State.takeInOrder
  (repeat' split) <;> simp

@[simp] theorem frame_takeHeld (k n : Nat) (s : State) : (State.takeHeld k n s).pending = s.pending ∧
    (State.takeHeld k n s).fuses = s.fuses ∧ (State.takeHeld k n s).thermal = s.thermal ∧
    (State.takeHeld k n s).tap = s.tap ∧ (State.takeHeld k n s).fresh = s.fresh := by
  induction n generalizing s with
  | zero => simp [State.takeHeld]
  | succ n ih =>
    simp only [State.takeHeld]
    (repeat' split) <;> simp [ih]

@[simp] theorem frame_reliableFrame (s : State) (n : Nat) (f : TreyxFrame) (alone : Bool) : (s.reliableFrame n f alone).pending = s.pending ∧
    (s.reliableFrame n f alone).fuses = s.fuses ∧ (s.reliableFrame n f alone).thermal = s.thermal ∧
    (s.reliableFrame n f alone).tap = s.tap ∧ (s.reliableFrame n f alone).fresh = s.fresh := by
  unfold State.reliableFrame
  (repeat' split) <;> simp

@[simp] theorem frame_sessionFrame (s : State) (n : Nat) (f : TreyxFrame) (alone : Bool) : (s.sessionFrame n f alone).pending = s.pending ∧
    (s.sessionFrame n f alone).fuses = s.fuses ∧ (s.sessionFrame n f alone).thermal = s.thermal ∧
    (s.sessionFrame n f alone).tap = s.tap ∧ (s.sessionFrame n f alone).fresh = s.fresh := by
  unfold State.sessionFrame
  (repeat' split) <;> simp

@[simp] theorem frame_learnPeer (s : State) (n source : Nat) : (s.learnPeer n source).pending = s.pending ∧
    (s.learnPeer n source).deferred = s.deferred ∧ (s.learnPeer n source).dev = s.dev ∧
    (s.learnPeer n source).power = s.power ∧ (s.learnPeer n source).clk = s.clk ∧
    (s.learnPeer n source).fuses = s.fuses ∧ (s.learnPeer n source).regs = s.regs ∧
    (s.learnPeer n source).blobs = s.blobs ∧ (s.learnPeer n source).flash = s.flash ∧
    (s.learnPeer n source).leaves = s.leaves ∧ (s.learnPeer n source).recorder = s.recorder ∧
    (s.learnPeer n source).auth = s.auth ∧ (s.learnPeer n source).spi = s.spi ∧ (s.learnPeer n source).ring = s.ring ∧
    (s.learnPeer n source).ownWaiting = s.ownWaiting ∧ (s.learnPeer n source).out = s.out ∧
    (s.learnPeer n source).job = s.job ∧ (s.learnPeer n source).heads = s.heads ∧
    (s.learnPeer n source).sieve = s.sieve ∧ (s.learnPeer n source).engine = s.engine ∧
    (s.learnPeer n source).time = s.time ∧ (s.learnPeer n source).twin = s.twin ∧
    (s.learnPeer n source).motion = s.motion ∧ (s.learnPeer n source).dram = s.dram ∧
    (s.learnPeer n source).clocks = s.clocks ∧ (s.learnPeer n source).thermal = s.thermal ∧
    (s.learnPeer n source).images = s.images ∧ (s.learnPeer n source).tap = s.tap ∧
    (s.learnPeer n source).fresh = s.fresh := by
  unfold State.learnPeer
  (repeat' split) <;> simp

@[simp] theorem frame_copyJob (s : State) (n : Nat) (f : TreyxFrame) : (s.copyJob n f).pending = s.pending ∧
    (s.copyJob n f).deferred = s.deferred ∧ (s.copyJob n f).dev = s.dev ∧ (s.copyJob n f).power = s.power ∧
    (s.copyJob n f).clk = s.clk ∧ (s.copyJob n f).fuses = s.fuses ∧ (s.copyJob n f).regs = s.regs ∧
    (s.copyJob n f).blobs = s.blobs ∧ (s.copyJob n f).flash = s.flash ∧ (s.copyJob n f).leaves = s.leaves ∧
    (s.copyJob n f).recorder = s.recorder ∧ (s.copyJob n f).sessions = s.sessions ∧ (s.copyJob n f).auth = s.auth ∧
    (s.copyJob n f).spi = s.spi ∧ (s.copyJob n f).ring = s.ring ∧ (s.copyJob n f).ownWaiting = s.ownWaiting ∧
    (s.copyJob n f).job = s.job ∧ (s.copyJob n f).heads = s.heads ∧ (s.copyJob n f).sieve = s.sieve ∧
    (s.copyJob n f).engine = s.engine ∧ (s.copyJob n f).time = s.time ∧ (s.copyJob n f).motion = s.motion ∧
    (s.copyJob n f).dram = s.dram ∧ (s.copyJob n f).clocks = s.clocks ∧ (s.copyJob n f).thermal = s.thermal ∧
    (s.copyJob n f).images = s.images ∧ (s.copyJob n f).tap = s.tap ∧ (s.copyJob n f).fresh = s.fresh := by
  unfold State.copyJob
  (repeat' split) <;> simp

@[simp] theorem frame_consume (s : State) (source : Nat) (f : TreyxFrame) (alone : Bool) : (s.consume source f alone).pending = s.pending ∧
    (s.consume source f alone).fuses = s.fuses ∧ (s.consume source f alone).thermal = s.thermal ∧
    (s.consume source f alone).tap = s.tap ∧ (s.consume source f alone).fresh = s.fresh := by
  unfold State.consume
  (repeat' split) <;> simp

@[simp] theorem frame_takeCopy (s : State) (f : TreyxFrame) : (s.takeCopy f).pending = s.pending ∧
    (s.takeCopy f).fuses = s.fuses ∧ (s.takeCopy f).thermal = s.thermal ∧ (s.takeCopy f).tap = s.tap ∧
    (s.takeCopy f).fresh = s.fresh := by
  unfold State.takeCopy
  (repeat' split) <;> simp

@[simp] theorem frame_noteSeen (s : State) (kind : Nat) (bs : List Byte) (port ingress egress : Nat) : (s.noteSeen kind bs port ingress egress).pending = s.pending ∧
    (s.noteSeen kind bs port ingress egress).deferred = s.deferred ∧
    (s.noteSeen kind bs port ingress egress).dev = s.dev ∧ (s.noteSeen kind bs port ingress egress).power = s.power ∧
    (s.noteSeen kind bs port ingress egress).clk = s.clk ∧ (s.noteSeen kind bs port ingress egress).fuses = s.fuses ∧
    (s.noteSeen kind bs port ingress egress).regs = s.regs ∧
    (s.noteSeen kind bs port ingress egress).blobs = s.blobs ∧
    (s.noteSeen kind bs port ingress egress).flash = s.flash ∧
    (s.noteSeen kind bs port ingress egress).leaves = s.leaves ∧
    (s.noteSeen kind bs port ingress egress).recorder = s.recorder ∧
    (s.noteSeen kind bs port ingress egress).sessions = s.sessions ∧
    (s.noteSeen kind bs port ingress egress).auth = s.auth ∧ (s.noteSeen kind bs port ingress egress).spi = s.spi ∧
    (s.noteSeen kind bs port ingress egress).ownWaiting = s.ownWaiting ∧
    (s.noteSeen kind bs port ingress egress).out = s.out ∧ (s.noteSeen kind bs port ingress egress).job = s.job ∧
    (s.noteSeen kind bs port ingress egress).heads = s.heads ∧
    (s.noteSeen kind bs port ingress egress).sieve = s.sieve ∧
    (s.noteSeen kind bs port ingress egress).engine = s.engine ∧
    (s.noteSeen kind bs port ingress egress).time = s.time ∧ (s.noteSeen kind bs port ingress egress).twin = s.twin ∧
    (s.noteSeen kind bs port ingress egress).motion = s.motion ∧
    (s.noteSeen kind bs port ingress egress).dram = s.dram ∧
    (s.noteSeen kind bs port ingress egress).clocks = s.clocks ∧
    (s.noteSeen kind bs port ingress egress).thermal = s.thermal ∧
    (s.noteSeen kind bs port ingress egress).images = s.images ∧
    (s.noteSeen kind bs port ingress egress).tap = s.tap ∧
    (s.noteSeen kind bs port ingress egress).fresh = s.fresh := by
  unfold State.noteSeen
  (repeat' split) <;> simp

@[simp] theorem frame_matchSeen (s : State) (kind source : Nat) (bs : List Byte) (port ingress : Nat) : (s.matchSeen kind source bs port ingress).1.pending = s.pending ∧
    (s.matchSeen kind source bs port ingress).1.deferred = s.deferred ∧
    (s.matchSeen kind source bs port ingress).1.dev = s.dev ∧
    (s.matchSeen kind source bs port ingress).1.power = s.power ∧
    (s.matchSeen kind source bs port ingress).1.clk = s.clk ∧
    (s.matchSeen kind source bs port ingress).1.fuses = s.fuses ∧
    (s.matchSeen kind source bs port ingress).1.blobs = s.blobs ∧
    (s.matchSeen kind source bs port ingress).1.flash = s.flash ∧
    (s.matchSeen kind source bs port ingress).1.leaves = s.leaves ∧
    (s.matchSeen kind source bs port ingress).1.recorder = s.recorder ∧
    (s.matchSeen kind source bs port ingress).1.sessions = s.sessions ∧
    (s.matchSeen kind source bs port ingress).1.auth = s.auth ∧
    (s.matchSeen kind source bs port ingress).1.spi = s.spi ∧
    (s.matchSeen kind source bs port ingress).1.ownWaiting = s.ownWaiting ∧
    (s.matchSeen kind source bs port ingress).1.out = s.out ∧
    (s.matchSeen kind source bs port ingress).1.job = s.job ∧
    (s.matchSeen kind source bs port ingress).1.heads = s.heads ∧
    (s.matchSeen kind source bs port ingress).1.sieve = s.sieve ∧
    (s.matchSeen kind source bs port ingress).1.engine = s.engine ∧
    (s.matchSeen kind source bs port ingress).1.time = s.time ∧
    (s.matchSeen kind source bs port ingress).1.twin = s.twin ∧
    (s.matchSeen kind source bs port ingress).1.motion = s.motion ∧
    (s.matchSeen kind source bs port ingress).1.dram = s.dram ∧
    (s.matchSeen kind source bs port ingress).1.clocks = s.clocks ∧
    (s.matchSeen kind source bs port ingress).1.thermal = s.thermal ∧
    (s.matchSeen kind source bs port ingress).1.images = s.images ∧
    (s.matchSeen kind source bs port ingress).1.tap = s.tap ∧
    (s.matchSeen kind source bs port ingress).1.fresh = s.fresh := by
  unfold State.matchSeen
  (repeat' split) <;> simp

@[simp] theorem frame_sendDelayReq (s : State) (port : Nat) : (s.sendDelayReq port).pending = s.pending ∧
    (s.sendDelayReq port).deferred = s.deferred ∧ (s.sendDelayReq port).dev = s.dev ∧
    (s.sendDelayReq port).power = s.power ∧ (s.sendDelayReq port).clk = s.clk ∧
    (s.sendDelayReq port).fuses = s.fuses ∧ (s.sendDelayReq port).regs = s.regs ∧
    (s.sendDelayReq port).blobs = s.blobs ∧ (s.sendDelayReq port).flash = s.flash ∧
    (s.sendDelayReq port).leaves = s.leaves ∧ (s.sendDelayReq port).recorder = s.recorder ∧
    (s.sendDelayReq port).sessions = s.sessions ∧ (s.sendDelayReq port).auth = s.auth ∧
    (s.sendDelayReq port).spi = s.spi ∧ (s.sendDelayReq port).ring = s.ring ∧ (s.sendDelayReq port).job = s.job ∧
    (s.sendDelayReq port).heads = s.heads ∧ (s.sendDelayReq port).sieve = s.sieve ∧
    (s.sendDelayReq port).engine = s.engine ∧ (s.sendDelayReq port).twin = s.twin ∧
    (s.sendDelayReq port).motion = s.motion ∧ (s.sendDelayReq port).dram = s.dram ∧
    (s.sendDelayReq port).clocks = s.clocks ∧ (s.sendDelayReq port).thermal = s.thermal ∧
    (s.sendDelayReq port).images = s.images ∧ (s.sendDelayReq port).tap = s.tap ∧
    (s.sendDelayReq port).fresh = s.fresh := by
  unfold State.sendDelayReq
  (repeat' split) <;> simp

@[simp] theorem frame_ptpSync (s : State) (bs : List Byte) (port : Nat) : (s.ptpSync bs port).pending = s.pending ∧
    (s.ptpSync bs port).deferred = s.deferred ∧ (s.ptpSync bs port).dev = s.dev ∧
    (s.ptpSync bs port).power = s.power ∧ (s.ptpSync bs port).clk = s.clk ∧ (s.ptpSync bs port).fuses = s.fuses ∧
    (s.ptpSync bs port).regs = s.regs ∧ (s.ptpSync bs port).blobs = s.blobs ∧ (s.ptpSync bs port).flash = s.flash ∧
    (s.ptpSync bs port).leaves = s.leaves ∧ (s.ptpSync bs port).recorder = s.recorder ∧
    (s.ptpSync bs port).sessions = s.sessions ∧ (s.ptpSync bs port).auth = s.auth ∧ (s.ptpSync bs port).spi = s.spi ∧
    (s.ptpSync bs port).ring = s.ring ∧ (s.ptpSync bs port).job = s.job ∧ (s.ptpSync bs port).heads = s.heads ∧
    (s.ptpSync bs port).sieve = s.sieve ∧ (s.ptpSync bs port).engine = s.engine ∧ (s.ptpSync bs port).twin = s.twin ∧
    (s.ptpSync bs port).motion = s.motion ∧ (s.ptpSync bs port).dram = s.dram ∧
    (s.ptpSync bs port).clocks = s.clocks ∧ (s.ptpSync bs port).thermal = s.thermal ∧
    (s.ptpSync bs port).images = s.images ∧ (s.ptpSync bs port).tap = s.tap ∧
    (s.ptpSync bs port).fresh = s.fresh := by
  unfold State.ptpSync
  (repeat' split) <;> simp

@[simp] theorem frame_usePtp (s : State) (bs : List Byte) (port : Nat) : (s.usePtp bs port).pending = s.pending ∧
    (s.usePtp bs port).deferred = s.deferred ∧ (s.usePtp bs port).dev = s.dev ∧ (s.usePtp bs port).power = s.power ∧
    (s.usePtp bs port).clk = s.clk ∧ (s.usePtp bs port).fuses = s.fuses ∧ (s.usePtp bs port).blobs = s.blobs ∧
    (s.usePtp bs port).flash = s.flash ∧ (s.usePtp bs port).recorder = s.recorder ∧ (s.usePtp bs port).auth = s.auth ∧
    (s.usePtp bs port).spi = s.spi ∧ (s.usePtp bs port).ring = s.ring ∧ (s.usePtp bs port).job = s.job ∧
    (s.usePtp bs port).heads = s.heads ∧ (s.usePtp bs port).sieve = s.sieve ∧ (s.usePtp bs port).engine = s.engine ∧
    (s.usePtp bs port).motion = s.motion ∧ (s.usePtp bs port).dram = s.dram ∧ (s.usePtp bs port).clocks = s.clocks ∧
    (s.usePtp bs port).thermal = s.thermal ∧ (s.usePtp bs port).images = s.images ∧ (s.usePtp bs port).tap = s.tap ∧
    (s.usePtp bs port).fresh = s.fresh := by
  unfold State.usePtp
  (repeat' split) <;> simp

@[simp] theorem frame_transparent (s : State) (bs : List Byte) (port ingress egress : Nat) : (s.transparent bs port ingress egress).1.pending = s.pending ∧
    (s.transparent bs port ingress egress).1.deferred = s.deferred ∧
    (s.transparent bs port ingress egress).1.dev = s.dev ∧ (s.transparent bs port ingress egress).1.power = s.power ∧
    (s.transparent bs port ingress egress).1.clk = s.clk ∧ (s.transparent bs port ingress egress).1.fuses = s.fuses ∧
    (s.transparent bs port ingress egress).1.blobs = s.blobs ∧
    (s.transparent bs port ingress egress).1.flash = s.flash ∧
    (s.transparent bs port ingress egress).1.leaves = s.leaves ∧
    (s.transparent bs port ingress egress).1.recorder = s.recorder ∧
    (s.transparent bs port ingress egress).1.sessions = s.sessions ∧
    (s.transparent bs port ingress egress).1.auth = s.auth ∧ (s.transparent bs port ingress egress).1.spi = s.spi ∧
    (s.transparent bs port ingress egress).1.ownWaiting = s.ownWaiting ∧
    (s.transparent bs port ingress egress).1.out = s.out ∧ (s.transparent bs port ingress egress).1.job = s.job ∧
    (s.transparent bs port ingress egress).1.heads = s.heads ∧
    (s.transparent bs port ingress egress).1.sieve = s.sieve ∧
    (s.transparent bs port ingress egress).1.engine = s.engine ∧
    (s.transparent bs port ingress egress).1.time = s.time ∧ (s.transparent bs port ingress egress).1.twin = s.twin ∧
    (s.transparent bs port ingress egress).1.motion = s.motion ∧
    (s.transparent bs port ingress egress).1.dram = s.dram ∧
    (s.transparent bs port ingress egress).1.clocks = s.clocks ∧
    (s.transparent bs port ingress egress).1.thermal = s.thermal ∧
    (s.transparent bs port ingress egress).1.images = s.images ∧
    (s.transparent bs port ingress egress).1.tap = s.tap ∧
    (s.transparent bs port ingress egress).1.fresh = s.fresh := by
  unfold State.transparent
  (repeat' split) <;> simp

@[simp] theorem frame_sendOn (s : State) (port ingress egress : Nat) (fcsOk : Bool) (bs : List Byte) : (s.sendOn port ingress egress fcsOk bs).pending = s.pending ∧
    (s.sendOn port ingress egress fcsOk bs).deferred = s.deferred ∧
    (s.sendOn port ingress egress fcsOk bs).dev = s.dev ∧ (s.sendOn port ingress egress fcsOk bs).power = s.power ∧
    (s.sendOn port ingress egress fcsOk bs).clk = s.clk ∧ (s.sendOn port ingress egress fcsOk bs).fuses = s.fuses ∧
    (s.sendOn port ingress egress fcsOk bs).blobs = s.blobs ∧
    (s.sendOn port ingress egress fcsOk bs).flash = s.flash ∧
    (s.sendOn port ingress egress fcsOk bs).leaves = s.leaves ∧
    (s.sendOn port ingress egress fcsOk bs).recorder = s.recorder ∧
    (s.sendOn port ingress egress fcsOk bs).sessions = s.sessions ∧
    (s.sendOn port ingress egress fcsOk bs).auth = s.auth ∧ (s.sendOn port ingress egress fcsOk bs).spi = s.spi ∧
    (s.sendOn port ingress egress fcsOk bs).ownWaiting = s.ownWaiting ∧
    (s.sendOn port ingress egress fcsOk bs).job = s.job ∧ (s.sendOn port ingress egress fcsOk bs).heads = s.heads ∧
    (s.sendOn port ingress egress fcsOk bs).sieve = s.sieve ∧
    (s.sendOn port ingress egress fcsOk bs).engine = s.engine ∧
    (s.sendOn port ingress egress fcsOk bs).time = s.time ∧ (s.sendOn port ingress egress fcsOk bs).twin = s.twin ∧
    (s.sendOn port ingress egress fcsOk bs).motion = s.motion ∧
    (s.sendOn port ingress egress fcsOk bs).dram = s.dram ∧
    (s.sendOn port ingress egress fcsOk bs).clocks = s.clocks ∧
    (s.sendOn port ingress egress fcsOk bs).thermal = s.thermal ∧
    (s.sendOn port ingress egress fcsOk bs).images = s.images ∧ (s.sendOn port ingress egress fcsOk bs).tap = s.tap ∧
    (s.sendOn port ingress egress fcsOk bs).fresh = s.fresh := by
  unfold State.sendOn
  (repeat' split) <;> simp

@[simp] theorem frame_forward (s : State) (port ingress egress : Nat) (fcsOk : Bool) (bs : List Byte) : (s.forward port ingress egress fcsOk bs).pending = s.pending ∧
    (s.forward port ingress egress fcsOk bs).deferred = s.deferred ∧
    (s.forward port ingress egress fcsOk bs).dev = s.dev ∧ (s.forward port ingress egress fcsOk bs).power = s.power ∧
    (s.forward port ingress egress fcsOk bs).clk = s.clk ∧ (s.forward port ingress egress fcsOk bs).fuses = s.fuses ∧
    (s.forward port ingress egress fcsOk bs).blobs = s.blobs ∧
    (s.forward port ingress egress fcsOk bs).flash = s.flash ∧
    (s.forward port ingress egress fcsOk bs).leaves = s.leaves ∧
    (s.forward port ingress egress fcsOk bs).recorder = s.recorder ∧
    (s.forward port ingress egress fcsOk bs).sessions = s.sessions ∧
    (s.forward port ingress egress fcsOk bs).auth = s.auth ∧ (s.forward port ingress egress fcsOk bs).spi = s.spi ∧
    (s.forward port ingress egress fcsOk bs).ownWaiting = s.ownWaiting ∧
    (s.forward port ingress egress fcsOk bs).job = s.job ∧ (s.forward port ingress egress fcsOk bs).heads = s.heads ∧
    (s.forward port ingress egress fcsOk bs).sieve = s.sieve ∧
    (s.forward port ingress egress fcsOk bs).engine = s.engine ∧
    (s.forward port ingress egress fcsOk bs).time = s.time ∧ (s.forward port ingress egress fcsOk bs).twin = s.twin ∧
    (s.forward port ingress egress fcsOk bs).motion = s.motion ∧
    (s.forward port ingress egress fcsOk bs).dram = s.dram ∧
    (s.forward port ingress egress fcsOk bs).clocks = s.clocks ∧
    (s.forward port ingress egress fcsOk bs).thermal = s.thermal ∧
    (s.forward port ingress egress fcsOk bs).images = s.images ∧
    (s.forward port ingress egress fcsOk bs).tap = s.tap ∧
    (s.forward port ingress egress fcsOk bs).fresh = s.fresh := by
  unfold State.forward
  (repeat' split) <;> simp

@[simp] theorem frame_forwardPtp (s : State) (port ingress egress : Nat) (fcsOk : Bool) (bs : List Byte) : (s.forwardPtp port ingress egress fcsOk bs).pending = s.pending ∧
    (s.forwardPtp port ingress egress fcsOk bs).deferred = s.deferred ∧
    (s.forwardPtp port ingress egress fcsOk bs).dev = s.dev ∧
    (s.forwardPtp port ingress egress fcsOk bs).power = s.power ∧
    (s.forwardPtp port ingress egress fcsOk bs).clk = s.clk ∧
    (s.forwardPtp port ingress egress fcsOk bs).fuses = s.fuses ∧
    (s.forwardPtp port ingress egress fcsOk bs).blobs = s.blobs ∧
    (s.forwardPtp port ingress egress fcsOk bs).flash = s.flash ∧
    (s.forwardPtp port ingress egress fcsOk bs).leaves = s.leaves ∧
    (s.forwardPtp port ingress egress fcsOk bs).recorder = s.recorder ∧
    (s.forwardPtp port ingress egress fcsOk bs).sessions = s.sessions ∧
    (s.forwardPtp port ingress egress fcsOk bs).auth = s.auth ∧
    (s.forwardPtp port ingress egress fcsOk bs).spi = s.spi ∧
    (s.forwardPtp port ingress egress fcsOk bs).ownWaiting = s.ownWaiting ∧
    (s.forwardPtp port ingress egress fcsOk bs).job = s.job ∧
    (s.forwardPtp port ingress egress fcsOk bs).heads = s.heads ∧
    (s.forwardPtp port ingress egress fcsOk bs).sieve = s.sieve ∧
    (s.forwardPtp port ingress egress fcsOk bs).engine = s.engine ∧
    (s.forwardPtp port ingress egress fcsOk bs).time = s.time ∧
    (s.forwardPtp port ingress egress fcsOk bs).twin = s.twin ∧
    (s.forwardPtp port ingress egress fcsOk bs).motion = s.motion ∧
    (s.forwardPtp port ingress egress fcsOk bs).dram = s.dram ∧
    (s.forwardPtp port ingress egress fcsOk bs).clocks = s.clocks ∧
    (s.forwardPtp port ingress egress fcsOk bs).thermal = s.thermal ∧
    (s.forwardPtp port ingress egress fcsOk bs).images = s.images ∧
    (s.forwardPtp port ingress egress fcsOk bs).tap = s.tap ∧
    (s.forwardPtp port ingress egress fcsOk bs).fresh = s.fresh := by
  unfold State.forwardPtp
  (repeat' split) <;> simp

@[simp] theorem frame_consumeFrame (s : State) (fcsOk : Bool) (bs : List Byte) (alone : Bool) : (s.consumeFrame fcsOk bs alone).pending = s.pending ∧
    (s.consumeFrame fcsOk bs alone).fuses = s.fuses ∧ (s.consumeFrame fcsOk bs alone).thermal = s.thermal ∧
    (s.consumeFrame fcsOk bs alone).tap = s.tap ∧ (s.consumeFrame fcsOk bs alone).fresh = s.fresh := by
  unfold State.consumeFrame
  (repeat' split) <;> simp

@[simp] theorem frame_dispose (s : State) (port ingress egress : Nat) (fcsOk : Bool) (bs : List Byte) : (s.dispose port ingress egress fcsOk bs).pending = s.pending ∧
    (s.dispose port ingress egress fcsOk bs).fuses = s.fuses ∧
    (s.dispose port ingress egress fcsOk bs).thermal = s.thermal ∧
    (s.dispose port ingress egress fcsOk bs).tap = s.tap ∧
    (s.dispose port ingress egress fcsOk bs).fresh = s.fresh := by
  unfold State.dispose
  (repeat' split) <;> simp

@[simp] theorem frame_countFrame (s : State) (port : Nat) (whole fcsOk : Bool) : (s.countFrame port whole fcsOk).pending = s.pending ∧
    (s.countFrame port whole fcsOk).deferred = s.deferred ∧ (s.countFrame port whole fcsOk).dev = s.dev ∧
    (s.countFrame port whole fcsOk).power = s.power ∧ (s.countFrame port whole fcsOk).clk = s.clk ∧
    (s.countFrame port whole fcsOk).fuses = s.fuses ∧ (s.countFrame port whole fcsOk).blobs = s.blobs ∧
    (s.countFrame port whole fcsOk).flash = s.flash ∧ (s.countFrame port whole fcsOk).leaves = s.leaves ∧
    (s.countFrame port whole fcsOk).recorder = s.recorder ∧ (s.countFrame port whole fcsOk).sessions = s.sessions ∧
    (s.countFrame port whole fcsOk).auth = s.auth ∧ (s.countFrame port whole fcsOk).spi = s.spi ∧
    (s.countFrame port whole fcsOk).ring = s.ring ∧ (s.countFrame port whole fcsOk).ownWaiting = s.ownWaiting ∧
    (s.countFrame port whole fcsOk).out = s.out ∧ (s.countFrame port whole fcsOk).job = s.job ∧
    (s.countFrame port whole fcsOk).heads = s.heads ∧ (s.countFrame port whole fcsOk).sieve = s.sieve ∧
    (s.countFrame port whole fcsOk).engine = s.engine ∧ (s.countFrame port whole fcsOk).time = s.time ∧
    (s.countFrame port whole fcsOk).twin = s.twin ∧ (s.countFrame port whole fcsOk).motion = s.motion ∧
    (s.countFrame port whole fcsOk).dram = s.dram ∧ (s.countFrame port whole fcsOk).clocks = s.clocks ∧
    (s.countFrame port whole fcsOk).thermal = s.thermal ∧ (s.countFrame port whole fcsOk).images = s.images ∧
    (s.countFrame port whole fcsOk).tap = s.tap ∧ (s.countFrame port whole fcsOk).fresh = s.fresh := by
  unfold State.countFrame
  (repeat' split) <;> simp

@[simp] theorem frame_formGroups (s : State) (k : Nat) : (s.formGroups k).pending = s.pending ∧
    (s.formGroups k).deferred = s.deferred ∧ (s.formGroups k).dev = s.dev ∧ (s.formGroups k).power = s.power ∧
    (s.formGroups k).clk = s.clk ∧ (s.formGroups k).fuses = s.fuses ∧ (s.formGroups k).blobs = s.blobs ∧
    (s.formGroups k).flash = s.flash ∧ (s.formGroups k).recorder = s.recorder ∧ (s.formGroups k).auth = s.auth ∧
    (s.formGroups k).spi = s.spi ∧ (s.formGroups k).ring = s.ring ∧ (s.formGroups k).sieve = s.sieve ∧
    (s.formGroups k).engine = s.engine ∧ (s.formGroups k).time = s.time ∧ (s.formGroups k).motion = s.motion ∧
    (s.formGroups k).dram = s.dram ∧ (s.formGroups k).clocks = s.clocks ∧ (s.formGroups k).thermal = s.thermal ∧
    (s.formGroups k).images = s.images ∧ (s.formGroups k).tap = s.tap ∧ (s.formGroups k).fresh = s.fresh := by
  unfold State.formGroups
  (repeat' split) <;> simp

@[simp] theorem frame_planHeads (s : State) (b : Tick) : (s.planHeads b).pending = s.pending ∧
    (s.planHeads b).deferred = s.deferred ∧ (s.planHeads b).dev = s.dev ∧ (s.planHeads b).power = s.power ∧
    (s.planHeads b).clk = s.clk ∧ (s.planHeads b).fuses = s.fuses ∧ (s.planHeads b).regs = s.regs ∧
    (s.planHeads b).blobs = s.blobs ∧ (s.planHeads b).flash = s.flash ∧ (s.planHeads b).leaves = s.leaves ∧
    (s.planHeads b).recorder = s.recorder ∧ (s.planHeads b).sessions = s.sessions ∧ (s.planHeads b).auth = s.auth ∧
    (s.planHeads b).spi = s.spi ∧ (s.planHeads b).ring = s.ring ∧ (s.planHeads b).ownWaiting = s.ownWaiting ∧
    (s.planHeads b).job = s.job ∧ (s.planHeads b).sieve = s.sieve ∧ (s.planHeads b).engine = s.engine ∧
    (s.planHeads b).time = s.time ∧ (s.planHeads b).motion = s.motion ∧ (s.planHeads b).dram = s.dram ∧
    (s.planHeads b).clocks = s.clocks ∧ (s.planHeads b).thermal = s.thermal ∧ (s.planHeads b).images = s.images ∧
    (s.planHeads b).tap = s.tap ∧ (s.planHeads b).fresh = s.fresh := by
  unfold State.planHeads
  (repeat' split) <;> simp

@[simp] theorem frame_servoBoundary (s : State) (b : Tick) : (s.servoBoundary b).pending = s.pending ∧
    (s.servoBoundary b).deferred = s.deferred ∧ (s.servoBoundary b).dev = s.dev ∧
    (s.servoBoundary b).power = s.power ∧ (s.servoBoundary b).clk = s.clk ∧ (s.servoBoundary b).fuses = s.fuses ∧
    (s.servoBoundary b).blobs = s.blobs ∧ (s.servoBoundary b).flash = s.flash ∧ (s.servoBoundary b).auth = s.auth ∧
    (s.servoBoundary b).spi = s.spi ∧ (s.servoBoundary b).ring = s.ring ∧ (s.servoBoundary b).sieve = s.sieve ∧
    (s.servoBoundary b).engine = s.engine ∧ (s.servoBoundary b).time = s.time ∧
    (s.servoBoundary b).motion = s.motion ∧ (s.servoBoundary b).clocks = s.clocks ∧
    (s.servoBoundary b).thermal = s.thermal ∧ (s.servoBoundary b).images = s.images ∧
    (s.servoBoundary b).tap = s.tap ∧ (s.servoBoundary b).fresh = s.fresh := by
  unfold State.servoBoundary
  (repeat' split) <;> simp

@[simp] theorem frame_tellMotion (s : State) : (s.tellMotion).pending = s.pending ∧
    (s.tellMotion).deferred = s.deferred ∧ (s.tellMotion).dev = s.dev ∧ (s.tellMotion).power = s.power ∧
    (s.tellMotion).clk = s.clk ∧ (s.tellMotion).fuses = s.fuses ∧ (s.tellMotion).regs = s.regs ∧
    (s.tellMotion).blobs = s.blobs ∧ (s.tellMotion).flash = s.flash ∧ (s.tellMotion).leaves = s.leaves ∧
    (s.tellMotion).recorder = s.recorder ∧ (s.tellMotion).sessions = s.sessions ∧ (s.tellMotion).auth = s.auth ∧
    (s.tellMotion).spi = s.spi ∧ (s.tellMotion).ring = s.ring ∧ (s.tellMotion).ownWaiting = s.ownWaiting ∧
    (s.tellMotion).job = s.job ∧ (s.tellMotion).heads = s.heads ∧ (s.tellMotion).sieve = s.sieve ∧
    (s.tellMotion).engine = s.engine ∧ (s.tellMotion).time = s.time ∧ (s.tellMotion).motion = s.motion ∧
    (s.tellMotion).dram = s.dram ∧ (s.tellMotion).clocks = s.clocks ∧ (s.tellMotion).thermal = s.thermal ∧
    (s.tellMotion).images = s.images ∧ (s.tellMotion).tap = s.tap ∧ (s.tellMotion).fresh = s.fresh := by
  unfold State.tellMotion
  (repeat' split) <;> simp

@[simp] theorem frame_tapClocked (s : State) (tdi : Bool) : (s.tapClocked tdi).pending = s.pending ∧
    (s.tapClocked tdi).deferred = s.deferred ∧ (s.tapClocked tdi).dev = s.dev ∧ (s.tapClocked tdi).power = s.power ∧
    (s.tapClocked tdi).clk = s.clk ∧ (s.tapClocked tdi).fuses = s.fuses ∧ (s.tapClocked tdi).regs = s.regs ∧
    (s.tapClocked tdi).blobs = s.blobs ∧ (s.tapClocked tdi).flash = s.flash ∧ (s.tapClocked tdi).leaves = s.leaves ∧
    (s.tapClocked tdi).recorder = s.recorder ∧ (s.tapClocked tdi).sessions = s.sessions ∧
    (s.tapClocked tdi).auth = s.auth ∧ (s.tapClocked tdi).spi = s.spi ∧ (s.tapClocked tdi).ring = s.ring ∧
    (s.tapClocked tdi).ownWaiting = s.ownWaiting ∧ (s.tapClocked tdi).out = s.out ∧ (s.tapClocked tdi).job = s.job ∧
    (s.tapClocked tdi).heads = s.heads ∧ (s.tapClocked tdi).sieve = s.sieve ∧ (s.tapClocked tdi).engine = s.engine ∧
    (s.tapClocked tdi).time = s.time ∧ (s.tapClocked tdi).twin = s.twin ∧ (s.tapClocked tdi).motion = s.motion ∧
    (s.tapClocked tdi).dram = s.dram ∧ (s.tapClocked tdi).clocks = s.clocks ∧ (s.tapClocked tdi).thermal = s.thermal ∧
    (s.tapClocked tdi).images = s.images := by
  unfold State.tapClocked
  (repeat' split) <;> simp

@[simp] theorem frame_tapRises (s : State) (tms tdi : Bool) : (s.tapRises tms tdi).pending = s.pending ∧
    (s.tapRises tms tdi).deferred = s.deferred ∧ (s.tapRises tms tdi).dev = s.dev ∧
    (s.tapRises tms tdi).power = s.power ∧ (s.tapRises tms tdi).clk = s.clk ∧ (s.tapRises tms tdi).fuses = s.fuses ∧
    (s.tapRises tms tdi).regs = s.regs ∧ (s.tapRises tms tdi).blobs = s.blobs ∧ (s.tapRises tms tdi).flash = s.flash ∧
    (s.tapRises tms tdi).leaves = s.leaves ∧ (s.tapRises tms tdi).recorder = s.recorder ∧
    (s.tapRises tms tdi).sessions = s.sessions ∧ (s.tapRises tms tdi).auth = s.auth ∧
    (s.tapRises tms tdi).spi = s.spi ∧ (s.tapRises tms tdi).ring = s.ring ∧
    (s.tapRises tms tdi).ownWaiting = s.ownWaiting ∧ (s.tapRises tms tdi).out = s.out ∧
    (s.tapRises tms tdi).job = s.job ∧ (s.tapRises tms tdi).heads = s.heads ∧ (s.tapRises tms tdi).sieve = s.sieve ∧
    (s.tapRises tms tdi).engine = s.engine ∧ (s.tapRises tms tdi).time = s.time ∧ (s.tapRises tms tdi).twin = s.twin ∧
    (s.tapRises tms tdi).motion = s.motion ∧ (s.tapRises tms tdi).dram = s.dram ∧
    (s.tapRises tms tdi).clocks = s.clocks ∧ (s.tapRises tms tdi).thermal = s.thermal ∧
    (s.tapRises tms tdi).images = s.images := by
  unfold State.tapRises
  (repeat' split) <;> simp

@[simp] theorem frame_loadInstr (s : State) : (s.loadInstr).pending = s.pending ∧
    (s.loadInstr).deferred = s.deferred ∧ (s.loadInstr).dev = s.dev ∧ (s.loadInstr).power = s.power ∧
    (s.loadInstr).clk = s.clk ∧ (s.loadInstr).fuses = s.fuses ∧ (s.loadInstr).regs = s.regs ∧
    (s.loadInstr).blobs = s.blobs ∧ (s.loadInstr).flash = s.flash ∧ (s.loadInstr).leaves = s.leaves ∧
    (s.loadInstr).recorder = s.recorder ∧ (s.loadInstr).sessions = s.sessions ∧ (s.loadInstr).auth = s.auth ∧
    (s.loadInstr).spi = s.spi ∧ (s.loadInstr).ring = s.ring ∧ (s.loadInstr).ownWaiting = s.ownWaiting ∧
    (s.loadInstr).out = s.out ∧ (s.loadInstr).job = s.job ∧ (s.loadInstr).heads = s.heads ∧
    (s.loadInstr).sieve = s.sieve ∧ (s.loadInstr).engine = s.engine ∧ (s.loadInstr).time = s.time ∧
    (s.loadInstr).twin = s.twin ∧ (s.loadInstr).motion = s.motion ∧ (s.loadInstr).dram = s.dram ∧
    (s.loadInstr).clocks = s.clocks ∧ (s.loadInstr).thermal = s.thermal ∧ (s.loadInstr).images = s.images ∧
    (s.loadInstr).fresh = s.fresh := by
  unfold State.loadInstr
  (repeat' split) <;> simp

@[simp] theorem frame_updateLatches (s : State) : (s.updateLatches).pending = s.pending ∧
    (s.updateLatches).deferred = s.deferred ∧ (s.updateLatches).dev = s.dev ∧ (s.updateLatches).power = s.power ∧
    (s.updateLatches).clk = s.clk ∧ (s.updateLatches).fuses = s.fuses ∧ (s.updateLatches).regs = s.regs ∧
    (s.updateLatches).blobs = s.blobs ∧ (s.updateLatches).flash = s.flash ∧ (s.updateLatches).leaves = s.leaves ∧
    (s.updateLatches).recorder = s.recorder ∧ (s.updateLatches).sessions = s.sessions ∧
    (s.updateLatches).auth = s.auth ∧ (s.updateLatches).spi = s.spi ∧ (s.updateLatches).ring = s.ring ∧
    (s.updateLatches).ownWaiting = s.ownWaiting ∧ (s.updateLatches).out = s.out ∧ (s.updateLatches).job = s.job ∧
    (s.updateLatches).heads = s.heads ∧ (s.updateLatches).sieve = s.sieve ∧ (s.updateLatches).engine = s.engine ∧
    (s.updateLatches).time = s.time ∧ (s.updateLatches).twin = s.twin ∧ (s.updateLatches).motion = s.motion ∧
    (s.updateLatches).dram = s.dram ∧ (s.updateLatches).clocks = s.clocks ∧ (s.updateLatches).thermal = s.thermal ∧
    (s.updateLatches).images = s.images ∧ (s.updateLatches).fresh = s.fresh := by
  unfold State.updateLatches
  (repeat' split) <;> simp

@[simp] theorem frame_tapFalls (s : State) : (s.tapFalls).pending = s.pending ∧ (s.tapFalls).deferred = s.deferred ∧
    (s.tapFalls).dev = s.dev ∧ (s.tapFalls).power = s.power ∧ (s.tapFalls).clk = s.clk ∧
    (s.tapFalls).fuses = s.fuses ∧ (s.tapFalls).regs = s.regs ∧ (s.tapFalls).blobs = s.blobs ∧
    (s.tapFalls).flash = s.flash ∧ (s.tapFalls).leaves = s.leaves ∧ (s.tapFalls).recorder = s.recorder ∧
    (s.tapFalls).sessions = s.sessions ∧ (s.tapFalls).auth = s.auth ∧ (s.tapFalls).spi = s.spi ∧
    (s.tapFalls).ring = s.ring ∧ (s.tapFalls).ownWaiting = s.ownWaiting ∧ (s.tapFalls).out = s.out ∧
    (s.tapFalls).job = s.job ∧ (s.tapFalls).heads = s.heads ∧ (s.tapFalls).sieve = s.sieve ∧
    (s.tapFalls).engine = s.engine ∧ (s.tapFalls).time = s.time ∧ (s.tapFalls).twin = s.twin ∧
    (s.tapFalls).motion = s.motion ∧ (s.tapFalls).dram = s.dram ∧ (s.tapFalls).clocks = s.clocks ∧
    (s.tapFalls).thermal = s.thermal ∧ (s.tapFalls).images = s.images ∧ (s.tapFalls).fresh = s.fresh := by
  unfold State.tapFalls
  (repeat' split) <;> simp

@[simp] theorem frame_markInhibit (s : State) : (s.markInhibit).pending = s.pending ∧
    (s.markInhibit).deferred = s.deferred ∧ (s.markInhibit).dev = s.dev ∧ (s.markInhibit).clk = s.clk ∧
    (s.markInhibit).fuses = s.fuses ∧ (s.markInhibit).blobs = s.blobs ∧ (s.markInhibit).flash = s.flash ∧
    (s.markInhibit).auth = s.auth ∧ (s.markInhibit).spi = s.spi ∧ (s.markInhibit).ring = s.ring ∧
    (s.markInhibit).job = s.job ∧ (s.markInhibit).heads = s.heads ∧ (s.markInhibit).sieve = s.sieve ∧
    (s.markInhibit).engine = s.engine ∧ (s.markInhibit).time = s.time ∧ (s.markInhibit).motion = s.motion ∧
    (s.markInhibit).dram = s.dram ∧ (s.markInhibit).clocks = s.clocks ∧ (s.markInhibit).thermal = s.thermal ∧
    (s.markInhibit).images = s.images ∧ (s.markInhibit).tap = s.tap ∧ (s.markInhibit).fresh = s.fresh := by
  unfold State.markInhibit
  (repeat' split) <;> simp

@[simp] theorem frame_replayed (s : State) (ch : Nat) : (s.replayed ch).pending = s.pending ∧
    (s.replayed ch).deferred = s.deferred ∧ (s.replayed ch).dev = s.dev ∧ (s.replayed ch).power = s.power ∧
    (s.replayed ch).clk = s.clk ∧ (s.replayed ch).fuses = s.fuses ∧ (s.replayed ch).blobs = s.blobs ∧
    (s.replayed ch).flash = s.flash ∧ (s.replayed ch).leaves = s.leaves ∧ (s.replayed ch).recorder = s.recorder ∧
    (s.replayed ch).sessions = s.sessions ∧ (s.replayed ch).auth = s.auth ∧ (s.replayed ch).spi = s.spi ∧
    (s.replayed ch).ring = s.ring ∧ (s.replayed ch).ownWaiting = s.ownWaiting ∧ (s.replayed ch).out = s.out ∧
    (s.replayed ch).job = s.job ∧ (s.replayed ch).heads = s.heads ∧ (s.replayed ch).sieve = s.sieve ∧
    (s.replayed ch).engine = s.engine ∧ (s.replayed ch).time = s.time ∧ (s.replayed ch).twin = s.twin ∧
    (s.replayed ch).motion = s.motion ∧ (s.replayed ch).clocks = s.clocks ∧ (s.replayed ch).thermal = s.thermal ∧
    (s.replayed ch).images = s.images ∧ (s.replayed ch).tap = s.tap ∧ (s.replayed ch).fresh = s.fresh := by
  unfold State.replayed
  (repeat' split) <;> simp

@[simp] theorem frame_serveDram (s : State) (ch : Nat) : (s.serveDram ch).pending = s.pending ∧
    (s.serveDram ch).deferred = s.deferred ∧ (s.serveDram ch).dev = s.dev ∧ (s.serveDram ch).power = s.power ∧
    (s.serveDram ch).clk = s.clk ∧ (s.serveDram ch).fuses = s.fuses ∧ (s.serveDram ch).regs = s.regs ∧
    (s.serveDram ch).blobs = s.blobs ∧ (s.serveDram ch).flash = s.flash ∧ (s.serveDram ch).leaves = s.leaves ∧
    (s.serveDram ch).recorder = s.recorder ∧ (s.serveDram ch).sessions = s.sessions ∧ (s.serveDram ch).auth = s.auth ∧
    (s.serveDram ch).spi = s.spi ∧ (s.serveDram ch).ring = s.ring ∧ (s.serveDram ch).ownWaiting = s.ownWaiting ∧
    (s.serveDram ch).out = s.out ∧ (s.serveDram ch).job = s.job ∧ (s.serveDram ch).heads = s.heads ∧
    (s.serveDram ch).sieve = s.sieve ∧ (s.serveDram ch).engine = s.engine ∧ (s.serveDram ch).time = s.time ∧
    (s.serveDram ch).twin = s.twin ∧ (s.serveDram ch).motion = s.motion ∧ (s.serveDram ch).clocks = s.clocks ∧
    (s.serveDram ch).thermal = s.thermal ∧ (s.serveDram ch).images = s.images ∧ (s.serveDram ch).tap = s.tap ∧
    (s.serveDram ch).fresh = s.fresh := by
  unfold State.serveDram
  (repeat' split) <;> simp

@[simp] theorem frame_unblock (s : State) : (s.unblock).deferred = s.deferred ∧ (s.unblock).dev = s.dev ∧
    (s.unblock).power = s.power ∧ (s.unblock).clk = s.clk ∧ (s.unblock).fuses = s.fuses ∧ (s.unblock).regs = s.regs ∧
    (s.unblock).blobs = s.blobs ∧ (s.unblock).flash = s.flash ∧ (s.unblock).leaves = s.leaves ∧
    (s.unblock).recorder = s.recorder ∧ (s.unblock).sessions = s.sessions ∧ (s.unblock).auth = s.auth ∧
    (s.unblock).spi = s.spi ∧ (s.unblock).ring = s.ring ∧ (s.unblock).ownWaiting = s.ownWaiting ∧
    (s.unblock).out = s.out ∧ (s.unblock).job = s.job ∧ (s.unblock).heads = s.heads ∧ (s.unblock).sieve = s.sieve ∧
    (s.unblock).engine = s.engine ∧ (s.unblock).time = s.time ∧ (s.unblock).twin = s.twin ∧
    (s.unblock).motion = s.motion ∧ (s.unblock).clocks = s.clocks ∧ (s.unblock).thermal = s.thermal ∧
    (s.unblock).images = s.images ∧ (s.unblock).tap = s.tap ∧ (s.unblock).fresh = s.fresh := by
  unfold State.unblock
  (repeat' split) <;> simp

@[simp] theorem frame_endCycle (s : State) : (s.endCycle).pending = s.pending ∧ (s.endCycle).deferred = s.deferred ∧
    (s.endCycle).clk = s.clk ∧ (s.endCycle).fuses = s.fuses ∧ (s.endCycle).regs = s.regs ∧
    (s.endCycle).blobs = s.blobs ∧ (s.endCycle).flash = s.flash ∧ (s.endCycle).recorder = s.recorder ∧
    (s.endCycle).sessions = s.sessions ∧ (s.endCycle).auth = s.auth ∧ (s.endCycle).spi = s.spi ∧
    (s.endCycle).ring = s.ring ∧ (s.endCycle).ownWaiting = s.ownWaiting ∧ (s.endCycle).job = s.job ∧
    (s.endCycle).heads = s.heads ∧ (s.endCycle).sieve = s.sieve ∧ (s.endCycle).engine = s.engine ∧
    (s.endCycle).time = s.time ∧ (s.endCycle).twin = s.twin ∧ (s.endCycle).motion = s.motion ∧
    (s.endCycle).dram = s.dram ∧ (s.endCycle).clocks = s.clocks ∧ (s.endCycle).thermal = s.thermal ∧
    (s.endCycle).images = s.images ∧ (s.endCycle).tap = s.tap ∧ (s.endCycle).fresh = s.fresh := by
  unfold State.endCycle
  (repeat' split) <;> simp

@[simp] theorem frame_tick (s : State) : (s.tick).pending = s.pending ∧ (s.tick).deferred = s.deferred ∧
    (s.tick).dev = s.dev ∧ (s.tick).power = s.power ∧ (s.tick).fuses = s.fuses ∧ (s.tick).regs = s.regs ∧
    (s.tick).blobs = s.blobs ∧ (s.tick).flash = s.flash ∧ (s.tick).leaves = s.leaves ∧
    (s.tick).recorder = s.recorder ∧ (s.tick).sessions = s.sessions ∧ (s.tick).auth = s.auth ∧ (s.tick).spi = s.spi ∧
    (s.tick).ring = s.ring ∧ (s.tick).ownWaiting = s.ownWaiting ∧ (s.tick).out = s.out ∧ (s.tick).job = s.job ∧
    (s.tick).heads = s.heads ∧ (s.tick).sieve = s.sieve ∧ (s.tick).engine = s.engine ∧ (s.tick).time = s.time ∧
    (s.tick).twin = s.twin ∧ (s.tick).motion = s.motion ∧ (s.tick).dram = s.dram ∧ (s.tick).clocks = s.clocks ∧
    (s.tick).thermal = s.thermal ∧ (s.tick).images = s.images ∧ (s.tick).tap = s.tap ∧
    (s.tick).fresh = s.fresh := by
  unfold State.tick
  (repeat' split) <;> simp

@[simp] theorem frame_withFetchWord (s : State) (nbits w : Nat) : (s.withFetchWord nbits w).deferred = s.deferred ∧
    (s.withFetchWord nbits w).dev = s.dev ∧ (s.withFetchWord nbits w).power = s.power ∧
    (s.withFetchWord nbits w).clk = s.clk ∧ (s.withFetchWord nbits w).fuses = s.fuses ∧
    (s.withFetchWord nbits w).regs = s.regs ∧ (s.withFetchWord nbits w).blobs = s.blobs ∧
    (s.withFetchWord nbits w).flash = s.flash ∧ (s.withFetchWord nbits w).leaves = s.leaves ∧
    (s.withFetchWord nbits w).recorder = s.recorder ∧ (s.withFetchWord nbits w).sessions = s.sessions ∧
    (s.withFetchWord nbits w).auth = s.auth ∧ (s.withFetchWord nbits w).spi = s.spi ∧
    (s.withFetchWord nbits w).ring = s.ring ∧ (s.withFetchWord nbits w).ownWaiting = s.ownWaiting ∧
    (s.withFetchWord nbits w).out = s.out ∧ (s.withFetchWord nbits w).job = s.job ∧
    (s.withFetchWord nbits w).heads = s.heads ∧ (s.withFetchWord nbits w).sieve = s.sieve ∧
    (s.withFetchWord nbits w).engine = s.engine ∧ (s.withFetchWord nbits w).time = s.time ∧
    (s.withFetchWord nbits w).twin = s.twin ∧ (s.withFetchWord nbits w).motion = s.motion ∧
    (s.withFetchWord nbits w).dram = s.dram ∧ (s.withFetchWord nbits w).clocks = s.clocks ∧
    (s.withFetchWord nbits w).thermal = s.thermal ∧ (s.withFetchWord nbits w).images = s.images ∧
    (s.withFetchWord nbits w).tap = s.tap ∧ (s.withFetchWord nbits w).fresh = s.fresh := by
  unfold State.withFetchWord
  (repeat' split) <;> simp

end Sys2Proof.Machine
end

