-- ==== Sys2Proof/Laws/Store.lean ====
section
/-!
SUPPORT. The canonical form of what is stored (Safety.lean) is kept by every operation on lists of stored values and of
interrupt leaves.
-/
set_option linter.all false
namespace Sys2Proof.Machine

theorem rising_filter {α : Type} {l : List (Nat × α)} (p : Nat × α → Bool) (h : Rising l) : Rising (l.filter p) :=
  List.Pairwise.filter p h

theorem rising_storePut {α : Type} {l : List (Nat × α)} (k : Nat) (v : α) (h : Rising l) : Rising (storePut k v l) := by
  unfold storePut Rising
  rw [List.pairwise_append, List.pairwise_cons]
  refine ⟨rising_filter _ h, ⟨?_, rising_filter _ h⟩, ?_⟩
  · intro a ha
    simpa using (List.mem_filter.1 ha).2
  · intro a ha b hb
    have h1 : a.1 < k := by simpa using (List.mem_filter.1 ha).2
    rcases List.mem_cons.1 hb with rfl | hb
    · exact h1
    · have h2 : k < b.1 := by simpa using (List.mem_filter.1 hb).2
      omega

theorem mem_storePut {α : Type} {l : List (Nat × α)} {k : Nat} {v : α} {p : Nat × α} (h : p ∈ storePut k v l) : p = (k, v) ∨ p ∈ l := by
  unfold storePut at h
  rcases List.mem_append.1 h with h | h
  · exact .inr (List.mem_filter.1 h).1
  · rcases List.mem_cons.1 h with rfl | h
    · exact .inl rfl
    · exact .inr (List.mem_filter.1 h).1

@[simp] theorem regsOk_put {l : List (Nat × Int)} (k : Nat) (v : Int) (h : RegsOk l) : RegsOk (regsPut k v l) := by
  unfold regsPut
  split
  · exact ⟨rising_filter _ h.1, fun p hp => h.2 p (List.mem_filter.1 hp).1⟩
  · rename_i hv
    refine ⟨rising_storePut k v h.1, fun p hp => ?_⟩
    rcases mem_storePut hp with rfl | hp
    · exact hv
    · exact h.2 p hp

@[simp] theorem blobsOk_put {l : List (Nat × List Byte)} (k : Nat) (v : List Byte) (h : BlobsOk l) : BlobsOk (blobsPut k v l) := by
  unfold blobsPut
  split
  · exact ⟨rising_filter _ h.1, fun p hp => h.2 p (List.mem_filter.1 hp).1⟩
  · rename_i hv
    refine ⟨rising_storePut k v h.1, fun p hp => ?_⟩
    rcases mem_storePut hp with rfl | hp
    · exact hv
    · exact h.2 p hp

theorem regsOk_filter {l : List (Nat × Int)} (p : Nat × Int → Bool) (h : RegsOk l) : RegsOk (l.filter p) :=
  ⟨rising_filter p h.1, fun q hq => h.2 q (List.mem_filter.1 hq).1⟩

theorem blobsOk_filter {l : List (Nat × List Byte)} (p : Nat × List Byte → Bool) (h : BlobsOk l) : BlobsOk (l.filter p) :=
  ⟨rising_filter p h.1, fun q hq => h.2 q (List.mem_filter.1 hq).1⟩

theorem regsOk_loaded {l stored : List (Nat × Int)} (h : RegsOk l) (hs : ∀ p ∈ stored, p.2 ≠ regDefault p.1) : RegsOk (loaded l stored) := by
  unfold loaded
  have hv : RegsOk (volatileOf l) := regsOk_filter _ h
  generalize volatileOf l = m at hv
  induction stored generalizing m with
  | nil => exact hv
  | cons a rest ih =>
    refine ih (fun p hp => hs p (List.mem_cons_of_mem _ hp)) _ ⟨rising_storePut _ _ hv.1, fun p hp => ?_⟩
    rcases mem_storePut hp with rfl | hp
    · exact hs a (List.mem_cons_self ..)
    · exact hv.2 p hp

theorem blobsOk_loaded {l stored : List (Nat × List Byte)} (h : BlobsOk l) (hs : ∀ p ∈ stored, p.2 ≠ []) : BlobsOk (loaded l stored) := by
  unfold loaded
  have hv : BlobsOk (volatileOf l) := blobsOk_filter _ h
  generalize volatileOf l = m at hv
  induction stored generalizing m with
  | nil => exact hv
  | cons a rest ih =>
    refine ih (fun p hp => hs p (List.mem_cons_of_mem _ hp)) _ ⟨rising_storePut _ _ hv.1, fun p hp => ?_⟩
    rcases mem_storePut hp with rfl | hp
    · exact hs a (List.mem_cons_self ..)
    · exact hv.2 p hp

@[simp] theorem regsOk_nil : RegsOk [] := ⟨List.Pairwise.nil, fun _ h => nomatch h⟩
@[simp] theorem blobsOk_nil : BlobsOk [] := ⟨List.Pairwise.nil, fun _ h => nomatch h⟩
@[simp] theorem leavesOk_nil : LeavesOk [] := List.Pairwise.nil

theorem leafHit_key (l : List Leaf) (reg bit : Nat) : (leafHit l reg bit).key = reg * 32 + bit := by
  unfold leafHit leafAt
  split
  · rename_i x hx
    have := List.find?_some hx
    simpa [Leaf.key] using this
  · rfl

@[simp] theorem leavesOk_put {l : List Leaf} (x : Leaf) (h : LeavesOk l) : LeavesOk (leafPut x l) := by
  unfold leafPut LeavesOk
  rw [List.pairwise_append, List.pairwise_cons]
  refine ⟨List.Pairwise.filter _ h, ⟨?_, List.Pairwise.filter _ h⟩, ?_⟩
  · intro a ha
    simpa using (List.mem_filter.1 ha).2
  · intro a ha b hb
    have h1 : a.key < x.key := by simpa using (List.mem_filter.1 ha).2
    rcases List.mem_cons.1 hb with rfl | hb
    · exact h1
    · have h2 : x.key < b.key := by simpa using (List.mem_filter.1 hb).2
      omega

theorem leavesOk_map {l : List Leaf} {f : Leaf → Leaf} (hf : ∀ x, (f x).key = x.key) (h : LeavesOk l) : LeavesOk (l.map f) := by
  unfold LeavesOk
  rw [List.pairwise_map]
  simpa [hf, LeavesOk] using h

@[simp] theorem cleared_key (x : Leaf) : x.cleared.key = x.key := by
  unfold Leaf.cleared Leaf.key
  split <;> rfl

@[simp] theorem leavesOk_cleared {l : List Leaf} (reg mask : Nat) (h : LeavesOk l) : LeavesOk (leavesCleared l reg mask) :=
  leavesOk_map (fun x => by split <;> simp) h

@[simp] theorem leavesOk_taken {l : List Leaf} (reg mask : Nat) (h : LeavesOk l) : LeavesOk (leavesTaken l reg mask) :=
  leavesOk_map (fun x => by split <;> simp) h

@[simp] theorem leavesOk_without {l : List Leaf} (reg bit : Nat) (h : LeavesOk l) : LeavesOk (leavesWithout l reg bit) :=
  List.Pairwise.filter _ h

@[simp] theorem leavesOk_endCycle {l : List Leaf} (h : LeavesOk l) : LeavesOk (l.filterMap Leaf.endCycle) := by
  unfold LeavesOk at *
  rw [List.pairwise_filterMap]
  refine h.imp ?_
  intro a b hab x hx y hy
  have key : ∀ {u v : Leaf}, u.endCycle = some v → v.key = u.key := by
    intro u v e
    unfold Leaf.endCycle at e
    split at e
    · cases e
    · cases e; rfl
  rw [key hx, key hy]
  exact hab

@[simp] theorem flashOk_cutShort {f : FlashStore} (h : FlashOk f) : FlashOk f.cutShort :=
  ⟨h.regs, h.blobs, fun _ hw => by simp [FlashStore.cutShort] at hw⟩

@[simp] theorem flashOk_complete {f : FlashStore} (good : Bool) (h : FlashOk f) : FlashOk (f.complete good) := by
  unfold FlashStore.complete
  split
  · rename_i w hw
    have := h.writing w hw
    split
    · exact ⟨this.1, this.2, fun _ hw => by simp at hw⟩
    · exact ⟨h.regs, h.blobs, fun _ hw => by simp at hw⟩
  · exact h

end Sys2Proof.Machine
end

