-- ==== Sys2Proof/Laws/Regs.lean ====
section
/-!
SUPPORT. What the sparse store reads after a write: the value written at its own key, and what was there at every other
key. No canonical form is needed for it.
-/
set_option linter.all false
namespace Sys2Proof.Machine

theorem find_filter {α : Type} (p q : α → Bool) (l : List α) (h : ∀ a, p a = true → q a = true) :
    (l.filter q).find? p = l.find? p := by
  induction l with
  | nil => rfl
  | cons a l ih =>
    by_cases ha : p a = true
    · simp [List.filter_cons, h a ha, ha]
    · by_cases hq : q a = true <;> simp [List.filter_cons, hq, ha, ih]

theorem storeGet_put_self {α : Type} (k : Nat) (v : α) (l : List (Nat × α)) : storeGet k (storePut k v l) = some v := by
  have h : (l.filter (fun p => decide (p.1 < k))).find? (fun p => p.1 == k) = none := by
    rw [List.find?_eq_none]
    intro a ha
    have := (List.mem_filter.1 ha).2
    simp at this
    simp
    omega
  simp [storeGet, storePut, List.find?_append, h]

theorem storeGet_put_other {α : Type} {k j : Nat} (v : α) (l : List (Nat × α)) (h : j ≠ k) :
    storeGet j (storePut k v l) = storeGet j l := by
  unfold storeGet storePut
  rw [List.find?_append, List.find?_cons]
  have hk : (k == j) = false := by simpa using fun e => h e.symm
  simp only [hk]
  by_cases hl : j < k
  · rw [find_filter (fun p : Nat × α => p.1 == j) (fun p => decide (p.1 < k)) l (by simp; omega)]
    cases hf : l.find? (fun p => p.1 == j) with
    | some x => rfl
    | none =>
      have : (l.filter (fun p => decide (k < p.1))).find? (fun p => p.1 == j) = none := by
        rw [List.find?_eq_none] at hf ⊢
        exact fun a ha => hf a (List.mem_filter.1 ha).1
      simp [this]
  · rw [find_filter (fun p : Nat × α => p.1 == j) (fun p => decide (k < p.1)) l (by simp; omega)]
    have : (l.filter (fun p => decide (p.1 < k))).find? (fun p => p.1 == j) = none := by
      rw [List.find?_eq_none]
      intro a ha
      have := (List.mem_filter.1 ha).2
      simp at this
      simp
      omega
    simp [this]

theorem storeGet_erase_self {α : Type} (k : Nat) (l : List (Nat × α)) : storeGet k (storeErase k l) = none := by
  have : (l.filter (fun p => decide (p.1 ≠ k))).find? (fun p => p.1 == k) = none := by
    rw [List.find?_eq_none]
    intro a ha
    have := (List.mem_filter.1 ha).2
    simpa using this
  simp [storeGet, storeErase, this]

theorem storeGet_erase_other {α : Type} {k j : Nat} (l : List (Nat × α)) (h : j ≠ k) :
    storeGet j (storeErase k l) = storeGet j l := by
  unfold storeGet storeErase
  rw [find_filter]
  simp
  omega

@[simp] theorem regsGet_put_self (k : Nat) (v : Int) (l : List (Nat × Int)) : regsGet k (regsPut k v l) = v := by
  unfold regsGet regsPut
  split
  · rename_i h
    rw [storeGet_erase_self, h]
    rfl
  · rw [storeGet_put_self]
    rfl

theorem regsGet_put_other {k j : Nat} (v : Int) (l : List (Nat × Int)) (h : j ≠ k) : regsGet j (regsPut k v l) = regsGet j l := by
  unfold regsGet regsPut
  split
  · rw [storeGet_erase_other l h]
  · rw [storeGet_put_other v l h]

theorem regKey_inj {i a j b : Nat} (ha : a < 256) (hb : b < 256) (h : regKey i a = regKey j b) : i = j ∧ a = b := by
  unfold regKey at h
  omega

/-- A value reads as it was stored. -/
@[simp] theorem reg_setReg_self (s : State) (i a : Nat) (v : Int) : (s.setReg i a v).reg i a = v :=
  regsGet_put_self _ _ _

/-- Another value reads as before. -/
theorem reg_setReg_other (s : State) {i a j b : Nat} (v : Int) (h : regKey j b ≠ regKey i a) : (s.setReg i a v).reg j b = s.reg j b :=
  regsGet_put_other _ _ h

/-- A counter increments. -/
@[simp] theorem reg_bump_self (s : State) (i a : Nat) : (s.bump i a).reg i a = counterNext (regKey i a) (s.reg i a) 1 :=
  reg_setReg_self _ _ _ _

theorem reg_bump_other (s : State) {i a j b : Nat} (h : regKey j b ≠ regKey i a) : (s.bump i a).reg j b = s.reg j b :=
  reg_setReg_other _ _ h

theorem blob_setBlob_self (s : State) (i a : Nat) (v : List Byte) : (s.setBlob i a v).blob i a = v := by
  simp only [State.blob, State.setBlob, blobsPut]
  split
  · rename_i h
    rw [storeGet_erase_self, h]
    rfl
  · rw [storeGet_put_self]
    rfl

theorem blob_setBlob_other (s : State) {i a j b : Nat} (v : List Byte) (h : regKey j b ≠ regKey i a) :
    (s.setBlob i a v).blob j b = s.blob j b := by
  simp only [State.blob, State.setBlob, blobsPut]
  split
  · rw [storeGet_erase_other _ h]
  · rw [storeGet_put_other _ _ h]

end Sys2Proof.Machine
end

