-- ==== Sys2Proof/Laws/Reports.lean ====
section
/-!
SUPPORT. Reporting changes nothing but what State.Reports lists: a message to host software or to the twin, an interrupt
leaf, a record of the event recorder.
-/
set_option linter.all false
namespace Sys2Proof.Machine

theorem KeepsRegs_refl (s : State) (ks : List Nat) : s.KeepsRegs s ks := fun _ _ => rfl

theorem KeepsRegs_trans {s t u : State} {ks : List Nat} (h : s.KeepsRegs t ks) (g : t.KeepsRegs u ks) : s.KeepsRegs u ks :=
  fun k hk => (g k hk).trans (h k hk)

theorem KeepsRegs_of_eq {s t : State} (ks : List Nat) (h : t.regs = s.regs) : s.KeepsRegs t ks := fun k _ => by rw [h]

theorem KeepsRegs_setReg (s : State) (i a : Nat) (v : Int) {ks : List Nat} (h : regKey i a ∈ ks) : s.KeepsRegs (s.setReg i a v) ks :=
  fun k hk => regsGet_put_other _ _ (fun e => hk (e ▸ h))

theorem KeepsRegs_bump (s : State) (i a : Nat) {ks : List Nat} (h : regKey i a ∈ ks) : s.KeepsRegs (s.bump i a) ks :=
  KeepsRegs_setReg s i a _ h

theorem ReportsWith_refl (s : State) (ks : List Nat) : s.ReportsWith s ks := by
  constructor <;> first | rfl | exact KeepsRegs_refl s _

theorem KeepsRegs_mono {s t : State} {ks ls : List Nat} (h : s.KeepsRegs t ks) (hs : ks ⊆ ls) : s.KeepsRegs t ls :=
  fun k hk => h k (fun e => hk (hs e))

theorem ReportsWith_trans {s t u : State} {ks : List Nat} (h : s.ReportsWith t ks) (g : t.ReportsWith u ks) : s.ReportsWith u ks where
  pending := g.pending.trans h.pending
  deferred := g.deferred.trans h.deferred
  dev := g.dev.trans h.dev
  power := g.power.trans h.power
  clk := g.clk.trans h.clk
  fuses := g.fuses.trans h.fuses
  regs := KeepsRegs_trans h.regs g.regs
  blobs := g.blobs.trans h.blobs
  flash := g.flash.trans h.flash
  flashRecords := g.flashRecords.trans h.flashRecords
  auth := g.auth.trans h.auth
  spi := g.spi.trans h.spi
  ring := g.ring.trans h.ring
  job := g.job.trans h.job
  heads := g.heads.trans h.heads
  sieve := g.sieve.trans h.sieve
  engine := g.engine.trans h.engine
  time := g.time.trans h.time
  twin := by rw [g.twin, h.twin]
  motion := g.motion.trans h.motion
  dram := g.dram.trans h.dram
  clocks := g.clocks.trans h.clocks
  thermal := g.thermal.trans h.thermal
  images := g.images.trans h.images
  tap := g.tap.trans h.tap
  fresh := g.fresh.trans h.fresh

theorem ReportsWith_mono {s t : State} {ks ls : List Nat} (h : s.ReportsWith t ks) (hs : ks ⊆ ls) : s.ReportsWith t ls :=
  { h with regs := KeepsRegs_mono h.regs (by intro k hk; rcases List.mem_cons.1 hk with e | e; exacts [e ▸ List.mem_cons_self, List.mem_cons_of_mem _ (hs e)]) }

theorem Reports_refl (s : State) : s.Reports s := ReportsWith_refl s []

theorem Reports_trans {s t u : State} (h : s.Reports t) (g : t.Reports u) : s.Reports u := ReportsWith_trans h g

/-- A stored number of a listed key may change. -/
theorem ReportsWith_setReg (s : State) (i a : Nat) (v : Int) {ks : List Nat} (h : regKey i a ∈ ks) : s.ReportsWith (s.setReg i a v) ks := by
  constructor <;> first | rfl | exact KeepsRegs_setReg _ _ _ _ (List.mem_cons_of_mem _ h)

theorem ReportsWith_bump (s : State) (i a : Nat) {ks : List Nat} (h : regKey i a ∈ ks) : s.ReportsWith (s.bump i a) ks :=
  ReportsWith_setReg s i a _ h

/-- What reports changes nothing but reports in a wider sense. -/
theorem ReportsWith_of_Reports {s t : State} (ks : List Nat) (h : s.Reports t) : s.ReportsWith t ks :=
  ReportsWith_mono h (List.nil_subset ks)

/-- A fold of operations that each only report. -/
theorem Reports_foldl {α : Type} {f : State → α → State} (h : ∀ (t : State) (a : α), t.Reports (f t a)) (l : List α) (s : State) :
    s.Reports (l.foldl f s) := by
  induction l generalizing s with
  | nil => exact Reports_refl s
  | cons a l ih => exact Reports_trans (h s a) (ih (f s a))

theorem Reports_answer (s : State) (p : Path) (a : Nat) (d : List Byte) : s.Reports (s.answer p a d) := by
  constructor <;> first | rfl | exact KeepsRegs_refl s _

theorem Reports_twinSend (s : State) (k : Nat) (f : List Int) : s.Reports (s.twinSend k f) := by
  constructor <;> first
    | rfl
    | exact KeepsRegs_of_eq _ rfl
    | (simp only [State.twinSend]; split <;> rfl)

theorem Reports_twinLead (s : State) (k : Nat) (f : List Int) : s.Reports (s.twinLead k f) := by
  constructor <;> first
    | rfl
    | exact KeepsRegs_of_eq _ rfl
    | (simp only [State.twinLead]; split <;> rfl)

theorem Reports_sendOwn (s : State) (port : Nat) (fs : List (List Byte)) : s.Reports (s.sendOwn port fs) := by
  unfold State.sendOwn
  constructor <;> first
    | rfl
    | exact KeepsRegs_of_eq _ rfl
    | ((repeat' split) <;> first | rfl | exact KeepsRegs_of_eq _ rfl)

theorem Reports_message (s : State) (n k : Nat) (r : Bool) (b : List Byte) : s.Reports (s.message n k r b) := by
  unfold State.message
  split
  · have h : s.Reports { s with sessions := s.sessions.set n ((s.session n).sending n k s.ringUp r b) } := by
      constructor <;> first | rfl | exact KeepsRegs_of_eq _ rfl
    exact Reports_trans (Reports_trans h (Reports_sendOwn _ _ _)) (Reports_foldl (fun t f => Reports_twinLead t _ _) _ _)
  · exact Reports_refl s

theorem Reports_jobMessage (s : State) (k : Nat) (b : List Byte) : s.Reports (s.jobMessage k b) := by
  unfold State.jobMessage
  split
  · exact Reports_message _ _ _ _ _
  · exact Reports_refl s

theorem Reports_messageWhere (s : State) (p : Session → Bool) (k : Nat) (r : Bool) (b : List Byte) : s.Reports (s.messageWhere p k r b) := by
  unfold State.messageWhere
  refine Reports_foldl (fun t n => ?_) _ _
  split
  · exact Reports_message _ _ _ _ _
  · exact Reports_refl t

theorem Reports_publish (s : State) (bit k : Nat) (r : Bool) (b : List Byte) : s.Reports (s.publish bit k r b) :=
  Reports_messageWhere _ _ _ _ _

theorem Reports_setLeaf (s : State) (reg bit : Nat) : s.Reports (s.setLeaf reg bit) := by
  have h : s.Reports { s with leaves := leafPut (leafHit s.leaves reg bit) s.leaves } := by
    constructor <;> first | rfl | exact KeepsRegs_of_eq _ rfl
  unfold State.setLeaf
  split
  · exact Reports_trans h (Reports_messageWhere _ _ _ _ _)
  · exact h

theorem Reports_lost (s : State) : s.Reports (s.bump 0xC000 5) := by
  constructor <;> first | rfl | exact KeepsRegs_bump _ _ _ (by simp)

theorem Reports_record (s : State) (ty : Nat) (p : List Byte) : s.Reports (s.record ty p) := by
  have h : s.Reports { s with recorder := s.recorder.take s.firmwareUp s.recordFull (s.stampRecord ty p) } := by
    constructor <;> first | rfl | exact KeepsRegs_of_eq _ rfl
  unfold State.record
  split
  · exact Reports_trans (Reports_trans h (Reports_lost _)) (Reports_setLeaf _ _ _)
  · exact h

end Sys2Proof.Machine
end

