-- ==== Sys2Proof/WellFormed.lean ====
section
/-!
DEFINITION. Well-formed commands: every number of a command lies in the range the manual gives it (heads 0 to 31,
ring sessions 1 to 4, axes and encoders 0 to 7, and so on). The machine gives every command a meaning, well-formed or
not; an event on a head, axis or channel that does not exist changes nothing.
-/
namespace Sys2Proof

/-- A path is the SPI port or one of the four ring sessions (R382). -/
def Path.wf : Path → Bool
  | .spi => true
  | .ring n => decide (1 ≤ n) && decide (n ≤ 4)

/-- A head number (the table of indices). -/
def headOk (h : Nat) : Bool := decide (h < 32)

/-- An axis or an encoder channel (R481, R504). -/
def axisOk (m : Nat) : Bool := decide (m < 8)

/-- A probe or compare number (R509, R510). -/
def probeOk (n : Nat) : Bool := decide (n < 4)

/-- A ring port: 0 A, 1 B. -/
def portOk (p : Nat) : Bool := decide (p < 2)

/-- A DRAM channel. -/
def dramOk (c : Nat) : Bool := decide (c < 2)

/-- A ring session number. -/
def sessionOk (n : Nat) : Bool := decide (1 ≤ n) && decide (n ≤ 4)

/-- An unsigned field of n bits. -/
def fits (n v : Nat) : Bool := decide (v < 2 ^ n)

/-- The columns of a LEDGER have one entry for each of its rows. -/
def columnsOk (ids channels : List Nat) (amounts : List (List Int)) : Bool :=
  decide (channels.length = ids.length) && amounts.all (fun c => decide (c.length = ids.length))

/-- An object of the dictionary: a U16 index and a U8 subindex. -/
def objectOk (index sub : Nat) : Bool := fits 16 index && fits 8 sub

/-- A cause register of the interrupt tree (R638, R639). -/
def causeRegOk (r : Nat) : Bool :=
  (decide (0x2100 ≤ r) && decide (r < 0x2112)) || (decide (0x2400 ≤ r) && decide (r < 0x24E0))

/-- Every operand of a command lies in its range. -/
def Instr.wf : Instr → Bool
  | .vauxApplied => true
  | .vauxLost => true
  | .resetNAsserted => true
  | .pwrgoodDeasserted => true
  | .railUndervoltage rail => decide (rail < 5)
  | .auxExit dramOrg _ => fits 4 dramOrg
  | .laserInhibitAsserted => true
  | .laserInhibitReleased => true
  | .oscillatorGate _ _ => true
  | .mainPllLock => true
  | .pllsLocked => true
  | .dramTrainingDone _ _ _ => true
  | .imageCheckDone => true
  | .ringJoinDone => true
  | .ringWaitExpiry => true
  | .headLinkStepDone => true
  | .calibrationLoadDone => true
  | .arm path _ => path.wf
  | .run path _ => path.wf
  | .pause path _ => path.wf
  | .pauseHoldReached => true
  | .resume path _ => path.wf
  | .stop path _ => path.wf
  | .disarm path _ => path.wf
  | .clear path _ => path.wf
  | .restart path _ => path.wf
  | .requestNone path _ => path.wf
  | .stateRequestInvalid path code => path.wf && decide (9 ≤ code) && decide (code ≤ 255)
  | .watchdogExpiry => true
  | .firmwareRestartComplete => true
  | .thermalMeasurement readings => decide (readings.length = 16)
  | .thermalRestart => true
  | .opticsTempTimeout h => headOk h
  | .downlinkFrameAssembly h => headOk h
  | .uplinkFrameReceived h first chars _ => headOk h && fits 10 first && decide (chars.length = 99) && chars.all (fits 10)
  | .headLinkEnableWrite path h _ => path.wf && headOk h
  | .headLinkTrainingTimeout h => headOk h
  | .retrainHoldoffExpiry h => headOk h
  | .uplinkLockLoss h => headOk h
  | .ringFrameReceived port _ _ _ _ => portOk port
  | .blockLockLoss port => portOk port
  | .bypassLossTimeout => true
  | .bypassRaise => true
  | .bypassRetryExpiry => true
  | .bypassTrialTimeout => true
  | .bypassEnableWrite path _ => path.wf
  | .sessionOpen _ _ => true
  | .sessionClose n => sessionOk n
  | .ack n _ _ => sessionOk n
  | .rtoExpiry n _ => sessionOk n
  | .ackDelayExpiry n => sessionOk n
  | .sessionTimeout n => sessionOk n
  | .sdoRead path tid index sub => path.wf && fits 16 tid && objectOk index sub
  | .sdoWrite path tid index sub _ _ => path.wf && fits 16 tid && objectOk index sub
  | .blockWrite path tid index sub _ => path.wf && fits 16 tid && objectOk index sub
  | .blockRead path tid index sub => path.wf && fits 16 tid && objectOk index sub
  | .sdoAbort path tid _ _ => path.wf && fits 16 tid
  | .blockSegment path tid _ _ _ => path.wf && fits 16 tid
  | .blockTransferTimeout path => path.wf
  | .dictionaryWrite path index sub _ => path.wf && objectOk index sub
  | .spiWrite _ => true
  | .spiRead => true
  | .spiStatus => true
  | .challenge path => path.wf
  | .response path _ => path.wf
  | .drop path => path.wf
  | .authLockoutExpiry => true
  | .store path _ => path.wf
  | .storeComplete _ => true
  | .restoreDefaults path _ => path.wf
  | .job n _ _ _ => sessionOk n
  | .grantTimerExpiry => true
  | .segmentDecision => true
  | .segmentStaged _ => true
  | .headStart h _ => headOk h
  | .itemComplete h => headOk h
  | .barrierRelease _ _ => true
  | .dataWaitEnd h => headOk h
  | .drainHoldEnd h => headOk h
  | .lineBufferWrite h b => headOk h && axisOk b
  | .segmentClose _ => true
  | .closeMessageSend _ => true
  | .slackEvaluation _ => true
  | .slackReport => true
  | .cancelId path _ => path.wf
  | .defectRecordSplit h _ => headOk h
  | .servoPeriodTick => true
  | .stitchTableWrite path index sub _ => path.wf && objectOk index sub
  | .pipelineDispatch pipe => probeOk pipe
  | .processingComplete pipe => probeOk pipe
  | .featureRecordHandover h => headOk h
  | .archiveCopyComplete h => headOk h
  | .commit path h => path.wf && headOk h
  | .laneDispatch lane => axisOk lane
  | .darkCapture path _ => path.wf
  | .darkCaptureComplete h b => headOk h && axisOk b
  | .loopEnable path h sub _ => path.wf && headOk h && fits 8 sub
  | .lawWrite path law sub _ => path.wf && decide (law < 32) && fits 8 sub
  | .sampleRateSwitch => true
  | .ptpExchangeComplete _ _ _ _ _ _ => true
  | .ptpExchangeTimeout => true
  | .announceTimeout => true
  | .ntReanchor => true
  | .stepNow path _ => path.wf
  | .etIn path _ => path.wf
  | .ntInNanoseconds path _ => path.wf
  | .heartbeatSend => true
  | .heartbeat _ _ _ _ _ _ => true
  | .twinAliveEdge => true
  | .takeover => true
  | .twinLinkFailed => true
  | .ownHeartbeatLapse => true
  | .decision _ _ _ _ => true
  | .outcome _ _ _ _ _ => true
  | .plan _ _ h _ _ _ _ => headOk h
  | .cut _ _ h _ mask _ => headOk h && fits 8 mask
  | .stateMessage _ _ _ _ => true
  | .twinWrite _ _ index sub _ => objectOk index sub
  | .jobCopy _ _ => true
  | .hostCopy _ _ => true
  | .digest _ _ _ => true
  | .ledger _ _ ids channels planned correction delivered withheld => columnsOk ids channels [planned, correction, delivered, withheld]
  | .ledgerSend => true
  | .motion _ _ _ => true
  | .repeatRequest _ _ _ => true
  | .twinMessageLate _ => true
  | .stateDivergenceTimeout => true
  | .twinLinkBlockLock _ _ _ _ _ rank _ _ trips _ => decide (rank < 2) && decide (trips.length = 16)
  | .twinSoloTimeout => true
  | .join path _ => path.wf
  | .autoJoinStart => true
  | .joinReceived _ trips _ => decide (trips.length = 16)
  | .release path _ => path.wf
  | .twinEnable path _ => path.wf
  | .gapRecordTimeout h => headOk h
  | .enableAxis path m _ => path.wf && axisOk m
  | .go path m _ => path.wf && axisOk m
  | .stopAxis path m => path.wf && axisOk m
  | .home path m => path.wf && axisOk m
  | .microstep m => axisOk m
  | .moveComplete m => axisOk m
  | .holdDelayExpiry m => axisOk m
  | .chopCycle m _ _ _ _ => axisOk m
  | .homeEdge m _ => axisOk m
  | .qualifyTimeExpiry m => axisOk m
  | .chatterWindowExpiry m => axisOk m
  | .homingComplete m => axisOk m
  | .limitTrip m => axisOk m
  | .limitRelease m => axisOk m
  | .encoderEdge e levels => axisOk e && fits 2 levels
  | .minEdgeExpiry e levels => axisOk e && fits 2 levels
  | .indexEdge e => axisOk e
  | .hallStateChange e state => axisOk e && fits 3 state
  | .comparePulseEnd n => probeOk n
  | .probeEdge n _ => probeOk n
  | .probeEvent path n => path.wf && probeOk n
  | .encoderCount path e _ => path.wf && axisOk e
  | .armCompare path n _ => path.wf && probeOk n
  | .recoatStart path _ => path.wf
  | .manualReport path _ => path.wf
  | .dramReadComplete ch _ _ _ _ _ h _ _ => dramOk ch && headOk h
  | .caAlert ch => dramOk ch
  | .caAlertRelease ch => dramOk ch
  | .caAlertStuck ch => dramOk ch
  | .refresh ch rank _ => dramOk ch && decide (rank < 2)
  | .zqCalibration => true
  | .caseTempRead ch _ => dramOk ch
  | .caseTempTimeout => true
  | .retrainStart ch => dramOk ch
  | .retrainComplete ch rank _ => dramOk ch && decide (rank < 2)
  | .faultRetrainRetry _ => true
  | .rootGate _ _ _ _ => true
  | .xoEdgeLoss => true
  | .holdoverTimeExpiry => true
  | .pllUnlock pll => decide (pll < 3)
  | .startMeasurement path _ => path.wf
  | .freqMeasurementComplete _ _ => true
  | .cause path reg _ => path.wf && causeRegOk reg
  | .take path reg => path.wf && causeRegOk reg
  | .hostRecord path _ => path.wf
  | .clearTopsoil path _ => path.wf
  | .flush path _ => path.wf
  | .nextRecord path _ => path.wf
  | .cursor path _ => path.wf
  | .recordFlashWrite _ => true
  | .hoursStore => true
  | .sfImage path _ _ => path.wf
  | .mcImage path _ _ => path.wf
  | .trial path _ => path.wf
  | .confirm path _ => path.wf
  | .factoryBlock path _ => path.wf
  | .calibrationUserWrite path index sub _ => path.wf && objectOk index sub
  | .blockLockGain port => portOk port
  | .twinLinkLockLoss => true
  | .pllLockRegained pll => decide (pll < 3)
  | .startupBoundExpiry => true
  | .planDecision h => headOk h
  | .archiveMessageSend => true
  | .featureLogBlockRead path => path.wf
  | .jtagTckEdge _ _ _ _ => true

end Sys2Proof
end

