-- ==== Sys2Proof/Tests/Slice0.lean ====
section
/-!
SUPPORT. Tests: ill-formed commands that WellFormed refuses, and a state and operands that meet the hypotheses of each
statement.
-/
namespace Sys2Proof.Machine
set_option maxRecDepth 100000
set_option Elab.async false

/-! ### WellFormed: one ill-formed command for each check -/

theorem test_wf_refuses_1 : ([
    .railUndervoltage 5,
    .auxExit 16 false,
    .arm (.ring 5) false,
    .run (.ring 5) false,
    .pause (.ring 5) false,
    .resume (.ring 5) false,
    .stop (.ring 5) false,
    .disarm (.ring 5) false,
    .clear (.ring 5) false,
    .restart (.ring 5) false,
    .requestNone (.ring 5) false,
    .stateRequestInvalid (.ring 5) 9] : List Instr).all (fun i => !i.wf) = true := by decide

theorem test_wf_refuses_2 : ([
    .stateRequestInvalid .spi 8,
    .stateRequestInvalid .spi 256,
    .thermalMeasurement [0],
    .opticsTempTimeout 32,
    .downlinkFrameAssembly 32,
    .uplinkFrameReceived 32 0 (List.replicate 99 0) 0,
    .uplinkFrameReceived 0 1024 (List.replicate 99 0) 0,
    .uplinkFrameReceived 0 0 [] 0,
    .uplinkFrameReceived 0 0 (List.replicate 99 1024) 0,
    .headLinkEnableWrite (.ring 5) 0 0,
    .headLinkEnableWrite .spi 32 0,
    .headLinkTrainingTimeout 32] : List Instr).all (fun i => !i.wf) = true := by decide

theorem test_wf_refuses_3 : ([
    .retrainHoldoffExpiry 32,
    .uplinkLockLoss 32,
    .ringFrameReceived 2 [] false 0 0,
    .blockLockLoss 2,
    .bypassEnableWrite (.ring 5) 0,
    .sessionClose 5,
    .ack 5 0 0,
    .rtoExpiry 5 0,
    .ackDelayExpiry 5,
    .sessionTimeout 5,
    .sdoRead (.ring 5) 0 0 0,
    .sdoRead .spi 65536 0 0] : List Instr).all (fun i => !i.wf) = true := by decide

theorem test_wf_refuses_4 : ([
    .sdoRead .spi 0 0x10000 0,
    .sdoRead .spi 0 0 0x100,
    .sdoWrite (.ring 5) 0 0 0 [] false,
    .sdoWrite .spi 65536 0 0 [] false,
    .sdoWrite .spi 0 0x10000 0 [] false,
    .sdoWrite .spi 0 0 0x100 [] false,
    .blockWrite (.ring 5) 0 0 0 0,
    .blockWrite .spi 65536 0 0 0,
    .blockWrite .spi 0 0x10000 0 0,
    .blockWrite .spi 0 0 0x100 0,
    .blockRead (.ring 5) 0 0 0,
    .blockRead .spi 65536 0 0] : List Instr).all (fun i => !i.wf) = true := by decide

theorem test_wf_refuses_5 : ([
    .blockRead .spi 0 0x10000 0,
    .blockRead .spi 0 0 0x100,
    .sdoAbort (.ring 5) 0 0 0,
    .sdoAbort .spi 65536 0 0,
    .blockSegment (.ring 5) 0 0 false [],
    .blockSegment .spi 65536 0 false [],
    .blockTransferTimeout (.ring 5),
    .dictionaryWrite (.ring 5) 0 0 [],
    .dictionaryWrite .spi 0x10000 0 [],
    .dictionaryWrite .spi 0 0x100 [],
    .challenge (.ring 5),
    .response (.ring 5) []] : List Instr).all (fun i => !i.wf) = true := by decide

theorem test_wf_refuses_6 : ([
    .drop (.ring 5),
    .store (.ring 5) 0,
    .restoreDefaults (.ring 5) 0,
    .job 5 false false [],
    .headStart 32 0,
    .itemComplete 32,
    .dataWaitEnd 32,
    .drainHoldEnd 32,
    .lineBufferWrite 32 0,
    .lineBufferWrite 0 8,
    .cancelId (.ring 5) 0,
    .defectRecordSplit 32 0] : List Instr).all (fun i => !i.wf) = true := by decide

theorem test_wf_refuses_7 : ([
    .stitchTableWrite (.ring 5) 0 0 [],
    .stitchTableWrite .spi 0x10000 0 [],
    .stitchTableWrite .spi 0 0x100 [],
    .pipelineDispatch 4,
    .processingComplete 4,
    .featureRecordHandover 32,
    .archiveCopyComplete 32,
    .commit (.ring 5) 0,
    .commit .spi 32,
    .laneDispatch 8,
    .darkCapture (.ring 5) 0,
    .darkCaptureComplete 32 0] : List Instr).all (fun i => !i.wf) = true := by decide

theorem test_wf_refuses_8 : ([
    .darkCaptureComplete 0 8,
    .loopEnable (.ring 5) 0 0 0,
    .loopEnable .spi 32 0 0,
    .loopEnable .spi 0 256 0,
    .lawWrite (.ring 5) 0 0 [],
    .lawWrite .spi 32 0 [],
    .lawWrite .spi 0 256 [],
    .stepNow (.ring 5) 0,
    .etIn (.ring 5) 0,
    .ntInNanoseconds (.ring 5) 0,
    .plan 0 0 32 0 0 0 0,
    .cut 0 0 32 0 0 0] : List Instr).all (fun i => !i.wf) = true := by decide

theorem test_wf_refuses_9 : ([
    .cut 0 0 0 0 256 0,
    .twinWrite 0 0 0x10000 0 [],
    .twinWrite 0 0 0 0x100 [],
    .ledger 0 0 [1] [1, 2] [1] [1] [1] [1],
    .ledger 0 0 [1] [1] [1, 2] [1] [1] [1],
    .ledger 0 0 [1] [1] [1] [1, 2] [1] [1],
    .ledger 0 0 [1] [1] [1] [1] [1, 2] [1],
    .ledger 0 0 [1] [1] [1] [1] [1] [1, 2],
    .twinLinkBlockLock 0 0 0 0 0 2 0 0 (List.replicate 16 0) 0,
    .twinLinkBlockLock 0 0 0 0 0 0 0 0 [] 0,
    .join (.ring 5) 0,
    .joinReceived [] [] 0] : List Instr).all (fun i => !i.wf) = true := by decide

theorem test_wf_refuses_10 : ([
    .release (.ring 5) 0,
    .twinEnable (.ring 5) 0,
    .gapRecordTimeout 32,
    .enableAxis (.ring 5) 0 0,
    .enableAxis .spi 8 0,
    .go (.ring 5) 0 0,
    .go .spi 8 0,
    .stopAxis (.ring 5) 0,
    .stopAxis .spi 8,
    .home (.ring 5) 0,
    .home .spi 8,
    .microstep 8] : List Instr).all (fun i => !i.wf) = true := by decide

theorem test_wf_refuses_11 : ([
    .moveComplete 8,
    .holdDelayExpiry 8,
    .chopCycle 8 false false 0 0,
    .homeEdge 8 false,
    .qualifyTimeExpiry 8,
    .chatterWindowExpiry 8,
    .homingComplete 8,
    .limitTrip 8,
    .limitRelease 8,
    .encoderEdge 8 0,
    .encoderEdge 0 4,
    .minEdgeExpiry 8 0] : List Instr).all (fun i => !i.wf) = true := by decide

theorem test_wf_refuses_12 : ([
    .minEdgeExpiry 0 4,
    .indexEdge 8,
    .hallStateChange 8 0,
    .hallStateChange 0 8,
    .comparePulseEnd 4,
    .probeEdge 4 false,
    .probeEvent (.ring 5) 0,
    .probeEvent .spi 4,
    .encoderCount (.ring 5) 0 0,
    .encoderCount .spi 8 0,
    .armCompare (.ring 5) 0 0,
    .armCompare .spi 4 0] : List Instr).all (fun i => !i.wf) = true := by decide

theorem test_wf_refuses_13 : ([
    .recoatStart (.ring 5) 0,
    .manualReport (.ring 5) 0,
    .dramReadComplete 2 0 0 [] 0 false 0 0 ⟨false, 0⟩,
    .dramReadComplete 0 0 0 [] 0 false 32 0 ⟨false, 0⟩,
    .caAlert 2,
    .caAlertRelease 2,
    .caAlertStuck 2,
    .refresh 2 0 false,
    .refresh 0 2 false,
    .caseTempRead 2 0,
    .retrainStart 2,
    .retrainComplete 2 0 false] : List Instr).all (fun i => !i.wf) = true := by decide

theorem test_wf_refuses_14 : ([
    .retrainComplete 0 2 false,
    .pllUnlock 3,
    .startMeasurement (.ring 5) 0,
    .cause (.ring 5) 0x2100 0,
    .cause .spi 0x2112 0,
    .take (.ring 5) 0x2100,
    .take .spi 0x2112,
    .hostRecord (.ring 5) [],
    .clearTopsoil (.ring 5) 0,
    .flush (.ring 5) 0,
    .nextRecord (.ring 5) 0,
    .cursor (.ring 5) 0] : List Instr).all (fun i => !i.wf) = true := by decide

theorem test_wf_refuses_15 : ([
    .sfImage (.ring 5) [] false,
    .mcImage (.ring 5) [] false,
    .trial (.ring 5) 0,
    .confirm (.ring 5) 0,
    .factoryBlock (.ring 5) [],
    .calibrationUserWrite (.ring 5) 0 0 [],
    .calibrationUserWrite .spi 0x10000 0 [],
    .calibrationUserWrite .spi 0 0x100 [],
    .blockLockGain 2,
    .pllLockRegained 3,
    .planDecision 32,
    .featureLogBlockRead (.ring 5)] : List Instr).all (fun i => !i.wf) = true := by decide

theorem test_wf_admits : ([.vauxApplied, .arm .spi true, .go (.ring 1) 7 0, .downlinkFrameAssembly 31,
    .cause (.ring 4) 0x24DF 1, .stateRequestInvalid .spi 9] : List Instr).all Instr.wf = true := by decide

theorem test_no_word_spells_a_command : decodeTableWord 8 1 = none := by decide

/-! ### Values that the manual works out -/

/-- "123456789" (02_job_model.md, below R42). -/
theorem test_crc32_check_value : crc32 [0x31, 0x32, 0x33, 0x34, 0x35, 0x36, 0x37, 0x38, 0x39] = 0xCBF43926 := by decide +kernel

/-- The same for the CRC-16 of the lanes (R328). -/
theorem test_crc16_check_value : crc16 [0x31, 0x32, 0x33, 0x34, 0x35, 0x36, 0x37, 0x38, 0x39] = 0x29B1 := by decide +kernel

/-- 16 arrivals at 125u + 336 give w = 43 (09_head_link.md, A pixel on the wire). -/
theorem test_link_delay : delayOf (List.replicate 16 86) = 43 := by decide

/-- The first pixel of the same example: the word of code 10 at w = 31, corrected by 1,647. -/
theorem test_pixel_word : BeamNow.word ⟨25924, false, 1, 0, 0⟩ 1647 = 27227 := by decide

/-- The item of 05_beamlet_firing.md, Worked derating, at S = 14. -/
theorem test_derating : derated 1000000 14 = 875000 ∧ deratedPower 45875 14 = 40141 := by decide

/-- The strip of 05_beamlet_firing.md, Worked furrow: seven passes and their masks, every row complete. -/
theorem test_furrow_passes :
    furrowPasses 10 3 ((List.range 8).map (fun b => (b, (b : Int) - 3, 0))) [2, 3, 2]
      = ([⟨-4, 0x80⟩, ⟨-2, 0xE0⟩, ⟨1, 0xFC⟩, ⟨3, 0xFE⟩, ⟨5, 0xFE⟩, ⟨8, 0x1E⟩, ⟨10, 0x06⟩], true) := by decide +kernel

/-- Character 0 of every frame is K28.5, of either disparity (R326), and 99 bytes make 100 characters that are read back. -/
theorem test_frame_begins_with_comma :
    ([false, true].all (fun rd =>
      let cs := (frameChars rd (List.replicate 99 0x5A)).1
      cs.length == 100 && cs.headD 0 == commaOf rd && frameOfChars cs == some (List.replicate 99 0x5A))) = true := by decide +kernel

/-! ### A state and operands that meet the hypotheses of each statement

Each theorem is named after a statement and gives, for each of its clauses that has hypotheses, concrete values that
meet all of them together; where whether an image or a block verifies is left free (Config), for every one that does. -/

/-- In STANDBY with its clocks running, the SPI port at Service level. -/
def wS : State :=
  { State.reset with
    dev.state := .standby
    dev.cause := 0
    power.inhibit := false
    power.step := 0
    clk := ⟨10000000, true, 10000000⟩
    clocks.mainLock := true
    clocks.dramLock := true
    clocks.serdesLock := true
    dram.channels := List.replicate 2 { DramChannel.initial with trained := true }
    sessions := { Session.port with level := .service } :: List.replicate 4 Session.closed }

/-- The same in another device state. -/
def wD (d : DevState) : State := { wS with dev.state := d }

/-- The same with a value of an object. -/
def wV (s : State) (index sub : Nat) (v : Int) : State := { s with regs := regsPut (regKey index sub) v s.regs }

/-- In start-up at a step. -/
def wP (n : Nat) : State :=
  { State.reset with
    dev.state := if n ≤ 4 then .boot else .restricted
    power.step := n
    clk := ⟨10000000, true, 10000000⟩ }

/-- A PRIMARY with its SHADOW, in a device state. -/
def wTwin (d : DevState) : State :=
  { wD d with
    twin.role := .primary
    twin.linkLock := true
    twin.partnerRole := .shadow }

/-- A SHADOW that has had no message yet. -/
def wSh : State := { wS with twin.role := .shadow, twin.linkLock := true, twin.partnerRole := .primary }

/-- Heads with one of them given. -/
def wHead (x : Head) : List Head := (List.replicate 32 Head.initial).set 0 x

/-- Head 0 with its link in OPERATION. -/
def wHeads : List Head := wHead { Head.initial with link.state := .operation }

/-- A DRAM channel changed on both. -/
def wCh (c : DramChannel) : State := { wS with dram.channels := [c, c] }

/-- Some time later. -/
def wAt (s : State) (et : Tick) : State := { s with clk := ⟨et, true, et⟩ }

/-- Session 1 open, with what is given, and both ring ports locked. -/
def wN (x : Session) : State :=
  { wS with
    sessions := [{ Session.port with level := .service }, x, Session.closed, Session.closed, Session.closed]
    ring.portA := ⟨true, []⟩
    ring.portB := ⟨true, []⟩ }

/-- An open session. -/
def wO : Session := { Session.closed with isOpen := true, peer := 9, level := .operator }

/-- The port's own session with what is given. -/
def wPort (x : Session) : State := { wS with sessions := { x with level := .service, isOpen := true } :: List.replicate 4 Session.closed }

/-- Both ring ports locked, with the ring's other state given. -/
def wRing (b : BypassState) (forwarding fallen : Bool) : State :=
  { wS with ring := { State.reset.ring with portA := ⟨true, []⟩, portB := ⟨true, []⟩, bypass := b, forwarding := forwarding, fallen := fallen } }

/-- The same without locks. -/
def wDark (b : BypassState) (forwarding fallen : Bool) : State :=
  { wS with ring := { State.reset.ring with bypass := b, forwarding := forwarding, fallen := fallen } }

/-- A frame of 60 bytes of a given source, EtherType and HOPS, to station 2. -/
def wFrame (source : Byte) (type : List Byte) (hops : Byte) : List Byte :=
  [2, 0, 0, 0, 0, 0, source, 0, 0, 0, 0, 0] ++ type ++ [0, hops] ++ List.replicate 44 0

/-- A SESSION_OPEN of version 1.0 throughout, as job session or not. -/
def wAsk (job : Byte) : List Byte := [0, job, 0, 0, 0, 1, 0, 1, 0, 1, 0, 1, 0, 1, 0, 1]

/-- An SPI frame of no message. -/
def wSpi : List Byte := [0, 0] ++ leBytes 2 (crc16 [0, 0])

/-- A job session at work, with a reception of 32 bytes that says it takes so many words. -/
def wJob (words : Byte) : State :=
  { wV (wN { wO with job := true }) 0x3012 5 1000 with
    job.receiving := some ⟨5, List.replicate 24 0 ++ [words] ++ List.replicate 7 0, false⟩ }

/-- A JOB payload of four bytes at an offset. -/
def wData (offset : Byte) : List Byte := [offset] ++ List.replicate 11 0

/-- Head 0 with its path given, its link in OPERATION. -/
def wPath (x : HeadPath) : List Head := wHead { Head.initial with path := x, link.state := .operation }

/-- Head 0 with its link given. -/
def wLink (x : HeadLink) : State := { wS with heads := wHead { Head.initial with link := x } }

/-- An uplink frame of a header byte and an AUX type byte, as its characters. -/
def wUp (b0 b1 : Byte) : List Byte :=
  let body := [b0, b1] ++ List.replicate 95 0
  body ++ leBytes 2 (crc16 body)

/-- An item of head 0. -/
def wItem (body : ItemBody) : Item := ⟨0, 0, 9, 2, false, 0, 0, paramOf (List.replicate 16 1000), [], body⟩

/-- Head 0's part of a segment. -/
def wPart (part : HeadPart) (next : Nat) : SegHead :=
  ⟨0, part, 0, 0, 0, 0, [], [], [], next, ⟨0, []⟩, ⟨0, []⟩, none, false, 0, [], List.replicate 8 ⟨0, 0, 0, 0⟩⟩

/-- Segment 7 of head 0. -/
def wSeg (state : SegState) (items : List Item) (part : SegHead) : Segment :=
  ⟨1, 7, 1, 0, 1, 0, 0, [], state, items, [part], 1, 2 ^ 40, 0, none, 0, 0, false, [], [], []⟩

/-- EXPOSING a layer that has been reported, with a segment and head 0's path. -/
def wExp (g : Segment) (x : HeadPath) : State :=
  { wD .exposing with
    job.segments := [g]
    motion.recoat.valid := true
    heads := wPath x }

/-- An item in progress that is over. -/
def wRun : ItemRun := ⟨1, 0, 0, 16, [], [], List.replicate 8 [], 0, 0, 0, 0, 0⟩

/-- A stretch that is entered at an ET. -/
def wStretch (entry : Tick) (passed : Bool) : Stretch :=
  ⟨[], 1, 1, entry * 65536, entry * 65536, entry * 65536, entry * 65536, List.replicate 8 0, [], passed, none, false, false, false⟩

/-- A segment of one DWELL for head 0, as the ring carries it. -/
def wWords : List Nat :=
  let ws := [7, 0, 1, 0, 0, 0x01000001, 12, 0, 0x10000, 0x09020000, 1000]
  ws ++ [crc32 (ws.flatMap (leBytes 4))]

/-- That segment, or one of no words, submitted. -/
def wSub (ws : List Nat) : Segment := { wSeg .submitted [] (wPart .waiting 0) with words := ws, heads := [], admitNo := 0 }

/-- A state that takes that segment. -/
def wAdmit (ws : List Nat) : State :=
  { wV wS 0x3000 3 256 with
    job.segments := [wSub ws]
    ring.portA := ⟨true, []⟩
    heads := wHeads }

/-- What the admission of that segment answers. -/
def wAdm : Admission :=
  match (wAdmit wWords).judgeSegment (wSub wWords) 10000000 12500 with
  | .ok a => a
  | .error _ => ⟨⟨[], 0, []⟩, [], ⟨0, 0, 0⟩⟩

/-- What the refusal of a segment of no words answers. -/
def wRef : Refused :=
  match (wAdmit []).judgeSegment (wSub []) 10000000 12500 with
  | .ok _ => Refused.plain 0 0
  | .error r => r

/-- A defect record of head 0. -/
def wRecord : DefectRecord := ⟨0x10, none, 0, 1, false, 1, 0, 0, 0, 0, (0, 0), (0, 0), 0, false, 1, none⟩

/-- A camera frame. -/
def wFrameOf (state : BufState) : CamFrame :=
  ⟨state, 1, 0, Generation.initial, 0, 10000000, List.replicate 64 0, false, false, 10000000, 0, ⟨none, 0, 0, 0, 0, 0, 0, false⟩⟩

/-- Head 0 with a camera frame. -/
def wCam (f : CamFrame) : List Head := wHead { Head.initial with camera.frames := [f], link.state := .operation }

/-- An uplink frame numbered. -/
def wUp2 (b0 n : Byte) : List Byte :=
  let body := [b0] ++ List.replicate 6 0 ++ [n] ++ List.replicate 89 0
  body ++ leBytes 2 (crc16 body)

/-- Axis 0 given, the others as after reset. -/
def wAxis (x : Axis) : State := { wS with motion.axes := x :: List.replicate 7 Axis.initial }

/-- A ramp of ten microsteps with so many done. -/
def wRamp (done : Nat) : Ramp := ⟨0, 1, [(4000000, 100000), (-4000000, 100000)], 0, 0, 0, 10, done, 0, 0⟩

/-- Encoder 0 given. -/
def wEnc (x : Encoder) : State := { wS with motion.encoders := x :: List.replicate 7 ⟨0, 0, 0, false, none, 0, 0⟩ }

/-- Encoder 0 in its window, at rest levels 0. -/
def wE : Encoder := ⟨0, 0, 0, false, none, 0, 0⟩

/-- Probe 0 given. -/
def wProbe (x : Probe) : State := { wV wS 0x9090 1 3 with motion.probes := x :: List.replicate 3 ⟨[]⟩ }

/-- Sixteen captures, or fewer. -/
def wCaptures (n : Nat) : List ProbeEvent := List.replicate n ⟨5, List.replicate 8 0, List.replicate 8 0⟩

/-- A master that has answered an exchange. -/
def wTime (unset : Bool) : State :=
  { wS with
    time.master := some ⟨0, [], 1, 1, 1⟩
    time.unset := unset
    time.last := some (500, 9000000)
    time.exchange := some (1, 10000000) }


theorem w_block (bs : List Byte) (h : wS.blockFault bs = 0) : wS.blockRefusal .spi bs = none := by
  have hw : wS.writeGate .spi 0xB010 2 = none := by decide +kernel
  simp [State.blockRefusal, hw, h, orElse, refuseIf]
  decide +kernel

/-- A PRIMARY that may join its partner, without and with AUTO_JOIN. -/
def wJoin (s : State) : State :=
  { s with twin.role := .primary, twin.linkLock := true, twin.partnerRole := .cold, twin.partner := some ⟨256, 256, 0, 0, s.configDigest, 1, 1⟩ }

/-- A controller of rank 1 whose partner agrees. -/
def wRank : State := wV (wV wS 0xD000 1 1) 0xD000 2 1

theorem w_agrees (s : State) (rank : Nat) (hv : s.twinVersion ⟨256, 256, 0, 0, 0, 0, 0⟩ = some 256)
    (hf : s.images.runningVersion (fun k => k.sf) = 0) (hm : s.images.runningVersion (fun k => k.mc) = 0) :
    s.mismatch ⟨256, 256, 0, 0, s.configDigest, rank, 1⟩ = none := by
  have hv' : s.twinVersion ⟨256, 256, 0, 0, s.configDigest, rank, 1⟩ = some 256 := hv
  simp [State.mismatch, hf, hm, hv']

theorem wJoin_ready (s : State) (hv : s.twinVersion ⟨256, 256, 0, 0, 0, 0, 0⟩ = some 256)
    (hf : s.images.runningVersion (fun k => k.sf) = 0) (hm : s.images.runningVersion (fun k => k.mc) = 0)
    (hj : s.job.segments.any (fun g => g.unfinished) = false) : (wJoin s).joinReady = true := by
  have h : (wJoin s).mismatch ⟨256, 256, 0, 0, s.configDigest, 1, 1⟩ = none := w_agrees (wJoin s) 1 hv hf hm
  have hp : (wJoin s).twin.partner = some ⟨256, 256, 0, 0, s.configDigest, 1, 1⟩ := rfl
  have hs : (wJoin s).job.segments.any (fun g => g.unfinished) = false := hj
  simp only [State.joinReady, hp, hs, h, Option.map_some, Option.isNone_none, Option.getD_some]
  rfl

theorem wAdm_ok : (wAdmit wWords).judgeSegment (wSub wWords) (wAdmit wWords).et (wAdmit wWords).dramLatency = .ok wAdm := by
  have hl : (wAdmit wWords).dramLatency = 12500 := by decide +kernel
  have he : (wAdmit wWords).et = 10000000 := rfl
  have ho : ((wAdmit wWords).judgeSegment (wSub wWords) 10000000 12500).isOk = true := by decide +kernel
  rw [hl, he, wAdm]
  revert ho
  cases (wAdmit wWords).judgeSegment (wSub wWords) 10000000 12500 with
  | ok a => intro _; rfl
  | error e => intro h; cases h

theorem wRef_error : (wAdmit []).judgeSegment (wSub []) (wAdmit []).et (wAdmit []).dramLatency = .error wRef := by
  have hl : (wAdmit []).dramLatency = 12500 := by decide +kernel
  have he : (wAdmit []).et = 10000000 := rfl
  have ho : ((wAdmit []).judgeSegment (wSub []) 10000000 12500).isOk = false := by decide +kernel
  rw [hl, he, wRef]
  revert ho
  cases (wAdmit []).judgeSegment (wSub []) 10000000 12500 with
  | ok a => intro h; cases h
  | error e => intro _; rfl

theorem witness_StepRunsFrontCommand :
    ∃ (c : Instr) (rest : List Instr) (s : State), s.pending = c :: rest :=
  ⟨.vauxLost, [], { State.reset with pending := [.vauxLost] }, by decide +kernel⟩

theorem witness_IdleStepIsOneTick :
    (∃ (s : State), s.pending = [] ∧ s.deferred = [] ∧ (∀ o ∈ s.twin.orders, ∀ c e, o ≠ TwinOrder.state 8 c e))
    ∧ (∃ (s : State), s.pending = [] ∧ s.deferred ≠ []) :=
  ⟨⟨State.reset, by decide +kernel, by decide +kernel, (by intro o h; cases h)⟩,
   ⟨{ State.reset with deferred := [.vauxLost] }, by decide +kernel, by decide +kernel⟩⟩

theorem witness_StepKeepsStoredCanonical :
    ∃ s t : State, s.Stored ∧ step s = .next t :=
  ⟨{ State.reset with pending := [.ptpExchangeTimeout] }, _, ⟨⟨List.Pairwise.nil, by intro p h; cases h⟩,
      ⟨List.Pairwise.nil, by intro p h; cases h⟩, ⟨⟨List.Pairwise.nil, by intro p h; cases h⟩, ⟨List.Pairwise.nil,
      by intro p h; cases h⟩, by intro w h; cases h⟩, List.Pairwise.nil⟩, rfl⟩

theorem witness_OnlyTheseCommandsMoveTheDeviceState :
    ∃ (c : Instr) (s t : State), c.touchesDeviceState = false ∧ exec c s = .next t :=
  ⟨.ptpExchangeTimeout, wS, _, rfl, rfl⟩

theorem witness_InhibitStaysUntilReleased :
    ∃ (c : Instr) (s t : State), s.power.inhibit = true ∧ c ≠ .laserInhibitReleased ∧ exec c s = .next t :=
  ⟨.ptpExchangeTimeout, State.reset, _, rfl, by decide, rfl⟩

theorem witness_TripStaysUntilRestart :
    ∃ (c : Instr) (s t : State), s.thermal.tripped = true ∧ c ≠ .thermalRestart ∧ c ≠ .vauxLost ∧ exec c s = .next t :=
  ⟨.ptpExchangeTimeout, { wS with thermal.tripped := true }, _, rfl, by decide, by decide, rfl⟩

theorem witness_UnservedPathHasNoEffect :
    (∃ (c : Instr) (p : Path) (s : State), c.path? = some p ∧ s.served p = false)
    ∧ (∃ (c : Instr) (p : Path) (s : State), c.path? = some p ∧ s.served p = true ∧ s.turn (pathRank p) = false) :=
  ⟨⟨.challenge (.ring 4), .ring 4, wS, by decide +kernel, by decide +kernel⟩,
   ⟨.challenge .spi, .spi, { wS with pending := [.laserInhibitAsserted] }, by decide +kernel, by decide +kernel,
      by decide +kernel⟩⟩

theorem witness_SupplyEventsComplete :
    (∃ (s : State), s.dev.state = .off)
    ∧ (∃ (s : State), s.dev.state ≠ .off)
    ∧ (∃ (s : State), s.dev.state = .aux ∧ s.thermal.tripped = false)
    ∧ (∃ (s : State), s.dev.state = .aux ∧ s.thermal.tripped = true)
    ∧ (∃ (s : State), s.dev.state = .aux) :=
  ⟨⟨wD .off, by decide +kernel⟩,
   ⟨wS, by decide +kernel⟩,
   ⟨wD .aux, by decide +kernel, by decide +kernel⟩,
   ⟨{ wD .aux with thermal.tripped := true }, by decide +kernel, by decide +kernel⟩,
   ⟨wD .aux, by decide +kernel⟩⟩

theorem witness_MainResetsEnterAux :
    (∃ (s : State), s.dev.state ≠ .off ∧ s.dev.state ≠ .aux)
    ∧ (∃ (s : State), s.dev.state ≠ .off ∧ s.dev.state ≠ .aux)
    ∧ (∃ (s : State) (rail : Nat), s.dev.state ≠ .off ∧ s.dev.state ≠ .aux ∧ rail < 5) :=
  ⟨⟨wS, by decide +kernel, by decide +kernel⟩,
   ⟨wS, by decide +kernel, by decide +kernel⟩,
   ⟨wS, 4, by decide +kernel, by decide +kernel, by decide +kernel⟩⟩

theorem witness_LaserInhibitCommandsComplete :
    (∃ (s : State), s.turn 4 = true ∧ s.dev.state ≠ .off ∧ s.dev.state ≠ .aux ∧ s.power.inhibit = false)
    ∧ (∃ (s : State), s.turn 4 = true ∧ s.dev.state ≠ .off ∧ s.dev.state ≠ .aux ∧ s.power.inhibit = true) :=
  ⟨⟨wS, by decide +kernel, by decide +kernel, by decide +kernel, by decide +kernel⟩,
   ⟨{ wS with power.inhibit := true }, by decide +kernel, by decide +kernel, by decide +kernel, by decide +kernel⟩⟩

theorem witness_ClockStartupStepsComplete :
    (∃ (s : State), s.atStep 2 = true ∧ s.clocks.stable = false)
    ∧ (∃ (s : State), s.atStep 2 = true ∧ s.clocks.stable = true ∧ s.clocks.mainLock = false ∧ s.clk.running = false)
    ∧ (∃ (s : State), s.atStep 2 = true ∧ s.clocks.stable = true ∧ s.clocks.mainLock = false ∧ s.clk.running = true)
    ∧ (∃ (s : State), s.atStep 2 = true ∧ s.clocks.mainLock = true) :=
  ⟨⟨State.reset, by decide +kernel, by decide +kernel⟩,
   ⟨{ State.reset with clocks.stable := true }, by decide +kernel, by decide +kernel, by decide +kernel,
      by decide +kernel⟩,
   ⟨{ State.reset with clocks.stable := true, clk.running := true }, by decide +kernel, by decide +kernel,
      by decide +kernel, by decide +kernel⟩,
   ⟨{ State.reset with clocks.mainLock := true }, by decide +kernel, by decide +kernel⟩⟩

theorem witness_MemoryAndImageStartupStepsComplete :
    (∃ (s : State) (gib : Nat) (ranks : Nat), s.atStep 3 = true ∧ dramSize s.power.dramOrg = some (gib, ranks))
    ∧ (∃ (s : State), s.atStep 3 = true)
    ∧ (∀ x : Slot, x.complete 0 = true → ∃ (s : State) (n : Nat) (f : Bool), s.atStep 4 = true ∧
      s.chosenSlot = some (n, f))
    ∧ (∃ (s : State), s.atStep 4 = true ∧ s.chosenSlot = none) :=
  ⟨⟨wP 3, 2, 1, by decide +kernel, by decide +kernel⟩,
   ⟨wP 3, by decide +kernel⟩,
   fun x hx => ⟨{ wP 4 with images.slotA := x, images.slotB := x }, 0, false, by rfl, if_pos hx⟩,
   ⟨wP 4, by decide +kernel, by decide +kernel⟩⟩

theorem witness_LateStartupStepsComplete :
    (∃ (s : State), s.atStep 5 = true ∧ s.ring.forwarding = true)
    ∧ (∃ (s : State), s.atStep 5 = true)
    ∧ (∃ (s : State), s.atStep 6 = true ∧ s.linksSettled = true)
    ∧ (∃ (s : State), s.atStep 7 = true ∧ s.images.tested = true ∧ s.images.blockValid = true)
    ∧ (∃ (s : State), s.atStep 7 = true ∧ (s.images.tested = false ∨ s.images.blockValid = false))
    ∧ (∃ (s : State), s.atStep 2 = true)
    ∧ (∃ (s : State), s.atStep 3 = true)
    ∧ (∃ (s : State), s.atStep 4 = true)
    ∧ (∃ (s : State), s.atStep 5 = true)
    ∧ (∃ (s : State), s.atStep 6 = true)
    ∧ (∃ (s : State), s.atStep 7 = true) :=
  ⟨⟨{ wP 5 with ring.forwarding := true }, by decide +kernel, by decide +kernel⟩,
   ⟨wP 5, by decide +kernel⟩,
   ⟨{ wP 6 with heads := List.replicate 32 { Head.initial with link.state := .failed } }, by decide +kernel,
      by decide +kernel⟩,
   ⟨{ wP 7 with images.tested := true, images.blockValid := true }, by decide +kernel, by decide +kernel,
      by decide +kernel⟩,
   ⟨wP 7, by decide +kernel, by decide +kernel⟩,
   ⟨wP 2, by decide +kernel⟩,
   ⟨wP 3, by decide +kernel⟩,
   ⟨wP 4, by decide +kernel⟩,
   ⟨wP 5, by decide +kernel⟩,
   ⟨wP 6, by decide +kernel⟩,
   ⟨wP 7, by decide +kernel⟩⟩

theorem witness_ArmRunDisarmClearComplete :
    (∃ (s : State) (p : Path), s.Takes p (s.writeGate p 0x2001 2) ∧ s.dev.autoThisCycle = false ∧
      (s.twin.role = .solo ∨ s.twin.role = .primary) ∧ s.hasShadow = false ∧ s.dev.state = .standby ∧
      s.power.inhibit = false ∧ s.operating ≠ [])
    ∧ (∃ (s : State) (p : Path), s.Takes p (s.writeGate p 0x2001 2) ∧ s.dev.autoThisCycle = false ∧
      (s.twin.role = .solo ∨ s.twin.role = .primary) ∧ s.hasShadow = false ∧ s.dev.state = .armed)
    ∧ (∃ (s : State) (p : Path), s.Takes p (s.writeGate p 0x2001 2) ∧ s.dev.autoThisCycle = false ∧
      (s.twin.role = .solo ∨ s.twin.role = .primary) ∧ s.hasShadow = false ∧ s.dev.state = .armed)
    ∧ (∃ (s : State) (p : Path), s.Takes p (s.writeGate p 0x2001 2) ∧ s.dev.autoThisCycle = false ∧
      (s.twin.role = .solo ∨ s.twin.role = .primary) ∧ s.hasShadow = false ∧ s.dev.state = .fault ∧
      s.present s.dev.cause = false)
    ∧ (∃ (s : State) (p : Path), s.Takes p (s.writeGate p 0x2001 2) ∧ s.dev.autoThisCycle = false ∧
      s.hasShadow = true ∧ s.twin.role = .primary ∧ s.dev.state = .standby ∧ s.power.inhibit = false ∧ s.operating ≠ [])
    ∧ (∃ (s : State) (p : Path), s.Takes p (s.writeGate p 0x2001 2) ∧ s.dev.autoThisCycle = false ∧
      s.hasShadow = true ∧ s.twin.role = .primary ∧ s.dev.state = .armed)
    ∧ (∃ (s : State) (p : Path), s.Takes p (s.writeGate p 0x2001 2) ∧ s.dev.autoThisCycle = false ∧
      s.hasShadow = true ∧ s.twin.role = .primary ∧ s.dev.state = .armed) :=
  ⟨⟨{ wS with heads := wHeads }, .spi, ⟨by decide +kernel, by decide +kernel, by decide +kernel⟩, by decide +kernel,
      by decide +kernel, by decide +kernel, by decide +kernel, by decide +kernel, by decide +kernel⟩,
   ⟨wD .armed, .spi, ⟨by decide +kernel, by decide +kernel, by decide +kernel⟩, by decide +kernel, by decide +kernel,
      by decide +kernel, by decide +kernel⟩,
   ⟨wD .armed, .spi, ⟨by decide +kernel, by decide +kernel, by decide +kernel⟩, by decide +kernel, by decide +kernel,
      by decide +kernel, by decide +kernel⟩,
   ⟨wD .fault, .spi, ⟨by decide +kernel, by decide +kernel, by decide +kernel⟩, by decide +kernel, by decide +kernel,
      by decide +kernel, by decide +kernel, by decide +kernel⟩,
   ⟨{ wTwin .standby with heads := wHeads }, .spi, ⟨by decide +kernel, by decide +kernel, by decide +kernel⟩,
      by decide +kernel, by decide +kernel, by decide +kernel, by decide +kernel, by decide +kernel, by decide +kernel⟩,
   ⟨wTwin .armed, .spi, ⟨by decide +kernel, by decide +kernel, by decide +kernel⟩, by decide +kernel,
      by decide +kernel, by decide +kernel, by decide +kernel⟩,
   ⟨wTwin .armed, .spi, ⟨by decide +kernel, by decide +kernel, by decide +kernel⟩, by decide +kernel,
      by decide +kernel, by decide +kernel, by decide +kernel⟩⟩

theorem witness_PauseResumeStopRestartComplete :
    (∃ (s : State) (p : Path), s.Takes p (s.writeGate p 0x2001 2) ∧ s.dev.autoThisCycle = false ∧
      (s.twin.role = .solo ∨ s.twin.role = .primary) ∧ s.hasShadow = false ∧ s.dev.state = .exposing ∧
      s.dev.pausePending = false)
    ∧ (∃ (s : State) (p : Path), s.Takes p (s.writeGate p 0x2001 2) ∧ s.dev.autoThisCycle = false ∧
      (s.twin.role = .solo ∨ s.twin.role = .primary) ∧ s.hasShadow = false ∧ s.dev.state = .paused ∧
      s.power.inhibit = false ∧ s.thermal.tripped = false ∧ [0x31, 0x32, 0x33].any s.present = false)
    ∧ (∃ (s : State) (p : Path), s.Takes p (s.writeGate p 0x2001 2) ∧ s.dev.autoThisCycle = false ∧
      (s.twin.role = .solo ∨ s.twin.role = .primary) ∧ s.hasShadow = false ∧
      (s.dev.state = .exposing ∨ s.dev.state = .paused))
    ∧ (∃ (s : State) (p : Path), s.Takes p (s.writeGate p 0x2001 2) ∧ s.dev.autoThisCycle = false ∧
      (s.twin.role = .solo ∨ s.twin.role = .primary) ∧ s.hasShadow = false ∧
      (s.dev.state = .restricted ∨ s.dev.state = .standby ∨ s.dev.state = .fault) ∧ (s.on p).level = .service) :=
  ⟨⟨wD .exposing, .spi, ⟨by decide +kernel, by decide +kernel, by decide +kernel⟩, by decide +kernel,
      by decide +kernel, by decide +kernel, by decide +kernel, by decide +kernel⟩,
   ⟨wD .paused, .spi, ⟨by decide +kernel, by decide +kernel, by decide +kernel⟩, by decide +kernel, by decide +kernel,
      by decide +kernel, by decide +kernel, by decide +kernel, by decide +kernel, by decide +kernel⟩,
   ⟨wD .exposing, .spi, ⟨by decide +kernel, by decide +kernel, by decide +kernel⟩, by decide +kernel,
      by decide +kernel, by decide +kernel, by decide +kernel⟩,
   ⟨wD .fault, .spi, ⟨by decide +kernel, by decide +kernel, by decide +kernel⟩, by decide +kernel, by decide +kernel,
      by decide +kernel, by decide +kernel, by decide +kernel⟩⟩

theorem witness_OtherRequestsAndWatchdogComplete :
    (∃ (s : State) (p : Path), s.Takes p (s.writeGate p 0x2001 2))
    ∧ (∃ (s : State) (p : Path) (code : Nat), s.Takes p (s.writeGate p 0x2001 2) ∧ 8 < code)
    ∧ (∃ (s : State), s.dev.state = .exposing ∧ s.dev.pausePending = true ∧ s.allHold = true)
    ∧ (∃ (s : State), s.turn 3 = true ∧ s.dev.state.faults = true ∧ s.thermal.tripped = false ∧ s.twin.role = .solo)
    ∧ (∃ (s : State), s.dev.coresDown = true ∧ s.recorder.queue.length + s.recorder.front.length ≤ 256) :=
  ⟨⟨wS, .spi, ⟨by decide +kernel, by decide +kernel, by decide +kernel⟩⟩,
   ⟨wS, .spi, 9, ⟨by decide +kernel, by decide +kernel, by decide +kernel⟩, by decide +kernel⟩,
   ⟨{ wD .exposing with dev.pausePending := true }, by decide +kernel, by decide +kernel, by decide +kernel⟩,
   ⟨wS, by decide +kernel, by decide +kernel, by decide +kernel, by decide +kernel⟩,
   ⟨{ wS with dev.coresDown := true }, by decide +kernel, by decide +kernel⟩⟩

theorem witness_ThermalCommandsComplete :
    (∃ (s : State) (readings : List Int), s.turn 2 = true ∧ s.dev.state ≠ .off ∧ s.dev.state ≠ .aux ∧
      (hottest (partReadings s.thermal.sensors (s.thermal.measured readings s.clk.island).1)).2 < 11800)
    ∧ (∃ (s : State) (readings : List Int), s.turn 2 = true ∧ s.dev.state ≠ .off ∧ s.dev.state ≠ .aux ∧
      11800 ≤ (hottest (partReadings s.thermal.sensors (s.thermal.measured readings s.clk.island).1)).2 ∧
      s.thermal.tripped = false)
    ∧ (∃ (s : State), s.cooled = true ∧ s.dev.state = .fault ∧ s.dev.cause = 0x30 ∧ s.dev.kept.filter s.present = [] ∧
      (s.dev.tripFrom = .armed ∨ s.dev.tripFrom = .exposing ∨ s.dev.tripFrom = .paused))
    ∧ (∃ (s : State), s.cooled = true ∧ s.dev.state = .fault ∧ s.dev.cause = 0x30 ∧ s.dev.kept.filter s.present = [] ∧
      (s.dev.tripFrom = .standby ∨ s.dev.tripFrom = .fault))
    ∧ (∃ (s : State), s.cooled = true ∧ s.dev.state = .fault ∧ s.dev.cause = 0x30 ∧ 0x30 ∉ s.dev.kept ∧
      s.dev.kept.filter s.present ≠ [])
    ∧ (∃ (h : Nat), h < 32) :=
  ⟨⟨wS, List.replicate 16 11799, by decide +kernel, by decide +kernel, by decide +kernel, by decide +kernel⟩,
   ⟨wS, List.replicate 16 11800, by decide +kernel, by decide +kernel, by decide +kernel, by decide +kernel,
      by decide +kernel⟩,
   ⟨{ wAt (wD .fault) 650000000 with dev.cause := 0x30, thermal.tripped := true, thermal.cool := true, dev.tripFrom := .armed },
      by decide +kernel, by decide +kernel, by decide +kernel, by decide +kernel, by decide +kernel⟩,
   ⟨{ wAt (wD .fault) 650000000 with dev.cause := 0x30, thermal.tripped := true, thermal.cool := true, dev.tripFrom := .standby },
      by decide +kernel, by decide +kernel, by decide +kernel, by decide +kernel, by decide +kernel⟩,
   ⟨{ wAt (wD .fault) 650000000 with dev.cause := 0x30, thermal.tripped := true, thermal.cool := true, dev.kept := [0x34] },
      by decide +kernel, by decide +kernel, by decide +kernel, by decide +kernel, by decide +kernel⟩,
   ⟨31, by decide +kernel⟩⟩

theorem witness_ClockRootCommandsComplete :
    (∃ (s : State) (a : Int) (b : Int) (c : Int) (x : Int), s.turn 3 = true ∧ s.clocks.mainLock = true ∧
      s.clocks.qualified s.preferred = true ∧
      (({ s.clocks with portA := s.clocks.portA.gate a s.clk.island, portB := s.clocks.portB.gate b s.clk.island, twinLink := s.clocks.twinLink.gate c s.clk.island } : ClockUnit).oscillator x).qualified s.preferred = true)
    ∧ (∃ (s : State) (a : Int) (b : Int) (c : Int) (x : Int), s.turn 3 = true ∧ s.clocks.mainLock = true ∧
      (({ s.clocks with portA := s.clocks.portA.gate a s.clk.island, portB := s.clocks.portB.gate b s.clk.island, twinLink := s.clocks.twinLink.gate c s.clk.island } : ClockUnit).oscillator x).qualified s.preferred = true)
    ∧ (∃ (s : State) (a : Int) (b : Int) (c : Int) (x : Int), s.turn 3 = true ∧ s.clocks.mainLock = true ∧
      (({ s.clocks with portA := s.clocks.portA.gate a s.clk.island, portB := s.clocks.portB.gate b s.clk.island, twinLink := s.clocks.twinLink.gate c s.clk.island } : ClockUnit).oscillator x).qualified s.preferred = false ∧
      (({ s.clocks with portA := s.clocks.portA.gate a s.clk.island, portB := s.clocks.portB.gate b s.clk.island, twinLink := s.clocks.twinLink.gate c s.clk.island } : ClockUnit).oscillator x).holdoverSpent = false ∧
      s.reg 0x2010 2 ≠ 0)
    ∧ (∃ (s : State), s.turn 3 = true ∧ s.dev.state ≠ .off ∧ s.dev.state ≠ .aux ∧ s.clocks.mainLock = false)
    ∧ (∃ (s : State), s.turn 3 = true ∧ s.dev.state ≠ .off ∧ s.dev.state ≠ .aux ∧ s.clocks.mainLock = true ∧
      s.preferred ≠ 2 ∧ s.clocks.qualified s.preferred = true)
    ∧ (∃ (s : State), s.turn 3 = true ∧ s.clocks.inHoldover = true ∧ s.clocks.qualified s.preferred = false ∧
      s.clocks.xoQualified = true) :=
  ⟨⟨{ wS with clocks.portA := ⟨true, 0, true⟩ }, 0, 0, 0, 0, by decide +kernel, by decide +kernel, by decide +kernel,
      by decide +kernel⟩,
   ⟨{ wS with clocks.portA := ⟨true, 0, true⟩, clocks.root := 4 }, 0, 0, 0, 0, by decide +kernel, by decide +kernel,
      by decide +kernel⟩,
   ⟨{ wS with clocks.holdoverSpent := false }, 0, 0, 0, 0, by decide +kernel, by decide +kernel, by decide +kernel,
      by decide +kernel, by decide +kernel⟩,
   ⟨{ wS with clocks.mainLock := false }, by decide +kernel, by decide +kernel, by decide +kernel, by decide +kernel⟩,
   ⟨{ wS with clocks.portA := ⟨true, 0, true⟩, clocks.xoQualified := true }, by decide +kernel, by decide +kernel,
      by decide +kernel, by decide +kernel, by decide +kernel, by decide +kernel⟩,
   ⟨{ wS with clocks.inHoldover := true, clocks.xoQualified := true }, by decide +kernel, by decide +kernel,
      by decide +kernel, by decide +kernel⟩⟩

theorem witness_PllAndFrequencyCommandsComplete :
    (∃ (s : State) (pll : Nat), s.turn 3 = true ∧ s.clocks.lockOf pll = true ∧ s.thermal.tripped = false ∧
      s.dev.state.faults = true)
    ∧ (∃ (s : State) (pll : Nat), s.turn 3 = true ∧ s.clocks.lockOf pll = true ∧ s.thermal.tripped = true)
    ∧ (∃ (s : State), s.clk.running = true ∧ s.power.step ≠ 2)
    ∧ (∃ (s : State) (p : Path), s.Takes p (s.writeGate p 0x2012 5) ∧ s.clocks.freqBusy = false)
    ∧ (∃ (s : State), s.clocks.freqBusy = true ∧ s.ungated (s.regN 0x2012 1) = true)
    ∧ (∃ (s : State) (running : Bool), s.clocks.freqBusy = true ∧ (running && s.ungated (s.regN 0x2012 1)) = false) :=
  ⟨⟨wS, 0, by decide +kernel, by decide +kernel, by decide +kernel, by decide +kernel⟩,
   ⟨{ wD .fault with thermal.tripped := true }, 0, by decide +kernel, by decide +kernel, by decide +kernel⟩,
   ⟨wS, by decide +kernel, by decide +kernel⟩,
   ⟨wS, .spi, ⟨by decide +kernel, by decide +kernel, by decide +kernel⟩, by decide +kernel⟩,
   ⟨{ wS with clocks.freqBusy := true }, by decide +kernel, by decide +kernel⟩,
   ⟨{ wS with clocks.freqBusy := true }, false, by decide +kernel, by decide +kernel⟩⟩

theorem witness_MemoryReadsAndAlertsComplete :
    (∃ (s : State) (ch : Nat) (address : Nat) (h : Nat), ch < 2 ∧ h < 32 ∧ (s.channel ch).trained = true ∧
      s.writeWaits address = true)
    ∧ (∃ (s : State) (ch : Nat) (client : Nat) (address : Nat) (h : Nat) (line : List Byte), ch < 2 ∧ h < 32 ∧
      (s.channel ch).trained = true ∧ s.writeWaits address = false ∧ failingLanes line = 0 ∧ clientCode client ≠ 2 ∧
      (s.channel ch).repeatsOf (clientCode client) address = 0)
    ∧ (∃ (s : State) (ch : Nat) (client : Nat) (address : Nat) (h : Nat) (line : List Byte), ch < 2 ∧ h < 32 ∧
      (s.channel ch).trained = true ∧ s.writeWaits address = false ∧ failingLanes line = 0 ∧ clientCode client ≠ 2 ∧
      (s.channel ch).repeatsOf (clientCode client) address ≠ 0)
    ∧ (∃ (s : State) (ch : Nat) (client : Nat) (address : Nat) (h : Nat) (line : List Byte), ch < 2 ∧ h < 32 ∧
      (s.channel ch).trained = true ∧ s.writeWaits address = false ∧ failingLanes line = 0 ∧ clientCode client = 2 ∧
      (s.channel ch).repeatsOf 2 address = 0)
    ∧ (∃ (s : State) (ch : Nat) (client : Nat) (address : Nat) (h : Nat) (line : List Byte), ch < 2 ∧ h < 32 ∧
      (s.channel ch).trained = true ∧ s.writeWaits address = false ∧ failingLanes line ≠ 0 ∧
      (s.channel ch).repeatsOf (clientCode client) address < 3)
    ∧ (∃ (s : State) (ch : Nat), ch < 2 ∧ (s.channel ch).trained = true ∧ (s.channel ch).alert ≠ .low)
    ∧ (∃ (s : State) (ch : Nat), ch < 2 ∧ ch < s.dram.channels.length ∧ (s.channel ch).alert = .low ∧
      (s.channel ch).falls < 3 ∧ (s.channel ch).retraining = false)
    ∧ (∃ (s : State) (ch : Nat), ch < 2 ∧ (s.channel ch).alert = .low ∧ (s.channel ch).retraining = false) :=
  ⟨⟨{ wS with dram.writes := [⟨64, List.replicate 64 0⟩] }, 1, 64, 0, by decide +kernel, by decide +kernel,
      by decide +kernel, by decide +kernel⟩,
   ⟨wS, 1, 1, 64, 0, List.replicate 64 0, by decide +kernel, by decide +kernel, by decide +kernel, by decide +kernel,
      by decide +kernel, by decide +kernel, by decide +kernel⟩,
   ⟨wCh { DramChannel.initial with trained := true, repeats := [⟨1, 64, 2⟩] }, 1, 1, 64, 0, List.replicate 64 0,
      by decide +kernel, by decide +kernel, by decide +kernel, by decide +kernel, by decide +kernel,
      by decide +kernel, by decide +kernel⟩,
   ⟨wS, 1, 2, 64, 0, List.replicate 64 0, by decide +kernel, by decide +kernel, by decide +kernel, by decide +kernel,
      by decide +kernel, by decide +kernel, by decide +kernel⟩,
   ⟨wS, 1, 1, 64, 0, List.replicate 72 1, by decide +kernel, by decide +kernel, by decide +kernel, by decide +kernel,
      by decide +kernel, by decide +kernel⟩,
   ⟨wS, 1, by decide +kernel, by decide +kernel, by decide +kernel⟩,
   ⟨wCh { DramChannel.initial with trained := true, alert := .low, falls := 2 }, 1, by decide +kernel,
      by decide +kernel, by decide +kernel, by decide +kernel, by decide +kernel⟩,
   ⟨wCh { DramChannel.initial with trained := true, alert := .low }, 1, by decide +kernel, by decide +kernel,
      by decide +kernel⟩⟩

theorem witness_RefreshAndTemperatureCommandsComplete :
    (∃ (s : State) (ch : Nat) (rank : Nat), ch < 2 ∧ rank < s.ranks ∧ (s.channel ch).trained = true ∧
      ((s.channel ch).postponed.getD rank 0) < 4)
    ∧ (∃ (s : State) (ch : Nat) (rank : Nat), ch < 2 ∧ rank < s.ranks ∧ (s.channel ch).trained = true ∧
      4 ≤ ((s.channel ch).postponed.getD rank 0))
    ∧ (∃ (s : State) (ch : Nat) (rank : Nat), ch < 2 ∧ rank < s.ranks ∧ (s.channel ch).trained = true)
    ∧ (∃ (s : State) (ch : Nat) (v : Int), ch < s.dram.channels.length ∧ ch < 2 ∧ (s.channel ch).trained = true ∧
      s.reg 0xA000 2 = 1 ∧ -32768 ≤ v ∧ v ≤ 32767)
    ∧ (∃ (s : State), s.reg 0xA000 2 = 2 ∧ s.dram.channels.length = 2) :=
  ⟨⟨wS, 1, 0, by decide +kernel, by decide +kernel, by decide +kernel, by decide +kernel⟩,
   ⟨wCh { DramChannel.initial with trained := true, postponed := [4, 0] }, 0, 0, by decide +kernel, by decide +kernel,
      by decide +kernel, by decide +kernel⟩,
   ⟨wCh { DramChannel.initial with trained := true, postponed := [4, 0] }, 0, 0, by decide +kernel, by decide +kernel,
      by decide +kernel⟩,
   ⟨wV wS 0xA000 2 1, 1, 8501, by decide +kernel, by decide +kernel, by decide +kernel, by decide +kernel,
      by decide +kernel, by decide +kernel⟩,
   ⟨wV wS 0xA000 2 2, by decide +kernel, by decide +kernel⟩⟩

theorem witness_RetrainingCommandsComplete :
    (∃ (s : State) (ch : Nat), ch < 2 ∧ (s.channel ch).trained = true ∧ (s.channel ch).retraining = false ∧
      s.retrainDue ch = true ∧ (s.channel ch).alert = .none ∧ (s.channel ch).repeats = [])
    ∧ (∃ (s : State) (ch : Nat), ch < 2 ∧ (s.channel ch).trained = true ∧ (s.channel ch).retraining = false ∧
      s.retrainDue ch = true ∧ ((s.channel ch).alert ≠ .none ∨ (s.channel ch).repeats ≠ []))
    ∧ (∃ (s : State) (ch : Nat) (rank : Nat), s.turn 3 = true ∧ ch < 2 ∧ (s.channel ch).retraining = true ∧
      rank < s.ranks ∧ rank + 1 = s.ranks)
    ∧ (∃ (s : State) (ch : Nat) (rank : Nat), s.turn 3 = true ∧ ch < 2 ∧ (s.channel ch).retraining = true ∧
      rank < s.ranks ∧ rank + 1 < s.ranks)
    ∧ (∃ (s : State) (ch : Nat) (rank : Nat), s.turn 3 = true ∧ ch < 2 ∧ (s.channel ch).retraining = true ∧
      rank < s.ranks ∧ (s.channel ch).repeated = false)
    ∧ (∃ (s : State) (ch : Nat) (rank : Nat), s.turn 3 = true ∧ ch < 2 ∧ (s.channel ch).retraining = true ∧
      rank < s.ranks ∧ (s.channel ch).repeated = true ∧ s.thermal.tripped = false ∧ s.dev.state.faults = true)
    ∧ (∃ (s : State) (ch : Nat) (rank : Nat), s.dev.failedRank = some (ch, rank))
    ∧ (∃ (s : State) (ch : Nat) (rank : Nat), s.dev.failedRank = some (ch, rank)) :=
  ⟨⟨wCh { DramChannel.initial with trained := true, retrainDue := true }, 1, by decide +kernel, by decide +kernel,
      by decide +kernel, by decide +kernel, by decide +kernel, by decide +kernel⟩,
   ⟨wCh { DramChannel.initial with trained := true, retrainDue := true, alert := .low }, 1, by decide +kernel,
      by decide +kernel, by decide +kernel, by decide +kernel, by decide +kernel⟩,
   ⟨wCh { DramChannel.initial with trained := true, retraining := true }, 1, 0, by decide +kernel, by decide +kernel,
      by decide +kernel, by decide +kernel, by decide +kernel⟩,
   ⟨{ wCh { DramChannel.initial with trained := true, retraining := true } with power.dramOrg := 5 }, 1, 0,
      by decide +kernel, by decide +kernel, by decide +kernel, by decide +kernel, by decide +kernel⟩,
   ⟨wCh { DramChannel.initial with trained := true, retraining := true }, 1, 0, by decide +kernel, by decide +kernel,
      by decide +kernel, by decide +kernel, by decide +kernel⟩,
   ⟨wCh { DramChannel.initial with trained := true, retraining := true, repeated := true }, 1, 0, by decide +kernel,
      by decide +kernel, by decide +kernel, by decide +kernel, by decide +kernel, by decide +kernel, by decide +kernel⟩,
   ⟨{ wD .fault with dev.failedRank := some (1, 0) }, 1, 0, by decide +kernel⟩,
   ⟨{ wD .fault with dev.failedRank := some (1, 0) }, 1, 0, by decide +kernel⟩⟩

theorem witness_CauseAndTakeComplete :
    (∃ (s : State) (p : Path) (reg : Nat) (value : Nat),
      s.Takes p (orElse (s.writeGate p reg 1) (numberTest reg 1 (leBytes 4 value))))
    ∧ (∃ (s : State) (p : Path) (reg : Nat), s.Takes p (s.readGate reg 5)) :=
  ⟨⟨{ wS with leaves := [⟨0x2101, 3, 0, 2, false⟩] }, .spi, 0x2101, 8, ⟨by decide +kernel, by decide +kernel,
      by decide +kernel⟩⟩,
   ⟨{ wS with leaves := [⟨0x2101, 3, 1, 2, false⟩] }, .spi, 0x2101, ⟨by decide +kernel, by decide +kernel,
      by decide +kernel⟩⟩⟩

theorem witness_RecorderWritesComplete :
    (∃ (s : State) (p : Path) (data : List Byte), s.Takes p (s.writeGate p 0xC002 3) ∧ 2 ≤ data.length ∧
      data.length ≤ 1026 ∧ 0x8000 ≤ leAt data 0 2 ∧ s.firmwareUp = true ∧ s.recorder.queue.length < 256)
    ∧ (∃ (s : State) (e : EventRecord) (rest : List EventRecord), s.recorder.queue = e :: rest ∧ s.recorder.lost = 0 ∧
      s.recorder.oldest ≤ s.recorder.next)
    ∧ (∃ (s : State), s.recorder.queue ≠ [] ∧ s.recorder.retried = false)
    ∧ (∃ (s : State), s.power.vaux = true)
    ∧ (∃ (s : State) (p : Path), s.Takes p (s.writeGate p 0xC002 2) ∧ s.recorder.lost = 0)
    ∧ (∃ (s : State) (p : Path), s.Takes p (s.writeGate p 0xC002 1) ∧ s.recorder.lost = 0) :=
  ⟨⟨wS, .spi, [0, 128, 1], ⟨by decide +kernel, by decide +kernel, by decide +kernel⟩, by decide +kernel,
      by decide +kernel, by decide +kernel, by decide +kernel, by decide +kernel⟩,
   ⟨{ wS with recorder.queue := [⟨7, 5, 1, [1, 2]⟩] }, ⟨7, 5, 1, [1, 2]⟩, [], by decide +kernel, by decide +kernel,
      by decide +kernel⟩,
   ⟨{ wS with recorder.queue := [⟨7, 5, 1, [1, 2]⟩] }, by decide +kernel, by decide +kernel⟩,
   ⟨wS, by decide +kernel⟩,
   ⟨{ wS with recorder.queue := [⟨7, 5, 1, [1, 2]⟩] }, .spi, ⟨by decide +kernel, by decide +kernel,
      by decide +kernel⟩, by decide +kernel⟩,
   ⟨{ wS with recorder.queue := [⟨7, 5, 1, [1, 2]⟩] }, .spi, ⟨by decide +kernel, by decide +kernel,
      by decide +kernel⟩, by decide +kernel⟩⟩

theorem witness_RecorderReadingCommandsComplete :
    (∃ (s : State) (p : Path) (n : Nat), n < 4294967296 ∧ s.Takes p (s.writeGate p 0xC001 2))
    ∧ (∃ (s : State) (p : Path) (e : EventRecord), s.Takes p (s.writeGate p 0xC001 5) ∧
      s.recorder.record? (s.on p).recArea (s.on p).recCursor = some e ∧ (s.on p).recOffset + 256 < e.bytes.length)
    ∧ (∃ (s : State) (p : Path) (e : EventRecord), s.Takes p (s.writeGate p 0xC001 5) ∧
      s.recorder.record? (s.on p).recArea (s.on p).recCursor = some e ∧ e.bytes.length ≤ (s.on p).recOffset + 256)
    ∧ (∃ (s : State) (p : Path), s.Takes p (s.writeGate p 0xC001 5) ∧
      s.recorder.readStatus (s.on p).recArea (s.on p).recCursor = 1) :=
  ⟨⟨wS, .spi, 5, by decide +kernel, ⟨by decide +kernel, by decide +kernel, by decide +kernel⟩⟩,
   ⟨{ wPort { Session.closed with recArea := 0, recCursor := 3 } with recorder.flash := [(3, ⟨7, 5, 1, List.replicate 300 0⟩)], recorder.oldest := 3, recorder.next := 4 },
      .spi, ⟨7, 5, 1, List.replicate 300 0⟩, ⟨by decide +kernel, by decide +kernel, by decide +kernel⟩,
      by decide +kernel, by decide +kernel⟩,
   ⟨{ wPort { Session.closed with recArea := 0, recCursor := 3 } with recorder.flash := [(3, ⟨7, 5, 1, [1, 2]⟩)], recorder.oldest := 3, recorder.next := 4 },
      .spi, ⟨7, 5, 1, [1, 2]⟩, ⟨by decide +kernel, by decide +kernel, by decide +kernel⟩, by decide +kernel,
      by decide +kernel⟩,
   ⟨{ wS with recorder.oldest := 5, recorder.next := 5 }, .spi, ⟨by decide +kernel, by decide +kernel,
      by decide +kernel⟩, by decide +kernel⟩⟩

theorem witness_AuthenticationAndStoresComplete :
    (∃ (s : State) (p : Path), s.Takes p (s.readGate 0x1020 1))
    ∧ (∃ (s : State) (p : Path) (data : List Byte) (c : Nat), s.Takes p (s.writeGate p 0x1020 2) ∧
      s.auth.locked = false ∧ (s.on p).challenge = some c ∧ data = Config.hmacService c s.fuses.serial (pathNumber p))
    ∧ (∃ (s : State) (p : Path) (data : List Byte), s.Takes p (s.writeGate p 0x1020 2) ∧ s.auth.locked = false ∧ (∀ c,
      (s.on p).challenge = some c → data ≠ Config.hmacService c s.fuses.serial (pathNumber p)) ∧ s.auth.wrong < 2)
    ∧ (∃ (s : State) (p : Path) (data : List Byte), s.Takes p (s.writeGate p 0x1020 2) ∧ s.auth.locked = false ∧ (∀ c,
      (s.on p).challenge = some c → data ≠ Config.hmacService c s.fuses.serial (pathNumber p)) ∧ s.auth.wrong = 2)
    ∧ (∃ (s : State) (p : Path), s.Takes p (s.writeGate p 0x1020 2) ∧ s.auth.locked = true)
    ∧ (∃ (s : State) (p : Path), s.Takes p (s.writeGate p 0x1020 3))
    ∧ (∃ (s : State) (p : Path), s.Takes p (s.writeGate p 0x1010 1) ∧ s.flash.writing = none)
    ∧ (∃ (s : State) (w : List (Nat × Int) × List (Nat × List Byte)), s.flash.writing = some w)
    ∧ (∃ (s : State) (p : Path), s.Takes p (s.writeGate p 0x1010 2)) :=
  ⟨⟨wS, .spi, ⟨by decide +kernel, by decide +kernel, by decide +kernel⟩⟩,
   ⟨wPort { Session.closed with challenge := some 7 }, .spi, Config.hmacService 7 0 0, 7, ⟨by decide +kernel,
      by decide +kernel, by decide +kernel⟩, by decide +kernel, by decide +kernel, rfl⟩,
   ⟨wS, .spi, [], ⟨by decide +kernel, by decide +kernel, by decide +kernel⟩, by decide +kernel,
      (by intro c h; cases h), by decide +kernel⟩,
   ⟨{ wS with auth.wrong := 2 }, .spi, [], ⟨by decide +kernel, by decide +kernel, by decide +kernel⟩,
      by decide +kernel, (by intro c h; cases h), by decide +kernel⟩,
   ⟨{ wS with auth.locked := true }, .spi, ⟨by decide +kernel, by decide +kernel, by decide +kernel⟩,
      by decide +kernel⟩,
   ⟨wS, .spi, ⟨by decide +kernel, by decide +kernel, by decide +kernel⟩⟩,
   ⟨wS, .spi, ⟨by decide +kernel, by decide +kernel, by decide +kernel⟩, by decide +kernel⟩,
   ⟨{ wS with flash.writing := some ([], []) }, ([], []), by decide +kernel⟩,
   ⟨wS, .spi, ⟨by decide +kernel, by decide +kernel, by decide +kernel⟩⟩⟩

theorem witness_ImageAndTrialCommandsComplete :
    (∀ bs, imageFault 1 0 bs = none → ∃ (s : State) (p : Path), s.Takes p (s.imageRefusal p 1) ∧
      imageFault 1 s.fuses.revision bs = none)
    ∧ (∀ bs, imageFault 1 0 bs = none → ∃ (s : State) (p : Path), s.Takes p (s.imageRefusal p 1) ∧
      imageFault 1 s.fuses.revision bs = none)
    ∧ (∃ (s : State) (p : Path) (bs : List Byte) (r : Nat), s.Takes p (s.imageRefusal p 1) ∧
      imageFault 1 s.fuses.revision bs = some r)
    ∧ (∀ bs, imageFault 2 0 bs = none → ∃ (s : State) (p : Path), s.Takes p (s.imageRefusal p 2) ∧
      imageFault 2 s.fuses.revision bs = none)
    ∧ (∀ bs, imageFault 2 0 bs = none → ∃ (s : State) (p : Path), s.Takes p (s.imageRefusal p 2) ∧
      imageFault 2 s.fuses.revision bs = none)
    ∧ (∃ (s : State) (p : Path) (bs : List Byte) (r : Nat), s.Takes p (s.imageRefusal p 2) ∧
      imageFault 2 s.fuses.revision bs = some r)
    ∧ (∀ x : Slot, x.complete 0 = true → ∃ (s : State) (p : Path), s.Takes p (s.writeGate p 0xB001 3) ∧
      (s.images.slot s.images.target).complete s.fuses.revision = true)
    ∧ (∃ (s : State) (p : Path), s.Takes p (s.writeGate p 0xB001 3) ∧
      (s.images.slot s.images.target).complete s.fuses.revision = false)
    ∧ (∃ (s : State) (p : Path) (n : Nat), s.Takes p (s.writeGate p 0xB001 4) ∧ s.dev.state = .standby ∧
      s.images.current.trial = 2 ∧ s.images.running = some n)
    ∧ (∀ bs, wS.blockFault bs = 0 → ∃ (s : State) (p : Path), s.Takes p (s.blockRefusal p bs)) :=
  ⟨fun _ hx => ⟨wS, .spi, ⟨by decide +kernel, by decide +kernel, by decide +kernel⟩, hx⟩,
   fun _ hx => ⟨wS, .spi, ⟨by decide +kernel, by decide +kernel, by decide +kernel⟩, hx⟩,
   ⟨wS, .spi, [], 1, ⟨by decide +kernel, by decide +kernel, by decide +kernel⟩, by decide +kernel⟩,
   fun _ hx => ⟨wS, .spi, ⟨by decide +kernel, by decide +kernel, by decide +kernel⟩, hx⟩,
   fun _ hx => ⟨wS, .spi, ⟨by decide +kernel, by decide +kernel, by decide +kernel⟩, hx⟩,
   ⟨wS, .spi, [], 1, ⟨by decide +kernel, by decide +kernel, by decide +kernel⟩, by decide +kernel⟩,
   fun x hx => ⟨{ wS with images.slotA := x, images.slotB := x }, .spi, ⟨by rfl, by rfl, by rfl⟩, hx⟩,
   ⟨wS, .spi, ⟨by decide +kernel, by decide +kernel, by decide +kernel⟩, by decide +kernel⟩,
   ⟨{ wS with images.boot := [⟨1, 0, 2, 1⟩], images.running := some 1 }, .spi, 1, ⟨by decide +kernel,
      by decide +kernel, by decide +kernel⟩, by decide +kernel, by decide +kernel, by decide +kernel⟩,
   fun _ hx => ⟨wS, .spi, ⟨by decide +kernel, by decide +kernel, w_block _ hx⟩⟩⟩

theorem witness_LayerAndTableWritesComplete :
    (∃ (s : State) (p : Path) (index : Nat) (q : Quantity) (data : List Byte), quantityOf index = some q ∧
      s.Takes p (s.userRefusal p index data))
    ∧ (∃ (s : State) (p : Path) (index : Nat) (sub : Nat) (data : List Byte),
      s.Takes p (s.stitchRefusal p index sub data)) :=
  ⟨⟨wS, .spi, 0x2024, .portCorr 0, [0, 0, 0, 0], by decide +kernel, ⟨by decide +kernel, by decide +kernel,
      by decide +kernel⟩⟩,
   ⟨wS, .spi, 0x5002, 1, [7], ⟨by decide +kernel, by decide +kernel, by decide +kernel⟩⟩⟩

theorem witness_HeadLinkCommandsComplete :
    (∃ (s : State) (p : Path) (h : Nat), h < 32 ∧ h < s.heads.length ∧ s.Takes p (s.writeGate p (0x8020 + h) 1) ∧
      (s.head h).link.state = .disabled ∧ s.linksTrain = true)
    ∧ (∃ (s : State) (p : Path) (h : Nat), h < 32 ∧ h < s.heads.length ∧ s.Takes p (s.writeGate p (0x8020 + h) 1) ∧
      (s.head h).link.state ≠ .operation)
    ∧ (∃ (s : State) (h : Nat),
      ((s.head h).link.state = .acquire ∨ (s.head h).link.state = .align ∨ (s.head h).link.state = .negotiate))
    ∧ (∃ (s : State) (h : Nat), (s.head h).link.state = .failed ∧ s.reg (0x8020 + h) 2 = 1 ∧ s.linkEnabled h = true ∧
      s.linksTrain = true)
    ∧ (∃ (s : State) (h : Nat), (s.head h).link.state = .operation ∧ s.twin.role = .shadow)
    ∧ (∃ (s : State) (h : Nat), (s.head h).link.state = .operation ∧ s.twin.role ≠ .shadow)
    ∧ (∃ (s : State) (h : Nat), (s.head h).link.state ≠ .operation) :=
  ⟨⟨wS, .spi, 0, by decide +kernel, by decide +kernel, ⟨by decide +kernel, by decide +kernel, by decide +kernel⟩,
      by decide +kernel, by decide +kernel⟩,
   ⟨wS, .spi, 0, by decide +kernel, by decide +kernel, ⟨by decide +kernel, by decide +kernel, by decide +kernel⟩,
      by decide +kernel⟩,
   ⟨wLink { HeadLink.initial with state := .align }, 0, by decide +kernel⟩,
   ⟨wV (wLink { HeadLink.initial with state := .failed }) 0x8020 2 1, 0, by decide +kernel, by decide +kernel,
      by decide +kernel, by decide +kernel⟩,
   ⟨{ wSh with heads := wHeads }, 0, by decide +kernel, by decide +kernel⟩,
   ⟨{ wS with heads := wHeads }, 0, by decide +kernel, by decide +kernel⟩,
   ⟨wS, 0, by decide +kernel⟩⟩

theorem witness_BypassCommandsComplete :
    (∃ (s : State), s.dev.state.ringRuns = true ∧ s.ring.bothLocked = true ∧ s.bypassEnabled = true ∧
      s.ring.forwarding = false)
    ∧ (∃ (s : State), s.ring.bypass = .high ∧ s.ring.bothLocked = false)
    ∧ (∃ (s : State), s.dev.state.ringRuns = true ∧ s.ring.bypass = .low ∧ s.ring.fallen = true ∧ s.reg 0x1030 9 ≠ 0 ∧
      s.ring.bothLocked = false)
    ∧ (∃ (s : State), s.dev.state.ringRuns = true ∧ s.ring.bypass = .low ∧ s.ring.fallen = true ∧ s.reg 0x1030 9 ≠ 0 ∧
      s.ring.bothLocked = true)
    ∧ (∃ (s : State), s.ring.bypass = .trial ∧ s.ring.bothLocked = false)
    ∧ (∃ (s : State) (p : Path), s.Takes p (s.writeGate p 0x1030 10))
    ∧ (∃ (s : State) (p : Path), s.Takes p (s.writeGate p 0x1030 10) ∧ s.dev.state.ringRuns = true ∧
      s.ring.bypass = .low ∧ s.ring.fallen = true)
    ∧ (∃ (s : State) (p : Path), s.Takes p (s.writeGate p 0x1030 10) ∧ s.ring.fallen = false) :=
  ⟨⟨wV (wRing .low false false) 0x1030 10 1, by decide +kernel, by decide +kernel, by decide +kernel,
      by decide +kernel⟩,
   ⟨wDark .high true false, by decide +kernel, by decide +kernel⟩,
   ⟨wDark .low false true, by decide +kernel, by decide +kernel, by decide +kernel, by decide +kernel,
      by decide +kernel⟩,
   ⟨wRing .low false true, by decide +kernel, by decide +kernel, by decide +kernel, by decide +kernel,
      by decide +kernel⟩,
   ⟨wDark .trial true false, by decide +kernel, by decide +kernel⟩,
   ⟨wRing .high true false, .spi, ⟨by decide +kernel, by decide +kernel, by decide +kernel⟩⟩,
   ⟨wRing .low false true, .spi, ⟨by decide +kernel, by decide +kernel, by decide +kernel⟩, by decide +kernel,
      by decide +kernel, by decide +kernel⟩,
   ⟨wRing .low false false, .spi, ⟨by decide +kernel, by decide +kernel, by decide +kernel⟩, by decide +kernel⟩⟩

theorem witness_RingPortCommandsComplete :
    (∃ (s : State) (port : Nat) (bytes : List Byte), s.turn 7 = true ∧ port < 2 ∧ s.ringServed = true ∧
      (s.ring.port port).lock = true ∧ 60 ≤ bytes.length ∧ bytes.length ≤ 1514 ∧ s.fate bytes = .own)
    ∧ (∃ (s : State) (port : Nat) (bytes : List Byte), s.turn 7 = true ∧ port < 2 ∧ s.ringServed = true ∧
      (s.ring.port port).lock = true ∧ 60 ≤ bytes.length ∧ bytes.length ≤ 1514 ∧ s.fate bytes = .foreign)
    ∧ (∃ (s : State) (port : Nat) (bytes : List Byte) (ingress : Nat), s.turn 7 = true ∧ port < 2 ∧
      s.ringServed = true ∧ (s.ring.port port).lock = true ∧ 60 ≤ bytes.length ∧ bytes.length ≤ 1514 ∧
      s.fate bytes = .other ∧ 0 < beAt bytes 15 1 ∧ s.ring.forwarding = true ∧
      s.queueRoom port ingress (oneHopLess bytes) = true)
    ∧ (∃ (s : State) (port : Nat), port < 2 ∧ s.ringOn = true ∧ (s.ring.port port).lock = true)
    ∧ (∃ (s : State) (port : Nat), port < 2 ∧ s.ringOn = true ∧ (s.ring.port port).lock = true ∧
      s.clocks.mainLock = false)
    ∧ (∃ (s : State) (port : Nat), port < 2 ∧ s.ringOn = true ∧ s.ring.bypass ≠ .trial)
    ∧ (∃ (s : State) (port : Nat), port < 2 ∧ s.ringOn = true ∧ s.ring.bypass = .trial ∧
      (s.ring.port (1 - port)).lock = true) :=
  ⟨⟨wRing .high true false, 1, wFrame 0 [8, 0] 1, by decide +kernel, by decide +kernel, by decide +kernel,
      by decide +kernel, by decide +kernel, by decide +kernel, by decide +kernel⟩,
   ⟨wRing .high true false, 1, wFrame 1 [8, 0] 1, by decide +kernel, by decide +kernel, by decide +kernel,
      by decide +kernel, by decide +kernel, by decide +kernel, by decide +kernel⟩,
   ⟨wRing .high true false, 1, wFrame 1 [0x88, 0xB5] 1, 10, by decide +kernel, by decide +kernel, by decide +kernel,
      by decide +kernel, by decide +kernel, by decide +kernel, by decide +kernel, by decide +kernel,
      by decide +kernel, by decide +kernel⟩,
   ⟨wRing .high true false, 1, by decide +kernel, by decide +kernel, by decide +kernel⟩,
   ⟨{ wRing .high true false with clocks.mainLock := false }, 1, by decide +kernel, by decide +kernel,
      by decide +kernel, by decide +kernel⟩,
   ⟨wDark .low false false, 1, by decide +kernel, by decide +kernel, by decide +kernel⟩,
   ⟨{ wDark .trial true false with ring.portA := ⟨true, []⟩ }, 1, by decide +kernel, by decide +kernel,
      by decide +kernel, by decide +kernel⟩⟩

theorem witness_SessionOpenAndCloseComplete :
    (∃ (s : State) (payload : List Byte) (n : Nat), s.turn 7 = true ∧ s.ringServed = true ∧ payload.length = 16 ∧
      s.openResult (openAsk payload) = 0 ∧ s.freeSession = some n ∧ (openAsk payload).job = false)
    ∧ (∃ (s : State) (payload : List Byte) (n : Nat), s.turn 7 = true ∧ s.ringServed = true ∧ payload.length = 16 ∧
      s.openResult (openAsk payload) = 0 ∧ s.freeSession = some n ∧ n < s.sessions.length ∧
      (openAsk payload).job = true)
    ∧ (∃ (s : State) (payload : List Byte), s.turn 7 = true ∧ s.ringServed = true ∧ payload.length = 16 ∧
      s.openResult (openAsk payload) ≠ 0)
    ∧ (∃ (s : State) (n : Nat), s.turn 7 = true ∧ s.openRing n = true ∧ (s.session n).job = false)
    ∧ (∃ (s : State) (n : Nat), s.turn 7 = true ∧ s.openRing n = true ∧ (s.session n).job = true)
    ∧ (∃ (s : State) (n : Nat), s.openRing n = true) :=
  ⟨⟨wS, wAsk 0, 1, by decide +kernel, by decide +kernel, by decide +kernel, by decide +kernel, by decide +kernel,
      by decide +kernel⟩,
   ⟨wS, wAsk 1, 1, by decide +kernel, by decide +kernel, by decide +kernel, by decide +kernel, by decide +kernel,
      by decide +kernel, by decide +kernel⟩,
   ⟨wS, List.replicate 16 0, by decide +kernel, by decide +kernel, by decide +kernel, by decide +kernel⟩,
   ⟨wN wO, 1, by decide +kernel, by decide +kernel, by decide +kernel⟩,
   ⟨wN { wO with job := true }, 1, by decide +kernel, by decide +kernel, by decide +kernel⟩,
   ⟨wN wO, 1, by decide +kernel⟩⟩

theorem witness_AcknowledgementCommandsComplete :
    (∃ (s : State) (n : Nat) (a : Nat), s.openRing n = true ∧ seqAhead a (s.session n).txSeq ≤ 64 ∧
      (s.session n).job = false ∧ (s.session n).backlog = [])
    ∧ (∃ (s : State) (n : Nat) (q : Nat) (u : SentFrame), s.openRing n = true ∧
      (s.session n).unacked.find? (fun x => x.frame.seq == q) = some u ∧ u.sends < s.regN 0x1030 4 ∧ s.ringUp = true)
    ∧ (∃ (s : State) (n : Nat) (q : Nat) (u : SentFrame), s.openRing n = true ∧
      (s.session n).unacked.find? (fun x => x.frame.seq == q) = some u ∧ s.regN 0x1030 4 ≤ u.sends)
    ∧ (∃ (s : State) (n : Nat), s.openRing n = true ∧ (s.session n).ackOwed = true ∧ s.ringUp = true ∧
      s.speaks = true) :=
  ⟨⟨wN { wO with txSeq := 2, unacked := [⟨⟨0x11, 32, true, false, false, false, 1, 1, 1, 0, [5]⟩, 1⟩] }, 1, 2,
      by decide +kernel, by decide +kernel, by decide +kernel, by decide +kernel⟩,
   ⟨wV (wN { wO with txSeq := 2, unacked := [⟨⟨0x11, 32, true, false, false, false, 1, 1, 1, 0, [5]⟩, 1⟩] }) 0x1030 4 3,
      1, 1, ⟨⟨0x11, 32, true, false, false, false, 1, 1, 1, 0, [5]⟩, 1⟩, by decide +kernel, by decide +kernel,
      by decide +kernel, by decide +kernel⟩,
   ⟨wV (wN { wO with txSeq := 2, unacked := [⟨⟨0x11, 32, true, false, false, false, 1, 1, 1, 0, [5]⟩, 3⟩] }) 0x1030 4 3,
      1, 1, ⟨⟨0x11, 32, true, false, false, false, 1, 1, 1, 0, [5]⟩, 3⟩, by decide +kernel, by decide +kernel,
      by decide +kernel⟩,
   ⟨wN { wO with ackOwed := true }, 1, by decide +kernel, by decide +kernel, by decide +kernel, by decide +kernel⟩⟩

theorem witness_ExpeditedTransfersComplete :
    (∃ (s : State) (p : Path) (index : Nat) (sub : Nat), s.served p = true ∧ s.turn (pathRank p) = true ∧
      readActs index sub = false ∧ ((s.tookFrame p).readBytes p index sub).length ≤ 8 ∧
      (s.tookFrame p).anyReadGate index sub = none)
    ∧ (∃ (s : State) (p : Path) (index : Nat) (sub : Nat) (a : Abort), s.served p = true ∧
      s.turn (pathRank p) = true ∧ readActs index sub = false ∧ (s.tookFrame p).anyReadGate index sub = some a)
    ∧ (∃ (s : State) (p : Path) (index : Nat) (sub : Nat), s.served p = true ∧ s.turn (pathRank p) = true ∧
      readActs index sub = false ∧ 8 < ((s.tookFrame p).readBytes p index sub).length ∧
      (s.tookFrame p).anyReadGate index sub = none)
    ∧ (∃ (s : State) (p : Path) (index : Nat) (sub : Nat) (data : List Byte) (a : Abort), s.served p = true ∧
      s.turn (pathRank p) = true ∧ data.length ≤ 8 ∧
      orElse ((s.tookFrame p).anyGate p index sub) (numberTest index sub data) = some a)
    ∧ (∃ (s : State) (p : Path) (index : Nat) (sub : Nat) (data : List Byte), s.served p = true ∧
      s.turn (pathRank p) = true ∧ data.length ≤ 8 ∧
      orElse ((s.tookFrame p).anyGate p index sub) (numberTest index sub data) = none ∧ sessionValue index sub = true)
    ∧ (∃ (s : State) (p : Path) (index : Nat) (sub : Nat) (data : List Byte), s.served p = true ∧
      s.turn (pathRank p) = true ∧ 8 < data.length ∧ (s.tookFrame p).anyGate p index sub = none)
    ∧ (∃ (s : State) (p : Path) (index : Nat) (sub : Nat) (data : List Byte) (alone : Bool) (e : ObjEntry),
      s.served p = true ∧ s.turn (pathRank p) = true ∧ data.length ≤ 8 ∧ entryOf index sub = some e ∧
      plainObject index sub = true ∧ (s.tookFrame p).ownWrite p alone index sub data = none ∧
      (s.tookFrame p).plainRefusal p index sub data = none)
    ∧ (∃ (s : State) (p : Path) (index : Nat) (sub : Nat) (data : List Byte) (e : ObjEntry), s.served p = true ∧
      s.turn (pathRank p) = true ∧ entryOf index sub = some e ∧ plainObject index sub = true ∧
      s.ownWrite p true index sub data = none ∧ s.plainRefusal p index sub data = none)
    ∧ (∃ (s : State) (p : Path) (index : Nat) (sub : Nat) (data : List Byte) (a : Abort), s.served p = true ∧
      s.turn (pathRank p) = true ∧ orElse (s.anyGate p index sub) (numberTest index sub data) = some a)
    ∧ (∃ (s : State) (p : Path), s.served p = true ∧ s.turn (pathRank p) = true) :=
  ⟨⟨wS, .spi, 0x3010, 1, by decide +kernel, by decide +kernel, by decide +kernel, by decide +kernel, by decide +kernel⟩,
   ⟨wS, .spi, 0x2FFF, 1, .noObject, by decide +kernel, by decide +kernel, by decide +kernel, by decide +kernel⟩,
   ⟨{ wS with blobs := [(regKey 0x9080 1, List.replicate 12 0)] }, .spi, 0x9080, 1, by decide +kernel,
      by decide +kernel, by decide +kernel, by decide +kernel, by decide +kernel⟩,
   ⟨wS, .spi, 0x2FFF, 1, [0], .noObject, by decide +kernel, by decide +kernel, by decide +kernel, by decide +kernel⟩,
   ⟨wS, .spi, 0xC001, 1, [1], by decide +kernel, by decide +kernel, by decide +kernel, by decide +kernel,
      by decide +kernel⟩,
   ⟨wS, .spi, 0x9080, 1, List.replicate 9 0, by decide +kernel, by decide +kernel, by decide +kernel,
      by decide +kernel⟩,
   ⟨wS, .spi, 0x3010, 1, [1, 0], true, ⟨1, 1, "SLACK_RESERVE", .u16, .rws, 30, some (0, 200), true⟩,
      by decide +kernel, by decide +kernel, by decide +kernel, by decide +kernel, by decide +kernel,
      by decide +kernel, by decide +kernel⟩,
   ⟨wS, .spi, 0x3010, 1, [1, 0], ⟨1, 1, "SLACK_RESERVE", .u16, .rws, 30, some (0, 200), true⟩, by decide +kernel,
      by decide +kernel, by decide +kernel, by decide +kernel, by decide +kernel, by decide +kernel⟩,
   ⟨wS, .spi, 0x2FFF, 1, [0], .noObject, by decide +kernel, by decide +kernel, by decide +kernel⟩,
   ⟨wS, .spi, by decide +kernel, by decide +kernel⟩⟩

theorem witness_BlockTransfersComplete :
    (∃ (s : State) (p : Path) (index : Nat) (sub : Nat) (total : Nat), s.served p = true ∧
      s.turn (pathRank p) = true ∧ total ≠ 0 ∧ (s.tookFrame p).blockRefused p index sub total = none)
    ∧ (∃ (s : State) (p : Path) (index : Nat) (sub : Nat) (total : Nat) (a : Abort), s.served p = true ∧
      s.turn (pathRank p) = true ∧ total ≠ 0 ∧ (s.tookFrame p).blockRefused p index sub total = some a)
    ∧ (∃ (s : State) (p : Path) (index : Nat) (sub : Nat), s.served p = true ∧ s.turn (pathRank p) = true ∧
      readActs index sub = false ∧ (s.tookFrame p).transferOpen p = false ∧
      (s.tookFrame p).anyReadGate index sub = none)
    ∧ (∃ (s : State) (p : Path) (index : Nat) (sub : Nat), s.served p = true ∧ s.turn (pathRank p) = true ∧
      readActs index sub = false ∧ (s.tookFrame p).transferOpen p = true ∧ (s.tookFrame p).anyReadGate index sub = none)
    ∧ (∃ (s : State) (p : Path) (index : Nat) (sub : Nat) (a : Abort), s.served p = true ∧
      s.turn (pathRank p) = true ∧ readActs index sub = false ∧ (s.tookFrame p).anyReadGate index sub = some a)
    ∧ (∃ (s : State) (p : Path) (tid : Nat) (number : Nat) (data : List Byte) (x : Transfer), s.served p = true ∧
      s.turn (pathRank p) = true ∧ (s.tookFrame p).served p = true ∧ (s.on p).transfer = some x ∧
      ((s.tookFrame p).on p).transfer = some x ∧ x.tid = tid % 256 ∧ number = x.nextSeg ∧
      data.length = min 1024 (x.total - x.data.length) ∧ x.data.length + data.length < x.total)
    ∧ (∃ (s : State) (p : Path) (tid : Nat) (number : Nat) (x : Transfer), s.served p = true ∧
      s.turn (pathRank p) = true ∧ (s.tookFrame p).served p = true ∧ (s.on p).transfer = some x ∧
      ((s.tookFrame p).on p).transfer = some x ∧ x.tid = tid % 256 ∧ number ≠ x.nextSeg ∧ number < 65536 ∧
      x.nextSeg ≠ 65536)
    ∧ (∃ (s : State) (p : Path) (x : Transfer), s.served p = true ∧ s.turn (pathRank p) = true ∧
      (s.on p).transfer = some x) :=
  ⟨⟨wS, .spi, 0x9080, 1, 100, by decide +kernel, by decide +kernel, by decide +kernel, by decide +kernel⟩,
   ⟨wS, .spi, 0x2FFF, 1, 100, .noObject, by decide +kernel, by decide +kernel, by decide +kernel, by decide +kernel⟩,
   ⟨wS, .spi, 0x9080, 1, by decide +kernel, by decide +kernel, by decide +kernel, by decide +kernel, by decide +kernel⟩,
   ⟨wPort { Session.closed with transfer := some ⟨0x9080, 1, 4, 2000, 1, List.replicate 1024 0⟩ }, .spi, 0x9080, 1,
      by decide +kernel, by decide +kernel, by decide +kernel, by decide +kernel, by decide +kernel⟩,
   ⟨wS, .spi, 0x2FFF, 1, .noObject, by decide +kernel, by decide +kernel, by decide +kernel, by decide +kernel⟩,
   ⟨wPort { Session.closed with transfer := some ⟨0x9080, 1, 4, 3000, 1, List.replicate 1024 0⟩ }, .spi, 4, 1,
      List.replicate 1024 1, ⟨0x9080, 1, 4, 3000, 1, List.replicate 1024 0⟩, by decide +kernel, by decide +kernel,
      by decide +kernel, by decide +kernel, by decide +kernel, by decide +kernel, by decide +kernel,
      by decide +kernel, by decide +kernel⟩,
   ⟨wPort { Session.closed with transfer := some ⟨0x9080, 1, 4, 2000, 1, List.replicate 1024 0⟩ }, .spi, 4, 2,
      ⟨0x9080, 1, 4, 2000, 1, List.replicate 1024 0⟩, by decide +kernel, by decide +kernel, by decide +kernel,
      by decide +kernel, by decide +kernel, by decide +kernel, by decide +kernel, by decide +kernel, by decide +kernel⟩,
   ⟨wPort { Session.closed with transfer := some ⟨0x9080, 1, 4, 2000, 1, List.replicate 1024 0⟩ }, .spi, ⟨0x9080, 1,
      4, 2000, 1, List.replicate 1024 0⟩, by decide +kernel, by decide +kernel, by decide +kernel⟩⟩

theorem witness_SpiPortCommandsComplete :
    (∃ (s : State) (bytes : List Byte), s.served .spi = true ∧ s.turn 6 = true ∧ s.spi.request = none ∧
      spiFrameOk bytes = true ∧ s.spi.response ≠ none)
    ∧ (∃ (s : State) (bytes : List Byte), s.served .spi = true ∧ s.turn 6 = true ∧
      (s.spi.request ≠ none ∨ spiFrameOk bytes = false))
    ∧ (∃ (s : State) (bytes : List Byte), s.served .spi = true ∧ s.turn 6 = true ∧ s.spi.request = none ∧
      spiFrameOk bytes = true ∧ s.spi.response = none)
    ∧ (∃ (s : State), s.served .spi = true ∧ s.turn 6 = true ∧ s.spi.request = none)
    ∧ (∃ (s : State) (m : List Byte), s.served .spi = true ∧ s.turn 6 = true ∧ s.spi.request = some m ∧
      s.spi.behind = [])
    ∧ (∃ (s : State) (m : List Byte), s.served .spi = true ∧ s.turn 6 = true ∧ s.spi.request = some m ∧
      s.spi.behind ≠ [])
    ∧ (∃ (s : State), s.served .spi = true ∧ s.turn 6 = true ∧ s.spi.response = none)
    ∧ (∃ (s : State), s.served .spi = true) :=
  ⟨⟨{ wS with spi.response := some [1] }, wSpi, by decide +kernel, by decide +kernel, by decide +kernel,
      by decide +kernel, by decide +kernel⟩,
   ⟨wS, [], by decide +kernel, by decide +kernel, by decide +kernel⟩,
   ⟨wS, wSpi, by decide +kernel, by decide +kernel, by decide +kernel, by decide +kernel, by decide +kernel⟩,
   ⟨{ wS with spi.response := some [1] }, by decide +kernel, by decide +kernel, by decide +kernel⟩,
   ⟨{ wS with spi.request := some [], spi.response := some [1] }, [], by decide +kernel, by decide +kernel,
      by decide +kernel, by decide +kernel⟩,
   ⟨{ wS with spi.request := some [], spi.response := some [1], spi.behind := [(1, [3])] }, [], by decide +kernel,
      by decide +kernel, by decide +kernel, by decide +kernel⟩,
   ⟨wS, by decide +kernel, by decide +kernel, by decide +kernel⟩,
   ⟨wS, by decide +kernel⟩⟩

theorem witness_JobStreamCommandsComplete :
    (∃ (s : State) (n : Nat) (payload : List Byte) (r : Reception), s.turn 7 = true ∧ s.openRing n = true ∧
      s.ringServed = true ∧ (s.session n).job = true ∧ jobFormOk payload = true ∧
      leNat (payload.take 8) = s.job.offset ∧ s.job.receiving = some r ∧ r.discarding = false ∧
      s.job.offset + (payload.drop 8).length ≤ s.regN 0x3012 5 ∧ 32 ≤ r.bytes.length ∧
      (r.bytes ++ payload.drop 8).length < 4 * leAt (r.bytes ++ payload.drop 8) 24 3)
    ∧ (∃ (s : State) (n : Nat) (payload : List Byte) (r : Reception), s.turn 7 = true ∧ s.openRing n = true ∧
      s.ringServed = true ∧ (s.session n).job = true ∧ jobFormOk payload = true ∧
      leNat (payload.take 8) = s.job.offset ∧ s.job.receiving = some r ∧ r.discarding = false ∧
      s.job.offset + (payload.drop 8).length ≤ s.regN 0x3012 5 ∧ 32 ≤ r.bytes.length ∧
      (r.bytes ++ payload.drop 8).length = 4 * leAt (r.bytes ++ payload.drop 8) 24 3)
    ∧ (∃ (s : State) (n : Nat) (payload : List Byte), s.turn 7 = true ∧ s.openRing n = true ∧ s.ringServed = true ∧
      (s.session n).job = true ∧ jobFormOk payload = true ∧ leNat (payload.take 8) ≠ s.job.offset)
    ∧ (∃ (s : State) (n : Nat), s.job.unsentGrant ≠ 0 ∧ s.jobSession = some n ∧ s.ringUp = true) :=
  ⟨⟨wJob 10, 1, wData 0, ⟨5, List.replicate 24 0 ++ [10] ++ List.replicate 7 0, false⟩, by decide +kernel,
      by decide +kernel, by decide +kernel, by decide +kernel, by decide +kernel, by decide +kernel,
      by decide +kernel, by decide +kernel, by decide +kernel, by decide +kernel, by decide +kernel⟩,
   ⟨wJob 9, 1, wData 0, ⟨5, List.replicate 24 0 ++ [9] ++ List.replicate 7 0, false⟩, by decide +kernel,
      by decide +kernel, by decide +kernel, by decide +kernel, by decide +kernel, by decide +kernel,
      by decide +kernel, by decide +kernel, by decide +kernel, by decide +kernel, by decide +kernel⟩,
   ⟨wJob 9, 1, wData 1, by decide +kernel, by decide +kernel, by decide +kernel, by decide +kernel, by decide +kernel,
      by decide +kernel⟩,
   ⟨{ wJob 9 with job.unsentGrant := 64 }, 1, by decide +kernel, by decide +kernel, by decide +kernel⟩⟩

theorem witness_TapClockComplete :
    (∃ (s : State), s.dev.state ≠ .off)
    ∧ (∃ (s : State), s.dev.state ≠ .off)
    ∧ (∃ (s : State), s.dev.state ≠ .off) :=
  ⟨⟨wS, by decide +kernel⟩,
   ⟨wS, by decide +kernel⟩,
   ⟨wS, by decide +kernel⟩⟩

theorem witness_DownlinkFrameComplete :
    (∃ (s : State) (h : Nat), s.seqRuns = true ∧ h < 32 ∧ h < s.heads.length ∧ s.twin.role ≠ .primary ∧
      s.planPoint h = none ∧ (s.head h).path.run = none ∧ (s.head h).path.ahead = [] ∧ (s.head h).path.recent = [] ∧
      (s.head h).path.suppressed = [] ∧ (s.head h).path.records = [] ∧ (∀ es ∈ (s.head h).path.buffers, es = []) ∧
      (∀ n ∈ (s.head h).path.beams, n.power = 0) ∧ (s.head h).path.bookedTo ≤ 125 * frameAt s.et ∧
      125 * frameAt s.et % s.servoTicks ≠ 0 ∧
      ((s.head h).link.state = .operation ∨ sampleIn h (s.engine.rateAt (125 * (frameAt s.et - 1))) (frameAt s.et - 1) = none))
    ∧ (∃ (s : State) (h : Nat), (s.seqRuns = false ∨ 125 * frameAt s.et < (s.head h).path.bookedTo)) :=
  ⟨⟨wAt { wS with heads := wHeads } 10000125, 0, by decide +kernel, by decide +kernel, by decide +kernel,
      by decide +kernel, by decide +kernel, by decide +kernel, by decide +kernel, by decide +kernel,
      by decide +kernel, by decide +kernel, by decide +kernel, by decide +kernel, by decide +kernel,
      by decide +kernel, by decide +kernel⟩,
   ⟨{ wS with clk.running := false }, 0, by decide +kernel⟩⟩

theorem witness_UplinkFrameComplete :
    (∃ (s : State) (h : Nat) (c : Nat) (chars : List Nat) (bs : List Byte), h < 32 ∧ h < s.heads.length ∧
      (s.head h).link.state = .acquire ∧ frameSound ((s.head h).link.upright (c :: chars)) = some bs ∧
      (leAt bs 0 1).testBit 5 = false ∧ upAuxType bs ≠ 5 ∧ upAuxType bs ≠ 6)
    ∧ (∃ (s : State) (h : Nat) (c : Nat) (chars : List Nat), h < 32 ∧ h < s.heads.length ∧
      (s.head h).link.state = .acquire ∧ frameSound ((s.head h).link.upright (c :: chars)) = none ∧
      frameSound (invertChars ((s.head h).link.upright (c :: chars))) = none)
    ∧ (∃ (s : State) (h : Nat) (c : Nat) (chars : List Nat) (bs : List Byte), h < 32 ∧ h < s.heads.length ∧
      (s.head h).link.state = .acquire ∧ (s.head h).link.inverted = false ∧ (s.head h).link.good ≠ 7 ∧
      frameSound (c :: chars) = none ∧ frameSound (invertChars (c :: chars)) = some bs ∧
      (leAt bs 0 1).testBit 5 = false ∧ upAuxType bs ≠ 5 ∧ upAuxType bs ≠ 6)
    ∧ (∃ (s : State) (h : Nat) (u : Nat) (c : Nat) (chars : List Nat) (bs : List Byte) (arrival : Int), h < 32 ∧
      h < s.heads.length ∧ (s.head h).link.state = .operation ∧
      u = (roundDiv (arrival - 250 - (s.head h).link.delay) 125).toNat ∧
      frameSound ((s.head h).link.upright (c :: chars)) = some bs ∧ upFrameLo bs = u % 65536 ∧
      (leAt bs 0 1).testBit 5 = false ∧ upAuxType bs = 5 ∧ leAt bs 1 1 / 64 = 0 ∧ (s.head h).link.sent = [] ∧
      s.framePlace u ≠ 3 ∧ sampleIn h (s.engine.rateAt (125 * u)) u = none) :=
  ⟨⟨wLink { HeadLink.initial with state := .acquire, good := 7 }, 0, ((frameChars false (wUp 0 0)).1).headD 0,
      ((frameChars false (wUp 0 0)).1).tail, wUp 0 0, by decide +kernel, by decide +kernel, by decide +kernel,
      by decide +kernel, by decide +kernel, by decide +kernel, by decide +kernel⟩,
   ⟨wLink { HeadLink.initial with state := .acquire, good := 7 }, 0, 0, [], by decide +kernel, by decide +kernel,
      by decide +kernel, by decide +kernel, by decide +kernel⟩,
   ⟨wLink { HeadLink.initial with state := .acquire, good := 3 }, 0,
      (invertChars ((frameChars false (wUp 0 0)).1)).headD 0, (invertChars ((frameChars false (wUp 0 0)).1)).tail,
      wUp 0 0, by decide +kernel, by decide +kernel, by decide +kernel, by decide +kernel, by decide +kernel,
      by decide +kernel, by decide +kernel, by decide +kernel, by decide +kernel, by decide +kernel⟩,
   ⟨wLink { HeadLink.initial with state := .operation, status := 7 }, 0, 1, ((frameChars false (wUp2 5 1)).1).headD 0,
      ((frameChars false (wUp2 5 1)).1).tail, wUp2 5 1, 375, by decide +kernel, by decide +kernel, by decide +kernel,
      by decide +kernel, by decide +kernel, by decide +kernel, by decide +kernel, by decide +kernel,
      by decide +kernel, by decide +kernel, by decide +kernel, by decide +kernel⟩⟩

theorem witness_SegmentStartComplete :
    (∃ (s : State) (id : Nat) (g : Segment), s.segById id = some g ∧ g.state = .admitted)
    ∧ (∃ (s : State) (h : Nat) (id : Nat) (b : Nat) (mask : Nat) (g : Segment) (p : SegHead) (it : Item),
      s.segById id = some g ∧ s.seg? g.key = some g ∧ s.mayStart h g = true ∧ h < s.heads.length ∧
      g.part? h = some p ∧ p.failed = none ∧ (g.listOf h)[p.next]? = some it ∧ it.body = .barrier b mask ∧
      s.plannedAhead h g it = none ∧ s.itemsRun = true)
    ∧ (∃ (s : State) (h : Nat) (g : Segment) (p : SegHead) (r : ItemRun), (s.head h).path.run = some r ∧
      r.finish ≤ s.et * 65536 ∧ s.seqRuns = true ∧ r.unpassed = none ∧ (s.head h).path.seg = some g.key ∧
      s.seg? g.key = some g ∧ g.part? h = some p ∧ (g.listOf h)[p.next]? = none)
    ∧ (∃ (s : State) (h : Nat) (g : Segment) (p : SegHead) (it : Item), (s.head h).path.hold = .data ∧
      (s.head h).path.run = none ∧ (s.head h).path.seg = some g.key ∧ s.seg? g.key = some g ∧ g.part? h = some p ∧
      (g.listOf h)[p.next]? = some it ∧ s.itemsRun = true)
    ∧ (∃ (s : State) (h : Nat) (f : Nat) (g : Segment) (p : SegHead) (it : Item), (s.head h).path.hold = .drain ∧
      (s.head h).path.run = none ∧ (s.head h).path.seg = some g.key ∧ s.seg? g.key = some g ∧ g.part? h = some p ∧
      (g.listOf h)[p.next]? = some it ∧ s.itemsRun = true ∧ (s.head h).path.ahead = [] ∧ it.body.marks = true ∧
      s.twin.role ≠ .shadow ∧ s.twin.factorOrder g.id h it.index s.et = none ∧
      s.chooseFactor h g p p.next it (s.head h).path.pos = some f) :=
  ⟨⟨{ wS with job.segments := [wSeg .admitted [] (wPart .waiting 0)] }, 7, wSeg .admitted [] (wPart .waiting 0),
      by decide +kernel, by decide +kernel⟩,
   ⟨wExp (wSeg .staged [wItem (.barrier 3 1)] (wPart .waiting 0)) HeadPath.initial, 0, 7, 3, 1,
      wSeg .staged [wItem (.barrier 3 1)] (wPart .waiting 0), wPart .waiting 0, wItem (.barrier 3 1),
      by decide +kernel, by decide +kernel, by decide +kernel, by decide +kernel, by decide +kernel,
      by decide +kernel, by decide +kernel, by decide +kernel, by decide +kernel, by decide +kernel⟩,
   ⟨wExp (wSeg .running [] (wPart .running 0)) { HeadPath.initial with run := some wRun, seg := some 1 }, 0,
      wSeg .running [] (wPart .running 0), wPart .running 0, wRun, by decide +kernel, by decide +kernel,
      by decide +kernel, by decide +kernel, by decide +kernel, by decide +kernel, by decide +kernel, by decide +kernel⟩,
   ⟨wExp (wSeg .running [wItem (.dwell 1000)] (wPart .running 0)) { HeadPath.initial with seg := some 1, hold := .data },
      0, wSeg .running [wItem (.dwell 1000)] (wPart .running 0), wPart .running 0, wItem (.dwell 1000),
      by decide +kernel, by decide +kernel, by decide +kernel, by decide +kernel, by decide +kernel,
      by decide +kernel, by decide +kernel⟩,
   ⟨wExp (wSeg .running [wItem (.vector 0 0 1000 0 1)] ({ wPart .running 0 with fetched := ⟨1000, []⟩ })) { HeadPath.initial with seg := some 1, hold := .drain },
      0, 16, wSeg .running [wItem (.vector 0 0 1000 0 1)] ({ wPart .running 0 with fetched := ⟨1000, []⟩ }),
      { wPart .running 0 with fetched := ⟨1000, []⟩ }, wItem (.vector 0 0 1000 0 1), by decide +kernel,
      by decide +kernel, by decide +kernel, by decide +kernel, by decide +kernel, by decide +kernel,
      by decide +kernel, by decide +kernel, by decide +kernel, by decide +kernel, by decide +kernel, by decide +kernel⟩⟩

theorem witness_HeadEventsComplete :
    (∃ (s : State) (id : Nat) (b : Nat) (h : Nat) (g : Segment) (p : SegHead), s.segById id = some g ∧
      s.seg? g.key = some g ∧ s.barrierOpen g b = true ∧ s.heldAt g b = [h] ∧ g.part? h = some p ∧
      (g.listOf h)[p.next]? = none)
    ∧ (∃ (s : State) (h : Nat) (b : Nat) (r : ItemRun) (e : Edge) (rest : List Edge) (st : Stretch),
      s.seqRuns = true ∧ (s.head h).path.nextEntry b = some (r, e, rest) ∧ r.stretches[e.stretch]? = some st ∧
      st.passed = true ∧ b < (s.head h).path.buffers.length ∧ ((s.head h).path.buffers.getD b []).length < 4096 ∧
      e.et / 125 * 125 ≤ s.et + 2 ^ 30 ∧ (st.withheld = true ∨ s.passShort h r e.stretch = false))
    ∧ (∃ (s : State) (h : Nat) (g : Segment) (p : SegHead) (it : Item), s.twin.role = .primary ∧
      (s.head h).path.coming = [] ∧ (s.head h).path.hold = .drain ∧ (s.head h).path.seg = some g.key ∧
      s.seg? g.key = some g ∧ g.part? h = some p ∧ (g.listOf h)[p.next]? = some it ∧ it.body.marks = true)
    ∧ (∃ (s : State) (h : Nat) (a : Nat) (k : Nat) (r : ItemRun) (st : Stretch) (v : Bool × Bool),
      s.twin.role = .primary ∧ (¬((s.head h).path.coming = [] ∧ (s.head h).path.hold = .drain)) ∧
      s.planPoint h = none ∧ s.nextCheck (s.et + 2500) = some a ∧ (s.head a).path.unpassed = some (r, k, st) ∧
      s.et ≤ st.boundary s.servoTicks ∧ s.twin.entryOrder (s.idOf r.seg) a r.item (st.boundary s.servoTicks) = none ∧
      v = s.entryVerdict a r k st (st.boundary s.servoTicks) ∧
      (s.applyEntry a r k st (st.boundary s.servoTicks) v).nextCheck (s.et + 2500) = none)
    ∧ (∃ (s : State), s.seqRuns = true ∧ s.et % s.servoTicks = 0 ∧ s.reg 0x5001 1 = 0 ∧ 7 < s.reg 0x5002 1 ∧
      s.nextCheck s.et = none ∧ (∀ h, h < 32 → s.planPoint h = none)) :=
  ⟨⟨wExp (wSeg .running [] { wPart .running 0 with arrived := [3] }) { HeadPath.initial with seg := some 1, hold := .barrier 3 },
      7, 3, 0, wSeg .running [] { wPart .running 0 with arrived := [3] }, { wPart .running 0 with arrived := [3] },
      by decide +kernel, by decide +kernel, by decide +kernel, by decide +kernel, by decide +kernel, by decide +kernel⟩,
   ⟨wExp (wSeg .running [] (wPart .running 0)) { HeadPath.initial with seg := some 1, run := some { wRun with finish := 20000000 * 65536, stretches := [wStretch 10000000 true], planned := [⟨10001000, .on, 5, 1, 0, 0⟩] :: List.replicate 7 [] } },
      0, 0, { wRun with finish := 20000000 * 65536, stretches := [wStretch 10000000 true], planned := [⟨10001000, .on, 5, 1, 0, 0⟩] :: List.replicate 7 [] },
      ⟨10001000, .on, 5, 1, 0, 0⟩, [], wStretch 10000000 true, by decide +kernel, by decide +kernel,
      by decide +kernel, by decide +kernel, by decide +kernel, by decide +kernel, by decide +kernel, by decide +kernel⟩,
   ⟨{ wExp (wSeg .running [wItem (.vector 0 0 1000 0 1)] (wPart .running 0)) { HeadPath.initial with seg := some 1, hold := .drain } with twin.role := .primary },
      0, wSeg .running [wItem (.vector 0 0 1000 0 1)] (wPart .running 0), wPart .running 0,
      wItem (.vector 0 0 1000 0 1), by decide +kernel, by decide +kernel, by decide +kernel, by decide +kernel,
      by decide +kernel, by decide +kernel, by decide +kernel, by decide +kernel⟩,
   ⟨{ wExp (wSeg .running [] (wPart .running 0)) { HeadPath.initial with seg := some 1, run := some { wRun with finish := 20000000 * 65536, stretches := [wStretch 10002500 false] } } with twin.role := .primary, twin.linkLock := true },
      1, 0, 0, { wRun with finish := 20000000 * 65536, stretches := [wStretch 10002500 false] },
      wStretch 10002500 false, (false, false), by decide +kernel, by decide +kernel, by decide +kernel,
      by decide +kernel, by decide +kernel, by decide +kernel, by decide +kernel, by decide +kernel, by decide +kernel⟩,
   ⟨wV { wS with heads := wHeads } 0x5001 1 0, by decide +kernel, by decide +kernel, by decide +kernel,
      by decide +kernel, by decide +kernel, by decide +kernel⟩⟩

theorem witness_SegmentEndComplete :
    (∃ (s : State) (g : Segment) (a : Admission), s.twin.role = .solo ∧ s.ringUp = true ∧ s.nextSubmitted = some g ∧
      s.seg? g.key = some g ∧ s.judgeSegment g s.et s.dramLatency = .ok a)
    ∧ (∃ (s : State) (g : Segment) (r : Refused), s.twin.role = .solo ∧ s.ringUp = true ∧ s.nextSubmitted = some g ∧
      s.seg? g.key = some g ∧ s.judgeSegment g s.et s.dramLatency = .error r)
    ∧ (∃ (s : State) (id : Nat) (g : Segment),
      s.job.segments.find? (fun g => g.id == id && g.state == .running && g.allDone) = some g ∧
      s.seg? g.key = some g ∧ g.balances = true ∧ s.twin.role = .solo)
    ∧ (∃ (s : State) (id : Nat) (g : Segment), s.job.segments.find? (fun g => g.id == id && g.awaitsClose) = some g ∧
      s.seg? g.key = some g ∧ s.unreported g.key = false ∧ (∀ x ∈ s.heads, x.path.records = []) ∧
      s.twin.role = .solo ∧ g.balances = true)
    ∧ (∃ (s : State) (id : Nat) (g : Segment), s.job.segments.find? (fun g => g.id == id && g.awaitsClose) = some g ∧
      s.seg? g.key = some g ∧ s.unreported g.key = false ∧ (∀ x ∈ s.heads, x.path.records = []) ∧
      s.twin.role = .solo ∧ g.balances = false)
    ∧ (∃ (s : State) (p : Path) (id : Nat) (g : Segment), s.Takes p (s.writeGate p 0x3011 1) ∧
      s.unfinishedBy id = some g ∧ s.seg? g.key = some g ∧ g.state ≠ .submitted)
    ∧ (∃ (s : State) (p : Path) (id : Nat), s.Takes p (s.writeGate p 0x3011 1) ∧ s.unfinishedBy id = none)
    ∧ (∃ (s : State) (h : Nat) (c : Nat) (r : DefectRecord) (g : Segment), h < s.heads.length ∧
      (s.head h).path.records = [r] ∧ r.withheld = false ∧ r.empty = false ∧
      r.full c (s.head h).path.bookedTo = true ∧ s.seg? r.seg = some g) :=
  ⟨⟨wAdmit wWords, wSub wWords, wAdm, by decide +kernel, by decide +kernel, by decide +kernel, by decide +kernel,
      wAdm_ok⟩,
   ⟨wAdmit [], wSub [], wRef, by decide +kernel, by decide +kernel, by decide +kernel, by decide +kernel, wRef_error⟩,
   ⟨{ wS with job.segments := [(wSeg .running [] (wPart .finished 0))] }, 7, (wSeg .running [] (wPart .finished 0)),
      by decide +kernel, by decide +kernel, by decide +kernel, by decide +kernel⟩,
   ⟨{ wS with job.segments := [wSeg .done [] (wPart .finished 0)] }, 7, wSeg .done [] (wPart .finished 0),
      by decide +kernel, by decide +kernel, by decide +kernel, by decide +kernel, by decide +kernel, by decide +kernel⟩,
   ⟨{ wS with job.segments := [(wSeg .done [] { wPart .finished 0 with unbooked := true })] }, 7,
      (wSeg .done [] { wPart .finished 0 with unbooked := true }), by decide +kernel, by decide +kernel,
      by decide +kernel, by decide +kernel, by decide +kernel, by decide +kernel⟩,
   ⟨{ wS with job.segments := [(wSeg .running [] (wPart .finished 0))] }, .spi, 7,
      (wSeg .running [] (wPart .finished 0)), ⟨by decide +kernel, by decide +kernel, by decide +kernel⟩,
      by decide +kernel, by decide +kernel, by decide +kernel⟩,
   ⟨wS, .spi, 7, ⟨by decide +kernel, by decide +kernel, by decide +kernel⟩, by decide +kernel⟩,
   ⟨{ wS with job.segments := [(wSeg .running [] (wPart .finished 0))], heads := wPath { HeadPath.initial with records := [wRecord], bookedTo := 9000000 } },
      0, 0x10, wRecord, (wSeg .running [] (wPart .finished 0)), by decide +kernel, by decide +kernel,
      by decide +kernel, by decide +kernel, by decide +kernel, by decide +kernel⟩⟩

theorem witness_SlackCommandsComplete :
    (∃ (s : State) (id : Nat) (g : Segment), s.unfinishedBy id = some g ∧ s.seg? g.key = some g ∧ g.admitNo ≠ 0 ∧
      0 ≤ s.slackOf g)
    ∧ (∃ (s : State) (id : Nat) (g : Segment), s.unfinishedBy id = some g ∧ s.seg? g.key = some g ∧ g.admitNo ≠ 0 ∧
      s.slackOf g < 0 ∧ g.mayBreak = true ∧ s.reg 0x3010 10 = 0)
    ∧ (∃ (s : State), s.reg 0x3010 13 ≠ 0) :=
  ⟨⟨{ wS with job.segments := [wSeg .running [] (wPart .running 0)] }, 7, wSeg .running [] (wPart .running 0),
      by decide +kernel, by decide +kernel, by decide +kernel, by decide +kernel⟩,
   ⟨wExp ({ wSeg .running [] (wPart .running 0) with promise := 0 }) { HeadPath.initial with seg := some 1 }, 7,
      { wSeg .running [] (wPart .running 0) with promise := 0 }, by decide +kernel, by decide +kernel,
      by decide +kernel, by decide +kernel, by decide +kernel, by decide +kernel⟩,
   ⟨wV wS 0x3010 13 5, by decide +kernel⟩⟩

theorem witness_SieveCommandsComplete :
    (∃ (s : State) (pipe : Nat) (d : Nat) (h : HeadNo) (f : CamFrame) (p : Pipeline), s.sieve.pipes[pipe]? = some p ∧
      p.busy = none ∧ s.nextFrame pipe = some (d, h, f) ∧ ((s.head h).camera.gen? f.gen).isSome = true ∧
      s.et + passTicks f.format false ≤ d)
    ∧ (∃ (s : State) (h : Nat) (f : CamFrame), (s.head h).camera.frames.find? (fun f => f.state == .archiving) = some f)
    ∧ (∃ (s : State) (p : Path) (h : Nat), h < 32 ∧ h < s.heads.length ∧
      s.Takes p (orElse (s.writeGate p (0x6100 + h) 17) (s.commitRefusal h)))
    ∧ (∃ (s : State) (a : List Byte) (rest : List (List Byte)), s.sieve.archive = a :: rest)
    ∧ (∃ (s : State) (p : Path), s.Takes p (s.readGate 0x6001 2) ∧ s.logBlock ≠ []) :=
  ⟨⟨{ wS with heads := wCam (wFrameOf .queued), clk.et := 10000000 }, 0, Generation.initial.deadline 10000000, 0,
      wFrameOf .queued, Sieve.initial.pipes.getD 0 ⟨none, 0, []⟩, by decide +kernel, by decide +kernel,
      by decide +kernel, by decide +kernel, by decide +kernel⟩,
   ⟨{ wS with heads := wCam (wFrameOf .archiving) }, 0, wFrameOf .archiving, by decide +kernel⟩,
   ⟨wS, .spi, 0, by decide +kernel, by decide +kernel, ⟨by decide +kernel, by decide +kernel, by decide +kernel⟩⟩,
   ⟨{ wS with sieve.archive := [[1], [2]] }, [1], [[2]], by decide +kernel⟩,
   ⟨{ wS with sieve.log := [List.replicate 64 1] }, .spi, ⟨by decide +kernel, by decide +kernel, by decide +kernel⟩,
      by decide +kernel⟩⟩

theorem witness_CameraPassComplete :
    ∃ (s : State) (pipe : Nat) (p : Pipeline) (h : HeadNo) (f : CamFrame), s.sieve.pipes[pipe]? = some p ∧
      p.busy = some h ∧ (s.head h).camera.frames.find? (fun f => f.state == .processing) = some f ∧ f.doneAt ≤ s.et ∧
      f.params.archiveDec = 0 ∧ 0 < s.dram.logMiB :=
  ⟨{ wS with heads := wCam (wFrameOf .processing), sieve.pipes := [⟨some 0, 0, []⟩, ⟨none, 0, []⟩, ⟨none, 0, []⟩, ⟨none, 0, []⟩] },
      0, ⟨some 0, 0, []⟩, 0, wFrameOf .processing, by decide +kernel, by decide +kernel, by decide +kernel,
      by decide +kernel, by decide +kernel, by decide +kernel⟩

theorem witness_ControlCommandsComplete :
    (∃ (s : State) (lane : Nat) (x : Lane) (w : LaneWork), s.engine.lanes[lane]? = some x ∧ x.freeAt ≤ s.et ∧
      nextWork x.waiting = some w)
    ∧ (∃ (s : State) (p : Path),
      s.Takes p (orElse (s.writeGate p 0x7000 6) (orElse (numberTest 0x7000 6 (leBytes 1 1)) (refuseIf (!s.dev.state.captures) .conditions))))
    ∧ (∃ (s : State) (h : Nat) (b : Nat) (n : Nat) (l : Nat) (sh : Nat), (s.chan h b).darkSums = some (n, l, sh) ∧
      n = s.regN 0x7000 4)
    ∧ (∃ (s : State) (p : Path) (h : Nat) (sub : Nat) (v : Nat), h < 32 ∧
      s.Takes p (orElse (s.writeGate p (0x7100 + h) sub) (numberTest (0x7100 + h) sub (leBytes 1 v))))
    ∧ (∃ (s : State) (p : Path) (law : Nat) (sub : Nat) (data : List Byte), s.Takes p (s.lawRefusal p law sub data))
    ∧ (∃ (s : State) (c : RateChange), s.engine.rateChanges = [c] ∧ c.at_ ≤ s.et)
    ∧ (∃ (s : State) (c : RateChange), s.engine.rateChanges = [c] ∧ s.et < c.at_) :=
  ⟨⟨{ wS with engine.lanes := [⟨[.missing 10000000 0 0], 0, []⟩] }, 0, ⟨[.missing 10000000 0 0], 0, []⟩,
      .missing 10000000 0 0, by decide +kernel, by decide +kernel, by decide +kernel⟩,
   ⟨{ wS with heads := wHeads }, .spi, ⟨by decide +kernel, by decide +kernel, by decide +kernel⟩⟩,
   ⟨wV { wS with heads := wHead { Head.initial with channels := List.replicate 8 { Channel.initial with darkSums := some (256, 512, 512) } } } 0x7000 4 256,
      0, 0, 256, 512, 512, by decide +kernel, by decide +kernel⟩,
   ⟨wS, .spi, 0, 1, 1, by decide +kernel, ⟨by decide +kernel, by decide +kernel, by decide +kernel⟩⟩,
   ⟨wS, .spi, 0, 1, List.replicate 95 0 ++ [1] ++ List.replicate 8 0 ++ [1, 1] ++ List.replicate 22 0,
      ⟨by decide +kernel, by decide +kernel, by decide +kernel⟩⟩,
   ⟨{ wS with engine.rateChanges := [⟨2, 80000, 9000000⟩] }, ⟨2, 80000, 9000000⟩, by decide +kernel, by decide +kernel⟩,
   ⟨{ wS with engine.rateChanges := [⟨2, 80000, 11000000⟩] }, ⟨2, 80000, 11000000⟩, by decide +kernel,
      by decide +kernel⟩⟩

theorem witness_TimeCommandsComplete :
    (∃ (s : State) (t1 : Int) (c1 : Int) (t2 : Nat) (t3 : Nat) (t4 : Int) (c2 : Int) (off : Int) (del : Int),
      s.exchangeAccepted t2 = true ∧ s.turn 8 = true ∧
      off = exchangeOffset t1 c1 (s.time.ntFine (s.stamps t2 t3).1) (s.time.ntFine (s.stamps t2 t3).2) t4 c2 ∧
      del = exchangeDelay t1 c1 (s.time.ntFine (s.stamps t2 t3).1) (s.time.ntFine (s.stamps t2 t3).2) t4 c2 ∧
      s.time.unset = true)
    ∧ (∃ (s : State) (t1 : Int) (c1 : Int) (t2 : Nat) (t3 : Nat) (t4 : Int) (c2 : Int) (off : Int) (del : Int),
      s.exchangeAccepted t2 = true ∧ s.turn 8 = true ∧
      off = exchangeOffset t1 c1 (s.time.ntFine (s.stamps t2 t3).1) (s.time.ntFine (s.stamps t2 t3).2) t4 c2 ∧
      del = exchangeDelay t1 c1 (s.time.ntFine (s.stamps t2 t3).1) (s.time.ntFine (s.stamps t2 t3).2) t4 c2 ∧
      s.time.unset = false ∧ off ≤ s.reg 0x2022 1 * 10 ∧ -(s.reg 0x2022 1 * 10) ≤ off)
    ∧ (∃ (s : State), s.time.master.isSome = true)
    ∧ (∃ (s : State) (p : Path) (off : Int) (e : Tick),
      s.Takes p (orElse (s.writeGate p 0x2022 4) (numberTest 0x2022 4 (leBytes 1 1))) ∧ s.time.last = some (off, e) ∧
      s.et ≤ e + 1250000000)
    ∧ (∃ (s : State) (p : Path) (v : Nat),
      s.Takes p (orElse (s.writeGate p 0x2021 1) (numberTest 0x2021 1 (leBytes 8 v))))
    ∧ (∃ (s : State) (p : Path) (v : Nat),
      s.Takes p (orElse (s.writeGate p 0x2021 5) (numberTest 0x2021 5 (leBytes 4 v)))) :=
  ⟨⟨wTime true, 0, 0, 160000000, 160000000, 0, 0,
      exchangeOffset 0 0 ((wTime true).time.ntFine ((wTime true).stamps 160000000 160000000).1) ((wTime true).time.ntFine ((wTime true).stamps 160000000 160000000).2) 0 0,
      exchangeDelay 0 0 ((wTime true).time.ntFine ((wTime true).stamps 160000000 160000000).1) ((wTime true).time.ntFine ((wTime true).stamps 160000000 160000000).2) 0 0,
      by decide +kernel, by decide +kernel, by decide +kernel, by decide +kernel, by decide +kernel⟩,
   ⟨wTime false, ((wTime false).time.ntFine ((wTime false).stamps 160000000 160000000).1), 0, 160000000, 160000000,
      ((wTime false).time.ntFine ((wTime false).stamps 160000000 160000000).1), 0,
      exchangeOffset ((wTime false).time.ntFine ((wTime false).stamps 160000000 160000000).1) 0 ((wTime false).time.ntFine ((wTime false).stamps 160000000 160000000).1) ((wTime false).time.ntFine ((wTime false).stamps 160000000 160000000).1) ((wTime false).time.ntFine ((wTime false).stamps 160000000 160000000).1) 0,
      exchangeDelay ((wTime false).time.ntFine ((wTime false).stamps 160000000 160000000).1) 0 ((wTime false).time.ntFine ((wTime false).stamps 160000000 160000000).1) ((wTime false).time.ntFine ((wTime false).stamps 160000000 160000000).1) ((wTime false).time.ntFine ((wTime false).stamps 160000000 160000000).1) 0,
      by decide +kernel, by decide +kernel, by decide +kernel, by decide +kernel, by decide +kernel,
      by decide +kernel, by decide +kernel⟩,
   ⟨wTime false, by decide +kernel⟩,
   ⟨wTime false, .spi, 500, 9000000, ⟨by decide +kernel, by decide +kernel, by decide +kernel⟩, by decide +kernel,
      by decide +kernel⟩,
   ⟨wS, .spi, 5, ⟨by decide +kernel, by decide +kernel, by decide +kernel⟩⟩,
   ⟨wS, .spi, 5, ⟨by decide +kernel, by decide +kernel, by decide +kernel⟩⟩⟩

theorem witness_TwinClockCommandsComplete :
    (∃ (s : State), s.paired = true ∧ s.et % 625 = 0 ∧ s.dev.state.beats = true ∧ s.seqRuns = true)
    ∧ (∃ (s : State), s.paired = true ∧ s.et % 625 = 0 ∧ (s.dev.state.beats = false ∨ s.seqRuns = false))
    ∧ (∃ (s : State) (e : Nat) (next : Nat), s.twin.role = .shadow ∧ s.twin.linkLock = true ∧
      s.twin.heardEt = some e ∧ seqBelow s.twin.rxNext next = false)
    ∧ (∃ (s : State), s.twin.role = .shadow ∧ s.unheard = true ∧ s.aliveSeen = false ∧ s.twin.writes = [] ∧
      s.twin.ledger = [])
    ∧ (∃ (s : State), s.unheard = true ∧ s.aliveSeen = true ∧ s.turn 5 = true ∧ s.twin.role = .primary)
    ∧ (∃ (s : State), s.unheard = true ∧ s.aliveSeen = true ∧ s.turn 5 = true ∧ s.twin.role = .shadow)
    ∧ (∃ (s : State) (e : Tick), s.twin.role = .primary ∧ s.twin.ownEt = some e ∧ e + 5000 ≤ s.et ∧ s.turn 5 = true)
    ∧ (∃ (s : State) (seq : Nat), s.twin.role = .shadow ∧ s.twin.awaits seq = true ∧ s.turn 5 = true)
    ∧ (∃ (s : State) (e : Tick), s.twin.role = .shadow ∧ s.dev.state.code ≠ s.twin.partnerState ∧
      s.twin.divergedAt = some e ∧ e + 625000 < s.et ∧ s.turn 5 = true)
    ∧ (∃ (s : State) (f : Tick), s.twin.gapFrame = some f ∧ f + 8000 ≤ s.et)
    ∧ (∃ (s : State), s.et % 64000 = 0 ∧ s.twin.role = .primary ∧ s.twin.linkLock = true)
    ∧ (∃ (s : State) (seq : Nat), s.Expects seq) :=
  ⟨⟨wTwin .standby, by decide +kernel, by decide +kernel, by decide +kernel, by decide +kernel⟩,
   ⟨wTwin .fault, by decide +kernel, by decide +kernel, by decide +kernel⟩,
   ⟨{ wSh with twin.heardEt := some 5 }, 5, 1, by decide +kernel, by decide +kernel, by decide +kernel,
      by decide +kernel⟩,
   ⟨wSh, by decide +kernel, by decide +kernel, by decide +kernel, by decide +kernel, by decide +kernel⟩,
   ⟨{ wTwin .standby with twin.aliveEt := some 9999000 }, by decide +kernel, by decide +kernel, by decide +kernel,
      by decide +kernel⟩,
   ⟨{ wSh with dev.state := .exposing, twin.heardEt := some 9000000, twin.aliveEt := some 9999000 },
      by decide +kernel, by decide +kernel, by decide +kernel, by decide +kernel⟩,
   ⟨{ wTwin .exposing with twin.ownEt := some 5 }, 5, by decide +kernel, by decide +kernel, by decide +kernel,
      by decide +kernel⟩,
   ⟨wSh, 1, by decide +kernel, by decide +kernel, by decide +kernel⟩,
   ⟨{ wSh with twin.divergedAt := some 5 }, 5, by decide +kernel, by decide +kernel, by decide +kernel,
      by decide +kernel, by decide +kernel⟩,
   ⟨{ wTwin .standby with twin.gapFrame := some 5, heads := wPath { HeadPath.initial with records := [wRecord] } }, 5,
      by decide +kernel, by decide +kernel⟩,
   ⟨wAt (wTwin .standby) 9984000, by decide +kernel, by decide +kernel, by decide +kernel⟩,
   ⟨wSh, 1, ⟨by decide +kernel, by decide +kernel, by decide +kernel, by decide +kernel, by decide +kernel⟩⟩⟩

theorem witness_TwinMessagesComplete :
    (∃ (s : State) (seq : Nat), s.Expects seq ∧ seq < 2 ^ 32)
    ∧ (∃ (s : State) (seq : Nat), s.Expects seq ∧ s.twin.writes = [] ∧ s.nextSubmitted = none)
    ∧ (∃ (s : State) (seq : Nat) (n : Nat) (g : Segment), s.Expects seq ∧ s.twin.writes = [] ∧
      s.nextSubmitted = some g ∧ g.seq = n ∧ s.twin.decision = [] ∧ seq < 2 ^ 32)
    ∧ (∃ (s : State) (seq : Nat), s.Expects seq ∧ s.twin.ownOutcome = [])
    ∧ (∃ (s : State) (seq : Nat) (at_ : Nat), s.Expects seq ∧ (∀ o ∈ s.twin.orders, o.factorDue s.et = none) ∧
      s.et < at_ ∧ (∀ k, k < 32 → (s.head k).path.unpassed = none))
    ∧ (∃ (s : State) (seq : Nat) (at_ : Nat), s.Expects seq ∧ s.et < at_ ∧ (∀ o ∈ s.twin.orders, o.due s.et = none))
    ∧ (∃ (s : State) (seq : Nat) (before : Nat), s.Expects seq ∧ s.twin.writes = [] ∧ s.writeDue before = true)
    ∧ (∃ (s : State) (seq : Nat) (before : Nat), s.Expects seq ∧ s.twin.writes = [] ∧ s.writeDue before = false)
    ∧ (∃ (s : State) (seq : Nat) (id : Nat) (h : Nat) (cause : Nat) (mask : Nat) (onset : Nat) (g : Segment) (w : Nat × Nat × Option Nat),
      s.Expects seq ∧ s.unfinishedBy id = some g ∧ s.seg? g.key = some g ∧ s.reg 0x3010 10 = 0 ∧ g.mayBreak = true ∧
      w = ((s.head h).path.cutScope cause mask onset).getD (g.key, 0xFFFF, none) ∧ (s.head h).path.scopeEnergy (w.1,
      w.2.1) w.2.2 ≠ 0)
    ∧ (∃ (s : State) (seq : Nat) (frame : List Byte) (n : Nat), s.Expects seq ∧ n = (frameOf frame).session ∧
      s.openRing n = true ∧ n < s.sessions.length ∧ (s.session n).job = true ∧ (s.session n).backlog = [] ∧
      (frameOf frame).kind ≠ 1 ∧ (frameOf frame).kind ≠ 0 ∧ reliableKind (frameOf frame).kind = true ∧
      (frameOf frame).reliable = true ∧ (frameOf frame).sack = 0 ∧
      (s.session n).hasFrame (frameOf frame).seq = false ∧ 0 < seqAhead (s.session n).rxNext (frameOf frame).seq ∧
      seqAhead (s.session n).rxNext (frameOf frame).seq < 64)
    ∧ (∃ (s : State) (seq : Nat) (frame : List Byte) (n : Nat), s.Expects seq ∧ s.jobSession = some n ∧
      (frameOf frame).kind ≠ 3)
    ∧ (∃ (s : State) (seq : Nat) (id : Nat), s.Expects seq ∧ storeGet id s.twin.digests = none)
    ∧ (∃ (s : State) (seq : Nat) (id : Nat) (g : Segment), s.Expects seq ∧ s.unfinishedBy id = some g)
    ∧ (∃ (s : State) (seq : Nat) (layer : Nat), s.Expects seq ∧ s.runsMotion = false ∧ (∀ g ∈ s.job.segments,
      g.layer < layer → g.state ≠ .admitted ∧ g.state ≠ .staged)) :=
  ⟨⟨wSh, 1, ⟨by decide +kernel, by decide +kernel, by decide +kernel, by decide +kernel, by decide +kernel⟩,
      by decide +kernel⟩,
   ⟨wSh, 1, ⟨by decide +kernel, by decide +kernel, by decide +kernel, by decide +kernel, by decide +kernel⟩,
      by decide +kernel, by decide +kernel⟩,
   ⟨{ wSh with job.segments := [{ wSub wWords with seq := 4 }] }, 1, 4, { wSub wWords with seq := 4 },
      ⟨by decide +kernel, by decide +kernel, by decide +kernel, by decide +kernel, by decide +kernel⟩,
      by decide +kernel, by decide +kernel, by decide +kernel, by decide +kernel, by decide +kernel⟩,
   ⟨wSh, 1, ⟨by decide +kernel, by decide +kernel, by decide +kernel, by decide +kernel, by decide +kernel⟩,
      by decide +kernel⟩,
   ⟨wSh, 1, 20000000, ⟨by decide +kernel, by decide +kernel, by decide +kernel, by decide +kernel, by decide +kernel⟩,
      by decide +kernel, by decide +kernel, by decide +kernel⟩,
   ⟨wSh, 1, 20000000, ⟨by decide +kernel, by decide +kernel, by decide +kernel, by decide +kernel, by decide +kernel⟩,
      by decide +kernel, by decide +kernel⟩,
   ⟨wSh, 1, 4, ⟨by decide +kernel, by decide +kernel, by decide +kernel, by decide +kernel, by decide +kernel⟩,
      by decide +kernel, by decide +kernel⟩,
   ⟨{ wSh with job.segments := [{ wSub wWords with seq := 4 }] }, 1, 5, ⟨by decide +kernel, by decide +kernel,
      by decide +kernel, by decide +kernel, by decide +kernel⟩, by decide +kernel, by decide +kernel⟩,
   ⟨{ wExp (wSeg .running [] (wPart .running 0)) { HeadPath.initial with seg := some 1, beams := ⟨5, false, 1, 0, 0⟩ :: List.replicate 7 ⟨0, false, 0, 0, 0⟩, buffers := [⟨10001000, .off, 0, 1, 0, 0⟩] :: List.replicate 7 [], past := [⟨9999000, .on, 5, 1, 0, 0⟩] :: List.replicate 7 [] } with twin.role := .shadow, twin.linkLock := true },
      1, 7, 0, 2, 1, 10000000, wSeg .running [] (wPart .running 0), (1, 0, some 0), ⟨by decide +kernel,
      by decide +kernel, by decide +kernel, by decide +kernel, by decide +kernel⟩, by decide +kernel,
      by decide +kernel, by decide +kernel, by decide +kernel, by decide +kernel, by decide +kernel⟩,
   ⟨{ wN { wO with job := true, rxNext := 1 } with twin.role := .shadow, twin.linkLock := true }, 1, [0x10, 32, 128,
      1, 2, 0, 0, 0, 0, 0, 0, 0, 0, 0, 0, 0], 1, ⟨by decide +kernel, by decide +kernel, by decide +kernel,
      by decide +kernel, by decide +kernel⟩, by decide +kernel, by decide +kernel, by decide +kernel,
      by decide +kernel, by decide +kernel, by decide +kernel, by decide +kernel, by decide +kernel,
      by decide +kernel, by decide +kernel, by decide +kernel, by decide +kernel, by decide +kernel⟩,
   ⟨{ wN { wO with job := true } with twin.role := .shadow, twin.linkLock := true }, 1, [0x30, 32, 128, 1, 2, 0, 0, 0,
      0, 0, 0, 0, 0, 0, 0, 0], 1, ⟨by decide +kernel, by decide +kernel, by decide +kernel, by decide +kernel,
      by decide +kernel⟩, by decide +kernel, by decide +kernel⟩,
   ⟨wSh, 1, 7, ⟨by decide +kernel, by decide +kernel, by decide +kernel, by decide +kernel, by decide +kernel⟩,
      by decide +kernel⟩,
   ⟨{ wSh with job.segments := [wSeg .running [] (wPart .running 0)] }, 1, 7, wSeg .running [] (wPart .running 0),
      ⟨by decide +kernel, by decide +kernel, by decide +kernel, by decide +kernel, by decide +kernel⟩,
      by decide +kernel⟩,
   ⟨wV wSh 0xD000 2 1, 1, 3, ⟨by decide +kernel, by decide +kernel, by decide +kernel, by decide +kernel,
      by decide +kernel⟩, by decide +kernel, by decide +kernel⟩⟩

theorem witness_PairingCommandsComplete_1 :
    (∃ (s : State), s.dev.state ≠ .off ∧ s.dev.state ≠ .aux ∧ s.reg 0xD000 1 ≠ 1)
    ∧ (∃ (s : State) (rank : Nat) (role : Nat), s.dev.state ≠ .off ∧ s.dev.state ≠ .aux ∧ s.reg 0xD000 1 = 1 ∧
      s.twin.role = .solo ∧ s.reg 0xD000 2 = 0 ∧ rank ≠ 0 ∧ roleOfCode role ≠ .primary)
    ∧ (∃ (s : State) (vMax : Nat) (vMin : Nat) (fw : Nat) (mc : Nat) (dig : Nat) (rank : Nat) (serial : Nat) (role : Nat) (trips : List Nat),
      s.dev.state ≠ .off ∧ s.dev.state ≠ .aux ∧ s.reg 0xD000 1 = 1 ∧ s.twin.role = .solo ∧ s.reg 0xD000 2 = 1 ∧
      rank = 0 ∧ roleOfCode role ≠ .primary ∧ s.mismatch ⟨vMax, vMin, fw, mc, dig, rank, serial⟩ = none ∧
      delayOfTrips trips ≤ 250)
    ∧ (∃ (s : State), s.clocks.mainLock = false)
    ∧ (∃ (s : State), s.reg 0xD000 1 = 1 ∧ s.twin.role = .solo ∧ s.twin.linkLock = false ∧ s.dev.state = .standby) :=
  ⟨⟨wS, by decide +kernel, by decide +kernel, by decide +kernel⟩,
   ⟨wV wS 0xD000 1 1, 1, 0, by decide +kernel, by decide +kernel, by decide +kernel, by decide +kernel,
      by decide +kernel, by decide +kernel, by decide +kernel⟩,
   ⟨wRank, 256, 256, 0, 0, wRank.configDigest, 0, 1, 0, [100, 102], by decide +kernel, by decide +kernel,
      by decide +kernel, by decide +kernel, by decide +kernel, by decide +kernel, by decide +kernel,
      w_agrees _ _ (by decide +kernel) (by decide +kernel) (by decide +kernel), by decide +kernel⟩,
   ⟨{ wSh with clocks.mainLock := false }, by decide +kernel⟩,
   ⟨wV wS 0xD000 1 1, by decide +kernel, by decide +kernel, by decide +kernel, by decide +kernel⟩⟩

theorem witness_PairingCommandsComplete_2 :
    (∃ (s : State) (p : Path), s.Takes p (orElse (s.writeGate p 0xD002 1) (numberTest 0xD002 1 (leBytes 1 1))) ∧
      s.joinReady = true)
    ∧ (∃ (s : State) (p : Path), s.Takes p (orElse (s.writeGate p 0xD002 1) (numberTest 0xD002 1 (leBytes 1 1))) ∧
      s.joinReady = false)
    ∧ (∃ (s : State), s.reg 0xD000 4 = 1 ∧ s.joinReady = true)
    ∧ (∃ (s : State) (trips : List Nat) (sendEt : Nat) (offset : Int), s.twin.role = .cold ∧ s.twin.linkLock = true ∧
      offset = s.offsetOf (delayOfTrips trips) sendEt ∧ delayOfTrips trips ≤ 250)
    ∧ (∃ (s : State) (trips : List Nat) (sendEt : Nat) (offset : Int), s.twin.role = .cold ∧ s.twin.linkLock = true ∧
      offset = s.offsetOf (delayOfTrips trips) sendEt ∧ 250 < delayOfTrips trips) :=
  ⟨⟨wJoin wS, .spi, ⟨by decide +kernel, by decide +kernel, by decide +kernel⟩,
      wJoin_ready _ (by decide +kernel) (by decide +kernel) (by decide +kernel) (by decide +kernel)⟩,
   ⟨wTwin .standby, .spi, ⟨by decide +kernel, by decide +kernel, by decide +kernel⟩, by decide +kernel⟩,
   ⟨wJoin (wV wS 0xD000 4 1), by decide +kernel,
      wJoin_ready _ (by decide +kernel) (by decide +kernel) (by decide +kernel) (by decide +kernel)⟩,
   ⟨{ wSh with twin.role := .cold }, [100, 102], 9000000,
      ({ wSh with twin.role := .cold } : State).offsetOf (delayOfTrips [100, 102]) 9000000, by decide +kernel,
      by decide +kernel, by decide +kernel, by decide +kernel⟩,
   ⟨{ wSh with twin.role := .cold }, [600], 9000000,
      ({ wSh with twin.role := .cold } : State).offsetOf (delayOfTrips [600]) 9000000, by decide +kernel,
      by decide +kernel, by decide +kernel, by decide +kernel⟩⟩

theorem witness_PairingCommandsComplete_3 :
    (∃ (s : State) (p : Path), s.Takes p (orElse (s.writeGate p 0xD002 2) (numberTest 0xD002 2 (leBytes 1 1))) ∧
      s.twin.role = .shadow)
    ∧ (∃ (s : State) (p : Path), s.Takes p (s.enableRefusal p 0))
    ∧ (∃ (s : State) (p : Path), s.Takes p (s.enableRefusal p 1) ∧ s.twin.linkLock = false) :=
  ⟨⟨wSh, .spi, ⟨by decide +kernel, by decide +kernel, by decide +kernel⟩, by decide +kernel⟩,
   ⟨wV wS 0xD000 1 1, .spi, ⟨by decide +kernel, by decide +kernel, by decide +kernel⟩⟩,
   ⟨wS, .spi, ⟨by decide +kernel, by decide +kernel, by decide +kernel⟩, by decide +kernel⟩⟩

theorem witness_AxisCommandsComplete :
    (∃ (s : State) (p : Path) (m : Nat), m < 8 ∧ s.motion.axes.length = 8 ∧ s.Takes p (s.writeGate p (0x9020 + m) 1) ∧
      s.axisResult m false = 0 ∧ (s.axis m).state ≠ .faulted)
    ∧ (∃ (s : State) (p : Path) (m : Nat), m < 8 ∧ s.motion.axes.length = 8 ∧
      s.Takes p (s.writeGate p (0x9020 + m) 1) ∧ s.axisResult m true = 0)
    ∧ (∃ (s : State) (p : Path) (m : Nat) (d : Int), m < 8 ∧ s.motion.axes.length = 8 ∧
      s.Takes p (orElse (s.writeGate p (0x9020 + m) 5) (numberTest (0x9020 + m) 5 (leBytes 1 1))) ∧
      d = s.moveBy m (s.reg (0x9020 + m) 3 == 1) (s.reg (0x9020 + m) 2) ∧ s.moveResult m d (s.regN (0x9020 + m) 4) = 0)
    ∧ (∃ (s : State) (p : Path) (m : Nat) (r : Ramp), m < 8 ∧ s.motion.axes.length = 8 ∧
      s.Takes p (s.writeGate p (0x9020 + m) 6) ∧ s.axisResult m false = 0 ∧ (s.axis m).state = .moving ∧
      (s.axis m).ramp = some r ∧ s.recoatAxis ≠ some (s.leaderOf m))
    ∧ (∃ (s : State) (p : Path) (m : Nat), m < 8 ∧ s.motion.axes.length = 8 ∧
      s.Takes p (s.writeGate p (0x9020 + m) 6) ∧ s.homeResult m = 0)
    ∧ (∃ (s : State) (m : Nat) (r : Ramp), s.motion.axes.length = 8 ∧ (s.axis m).ramp = some r ∧ r.done < r.total ∧
      (∀ k ∈ s.gang m, (s.axis k).homing = none))
    ∧ (∃ (s : State) (m : Nat) (r : Ramp), s.motion.axes.length = 8 ∧ (s.axis m).ramp = some r ∧ r.total ≤ r.done ∧
      (s.axis m).state = .moving ∧ s.recoatAxis ≠ some m)
    ∧ (∃ (s : State) (m : Nat), m < s.motion.axes.length ∧ (s.axis m).busy = false)
    ∧ (∃ (s : State) (m : Nat) (t1 : Nat) (t2 : Nat) (a : Int), m < 8 ∧ m < s.motion.axes.length ∧
      (s.axis m).powered = true ∧ s.cycleTarget m false ≠ 0 ∧
      adapted (s.axis m).coilA.offset (100 * s.axisCfg m 6) (s.axisCfg m 11) (s.axisCfg m 10) t1 t2 = some a) :=
  ⟨⟨wS, .spi, 7, by decide +kernel, by decide +kernel, ⟨by decide +kernel, by decide +kernel, by decide +kernel⟩,
      by decide +kernel, by decide +kernel⟩,
   ⟨wAxis { Axis.initial with state := .hold }, .spi, 0, by decide +kernel, by decide +kernel, ⟨by decide +kernel,
      by decide +kernel, by decide +kernel⟩, by decide +kernel⟩,
   ⟨wV (wAxis { Axis.initial with state := .hold }) 0x9020 2 1000, .spi, 0, 1000, by decide +kernel,
      by decide +kernel, ⟨by decide +kernel, by decide +kernel, by decide +kernel⟩, by decide +kernel,
      by decide +kernel⟩,
   ⟨wAxis { Axis.initial with state := .moving, ramp := some (wRamp 3) }, .spi, 0, wRamp 3, by decide +kernel,
      by decide +kernel, ⟨by decide +kernel, by decide +kernel, by decide +kernel⟩, by decide +kernel,
      by decide +kernel, by decide +kernel, by decide +kernel⟩,
   ⟨wAxis { Axis.initial with state := .hold }, .spi, 0, by decide +kernel, by decide +kernel, ⟨by decide +kernel,
      by decide +kernel, by decide +kernel⟩, by decide +kernel⟩,
   ⟨wAxis { Axis.initial with state := .moving, ramp := some (wRamp 3) }, 0, wRamp 3, by decide +kernel,
      by decide +kernel, by decide +kernel, by decide +kernel⟩,
   ⟨wAxis { Axis.initial with state := .moving, ramp := some (wRamp 10) }, 0, wRamp 10, by decide +kernel,
      by decide +kernel, by decide +kernel, by decide +kernel, by decide +kernel⟩,
   ⟨wAxis { Axis.initial with state := .hold, running := true }, 0, by decide +kernel, by decide +kernel⟩,
   ⟨wAxis { Axis.initial with state := .hold, powered := true, coilA := ⟨0, 3, 200, 200, 1, none⟩ }, 0, 100, 200,
      (adapted 0 800 8 4 100 200).getD 0, by decide +kernel, by decide +kernel, by decide +kernel, by decide +kernel,
      by decide +kernel⟩⟩

theorem witness_HomingAndLimitsComplete :
    (∃ (s : State) (m : Nat) (z : Homing), m < 8 ∧ m < s.motion.axes.length ∧ (s.axis m).homing = some z ∧
      z.latch = none ∧ z.phase = .search)
    ∧ (∃ (s : State) (m : Nat), m < 8 ∧ m < s.motion.axes.length ∧ (s.axis m).homing = none)
    ∧ (∃ (s : State) (m : Nat) (z : Homing) (c : Int × Int), m < 8 ∧ (s.axis m).homing = some z ∧ z.phase = .search ∧
      z.latch = none ∧ z.candidate = some c ∧ (s.axis m).homeActive = true)
    ∧ (∃ (s : State) (m : Nat) (z : Homing), (s.axis m).homing = some z)
    ∧ (∃ (s : State) (m : Nat) (z : Homing) (r : Ramp), s.motion.axes.length = 8 ∧ (s.axis m).state = .homing ∧
      (s.axis m).homing = some z ∧ z.phase = .park ∧ (s.axis m).ramp = some r ∧ r.total ≤ r.done)
    ∧ (∃ (s : State) (m : Nat), m < 8 ∧ m < s.motion.axes.length ∧ (s.axis (s.leaderOf m)).busy = false ∧
      s.turn 10 = true)
    ∧ (∃ (s : State) (m : Nat), m < s.motion.axes.length ∧ (s.axis m).state ≠ .limit)
    ∧ (∃ (s : State) (m : Nat), m < 8 ∧ s.motion.axes.length = 8 ∧ (s.axis m).state = .limit)
    ∧ (∃ (s : State) (p : Path) (layer : Nat) (x : RecoatStep) (rest : List RecoatStep),
      s.Takes p (orElse (s.writeGate p 0x9080 2) (orElse (numberTest 0x9080 2 (leBytes 4 layer)) (refuseIf (!s.recoatAllowed layer) .conditions))) ∧
      s.motion.axes.length = 8 ∧ recoatSteps (s.blob 0x9080 1) = x :: rest ∧
      s.moveResult x.axis (s.moveBy x.axis x.relative x.target) x.speed = 0 ∧ x.axis < 8)
    ∧ (∃ (s : State) (p : Path) (layer : Nat),
      s.Takes p (orElse (s.writeGate p 0x9080 3) (orElse (numberTest 0x9080 3 (leBytes 4 layer)) (refuseIf (!(s.recoatFree && decide (s.motion.recoat.reported ≤ layer))) .conditions))) ∧
      (∀ g ∈ s.job.segments, g.layer < layer → g.state ≠ .admitted ∧ g.state ≠ .staged)) :=
  ⟨⟨wAxis { Axis.initial with state := .homing, homeActive := false, homing := some ⟨.search, none, none, false, false⟩, ramp := some (wRamp 10) },
      0, ⟨.search, none, none, false, false⟩, by decide +kernel, by decide +kernel, by decide +kernel,
      by decide +kernel, by decide +kernel⟩,
   ⟨wS, 0, by decide +kernel, by decide +kernel, by decide +kernel⟩,
   ⟨wAxis { Axis.initial with state := .homing, homeActive := true, homing := some ⟨.search, some (5, 6), none, false, false⟩, ramp := some (wRamp 10) },
      0, ⟨.search, some (5, 6), none, false, false⟩, (5, 6), by decide +kernel, by decide +kernel, by decide +kernel,
      by decide +kernel, by decide +kernel, by decide +kernel⟩,
   ⟨wAxis { Axis.initial with state := .homing, homeActive := true, homing := some ⟨.search, none, some (5, 6), true, false⟩, ramp := some (wRamp 10) },
      0, ⟨.search, none, some (5, 6), true, false⟩, by decide +kernel⟩,
   ⟨wAxis { Axis.initial with state := .homing, homeActive := true, homing := some ⟨.park, none, some (5, 6), false, false⟩, ramp := some (wRamp 10) },
      0, ⟨.park, none, some (5, 6), false, false⟩, wRamp 10, by decide +kernel, by decide +kernel, by decide +kernel,
      by decide +kernel, by decide +kernel, by decide +kernel⟩,
   ⟨wAxis { Axis.initial with state := .hold }, 0, by decide +kernel, by decide +kernel, by decide +kernel,
      by decide +kernel⟩,
   ⟨wAxis { Axis.initial with state := .hold, limitActive := true }, 0, by decide +kernel, by decide +kernel⟩,
   ⟨wAxis { Axis.initial with state := .limit, limitActive := true }, 0, by decide +kernel, by decide +kernel,
      by decide +kernel⟩,
   ⟨{ wAxis { Axis.initial with state := .hold, homed := true } with blobs := [(regKey 0x9080 1, [0, 3, 0, 0, 232, 3, 0, 0, 0, 0, 0, 0, 0, 0, 0, 0])] },
      .spi, 3, ⟨0, true, true, 1000, 0⟩, [], ⟨by decide +kernel, by decide +kernel, by decide +kernel⟩,
      by decide +kernel, by decide +kernel, by decide +kernel, by decide +kernel⟩,
   ⟨wS, .spi, 3, ⟨by decide +kernel, by decide +kernel, by decide +kernel⟩, by decide +kernel⟩⟩

theorem witness_FeedbackCommandsComplete :
    (∃ (s : State) (e : Nat) (levels : Nat), e < 8 ∧ e < s.motion.encoders.length ∧ s.reg (0x9060 + e) 1 = 0 ∧
      (s.encoder e).window = false ∧ s.turn 10 = true ∧ quadDelta (s.encoder e).accepted (levels % 4) ≠ 0)
    ∧ (∃ (s : State) (e : Nat) (levels : Nat), e < 8 ∧ (s.encoder e).window = true ∧
      levels % 4 = (s.encoder e).accepted)
    ∧ (∃ (s : State) (e : Nat), e < 8 ∧ e < s.motion.encoders.length ∧ s.reg (0x9060 + e) 1 = 0 ∧
      (s.encoder e).indexPrev = none)
    ∧ (∃ (s : State) (e : Nat) (v : Nat) (n : Nat) (o : Nat), e < 8 ∧ e < s.motion.encoders.length ∧
      s.reg (0x9060 + e) 1 = 1 ∧ hallPlace (v % 8) = some n ∧ hallPlace (s.encoder e).accepted = some o ∧
      ((n + 6 - o) % 6 = 1 ∨ (n + 6 - o) % 6 = 5))
    ∧ (∃ (s : State) (n : Nat) (rising : Bool) (q : Probe), n < 4 ∧ s.motion.probes[n]? = some q ∧
      probeSelects (s.regN (0x9090 + n) 1) rising = true ∧ q.queue.length < 16)
    ∧ (∃ (s : State) (n : Nat) (rising : Bool) (q : Probe), n < 4 ∧ s.motion.probes[n]? = some q ∧
      probeSelects (s.regN (0x9090 + n) 1) rising = true ∧ q.queue.length = 16)
    ∧ (∃ (s : State) (p : Path) (n : Nat) (x : ProbeEvent) (rest : List ProbeEvent),
      s.Takes p (orElse (s.readGate (0x9090 + n) 3) (refuseIf (!s.runsMotion) .conditions)) ∧
      s.motion.probes[n]? = some ⟨x :: rest⟩)
    ∧ (∃ (s : State) (p : Path) (e : Nat), e < s.motion.encoders.length ∧
      s.Takes p (orElse (s.writeGate p (0x9060 + e) 6) (refuseIf (s.countHeld e) .conditions)))
    ∧ (∃ (s : State) (p : Path) (n : Nat) (v : Nat) (c : Compare), v ≤ 1 ∧ s.motion.compares[n]? = some c ∧
      s.Takes p (orElse (s.writeGate p (0x90A0 + n) 6) (numberTest (0x90A0 + n) 6 (leBytes 1 v)))) :=
  ⟨⟨wS, 0, 1, by decide +kernel, by decide +kernel, by decide +kernel, by decide +kernel, by decide +kernel,
      by decide +kernel⟩,
   ⟨wEnc ⟨0, 1, 0, true, none, 0, 0⟩, 0, 1, by decide +kernel, by decide +kernel, by decide +kernel⟩,
   ⟨wS, 0, by decide +kernel, by decide +kernel, by decide +kernel, by decide +kernel⟩,
   ⟨wV (wEnc ⟨0, 1, 1, false, none, 0, 0⟩) 0x9060 1 1, 0, 3, 1, 0, by decide +kernel, by decide +kernel,
      by decide +kernel, by decide +kernel, by decide +kernel, by decide +kernel⟩,
   ⟨wProbe ⟨[]⟩, 0, true, ⟨[]⟩, by decide +kernel, by decide +kernel, by decide +kernel, by decide +kernel⟩,
   ⟨wProbe ⟨wCaptures 16⟩, 0, true, ⟨wCaptures 16⟩, by decide +kernel, by decide +kernel, by decide +kernel,
      by decide +kernel⟩,
   ⟨wProbe ⟨wCaptures 2⟩, .spi, 0, ⟨5, List.replicate 8 0, List.replicate 8 0⟩, wCaptures 1, ⟨by decide +kernel,
      by decide +kernel, by decide +kernel⟩, by decide +kernel⟩,
   ⟨wS, .spi, 0, by decide +kernel, ⟨by decide +kernel, by decide +kernel, by decide +kernel⟩⟩,
   ⟨wS, .spi, 0, 1, ⟨false, false, false⟩, by decide +kernel, by decide +kernel, ⟨by decide +kernel,
      by decide +kernel, by decide +kernel⟩⟩⟩

theorem witness_ConfirmEndsATrialInStandbyOnly :
    (∃ (s : State) (p : Path) (n : Nat), s.Takes p (s.writeGate p 0xB001 4) ∧ s.dev.state = .standby ∧
      s.images.current.trial = 2 ∧ s.images.running = some n)
    ∧ (∃ (s : State) (p : Path), s.Takes p (s.writeGate p 0xB001 4) ∧ (¬(s.dev.state = .standby ∧
      s.images.current.trial = 2))) :=
  ⟨⟨{ wS with images.boot := [⟨1, 0, 2, 1⟩], images.running := some 1 }, .spi, 1, ⟨by decide +kernel,
      by decide +kernel, by decide +kernel⟩, by decide +kernel, by decide +kernel, by decide +kernel⟩,
   ⟨wS, .spi, ⟨by decide +kernel, by decide +kernel, by decide +kernel⟩, by decide +kernel⟩⟩

theorem witness_SixteenLongCyclesFaultTheAxis :
    (∃ (s : State) (m : Nat) (coilB : Bool), m < 8 ∧ s.motion.axes.length = 8 ∧ (s.axis m).powered = true ∧
      s.cycleTarget m coilB ≠ 0 ∧ 15 ≤ (if coilB = true then (s.axis m).coilB.runs else (s.axis m).coilA.runs))
    ∧ (∃ (s : State) (m : Nat) (coilB : Bool), m < 8 ∧ s.motion.axes.length = 8 ∧ (s.axis m).powered = true ∧
      s.cycleTarget m coilB ≠ 0 ∧ (if coilB = true then (s.axis m).coilB.runs else (s.axis m).coilA.runs) < 15) :=
  ⟨⟨wAxis { Axis.initial with state := .hold, powered := true, coilA := ⟨0, 15, 200, 200, 1, none⟩ }, 0, false,
      by decide +kernel, by decide +kernel, by decide +kernel, by decide +kernel, by decide +kernel⟩,
   ⟨wAxis { Axis.initial with state := .hold, powered := true, coilA := ⟨0, 14, 200, 200, 1, none⟩ }, 0, false,
      by decide +kernel, by decide +kernel, by decide +kernel, by decide +kernel, by decide +kernel⟩⟩

theorem witness_WrongJobOffsetClosesTheSession :
    ∃ (s : State) (n : Nat) (payload : List Byte), s.openRing n = true ∧ s.ringServed = true ∧ s.turn 7 = true ∧
      (s.session n).job = true ∧ jobFormOk payload = true ∧ leNat (payload.take 8) ≠ s.job.offset :=
  ⟨wJob 9, 1, wData 1, by decide +kernel, by decide +kernel, by decide +kernel, by decide +kernel, by decide +kernel,
      by decide +kernel⟩

end Sys2Proof.Machine
end

/-! ### One tick on an empty queue (R5, R26, R28, R422, R653) -/

namespace Sys2Proof.Machine

/-- No STATE order of a pair asks for RESTART: request 8 of R19. -/
def State.NoRestartOrdered (s : State) : Prop := ∀ o ∈ s.twin.orders, ∀ c e, o ≠ TwinOrder.state 8 c e

/-! #### The orders of a pair up to the moment they are carried out -/

/-- A report numbers and keeps messages of the twin; it gives no order. -/
theorem ReportsWith_orders {s t : State} {ks : List Nat} (h : s.ReportsWith t ks) : t.twin.orders = s.twin.orders := by
  rw [h.twin]

@[simp] theorem markInhibit_orders (s : State) : s.markInhibit.twin.orders = s.twin.orders := by
  unfold State.markInhibit
  split
  · rw [ReportsWith_orders (Reports_record _ _ _), ReportsWith_orders (Reports_setLeaf _ _ _)]
    simp
  · rfl

/-- Only a STATE order falls due here, and it gives its own request and cause. -/
theorem TwinOrder.due_eq_some {o : TwinOrder} {et : Tick} {r : Nat × Nat} (h : o.due et = some r) :
    ∃ e, o = .state r.1 r.2 e := by
  cases o with
  | plan => cases h
  | state request cause at_ =>
    obtain ⟨-, rfl⟩ : at_ ≤ et ∧ (request, cause) = r := by simpa [TwinOrder.due] using h
    exact ⟨at_, rfl⟩

theorem State.NoRestartOrdered.due_ne {s : State} (h : s.NoRestartOrdered) {et : Tick} {r : Nat × Nat}
    (hr : r ∈ s.twin.orders.filterMap (fun o => o.due et)) : r.1 ≠ 8 := by
  obtain ⟨o, ho, hdue⟩ := List.mem_filterMap.1 hr
  obtain ⟨e, rfl⟩ := TwinOrder.due_eq_some hdue
  intro h8
  exact h _ ho r.2 e (by rw [← h8])

/-! #### Only a RESTART sets the clock back -/

theorem carryOut_clk (s : State) {code : Nat} (h : code ≠ 8) : (s.carryOut code).clk = s.clk := by
  unfold State.carryOut
  split
  case h_8 => exact absurd rfl h
  all_goals simp

theorem obey_clk (s : State) {request : Nat} (cause : Nat) (h : request ≠ 8) : (s.obey request cause).clk = s.clk := by
  unfold State.obey
  (repeat' split) <;> simp [carryOut_clk s h]

theorem dueOrders_clk {s : State} (h : s.NoRestartOrdered) : s.dueOrders.clk = s.clk := by
  unfold State.dueOrders
  refine List.foldlRecOn (motive := fun t : State => t.clk = s.clk) _ _ rfl fun t ht r hr => ?_
  rw [obey_clk t r.2 (h.due_ne hr), ht]

/-! #### What an idle tick leaves, and its clock -/

@[simp] theorem idleTick_deferred (s : State) : (idleTick s).deferred = s.deferred := by simp [idleTick]

@[simp] theorem idleTick_fuses (s : State) : (idleTick s).fuses = s.fuses := by simp [idleTick]

@[simp] theorem idleTick_thermal (s : State) : (idleTick s).thermal = s.thermal := by simp [idleTick]

/-- The clock of one tick: ET goes on by one modulo 2^64 where it runs, the island's time while VAUX is present. -/
theorem tick_clk (s : State) :
    s.tick.clk = { s.clk with et := if s.clk.running then (s.clk.et + 1) % 2 ^ 64 else s.clk.et
                              island := if s.power.vaux then s.clk.island + 1 else s.clk.island } := rfl

@[simp] theorem endCycle_vaux (s : State) : s.endCycle.power.vaux = s.power.vaux := rfl

/-- Of the parts of an idle tick only the tick moves the clock, and VAUX is the same when it does. -/
theorem idleTick_clk {s : State} (h : s.NoRestartOrdered) : (idleTick s).clk = s.tick.clk := by
  have hm : ((s.endCycle.replayed 0).replayed 1).tick.markInhibit.NoRestartOrdered := by
    simpa [State.NoRestartOrdered] using h
  have hclk : (idleTick s).clk = ((s.endCycle.replayed 0).replayed 1).tick.clk := by
    simp [idleTick, dueOrders_clk hm]
  rw [hclk, tick_clk, tick_clk]
  simp

/-! #### The step on an empty queue -/

theorem step_idle {s : State} (hp : s.pending = []) (hd : s.deferred = []) : step s = .next (idleTick s) := by
  simp [step, hp, hd]

theorem step_takes_up_deferred {s : State} (hp : s.pending = []) (hd : s.deferred ≠ []) :
    step s = .next { s with pending := s.waiting, deferred := [] } := by
  simp [step, hp, hd]

/-- Settles O2: of the parts of an idle tick only the tick itself moves the clock, because the one request that sets it
back is not among the orders that fall due. -/
theorem idleStepIsOneTick : Obligations.IdleStepIsOneTick := by
  refine ⟨fun s hp hd hr => ?_, fun s hp hd => step_takes_up_deferred hp hd⟩
  have hclk : (idleTick s).clk = s.tick.clk := idleTick_clk hr
  refine ⟨idleTick s, step_idle hp hd, by rw [idleTick_deferred, hd], ?_, ?_, ?_, idleTick_fuses s, idleTick_thermal s⟩
  all_goals rw [hclk, tick_clk]

end Sys2Proof.Machine

/-! ### Which commands leave the state machine of 0x2001 as it is (R15, R19) -/

namespace Sys2Proof.Machine

/-! #### Commands that look up what they act on: found or not, the device state stays -/

@[simp] theorem execResponse_dev (p : Path) (data : List Byte) (s s0 : State) :
    (outcomeState s0 (execResponse p data s)).dev = s.dev := (frame_execResponse p data s s0).2.1

@[simp] theorem execBlockTransferTimeout_dev (p : Path) (s s0 : State) :
    (outcomeState s0 (execBlockTransferTimeout p s)).dev = s.dev := by
  refine frame_inTurnOf_dev _ _ _ _ ?_
  split
  · split <;> simp
  · rfl

@[simp] theorem execSegmentStaged_dev (id : Nat) (s s0 : State) :
    (outcomeState s0 (execSegmentStaged id s)).dev = s.dev := by
  simp only [execSegmentStaged, outcomeState_next]
  split
  · split <;> simp
  · rfl

@[simp] theorem execSlackEvaluation_dev (id : Nat) (s s0 : State) :
    (outcomeState s0 (execSlackEvaluation id s)).dev = s.dev := by
  simp only [execSlackEvaluation, outcomeState_next]
  split <;> simp

@[simp] theorem execPipelineDispatch_dev (pipe : Nat) (s s0 : State) :
    (outcomeState s0 (execPipelineDispatch pipe s)).dev = s.dev := by
  simp only [execPipelineDispatch, outcomeState_next]
  split
  · split
    · rfl
    · split <;> simp
  · rfl

@[simp] theorem execProcessingComplete_dev (pipe : Nat) (s s0 : State) :
    (outcomeState s0 (execProcessingComplete pipe s)).dev = s.dev := by
  simp only [execProcessingComplete, outcomeState_next]
  split
  · split
    · split <;> simp
    · rfl
  · rfl

@[simp] theorem execArchiveCopyComplete_dev (h : Nat) (s s0 : State) :
    (outcomeState s0 (execArchiveCopyComplete h s)).dev = s.dev := by
  simp only [execArchiveCopyComplete, outcomeState_next]
  split <;> simp

@[simp] theorem execLaneDispatch_dev (lane : Nat) (s s0 : State) :
    (outcomeState s0 (execLaneDispatch lane s)).dev = s.dev := by
  simp only [execLaneDispatch, outcomeState_next]
  split
  · split
    · split <;> simp
    · rfl
  · rfl

@[simp] theorem execDarkCaptureComplete_dev (h b : Nat) (s s0 : State) :
    (outcomeState s0 (execDarkCaptureComplete h b s)).dev = s.dev := by
  simp only [execDarkCaptureComplete, outcomeState_next]
  split
  · split <;> simp
  · rfl

@[simp] theorem execGapRecordTimeout_dev (h : Nat) (s s0 : State) :
    (outcomeState s0 (execGapRecordTimeout h s)).dev = s.dev := by
  simp only [execGapRecordTimeout, outcomeState_next]
  split
  · split <;> simp
  · rfl

@[simp] theorem execMicrostep_dev (m : Nat) (s s0 : State) :
    (outcomeState s0 (execMicrostep m s)).dev = s.dev := by
  simp only [execMicrostep, outcomeState_next]
  split
  · split <;> simp
  · rfl

@[simp] theorem execArchiveMessageSend_dev (s s0 : State) :
    (outcomeState s0 (execArchiveMessageSend s)).dev = s.dev := by
  simp only [execArchiveMessageSend, outcomeState_next]
  split <;> simp

/-! #### Every command, family by family -/

/-- The families that can move the device state are those of touchesDeviceState; every other family is listed here with
the meanings of its commands, and each of those is put together from operations whose frames keep the device state. -/
theorem exec_dev {c : Instr} (s : State) (h : c.touchesDeviceState = false) : (outcomeState s (exec c s)).dev = s.dev := by
  cases c
  -- supplies, clocks and start-up
  case laserInhibitReleased | mainPllLock | pllsLocked | ringJoinDone | ringWaitExpiry | headLinkStepDone | startMeasurement
      | freqMeasurementComplete | pllLockRegained =>
    simp [exec, execLaserInhibitReleased, execMainPllLock, execPllsLocked, execRingJoinDone, execRingWaitExpiry,
      execHeadLinkStepDone, execFreqMeasurementComplete, execPllLockRegained]
  -- head links
  case opticsTempTimeout | headLinkEnableWrite | headLinkTrainingTimeout | retrainHoldoffExpiry | uplinkLockLoss =>
    simp [exec, execOpticsTempTimeout, execHeadLinkTrainingTimeout, execRetrainHoldoffExpiry, execUplinkLockLoss]
  -- the ring: bypass, block lock, sessions and their transport
  case bypassLossTimeout | bypassRaise | bypassRetryExpiry | bypassTrialTimeout | bypassEnableWrite | blockLockGain =>
    simp [exec, execBypassLossTimeout, execBypassRaise, execBypassRetryExpiry, execBypassTrialTimeout, execBlockLockGain]
  case sessionOpen | sessionClose | ack | rtoExpiry | ackDelayExpiry | sessionTimeout =>
    simp [exec, execSessionOpen, execSessionClose, execAck, execRtoExpiry, execAckDelayExpiry, execSessionTimeout]
  -- dictionary transfers that carry no write, authentication and stores
  case sdoRead | blockRead | sdoAbort | blockTransferTimeout | spiStatus =>
    simp [exec, execSdoRead, execBlockRead, execSdoAbort, execSpiStatus]
  case challenge | response | drop | authLockoutExpiry | store | storeComplete | restoreDefaults =>
    simp [exec, execAuthLockoutExpiry, execStoreComplete]
  -- the job side
  case job | grantTimerExpiry | segmentStaged | dataWaitEnd | slackEvaluation | slackReport | cancelId | defectRecordSplit
      | servoPeriodTick | planDecision =>
    simp [exec, execJob, execGrantTimerExpiry, execDataWaitEnd, execSlackReport, execDefectRecordSplit, execServoPeriodTick,
      execPlanDecision]
  -- stitching, camera pipelines and the control engine
  case stitchTableWrite | pipelineDispatch | processingComplete | featureRecordHandover | archiveCopyComplete | commit
      | archiveMessageSend | featureLogBlockRead =>
    simp [exec, execFeatureRecordHandover]
  case laneDispatch | darkCapture | darkCaptureComplete | loopEnable | lawWrite | sampleRateSwitch =>
    simp [exec, execSampleRateSwitch]
  -- Network Time
  case ptpExchangeComplete | ptpExchangeTimeout | announceTimeout | ntReanchor | stepNow | etIn | ntInNanoseconds =>
    simp [exec, execPtpExchangeComplete, execPtpExchangeTimeout, execAnnounceTimeout, execNtReanchor]
  -- the twin, but for what can change the role or carry a request
  case heartbeatSend | twinAliveEdge | takeover | ledgerSend | motion | repeatRequest =>
    simp [exec, execHeartbeatSend, execTwinAliveEdge, execTakeover, execLedgerSend, execMotion, execRepeatRequest]
  case twinSoloTimeout | join | autoJoinStart | joinReceived | gapRecordTimeout =>
    simp [exec, execTwinSoloTimeout, execAutoJoinStart, execJoinReceived]
  -- motion and feedback
  case enableAxis | go | stopAxis | home | microstep | moveComplete | holdDelayExpiry | chopCycle =>
    simp [exec, execMoveComplete, execHoldDelayExpiry, execChopCycle]
  case homeEdge | qualifyTimeExpiry | chatterWindowExpiry | homingComplete | limitTrip | limitRelease | recoatStart
      | manualReport =>
    simp [exec, execHomeEdge, execQualifyTimeExpiry, execChatterWindowExpiry, execHomingComplete, execLimitTrip,
      execLimitRelease]
  case encoderEdge | minEdgeExpiry | indexEdge | hallStateChange | comparePulseEnd | probeEdge | probeEvent | encoderCount
      | armCompare =>
    simp [exec, execEncoderEdge, execMinEdgeExpiry, execIndexEdge, execHallStateChange, execComparePulseEnd, execProbeEdge]
  -- memory
  case caAlert | caAlertRelease | caAlertStuck | refresh | zqCalibration | caseTempRead | caseTempTimeout | retrainStart =>
    simp [exec, execCaAlert, execCaAlertRelease, execCaAlertStuck, execRefresh, execZqCalibration, execCaseTempRead,
      execCaseTempTimeout, execRetrainStart]
  -- interrupts, the event recorder, images and tests
  case cause | take | hostRecord | clearTopsoil | flush | nextRecord | cursor | recordFlashWrite | hoursStore =>
    simp [exec, execRecordFlashWrite, execHoursStore]
  case sfImage | mcImage | trial | confirm | factoryBlock | calibrationUserWrite | jtagTckEdge =>
    simp [exec, execJtagTckEdge]
  -- every other command is one of touchesDeviceState
  all_goals cases h

/-- Settles O7: outside the families of touchesDeviceState, every operation a command is made of keeps 0x2001. -/
theorem onlyTheseCommandsMoveTheDeviceState : Obligations.OnlyTheseCommandsMoveTheDeviceState := by
  intro c s t hc ht
  have hdev := exec_dev s hc
  rwa [ht] at hdev

/-! ### Commands of a dictionary path: served, and in their turn (R28, R407, R415) -/

theorem inTurnOf_unserved {s : State} {p : Path} (c : Instr) (d : State) (h : s.served p = false) : s.inTurnOf p c d = d := by
  simp [State.inTurnOf, h]

theorem inTurnOf_gives_way {s : State} {p : Path} {c : Instr} (d : State) (h : s.served p = true) (ht : s.turn c.rank = false) :
    s.inTurnOf p c d = { s with deferred := s.deferred ++ [c] } := by
  simp [State.inTurnOf, State.inTurn, h, ht]

theorem inTurnOf_in_turn {s : State} {p : Path} {c : Instr} (d : State) (ht : s.turn c.rank = true) : s.inTurnOf p c d = d := by
  simp [State.inTurnOf, State.inTurn, ht]

theorem inTurn_in_turn {s : State} {c : Instr} (d : State) (ht : s.turn c.rank = true) : s.inTurn c d = d := by
  simp [State.inTurn, ht]

theorem access_unserved {s : State} {p : Path} {r : Option Abort} {d : State} {b : List Byte} (h : s.served p = false) :
    s.access p r d b = s := by simp [State.access, h]

theorem writeRequest_unserved {s : State} {p : Path} {alone : Bool} {code : Nat} (h : s.served p = false) :
    s.writeRequest p alone code = s := access_unserved h

theorem axisCommand_unserved {s : State} {p : Path} {m sub result : Nat} {gate : Option Abort} {d : State} (h : s.served p = false) :
    s.axisCommand p m sub result gate d = s := by simp [State.axisCommand, h]

/-- A command of a path acts at the place of its path among those of its cycle. -/
theorem rank_of_path {c : Instr} {p : Path} (h : c.path? = some p) : c.rank = pathRank p := by
  unfold Instr.rank
  rw [h]
  cases p <;> rfl

/-- A command of a path waits its turn, and what it does then is nothing where the path is not served. -/
theorem exec_of_path {c : Instr} {p : Path} (s : State) (h : c.path? = some p) :
    ∃ d, exec c s = .next (s.inTurnOf p c d) ∧ (s.served p = false → d = s) := by
  cases c <;> cases h
  case arm | run | pause | resume | stop | disarm | clear | restart | requestNone | stateRequestInvalid =>
    exact ⟨_, rfl, writeRequest_unserved⟩
  case enableAxis | go | stopAxis | home =>
    exact ⟨_, rfl, fun hs => ite_eq_right_iff.2 fun _ => axisCommand_unserved hs⟩
  case sdoRead | sdoWrite | blockWrite | blockRead | sdoAbort | blockSegment | dictionaryWrite | response | sfImage | mcImage
      | trial =>
    exact ⟨_, rfl, fun hs => if_neg (by simp [hs])⟩
  case blockTransferTimeout =>
    refine ⟨_, rfl, fun hs => ?_⟩
    split
    · exact if_neg (by simp [hs])
    · rfl
  case calibrationUserWrite =>
    refine ⟨_, rfl, fun hs => ?_⟩
    split <;> exact access_unserved hs
  all_goals exact ⟨_, rfl, access_unserved⟩

/-- Settles O10: a command of a path answers the state of its turn, which is the state itself where the path is not served. -/
theorem unservedPathHasNoEffect : Obligations.UnservedPathHasNoEffect := by
  constructor
  · intro c p s hp hs
    obtain ⟨d, hd, hnone⟩ := exec_of_path s hp
    rw [hd, inTurnOf_unserved c d hs, hnone hs]
  · intro c p s hp hs ht
    obtain ⟨d, hd, -⟩ := exec_of_path s hp
    rw [hd, inTurnOf_gives_way d hs (by rwa [rank_of_path hp])]

/-! ### What reset leaves (R15, R592, R606) -/

/-- Settles O6: each value of State.reset is the one of the statement; no permit is high in BOOT, and an empty store reads
the defaults. -/
theorem resetStateAtExitFromAux : Obligations.ResetStateAtExitFromAux :=
  ⟨rfl, rfl, rfl, rfl, rfl, rfl, rfl, rfl, rfl, fun _ => rfl, fun _ _ => rfl⟩

end Sys2Proof.Machine

/-! ### The entry to AUX (R19, R587, R590, R592, R594) -/

namespace Sys2Proof.Machine

/-- Of the images a failing trial writes the boot record only (R629, R631). -/
theorem failTrial_images (s : State) (cause : Nat) :
    (s.failTrial cause).images = { s.images with boot := (s.failTrial cause).images.boot } := by
  unfold State.failTrial
  dsimp only
  split
  · simp [Images.writeBoot]
  · rfl

@[simp] theorem failTrial_slotA (s : State) (cause : Nat) : (s.failTrial cause).images.slotA = s.images.slotA := by
  rw [failTrial_images]

@[simp] theorem failTrial_slotB (s : State) (cause : Nat) : (s.failTrial cause).images.slotB = s.images.slotB := by
  rw [failTrial_images]

theorem toAux_power (s : State) (cause rail : Nat) : (s.toAux cause rail).power =
    { s.power with step := 0, startupTime := 0, waitCool := false, resetCause := cause, railFault := rail
                   entered := (s.toAux cause rail).power.entered } := by
  simp [State.toAux, State.lost]

/-- What an entry to AUX leaves: the record of the entry changes nothing that is listed but the count of lost records. -/
theorem toAux_inAuxFrom (s : State) (cause rail : Nat) : (s.toAux cause rail).InAuxFrom s where
  state := by simp [State.toAux]
  prev := by simp [State.toAux]
  cause := by simp [State.toAux]
  heads := by simp [State.toAux, State.lost]
  job := by simp [State.toAux, State.lost, State.reset]
  blobs := by simp [State.toAux, State.lost, State.reset]
  regs := (Reports_record _ _ _).regs
  clk := by simp [State.toAux, State.lost]
  fuses := by simp [State.toAux, State.lost]
  tripped := by simp [State.toAux, State.lost]
  inhibit := by simp [State.toAux, State.lost]
  slotA := by simp [State.toAux, State.lost]
  slotB := by simp [State.toAux, State.lost]
  flash := by simp [State.toAux, State.lost]

/-- The reset inputs change no part that an entry to AUX is judged by. -/
theorem resetPins_inAuxFrom {s t : State} (cause : Nat) (h : t.InAuxFrom s) : (t.resetPins cause).InAuxFrom s where
  state := by simpa [State.resetPins] using h.state
  prev := by simpa [State.resetPins] using h.prev
  cause := by simpa [State.resetPins] using h.cause
  heads := by simpa [State.resetPins] using h.heads
  job := by simpa [State.resetPins] using h.job
  blobs := by simpa [State.resetPins] using h.blobs
  regs := KeepsRegs_trans h.regs (KeepsRegs_of_eq _ (by simp [State.resetPins]))
  clk := by simpa [State.resetPins] using h.clk
  fuses := by simpa [State.resetPins] using h.fuses
  tripped := by simpa [State.resetPins] using h.tripped
  inhibit := by simpa [State.resetPins] using h.inhibit
  slotA := by simpa [State.resetPins] using h.slotA
  slotB := by simpa [State.resetPins] using h.slotB
  flash := by simpa [State.resetPins] using h.flash

theorem resetPins_power (s : State) (cause : Nat) : (s.resetPins cause).power =
    { s.power with resetFree := s.power.resetFree && cause != 0x04, pwrgood := s.power.pwrgood && cause == 0x04 } := by
  simp [State.resetPins]

/-- A main reset outside OFF and AUX: the entry, its cause, and the reset inputs as the trigger leaves them. -/
theorem mainReset_enters_aux {s : State} (hoff : s.dev.state ≠ .off) (haux : s.dev.state ≠ .aux) (cause rail : Nat) :
    (s.mainReset cause rail).InAuxFrom s ∧ (s.mainReset cause rail).power.resetCause = cause
      ∧ (s.mainReset cause rail).power.railFault = rail
      ∧ (s.mainReset cause rail).power.resetFree = (s.power.resetFree && cause != 0x04)
      ∧ (s.mainReset cause rail).power.pwrgood = (s.power.pwrgood && cause == 0x04) := by
  have heq : s.mainReset cause rail = (s.toAux cause rail).resetPins cause := by simp [State.mainReset, hoff, haux]
  rw [heq, resetPins_power, toAux_power]
  exact ⟨resetPins_inAuxFrom cause (toAux_inAuxFrom s cause rail), rfl, rfl, rfl, rfl⟩

/-- Settles O12: the three triggers are one main reset with a cause of their own. -/
theorem mainResetsEnterAux : Obligations.MainResetsEnterAux := by
  intro s hoff haux
  refine ⟨?_, ?_, fun rail hrail => ?_⟩
  · obtain ⟨hin, hcause, hrail, hfree, -⟩ := mainReset_enters_aux hoff haux 0x04 0
    exact ⟨_, rfl, hcause, hrail, by simpa using hfree, hin⟩
  · obtain ⟨hin, hcause, hrail, -, hgood⟩ := mainReset_enters_aux hoff haux 0x02 0
    exact ⟨_, rfl, hcause, hrail, by simpa using hgood, hin⟩
  · obtain ⟨hin, hcause, hfault, -, hgood⟩ := mainReset_enters_aux hoff haux 0x03 (2 ^ rail)
    have hexec : exec (.railUndervoltage rail) s = .next (s.mainReset 0x03 (2 ^ rail)) := by
      simp [exec, execRailUndervoltage, hrail]
    exact ⟨_, hexec, hcause, hfault, by simpa using hgood, hin⟩

end Sys2Proof.Machine

/-! ### The standing of the controller in a pair (R453, R473): only the twin unit's own operations change role and COLD_CAUSE -/

namespace Sys2Proof.Machine

/-- What the controller is in its pair: its role, and why it is COLD. -/
def Twin.standing (t : Twin) : Role × Nat := (t.role, t.coldCause)

theorem role_of_standing {s t : State} (h : t.twin.standing = s.twin.standing) : t.twin.role = s.twin.role :=
  congrArg Prod.fst h

theorem coldCause_of_standing {s t : State} (h : t.twin.standing = s.twin.standing) : t.twin.coldCause = s.twin.coldCause :=
  congrArg Prod.snd h

/-- A report numbers and keeps messages of the twin; it changes no standing. -/
theorem ReportsWith_standing {s t : State} {ks : List Nat} (h : s.ReportsWith t ks) : t.twin.standing = s.twin.standing := by
  rw [h.twin]
  rfl

theorem foldl_standing {α : Type} {f : State → α → State} (h : ∀ t a, (f t a).twin.standing = t.twin.standing) (l : List α) (s : State) :
    (l.foldl f s).twin.standing = s.twin.standing := foldl_keeps (fun t => t.twin.standing) h l s

/-! #### Reports -/

@[simp] theorem twinLead_standing (s : State) (k : Nat) (f : List Int) : (s.twinLead k f).twin.standing = s.twin.standing :=
  ReportsWith_standing (Reports_twinLead s k f)

@[simp] theorem message_standing (s : State) (n k : Nat) (r : Bool) (b : List Byte) : (s.message n k r b).twin.standing = s.twin.standing :=
  ReportsWith_standing (Reports_message s n k r b)

@[simp] theorem jobMessage_standing (s : State) (k : Nat) (b : List Byte) : (s.jobMessage k b).twin.standing = s.twin.standing :=
  ReportsWith_standing (Reports_jobMessage s k b)

@[simp] theorem publish_standing (s : State) (bit k : Nat) (r : Bool) (b : List Byte) : (s.publish bit k r b).twin.standing = s.twin.standing :=
  ReportsWith_standing (Reports_publish s bit k r b)

@[simp] theorem setLeaf_standing (s : State) (reg bit : Nat) : (s.setLeaf reg bit).twin.standing = s.twin.standing :=
  ReportsWith_standing (Reports_setLeaf s reg bit)

@[simp] theorem record_standing (s : State) (ty : Nat) (p : List Byte) : (s.record ty p).twin.standing = s.twin.standing :=
  ReportsWith_standing (Reports_record s ty p)

@[simp] theorem progress_standing (s : State) (g : Segment) (kind head marker tag : Nat) :
    (s.progress g kind head marker tag).twin.standing = s.twin.standing := publish_standing _ _ _ _ _

@[simp] theorem countInhibit_standing (s : State) (et : Tick) : (s.countInhibit et).twin.standing = s.twin.standing := by
  simp [State.countInhibit]

/-! #### Transitions -/

@[simp] theorem compareStates_standing (s : State) : s.compareStates.twin.standing = s.twin.standing := by
  unfold State.compareStates
  split <;> rfl

@[simp] theorem requested_standing (s : State) (next : DevState) : (s.requested next).twin.standing = s.twin.standing := by
  simp [State.requested]

@[simp] theorem automatic_standing (s : State) (next : DevState) (cause : Nat) : (s.automatic next cause).twin.standing = s.twin.standing := by
  simp only [State.automatic, record_standing]
  split <;> simp

/-! #### Books, records and cuts -/

@[simp] theorem writeDefect_standing (s : State) (r : DefectRecord) : (s.writeDefect r).twin.standing = s.twin.standing := by
  unfold State.writeDefect
  (repeat' split) <;> simp

@[simp] theorem closeRecords_standing (s : State) (h : HeadNo) (last : Tick) (p : DefectRecord → Bool) :
    (s.closeRecords h last p).twin.standing = s.twin.standing := by
  unfold State.closeRecords
  simp [foldl_standing]

@[simp] theorem grant_standing (s : State) : s.grant.twin.standing = s.twin.standing := by
  unfold State.grant
  (repeat' split) <;> simp

@[simp] theorem free_standing (s : State) (n : Nat) : (s.free n).twin.standing = s.twin.standing := by
  simp only [State.free]
  split
  · rw [grant_standing]
  · rfl

@[simp] theorem finalise_standing (s : State) (g : Segment) (state : SegState) : (s.finalise g state).twin.standing = s.twin.standing := by
  simp [State.finalise]

@[simp] theorem recordBreak_standing (s : State) (g : Segment) (cause head item detail : Nat) :
    (s.recordBreak g cause head item detail).twin.standing = s.twin.standing := by
  simp [State.recordBreak]

@[simp] theorem abandonRest_standing (s : State) (g : Segment) (h : HeadNo) (cause detail : Nat) :
    (s.abandonRest g h cause detail).twin.standing = s.twin.standing := by
  unfold State.abandonRest
  dsimp only
  split <;> simp

theorem writeDefects_standing {α : Type} (f : α → List DefectRecord) (l : List α) (s : State) :
    (l.foldl (fun v w => (f w).foldl State.writeDefect v) s).twin.standing = s.twin.standing :=
  foldl_standing (fun v w => foldl_standing writeDefect_standing (f w) v) l s

@[simp] theorem abandonPart_standing (s : State) (g : Segment) (cause detail : Nat) (h : HeadNo) :
    (s.abandonPart g cause detail h).twin.standing = s.twin.standing := by
  unfold State.abandonPart
  extract_lets x done mine t u stand v
  have ht : t.twin.standing = s.twin.standing := by simp only [t, closeRecords_standing, frame_reachAhead]
  have hu : u.twin.standing = t.twin.standing := by
    simp only [u, frame_onPath]
    exact foldl_standing (fun v w => by simp only [frame_bookCut]) _ _
  have hv : v.twin.standing = s.twin.standing := by rw [← ht, ← hu]; exact writeDefects_standing _ _ _
  split
  · exact hv
  · rw [abandonRest_standing, hv]

@[simp] theorem cancel_standing (s : State) (cause detail key : Nat) : (s.cancel cause detail key).twin.standing = s.twin.standing := by
  unfold State.cancel
  (repeat' split) <;> simp [foldl_standing]

@[simp] theorem breakPromise_standing (s : State) (key cause head item detail : Nat) :
    (s.breakPromise key cause head item detail).twin.standing = s.twin.standing := by
  unfold State.breakPromise
  (repeat' split) <;> simp [foldl_standing]

@[simp] theorem breakWork_standing (s : State) (h cause detail : Nat) (x : HeadPath) (slots : List SentSlot) :
    (s.breakWork h cause detail x slots).twin.standing = s.twin.standing := by
  refine foldl_standing (fun t w => ?_) _ _
  split <;> simp

@[simp] theorem cutItem_standing (s : State) (h : HeadNo) (cause detail : Nat) (slots : List SentSlot) :
    (s.cutItem h cause detail slots).twin.standing = s.twin.standing := by
  unfold State.cutItem
  extract_lets x stand place t u
  have ht : t.twin.standing = s.twin.standing := by simp only [t, closeRecords_standing, frame_reachAhead]
  have hu : u.twin.standing = t.twin.standing := by simp only [u, frame_onPath, frame_bookInterrupted]
  rw [writeDefects_standing, hu, ht]

@[simp] theorem cutHead_standing (s : State) (cause : Nat) (h : HeadNo) : (s.cutHead cause h).twin.standing = s.twin.standing := by
  unfold State.cutHead
  extract_lets slots t
  have ht : t.twin.standing = s.twin.standing := by simp only [t, frame_discardFrames]
  split <;> simp only [State.cutAndBreak, frame_drawn, breakWork_standing, cutItem_standing, ht]

@[simp] theorem cutHeads_standing (s : State) (cause : Nat) : (s.cutHeads cause).twin.standing = s.twin.standing := by
  simp [State.cutHeads, foldl_standing]

@[simp] theorem cutAll_standing (s : State) (cause : Nat) : (s.cutAll cause).twin.standing = s.twin.standing := by
  simp [State.cutAll, State.breakAll, foldl_standing]

/-! #### Items and their entry checks -/

@[simp] theorem applyEntry_standing (s : State) (h : HeadNo) (r : ItemRun) (k : Nat) (st : Stretch) (b : Tick) (v : Bool × Bool) :
    (s.applyEntry h r k st b v).twin.standing = s.twin.standing := by simp

@[simp] theorem obeyEntry_standing (s : State) (h : HeadNo) (r : ItemRun) (k : Nat) (st : Stretch) (b : Tick) (o : Nat × Nat) :
    (s.obeyEntry h r k st b o).twin.standing = s.twin.standing := by
  simp only [State.obeyEntry, applyEntry_standing]
  rfl

@[simp] theorem checkEntry_standing (s : State) (h : HeadNo) : (s.checkEntry h).twin.standing = s.twin.standing := by
  unfold State.checkEntry
  split
  · rfl
  · dsimp only
    split
    · exact obeyEntry_standing _ _ _ _ _ _ _
    · split
      · rfl
      · rw [twinLead_standing, applyEntry_standing]

@[simp] theorem lateChecks_standing (s : State) (h : HeadNo) (et : Tick) (n : Nat) : (s.lateChecks h et n).twin.standing = s.twin.standing := by
  induction n generalizing s with
  | zero => rfl
  | succ n ih =>
    unfold State.lateChecks
    split
    · split <;> simp [ih]
    · rfl

@[simp] theorem countItem_standing (s : State) (h : HeadNo) (it : Item) (r : ItemRun) : (s.countItem h it r).twin.standing = s.twin.standing := by
  unfold State.countItem
  dsimp only
  (repeat' split) <;> simp

@[simp] theorem beginRun_standing (s : State) (h : HeadNo) (g : Segment) (n : Nat) (it : Item) (r : ItemRun) (later : List ItemRun)
    (et : Tick) : (s.beginRun h g n it r later et).twin.standing = s.twin.standing := by
  simp [State.beginRun]

@[simp] theorem beginItem_standing (s : State) (h : HeadNo) (g : Segment) (n factor t0 : Nat) (it : Item) :
    (s.beginItem h g n factor t0 it).twin.standing = s.twin.standing := by
  simp [State.beginItem]

@[simp] theorem finishPart_standing (s : State) (h : HeadNo) (g : Segment) : (s.finishPart h g).twin.standing = s.twin.standing := by
  simp [State.finishPart]

@[simp] theorem holdData_standing (s : State) (h : HeadNo) (r : HoldReason) : (s.holdData h r).twin.standing = s.twin.standing := by
  unfold State.holdData
  split <;> simp

end Sys2Proof.Machine

/-! ### Transitions: what they leave in 0x2001, and when no permit is high (R15, R19, R25, R595) -/

namespace Sys2Proof.Machine

theorem automatic_dev (s : State) (next : DevState) (cause : Nat) :
    (s.automatic next cause).dev = { s.dev.moved next cause s.et with autoThisCycle := true } := by
  simp only [State.automatic]
  split <;> simp

@[simp] theorem automatic_state (s : State) (next : DevState) (cause : Nat) : (s.automatic next cause).dev.state = next := by
  rw [automatic_dev]; rfl

@[simp] theorem automatic_cause (s : State) (next : DevState) (cause : Nat) : (s.automatic next cause).dev.cause = cause := by
  rw [automatic_dev]; rfl

@[simp] theorem automatic_prev (s : State) (next : DevState) (cause : Nat) :
    (s.automatic next cause).dev.prev = s.dev.state := by
  rw [automatic_dev]; rfl

theorem permit_of_inhibit {s : State} (h : s.power.inhibit = true) (k : HeadNo) : s.permit k = false := by
  simp [State.permit, h]

theorem permit_of_state {s : State} (h : s.dev.state.permits = false) (k : HeadNo) : s.permit k = false := by
  simp [State.permit, h]

/-- Outside ARMED, EXPOSING and PAUSED the change to COLD moves no device state (R32). -/
theorem goCold_dev_of_no_permit {s : State} (h : s.dev.state.permits = false) (cause : Nat) : (s.goCold cause).dev = s.dev := by
  simp [State.goCold, h]

/-- An entry to FAULT, whatever the role: only what the transition itself writes of 0x2001. -/
theorem toFault_dev (s : State) (cause : Nat) :
    (s.toFault cause).dev = { s.dev.moved .fault cause s.et with autoThisCycle := true } := by
  have hauto : ((s.cutAll (faultDefect cause)).automatic .fault cause).dev
      = { s.dev.moved .fault cause s.et with autoThisCycle := true } := by
    rw [automatic_dev]; simp [State.et]
  unfold State.toFault
  extract_lets t u v
  have hv : v.dev = { s.dev.moved .fault cause s.et with autoThisCycle := true } := by
    rw [← hauto]
    simp only [v, u, t]
    split <;> simp
  split
  · rw [goCold_dev_of_no_permit (by rw [hv]; rfl), hv]
  · exact hv

/-- A fault cause outside a trip, from a state that R19 lists: FAULT with it. -/
theorem faultCause_enters_fault {s : State} (htrip : s.thermal.tripped = false) (hstate : s.dev.state.faults = true) (cause : Nat) :
    (s.faultCause cause).dev = { s.dev.moved .fault cause s.et with autoThisCycle := true } := by
  rw [← toFault_dev]
  simp [State.faultCause, htrip, hstate]

end Sys2Proof.Machine

/-! ### The inhibit (R27, R595 to R598, R461) -/

namespace Sys2Proof.Machine

/-- A SHADOW waits for the PRIMARY's STATE message. -/
theorem inhibitState_shadow {s : State} (h : s.twin.role = .shadow) : s.inhibitState = s := by
  simp [State.inhibitState, h]

theorem inhibitState_of_armed {s : State} (hrole : s.twin.role ≠ .shadow) (h : s.dev.state = .armed) :
    s.inhibitState.dev = { s.dev.moved .standby 0x0040 s.et with autoThisCycle := true } := by
  simp [State.inhibitState, State.inhibitMove, hrole, h, automatic_dev]

theorem inhibitState_of_exposing {s : State} (hrole : s.twin.role ≠ .shadow) (h : s.dev.state = .exposing) :
    s.inhibitState.dev = { s.dev.moved .paused 0x0040 s.et with autoThisCycle := true } := by
  simp [State.inhibitState, State.inhibitMove, hrole, h, automatic_dev]

theorem inhibitState_elsewhere {s : State} (harmed : s.dev.state ≠ .armed) (hexp : s.dev.state ≠ .exposing) :
    s.inhibitState = s := by
  unfold State.inhibitState State.inhibitMove
  split
  · rfl
  · split
    · contradiction
    · contradiction
    · rfl

/-- The cut and the count that come before the transition. -/
def State.inhibitCut (s : State) : State :=
  (if s.dev.state = .exposing then ({ s with power := { s.power with inhibit := true } } : State).cutAll 0x06
    else ({ s with power := { s.power with inhibit := true } } : State).cutHeads 0x06).countInhibit s.et

theorem inhibited_eq (s : State) : s.inhibited = s.inhibitCut.inhibitState := rfl

/-- The cut keeps all but the inhibit and what it cuts and reports. -/
theorem inhibitCut_frame (s : State) : s.inhibitCut.power = { s.power with inhibit := true } ∧ s.inhibitCut.dev = s.dev
    ∧ s.inhibitCut.twin.role = s.twin.role ∧ s.inhibitCut.clk = s.clk ∧ s.inhibitCut.motion = s.motion
    ∧ s.inhibitCut.thermal = s.thermal ∧ s.inhibitCut.fuses = s.fuses ∧ s.inhibitCut.flash = s.flash := by
  have hrole : s.inhibitCut.twin.role = s.twin.role := by
    refine role_of_standing ?_
    unfold State.inhibitCut
    split <;> simp
  rw [hrole]
  unfold State.inhibitCut
  split <;> simp

theorem inhibitState_frame (s : State) : s.inhibitState.power = s.power ∧ s.inhibitState.clk = s.clk
    ∧ s.inhibitState.motion = s.motion ∧ s.inhibitState.thermal = s.thermal ∧ s.inhibitState.fuses = s.fuses
    ∧ s.inhibitState.flash = s.flash := by simp

theorem released_reports (s : State) : ({ s with power := { s.power with inhibit := false } } : State).Reports s.released :=
  Reports_trans (Reports_setLeaf _ _ _) (Reports_record _ _ _)

/-- Settles O13: the assertion is a cut, a count and the transition of R19; the release only reports. -/
theorem laserInhibitCommandsComplete : Obligations.LaserInhibitCommandsComplete := by
  refine ⟨fun s hturn hoff haux hinh => ?_, fun s hturn hoff haux hinh => ?_⟩
  · have hexec : exec .laserInhibitAsserted s = .next s.inhibited := by
      simp [exec, execLaserInhibitAsserted, inTurn_in_turn (c := .laserInhibitAsserted) _ hturn, hoff, haux, hinh]
    obtain ⟨cpower, cdev, crole, cclk, cmotion, cthermal, cfuses, cflash⟩ := inhibitCut_frame s
    obtain ⟨mpower, mclk, mmotion, mthermal, mfuses, mflash⟩ := inhibitState_frame s.inhibitCut
    have hpower : s.inhibited.power = { s.power with inhibit := true } := by rw [inhibited_eq, mpower, cpower]
    refine ⟨_, hexec, hpower, permit_of_inhibit (by rw [hpower]), fun hrole => ?_, fun hrole h => ?_, fun hrole h => ?_,
      fun harmed hexp => ?_, by rw [inhibited_eq, mclk, cclk], by rw [inhibited_eq, mmotion, cmotion],
      by rw [inhibited_eq, mthermal, cthermal], by rw [inhibited_eq, mfuses, cfuses], by rw [inhibited_eq, mflash, cflash]⟩
    · rw [inhibited_eq, inhibitState_shadow (by rw [crole, hrole]), cdev]
    · rw [inhibited_eq, inhibitState_of_armed (by rwa [crole]) (by rw [cdev, h]), cdev]
      exact ⟨rfl, rfl, h⟩
    · rw [inhibited_eq, inhibitState_of_exposing (by rwa [crole]) (by rw [cdev, h]), cdev]
      exact ⟨rfl, rfl, h⟩
    · rw [inhibited_eq, inhibitState_elsewhere (by rwa [cdev]) (by rwa [cdev]), cdev]
  · have hexec : exec .laserInhibitReleased s = .next s.released := by
      simp [exec, execLaserInhibitReleased, inTurn_in_turn (c := .laserInhibitReleased) _ hturn, hoff, haux, hinh]
    exact ⟨_, hexec, released_reports s⟩

end Sys2Proof.Machine

/-! ### Start-up (R18, R601 to R606): each step ends as its own commands say, or its bound holds BOOT -/

namespace Sys2Proof.Machine

/-! #### The steps, and BOOT held -/

theorem step_of_atStep {s : State} {n : Nat} (h : s.atStep n = true) : s.power.step = n := by
  simp only [State.atStep, Bool.and_eq_true, beq_iff_eq] at h
  exact h.1.1.1

theorem atStep_other {s : State} {n m : Nat} (h : s.atStep n = true) (hne : m ≠ n) : s.atStep m = false := by
  simp [State.atStep, step_of_atStep h, hne.symm]

theorem holdBoot_dev (s : State) (cause : Nat) :
    (s.holdBoot cause).dev = { s.dev.moved .boot cause s.et with autoThisCycle := true } := by
  simp [State.holdBoot, automatic_dev]

/-- Held in BOOT with a cause: the transition is all that moves the device state and the supplies stay. -/
theorem holdBoot_holds (s : State) (cause : Nat) :
    (s.holdBoot cause).dev.state = .boot ∧ (s.holdBoot cause).dev.cause = cause ∧ (s.holdBoot cause).power = s.power := by
  rw [holdBoot_dev]
  exact ⟨rfl, rfl, by simp [State.holdBoot]⟩

/-! #### Step 2: the oscillator and the PLLs (R563, R564) -/

/-- Settles O14: one equation per branch of the three commands. -/
theorem clockStartupStepsComplete : Obligations.ClockStartupStepsComplete := by
  refine ⟨fun s r n hstep hstable => ?_, fun s hstep hstable hlock hrun => ?_, fun s hstep hstable hlock hrun => ?_,
    fun s hstep hlock => ?_⟩
  · by_cases hlate : (s.clocks.judge (min r 2) n).stable = false ∧ 100 ≤ (s.clocks.judge (min r 2) n).judgeGates
    · have hexec : exec (.oscillatorGate r n) s
          = .next (({ s with clocks := s.clocks.judge (min r 2) n } : State).holdBoot 0x10) := by
        simp [exec, execOscillatorGate, hstep, hstable, hlate]
      have hclocks : (({ s with clocks := s.clocks.judge (min r 2) n } : State).holdBoot 0x10).clocks
          = s.clocks.judge (min r 2) n := by simp [State.holdBoot]
      obtain ⟨hstate, hcause, -⟩ := holdBoot_holds ({ s with clocks := s.clocks.judge (min r 2) n } : State) 0x10
      refine ⟨_, hexec, hclocks, fun hor => ?_, fun _ _ => ⟨hstate, hcause⟩⟩
      rw [hclocks] at hor
      obtain ⟨hunstable, hgates⟩ := hlate
      rcases hor with hor | hor
      · simp [hunstable] at hor
      · omega
    · refine ⟨{ s with clocks := s.clocks.judge (min r 2) n }, ?_, rfl, fun _ => rfl, fun hs hg => absurd ⟨hs, hg⟩ hlate⟩
      simp only [exec, execOscillatorGate, hstep, hstable, and_self, if_true, if_neg hlate]
  · simp [exec, execMainPllLock, hstep, hstable, hlock, hrun]
  · simp [exec, execMainPllLock, hstep, hstable, hlock, hrun]
  · simp [exec, execPllsLocked, hstep, hlock]

/-! #### Steps 3 and 4: memory, image and factory block (R524, R527, R617, R623) -/

theorem blockFault_of_fuses {s t : State} (h : t.fuses = s.fuses) (bs : List Byte) : t.blockFault bs = s.blockFault bs := by
  simp only [State.blockFault, h]

@[simp] theorem takeSlot_running (s : State) (n : Nat) (f : Bool) : (s.takeSlot n f).images.running = some n := by
  unfold State.takeSlot
  dsimp only
  split <;> simp

@[simp] theorem takeSlot_fallback (s : State) (n : Nat) (f : Bool) : (s.takeSlot n f).images.fallback = f := by
  unfold State.takeSlot
  dsimp only
  split <;> simp

/-- Of the images a start on a slot writes the boot record and what runs, never the factory block. -/
@[simp] theorem takeSlot_block (s : State) (n : Nat) (f : Bool) : (s.takeSlot n f).images.block = s.images.block := by
  unfold State.takeSlot
  dsimp only
  split <;> split <;> simp [Images.writeBoot]

theorem judgeBlock_images (s : State) : s.judgeBlock.images =
    { s.images with blockValid := s.blockFault s.images.block == 0, failReason := s.blockFault s.images.block
                    inUse := if s.blockFault s.images.block = 0 then some s.images.block else none } := by
  unfold State.judgeBlock
  dsimp only
  split <;> simp

/-- Step 4 with a slot chosen, up to the records of the front end: the slot taken and the block judged. -/
def State.slotStarted (s : State) (n : Nat) (fallback : Bool) : State :=
  let t := (s.takeSlot n fallback).judgeBlock
  ({ t with power := t.power.countCycle }).dropTorn.frontToQueue.loadStored

theorem imageCheck_slot {s : State} {n : Nat} {f : Bool} (h : s.chosenSlot = some (n, f)) :
    s.imageCheck = (s.slotStarted n f).leaveBoot.reportLost := by
  simp only [State.imageCheck, h, State.slotStarted]

theorem imageCheck_none {s : State} (h : s.chosenSlot = none) : s.imageCheck = s.holdBoot 0x12 := by
  simp only [State.imageCheck, h]

theorem slotStarted_images (s : State) (n : Nat) (f : Bool) :
    (s.slotStarted n f).images = (s.takeSlot n f).judgeBlock.images := by
  simp [State.slotStarted]

@[simp] theorem slotStarted_frame (s : State) (n : Nat) (f : Bool) : (s.slotStarted n f).clk = s.clk ∧ (s.slotStarted n f).fuses = s.fuses
    ∧ (s.slotStarted n f).heads = s.heads ∧ (s.slotStarted n f).motion = s.motion ∧ (s.slotStarted n f).thermal = s.thermal := by
  simp [State.slotStarted]

theorem leaveBoot_dev (s : State) : s.leaveBoot.dev = { s.dev.moved .restricted 0x01 s.et with autoThisCycle := true } :=
  automatic_dev s .restricted 0x01

theorem divideDram_eq (s : State) (gib ranks a b : Nat) : s.divideDram gib ranks a b =
    { s with dram := (s.divideDram gib ranks a b).dram, job := (s.divideDram gib ranks a b).job
             power := (s.divideDram gib ranks a b).power, regs := (s.divideDram gib ranks a b).regs } := rfl

theorem divideDram_trains (s : State) (gib ranks a b : Nat) : ∀ c ∈ (s.divideDram gib ranks a b).dram.channels, c.trained = true := by
  intro c hc
  simp only [State.divideDram, State.setReg, List.mem_cons, List.not_mem_nil, or_false] at hc
  rcases hc with rfl | rfl <;> rfl

theorem divideDram_regs (s : State) (gib ranks a b : Nat) : s.KeepsRegs (s.divideDram gib ranks a b) [regKey 0x3012 4] :=
  KeepsRegs_trans (KeepsRegs_of_eq _ rfl) (KeepsRegs_setReg _ _ _ _ (List.mem_singleton.2 rfl))

/-- Settles O15: the memory divided in one write; the image check follows the chain of step 4. -/
theorem memoryAndImageStartupStepsComplete : Obligations.MemoryAndImageStartupStepsComplete := by
  refine ⟨fun s a b gib ranks hstep hsize => ?_, fun s r a b hstep => ?_, fun s n f hstep hslot => ?_, fun s hstep hslot => ?_⟩
  · have hexec : exec (.dramTrainingDone none a b) s = .next (s.divideDram gib ranks a b) := by
      simp [exec, execDramTrainingDone, hstep, hsize]
    exact ⟨_, hexec, rfl, rfl, rfl, rfl, divideDram_trains s gib ranks a b, rfl, rfl, divideDram_regs s gib ranks a b,
      divideDram_eq s gib ranks a b⟩
  · have hexec : exec (.dramTrainingDone (some r) a b) s = .next (s.holdBoot 0x11) := by
      simp [exec, execDramTrainingDone, hstep]
    exact ⟨_, hexec, holdBoot_holds s 0x11⟩
  · have hexec : exec .imageCheckDone s = .next (s.slotStarted n f).leaveBoot.reportLost := by
      simp [exec, execImageCheckDone, hstep, imageCheck_slot hslot]
    have hdev : (s.slotStarted n f).leaveBoot.reportLost.dev
        = { (s.slotStarted n f).dev.moved .restricted 0x01 (s.slotStarted n f).et with autoThisCycle := true } := by
      simp [leaveBoot_dev]
    have himages : (s.slotStarted n f).leaveBoot.reportLost.images = (s.takeSlot n f).judgeBlock.images := by
      simp [slotStarted_images]
    have hblock : (s.takeSlot n f).blockFault (s.takeSlot n f).images.block = s.blockFault s.images.block := by
      rw [takeSlot_block, blockFault_of_fuses (s := s) (by simp)]
    refine ⟨_, hexec, by rw [hdev]; rfl, by rw [hdev]; rfl, by simp [State.leaveBoot, State.toStep], ?_, ?_, ?_, ?_,
      by simp, by simp, by simp, by simp, by simp⟩ <;>
      rw [himages, judgeBlock_images]
    · exact takeSlot_running s n f
    · exact takeSlot_fallback s n f
    · rw [hblock]
    · rw [hblock, takeSlot_block]
  · have hexec : exec .imageCheckDone s = .next (s.holdBoot 0x12) := by
      simp [exec, execImageCheckDone, hstep, imageCheck_none hslot]
    exact ⟨_, hexec, holdBoot_holds s 0x12⟩

/-! #### Steps 5 to 8, and the bounds of every step (R601 to R606) -/

theorem endRingStep_frame (s : State) : s.endRingStep.power = { s.power with step := 6 } ∧ s.endRingStep.engine.rate = s.rateAsked
    ∧ s.endRingStep.dev = s.dev ∧ s.endRingStep.clk = s.clk ∧ s.endRingStep.clocks = s.clocks ∧ s.endRingStep.motion = s.motion
    ∧ s.endRingStep.thermal = s.thermal := by
  refine ⟨?_, ?_, ?_, ?_, ?_, ?_, ?_⟩ <;> simp only [State.endRingStep, frame_startLinks] <;> rfl

/-- The record of the start changes nothing of the device state. -/
theorem recordStart_frame (s : State) (leaf : Nat) : (s.recordStart leaf).dev = s.dev ∧ (s.recordStart leaf).power.step = 0
    ∧ (s.recordStart leaf).heads = s.heads ∧ (s.recordStart leaf).job = s.job ∧ (s.recordStart leaf).clk = s.clk
    ∧ (s.recordStart leaf).clocks = s.clocks := by
  simp [State.recordStart]

theorem stepEight_step (s : State) : s.stepEight.power.step = 0 := by
  unfold State.stepEight
  split
  · exact (recordStart_frame _ _).2.1
  · exact (recordStart_frame _ _).2.1

theorem stepEight_tested {s : State} (ht : s.images.tested = true) (hb : s.images.blockValid = true) :
    s.stepEight.dev = { s.dev.moved .standby 0 s.et with autoThisCycle := true } := by
  simp only [State.stepEight, ht, hb, and_self, if_true, recordStart_frame, automatic_dev]

/-- Untested, or without a valid block, the start ends where it stands, with its cause (R604). -/
theorem stepEight_restricted {s : State} (h : s.images.tested = false ∨ s.images.blockValid = false) :
    s.stepEight.dev = { s.dev with cause := if s.images.tested then 0x21 else 0x20 } := by
  have hnot : ¬(s.images.tested = true ∧ s.images.blockValid = true) := by
    rintro ⟨ht, hb⟩
    simp [ht, hb] at h
  simp [State.stepEight, if_neg hnot]

/-- Settles O16: steps 5, 6 and 7 end by one operation each, and the bound of a step is that operation or BOOT held. -/
theorem lateStartupStepsComplete : Obligations.LateStartupStepsComplete := by
  refine ⟨fun s h hf => ?_, fun s h => ?_, fun s h hl => ?_, fun s h ht hb => ?_, fun s h hor => ?_, fun s h => ?_, fun s h => ?_,
    fun s h => ?_, fun s h => ?_, fun s h => ?_, fun s h => ?_⟩
  · exact ⟨s.endRingStep, by simp [exec, execRingJoinDone, h, hf], endRingStep_frame s⟩
  · exact ⟨s.endRingStep, by simp [exec, execRingWaitExpiry, h], endRingStep_frame s⟩
  · exact ⟨s.toStep 7, by simp [exec, execHeadLinkStepDone, h, hl], rfl⟩
  · have hdev : s.formAll.stepEight.dev = { s.dev.moved .standby 0 s.et with autoThisCycle := true } := by
      rw [stepEight_tested (by simpa using ht) (by simpa using hb)]
      simp [State.et]
    exact ⟨s.formAll.stepEight, by simp [exec, execCalibrationLoadDone, h], by rw [hdev]; rfl, by rw [hdev]; rfl, stepEight_step _,
      by simp, by simp, by simp, by simp⟩
  · have hdev : s.formAll.stepEight.dev = { s.dev with cause := if s.images.tested then 0x21 else 0x20 } := by
      rw [stepEight_restricted (by simpa using hor)]
      simp
    exact ⟨s.formAll.stepEight, by simp [exec, execCalibrationLoadDone, h], by rw [hdev], by rw [hdev], stepEight_step _,
      by simp, by simp, by simp, by simp⟩
  · obtain ⟨hstate, hcause, -⟩ := holdBoot_holds s 0x10
    exact ⟨s.holdBoot 0x10, by simp [exec, execStartupBoundExpiry, State.boundExpired, h], hstate, hcause⟩
  · obtain ⟨hstate, hcause, -⟩ := holdBoot_holds s 0x11
    exact ⟨s.holdBoot 0x11, by simp [exec, execStartupBoundExpiry, State.boundExpired, h, atStep_other h], hstate, hcause⟩
  · obtain ⟨hstate, hcause, -⟩ := holdBoot_holds s 0x12
    exact ⟨s.holdBoot 0x12, by simp [exec, execStartupBoundExpiry, State.boundExpired, h, atStep_other h], hstate, hcause⟩
  · obtain ⟨hpower, -, hdev, -⟩ := endRingStep_frame s
    exact ⟨s.endRingStep, by simp [exec, execStartupBoundExpiry, State.boundExpired, h, atStep_other h], by rw [hpower], hdev⟩
  · exact ⟨s.toStep 7, by simp [exec, execStartupBoundExpiry, State.boundExpired, h, atStep_other h], rfl⟩
  · exact ⟨s.stepEight, by simp [exec, execStartupBoundExpiry, State.boundExpired, h, atStep_other h], stepEight_step s⟩

end Sys2Proof.Machine

/-! ### State requests (R15, R19, R20, R24, R31, R714) -/

namespace Sys2Proof.Machine

/-! #### A request accepted -/

/-- A request code that a serving path may write is answered with success, whatever its REQUEST_RESULT. -/
theorem writeRequest_of_code {s : State} {p : Path} {code : Nat} (alone : Bool) (h : s.Takes p (s.writeGate p 0x2001 2))
    (h1 : code ≠ 0) (h8 : code ≤ 8) : s.writeRequest p alone code = (s.request p alone code).answer p 0 [] := by
  simp [State.writeRequest, State.access, State.judged, h.served, h.accepted, orElse, refuseIf, h1, Nat.not_lt.2 h8]

theorem role_of_hasShadow {s : State} (h : s.hasShadow = true) : s.twin.role = .primary := by
  simp only [State.hasShadow, Twin.leads, Bool.and_eq_true, beq_iff_eq] at h
  exact h.1.1

/-- A request that its state lists, whose conditions are met and which no automatic transition overtakes has result 0. -/
theorem judgeRequest_accepts {s : State} {p : Path} {alone : Bool} {code : Nat} (hauto : s.dev.autoThisCycle = false)
    (hrole : s.twin.role = .solo ∨ s.twin.role = .primary) (hlisted : s.requestListed code = true)
    (hlevel : code = 8 → (s.on p).level = .service) (hmet : s.unmet code = none) : s.judgeRequest p alone code = (0, none) := by
  have hlevel' : ¬(code = 8 ∧ (s.on p).level ≠ .service) := fun h => h.2 (hlevel h.1)
  have hrole' : ¬((s.twin.role = .shadow ∧ alone = true) ∨ (s.twin.role = .cold ∧ code = 1)) := by
    rcases hrole with h | h <;> simp [h]
  simp only [State.judgeRequest, hauto, hlisted, if_neg hlevel', if_neg hrole', hmet]
  rfl

/-- The state once a request is accepted: REQUEST_RESULT reads 0 (R714). -/
def State.accepted (s : State) : State := { s with dev := { s.dev with result := 0 } }

@[simp] theorem accepted_frame (s : State) : s.accepted.clk = s.clk ∧ s.accepted.motion = s.motion ∧ s.accepted.power = s.power
    ∧ s.accepted.twin = s.twin ∧ s.accepted.dev.result = 0 := ⟨rfl, rfl, rfl, rfl, rfl⟩

theorem withResult_zero (s : State) : s.withResult 0 = s.accepted := rfl

/-- An accepted request without a SHADOW is carried out at once. -/
theorem request_alone {s : State} {p : Path} {alone : Bool} {code : Nat} (hjudge : s.judgeRequest p alone code = (0, none))
    (hrole : s.twin.role = .solo ∨ s.twin.role = .primary) (hshadow : s.hasShadow = false) :
    s.request p alone code = s.accepted.carryOut code := by
  have hrole' : s.twin.role ≠ .shadow := by rcases hrole with h | h <;> simp [h]
  simp [State.request, hjudge, hrole', hshadow, withResult_zero]

/-- A PRIMARY with a SHADOW orders an accepted request for an ET and tells its partner. -/
theorem request_ordered {s : State} {p : Path} {alone : Bool} {code : Nat} (hjudge : s.judgeRequest p alone code = (0, none))
    (hshadow : s.hasShadow = true) :
    (s.request p alone code).dev = { s.dev with result := 0 } ∧ (s.request p alone code).heads = s.heads
      ∧ (s.request p alone code).twin.orders = s.twin.orders ++ [TwinOrder.state code 0 (s.et + 2500)] := by
  have heq : s.request p alone code = ({ s with
      dev := { s.dev with result := 0 }
      twin := { s.twin with orders := s.twin.orders ++ [TwinOrder.state code 0 (s.et + stateLead)] } } : State).twinLead 0x06
        [code, 0, ((s.et + stateLead : Nat) : Int)] := by
    simp [State.request, hjudge, role_of_hasShadow hshadow, hshadow, State.withResult]
  have htwin := (Reports_twinLead ({ s with
      dev := { s.dev with result := 0 }
      twin := { s.twin with orders := s.twin.orders ++ [TwinOrder.state code 0 (s.et + stateLead)] } } : State) 0x06
        [code, 0, ((s.et + stateLead : Nat) : Int)]).twin
  rw [heq]
  refine ⟨by simp, by simp, ?_⟩
  rw [htwin]
  rfl

/-- A requested transition outside a SHADOW is the transition alone. -/
theorem requested_eq {s : State} (hrole : s.twin.role ≠ .shadow) (next : DevState) :
    s.requested next = { s with dev := s.dev.moved next 0 s.et } := by
  simp [State.requested, State.compareStates, hrole]

theorem not_shadow_of_leading {r : Role} (h : r = .solo ∨ r = .primary) : r ≠ .shadow := by
  rcases h with rfl | rfl <;> simp

/-! #### ARM, RUN, DISARM and CLEAR -/

/-- A command that writes a request code in its turn, accepted and without a SHADOW. -/
theorem request_command_alone {s : State} {p : Path} {alone : Bool} {code : Nat} {c : Instr}
    (hc : exec c s = .next (s.inTurnOf p c (s.writeRequest p alone code))) (hrank : c.rank = pathRank p)
    (htakes : s.Takes p (s.writeGate p 0x2001 2)) (h1 : code ≠ 0) (h8 : code ≤ 8)
    (hrole : s.twin.role = .solo ∨ s.twin.role = .primary) (hshadow : s.hasShadow = false)
    (hjudge : s.judgeRequest p alone code = (0, none)) :
    exec c s = .next ((s.accepted.carryOut code).answer p 0 []) := by
  rw [hc, inTurnOf_in_turn _ (by rw [hrank]; exact htakes.turn), writeRequest_of_code alone htakes h1 h8,
    request_alone hjudge hrole hshadow]

/-- The same command by a PRIMARY with a SHADOW. -/
theorem request_command_ordered {s : State} {p : Path} {alone : Bool} {code : Nat} {c : Instr}
    (hc : exec c s = .next (s.inTurnOf p c (s.writeRequest p alone code))) (hrank : c.rank = pathRank p)
    (htakes : s.Takes p (s.writeGate p 0x2001 2)) (h1 : code ≠ 0) (h8 : code ≤ 8) (hshadow : s.hasShadow = true)
    (hjudge : s.judgeRequest p alone code = (0, none)) :
    ∃ t, exec c s = .next t ∧ t.dev = { s.dev with result := 0 } ∧ t.heads = s.heads
      ∧ t.twin.orders = s.twin.orders ++ [TwinOrder.state code 0 (s.et + 2500)] := by
  refine ⟨(s.request p alone code).answer p 0 [], ?_, request_ordered hjudge hshadow⟩
  rw [hc, inTurnOf_in_turn _ (by rw [hrank]; exact htakes.turn), writeRequest_of_code alone htakes h1 h8]

theorem eq_of_same_but_heads {s t : State} (h : ({ t with heads := [] } : State) = { s with heads := [] }) :
    t = { s with heads := t.heads } := by
  calc t = { ({ t with heads := [] } : State) with heads := t.heads } := rfl
    _ = { s with heads := t.heads } := by rw [h]

/-- The captures of a dark frame by every head touch heads only. -/
theorem captureAll_eq (s : State) : s.captureAll = { s with heads := s.captureAll.heads } := by
  have hstep (t : State) (h : HeadNo) : ({ t.captureDark h with heads := [] } : State) = { t with heads := [] } := by
    unfold State.captureDark
    split <;> rfl
  have hall : ({ s.captureAll with heads := [] } : State) = { s with heads := [] } :=
    foldl_keeps (fun t : State => ({ t with heads := [] } : State)) hstep _ s
  exact eq_of_same_but_heads hall

/-- What the captures leave of a state with another 0x2001, answered. -/
theorem answer_captureAll (s : State) (d : Dev) (p : Path) :
    ({ s with dev := d } : State).captureAll.answer p 0 []
      = ({ s with dev := (({ s with dev := d } : State).captureAll.answer p 0 []).dev
                  heads := (({ s with dev := d } : State).captureAll.answer p 0 []).heads } : State).answer p 0 [] := by
  have h := captureAll_eq { s with dev := d }
  generalize ({ s with dev := d } : State).captureAll = t at h
  rw [h]
  rfl

/-- What RUN, DISARM and CLEAR do outside a SHADOW: the transition alone. -/
theorem carried_requested {s : State} (hrole : s.twin.role ≠ .shadow) (next : DevState) :
    s.accepted.requested next
      = { s with dev := ({ s.dev with result := 0 } : Dev).moved next 0 s.et } :=
  requested_eq (s := s.accepted) hrole next

/-- Settles O17: each of the four is its transition where it is carried out, and an order where a SHADOW follows. -/
theorem armRunDisarmClearComplete : Obligations.ArmRunDisarmClearComplete := by
  intro s p alone htakes hauto
  refine ⟨fun hrole hshadow => ⟨fun hstate hinh hop => ?_, fun hstate => ?_, fun hstate => ?_, fun hstate hgone => ?_⟩,
    fun hshadow hprimary => ⟨fun hstate hinh hop => ?_, fun hstate => ?_, fun hstate => ?_⟩⟩
  · have hjudge : s.judgeRequest p alone 1 = (0, none) :=
      judgeRequest_accepts hauto hrole (by simp [State.requestListed, hstate]) (by simp) (by simp [State.unmet, hinh, hop])
    refine ⟨_, request_command_alone rfl (rank_of_path rfl) htakes (by decide) (by decide) hrole hshadow hjudge, ?_, ?_⟩ <;>
      simp only [State.carryOut, carried_requested (not_shadow_of_leading hrole)]
    · simp [State.answer]
    · exact answer_captureAll _ _ _
  · have hjudge : s.judgeRequest p alone 2 = (0, none) :=
      judgeRequest_accepts hauto hrole (by simp [State.requestListed, hstate]) (by simp) rfl
    refine ⟨_, request_command_alone rfl (rank_of_path rfl) htakes (by decide) (by decide) hrole hshadow hjudge, ?_, ?_⟩ <;>
      simp only [State.carryOut, carried_requested (not_shadow_of_leading hrole)] <;> rfl
  · have hjudge : s.judgeRequest p alone 6 = (0, none) :=
      judgeRequest_accepts hauto hrole (by simp [State.requestListed, hstate]) (by simp) rfl
    refine ⟨_, request_command_alone rfl (rank_of_path rfl) htakes (by decide) (by decide) hrole hshadow hjudge, ?_, ?_⟩ <;>
      simp only [State.carryOut, carried_requested (not_shadow_of_leading hrole)] <;> rfl
  · have hjudge : s.judgeRequest p alone 7 = (0, none) :=
      judgeRequest_accepts hauto hrole (by simp [State.requestListed, hstate]) (by simp) (by simp [State.unmet, hgone])
    refine ⟨_, request_command_alone rfl (rank_of_path rfl) htakes (by decide) (by decide) hrole hshadow hjudge, ?_, ?_⟩ <;>
      simp only [State.carryOut, carried_requested (not_shadow_of_leading hrole)] <;> rfl
  · exact request_command_ordered rfl (rank_of_path rfl) htakes (by decide) (by decide) hshadow (judgeRequest_accepts hauto (.inr hprimary)
      (by simp [State.requestListed, hstate]) (by simp) (by simp [State.unmet, hinh, hop]))
  · exact request_command_ordered rfl (rank_of_path rfl) htakes (by decide) (by decide) hshadow (judgeRequest_accepts hauto (.inr hprimary)
      (by simp [State.requestListed, hstate]) (by simp) rfl)
  · exact request_command_ordered rfl (rank_of_path rfl) htakes (by decide) (by decide) hshadow (judgeRequest_accepts hauto (.inr hprimary)
      (by simp [State.requestListed, hstate]) (by simp) rfl)

/-! #### Heads that go on: outside a SHADOW none can fall behind its PRIMARY, so device state and standing stay (R32, R460) -/

/-- Outside a SHADOW a marking item that is due begins or holds. -/
theorem beginMarking_keeps {s : State} (hrole : s.twin.role ≠ .shadow) (h : HeadNo) (g : Segment) (p : SegHead) (n t0 : Nat) (it : Item) :
    (s.beginMarking h g p n t0 it).dev = s.dev ∧ (s.beginMarking h g p n t0 it).twin.standing = s.twin.standing := by
  unfold State.beginMarking
  dsimp only
  split
  · rw [if_neg (fun hlate => hrole hlate.1)]
    exact ⟨by simp, by simp⟩
  · exact ⟨by simp, by simp⟩
  · rw [if_neg hrole]
    split
    · exact ⟨by simp, by rw [twinLead_standing, beginItem_standing]⟩
    · exact ⟨by simp, by rw [twinLead_standing, holdData_standing]⟩

theorem advance_keeps {s : State} (hrole : s.twin.role ≠ .shadow) (h t0 fuel : Nat) :
    (s.advance h t0 fuel).dev = s.dev ∧ (s.advance h t0 fuel).twin.standing = s.twin.standing := by
  induction fuel generalizing s with
  | zero => exact ⟨rfl, rfl⟩
  | succ fuel ih =>
    unfold State.advance
    split
    · exact ⟨rfl, rfl⟩
    · split
      · exact ⟨rfl, rfl⟩
      · dsimp only
        split
        · exact ⟨by simp, by simp⟩
        · split
          · exact ⟨by simp, by simp⟩
          · split
            · exact ⟨by simp, by simp⟩
            · split
              · refine (ih (by simpa using hrole)).imp (fun e => e.trans ?_) (fun e => e.trans ?_) <;> simp
              · refine (ih ?_).imp (fun e => e.trans ?_) (fun e => e.trans ?_)
                · simpa [role_of_standing (progress_standing s _ _ _ _ _)] using hrole
                · simp
                · simp
              · exact ⟨by simp, by simp⟩
              · exact ⟨by simp, by simp⟩
              · exact ⟨by simp, by simp⟩
              · exact beginMarking_keeps hrole _ _ _ _ _ _

theorem goOn_keeps {s : State} (hrole : s.twin.role ≠ .shadow) (h : HeadNo) :
    (s.goOn h).dev = s.dev ∧ (s.goOn h).twin.standing = s.twin.standing := by
  unfold State.goOn
  split
  · exact advance_keeps hrole _ _ _
  · exact ⟨rfl, rfl⟩

theorem resumeHeads_dev {s : State} (hrole : s.twin.role ≠ .shadow) : s.resumeHeads.dev = s.dev := by
  have hall : ∀ (l : List Nat) (t : State), t.twin.role ≠ .shadow →
      (l.foldl (fun t h => if (t.head h).path.hold = .pause ∧ (t.head h).path.run = none then
        (t.holdFor h .idle).goOn h else t) t).dev = t.dev := by
    intro l
    induction l with
    | nil => intro t _; rfl
    | cons h l ih =>
      intro t ht
      rw [List.foldl_cons]
      split
      · obtain ⟨hdev, hkeep⟩ := goOn_keeps (s := t.holdFor h .idle) (by simpa using ht) h
        rw [ih _ (by rw [role_of_standing hkeep]; simpa using ht), hdev]
        simp
      · exact ih t ht
  exact hall _ s hrole

/-! #### PAUSE, RESUME, STOP and RESTART -/

theorem requested_frame (s : State) (next : DevState) : (s.requested next).dev = s.dev.moved next 0 s.et := by
  unfold State.requested State.compareStates
  split <;> rfl

theorem allHold_of_heads {s t : State} (h : t.heads = s.heads) : t.allHold = s.allHold := by
  simp only [State.allHold, h]

@[simp] theorem allHold_answer (s : State) (p : Path) (abort : Nat) (data : List Byte) :
    (s.answer p abort data).allHold = s.allHold := allHold_of_heads (by simp)

theorem pauseHeads_dev (s : State) : ((List.range 32).foldl State.giveUpPlace s).leaveAhead.pauseIdle.dev = s.dev := by simp

/-- A pause leaves the result as it is, and the state follows when the last head holds. -/
theorem pause_outcome (s : State) (hstate : s.dev.state = .exposing) : s.pause.dev.result = s.dev.result
    ∧ (s.pause.dev.state = .exposing ∧ s.pause.dev.pausePending = true ∧ s.pause.allHold = false
      ∨ s.pause.dev.state = .paused ∧ s.pause.allHold = true) := by
  unfold State.pause
  extract_lets _ t
  have ht : t.dev = { s.dev with pausePending := true } := pauseHeads_dev _
  split
  next hhold =>
    rw [requested_frame, ht]
    exact ⟨rfl, .inr ⟨rfl, by rw [allHold_of_heads (s := t) (by simp), hhold]⟩⟩
  next hhold =>
    rw [ht]
    exact ⟨rfl, .inl ⟨hstate, rfl, by simpa using hhold⟩⟩

/-- Heads stopped at once carry no item, no buffered entry and no lit beamlet. -/
theorem flushHeads_stopped (s : State) : ∀ x ∈ s.flushHeads.heads,
    x.path.run = none ∧ x.path.buffers = List.replicate 8 [] ∧ x.path.beams = List.replicate 8 BeamNow.dark := by
  intro x hx
  simp only [State.flushHeads, List.mem_map] at hx
  obtain ⟨y, -, rfl⟩ := hx
  exact ⟨rfl, rfl, rfl⟩

theorem stopAll_dev (s : State) : s.stopAll.dev = s.dev.moved .armed 0 s.et := by
  simp [State.stopAll, requested_frame]

@[simp] theorem failTrial_pairOffset (s : State) (cause : Nat) : (s.failTrial cause).twin.pairOffset = s.twin.pairOffset := by
  unfold State.failTrial
  dsimp only
  split
  · rw [(Reports_record _ _ _).twin, (Reports_setLeaf _ _ _).twin]
  · rfl

theorem restarted_leaves (s : State) : ∀ l ∈ s.restarted.leaves, bootHeld l.reg l.bit = true := by
  intro l hl
  exact (List.mem_filter.1 hl).2

/-- Settles O18: an accepted request is its operation on the state with result 0. -/
theorem pauseResumeStopRestartComplete : Obligations.PauseResumeStopRestartComplete := by
  intro s p alone htakes hauto hrole hshadow
  refine ⟨fun hstate hpend => ?_, fun hstate hinh htrip hgone => ?_, fun hstate => ?_, fun hstate hlevel => ?_⟩
  · have hjudge : s.judgeRequest p alone 3 = (0, none) :=
      judgeRequest_accepts hauto hrole (by simp [State.requestListed, hstate, hpend]) (by simp) rfl
    obtain ⟨hresult, hphase⟩ := pause_outcome s.accepted hstate
    refine ⟨_, request_command_alone rfl (rank_of_path rfl) htakes (by decide) (by decide) hrole hshadow hjudge, ?_⟩
    simp only [State.carryOut, frame_answer, frame_pause, allHold_answer, hresult]
    exact ⟨by simp, by simp, by simp, by simp, hphase⟩
  · have hjudge : s.judgeRequest p alone 4 = (0, none) :=
      judgeRequest_accepts hauto hrole (by simp [State.requestListed, hstate]) (by simp)
        (by simp only [State.unmet, hinh, htrip, hgone]; rfl)
    have hdev : (s.accepted.requested .exposing).resumeHeads.dev
        = ({ s.dev with result := 0 } : Dev).moved .exposing 0 s.et := by
      rw [resumeHeads_dev (by rw [role_of_standing (requested_standing _ _)]; simpa using not_shadow_of_leading hrole), requested_frame]
      rfl
    refine ⟨_, request_command_alone rfl (rank_of_path rfl) htakes (by decide) (by decide) hrole hshadow hjudge, ?_⟩
    simp only [State.carryOut, frame_answer, hdev]
    exact ⟨trivial, by simp, by simp, by simp⟩
  · have hjudge : s.judgeRequest p alone 5 = (0, none) :=
      judgeRequest_accepts hauto hrole (by rcases hstate with h | h <;> simp [State.requestListed, h]) (by simp) rfl
    exact ⟨_, request_command_alone rfl (rank_of_path rfl) htakes (by decide) (by decide) hrole hshadow hjudge, stopAll_dev _,
      flushHeads_stopped _, by simp [State.carryOut], by simp [State.carryOut], by simp [State.carryOut]⟩
  · have hjudge : s.judgeRequest p alone 8 = (0, none) :=
      judgeRequest_accepts hauto hrole (by rcases hstate with h | h | h <;> simp [State.requestListed, h]) (fun _ => hlevel) rfl
    refine ⟨_, request_command_alone rfl (rank_of_path rfl) htakes (by decide) (by decide) hrole hshadow hjudge, rfl, ?_, ?_, ?_,
      rfl, rfl, rfl, rfl, rfl, rfl, rfl, rfl, rfl, rfl, restarted_leaves _, ?_, ?_, ?_, ?_⟩ <;>
      simp [State.carryOut, State.restarted, State.accepted, Dev.moved]

end Sys2Proof.Machine

/-! ### The remaining requests, the watchdog and the cores' restart (R20, R24, R25, R408, R654) -/

namespace Sys2Proof.Machine

/-- Records that fit are taken into the queue in their order. -/
theorem foldl_enqueue {l : List EventRecord} {s : State} (h : s.recorder.queue.length + l.length ≤ 256) :
    l.foldl State.enqueue s = { s with recorder := { s.recorder with queue := s.recorder.queue ++ l } } := by
  induction l generalizing s with
  | nil => simp
  | cons e l ih =>
    rw [List.length_cons] at h
    have hstep : s.enqueue e = { s with recorder := { s.recorder with queue := s.recorder.queue ++ [e] } } := by
      rw [State.enqueue, if_pos (by omega)]
    rw [List.foldl_cons, hstep, ih (by simp only [List.length_append, List.length_cons, List.length_nil]; omega)]
    simp

theorem enqueueAll_of_room {s : State} {l : List EventRecord} (h : s.recorder.queue.length + l.length ≤ 256) :
    s.enqueueAll l = { s with recorder := { s.recorder with queue := s.recorder.queue ++ l, front := [] } } :=
  foldl_enqueue (s := { s with recorder := { s.recorder with front := [] } }) h

/-- Settles O19: the two requests by the access rule, the pause by its transition, the watchdog by the entry to FAULT. -/
theorem otherRequestsAndWatchdogComplete : Obligations.OtherRequestsAndWatchdogComplete := by
  refine ⟨fun s p alone htakes => ?_, fun s p code htakes hcode => ?_, fun s hstate hpend hhold => ?_,
    fun s hturn hstate htrip hrole => ?_, fun s hdown hroom => ?_⟩
  · have hexec : exec (.requestNone p alone) s = .next (s.inTurnOf p (.requestNone p alone) (s.writeRequest p alone 0)) := rfl
    rw [hexec, inTurnOf_in_turn _ (by rw [rank_of_path (p := p) rfl]; exact htakes.turn)]
    simp [State.writeRequest, State.access, State.judged, htakes.served, htakes.accepted, orElse, refuseIf]
  · have hexec : exec (.stateRequestInvalid p code) s
        = .next (s.inTurnOf p (.stateRequestInvalid p code) (s.writeRequest p true code)) := rfl
    rw [hexec, inTurnOf_in_turn _ (by rw [rank_of_path (p := p) rfl]; exact htakes.turn)]
    simp [State.writeRequest, State.access, State.judged, htakes.served, htakes.accepted, orElse, refuseIf, hcode, Abort.code]
  · have hexec : exec .pauseHoldReached s = .next (s.requested .paused) := by
      simp [exec, execPauseHoldReached, hstate, hpend, hhold]
    refine ⟨_, hexec, requested_frame s .paused, ?_, fun hrole => by rw [requested_eq hrole]⟩
    unfold State.requested State.compareStates
    split <;> rfl
  · have hoff : s.dev.state ≠ .off := by intro h; simp [h, DevState.faults] at hstate
    have haux : s.dev.state ≠ .aux := by intro h; simp [h, DevState.faults] at hstate
    have hexec : exec .watchdogExpiry s = .next (({ s with dev := { s.dev with coresDown := true } } : State).faultCause 0x33) := by
      simp [exec, execWatchdogExpiry, inTurn_in_turn (c := .watchdogExpiry) _ hturn, hoff, haux]
    have hdev := faultCause_enters_fault (s := { s with dev := { s.dev with coresDown := true } }) htrip hstate 0x33
    exact ⟨_, hexec, by rw [hdev]; rfl, by rw [hdev]; rfl, by rw [hdev]; rfl, by rw [hdev]; rfl,
      permit_of_state (by rw [hdev]; rfl), by simp, by simp, by simp⟩
  · simp [exec, execFirmwareRestartComplete, hdown, enqueueAll_of_room (s := { s with dev := { s.dev with coresDown := false } }) hroom]

end Sys2Proof.Machine

/-! ### PLLs and the frequency measurement (R561, R567, R568) -/

namespace Sys2Proof.Machine

/-- A PLL whose loss of lock has its turn: its lock is gone, with the leaf and the fault cause 0x0031. -/
def State.pllLost (s : State) (pll : Nat) : State :=
  (({ s with clocks := s.clocks.withLock pll false }).setLeaf 0x210D 3).faultCause 0x31

theorem exec_pllUnlock {s : State} {pll : Nat} (hturn : s.turn 3 = true) (hlock : s.clocks.lockOf pll = true) :
    exec (.pllUnlock pll) s = .next (s.pllLost pll) := by
  simp [exec, execPllUnlock, inTurn_in_turn (c := .pllUnlock pll) _ hturn, hlock, State.pllLost]

theorem pllLost_clocks (s : State) (pll : Nat) : (s.pllLost pll).clocks = s.clocks.withLock pll false := by simp [State.pllLost]

/-- Under a trip a fault cause is kept for the restart, and nothing else moves (R583). -/
theorem faultCause_tripped {s : State} (h : s.thermal.tripped = true) (cause : Nat) : s.faultCause cause = { s with dev :=
    { s.dev with kept := if s.dev.kept.contains cause then s.dev.kept else s.dev.kept ++ [cause] } } := by
  simp [State.faultCause, h]

theorem mem_kept (cause : Nat) (l : List Nat) : cause ∈ (if l.contains cause then l else l ++ [cause]) := by
  split
  next h => exact List.contains_iff_mem.1 h
  · simp

theorem formFrequency_keeps (s : State) (running : Bool) (count : Nat) :
    s.KeepsRegs (s.formFrequency running count) [regKey 0x2012 7, regKey 0x2012 8] :=
  KeepsRegs_trans (KeepsRegs_of_eq _ rfl) (KeepsRegs_trans (KeepsRegs_setReg _ _ _ _ (by simp)) (KeepsRegs_setReg _ _ _ _ (by simp)))

theorem formFrequency_result (s : State) (running : Bool) (count : Nat) :
    (s.formFrequency running count).reg 0x2012 7 = if running then (count : Int) else 0 := by
  rw [State.formFrequency, reg_setReg_other _ _ (by decide), reg_setReg_self]

theorem formFrequency_ppm (s : State) (running : Bool) (count : Nat) : (s.formFrequency running count).reg 0x2012 8 =
    if running then roundDiv (((count * nominalHz (s.regN 0x2012 2) : Nat) - (s.regN 0x2012 3 * nominalHz (s.regN 0x2012 1) : Nat) : Int)
      * 100000000) (s.regN 0x2012 3 * nominalHz (s.regN 0x2012 1)) else -2147483648 := by
  rw [State.formFrequency, reg_setReg_self]

theorem formFrequency_eq (s : State) (running : Bool) (count : Nat) : s.formFrequency running count =
    { s with clocks := { s.clocks with freqBusy := false }, regs := (s.formFrequency running count).regs } := rfl

/-- Settles O22: a lost lock is a fault cause, the measurement two stored values. -/
theorem pllAndFrequencyCommandsComplete : Obligations.PllAndFrequencyCommandsComplete := by
  refine ⟨fun s pll hturn hlock htrip hstate => ?_, fun s pll hturn hlock htrip => ?_, fun s pll hrun hstep => ?_,
    fun s p htakes hbusy => ?_, fun s count hbusy => ⟨fun hgate => ?_, fun running hgate => ?_⟩⟩
  · have hdev : (s.pllLost pll).dev = { s.dev.moved .fault 0x31 s.et with autoThisCycle := true } := by
      rw [State.pllLost, faultCause_enters_fault (by simpa using htrip) (by simpa using hstate)]
      simp [State.et]
    exact ⟨_, exec_pllUnlock hturn hlock, pllLost_clocks s pll, by rw [hdev]; rfl, by rw [hdev]; rfl,
      permit_of_state (by rw [hdev]; rfl), by simp [State.pllLost], by simp [State.pllLost], by simp [State.pllLost]⟩
  · have hdev : (s.pllLost pll).dev
        = { s.dev with kept := if s.dev.kept.contains 0x31 then s.dev.kept else s.dev.kept ++ [0x31] } := by
      rw [State.pllLost, faultCause_tripped (by simpa using htrip)]
      simp
    have hparts : (s.pllLost pll).heads = s.heads ∧ (s.pllLost pll).motion = s.motion := by
      rw [State.pllLost, faultCause_tripped (by simpa using htrip)]
      simp
    refine ⟨_, exec_pllUnlock hturn hlock, pllLost_clocks s pll, ?_, ?_, hparts⟩
    · rw [hdev]
      exact mem_kept _ _
    · rw [hdev]
  · simp [exec, execPllLockRegained, hrun, hstep]
  · have hexec : exec (.startMeasurement p 1) s = execStartMeasurement p 1 s := rfl
    have hnumber : numberTest 0x2012 5 (leBytes 1 1) = none := by decide
    rw [hexec, execStartMeasurement, inTurnOf_in_turn _ (by rw [rank_of_path (p := p) rfl]; exact htakes.turn)]
    simp [State.access, State.judged, htakes.served, htakes.accepted, hnumber, hbusy, orElse, refuseIf]
  · refine ⟨s.formFrequency true count, by simp [exec, execFreqMeasurementComplete, hbusy, hgate], formFrequency_result s true count,
      formFrequency_ppm s true count, formFrequency_keeps s true count, formFrequency_eq s true count⟩
  · refine ⟨s.formFrequency false count, ?_, formFrequency_result s false count, formFrequency_ppm s false count,
      formFrequency_keeps s false count, formFrequency_eq s false count⟩
    rw [← hgate]
    simp [exec, execFreqMeasurementComplete, hbusy]

end Sys2Proof.Machine

/-! ### Retraining of a memory channel (R545, R546, R550) -/

namespace Sys2Proof.Machine

theorem channel_onChannel_self {s : State} {ch : Nat} (h : ch < s.dram.channels.length) (f : DramChannel → DramChannel) :
    (s.onChannel ch f).channel ch = f (s.channel ch) := by
  simp [State.channel, State.onChannel, List.getD_eq_getElem?_getD, h]

theorem length_onChannel (s : State) (ch : Nat) (f : DramChannel → DramChannel) :
    (s.onChannel ch f).dram.channels.length = s.dram.channels.length := by
  simp [State.onChannel]

/-- What a retraining decides of a channel. -/
def DramChannel.training (c : DramChannel) : Bool × Tick × AlertPhase := (c.retraining, c.lastTrain, c.alert)

theorem issue_training (c : DramChannel) (et : Tick) (d : DramCommand) : (c.issue et d).training = c.training := by
  unfold DramChannel.issue
  split <;> rfl

theorem foldl_issue_training (l : List DramCommand) (et : Tick) (c : DramChannel) :
    (l.foldl (fun d x => d.issue et x) c).training = c.training := by
  induction l generalizing c with
  | nil => rfl
  | cons x l ih => rw [List.foldl_cons, ih, issue_training]

/-- An activation issues commands on its channel; it decides no training. -/
theorem activated_training {s : State} {ch : Nat} (h : ch < s.dram.channels.length) :
    ((s.activated ch).channel ch).training = (s.channel ch).training ∧ (s.activated ch).dram.channels.length = s.dram.channels.length := by
  have hissue : ((s.onChannel ch (fun c => ({ c with lfsr := lfsrNext (s.channel ch).lfsr }).issue s.et .activate)).channel ch).training
      = (s.channel ch).training := by
    rw [channel_onChannel_self h, issue_training]
    rfl
  have hlength := length_onChannel s ch (fun c => ({ c with lfsr := lfsrNext (s.channel ch).lfsr }).issue s.et .activate)
  unfold State.activated
  dsimp only
  split
  · refine ⟨?_, (length_onChannel _ _ _).trans hlength⟩
    rw [← hissue]
    refine (congrArg DramChannel.training (channel_onChannel_self (hlength ▸ h) _)).trans ?_
    exact foldl_issue_training _ _ _
  · exact ⟨hissue, hlength⟩

theorem foldl_activated_training {α : Type} (l : List α) {s : State} {ch : Nat} (h : ch < s.dram.channels.length) :
    ((l.foldl (fun u _ => u.activated ch) s).channel ch).training = (s.channel ch).training
      ∧ (l.foldl (fun u _ => u.activated ch) s).dram.channels.length = s.dram.channels.length := by
  induction l generalizing s with
  | nil => exact ⟨rfl, rfl⟩
  | cons a l ih =>
    obtain ⟨htrain, hlength⟩ := activated_training h
    obtain ⟨htrain', hlength'⟩ := ih (s := s.activated ch) (by rw [hlength]; exact h)
    exact ⟨htrain'.trans htrain, hlength'.trans hlength⟩

/-- A replay puts its channel in replay and decides nothing else of its training. -/
theorem replay_training {s : State} {ch : Nat} (h : ch < s.dram.channels.length) (cs : List DramCommand) :
    ((s.replay ch cs).channel ch).training = ((s.channel ch).retraining, (s.channel ch).lastTrain, AlertPhase.replay) := by
  unfold State.replay
  extract_lets rows t
  have hlength : t.dram.channels.length = s.dram.channels.length := length_onChannel _ _ _
  have htrain : (t.channel ch).training = ((s.channel ch).retraining, (s.channel ch).lastTrain, AlertPhase.replay) :=
    congrArg DramChannel.training (channel_onChannel_self h _)
  obtain ⟨hrows, hlength'⟩ := foldl_activated_training rows (s := t) (hlength ▸ h)
  rw [channel_onChannel_self (by rw [hlength', hlength]; exact h)]
  exact hrows.trans htrain

/-- The memory without its channels, and the state without stored numbers and unknown values: what a retraining keeps. -/
def State.besidesChannels (s : State) : State :=
  { s with dram := { s.dram with channels := [] }, regs := [], fresh := 0 }

theorem eq_of_besidesChannels {s t : State} (h : t.besidesChannels = s.besidesChannels) :
    t = { s with dram := { s.dram with channels := t.dram.channels }, regs := t.regs, fresh := t.fresh } := by
  calc t = { t.besidesChannels with
        dram := { t.besidesChannels.dram with channels := t.dram.channels }, regs := t.regs, fresh := t.fresh } := rfl
    _ = { s.besidesChannels with
        dram := { s.besidesChannels.dram with channels := t.dram.channels }, regs := t.regs, fresh := t.fresh } := by rw [h]

theorem activated_besides (s : State) (ch : Nat) : (s.activated ch).besidesChannels = s.besidesChannels := by
  unfold State.activated
  dsimp only
  split <;> rfl

theorem replay_besides (s : State) (ch : Nat) (cs : List DramCommand) : (s.replay ch cs).besidesChannels = s.besidesChannels := by
  unfold State.replay
  extract_lets rows t
  exact foldl_keeps State.besidesChannels (fun t _ => activated_besides t ch) _ _

theorem KeepsRegs_foldl {α : Type} {f : State → α → State} {ks : List Nat} (h : ∀ t a, State.KeepsRegs t (f t a) ks) (l : List α)
    (s : State) : s.KeepsRegs (l.foldl f s) ks := by
  induction l generalizing s with
  | nil => exact KeepsRegs_refl s ks
  | cons a l ih => exact KeepsRegs_trans (h s a) (ih _)

theorem activated_regs (s : State) (ch : Nat) : s.KeepsRegs (s.activated ch) [regKey (0xA010 + ch) 9] := by
  unfold State.activated
  dsimp only
  split
  · exact KeepsRegs_trans (KeepsRegs_of_eq _ rfl) (KeepsRegs_setReg _ _ _ _ (List.mem_singleton.2 rfl))
  · exact KeepsRegs_of_eq _ rfl

theorem replay_regs (s : State) (ch : Nat) (cs : List DramCommand) : s.KeepsRegs (s.replay ch cs) [regKey (0xA010 + ch) 9] := by
  unfold State.replay
  extract_lets rows t
  have ht : s.KeepsRegs t [regKey (0xA010 + ch) 9] := KeepsRegs_of_eq _ rfl
  exact KeepsRegs_trans ht (KeepsRegs_trans (KeepsRegs_foldl (fun u _ => activated_regs u ch) rows t) (KeepsRegs_of_eq _ rfl))

/-- A channel trained: its retraining is over, with its ET, and an alert that called for it goes on to its replay. -/
theorem trainedNow_channel {s : State} {ch : Nat} (h : ch < s.dram.channels.length) :
    ((s.trainedNow ch).channel ch).training
      = (false, s.et, if (s.channel ch).alert = .low then .replay else (s.channel ch).alert) := by
  unfold State.trainedNow
  extract_lets reading ended t
  have ht : t.channel ch = ended (s.channel ch) := channel_onChannel_self h _
  split
  · have hreplay := replay_training (s := t) (ch := ch) (by rw [length_onChannel]; exact h) ((s.channel ch).issued.map (fun x => x.2))
    rw [ht] at hreplay
    exact hreplay
  · exact congrArg DramChannel.training ht

theorem trainedNow_et (s : State) (ch : Nat) : (s.trainedNow ch).reg (0xA010 + ch) 13 = s.et := by
  unfold State.trainedNow
  exact reg_setReg_self _ _ _ _

theorem trainedNow_besides (s : State) (ch : Nat) : (s.trainedNow ch).besidesChannels = s.besidesChannels := by
  unfold State.trainedNow
  dsimp only
  split
  · exact replay_besides _ _ _
  · rfl

theorem trainedNow_regs (s : State) (ch : Nat) :
    s.KeepsRegs (s.trainedNow ch) [regKey (0xA010 + ch) 13, regKey (0xA010 + ch) 9] := by
  unfold State.trainedNow
  extract_lets reading ended t
  have ht : s.KeepsRegs t [regKey (0xA010 + ch) 13, regKey (0xA010 + ch) 9] := KeepsRegs_of_eq _ rfl
  refine KeepsRegs_trans ?_ (KeepsRegs_setReg _ _ _ _ List.mem_cons_self)
  split
  · exact KeepsRegs_trans ht (KeepsRegs_mono (replay_regs t ch _) (fun k hk => List.mem_cons_of_mem _ hk))
  · exact ht

theorem startRetraining_reports (s : State) (ch : Nat) :
    (s.onChannel ch (fun c => { c with retraining := true, retrainDue := false, repeated := false })).ReportsWith
      (s.startRetraining ch) [regKey (0xA010 + ch) 12] :=
  ReportsWith_trans (ReportsWith_bump _ _ _ (List.mem_singleton.2 rfl)) (ReportsWith_of_Reports _ (Reports_setLeaf _ _ _))

theorem reg_of_regs {s t : State} (h : t.regs = s.regs) (i a : Nat) : t.reg i a = s.reg i a := by
  rw [State.reg, h, State.reg]

theorem memoryLeaf_regs (s : State) (ch bit : Nat) : (s.memoryLeaf ch bit).regs = s.regs := by simp

theorem exec_retrainComplete {s : State} {ch rank : Nat} (good : Bool) (hturn : s.turn 3 = true) (hch : ch < 2)
    (hon : (s.channel ch).retraining = true) (hrank : rank < s.ranks) : exec (.retrainComplete ch rank good) s = .next
      (if good = false then s.rankFailed ch rank
       else if rank + 1 = s.ranks then s.trainedNow ch else s.onChannel ch (fun c => { c with repeated := false })) := by
  simp only [exec, execRetrainComplete, inTurn_in_turn (c := .retrainComplete ch rank good) _ hturn, hch, hon, hrank, and_self, if_true]

/-- The state in which a second failure of a rank is reported. -/
def State.rankLost (s : State) (ch rank : Nat) : State :=
  { s.onChannel ch (fun c => { c with retraining := false, repeated := false }) with
    dev := { s.dev with failedRank := some (ch, rank) } }

theorem rankFailed_again {s : State} {ch : Nat} (h : (s.channel ch).repeated = true) (rank : Nat) :
    s.rankFailed ch rank = (s.rankLost ch rank).faultCause 0x32 := by
  simp only [State.rankFailed, h, if_true]
  rfl

theorem exec_faultRetrainRetry {s : State} {ch rank : Nat} (h : s.dev.failedRank = some (ch, rank)) (good : Bool) :
    exec (.faultRetrainRetry good) s = .next (
      let t := (s.bump (0xA010 + ch) 12).memoryLeaf ch 3
      if good then ({ t with dev := { t.dev with failedRank := none } } : State).trainedNow ch else t) := by
  simp only [exec, execFaultRetrainRetry, h]

/-- Settles O25: a channel's retraining starts, goes on rank by rank, and ends in training or in a fault cause. -/
theorem retrainingCommandsComplete : Obligations.RetrainingCommandsComplete := by
  refine ⟨fun s ch hch htrained hon hdue => ⟨fun halert hrep => ?_, fun hbusy => ?_⟩,
    fun s ch rank hturn hch hon hrank => ⟨fun hlast => ?_, fun hmore => ?_, fun hfirst => ?_, fun hagain htrip hstate => ?_⟩,
    fun s ch rank hfailed => ⟨?_, ?_⟩⟩
  · have hexec : exec (.retrainStart ch) s = .next (s.startRetraining ch) := by
      simp [exec, execRetrainStart, hch, htrained, hon, hdue, halert, hrep]
    refine ⟨_, hexec, by simp [State.startRetraining, State.onChannel], ?_, ?_⟩
    · rw [State.startRetraining, reg_of_regs (memoryLeaf_regs _ _ _), reg_bump_self]
      rfl
    · have hreports := startRetraining_reports s ch
      have hdram : (s.startRetraining ch).dram
          = (s.onChannel ch (fun c => { c with retraining := true, retrainDue := false, repeated := false })).dram := hreports.dram
      rw [hdram]
      exact hreports
  · have hnot : ¬((s.channel ch).alert = .none ∧ (s.channel ch).repeats = []) := by
      rintro ⟨ha, hr⟩
      simp [ha, hr] at hbusy
    simp [exec, execRetrainStart, hch, htrained, hon, hdue, if_neg hnot]
  · refine ⟨s.trainedNow ch, by simp [exec_retrainComplete true hturn hch hon hrank, hlast], fun hlength => ?_, trainedNow_et s ch,
      trainedNow_regs s ch, eq_of_besidesChannels (trainedNow_besides s ch)⟩
    have htraining := trainedNow_channel (s := s) (ch := ch) (by rw [hlength]; exact hch)
    simp only [DramChannel.training, Prod.mk.injEq] at htraining
    exact htraining
  · rw [exec_retrainComplete true hturn hch hon hrank, if_neg (by decide), if_neg (by omega)]
  · rw [exec_retrainComplete false hturn hch hon hrank, if_pos rfl, State.rankFailed, hfirst]
    rfl
  · have hexec : exec (.retrainComplete ch rank false) s = .next ((s.rankLost ch rank).faultCause 0x32) := by
      rw [exec_retrainComplete false hturn hch hon hrank, if_pos rfl, rankFailed_again hagain]
    have hdev := faultCause_enters_fault (s := s.rankLost ch rank) htrip hstate 0x32
    exact ⟨_, hexec, by rw [hdev]; rfl, by rw [hdev]; rfl, by rw [hdev]; rfl, permit_of_state (by rw [hdev]; rfl),
      by simp [State.rankLost], by simp [State.rankLost]⟩
  · refine ⟨_, exec_faultRetrainRetry hfailed true, ?_, ?_, ?_⟩
    · simp
    · simp [State.present]
    · simp only [if_true]
      rw [trainedNow_et]
      simp [State.et]
  · refine ⟨_, exec_faultRetrainRetry hfailed false, ?_⟩
    exact ReportsWith_trans (ReportsWith_bump _ _ _ (List.mem_singleton.2 rfl)) (ReportsWith_of_Reports _ (Reports_setLeaf _ _ _))

end Sys2Proof.Machine

/-! ### Interrupt leaves: a leaf that is set stays listed (R636, R640) -/

namespace Sys2Proof.Machine

theorem leafAt_isSome {l : List Leaf} {reg bit : Nat} : (leafAt l reg bit).isSome = true ↔ ∃ x ∈ l, x.key = reg * 32 + bit := by
  simp [leafAt, List.find?_isSome]

/-- A leaf put in its place: it is listed, and so is every leaf that was. -/
theorem leafPut_keys {x : Leaf} {l : List Leaf} {k : Nat} (h : k = x.key ∨ ∃ y ∈ l, y.key = k) : ∃ y ∈ leafPut x l, y.key = k := by
  by_cases hk : k = x.key
  · exact ⟨x, by simp [leafPut], hk.symm⟩
  · obtain ⟨y, hy, rfl⟩ := h.resolve_left hk
    refine ⟨y, ?_, rfl⟩
    simp only [leafPut, List.mem_append, List.mem_filter, List.mem_cons, decide_eq_true_eq]
    rcases Nat.lt_or_gt_of_ne hk with h | h
    · exact .inl ⟨hy, h⟩
    · exact .inr (.inr ⟨hy, h⟩)

theorem setLeaf_leaves (s : State) (reg bit : Nat) : (s.setLeaf reg bit).leaves = leafPut (leafHit s.leaves reg bit) s.leaves := by
  unfold State.setLeaf
  dsimp only
  split
  · simp
  · rfl

theorem leafAt_setLeaf_self (s : State) (reg bit : Nat) : (leafAt (s.setLeaf reg bit).leaves reg bit).isSome = true := by
  rw [leafAt_isSome, setLeaf_leaves]
  exact leafPut_keys (.inl (leafHit_key _ _ _).symm)

theorem leafAt_setLeaf_of_leafAt {s : State} {r b : Nat} (h : (leafAt s.leaves r b).isSome = true) (reg bit : Nat) :
    (leafAt (s.setLeaf reg bit).leaves r b).isSome = true := by
  rw [leafAt_isSome] at h ⊢
  rw [setLeaf_leaves]
  exact leafPut_keys (.inr h)

theorem leafAt_record_of_leafAt {s : State} {r b : Nat} (h : (leafAt s.leaves r b).isSome = true) (ty : Nat) (p : List Byte) :
    (leafAt (s.record ty p).leaves r b).isSome = true := by
  unfold State.record
  dsimp only
  split
  · exact leafAt_setLeaf_of_leafAt (by simpa using h) _ _
  · exact h

end Sys2Proof.Machine

/-! ### The ring ports: frames, and block lock lost and gained (R371, R372, R377, R421, R559, R560) -/

namespace Sys2Proof.Machine

/-! #### The fate of a frame and its forwarding -/

theorem regN_of_reg {s t : State} {i a : Nat} (h : t.reg i a = s.reg i a) : t.regN i a = s.regN i a := by
  rw [State.regN, h, State.regN]

/-- The counters of a port are no part of what decides a frame's fate. -/
theorem fate_bump_port (s : State) {port : Nat} (hport : port < 2) (a : Nat) (ha : a < 256) (bs : List Byte) :
    (s.bump (0x1040 + port) a).fate bs = s.fate bs := by
  have hreg (b : Nat) (hb : b < 256) : (s.bump (0x1040 + port) a).reg 0x1030 b = s.reg 0x1030 b :=
    reg_bump_other s (fun h => by have := regKey_inj hb ha h; omega)
  have hfuses : (s.bump (0x1040 + port) a).fuses = s.fuses := by simp
  unfold State.fate
  rw [hfuses, regN_of_reg (hreg 1 (by decide)), regN_of_reg (hreg 2 (by decide)), hreg 2 (by decide)]

theorem port_withPort {p : Nat} (r : Ring) (x : RingPort) : (r.withPort p x).port p = x := by
  unfold Ring.port Ring.withPort
  split <;> rfl

/-- A whole frame with a right FCS, in its turn on a port in lock: counted, and dealt with by its fate. -/
theorem exec_ringFrameReceived {s : State} {port ingress egress : Nat} {bytes : List Byte} (hturn : s.turn 7 = true) (hport : port < 2)
    (hserved : s.ringServed = true) (hlock : (s.ring.port port).lock = true) (hmin : 60 ≤ bytes.length) (hmax : bytes.length ≤ 1514) :
    exec (.ringFrameReceived port bytes true ingress egress) s
      = .next ((s.bump (0x1040 + port) 3).dispose port ingress egress true bytes) := by
  have hcount : s.countFrame port (decide (60 ≤ bytes.length)) true = s.bump (0x1040 + port) 3 := by
    simp [State.countFrame, hmin]
  simp only [exec, execRingFrameReceived, inTurn_in_turn (c := .ringFrameReceived port bytes true ingress egress) _ hturn, hport, hserved,
    hlock, and_self, if_true, hcount]
  rw [if_neg (by omega), if_neg (by omega), decide_eq_true hmin, Bool.true_and]

theorem dispose_own {s : State} {bs : List Byte} (h : s.fate bs = .own) (port ingress egress : Nat) (ok : Bool) :
    s.dispose port ingress egress ok bs = s := by
  simp [State.dispose, h]

theorem dispose_foreign {s : State} {bs : List Byte} (h : s.fate bs = .foreign) (port ingress egress : Nat) (ok : Bool) :
    s.dispose port ingress egress ok bs = s.bump (0x1040 + port) 7 := by
  simp [State.dispose, h]

/-- A frame for another node leaves with one hop less where forwarding runs and the queue has room. -/
theorem dispose_other {s : State} {bs : List Byte} {port ingress : Nat} (h : s.fate bs = .other) (hhops : 0 < beAt bs 15 1)
    (hrun : s.ring.forwarding = true) (hroom : s.queueRoom port ingress (oneHopLess bs) = true) (egress : Nat) (ok : Bool) :
    s.dispose port ingress egress ok bs = s.sendOn port ingress egress ok (oneHopLess bs) := by
  simp [State.dispose, h, hhops, State.forward, hrun, hroom]

theorem queueRoom_of_ring {s t : State} (h : t.ring = s.ring) (port ingress : Nat) (bs : List Byte) :
    t.queueRoom port ingress bs = s.queueRoom port ingress bs := by
  unfold State.queueRoom State.waitingOut
  rw [h]

/-! #### The root of the clock when a source is lost (R560) -/

/-- The two ring sources of a clock unit. -/
def ClockUnit.ringSources (c : ClockUnit) : Source × Source := (c.portA, c.portB)

@[simp] theorem changeRoot_ringSources (s : State) (source : Nat) : (s.changeRoot source).clocks.ringSources = s.clocks.ringSources := by
  unfold State.changeRoot
  split
  · rfl
  · simp only [frame_record, frame_setLeaf, frame_bump]
    rfl

@[simp] theorem leaveHoldover_ringSources (s : State) (source : Nat) :
    (s.leaveHoldover source).clocks.ringSources = s.clocks.ringSources := by
  unfold State.leaveHoldover
  rw [changeRoot_ringSources]
  split <;> rfl

@[simp] theorem enterHoldover_ringSources (s : State) : s.enterHoldover.clocks.ringSources = s.clocks.ringSources := by
  unfold State.enterHoldover
  split
  · rfl
  · rw [changeRoot_ringSources]
    simp only [frame_setLeaf, frame_bump]
    rfl

/-- The root judged afresh moves no source. -/
theorem evaluateRoot_ringSources (s : State) : s.evaluateRoot.clocks.ringSources = s.clocks.ringSources := by
  unfold State.evaluateRoot
  extract_lets _ _ t
  have ht : t.clocks.ringSources = s.clocks.ringSources := rfl
  split
  · rw [leaveHoldover_ringSources, ht]
  · rename_i u _ _ _
    have hu : u.clocks.ringSources = s.clocks.ringSources := by rw [enterHoldover_ringSources, ht]
    split
    · have hfault : (({ u with clocks := { u.clocks with holdoverSpent := true } } : State).faultCause 0x31).clocks
          = { u.clocks with holdoverSpent := true } := by simp
      exact (congrArg ClockUnit.ringSources hfault).trans hu
    · exact hu

/-- A ring source lost has lost its qualification. -/
theorem sourceLost_unqualified (s : State) {port : Nat} (hport : port < 2) : (s.sourceLost port).clocks.qualified port = false := by
  have hall (t : State) (h : t.clocks.qualified port = false) : t.evaluateRoot.clocks.qualified port = false := by
    have hsources := evaluateRoot_ringSources t
    simp only [ClockUnit.ringSources, Prod.mk.injEq] at hsources
    obtain ⟨ha, hb⟩ := hsources
    interval_cases port
    · simpa only [ClockUnit.qualified, ha] using h
    · simpa only [ClockUnit.qualified, hb] using h
  unfold State.sourceLost
  interval_cases port <;> dsimp only <;> split
  · exact hall _ rfl
  · rfl
  · exact hall _ rfl
  · rfl

/-- Before the main PLL has locked, a lost source moves the clock unit only. -/
theorem sourceLost_unlocked {s : State} (h : s.clocks.mainLock = false) (source : Nat) :
    s.sourceLost source = { s with clocks := (s.sourceLost source).clocks } := by
  simp only [State.sourceLost, h, Bool.false_eq_true, if_false]

theorem ReportsWith_clocks {s t : State} {ks : List Nat} (h : s.ReportsWith t ks) (c : ClockUnit) :
    ({ s with clocks := c } : State).ReportsWith { t with clocks := c } ks :=
  { h with clocks := rfl }

/-- A loss of block lock before its source is judged: its count and its leaf (R377, R421). -/
def State.lockLost (s : State) (port : Nat) : State :=
  (({ s with ring := s.ring.withPort port { s.ring.port port with lock := false } }).bump (0x1040 + port) 2).setLeaf 0x2108 port

theorem exec_blockLockLoss {s : State} {port : Nat} (hport : port < 2) (hon : s.ringOn = true) (hlock : (s.ring.port port).lock = true) :
    exec (.blockLockLoss port) s = .next ((s.lockLost port).sourceLost port) := by
  simp only [exec, execBlockLockLoss, hport, hon, hlock, and_self, if_true]
  rfl

theorem lockLost_reports (s : State) (port : Nat) :
    ({ s with ring := s.ring.withPort port { s.ring.port port with lock := false } } : State).ReportsWith (s.lockLost port)
      [regKey (0x1040 + port) 2] :=
  ReportsWith_trans (ReportsWith_bump _ _ _ List.mem_cons_self) (ReportsWith_of_Reports _ (Reports_setLeaf _ 0x2108 port))

theorem lockLost_count (s : State) (port : Nat) :
    (s.lockLost port).reg (0x1040 + port) 2 = counterNext (regKey (0x1040 + port) 2) (s.reg (0x1040 + port) 2) 1 := by
  have h : (s.lockLost port).regs = (s.bump (0x1040 + port) 2).regs := by
    simp only [State.lockLost, frame_setLeaf]
    rfl
  rw [reg_of_regs h, reg_bump_self]

/-! #### Block lock gained: messages and grants that wait, the trial of the bypass (R377, R378) -/

theorem sourceLocked_eq (s : State) (source : Nat) : s.sourceLocked source = { s with clocks := (s.sourceLocked source).clocks } := by
  unfold State.sourceLocked
  dsimp only
  split <;> rfl

theorem setSession_self (s : State) (n : Nat) : s.setSession n (s.session n) = s := by
  unfold State.setSession State.session
  rw [List.getD_eq_getElem?_getD]
  by_cases h : n < s.sessions.length
  · rw [List.getElem?_eq_getElem h, Option.getD_some, List.set_getElem_self]
  · rw [List.set_eq_of_length_le (Nat.le_of_not_lt h)]

/-- With nothing waiting a session drains nothing. -/
theorem drain_of_empty {s : State} {n : Nat} (h : (s.session n).backlog = []) : s.drain n = s := by
  have hsame : ({ s.session n with backlog := [] } : Session) = s.session n := by rw [← h]
  rw [State.drain, h, hsame, List.foldl_nil, setSession_self]

/-- What waits for a port that gained its lock: the messages of the open ring sessions, and a grant of 64 KiB. -/
def State.waitingLeaves (s : State) : State :=
  let w := [1, 2, 3, 4].foldl (fun (v : State) n => if v.openRing n then v.drain n else v) s
  if 65536 ≤ w.job.unsentGrant then w.grant else w

theorem grant_segments (s : State) : s.grant.job.segments = s.job.segments := by
  unfold State.grant
  split
  · rfl
  · simp

theorem drainAll_frame (l : List Nat) (s : State) :
    (l.foldl (fun (v : State) n => if v.openRing n then v.drain n else v) s).ring = s.ring
      ∧ (l.foldl (fun (v : State) n => if v.openRing n then v.drain n else v) s).clocks = s.clocks
      ∧ (l.foldl (fun (v : State) n => if v.openRing n then v.drain n else v) s).dev = s.dev
      ∧ (l.foldl (fun (v : State) n => if v.openRing n then v.drain n else v) s).heads = s.heads
      ∧ (l.foldl (fun (v : State) n => if v.openRing n then v.drain n else v) s).clk = s.clk
      ∧ (l.foldl (fun (v : State) n => if v.openRing n then v.drain n else v) s).job = s.job := by
  induction l generalizing s with
  | nil => exact ⟨rfl, rfl, rfl, rfl, rfl, rfl⟩
  | cons n l ih =>
    obtain ⟨hring, hclocks, hdev, hheads, hclk, hjob⟩ := ih (if s.openRing n then s.drain n else s)
    rw [List.foldl_cons, hring, hclocks, hdev, hheads, hclk, hjob]
    split <;> simp

theorem waitingLeaves_frame (s : State) : s.waitingLeaves.ring = s.ring ∧ s.waitingLeaves.clocks = s.clocks
    ∧ s.waitingLeaves.dev = s.dev ∧ s.waitingLeaves.heads = s.heads ∧ s.waitingLeaves.clk = s.clk
    ∧ s.waitingLeaves.job.segments = s.job.segments := by
  obtain ⟨hring, hclocks, hdev, hheads, hclk, hjob⟩ := drainAll_frame [1, 2, 3, 4] s
  unfold State.waitingLeaves
  dsimp only
  split
  · simp only [frame_grant, grant_segments, hring, hclocks, hdev, hheads, hclk, hjob, and_self]
  · exact ⟨hring, hclocks, hdev, hheads, hclk, congrArg Job.segments hjob⟩

/-- Nothing waits, and nothing leaves. -/
theorem waitingLeaves_of_empty {s : State} (h : ∀ n, (s.session n).backlog = []) (hgrant : s.job.unsentGrant < 65536) :
    s.waitingLeaves = s := by
  have hdrain (l : List Nat) : l.foldl (fun (v : State) n => if v.openRing n then v.drain n else v) s = s := by
    induction l with
    | nil => rfl
    | cons n l ih =>
      have hn : (if s.openRing n then s.drain n else s) = s := by
        split
        · exact drain_of_empty (h n)
        · rfl
      rw [List.foldl_cons, hn, ih]
  unfold State.waitingLeaves
  rw [hdrain]
  exact if_neg (by omega)

/-- A gain of block lock up to what waited for it. -/
def State.lockGained (s : State) (port : Nat) : State :=
  ({ s with ring := s.ring.withPort port { s.ring.port port with lock := true } }).sourceLocked port

theorem lockGained_eq (s : State) (port : Nat) : s.lockGained port =
    { s with ring := s.ring.withPort port { s.ring.port port with lock := true }, clocks := (s.lockGained port).clocks } :=
  sourceLocked_eq _ _

theorem lockGained_mainLock (s : State) (port : Nat) : (s.lockGained port).clocks.mainLock = s.clocks.mainLock := by
  unfold State.lockGained State.sourceLocked
  dsimp only
  split <;> rfl

theorem exec_blockLockGain {s : State} {port : Nat} (hport : port < 2) (hon : s.ringOn = true) : exec (.blockLockGain port) s = .next
    (if (s.lockGained port).waitingLeaves.ring.bypass = .trial ∧ (s.lockGained port).waitingLeaves.ring.bothLocked
     then (s.lockGained port).waitingLeaves.raiseBypass else (s.lockGained port).waitingLeaves) := by
  simp only [exec, execBlockLockGain, hport, hon, and_self, if_true]
  rfl

theorem withPort_bypass (r : Ring) (p : Nat) (x : RingPort) : (r.withPort p x).bypass = r.bypass := by
  unfold Ring.withPort
  split <;> rfl

/-- Both ports are in lock once one gains it beside the other. -/
theorem bothLocked_withPort {r : Ring} {port : Nat} (hport : port < 2) (h : (r.port (1 - port)).lock = true) :
    (r.withPort port { r.port port with lock := true }).bothLocked = true := by
  interval_cases port <;> simpa [Ring.bothLocked, Ring.withPort, Ring.port] using h

/-- Settles O34: a frame goes by its fate; a loss is a source lost; a gain lets leave what waited. -/
theorem ringPortCommandsComplete : Obligations.RingPortCommandsComplete := by
  refine ⟨fun s port bytes ingress egress hturn hport hserved hlock hmin hmax => ⟨fun hfate => ?_, fun hfate => ?_,
      fun hfate hhops hrun hroom => ?_⟩,
    fun s port hport hon hlock => ⟨?_, fun hmain => ?_⟩, fun s port hport hon hbypass => ?_, fun s port hport hon hbypass hother => ?_⟩
  · have hexec := exec_ringFrameReceived (ingress := ingress) (egress := egress) hturn hport hserved hlock hmin hmax
    rw [dispose_own (by rw [fate_bump_port s hport 3 (by decide), hfate])] at hexec
    exact ⟨_, hexec, reg_bump_self _ _ _, KeepsRegs_bump _ _ _ List.mem_cons_self, rfl⟩
  · have hexec := exec_ringFrameReceived (ingress := ingress) (egress := egress) hturn hport hserved hlock hmin hmax
    rw [dispose_foreign (by rw [fate_bump_port s hport 3 (by decide), hfate])] at hexec
    have hother : regKey (0x1040 + port) 7 ≠ regKey (0x1040 + port) 3 := fun h => by
      have := (regKey_inj (by decide) (by decide) h).2
      omega
    refine ⟨_, hexec, ?_, ?_, rfl⟩
    · rw [reg_bump_self, reg_bump_other s hother]
    · exact KeepsRegs_trans (KeepsRegs_bump _ _ _ List.mem_cons_self) (KeepsRegs_bump _ _ _ (List.mem_cons_of_mem _ List.mem_cons_self))
  · have hexec := exec_ringFrameReceived (ingress := ingress) (egress := egress) hturn hport hserved hlock hmin hmax
    rw [dispose_other (by rw [fate_bump_port s hport 3 (by decide), hfate]) hhops (by simpa using hrun)
      (by rw [queueRoom_of_ring (s := s) (by simp), hroom])] at hexec
    have hother : regKey (0x1040 + port) 4 ≠ regKey (0x1040 + port) 3 := fun h => by
      have := (regKey_inj (by decide) (by decide) h).2
      omega
    refine ⟨_, hexec, rfl, ?_, ?_, ?_, rfl⟩
    · refine (reg_bump_self _ _ _).trans (congrArg (fun v => counterNext _ v 1) ?_)
      exact reg_bump_other s hother
    · have hring : ((s.bump (0x1040 + port) 3).sendOn port ingress egress true (oneHopLess bytes)).ring
          = (s.bump (0x1040 + port) 3).ring.withPort (1 - port) { (s.bump (0x1040 + port) 3).ring.port (1 - port) with
              queue := (s.bump (0x1040 + port) 3).waitingOut port ingress ++ [(egress, (oneHopLess bytes).length + 4)] } := rfl
      rw [hring, port_withPort, List.getLast?_append_cons]
      rfl
    · exact KeepsRegs_trans (KeepsRegs_bump _ _ _ List.mem_cons_self) (KeepsRegs_trans (KeepsRegs_of_eq _ rfl)
        (KeepsRegs_bump _ _ _ (List.mem_cons_of_mem _ List.mem_cons_self)))
  · have hring := (lockLost_reports s port).ring
    have hclk := (lockLost_reports s port).clk
    have hpower := (lockLost_reports s port).power
    have hthermal := (lockLost_reports s port).thermal
    exact ⟨_, exec_blockLockLoss hport hon hlock, by simpa using hring, sourceLost_unqualified _ hport, by simpa using hclk,
      by simpa using hpower, by simpa using hthermal⟩
  · have hreports := lockLost_reports s port
    have hunlocked := sourceLost_unlocked (s := s.lockLost port) (by rw [hreports.clocks]; exact hmain) port
    generalize ((s.lockLost port).sourceLost port).clocks = c at hunlocked
    refine ⟨{ s.lockLost port with clocks := c }, by rw [exec_blockLockLoss hport hon hlock, hunlocked], hreports.dev, lockLost_count s port,
      leafAt_setLeaf_self _ _ _, ?_⟩
    have hboth := ReportsWith_clocks hreports c
    rw [← hreports.ring] at hboth
    exact hboth
  · obtain ⟨hring, hclocks, hdev, hheads, hclk, hsegments⟩ := waitingLeaves_frame (s.lockGained port)
    have hnot : ¬((s.lockGained port).waitingLeaves.ring.bypass = .trial ∧ (s.lockGained port).waitingLeaves.ring.bothLocked) := by
      rw [hring, lockGained_eq]
      exact fun h => hbypass ((withPort_bypass _ _ _).symm.trans h.1)
    refine ⟨_, (exec_blockLockGain hport hon).trans (by rw [if_neg hnot]), ?_⟩
    rw [hring, hclocks, hdev, hheads, hclk, hsegments]
    have heq := lockGained_eq s port
    refine ⟨by rw [heq], lockGained_mainLock s port, fun h => ?_, fun h => ?_, by rw [heq], by rw [heq], by rw [heq], by rw [heq],
      fun hempty hgrant => ?_⟩
    · subst h
      rfl
    · subst h
      rfl
    · rw [waitingLeaves_of_empty (s := s.lockGained port) (by rw [heq]; exact hempty) (by rw [heq]; exact hgrant), heq]
  · have hring := (waitingLeaves_frame (s.lockGained port)).1
    have hyes : (s.lockGained port).waitingLeaves.ring.bypass = .trial ∧ (s.lockGained port).waitingLeaves.ring.bothLocked := by
      rw [hring, lockGained_eq]
      exact ⟨(withPort_bypass _ _ _).trans hbypass, bothLocked_withPort hport hother⟩
    refine ⟨_, (exec_blockLockGain hport hon).trans (by rw [if_pos hyes]), rfl, rfl, rfl⟩

end Sys2Proof.Machine

/-! ### Reports beside other parts: what a chain of operations leaves of everything but the twin unit, or but the job -/

namespace Sys2Proof.Machine

/-- All but the twin unit goes from s to t by reports and by the listed stored numbers. -/
def State.ReportsBesideTwin (s t : State) (keys : List Nat) : Prop := ({ s with twin := t.twin } : State).ReportsWith t keys

theorem besideTwin_of_retwin {s t : State} {w : Twin} {ks : List Nat} (h : ({ s with twin := w } : State).ReportsWith t ks) :
    s.ReportsBesideTwin t ks := { h with twin := rfl }

theorem besideTwin_of_ReportsWith {s t : State} {ks : List Nat} (h : s.ReportsWith t ks) : s.ReportsBesideTwin t ks :=
  { h with twin := rfl }

theorem besideTwin_trans {s t u : State} {ks : List Nat} (h : s.ReportsBesideTwin t ks) (g : t.ReportsBesideTwin u ks) :
    s.ReportsBesideTwin u ks := by
  have h' : ({ s with twin := u.twin } : State).ReportsWith { t with twin := u.twin } ks := { h with twin := rfl }
  exact ReportsWith_trans h' g

theorem besideTwin_mono {s t : State} {ks ls : List Nat} (h : s.ReportsBesideTwin t ks) (hs : ks ⊆ ls) : s.ReportsBesideTwin t ls :=
  ReportsWith_mono h hs

/-! #### The change to COLD (R32, R473) -/

theorem cancelAll_standing (s : State) (cause detail : Nat) : (s.cancelAll cause detail).twin.standing = s.twin.standing := by
  unfold State.cancelAll
  exact foldl_standing (fun t (g : Segment) => cancel_standing t cause detail g.key) _ _

theorem flushHeads_standing (s : State) : s.flushHeads.twin.standing = s.twin.standing := rfl

/-- The report of a change to COLD, before what a permit in effect makes of it. -/
def State.coldReported (s : State) (cause : Nat) : State :=
  (({ s with twin := { s.twin with role := .cold, coldCause := cause } }).setLeaf 0x210A 1).record 0x0061 [byteOf cause]

theorem goCold_eq (s : State) (cause : Nat) : s.goCold cause = if s.dev.state.permits then
    (((s.coldReported cause).automatic .standby 0x0041).cancelAll 0x0B 3).flushHeads else s.coldReported cause := rfl

theorem coldReported_standing (s : State) (cause : Nat) : (s.coldReported cause).twin.standing = (.cold, cause) := by
  rw [State.coldReported, record_standing, setLeaf_standing]
  rfl

theorem coldReported_leaf (s : State) (cause : Nat) : (leafAt (s.coldReported cause).leaves 0x210A 1).isSome = true :=
  leafAt_record_of_leafAt (leafAt_setLeaf_self _ _ _) _ _

theorem coldReported_reports (s : State) (cause : Nat) : s.ReportsBesideTwin (s.coldReported cause) [] :=
  besideTwin_of_retwin (Reports_trans (Reports_setLeaf _ 0x210A 1) (Reports_record _ 0x0061 [byteOf cause]))

theorem leafAt_automatic_of_leafAt {s : State} {r b : Nat} (h : (leafAt s.leaves r b).isSome = true) (next : DevState) (cause : Nat) :
    (leafAt (s.automatic next cause).leaves r b).isSome = true := by
  have hmoved : (leafAt (({ s with dev := { s.dev.moved next cause s.et with autoThisCycle := true } } : State).compareStates.setLeaf
      0x2100 1).leaves r b).isSome = true := leafAt_setLeaf_of_leafAt (by simpa using h) _ _
  unfold State.automatic
  refine leafAt_record_of_leafAt ?_ _ _
  split
  · exact leafAt_setLeaf_of_leafAt hmoved _ _
  · exact hmoved

/-- A controller that becomes COLD: its standing, its leaf, and the fall to STANDBY from a state with a permit. -/
theorem goCold_becomesCold (s : State) (cause : Nat) : s.BecomesCold (s.goCold cause) cause [] := by
  have hstanding : (s.goCold cause).twin.standing = (.cold, cause) := by
    rw [goCold_eq, ← coldReported_standing s cause]
    split
    · rw [flushHeads_standing, cancelAll_standing, automatic_standing]
    · rfl
  refine ⟨congrArg Prod.fst hstanding, congrArg Prod.snd hstanding, ?_, fun hquiet => ?_, fun hpermits => ?_⟩
  · rw [goCold_eq]
    split
    · have hauto := leafAt_automatic_of_leafAt (coldReported_leaf s cause) .standby 0x0041
      simpa using hauto
    · exact coldReported_leaf s cause
  · rw [goCold_eq, if_neg (by simp [hquiet])]
    exact coldReported_reports s cause
  · rw [goCold_eq, if_pos hpermits]
    have hdev : (((s.coldReported cause).automatic .standby 0x0041).cancelAll 0x0B 3).flushHeads.dev
        = { s.dev.moved .standby 0x0041 (s.coldReported cause).et with autoThisCycle := true } := by
      have hkept := (coldReported_reports s cause).dev
      simp only [frame_flushHeads, frame_cancelAll, automatic_dev, hkept]
    rw [hdev]
    exact ⟨rfl, rfl, rfl⟩

/-- The same after reports that keep the device state. -/
theorem becomesCold_after {s t u : State} {cause : Nat} {ks : List Nat} (h : s.ReportsBesideTwin t ks) (g : t.BecomesCold u cause []) :
    s.BecomesCold u cause ks where
  role := g.role
  cause := g.cause
  leaf := g.leaf
  quiet hquiet := besideTwin_trans h (besideTwin_mono (g.quiet (by rw [h.dev]; exact hquiet)) (List.nil_subset _))
  falls hpermits := by
    have hdev : t.dev = s.dev := h.dev
    simpa only [hdev] using g.falls (by rw [hdev]; exact hpermits)

end Sys2Proof.Machine

/-! ### The twin's clocks (R456, R457, R461, R467, R468, R471, R473, R474) -/

namespace Sys2Proof.Machine

/-! #### Heartbeats heard and missed -/

theorem paired_of_role {s : State} (h : s.twin.role ≠ .solo) : s.paired = true := by
  simp [State.paired, h]

theorem missedBetween_next (e : Tick) : missedBetween e (e + 625) = 0 := by
  have h (a : Nat) : (a + 625 + 2 ^ 64 - a) % 2 ^ 64 = 625 := by omega
  simp only [missedBetween, etSub, h e]

/-- The acknowledgements of a controller that is no PRIMARY follow no partner. -/
theorem limitAcks_of_not_primary {s : State} (h : s.twin.role ≠ .primary) (role : Role) (held : Nat) : s.limitAcks role held = s := by
  unfold State.limitAcks
  split
  · rw [if_neg h]
  · rfl

theorem limitAcks_besideTwin (s : State) (role : Role) (held : Nat) : s.ReportsBesideTwin (s.limitAcks role held) [] := by
  refine besideTwin_of_ReportsWith ?_
  unfold State.limitAcks
  split
  · split
    · exact { ReportsWith_refl s [] with }
    · exact Reports_refl s
  · exact Reports_refl s

theorem countMissed_reports (s : State) (n : Nat) : s.ReportsWith (s.countMissed n) [regKey 0xD001 14] := by
  unfold State.countMissed
  split
  · exact ReportsWith_refl _ _
  · exact ReportsWith_trans (ReportsWith_setReg _ _ _ _ List.mem_cons_self) (ReportsWith_of_Reports _ (Reports_setLeaf _ _ _))

/-- A HEARTBEAT that follows the last without a gap, heard by a SHADOW with nothing missing. -/
theorem hear_next {s : State} {e role state epoch next held : Nat} (hrole : s.twin.role = .shadow) (hheard : s.twin.heardEt = some e)
    (hnext : seqBelow s.twin.rxNext next = false) : s.hear (e + 625) role state epoch next held
      = { s with twin := s.twin.heard s.dev.state.code s.et (e + 625) role state epoch } := by
  have hnone : s.countMissed ((s.twin.heardEt.map (fun x => missedBetween x (e + 625))).getD 0) = s := by
    simp [hheard, missedBetween_next, State.countMissed]
  have hquiet : ({ s with twin := s.twin.heard s.dev.state.code s.et (e + 625) role state epoch } : State).limitAcks
      (roleOfCode role) held = { s with twin := s.twin.heard s.dev.state.code s.et (e + 625) role state epoch } :=
    limitAcks_of_not_primary (by simp [Twin.heard, hrole]) _ _
  simp only [State.hear, hnone, hquiet]
  rw [if_neg (by simp [hrole]), if_neg (by simp [Twin.heard, hnext])]

/-- The link failed: the missed HEARTBEATs are counted, and no partner is waited for. -/
def State.linkSilent (s : State) : State :=
  let t := s.countMissed s.missedNow
  ({ t with twin := { t.twin with heardEt := none } }).limitAcks .cold 0

theorem exec_twinLinkFailed {s : State} (hpaired : s.paired = true) (hunheard : s.unheard = true) (halive : s.aliveSeen = true)
    (hturn : s.turn 5 = true) :
    exec .twinLinkFailed s = .next (if s.twin.role = .shadow then s.linkSilent.goCold 0x03 else s.linkSilent) := by
  simp only [exec, execTwinLinkFailed, inTurn_in_turn (c := .twinLinkFailed) _ hturn, hpaired, hunheard, halive, and_self, if_true]
  rfl

theorem limitAcks_twin (s : State) (role : Role) (held : Nat) : (s.limitAcks role held).twin = s.twin := by
  unfold State.limitAcks
  split
  · split <;> rfl
  · rfl

theorem linkSilent_besideTwin (s : State) : s.ReportsBesideTwin s.linkSilent [regKey 0xD001 14] := by
  refine besideTwin_trans (besideTwin_of_ReportsWith (countMissed_reports s s.missedNow)) ?_
  refine besideTwin_trans (t := { s.countMissed s.missedNow with twin := { (s.countMissed s.missedNow).twin with heardEt := none } })
    (ReportsWith_refl _ _) ?_
  exact besideTwin_mono (limitAcks_besideTwin _ _ _) (List.nil_subset _)

theorem linkSilent_twin (s : State) : s.linkSilent.twin.role = s.twin.role ∧ s.linkSilent.twin.heardEt = none := by
  have hrole : (s.countMissed s.missedNow).twin.role = s.twin.role :=
    role_of_standing (ReportsWith_standing (countMissed_reports s s.missedNow))
  rw [State.linkSilent, limitAcks_twin]
  exact ⟨hrole, rfl⟩

/-! #### Takeover (R471, R474) -/

theorem sendFrames_reports (s : State) (dest : Nat) (fs : List TreyxFrame) : s.Reports (s.sendFrames dest fs) :=
  Reports_sendOwn s _ _

/-- The copies sent once more: of the twin only their list changes. -/
theorem resume_twin (s : State) :
    s.resume.twin = { s.twin with hostCopies := [], txSeq := s.resume.twin.txSeq, kept := s.resume.twin.kept } := by
  unfold State.resume
  split
  · rw [(sendFrames_reports _ _ _).twin]
  · rfl

theorem resume_besideTwin (s : State) : s.ReportsBesideTwin s.resume [] := by
  unfold State.resume
  split
  next n _ =>
    refine besideTwin_trans (t := { s with
      sessions := s.sessions.set n { s.session n with unacked := s.twin.hostCopies.map (fun f => ⟨f, 1⟩), ackLimit := none }
      twin := { s.twin with hostCopies := [] } }) { ReportsWith_refl _ [] with } ?_
    exact besideTwin_of_ReportsWith (sendFrames_reports _ _ _)
  · exact ReportsWith_refl _ _

/-- A takeover at D where no write and no ledger waits, before its count, its leaf and its record. -/
def State.takenOver (s : State) : State :=
  ({ s.countMissed s.missedNow with twin := (s.countMissed s.missedNow).twin.takenOver s.et } : State).beat.resume

theorem takeOver_eq {s : State} (hwrites : s.twin.writes = []) (hledger : s.twin.ledger = []) : s.takeOver =
    (((s.takenOver.bump 0xD001 10).setReg 0xD001 11 s.et).setLeaf 0x210A 0).record 0x0060
      (leBytes 2 s.takenOver.twin.epoch ++ leBytes 8 s.et) := by
  have htwin := (countMissed_reports s s.missedNow).twin
  have hw : (s.countMissed s.missedNow).twin.writes = [] := by rw [htwin, ← hwrites]
  simp only [State.takeOver, hw, hledger, List.foldl_nil]
  rfl

theorem takenOver_besideTwin (s : State) : s.ReportsBesideTwin s.takenOver [regKey 0xD001 14] := by
  refine besideTwin_trans (besideTwin_of_ReportsWith (countMissed_reports s s.missedNow)) ?_
  refine besideTwin_trans (t := ({ s.countMissed s.missedNow with
    twin := (s.countMissed s.missedNow).twin.takenOver s.et } : State).beat) { ReportsWith_refl _ _ with } ?_
  exact besideTwin_mono (resume_besideTwin _) (List.nil_subset _)

theorem takenOver_twin (s : State) : s.takenOver.twin.role = .primary ∧ s.takenOver.twin.epoch = (s.twin.epoch + 1) % 2 ^ 16
    ∧ s.takenOver.twin.gapFrame = some (s.et + 125) ∧ s.takenOver.twin.ownEt = some s.et ∧ s.takenOver.twin.hostCopies = [] := by
  have hreports := countMissed_reports s s.missedNow
  have hepoch : (s.countMissed s.missedNow).twin.epoch = s.twin.epoch := by rw [hreports.twin]
  have het : (s.countMissed s.missedNow).et = s.et := by rw [State.et, hreports.clk, State.et]
  unfold State.takenOver
  rw [resume_twin]
  exact ⟨rfl, by rw [← hepoch]; rfl, rfl, congrArg some het, rfl⟩

/-- A takeover: the PRIMARY of the next EPOCH, counted at its ET. -/
theorem takeOver_outcome {s : State} (hwrites : s.twin.writes = []) (hledger : s.twin.ledger = []) :
    s.takeOver.twin.role = .primary ∧ s.takeOver.twin.epoch = (s.twin.epoch + 1) % 2 ^ 16
      ∧ s.takeOver.twin.gapFrame = some (s.et + 125) ∧ s.takeOver.twin.ownEt = some s.et ∧ s.takeOver.twin.hostCopies = []
      ∧ s.takeOver.reg 0xD001 10 = counterNext (regKey 0xD001 10) (s.reg 0xD001 10) 1 ∧ s.takeOver.reg 0xD001 11 = s.et
      ∧ (leafAt s.takeOver.leaves 0x210A 0).isSome = true
      ∧ s.ReportsBesideTwin s.takeOver [regKey 0xD001 10, regKey 0xD001 11, regKey 0xD001 14] := by
  obtain ⟨hrole, hepoch, hgap, hown, hcopies⟩ := takenOver_twin s
  have hbase := takenOver_besideTwin s
  have hreg : s.takenOver.reg 0xD001 10 = s.reg 0xD001 10 := hbase.regs (regKey 0xD001 10) (by decide)
  rw [takeOver_eq hwrites hledger]
  generalize s.takenOver = d at hrole hepoch hgap hown hcopies hbase hreg
  have hreports : ((d.bump 0xD001 10).setReg 0xD001 11 s.et).Reports ((((d.bump 0xD001 10).setReg 0xD001 11 s.et).setLeaf 0x210A 0).record
      0x0060 (leBytes 2 d.twin.epoch ++ leBytes 8 s.et)) := Reports_trans (Reports_setLeaf _ _ _) (Reports_record _ _ _)
  have hleaf := leafAt_record_of_leafAt (leafAt_setLeaf_self ((d.bump 0xD001 10).setReg 0xD001 11 s.et) 0x210A 0) 0x0060
    (leBytes 2 d.twin.epoch ++ leBytes 8 s.et)
  generalize (((d.bump 0xD001 10).setReg 0xD001 11 s.et).setLeaf 0x210A 0).record 0x0060 (leBytes 2 d.twin.epoch ++ leBytes 8 s.et) = t
    at hreports hleaf
  have htwin : t.twin = { d.twin with txSeq := t.twin.txSeq, kept := t.twin.kept } := hreports.twin
  have hcount : t.reg 0xD001 10 = ((d.bump 0xD001 10).setReg 0xD001 11 s.et).reg 0xD001 10 := hreports.regs (regKey 0xD001 10) (by decide)
  have hplace : t.reg 0xD001 11 = ((d.bump 0xD001 10).setReg 0xD001 11 s.et).reg 0xD001 11 := hreports.regs (regKey 0xD001 11) (by decide)
  refine ⟨by rw [htwin]; exact hrole, by rw [htwin]; exact hepoch, by rw [htwin]; exact hgap, by rw [htwin]; exact hown,
    by rw [htwin]; exact hcopies, ?_, ?_, hleaf, ?_⟩
  · rw [hcount, reg_setReg_other _ _ (by decide), reg_bump_self, hreg]
  · rw [hplace, reg_setReg_self]
  · refine besideTwin_trans (besideTwin_mono hbase (by simp)) (besideTwin_of_ReportsWith ?_)
    exact ReportsWith_trans (ReportsWith_trans (ReportsWith_bump _ _ _ (by simp)) (ReportsWith_setReg _ _ _ _ (by simp)))
      (ReportsWith_of_Reports _ hreports)

/-! #### Gap records, the ledger and repeated messages (R456, R457, R474) -/

theorem head_onPath_other {s : State} {h k : HeadNo} (hne : k ≠ h) (f : HeadPath → HeadPath) : (s.onPath h f).head k = s.head k := by
  simp [State.onPath, State.onHead, State.head, List.getD_eq_getElem?_getD, hne.symm]

theorem records_onPath_self (s : State) (h : HeadNo) (p : DefectRecord → Bool) :
    ((s.onPath h (fun y => { y with records := y.records.filter p })).head h).path.records = (s.head h).path.records.filter p := by
  simp only [State.onPath, State.onHead, State.head, List.getD_eq_getElem?_getD, List.getElem?_modify]
  rcases s.heads[h]? with _ | x
  · rfl
  · rfl

/-- All but the job's books and the memory goes from s to t by reports and by the listed stored numbers. -/
def State.ReportsBesideJob (s t : State) (keys : List Nat) : Prop := ({ s with job := t.job, dram := t.dram } : State).ReportsWith t keys

theorem besideJob_trans {s t u : State} {ks : List Nat} (h : s.ReportsBesideJob t ks) (g : t.ReportsBesideJob u ks) :
    s.ReportsBesideJob u ks := by
  have h' : ({ s with job := u.job, dram := u.dram } : State).ReportsWith { t with job := u.job, dram := u.dram } ks :=
    { h with job := rfl, dram := rfl }
  exact ReportsWith_trans h' g

theorem besideJob_of_ReportsWith {s t : State} {ks : List Nat} (h : s.ReportsWith t ks) : s.ReportsBesideJob t ks :=
  { h with job := rfl, dram := rfl }

/-- Lines accepted for writing reach the memory and nothing else. -/
theorem acceptWrite_eq (s : State) (area datum : Nat) (data : List Byte) : ∃ d, s.acceptWrite area datum data = { s with dram := d } := by
  unfold State.acceptWrite
  generalize (chunks 64 data).zip (List.range (data.length / 64 + 1)) = l
  induction l generalizing s with
  | nil => exact ⟨s.dram, rfl⟩
  | cons x l ih =>
    have hline : ∃ d, s.acceptLine (64 * Config.lineNumber area datum x.2) x.1 = { s with dram := d } := by
      unfold State.acceptLine
      split
      · exact ⟨_, rfl⟩
      · exact ⟨s.dram, rfl⟩
    obtain ⟨d, hd⟩ := hline
    rw [List.foldl_cons, hd]
    exact ih { s with dram := d }

theorem acceptWrite_besideJob (s : State) (area datum : Nat) (data : List Byte) (ks : List Nat) :
    s.ReportsBesideJob (s.acceptWrite area datum data) ks := by
  obtain ⟨d, hd⟩ := acceptWrite_eq s area datum data
  rw [hd]
  exact ReportsWith_refl _ _

/-- A defect record written: the count, the books of its segment and its place in the memory, and its report. -/
theorem writeDefect_besideJob (s : State) (r : DefectRecord) : s.ReportsBesideJob (s.writeDefect r) [regKey 0x3012 9] := by
  unfold State.writeDefect
  split
  · exact besideJob_of_ReportsWith (ReportsWith_refl _ _)
  · extract_lets bs t
    have ht : s.ReportsBesideJob t [regKey 0x3012 9] := besideJob_trans
      (t := s.onSeg r.seg (fun x => { x with defects := x.defects + 1 })) { ReportsWith_refl _ _ with }
      (besideJob_of_ReportsWith (ReportsWith_bump _ _ _ List.mem_cons_self))
    refine besideJob_trans ht (besideJob_trans (t := { t with job := { t.job with
      nextDefect := (t.job.nextDefect + 1) % 2 ^ 32, defectLog := t.job.defectLog ++ [bs] } }) { ReportsWith_refl _ _ with } ?_)
    exact besideJob_trans (acceptWrite_besideJob _ _ _ _ _)
      (besideJob_of_ReportsWith (ReportsWith_of_Reports _ (Reports_publish _ _ _ _ _)))

theorem writeDefects_besideJob (l : List DefectRecord) (f : DefectRecord → DefectRecord) (s : State) :
    s.ReportsBesideJob (l.foldl (fun u r => u.writeDefect (f r)) s) [regKey 0x3012 9] := by
  induction l generalizing s with
  | nil => exact besideJob_of_ReportsWith (ReportsWith_refl _ _)
  | cons r l ih => exact besideJob_trans (writeDefect_besideJob s (f r)) (ih _)

/-- The open records of a cause closed on one head: they leave its list and are written. -/
theorem closeGap_eq (s : State) (h : HeadNo) (at_ : Tick) :
    (s.onPath h (fun y => { y with records := y.records.filter (fun r => !(r.cause == 0x0A)) })).ReportsBesideJob (s.closeGap h at_)
      [regKey 0x3012 9] := writeDefects_besideJob _ (fun r => r.closed (s.head h) at_) _

theorem head_of_heads {s t : State} (h : t.heads = s.heads) (k : HeadNo) : t.head k = s.head k := by
  rw [State.head, h, State.head]

/-- The number a SHADOW expects, never asked for, is counted and nothing else moves. -/
theorem takeNumber_expected {s : State} {seq : Nat} (h : s.Expects seq) : s.takeNumber seq = some (s.past seq) := by
  have hawaits : s.twin.awaits seq = true := by simp [Twin.awaits, h.next, h.beyond, seqBelow]
  have hpaired : s.paired = true := paired_of_role (by rw [h.role]; decide)
  have hasked := h.asked
  simp only [State.takeNumber, hawaits, hpaired, h.lock, hasked, h.next]
  simp

/-- Settles O52: heartbeats, the link, the takeover and the changes to COLD each by their own lemma. -/
theorem twinClockCommandsComplete : Obligations.TwinClockCommandsComplete := by
  refine ⟨fun s hpaired het => ⟨fun hbeats hruns => ?_, fun hnot => ?_⟩, fun s e role state epoch next held hrole hlock hheard hnext => ?_,
    fun s => rfl, fun s hrole hunheard halive hwrites hledger => ?_,
    fun s hunheard halive hturn => ⟨fun hrole => ?_, fun hrole => ?_⟩, fun s e hrole hown hlapse hturn => ?_,
    fun s seq hrole hawaits hturn => ?_, fun s e hrole hdiffer hsince hlong hturn => ?_, fun s h f hgap hlate => ?_,
    fun s het hrole hlock => ?_, fun s seq first count hexpects => ?_⟩
  · have hexec : exec .heartbeatSend s = .next (s.beat.alive (!s.twin.aliveOut)) := by
      simp [exec, execHeartbeatSend, hpaired, het, hbeats, hruns]
    refine ⟨_, hexec, rfl, fun hlock => ?_, fun hlock => ?_, rfl⟩ <;> simp [State.alive, State.beat, hlock]
  · have hsilent : ¬(s.dev.state.beats = true ∧ s.seqRuns = true) := by
      rintro ⟨hb, hr⟩
      simp [hb, hr] at hnot
    simp only [exec, execHeartbeatSend, hpaired, het, and_self, if_true, if_neg hsilent]
    rfl
  · have hexec : exec (.heartbeat (e + 625) role state epoch next held) s
        = .next { s with twin := s.twin.heard s.dev.state.code s.et (e + 625) role state epoch } := by
      simp only [exec, execHeartbeat, paired_of_role (s := s) (by rw [hrole]; decide), hlock, and_self, if_true,
        hear_next hrole hheard hnext]
    refine ⟨_, hexec, ?_, rfl, rfl, ?_, fun hsame => ?_, rfl⟩
    · simp [Twin.heard, hheard]
    · simp [Twin.heard, hrole]
    · simp [Twin.heard, Twin.compareStates, hsame]
  · have hexec : exec .takeover s = .next s.takeOver := by simp [exec, execTakeover, hrole, hunheard, halive]
    exact ⟨_, hexec, takeOver_outcome hwrites hledger⟩
  · have hexec := exec_twinLinkFailed (paired_of_role (by rw [hrole]; decide)) hunheard halive hturn
    rw [if_neg (by simp [hrole])] at hexec
    obtain ⟨hkept, hheard⟩ := linkSilent_twin s
    exact ⟨_, hexec, by rw [hkept, hrole], hheard, linkSilent_besideTwin s⟩
  · have hexec := exec_twinLinkFailed (paired_of_role (by rw [hrole]; decide)) hunheard halive hturn
    rw [if_pos hrole] at hexec
    exact ⟨_, hexec, becomesCold_after (linkSilent_besideTwin s) (goCold_becomesCold _ _)⟩
  · have hexec : exec .ownHeartbeatLapse s = .next (s.goCold 0x0A) := by
      simp [exec, execOwnHeartbeatLapse, inTurn_in_turn (c := .ownHeartbeatLapse) _ hturn, hrole, hown, hlapse]
    exact ⟨_, hexec, goCold_becomesCold s 0x0A⟩
  · have hexec : exec (.twinMessageLate seq) s = .next (s.goCold 0x07) := by
      simp [exec, execTwinMessageLate, inTurn_in_turn (c := .twinMessageLate seq) _ hturn, hrole, hawaits]
    exact ⟨_, hexec, goCold_becomesCold s 0x07⟩
  · have hexec : exec .stateDivergenceTimeout s = .next (s.goCold 0x0C) := by
      simp [exec, execStateDivergenceTimeout, inTurn_in_turn (c := .stateDivergenceTimeout) _ hturn, hrole, hdiffer, hsince, hlong]
    exact ⟨_, hexec, goCold_becomesCold s 0x0C⟩
  · have hexec : exec (.gapRecordTimeout h) s = .next (s.closeGap h s.et) := by
      simp [exec, execGapRecordTimeout, hgap, hlate]
    have hclosed := closeGap_eq s h s.et
    have hheads : (s.closeGap h s.et).heads
        = (s.onPath h (fun y => { y with records := y.records.filter (fun r => !(r.cause == 0x0A)) })).heads := hclosed.heads
    refine ⟨_, hexec, ?_, fun k hk => ?_, ?_⟩
    · rw [head_of_heads hheads, records_onPath_self]
      rfl
    · rw [head_of_heads hheads, head_onPath_other hk]
    · exact { hclosed with heads := rfl }
  · have hexec : exec .ledgerSend s
        = .next (s.twinLead 0x0B ((s.et : Int) :: s.job.segments.flatMap (fun g => g.ledgerRows s.et))) := by
      simp only [exec, execLedgerSend, het, if_true]
    refine ⟨_, hexec, ?_, ?_, Reports_twinLead _ _ _⟩ <;>
      simp [State.twinLead, Twin.leads, hrole, hlock, Twin.sending]
  · have hexec : exec (.repeatRequest seq first count) s = .next ((s.past seq).repeatMessages first count) := by
      simp only [exec, execRepeatRequest, State.numbered, takeNumber_expected hexpects]
    refine ⟨_, s.twin.kept.filter (fun m => decide (seqAhead first m.seq < count) && decide (s.et ≤ m.sentEt + 62500)), hexec,
      fun m => ?_, rfl, reg_setReg_self _ _ _ _, ?_, rfl⟩
    · simp
    · exact KeepsRegs_trans (KeepsRegs_of_eq _ rfl) (KeepsRegs_setReg _ _ _ _ List.mem_cons_self)

end Sys2Proof.Machine

/-! ### The assembly of a downlink frame (R330, R335): its length follows the channels of its head -/

namespace Sys2Proof.Machine

theorem charsOf_length (rd : Bool) (bs : List Byte) : (charsOf rd bs).1.length = bs.length := by
  induction bs generalizing rd with
  | nil => rfl
  | cons b bs ih => rw [charsOf, List.length_cons, ih, List.length_cons]

/-- A frame's characters: K28.5 and one for each byte (R326). -/
theorem frameChars_length (rd : Bool) (bs : List Byte) : (frameChars rd bs).1.length = bs.length + 1 := by
  rw [frameChars, List.length_cons, charsOf_length]

/-- The number of characters of the frames to a head among outputs. -/
def Out.charsSent : Out → Nat
  | .head _ cs => cs.length
  | _ => 0

/-- A link in ACQUIRE on a head with no channel, which sends frames; nothing is planned, buffered or lit on it. -/
def State.channelless : State :=
  { State.reset with
    clk := { et := 125, running := true, island := 0 }
    heads := [{ Head.initial with link := { Head.initial.link with state := .acquire }, channels := [] }] }

/-- The frame to that head carries no CORR field: 75 bytes behind K28.5 where R335 has 99. -/
theorem channelless_sends : (outcomeState State.channelless (exec (.downlinkFrameAssembly 0) State.channelless)).out.map Out.charsSent
    = [76] := by
  decide +kernel

/-- Refutes O42: the 24 bytes of CORR come from the channels of the head (Head.corrections), and nothing in the statement says that
a head has eight of them, as every head has after reset; a head with none is sent 75 bytes instead of 99. -/
theorem not_downlinkFrameComplete : ¬ Obligations.DownlinkFrameComplete := by
  intro h
  obtain ⟨t, hexec, -, -, -, hsends, -⟩ := h.1 State.channelless 0 rfl (by decide) (by decide) (by decide) rfl rfl rfl rfl rfl rfl
    (fun es hes => List.eq_of_mem_replicate hes) (fun n hn => by rw [List.eq_of_mem_replicate hn]) (by decide) (by decide)
    (.inr (by decide))
  obtain ⟨bs, hlength, hout, -⟩ := hsends rfl
  have hsent := channelless_sends
  rw [hexec] at hsent
  have hframe : t.out.map Out.charsSent = [bs.length + 1] := by
    rw [hout]
    exact congrArg (fun n => [n]) (frameChars_length _ bs)
  have hwrong : [bs.length + 1] = [76] := hframe.symm.trans hsent
  simp [hlength] at hwrong

end Sys2Proof.Machine

/-! ### Heads, and the segment whose list a head executes (R79, R81, R121): what reads back after an update -/

namespace Sys2Proof.Machine

/-! #### One head -/

/-- A head that differs from a fresh one is one of the list. -/
theorem head_in_range {s : State} {h : HeadNo} (hne : s.head h ≠ Head.initial) : h < s.heads.length := by
  by_contra hout
  exact hne (by rw [State.head, List.getD_eq_default _ _ (Nat.le_of_not_lt hout)])

theorem head_onHead_self {s : State} {h : HeadNo} (hh : h < s.heads.length) (f : Head → Head) : (s.onHead h f).head h = f (s.head h) := by
  simp [State.onHead, State.head, List.getD_eq_getElem?_getD, hh]

theorem head_onHead_other {s : State} {h k : HeadNo} (hne : k ≠ h) (f : Head → Head) : (s.onHead h f).head k = s.head k := by
  simp [State.onHead, State.head, List.getD_eq_getElem?_getD, hne.symm]

theorem path_onPath_self {s : State} {h : HeadNo} (hh : h < s.heads.length) (f : HeadPath → HeadPath) :
    ((s.onPath h f).head h).path = f (s.head h).path := by
  rw [State.onPath, head_onHead_self hh]

@[simp] theorem length_onHead (s : State) (h : HeadNo) (f : Head → Head) : (s.onHead h f).heads.length = s.heads.length := by
  simp [State.onHead]

@[simp] theorem length_onPath (s : State) (h : HeadNo) (f : HeadPath → HeadPath) : (s.onPath h f).heads.length = s.heads.length :=
  length_onHead s h _

@[simp] theorem head_progress (s : State) (g : Segment) (kind head marker tag : Nat) (k : HeadNo) :
    (s.progress g kind head marker tag).head k = s.head k := head_of_heads (by simp) k

@[simp] theorem head_onSeg (s : State) (key : Nat) (f : Segment → Segment) (k : HeadNo) : (s.onSeg key f).head k = s.head k := rfl

/-! #### One segment -/

theorem seg?_of_job {s t : State} (h : t.job = s.job) (key : Nat) : t.seg? key = s.seg? key := by rw [State.seg?, h, State.seg?]

@[simp] theorem seg?_onPath (s : State) (h : HeadNo) (f : HeadPath → HeadPath) (key : Nat) : (s.onPath h f).seg? key = s.seg? key := rfl

@[simp] theorem seg?_progress (s : State) (g : Segment) (kind head marker tag key : Nat) :
    (s.progress g kind head marker tag).seg? key = s.seg? key := seg?_of_job (by simp) key

theorem key_of_seg? {s : State} {key : Nat} {g : Segment} (h : s.seg? key = some g) : g.key = key := by
  simpa using List.find?_some h

theorem seg?_onSeg_self (s : State) (key : Nat) {f : Segment → Segment} (hf : ∀ y, (f y).key = y.key) :
    (s.onSeg key f).seg? key = (s.seg? key).map f := by
  have hkey : ((fun g : Segment => g.key == key) ∘ fun g => if g.key = key then f g else g) = fun g => g.key == key := by
    funext g
    by_cases h : g.key = key <;> simp [h, hf]
  simp only [State.seg?, State.onSeg, List.find?_map, hkey]
  cases hfind : s.job.segments.find? (fun g => g.key == key) with
  | none => rfl
  | some g => simp [show g.key = key by simpa using List.find?_some hfind]

theorem seg?_onSeg_other (s : State) {key k : Nat} (hne : k ≠ key) {f : Segment → Segment} (hf : ∀ y, (f y).key = y.key) :
    (s.onSeg key f).seg? k = s.seg? k := by
  have hkey : ((fun g : Segment => g.key == k) ∘ fun g => if g.key = key then f g else g) = fun g => g.key == k := by
    funext g
    by_cases h : g.key = key <;> simp [h, hf]
  simp only [State.seg?, State.onSeg, List.find?_map, hkey]
  cases hfind : s.job.segments.find? (fun g => g.key == k) with
  | none => rfl
  | some g => simp [show g.key = k by simpa using List.find?_some hfind, hne]

theorem head_of_part? {g : Segment} {h : HeadNo} {p : SegHead} (hp : g.part? h = some p) : p.head = h := by
  simpa using List.find?_some hp

theorem part?_onPart_self (g : Segment) (h : HeadNo) {f : SegHead → SegHead} (hf : ∀ q, (f q).head = q.head) :
    (g.onPart h f).part? h = (g.part? h).map f := by
  have hhead : ((fun q : SegHead => q.head == h) ∘ fun q => if q.head = h then f q else q) = fun q => q.head == h := by
    funext q
    by_cases hq : q.head = h <;> simp [hq, hf]
  simp only [Segment.part?, Segment.onPart, List.find?_map, hhead]
  cases hfind : g.heads.find? (fun q => q.head == h) with
  | none => rfl
  | some q => simp [show q.head = h by simpa using List.find?_some hfind]

@[simp] theorem listOf_onPart (g : Segment) (h k : HeadNo) (f : SegHead → SegHead) : (g.onPart h f).listOf k = g.listOf k := rfl

@[simp] theorem key_onPart (g : Segment) (h : HeadNo) (f : SegHead → SegHead) : (g.onPart h f).key = g.key := rfl

/-- A head's part of a segment after the part has changed. -/
theorem part?_onSeg_onPart {s : State} {g : Segment} {h : HeadNo} {p : SegHead} (hg : s.seg? g.key = some g) (hp : g.part? h = some p)
    {f : SegHead → SegHead} (hf : ∀ q, (f q).head = q.head) :
    ((s.onSeg g.key (fun y => y.onPart h f)).seg? g.key).bind (fun x => x.part? h) = some (f p) := by
  rw [seg?_onSeg_self _ _ (fun y => key_onPart y h f), hg]
  simp [part?_onPart_self g h hf, hp]

/-! #### A head in its part of a segment -/

/-- A head executes its part p of the segment g. -/
structure State.InPart (s : State) (h : HeadNo) (g : Segment) (p : SegHead) : Prop where
  seg : (s.head h).path.seg = some g.key
  known : s.seg? g.key = some g
  part : g.part? h = some p

theorem State.InPart.in_range {s : State} {h : HeadNo} {g : Segment} {p : SegHead} (hin : s.InPart h g p) : h < s.heads.length :=
  head_in_range (fun e => by have := hin.seg; rw [e] at this; cases this)

theorem State.InPart.bind_seg {s : State} {h : HeadNo} {g : Segment} {p : SegHead} (hin : s.InPart h g p) :
    (s.head h).path.seg.bind s.seg? = some g := by rw [hin.seg]; exact hin.known

theorem State.InPart.goOn {s : State} {h : HeadNo} {g : Segment} {p : SegHead} (hin : s.InPart h g p) :
    s.goOn h = s.advance h (s.freeFrom h) ((g.listOf h).length + 1) := by simp only [State.goOn, hin.bind_seg]

/-- What a path keeps of the segment it executes survives an update of the path that keeps it. -/
theorem State.InPart.onPath {s : State} {h : HeadNo} {g : Segment} {p : SegHead} (hin : s.InPart h g p) {f : HeadPath → HeadPath}
    (hf : ∀ x, (f x).seg = x.seg) : (s.onPath h f).InPart h g p where
  seg := by rw [path_onPath_self hin.in_range, hf, hin.seg]
  known := hin.known
  part := hin.part

theorem State.InPart.advance_over {s : State} {h : HeadNo} {g : Segment} {p : SegHead} (hin : s.InPart h g p)
    (hover : (g.listOf h)[p.next]? = none) (t0 n : Nat) : s.advance h t0 (n + 1) = s.finishPart h g := by
  simp only [State.advance, hin.bind_seg, hin.part, hover]

theorem State.InPart.advance_barrier {s : State} {h : HeadNo} {g : Segment} {p : SegHead} (hin : s.InPart h g p) {it : Item} {b mask : Nat}
    (hit : (g.listOf h)[p.next]? = some it) (hbody : it.body = .barrier b mask) (hahead : s.plannedAhead h g it = none)
    (hruns : s.itemsRun = true) (t0 n : Nat) :
    s.advance h t0 (n + 1) = (s.onSeg g.key (fun y => y.onPart h (fun q =>
      { q with next := p.next + 1, arrived := q.arrived ++ [b] }))).holdFor h (.barrier b) := by
  simp only [State.advance, hin.bind_seg, hin.part, hit, hahead, hruns, hbody]
  rfl

theorem State.InPart.advance_marking {s : State} {h : HeadNo} {g : Segment} {p : SegHead} (hin : s.InPart h g p) {it : Item}
    (hit : (g.listOf h)[p.next]? = some it) (hmarks : it.body.marks = true) (hahead : s.plannedAhead h g it = none)
    (hruns : s.itemsRun = true) (t0 n : Nat) : s.advance h t0 (n + 1) = s.beginMarking h g p p.next t0 it := by
  simp only [State.advance, hin.bind_seg, hin.part, hit, hahead, hruns]
  cases hbody : it.body <;> simp_all [ItemBody.marks]

end Sys2Proof.Machine

/-! ### From staging to the end of a head's part (R63, R79, R81, R82, R102, R121) -/

namespace Sys2Proof.Machine

/-! #### Reports beside the job and the heads -/

/-- All but the job and the heads goes from s to t by reports and by the listed stored numbers. -/
def State.ReportsBesideWork (s t : State) (keys : List Nat) : Prop := ({ s with job := t.job, heads := t.heads } : State).ReportsWith t keys

theorem besideWork_of_ReportsWith {s t : State} {ks : List Nat} (h : s.ReportsWith t ks) : s.ReportsBesideWork t ks :=
  { h with job := rfl, heads := rfl }

theorem besideWork_refl (s : State) (ks : List Nat) : s.ReportsBesideWork s ks := besideWork_of_ReportsWith (ReportsWith_refl s ks)

theorem besideWork_trans {s t u : State} {ks : List Nat} (h : s.ReportsBesideWork t ks) (g : t.ReportsBesideWork u ks) :
    s.ReportsBesideWork u ks := by
  have h' : ({ s with job := u.job, heads := u.heads } : State).ReportsWith { t with job := u.job, heads := u.heads } ks :=
    { h with job := rfl, heads := rfl }
  exact ReportsWith_trans h' g

theorem besideWork_onSeg (s : State) (key : Nat) (f : Segment → Segment) (ks : List Nat) : s.ReportsBesideWork (s.onSeg key f) ks :=
  { ReportsWith_refl s ks with job := rfl }

theorem besideWork_onPath (s : State) (h : HeadNo) (f : HeadPath → HeadPath) (ks : List Nat) : s.ReportsBesideWork (s.onPath h f) ks :=
  { ReportsWith_refl s ks with heads := rfl }

theorem besideWork_progress (s : State) (g : Segment) (kind head marker tag : Nat) :
    s.ReportsBesideWork (s.progress g kind head marker tag) [] := besideWork_of_ReportsWith (Reports_publish _ _ _ _ _)

/-! #### A head finishes its part (R82) -/

theorem finishPart_besideWork (s : State) (h : HeadNo) (g : Segment) : s.ReportsBesideWork (s.finishPart h g) [] :=
  besideWork_trans (besideWork_trans (besideWork_onSeg _ _ _ _) (besideWork_onPath _ _ _ _)) (besideWork_progress _ _ _ _ _ _)

theorem finishPart_other (s : State) {h k : HeadNo} (hne : k ≠ h) (g : Segment) : (s.finishPart h g).head k = s.head k := by
  rw [State.finishPart, head_progress, head_onPath_other hne, head_onSeg]

theorem State.InPart.finishPart_path {s : State} {h : HeadNo} {g : Segment} {p : SegHead} (hin : s.InPart h g p) :
    ((s.finishPart h g).head h).path = { (s.head h).path with seg := none, hold := .idle } := by
  rw [State.finishPart, head_progress, path_onPath_self (by exact hin.in_range), head_onSeg]

theorem State.InPart.finishPart_part {s : State} {h : HeadNo} {g : Segment} {p : SegHead} (hin : s.InPart h g p) :
    ((s.finishPart h g).seg? g.key).bind (fun x => x.part? h) = some { p with part := .finished, finishEt := s.et } := by
  rw [State.finishPart, seg?_progress, seg?_onPath]
  exact part?_onSeg_onPart hin.known hin.part (fun _ => rfl)

/-! #### SEGMENT_STAGED (R79) -/

theorem seg?_stage_self {s : State} {g y : Segment} (hy : s.seg? g.key = some y) : (s.stage g).seg? g.key =
    some { y with state := .staged, heads := y.heads.map (fun p => { p with fetched := p.fetched.raise (g.stagingBytes p.head) }) } := by
  rw [State.stage, seg?_progress, seg?_onSeg_self, hy]
  · rfl
  · exact fun _ => rfl

theorem seg?_stage_other (s : State) (g : Segment) {k : Nat} (hne : k ≠ g.key) : (s.stage g).seg? k = s.seg? k := by
  rw [State.stage, seg?_progress, seg?_onSeg_other s hne]
  exact fun _ => rfl

/-- A segment found among the unfinished has a first segment with its key. -/
theorem seg?_of_segById {s : State} {id : Nat} {g : Segment} (h : s.segById id = some g) : ∃ y, s.seg? g.key = some y :=
  Option.isSome_iff_exists.1 (List.find?_isSome.2 ⟨g, List.mem_of_find?_eq_some h, by simp⟩)

theorem stage_job (s : State) (g : Segment) : (s.stage g).job = { s.job with segments := (s.stage g).job.segments } := by
  simp only [State.stage, frame_progress]
  rfl

theorem stage_reports (s : State) (g : Segment) : ({ s with job := (s.stage g).job } : State).Reports (s.stage g) :=
  { besideWork_trans (besideWork_onSeg s _ _ _) (besideWork_progress _ _ _ _ _ _) with heads := by simp [State.stage] }

theorem segmentStaged_takes_effect {s : State} {id : Nat} {g : Segment} (hid : s.segById id = some g) (hstate : g.state = .admitted) :
    ∃ t, exec (.segmentStaged id) s = .next t
      ∧ (t.seg? g.key).map (fun x => x.state) = some .staged
      ∧ (∀ x, t.seg? g.key = some x → ∀ p ∈ x.heads, g.stagingBytes p.head ≤ p.fetched.upTo)
      ∧ (∀ k, k ≠ g.key → t.seg? k = s.seg? k) ∧ t.job = { s.job with segments := t.job.segments }
      ∧ ({ s with job := t.job } : State).Reports t := by
  obtain ⟨y, hy⟩ := seg?_of_segById hid
  refine ⟨s.stage g, by simp only [exec, execSegmentStaged, hid, hstate, if_true], ?_, fun x hx p hp => ?_,
    fun k hk => seg?_stage_other s g hk, stage_job s g, stage_reports s g⟩
  · rw [seg?_stage_self hy]; rfl
  · rw [seg?_stage_self hy, Option.some.injEq] at hx
    subst hx
    obtain ⟨q, -, rfl⟩ := List.mem_map.1 hp
    exact Nat.le_max_right _ _

/-! #### HEAD_START (R81) -/

/-- What HEAD_START makes of a segment, and of the part of its head. -/
def Segment.startedOn (g : Segment) (h : HeadNo) : Segment := { g.onPart h (fun p => { p with part := .running }) with state := .running }

theorem startPart_eq (s : State) (h : HeadNo) (g : Segment) : s.startPart h g =
    ((s.onSeg g.key (fun y => y.startedOn h)).onPath h (fun x => { x with seg := some g.key, hold := .idle })).progress g 2 h 0 0 := rfl

theorem startPart_path {s : State} {h : HeadNo} (hh : h < s.heads.length) (g : Segment) :
    ((s.startPart h g).head h).path = { (s.head h).path with seg := some g.key, hold := .idle } := by
  rw [State.startPart, head_progress, path_onPath_self (by exact hh), head_onSeg]

theorem startPart_other (s : State) {h k : HeadNo} (hne : k ≠ h) (g : Segment) : (s.startPart h g).head k = s.head k := by
  rw [State.startPart, head_progress, head_onPath_other hne, head_onSeg]

theorem startPart_besideWork (s : State) (h : HeadNo) (g : Segment) : s.ReportsBesideWork (s.startPart h g) [] :=
  besideWork_trans (besideWork_trans (besideWork_onSeg _ _ _ _) (besideWork_onPath _ _ _ _)) (besideWork_progress _ _ _ _ _ _)

theorem startPart_inPart {s : State} {h : HeadNo} {g : Segment} {p : SegHead} (hh : h < s.heads.length) (hg : s.seg? g.key = some g)
    (hp : g.part? h = some p) : (s.startPart h g).InPart h (g.startedOn h) { p with part := .running } where
  seg := by rw [startPart_path hh]; rfl
  known := by
    rw [startPart_eq, seg?_progress, seg?_onPath]
    exact (seg?_onSeg_self s g.key (f := fun y => y.startedOn h) (fun _ => rfl)).trans (congrArg _ hg)
  part := by
    have hpart := part?_onPart_self g h (f := fun p => { p with part := .running }) (fun _ => rfl)
    rw [hp] at hpart
    exact hpart

theorem itemsRun_of_besideWork {s t : State} {ks : List Nat} (h : s.ReportsBesideWork t ks) : t.itemsRun = s.itemsRun := by
  simp only [State.itemsRun, State.seqRuns, h.dev, h.clk, h.thermal]

theorem headStart_at_barrier {s : State} {h id b mask : Nat} {g : Segment} {p : SegHead} {it : Item} (hid : s.segById id = some g)
    (hg : s.seg? g.key = some g) (hmay : s.mayStart h g = true) (hh : h < s.heads.length) (hp : g.part? h = some p)
    (hfailed : p.failed = none) (hit : (g.listOf h)[p.next]? = some it) (hbody : it.body = .barrier b mask)
    (hahead : s.plannedAhead h g it = none) (hruns : s.itemsRun = true) :
    ∃ u : State, exec (.headStart h id) s = .next (u.evaluate g.key) ∧ (u.seg? g.key).map (fun x => x.state) = some .running
      ∧ ((u.seg? g.key).bind (fun x => x.part? h)).map (fun q => (q.part, q.next, q.arrived)) = some (.running, p.next + 1, p.arrived ++ [b])
      ∧ (u.head h).path = { (s.head h).path with seg := some g.key, hold := .barrier b } ∧ (∀ k, k ≠ h → u.head k = s.head k)
      ∧ ({ s with job := u.job, heads := u.heads } : State).Reports u := by
  have hin := startPart_inPart hh hg hp
  have hahead' : (s.startPart h g).plannedAhead h (g.startedOn h) it = none := by
    simp only [State.plannedAhead, startPart_path hh]
    exact hahead
  have hgo := hin.advance_barrier hit hbody hahead' ((itemsRun_of_besideWork (startPart_besideWork s h g)).trans hruns)
    ((s.startPart h g).freeFrom h) ((g.startedOn h).listOf h).length
  rw [← hin.goOn] at hgo
  have hexec : exec (.headStart h id) s = .next (((s.startPart h g).goOn h).evaluate g.key) := by
    simp only [exec, execHeadStart, hid, hmay, if_true, State.headStart, hp, Option.bind_some, hfailed]
  have harrive (q : SegHead) : ({ q with next := p.next + 1, arrived := q.arrived ++ [b] } : SegHead).head = q.head := rfl
  refine ⟨(s.startPart h g).goOn h, hexec, ?_, ?_, ?_, fun k hk => ?_, ?_⟩
  · rw [hgo, State.holdFor, seg?_onPath]
    rw [show g.key = (g.startedOn h).key from rfl, seg?_onSeg_self _ _ (fun y => key_onPart y h _), hin.known]
    rfl
  · rw [hgo, State.holdFor, seg?_onPath]
    exact (congrArg _ (part?_onSeg_onPart hin.known hin.part harrive)).trans rfl
  · rw [hgo, State.holdFor, path_onPath_self (by exact hin.in_range), head_onSeg, startPart_path hh]
  · rw [hgo, State.holdFor, head_onPath_other hk, head_onSeg, startPart_other s hk]
  · rw [hgo]
    exact besideWork_trans (startPart_besideWork s h g) (besideWork_trans (besideWork_onSeg _ _ _ _) (besideWork_onPath _ _ _ _))

/-! #### ITEM_COMPLETE at the end of a list (R121), and BARRIER_RELEASE before one (R63) -/

/-- The item in progress ended, the head's path is that of the segment still. -/
theorem State.InPart.endItem {s : State} {h : HeadNo} {g : Segment} {p : SegHead} (hin : s.InPart h g p) : (s.endItem h).InPart h g p := by
  unfold State.endItem
  split
  · exact hin
  · exact hin.onPath (fun _ => rfl)

theorem endItem_besideWork (s : State) (h : HeadNo) : s.ReportsBesideWork (s.endItem h) [] := by
  unfold State.endItem
  split
  · exact besideWork_refl s _
  · exact besideWork_onPath _ _ _ _

theorem endItem_other (s : State) {h k : HeadNo} (hne : k ≠ h) : (s.endItem h).head k = s.head k := by
  unfold State.endItem
  split
  · rfl
  · exact head_onPath_other hne _

/-- The path stands where the motion of its item ended. -/
theorem endItem_path {s : State} {h : HeadNo} {r : ItemRun} (hh : h < s.heads.length) (hrun : (s.head h).path.run = some r) :
    ((s.endItem h).head h).path.run = none ∧ ((s.endItem h).head h).path.pos = (s.head h).path.posAt r.finish
      ∧ ((s.endItem h).head h).path.endedAt = r.finish := by
  simp only [State.endItem, hrun, path_onPath_self hh, and_self]

theorem State.InPart.completeItem_over {s : State} {h : HeadNo} {g : Segment} {p : SegHead} (hin : s.InPart h g p)
    (hover : (g.listOf h)[p.next]? = none) : s.completeItem h = (s.endItem h).finishPart h g := by
  simp only [State.completeItem, hin.endItem.bind_seg, hin.endItem.advance_over hover]

theorem itemComplete_at_list_end {s : State} {h : Nat} {g : Segment} {p : SegHead} {r : ItemRun} (hin : s.InPart h g p)
    (hrun : (s.head h).path.run = some r) (hdone : r.finish ≤ s.et * 65536) (hseq : s.seqRuns = true) (hpassed : r.unpassed = none)
    (hover : (g.listOf h)[p.next]? = none) :
    ∃ u : State, exec (.itemComplete h) s = .next (u.evaluate g.key) ∧ (u.head h).path.run = none ∧ (u.head h).path.seg = none
      ∧ (u.head h).path.pos = (s.head h).path.posAt r.finish ∧ (u.head h).path.endedAt = r.finish ∧ (∀ k, k ≠ h → u.head k = s.head k)
      ∧ ((u.seg? g.key).bind (fun x => x.part? h)).map (fun q => (q.part, q.finishEt)) = some (.finished, s.et)
      ∧ ({ s with job := u.job, heads := u.heads } : State).Reports u := by
  have hexec : exec (.itemComplete h) s = .next (((s.endItem h).finishPart h g).evaluate g.key) := by
    have hitem : s.itemDone h (s.et * 65536) = true := by simp [State.itemDone, hrun, hdone, hpassed]
    simp only [exec, execItemComplete, hseq, hitem, and_self, if_true, State.evaluateAt, hin.seg, hin.completeItem_over hover]
  obtain ⟨hnone, hpos, hended⟩ := endItem_path hin.in_range hrun
  have het : (s.endItem h).et = s.et := by rw [State.et, (endItem_besideWork s h).clk, State.et]
  refine ⟨(s.endItem h).finishPart h g, hexec, ?_, ?_, ?_, ?_, fun k hk => ?_, ?_,
    besideWork_trans (endItem_besideWork s h) (finishPart_besideWork _ h g)⟩
  · rw [hin.endItem.finishPart_path]; exact hnone
  · rw [hin.endItem.finishPart_path]
  · rw [hin.endItem.finishPart_path]; exact hpos
  · rw [hin.endItem.finishPart_path]; exact hended
  · rw [finishPart_other _ hk, endItem_other s hk]
  · rw [hin.endItem.finishPart_part, het]; rfl

theorem barrierRelease_at_list_end {s : State} {id b h : Nat} {g : Segment} {p : SegHead} (hid : s.segById id = some g)
    (hg : s.seg? g.key = some g) (hopen : s.barrierOpen g b = true) (hheld : s.heldAt g b = [h]) (hp : g.part? h = some p)
    (hover : (g.listOf h)[p.next]? = none) :
    ∃ u : State, exec (.barrierRelease id b) s = .next (u.evaluate g.key) ∧ (u.head h).path.seg = none ∧ (u.head h).path.hold = .idle
      ∧ ((u.seg? g.key).bind (fun x => x.part? h)).map (fun q => (q.part, q.finishEt)) = some (.finished, s.et)
      ∧ (∀ k, k ≠ h → u.head k = s.head k) ∧ ({ s with job := u.job, heads := u.heads } : State).Reports u := by
  have hwaits : h ∈ s.heldAt g b := by rw [hheld]; exact List.mem_singleton_self h
  have hseg : (s.head h).path.seg = some g.key := by
    have := (List.mem_filter.1 hwaits).2
    simp only [Bool.and_eq_true, beq_iff_eq] at this
    exact this.1
  have hin : (s.holdFor h .idle).InPart h g p := State.InPart.onPath ⟨hseg, hg, hp⟩ (fun _ => rfl)
  have hexec : exec (.barrierRelease id b) s = .next (((s.holdFor h .idle).finishPart h g).evaluate g.key) := by
    simp only [exec, execBarrierRelease, hid, hopen, if_true, hheld, List.foldl_cons, List.foldl_nil, hin.goOn, hin.advance_over hover]
  refine ⟨(s.holdFor h .idle).finishPart h g, hexec, ?_, ?_, ?_, fun k hk => ?_,
    besideWork_trans (besideWork_onPath _ _ _ _) (finishPart_besideWork _ h g)⟩
  · rw [hin.finishPart_path]
  · rw [hin.finishPart_path]
  · rw [hin.finishPart_part]; rfl
  · rw [finishPart_other _ hk, State.holdFor, head_onPath_other hk]

end Sys2Proof.Machine

/-! ### An item begins (R69, R121, R185, R222): whose it is and its factor stand, whatever its entry checks find -/

namespace Sys2Proof.Machine

/-! #### What entry checks leave of a path -/

/-- Segment, item and factor of an item in time. -/
def ItemRun.work (r : ItemRun) : Nat × Nat × Nat := (r.seg, r.item, r.factor)

/-- The item a head has in progress, and what it holds for. -/
def HeadPath.underWay (x : HeadPath) : Option (Nat × Nat × Nat) × HoldReason := (x.run.map ItemRun.work, x.hold)

theorem underWay_onItem (x : HeadPath) (seg item : Nat) {f : ItemRun → ItemRun} (hf : ∀ r, (f r).work = r.work) :
    (x.onItem seg item f).underWay = x.underWay := by
  have hwork : (ItemRun.work ∘ fun r => if r.seg = seg ∧ r.item = item then f r else r) = ItemRun.work := by
    funext r
    by_cases hr : r.seg = seg ∧ r.item = item <;> simp [hr, hf]
  simp only [HeadPath.underWay, HeadPath.onItem, HeadPath.mapRuns, Option.map_map, hwork]

/-- The first of the items that wait is the one that was first before. -/
theorem work_head_waitRuns (seg item k ticks : Nat) (l : List ItemRun) :
    (waitRuns seg item k ticks l).head?.map ItemRun.work = l.head?.map ItemRun.work := by
  cases l with
  | nil => rfl
  | cons r rest =>
    unfold waitRuns
    split <;> rfl

theorem underWay_wait (x : HeadPath) (seg item k ticks : Nat) : (x.wait seg item k ticks).underWay = x.underWay := by
  cases hrun : x.run with
  | none => simp [HeadPath.wait, HeadPath.underWay, hrun]
  | some r =>
    have hfirst := work_head_waitRuns seg item k ticks x.coming
    simp only [HeadPath.wait, hrun, Option.isSome_some, if_true, HeadPath.underWay, hfirst]
    simp [HeadPath.coming, hrun]

/-- Of the heads only h has another path, and on it the item in progress and the hold are the same. -/
structure State.SameWork (s t : State) (h : HeadNo) : Prop where
  other : ∀ k, k ≠ h → t.head k = s.head k
  own : (t.head h).path.underWay = (s.head h).path.underWay

theorem sameWork_of_heads {s t : State} (hheads : t.heads = s.heads) (h : HeadNo) : s.SameWork t h where
  other k _ := head_of_heads hheads k
  own := by rw [head_of_heads hheads]

theorem sameWork_trans {s t u : State} {h : HeadNo} (a : s.SameWork t h) (b : t.SameWork u h) : s.SameWork u h where
  other k hk := (b.other k hk).trans (a.other k hk)
  own := b.own.trans a.own

theorem State.SameWork.twinLead {s t : State} {h : HeadNo} (a : s.SameWork t h) (kind : Nat) (fields : List Int) :
    s.SameWork (t.twinLead kind fields) h := ⟨a.other, a.own⟩

theorem sameWork_onHead (s : State) (h : HeadNo) {f : Head → Head} (hf : ∀ x, (f x).path.underWay = x.path.underWay) :
    s.SameWork (s.onHead h f) h where
  other _ hk := head_onHead_other hk f
  own := by
    by_cases hh : h < s.heads.length
    · rw [head_onHead_self hh, hf]
    · simp [State.onHead, List.modify_eq_self (Nat.le_of_not_lt hh)]

theorem sameWork_onPath (s : State) (h : HeadNo) {f : HeadPath → HeadPath} (hf : ∀ x, (f x).underWay = x.underWay) :
    s.SameWork (s.onPath h f) h := sameWork_onHead s h (fun x => hf x.path)

theorem sameWork_onStretch (s : State) (h : HeadNo) (r : ItemRun) (k : Nat) (f : Stretch → Stretch) :
    s.SameWork (s.onItem h r (fun q => q.onStretch k f)) h :=
  sameWork_onPath s h (fun x => underWay_onItem x r.seg r.item (fun _ => rfl))

theorem passEntry_sameWork (s : State) (h : HeadNo) (r : ItemRun) (k : Nat) (st : Stretch) (b : Tick) :
    s.SameWork (s.passEntry h r k st b) h := by
  unfold State.passEntry
  dsimp only
  split
  · exact sameWork_trans (sameWork_onStretch s h r k _) (sameWork_onHead _ h (fun _ => rfl))
  · exact sameWork_onStretch s h r k _

theorem failEntry_sameWork (s : State) (h : HeadNo) (r : ItemRun) (k : Nat) (st : Stretch) (b : Tick) (keepout : Bool) :
    s.SameWork (s.failEntry h r k st b keepout) h :=
  sameWork_trans (sameWork_trans (sameWork_of_heads (by simp) h) (sameWork_onStretch (s.countWait st keepout s.servoTicks) h r k _))
    (sameWork_onPath _ h (fun x => underWay_wait x r.seg r.item k s.servoTicks))

theorem applyEntry_sameWork (s : State) (h : HeadNo) (r : ItemRun) (k : Nat) (st : Stretch) (b : Tick) (v : Bool × Bool) :
    s.SameWork (s.applyEntry h r k st b v) h := by
  unfold State.applyEntry
  split
  · exact failEntry_sameWork _ _ _ _ _ _ _
  · exact passEntry_sameWork _ _ _ _ _ _

theorem obeyEntry_sameWork (s : State) (h : HeadNo) (r : ItemRun) (k : Nat) (st : Stretch) (b : Tick) (o : Nat × Nat) :
    s.SameWork (s.obeyEntry h r k st b o) h :=
  have happlied := applyEntry_sameWork { s with twin := { s.twin with orders := dropEntry (s.idOf r.seg) h r.item b s.twin.orders } }
    h r k st b (o.1 == 3 && o.2 == 0, o.1 == 3 && o.2 == 1)
  ⟨happlied.other, happlied.own⟩

theorem checkEntry_sameWork (s : State) (h : HeadNo) : s.SameWork (s.checkEntry h) h := by
  unfold State.checkEntry
  split
  · exact sameWork_of_heads rfl h
  · dsimp only
    split
    · exact obeyEntry_sameWork _ _ _ _ _ _ _
    · split
      · exact sameWork_of_heads rfl h
      · exact (applyEntry_sameWork _ _ _ _ _ _ _).twinLead _ _

theorem lateChecks_sameWork (s : State) (h : HeadNo) (et : Tick) (n : Nat) : s.SameWork (s.lateChecks h et n) h := by
  induction n generalizing s with
  | zero => exact sameWork_of_heads rfl h
  | succ n ih =>
    unfold State.lateChecks
    split
    · split
      · exact sameWork_trans (checkEntry_sameWork s h) (ih _)
      · exact sameWork_of_heads rfl h
    · exact sameWork_of_heads rfl h

/-! #### The item begun -/

/-- The item r of the segment g is in progress on the head h, which holds no more; its place in the list is n, and neither another
head nor the device state has changed. -/
structure State.Begins (s u : State) (h : HeadNo) (g : Segment) (n : Nat) (work : Nat × Nat × Nat) : Prop where
  own : (u.head h).path.underWay = (some work, .idle)
  other : ∀ k, k ≠ h → u.head k = s.head k
  dev : u.dev = s.dev
  next : ((u.seg? g.key).bind (fun x => x.part? h)).map (fun y => y.next) = some (n + 1)

theorem State.InPart.beginRun {s : State} {h : HeadNo} {g : Segment} {p : SegHead} (hin : s.InPart h g p) (n : Nat) (it : Item)
    (r : ItemRun) (later : List ItemRun) (et : Tick) : s.Begins (s.beginRun h g n it r later et) h g n r.work := by
  unfold State.beginRun
  extract_lets begin t
  have hheads : (t.countItem h it r).heads = (s.onPath h begin).heads := by simp [t]
  have hlate := lateChecks_sameWork (t.countItem h it r) h et (r.stretches.length + 1)
  refine ⟨?_, fun k hk => ?_, by simp [t], ?_⟩
  · rw [hlate.own, head_of_heads hheads, path_onPath_self hin.in_range]
    rfl
  · rw [hlate.other k hk, head_of_heads hheads, head_onPath_other hk]
  · have hpart := part?_onSeg_onPart (s := (s.onPath h begin).setReg (0x4160 + h) 13 r.fThermal) (g := g) (h := h) hin.known hin.part
      (f := fun p => { p with next := n + 1 }) (fun _ => rfl)
    rw [seg?_of_job (s := t) (by simp)]
    exact (congrArg _ hpart).trans rfl

theorem State.InPart.beginItem {s : State} {h : HeadNo} {g : Segment} {p : SegHead} (hin : s.InPart h g p) (n factor t0 : Nat) (it : Item) :
    s.Begins (s.beginItem h g n factor t0 it) h g n (g.key, it.index, factor) := by
  have hbegun := (hin.onPath (f := fun x => { x with ahead := [] }) (fun _ => rfl)).beginRun n it
    ((s.onPath h (fun x => { x with ahead := [] })).itemRun h g n factor t0 it) [] (s.et + 1)
  exact { hbegun with other := fun k hk => (hbegun.other k hk).trans (head_onPath_other hk _) }

/-- A message of the PRIMARY about it changes nothing of it. -/
theorem State.Begins.twinLead {s u : State} {h : HeadNo} {g : Segment} {n : Nat} {work : Nat × Nat × Nat} (hu : s.Begins u h g n work)
    (kind : Nat) (fields : List Int) : s.Begins (u.twinLead kind fields) h g n work where
  own := hu.own
  other := hu.other
  dev := hu.dev
  next := hu.next

/-- The same said of the item in progress itself. -/
theorem State.Begins.run {s u : State} {h : HeadNo} {g : Segment} {n seg item factor : Nat} (hu : s.Begins u h g n (seg, item, factor)) :
    ∃ q, (u.head h).path.run = some q ∧ q.seg = seg ∧ q.item = item ∧ q.factor = factor ∧ (u.head h).path.hold = .idle := by
  obtain ⟨hrun, hhold⟩ := Prod.mk.inj hu.own
  obtain ⟨q, hq, hwork⟩ := Option.map_eq_some_iff.1 hrun
  obtain ⟨hseg, hitem, hfactor⟩ : q.seg = seg ∧ q.item = item ∧ q.factor = factor := by simpa [ItemRun.work] using hwork
  exact ⟨q, hq, hseg, hitem, hfactor, hhold⟩

/-! #### DATA_WAIT_END (R69) and DRAIN_HOLD_END (R185) -/

theorem State.InPart.onPart {s : State} {h : HeadNo} {g : Segment} {p : SegHead} (hin : s.InPart h g p) {f : SegHead → SegHead}
    (hf : ∀ q, (f q).head = q.head) : (s.onSeg g.key (fun y => y.onPart h f)).InPart h (g.onPart h f) (f p) where
  seg := hin.seg
  known := by rw [key_onPart, seg?_onSeg_self _ _ (fun y => key_onPart y h f), hin.known]; rfl
  part := by rw [part?_onPart_self g h hf, hin.part]; rfl

/-- A part with the data of its list up to its next item. -/
def SegHead.withData (p : SegHead) (c : HeadCfg) (items : List Item) : SegHead :=
  { p with fetched := p.fetched.raise (((items.take (p.next + 1)).map Item.bytes).sum)
           rows := p.rows.raise (((items.take (p.next + 1)).map (fun i => (c.passBytes i).sum)).sum) }

theorem State.InPart.dataPresent_eq {s : State} {h : HeadNo} {g : Segment} {p : SegHead} (hin : s.InPart h g p) : s.dataPresent h =
    s.onSeg g.key (fun y => y.onPart h (fun q => q.withData (s.cfg h) (g.listOf h))) := by
  simp only [State.dataPresent, hin.bind_seg]
  rfl

theorem State.InPart.beginHeld {s : State} {h : HeadNo} {g : Segment} {p : SegHead} (hin : s.InPart h g p) {it : Item}
    (hit : (g.listOf h)[p.next]? = some it) (hruns : s.itemsRun = true) : s.Begins (s.beginHeld h) h g p.next (g.key, it.index, 16) := by
  have hbegin : s.beginHeld h = (s.beginItem h g p.next 16 (s.freeFrom h) it).twinLead 0x04 [g.id, h, 1, it.index, s.et, 16] := by
    simp only [State.beginHeld, hin.bind_seg, hin.part, hit, hruns, if_true]
  rw [hbegin]
  exact (hin.beginItem p.next 16 (s.freeFrom h) it).twinLead _ _

theorem dataWaitEnd_begins {s : State} {h : Nat} {g : Segment} {p : SegHead} {it : Item} (hin : s.InPart h g p)
    (hhold : (s.head h).path.hold = .data) (hrun : (s.head h).path.run = none) (hit : (g.listOf h)[p.next]? = some it)
    (hruns : s.itemsRun = true) :
    ∃ u, exec (.dataWaitEnd h) s = .next (u.evaluate g.key) ∧ s.Begins u h g p.next (g.key, it.index, 16) := by
  have hexec : exec (.dataWaitEnd h) s = .next (((s.dataPresent h).beginHeld h).evaluate g.key) := by
    simp only [exec, execDataWaitEnd, hhold, hrun, and_self, if_true, State.evaluateAt, hin.seg]
  refine ⟨_, hexec, ?_⟩
  rw [hin.dataPresent_eq]
  have hbegins := (hin.onPart (f := fun q => q.withData (s.cfg h) (g.listOf h)) (fun _ => rfl)).beginHeld (it := it) hit hruns
  exact { own := hbegins.own, other := hbegins.other, dev := hbegins.dev, next := hbegins.next }

theorem plannedAhead_of_nil {s : State} {h : HeadNo} (hahead : (s.head h).path.ahead = []) (g : Segment) (it : Item) :
    s.plannedAhead h g it = none := by
  rw [State.plannedAhead, hahead]
  rfl

theorem drainHoldEnd_begins {s : State} {h f : Nat} {g : Segment} {p : SegHead} {it : Item} (hin : s.InPart h g p)
    (hhold : (s.head h).path.hold = .drain) (hrun : (s.head h).path.run = none) (hit : (g.listOf h)[p.next]? = some it)
    (hruns : s.itemsRun = true) (hahead : (s.head h).path.ahead = []) (hmarks : it.body.marks = true) (hrole : s.twin.role ≠ .shadow)
    (horder : s.twin.factorOrder g.id h it.index s.et = none) (hf : s.chooseFactor h g p p.next it (s.head h).path.pos = some f) :
    ∃ u, exec (.drainHoldEnd h) s = .next (u.evaluate g.key) ∧ s.Begins u h g p.next (g.key, it.index, f) := by
  have hgo : s.goOn h = (s.beginItem h g p.next f (s.freeFrom h) it).twinLead 0x04 [g.id, h, 1, it.index, s.et, f] := by
    rw [hin.goOn, hin.advance_marking hit hmarks (plannedAhead_of_nil hahead g it) hruns]
    simp only [State.beginMarking, horder, hrole, if_false, hf]
  have hexec : exec (.drainHoldEnd h) s = .next ((s.goOn h).evaluate g.key) := by
    simp only [exec, execDrainHoldEnd, hhold, hrun, and_self, if_true, State.evaluateAt, hin.seg]
  refine ⟨_, hexec, ?_⟩
  rw [hgo]
  exact (hin.beginItem p.next f (s.freeFrom h) it).twinLead _ _

/-- Settles O44: the five commands by their own lemmas, above. -/
theorem segmentStartComplete : Obligations.SegmentStartComplete := by
  refine ⟨fun s id g hid hstate => segmentStaged_takes_effect hid hstate,
    fun s h id b mask g p it hid hg hmay hh hp hfailed hit hbody hahead hruns =>
      headStart_at_barrier hid hg hmay hh hp hfailed hit hbody hahead hruns,
    fun s h g p r hrun hdone hseq hpassed hseg hg hp hover => itemComplete_at_list_end ⟨hseg, hg, hp⟩ hrun hdone hseq hpassed hover,
    fun s h g p it hhold hrun hseg hg hp hit hruns => ?_,
    fun s h f g p it hhold hrun hseg hg hp hit hruns hahead hmarks hrole horder hf => ?_⟩
  · obtain ⟨u, hexec, hu⟩ := dataWaitEnd_begins ⟨hseg, hg, hp⟩ hhold hrun hit hruns
    obtain ⟨q, hq, hqseg, hqitem, hqfactor, hidle⟩ := hu.run
    exact ⟨u, q, hexec, hq, hqseg, hqitem, hqfactor, hidle, hu.other, hu.dev, hu.next⟩
  · obtain ⟨u, hexec, hu⟩ := drainHoldEnd_begins ⟨hseg, hg, hp⟩ hhold hrun hit hruns hahead hmarks hrole horder hf
    obtain ⟨q, hq, hqseg, hqitem, hqfactor, hidle⟩ := hu.run
    exact ⟨u, q, hexec, hq, hqseg, hqitem, hqfactor, hidle, hu.other, hu.dev, hu.next⟩

end Sys2Proof.Machine

/-! ### Line buffers, the PRIMARY's decisions and the servo period (R123, R172 to R174, R460, R466) -/

namespace Sys2Proof.Machine

/-! #### LINE_BUFFER_WRITE (R173) -/

theorem nextEntry_in_range {s : State} {h : HeadNo} {b : Nat} {x : ItemRun × Edge × List Edge}
    (hnext : (s.head h).path.nextEntry b = some x) : h < s.heads.length :=
  head_in_range (fun e => by rw [e] at hnext; cases hnext)

/-- A path with an edge of a beamlet, of the item r, put in its place in its buffer; rest is what the item has still to write. -/
def HeadPath.withEdge (x : HeadPath) (b : Nat) (r : ItemRun) (put : Edge) (rest : List Edge) : HeadPath :=
  { x.onItem r.seg r.item (fun q => { q with planned := q.planned.set b rest }) with buffers := x.buffers.modify b (placeEdge put) }

/-- An edge at the first tick that no assembled frame of the path holds, at the earliest (R174). -/
def Edge.notBefore (e : Edge) (x : HeadPath) : Edge := { e with et := max e.et x.bookedTo }

theorem withEdge_buffer_self {x : HeadPath} {b : Nat} (hb : b < x.buffers.length) (r : ItemRun) (put : Edge) (rest : List Edge) :
    (x.withEdge b r put rest).buffers.getD b [] = placeEdge put (x.buffers.getD b []) := by
  simp [HeadPath.withEdge, List.getD_eq_getElem?_getD, hb]

theorem withEdge_buffer_other (x : HeadPath) {b c : Nat} (hne : c ≠ b) (r : ItemRun) (put : Edge) (rest : List Edge) :
    (x.withEdge b r put rest).buffers.getD c [] = x.buffers.getD c [] := by
  simp [HeadPath.withEdge, List.getD_eq_getElem?_getD, hne.symm]

theorem writeEdge_places {s : State} {h b : Nat} {r : ItemRun} {e : Edge} {rest : List Edge} {st : Stretch}
    (hnext : (s.head h).path.nextEntry b = some (r, e, rest)) (hst : r.stretches[e.stretch]? = some st) (hpassed : st.passed = true)
    (hroom : ((s.head h).path.buffers.getD b []).length < 4096) (hnear : e.et / 125 * 125 ≤ s.et + 2 ^ 30)
    (hrows : st.withheld = true ∨ s.passShort h r e.stretch = false) :
    s.writeEdge h b = if s.paired then
        (s.onPath h (fun x => x.withEdge b r (e.notBefore (s.head h).path) rest)).onSeg r.seg (fun g => { g with entries := g.entries ++ e.bytes })
      else s.onPath h (fun x => x.withEdge b r (e.notBefore (s.head h).path) rest) := by
  have hmay : ¬(st.passed = false ∨ 4096 ≤ ((s.head h).path.buffers.getD b []).length ∨ s.et + 2 ^ 30 < e.et / 125 * 125) := by
    rintro (hno | hno | hno)
    · rw [hpassed] at hno
      cases hno
    · exact absurd hroom (Nat.not_lt.2 hno)
    · exact absurd hnear (Nat.not_le.2 hno)
  have hfull : ¬(st.withheld = false ∧ s.passShort h r e.stretch = true) := by
    rcases hrows with hrows | hrows <;> simp [hrows]
  simp only [State.writeEdge, hnext, hst, if_neg hmay, if_neg hfull]
  rfl

theorem lineBufferWrite_takes_effect {s : State} {h b : Nat} {r : ItemRun} {e : Edge} {rest : List Edge} {st : Stretch}
    (hseq : s.seqRuns = true) (hnext : (s.head h).path.nextEntry b = some (r, e, rest)) (hst : r.stretches[e.stretch]? = some st)
    (hpassed : st.passed = true) (hb : b < (s.head h).path.buffers.length) (hroom : ((s.head h).path.buffers.getD b []).length < 4096)
    (hnear : e.et / 125 * 125 ≤ s.et + 2 ^ 30) (hrows : st.withheld = true ∨ s.passShort h r e.stretch = false) :
    ∃ t, exec (.lineBufferWrite h b) s = .next t
      ∧ (t.head h).path.buffers.getD b [] =
        placeEdge { e with et := max e.et (s.head h).path.bookedTo } ((s.head h).path.buffers.getD b [])
      ∧ (∀ c, c ≠ b → (t.head h).path.buffers.getD c [] = (s.head h).path.buffers.getD c [])
      ∧ (t.head h).path.run = ((s.head h).path.onItem r.seg r.item (fun q => { q with planned := q.planned.set b rest })).run
      ∧ (∀ k, k ≠ h → t.head k = s.head k) ∧ t = { s with heads := t.heads, job := t.job } ∧ (s.paired = false → t.job = s.job) := by
  have hwrite := writeEdge_places hnext hst hpassed hroom hnear hrows
  have hexec : exec (.lineBufferWrite h b) s = .next (s.writeEdge h b) := by simp only [exec, execLineBufferWrite, hseq, if_true]
  have hheads : (s.writeEdge h b).heads = (s.onPath h (fun x => x.withEdge b r (e.notBefore (s.head h).path) rest)).heads := by
    rw [hwrite]; split <;> rfl
  have hpath : ((s.writeEdge h b).head h).path = (s.head h).path.withEdge b r (e.notBefore (s.head h).path) rest := by
    rw [head_of_heads hheads, path_onPath_self (nextEntry_in_range hnext)]
  refine ⟨s.writeEdge h b, hexec, ?_, fun c hc => ?_, ?_, fun k hk => ?_, ?_, fun hsolo => ?_⟩
  · rw [hpath, withEdge_buffer_self hb]; rfl
  · rw [hpath, withEdge_buffer_other _ hc]
  · rw [hpath]; rfl
  · rw [head_of_heads hheads, head_onPath_other hk]
  · rw [hwrite]; split <;> rfl
  · rw [hwrite, hsolo]; rfl

/-! #### PLAN_DECISION (R460) -/

/-- The state with an order of the PRIMARY kept; on a locked link it has been sent. -/
structure State.Orders (s t : State) (seg h kind item : Nat) (at_ : Tick) (value sent : Nat) : Prop where
  kept : t.twin.orders = s.twin.orders ++ [.plan seg h kind item at_ value]
  tells : s.twin.linkLock = true → t.out = s.out ++ [twinOut 0x04 s.twin.txSeq [seg, h, kind, item, at_, sent]]
  silent : s.twin.linkLock = false → t.out = s.out
  frame : t = { s with twin := t.twin, out := t.out }

theorem order_by_primary {s : State} (hrole : s.twin.role = .primary) (seg h kind item : Nat) (at_ : Tick) (value sent : Nat) :
    s.Orders (s.order seg h kind item at_ value sent) seg h kind item at_ value sent where
  kept := by
    unfold State.order
    rw [(Reports_twinLead _ _ _).twin]
  tells hlock := by simp [State.order, State.twinLead, Twin.leads, hrole, hlock]
  silent hlock := by simp [State.order, State.twinLead, Twin.leads, hlock]
  frame := rfl

theorem planDecision_orders_held {s : State} {h : Nat} {g : Segment} {p : SegHead} {it : Item} (hrole : s.twin.role = .primary)
    (hcoming : (s.head h).path.coming = []) (hhold : (s.head h).path.hold = .drain) (hin : s.InPart h g p)
    (hit : (g.listOf h)[p.next]? = some it) (hmarks : it.body.marks = true) :
    ∃ t c, exec (.planDecision h) s = .next t
      ∧ c = s.chooseFactor h g p p.next it ((s.head h).path.posAt ((s.et + 2500) * 65536))
      ∧ s.Orders t g.id h (if c.isSome = true then 1 else 2) it.index (s.et + 2500) (c.getD 0) (c.getD 0) := by
  have hexec : exec (.planDecision h) s
      = .next (s.orderFactor h g p.next it ((s.head h).path.posAt ((s.et + 2500) * 65536)) (s.et + 2500)) := by
    simp only [exec, execPlanDecision, hrole, hcoming, hhold, List.isEmpty_nil, and_self, if_true, State.orderHeld, hin.bind_seg, hin.part,
      hit, hmarks]
  refine ⟨_, _, hexec, rfl, ?_⟩
  simp only [State.orderFactor, hin.part]
  split
  next f hf => rw [hf]; exact order_by_primary hrole _ _ _ _ _ _ _
  next hf => rw [hf]; exact order_by_primary hrole _ _ _ _ _ _ _

/-- A head with nothing more to plan plans nothing. -/
theorem planAhead_of_no_plan {s : State} {h : HeadNo} (hplan : s.planPoint h = none) (horizon : Tick) : s.planAhead h horizon = s := by
  have hnext : s.planNext h horizon = s := by simp only [State.planNext, hplan]
  unfold State.planAhead
  split
  · simp only [State.planItems, hnext, if_true]
  · rfl

theorem decideRun_of_no_check {plan : State} {b : Tick} (hnone : plan.nextCheck b = none) (n : Nat) (s : State) :
    State.decideRun plan b n s = s := by
  cases n with
  | zero => rfl
  | succ n => simp only [State.decideRun, hnone]

/-- One check decided against the plan, where none comes after it. -/
theorem decideRun_of_one_check {plan s : State} {b : Tick} {a k : Nat} {r : ItemRun} {st : Stretch} (hnext : plan.nextCheck b = some a)
    (hst : (plan.head a).path.unpassed = some (r, k, st)) (hahead : s.et ≤ st.boundary plan.servoTicks)
    (hfresh : plan.twin.entryOrder (plan.idOf r.seg) a r.item (st.boundary plan.servoTicks) = none) {v : Bool × Bool}
    (hv : v = plan.entryVerdict a r k st (st.boundary plan.servoTicks))
    (hlast : (plan.applyEntry a r k st (st.boundary plan.servoTicks) v).nextCheck b = none) (n : Nat) :
    State.decideRun plan b (n + 1) s
      = s.order (s.idOf r.seg) a (if (v.1 || v.2) = true then 3 else 4) r.item (st.boundary plan.servoTicks) (flag v.2) 0 := by
  simp only [State.decideRun, hnext, hst, hfresh, ← hv, decideRun_of_no_check hlast, if_neg (Nat.not_lt.2 hahead)]

theorem planDecision_orders_check {s : State} {h a k : Nat} {r : ItemRun} {st : Stretch} {v : Bool × Bool} (hrole : s.twin.role = .primary)
    (hnot : ¬((s.head h).path.coming = [] ∧ (s.head h).path.hold = .drain)) (hplan : s.planPoint h = none)
    (hnext : s.nextCheck (s.et + 2500) = some a) (hst : (s.head a).path.unpassed = some (r, k, st))
    (hahead : s.et ≤ st.boundary s.servoTicks)
    (hfresh : s.twin.entryOrder (s.idOf r.seg) a r.item (st.boundary s.servoTicks) = none)
    (hv : v = s.entryVerdict a r k st (st.boundary s.servoTicks))
    (hlast : (s.applyEntry a r k st (st.boundary s.servoTicks) v).nextCheck (s.et + 2500) = none) :
    ∃ t, ∃ kind : Nat, exec (.planDecision h) s = .next t ∧ kind = (if (v.1 || v.2) = true then 3 else 4)
      ∧ s.Orders t (s.idOf r.seg) a kind r.item (st.boundary s.servoTicks) (flag v.2) 0 := by
  have hdecide : s.decideEntries = s.order (s.idOf r.seg) a (if (v.1 || v.2) = true then 3 else 4) r.item (st.boundary s.servoTicks)
      (flag v.2) 0 := by
    rw [State.decideEntries, if_pos hrole]
    exact decideRun_of_one_check hnext hst hahead hfresh hv hlast _
  have hexec : exec (.planDecision h) s = .next s.decideEntries := by
    simp only [exec, execPlanDecision, hrole, List.isEmpty_iff, if_neg hnot, if_true, planAhead_of_no_plan hplan]
  exact ⟨_, _, hexec, rfl, by rw [hdecide]; exact order_by_primary hrole _ _ _ _ _ _ _⟩

end Sys2Proof.Machine

/-! ### The servo period (R123, R466) -/

namespace Sys2Proof.Machine

/-! #### One group formed -/

/-- The stored numbers that the group of a head writes: its position and the count of clamped words. -/
def groupKeys (h : HeadNo) : List Nat := [regKey (0x4160 + h) 1, regKey (0x4160 + h) 2, regKey (0x4160 + h) 12]

/-- The servo period of the newest set-point group of a path. -/
def HeadPath.newestGroup (x : HeadPath) : Option Nat := x.setPoints.head?.map (fun g => g.k)

/-- The group of a head whose link is in operation is put before those it has sent; the rest reports. -/
theorem formGroup_operating {s : State} {h : HeadNo} (hop : (s.head h).link.state = .operation) {k : Nat}
    (hnew : (s.head h).path.newestGroup ≠ some k) :
    ∃ gr : SetPoint, gr.k = k ∧ (s.formGroup h k).heads = (s.onPath h (fun y => y.withGroup gr)).heads
      ∧ s.ReportsBesideWork (s.formGroup h k) (groupKeys h) := by
  unfold State.formGroup
  rw [if_neg (by exact hnew)]
  extract_lets s' x c ts g t n u a b
  have hs : s = s' := (if_pos hop).symm
  clear_value s'
  subst hs
  have ha : s.ReportsBesideWork a (groupKeys h) :=
    besideWork_trans (besideWork_onPath s h _ _) (besideWork_of_ReportsWith
      (ReportsWith_trans (ReportsWith_setReg _ _ _ _ (by simp [groupKeys])) (ReportsWith_setReg _ _ _ _ (by simp [groupKeys]))))
  have hb : s.ReportsBesideWork b (groupKeys h) := by
    refine besideWork_trans ha ?_
    simp only [b]
    split
    · exact besideWork_refl _ _
    · exact besideWork_of_ReportsWith (ReportsWith_trans (ReportsWith_setReg _ _ _ _ (by simp [groupKeys]))
        (ReportsWith_of_Reports _ (Reports_setLeaf _ _ _)))
  have hheads : b.heads = (s.onPath h (fun y => y.withGroup g)).heads := by
    simp only [b]
    split
    · rfl
    · simp [a]
  refine ⟨g, rfl, ?_, ?_⟩
  · (repeat' split) <;> exact hheads
  · (repeat' split)
    · exact besideWork_trans hb (besideWork_onSeg _ _ _ _)
    · exact hb
    · exact hb

theorem newestGroup_withGroup (x : HeadPath) (gr : SetPoint) : (x.withGroup gr).newestGroup = some gr.k := rfl

/-- One step of formGroups. -/
def State.groupIfOperating (s : State) (k : Nat) (h : HeadNo) : State :=
  if (s.head h).link.state = .operation then s.formGroup h k else s

theorem formGroups_eq (s : State) (k : Nat) : s.formGroups k = (List.range 32).foldl (fun t h => t.groupIfOperating k h) s := rfl

/-- What forming the group of period k for the heads of a list leaves: their newest group, on each whose link is in operation; all
other heads as they are, and reports. -/
structure State.Grouped (s t : State) (k : Nat) (l : List HeadNo) : Prop where
  formed : ∀ h ∈ l, (s.head h).link.state = .operation → (t.head h).path.newestGroup = some k
  idle : ∀ h, (s.head h).link.state ≠ .operation → t.head h = s.head h
  outside : ∀ h, h ∉ l → t.head h = s.head h
  link : ∀ h, (t.head h).link = (s.head h).link
  reports : s.ReportsBesideWork t (l.flatMap groupKeys)

theorem grouped_of_eq {s t : State} {k : Nat} {h : HeadNo} (ht : t = s)
    (hformed : (s.head h).link.state = .operation → (s.head h).path.newestGroup = some k) : s.Grouped t k [h] := by
  subst ht
  refine ⟨fun j hj hop => ?_, fun _ _ => rfl, fun _ _ => rfl, fun _ => rfl, besideWork_refl t _⟩
  rw [List.mem_singleton.1 hj] at hop ⊢
  exact hformed hop

theorem grouped_one (s : State) (k : Nat) (h : HeadNo) : s.Grouped (s.groupIfOperating k h) k [h] := by
  by_cases hop : (s.head h).link.state = .operation
  case neg => exact grouped_of_eq (if_neg hop) (fun h' => absurd h' hop)
  case pos =>
    by_cases hold : (s.head h).path.newestGroup = some k
    · exact grouped_of_eq ((if_pos hop).trans (if_pos hold)) (fun _ => hold)
    · rw [State.groupIfOperating, if_pos hop]
      obtain ⟨gr, hk, hheads, hreports⟩ := formGroup_operating hop hold
      have hh : h < s.heads.length := head_in_range (fun e => by rw [e] at hop; cases hop)
      have hother (j : HeadNo) (hj : j ≠ h) : (s.formGroup h k).head j = s.head j := by
        rw [head_of_heads hheads, head_onPath_other hj]
      have hown : (s.formGroup h k).head h = { s.head h with path := (s.head h).path.withGroup gr } := by
        rw [head_of_heads hheads, State.onPath, head_onHead_self hh]
      refine ⟨fun j hj _ => ?_, fun j hj => hother j (fun e => hj (e ▸ hop)), fun j hj => hother j (fun e => hj (by simp [e])),
        fun j => ?_, by simpa using hreports⟩
      · rw [List.mem_singleton.1 hj, hown, newestGroup_withGroup, hk]
      · by_cases hj : j = h
        · rw [hj, hown]
        · rw [hother j hj]

theorem besideWork_mono {s t : State} {ks ls : List Nat} (h : s.ReportsBesideWork t ks) (hs : ks ⊆ ls) : s.ReportsBesideWork t ls :=
  ReportsWith_mono h hs

theorem grouped_all (k : Nat) (l : List HeadNo) (s : State) : s.Grouped (l.foldl (fun t h => t.groupIfOperating k h) s) k l := by
  induction l generalizing s with
  | nil => exact ⟨fun _ hj => absurd hj List.not_mem_nil, fun _ _ => rfl, fun _ _ => rfl, fun _ => rfl, besideWork_refl s _⟩
  | cons a l ih =>
    have hone := grouped_one s k a
    have hrest := ih (s.groupIfOperating k a)
    refine ⟨fun j hj hop => ?_, fun j hj => ?_, fun j hj => ?_, fun j => (hrest.link j).trans (hone.link j), ?_⟩
    · by_cases hl : j ∈ l
      · exact hrest.formed j hl (by rw [hone.link]; exact hop)
      · obtain rfl : j = a := (List.mem_cons.1 hj).resolve_right hl
        rw [List.foldl_cons, hrest.outside j hl]
        exact hone.formed j (List.mem_singleton_self j) hop
    · exact (hrest.idle j (by rw [hone.link]; exact hj)).trans (hone.idle j hj)
    · exact (hrest.outside j (List.not_mem_of_not_mem_cons hj)).trans (hone.outside j (by simpa using List.ne_of_not_mem_cons hj))
    · exact besideWork_trans (besideWork_mono hone.reports (by simp)) (besideWork_mono hrest.reports (by simp))

/-! #### What the groups leave of the rest -/

/-- Reports beside the job and the heads that leave the recorder: what may differ. -/
theorem eq_of_besideWork {s t : State} {ks : List Nat} (h : s.ReportsBesideWork t ks) (hrec : t.recorder = s.recorder) : t = { s with
    heads := t.heads, job := t.job, regs := t.regs, leaves := t.leaves, sessions := t.sessions, ownWaiting := t.ownWaiting, out := t.out
    twin := t.twin } := by
  cases t
  cases h
  simp only at *
  subst_vars
  rfl

theorem reg_of_besideWork {s t : State} {ks : List Nat} (h : s.ReportsBesideWork t ks) {i a : Nat} (hkey : regKey i a ∉ regKey 0xC000 5 :: ks) :
    t.reg i a = s.reg i a := h.regs _ hkey

theorem formGroups_grouped (s : State) (k : Nat) : s.Grouped (s.formGroups k) k (List.range 32) := by
  rw [formGroups_eq]
  exact grouped_all k _ s

theorem formGroups_reports (s : State) (k : Nat) : s.ReportsBesideWork (s.formGroups k) ((List.range 32).flatMap groupKeys) :=
  (formGroups_grouped s k).reports

theorem formGroups_reg (s : State) (k : Nat) {i a : Nat} (hkey : regKey i a ∉ regKey 0xC000 5 :: (List.range 32).flatMap groupKeys) :
    (s.formGroups k).reg i a = s.reg i a := (formGroups_reports s k).regs _ hkey

/-! #### SERVO_PERIOD_TICK -/

/-- At a boundary with guard and keep-out off, nothing to plan and no check due, the groups are formed. -/
theorem servoBoundary_of_quiet {s : State} {b : Tick} (hguard : s.reg 0x5001 1 = 0) (hkeepout : 7 < s.reg 0x5002 1)
    (hcheck : s.nextCheck b = none) (hplan : ∀ h, h < 32 → s.planPoint h = none) : s.servoBoundary b = s.formGroups (b / s.servoTicks) := by
  have hrunning : s.runningChecks = s := if_pos hguard
  have hband : s.keepoutChecks = s := if_pos hkeepout
  have hplans : s.planHeads b = s := by
    refine List.foldlRecOn (motive := fun t : State => t = s) _ _ rfl fun t ht h hh => ?_
    rw [ht, planAhead_of_no_plan (hplan h (List.mem_range.1 hh))]
  have hentries : s.entryChecks b = s := by
    unfold State.entryChecks
    cases s.checkFuel with
    | zero => rfl
    | succ n => simp only [State.checksRun, hcheck]
  rw [State.servoBoundary, hrunning, hband, hplans, hentries]

/-- Without a recoater axis a MOTION message carries the newest report alone. -/
theorem motionFields_of_no_axis {s : State} (hkeepout : 7 < s.reg 0x5002 1) : s.motionFields = [0, ((s.motion.recoat.reported : Nat) : Int)] := by
  rw [State.motionFields, if_neg (show ¬s.reg 0x5002 1 < 8 by omega)]

theorem formGroups_runsMotion (s : State) (k : Nat) :
    (s.formGroups k).paired = s.paired ∧ (s.formGroups k).runsMotion = s.runsMotion := by
  have hpair : (s.formGroups k).paired = s.paired := by rw [State.paired, (formGroups_reports s k).twin, State.paired]
  have hown : (s.formGroups k).reg 0xD000 2 = s.reg 0xD000 2 := formGroups_reg s k (by decide)
  have hmotion : (s.formGroups k).reg 0xD000 3 = s.reg 0xD000 3 := formGroups_reg s k (by decide)
  exact ⟨hpair, by rw [State.runsMotion, hpair, hown, hmotion, State.runsMotion]⟩

theorem formGroups_motionFields {s : State} (hkeepout : 7 < s.reg 0x5002 1) (k : Nat) : (s.formGroups k).motionFields = s.motionFields := by
  have hreg : (s.formGroups k).reg 0x5002 1 = s.reg 0x5002 1 := formGroups_reg s k (by decide)
  rw [motionFields_of_no_axis hkeepout, motionFields_of_no_axis (by rw [hreg]; exact hkeepout), (formGroups_reports s k).motion]

/-- The message that tells the partner of the recoater is the last of those kept for a repeat. -/
theorem tellMotion_kept {s : State} (hpaired : s.paired = true) (hruns : s.runsMotion = true) (hlock : s.twin.linkLock = true) :
    s.tellMotion.twin.kept.getLast?.map (fun m => (m.kind, m.fields)) = some (0x0C, s.motionFields) := by
  simp [State.tellMotion, hpaired, hruns, State.twinSend, hlock, Twin.sending]

theorem tellMotion_reports (s : State) : s.ReportsBesideWork s.tellMotion [] := by
  unfold State.tellMotion
  split
  · exact besideWork_of_ReportsWith (Reports_twinSend _ _ _)
  · exact besideWork_refl s _

@[simp] theorem tellMotion_heads (s : State) : s.tellMotion.heads = s.heads := by
  unfold State.tellMotion
  split
  · simp
  · rfl

@[simp] theorem tellMotion_recorder (s : State) : s.tellMotion.recorder = s.recorder := by
  unfold State.tellMotion
  split
  · simp
  · rfl

theorem servoPeriodTick_takes_effect {s : State} (hseq : s.seqRuns = true) (hboundary : s.et % s.servoTicks = 0)
    (hguard : s.reg 0x5001 1 = 0) (hkeepout : 7 < s.reg 0x5002 1) (hcheck : s.nextCheck s.et = none)
    (hplan : ∀ h, h < 32 → s.planPoint h = none) :
    ∃ t, exec .servoPeriodTick s = .next t
      ∧ (∀ h, h < 32 → (s.head h).link.state = .operation →
        ((t.head h).path.setPoints.head?).map (fun x => x.k) = some (s.et / s.servoTicks))
      ∧ (∀ h, (s.head h).link.state ≠ .operation → t.head h = s.head h)
      ∧ (s.paired = true → s.runsMotion = true → s.twin.linkLock = true →
        t.twin.kept.getLast?.map (fun m => (m.kind, m.fields)) = some (0x0C, s.motionFields))
      ∧ t = { s with heads := t.heads, job := t.job, regs := t.regs, leaves := t.leaves, sessions := t.sessions, ownWaiting := t.ownWaiting
                     out := t.out, twin := t.twin } := by
  have hexec : exec .servoPeriodTick s = .next (s.formGroups (s.et / s.servoTicks)).tellMotion := by
    simp only [exec, execServoPeriodTick, hseq, hboundary, and_self, if_true, servoBoundary_of_quiet hguard hkeepout hcheck hplan]
  have hgroups := formGroups_grouped s (s.et / s.servoTicks)
  have htwin := (formGroups_reports s (s.et / s.servoTicks)).twin
  obtain ⟨hpair, hdrives⟩ := formGroups_runsMotion s (s.et / s.servoTicks)
  refine ⟨_, hexec, fun h hh hop => ?_, fun h hidle => ?_, fun hpaired hruns hlock => ?_, ?_⟩
  · rw [head_of_heads (tellMotion_heads _)]
    exact hgroups.formed h (List.mem_range.2 hh) hop
  · rw [head_of_heads (tellMotion_heads _)]
    exact hgroups.idle h hidle
  · rw [tellMotion_kept (by rw [hpair, hpaired]) (by rw [hdrives, hruns]) (by rw [htwin]; exact hlock), formGroups_motionFields hkeepout]
  · exact eq_of_besideWork (besideWork_trans (besideWork_mono (formGroups_reports s _) (List.Subset.refl _))
      (besideWork_mono (tellMotion_reports _) (List.nil_subset _))) (by simp)

/-- Settles O45: the barrier by the end of its head's list, the other commands by their own lemmas. -/
theorem headEventsComplete : Obligations.HeadEventsComplete := by
  refine ⟨fun s id b h g p hid hg hopen hheld hp hover => barrierRelease_at_list_end hid hg hopen hheld hp hover,
    fun s h b r e rest st hseq hnext hst hpassed hb hroom hnear hrows =>
      lineBufferWrite_takes_effect hseq hnext hst hpassed hb hroom hnear hrows,
    fun s h g p it hrole hcoming hhold hseg hg hp hit hmarks => ?_,
    fun s h a k r st v hrole hnot hplan hnext hst hahead hfresh hv hlast => ?_,
    fun s hseq hboundary hguard hkeepout hcheck hplan => servoPeriodTick_takes_effect hseq hboundary hguard hkeepout hcheck hplan⟩
  · obtain ⟨t, c, hexec, hc, horders⟩ := planDecision_orders_held hrole hcoming hhold ⟨hseg, hg, hp⟩ hit hmarks
    refine ⟨t, c, hexec, hc, horders.kept, fun hlock => ?_, horders.silent, horders.frame⟩
    rw [horders.tells hlock]
    cases c <;> rfl
  · obtain ⟨t, kind, hexec, hkind, horders⟩ := planDecision_orders_check hrole hnot hplan hnext hst hahead hfresh hv hlast
    exact ⟨t, kind, hexec, hkind, horders.kept, horders.tells, horders.silent, horders.frame⟩

end Sys2Proof.Machine

/-! ### Axes and gangs: what reads back after an update (R496, R497) -/

namespace Sys2Proof.Machine

/-! #### One axis -/

/-- An axis that differs from a fresh one is one of the list. -/
theorem axis_in_range {s : State} {m : Nat} (hne : s.axis m ≠ Axis.initial) : m < s.motion.axes.length := by
  by_contra hout
  exact hne (by rw [State.axis, List.getD_eq_default _ _ (Nat.le_of_not_lt hout)])

theorem axis_onAxis_self {s : State} {m : Nat} (hm : m < s.motion.axes.length) (f : Axis → Axis) : (s.onAxis m f).axis m = f (s.axis m) := by
  simp [State.onAxis, State.axis, List.getD_eq_getElem?_getD, hm]

theorem axis_onAxis_other (s : State) {m k : Nat} (hne : k ≠ m) (f : Axis → Axis) : (s.onAxis m f).axis k = s.axis k := by
  simp [State.onAxis, State.axis, List.getD_eq_getElem?_getD, hne.symm]

@[simp] theorem length_onAxis (s : State) (m : Nat) (f : Axis → Axis) : (s.onAxis m f).motion.axes.length = s.motion.axes.length := by
  simp [State.onAxis]

/-- What an update of one axis keeps of it, it keeps of every axis. -/
theorem axis_onAxis_keeps {P : Axis → Prop} {f : Axis → Axis} (hf : ∀ x, P x → P (f x)) {s : State} {k : Nat} (h : P (s.axis k)) (m : Nat) :
    P ((s.onAxis m f).axis k) := by
  by_cases hk : k = m
  · subst hk
    by_cases hlen : k < s.motion.axes.length
    · rw [axis_onAxis_self hlen]
      exact hf _ h
    · have hsame : s.motion.axes.modify k f = s.motion.axes := List.modify_eq_self (Nat.le_of_not_lt hlen)
      rw [State.axis, State.onAxis, hsame]
      exact h
  · rw [axis_onAxis_other s hk]
    exact h

/-- Of s only the axes have changed. -/
def State.AxesOnly (s t : State) : Prop := t = { s with motion := { s.motion with axes := t.motion.axes } }

theorem axesOnly_refl (s : State) : s.AxesOnly s := rfl

theorem axesOnly_trans {s t u : State} (h : s.AxesOnly t) (g : t.AxesOnly u) : s.AxesOnly u := by
  unfold State.AxesOnly at *
  rw [g, h]

theorem axesOnly_onAxis (s : State) (m : Nat) (f : Axis → Axis) : s.AxesOnly (s.onAxis m f) := rfl

/-! #### A gang -/

theorem mem_gang {s : State} {m k : Nat} : k ∈ s.gang m ↔ k < 8 ∧ (k = m ∨ s.leaderOf k = m) := by
  simp [State.gang]

theorem axesOnly_onGang (s : State) (m : Nat) (f : Axis → Axis) : s.AxesOnly (s.onGang m f) :=
  List.foldlRecOn (motive := fun t => s.AxesOnly t) _ _ rfl (fun t ht k _ => axesOnly_trans ht (axesOnly_onAxis t k f))

@[simp] theorem length_onGang (s : State) (m : Nat) (f : Axis → Axis) : (s.onGang m f).motion.axes.length = s.motion.axes.length :=
  List.foldlRecOn (motive := fun t : State => t.motion.axes.length = s.motion.axes.length) _ _ rfl
    (fun t ht k _ => (length_onAxis t k f).trans ht)

theorem axis_onGang_keeps {P : Axis → Prop} {f : Axis → Axis} (hf : ∀ x, P x → P (f x)) {s : State} {k : Nat} (h : P (s.axis k)) (m : Nat) :
    P ((s.onGang m f).axis k) :=
  List.foldlRecOn (motive := fun t : State => P (t.axis k)) _ _ h (fun _ ht j _ => axis_onAxis_keeps hf ht j)

theorem axis_foldl_onAxis_other {l : List Nat} {k : Nat} (hk : k ∉ l) (f : Axis → Axis) (s : State) :
    (l.foldl (fun t j => t.onAxis j f) s).axis k = s.axis k :=
  List.foldlRecOn (motive := fun t : State => t.axis k = s.axis k) _ _ rfl
    (fun t ht _ hj => (axis_onAxis_other t (ne_of_mem_of_not_mem hj hk).symm f).trans ht)

theorem axis_foldl_onAxis_mem {l : List Nat} (hnodup : l.Nodup) {k : Nat} (hk : k ∈ l) (f : Axis → Axis) {s : State}
    (hlen : k < s.motion.axes.length) : (l.foldl (fun t j => t.onAxis j f) s).axis k = f (s.axis k) := by
  induction l generalizing s with
  | nil => cases hk
  | cons j l ih =>
    obtain ⟨hj, hl⟩ := List.nodup_cons.1 hnodup
    rw [List.foldl_cons]
    rcases List.mem_cons.1 hk with rfl | hk
    · rw [axis_foldl_onAxis_other hj, axis_onAxis_self hlen]
    · rw [ih hl hk (by rw [length_onAxis]; exact hlen), axis_onAxis_other s (ne_of_mem_of_not_mem hk hj)]

theorem nodup_gang (s : State) (m : Nat) : (s.gang m).Nodup := List.nodup_range.filter _

theorem axis_onGang_mem {s : State} (hlen : s.motion.axes.length = 8) {m k : Nat} (hk : k ∈ s.gang m) (f : Axis → Axis) :
    (s.onGang m f).axis k = f (s.axis k) :=
  axis_foldl_onAxis_mem (nodup_gang s m) hk f (by rw [hlen]; exact (mem_gang.1 hk).1)

theorem axis_onGang_other {s : State} {m k : Nat} (hk : k ∉ s.gang m) (f : Axis → Axis) : (s.onGang m f).axis k = s.axis k :=
  axis_foldl_onAxis_other hk f s

end Sys2Proof.Machine

/-! ### Homing and limits (R498 to R502) -/

namespace Sys2Proof.Machine

/-! #### HOME_EDGE, QUALIFY_TIME_EXPIRY and CHATTER_WINDOW_EXPIRY (R500) -/

theorem homeEdge_makes_candidate {s : State} {m : Nat} {z : Homing} (hm : m < 8) (hlen : m < s.motion.axes.length)
    (hz : (s.axis m).homing = some z) (hlatch : z.latch = none) (hphase : z.phase = .search) :
    ∃ t, exec (.homeEdge m true) s = .next t ∧ t.axis m = { s.axis m with
        homeActive := true, homing := some { z with candidate := some ((s.axis m).position, s.axisCount m) } }
      ∧ (∀ k, k ≠ m → t.axis k = s.axis k) ∧ t = { s with motion := { s.motion with axes := t.motion.axes } } := by
  have hexec : exec (.homeEdge m true) s = .next ((s.onAxis m (fun x => { x with homeActive := true })).onAxis m (fun x =>
      x.onHoming (fun y => { y with candidate := some ((s.axis m).position, s.axisCount m) }))) := by
    simp only [exec, execHomeEdge, hm, if_true, State.homeEdge, hz, hlatch, hphase, Option.isSome_none]
    rfl
  refine ⟨_, hexec, ?_, fun k hk => ?_, rfl⟩
  · rw [axis_onAxis_self (by rw [length_onAxis]; exact hlen), axis_onAxis_self hlen]
    simp only [Axis.onHoming, hz, Option.map_some]
  · rw [axis_onAxis_other _ hk, axis_onAxis_other s hk]

theorem homeEdge_outside_homing {s : State} {m : Nat} (active : Bool) (hm : m < 8) (hlen : m < s.motion.axes.length)
    (hz : (s.axis m).homing = none) :
    ∃ t, exec (.homeEdge m active) s = .next t ∧ t.axis m = { s.axis m with homeActive := active }
      ∧ (∀ k, k ≠ m → t.axis k = s.axis k) ∧ t = { s with motion := { s.motion with axes := t.motion.axes } } := by
  have hexec : exec (.homeEdge m active) s = .next (s.onAxis m (fun x => { x with homeActive := active })) := by
    simp only [exec, execHomeEdge, hm, if_true, State.homeEdge, hz]
  exact ⟨_, hexec, axis_onAxis_self hlen _, fun k hk => axis_onAxis_other s hk _, rfl⟩

/-- An axis at a position whose homing has latched c, its chatter window open. -/
def Axis.Latched (position : Int) (c : Int × Int) (x : Axis) : Prop :=
  x.position = position ∧ ∃ y, x.homing = some y ∧ y.latch = some c ∧ y.candidate = none ∧ y.chatter = true

theorem Axis.Latched.onHoming {position : Int} {c : Int × Int} {x : Axis} (hx : x.Latched position c) {f : Homing → Homing}
    (hf : ∀ y, (f y).latch = y.latch ∧ (f y).candidate = y.candidate ∧ (f y).chatter = y.chatter) : (x.onHoming f).Latched position c := by
  obtain ⟨hpos, y, hy, hlatch, hcandidate, hchatter⟩ := hx
  obtain ⟨flatch, fcandidate, fchatter⟩ := hf y
  exact ⟨hpos, f y, by rw [Axis.onHoming, hy]; rfl, flatch.trans hlatch, fcandidate.trans hcandidate, fchatter.trans hchatter⟩

/-- Slowing a gang changes phases and the leader's ramp. -/
theorem slowHoming_keeps_latch {s : State} {m : Nat} {position : Int} {c : Int × Int} (h : (s.axis m).Latched position c) (l : Nat) :
    ((s.slowHoming l).axis m).Latched position c := by
  refine axis_onAxis_keeps (P := Axis.Latched position c) ?_ (axis_onGang_keeps (P := Axis.Latched position c) ?_ h l) l
  · exact fun _ hx => hx
  · exact fun _ hx => hx.onHoming (fun _ => ⟨rfl, rfl, rfl⟩)

theorem axesOnly_slowHoming (s : State) (l : Nat) : s.AxesOnly (s.slowHoming l) :=
  axesOnly_trans (axesOnly_onGang s l _) (axesOnly_onAxis _ _ _)

theorem qualifyTimeExpiry_latches {s : State} {m : Nat} {z : Homing} {c : Int × Int} (hm : m < 8) (hz : (s.axis m).homing = some z)
    (hphase : z.phase = .search) (hlatch : z.latch = none) (hc : z.candidate = some c) (hactive : (s.axis m).homeActive = true) :
    ∃ t, exec (.qualifyTimeExpiry m) s = .next t ∧ (t.axis m).Latched (s.axis m).position c ∧ s.AxesOnly t := by
  have hlen : m < s.motion.axes.length := axis_in_range (fun e => by rw [e] at hz; cases hz)
  let t := s.onAxis m (fun x => x.onHoming (fun y => { y with
    latch := y.candidate, candidate := none, chatter := true, parked := decide (1 < (s.gang (s.leaderOf m)).length) }))
  have hexec : exec (.qualifyTimeExpiry m) s
      = .next (if t.allLatched (s.leaderOf m) then t.slowHoming (s.leaderOf m) else t) := by
    simp only [exec, execQualifyTimeExpiry, hm, if_true, State.qualify, hz, hphase, hlatch, hc, hactive, Option.isSome_some, and_self]
    rfl
  have ht : (t.axis m).Latched (s.axis m).position c := by
    simp only [t, axis_onAxis_self hlen, Axis.onHoming, hz]
    exact ⟨rfl, _, rfl, hc, rfl, rfl⟩
  refine ⟨_, hexec, ?_, ?_⟩
  · split
    · exact slowHoming_keeps_latch ht _
    · exact ht
  · split
    · exact axesOnly_trans (axesOnly_onAxis s m _) (axesOnly_slowHoming t _)
    · exact axesOnly_onAxis s m _

theorem chatterWindowExpiry_closes {s : State} {m : Nat} {z : Homing} (hz : (s.axis m).homing = some z) :
    ∃ t, exec (.chatterWindowExpiry m) s = .next t
      ∧ t.axis m = { s.axis m with homing := some { z with chatter := false } } ∧ (∀ k, k ≠ m → t.axis k = s.axis k)
      ∧ t = { s with motion := { s.motion with axes := t.motion.axes } } := by
  refine ⟨_, rfl, ?_, fun k hk => axis_onAxis_other s hk _, rfl⟩
  rw [axis_onAxis_self (axis_in_range (fun e => by rw [e] at hz; cases hz))]
  simp only [Axis.onHoming, hz, Option.map_some]

/-! #### HOMING_COMPLETE (R500, R506) -/

/-- The position that an axis in homing has latched; 0 where it has none. -/
def Axis.latchRead (x : Axis) : Int := ((x.homing.bind (fun z => z.latch)).map (fun c => c.1)).getD 0

/-- An axis whose homing is complete. -/
def Axis.homedHere (x : Axis) : Axis := { x with state := .hold, homed := true, homing := none, ramp := none, running := true }

/-- One member of a gang as HOMING_COMPLETE leaves it. -/
def State.endHomingOf (s : State) (k : Nat) : State :=
  let u := (s.onAxis k Axis.homedHere).setReg (0x9040 + k) 5 (s.axis k).latchRead
  { u with motion := { u.motion with encoders := u.motion.encoders.modify (u.axisCfg k 19) (fun e => { e with indexPrev := none }) } }

theorem endHoming_eq (s : State) (l : Nat) : s.endHoming l = (s.gang l).foldl State.endHomingOf s := rfl

/-- What completing the homing of the axes of a list leaves. -/
structure State.HomingEnded (s t : State) (l : List Nat) : Prop where
  own : ∀ k ∈ l, t.axis k = (s.axis k).homedHere
  latch : ∀ k ∈ l, t.reg (0x9040 + k) 5 = (s.axis k).latchRead
  index : ∀ k ∈ l, (t.encoder (s.axisCfg k 19)).indexPrev = none
  cleared : ∀ e, (s.encoder e).indexPrev = none → (t.encoder e).indexPrev = none
  other : ∀ k, k ∉ l → t.axis k = s.axis k
  regs : s.KeepsRegs t (l.map (fun k => regKey (0x9040 + k) 5))
  length : t.motion.axes.length = s.motion.axes.length
  frame : t = { s with regs := t.regs, motion := { s.motion with axes := t.motion.axes, encoders := t.motion.encoders } }

/-- An encoder channel whose expected index count is cleared. -/
def Encoder.noIndex (e : Encoder) : Encoder := { e with indexPrev := none }

theorem encoder_onEncoder_other (s : State) {c e : Nat} (hne : e ≠ c) (f : Encoder → Encoder) : (s.onEncoder c f).encoder e = s.encoder e := by
  simp [State.onEncoder, State.encoder, List.getD_eq_getElem?_getD, hne.symm]

theorem indexPrev_onEncoder_self (s : State) (c : Nat) : ((s.onEncoder c Encoder.noIndex).encoder c).indexPrev = none := by
  simp only [State.onEncoder, State.encoder, List.getD_eq_getElem?_getD, List.getElem?_modify, if_true]
  cases s.motion.encoders[c]? <;> rfl

theorem endHomingOf_eq (s : State) (k : Nat) : s.endHomingOf k = ((s.onAxis k Axis.homedHere).setReg (0x9040 + k) 5
    (s.axis k).latchRead).onEncoder (((s.onAxis k Axis.homedHere).setReg (0x9040 + k) 5 (s.axis k).latchRead).axisCfg k 19) Encoder.noIndex :=
  rfl

/-- The latches read are no configuration of an axis. -/
theorem axisCfg_of_latches {s t : State} {l : List Nat} (hregs : s.KeepsRegs t (l.map (fun k => regKey (0x9040 + k) 5)))
    {k sub : Nat} (hk : k < 8) (hsub : sub < 256) : t.axisCfg k sub = s.axisCfg k sub := by
  refine congrArg Int.toNat (hregs (regKey (0x9000 + k) sub) fun hmem => ?_)
  obtain ⟨j, hj, hkey⟩ := List.mem_map.1 hmem
  have := regKey_inj (by decide) hsub hkey
  omega

theorem endHomingOf_ended {s : State} {k : Nat} (hk : k < s.motion.axes.length) (hk8 : k < 8) : s.HomingEnded (s.endHomingOf k) [k] := by
  have hregs : s.KeepsRegs (s.endHomingOf k) ([k].map (fun k => regKey (0x9040 + k) 5)) := KeepsRegs_setReg _ _ _ _ (by simp)
  have hcfg : ((s.onAxis k Axis.homedHere).setReg (0x9040 + k) 5 (s.axis k).latchRead).axisCfg k 19 = s.axisCfg k 19 :=
    axisCfg_of_latches (t := s.endHomingOf k) hregs hk8 (by decide)
  refine ⟨fun j hj => ?_, fun j hj => ?_, fun j hj => ?_, fun e he => ?_, fun j hj => ?_, hregs, ?_, rfl⟩
  · rw [List.mem_singleton.1 hj]
    exact axis_onAxis_self hk _
  · rw [List.mem_singleton.1 hj]
    exact regsGet_put_self _ _ _
  · rw [List.mem_singleton.1 hj, endHomingOf_eq, hcfg]
    exact indexPrev_onEncoder_self _ _
  · rw [endHomingOf_eq, hcfg]
    by_cases hek : e = s.axisCfg k 19
    · rw [hek]
      exact indexPrev_onEncoder_self _ _
    · rw [encoder_onEncoder_other _ hek]
      exact he
  · exact axis_onAxis_other s (by simpa using hj) _
  · exact length_onAxis s k _

theorem endHoming_ended {l : List Nat} (hnodup : l.Nodup) {s : State} (hlen : ∀ k ∈ l, k < s.motion.axes.length) (h8 : ∀ k ∈ l, k < 8) :
    s.HomingEnded (l.foldl State.endHomingOf s) l := by
  induction l generalizing s with
  | nil =>
    exact ⟨fun _ h => absurd h List.not_mem_nil, fun _ h => absurd h List.not_mem_nil, fun _ h => absurd h List.not_mem_nil,
      fun _ h => h, fun _ _ => rfl, KeepsRegs_refl s _, rfl, rfl⟩
  | cons a l ih =>
    obtain ⟨ha, hl⟩ := List.nodup_cons.1 hnodup
    have hone := endHomingOf_ended (hlen a List.mem_cons_self) (h8 a List.mem_cons_self)
    have hrest := ih hl (s := s.endHomingOf a) (fun k hk => by rw [hone.length]; exact hlen k (List.mem_cons_of_mem _ hk))
      (fun k hk => h8 k (List.mem_cons_of_mem _ hk))
    have houtside (k : Nat) (hk : k ∈ l) : (s.endHomingOf a).axis k = s.axis k := hone.other k (by simpa using ne_of_mem_of_not_mem hk ha)
    rw [List.foldl_cons]
    refine ⟨fun k hk => ?_, fun k hk => ?_, fun k hk => ?_, fun e he => hrest.cleared e (hone.cleared e he), fun k hk => ?_, ?_,
      hrest.length.trans hone.length, ?_⟩
    · rcases List.mem_cons.1 hk with rfl | hk
      · rw [hrest.other k ha, hone.own k List.mem_cons_self]
      · rw [hrest.own k hk, houtside k hk]
    · rcases List.mem_cons.1 hk with rfl | hk
      · have hkept : (l.foldl State.endHomingOf (s.endHomingOf k)).reg (0x9040 + k) 5 = (s.endHomingOf k).reg (0x9040 + k) 5 := by
          refine hrest.regs _ fun hmem => ?_
          obtain ⟨j, hj, hkey⟩ := List.mem_map.1 hmem
          have := (regKey_inj (by decide) (by decide) hkey).1
          exact ha ((show j = k by omega) ▸ hj)
        rw [hkept, hone.latch k List.mem_cons_self]
      · rw [hrest.latch k hk, houtside k hk]
    · rcases List.mem_cons.1 hk with rfl | hk
      · exact hrest.cleared _ (hone.index k List.mem_cons_self)
      · rw [← axisCfg_of_latches hone.regs (h8 k (List.mem_cons_of_mem _ hk)) (by decide)]
        exact hrest.index k hk
    · rw [hrest.other k (List.not_mem_of_not_mem_cons hk), hone.other k (by simpa using List.ne_of_not_mem_cons hk)]
    · exact KeepsRegs_trans (KeepsRegs_mono hone.regs (by simp)) (KeepsRegs_mono hrest.regs (by simp))
    · rw [hrest.frame, hone.frame]

theorem homingComplete_homes {s : State} {m : Nat} {z : Homing} {r : Ramp} (hlen : s.motion.axes.length = 8)
    (hstate : (s.axis m).state = .homing) (hz : (s.axis m).homing = some z) (hphase : z.phase = .park) (hramp : (s.axis m).ramp = some r)
    (hdone : r.total ≤ r.done) : ∃ t, exec (.homingComplete m) s = .next t ∧ s.HomingEnded t (s.gang m) := by
  have hexec : exec (.homingComplete m) s = .next (s.endHoming m) := by
    simp [exec, execHomingComplete, hstate, hz, hphase, Axis.atRest, hramp, hdone]
  refine ⟨_, hexec, ?_⟩
  rw [endHoming_eq]
  exact endHoming_ended (nodup_gang s m) (fun k hk => by rw [hlen]; exact (mem_gang.1 hk).1) (fun k hk => (mem_gang.1 hk).1)

/-! #### LIMIT_TRIP and LIMIT_RELEASE (R499) -/

theorem limitTrip_at_rest {s : State} {m : Nat} (hm : m < 8) (hlen : m < s.motion.axes.length)
    (hrest : (s.axis (s.leaderOf m)).busy = false) (hturn : s.turn 10 = true) :
    ∃ t, exec (.limitTrip m) s = .next t
      ∧ t.axis m = { s.axis m with limitActive := true, limitSide := s.limitSideOf m } ∧ (∀ k, k ≠ m → t.axis k = s.axis k)
      ∧ (leafAt t.leaves (0x24A0 + m) 0).isSome = true
      ∧ ({ s with motion := { s.motion with axes := t.motion.axes } } : State).Reports t := by
  let u := s.onAxis m (fun x => { x with limitActive := true, limitSide := s.limitSideOf m })
  have hhoming : (s.axis (s.leaderOf m)).state ≠ .homing := by
    intro h
    simp [Axis.busy, h] at hrest
  have hmoving : ¬((s.limitSideOf m).isSome = true ∧ s.limitSideOf m = s.movingTo (s.leaderOf m)
      ∧ ((s.axis (s.leaderOf m)).state = .moving ∨ (s.axis (s.leaderOf m)).state = .stopping)) := by
    rintro ⟨-, -, h | h⟩ <;> simp [Axis.busy, h] at hrest
  have hexec : exec (.limitTrip m) s = .next (u.setLeaf (0x24A0 + m) 0) := by
    simp only [exec, execLimitTrip, inTurn_in_turn (c := .limitTrip m) _ hturn, hm, if_true, State.limitTrip, if_neg hhoming, if_neg hmoving]
    rfl
  have haxis (k : Nat) : (u.setLeaf (0x24A0 + m) 0).axis k = u.axis k := by rw [State.axis, (Reports_setLeaf u _ _).motion, State.axis]
  refine ⟨_, hexec, ?_, fun k hk => ?_, leafAt_setLeaf_self _ _ _, ?_⟩
  · rw [haxis, axis_onAxis_self hlen]
  · rw [haxis, axis_onAxis_other s hk]
  · rw [(Reports_setLeaf u _ _).motion]
    exact Reports_setLeaf u _ _

/-- An axis whose limit is released. -/
def Axis.limitReleased (x : Axis) : Axis := { x with limitActive := false, limitSide := none }

/-- An axis that a limit held goes back to HOLD. -/
def Axis.leaveLimit (x : Axis) : Axis := if x.state = .limit then { x with state := .hold } else x

theorem exec_limitRelease (s : State) (m : Nat) : exec (.limitRelease m) s = .next (if (s.axis m).state = .limit then
    (s.onAxis m Axis.limitReleased).onGang (s.leaderOf m) Axis.leaveLimit else s.onAxis m Axis.limitReleased) := rfl

theorem limitRelease_outside_limit {s : State} {m : Nat} (hlen : m < s.motion.axes.length) (hstate : (s.axis m).state ≠ .limit) :
    ∃ t, exec (.limitRelease m) s = .next t ∧ t.axis m = { s.axis m with limitActive := false, limitSide := none }
      ∧ (∀ k, k ≠ m → t.axis k = s.axis k) ∧ t = { s with motion := { s.motion with axes := t.motion.axes } } := by
  refine ⟨s.onAxis m Axis.limitReleased, ?_, axis_onAxis_self hlen _, fun k hk => axis_onAxis_other s hk _, rfl⟩
  rw [exec_limitRelease, if_neg hstate]

theorem limitRelease_from_limit {s : State} {m : Nat} (hm : m < 8) (hlen : s.motion.axes.length = 8) (hstate : (s.axis m).state = .limit) :
    ∃ t, exec (.limitRelease m) s = .next t ∧ (t.axis m).limitActive = false ∧ (t.axis m).state = .hold
      ∧ (∀ k, k ≠ m → k ∈ s.gang (s.leaderOf m) → (s.axis k).state = .limit → t.axis k = { s.axis k with state := .hold })
      ∧ (∀ k, k ≠ m → k ∉ s.gang (s.leaderOf m) → t.axis k = s.axis k) ∧ t = { s with motion := { s.motion with axes := t.motion.axes } } := by
  have hlen' : (s.onAxis m Axis.limitReleased).motion.axes.length = 8 := by rw [length_onAxis, hlen]
  have hmember : m ∈ (s.onAxis m Axis.limitReleased).gang (s.leaderOf m) := mem_gang.2 ⟨hm, .inr rfl⟩
  have hown : ((s.onAxis m Axis.limitReleased).onGang (s.leaderOf m) Axis.leaveLimit).axis m = (s.axis m).limitReleased.leaveLimit := by
    rw [axis_onGang_mem hlen' hmember, axis_onAxis_self (by rw [hlen]; exact hm)]
  have hleaves : (s.axis m).limitReleased.leaveLimit = { (s.axis m).limitReleased with state := .hold } := if_pos hstate
  refine ⟨_, by rw [exec_limitRelease, if_pos hstate], by rw [hown, hleaves]; rfl, by rw [hown, hleaves], fun k hk hmem hlimit => ?_,
    fun k hk hmem => ?_, axesOnly_trans (axesOnly_onAxis s m _) (axesOnly_onGang _ _ _)⟩
  · rw [axis_onGang_mem hlen' (by exact hmem), axis_onAxis_other s hk]
    exact if_pos hlimit
  · rw [axis_onGang_other (by exact hmem), axis_onAxis_other s hk]

/-! #### RECOAT_START and MANUAL_REPORT (R512, R515) -/

/-- An accepted access of a command in its turn is what it does, answered. -/
theorem accepted_in_turn {s : State} {p : Path} {refusal : Option Abort} (h : s.Takes p refusal) {c : Instr} (hrank : c.rank = pathRank p)
    (done : State) (data : List Byte) : s.inTurnOf p c (s.access p refusal done data) = done.answer p 0 data := by
  rw [inTurnOf_in_turn _ (by rw [hrank]; exact h.turn), State.access, if_pos h.served, h.accepted]
  rfl

theorem startMove_axes {s : State} {m : Nat} (hlen : s.motion.axes.length = 8) (hm : m < 8) (d : Int) (speed : Nat) :
    (∀ k ∈ s.gang m, ((s.startMove m d speed).axis k).state = .moving)
      ∧ ((s.startMove m d speed).axis m).ramp.map (fun r => r.total) = some d.natAbs := by
  unfold State.startMove
  refine ⟨fun k hk => axis_onAxis_keeps (P := fun x => x.state = .moving) ?_ ?_ m, ?_⟩
  · exact fun _ hx => hx
  · rw [axis_onGang_mem hlen hk]
  · rw [axis_onAxis_self (by rw [length_onGang, hlen]; exact hm)]
    rfl

theorem axesOnly_startMove (s : State) (m : Nat) (d : Int) (speed : Nat) : s.AxesOnly (s.startMove m d speed) :=
  axesOnly_trans (axesOnly_onGang s m _) (axesOnly_onAxis _ _ _)

/-- The state of the recoat program as RECOAT_START sets it: no report is in force, and its first step is due. -/
def State.recoatBegun (s : State) (layer : Nat) : State :=
  { s with motion := { s.motion with recoat := { s.motion.recoat with state := .before, layer := layer, step := 0, valid := false } } }

theorem startRecoat_moves {s : State} {layer : Nat} {x : RecoatStep} {rest : List RecoatStep}
    (hsteps : recoatSteps (s.blob 0x9080 1) = x :: rest) (hmove : s.moveResult x.axis (s.moveBy x.axis x.relative x.target) x.speed = 0) :
    s.startRecoat layer = (s.recoatBegun layer).startMove x.axis (s.moveBy x.axis x.relative x.target) x.speed := by
  have hfirst : (recoatSteps ((s.recoatBegun layer).blob 0x9080 1))[0]? = some x := congrArg (fun l => l[0]?) hsteps
  have hmove' : (s.recoatBegun layer).moveResult x.axis ((s.recoatBegun layer).moveBy x.axis x.relative x.target) x.speed = 0 := hmove
  show (s.recoatBegun layer).startRecoatStep 0 = _
  simp only [State.startRecoatStep, hfirst, hmove', if_true]
  rfl

theorem recoatStart_moves {s : State} {p : Path} {layer : Nat} {x : RecoatStep} {rest : List RecoatStep}
    (htakes : s.Takes p (orElse (s.writeGate p 0x9080 2) (orElse (numberTest 0x9080 2 (leBytes 4 layer))
      (refuseIf (!s.recoatAllowed layer) .conditions))))
    (hlen : s.motion.axes.length = 8) (hsteps : recoatSteps (s.blob 0x9080 1) = x :: rest)
    (hmove : s.moveResult x.axis (s.moveBy x.axis x.relative x.target) x.speed = 0) (haxis : x.axis < 8) :
    ∃ t, exec (.recoatStart p layer) s = .next t
      ∧ t.motion.recoat = { s.motion.recoat with state := .before, layer := layer, step := 0, valid := false }
      ∧ (∀ k ∈ s.gang x.axis, (t.axis k).state = .moving)
      ∧ ((t.axis x.axis).ramp.map (fun r => r.total)) = some (s.moveBy x.axis x.relative x.target).natAbs
      ∧ t = { s with
        motion := { s.motion with axes := t.motion.axes, recoat := t.motion.recoat }
        out := s.out ++ [.answer p 0 []] } := by
  have hexec : exec (.recoatStart p layer) s = .next (((s.recoatBegun layer).startMove x.axis (s.moveBy x.axis x.relative x.target)
      x.speed).answer p 0 []) := by
    simp only [exec, execRecoatStart, accepted_in_turn htakes (c := .recoatStart p layer) (rank_of_path rfl), startRecoat_moves hsteps hmove]
  obtain ⟨hmoving, htotal⟩ := startMove_axes (s := s.recoatBegun layer) hlen haxis (s.moveBy x.axis x.relative x.target) x.speed
  have honly := axesOnly_startMove (s.recoatBegun layer) x.axis (s.moveBy x.axis x.relative x.target) x.speed
  refine ⟨_, hexec, ?_, hmoving, htotal, ?_⟩
  · rw [honly]; rfl
  · rw [honly]; rfl

/-- With no segment of a lower layer ADMITTED or STAGED a report cancels none. -/
theorem cancelBelow_of_none {s : State} {layer : Nat}
    (hnone : ∀ g ∈ s.job.segments, g.layer < layer → g.state ≠ .admitted ∧ g.state ≠ .staged) : s.cancelBelow layer = s := by
  have hempty : s.job.segments.filter (fun g => decide (g.layer < layer) && (g.state == .admitted || g.state == .staged)) = [] := by
    refine List.filter_eq_nil_iff.2 fun g hg => ?_
    by_cases hlayer : g.layer < layer
    · simp [hnone g hg hlayer]
    · simp [hlayer]
  rw [State.cancelBelow, hempty]
  rfl

theorem manualReport_reports {s : State} {p : Path} {layer : Nat}
    (htakes : s.Takes p (orElse (s.writeGate p 0x9080 3) (orElse (numberTest 0x9080 3 (leBytes 4 layer))
      (refuseIf (!(s.recoatFree && decide (s.motion.recoat.reported ≤ layer))) .conditions))))
    (hnone : ∀ g ∈ s.job.segments, g.layer < layer → g.state ≠ .admitted ∧ g.state ≠ .staged) :
    ∃ t, exec (.manualReport p layer) s = .next t
      ∧ t.motion.recoat = { s.motion.recoat with reported := layer, valid := true, reportEt := s.et }
      ∧ (leafAt t.leaves 0x210B 24).isSome = true ∧ t.out.getLast? = some (.answer p 0 [])
      ∧ ({ s with motion := { s.motion with recoat := t.motion.recoat } } : State).Reports t := by
  let u : State := { s with motion := { s.motion with recoat := { s.motion.recoat with reported := layer, valid := true, reportEt := s.et } } }
  have hreports := Reports_setLeaf u 0x210B 24
  have hreport : s.reportRecoat layer = u.setLeaf 0x210B 24 := cancelBelow_of_none (by rw [hreports.job]; exact hnone)
  have hexec : exec (.manualReport p layer) s = .next ((u.setLeaf 0x210B 24).answer p 0 []) := by
    simp only [exec, execManualReport, accepted_in_turn htakes (c := .manualReport p layer) (rank_of_path rfl), hreport]
  have hrecoat : ((u.setLeaf 0x210B 24).answer p 0 []).motion.recoat = u.motion.recoat := congrArg Motion.recoat hreports.motion
  refine ⟨_, hexec, hrecoat, leafAt_setLeaf_self u _ _, by simp [State.answer], ?_⟩
  rw [hrecoat]
  exact Reports_trans hreports (Reports_answer _ _ _ _)

/-- Settles O56: the search, the limits and the recoat program each by their own lemma. -/
theorem homingAndLimitsComplete : Obligations.HomingAndLimitsComplete := by
  refine ⟨fun s m z hm hlen hz hlatch hphase => homeEdge_makes_candidate hm hlen hz hlatch hphase,
    fun s m active hm hlen hz => homeEdge_outside_homing active hm hlen hz,
    fun s m z c hm hz hphase hlatch hc hactive => ?_,
    fun s m z hz => chatterWindowExpiry_closes hz,
    fun s m z r hlen hstate hz hphase hramp hdone => ?_,
    fun s m hm hlen hrest hturn => limitTrip_at_rest hm hlen hrest hturn,
    fun s m hlen hstate => limitRelease_outside_limit hlen hstate,
    fun s m hm hlen hstate => limitRelease_from_limit hm hlen hstate,
    fun s p layer x rest htakes hlen hsteps hmove haxis => recoatStart_moves htakes hlen hsteps hmove haxis,
    fun s p layer htakes hnone => manualReport_reports htakes hnone⟩
  · obtain ⟨t, hexec, ⟨hpos, y, hy, hlatched, hcandidate, hchatter⟩, honly⟩ :=
      qualifyTimeExpiry_latches hm hz hphase hlatch hc hactive
    exact ⟨t, y, hexec, hy, hlatched, hcandidate, hchatter, hpos, honly⟩
  · obtain ⟨t, hexec, hended⟩ := homingComplete_homes hlen hstate hz hphase hramp hdone
    refine ⟨t, hexec, fun k hk => ?_, hended.latch, hended.other, hended.regs, hended.frame⟩
    rw [hended.own k hk]
    exact ⟨rfl, rfl, rfl, rfl, rfl, hended.index k hk⟩

end Sys2Proof.Machine

/-! ### Segments of the job (R79, R86, R119): what reads back when one is released, ends or frees its bytes -/

namespace Sys2Proof.Machine

/-! #### Parts of the job -/

theorem seg?_of_segments {s t : State} (h : t.job.segments = s.job.segments) (key : Nat) : t.seg? key = s.seg? key := by
  rw [State.seg?, h, State.seg?]

/-- A segment read back after an update that keeps its key. -/
theorem seg?_onSeg_known {s : State} {key : Nat} {g : Segment} {f : Segment → Segment} (hg : s.seg? key = some g)
    (hf : ∀ y, (f y).key = y.key) : (s.onSeg key f).seg? key = some (f g) := by rw [seg?_onSeg_self s key hf, hg]; rfl

theorem besideJob_onSeg (s : State) (key : Nat) (f : Segment → Segment) (ks : List Nat) : s.ReportsBesideJob (s.onSeg key f) ks :=
  { ReportsWith_refl s ks with job := rfl }

/-- Where the memory is as it was, the job alone goes beside the reports. -/
theorem reportsBeside_job {s t : State} {ks : List Nat} (h : s.ReportsBesideJob t ks) (hdram : t.dram = s.dram) :
    ({ s with job := t.job } : State).ReportsWith t ks := { h with dram := hdram }

end Sys2Proof.Machine

/-! ### The slack of a promise (R102, R104, R105, R109) -/

namespace Sys2Proof.Machine

/-- The head whose predicted end sets the slack of a segment, and that end (R101, R106). -/
def State.lastEnd (s : State) (g : Segment) : HeadNo × Tick := latestEnd (s.predictedEnds (s.endsBefore g.admitNo) g)

theorem slackOf_eq (s : State) (g : Segment) : s.slackOf g = (g.promise : Int) - (s.lastEnd g).2 := rfl

/-- The slack of a segment kept. -/
def State.keepSlack (s : State) (g : Segment) : State :=
  s.onSeg g.key (fun x => { x with slack := (x.promise : Int) - (s.lastEnd g).2 })

theorem seg?_keepSlack_self {s : State} {g : Segment} (hg : s.seg? g.key = some g) :
    (s.keepSlack g).seg? g.key = some { g with slack := s.slackOf g } :=
  seg?_onSeg_known hg (by intro; rfl)

theorem seg?_keepSlack_other (s : State) (g : Segment) {k : Nat} (hk : k ≠ g.key) : (s.keepSlack g).seg? k = s.seg? k :=
  seg?_onSeg_other s hk (fun _ => rfl)

/-- An evaluation keeps the slack, and below 0 the promise breaks with cause 0x00. -/
theorem evaluate_eq {s : State} {g : Segment} (hg : s.seg? g.key = some g) (hno : g.admitNo ≠ 0) (hopen : g.unfinished = true) :
    s.evaluate g.key = if s.slackOf g < 0 then (s.keepSlack g).breakPromise g.key 0 (s.lastEnd g).1 (s.itemNamed g (s.lastEnd g).1)
        (s.charged g (s.lastEnd g).1)
      else s.keepSlack g := by
  have hlow : s.slackOf g < 0 ↔ (g.promise : Int) < (s.lastEnd g).2 := by rw [slackOf_eq]; omega
  simp only [State.evaluate, hg, hno, hopen, hlow]
  rfl

theorem unfinished_of_unfinishedBy {s : State} {id : Nat} {g : Segment} (h : s.unfinishedBy id = some g) : g.unfinished = true := by
  have hfound := List.find?_some h
  simp only [Bool.and_eq_true] at hfound
  exact hfound.2

/-! #### A break recorded (R104, R105) -/

section
variable (s : State) (g : Segment) (cause head item detail : Nat)

theorem recordBreak_job : (s.recordBreak g cause head item detail).job = (s.onSeg g.key (fun x => { x with broke := some cause })).job := by
  simp [State.recordBreak]

theorem recordBreak_seg?_self {y : Segment} (hy : s.seg? g.key = some y) :
    (s.recordBreak g cause head item detail).seg? g.key = some { y with broke := some cause } :=
  (seg?_of_job (recordBreak_job s g cause head item detail) _).trans (seg?_onSeg_known hy (by intro; rfl))

theorem recordBreak_seg?_other {k : Nat} (hk : k ≠ g.key) : (s.recordBreak g cause head item detail).seg? k = s.seg? k :=
  (seg?_of_job (recordBreak_job s g cause head item detail) _).trans (seg?_onSeg_other s hk (by intro; rfl))

theorem recordBreak_leaf : (leafAt (s.recordBreak g cause head item detail).leaves 0x2101 0).isSome = true := by
  simp only [State.recordBreak, frame_jobMessage]
  exact leafAt_record_of_leafAt (leafAt_setLeaf_self _ _ _) _ _

/-- After the count of broken promises the break only reports. -/
theorem recordBreak_reports : ((s.onSeg g.key (fun x => { x with broke := some cause })).bump 0x3012 8).Reports
    (s.recordBreak g cause head item detail) :=
  Reports_trans (Reports_trans (Reports_setLeaf _ _ _) (Reports_record _ _ _)) (Reports_jobMessage _ _ _)

theorem recordBreak_count : (s.recordBreak g cause head item detail).reg 0x3012 8
    = counterNext (regKey 0x3012 8) (s.reg 0x3012 8) 1 :=
  ((recordBreak_reports s g cause head item detail).regs (regKey 0x3012 8) (by decide)).trans (reg_bump_self _ _ _)

theorem recordBreak_besideJob : s.ReportsBesideJob (s.recordBreak g cause head item detail) [regKey 0x3012 8] :=
  besideJob_trans (besideJob_onSeg s _ _ _) (besideJob_of_ReportsWith
    (ReportsWith_trans (ReportsWith_bump _ _ _ List.mem_cons_self) (ReportsWith_of_Reports _ (recordBreak_reports s g cause head item detail))))

end

/-- With cancellation after a break off, a promise that can still break breaks alone. -/
theorem breakPromise_alone {s : State} {key : Nat} {g : Segment} (hg : s.seg? key = some g) (hmay : g.mayBreak = true)
    (hoff : s.reg 0x3010 10 = 0) (cause head item detail : Nat) :
    s.breakPromise key cause head item detail = s.recordBreak g cause head item detail := by
  simp [State.breakPromise, hg, hmay, hoff]

/-! #### SLACK_EVALUATION and SLACK_REPORT -/

theorem slackEvaluation_keeps {s : State} {id : Nat} {g : Segment} (hid : s.unfinishedBy id = some g) (hg : s.seg? g.key = some g)
    (hno : g.admitNo ≠ 0) (hslack : 0 ≤ s.slackOf g) : exec (.slackEvaluation id) s = .next (s.keepSlack g) := by
  simp only [exec, execSlackEvaluation, hid, evaluate_eq hg hno (unfinished_of_unfinishedBy hid), if_neg (Int.not_lt.2 hslack)]

theorem slackEvaluation_breaks {s : State} {id : Nat} {g : Segment} (hid : s.unfinishedBy id = some g) (hg : s.seg? g.key = some g)
    (hno : g.admitNo ≠ 0) (hslack : s.slackOf g < 0) (hmay : g.mayBreak = true) (hoff : s.reg 0x3010 10 = 0) :
    ∃ head item detail, exec (.slackEvaluation id) s
      = .next ((s.keepSlack g).recordBreak { g with slack := s.slackOf g } 0 head item detail) := by
  refine ⟨(s.lastEnd g).1, s.itemNamed g (s.lastEnd g).1, s.charged g (s.lastEnd g).1, ?_⟩
  simp only [exec, execSlackEvaluation, hid, evaluate_eq hg hno (unfinished_of_unfinishedBy hid), if_pos hslack]
  rw [breakPromise_alone (s := s.keepSlack g) (seg?_keepSlack_self hg) hmay hoff]

/-- Settles O47: an evaluation keeps the slack and below 0 records the break; a report is one message per running segment. -/
theorem slackCommandsComplete : Obligations.SlackCommandsComplete := by
  refine ⟨fun s id g hid hg hno => ⟨fun hslack => ?_, fun hslack hmay hoff => ?_⟩, fun s hon => ?_⟩
  · exact ⟨s.keepSlack g, slackEvaluation_keeps hid hg hno hslack, seg?_keepSlack_self hg, fun k hk => seg?_keepSlack_other s g hk, rfl⟩
  · obtain ⟨head, item, detail, hexec⟩ := slackEvaluation_breaks hid hg hno hslack hmay hoff
    let y : Segment := { g with slack := s.slackOf g }
    have hbeside := besideJob_trans (besideJob_onSeg s g.key _ _) (recordBreak_besideJob (s.keepSlack g) y 0 head item detail)
    refine ⟨_, hexec, recordBreak_seg?_self _ y 0 head item detail (seg?_keepSlack_self (g := g) hg), recordBreak_leaf _ y 0 head item detail,
      recordBreak_count _ y 0 head item detail, fun k hk => ?_, reportsBeside_job hbeside (by simp [State.keepSlack])⟩
    rw [recordBreak_seg?_other _ y 0 head item detail hk, seg?_keepSlack_other s g hk]
  · have hexec : exec .slackReport s
        = .next ((s.job.segments.filter (fun g => g.state == .running)).foldl (fun t g => t.progress g 5 0 0 0) s) := by
      simp only [exec, execSlackReport, if_neg hon]
    refine ⟨_, hexec, Reports_foldl (fun t g => Reports_publish t _ _ _ _) _ s, fun g hone => ?_⟩
    rw [hone, List.foldl_cons, List.foldl_nil]

end Sys2Proof.Machine

/-! ### The end of a segment (R79, R86, R109, R113, R116, R119, R362) -/

namespace Sys2Proof.Machine

/-! #### Freed bytes -/

theorem grant_job (s : State) : s.grant.job = { s.job with unsentGrant := s.grant.job.unsentGrant } := by
  unfold State.grant
  split
  · rfl
  · simp

theorem grant_besideJob (s : State) : s.ReportsBesideJob s.grant [regKey 0x3012 5] := by
  unfold State.grant
  split
  · exact besideJob_of_ReportsWith (ReportsWith_refl _ _)
  · refine besideJob_trans (t := { s with job := { s.job with unsentGrant := 0 } }) { ReportsWith_refl _ _ with } ?_
    exact besideJob_of_ReportsWith (ReportsWith_trans (ReportsWith_setReg _ _ _ _ List.mem_cons_self)
      (ReportsWith_of_Reports _ (Reports_jobMessage _ _ _)))

/-- Freed bytes move the two counts of the job that stand for them. -/
theorem free_job (s : State) (n : Nat) : (s.free n).job =
    { s.job with freedRemainder := (s.free n).job.freedRemainder, unsentGrant := (s.free n).job.unsentGrant } := by
  simp only [State.free]
  split
  · rw [grant_job]
  · rfl

theorem free_besideJob (s : State) (n : Nat) : s.ReportsBesideJob (s.free n) [regKey 0x3012 5] := by
  have hcount (j : Job) : s.ReportsBesideJob { s with job := j } [regKey 0x3012 5] := { ReportsWith_refl _ _ with }
  simp only [State.free]
  split
  · exact besideJob_trans (hcount _) (grant_besideJob _)
  · exact hcount _

theorem free_segments (s : State) (n : Nat) : (s.free n).job.segments = s.job.segments := by rw [free_job]

theorem free_history (s : State) (n : Nat) : (s.free n).job.history = s.job.history := by rw [free_job]

theorem free_ledgerLog (s : State) (n : Nat) : (s.free n).job.ledgerLog = s.job.ledgerLog := by rw [free_job]

/-- A job that remembers an entry has it newest in its history, and differs in nothing else. -/
theorem remember_eq (j : Job) (e : SegHistory) : ∃ h, j.remember e = { j with history := h } ∧ h.getLast? = some e := by
  have hshort : j.history.length + 1 - 4096 ≤ j.history.length := by omega
  refine ⟨_, rfl, ?_⟩
  rw [List.drop_append_of_le_length hshort, List.getLast?_append]
  rfl

/-! #### A slot released -/

theorem seg?_release_self (s : State) (key : Nat) : (s.release key).seg? key = none := by
  simp [State.release, State.seg?]

theorem seg?_release_other (s : State) {key k : Nat} (hk : k ≠ key) : (s.release key).seg? k = s.seg? k := by
  refine find_filter _ _ _ fun g hg => ?_
  rw [beq_iff_eq] at hg
  simpa [hg] using hk

theorem besideJob_release (s : State) (key : Nat) (ks : List Nat) : s.ReportsBesideJob (s.release key) ks :=
  { ReportsWith_refl s ks with job := rfl }

/-! #### A final state (R109, R113, R119) -/

theorem acceptWrites_eq {α : Type} (area : Nat) (datum : α → Nat) (data : α → List Byte) (l : List α) (s : State) :
    ∃ d, l.foldl (fun t x => t.acceptWrite area (datum x) (data x)) s = { s with dram := d } := by
  induction l generalizing s with
  | nil => exact ⟨s.dram, rfl⟩
  | cons x l ih =>
    obtain ⟨d, hd⟩ := acceptWrite_eq s area (datum x) (data x)
    rw [List.foldl_cons, hd]
    exact ih _

/-- The ledger log takes the books of each head; the lines it writes reach the memory and nothing else. -/
theorem logLedger_eq {s : State} {key : Nat} {y : Segment} (hy : s.seg? key = some y) : ∃ d, s.logLedger key = { s with
    job := { s.job with ledgerLog := s.job.ledgerLog ++ y.heads.map (fun p => (y.id, p.head, p.books)) }, dram := d } := by
  simp only [State.logLedger, hy]
  exact acceptWrites_eq 2 (fun p : SegHead => y.key * 32 + p.head) (fun p => p.books.flatMap Tally.bytes) y.heads _

/-- What a final state makes of a segment. -/
def Segment.endedIn (y : Segment) (state : SegState) (et : Tick) : Segment := { y with state := state, finalEt := et }

/-- A segment in a final state, its books in the ledger log. -/
def State.ended (s : State) (g : Segment) (state : SegState) : State :=
  (s.logLedger g.key).onSeg g.key (fun y => y.endedIn state s.et)

/-- A state with the history, the versions and the head summaries given. -/
def State.noted (t : State) (h : List SegHistory) (vs : List ParamVersion) (ms : List (Nat × HeadNo × List Int × Nat)) : State :=
  { t with job := { t.job with history := h, params := vs }, dram := { t.dram with summaries := ms } }

/-- A final state: the segment ended, its entry the newest of the history, none of its head summaries left, and its bytes freed. -/
theorem finalise_eq (s : State) (g : Segment) (state : SegState) : ∃ h vs ms,
    s.finalise g state = ((s.ended g state).noted h vs ms).free (4 * g.words.length) ∧ h.getLast? = some (g.entry state)
      ∧ ∀ x ∈ ms, x.1 ≠ g.key := by
  obtain ⟨h, hremember, hlast⟩ := remember_eq (s.ended g state).job (g.entry state)
  refine ⟨h, keptVersions (s.ended g state).job.params (s.ended g state).job.segments,
    (s.ended g state).dram.summaries.filter (fun x => decide (x.1 ≠ g.key)), ?_, hlast, fun x hx => ?_⟩
  · have hshape : s.finalise g state = ({ s.ended g state with
        job := { (s.ended g state).job.remember (g.entry state) with
          params := keptVersions (s.ended g state).job.params (s.ended g state).job.segments }
        dram := { (s.ended g state).dram with
          summaries := (s.ended g state).dram.summaries.filter (fun x => decide (x.1 ≠ g.key)) } } : State).free
        (4 * g.words.length) := rfl
    rw [hshape, hremember]
    rfl
  · exact of_decide_eq_true (List.mem_filter.1 hx).2

section
variable {s : State} {g y : Segment} (hy : s.seg? g.key = some y) (state : SegState)
include hy

theorem finalise_seg?_self : (s.finalise g state).seg? g.key = some (y.endedIn state s.et) := by
  obtain ⟨d, hd⟩ := logLedger_eq hy
  have hlogged : (s.logLedger g.key).seg? g.key = some y := (seg?_of_segments (by rw [hd]) _).trans hy
  obtain ⟨h, vs, ms, hfinal, -, -⟩ := finalise_eq s g state
  rw [hfinal, seg?_of_segments (free_segments _ _)]
  exact seg?_onSeg_known hlogged (by intro; rfl)

theorem finalise_seg?_other {k : Nat} (hk : k ≠ g.key) : (s.finalise g state).seg? k = s.seg? k := by
  obtain ⟨d, hd⟩ := logLedger_eq hy
  have hlogged : (s.logLedger g.key).seg? k = s.seg? k := seg?_of_segments (by rw [hd]) _
  obtain ⟨h, vs, ms, hfinal, -, -⟩ := finalise_eq s g state
  rw [hfinal, seg?_of_segments (free_segments _ _)]
  exact (seg?_onSeg_other _ hk (by intro; rfl)).trans hlogged

theorem finalise_ledgerLog : (s.finalise g state).job.ledgerLog
    = s.job.ledgerLog ++ y.heads.map (fun p => (y.id, p.head, p.books)) := by
  obtain ⟨h, vs, ms, hfinal, -, -⟩ := finalise_eq s g state
  obtain ⟨d, hd⟩ := logLedger_eq hy
  rw [hfinal, free_ledgerLog, State.ended, hd]
  rfl

theorem finalise_besideJob : s.ReportsBesideJob (s.finalise g state) [regKey 0x3012 5] := by
  obtain ⟨d, hd⟩ := logLedger_eq hy
  obtain ⟨h, vs, ms, hfinal, -, -⟩ := finalise_eq s g state
  have hnoted : s.ReportsBesideJob ((s.ended g state).noted h vs ms) [regKey 0x3012 5] := by
    rw [State.ended, hd]
    exact { ReportsWith_refl _ _ with }
  rw [hfinal]
  exact besideJob_trans hnoted (free_besideJob _ _)

end

theorem finalise_history (s : State) (g : Segment) (state : SegState) :
    (s.finalise g state).job.history.getLast? = some (g.entry state) := by
  obtain ⟨h, vs, ms, hfinal, hlast, -⟩ := finalise_eq s g state
  rw [hfinal, free_history]
  exact hlast

theorem finalise_summaries (s : State) (g : Segment) (state : SegState) : ∀ x ∈ (s.finalise g state).dram.summaries, x.1 ≠ g.key := by
  obtain ⟨h, vs, ms, hfinal, -, hnone⟩ := finalise_eq s g state
  have hdram : (s.finalise g state).dram = ((s.ended g state).noted h vs ms).dram := by rw [hfinal]; simp
  rw [hdram]
  exact hnone

/-! #### SEGMENT_CLOSE and CLOSE_MESSAGE_SEND outside a pair -/

theorem twinLead_of_solo {s : State} (h : s.twin.role = .solo) (kind : Nat) (fields : List Int) : s.twinLead kind fields = s := by
  simp [State.twinLead, Twin.leads, h]

theorem ownDigest_of_solo {s : State} (h : s.twin.role = .solo) (g : Segment) (state : SegState) : s.ownDigest g state = s := by
  simp [State.ownDigest, h]

theorem segmentClose_finalises {s : State} {id : Nat} {g : Segment}
    (hid : s.job.segments.find? (fun g => g.id == id && g.state == .running && g.allDone) = some g) (hg : s.seg? g.key = some g)
    (hbal : g.balances = true) (hsolo : s.twin.role = .solo) : exec (.segmentClose id) s = .next (s.finalise g g.ownEnd) := by
  have hrole : (s.finalise g g.ownEnd).twin.role = .solo := (role_of_standing (finalise_standing _ _ _)).trans hsolo
  simp only [exec, execSegmentClose, hid, State.closeSegment, hg, ownDigest_of_solo hrole, hbal, if_true]

theorem onHead_of_fixed {s : State} {f : Head → Head} (hf : ∀ x ∈ s.heads, f x = x) (h : HeadNo) : s.onHead h f = s := by
  have hheads : s.heads.modify h f = s.heads := by
    refine List.ext_getElem? fun k => ?_
    by_cases hk : k = h
    · subst hk
      rcases hx : s.heads[k]? with _ | x
      · simp [hx]
      · simp [hx, hf x (List.mem_of_getElem? hx)]
    · simp [Ne.symm hk]
  rw [State.onHead, hheads]

/-- A head without open records has none to close. -/
theorem closeRecords_of_empty {s : State} (hnone : ∀ x ∈ s.heads, x.path.records = []) (h : HeadNo) (et : Tick) (p : DefectRecord → Bool) :
    s.closeRecords h et p = s := by
  have hempty : (s.head h).path.records = [] := by
    rw [State.head, List.getD_eq_getElem?_getD]
    rcases hx : s.heads[h]? with _ | x
    · rfl
    · exact hnone x (List.mem_of_getElem? hx)
  have hsame : s.onPath h (fun y => { y with records := y.records.filter (fun r => !p r) }) = s := by
    refine onHead_of_fixed (fun x hx => ?_) h
    have hfilter : x.path.records.filter (fun r => !p r) = x.path.records := by rw [hnone x hx]; rfl
    simp only [hfilter]
  simp only [State.closeRecords, hempty, hsame, List.filter_nil, List.foldl_nil]

theorem sendClose_of_solo {s : State} {g : Segment} (hg : s.seg? g.key = some g) (hnone : ∀ x ∈ s.heads, x.path.records = [])
    (hsolo : s.twin.role = .solo) : s.sendClose g.key = if g.balances then (s.jobMessage 0x35 g.closeBytes).release g.key
      else ((s.jobMessage 0x35 g.closeBytes).release g.key).faultCause 0x34 := by
  have hclosed (l : List HeadNo) : l.foldl (fun (t : State) h => t.closeRecords h t.et (fun r => r.seg == g.key)) s = s := by
    induction l with
    | nil => rfl
    | cons h l ih => rw [List.foldl_cons, closeRecords_of_empty hnone, ih]
  simp only [State.sendClose, hg, hclosed, ownDigest_of_solo hsolo, ite_self]

theorem closeMessageSend_sends {s : State} {id : Nat} {g : Segment}
    (hid : s.job.segments.find? (fun g => g.id == id && g.awaitsClose) = some g) (hg : s.seg? g.key = some g)
    (hrep : s.unreported g.key = false) (hnone : ∀ x ∈ s.heads, x.path.records = []) (hsolo : s.twin.role = .solo) :
    exec (.closeMessageSend id) s = .next (if g.balances then (s.jobMessage 0x35 g.closeBytes).release g.key
      else ((s.jobMessage 0x35 g.closeBytes).release g.key).faultCause 0x34) := by
  simp [exec, execCloseMessageSend, hid, hrep, sendClose_of_solo hg hnone hsolo]

/-! #### A defect record written (R114, R116) -/

theorem writeDefect_unnamed {s : State} {r : DefectRecord} (h : s.nameOf r.seg = none) : s.writeDefect r = s := by
  simp only [State.writeDefect, h]

/-- A record written of a named segment: its bytes the last of the defect log, its number used, and one record more of its segment. -/
theorem writeDefect_job {s : State} {r : DefectRecord} {id layer : Nat} (h : s.nameOf r.seg = some (id, layer)) :
    (s.writeDefect r).job = { (s.onSeg r.seg (fun x => { x with defects := x.defects + 1 })).job with
      nextDefect := (s.job.nextDefect + 1) % 2 ^ 32, defectLog := s.job.defectLog ++ [r.bytes id layer s.job.nextDefect] } := by
  simp only [State.writeDefect, h, frame_publish, frame_acceptWrite, frame_bump]
  rfl

/-! #### The segments a job lists: what ends a part changes none of their keys -/

def State.segKeys (s : State) : List Nat := s.job.segments.map (fun g => g.key)

theorem mem_segKeys {s : State} {key : Nat} : key ∈ s.segKeys ↔ ∃ y, s.seg? key = some y := by
  rw [← Option.isSome_iff_exists]
  simp [State.segKeys, State.seg?, List.find?_isSome]

theorem segKeys_of_job {s t : State} (h : t.job = s.job) : t.segKeys = s.segKeys := by rw [State.segKeys, h, State.segKeys]

theorem onSeg_segKeys (s : State) (key : Nat) {f : Segment → Segment} (hf : ∀ y, (f y).key = y.key) :
    (s.onSeg key f).segKeys = s.segKeys := by
  simp only [State.segKeys, State.onSeg, List.map_map]
  refine List.map_congr_left fun y _ => ?_
  by_cases hy : y.key = key <;> simp [hy, hf]

@[simp] theorem onPath_segKeys (s : State) (h : HeadNo) (f : HeadPath → HeadPath) : (s.onPath h f).segKeys = s.segKeys := rfl

theorem foldl_segKeys {α : Type} {f : State → α → State} (h : ∀ t a, (f t a).segKeys = t.segKeys) (l : List α) (s : State) :
    (l.foldl f s).segKeys = s.segKeys := foldl_keeps State.segKeys h l s

@[simp] theorem bookAll_segKeys (s : State) (key : Nat) (h : HeadNo) (ts : List Tally) : (s.bookAll key h ts).segKeys = s.segKeys :=
  onSeg_segKeys s key (fun y => key_onPart y h _)

@[simp] theorem bookCut_segKeys (s : State) (h : HeadNo) (x : HeadPath) (w : Nat × Nat) : (s.bookCut h x w).segKeys = s.segKeys :=
  bookAll_segKeys _ _ _ _

@[simp] theorem writeDefect_segKeys (s : State) (r : DefectRecord) : (s.writeDefect r).segKeys = s.segKeys := by
  rcases hname : s.nameOf r.seg with _ | ⟨id, layer⟩
  · rw [writeDefect_unnamed hname]
  · have hlisted : (s.writeDefect r).segKeys = (s.onSeg r.seg (fun x => { x with defects := x.defects + 1 })).segKeys := by
      simp only [State.segKeys, writeDefect_job hname]
    rw [hlisted]
    exact onSeg_segKeys s _ (by intro; rfl)

@[simp] theorem closeRecords_segKeys (s : State) (h : HeadNo) (et : Tick) (p : DefectRecord → Bool) :
    (s.closeRecords h et p).segKeys = s.segKeys := foldl_segKeys (fun t _ => writeDefect_segKeys t _) _ _

@[simp] theorem reachAhead_segKeys (s : State) (h : HeadNo) : (s.reachAhead h).segKeys = s.segKeys :=
  foldl_segKeys (fun t _ => onSeg_segKeys t _ (fun y => key_onPart y h _)) _ _

@[simp] theorem abandonRest_segKeys (s : State) (g : Segment) (h : HeadNo) (cause detail : Nat) :
    (s.abandonRest g h cause detail).segKeys = s.segKeys := by
  unfold State.abandonRest
  extract_lets es t at_
  have ht : t.segKeys = s.segKeys := (onSeg_segKeys _ _ (fun y => key_onPart y h _)).trans (bookAll_segKeys _ _ _ _)
  split
  · rw [writeDefect_segKeys, ht]
  · exact ht

@[simp] theorem abandonPart_segKeys (s : State) (g : Segment) (cause detail : Nat) (h : HeadNo) :
    (s.abandonPart g cause detail h).segKeys = s.segKeys := by
  unfold State.abandonPart
  extract_lets x done mine t u stand v
  have ht : t.segKeys = s.segKeys := by simp only [t, closeRecords_segKeys, reachAhead_segKeys]
  have hu : u.segKeys = s.segKeys := by
    rw [← ht]
    exact foldl_segKeys (fun w a => bookCut_segKeys w h x a) mine t
  have hv : v.segKeys = s.segKeys := by
    rw [← hu]
    exact foldl_segKeys (fun w a => foldl_segKeys writeDefect_segKeys _ w) mine u
  split
  · exact hv
  · rw [abandonRest_segKeys, hv]

/-! #### CANCEL_ID (R80, R119) -/

/-- The state in which a cancellation ends a segment that is not SUBMITTED. -/
def Segment.cancelEnd (g : Segment) : SegState := if g.state = .running ∧ g.allDone = true then g.ownEnd else .cancelled

/-- What was not executed of a segment abandoned on each of its heads. -/
def State.abandonAll (s : State) (g : Segment) (cause detail : Nat) : State :=
  (g.heads.map (fun p => p.head)).foldl (fun u h => u.abandonPart g cause detail h) s

@[simp] theorem abandonAll_clk (s : State) (g : Segment) (cause detail : Nat) : (s.abandonAll g cause detail).clk = s.clk := by
  simp [State.abandonAll]

@[simp] theorem abandonAll_segKeys (s : State) (g : Segment) (cause detail : Nat) : (s.abandonAll g cause detail).segKeys = s.segKeys :=
  foldl_segKeys (fun u h => abandonPart_segKeys u g cause detail h) _ s

theorem cancel_eq {s : State} {g : Segment} (hg : s.seg? g.key = some g) (hopen : g.unfinished = true) (hplan : g.state ≠ .submitted)
    (cause detail : Nat) : s.cancel cause detail g.key = if g.state = .running ∧ g.allDone = true then s.finalise g g.ownEnd
      else (s.abandonAll g cause detail).finalise g .cancelled := by
  simp [State.cancel, hg, hopen, hplan, State.abandonAll]

/-- A cancelled segment reaches its final state at the present ET. -/
theorem cancel_ends {s : State} {g : Segment} (hg : s.seg? g.key = some g) (hopen : g.unfinished = true) (hplan : g.state ≠ .submitted)
    (cause detail : Nat) : ((s.cancel cause detail g.key).seg? g.key).map (fun x => (x.state, x.finalEt)) = some (g.cancelEnd, s.et) := by
  rw [cancel_eq hg hopen hplan]
  unfold Segment.cancelEnd
  split
  · rw [finalise_seg?_self hg]
    rfl
  · obtain ⟨y, hy⟩ : ∃ y, (s.abandonAll g cause detail).seg? g.key = some y := by
      rw [← mem_segKeys, abandonAll_segKeys, mem_segKeys]
      exact ⟨g, hg⟩
    rw [finalise_seg?_self hy, State.et, abandonAll_clk]
    rfl

/-- An accepted CANCEL_ID does its work, tells a PRIMARY's partner and is answered. -/
theorem cancelId_accepted {s : State} {p : Path} (htakes : s.Takes p (s.writeGate p 0x3011 1)) (id : Nat) :
    exec (.cancelId p id) s = .next (((s.cancelId id).mirror 0x3011 1 (leBytes 4 id)).answer p 0 []) := by
  simp only [exec, execCancelId, accepted_in_turn htakes (c := .cancelId p id) (rank_of_path rfl)]

/-- What a PRIMARY tells its partner of a write is a report. -/
theorem Reports_mirror (s : State) (index sub : Nat) (data : List Byte) : s.Reports (s.mirror index sub data) := by
  unfold State.mirror
  split
  · exact Reports_twinLead _ _ _
  · exact Reports_refl s

theorem cancelId_ends {s : State} {p : Path} {id : Nat} {g : Segment} (htakes : s.Takes p (s.writeGate p 0x3011 1))
    (hid : s.unfinishedBy id = some g) (hg : s.seg? g.key = some g) (hplan : g.state ≠ .submitted) :
    ∃ t, exec (.cancelId p id) s = .next t ∧ (t.seg? g.key).map (fun x => (x.state, x.finalEt)) = some (g.cancelEnd, s.et)
      ∧ t.reg 0x3011 2 = 0 ∧ t.out.getLast? = some (.answer p 0 []) ∧ t.dev = s.dev := by
  have hdone : s.cancelId id = (s.cancel 0x0B 1 g.key).setReg 0x3011 2 0 := by simp only [State.cancelId, hid]
  have hreports := Reports_trans (Reports_mirror (s.cancelId id) 0x3011 1 (leBytes 4 id)) (Reports_answer _ p 0 [])
  refine ⟨_, cancelId_accepted htakes id, ?_, ?_, by simp [State.answer], ?_⟩
  · rw [seg?_of_job hreports.job, hdone, seg?_of_job rfl]
    exact cancel_ends hg (unfinished_of_unfinishedBy hid) hplan 0x0B 1
  · refine (hreports.regs (regKey 0x3011 2) (by decide)).trans ?_
    rw [hdone]
    exact reg_setReg_self _ _ _ _
  · rw [hreports.dev, hdone]
    simp

theorem cancelId_unknown {s : State} {p : Path} {id : Nat} (htakes : s.Takes p (s.writeGate p 0x3011 1))
    (hid : s.unfinishedBy id = none) : ∃ t, exec (.cancelId p id) s = .next t
      ∧ t.reg 0x3011 2 = (if s.job.history.any (fun e => e.id == id) = true then 2 else 1) ∧ t.out.getLast? = some (.answer p 0 [])
      ∧ s.ReportsWith t [regKey 0x3011 2] := by
  have hdone : s.cancelId id = s.setReg 0x3011 2 (if s.job.history.any (fun e => e.id == id) = true then 2 else 1) := by
    simp only [State.cancelId, hid]
  have hreports := Reports_trans (Reports_mirror (s.cancelId id) 0x3011 1 (leBytes 4 id)) (Reports_answer _ p 0 [])
  refine ⟨_, cancelId_accepted htakes id, ?_, by simp [State.answer], ?_⟩
  · refine (hreports.regs (regKey 0x3011 2) (by decide)).trans ?_
    rw [hdone]
    exact reg_setReg_self _ _ _ _
  · rw [hdone] at hreports ⊢
    exact ReportsWith_trans (ReportsWith_setReg s _ _ _ List.mem_cons_self) (ReportsWith_of_Reports _ hreports)

/-! #### DEFECT_RECORD_SPLIT (R116) -/

/-- A path whose full record of a cause goes on in what follows it. -/
def HeadPath.goesOn (x : HeadPath) (c : Nat) (r : DefectRecord) : HeadPath :=
  { x with records := x.records.filter (fun q => !q.full c x.bookedTo) ++ r.onward x }

/-- The one full record of a head written as far as its 65,536 frames go, with what goes on of it open. -/
theorem splitRecords_one {s : State} {h c : Nat} {r : DefectRecord} (hone : (s.head h).path.records = [r]) (hlit : r.withheld = false)
    (hwrites : r.empty = false) (hfull : r.full c (s.head h).path.bookedTo = true) :
    s.splitRecords h c = (s.onPath h (fun x => x.goesOn c r)).writeDefect (r.closed (s.head h) (lastOfRecord r.etStart)) := by
  simp [State.splitRecords, HeadPath.goesOn, hone, hfull, hwrites, hlit]

/-- A record written counts once more in 0x3012:09. -/
theorem writeDefect_count {s : State} {r : DefectRecord} {id layer : Nat} (h : s.nameOf r.seg = some (id, layer)) :
    (s.writeDefect r).reg 0x3012 9 = counterNext (regKey 0x3012 9) (s.reg 0x3012 9) 1 := by
  have hregs : (s.writeDefect r).regs = (s.bump 0x3012 9).regs := by
    simp only [State.writeDefect, h, frame_publish, frame_acceptWrite]
    rfl
  rw [State.reg, hregs]
  exact reg_bump_self s 0x3012 9

theorem defectRecordSplit_continues {s : State} {h c : Nat} {r : DefectRecord} {g : Segment} (hh : h < s.heads.length)
    (hone : (s.head h).path.records = [r]) (hlit : r.withheld = false) (hwrites : r.empty = false)
    (hfull : r.full c (s.head h).path.bookedTo = true) (hg : s.seg? r.seg = some g) :
    ∃ t, exec (.defectRecordSplit h c) s = .next t ∧ (t.head h).path.records = r.onward (s.head h).path
      ∧ t.job.defectLog = s.job.defectLog ++ [(r.closed (s.head h) (lastOfRecord r.etStart)).bytes g.id g.layer s.job.nextDefect]
      ∧ t.reg 0x3012 9 = counterNext (regKey 0x3012 9) (s.reg 0x3012 9) 1 ∧ (∀ k, k ≠ h → t.head k = s.head k)
      ∧ ({ s with heads := t.heads, job := t.job, dram := t.dram } : State).ReportsWith t [regKey 0x3012 9] := by
  let u := s.onPath h (fun x => x.goesOn c r)
  have hseg : (r.closed (s.head h) (lastOfRecord r.etStart)).seg = r.seg := by simp [DefectRecord.closed, hlit]
  have hname : u.nameOf (r.closed (s.head h) (lastOfRecord r.etStart)).seg = some (g.id, g.layer) := by
    rw [hseg, State.nameOf, seg?_onPath, hg]
  have hbeside := writeDefect_besideJob u (r.closed (s.head h) (lastOfRecord r.etStart))
  have hheads (k : Nat) : (u.writeDefect (r.closed (s.head h) (lastOfRecord r.etStart))).head k = u.head k :=
    head_of_heads hbeside.heads k
  refine ⟨_, congrArg Host.Outcome.next (splitRecords_one hone hlit hwrites hfull), ?_, ?_, writeDefect_count hname, fun k hk => ?_,
    { hbeside with heads := rfl }⟩
  · rw [hheads, path_onPath_self hh]
    simp [HeadPath.goesOn, hone, hfull]
  · rw [writeDefect_job hname]
    rfl
  · rw [hheads, head_onPath_other hk]

/-! #### SEGMENT_DECISION outside a pair (R60, R78, R86, R92, R108, R119) -/

theorem segmentDecision_settles {s : State} {g : Segment} (hsolo : s.twin.role = .solo) (hup : s.ringUp = true)
    (hnext : s.nextSubmitted = some g) :
    ∃ fields, exec .segmentDecision s = .next ((s.settleSegment g (s.judgeSegment g s.et s.dramLatency)).twinLead 0x03 fields) := by
  let outcome := outcomeOf (s.judgeSegment g s.et s.dramLatency)
  refine ⟨[(g.seq : Int), g.id, outcome.1, outcome.2], ?_⟩
  simp only [exec, execSegmentDecision, hsolo, hup, hnext, State.leadDecision, twinLead_of_solo hsolo]
  rfl

theorem acceptLine_eq (s : State) (address : Nat) (data : List Byte) : ∃ d, s.acceptLine address data = { s with dram := d } := by
  unfold State.acceptLine
  split
  · exact ⟨_, rfl⟩
  · exact ⟨s.dram, rfl⟩

/-- Head summaries written reach the memory and nothing else. -/
theorem writeSummaries_eq (xs : List (Nat × HeadNo × List Int × Nat)) (s : State) : ∃ d, s.writeSummaries xs = { s with dram := d } := by
  unfold State.writeSummaries
  induction xs generalizing s with
  | nil => exact ⟨s.dram, rfl⟩
  | cons x xs ih =>
    have hboth : ∃ d, s.acceptBoth 1 (x.1 * 32 + x.2.1) (x.2.2.1.flatMap (leBytesInt 8)) = { s with dram := d } := by
      unfold State.acceptBoth
      extract_lets base
      obtain ⟨d, hd⟩ := acceptLine_eq s base (x.2.2.1.flatMap (leBytesInt 8))
      rw [hd]
      exact acceptLine_eq { s with dram := d } _ _
    obtain ⟨d, hd⟩ := hboth
    rw [List.foldl_cons, hd]
    exact ih _

/-- The job with a segment admitted: the set store, the order of admission and the tails. -/
def State.admittedJob (s : State) (g : Segment) (a : Admission) : Job :=
  let t := s.onSeg g.key (fun x => x.admitted a s.job.nextAdmit)
  { t.job with
    params := a.made.store, nextVersion := a.made.next, paramWrites := countWrites a.made.items t.job.paramWrites
    nextAdmit := t.job.nextAdmit + 1, tails := s.tailsAfter g a.made.items }

/-- An admission writes the job and the memory, draws the slot, and reports. -/
theorem admitSegment_reports (s : State) (g : Segment) (a : Admission) :
    ∃ d, ({ s with job := s.admittedJob g a, dram := d, fresh := s.fresh + 1 } : State).Reports (s.admitSegment g a) := by
  obtain ⟨d, hd⟩ := writeSummaries_eq (s.summariesOf g a.made.items) { s with
    job := s.admittedJob g a
    dram := { s.dram with summaries := s.dram.summaries ++ s.summariesOf g a.made.items }
    fresh := s.fresh + 1 }
  let v : State := { s with job := s.admittedJob g a, dram := d, fresh := s.fresh + 1 }
  have hshape : s.admitSegment g a = (if v.slotsFree = v.regN 0x3010 7 then v.setLeaf 0x2101 3 else v).jobMessage 0x31
      (a.bytes g (Config.freeNat s.fresh % 4096)) := by
    simp only [v, ← hd]
    rfl
  rw [hshape]
  refine ⟨d, Reports_trans ?_ (Reports_jobMessage _ _ _)⟩
  split
  · exact Reports_setLeaf _ _ _
  · exact Reports_refl _

theorem segmentDecision_admits {s : State} {g : Segment} {a : Admission} (hsolo : s.twin.role = .solo) (hup : s.ringUp = true)
    (hnext : s.nextSubmitted = some g) (hg : s.seg? g.key = some g) (hjudged : s.judgeSegment g s.et s.dramLatency = .ok a) :
    ∃ t, exec .segmentDecision s = .next t
      ∧ t.seg? g.key = some (g.admitted a s.job.nextAdmit) ∧ t.job.params = a.made.store ∧ t.job.nextAdmit = s.job.nextAdmit + 1
      ∧ (∀ k, k ≠ g.key → t.seg? k = s.seg? k) ∧ t.dev = s.dev ∧ t.fresh = s.fresh + 1
      ∧ ({ s with job := t.job, dram := t.dram, fresh := t.fresh } : State).Reports t := by
  obtain ⟨fields, hexec⟩ := segmentDecision_settles hsolo hup hnext
  rw [hjudged, State.settleSegment] at hexec
  obtain ⟨d, hadmitted⟩ := admitSegment_reports s g a
  have hreports := Reports_trans hadmitted (Reports_twinLead (s.admitSegment g a) 0x03 fields)
  have hjob : ((s.admitSegment g a).twinLead 0x03 fields).job = s.admittedJob g a := hreports.job
  have hdram : ((s.admitSegment g a).twinLead 0x03 fields).dram = d := hreports.dram
  have hfresh : ((s.admitSegment g a).twinLead 0x03 fields).fresh = s.fresh + 1 := hreports.fresh
  have hsegments : ((s.admitSegment g a).twinLead 0x03 fields).job.segments
      = (s.onSeg g.key (fun x => x.admitted a s.job.nextAdmit)).job.segments := by rw [hjob, State.admittedJob]
  refine ⟨_, hexec, ?_, by rw [hjob]; rfl, by rw [hjob]; rfl, fun k hk => ?_, hreports.dev,
    hfresh, by rw [hjob, hdram, hfresh]; exact hreports⟩
  · exact (seg?_of_segments hsegments _).trans (seg?_onSeg_known hg (by intro; rfl))
  · exact (seg?_of_segments hsegments _).trans (seg?_onSeg_other s hk (by intro; rfl))

/-- The stored numbers of a validation refusal (R78). -/
def failureKeys : List Nat := [regKey 0x3002 1, regKey 0x3002 2, regKey 0x3002 3, regKey 0x3002 4, regKey 0x3002 5]

theorem noteFailure_reports (s : State) (g : Segment) (r : Refused) : s.ReportsWith (s.noteFailure g r) failureKeys := by
  unfold State.noteFailure
  split
  · refine ReportsWith_trans ?_ (ReportsWith_bump _ _ _ (by simp [failureKeys]))
    refine ReportsWith_trans ?_ (ReportsWith_setReg _ 0x3002 4 _ (by simp [failureKeys]))
    refine ReportsWith_trans ?_ (ReportsWith_setReg _ 0x3002 3 _ (by simp [failureKeys]))
    refine ReportsWith_trans ?_ (ReportsWith_setReg _ 0x3002 2 _ (by simp [failureKeys]))
    exact ReportsWith_setReg s 0x3002 1 _ (by simp [failureKeys])
  · exact ReportsWith_refl s _

/-- The state in which a refusal is reported: the slot released, the history with its entry, and the bytes freed. -/
def State.refusedAs (s : State) (g : Segment) (r : Refused) (h : List SegHistory) : State :=
  let t := (s.noteFailure g r).release g.key
  ({ t with job := { t.job with history := h } } : State).free (4 * g.words.length)

theorem refuse_eq (s : State) (g : Segment) (r : Refused) : ∃ h, h.getLast? = some (g.entry .refused) ∧ s.refuse g r =
    ((s.refusedAs g r h).setLeaf 0x2101 1).jobMessage 0x32 (refuseBytes g.id g.seq r.code r.item r.promise) := by
  obtain ⟨h, hremember, hlast⟩ := remember_eq ((s.noteFailure g r).release g.key).job (g.entry .refused)
  refine ⟨h, hlast, ?_⟩
  unfold State.refuse State.refusedAs
  dsimp only
  rw [hremember]

theorem refusedAs_besideJob (s : State) (g : Segment) (r : Refused) (h : List SegHistory) :
    s.ReportsBesideJob (s.refusedAs g r h) (failureKeys ++ [regKey 0x3012 5]) := by
  have hnoted : s.ReportsBesideJob ((s.noteFailure g r).release g.key) (failureKeys ++ [regKey 0x3012 5]) :=
    besideJob_trans (besideJob_of_ReportsWith (ReportsWith_mono (noteFailure_reports s g r) (List.subset_append_left _ _)))
      (besideJob_release _ _ _)
  refine besideJob_trans (besideJob_trans hnoted ?_) (ReportsWith_mono (free_besideJob _ _) (List.subset_append_right _ _))
  exact { ReportsWith_refl _ _ with }

theorem refusedAs_segments (s : State) (g : Segment) (r : Refused) (h : List SegHistory) :
    (s.refusedAs g r h).job.segments = (s.release g.key).job.segments := by
  have hjob : (s.noteFailure g r).job = s.job := (noteFailure_reports s g r).job
  rw [State.refusedAs, free_segments]
  simp only [State.release, hjob]

theorem segmentDecision_refuses {s : State} {g : Segment} {r : Refused} (hsolo : s.twin.role = .solo) (hup : s.ringUp = true)
    (hnext : s.nextSubmitted = some g) (hjudged : s.judgeSegment g s.et s.dramLatency = .error r) :
    ∃ t, exec .segmentDecision s = .next t
      ∧ t.seg? g.key = none ∧ t.job.history.getLast? = some (g.entry .refused) ∧ (∀ k, k ≠ g.key → t.seg? k = s.seg? k)
      ∧ (leafAt t.leaves 0x2101 1).isSome = true
      ∧ ({ s with job := t.job } : State).ReportsWith t (failureKeys ++ [regKey 0x3012 5]) := by
  obtain ⟨fields, hexec⟩ := segmentDecision_settles hsolo hup hnext
  obtain ⟨h, hlast, hrefuse⟩ := refuse_eq s g r
  rw [hjudged, State.settleSegment, hrefuse] at hexec
  have hreports := Reports_trans (Reports_trans (Reports_setLeaf (s.refusedAs g r h) 0x2101 1)
    (Reports_jobMessage _ 0x32 (refuseBytes g.id g.seq r.code r.item r.promise))) (Reports_twinLead _ 0x03 fields)
  have hsegments := (congrArg Job.segments hreports.job).trans (refusedAs_segments s g r h)
  refine ⟨_, hexec, ?_, ?_, fun k hk => ?_, ?_, reportsBeside_job
    (besideJob_trans (refusedAs_besideJob s g r h) (besideJob_of_ReportsWith (ReportsWith_of_Reports _ hreports))) ?_⟩
  · exact (seg?_of_segments hsegments _).trans (seg?_release_self s g.key)
  · rw [hreports.job, State.refusedAs, free_history]
    exact hlast
  · exact (seg?_of_segments hsegments _).trans (seg?_release_other s hk)
  · simp only [frame_twinLead, frame_jobMessage]
    exact leafAt_setLeaf_self _ _ _
  · rw [hreports.dram]
    simp [State.refusedAs]

/-- Settles O46: the decision by its judgement, an end by the final state of its segment, the split by the record it writes. -/
theorem segmentEndComplete : Obligations.SegmentEndComplete := by
  refine ⟨fun s g hsolo hup hnext hg => ⟨fun a hjudged => segmentDecision_admits hsolo hup hnext hg hjudged,
      fun r hjudged => segmentDecision_refuses hsolo hup hnext hjudged⟩,
    fun s id g hid hg hbal hsolo => ?_, fun s id g hid hg hrep hnone hsolo => ?_,
    fun s p id htakes => ⟨fun g hid hg hplan => cancelId_ends htakes hid hg hplan, fun hid => cancelId_unknown htakes hid⟩,
    fun s h c r g hh hone hlit hwrites hfull hg => defectRecordSplit_continues hh hone hlit hwrites hfull hg⟩
  · refine ⟨_, segmentClose_finalises hid hg hbal hsolo, ?_, finalise_history s g _, finalise_ledgerLog hg _, finalise_summaries s g _,
      fun k hk => finalise_seg?_other hg _ hk, finalise_besideJob hg _⟩
    rw [finalise_seg?_self hg]
    rfl
  · have hsends := closeMessageSend_sends hid hg hrep hnone hsolo
    refine ⟨fun hbal => ?_, fun hbal => by simpa [hbal] using hsends⟩
    have hjob : (s.jobMessage 0x35 g.closeBytes).job = s.job := by simp
    rw [hbal, if_pos rfl] at hsends
    refine ⟨_, hsends, seg?_release_self _ _, fun k hk => ?_, rfl, rfl, ?_, ?_⟩
    · rw [seg?_release_other _ hk, seg?_of_job hjob]
    · rw [State.release, hjob]
    · exact reportsBeside_job (besideJob_trans (besideJob_of_ReportsWith (Reports_jobMessage s 0x35 g.closeBytes))
        (besideJob_release _ g.key [])) (by simp)

end Sys2Proof.Machine

/-! ### The job byte stream (R83 to R86, R396 to R399) -/

namespace Sys2Proof.Machine

/-! #### A frame taken from a ring session -/

theorem session_setSession_self {s : State} {n : Nat} (hn : n < s.sessions.length) (x : Session) : (s.setSession n x).session n = x := by
  simp [State.setSession, State.session, List.getD_eq_getElem?_getD, hn]

theorem session_setSession_other (s : State) {n k : Nat} (hk : k ≠ n) (x : Session) : (s.setSession n x).session k = s.session k := by
  simp [State.setSession, State.session, List.getD_eq_getElem?_getD, hk.symm]

/-- Only a session of the list is open. -/
theorem in_range_of_isOpen {s : State} {n : Nat} (h : (s.session n).isOpen = true) : n < s.sessions.length := by
  by_contra hout
  have hclosed : s.session n = Session.closed := by rw [State.session, List.getD_eq_default _ _ (Nat.le_of_not_lt hout)]
  simp [hclosed, Session.closed] at h

theorem isOpen_of_openRing {s : State} {n : Nat} (h : s.openRing n = true) : (s.session n).isOpen = true := by
  simp only [State.openRing, Bool.and_eq_true] at h
  exact h.2

theorem in_range_of_openRing {s : State} {n : Nat} (h : s.openRing n = true) : n < s.sessions.length :=
  in_range_of_isOpen (isOpen_of_openRing h)

theorem tookFrame_open {s : State} {n : Nat} (h : s.openRing n = true) : s.tookFrame (.ring n) = s.setSession n (s.session n).took := by
  simp only [State.tookFrame, h, if_true]

theorem session_tookFrame {s : State} {n : Nat} (h : s.openRing n = true) : (s.tookFrame (.ring n)).session n = (s.session n).took := by
  rw [tookFrame_open h, session_setSession_self (in_range_of_openRing h)]

theorem Reports_tookFrame {s : State} {n : Nat} (h : s.openRing n = true) : s.Reports (s.tookFrame (.ring n)) := by
  rw [tookFrame_open h]
  exact { Reports_refl s with }

/-- A JOB message of the job session, of the right form and in its turn. -/
theorem job_in_turn {s : State} {n : Nat} {payload : List Byte} (hturn : s.turn 7 = true) (hopen : s.openRing n = true)
    (hserved : s.ringServed = true) (hjob : (s.session n).job = true) (hform : jobFormOk payload = true) (start more : Bool) :
    exec (.job n start more payload) s = .next (if leNat (payload.take 8) ≠ s.job.offset then (s.tookFrame (.ring n)).closeSession n 2
      else (s.tookFrame (.ring n)).jobData (s.session n).rxNext start s.job.offset (payload.drop 8)) := by
  have htook : ((s.tookFrame (.ring n)).session n).job = true := by rw [session_tookFrame hopen]; exact hjob
  simp only [exec, execJob, inTurn_in_turn (c := .job n start more payload) _ hturn, hopen, hserved, and_self, if_true, State.jobMessageIn,
    htook, hform, frame_tookFrame]
  rfl

/-! #### Bytes of a segment in reception (R84, R85) -/

section
variable {s : State} {r : Reception} {off : Nat} {data : List Byte} (hroom : off + data.length ≤ s.regN 0x3012 5)
  (hheaded : 32 ≤ r.bytes.length)
include hroom hheaded

/-- A segment with bytes missing stays in reception with those that have come. -/
theorem takeJob_goes_on (hshort : (r.bytes ++ data).length < 4 * leAt (r.bytes ++ data) 24 3) : s.takeJob r off data =
    { s.received data.length with job := { s.job with receiving := some { r with bytes := r.bytes ++ data } } } := by
  have hkept : data.take (s.regN 0x3012 5 - off) = data := List.take_of_length_le (by omega)
  have hjudged : r.headed = true := decide_eq_true hheaded
  have hmissing : ¬(32 ≤ (r.bytes ++ data).length ∧ 4 * leAt (r.bytes ++ data) 24 3 ≤ (r.bytes ++ data).length) := by omega
  have hcount : (r.bytes ++ data).length - r.bytes.length = data.length := by simp
  simp only [State.takeJob, hkept, hjudged, Bool.true_eq_false, false_and, if_false, if_neg hmissing, if_neg (Nat.lt_irrefl _), hcount]
  rfl

/-- The last bytes submit the segment. -/
theorem takeJob_submits (hwhole : (r.bytes ++ data).length = 4 * leAt (r.bytes ++ data) 24 3) :
    s.takeJob r off data = (s.received data.length).submit { r with bytes := r.bytes ++ data } := by
  have hkept : data.take (s.regN 0x3012 5 - off) = data := List.take_of_length_le (by omega)
  have hjudged : r.headed = true := decide_eq_true hheaded
  have hcome : 32 ≤ (r.bytes ++ data).length ∧ 4 * leAt (r.bytes ++ data) 24 3 ≤ (r.bytes ++ data).length := by
    rw [List.length_append] at hwhole ⊢
    omega
  have hcount : 4 * leAt (r.bytes ++ data) 24 3 - r.bytes.length = data.length := by rw [← hwhole]; simp
  simp only [State.takeJob, hkept, hjudged, Bool.true_eq_false, false_and, if_false, if_pos hcome, hcount]
  rw [if_neg (by omega)]

end

/-- The segment a reception submits. -/
def Reception.submitted (r : Reception) (key : Nat) : Segment :=
  { key := key, id := segId (wordsOf r.bytes), seq := r.seq, layer := segLayer (wordsOf r.bytes), mask := segMask (wordsOf r.bytes)
    startEt := segStart (wordsOf r.bytes), priority := segPriority (wordsOf r.bytes), words := wordsOf r.bytes, state := .submitted
    items := [], heads := [], admitNo := 0, promise := 0, slack := 0, broke := none, finalEt := 0, defects := 0, digested := false
    groups := [], entries := [], cuts := [] }

theorem acceptWrite_writes (s : State) (area datum : Nat) (data : List Byte) :
    (s.acceptWrite area datum data).dram = { s.dram with writes := (s.acceptWrite area datum data).dram.writes } := by
  have hrest : ({ (s.acceptWrite area datum data).dram with writes := [] } : Dram) = { s.dram with writes := [] } := by
    refine foldl_keeps (fun t => ({ t.dram with writes := [] } : Dram)) (fun t x => ?_) _ s
    unfold State.acceptLine
    split <;> rfl
  exact congrArg (fun d : Dram => { d with writes := (s.acceptWrite area datum data).dram.writes }) hrest

/-- A submission ends the reception, adds its segment to the job, and its lines wait to be written. -/
theorem submit_eq (s : State) (r : Reception) : ∃ ws, s.submit r = { s with
    job := { s.job with segments := s.job.segments ++ [r.submitted s.job.nextKey], nextKey := s.job.nextKey + 1, receiving := none }
    dram := { s.dram with writes := ws } } := by
  let u : State := { s with
    job := { s.job with segments := s.job.segments ++ [r.submitted s.job.nextKey], nextKey := s.job.nextKey + 1, receiving := none } }
  obtain ⟨d, hd⟩ := acceptWrite_eq u 0 s.job.nextKey r.bytes
  have hwrites := acceptWrite_writes u 0 s.job.nextKey r.bytes
  rw [hd] at hwrites
  have hdram : d = { s.dram with writes := d.writes } := hwrites
  have hsubmit : s.submit r = { u with dram := d } := hd
  exact ⟨d.writes, by rw [← hdram, hsubmit]⟩

/-! #### A session closed (R388) -/

theorem session_of_sessions {s t : State} (h : t.sessions = s.sessions) (n : Nat) : t.session n = s.session n := by
  rw [State.session, h, State.session]

/-- What leaves a session opens and closes none. -/
theorem message_isOpen (s : State) (m kind : Nat) (reliable : Bool) (bytes : List Byte) (n : Nat) :
    ((s.message m kind reliable bytes).session n).isOpen = (s.session n).isOpen := by
  unfold State.message
  split
  case isFalse => rfl
  case isTrue hmay =>
    have hkept (x : Session) (up : Bool) : (x.sending m kind up reliable bytes).isOpen = x.isOpen := by
      unfold Session.sending
      (repeat' split) <;> rfl
    have hset : ((s.setSession m ((s.session m).sending m kind s.ringUp reliable bytes)).session n).isOpen = (s.session n).isOpen := by
      by_cases hn : n = m
      · subst hn
        have hopen : (s.session n).isOpen = true := by
          simp only [State.maySend, Bool.and_eq_true] at hmay
          exact hmay.1.1
        rw [session_setSession_self (in_range_of_isOpen hopen), hkept]
      · rw [session_setSession_other s hn]
    rw [← hset]
    exact congrArg Session.isOpen (session_of_sessions (by simp [State.setSession]) n)

theorem setLeaf_isOpen (s : State) (reg bit n : Nat) : ((s.setLeaf reg bit).session n).isOpen = (s.session n).isOpen := by
  have hall (p : Session → Bool) (kind : Nat) (reliable : Bool) (bytes : List Byte) (t : State) :
      ((t.messageWhere p kind reliable bytes).session n).isOpen = (t.session n).isOpen := by
    unfold State.messageWhere
    refine foldl_keeps (fun u => (u.session n).isOpen) (fun u m => ?_) _ t
    split
    · exact message_isOpen _ _ _ _ _ _
    · rfl
  unfold State.setLeaf
  dsimp only
  split
  · exact hall _ _ _ _ _
  · rfl

/-- The job session closed with a reason that is an error: the session, its reason, and the reception it had. -/
theorem closeSession_of_job {s : State} {n reason : Nat} (hopen : s.openRing n = true) (hjob : (s.session n).job = true)
    (hreason : reason ≠ 1) : s.closeSession n reason
      = ((((s.message n 3 true []).setSession n Session.closed).setReg 0x1031 5 reason).setLeaf 0x2108 3).endJob := by
  simp only [State.closeSession, hopen, hjob, hreason, if_true, if_false]

theorem closeSession_ends_job {s : State} {n reason : Nat} (hopen : s.openRing n = true) (hjob : (s.session n).job = true)
    (hreason : reason ≠ 1) : ((s.closeSession n reason).session n).isOpen = false ∧ (s.closeSession n reason).reg 0x1031 5 = reason
      ∧ (s.closeSession n reason).job = { s.job with receiving := none, offset := 0 } := by
  rw [closeSession_of_job hopen hjob hreason]
  let t := s.message n 3 true []
  let u := (t.setSession n Session.closed).setReg 0x1031 5 reason
  have hrange : n < t.sessions.length := in_range_of_isOpen ((message_isOpen s n 3 true [] n).trans (isOpen_of_openRing hopen))
  have hreports := Reports_setLeaf u 0x2108 3
  refine ⟨?_, ?_, ?_⟩
  · calc ((u.setLeaf 0x2108 3).session n).isOpen = (u.session n).isOpen := setLeaf_isOpen u _ _ n
      _ = (Session.closed).isOpen := congrArg Session.isOpen (session_setSession_self hrange Session.closed)
      _ = false := rfl
  · calc (u.setLeaf 0x2108 3).endJob.reg 0x1031 5 = (u.setLeaf 0x2108 3).reg 0x1031 5 := reg_setReg_other _ _ (by decide)
      _ = u.reg 0x1031 5 := hreports.regs (regKey 0x1031 5) (by decide)
      _ = reason := reg_setReg_self _ _ _ _
  · have hjobs : (u.setLeaf 0x2108 3).job = s.job := by simp [u, t]
    rw [← hjobs]
    rfl

/-! #### JOB and GRANT_TIMER_EXPIRY -/

/-- A frame of the job session taken, with so many bytes more delivered. -/
def State.delivered (s : State) (n bytes : Nat) : State :=
  { s.tookFrame (.ring n) with job := { s.job with offset := s.job.offset + bytes } }

theorem delivered_limit (s : State) (n bytes : Nat) : (s.delivered n bytes).regN 0x3012 5 = s.regN 0x3012 5 :=
  regN_of_reg (by simp [State.reg, State.delivered])

theorem delivered_dram (s : State) (n bytes : Nat) : (s.delivered n bytes).dram = s.dram := by simp [State.delivered]

/-- The bytes delivered and counted as received: the count, the session and the job's offset move. -/
theorem deliveredReceived_besideJob {s : State} {n : Nat} (hopen : s.openRing n = true) (bytes : Nat) :
    s.ReportsBesideJob ((s.delivered n bytes).received bytes) [regKey 0x3012 6] := by
  have hdelivered : s.ReportsBesideJob (s.delivered n bytes) [regKey 0x3012 6] :=
    besideJob_trans (besideJob_of_ReportsWith (ReportsWith_of_Reports _ (Reports_tookFrame hopen))) { ReportsWith_refl _ _ with }
  exact besideJob_trans hdelivered (besideJob_of_ReportsWith (ReportsWith_setReg _ _ _ _ List.mem_cons_self))

section
variable {s : State} {n : Nat} {data : List Byte} {r : Reception} (hopen : s.openRing n = true)
  (hroom : s.job.offset + data.length ≤ s.regN 0x3012 5) (hheaded : 32 ≤ r.bytes.length)
include hopen hroom hheaded

theorem delivered_goes_on (hshort : (r.bytes ++ data).length < 4 * leAt (r.bytes ++ data) 24 3) :
    ∃ t, (s.delivered n data.length).takeJob r s.job.offset data = t
      ∧ t.job = { s.job with offset := s.job.offset + data.length, receiving := some { r with bytes := r.bytes ++ data } }
      ∧ ({ s with job := t.job } : State).ReportsWith t [regKey 0x3012 6] := by
  have htake := takeJob_goes_on (s := s.delivered n data.length) (by rw [delivered_limit]; exact hroom) hheaded hshort
  refine ⟨_, htake, rfl, reportsBeside_job (besideJob_trans (deliveredReceived_besideJob hopen _) { ReportsWith_refl _ _ with }) ?_⟩
  simp [delivered_dram]

theorem delivered_submits (hwhole : (r.bytes ++ data).length = 4 * leAt (r.bytes ++ data) 24 3) :
    ∃ (t : State) (g : Segment), (s.delivered n data.length).takeJob r s.job.offset data = t
      ∧ t.job.receiving = none ∧ t.job.segments = s.job.segments ++ [g] ∧ g.state = .submitted ∧ g.words = wordsOf (r.bytes ++ data)
      ∧ g.id = segId g.words ∧ g.seq = r.seq ∧ g.key = s.job.nextKey ∧ t.job.nextKey = s.job.nextKey + 1
      ∧ t.dram = { s.dram with writes := t.dram.writes }
      ∧ ({ s with job := t.job, dram := t.dram } : State).ReportsWith t [regKey 0x3012 6] := by
  have htake := takeJob_submits (s := s.delivered n data.length) (by rw [delivered_limit]; exact hroom) hheaded hwhole
  obtain ⟨ws, hsubmit⟩ := submit_eq ((s.delivered n data.length).received data.length) { r with bytes := r.bytes ++ data }
  rw [hsubmit] at htake
  refine ⟨_, _, htake, rfl, rfl, rfl, rfl, rfl, rfl, rfl, rfl, ?_,
    besideJob_trans (deliveredReceived_besideJob hopen _) { ReportsWith_refl _ _ with }⟩
  simp [delivered_dram]

end

/-- The data of the frame that goes on with a reception reach its segment. -/
theorem job_reaches_reception {s : State} {n : Nat} {payload : List Byte} {r : Reception} (hturn : s.turn 7 = true)
    (hopen : s.openRing n = true) (hserved : s.ringServed = true) (hjob : (s.session n).job = true) (hform : jobFormOk payload = true)
    (hoff : leNat (payload.take 8) = s.job.offset) (hrecv : s.job.receiving = some r) (hkept : r.discarding = false) (more : Bool) :
    exec (.job n false more payload) s =
      .next ((s.delivered n (payload.drop 8).length).takeJob r s.job.offset (payload.drop 8)) := by
  rw [job_in_turn hturn hopen hserved hjob hform, if_neg (not_not.2 hoff)]
  simp [State.jobData, hrecv, hkept, State.delivered]

/-- The grant of what is unsent raises CREDIT_LIMIT and leaves in a message. -/
theorem grant_raises {s : State} {n : Nat} (hunsent : s.job.unsentGrant ≠ 0) (hsession : s.jobSession = some n) (hup : s.ringUp = true) :
    s.grant.reg 0x3012 5 = (s.regN 0x3012 5 + s.job.unsentGrant : Nat) ∧ s.grant.job = { s.job with unsentGrant := 0 } := by
  have hmay : ¬(s.job.unsentGrant = 0 ∨ s.jobSession = none ∨ s.ringUp = false) := by simp [hunsent, hsession, hup]
  rw [State.grant, if_neg hmay]
  exact ⟨((Reports_jobMessage _ _ _).regs (regKey 0x3012 5) (by decide)).trans (reg_setReg_self _ _ _ _),
    (Reports_jobMessage _ _ _).job⟩

/-- Settles O40: a JOB message by what its data make of the reception, the grant by the units it carries. -/
theorem jobStreamCommandsComplete : Obligations.JobStreamCommandsComplete := by
  refine ⟨fun s n more payload r hturn hopen hserved hjob hform hoff hrecv hkept hroom hheaded => ?_,
    fun s n start more payload hturn hopen hserved hjob hform hoff => ?_, fun s n hunsent hsession hup => ?_⟩
  · have hexec := job_reaches_reception hturn hopen hserved hjob hform hoff hrecv hkept
    refine ⟨fun hshort => ?_, fun hwhole => ?_⟩
    · obtain ⟨t, htake, hreceives⟩ := delivered_goes_on hopen hroom hheaded hshort
      exact ⟨t, by rw [hexec, htake], hreceives⟩
    · obtain ⟨t, g, htake, hsubmits⟩ := delivered_submits hopen hroom hheaded hwhole
      exact ⟨t, g, by rw [hexec, htake], hsubmits⟩
  · have hexec := job_in_turn hturn hopen hserved hjob hform start more
    rw [if_pos hoff] at hexec
    have htook := Reports_tookFrame hopen
    have hopen' : (s.tookFrame (.ring n)).openRing n = true := by
      simp only [State.openRing, session_tookFrame hopen]
      exact hopen
    obtain ⟨hclosed, hreason, hended⟩ := closeSession_ends_job (reason := 2) hopen' (by rw [session_tookFrame hopen]; exact hjob) (by decide)
    refine ⟨_, hexec, hclosed, hreason, by rw [hended, htook.job], by simp, by simp⟩
  · obtain ⟨hlimit, hjob⟩ := grant_raises hunsent hsession hup
    exact ⟨s.grant, rfl, hlimit, hjob, reportsBeside_job (grant_besideJob s) (by simp)⟩

end Sys2Proof.Machine

/-! ### Writes to the stitching objects (R207, R216): an invalid table's EVENT message can wait for a ring port (R374) -/

namespace Sys2Proof.Machine

/-! #### Frames of the controller's own behind a forwarded frame -/

/-- A forwarded frame waits at both ring ports. -/
def State.bothBusy (s : State) : Bool := s.ring.portA.busy s.et && s.ring.portB.busy s.et

theorem portBusy_of_bothBusy {s : State} (h : s.bothBusy = true) (port : Nat) : s.portBusy port = true := by
  obtain ⟨hA, hB⟩ : s.ring.portA.busy s.et = true ∧ s.ring.portB.busy s.et = true := by simpa [State.bothBusy] using h
  simp [State.portBusy, hA, hB]

/-- Frames handed to a busy port wait, behind those that wait already. -/
theorem sendOwn_waiting {s : State} {port : Nat} (h : s.portBusy port = true) (frames : List (List Byte)) :
    (s.sendOwn port frames).ownWaiting = s.ownWaiting ++ frames.map (fun f => (port, f)) := by
  simp [State.sendOwn, h]

theorem sendOwn_waiting_prefix (s : State) (port : Nat) (frames : List (List Byte)) :
    s.ownWaiting <+: (s.sendOwn port frames).ownWaiting := by
  unfold State.sendOwn
  dsimp only
  split
  · exact List.prefix_append _ _
  · exact List.prefix_refl _

/-- What waits after a message is what waits after its frames are handed to the port: the copies to a partner go by the twin link. -/
theorem message_waiting {s : State} {n kind : Nat} (hmay : s.maySend n kind = true) (reliable : Bool) (bytes : List Byte) :
    ∃ x, (s.message n kind reliable bytes).ownWaiting
      = (({ s with sessions := s.sessions.set n x } : State).sendFrames (s.session n).peer
          ((s.session n).leaving n kind s.ringUp reliable bytes)).ownWaiting := by
  refine ⟨(s.session n).sending n kind s.ringUp reliable bytes, ?_⟩
  unfold State.message
  rw [if_pos hmay]
  exact foldl_keeps State.ownWaiting (fun t f => by simp) _ _

theorem message_waiting_prefix (s : State) (n kind : Nat) (reliable : Bool) (bytes : List Byte) :
    s.ownWaiting <+: (s.message n kind reliable bytes).ownWaiting := by
  by_cases hmay : s.maySend n kind = true
  · obtain ⟨x, hx⟩ := message_waiting hmay reliable bytes
    rw [hx]
    exact sendOwn_waiting_prefix { s with sessions := s.sessions.set n x } _ _
  · rw [State.message, if_neg hmay]

/-- A message that can leave the session but finds both ports busy waits. -/
theorem message_waits {s : State} {n kind : Nat} {reliable : Bool} {bytes : List Byte} (hmay : s.maySend n kind = true)
    (hleaves : (s.session n).leaving n kind s.ringUp reliable bytes ≠ []) (hbusy : s.bothBusy = true) :
    (s.message n kind reliable bytes).ownWaiting ≠ [] := by
  obtain ⟨x, hx⟩ := message_waiting hmay reliable bytes
  rw [hx, State.sendFrames, sendOwn_waiting (portBusy_of_bothBusy (by exact hbusy) _)]
  simp [hleaves]

theorem messageWhere_waits {s : State} {p : Session → Bool} {kind : Nat} {reliable : Bool} {bytes : List Byte}
    (hpasses : p (s.session 1) = true) (hwaits : (s.message 1 kind reliable bytes).ownWaiting ≠ []) :
    (s.messageWhere p kind reliable bytes).ownWaiting ≠ [] := by
  unfold State.messageWhere
  rw [List.foldl_cons, if_pos hpasses]
  refine List.foldlRecOn (motive := fun t : State => t.ownWaiting ≠ []) _ _ hwaits fun t ht n _ => ?_
  split
  · exact fun hnone => ht (List.prefix_nil.1 (hnone ▸ message_waiting_prefix t n kind reliable bytes))
  · exact ht

/-- The EVENT message of a leaf that speaks waits where session 1 listens to its block and both ports are busy (R374, R648). -/
theorem setLeaf_waits {s : State} {reg bit : Nat} (hspeaks : s.leafSpeaks reg bit = true)
    (hlistens : ((s.session 1).subscribe.testBit 4 && (s.session 1).eventMask.testBit (leafBlock reg).1) = true)
    (hmay : s.maySend 1 0x39 = true)
    (hleaves : (s.session 1).leaving 1 0x39 s.ringUp true (s.eventPayload reg bit (leafHit s.leaves reg bit).count) ≠ [])
    (hbusy : s.bothBusy = true) : (s.setLeaf reg bit).ownWaiting ≠ [] := by
  rw [State.setLeaf, if_pos hspeaks]
  exact messageWhere_waits hlistens (message_waits (by exact hmay) hleaves (by exact hbusy))

/-! #### The check of the cell table -/

/-- 0x5003:01 to :03 as a check that finds a cell at fault writes them. -/
def State.tableInvalid (s : State) (cell reason : Nat) : State :=
  ((s.setReg 0x5003 1 0).setReg 0x5003 2 cell).setReg 0x5003 3 reason

/-- A check that finds a valid table at fault sets the leaf (R216). -/
theorem checkTable_turns_invalid {s : State} {cell reason : Nat} (hfault : s.tableFault = some (cell, reason))
    (hvalid : s.reg 0x5003 1 ≠ 0) : s.checkTable = (s.tableInvalid cell reason).setLeaf 0x2104 2 := by
  simp only [State.checkTable, hfault]
  exact if_neg hvalid

/-- An accepted STITCH_TABLE_WRITE does its work and is answered. -/
theorem stitchTableWrite_accepted {s : State} {p : Path} {index sub : Nat} {data : List Byte}
    (htakes : s.Takes p (s.stitchRefusal p index sub data)) :
    exec (.stitchTableWrite p index sub data) s = .next ((s.writeStitch index sub data).answer p 0 []) := by
  simp only [exec, execStitchTableWrite, accepted_in_turn htakes (c := .stitchTableWrite p index sub data) (rank_of_path rfl)]

/-! #### A table made invalid while forwarded frames wait at the ports -/

/-- CELL_PITCH at its least: 64 cells of 1 mm do not cover half the plate (R216, reason 0x01). -/
def leastPitch : List Byte := leBytes 4 4000

/-- In STANDBY with the table valid, leaf 2 of 0x2104 enabled, session 1 subscribed to the events of its block, and a forwarded frame
waiting at each of the two locked ring ports. -/
def State.forwardingBusy : State :=
  { State.reset with
    dev.state := .standby
    clk := { et := 100, running := true, island := 100 }
    regs := regsPut (regKey 0x2104 2) 4 State.reset.regs
    sessions := { Session.port with level := .service } :: { Session.port with subscribe := 16, eventMask := 16 }
      :: List.replicate 3 Session.closed
    ring := { State.reset.ring with forwarding := true, portA := ⟨true, [(3200, 64)]⟩, portB := ⟨true, [(3200, 64)]⟩ } }

theorem forwardingBusy_takes :
    State.forwardingBusy.Takes .spi (State.forwardingBusy.stitchRefusal .spi 0x5000 1 leastPitch) :=
  ⟨by decide +kernel, by decide +kernel, by decide +kernel⟩

/-- That state with CELL_PITCH stored, before the check. -/
def State.pitchStored : State := State.forwardingBusy.setReg 0x5000 1 4000

theorem forwardingBusy_writes :
    State.forwardingBusy.writeStitch 0x5000 1 leastPitch = State.pitchStored.checkTable.mirror 0x5000 1 leastPitch := by
  have hvalue : numberOf 0x5000 1 leastPitch = 4000 := by decide +kernel
  have hchecks : checksTable 0x5000 1 = true := by decide
  simp [State.writeStitch, State.pitchStored, hvalue, hchecks]

theorem pitchStored_event_waits : State.pitchStored.checkTable.ownWaiting ≠ [] := by
  rw [checkTable_turns_invalid (s := .pitchStored) (cell := 0xFFFF) (reason := 1) (by decide +kernel) (by decide +kernel)]
  exact setLeaf_waits (by decide +kernel) (by decide +kernel) (by decide +kernel) (by decide +kernel) (by decide +kernel)

/-- Refutes O31: the write of CELL_PITCH is accepted and makes the valid table invalid, which sends an EVENT message; behind a forwarded
frame it waits for its port (R374), while the statement leaves what waits for a port as it was. -/
theorem not_layerAndTableWritesComplete : ¬ Obligations.LayerAndTableWritesComplete := by
  intro h
  obtain ⟨t, hexec, -, -, -, -, -, -, hframe⟩ := h.2 .forwardingBusy .spi 0x5000 1 leastPitch forwardingBusy_takes
  have hnext : t = (State.forwardingBusy.writeStitch 0x5000 1 leastPitch).answer .spi 0 [] := by
    rw [stitchTableWrite_accepted forwardingBusy_takes] at hexec
    injection hexec with heq
    exact heq.symm
  have hwaiting : t.ownWaiting = State.pitchStored.checkTable.ownWaiting := by
    rw [hnext, forwardingBusy_writes]
    simp [State.answer]
  have hnone : t.ownWaiting = [] := by rw [hframe]; rfl
  exact pitchStored_event_waits (hwaiting.symm.trans hnone)

end Sys2Proof.Machine

/-! ### Camera frames, passes, the archive and the feature log (R246, R247, R261, R268, R269, R274, R279, R303) -/

namespace Sys2Proof.Machine

/-! #### The camera of a head -/

theorem head_onCamera_self {s : State} {h : HeadNo} (hh : h < s.heads.length) (f : Camera → Camera) :
    (s.onCamera h f).head h = { s.head h with camera := f (s.head h).camera } := head_onHead_self hh _

theorem head_onCamera_other {s : State} {h k : HeadNo} (hne : k ≠ h) (f : Camera → Camera) : (s.onCamera h f).head k = s.head k :=
  head_onHead_other hne _

theorem head_onCamera_out_of_range {s : State} {h : HeadNo} (hh : ¬ h < s.heads.length) (f : Camera → Camera) :
    (s.onCamera h f).head h = s.head h := by
  simp [State.onCamera, State.onHead, State.head, List.getD_eq_getElem?_getD, Nat.le_of_not_lt hh]

/-- What the change of a camera leaves alone in a head reads as before, whatever the head. -/
theorem onCamera_keeps {β : Type} (φ : Head → β) {f : Camera → Camera} (hf : ∀ x : Head, φ { x with camera := f x.camera } = φ x)
    (s : State) (h k : HeadNo) : φ ((s.onCamera h f).head k) = φ (s.head k) := by
  by_cases hk : k = h
  · subst hk
    by_cases hh : k < s.heads.length
    · rw [head_onCamera_self hh, hf]
    · rw [head_onCamera_out_of_range hh]
  · rw [head_onCamera_other hk]

/-- A buffered frame belongs to a head of the device. -/
theorem in_range_of_frame {s : State} {h : HeadNo} {f : CamFrame} (hf : f ∈ (s.head h).camera.frames) : h < s.heads.length :=
  head_in_range fun heq => by rw [heq] at hf; cases hf

/-- The buffer of a frame freed. -/
def State.bufferFreed (s : State) (h : HeadNo) (f : CamFrame) : State :=
  s.onCamera h (fun c => { c with frames := c.frames.erase f })

theorem frames_bufferFreed {s : State} {h : HeadNo} (hh : h < s.heads.length) (f : CamFrame) :
    ((s.bufferFreed h f).head h).camera.frames = (s.head h).camera.frames.erase f := by
  rw [State.bufferFreed, head_onCamera_self hh]

/-! #### PIPELINE_DISPATCH (R268, R269) -/

theorem mem_queued {s : State} {pipe d : Nat} {h : HeadNo} {f : CamFrame} (hq : (d, h, f) ∈ s.queued pipe) :
    f ∈ (s.head h).camera.frames := by
  obtain ⟨k, -, hk⟩ := List.mem_flatMap.1 hq
  obtain ⟨g, hg, heq⟩ := List.mem_map.1 hk
  cases heq
  exact (List.mem_filter.1 hg).1

/-- A fold that keeps the better of what it has and the next element chooses one of the list. -/
theorem foldl_choice_mem {α : Type} {choose : Option α → α → Option α} (hchoose : ∀ best x, choose best x = some x ∨ choose best x = best)
    (l : List α) {y : α} (h : l.foldl choose none = some y) : y ∈ l := by
  have hall : ∀ z, l.foldl choose none = some z → z ∈ l := by
    refine List.foldlRecOn (motive := fun best => ∀ z, best = some z → z ∈ l) l _ (fun z hz => nomatch hz) fun best ih x hx z hz => ?_
    rcases hchoose best x with hnew | hold
    · rw [hnew] at hz
      cases hz
      exact hx
    · exact ih z (hold ▸ hz)
  exact hall y h

theorem nextFrame_mem {s : State} {pipe d : Nat} {h : HeadNo} {f : CamFrame} (hnext : s.nextFrame pipe = some (d, h, f)) :
    f ∈ (s.head h).camera.frames := by
  refine mem_queued (foldl_choice_mem (fun best x => ?_) _ hnext)
  cases best with
  | none => exact .inl rfl
  | some b => exact ite_eq_or_eq _ _ _

/-- The frame of a pass, as the pass begins. -/
def CamFrame.inPass (f : CamFrame) (et : Tick) (only : Bool) : CamFrame :=
  { f with state := .processing, featuresOnly := only, doneAt := et + passTicks f.format only }

theorem head_onPipe (s : State) (pipe : Nat) (f : Pipeline → Pipeline) (k : HeadNo) : (s.onPipe pipe f).head k = s.head k := rfl

theorem startPass_frames {s : State} {h : HeadNo} (hh : h < s.heads.length) (pipe : Nat) (f : CamFrame) (only : Bool) :
    ((s.startPass pipe h f only).head h).camera.frames
      = (s.head h).camera.frames.map (fun x => if x = f then f.inPass s.et only else x) := by
  rw [State.startPass, head_onPipe, head_onCamera_self hh]
  rfl

theorem startPass_other (s : State) {h k : HeadNo} (hne : k ≠ h) (pipe : Nat) (f : CamFrame) (only : Bool) :
    (s.startPass pipe h f only).head k = s.head k := by
  rw [State.startPass, head_onPipe, head_onCamera_other hne]

theorem pipelineDispatch_begins_pass {s : State} {pipe d : Nat} {h : HeadNo} {f : CamFrame} {p : Pipeline}
    (hpipe : s.sieve.pipes[pipe]? = some p) (hfree : p.busy = none) (hnext : s.nextFrame pipe = some (d, h, f))
    (hgen : ((s.head h).camera.gen? f.gen).isSome = true) (hmeets : s.et + passTicks f.format false ≤ d) :
    exec (.pipelineDispatch pipe) s = .next (s.startPass pipe h f false) := by
  have hdispatch : s.dispatch pipe d h f = s.startPass pipe h f false := by
    simp [State.dispatch, Option.isNone_iff_eq_none, Option.isSome_iff_ne_none.1 hgen, hmeets]
  simp [exec, execPipelineDispatch, hpipe, hfree, hnext, hdispatch]

/-! #### FEATURE_RECORD_HANDOVER (R261, R303) -/

/-- t is s with further work waiting at its lanes. -/
structure State.LanesGrow (s t : State) : Prop where
  rest : t = { s with engine := { s.engine with lanes := t.engine.lanes } }
  waiting : ∀ (b : Nat) (x : Lane), t.engine.lanes[b]? = some x → ∃ y, s.engine.lanes[b]? = some y ∧ y.waiting ⊆ x.waiting

/-- A piece of work waits at a lane, where the device has it. -/
def State.LaneWaits (s : State) (b : Nat) (w : LaneWork) : Prop := ∀ x, s.engine.lanes[b]? = some x → w ∈ x.waiting

theorem lanesGrow_refl (s : State) : s.LanesGrow s where
  rest := rfl
  waiting _ x hx := ⟨x, hx, List.Subset.refl _⟩

theorem lanesGrow_trans {s t u : State} (h : s.LanesGrow t) (g : t.LanesGrow u) : s.LanesGrow u where
  rest := by rw [g.rest, h.rest]
  waiting b x hx := by
    obtain ⟨y, hy, hyx⟩ := g.waiting b x hx
    obtain ⟨z, hz, hzy⟩ := h.waiting b y hy
    exact ⟨z, hz, List.Subset.trans hzy hyx⟩

theorem State.LaneWaits.grow {s t : State} {b : Nat} {w : LaneWork} (h : s.LaneWaits b w) (g : s.LanesGrow t) : t.LaneWaits b w := by
  intro x hx
  obtain ⟨y, hy, hyx⟩ := g.waiting b x hx
  exact hyx (h y hy)

theorem lane_toLane {s : State} {b c : Nat} {w : LaneWork} {x : Lane} (hx : (s.toLane b w).engine.lanes[c]? = some x) :
    ∃ y, s.engine.lanes[c]? = some y ∧ x = (if b = c then { y with waiting := y.waiting ++ [w] } else y) := by
  rw [toLane_engine, List.getElem?_modify] at hx
  obtain ⟨y, hy, rfl⟩ := Option.map_eq_some_iff.1 hx
  refine ⟨y, hy, ?_⟩
  split <;> rfl

theorem toLane_waits (s : State) (b : Nat) (w : LaneWork) : (s.toLane b w).LaneWaits b w := by
  intro x hx
  obtain ⟨y, -, rfl⟩ := lane_toLane hx
  simp

theorem toLane_grows (s : State) (b : Nat) (w : LaneWork) : s.LanesGrow (s.toLane b w) where
  rest := rfl
  waiting c x hx := by
    obtain ⟨y, hy, rfl⟩ := lane_toLane hx
    refine ⟨y, hy, ?_⟩
    split <;> simp

/-- A fold of operations that each let work wait. -/
theorem lanesGrow_foldl {α : Type} {f : State → α → State} (hf : ∀ t a, State.LanesGrow t (f t a)) (l : List α) (s : State) :
    s.LanesGrow (l.foldl f s) :=
  List.foldlRecOn (motive := fun t => s.LanesGrow t) l f (lanesGrow_refl s) fun t ht a _ => lanesGrow_trans ht (hf t a)

/-- What one step of such a fold lets wait still waits at its end. -/
theorem laneWaits_foldl {α : Type} {f : State → α → State} (hf : ∀ t a, State.LanesGrow t (f t a)) {l : List α} {a : α} (ha : a ∈ l)
    {s : State} {b : Nat} {w : LaneWork} (hw : ∀ t, s.LanesGrow t → (f t a).LaneWaits b w) : (l.foldl f s).LaneWaits b w := by
  obtain ⟨before, after, rfl⟩ := List.append_of_mem ha
  rw [List.foldl_append, List.foldl_cons]
  exact (hw _ (lanesGrow_foldl hf before s)).grow (lanesGrow_foldl hf after _)

/-- The work that a record makes for the outer loop of a channel. -/
abbrev HeldRecord.work (r : HeldRecord) (h : HeadNo) (b : Nat) : LaneWork := .outer r.deadline h b r.bytes

theorem handOverStep_grows (s : State) (h : HeadNo) (r : HeldRecord) (t : State) (b : Nat) :
    t.LanesGrow (if s.outerTakes h r.deadline r.bytes b then t.toLane b (r.work h b) else t) := by
  split
  · exact toLane_grows t b _
  · exact lanesGrow_refl t

theorem handOver_grows (s : State) (h : HeadNo) (r : HeldRecord) : s.LanesGrow (s.handOver h r) :=
  lanesGrow_foldl (handOverStep_grows s h r) _ s

theorem handOver_waits {s : State} {h : HeadNo} {r : HeldRecord} {b : Nat} (hb : b < 8) (htakes : s.outerTakes h r.deadline r.bytes b = true) :
    (s.handOver h r).LaneWaits b (r.work h b) := by
  refine laneWaits_foldl (handOverStep_grows s h r) (List.mem_range.2 hb) fun t _ => ?_
  rw [if_pos htakes]
  exact toLane_waits t b _

theorem outerTakes_of_lanesGrow {s t : State} (g : s.LanesGrow t) (h : HeadNo) (at_ : Tick) (record : List Byte) (b : Nat) :
    t.outerTakes h at_ record b = s.outerTakes h at_ record b := by
  rw [g.rest]
  rfl

theorem outerTakes_onCamera (s : State) (h : HeadNo) (f : Camera → Camera) (k : HeadNo) (at_ : Tick) (record : List Byte) (b : Nat) :
    (s.onCamera h f).outerTakes k at_ record b = s.outerTakes k at_ record b := by
  have hchan : (s.onCamera h f).chan k b = s.chan k b := by rw [State.chan, onCamera_keeps Head.channels (fun _ => rfl), State.chan]
  unfold State.outerTakes
  rw [hchan]
  rfl

/-- The state of a head whose due records have left. -/
def State.dueLeft (s : State) (h : HeadNo) : State :=
  s.onCamera h (fun c => { c with held := c.held.filter (fun r => decide (s.et < r.deadline)) })

theorem held_dueLeft (s : State) (h : HeadNo) :
    ((s.dueLeft h).head h).camera.held = (s.head h).camera.held.filter (fun r => decide (s.et < r.deadline)) := by
  by_cases hh : h < s.heads.length
  · rw [State.dueLeft, head_onCamera_self hh]
  · have hnone : s.head h = Head.initial := by_contra fun hne => hh (head_in_range hne)
    rw [State.dueLeft, head_onCamera_out_of_range hh, hnone]
    rfl

/-- The due records of a head handed over. -/
def State.dueHandedOver (s : State) (h : HeadNo) : State :=
  ((s.head h).camera.held.filter (fun r => decide (r.deadline ≤ s.et))).foldl (fun t r => t.handOver h r) (s.dueLeft h)

theorem dueHandedOver_grows (s : State) (h : HeadNo) : (s.dueLeft h).LanesGrow (s.dueHandedOver h) :=
  lanesGrow_foldl (fun t r => handOver_grows t h r) _ _

theorem dueHandedOver_waits {s : State} {h : HeadNo} {r : HeldRecord} {b : Nat} (hr : r ∈ (s.head h).camera.held) (hdue : r.deadline ≤ s.et)
    (hb : b < 8) (htakes : s.outerTakes h r.deadline r.bytes b = true) : (s.dueHandedOver h).LaneWaits b (r.work h b) := by
  refine laneWaits_foldl (fun t r => handOver_grows t h r) (List.mem_filter.2 ⟨hr, decide_eq_true hdue⟩) fun t ht => ?_
  refine handOver_waits hb ?_
  rw [outerTakes_of_lanesGrow ht, State.dueLeft, outerTakes_onCamera, htakes]

theorem featureRecordHandover_hands_over (s : State) (h : Nat) : ∃ t, exec (.featureRecordHandover h) s = .next t
      ∧ (t.head h).camera.held = (s.head h).camera.held.filter (fun r => decide (s.et < r.deadline))
      ∧ (∀ k, k ≠ h → t.head k = s.head k)
      ∧ (∀ r ∈ (s.head h).camera.held, r.deadline ≤ s.et → ∀ b, b < 8 → s.outerTakes h r.deadline r.bytes b = true →
        ∀ x, t.engine.lanes[b]? = some x → LaneWork.outer r.deadline h b r.bytes ∈ x.waiting)
      ∧ t = { s with heads := t.heads, engine := { s.engine with lanes := t.engine.lanes } } := by
  have hgrow := dueHandedOver_grows s h
  have hheads : (s.dueHandedOver h).heads = (s.dueLeft h).heads := by rw [hgrow.rest]
  refine ⟨s.dueHandedOver h, rfl, ?_, fun k hk => ?_, fun r hr hdue b hb htakes => dueHandedOver_waits hr hdue hb htakes, ?_⟩
  · rw [head_of_heads hheads, held_dueLeft]
  · rw [head_of_heads hheads]
    exact head_onCamera_other hk _
  · rw [hheads]
    exact hgrow.rest

/-! #### ARCHIVE_COPY_COMPLETE and ARCHIVE_MESSAGE_SEND (R274) -/

/-- The state of a head whose archived frame has left its buffer for the queue. -/
def State.queuedForArchive (s : State) (h : HeadNo) (f : CamFrame) : State :=
  { s.bufferFreed h f with sieve := { s.sieve with archive := s.sieve.archive ++ [archivePayload h f f.params.integration] } }

theorem archiveCopyComplete_eq {s : State} {h : Nat} {f : CamFrame}
    (hf : (s.head h).camera.frames.find? (fun f => f.state == .archiving) = some f) :
    ∃ d, exec (.archiveCopyComplete h) s = .next (({ s.queuedForArchive h f with dram := d } : State).bump (0x6220 + h) 6) := by
  obtain ⟨d, hd⟩ := acceptWrite_eq (s.queuedForArchive h f) 5 (s.regN (0x6220 + h) 6 * 32 + h) (archivePayload h f f.params.integration)
  refine ⟨d, ?_⟩
  rw [← hd]
  simp only [exec, execArchiveCopyComplete, hf]
  rfl

theorem archiveCopyComplete_queues {s : State} {h : Nat} {f : CamFrame}
    (hf : (s.head h).camera.frames.find? (fun f => f.state == .archiving) = some f) :
    ∃ t, exec (.archiveCopyComplete h) s = .next t ∧ (t.head h).camera.frames = (s.head h).camera.frames.erase f
      ∧ t.sieve.archive = s.sieve.archive ++ [archivePayload h f f.params.integration]
      ∧ t.reg (0x6220 + h) 6 = counterNext (regKey (0x6220 + h) 6) (s.reg (0x6220 + h) 6) 1
      ∧ s.KeepsRegs t [regKey (0x6220 + h) 6] ∧ (∀ k, k ≠ h → t.head k = s.head k)
      ∧ t = { s with heads := t.heads, regs := t.regs, sieve := { s.sieve with archive := t.sieve.archive }, dram := t.dram } := by
  have hh := in_range_of_frame (List.mem_of_find?_eq_some hf)
  obtain ⟨d, hexec⟩ := archiveCopyComplete_eq hf
  refine ⟨_, hexec, ?_, rfl, reg_bump_self _ _ _, ?_, fun k hk => ?_, rfl⟩
  · exact frames_bufferFreed hh f
  · exact KeepsRegs_bump { s.queuedForArchive h f with dram := d } _ _ List.mem_cons_self
  · exact head_onCamera_other (s := s) hk (fun c => { c with frames := c.frames.erase f })

theorem archiveMessageSend_sends {s : State} {a : List Byte} {rest : List (List Byte)} (harchive : s.sieve.archive = a :: rest) :
    exec .archiveMessageSend s = .next (({ s with sieve := { s.sieve with archive := rest } } : State).publish 3 0x38 false a) := by
  simp only [exec, execArchiveMessageSend, harchive]

/-! #### COMMIT (R246, R247) -/

theorem commit_accepted {s : State} {p : Path} {h : Nat} (hh : h < 32)
    (htakes : s.Takes p (orElse (s.writeGate p (0x6100 + h) 17) (s.commitRefusal h))) :
    exec (.commit p h) s = .next (((s.commit h).mirror (0x6100 + h) 17 [1]).answer p 0 []) := by
  have hobject : refuseIf (decide (32 ≤ h)) .noObject = none := by simp [refuseIf, hh]
  simp only [exec, execCommit, hobject]
  exact congrArg Host.Outcome.next (accepted_in_turn htakes (c := .commit p h) (rank_of_path rfl) _ _)

theorem commit_forms_generation {s : State} {p : Path} {h : Nat} (hh : h < 32) (hrange : h < s.heads.length)
    (htakes : s.Takes p (orElse (s.writeGate p (0x6100 + h) 17) (s.commitRefusal h))) :
    ∃ t, exec (.commit p h) s = .next t
      ∧ (t.head h) = { s.head h with camera := { (s.head h).camera with
          forming := (s.head h).camera.forming ++ [s.staged h (nextGeneration (s.head h).camera.newest)] } }
      ∧ (∀ k, k ≠ h → t.head k = s.head k) ∧ t.out.getLast? = some (.answer p 0 []) ∧ ({ s with heads := t.heads } : State).Reports t := by
  have hreports := Reports_trans (Reports_mirror (s.commit h) (0x6100 + h) 17 [1]) (Reports_answer _ p 0 [])
  refine ⟨_, commit_accepted hh htakes, ?_, fun k hk => ?_, by simp [State.answer], ?_⟩
  · rw [head_of_heads hreports.heads]
    exact head_onCamera_self hrange _
  · rw [head_of_heads hreports.heads]
    exact head_onCamera_other hk _
  · rw [hreports.heads]
    exact hreports

/-! #### FEATURE_LOG_BLOCK_READ (R279) -/

theorem featureLogBlockRead_accepted {s : State} {p : Path} (htakes : s.Takes p (s.readGate 0x6001 2)) :
    exec (.featureLogBlockRead p) s = .next (s.logRead.answer p 0 s.logBlock.flatten) := by
  simp only [exec, execFeatureLogBlockRead, accepted_in_turn htakes (c := .featureLogBlockRead p) (rank_of_path rfl)]

/-- A read that returns a record moves CURSOR, and the lines it took are no longer noted as unread. -/
theorem logRead_eq {s : State} (hblock : s.logBlock ≠ []) :
    s.logRead = { s.setReg 0x6001 1 ((s.logFrom + s.logBlock.length : Nat) : Int) with dram := s.logRead.dram } := by
  have hn : s.logBlock.length ≠ 0 := fun h0 => hblock (List.eq_nil_of_length_eq_zero h0)
  simp only [State.logRead, if_neg hn]

theorem featureLogBlockRead_moves_cursor {s : State} {p : Path} (htakes : s.Takes p (s.readGate 0x6001 2)) (hblock : s.logBlock ≠ []) :
    ∃ t, exec (.featureLogBlockRead p) s = .next t
      ∧ t.out = s.out ++ [.answer p 0 s.logBlock.flatten] ∧ t.reg 0x6001 1 = (s.logFrom + s.logBlock.length : Nat)
      ∧ s.KeepsRegs t [regKey 0x6001 1] ∧ t = { s with regs := t.regs, dram := t.dram, out := t.out } := by
  refine ⟨_, featureLogBlockRead_accepted htakes, ?_⟩
  rw [logRead_eq hblock]
  exact ⟨rfl, reg_setReg_self _ _ _ _, KeepsRegs_setReg s _ _ _ List.mem_cons_self, rfl⟩

/-- Settles O48: each of the six commands by its own lemma, above. -/
theorem sieveCommandsComplete : Obligations.SieveCommandsComplete := by
  refine ⟨fun s pipe d h f p hpipe hfree hnext hgen hmeets => ?_, featureRecordHandover_hands_over,
    fun s h f hf => archiveCopyComplete_queues hf, fun s p h hh hrange htakes => commit_forms_generation hh hrange htakes,
    fun s a rest harchive => ⟨_, archiveMessageSend_sends harchive, ?_⟩,
    fun s p htakes hblock => featureLogBlockRead_moves_cursor htakes hblock⟩
  · have hmem := nextFrame_mem hnext
    have hframes := startPass_frames (in_range_of_frame hmem) pipe f false
    refine ⟨_, pipelineDispatch_begins_pass hpipe hfree hnext hgen hmeets, ?_, ?_, ?_, fun k hk => ?_, rfl⟩
    · simp [State.startPass, onPipe_sieve, hpipe]
    · rw [hframes]
      exact List.mem_map.2 ⟨f, hmem, if_pos rfl⟩
    · rw [hframes, List.length_map]
    · exact startPass_other s hk pipe f false
  · have hreports := Reports_publish { s with sieve := { s.sieve with archive := rest } } 3 0x38 false a
    refine ⟨hreports.sieve, ?_, ?_⟩
    all_goals rw [hreports.sieve]
    exact hreports

end Sys2Proof.Machine

/-! ### The end of a pass (R259, R261, R268, R274, R279) -/

namespace Sys2Proof.Machine

/-! #### The feature record (R259) -/

@[simp] theorem length_leBytes (n v : Nat) : (leBytes n v).length = n := by
  induction n generalizing v with
  | zero => rfl
  | succ n ih => rw [leBytes, List.length_cons, ih]

theorem length_featureRecord (h : HeadNo) (f : CamFrame) (g : Generation) (c : Camera) (x : Features) (mask angle done : Nat) :
    (featureRecord h f g c x mask angle done).length = 64 := by
  simp [featureRecord, leBytesInt]

/-! #### The evaluation of a pass leaves the buffers of every head and the size of the feature log -/

/-- The MiB of the feature log. -/
def State.logMiB (s : State) : Nat := s.dram.logMiB

/-- The buffered frames of a head, and the size of the feature log. -/
def State.buffers (s : State) (k : HeadNo) : List CamFrame × Nat := ((s.head k).camera.frames, s.logMiB)

theorem buffers_of_parts {s t : State} (hheads : t.heads = s.heads) (hsize : t.logMiB = s.logMiB) (k : HeadNo) :
    t.buffers k = s.buffers k := by
  rw [State.buffers, head_of_heads hheads, hsize, State.buffers]

theorem logMiB_of_dram {s t : State} (h : t.dram = s.dram) : t.logMiB = s.logMiB := by rw [State.logMiB, h, State.logMiB]

theorem buffers_onCamera (s : State) (h : HeadNo) {f : Camera → Camera} (hf : ∀ c, (f c).frames = c.frames) (k : HeadNo) :
    (s.onCamera h f).buffers k = s.buffers k := by
  rw [State.buffers, onCamera_keeps (fun x => x.camera.frames) (fun x => hf x.camera), State.buffers]
  rfl

theorem acceptWrite_logMiB (s : State) (area datum : Nat) (data : List Byte) : (s.acceptWrite area datum data).logMiB = s.logMiB := by
  rw [State.logMiB, acceptWrite_writes, State.logMiB]

theorem writeDefect_logMiB (s : State) (r : DefectRecord) : (s.writeDefect r).logMiB = s.logMiB := by
  unfold State.writeDefect
  split
  · rfl
  · rw [logMiB_of_dram (Reports_publish _ _ _ _ _).dram, acceptWrite_logMiB]
    rfl

theorem foldl_logMiB {α : Type} {f : State → α → State} (h : ∀ t a, (f t a).part State.logMiB = t.part State.logMiB) (l : List α)
    (s : State) : (l.foldl f s).logMiB = s.logMiB := foldl_keeps State.logMiB h l s

theorem writeParts_logMiB (s : State) (h cause : Nat) (ps : List OutPart) : (s.writeParts h cause ps).logMiB = s.logMiB := by
  simp [State.writeParts, foldl_logMiB, writeDefect_logMiB]

@[simp] theorem writeParts_buffers (s : State) (h cause : Nat) (ps : List OutPart) (k : HeadNo) :
    (s.writeParts h cause ps).buffers k = s.buffers k :=
  buffers_of_parts (by simp) (writeParts_logMiB s h cause ps) k

@[simp] theorem writeRun_buffers (s : State) (h cause : Nat) (fs : List RunFrame) (k : HeadNo) :
    (s.writeRun h cause fs).buffers k = s.buffers k := writeParts_buffers _ _ _ _ _

@[simp] theorem setLeaf_buffers (s : State) (reg bit : Nat) (k : HeadNo) : (s.setLeaf reg bit).buffers k = s.buffers k :=
  buffers_of_parts (by simp) (logMiB_of_dram (by simp)) k

@[simp] theorem bump_buffers (s : State) (index sub : Nat) (k : HeadNo) : (s.bump index sub).buffers k = s.buffers k := rfl

@[simp] theorem passEnds_buffers (s : State) (pipe cycles : Nat) (k : HeadNo) : (s.passEnds pipe cycles).buffers k = s.buffers k := rfl

@[simp] theorem endDrops_buffers (s : State) (h : HeadNo) (f : CamFrame) (k : HeadNo) : (s.endDrops h f).buffers k = s.buffers k := by
  unfold State.endDrops
  split
  · rw [State.flushDrops, writeRun_buffers]
    exact buffers_onCamera s h (by intro; rfl) k
  · rfl

@[simp] theorem countPass_buffers (s : State) (h : HeadNo) (only : Bool) (k : HeadNo) : (s.countPass h only).buffers k = s.buffers k := by
  unfold State.countPass
  split <;> simp

@[simp] theorem restartCount_frames (c : Camera) : c.restartCount.frames = c.frames := by
  unfold Camera.restartCount
  split <;> rfl

@[simp] theorem windowFor_frames (c : Camera) (f : CamFrame) : (c.windowFor f).frames = c.frames := by
  unfold Camera.windowFor
  (repeat' split) <;> simp

@[simp] theorem endWindow_buffers (s : State) (h : HeadNo) (g : Generation) (k : HeadNo) : (s.endWindow h g).buffers k = s.buffers k := by
  unfold State.endWindow
  extract_lets c bins powers flags t u
  split
  · rfl
  · have ht : t.buffers k = s.buffers k := buffers_onCamera s h (by intro; rfl) k
    have hu : u.buffers k = s.buffers k := (setLeaf_buffers t _ _ k).trans ht
    split
    · exact ht
    · split
      · exact (writeRun_buffers u _ _ _ k).trans hu
      · exact hu

@[simp] theorem flicker_buffers (s : State) (h : HeadNo) (f : CamFrame) (x : Features) (k : HeadNo) :
    (s.flicker h f x).buffers k = s.buffers k := by
  rw [State.flicker, endWindow_buffers]
  refine buffers_onCamera s h (fun c => ?_) k
  exact windowFor_frames c f

@[simp] theorem flushOutliers_buffers (s : State) (h : HeadNo) (k : HeadNo) : (s.flushOutliers h).buffers k = s.buffers k := by
  unfold State.flushOutliers
  extract_lets c t
  have ht : t.buffers k = s.buffers k := buffers_onCamera s h (by intro; rfl) k
  split <;> simp [ht]

@[simp] theorem outlierFrame_buffers (s : State) (h : HeadNo) (f : CamFrame) (mask : Nat) (k : HeadNo) :
    (s.outlierFrame h f mask).buffers k = s.buffers k := by
  rw [State.outlierFrame, buffers_onCamera _ _ (by intro; rfl), setLeaf_buffers, bump_buffers]

@[simp] theorem closedParts_buffers (s : State) (h k : HeadNo) : (s.closedParts h).buffers k = s.buffers k := by
  unfold State.closedParts
  extract_lets x ps
  split
  · split
    · rfl
    · rw [writeParts_buffers]
      exact buffers_onCamera s h (by intro; rfl) k
  · rfl

@[simp] theorem evaluateOutliers_buffers (s : State) (h : HeadNo) (f : CamFrame) (mask : Nat) (k : HeadNo) :
    (s.evaluateOutliers h f mask).buffers k = s.buffers k := by
  unfold State.evaluateOutliers
  split
  · exact buffers_onCamera s h restartCount_frames k
  · split <;> simp

/-- The state in which a pass is counted and its frame evaluated, with the features and the outliers found. -/
def State.evaluated (s : State) (pipe : Nat) (h : HeadNo) (f : CamFrame) (x : Features) (mask : Nat) : State :=
  ((((s.passEnds pipe (passCycles f.format f.featuresOnly)).endDrops h f).countPass h f.featuresOnly).flicker h f x).evaluateOutliers h f mask

section
variable (s : State) (pipe : Nat) (h : HeadNo) (f : CamFrame) (x : Features) (mask : Nat)

theorem evaluated_buffers (k : HeadNo) : (s.evaluated pipe h f x mask).buffers k = s.buffers k := by simp [State.evaluated]

theorem evaluated_sieve :
    (s.evaluated pipe h f x mask).sieve = (s.passEnds pipe (passCycles f.format f.featuresOnly)).sieve := by simp [State.evaluated]

end

theorem passEnds_frees {s : State} {pipe : Nat} {p : Pipeline} (hpipe : s.sieve.pipes[pipe]? = some p) (cycles : Nat) :
    ((s.passEnds pipe cycles).sieve.pipes[pipe]?).map (fun q => q.busy) = some none := by
  simp [State.passEnds, onPipe_sieve, hpipe]

/-! #### The record placed (R261, R279) -/

theorem logFeature_pipes (s : State) (bytes : List Byte) : (s.logFeature bytes).sieve.pipes = s.sieve.pipes := by
  simp only [State.logFeature, frame_acceptWrite]

theorem logFeature_newest {s : State} (hsize : 0 < s.logMiB) (bytes : List Byte) :
    (s.logFeature bytes).sieve.log.getLast? = some bytes := by
  have hkept : ¬ (s.sieve.log ++ [bytes]).length ≤ (s.sieve.log ++ [bytes]).length - s.dram.logMiB * 16384 := by
    have hroom : 0 < s.dram.logMiB := hsize
    rw [List.length_append, List.length_singleton]
    omega
  simp only [State.logFeature, frame_acceptWrite, List.getLast?_drop, if_neg hkept, List.getLast?_concat]

/-- A record that a head keeps as its last, handed over at its deadline unless its pass was features-only. -/
def State.keepRecord (s : State) (h : HeadNo) (f : CamFrame) (g : Generation) (bytes : List Byte) : State :=
  s.onCamera h (fun c => { c with
    lastRecord := bytes, held := if f.featuresOnly then c.held else c.held ++ [⟨g.deadline f.startEt, bytes⟩] })

theorem placeRecord_eq (s : State) (h : HeadNo) (f : CamFrame) (g : Generation) (bytes : List Byte) : s.placeRecord h f g bytes =
    if 0 < g.featureDec ∧ f.seq % g.featureDec = 0 then ((s.logFeature bytes).keepRecord h f g bytes).publish 2 0x37 false bytes
    else (s.logFeature bytes).keepRecord h f g bytes := rfl

theorem Reports_placeRecord (s : State) (h : HeadNo) (f : CamFrame) (g : Generation) (bytes : List Byte) :
    ((s.logFeature bytes).keepRecord h f g bytes).Reports (s.placeRecord h f g bytes) := by
  rw [placeRecord_eq]
  split
  · exact Reports_publish _ _ _ _ _
  · exact Reports_refl _

/-- A record placed: it is the newest of the log and the last of its head; the buffers and the pipelines stay. -/
theorem placeRecord_places {s : State} {h : HeadNo} (hh : h < s.heads.length) (hsize : 0 < s.logMiB) (f : CamFrame) (g : Generation)
    (bytes : List Byte) : ((s.placeRecord h f g bytes).head h).camera.frames = (s.head h).camera.frames
      ∧ ((s.placeRecord h f g bytes).head h).camera.lastRecord = bytes
      ∧ (s.placeRecord h f g bytes).sieve.log.getLast? = some bytes
      ∧ (s.placeRecord h f g bytes).sieve.pipes = s.sieve.pipes := by
  have hreports := Reports_placeRecord s h f g bytes
  have hheads : (s.logFeature bytes).heads = s.heads := by simp
  have hhead : (s.placeRecord h f g bytes).head h = ((s.logFeature bytes).keepRecord h f g bytes).head h := head_of_heads hreports.heads h
  have hsieve : (s.placeRecord h f g bytes).sieve = (s.logFeature bytes).sieve := hreports.sieve
  rw [hhead, hsieve, State.keepRecord, head_onCamera_self (by rw [hheads]; exact hh), head_of_heads hheads]
  exact ⟨rfl, rfl, logFeature_newest hsize bytes, logFeature_pipes s bytes⟩

/-! #### PROCESSING_COMPLETE -/

/-- The state in which the frame of a pass is evaluated and its record placed; what the pass took of free numbers is taken. -/
def State.recorded (s : State) (pipe : Nat) (h : HeadNo) (f : CamFrame) (x : Features) (mask : Nat) (record : List Byte) (fresh : Nat) :
    State :=
  { (s.evaluated pipe h f x mask).placeRecord h f f.params record with fresh := fresh }

/-- A pass that ends: its frame is evaluated, a record of 64 bytes is placed, and the buffer is archived or freed. -/
theorem passDone_eq (s : State) (pipe : Nat) (h : HeadNo) (f : CamFrame) : ∃ x mask record fresh status, record.length = 64
    ∧ s.passDone pipe h f = (s.recorded pipe h f x mask record fresh).archiveOrFree h f f.params status :=
  ⟨_, _, _, _, _, length_featureRecord _ _ _ _ _ _ _ _, rfl⟩

theorem archiveOrFree_unselected {g : Generation} (hdec : g.archiveDec = 0) (s : State) (h : HeadNo) (f : CamFrame) (status : Nat) :
    s.archiveOrFree h f g status = s.bufferFreed h f := by
  simp [State.archiveOrFree, hdec, State.bufferFreed]

section
variable {s : State} {pipe : Nat} {h : HeadNo} {f : CamFrame} {p : Pipeline} (hpipe : s.sieve.pipes[pipe]? = some p)
  (hf : f ∈ (s.head h).camera.frames) (hsize : 0 < s.logMiB)
include hpipe hf hsize

/-- Before the buffer is freed it holds what it did, the record is in its places and the pipeline is free. -/
theorem recorded_places (x : Features) (mask : Nat) (record : List Byte) (fresh : Nat) :
    ((s.recorded pipe h f x mask record fresh).head h).camera.frames = (s.head h).camera.frames
      ∧ ((s.recorded pipe h f x mask record fresh).head h).camera.lastRecord = record
      ∧ (s.recorded pipe h f x mask record fresh).sieve.log.getLast? = some record
      ∧ ((s.recorded pipe h f x mask record fresh).sieve.pipes[pipe]?).map (fun q => q.busy) = some none := by
  obtain ⟨hframes, hmib⟩ := Prod.mk.inj (evaluated_buffers s pipe h f x mask h)
  have hh : h < (s.evaluated pipe h f x mask).heads.length := in_range_of_frame (by rw [hframes]; exact hf)
  obtain ⟨hkept, hlast, hnewest, hpipes⟩ := placeRecord_places hh (by rw [hmib]; exact hsize) f f.params record
  refine ⟨hkept.trans hframes, hlast, hnewest, ?_⟩
  show (((s.evaluated pipe h f x mask).placeRecord h f f.params record).sieve.pipes[pipe]?).map (fun q => q.busy) = some none
  rw [hpipes, evaluated_sieve, passEnds_frees hpipe]

theorem passDone_of_unselected (hdec : f.params.archiveDec = 0) : ∃ record : List Byte, record.length = 64
      ∧ ((s.passDone pipe h f).sieve.pipes[pipe]?).map (fun q => q.busy) = some none
      ∧ ((s.passDone pipe h f).head h).camera.frames = (s.head h).camera.frames.erase f
      ∧ (s.passDone pipe h f).sieve.log.getLast? = some record ∧ ((s.passDone pipe h f).head h).camera.lastRecord = record := by
  obtain ⟨x, mask, record, fresh, status, hlength, hdone⟩ := passDone_eq s pipe h f
  obtain ⟨hframes, hlast, hnewest, hfree⟩ := recorded_places hpipe hf hsize x mask record fresh
  have hh : h < (s.recorded pipe h f x mask record fresh).heads.length := in_range_of_frame (by rw [hframes]; exact hf)
  rw [hdone, archiveOrFree_unselected hdec]
  refine ⟨record, hlength, hfree, ?_, hnewest, ?_⟩
  · rw [frames_bufferFreed hh, hframes]
  · exact (onCamera_keeps (fun x => x.camera.lastRecord) (fun _ => rfl) _ h h).trans hlast

end

/-- Settles O49: the frame found is the one whose pass ends, and it is not selected for the archive. -/
theorem cameraPassComplete : Obligations.CameraPassComplete := by
  intro s pipe p h f hpipe hbusy hf hdone hdec hsize
  have hexec : exec (.processingComplete pipe) s = .next (s.passDone pipe h f) := by
    simp only [exec, execProcessingComplete, hpipe, Option.bind_some, hbusy, hf, if_pos hdone]
  obtain ⟨r, hlength, hpipes, hframes, hlog, hlast⟩ := passDone_of_unselected hpipe (List.mem_of_find?_eq_some hf) hsize hdec
  exact ⟨_, r, hexec, hpipes, hframes, hlog, hlength, hlast, by simp, by simp, by simp, by simp⟩

end Sys2Proof.Machine

/-! ### A head link lost in the middle of a camera frame (R245, R360, R462) -/

namespace Sys2Proof.Machine

/-- A SHADOW whose head 0, in OPERATION, is sending a camera frame. -/
def State.shadowReceiving : State :=
  { State.reset with
    twin.role := .shadow
    heads := [{ Head.initial with
      link.state := .operation
      camera.frames := [{ state := .receiving, seq := 1, gen := 0, params := Generation.initial, format := 0, startEt := 0, pixels := []
                          late := false, featuresOnly := false, doneAt := 0, status := 0, mid := ⟨none, 0, 0, 0, 0, 0, 0, false⟩ }] }] }

/-- The lock lost, the frame in reception is dropped, and DROPS (0x6220:04) of the head counts it. -/
theorem shadowReceiving_drops : State.shadowReceiving.reg 0x6220 4 = 0
    ∧ (outcomeState .shadowReceiving (exec (.uplinkLockLoss 0) .shadowReceiving)).reg 0x6220 4 = 1 := by
  decide +kernel

/-- Refutes O32: of the values stored, the statement lets a SHADOW's lost link move only LOSSES and THERMAL_VALID; a camera frame in
reception is lost with the link (R245, reason 3), and DROPS of the head counts it. -/
theorem not_headLinkCommandsComplete : ¬ Obligations.HeadLinkCommandsComplete := by
  rintro ⟨-, -, -, hshadow, -⟩
  obtain ⟨t, hexec, -, -, -, -, hreports⟩ := hshadow .shadowReceiving 0 rfl rfl
  have hkept : t.reg 0x6220 4 = State.shadowReceiving.reg 0x6220 4 := hreports.regs (regKey 0x6220 4) (by decide)
  obtain ⟨hnone, hone⟩ := shadowReceiving_drops
  rw [hexec] at hone
  have hcounted : t.reg 0x6220 4 = 1 := hone
  omega

end Sys2Proof.Machine

/-! ### Channels and lanes of the control engine (R285 to R312) -/

namespace Sys2Proof.Machine

/-! #### One channel of a head -/

/-- A channel that differs from a fresh one is one of a head of the device. -/
theorem chan_in_range {s : State} {h : HeadNo} {b : Nat} (hne : s.chan h b ≠ Channel.initial) :
    h < s.heads.length ∧ b < (s.head h).channels.length := by
  constructor
  · refine head_in_range fun heq => hne ?_
    rw [State.chan, heq]
    exact List.getElem?_getD_replicate_default_eq _ 8 b
  · by_contra hout
    exact hne (List.getD_eq_default _ _ (Nat.le_of_not_lt hout))

theorem chan_onChan_self {s : State} {h : HeadNo} {b : Nat} (hh : h < s.heads.length) (hb : b < (s.head h).channels.length)
    (f : Channel → Channel) : (s.onChan h b f).chan h b = f (s.chan h b) := by
  simp [State.chan, State.onChan, head_onHead_self hh, List.getD_eq_getElem?_getD, hb]

theorem chan_onChan_other (s : State) (h : HeadNo) {b c : Nat} (hne : c ≠ b) (f : Channel → Channel) :
    (s.onChan h b f).chan h c = s.chan h c := by
  by_cases hh : h < s.heads.length
  · simp [State.chan, State.onChan, head_onHead_self hh, List.getD_eq_getElem?_getD, hne.symm]
  · simp [State.chan, State.head, State.onChan, State.onHead, List.getD_eq_getElem?_getD, Nat.le_of_not_lt hh]

theorem head_onChan_other (s : State) {h k : HeadNo} (hne : k ≠ h) (b : Nat) (f : Channel → Channel) :
    (s.onChan h b f).head k = s.head k :=
  head_onHead_other hne _

/-! #### LANE_DISPATCH (R303, R304, R311, R312) -/

/-- The state in which a lane has taken a piece of its work. -/
def State.workTaken (s : State) (lane : Nat) (w : LaneWork) : State :=
  { s with engine := { s.engine with lanes := s.engine.lanes.modify lane (fun (x : Lane) => { x with waiting := removeFirst w x.waiting }) } }

/-- The cycles that a piece of work keeps its lane busy (R312): those of an update are what it computes. -/
def State.workCycles (s : State) (lane : Nat) (w : LaneWork) : Nat :=
  match w with
  | .update et h b l sh => ((s.workTaken lane w).update et h b l sh).2
  | .missing _ _ _ => 0
  | .outer _ _ _ _ => 4

theorem laneDispatch_runs {s : State} {lane : Nat} {x : Lane} {w : LaneWork} (hx : s.engine.lanes[lane]? = some x)
    (hfree : x.freeAt ≤ s.et) (hw : nextWork x.waiting = some w) : exec (.laneDispatch lane) s = .next (s.runLane lane w) := by
  simp only [exec, execLaneDispatch, hx, if_pos hfree, hw]

/-- Whatever its work, the lane is busy for the cycles of that work, which waits no more. -/
theorem runLane_busy {s : State} {lane : Nat} {x : Lane} (hx : s.engine.lanes[lane]? = some x) (w : LaneWork) :
    ((s.runLane lane w).engine.lanes[lane]?).map (fun y => (y.freeAt, y.waiting))
      = some (s.et + laneTicks (s.workCycles lane w), removeFirst w x.waiting) := by
  cases w with
  | update et h b l sh => simp [State.runLane, State.workCycles, State.workTaken, hx]
  | missing et h b => simp [State.runLane, State.workCycles, hx]
  | outer et h b record => simp [State.runLane, State.workCycles, hx]

theorem runLane_outer_heads (s : State) (lane : Nat) (et : Tick) (h : HeadNo) (b : Nat) (record : List Byte) :
    (s.runLane lane (.outer et h b record)).heads = (s.outer et h b record).heads := rfl

theorem runLane_outer_regs (s : State) (lane : Nat) (et : Tick) (h : HeadNo) (b : Nat) (record : List Byte) :
    s.KeepsRegs (s.runLane lane (.outer et h b record)) [regKey 0x7001 9] :=
  KeepsRegs_trans (KeepsRegs_of_eq _ rfl) (KeepsRegs_setReg _ _ _ _ List.mem_cons_self)

/-- An outer update waits at its channel with its step and bound, of the law in force at its ET. -/
theorem outer_waits {s : State} {h : HeadNo} {b : Nat} (hh : h < s.heads.length) (hb : b < (s.head h).channels.length) (et : Tick)
    (record : List Byte) {l : Law} (hl : l = s.law ((s.chan h b).lawAt et)) :
    ((s.outer et h b record).chan h b).oWaiting = (s.chan h b).oWaiting
      ++ [(et, l.ko.mul (sat (l.featureTarget - (featureOf record l.feature : Nat))), l.outerLimit)] := by
  subst hl
  rw [State.outer, chan_onChan_self hh hb]

/-! #### DARK_CAPTURE (R287) -/

/-- A head whose capture has begun on every channel, where its link is in OPERATION. -/
def Head.capturing (x : Head) : Head :=
  if x.link.state = .operation then { x with channels := x.channels.map (fun c => { c with darkSums := some (0, 0, 0) }) } else x

theorem capturing_idempotent (x : Head) : x.capturing.capturing = x.capturing := by
  by_cases hx : x.link.state = .operation <;> simp [Head.capturing, hx]

theorem head_captureDark (s : State) (h k : HeadNo) : (s.captureDark h).head k = if k = h then (s.head k).capturing else s.head k := by
  unfold State.captureDark
  by_cases hop : (s.head h).link.state = .operation
  · have hh : h < s.heads.length := head_in_range fun heq => by rw [heq] at hop; cases hop
    by_cases hk : k = h
    · subst hk
      rw [if_pos hop, if_pos rfl, head_onHead_self hh, Head.capturing, if_pos hop]
    · rw [if_pos hop, if_neg hk, head_onHead_other hk]
  · rw [if_neg hop]
    split
    · subst k
      rw [Head.capturing, if_neg hop]
    · rfl

theorem head_foldl_captureDark (l : List HeadNo) (s : State) (k : HeadNo) :
    (l.foldl State.captureDark s).head k = if k ∈ l then (s.head k).capturing else s.head k := by
  induction l generalizing s with
  | nil => rfl
  | cons h l ih =>
    rw [List.foldl_cons, ih, head_captureDark]
    by_cases hk : k = h <;> by_cases hl : k ∈ l <;> simp [hk, hl, capturing_idempotent]

theorem captureAll_heads_only (s : State) : s.captureAll = { s with heads := s.captureAll.heads } := by
  refine List.foldlRecOn (motive := fun t => t = { s with heads := t.heads }) (List.range 32) State.captureDark
    (rfl : s = { s with heads := s.heads }) fun t ht h _ => ?_
  rw [ht]
  unfold State.captureDark
  split <;> rfl

/-- An accepted write that a PRIMARY's partner is told of and that is answered: besides its work it only reports. -/
theorem mirrored_answer_reports (done : State) (p : Path) (index sub : Nat) (data : List Byte) :
    done.Reports ((done.mirror index sub data).answer p 0 []) :=
  Reports_trans (Reports_mirror done index sub data) (Reports_answer _ p 0 [])

theorem answer_last (s : State) (p : Path) (abort : Nat) (data : List Byte) :
    (s.answer p abort data).out.getLast? = some (.answer p abort data) := by
  simp [State.answer]

theorem darkCapture_accepted {s : State} {p : Path} (htakes : s.Takes p (orElse (s.writeGate p 0x7000 6)
      (orElse (numberTest 0x7000 6 (leBytes 1 1)) (refuseIf (!s.dev.state.captures) .conditions)))) :
    exec (.darkCapture p 1) s = .next ((s.captureAll.mirror 0x7000 6 (leBytes 1 1)).answer p 0 []) :=
  congrArg Host.Outcome.next (accepted_in_turn htakes (c := .darkCapture p 1) (rank_of_path rfl) _ _)

theorem darkCapture_captures {s : State} {p : Path} (htakes : s.Takes p (orElse (s.writeGate p 0x7000 6)
      (orElse (numberTest 0x7000 6 (leBytes 1 1)) (refuseIf (!s.dev.state.captures) .conditions)))) :
    ∃ t, exec (.darkCapture p 1) s = .next t
      ∧ (∀ h, h < 32 → (s.head h).link.state = .operation → ∀ c ∈ (t.head h).channels, c.darkSums = some (0, 0, 0))
      ∧ (∀ h, (s.head h).link.state ≠ .operation → t.head h = s.head h) ∧ t.out.getLast? = some (.answer p 0 [])
      ∧ ({ s with heads := t.heads } : State).Reports t := by
  have hreports := mirrored_answer_reports s.captureAll p 0x7000 6 (leBytes 1 1)
  refine ⟨_, darkCapture_accepted htakes, fun h hh hop c hc => ?_, fun h hop => ?_, answer_last _ _ _ _, ?_⟩
  · rw [head_of_heads hreports.heads, State.captureAll, head_foldl_captureDark, if_pos (List.mem_range.2 hh), Head.capturing,
      if_pos hop] at hc
    obtain ⟨d, -, rfl⟩ := List.mem_map.1 hc
    rfl
  · rw [head_of_heads hreports.heads, State.captureAll, head_foldl_captureDark, Head.capturing, if_neg hop, ite_self]
  · rw [hreports.heads, ← captureAll_heads_only]
    exact hreports

/-! #### DARK_CAPTURE_COMPLETE (R287) -/

/-- A channel whose capture is complete: the means of its samples are its baseline. -/
def Channel.captured (c : Channel) (n l sh : Nat) : Channel :=
  { c with darkL := meanOf l n, darkS := meanOf sh n, darkValid := true, darkSums := none }

theorem darkCaptureComplete_eq {s : State} {h b n l sh : Nat} (hsums : (s.chan h b).darkSums = some (n, l, sh))
    (hn : n = s.regN 0x7000 4) : exec (.darkCaptureComplete h b) s = .next (s.onChan h b (fun c => c.captured n l sh)) := by
  simp only [exec, execDarkCaptureComplete, hsums, if_pos hn]
  rfl

theorem darkCaptureComplete_sets_baseline {s : State} {h b n l sh : Nat} (hsums : (s.chan h b).darkSums = some (n, l, sh))
    (hn : n = s.regN 0x7000 4) : ∃ t, exec (.darkCaptureComplete h b) s = .next t ∧ t.chan h b = (s.chan h b).captured n l sh
      ∧ (∀ k, k ≠ h → t.head k = s.head k) ∧ (∀ c, c ≠ b → t.chan h c = s.chan h c) ∧ t = { s with heads := t.heads } := by
  obtain ⟨hh, hb⟩ := chan_in_range (s := s) (h := h) (b := b) fun heq => by rw [heq] at hsums; cases hsums
  exact ⟨_, darkCaptureComplete_eq hsums hn, chan_onChan_self hh hb _, fun k hk => head_onChan_other s hk b _,
    fun c hc => chan_onChan_other s h hc _, rfl⟩

/-! #### LOOP_ENABLE, LAW_WRITE and SAMPLE_RATE_SWITCH (R295, R297, R339) -/

theorem loopEnable_accepted {s : State} {p : Path} {h sub v : Nat} (hh : h < 32)
    (htakes : s.Takes p (orElse (s.writeGate p (0x7100 + h) sub) (numberTest (0x7100 + h) sub (leBytes 1 v)))) :
    exec (.loopEnable p h sub v) s
      = .next (((s.setReg (0x7100 + h) sub (v % 2 : Nat)).mirror (0x7100 + h) sub (leBytes 1 v)).answer p 0 []) := by
  have hobject : refuseIf (decide (32 ≤ h)) .noObject = none := by simp [refuseIf, hh]
  simp only [exec, execLoopEnable, hobject]
  exact congrArg Host.Outcome.next (accepted_in_turn htakes (c := .loopEnable p h sub v) (rank_of_path rfl) _ _)

theorem loopEnable_stores {s : State} {p : Path} {h sub v : Nat} (hh : h < 32)
    (htakes : s.Takes p (orElse (s.writeGate p (0x7100 + h) sub) (numberTest (0x7100 + h) sub (leBytes 1 v)))) :
    ∃ t, exec (.loopEnable p h sub v) s = .next t ∧ t.reg (0x7100 + h) sub = (v % 2 : Nat) ∧ t.out.getLast? = some (.answer p 0 [])
      ∧ s.ReportsWith t [regKey (0x7100 + h) sub] := by
  refine ⟨_, loopEnable_accepted hh htakes, ?_, answer_last _ _ _ _, ?_⟩
  · exact (reg_of_regs (by simp [State.answer]) _ _).trans (reg_setReg_self s _ _ _)
  · exact ReportsWith_trans (ReportsWith_setReg s _ _ _ List.mem_cons_self) (ReportsWith_of_Reports _ (mirrored_answer_reports _ p _ _ _))

/-- The state in which a law is stored and its WRITES counted. -/
def State.lawStored (s : State) (law : Nat) (data : List Byte) : State := (s.setBlob (0x7010 + law) 1 data).bump (0x7010 + law) 2

theorem lawWrite_accepted {s : State} {p : Path} {law sub : Nat} {data : List Byte} (htakes : s.Takes p (s.lawRefusal p law sub data)) :
    exec (.lawWrite p law sub data) s = .next (((s.lawStored law data).mirror (0x7010 + law) 1 data).answer p 0 []) :=
  congrArg Host.Outcome.next (accepted_in_turn htakes (c := .lawWrite p law sub data) (rank_of_path rfl) _ _)

theorem blob_of_blobs {s t : State} (h : t.blobs = s.blobs) (i a : Nat) : t.blob i a = s.blob i a := by
  rw [State.blob, h, State.blob]

theorem lawWrite_stores {s : State} {p : Path} {law sub : Nat} {data : List Byte} (htakes : s.Takes p (s.lawRefusal p law sub data)) :
    ∃ t, exec (.lawWrite p law sub data) s = .next t ∧ t.blob (0x7010 + law) 1 = data
      ∧ t.reg (0x7010 + law) 2 = counterNext (regKey (0x7010 + law) 2) (s.reg (0x7010 + law) 2) 1
      ∧ (∀ i j, regKey i j ≠ regKey (0x7010 + law) 1 → t.blob i j = s.blob i j) ∧ t.out.getLast? = some (.answer p 0 [])
      ∧ ({ s with blobs := t.blobs } : State).ReportsWith t [regKey (0x7010 + law) 2] := by
  have hreports := mirrored_answer_reports (s.lawStored law data) p (0x7010 + law) 1 data
  have hblobs : (((s.lawStored law data).mirror (0x7010 + law) 1 data).answer p 0 []).blobs = (s.setBlob (0x7010 + law) 1 data).blobs :=
    hreports.blobs
  refine ⟨_, lawWrite_accepted htakes, ?_, ?_, fun i j hij => ?_, answer_last _ _ _ _, ?_⟩
  · rw [blob_of_blobs hblobs, blob_setBlob_self]
  · exact (reg_of_regs (s := s.lawStored law data) (by simp [State.answer]) _ _).trans
      (reg_bump_self (s.setBlob (0x7010 + law) 1 data) _ _)
  · rw [blob_of_blobs hblobs, blob_setBlob_other s data hij]
  · rw [hblobs]
    exact ReportsWith_trans (ReportsWith_bump (s.setBlob (0x7010 + law) 1 data) _ _ List.mem_cons_self) (ReportsWith_of_Reports _ hreports)

theorem sampleRateSwitch_due {s : State} {c : RateChange} (hc : s.engine.rateChanges = [c]) (hdue : c.at_ ≤ s.et) :
    exec .sampleRateSwitch s = .next { s with engine := { s.engine with rate := c.rate, rateChanges := [] } } := by
  simp [exec, execSampleRateSwitch, Engine.rateAt, hc, hdue]

theorem sampleRateSwitch_early {s : State} {c : RateChange} (hc : s.engine.rateChanges = [c]) (hearly : s.et < c.at_) :
    exec .sampleRateSwitch s = .next s := by
  have hrate : s.engine.rateAt s.et = s.engine.rate := by simp [Engine.rateAt, hc, hearly]
  have hwaiting : s.engine.rateChanges.filter (fun c => decide (s.et < c.at_)) = s.engine.rateChanges := by simp [hc, hearly]
  simp only [exec, execSampleRateSwitch, hrate, hwaiting]

/-- Settles O50: a lane is busy for the cycles of its work; the dark capture, the two writes and the rate each by their own lemmas. -/
theorem controlCommandsComplete : Obligations.ControlCommandsComplete := by
  refine ⟨fun s lane x w hx hfree hw => ?_, fun s p htakes => darkCapture_captures htakes,
    fun s h b n l sh hsums hn => darkCaptureComplete_sets_baseline hsums hn, fun s p h sub v hh htakes => loopEnable_stores hh htakes,
    fun s p law sub data htakes => lawWrite_stores htakes, fun s c hc => ⟨sampleRateSwitch_due hc, sampleRateSwitch_early hc⟩⟩
  refine ⟨_, s.workCycles lane w, laneDispatch_runs hx hfree hw, runLane_busy hx w, by simp, by simp, by simp, by simp,
    fun et h b record houter hh hb => ?_⟩
  subst houter
  have hheads := runLane_outer_heads s lane et h b record
  refine ⟨rfl, fun l hl => ?_, fun k hk => ?_, runLane_outer_regs s lane et h b record⟩
  · rw [State.chan, head_of_heads hheads]
    exact outer_waits hh hb et record hl
  · rw [head_of_heads hheads]
    exact head_onChan_other s hk b _

end Sys2Proof.Machine

/-! ### An uplink frame taken in (R327, R329, R352, R354, R357, R360) -/

namespace Sys2Proof.Machine

/-! #### The link of a head -/

theorem head_onLink_self {s : State} {h : HeadNo} (hh : h < s.heads.length) (f : HeadLink → HeadLink) :
    (s.onLink h f).head h = { s.head h with link := f (s.head h).link } := head_onHead_self hh _

theorem head_onLink_other {s : State} {h k : HeadNo} (hne : k ≠ h) (f : HeadLink → HeadLink) : (s.onLink h f).head k = s.head k :=
  head_onHead_other hne _

@[simp] theorem length_onLink (s : State) (h : HeadNo) (f : HeadLink → HeadLink) : (s.onLink h f).heads.length = s.heads.length :=
  length_onHead s h _

theorem onLink_onLink (s : State) (h : HeadNo) (f g : HeadLink → HeadLink) :
    (s.onLink h f).onLink h g = s.onLink h (fun l => g (f l)) := by
  simp only [State.onLink, State.onHead, List.modify_modify_eq]
  rfl

/-- A change that leaves the link of the head as it is changes nothing. -/
theorem onLink_of_fixed {s : State} {h : HeadNo} {f : HeadLink → HeadLink} (hf : f (s.head h).link = (s.head h).link) :
    s.onLink h f = s := by
  have hheads : (s.onLink h f).heads = s.heads := by
    refine List.ext_getElem? fun k => ?_
    rw [State.onLink, onHead_heads, List.getElem?_modify]
    rcases hx : s.heads[k]? with _ | x
    · rfl
    · by_cases hk : h = k
      · subst hk
        have hlink : f x.link = x.link := by simpa [State.head, List.getD_eq_getElem?_getD, hx] using hf
        simp [hlink]
      · simp [hk]
  calc s.onLink h f = { s with heads := (s.onLink h f).heads } := rfl
    _ = s := by rw [hheads]

/-! #### What differs beside the heads -/

/-- A later state that, besides the heads, differs by reports and the listed values only. -/
def State.ReportsBesideHeads (s t : State) (keys : List Nat) : Prop := ({ s with heads := t.heads } : State).ReportsWith t keys

theorem besideHeads_of_ReportsWith {s t : State} {ks : List Nat} (h : s.ReportsWith t ks) : s.ReportsBesideHeads t ks :=
  { h with heads := rfl }

theorem besideHeads_trans {s t u : State} {ks : List Nat} (h : s.ReportsBesideHeads t ks) (g : t.ReportsBesideHeads u ks) :
    s.ReportsBesideHeads u ks :=
  have h' : ({ s with heads := u.heads } : State).ReportsWith { t with heads := u.heads } ks := { h with heads := rfl }
  ReportsWith_trans h' g

theorem besideHeads_onLink (s : State) (h : HeadNo) (f : HeadLink → HeadLink) (ks : List Nat) :
    s.ReportsBesideHeads (s.onLink h f) ks := ReportsWith_refl (s.onLink h f) ks

/-! #### The polarity of the pair (R329) -/

theorem polarity_of_sound {l : HeadLink} {chars : List Nat} {bs : List Byte} (hsound : frameSound (l.upright chars) = some bs) :
    l.polarity chars = l := by
  simp [HeadLink.polarity, hsound]

theorem polarity_of_unsound {l : HeadLink} {chars : List Nat} (hinverse : frameSound (invertChars (l.upright chars)) = none) :
    l.polarity chars = l := by
  simp [HeadLink.polarity, hinverse]

/-- With every bit inverted the frame is sound: the pair is inverted. -/
theorem polarity_of_inverse_sound {l : HeadLink} {chars : List Nat} {bs : List Byte} (hstate : l.state = .acquire)
    (hplain : l.inverted = false) (hunsound : frameSound chars = none) (hinverse : frameSound (invertChars chars) = some bs) :
    l.polarity chars = { l with inverted := true } := by
  have hupright : l.upright chars = chars := by simp [HeadLink.upright, hplain]
  simp [HeadLink.polarity, hstate, hplain, hupright, hunsound, hinverse]

section
variable {s : State} {h : Nat} {c : Nat} {chars : List Nat} {arrival : Int}

theorem uplinkFrameReceived_eq (hh : h < 32) :
    exec (.uplinkFrameReceived h c chars arrival) s = .next (s.uplink h (c :: chars) arrival) :=
  congrArg Host.Outcome.next (if_pos hh)

/-- A frame that shows nothing new of the polarity is taken in as the pair stands. -/
theorem uplink_of_polarity (hpolarity : (s.head h).link.polarity chars = (s.head h).link) :
    s.uplink h chars arrival = s.uplinkFrame h (frameSound ((s.head h).link.upright chars)) arrival := by
  have hsame : s.onLink h (fun l => l.polarity chars) = s := onLink_of_fixed hpolarity
  rw [State.uplink, hsame]

theorem uplink_of_sound {bs : List Byte} (hsound : frameSound ((s.head h).link.upright chars) = some bs) :
    s.uplink h chars arrival = s.uplinkFrame h (some bs) arrival := by
  rw [uplink_of_polarity (polarity_of_sound hsound), hsound]

/-- The link with its polarity turned over, and the frame as it then reads. -/
theorem uplink_of_inverse_sound {bs : List Byte} (hrange : h < s.heads.length) (hstate : (s.head h).link.state = .acquire)
    (hplain : (s.head h).link.inverted = false) (hunsound : frameSound chars = none) (hinverse : frameSound (invertChars chars) = some bs) :
    s.uplink h chars arrival = (s.onLink h (fun l => l.polarity chars)).uplinkFrame h (some bs) arrival := by
  rw [State.uplink, head_onLink_self hrange, polarity_of_inverse_sound hstate hplain hunsound hinverse, HeadLink.upright, if_pos rfl,
    hinverse]

end

/-! #### A frame that reports nothing, or STATUS (R354, R364) -/

theorem reported_of_silent {bs : List Byte} (hconflict : (leAt bs 0 1).testBit 5 = false) (hstatus : upAuxType bs ≠ 5)
    (hoptics : upAuxType bs ≠ 6) (s : State) (h u : Nat) : s.reported h u bs = s := by
  simp [State.reported, State.auxFrame, hconflict, hstatus, hoptics]

theorem reported_of_status {bs : List Byte} (hconflict : (leAt bs 0 1).testBit 5 = false) (hstatus : upAuxType bs = 5)
    (s : State) (h u : Nat) : s.reported h u bs = s.headStatus h (upAux bs) := by
  simp [State.reported, State.auxFrame, hconflict, hstatus]

/-- A STATUS payload in its place, its reserved bits zero (R7). -/
def HeadLink.withStatus (aux : Nat) (l : HeadLink) : HeadLink := { l with status := aux / 65536 * 65536 + aux % 128 }

theorem headStatus_heads (s : State) (h : HeadNo) (aux : Nat) :
    (s.headStatus h aux).heads = (s.onLink h (HeadLink.withStatus aux)).heads := by
  unfold State.headStatus
  dsimp only
  split
  · rfl
  · exact (Reports_setLeaf _ _ _).heads

theorem headStatus_besideHeads (s : State) (h : HeadNo) (aux : Nat) : s.ReportsBesideHeads (s.headStatus h aux) [] := by
  refine besideHeads_trans (besideHeads_onLink s h (HeadLink.withStatus aux) []) (besideHeads_of_ReportsWith ?_)
  unfold State.headStatus
  dsimp only
  split
  · exact Reports_refl _
  · exact Reports_setLeaf _ _ _

/-- A change of the low five bits is reported. -/
theorem headStatus_leaf {s : State} {h : HeadNo} {aux : Nat} (hchange : (s.head h).link.status % 32 ≠ aux % 32) :
    (leafAt (s.headStatus h aux).leaves (0x2480 + h) 4).isSome = true := by
  rw [State.headStatus, if_neg hchange]
  exact leafAt_setLeaf_self _ _ _

/-! #### A frame in ACQUIRE (R327, R357, R360) -/

/-- What a frame in ACQUIRE makes of the link: the eighth sound one in a row leads to ALIGN. -/
def HeadLink.afterAcquire (l : HeadLink) (sound : Bool) (lo : Nat) : HeadLink :=
  if (l.acquired sound lo).good = 8 then { (l.acquired sound lo).entered .align with nextFrame := (l.acquired sound lo).nextFrame }
  else l.acquired sound lo

theorem inAcquire_eq (s : State) (h : HeadNo) (sound : Bool) (bs : List Byte) :
    s.inAcquire h sound bs = s.onLink h (fun _ => (s.head h).link.afterAcquire sound (upFrameLo bs)) := rfl

theorem link_inAcquire {s : State} {h : HeadNo} (hrange : h < s.heads.length) (sound : Bool) (bs : List Byte) :
    ((s.inAcquire h sound bs).head h).link = (s.head h).link.afterAcquire sound (upFrameLo bs) := by
  rw [inAcquire_eq, head_onLink_self hrange]

theorem head_inAcquire_other (s : State) {h k : HeadNo} (hne : k ≠ h) (sound : Bool) (bs : List Byte) :
    (s.inAcquire h sound bs).head k = s.head k := head_onLink_other hne _

theorem afterAcquire_of_unsound (l : HeadLink) (lo : Nat) : l.afterAcquire false lo = { l with good := 0 } := rfl

theorem acquired_of_sound (l : HeadLink) (lo : Nat) : l.acquired true lo =
    { l with good := if 0 < l.good ∧ lo = l.nextFrame then l.good + 1 else 1, nextFrame := (lo + 1) % 65536 } := rfl

theorem afterAcquire_of_ne {l : HeadLink} {sound : Bool} {lo : Nat} (hgood : (l.acquired sound lo).good ≠ 8) :
    l.afterAcquire sound lo = l.acquired sound lo := if_neg hgood

theorem afterAcquire_of_eighth {l : HeadLink} {sound : Bool} {lo : Nat} (hgood : (l.acquired sound lo).good = 8) :
    l.afterAcquire sound lo = { (l.acquired sound lo).entered .align with nextFrame := (l.acquired sound lo).nextFrame } := if_pos hgood

/-- The polarity found outlives the passage to ALIGN. -/
theorem afterAcquire_inverted (l : HeadLink) (lo : Nat) : (l.afterAcquire true lo).inverted = l.inverted := by
  by_cases hgood : (l.acquired true lo).good = 8
  · rw [afterAcquire_of_eighth hgood]
    change (l.inverted && true && true) = l.inverted
    simp only [Bool.and_true]
  · rw [afterAcquire_of_ne hgood, acquired_of_sound]

theorem afterAcquire_nextFrame (l : HeadLink) (lo : Nat) : (l.afterAcquire true lo).nextFrame = (lo + 1) % 65536 := by
  by_cases hgood : (l.acquired true lo).good = 8
  · rw [afterAcquire_of_eighth hgood, acquired_of_sound]
  · rw [afterAcquire_of_ne hgood, acquired_of_sound]

section
variable {s : State} {h : Nat} {c : Nat} {chars : List Nat} {bs : List Byte} {arrival : Int}

theorem uplinkFrame_acquire_sound (hstate : (s.head h).link.state = .acquire) (hconflict : (leAt bs 0 1).testBit 5 = false)
    (hstatus : upAuxType bs ≠ 5) (hoptics : upAuxType bs ≠ 6) : s.uplinkFrame h (some bs) arrival = s.inAcquire h true bs := by
  simp [State.uplinkFrame, hstate, State.trained, reported_of_silent hconflict hstatus hoptics]

theorem uplinkFrame_acquire_unsound (hstate : (s.head h).link.state = .acquire) :
    s.uplinkFrame h none arrival = (s.countInvalid h).inAcquire h false [] := by
  simp [State.uplinkFrame, hstate, State.trained]

theorem acquire_counts_sound (hh : h < 32) (hrange : h < s.heads.length) (hstate : (s.head h).link.state = .acquire)
    (hsound : frameSound ((s.head h).link.upright (c :: chars)) = some bs) (hconflict : (leAt bs 0 1).testBit 5 = false)
    (hstatus : upAuxType bs ≠ 5) (hoptics : upAuxType bs ≠ 6) :
    ∃ t n, exec (.uplinkFrameReceived h c chars arrival) s = .next t
      ∧ n = (if 0 < (s.head h).link.good ∧ upFrameLo bs = (s.head h).link.nextFrame then (s.head h).link.good + 1 else 1)
      ∧ (n ≠ 8 → (t.head h).link = { (s.head h).link with good := n, nextFrame := (upFrameLo bs + 1) % 65536 })
      ∧ (n = 8 → (t.head h).link.state = .align ∧ (t.head h).link.good = 0 ∧ (t.head h).link.nextFrame = (upFrameLo bs + 1) % 65536)
      ∧ (∀ k, k ≠ h → t.head k = s.head k) ∧ t = { s with heads := t.heads } := by
  have hexec : exec (.uplinkFrameReceived h c chars arrival) s = .next (s.inAcquire h true bs) := by
    rw [uplinkFrameReceived_eq hh, uplink_of_sound hsound, uplinkFrame_acquire_sound hstate hconflict hstatus hoptics]
  refine ⟨_, ((s.head h).link.acquired true (upFrameLo bs)).good, hexec, rfl, fun hn => ?_, fun hn => ?_,
    fun k hk => head_inAcquire_other s hk true bs, rfl⟩
  · rw [link_inAcquire hrange, afterAcquire_of_ne hn, acquired_of_sound]
  · rw [link_inAcquire hrange, afterAcquire_of_eighth hn]
    exact ⟨rfl, rfl, rfl⟩

theorem countInvalid_reports (s : State) (h : HeadNo) : s.ReportsWith (s.countInvalid h) [regKey (0x8040 + h) 6] :=
  ReportsWith_trans (ReportsWith_bump s _ _ List.mem_cons_self) (ReportsWith_of_Reports _ (Reports_setLeaf _ _ _))

theorem countInvalid_counts (s : State) (h : HeadNo) :
    (s.countInvalid h).reg (0x8040 + h) 6 = counterNext (regKey (0x8040 + h) 6) (s.reg (0x8040 + h) 6) 1 := by
  rw [State.countInvalid, reg_of_regs (s := s.bump (0x8040 + h) 6) (by simp), reg_bump_self]

theorem acquire_counts_unsound (hh : h < 32) (hrange : h < s.heads.length) (hstate : (s.head h).link.state = .acquire)
    (hunsound : frameSound ((s.head h).link.upright (c :: chars)) = none)
    (hinverse : frameSound (invertChars ((s.head h).link.upright (c :: chars))) = none) :
    ∃ t, exec (.uplinkFrameReceived h c chars arrival) s = .next t
      ∧ (t.head h).link = { (s.head h).link with good := 0 } ∧ (∀ k, k ≠ h → t.head k = s.head k)
      ∧ t.reg (0x8040 + h) 6 = counterNext (regKey (0x8040 + h) 6) (s.reg (0x8040 + h) 6) 1
      ∧ ({ s with heads := t.heads } : State).ReportsWith t [regKey (0x8040 + h) 6] := by
  have hexec : exec (.uplinkFrameReceived h c chars arrival) s = .next ((s.countInvalid h).inAcquire h false []) := by
    rw [uplinkFrameReceived_eq hh, uplink_of_polarity (polarity_of_unsound hinverse), hunsound, uplinkFrame_acquire_unsound hstate]
  have hheads : (s.countInvalid h).heads = s.heads := by simp
  refine ⟨_, hexec, ?_, fun k hk => ?_, ?_, ?_⟩
  · rw [link_inAcquire (by rwa [hheads]), afterAcquire_of_unsound, head_of_heads hheads]
  · rw [head_inAcquire_other _ hk, head_of_heads hheads]
  · rw [reg_of_regs (s := s.countInvalid h) (by simp), countInvalid_counts]
  · exact besideHeads_trans (besideHeads_of_ReportsWith (countInvalid_reports s h)) (besideHeads_onLink _ h _ _)

theorem acquire_turns_polarity (hh : h < 32) (hrange : h < s.heads.length) (hstate : (s.head h).link.state = .acquire)
    (hplain : (s.head h).link.inverted = false) (hunsound : frameSound (c :: chars) = none)
    (hinverse : frameSound (invertChars (c :: chars)) = some bs) (hconflict : (leAt bs 0 1).testBit 5 = false)
    (hstatus : upAuxType bs ≠ 5) (hoptics : upAuxType bs ≠ 6) :
    ∃ t, exec (.uplinkFrameReceived h c chars arrival) s = .next t ∧ (t.head h).link.inverted = true
      ∧ (t.head h).link.nextFrame = (upFrameLo bs + 1) % 65536 ∧ (∀ k, k ≠ h → t.head k = s.head k) ∧ t = { s with heads := t.heads } := by
  have hlink : ((s.onLink h (fun l => l.polarity (c :: chars))).head h).link = { (s.head h).link with inverted := true } := by
    rw [head_onLink_self hrange, polarity_of_inverse_sound hstate hplain hunsound hinverse]
  have hexec : exec (.uplinkFrameReceived h c chars arrival) s
      = .next ((s.onLink h (fun l => l.polarity (c :: chars))).inAcquire h true bs) := by
    rw [uplinkFrameReceived_eq hh, uplink_of_inverse_sound hrange hstate hplain hunsound hinverse,
      uplinkFrame_acquire_sound (by rw [hlink, hstate]) hconflict hstatus hoptics]
  refine ⟨_, hexec, ?_, ?_, fun k hk => ?_, rfl⟩
  · rw [link_inAcquire (by simpa using hrange), afterAcquire_inverted, hlink]
  · rw [link_inAcquire (by simpa using hrange), afterAcquire_nextFrame]
  · rw [head_inAcquire_other _ hk, head_onLink_other hk]

end

/-! #### A STATUS frame in OPERATION (R327, R352, R354, R360) -/

/-- With no slot sent that waits for its report, a DARK_MAP reports none. -/
theorem darkMap_of_none_sent {s : State} {h : Nat} (hsent : (s.head h).link.sent = []) (u map : Nat) : s.darkMap h u map = s := by
  have hlink : s.onLink h (fun l => { l with sent := l.sent.filter (fun k => !(decide (k.frame < u) && decide (u ≤ k.frame + 8))) }) = s :=
    onLink_of_fixed (by rw [hsent, List.filter_nil, ← hsent])
  simp only [State.darkMap, hsent, hlink, List.filter_nil, List.foldl_nil, List.any_nil]
  split <;> rfl

/-- The position parts gathered over a servo period, at a frame that carries none: the first frame of a period begins anew. -/
def HeadLink.noPart (place : Nat) (l : HeadLink) : HeadLink := { l with actParts := if place = 0 then [] else l.actParts }

theorem positionFrame_of_no_part {s : State} {u : Nat} {p : Nat × Nat} (hplace : s.framePlace u ≠ 3) (hpart : 4 < p.1) (h : Nat) :
    s.positionFrame h u (some p) = s.onLink h (HeadLink.noPart (s.framePlace u)) := by
  have hnone : ¬ (1 ≤ p.1 ∧ p.1 ≤ 4) := fun hp => Nat.not_le_of_lt hpart hp.2
  simp only [State.positionFrame, hplace, hnone, false_and, if_false]
  rfl

theorem diodeFrame_of_no_sample {s : State} {h u : Nat} (hsample : sampleIn h (s.engine.rateAt (125 * u)) u = none)
    (pd : Tick → Nat → Option (Nat × Nat)) : s.diodeFrame h u pd = s := by
  simp only [State.diodeFrame, hsample]

theorem cameraFrame_of_no_content {bs : List Byte} (hcamera : leAt bs 1 1 / 64 = 0) (s : State) (h : HeadNo) : s.cameraFrame h bs = s := by
  simp [State.cameraFrame, hcamera]

theorem framePlace_of_regs {s t : State} (hregs : t.regs = s.regs) (u : Nat) : t.framePlace u = s.framePlace u := by
  rw [State.framePlace, State.servoTicks, State.regN, reg_of_regs hregs, State.framePlace, State.servoTicks, State.regN]

/-- The run of invalid frames ended. -/
def HeadLink.heard (l : HeadLink) : HeadLink := { l with bad := 0 }

section
variable {s : State} {h u : Nat} {c : Nat} {chars : List Nat} {bs : List Byte} {arrival : Int}

/-- A valid frame that carries STATUS and neither camera content nor a sample. -/
theorem validFrame_of_status (hrange : h < s.heads.length) (hconflict : (leAt bs 0 1).testBit 5 = false) (hstatus : upAuxType bs = 5)
    (hcamera : leAt bs 1 1 / 64 = 0) (hsent : (s.head h).link.sent = []) (hplace : s.framePlace u ≠ 3)
    (hsample : sampleIn h (s.engine.rateAt (125 * u)) u = none) :
    s.validFrame h u bs = ((s.onLink h HeadLink.heard).headStatus h (upAux bs)).onLink h (HeadLink.noPart (s.framePlace u)) := by
  have hreported : (s.onLink h (fun l => { l with bad := 0 })).reported h u bs = (s.onLink h HeadLink.heard).headStatus h (upAux bs) :=
    reported_of_status hconflict hstatus _ _ _
  have hplaces : ((s.onLink h HeadLink.heard).headStatus h (upAux bs)).framePlace u = s.framePlace u := framePlace_of_regs (by simp) u
  have hnone : (((s.onLink h HeadLink.heard).headStatus h (upAux bs)).head h).link.sent = [] := by
    rw [head_of_heads (headStatus_heads _ _ _), head_onLink_self (by simpa using hrange), head_onLink_self hrange]
    exact hsent
  have hposition := positionFrame_of_no_part (p := (upAuxType bs, upAux bs)) (by rwa [hplaces]) (by simp [hstatus]) h
  rw [State.validFrame, hreported, darkMap_of_none_sent hnone, hposition, hplaces, diodeFrame_of_no_sample (by simpa using hsample), cameraFrame_of_no_content hcamera]

theorem operation_takes_status (hh : h < 32) (hrange : h < s.heads.length) (hstate : (s.head h).link.state = .operation)
    (hu : u = (roundDiv (arrival - 250 - (s.head h).link.delay) 125).toNat)
    (hsound : frameSound ((s.head h).link.upright (c :: chars)) = some bs) (hnumber : upFrameLo bs = u % 65536)
    (hconflict : (leAt bs 0 1).testBit 5 = false) (hstatus : upAuxType bs = 5) (hcamera : leAt bs 1 1 / 64 = 0)
    (hsent : (s.head h).link.sent = []) (hplace : s.framePlace u ≠ 3) (hsample : sampleIn h (s.engine.rateAt (125 * u)) u = none) :
    ∃ t, exec (.uplinkFrameReceived h c chars arrival) s = .next t ∧ (t.head h).link.status = upAux bs / 65536 * 65536 + upAux bs % 128
      ∧ (t.head h).link.bad = 0 ∧ (t.head h).link.state = .operation ∧ (t.head h).path = (s.head h).path ∧ (∀ k, k ≠ h → t.head k = s.head k)
      ∧ ((s.head h).link.status % 32 ≠ upAux bs % 32 → (leafAt t.leaves (0x2480 + h) 4).isSome = true)
      ∧ ({ s with heads := t.heads } : State).Reports t := by
  have hexec : exec (.uplinkFrameReceived h c chars arrival) s = .next (s.validFrame h u bs) := by
    rw [uplinkFrameReceived_eq hh, uplink_of_sound hsound]
    simp [State.uplinkFrame, hstate, State.inOperation, ← hu, hnumber]
  have hheads : (((s.onLink h HeadLink.heard).headStatus h (upAux bs)).onLink h (HeadLink.noPart (s.framePlace u))).heads
      = (s.onLink h (fun l => ((l.heard).withStatus (upAux bs)).noPart (s.framePlace u))).heads := by
    rw [State.onLink, onHead_heads, headStatus_heads, onLink_onLink, ← onHead_heads]
    exact congrArg State.heads (onLink_onLink s h _ _)
  rw [validFrame_of_status hrange hconflict hstatus hcamera hsent hplace hsample] at hexec
  have hself := (head_of_heads hheads h).trans (head_onLink_self hrange _)
  refine ⟨_, hexec, congrArg (fun x => x.link.status) hself, congrArg (fun x => x.link.bad) hself,
    (congrArg (fun x => x.link.state) hself).trans hstate, by rw [hself], fun k hk => ?_, fun hchange => ?_, ?_⟩
  · rw [head_of_heads hheads, head_onLink_other hk]
  · refine headStatus_leaf (s := s.onLink h HeadLink.heard) ?_
    rw [head_onLink_self hrange]
    exact hchange
  · exact besideHeads_trans (besideHeads_onLink s h _ _)
      (besideHeads_trans (headStatus_besideHeads _ h _) (besideHeads_onLink _ h _ _))

end

/-- Settles O43: in ACQUIRE a sound frame, one of neither polarity and one of the other polarity, in OPERATION a STATUS frame, each by
its own lemma. -/
theorem uplinkFrameComplete : Obligations.UplinkFrameComplete :=
  ⟨fun _ _ _ _ _ _ hh hrange hstate hsound hconflict hstatus hoptics =>
      acquire_counts_sound hh hrange hstate hsound hconflict hstatus hoptics,
    fun _ _ _ _ _ hh hrange hstate hunsound hinverse => acquire_counts_unsound hh hrange hstate hunsound hinverse,
    fun _ _ _ _ _ _ hh hrange hstate hplain _ hunsound hinverse hconflict hstatus hoptics =>
      acquire_turns_polarity hh hrange hstate hplain hunsound hinverse hconflict hstatus hoptics,
    fun _ _ _ _ _ _ _ hh hrange hstate hu hsound hnumber hconflict hstatus hcamera hsent hplace hsample =>
      operation_takes_status hh hrange hstate hu hsound hnumber hconflict hstatus hcamera hsent hplace hsample⟩

end Sys2Proof.Machine

/-! ### O4, O5: the canonical form of everything stored

What a step stores it stores by regsPut, blobsPut and leafPut, by leaving out entries, or by copying whole lists that have the form.
State.KeepsForm says so of one operation; a lemma for each operation that stores anything lets the simplifier carry it through the
operations made of them, and through every command. -/

namespace Sys2Proof.Machine

/-! #### The relation and its rules -/

/-- Each of the stored lists has its canonical form in t where it has it in s. What a store takes into flash are the values as
they stand, so the form of flash rests on theirs. -/
abbrev State.KeepsForm (s t : State) : Prop :=
  (RegsOk s.regs → RegsOk t.regs) ∧ (BlobsOk s.blobs → BlobsOk t.blobs)
    ∧ (RegsOk s.regs → BlobsOk s.blobs → FlashOk s.flash → FlashOk t.flash) ∧ (LeavesOk s.leaves → LeavesOk t.leaves)

theorem State.KeepsForm.trans {s t u : State} (h : s.KeepsForm t) (g : t.KeepsForm u) : s.KeepsForm u := by
  obtain ⟨hregs, hblobs, hflash, hleaves⟩ := h
  obtain ⟨gregs, gblobs, gflash, gleaves⟩ := g
  exact ⟨fun a => gregs (hregs a), fun a => gblobs (hblobs a), fun a b c => gflash (hregs a) (hblobs b) (hflash a b c),
    fun a => gleaves (hleaves a)⟩

theorem State.KeepsForm.stored {s t : State} (h : s.KeepsForm t) (hs : s.Stored) : t.Stored := by
  obtain ⟨hregs, hblobs, hflash, hleaves⟩ := h
  exact ⟨hregs hs.regs, hblobs hs.blobs, hflash hs.regs hs.blobs hs.flash, hleaves hs.leaves⟩

@[simp] theorem regsOk_ite {c : Prop} [Decidable c] {a b : List (Nat × Int)} (ha : RegsOk a) (hb : RegsOk b) :
    RegsOk (if c then a else b) := by split <;> assumption

@[simp] theorem blobsOk_ite {c : Prop} [Decidable c] {a b : List (Nat × List Byte)} (ha : BlobsOk a) (hb : BlobsOk b) :
    BlobsOk (if c then a else b) := by split <;> assumption

@[simp] theorem flashOk_ite {c : Prop} [Decidable c] {a b : FlashStore} (ha : FlashOk a) (hb : FlashOk b) :
    FlashOk (if c then a else b) := by split <;> assumption

@[simp] theorem leavesOk_ite {c : Prop} [Decidable c] {a b : List Leaf} (ha : LeavesOk a) (hb : LeavesOk b) :
    LeavesOk (if c then a else b) := by split <;> assumption

/-- What every step of a fold keeps, the fold keeps. -/
theorem foldl_preserves {α : Type} {P : State → Prop} {f : State → α → State} (hf : ∀ t a, P t → P (f t a)) (l : List α)
    {s : State} (hs : P s) : P (l.foldl f s) := by
  induction l generalizing s with
  | nil => exact hs
  | cons a l ih => exact ih (hf s a hs)

@[simp] theorem regsOk_foldl {α : Type} {f : State → α → State} (hf : ∀ t a, RegsOk t.regs → RegsOk (f t a).regs) (l : List α)
    (s : State) (hs : RegsOk s.regs) : RegsOk (l.foldl f s).regs :=
  foldl_preserves (P := fun t => RegsOk t.regs) hf l hs

@[simp] theorem blobsOk_foldl {α : Type} {f : State → α → State} (hf : ∀ t a, BlobsOk t.blobs → BlobsOk (f t a).blobs)
    (l : List α) (s : State) (hs : BlobsOk s.blobs) : BlobsOk (l.foldl f s).blobs :=
  foldl_preserves (P := fun t => BlobsOk t.blobs) hf l hs

@[simp] theorem leavesOk_foldl {α : Type} {f : State → α → State} (hf : ∀ t a, LeavesOk t.leaves → LeavesOk (f t a).leaves)
    (l : List α) (s : State) (hs : LeavesOk s.leaves) : LeavesOk (l.foldl f s).leaves :=
  foldl_preserves (P := fun t => LeavesOk t.leaves) hf l hs

theorem bumpBy_regs (s : State) (i a : Nat) (n : Int) :
    (s.bumpBy i a n).regs = regsPut (regKey i a) (counterNext (regKey i a) (s.reg i a) n) s.regs := rfl

theorem bump_regs (s : State) (i a : Nat) : (s.bump i a).regs = regsPut (regKey i a) (counterNext (regKey i a) (s.reg i a) 1) s.regs := rfl

theorem raiseReg_regs (s : State) (i a : Nat) (v : Int) :
    (s.raiseReg i a v).regs = regsPut (regKey i a) (if s.reg i a < v then v else s.reg i a) s.regs := rfl

/-- Two and three values put at once: the simplifier's side goals reach no deeper than two operations, which is also why the longer
proofs below name a state midway. -/
@[simp] theorem regsOk_put_put {l : List (Nat × Int)} (k k' : Nat) (v v' : Int) (h : RegsOk l) :
    RegsOk (regsPut k v (regsPut k' v' l)) := regsOk_put k v (regsOk_put k' v' h)

@[simp] theorem regsOk_put_put_put {l : List (Nat × Int)} (k k' k'' : Nat) (v v' v'' : Int) (h : RegsOk l) :
    RegsOk (regsPut k v (regsPut k' v' (regsPut k'' v'' l))) := regsOk_put k v (regsOk_put_put k' k'' v' v'' h)

theorem State.KeepsForm.refl (s : State) : s.KeepsForm s := ⟨id, id, fun _ _ => id, id⟩

theorem keepsForm_ite {s a b : State} {c : Prop} [Decidable c] (ha : s.KeepsForm a) (hb : s.KeepsForm b) :
    s.KeepsForm (if c then a else b) := by split <;> assumption

theorem keepsForm_foldl {α : Type} {f : State → α → State} (hf : ∀ (t : State) (a : α), t.KeepsForm (f t a)) (l : List α)
    (s : State) : s.KeepsForm (l.foldl f s) := by
  induction l generalizing s with
  | nil => exact .refl s
  | cons a l ih => exact (hf s a).trans (ih _)

theorem State.KeepsForm.leaves {s t : State} (h : s.KeepsForm t) : LeavesOk s.leaves → LeavesOk t.leaves := h.2.2.2

@[simp] theorem leavesOk_put_put {l : List Leaf} (x y : Leaf) (h : LeavesOk l) : LeavesOk (leafPut x (leafPut y l)) :=
  leavesOk_put x (leavesOk_put y h)

@[simp] theorem lost_lists (s : State) :
    s.lost.regs = [] ∧ s.lost.blobs = [] ∧ s.lost.flash = s.flash.cutShort ∧ s.lost.leaves = [] :=
  ⟨rfl, rfl, rfl, rfl⟩

@[simp] theorem keepsForm_judged (s : State) (p : Path) (r : Option Abort) (d : State) (b : List Byte) (h : s.KeepsForm d) :
    s.KeepsForm (s.judged p r d b) := by
  unfold State.judged
  split
  · exact ⟨id, id, fun _ _ => id, id⟩
  · exact h

@[simp] theorem keepsForm_access (s : State) (p : Path) (r : Option Abort) (d : State) (b : List Byte) (h : s.KeepsForm d) :
    s.KeepsForm (s.access p r d b) := by
  unfold State.access
  split
  · exact keepsForm_judged s p r d b h
  · exact ⟨id, id, fun _ _ => id, id⟩

@[simp] theorem keepsForm_inTurn (s : State) (c : Instr) (d : State) (h : s.KeepsForm d) : s.KeepsForm (s.inTurn c d) := by
  unfold State.inTurn
  split
  · exact h
  · exact ⟨id, id, fun _ _ => id, id⟩

@[simp] theorem keepsForm_inTurnOf (s : State) (p : Path) (c : Instr) (d : State) (h : s.KeepsForm d) : s.KeepsForm (s.inTurnOf p c d) := by
  unfold State.inTurnOf
  split
  · exact keepsForm_inTurn s c d h
  · exact h

/-- An access in its turn keeps the form where what it does keeps it. -/
theorem keepsForm_taken {s d : State} (h : s.KeepsForm d) (p : Path) (c : Instr) (r : Option Abort) (b : List Byte) :
    s.KeepsForm (s.inTurnOf p c (s.access p r d b)) := keepsForm_inTurnOf s p c _ (keepsForm_access s p r d b h)

@[simp] theorem keepsForm_nextState (s : State) (f : State → Host.Outcome State Fault Refusal)
    (hf : ∀ t : State, t.KeepsForm (outcomeState t (f t))) : s.KeepsForm (nextState s f) := by
  have hg := hf { s with pending := [], deferred := [] }
  unfold nextState
  cases hft : f { s with pending := [], deferred := [] } with
  | next t => rw [hft] at hg; exact hg
  | fault _ => exact .refl s
  | refused _ => exact .refl s

/-! The operations follow in the order of the model, under the names of its modules. -/

/-! #### Ops -/

@[simp] theorem keepsForm_setReg (s : State) (index sub : Nat) (v : Int) : s.KeepsForm (s.setReg index sub v) := by
  simp +contextual [State.KeepsForm, State.setReg]

@[simp] theorem keepsForm_setBlob (s : State) (index sub : Nat) (v : List Byte) : s.KeepsForm (s.setBlob index sub v) := by
  simp +contextual [State.KeepsForm, State.setBlob]

@[simp] theorem keepsForm_bumpBy (s : State) (index sub : Nat) (n : Int) : s.KeepsForm (s.bumpBy index sub n) := by
  simp +contextual [State.KeepsForm, State.bumpBy]

@[simp] theorem keepsForm_bump (s : State) (index sub : Nat) : s.KeepsForm (s.bump index sub) := by
  simp +contextual [State.KeepsForm, State.bump]

@[simp] theorem keepsForm_raiseReg (s : State) (index sub : Nat) (v : Int) : s.KeepsForm (s.raiseReg index sub v) := by
  simp +contextual [State.KeepsForm, State.raiseReg]

@[simp] theorem keepsForm_setLeaf (s : State) (reg bit : Nat) : s.KeepsForm (s.setLeaf reg bit) := by
  simp +contextual [State.KeepsForm, State.setLeaf]

@[simp] theorem keepsForm_record (s : State) (type : Nat) (payload : List Byte) : s.KeepsForm (s.record type payload) := by
  simp +contextual [State.KeepsForm, State.record]

@[simp] theorem keepsForm_enqueue (s : State) (e : EventRecord) : s.KeepsForm (s.enqueue e) := by
  simp +contextual [State.KeepsForm, State.enqueue]

@[simp] theorem keepsForm_enqueueAll (s : State) (l : List EventRecord) : s.KeepsForm (s.enqueueAll l) := by
  simp +contextual [State.KeepsForm, State.enqueueAll]

/-! #### Access -/

@[simp] theorem keepsForm_grantService (s : State) (p : Path) : s.KeepsForm (s.grantService p) := by
  simp +contextual [State.KeepsForm, State.grantService]

@[simp] theorem keepsForm_wrongResponse (s : State) (p : Path) : s.KeepsForm (s.wrongResponse p) := by
  simp +contextual [State.KeepsForm, State.wrongResponse]

@[simp] theorem keepsForm_judgeResponse (s : State) (p : Path) (data : List Byte) : s.KeepsForm (s.judgeResponse p data) := by
  unfold State.judgeResponse
  (repeat' split) <;> simp +contextual [State.KeepsForm]

@[simp] theorem keepsForm_execResponse (path : Path) (data : List Byte) (s s0 : State) :
    s.KeepsForm (outcomeState s0 (execResponse path data s)) := by
  unfold execResponse
  (repeat' split) <;> simp +contextual [State.KeepsForm]

@[simp] theorem keepsForm_execAuthLockoutExpiry (s s0 : State) : s.KeepsForm (outcomeState s0 (execAuthLockoutExpiry s)) := by
  simp +contextual [State.KeepsForm, execAuthLockoutExpiry]

@[simp] theorem keepsForm_beginStore (s : State) : s.KeepsForm s.beginStore := by
  refine ⟨id, id, fun hregs hblobs hf => ⟨hf.regs, hf.blobs, fun w hw => ?_⟩, id⟩
  cases hw
  exact ⟨regsOk_filter _ hregs, blobsOk_filter _ hblobs⟩

@[simp] theorem keepsForm_execStore (path : Path) (value : Nat) (s s0 : State) : s.KeepsForm (outcomeState s0 (execStore path value s)) :=
  keepsForm_taken (keepsForm_ite (keepsForm_beginStore s) (.refl s)) _ _ _ _

@[simp] theorem keepsForm_execStoreComplete (good : Bool) (s s0 : State) : s.KeepsForm (outcomeState s0 (execStoreComplete good s)) := by
  simp +contextual [State.KeepsForm, execStoreComplete]

@[simp] theorem keepsForm_eraseStored (s : State) : s.KeepsForm (s.eraseStored) :=
  ⟨id, id, fun _ _ hf => ⟨regsOk_nil, blobsOk_nil, hf.writing⟩, id⟩

@[simp] theorem keepsForm_execRestoreDefaults (path : Path) (value : Nat) (s s0 : State) :
    s.KeepsForm (outcomeState s0 (execRestoreDefaults path value s)) :=
  keepsForm_taken (keepsForm_ite (keepsForm_eraseStored s) (.refl s)) _ _ _ _

/-! #### Bypass -/

@[simp] theorem keepsForm_lowerBypass (s : State) : s.KeepsForm (s.lowerBypass) := by
  simp +contextual [State.KeepsForm, State.lowerBypass]

@[simp] theorem keepsForm_execBypassRaise (s s0 : State) : s.KeepsForm (outcomeState s0 (execBypassRaise s)) := by
  simp +contextual [State.KeepsForm, execBypassRaise]

@[simp] theorem keepsForm_execBypassLossTimeout (s s0 : State) : s.KeepsForm (outcomeState s0 (execBypassLossTimeout s)) := by
  simp +contextual [State.KeepsForm, execBypassLossTimeout]

@[simp] theorem keepsForm_execBypassRetryExpiry (s s0 : State) : s.KeepsForm (outcomeState s0 (execBypassRetryExpiry s)) := by
  simp +contextual [State.KeepsForm, execBypassRetryExpiry]

@[simp] theorem keepsForm_trialFailed (s : State) : s.KeepsForm (s.trialFailed) := by
  simp +contextual [State.KeepsForm, State.trialFailed]

@[simp] theorem keepsForm_execBypassTrialTimeout (s s0 : State) : s.KeepsForm (outcomeState s0 (execBypassTrialTimeout s)) := by
  simp +contextual [State.KeepsForm, execBypassTrialTimeout]

@[simp] theorem keepsForm_writeBypass (s : State) (value : Int) : s.KeepsForm (s.writeBypass value) := by
  unfold State.writeBypass
  (repeat' split) <;> simp +contextual [State.KeepsForm]

@[simp] theorem keepsForm_execBypassEnableWrite (path : Path) (value : Nat) (s s0 : State) :
    s.KeepsForm (outcomeState s0 (execBypassEnableWrite path value s)) :=
  keepsForm_taken (keepsForm_writeBypass s _) _ _ _ _

/-! #### Lines -/

@[simp] theorem keepsForm_activated (s : State) (ch : Nat) : s.KeepsForm (s.activated ch) := by
  simp +contextual [State.KeepsForm, State.activated]

/-! #### Tally -/

@[simp] theorem keepsForm_writeDefect (s : State) (r : DefectRecord) : s.KeepsForm (s.writeDefect r) := by
  unfold State.writeDefect
  (repeat' split) <;> simp +contextual [State.KeepsForm]

/-- The records of a list of works written one after the other. -/
@[simp] theorem keepsForm_writeDefects {α : Type} (f : α → List DefectRecord) (l : List α) (s : State) :
    s.KeepsForm (l.foldl (fun v w => (f w).foldl State.writeDefect v) s) :=
  keepsForm_foldl (fun t w => keepsForm_foldl keepsForm_writeDefect (f w) t) l s

/-- A record written for each of the pieces of each of a list of works. -/
theorem keepsForm_writeEach {α β : Type} (f : α → β → DefectRecord) (m : α → List β) (l : List α) (s : State) :
    s.KeepsForm (l.foldl (fun t p => (m p).foldl (fun u q => u.writeDefect (f p q)) t) s) := by
  apply keepsForm_foldl
  intro t p
  apply keepsForm_foldl
  intro u q
  exact keepsForm_writeDefect u _

@[simp] theorem keepsForm_closeRecords (s : State) (h : HeadNo) (et : Tick) (p : DefectRecord → Bool) :
    s.KeepsForm (s.closeRecords h et p) := by
  simp +contextual [State.KeepsForm, State.closeRecords]

@[simp] theorem keepsForm_grant (s : State) : s.KeepsForm (s.grant) := by
  simp +contextual [State.KeepsForm, State.grant]

@[simp] theorem keepsForm_free (s : State) (bytes : Nat) : s.KeepsForm (s.free bytes) := by
  simp +contextual [State.KeepsForm, State.free]

@[simp] theorem keepsForm_finalise (s : State) (g : Segment) (state : SegState) : s.KeepsForm (s.finalise g state) := by
  simp +contextual [State.KeepsForm, State.finalise]

@[simp] theorem keepsForm_recordBreak (s : State) (g : Segment) (cause head item detail : Nat) :
    s.KeepsForm (s.recordBreak g cause head item detail) := by
  simp +contextual [State.KeepsForm, State.recordBreak]

@[simp] theorem keepsForm_cutItem (s : State) (h : HeadNo) (cause detail : Nat) (slots : List SentSlot) :
    s.KeepsForm (s.cutItem h cause detail slots) := by
  simp only [State.KeepsForm, State.cutItem]
  (repeat' split) <;> simp +contextual

@[simp] theorem keepsForm_abandonRest (s : State) (g : Segment) (h : HeadNo) (cause detail : Nat) :
    s.KeepsForm (s.abandonRest g h cause detail) := by
  simp +contextual [State.KeepsForm, State.abandonRest]

@[simp] theorem keepsForm_abandonPart (s : State) (g : Segment) (cause detail : Nat) (h : HeadNo) :
    s.KeepsForm (s.abandonPart g cause detail h) := by
  unfold State.abandonPart
  extract_lets x done mine t u stand v
  have hu : s.KeepsForm u := by simp +contextual [State.KeepsForm, u, t]
  have hv : s.KeepsForm v := hu.trans (keepsForm_writeDefects _ mine u)
  exact keepsForm_ite hv (hv.trans (keepsForm_abandonRest _ _ _ _ _))

@[simp] theorem keepsForm_cancel (s : State) (cause detail key : Nat) : s.KeepsForm (s.cancel cause detail key) := by
  have hp (g : Segment) : s.KeepsForm ((g.heads.map (fun p => p.head)).foldl (fun u h => u.abandonPart g cause detail h) s) :=
    keepsForm_foldl (fun t h => keepsForm_abandonPart t g cause detail h) _ s
  unfold State.cancel
  split
  · exact .refl s
  · next g _ =>
    split
    · exact .refl s
    · split
      · simp +contextual [State.KeepsForm]
      · split
        · simp +contextual [State.KeepsForm]
        · exact (hp g).trans (by simp +contextual [State.KeepsForm])

@[simp] theorem keepsForm_breakPromise (s : State) (key cause head item detail : Nat) :
    s.KeepsForm (s.breakPromise key cause head item detail) := by
  unfold State.breakPromise
  (repeat' split) <;> simp +contextual [State.KeepsForm]

@[simp] theorem keepsForm_breakWork (s : State) (h cause detail : Nat) (x : HeadPath) (slots : List SentSlot) :
    s.KeepsForm (s.breakWork h cause detail x slots) :=
  keepsForm_foldl (fun v _ => keepsForm_ite (.refl v) (keepsForm_breakPromise v _ _ _ _ _)) _ s

@[simp] theorem keepsForm_cutAndBreak (s : State) (cause detail : Nat) (h : HeadNo) (slots : List SentSlot) :
    s.KeepsForm (s.cutAndBreak cause detail h slots) := by
  simp +contextual [State.KeepsForm, State.cutAndBreak]

@[simp] theorem keepsForm_cancelAll (s : State) (cause detail : Nat) : s.KeepsForm (s.cancelAll cause detail) := by
  simp +contextual [State.KeepsForm, State.cancelAll]

@[simp] theorem keepsForm_cutHead (s : State) (cause : Nat) (h : HeadNo) : s.KeepsForm (s.cutHead cause h) := by
  simp +contextual [State.KeepsForm, State.cutHead]

@[simp] theorem keepsForm_cutHeads (s : State) (cause : Nat) : s.KeepsForm (s.cutHeads cause) := by
  simp +contextual [State.KeepsForm, State.cutHeads]

@[simp] theorem keepsForm_breakAll (s : State) (cause : Nat) : s.KeepsForm (s.breakAll cause) := by
  simp +contextual [State.KeepsForm, State.breakAll]

@[simp] theorem keepsForm_cutAll (s : State) (cause : Nat) : s.KeepsForm (s.cutAll cause) := by
  simp +contextual [State.KeepsForm, State.cutAll]

@[simp] theorem keepsForm_breakRunning (s : State) (cause detail : Nat) : s.KeepsForm (s.breakRunning cause detail) := by
  refine keepsForm_foldl (fun u g => ?_) _ s
  split
  · next x _ =>
    have hp : u.KeepsForm ((x.heads.map (fun p => p.head)).foldl (fun w h => w.abandonPart x cause detail h) u) :=
      keepsForm_foldl (fun t h => keepsForm_abandonPart t x cause detail h) _ u
    exact keepsForm_ite (by simp +contextual [State.KeepsForm]) (hp.trans (by simp +contextual [State.KeepsForm]))
  · exact .refl u

@[simp] theorem keepsForm_suppressWork (s : State) (h : HeadNo) (w : Nat × Nat) (stretch : Option Nat) (cause detail : Nat) :
    s.KeepsForm (s.suppressWork h w stretch cause detail) := by
  simp +contextual [State.KeepsForm, State.suppressWork]

@[simp] theorem keepsForm_flushRunning (s : State) (h : HeadNo) (cause detail : Nat) (slots : List SentSlot) :
    s.KeepsForm (s.flushRunning h cause detail slots) := by
  simp +contextual [State.KeepsForm, State.flushRunning]

/-! #### Axes -/

@[simp] theorem keepsForm_recoatFails (s : State) (m : Nat) : s.KeepsForm (s.recoatFails m) := by
  simp +contextual [State.KeepsForm, State.recoatFails]

@[simp] theorem keepsForm_abortHoming (s : State) (m reason : Nat) : s.KeepsForm (s.abortHoming m reason) := by
  simp +contextual [State.KeepsForm, State.abortHoming]

@[simp] theorem keepsForm_stopAxis (s : State) (m : Nat) : s.KeepsForm (s.stopAxis m) := by
  unfold State.stopAxis
  (repeat' split) <;> simp +contextual [State.KeepsForm]

theorem keepsForm_axisCommand (s : State) (p : Path) (m sub result : Nat) (gate : Option Abort) {d : State} (h : s.KeepsForm d) :
    s.KeepsForm (s.axisCommand p m sub result gate d) := by
  have hd : s.KeepsForm (d.setReg (0x9020 + m) 7 0) := h.trans (keepsForm_setReg _ _ _ _)
  unfold State.axisCommand
  (repeat' split)
  · exact .refl s
  · exact .refl s
  · exact hd
  · exact keepsForm_setReg s _ _ _

@[simp] theorem keepsForm_faultAxis (s : State) (m reason : Nat) : s.KeepsForm (s.faultAxis m reason) :=
  (keepsForm_abortHoming s (s.leaderOf m) 1).trans (by simp +contextual [State.KeepsForm, State.faultAxis])

@[simp] theorem keepsForm_followError (s : State) (m : Nat) : s.KeepsForm (s.followError m) := by
  unfold State.followError
  extract_lets l t
  have ht : s.KeepsForm t := (keepsForm_abortHoming s l 1).trans (by simp +contextual [State.KeepsForm, t])
  split <;> exact ht.trans (by simp +contextual [State.KeepsForm])

@[simp] theorem keepsForm_axesOff (s : State) : s.KeepsForm (s.axesOff) := by
  have ht : s.KeepsForm ((List.range 8).foldl (fun u m => u.abortHoming m 1) s) :=
    keepsForm_foldl (fun v m => keepsForm_abortHoming v m 1) _ s
  unfold State.axesOff
  generalize (List.range 8).foldl (fun u m => u.abortHoming m 1) s = t at ht
  dsimp only
  split
  · exact (ht.trans (by simp +contextual [State.KeepsForm])).trans (keepsForm_recoatFails _ _)
  · simpa [State.KeepsForm] using ht

@[simp] theorem keepsForm_axesStop (s : State) : s.KeepsForm (s.axesStop) := by
  refine keepsForm_foldl (fun t m => ?_) _ s
  split <;> simp +contextual [State.KeepsForm]

@[simp] theorem keepsForm_cancelBelow (s : State) (layer : Nat) : s.KeepsForm (s.cancelBelow layer) := by
  simp +contextual [State.KeepsForm, State.cancelBelow]

@[simp] theorem keepsForm_reportRecoat (s : State) (layer : Nat) : s.KeepsForm (s.reportRecoat layer) := by
  simp +contextual [State.KeepsForm, State.reportRecoat]

/-! #### Transitions -/

@[simp] theorem keepsForm_automatic (s : State) (next : DevState) (cause : Nat) : s.KeepsForm (s.automatic next cause) := by
  simp only [State.KeepsForm, State.automatic]
  (repeat' split) <;> simp +contextual [setLeaf_leaves]

@[simp] theorem keepsForm_goCold (s : State) (cause : Nat) : s.KeepsForm (s.goCold cause) := by
  unfold State.goCold
  extract_lets twin t
  have ht : s.KeepsForm t := by simp +contextual [State.KeepsForm, t]
  exact keepsForm_ite (ht.trans (by simp +contextual [State.KeepsForm])) ht

@[simp] theorem keepsForm_toFault (s : State) (cause : Nat) : s.KeepsForm (s.toFault cause) := by
  unfold State.toFault
  extract_lets t u v
  have hu : s.KeepsForm u := (keepsForm_cutAll s (faultDefect cause)).trans (by simp +contextual [State.KeepsForm, u, t])
  have hv : s.KeepsForm v := keepsForm_ite (hu.trans (keepsForm_axesOff u)) (hu.trans (keepsForm_axesStop u))
  exact keepsForm_ite (hv.trans (keepsForm_goCold v _)) hv

@[simp] theorem keepsForm_faultCause (s : State) (cause : Nat) : s.KeepsForm (s.faultCause cause) := by
  unfold State.faultCause
  (repeat' split) <;> simp +contextual [State.KeepsForm]

@[simp] theorem keepsForm_tripState (s : State) : s.KeepsForm (s.tripState) := by
  simp only [State.KeepsForm, State.tripState]
  (repeat' split) <;> simp +contextual

@[simp] theorem keepsForm_countInhibit (s : State) (et : Tick) : s.KeepsForm (s.countInhibit et) := by
  simp only [State.KeepsForm, State.countInhibit]
  simp +contextual [setReg_regs, bump_regs, setLeaf_leaves]

@[simp] theorem keepsForm_inhibitMove (s : State) : s.KeepsForm (s.inhibitMove) := by
  unfold State.inhibitMove
  (repeat' split) <;> simp +contextual [State.KeepsForm]

@[simp] theorem keepsForm_inhibitState (s : State) : s.KeepsForm (s.inhibitState) := by
  simp +contextual [State.KeepsForm, State.inhibitState]

@[simp] theorem keepsForm_inhibited (s : State) : s.KeepsForm (s.inhibited) := by
  unfold State.inhibited
  extract_lets power t
  have ht : s.KeepsForm (if s.dev.state = .exposing then t.cutAll 0x06 else t.cutHeads 0x06) :=
    keepsForm_ite (keepsForm_cutAll t _) (keepsForm_cutHeads t _)
  exact (ht.trans (keepsForm_countInhibit _ _)).trans (keepsForm_inhibitState _)

/-! #### Calibration -/

@[simp] theorem keepsForm_formEffective (s : State) (index : Nat) : s.KeepsForm (s.formEffective index) := by
  unfold State.formEffective
  (repeat' split) <;> simp +contextual [State.KeepsForm]

@[simp] theorem keepsForm_storeUser (s : State) (index : Nat) (q : Quantity) (data : List Byte) :
    s.KeepsForm (s.storeUser index q data) := by
  unfold State.storeUser
  (repeat' split) <;> simp +contextual [State.KeepsForm]

@[simp] theorem keepsForm_writeUser (s : State) (index : Nat) (data : List Byte) : s.KeepsForm (s.writeUser index data) := by
  unfold State.writeUser
  (repeat' split) <;> simp +contextual [State.KeepsForm]

@[simp] theorem keepsForm_execCalibrationUserWrite (path : Path) (index sub : Nat) (data : List Byte) (s s0 : State) :
    s.KeepsForm (outcomeState s0 (execCalibrationUserWrite path index sub data s)) := by
  unfold execCalibrationUserWrite
  refine keepsForm_inTurnOf _ _ _ _ (keepsForm_ite ?_ ?_)
  · exact keepsForm_access _ _ _ _ _ (keepsForm_writeUser s index data)
  · exact keepsForm_access _ _ _ _ _ (.refl s)

@[simp] theorem keepsForm_formAll (s : State) : s.KeepsForm (s.formAll) := keepsForm_foldl keepsForm_formEffective _ s

/-! #### Camera -/

@[simp] theorem keepsForm_writeParts (s : State) (h cause : Nat) (ps : List OutPart) : s.KeepsForm (s.writeParts h cause ps) := by
  unfold State.writeParts
  exact keepsForm_writeEach (fun (p : OutPart) (q : Tick × Tick) => p.record (s.head h) h cause q.1 q.2)
    (fun (p : OutPart) => spansOf p.first p.last) ps s

@[simp] theorem keepsForm_writeRun (s : State) (h cause : Nat) (fs : List RunFrame) : s.KeepsForm (s.writeRun h cause fs) := by
  simp +contextual [State.KeepsForm, State.writeRun]

@[simp] theorem keepsForm_flushDrops (s : State) (h : HeadNo) : s.KeepsForm (s.flushDrops h) := by
  simp +contextual [State.KeepsForm, State.flushDrops]

@[simp] theorem keepsForm_dropRecord (s : State) (h : HeadNo) (f : RunFrame) (next : Tick) : s.KeepsForm (s.dropRecord h f next) := by
  simp +contextual [State.KeepsForm, State.dropRecord]

@[simp] theorem keepsForm_countDrop (s : State) (h reason : Nat) : s.KeepsForm (s.countDrop h reason) := by
  simp +contextual [State.KeepsForm, State.countDrop]

@[simp] theorem keepsForm_dropFrame (s : State) (h reason : Nat) (m : MidState) (start : Tick) (g : Generation) :
    s.KeepsForm (s.dropFrame h reason m start g) := by
  unfold State.dropFrame
  (repeat' split) <;> simp +contextual [State.KeepsForm]

@[simp] theorem keepsForm_dropBuffer (s : State) (h reason : Nat) (f : CamFrame) : s.KeepsForm (s.dropBuffer h reason f) := by
  simp +contextual [State.KeepsForm, State.dropBuffer]

@[simp] theorem keepsForm_cameraBroken (s : State) (h : HeadNo) : s.KeepsForm (s.cameraBroken h) := by
  unfold State.cameraBroken
  (repeat' split) <;> simp +contextual [State.KeepsForm]

/-! #### Links -/

@[simp] theorem keepsForm_opticsLost (s : State) (h : HeadNo) : s.KeepsForm (s.opticsLost h) := by
  simp only [State.KeepsForm, State.opticsLost]
  (repeat' split) <;> simp +contextual [setReg_regs, setLeaf_leaves]

@[simp] theorem keepsForm_linkLost (s : State) (h : HeadNo) (cause : Nat) : s.KeepsForm (s.linkLost h cause) := by
  unfold State.linkLost
  extract_lets slots n t u
  have ht : s.KeepsForm t := by simp +contextual [State.KeepsForm, t]
  have hu : s.KeepsForm u := ht.trans (by simp +contextual [State.KeepsForm, u])
  exact keepsForm_ite hu (hu.trans (keepsForm_flushRunning u _ _ _ _))

@[simp] theorem keepsForm_linkTo (s : State) (h : HeadNo) (state : LinkState) (cause : Nat) : s.KeepsForm (s.linkTo h state cause) := by
  simp +contextual [State.KeepsForm, State.linkTo]

@[simp] theorem keepsForm_startLinks (s : State) : s.KeepsForm (s.startLinks) :=
  keepsForm_foldl (fun t h => keepsForm_ite (keepsForm_linkTo t h _ _) (.refl t)) _ s

@[simp] theorem keepsForm_stopLinks (s : State) (cause : Nat) : s.KeepsForm (s.stopLinks cause) := by
  simp +contextual [State.KeepsForm, State.stopLinks]

@[simp] theorem keepsForm_tripHead (s : State) (h : HeadNo) : s.KeepsForm (s.tripHead h) := by
  simp +contextual [State.KeepsForm, State.tripHead]

/-! #### Clock -/

@[simp] theorem keepsForm_changeRoot (s : State) (source : Nat) : s.KeepsForm (s.changeRoot source) := by
  unfold State.changeRoot
  (repeat' split) <;> simp +contextual [State.KeepsForm]

@[simp] theorem keepsForm_enterHoldover (s : State) : s.KeepsForm (s.enterHoldover) := by
  unfold State.enterHoldover
  (repeat' split) <;> simp +contextual [State.KeepsForm]

@[simp] theorem keepsForm_leaveHoldover (s : State) (source : Nat) : s.KeepsForm (s.leaveHoldover source) := by
  unfold State.leaveHoldover
  (repeat' split) <;> simp +contextual [State.KeepsForm]

@[simp] theorem keepsForm_evaluateRoot (s : State) : s.KeepsForm (s.evaluateRoot) := by
  simp only [State.KeepsForm, State.evaluateRoot]
  (repeat' split) <;> simp +contextual

@[simp] theorem keepsForm_xoLeaf (s : State) (before : Bool) : s.KeepsForm (s.xoLeaf before) := by
  simp +contextual [State.KeepsForm, State.xoLeaf]

@[simp] theorem keepsForm_afterGate (s : State) (c : ClockUnit) : s.KeepsForm (s.afterGate c) := by
  unfold State.afterGate
  extract_lets t
  have ht : s.KeepsForm t := by simp +contextual [State.KeepsForm, t]
  exact ht.trans (by simp +contextual [State.KeepsForm])

@[simp] theorem keepsForm_execRootGate (offA offB offTwin offXo : Int) (s s0 : State) :
    s.KeepsForm (outcomeState s0 (execRootGate offA offB offTwin offXo s)) := by
  unfold execRootGate
  (repeat' split) <;> simp +contextual [State.KeepsForm]

@[simp] theorem keepsForm_execXoEdgeLoss (s s0 : State) : s.KeepsForm (outcomeState s0 (execXoEdgeLoss s)) := by
  refine keepsForm_inTurn s _ _ (keepsForm_ite (.refl s) ?_)
  exact keepsForm_ite (by simp +contextual [State.KeepsForm]) (by simp +contextual [State.KeepsForm])

@[simp] theorem keepsForm_execHoldoverTimeExpiry (s s0 : State) : s.KeepsForm (outcomeState s0 (execHoldoverTimeExpiry s)) := by
  unfold execHoldoverTimeExpiry
  (repeat' split) <;> simp +contextual [State.KeepsForm]

@[simp] theorem keepsForm_sourceLost (s : State) (source : Nat) : s.KeepsForm (s.sourceLost source) := by
  simp +contextual [State.KeepsForm, State.sourceLost]

@[simp] theorem keepsForm_execPllUnlock (pll : Nat) (s s0 : State) : s.KeepsForm (outcomeState s0 (execPllUnlock pll s)) := 
  keepsForm_inTurn s _ _ (keepsForm_ite (by simp +contextual [State.KeepsForm]) (.refl s))

@[simp] theorem keepsForm_execPllLockRegained (pll : Nat) (s s0 : State) : s.KeepsForm (outcomeState s0 (execPllLockRegained pll s)) := by
  simp +contextual [State.KeepsForm, execPllLockRegained]

@[simp] theorem keepsForm_formFrequency (s : State) (running : Bool) (count : Nat) : s.KeepsForm (s.formFrequency running count) := by
  simp +contextual [State.KeepsForm, State.formFrequency]

@[simp] theorem keepsForm_execFreqMeasurementComplete (running : Bool) (count : Nat) (s s0 : State) :
    s.KeepsForm (outcomeState s0 (execFreqMeasurementComplete running count s)) := by
  simp +contextual [State.KeepsForm, execFreqMeasurementComplete]

@[simp] theorem keepsForm_selectRoot (s : State) (value : Int) : s.KeepsForm (s.selectRoot value) := by
  simp +contextual [State.KeepsForm, State.selectRoot]

/-! #### Slack -/

@[simp] theorem keepsForm_evaluate (s : State) (key : Nat) : s.KeepsForm (s.evaluate key) := by
  unfold State.evaluate
  (repeat' split) <;> simp +contextual [State.KeepsForm]

/-! #### Guard -/

@[simp] theorem keepsForm_countWait (s : State) (st : Stretch) (keepout : Bool) (ts : Nat) : s.KeepsForm (s.countWait st keepout ts) := by
  unfold State.countWait
  (repeat' split) <;> simp +contextual [State.KeepsForm]

@[simp] theorem keepsForm_failEntry (s : State) (h : HeadNo) (r : ItemRun) (k : Nat) (st : Stretch) (b : Tick) (keepout : Bool) :
    s.KeepsForm (s.failEntry h r k st b keepout) := by
  simp +contextual [State.KeepsForm, State.failEntry]

@[simp] theorem keepsForm_applyEntry (s : State) (h : HeadNo) (r : ItemRun) (k : Nat) (st : Stretch) (b : Tick) (v : Bool × Bool) :
    s.KeepsForm (s.applyEntry h r k st b v) := by
  simp +contextual [State.KeepsForm, State.applyEntry]

@[simp] theorem keepsForm_obeyEntry (s : State) (h : HeadNo) (r : ItemRun) (k : Nat) (st : Stretch) (b : Tick) (o : Nat × Nat) :
    s.KeepsForm (s.obeyEntry h r k st b o) := by
  simp +contextual [State.KeepsForm, State.obeyEntry]

@[simp] theorem keepsForm_checkEntry (s : State) (h : HeadNo) : s.KeepsForm (s.checkEntry h) := by
  simp only [State.KeepsForm, State.checkEntry]
  (repeat' split) <;> simp +contextual

@[simp] theorem keepsForm_checksRun (s : State) (b : Tick) (n : Nat) : s.KeepsForm (s.checksRun b n) := by
  induction n generalizing s with
  | zero => exact .refl s
  | succ n ih =>
    unfold State.checksRun
    split
    · exact (keepsForm_checkEntry s _).trans (ih _)
    · exact .refl s

@[simp] theorem keepsForm_entryChecks (s : State) (b : Tick) : s.KeepsForm (s.entryChecks b) := by
  simp +contextual [State.KeepsForm, State.entryChecks]

@[simp] theorem keepsForm_decideRun (plan : State) (b : Tick) (n : Nat) (s : State) : s.KeepsForm (plan.decideRun b n s) := by
  induction n generalizing plan s with
  | zero => exact .refl s
  | succ n ih =>
    unfold State.decideRun
    split
    · exact .refl s
    · split
      · exact .refl s
      · dsimp only
        split
        · exact ih _ s
        · refine .trans ?_ (ih _ _)
          split <;> simp +contextual [State.KeepsForm]

@[simp] theorem keepsForm_decideEntries (s : State) : s.KeepsForm (s.decideEntries) := by
  simp +contextual [State.KeepsForm, State.decideEntries]

@[simp] theorem keepsForm_guardCut (s : State) (h : HeadNo) (cause detail counter bit : Nat) :
    s.KeepsForm (s.guardCut h cause detail counter bit) := by
  simp only [State.KeepsForm, State.guardCut]
  (repeat' split) <;> simp +contextual [bump_regs, setLeaf_leaves]

@[simp] theorem keepsForm_runningPair (s : State) (a b : HeadNo) : s.KeepsForm (s.runningPair a b) := by
  unfold State.runningPair
  (repeat' split) <;> simp +contextual [State.KeepsForm]

@[simp] theorem keepsForm_runningChecks (s : State) : s.KeepsForm (s.runningChecks) := by
  unfold State.runningChecks
  (repeat' split) <;> simp +contextual [State.KeepsForm]

@[simp] theorem keepsForm_keepoutChecks (s : State) : s.KeepsForm (s.keepoutChecks) :=
  keepsForm_ite (.refl s) (keepsForm_foldl (fun t h => keepsForm_ite (keepsForm_guardCut t h _ _ _ _) (.refl t)) _ s)

/-! #### Stitch -/

@[simp] theorem keepsForm_checkTable (s : State) : s.KeepsForm (s.checkTable) := by
  simp only [State.KeepsForm, State.checkTable]
  (repeat' split) <;> simp +contextual [setReg_regs, setLeaf_leaves]

@[simp] theorem keepsForm_writeStitch (s : State) (index sub : Nat) (data : List Byte) : s.KeepsForm (s.writeStitch index sub data) := by
  unfold State.writeStitch
  extract_lets t u
  have ht : s.KeepsForm t := keepsForm_ite (keepsForm_setBlob s _ _ _) (keepsForm_setReg s _ _ _)
  have hu : s.KeepsForm u := keepsForm_ite (ht.trans (keepsForm_formEffective t _)) ht
  refine hu.trans ?_
  split <;> simp +contextual [State.KeepsForm]

@[simp] theorem keepsForm_execStitchTableWrite (path : Path) (index sub : Nat) (data : List Byte) (s s0 : State) :
    s.KeepsForm (outcomeState s0 (execStitchTableWrite path index sub data s)) :=
  keepsForm_taken (keepsForm_writeStitch s _ _ _) _ _ _ _

/-! #### Admit -/

@[simp] theorem keepsForm_noteFailure (s : State) (g : Segment) (r : Refused) : s.KeepsForm (s.noteFailure g r) := by
  simp only [State.KeepsForm, State.noteFailure]
  (repeat' split) <;> simp +contextual [setReg_regs, bump_regs]

@[simp] theorem keepsForm_refuse (s : State) (g : Segment) (r : Refused) : s.KeepsForm (s.refuse g r) := by
  simp +contextual [State.KeepsForm, State.refuse]

@[simp] theorem keepsForm_admitSegment (s : State) (g : Segment) (a : Admission) : s.KeepsForm (s.admitSegment g a) := by
  simp +contextual [State.KeepsForm, State.admitSegment]

@[simp] theorem keepsForm_settleSegment (s : State) (g : Segment) (a : Except Refused Admission) : s.KeepsForm (s.settleSegment g a) := by
  unfold State.settleSegment
  (repeat' split) <;> simp +contextual [State.KeepsForm]

/-! #### Restarting -/

@[simp] theorem keepsForm_failTrial (s : State) (cause : Nat) : s.KeepsForm (s.failTrial cause) := by
  simp only [State.KeepsForm, State.failTrial]
  (repeat' split) <;> simp +contextual [setLeaf_leaves]

@[simp] theorem keepsForm_lost (s : State) : s.KeepsForm (s.lost) :=
  ⟨fun _ => regsOk_nil, fun _ => blobsOk_nil, fun _ _ => flashOk_cutShort, fun _ => leavesOk_nil⟩

@[simp] theorem keepsForm_toAux (s : State) (cause railFault : Nat) : s.KeepsForm (s.toAux cause railFault) := by
  simp only [State.KeepsForm, State.toAux]
  (repeat' split) <;> simp +contextual

@[simp] theorem keepsForm_mainReset (s : State) (cause railFault : Nat) : s.KeepsForm (s.mainReset cause railFault) := by
  unfold State.mainReset
  (repeat' split) <;> simp +contextual [State.KeepsForm]

@[simp] theorem keepsForm_restarted (s : State) : s.KeepsForm (s.restarted) := by
  refine ⟨fun _ => regsOk_nil, fun _ => blobsOk_nil, fun _ _ hf => flashOk_cutShort ?_, fun hl => List.Pairwise.filter _ ?_⟩
  · simpa using hf
  · exact (keepsForm_failTrial s s.dev.cause).leaves hl

/-! #### Firmware -/

@[simp] theorem keepsForm_imageWritten (s : State) (kind : Nat) (bs : List Byte) : s.KeepsForm (s.imageWritten kind bs) := by
  simp +contextual [State.KeepsForm, State.imageWritten]

@[simp] theorem keepsForm_writeImage (s : State) (p : Path) (kind : Nat) (bs : List Byte) (flashGood : Bool) :
    s.KeepsForm (s.writeImage p kind bs flashGood) := by
  unfold State.writeImage
  (repeat' split) <;> simp +contextual [State.KeepsForm]

@[simp] theorem keepsForm_execSfImage (path : Path) (image : List Byte) (flashGood : Bool) (s s0 : State) :
    s.KeepsForm (outcomeState s0 (execSfImage path image flashGood s)) := by
  unfold execSfImage
  (repeat' split) <;> simp +contextual [State.KeepsForm]

@[simp] theorem keepsForm_execMcImage (path : Path) (image : List Byte) (flashGood : Bool) (s s0 : State) :
    s.KeepsForm (outcomeState s0 (execMcImage path image flashGood s)) := by
  unfold execMcImage
  (repeat' split) <;> simp +contextual [State.KeepsForm]

@[simp] theorem keepsForm_writeTrial (s : State) (p : Path) (value : Nat) : s.KeepsForm (s.writeTrial p value) := by
  unfold State.writeTrial
  (repeat' split) <;> simp +contextual [State.KeepsForm]

@[simp] theorem keepsForm_execTrial (path : Path) (value : Nat) (s s0 : State) :
    s.KeepsForm (outcomeState s0 (execTrial path value s)) := by
  unfold execTrial
  (repeat' split) <;> simp +contextual [State.KeepsForm]

@[simp] theorem keepsForm_confirmTrial (s : State) : s.KeepsForm (s.confirmTrial) := by
  simp +contextual [State.KeepsForm, State.confirmTrial]

@[simp] theorem keepsForm_execConfirm (path : Path) (value : Nat) (s s0 : State) :
    s.KeepsForm (outcomeState s0 (execConfirm path value s)) :=
  keepsForm_taken (keepsForm_ite (keepsForm_confirmTrial s) (.refl s)) _ _ _ _

@[simp] theorem keepsForm_takeSlot (s : State) (n : Nat) (fallback : Bool) : s.KeepsForm (s.takeSlot n fallback) := by
  unfold State.takeSlot
  (repeat' split) <;> simp +contextual [State.KeepsForm]

@[simp] theorem keepsForm_judgeBlock (s : State) : s.KeepsForm (s.judgeBlock) := by
  simp only [State.KeepsForm, State.judgeBlock]
  (repeat' split) <;> simp +contextual [setLeaf_leaves]

@[simp] theorem keepsForm_frontToQueue (s : State) : s.KeepsForm (s.frontToQueue) := by
  simp +contextual [State.KeepsForm, State.frontToQueue]

@[simp] theorem keepsForm_dropTorn (s : State) : s.KeepsForm (s.dropTorn) := by
  simp +contextual [State.KeepsForm, State.dropTorn]

/-! #### Recorder -/

@[simp] theorem keepsForm_bedrockFull (s : State) : s.KeepsForm (s.bedrockFull) := by
  simp +contextual [State.KeepsForm, State.bedrockFull]

@[simp] theorem keepsForm_flashOne (s : State) : s.KeepsForm (s.flashOne) := by
  simp +contextual [State.KeepsForm, State.flashOne]

@[simp] theorem keepsForm_flashFailed (s : State) : s.KeepsForm (s.flashFailed) := by
  unfold State.flashFailed
  (repeat' split) <;> simp +contextual [State.KeepsForm]

@[simp] theorem keepsForm_flashAll (n : Nat) (s : State) : s.KeepsForm (State.flashAll n s) := by
  induction n generalizing s with
  | zero => exact .refl s
  | succ n ih => exact (keepsForm_flashOne s).trans (ih _)

@[simp] theorem keepsForm_execRecordFlashWrite (good : Bool) (s s0 : State) :
    s.KeepsForm (outcomeState s0 (execRecordFlashWrite good s)) := by
  simp +contextual [State.KeepsForm, execRecordFlashWrite]

@[simp] theorem keepsForm_execHoursStore (s s0 : State) : s.KeepsForm (outcomeState s0 (execHoursStore s)) := by
  simp +contextual [State.KeepsForm, execHoursStore]

@[simp] theorem keepsForm_execHostRecord (path : Path) (data : List Byte) (s s0 : State) :
    s.KeepsForm (outcomeState s0 (execHostRecord path data s)) :=
  keepsForm_taken (keepsForm_record s _ _) _ _ _ _

@[simp] theorem keepsForm_clearTopsoil (s : State) : s.KeepsForm (s.clearTopsoil) := by
  simp +contextual [State.KeepsForm, State.clearTopsoil]

@[simp] theorem keepsForm_execClearTopsoil (path : Path) (value : Nat) (s s0 : State) :
    s.KeepsForm (outcomeState s0 (execClearTopsoil path value s)) :=
  keepsForm_taken (keepsForm_ite (keepsForm_clearTopsoil s) (.refl s)) _ _ _ _

@[simp] theorem keepsForm_execFlush (path : Path) (value : Nat) (s s0 : State) : s.KeepsForm (outcomeState s0 (execFlush path value s)) :=
  keepsForm_taken (keepsForm_ite (keepsForm_flashAll _ s) (.refl s)) _ _ _ _

/-! #### Startup -/

@[simp] theorem keepsForm_holdBoot (s : State) (cause : Nat) : s.KeepsForm (s.holdBoot cause) :=
  (keepsForm_automatic s .boot cause).trans (by simp +contextual [State.KeepsForm, State.holdBoot])

@[simp] theorem keepsForm_execOscillatorGate (reference count : Nat) (s s0 : State) :
    s.KeepsForm (outcomeState s0 (execOscillatorGate reference count s)) := by
  unfold execOscillatorGate
  (repeat' split) <;> simp +contextual [State.KeepsForm]

@[simp] theorem keepsForm_execMainPllLock (s s0 : State) : s.KeepsForm (outcomeState s0 (execMainPllLock s)) := by
  simp +contextual [State.KeepsForm, execMainPllLock]

@[simp] theorem keepsForm_execPllsLocked (s s0 : State) : s.KeepsForm (outcomeState s0 (execPllsLocked s)) := by
  simp +contextual [State.KeepsForm, execPllsLocked]

@[simp] theorem keepsForm_divideDram (s : State) (gib ranks seed0 seed1 : Nat) : s.KeepsForm (s.divideDram gib ranks seed0 seed1) := by
  simp +contextual [State.KeepsForm, State.divideDram]

@[simp] theorem keepsForm_execDramTrainingDone (failed : Option Nat) (seed0 seed1 : Nat) (s s0 : State) :
    s.KeepsForm (outcomeState s0 (execDramTrainingDone failed seed0 seed1 s)) := by
  unfold execDramTrainingDone
  (repeat' split) <;> simp +contextual [State.KeepsForm]

@[simp] theorem keepsForm_leaveBoot (s : State) : s.KeepsForm (s.leaveBoot) := by
  simp +contextual [State.KeepsForm, State.leaveBoot]

@[simp] theorem keepsForm_endRingStep (s : State) : s.KeepsForm (s.endRingStep) := by
  simp +contextual [State.KeepsForm, State.endRingStep]

@[simp] theorem keepsForm_execRingJoinDone (s s0 : State) : s.KeepsForm (outcomeState s0 (execRingJoinDone s)) := by
  simp +contextual [State.KeepsForm, execRingJoinDone]

@[simp] theorem keepsForm_execRingWaitExpiry (s s0 : State) : s.KeepsForm (outcomeState s0 (execRingWaitExpiry s)) := by
  simp +contextual [State.KeepsForm, execRingWaitExpiry]

@[simp] theorem keepsForm_execHeadLinkStepDone (s s0 : State) : s.KeepsForm (outcomeState s0 (execHeadLinkStepDone s)) := by
  simp +contextual [State.KeepsForm, execHeadLinkStepDone]

@[simp] theorem keepsForm_recordStart (s : State) (leaf : Nat) : s.KeepsForm (s.recordStart leaf) := by
  simp +contextual [State.KeepsForm, State.recordStart]

@[simp] theorem keepsForm_stepEight (s : State) : s.KeepsForm (s.stepEight) := by
  unfold State.stepEight
  (repeat' split) <;> simp +contextual [State.KeepsForm]

@[simp] theorem keepsForm_execCalibrationLoadDone (s s0 : State) : s.KeepsForm (outcomeState s0 (execCalibrationLoadDone s)) := by
  unfold execCalibrationLoadDone
  (repeat' split) <;> simp +contextual [State.KeepsForm]

@[simp] theorem keepsForm_boundExpired (s : State) : s.KeepsForm (s.boundExpired) := by
  unfold State.boundExpired
  (repeat' split) <;> simp +contextual [State.KeepsForm]

@[simp] theorem keepsForm_execStartupBoundExpiry (s s0 : State) : s.KeepsForm (outcomeState s0 (execStartupBoundExpiry s)) := by
  simp +contextual [State.KeepsForm, execStartupBoundExpiry]

/-! #### Memory -/

@[simp] theorem keepsForm_memoryLeaf (s : State) (ch bit : Nat) : s.KeepsForm (s.memoryLeaf ch bit) := by
  simp +contextual [State.KeepsForm, State.memoryLeaf]

@[simp] theorem keepsForm_abandonList (s : State) (key : Nat) (h : HeadNo) (detail : Nat) : s.KeepsForm (s.abandonList key h detail) := by
  unfold State.abandonList
  split
  · exact .refl s
  · split
    · exact .refl s
    · extract_lets et at_ item t part u
      have hu : s.KeepsForm u := by simp +contextual [State.KeepsForm, u, t]
      split <;> exact hu.trans (by simp +contextual [State.KeepsForm])

@[simp] theorem keepsForm_dataLost (s : State) (id h detail : Nat) : s.KeepsForm (s.dataLost id h detail) := by
  unfold State.dataLost
  (repeat' split) <;> simp +contextual [State.KeepsForm]

@[simp] theorem keepsForm_measured (s : State) (ch latency : Nat) : s.KeepsForm (s.measured ch latency) := by
  simp +contextual [State.KeepsForm, State.measured]

@[simp] theorem keepsForm_readPassed (s : State) (ch client address latency h id : Nat) (bitmap : Bool) (place : Nat) :
    s.KeepsForm (s.readPassed ch client address latency h id bitmap place) := by
  unfold State.readPassed
  (repeat' split) <;> simp +contextual [State.KeepsForm]

@[simp] theorem keepsForm_skipArchive (s : State) : s.KeepsForm (s.skipArchive) := by
  unfold State.skipArchive
  (repeat' split) <;> simp +contextual [State.KeepsForm]

@[simp] theorem keepsForm_clientLost (s : State) (ch client h id : Nat) (bitmap : Bool) :
    s.KeepsForm (s.clientLost ch client h id bitmap) := by
  unfold State.clientLost
  (repeat' split) <;> simp +contextual [State.KeepsForm]

@[simp] theorem keepsForm_uncorrectable (s : State) (ch client address lanes h id : Nat) (bitmap : Bool) :
    s.KeepsForm (s.uncorrectable ch client address lanes h id bitmap) := by
  unfold State.uncorrectable
  extract_lets t u
  have hu : s.KeepsForm u := by simp +contextual [State.KeepsForm, u, t, setReg_regs, bump_regs]
  exact hu.trans (by simp +contextual [State.KeepsForm])

@[simp] theorem keepsForm_readFailed (s : State) (ch client address lanes h id : Nat) (bitmap : Bool) :
    s.KeepsForm (s.readFailed ch client address lanes h id bitmap) := by
  unfold State.readFailed
  (repeat' split) <;> simp +contextual [State.KeepsForm]

@[simp] theorem keepsForm_readComplete (s : State) (ch client address : Nat) (line : List Byte) (latency : Nat)
    (activated : Bool) (h id : Nat) (bitmap : Bool) (place : Nat) :
    s.KeepsForm (s.readComplete ch client address line latency activated h id bitmap place) := by
  unfold State.readComplete
  (repeat' split) <;> simp +contextual [State.KeepsForm]

@[simp] theorem keepsForm_execDramReadComplete (ch client address : Nat) (line : List Byte) (latency : Nat) (activated : Bool)
    (h id : Nat) (place : ReadPlace) (s s0 : State) :
    s.KeepsForm (outcomeState s0 (execDramReadComplete ch client address line latency activated h id place s)) := by
  unfold execDramReadComplete
  (repeat' split) <;> simp +contextual [State.KeepsForm]

@[simp] theorem keepsForm_alertFalls (s : State) (ch : Nat) : s.KeepsForm (s.alertFalls ch) := by
  simp +contextual [State.KeepsForm, State.alertFalls]

@[simp] theorem keepsForm_execCaAlert (ch : Nat) (s s0 : State) : s.KeepsForm (outcomeState s0 (execCaAlert ch s)) := by
  simp +contextual [State.KeepsForm, execCaAlert]

@[simp] theorem keepsForm_replay (s : State) (ch : Nat) (cs : List DramCommand) : s.KeepsForm (s.replay ch cs) := by
  simp +contextual [State.KeepsForm, State.replay]

@[simp] theorem keepsForm_execCaAlertRelease (ch : Nat) (s s0 : State) : s.KeepsForm (outcomeState s0 (execCaAlertRelease ch s)) := by
  simp +contextual [State.KeepsForm, execCaAlertRelease]

@[simp] theorem keepsForm_startRetraining (s : State) (ch : Nat) : s.KeepsForm (s.startRetraining ch) := by
  simp +contextual [State.KeepsForm, State.startRetraining]

@[simp] theorem keepsForm_execCaAlertStuck (ch : Nat) (s s0 : State) : s.KeepsForm (outcomeState s0 (execCaAlertStuck ch s)) := by
  simp +contextual [State.KeepsForm, execCaAlertStuck]

@[simp] theorem keepsForm_execRefresh (ch rank : Nat) (waiting : Bool) (s s0 : State) :
    s.KeepsForm (outcomeState s0 (execRefresh ch rank waiting s)) := by
  simp +contextual [State.KeepsForm, execRefresh]

@[simp] theorem keepsForm_execZqCalibration (s s0 : State) : s.KeepsForm (outcomeState s0 (execZqCalibration s)) := by
  simp +contextual [State.KeepsForm, execZqCalibration]

@[simp] theorem keepsForm_setDoubled (s : State) (ch : Nat) (on : Bool) : s.KeepsForm (s.setDoubled ch on) := by
  simp +contextual [State.KeepsForm, State.setDoubled]

@[simp] theorem keepsForm_caseTemperature (s : State) (ch : Nat) (value : Int) : s.KeepsForm (s.caseTemperature ch value) := by
  unfold State.caseTemperature
  (repeat' split) <;> simp +contextual [State.KeepsForm]

@[simp] theorem keepsForm_execCaseTempRead (ch : Nat) (value : Int) (s s0 : State) :
    s.KeepsForm (outcomeState s0 (execCaseTempRead ch value s)) := by
  simp +contextual [State.KeepsForm, execCaseTempRead]

@[simp] theorem keepsForm_execCaseTempTimeout (s s0 : State) : s.KeepsForm (outcomeState s0 (execCaseTempTimeout s)) := by
  unfold execCaseTempTimeout
  (repeat' split) <;> simp +contextual [State.KeepsForm]

@[simp] theorem keepsForm_caseWritten (s : State) (value : Int) : s.KeepsForm (s.caseWritten value) := by
  unfold State.caseWritten
  extract_lets t u
  have hu : s.KeepsForm u := by simp +contextual [State.KeepsForm, u, t]
  exact keepsForm_ite ((hu.trans (keepsForm_caseTemperature u _ _)).trans (keepsForm_caseTemperature _ _ _)) hu

@[simp] theorem keepsForm_caseSource (s : State) (value : Int) : s.KeepsForm (s.caseSource value) := by
  unfold State.caseSource
  extract_lets t high
  have ht : s.KeepsForm t := keepsForm_setReg s _ _ _
  have hhigh (u : State) (ch : Nat) : u.KeepsForm (high u ch) :=
    keepsForm_ite (keepsForm_setDoubled u _ _) (keepsForm_ite (keepsForm_caseTemperature u _ _) (.refl u))
  exact (ht.trans (hhigh t 0)).trans (hhigh _ 1)

@[simp] theorem keepsForm_execRetrainStart (ch : Nat) (s s0 : State) : s.KeepsForm (outcomeState s0 (execRetrainStart ch s)) := by
  unfold execRetrainStart
  (repeat' split) <;> simp +contextual [State.KeepsForm]

@[simp] theorem keepsForm_trainedNow (s : State) (ch : Nat) : s.KeepsForm (s.trainedNow ch) := by
  unfold State.trainedNow
  (repeat' split) <;> simp +contextual [State.KeepsForm]

@[simp] theorem keepsForm_rankFailed (s : State) (ch rank : Nat) : s.KeepsForm (s.rankFailed ch rank) := by
  simp +contextual [State.KeepsForm, State.rankFailed]

@[simp] theorem keepsForm_execRetrainComplete (ch rank : Nat) (good : Bool) (s s0 : State) :
    s.KeepsForm (outcomeState s0 (execRetrainComplete ch rank good s)) := by
  unfold execRetrainComplete
  (repeat' split) <;> simp +contextual [State.KeepsForm]

@[simp] theorem keepsForm_execFaultRetrainRetry (good : Bool) (s s0 : State) :
    s.KeepsForm (outcomeState s0 (execFaultRetrainRetry good s)) := by
  unfold execFaultRetrainRetry
  (repeat' split) <;> simp +contextual [State.KeepsForm]

/-! #### Sequencer -/

@[simp] theorem keepsForm_countItem (s : State) (h : HeadNo) (it : Item) (r : ItemRun) : s.KeepsForm (s.countItem h it r) := by
  simp only [State.KeepsForm, State.countItem]
  (repeat' split) <;> simp +contextual [setReg_regs, bump_regs, bumpBy_regs, setLeaf_leaves]

@[simp] theorem keepsForm_lateChecks (s : State) (h : HeadNo) (et : Tick) (n : Nat) : s.KeepsForm (s.lateChecks h et n) := by
  induction n generalizing s with
  | zero => exact .refl s
  | succ n ih =>
    unfold State.lateChecks
    split
    · exact keepsForm_ite ((keepsForm_checkEntry s h).trans (ih _)) (.refl s)
    · exact .refl s

@[simp] theorem keepsForm_beginRun (s : State) (h : HeadNo) (g : Segment) (n : Nat) (it : Item) (r : ItemRun) (later :
    List ItemRun) (et : Tick) : s.KeepsForm (s.beginRun h g n it r later et) := by
  unfold State.beginRun
  extract_lets begin_ t
  have ht : s.KeepsForm t := by simp +contextual [State.KeepsForm, t]
  exact (ht.trans (keepsForm_countItem _ _ _ _)).trans (keepsForm_lateChecks _ _ _ _)

@[simp] theorem keepsForm_beginItem (s : State) (h : HeadNo) (g : Segment) (n factor t0 : Nat) (it : Item) :
    s.KeepsForm (s.beginItem h g n factor t0 it) := by
  simp +contextual [State.KeepsForm, State.beginItem]

@[simp] theorem keepsForm_holdData (s : State) (h : HeadNo) (r : HoldReason) : s.KeepsForm (s.holdData h r) := by
  simp +contextual [State.KeepsForm, State.holdData]

@[simp] theorem keepsForm_beginMarking (s : State) (h : HeadNo) (g : Segment) (p : SegHead) (n t0 : Nat) (it : Item) :
    s.KeepsForm (s.beginMarking h g p n t0 it) := by
  unfold State.beginMarking
  (repeat' split) <;> simp +contextual [State.KeepsForm]

@[simp] theorem keepsForm_advance (s : State) (h t0 n : Nat) : s.KeepsForm (s.advance h t0 n) := by
  induction n generalizing s with
  | zero => exact .refl s
  | succ n ih =>
    unfold State.advance
    split
    · exact .refl s
    · next g _ =>
      split
      · exact .refl s
      · next p _ =>
        extract_lets skip
        have hskip (t : State) : t.KeepsForm (skip t) := by simp +contextual [State.KeepsForm, skip]
        split
        · simp +contextual [State.KeepsForm]
        · next it _ =>
          split
          · simp +contextual [State.KeepsForm]
          · split
            · simp +contextual [State.KeepsForm]
            · split
              · exact (hskip s).trans (ih _)
              · next id tag _ =>
                have hp : s.KeepsForm (skip (s.progress g 4 h id tag)) :=
                  .trans (by simp +contextual [State.KeepsForm]) (hskip (s.progress g 4 h id tag))
                exact hp.trans (ih _)
              all_goals simp +contextual [State.KeepsForm]

@[simp] theorem keepsForm_goOn (s : State) (h : HeadNo) : s.KeepsForm (s.goOn h) := by
  unfold State.goOn
  (repeat' split) <;> simp +contextual [State.KeepsForm]

@[simp] theorem keepsForm_completeItem (s : State) (h : HeadNo) : s.KeepsForm (s.completeItem h) := by
  simp only [State.KeepsForm, State.completeItem]
  (repeat' split) <;> simp +contextual

@[simp] theorem keepsForm_withholdPass (s : State) (h : HeadNo) (r : ItemRun) (k : Nat) : s.KeepsForm (s.withholdPass h r k) := by
  unfold State.withholdPass
  refine keepsForm_ite (keepsForm_goCold s _) ?_
  extract_lets mine energy x t u
  have ht : s.KeepsForm t := by simp +contextual [State.KeepsForm, t]
  clear_value t
  have hu : s.KeepsForm u := ht.trans (keepsForm_foldl (fun v q => keepsForm_writeDefect v q) _ t)
  exact hu.trans (by simp +contextual [State.KeepsForm])

@[simp] theorem keepsForm_writeEdge (s : State) (h b : Nat) : s.KeepsForm (s.writeEdge h b) := by
  simp only [State.KeepsForm, State.writeEdge]
  (repeat' split) <;> simp +contextual

@[simp] theorem keepsForm_writeEdges (s : State) (h b : Nat) (et : Tick) (n : Nat) : s.KeepsForm (s.writeEdges h b et n) := by
  induction n generalizing s with
  | zero => exact .refl s
  | succ n ih =>
    unfold State.writeEdges
    split
    · exact keepsForm_ite ((keepsForm_writeEdge s h b).trans (ih _)) (.refl s)
    · exact .refl s

/-! #### Downlink -/

@[simp] theorem keepsForm_formGroup (s : State) (h : HeadNo) (k : Nat) : s.KeepsForm (s.formGroup h k) := by
  simp only [State.KeepsForm, State.formGroup]
  (repeat' split) <;> simp +contextual [setReg_regs, bumpBy_regs, setLeaf_leaves]

@[simp] theorem keepsForm_endCuts (s : State) (h : HeadNo) : s.KeepsForm (s.endCuts h) := by
  simp +contextual [State.KeepsForm, State.endCuts]

@[simp] theorem keepsForm_stretchesBegin (s : State) (h : HeadNo) (start : Tick) : s.KeepsForm (s.stretchesBegin h start) := by
  unfold State.stretchesBegin
  extract_lets spans t
  have ht : s.KeepsForm t := by simp +contextual [State.KeepsForm, t]
  exact ht.trans (keepsForm_foldl (fun u m => keepsForm_foldl (fun v b => keepsForm_setReg v _ _ _) _ u) spans t)

@[simp] theorem keepsForm_prepareFrame (s : State) (h : HeadNo) (f : Nat) : s.KeepsForm (s.prepareFrame h f) := by
  unfold State.prepareFrame
  extract_lets start first p a
  have hp : s.KeepsForm p := by simp +contextual [State.KeepsForm, p]
  have ha : s.KeepsForm a := keepsForm_ite (hp.trans (keepsForm_formGroup p _ _)) hp
  exact ha.trans (keepsForm_foldl (fun t k => keepsForm_writeEdges t _ _ _ _) _ a)

@[simp] theorem keepsForm_withholdUnlinked (s : State) (h : HeadNo) (start : Tick) : s.KeepsForm (s.withholdUnlinked h start) := by
  simp only [State.KeepsForm, State.withholdUnlinked]
  (repeat' split) <;> simp +contextual

@[simp] theorem keepsForm_assemble (s : State) (h : HeadNo) (f : Nat) : s.KeepsForm (s.assemble h f) := by
  unfold State.assemble
  extract_lets start c d x on corr spans operating sent mids e g
  have hp : s.KeepsForm ((s.prepareFrame h f).withholdUnlinked h start) := by simp +contextual [State.KeepsForm]
  have hc : s.KeepsForm c := hp.trans (by simp +contextual [State.KeepsForm, c])
  have hd : s.KeepsForm d := hc.trans (by simp +contextual [State.KeepsForm, d])
  have hsent : s.KeepsForm sent := keepsForm_ite (hd.trans (by simp +contextual [State.KeepsForm])) hd
  have he : s.KeepsForm e := keepsForm_ite (hsent.trans (by simp +contextual [State.KeepsForm])) hsent
  have hg : s.KeepsForm g := he.trans (by simp +contextual [State.KeepsForm, g])
  exact hg.trans (by simp +contextual [State.KeepsForm])

/-! #### Control -/

@[simp] theorem keepsForm_closeAbnormal (s : State) (h : HeadNo) (cause b : Nat) (at_ : Tick) :
    s.KeepsForm (s.closeAbnormal h cause b at_) := by
  simp +contextual [State.KeepsForm, State.closeAbnormal]

@[simp] theorem keepsForm_holdSample (s : State) (h : HeadNo) (b t reason : Nat) : s.KeepsForm (s.holdSample h b t reason) := by
  simp only [State.KeepsForm, State.holdSample]
  (repeat' split) <;> simp +contextual [bump_regs, setLeaf_leaves]

@[simp] theorem keepsForm_noteBound (s : State) (h : HeadNo) (b : Nat) (t : Tick) (raw : Int) (st : ChannelStretch) :
    s.KeepsForm (s.noteBound h b t raw st) := by
  simp +contextual [State.KeepsForm, State.noteBound]

@[simp] theorem keepsForm_output (s : State) (h : HeadNo) (b : Nat) (t : Tick) (r : Computed) (st : ChannelStretch) :
    s.KeepsForm (s.output h b t r st) := by
  unfold State.output
  extract_lets f u chan a
  have ha : s.KeepsForm (a.closeAbnormal h 0x23 b (t - 1)) := by simp +contextual [State.KeepsForm, a]
  exact ha.trans (by simp +contextual [State.KeepsForm, bump_regs, raiseReg_regs])

@[simp] theorem keepsForm_sampleChan (s : State) (h : HeadNo) (t : Tick) (pd : Nat → Option (Nat × Nat)) (b : Nat) :
    s.KeepsForm (s.sampleChan h t pd b) := by
  simp only [State.KeepsForm, State.sampleChan]
  (repeat' split) <;> simp +contextual

@[simp] theorem keepsForm_sampleHead (s : State) (h : HeadNo) (t : Tick) (pd : Nat → Option (Nat × Nat)) :
    s.KeepsForm (s.sampleHead h t pd) := by
  simp +contextual [State.KeepsForm, State.sampleHead]

@[simp] theorem keepsForm_unlinkedSample (s : State) (h f : Nat) : s.KeepsForm (s.unlinkedSample h f) := by
  unfold State.unlinkedSample
  (repeat' split) <;> simp +contextual [State.KeepsForm]

@[simp] theorem keepsForm_execDownlinkFrameAssembly (h : Nat) (s s0 : State) :
    s.KeepsForm (outcomeState s0 (execDownlinkFrameAssembly h s)) := by
  unfold execDownlinkFrameAssembly
  (repeat' split) <;> simp +contextual [State.KeepsForm]

@[simp] theorem keepsForm_update (s : State) (t : Nat) (h b pdL pdS : Nat) : s.KeepsForm (s.update t h b pdL pdS).1 := by
  unfold State.update
  extract_lets u c
  have hu : s.KeepsForm u := by simp +contextual [State.KeepsForm, u]
  split
  · extract_lets l rate
    split
    · exact hu.trans (by simp +contextual [State.KeepsForm])
    · split
      · exact hu.trans (by simp +contextual [State.KeepsForm])
      · exact hu.trans (by simp +contextual [State.KeepsForm])
  · exact hu

@[simp] theorem keepsForm_runLane (s : State) (lane : Nat) (w : LaneWork) : s.KeepsForm (s.runLane lane w) := by
  unfold State.runLane
  extract_lets engine t r done after work u
  have ht : s.KeepsForm t := by simp +contextual [State.KeepsForm, t]
  have hr : s.KeepsForm r.1 := by
    cases w with
    | update et h b l sh => exact ht.trans (keepsForm_update t et h b l sh)
    | missing et h b => exact ht.trans (by simp +contextual [State.KeepsForm, r])
    | outer et h b record => exact ht.trans (by simp +contextual [State.KeepsForm, r])
  have hu : s.KeepsForm u := hr
  exact hu.trans (by simp +contextual [State.KeepsForm])

@[simp] theorem keepsForm_execLaneDispatch (lane : Nat) (s s0 : State) : s.KeepsForm (outcomeState s0 (execLaneDispatch lane s)) := by
  unfold execLaneDispatch
  (repeat' split) <;> simp +contextual [State.KeepsForm]

@[simp] theorem keepsForm_execDarkCaptureComplete (h b : Nat) (s s0 : State) :
    s.KeepsForm (outcomeState s0 (execDarkCaptureComplete h b s)) := by
  unfold execDarkCaptureComplete
  (repeat' split) <;> simp +contextual [State.KeepsForm]

@[simp] theorem keepsForm_execLoopEnable (path : Path) (h sub value : Nat) (s s0 : State) :
    s.KeepsForm (outcomeState s0 (execLoopEnable path h sub value s)) :=
  keepsForm_taken (by simp +contextual [State.KeepsForm]) _ _ _ _

@[simp] theorem keepsForm_execLawWrite (path : Path) (law sub : Nat) (data : List Byte) (s s0 : State) :
    s.KeepsForm (outcomeState s0 (execLawWrite path law sub data s)) :=
  keepsForm_taken (by simp +contextual [State.KeepsForm]) _ _ _ _

@[simp] theorem keepsForm_execSampleRateSwitch (s s0 : State) : s.KeepsForm (outcomeState s0 (execSampleRateSwitch s)) := by
  simp +contextual [State.KeepsForm, execSampleRateSwitch]

/-! #### Sieve -/

@[simp] theorem keepsForm_makeRoom (s : State) (h : HeadNo) : s.KeepsForm (s.makeRoom h) := by
  simp only [State.KeepsForm, State.makeRoom]
  (repeat' split) <;> simp +contextual [bump_regs]

@[simp] theorem keepsForm_takeFrame (s : State) (h seq gen format start : Nat) (g : Generation) :
    s.KeepsForm (s.takeFrame h seq gen format start g) := by
  simp only [State.KeepsForm, State.takeFrame]
  (repeat' split) <;> simp +contextual

@[simp] theorem keepsForm_cameraHeader (s : State) (h seq gen format lo arrival : Nat) :
    s.KeepsForm (s.cameraHeader h seq gen format lo arrival) := by
  have ht : s.KeepsForm ((s.cameraBroken h).bump (0x6220 + h) 1) := (keepsForm_cameraBroken s h).trans (keepsForm_bump _ _ _)
  unfold State.cameraHeader
  generalize startFrom lo arrival = x
  generalize (s.cameraBroken h).bump (0x6220 + h) 1 = t at ht
  dsimp only
  cases (s.head h).camera.gen? gen with
  | none => exact ht.trans (keepsForm_countDrop t h 4)
  | some g =>
    cases x with
    | none => exact ht.trans (keepsForm_countDrop t h 5)
    | some start =>
      exact keepsForm_ite (ht.trans (keepsForm_dropFrame t h 5 _ _ _)) (ht.trans (keepsForm_takeFrame t h seq gen format _ _))

@[simp] theorem keepsForm_countLate (s : State) (pipe deadline : Nat) (f : CamFrame) : s.KeepsForm (s.countLate pipe deadline f) := by
  simp +contextual [State.KeepsForm, State.countLate]

@[simp] theorem keepsForm_dispatch (s : State) (pipe deadline : Nat) (h : HeadNo) (f : CamFrame) :
    s.KeepsForm (s.dispatch pipe deadline h f) := by
  unfold State.dispatch
  (repeat' split) <;> simp +contextual [State.KeepsForm]

@[simp] theorem keepsForm_execPipelineDispatch (pipe : Nat) (s s0 : State) :
    s.KeepsForm (outcomeState s0 (execPipelineDispatch pipe s)) := by
  unfold execPipelineDispatch
  (repeat' split) <;> simp +contextual [State.KeepsForm]

@[simp] theorem keepsForm_endWindow (s : State) (h : HeadNo) (g : Generation) : s.KeepsForm (s.endWindow h g) := by
  simp only [State.KeepsForm, State.endWindow]
  (repeat' split) <;> simp +contextual [setLeaf_leaves]

@[simp] theorem keepsForm_flicker (s : State) (h : HeadNo) (f : CamFrame) (x : Features) : s.KeepsForm (s.flicker h f x) := by
  simp +contextual [State.KeepsForm, State.flicker]

@[simp] theorem keepsForm_flushOutliers (s : State) (h : HeadNo) : s.KeepsForm (s.flushOutliers h) := by
  simp +contextual [State.KeepsForm, State.flushOutliers]

@[simp] theorem keepsForm_outlierFrame (s : State) (h : HeadNo) (f : CamFrame) (mask : Nat) : s.KeepsForm (s.outlierFrame h f mask) := by
  simp +contextual [State.KeepsForm, State.outlierFrame]

@[simp] theorem keepsForm_closedParts (s : State) (h : HeadNo) : s.KeepsForm (s.closedParts h) := by
  simp only [State.KeepsForm, State.closedParts]
  (repeat' split) <;> simp +contextual

@[simp] theorem keepsForm_evaluateOutliers (s : State) (h : HeadNo) (f : CamFrame) (mask : Nat) :
    s.KeepsForm (s.evaluateOutliers h f mask) := by
  unfold State.evaluateOutliers
  (repeat' split) <;> simp +contextual [State.KeepsForm]

@[simp] theorem keepsForm_archiveOrFree (s : State) (h : HeadNo) (f : CamFrame) (g : Generation) (status : Nat) :
    s.KeepsForm (s.archiveOrFree h f g status) := by
  unfold State.archiveOrFree
  (repeat' split) <;> simp +contextual [State.KeepsForm]

@[simp] theorem keepsForm_passEnds (s : State) (pipe cycles : Nat) : s.KeepsForm (s.passEnds pipe cycles) := by
  simp +contextual [State.KeepsForm, State.passEnds]

@[simp] theorem keepsForm_countPass (s : State) (h : HeadNo) (only : Bool) : s.KeepsForm (s.countPass h only) := by
  simp +contextual [State.KeepsForm, State.countPass]

@[simp] theorem keepsForm_endDrops (s : State) (h : HeadNo) (f : CamFrame) : s.KeepsForm (s.endDrops h f) := by
  simp +contextual [State.KeepsForm, State.endDrops]

@[simp] theorem keepsForm_passDone (s : State) (pipe : Nat) (h : HeadNo) (f : CamFrame) : s.KeepsForm (s.passDone pipe h f) := by
  unfold State.passDone
  extract_lets g angle x mask a b c t
  have ha : s.KeepsForm ((s.passEnds pipe (passCycles f.format f.featuresOnly)).endDrops h f) := by simp +contextual [State.KeepsForm]
  have hb : s.KeepsForm b := ha.trans ((keepsForm_countPass _ h f.featuresOnly).trans (by simp +contextual [State.KeepsForm, b, a]))
  have ht : s.KeepsForm t := hb.trans (by simp +contextual [State.KeepsForm, t])
  clear_value t
  exact ht.trans (by simp +contextual [State.KeepsForm])

@[simp] theorem keepsForm_execProcessingComplete (pipe : Nat) (s s0 : State) :
    s.KeepsForm (outcomeState s0 (execProcessingComplete pipe s)) := by
  unfold execProcessingComplete
  (repeat' split) <;> simp +contextual [State.KeepsForm]

@[simp] theorem keepsForm_execFeatureRecordHandover (h : Nat) (s s0 : State) :
    s.KeepsForm (outcomeState s0 (execFeatureRecordHandover h s)) := by
  simp +contextual [State.KeepsForm, execFeatureRecordHandover]

@[simp] theorem keepsForm_execArchiveCopyComplete (h : Nat) (s s0 : State) :
    s.KeepsForm (outcomeState s0 (execArchiveCopyComplete h s)) := by
  unfold execArchiveCopyComplete
  (repeat' split) <;> simp +contextual [State.KeepsForm]

@[simp] theorem keepsForm_execArchiveMessageSend (s s0 : State) : s.KeepsForm (outcomeState s0 (execArchiveMessageSend s)) := by
  unfold execArchiveMessageSend
  (repeat' split) <;> simp +contextual [State.KeepsForm]

@[simp] theorem keepsForm_logRead (s : State) : s.KeepsForm (s.logRead) := by
  simp +contextual [State.KeepsForm, State.logRead]

@[simp] theorem keepsForm_execFeatureLogBlockRead (path : Path) (s s0 : State) :
    s.KeepsForm (outcomeState s0 (execFeatureLogBlockRead path s)) :=
  keepsForm_taken (keepsForm_logRead s) _ _ _ _

/-! #### Uplink -/

@[simp] theorem keepsForm_countInvalid (s : State) (h : HeadNo) : s.KeepsForm (s.countInvalid h) := by
  simp +contextual [State.KeepsForm, State.countInvalid]

@[simp] theorem keepsForm_track (s : State) (h : HeadNo) (a : ActualSample) : s.KeepsForm (s.track h a) := by
  simp only [State.KeepsForm, State.track]
  (repeat' split) <;> simp +contextual [bump_regs, raiseReg_regs, setLeaf_leaves]

@[simp] theorem keepsForm_overspeed (s : State) (h : HeadNo) (meas cmd : Nat) (m : MarkedSpan) :
    s.KeepsForm (s.overspeed h meas cmd m) := by
  unfold State.overspeed
  extract_lets t
  have ht : s.KeepsForm t := by simp +contextual [State.KeepsForm, t]
  clear_value t
  generalize overspeedDetail meas cmd s.fresh = detail
  have hw : s.KeepsForm (t.suppressWork h (m.seg, m.item) none 0x05 detail) := ht.trans (keepsForm_suppressWork t h _ _ _ _)
  exact keepsForm_ite ht (hw.trans (by simp +contextual [State.KeepsForm]))

@[simp] theorem keepsForm_checkSpeed (s : State) (h : HeadNo) : s.KeepsForm (s.checkSpeed h) := by
  simp only [State.KeepsForm, State.checkSpeed]
  (repeat' split) <;> simp +contextual [setReg_regs, bump_regs]

@[simp] theorem keepsForm_sampled (s : State) (h : HeadNo) (a : ActualSample) : s.KeepsForm (s.sampled h a) := by
  unfold State.sampled
  extract_lets t u
  have hr : s.KeepsForm (((t.setReg (0x4160 + h) 3 a.x).setReg (0x4160 + h) 4 a.y).setReg (0x4160 + h) 5 a.f) := by
    simp +contextual [State.KeepsForm, t, setReg_regs]
  have hu : s.KeepsForm u := keepsForm_ite (hr.trans (keepsForm_track _ _ _)) (by simp +contextual [State.KeepsForm, t])
  exact hu.trans (keepsForm_checkSpeed u h)

@[simp] theorem keepsForm_positionFrame (s : State) (h u : Nat) (part : Option (Nat × Nat)) : s.KeepsForm (s.positionFrame h u part) := by
  simp +contextual [State.KeepsForm, State.positionFrame]

@[simp] theorem keepsForm_headStatus (s : State) (h : HeadNo) (aux : Nat) : s.KeepsForm (s.headStatus h aux) := by
  simp +contextual [State.KeepsForm, State.headStatus]

@[simp] theorem keepsForm_opticsWarn (s : State) (h : HeadNo) (v : Int) : s.KeepsForm (s.opticsWarn h v) := by
  simp +contextual [State.KeepsForm, State.opticsWarn]

@[simp] theorem keepsForm_opticsPayload (s : State) (h u aux : Nat) : s.KeepsForm (s.opticsPayload h u aux) := by
  simp +contextual [State.KeepsForm, State.opticsPayload]

@[simp] theorem keepsForm_auxFrame (s : State) (h u : Nat) (bs : List Byte) : s.KeepsForm (s.auxFrame h u bs) := by
  unfold State.auxFrame
  (repeat' split) <;> simp +contextual [State.KeepsForm]

@[simp] theorem keepsForm_darkSlots (s : State) (h : HeadNo) (slots : List SentSlot) (cause detail : Nat) :
    s.KeepsForm (s.darkSlots h slots cause detail) := by
  simp +contextual [State.KeepsForm, State.darkSlots]

@[simp] theorem keepsForm_endDark (s : State) (h : HeadNo) (k : SentSlot) (dark : Bool) : s.KeepsForm (s.endDark h k dark) := by
  simp +contextual [State.KeepsForm, State.endDark]

@[simp] theorem keepsForm_closeGap (s : State) (h : HeadNo) (at_ : Tick) : s.KeepsForm (s.closeGap h at_) := by
  simp +contextual [State.KeepsForm, State.closeGap]

@[simp] theorem keepsForm_slotReported (s : State) (h : HeadNo) (k : SentSlot) (dark : Bool) : s.KeepsForm (s.slotReported h k dark) := by
  unfold State.slotReported
  extract_lets t u
  have ht : s.KeepsForm t := keepsForm_endDark s h k dark
  have hu : s.KeepsForm u := ht.trans (by simp +contextual [State.KeepsForm, u])
  exact keepsForm_ite ht (keepsForm_ite (hu.trans (keepsForm_darkSlots u _ _ _ _)) (hu.trans (keepsForm_darkSlots u _ _ _ _)))

@[simp] theorem keepsForm_darkMap (s : State) (h u map : Nat) : s.KeepsForm (s.darkMap h u map) := by
  unfold State.darkMap
  extract_lets covered slots t v
  have hv : s.KeepsForm v := .trans (t := t) (by simp +contextual [State.KeepsForm, t])
    (keepsForm_foldl (fun x k => keepsForm_slotReported x _ _ _) _ t)
  split
  · exact keepsForm_ite (hv.trans (keepsForm_closeGap v _ _)) hv
  · exact hv

@[simp] theorem keepsForm_diodeFrame (s : State) (h u : Nat) (pd : Tick → Nat → Option (Nat × Nat)) :
    s.KeepsForm (s.diodeFrame h u pd) := by
  unfold State.diodeFrame
  (repeat' split) <;> simp +contextual [State.KeepsForm]

@[simp] theorem keepsForm_cameraFrame (s : State) (h : HeadNo) (bs : List Byte) : s.KeepsForm (s.cameraFrame h bs) := by
  simp +contextual [State.KeepsForm, State.cameraFrame]

@[simp] theorem keepsForm_conflictSeen (s : State) (h : HeadNo) : s.KeepsForm (s.conflictSeen h) := by
  simp only [State.KeepsForm, State.conflictSeen]
  (repeat' split) <;> simp +contextual [bump_regs, setLeaf_leaves]

@[simp] theorem keepsForm_reported (s : State) (h u : Nat) (bs : List Byte) : s.KeepsForm (s.reported h u bs) := by
  unfold State.reported
  (repeat' split) <;> simp +contextual [State.KeepsForm]

@[simp] theorem keepsForm_trained (s : State) (h : HeadNo) (valid : Bool) (bs : List Byte) (arrival : Int) {f : State → State} (hf :
    ∀ t : State, t.KeepsForm (f t)) :
    s.KeepsForm (s.trained h valid bs arrival f) :=
  (keepsForm_ite (keepsForm_reported s _ _ _) (keepsForm_countInvalid s _)).trans (hf _)

@[simp] theorem keepsForm_validFrame (s : State) (h u : Nat) (bs : List Byte) : s.KeepsForm (s.validFrame h u bs) := by
  unfold State.validFrame
  extract_lets b
  have hb : s.KeepsForm b := by simp +contextual [State.KeepsForm, b]
  exact hb.trans ((keepsForm_positionFrame b h u (some (upAuxType bs, upAux bs))).trans (by simp +contextual [State.KeepsForm]))

@[simp] theorem keepsForm_invalidFrame (s : State) (h u : Nat) : s.KeepsForm (s.invalidFrame h u) := by
  unfold State.invalidFrame
  extract_lets n t v
  have ht : s.KeepsForm t := by simp +contextual [State.KeepsForm, t]
  have hv : s.KeepsForm v := ht.trans (keepsForm_diodeFrame t _ _ _)
  exact keepsForm_ite (hv.trans (keepsForm_linkTo v _ _ _)) hv

@[simp] theorem keepsForm_inOperation (s : State) (h : HeadNo) (frame : Option (List Byte)) (arrival : Int) :
    s.KeepsForm (s.inOperation h frame arrival) := by
  simp only [State.KeepsForm, State.inOperation]
  (repeat' split) <;> simp +contextual

@[simp] theorem keepsForm_uplinkFrame (s : State) (h : HeadNo) (frame : Option (List Byte)) (arrival : Int) :
    s.KeepsForm (s.uplinkFrame h frame arrival) := by
  unfold State.uplinkFrame
  extract_lets l bs follows
  split
  · exact keepsForm_trained s h _ _ _ (fun t => by simp +contextual [State.KeepsForm])
  · exact keepsForm_trained s h _ _ _ (fun t => by simp +contextual [State.KeepsForm])
  · exact keepsForm_trained s h _ _ _ (fun t => by simp +contextual [State.KeepsForm])
  · exact keepsForm_inOperation s _ _ _
  · exact .refl s

@[simp] theorem keepsForm_uplink (s : State) (h : HeadNo) (chars : List Nat) (arrival : Int) : s.KeepsForm (s.uplink h chars arrival) := by
  simp +contextual [State.KeepsForm, State.uplink]

@[simp] theorem keepsForm_execUplinkFrameReceived (h first : Nat) (chars : List Nat) (arrival : Int) (s s0 : State) :
    s.KeepsForm (outcomeState s0 (execUplinkFrameReceived h first chars arrival s)) := by
  simp +contextual [State.KeepsForm, execUplinkFrameReceived]

/-! #### Close -/

@[simp] theorem keepsForm_compareDigest (s : State) (id : Nat) : s.KeepsForm (s.compareDigest id) := by
  unfold State.compareDigest
  (repeat' split) <;> simp +contextual [State.KeepsForm]

@[simp] theorem keepsForm_ownDigest (s : State) (g : Segment) (state : SegState) : s.KeepsForm (s.ownDigest g state) := by
  simp +contextual [State.KeepsForm, State.ownDigest]

@[simp] theorem keepsForm_sendClose (s : State) (key : Nat) : s.KeepsForm (s.sendClose key) := by
  unfold State.sendClose
  split
  · next g _ =>
    have ha : s.KeepsForm ((g.heads.map (fun (p : SegHead) => p.head)).foldl (fun (t :
    State) h => t.closeRecords h t.et (fun r => r.seg == key)) s) :=
      keepsForm_foldl (fun t h => keepsForm_closeRecords t _ _ _) _ s
    generalize (g.heads.map (fun (p : SegHead) => p.head)).foldl (fun (t :
    State) h => t.closeRecords h t.et (fun r => r.seg == key)) s = a at ha
    refine ha.trans ?_
    dsimp only
    split
    · next x _ =>
      have hd : a.KeepsForm (if x.digested then a else a.ownDigest x x.state) := keepsForm_ite (.refl a) (keepsForm_ownDigest a x x.state)
      generalize (if x.digested then a else a.ownDigest x x.state) = d at hd
      have ht : a.KeepsForm ((d.jobMessage 0x35 x.closeBytes).release key) := hd.trans (by simp +contextual [State.KeepsForm])
      exact keepsForm_ite ht (ht.trans (keepsForm_faultCause _ _))
    · exact .refl a
  · exact .refl s

@[simp] theorem keepsForm_closeSegment (s : State) (key : Nat) : s.KeepsForm (s.closeSegment key) := by
  unfold State.closeSegment
  split
  · exact .refl s
  · extract_lets t
    have ht : s.KeepsForm t := by simp +contextual [State.KeepsForm, t]
    exact keepsForm_ite ht (ht.trans (keepsForm_sendClose t _))

@[simp] theorem keepsForm_execSegmentClose (id : Nat) (s s0 : State) : s.KeepsForm (outcomeState s0 (execSegmentClose id s)) := by
  unfold execSegmentClose
  (repeat' split) <;> simp +contextual [State.KeepsForm]

@[simp] theorem keepsForm_execCloseMessageSend (id : Nat) (s s0 : State) : s.KeepsForm (outcomeState s0 (execCloseMessageSend id s)) := by
  unfold execCloseMessageSend
  (repeat' split) <;> simp +contextual [State.KeepsForm]

@[simp] theorem keepsForm_execSlackEvaluation (id : Nat) (s s0 : State) : s.KeepsForm (outcomeState s0 (execSlackEvaluation id s)) := by
  unfold execSlackEvaluation
  (repeat' split) <;> simp +contextual [State.KeepsForm]

@[simp] theorem keepsForm_execSlackReport (s s0 : State) : s.KeepsForm (outcomeState s0 (execSlackReport s)) := by
  simp +contextual [State.KeepsForm, execSlackReport]

@[simp] theorem keepsForm_cancelId (s : State) (id : Nat) : s.KeepsForm (s.cancelId id) := by
  unfold State.cancelId
  (repeat' split) <;> simp +contextual [State.KeepsForm]

@[simp] theorem keepsForm_execCancelId (path : Path) (id : Nat) (s s0 : State) : s.KeepsForm (outcomeState s0 (execCancelId path id s)) :=
  keepsForm_taken (by simp +contextual [State.KeepsForm]) _ _ _ _

@[simp] theorem keepsForm_splitRecords (s : State) (h cause : Nat) : s.KeepsForm (s.splitRecords h cause) := by
  simp +contextual [State.KeepsForm, State.splitRecords]

@[simp] theorem keepsForm_execDefectRecordSplit (h cause : Nat) (s s0 : State) :
    s.KeepsForm (outcomeState s0 (execDefectRecordSplit h cause s)) := by
  simp +contextual [State.KeepsForm, execDefectRecordSplit]

/-! #### Motion -/

@[simp] theorem keepsForm_enableGang (s : State) (m : Nat) : s.KeepsForm (s.enableGang m) := by
  refine keepsForm_foldl (fun t k => ?_) _ s
  split <;> simp +contextual [State.KeepsForm]

@[simp] theorem keepsForm_disableGang (s : State) (m : Nat) : s.KeepsForm (s.disableGang m) := by
  simp +contextual [State.KeepsForm, State.disableGang]

@[simp] theorem keepsForm_execEnableAxis (path : Path) (m value : Nat) (s s0 : State) :
    s.KeepsForm (outcomeState s0 (execEnableAxis path m value s)) :=
  keepsForm_inTurnOf _ _ _ _ (keepsForm_ite (keepsForm_axisCommand s path m _ _ _
    (keepsForm_ite (keepsForm_enableGang s m) (keepsForm_disableGang s m))) (.refl s))

@[simp] theorem keepsForm_execGo (path : Path) (m value : Nat) (s s0 : State) : s.KeepsForm (outcomeState s0 (execGo path m value s)) :=
  keepsForm_inTurnOf _ _ _ _ (keepsForm_ite (keepsForm_axisCommand s path m _ _ _ (by simp +contextual [State.KeepsForm])) (.refl s))

@[simp] theorem keepsForm_execStopAxis (path : Path) (m : Nat) (s s0 : State) : s.KeepsForm (outcomeState s0 (execStopAxis path m s)) :=
  keepsForm_inTurnOf _ _ _ _ (keepsForm_ite (keepsForm_axisCommand s path m _ _ _ (keepsForm_stopAxis s m)) (.refl s))

@[simp] theorem keepsForm_execHome (path : Path) (m : Nat) (s s0 : State) : s.KeepsForm (outcomeState s0 (execHome path m s)) :=
  keepsForm_inTurnOf _ _ _ _ (keepsForm_ite (keepsForm_axisCommand s path m _ _ _ (by simp +contextual [State.KeepsForm])) (.refl s))

@[simp] theorem keepsForm_homeEdge (s : State) (m : Nat) (active : Bool) : s.KeepsForm (s.homeEdge m active) := by
  unfold State.homeEdge
  (repeat' split) <;> simp +contextual [State.KeepsForm]

@[simp] theorem keepsForm_execHomeEdge (m : Nat) (active : Bool) (s s0 : State) :
    s.KeepsForm (outcomeState s0 (execHomeEdge m active s)) := by
  simp +contextual [State.KeepsForm, execHomeEdge]

@[simp] theorem keepsForm_execQualifyTimeExpiry (m : Nat) (s s0 : State) : s.KeepsForm (outcomeState s0 (execQualifyTimeExpiry m s)) := by
  simp +contextual [State.KeepsForm, execQualifyTimeExpiry]

@[simp] theorem keepsForm_execChatterWindowExpiry (m : Nat) (s s0 : State) :
    s.KeepsForm (outcomeState s0 (execChatterWindowExpiry m s)) := by
  simp +contextual [State.KeepsForm, execChatterWindowExpiry]

@[simp] theorem keepsForm_endHoming (s : State) (l : Nat) : s.KeepsForm (s.endHoming l) := by
  simp +contextual [State.KeepsForm, State.endHoming]

@[simp] theorem keepsForm_execHomingComplete (m : Nat) (s s0 : State) : s.KeepsForm (outcomeState s0 (execHomingComplete m s)) := by
  simp +contextual [State.KeepsForm, execHomingComplete]

@[simp] theorem keepsForm_travelSpent (s : State) (m : Nat) : s.KeepsForm (s.travelSpent m) := by
  unfold State.travelSpent
  (repeat' split) <;> simp +contextual [State.KeepsForm]

@[simp] theorem keepsForm_execMicrostep (m : Nat) (s s0 : State) : s.KeepsForm (outcomeState s0 (execMicrostep m s)) := by
  unfold execMicrostep
  (repeat' split) <;> simp +contextual [State.KeepsForm]

@[simp] theorem keepsForm_execHoldDelayExpiry (m : Nat) (s s0 : State) : s.KeepsForm (outcomeState s0 (execHoldDelayExpiry m s)) := by
  simp +contextual [State.KeepsForm, execHoldDelayExpiry]

@[simp] theorem keepsForm_limitTrip (s : State) (m : Nat) : s.KeepsForm (s.limitTrip m) := by
  unfold State.limitTrip
  extract_lets l side t
  have ht : s.KeepsForm t := by simp +contextual [State.KeepsForm, t]
  refine ht.trans ?_
  (repeat' split) <;> simp +contextual [State.KeepsForm]

@[simp] theorem keepsForm_execLimitTrip (m : Nat) (s s0 : State) : s.KeepsForm (outcomeState s0 (execLimitTrip m s)) := by
  unfold execLimitTrip
  (repeat' split) <;> simp +contextual [State.KeepsForm]

@[simp] theorem keepsForm_execLimitRelease (m : Nat) (s s0 : State) : s.KeepsForm (outcomeState s0 (execLimitRelease m s)) := by
  simp +contextual [State.KeepsForm, execLimitRelease]

@[simp] theorem keepsForm_chop (s : State) (m : Nat) (coilB reached : Bool) (t1 t2 : Nat) : s.KeepsForm (s.chop m coilB reached t1 t2) := by
  simp only [State.KeepsForm, State.chop]
  (repeat' split) <;> simp +contextual [bump_regs, setLeaf_leaves]

@[simp] theorem keepsForm_execChopCycle (m : Nat) (coilB reached : Bool) (t1 t2 : Nat) (s s0 : State) :
    s.KeepsForm (outcomeState s0 (execChopCycle m coilB reached t1 t2 s)) := by
  simp +contextual [State.KeepsForm, execChopCycle]

@[simp] theorem keepsForm_startRecoatStep (s : State) (k : Nat) : s.KeepsForm (s.startRecoatStep k) := by
  unfold State.startRecoatStep
  (repeat' split) <;> simp +contextual [State.KeepsForm]

@[simp] theorem keepsForm_advanceRecoat (s : State) : s.KeepsForm (s.advanceRecoat) := by
  simp only [State.KeepsForm, State.advanceRecoat]
  (repeat' split) <;> simp +contextual

@[simp] theorem keepsForm_moveDone (s : State) (m : Nat) : s.KeepsForm (s.moveDone m) := by
  simp only [State.KeepsForm, State.moveDone]
  (repeat' split) <;> simp +contextual

@[simp] theorem keepsForm_execMoveComplete (m : Nat) (s s0 : State) : s.KeepsForm (outcomeState s0 (execMoveComplete m s)) := by
  simp +contextual [State.KeepsForm, execMoveComplete]

/-! #### Feedback -/

@[simp] theorem keepsForm_trackDirection (s : State) (e : Nat) : s.KeepsForm (s.trackDirection e) := by
  simp +contextual [State.KeepsForm, State.trackDirection]

@[simp] theorem keepsForm_checkFollow (s : State) (e : Nat) : s.KeepsForm (s.checkFollow e) := by
  refine keepsForm_foldl (fun t m => keepsForm_ite ?_ (.refl t)) _ s
  have hu : t.KeepsForm (t.raiseReg (0x9040 + m) 13 (t.followErr m e).natAbs) := by simp +contextual [State.KeepsForm]
  exact keepsForm_ite (hu.trans (keepsForm_followError _ _)) hu

@[simp] theorem keepsForm_compareHit (s : State) (n : Nat) : s.KeepsForm (s.compareHit n) := by
  simp only [State.KeepsForm, State.compareHit]
  (repeat' split) <;> simp +contextual [setReg_regs, bump_regs, setLeaf_leaves]

@[simp] theorem keepsForm_checkCompare (s : State) (e : Nat) (up : Bool) : s.KeepsForm (s.checkCompare e up) :=
  keepsForm_foldl (fun t n => keepsForm_ite (keepsForm_compareHit t n) (.refl t)) _ s

@[simp] theorem keepsForm_counted (s : State) (e : Nat) (delta : Int) : s.KeepsForm (s.counted e delta) := by
  unfold State.counted
  extract_lets t u
  have ht : s.KeepsForm t := by simp +contextual [State.KeepsForm, t]
  have hu : s.KeepsForm u := (ht.trans (keepsForm_trackDirection t e)).trans (keepsForm_checkFollow _ e)
  exact keepsForm_ite (hu.trans (keepsForm_checkCompare u _ _)) hu

@[simp] theorem keepsForm_syncLoss (s : State) (e levels : Nat) : s.KeepsForm (s.syncLoss e levels) := by
  simp +contextual [State.KeepsForm, State.syncLoss]

@[simp] theorem keepsForm_quadEdge (s : State) (e levels : Nat) : s.KeepsForm (s.quadEdge e levels) := by
  simp only [State.KeepsForm, State.quadEdge]
  (repeat' split) <;> simp +contextual [bump_regs, setLeaf_leaves]

@[simp] theorem keepsForm_execEncoderEdge (e levels : Nat) (s s0 : State) : s.KeepsForm (outcomeState s0 (execEncoderEdge e levels s)) := by
  unfold execEncoderEdge
  (repeat' split) <;> simp +contextual [State.KeepsForm]

@[simp] theorem keepsForm_execMinEdgeExpiry (e levels : Nat) (s s0 : State) :
    s.KeepsForm (outcomeState s0 (execMinEdgeExpiry e levels s)) := by
  unfold execMinEdgeExpiry
  (repeat' split) <;> simp +contextual [State.KeepsForm]

@[simp] theorem keepsForm_indexLatch (s : State) (e : Nat) : s.KeepsForm (s.indexLatch e) := by
  simp only [State.KeepsForm, State.indexLatch]
  (repeat' split) <;> simp +contextual [setReg_regs, bump_regs, setLeaf_leaves]

@[simp] theorem keepsForm_execIndexEdge (e : Nat) (s s0 : State) : s.KeepsForm (outcomeState s0 (execIndexEdge e s)) := by
  simp +contextual [State.KeepsForm, execIndexEdge]

@[simp] theorem keepsForm_hall (s : State) (e v : Nat) : s.KeepsForm (s.hall e v) := by
  unfold State.hall
  (repeat' split) <;> simp +contextual [State.KeepsForm]

@[simp] theorem keepsForm_execHallStateChange (e state : Nat) (s s0 : State) :
    s.KeepsForm (outcomeState s0 (execHallStateChange e state s)) := by
  simp +contextual [State.KeepsForm, execHallStateChange]

@[simp] theorem keepsForm_execComparePulseEnd (n : Nat) (s s0 : State) : s.KeepsForm (outcomeState s0 (execComparePulseEnd n s)) := by
  simp +contextual [State.KeepsForm, execComparePulseEnd]

@[simp] theorem keepsForm_probed (s : State) (n : Nat) : s.KeepsForm (s.probed n) := by
  simp +contextual [State.KeepsForm, State.probed]

@[simp] theorem keepsForm_execProbeEdge (n : Nat) (rising : Bool) (s s0 : State) :
    s.KeepsForm (outcomeState s0 (execProbeEdge n rising s)) := by
  simp +contextual [State.KeepsForm, execProbeEdge]

/-! #### Session -/

@[simp] theorem keepsForm_beginCredit (s : State) (format : Nat) : s.KeepsForm (s.beginCredit format) := by
  simp only [State.KeepsForm, State.beginCredit]
  simp +contextual [setReg_regs]

@[simp] theorem keepsForm_firstGrant (s : State) : s.KeepsForm (s.firstGrant) := by
  simp +contextual [State.KeepsForm, State.firstGrant]

@[simp] theorem keepsForm_openQuiet (s : State) (n peer : Nat) (a : OpenAsk) : s.KeepsForm (s.openQuiet n peer a) := by
  unfold State.openQuiet
  (repeat' split) <;> simp +contextual [State.KeepsForm]

@[simp] theorem keepsForm_openAs (s : State) (n peer : Nat) (a : OpenAsk) : s.KeepsForm (s.openAs n peer a) := by
  simp +contextual [State.KeepsForm, State.openAs]

@[simp] theorem keepsForm_openSession (s : State) (peer : Nat) (payload : List Byte) : s.KeepsForm (s.openSession peer payload) := by
  simp only [State.KeepsForm, State.openSession]
  (repeat' split) <;> simp +contextual

@[simp] theorem keepsForm_execSessionOpen (source : Nat) (payload : List Byte) (s s0 : State) :
    s.KeepsForm (outcomeState s0 (execSessionOpen source payload s)) := by
  unfold execSessionOpen
  (repeat' split) <;> simp +contextual [State.KeepsForm]

@[simp] theorem keepsForm_endJob (s : State) : s.KeepsForm (s.endJob) := by
  simp +contextual [State.KeepsForm, State.endJob]

@[simp] theorem keepsForm_closeSession (s : State) (n reason : Nat) : s.KeepsForm (s.closeSession n reason) := by
  unfold State.closeSession
  (repeat' split) <;> simp +contextual [State.KeepsForm]

@[simp] theorem keepsForm_repeatFrame (s : State) (n seq : Nat) : s.KeepsForm (s.repeatFrame n seq) := by
  simp only [State.KeepsForm, State.repeatFrame]
  (repeat' split) <;> simp +contextual [bump_regs]

@[simp] theorem keepsForm_acked (s : State) (n ack sack : Nat) : s.KeepsForm (s.acked n ack sack) := by
  unfold State.acked
  (repeat' split) <;> simp +contextual [State.KeepsForm]

@[simp] theorem keepsForm_execAck (n ack sack : Nat) (s s0 : State) : s.KeepsForm (outcomeState s0 (execAck n ack sack s)) := by
  simp +contextual [State.KeepsForm, execAck]

@[simp] theorem keepsForm_execRtoExpiry (n seq : Nat) (s s0 : State) : s.KeepsForm (outcomeState s0 (execRtoExpiry n seq s)) := by
  simp +contextual [State.KeepsForm, execRtoExpiry]

@[simp] theorem keepsForm_execAckDelayExpiry (n : Nat) (s s0 : State) : s.KeepsForm (outcomeState s0 (execAckDelayExpiry n s)) := by
  simp +contextual [State.KeepsForm, execAckDelayExpiry]

@[simp] theorem keepsForm_execSessionTimeout (n : Nat) (s s0 : State) : s.KeepsForm (outcomeState s0 (execSessionTimeout n s)) := by
  simp +contextual [State.KeepsForm, execSessionTimeout]

@[simp] theorem keepsForm_execSessionClose (n : Nat) (s s0 : State) : s.KeepsForm (outcomeState s0 (execSessionClose n s)) := by
  simp +contextual [State.KeepsForm, execSessionClose]

/-! #### JobStream -/

@[simp] theorem keepsForm_received (s : State) (n : Nat) : s.KeepsForm (s.received n) := by
  simp +contextual [State.KeepsForm, State.received]

@[simp] theorem keepsForm_refuseEarly (s : State) (r : Reception) (code extra : Nat) : s.KeepsForm (s.refuseEarly r code extra) := by
  simp +contextual [State.KeepsForm, State.refuseEarly]

@[simp] theorem keepsForm_violated (s : State) (seq : Nat) : s.KeepsForm (s.violated seq) := by
  simp +contextual [State.KeepsForm, State.violated]

@[simp] theorem keepsForm_creditViolation (s : State) (r : Reception) : s.KeepsForm (s.creditViolation r) := by
  simp +contextual [State.KeepsForm, State.creditViolation]

@[simp] theorem keepsForm_discarded (s : State) (seq all below : Nat) : s.KeepsForm (s.discarded seq all below) := by
  simp +contextual [State.KeepsForm, State.discarded]

@[simp] theorem keepsForm_takeJob (s : State) (r : Reception) (off : Nat) (data : List Byte) : s.KeepsForm (s.takeJob r off data) := by
  have hearly (n : Nat) (x : Reception) (extra a b : Nat) : s.KeepsForm (((s.received n).refuseEarly x 0x0211 extra).discarded r.seq a b) :=
    ((keepsForm_received s n).trans (keepsForm_refuseEarly _ x _ _)).trans (keepsForm_discarded _ _ _ _)
  unfold State.takeJob
  extract_lets room kept all total t u
  have ht : s.KeepsForm t := keepsForm_received s _
  have hu : s.KeepsForm u := keepsForm_received s _
  split
  · exact hearly _ _ _ _ _
  · split
    · exact keepsForm_ite (hearly _ _ _ _ _) (ht.trans (by simp +contextual [State.KeepsForm]))
    · exact keepsForm_ite (hu.trans (keepsForm_creditViolation u _)) hu

@[simp] theorem keepsForm_beforeStart (s : State) : s.KeepsForm (s.beforeStart) := by
  unfold State.beforeStart
  (repeat' split) <;> simp +contextual [State.KeepsForm]

@[simp] theorem keepsForm_jobData (s : State) (seq : Nat) (start : Bool) (off : Nat) (data : List Byte) :
    s.KeepsForm (s.jobData seq start off data) := by
  unfold State.jobData
  extract_lets j t below u
  have ht : s.KeepsForm t := .refl s
  split
  · exact (ht.trans (keepsForm_beforeStart t)).trans (keepsForm_takeJob _ _ _ _)
  · split
    · exact keepsForm_ite ht (ht.trans (keepsForm_takeJob _ _ _ _))
    · have hu : s.KeepsForm u := (ht.trans (keepsForm_received t below)).trans (keepsForm_free _ _)
      exact keepsForm_ite (hu.trans (keepsForm_creditViolation u _)) hu

@[simp] theorem keepsForm_jobMessageIn (s : State) (n seq : Nat) (start : Bool) (payload : List Byte) :
    s.KeepsForm (s.jobMessageIn n seq start payload) := by
  unfold State.jobMessageIn
  (repeat' split) <;> simp +contextual [State.KeepsForm]

@[simp] theorem keepsForm_execJob (n : Nat) (start _more : Bool) (data : List Byte) (s s0 : State) :
    s.KeepsForm (outcomeState s0 (execJob n start _more data s)) := by
  unfold execJob
  (repeat' split) <;> simp +contextual [State.KeepsForm]

@[simp] theorem keepsForm_execGrantTimerExpiry (s s0 : State) : s.KeepsForm (outcomeState s0 (execGrantTimerExpiry s)) := by
  simp +contextual [State.KeepsForm, execGrantTimerExpiry]

/-! #### Time -/

@[simp] theorem keepsForm_countExchange (s : State) (offset delay : Int) : s.KeepsForm (s.countExchange offset delay) := by
  simp only [State.KeepsForm, State.countExchange]
  simp +contextual [setReg_regs, bump_regs]

@[simp] theorem keepsForm_servoUpdate (s : State) (offset delay : Int) : s.KeepsForm (s.servoUpdate offset delay) := by
  simp only [State.KeepsForm, State.servoUpdate]
  (repeat' split) <;> simp +contextual [bump_regs, setLeaf_leaves]

@[simp] theorem keepsForm_execPtpExchangeComplete (t1 c1 : Int) (t2 t3 : Nat) (t4 c2 : Int) (s s0 : State) :
    s.KeepsForm (outcomeState s0 (execPtpExchangeComplete t1 c1 t2 t3 t4 c2 s)) := by
  unfold execPtpExchangeComplete
  (repeat' split) <;> simp +contextual [State.KeepsForm]

@[simp] theorem keepsForm_execPtpExchangeTimeout (s s0 : State) : s.KeepsForm (outcomeState s0 (execPtpExchangeTimeout s)) := by
  simp +contextual [State.KeepsForm, execPtpExchangeTimeout]

@[simp] theorem keepsForm_selectMaster (s : State) (m : Option Announce) : s.KeepsForm (s.selectMaster m) := by
  simp only [State.KeepsForm, State.selectMaster]
  (repeat' split) <;> simp +contextual [setReg_regs, bump_regs, setLeaf_leaves]

@[simp] theorem keepsForm_announced (s : State) (a : Announce) : s.KeepsForm (s.announced a) := by
  simp +contextual [State.KeepsForm, State.announced]

@[simp] theorem keepsForm_holdTime (s : State) : s.KeepsForm (s.holdTime) := by
  simp +contextual [State.KeepsForm, State.holdTime]

@[simp] theorem keepsForm_execAnnounceTimeout (s s0 : State) : s.KeepsForm (outcomeState s0 (execAnnounceTimeout s)) := by
  simp +contextual [State.KeepsForm, execAnnounceTimeout]

@[simp] theorem keepsForm_execNtReanchor (s s0 : State) : s.KeepsForm (outcomeState s0 (execNtReanchor s)) := by
  simp +contextual [State.KeepsForm, execNtReanchor]

@[simp] theorem keepsForm_stepTime (s : State) : s.KeepsForm (s.stepTime) := by
  simp +contextual [State.KeepsForm, State.stepTime]

@[simp] theorem keepsForm_execStepNow (path : Path) (value : Nat) (s s0 : State) :
    s.KeepsForm (outcomeState s0 (execStepNow path value s)) :=
  keepsForm_taken (keepsForm_ite (keepsForm_stepTime s) (.refl s)) _ _ _ _

@[simp] theorem keepsForm_convertEt (s : State) (value : Nat) : s.KeepsForm (s.convertEt value) := by
  simp only [State.KeepsForm, State.convertEt]
  simp +contextual [setReg_regs]

@[simp] theorem keepsForm_execEtIn (path : Path) (value : Nat) (s s0 : State) : s.KeepsForm (outcomeState s0 (execEtIn path value s)) :=
  keepsForm_taken (keepsForm_convertEt s _) _ _ _ _

@[simp] theorem keepsForm_convertNt (s : State) (value : Nat) : s.KeepsForm (s.convertNt value) := by
  simp +contextual [State.KeepsForm, State.convertNt]

@[simp] theorem keepsForm_execNtInNanoseconds (path : Path) (value : Nat) (s s0 : State) :
    s.KeepsForm (outcomeState s0 (execNtInNanoseconds path value s)) :=
  keepsForm_taken (keepsForm_convertNt s _) _ _ _ _

/-! #### Exposure -/

@[simp] theorem keepsForm_execSegmentStaged (id : Nat) (s s0 : State) : s.KeepsForm (outcomeState s0 (execSegmentStaged id s)) := by
  unfold execSegmentStaged
  (repeat' split) <;> simp +contextual [State.KeepsForm]

@[simp] theorem keepsForm_headStart (s : State) (h : HeadNo) (g : Segment) : s.KeepsForm (s.headStart h g) := by
  unfold State.headStart
  (repeat' split) <;> simp +contextual [State.KeepsForm]

@[simp] theorem keepsForm_execHeadStart (h id : Nat) (s s0 : State) : s.KeepsForm (outcomeState s0 (execHeadStart h id s)) := by
  unfold execHeadStart
  (repeat' split) <;> simp +contextual [State.KeepsForm]

@[simp] theorem keepsForm_evaluateAt (s : State) (seg : Option Nat) : s.KeepsForm (s.evaluateAt seg) := by
  unfold State.evaluateAt
  (repeat' split) <;> simp +contextual [State.KeepsForm]

@[simp] theorem keepsForm_execItemComplete (h : Nat) (s s0 : State) : s.KeepsForm (outcomeState s0 (execItemComplete h s)) := by
  unfold execItemComplete
  (repeat' split) <;> simp +contextual [State.KeepsForm]

@[simp] theorem keepsForm_execBarrierRelease (id barrier : Nat) (s s0 : State) :
    s.KeepsForm (outcomeState s0 (execBarrierRelease id barrier s)) := by
  have hon (t : State) (h : HeadNo) : t.KeepsForm ((t.holdFor h .idle).goOn h) := by simp +contextual [State.KeepsForm]
  unfold execBarrierRelease outcomeState
  dsimp only
  split
  · exact keepsForm_ite ((keepsForm_foldl hon _ s).trans (keepsForm_evaluate _ _)) (.refl s)
  · exact .refl s

@[simp] theorem keepsForm_beginHeld (s : State) (h : HeadNo) : s.KeepsForm (s.beginHeld h) := by
  unfold State.beginHeld
  (repeat' split) <;> simp +contextual [State.KeepsForm]

@[simp] theorem keepsForm_execDataWaitEnd (h : Nat) (s s0 : State) : s.KeepsForm (outcomeState s0 (execDataWaitEnd h s)) := by
  unfold execDataWaitEnd
  (repeat' split) <;> simp +contextual [State.KeepsForm]

@[simp] theorem keepsForm_execDrainHoldEnd (h : Nat) (s s0 : State) : s.KeepsForm (outcomeState s0 (execDrainHoldEnd h s)) := by
  unfold execDrainHoldEnd
  (repeat' split) <;> simp +contextual [State.KeepsForm]

@[simp] theorem keepsForm_execLineBufferWrite (h b : Nat) (s s0 : State) : s.KeepsForm (outcomeState s0 (execLineBufferWrite h b s)) := by
  simp +contextual [State.KeepsForm, execLineBufferWrite]

@[simp] theorem keepsForm_execPlanDecision (h : Nat) (s s0 : State) : s.KeepsForm (outcomeState s0 (execPlanDecision h s)) := by
  unfold execPlanDecision
  (repeat' split) <;> simp +contextual [State.KeepsForm]

/-! #### Requests -/

@[simp] theorem keepsForm_resumeHeads (s : State) : s.KeepsForm (s.resumeHeads) := by
  refine keepsForm_foldl (fun t h => ?_) _ s
  exact keepsForm_ite (by simp +contextual [State.KeepsForm]) (.refl t)

@[simp] theorem keepsForm_stopAll (s : State) : s.KeepsForm (s.stopAll) := by
  simp +contextual [State.KeepsForm, State.stopAll]

@[simp] theorem keepsForm_carryOut (s : State) (code : Nat) : s.KeepsForm (s.carryOut code) := by
  unfold State.carryOut
  (repeat' split) <;> simp +contextual [State.KeepsForm]

@[simp] theorem keepsForm_withResult (s : State) (result : Nat) : s.KeepsForm (s.withResult result) := by
  simp +contextual [State.KeepsForm, State.withResult]

@[simp] theorem keepsForm_request (s : State) (p : Path) (alone : Bool) (code : Nat) : s.KeepsForm (s.request p alone code) := by
  simp only [State.KeepsForm, State.request]
  (repeat' split) <;> simp +contextual

@[simp] theorem keepsForm_writeRequest (s : State) (p : Path) (alone : Bool) (code : Nat) : s.KeepsForm (s.writeRequest p alone code) := by
  unfold State.writeRequest
  (repeat' split) <;> simp +contextual [State.KeepsForm]

@[simp] theorem keepsForm_execArm (path : Path) (alone : Bool) (s s0 : State) : s.KeepsForm (outcomeState s0 (execArm path alone s)) := by
  simp +contextual [State.KeepsForm, execArm]

@[simp] theorem keepsForm_execRun (path : Path) (alone : Bool) (s s0 : State) : s.KeepsForm (outcomeState s0 (execRun path alone s)) := by
  simp +contextual [State.KeepsForm, execRun]

@[simp] theorem keepsForm_execPause (path : Path) (alone : Bool) (s s0 : State) :
    s.KeepsForm (outcomeState s0 (execPause path alone s)) := by
  simp +contextual [State.KeepsForm, execPause]

@[simp] theorem keepsForm_execResume (path : Path) (alone : Bool) (s s0 : State) :
    s.KeepsForm (outcomeState s0 (execResume path alone s)) := by
  simp +contextual [State.KeepsForm, execResume]

@[simp] theorem keepsForm_execStop (path : Path) (alone : Bool) (s s0 : State) : s.KeepsForm (outcomeState s0 (execStop path alone s)) := by
  simp +contextual [State.KeepsForm, execStop]

@[simp] theorem keepsForm_execDisarm (path : Path) (alone : Bool) (s s0 : State) :
    s.KeepsForm (outcomeState s0 (execDisarm path alone s)) := by
  simp +contextual [State.KeepsForm, execDisarm]

@[simp] theorem keepsForm_execClear (path : Path) (alone : Bool) (s s0 : State) :
    s.KeepsForm (outcomeState s0 (execClear path alone s)) := by
  simp +contextual [State.KeepsForm, execClear]

@[simp] theorem keepsForm_execRestart (path : Path) (alone : Bool) (s s0 : State) :
    s.KeepsForm (outcomeState s0 (execRestart path alone s)) := by
  simp +contextual [State.KeepsForm, execRestart]

@[simp] theorem keepsForm_execRequestNone (path : Path) (alone : Bool) (s s0 : State) :
    s.KeepsForm (outcomeState s0 (execRequestNone path alone s)) := by
  simp +contextual [State.KeepsForm, execRequestNone]

@[simp] theorem keepsForm_execStateRequestInvalid (path : Path) (code : Nat) (s s0 : State) :
    s.KeepsForm (outcomeState s0 (execStateRequestInvalid path code s)) := by
  simp +contextual [State.KeepsForm, execStateRequestInvalid]

@[simp] theorem keepsForm_execPauseHoldReached (s s0 : State) : s.KeepsForm (outcomeState s0 (execPauseHoldReached s)) := by
  simp +contextual [State.KeepsForm, execPauseHoldReached]

@[simp] theorem keepsForm_execWatchdogExpiry (s s0 : State) : s.KeepsForm (outcomeState s0 (execWatchdogExpiry s)) := by
  unfold execWatchdogExpiry
  (repeat' split) <;> simp +contextual [State.KeepsForm]

@[simp] theorem keepsForm_execFirmwareRestartComplete (s s0 : State) : s.KeepsForm (outcomeState s0 (execFirmwareRestartComplete s)) := by
  simp +contextual [State.KeepsForm, execFirmwareRestartComplete]

/-! #### Orders -/

@[simp] theorem keepsForm_obey (s : State) (request cause : Nat) : s.KeepsForm (s.obey request cause) := by
  unfold State.obey
  (repeat' split) <;> simp +contextual [State.KeepsForm]

@[simp] theorem keepsForm_dueOrders (s : State) : s.KeepsForm (s.dueOrders) :=
  .trans (t := { s with twin := { s.twin with orders := s.twin.orders.filter (fun o => (o.due s.et).isNone) } }) (.refl s)
    (keepsForm_foldl (fun (t : State) (o : Nat × Nat) => keepsForm_obey t o.1 o.2) _ _)

@[simp] theorem keepsForm_goOnFrom (s : State) (h : HeadNo) (et : Tick) : s.KeepsForm (s.goOnFrom h et) := by
  unfold State.goOnFrom
  (repeat' split) <;> simp +contextual [State.KeepsForm]

@[simp] theorem keepsForm_applyFactor (s : State) (o : Nat × HeadNo × Nat × Tick) : s.KeepsForm (s.applyFactor o) := by
  unfold State.applyFactor
  (repeat' split) <;> simp +contextual [State.KeepsForm]

@[simp] theorem keepsForm_dueFactors (s : State) : s.KeepsForm (s.dueFactors) := by
  simp +contextual [State.KeepsForm, State.dueFactors]

@[simp] theorem keepsForm_dueEntries (s : State) : s.KeepsForm (s.dueEntries) := by
  simp +contextual [State.KeepsForm, State.dueEntries]

theorem keepsForm_takeNumber {s t : State} {seq : Nat} (h : s.takeNumber seq = some t) : s.KeepsForm t := by
  unfold State.takeNumber at h
  split at h
  · cases h
  · cases h
    have ha : s.KeepsForm (if seqBelow seq s.twin.askedTo then s.bump 0xD001 13 else if seq = s.twin.rxNext then s else s.askRepeat seq) :=
      keepsForm_ite (keepsForm_bump s _ _) (keepsForm_ite (.refl s) (by simp +contextual [State.KeepsForm]))
    exact ha

@[simp] theorem keepsForm_numbered (s : State) (seq : Nat) (f : State → State) (hf : ∀ t : State, t.KeepsForm (f t)) :
    s.KeepsForm (s.numbered seq f) := by
  unfold State.numbered
  split
  · next t ht => exact (keepsForm_takeNumber ht).trans (hf t)
  · exact .refl s

@[simp] theorem keepsForm_shadowing (s : State) (seq : Nat) (f : State → State) (hf : ∀ t : State, t.KeepsForm (f t)) :
    s.KeepsForm (s.shadowing seq f) :=
  keepsForm_numbered s seq _ (fun t => keepsForm_ite (hf t) (.refl t))

/-! #### HeadLink -/

@[simp] theorem keepsForm_writeLinkEnable (s : State) (h value : Nat) : s.KeepsForm (s.writeLinkEnable h value) := by
  simp only [State.KeepsForm, State.writeLinkEnable]
  (repeat' split) <;> simp +contextual [setReg_regs]

@[simp] theorem keepsForm_execHeadLinkEnableWrite (path : Path) (h value : Nat) (s s0 : State) :
    s.KeepsForm (outcomeState s0 (execHeadLinkEnableWrite path h value s)) :=
  keepsForm_taken (keepsForm_writeLinkEnable s _ _) _ _ _ _

@[simp] theorem keepsForm_execHeadLinkTrainingTimeout (h : Nat) (s s0 : State) :
    s.KeepsForm (outcomeState s0 (execHeadLinkTrainingTimeout h s)) := by
  simp +contextual [State.KeepsForm, execHeadLinkTrainingTimeout]

@[simp] theorem keepsForm_execRetrainHoldoffExpiry (h : Nat) (s s0 : State) :
    s.KeepsForm (outcomeState s0 (execRetrainHoldoffExpiry h s)) := by
  simp +contextual [State.KeepsForm, execRetrainHoldoffExpiry]

@[simp] theorem keepsForm_execUplinkLockLoss (h : Nat) (s s0 : State) : s.KeepsForm (outcomeState s0 (execUplinkLockLoss h s)) := by
  simp +contextual [State.KeepsForm, execUplinkLockLoss]

/-! #### Interrupt -/

@[simp] theorem keepsForm_clearCauses (s : State) (reg value : Nat) : s.KeepsForm (s.clearCauses reg value) := by
  simp +contextual [State.KeepsForm, State.clearCauses]

@[simp] theorem keepsForm_takeCauses (s : State) (p : Path) (reg : Nat) : s.KeepsForm (s.takeCauses p reg) := by
  simp +contextual [State.KeepsForm, State.takeCauses]

@[simp] theorem keepsForm_execCause (path : Path) (reg value : Nat) (s s0 : State) :
    s.KeepsForm (outcomeState s0 (execCause path reg value s)) :=
  keepsForm_taken (keepsForm_clearCauses s _ _) _ _ _ _

@[simp] theorem keepsForm_execTake (path : Path) (reg : Nat) (s s0 : State) : s.KeepsForm (outcomeState s0 (execTake path reg s)) :=
  keepsForm_taken (keepsForm_takeCauses s _ _) _ _ _ _

/-! #### Recoating -/

@[simp] theorem keepsForm_startRecoat (s : State) (layer : Nat) : s.KeepsForm (s.startRecoat layer) := by
  simp +contextual [State.KeepsForm, State.startRecoat]

@[simp] theorem keepsForm_execRecoatStart (path : Path) (layer : Nat) (s s0 : State) :
    s.KeepsForm (outcomeState s0 (execRecoatStart path layer s)) :=
  keepsForm_taken (keepsForm_startRecoat s _) _ _ _ _

@[simp] theorem keepsForm_execManualReport (path : Path) (layer : Nat) (s s0 : State) :
    s.KeepsForm (outcomeState s0 (execManualReport path layer s)) :=
  keepsForm_taken (keepsForm_reportRecoat s _) _ _ _ _

/-! #### Writing -/

@[simp] theorem keepsForm_store (s : State) (index sub : Nat) (data : List Byte) : s.KeepsForm (s.store index sub data) := by
  unfold State.store
  (repeat' split) <;> simp +contextual [State.KeepsForm]

@[simp] theorem keepsForm_plainEffect (s : State) (index sub : Nat) (data : List Byte) : s.KeepsForm (s.plainEffect index sub data) := by
  unfold State.plainEffect
  (repeat' split) <;> simp +contextual [State.KeepsForm]

@[simp] theorem keepsForm_plainWrite (s : State) (p : Path) (index sub : Nat) (data : List Byte) :
    s.KeepsForm (s.plainWrite p index sub data) := by
  simp +contextual [State.KeepsForm, State.plainWrite]

@[simp] theorem keepsForm_onOne (s : State) (p : Path) (v : Nat) (f : State → Host.Outcome State Fault Refusal) (hf : ∀ t :
    State, t.KeepsForm (outcomeState t (f t))) : s.KeepsForm (s.onOne p v f) :=
  keepsForm_ite (keepsForm_nextState s f hf) (by simp +contextual [State.KeepsForm])

@[simp] theorem keepsForm_stopHome (s : State) (p : Path) (m v : Nat) : s.KeepsForm (s.stopHome p m v) := by
  unfold State.stopHome
  (repeat' split) <;> simp +contextual [State.KeepsForm]

@[simp] theorem keepsForm_applyWrite (s : State) (index sub : Nat) (data : List Byte) : s.KeepsForm (s.applyWrite index sub data) := by
  simp only [State.KeepsForm, State.applyWrite]
  (repeat' split) <;> simp +contextual [bump_regs]

/-! #### Reckoner -/

@[simp] theorem keepsForm_leadDecision (s : State) (g : Segment) : s.KeepsForm (s.leadDecision g) := by
  simp +contextual [State.KeepsForm, State.leadDecision]

@[simp] theorem keepsForm_applyWrites (s : State) : s.KeepsForm (s.applyWrites) := by
  simp +contextual [State.KeepsForm, State.applyWrites]

@[simp] theorem keepsForm_compareOutcome (s : State) : s.KeepsForm (s.compareOutcome) := by
  unfold State.compareOutcome
  (repeat' split) <;> simp +contextual [State.KeepsForm]

@[simp] theorem keepsForm_decideAs (s : State) (g : Segment) (tRef latency : Nat) : s.KeepsForm (s.decideAs g tRef latency) := by
  unfold State.decideAs
  extract_lets j t
  have ht : s.KeepsForm t := keepsForm_settleSegment s g j
  exact ht.trans (by simp +contextual [State.KeepsForm])

@[simp] theorem keepsForm_followDecision (s : State) : s.KeepsForm (s.followDecision) := by
  simp only [State.KeepsForm, State.followDecision]
  (repeat' split) <;> simp +contextual

@[simp] theorem keepsForm_execSegmentDecision (s s0 : State) : s.KeepsForm (outcomeState s0 (execSegmentDecision s)) := by
  unfold execSegmentDecision
  (repeat' split) <;> simp +contextual [State.KeepsForm]

/-! #### Twin -/

@[simp] theorem keepsForm_follow (s : State) (seq : Nat) (f : State → State) (hf : ∀ t : State, t.KeepsForm (f t)) :
    s.KeepsForm (s.follow seq f) :=
  keepsForm_shadowing s seq _ (fun t => (hf t).trans (keepsForm_followDecision _))

@[simp] theorem keepsForm_execHeartbeatSend (s s0 : State) : s.KeepsForm (outcomeState s0 (execHeartbeatSend s)) := by
  simp +contextual [State.KeepsForm, execHeartbeatSend]

@[simp] theorem keepsForm_countMissed (s : State) (n : Nat) : s.KeepsForm (s.countMissed n) := by
  simp +contextual [State.KeepsForm, State.countMissed]

@[simp] theorem keepsForm_hear (s : State) (sendEt role state epoch nextSeq held : Nat) :
    s.KeepsForm (s.hear sendEt role state epoch nextSeq held) := by
  unfold State.hear
  (repeat' split) <;> simp +contextual [State.KeepsForm]

@[simp] theorem keepsForm_execHeartbeat (sendEt role state epoch nextSeq jobHeld : Nat) (s s0 : State) :
    s.KeepsForm (outcomeState s0 (execHeartbeat sendEt role state epoch nextSeq jobHeld s)) := by
  simp +contextual [State.KeepsForm, execHeartbeat]

@[simp] theorem keepsForm_execTwinAliveEdge (s s0 : State) : s.KeepsForm (outcomeState s0 (execTwinAliveEdge s)) := by
  simp +contextual [State.KeepsForm, execTwinAliveEdge]

@[simp] theorem keepsForm_execTwinLinkFailed (s s0 : State) : s.KeepsForm (outcomeState s0 (execTwinLinkFailed s)) := by
  refine keepsForm_inTurn s _ _ (keepsForm_ite ?_ (.refl s))
  extract_lets t twin u
  have ht : s.KeepsForm t := keepsForm_countMissed s _
  have hu : s.KeepsForm u := ht.trans (by simp +contextual [State.KeepsForm, u])
  exact keepsForm_ite (hu.trans (keepsForm_goCold u _)) hu

@[simp] theorem keepsForm_execOwnHeartbeatLapse (s s0 : State) : s.KeepsForm (outcomeState s0 (execOwnHeartbeatLapse s)) := by
  unfold execOwnHeartbeatLapse
  (repeat' split) <;> simp +contextual [State.KeepsForm]

@[simp] theorem keepsForm_takeOver (s : State) : s.KeepsForm (s.takeOver) := by
  unfold State.takeOver
  extract_lets a b c d
  have ha : s.KeepsForm a := keepsForm_countMissed s _
  clear_value a
  have hb : a.KeepsForm b := by
    apply keepsForm_foldl
    intro t w
    exact keepsForm_applyWrite t _ _ _
  have hc : s.KeepsForm c := (ha.trans hb).trans (keepsForm_foldl (fun t r => by simp +contextual [State.KeepsForm]) _ b)
  have hd : s.KeepsForm d := hc.trans (by simp +contextual [State.KeepsForm, d])
  clear_value d
  exact hd.trans (by simp +contextual [State.KeepsForm, bump_regs, setReg_regs])

@[simp] theorem keepsForm_execTakeover (s s0 : State) : s.KeepsForm (outcomeState s0 (execTakeover s)) := by
  simp +contextual [State.KeepsForm, execTakeover]

@[simp] theorem keepsForm_execGapRecordTimeout (h : Nat) (s s0 : State) : s.KeepsForm (outcomeState s0 (execGapRecordTimeout h s)) := by
  unfold execGapRecordTimeout
  (repeat' split) <;> simp +contextual [State.KeepsForm]

@[simp] theorem keepsForm_execDecision (seq transport tRef latency : Nat) (s s0 : State) :
    s.KeepsForm (outcomeState s0 (execDecision seq transport tRef latency s)) := by
  simp +contextual [State.KeepsForm, execDecision]

@[simp] theorem keepsForm_execOutcome (seq transport id code promise : Nat) (s s0 : State) :
    s.KeepsForm (outcomeState s0 (execOutcome seq transport id code promise s)) := by
  simp +contextual [State.KeepsForm, execOutcome]

@[simp] theorem keepsForm_execPlan (seq id h kind item applyEt value : Nat) (s s0 : State) :
    s.KeepsForm (outcomeState s0 (execPlan seq id h kind item applyEt value s)) := by
  refine keepsForm_follow s seq _ (fun t => ?_)
  refine .trans (t := { t with twin := { t.twin with orders := t.twin.orders ++ [TwinOrder.plan id h kind item applyEt value] } })
    (.refl t) ?_
  simp +contextual [State.KeepsForm]

@[simp] theorem keepsForm_applyCut (s : State) (g : Segment) (h cause mask : Nat) (onset : Tick) :
    s.KeepsForm (s.applyCut g h cause mask onset) := by
  unfold State.applyCut
  extract_lets w t u
  have hw : s.KeepsForm ((s.cutSent g.key h mask onset).suppressWork h (w.1, w.2.1) w.2.2 cause s.freeDetail) :=
    .trans (t := s.cutSent g.key h mask onset) (by simp +contextual [State.KeepsForm]) (keepsForm_suppressWork _ h _ _ _ _)
  have ht : s.KeepsForm t := hw.trans (by simp +contextual [State.KeepsForm, t])
  clear_value t w
  have hu : s.KeepsForm u := keepsForm_ite (ht.trans (by simp +contextual [State.KeepsForm])) ht
  exact hu.trans (keepsForm_breakPromise u _ _ _ _ _)

@[simp] theorem keepsForm_execCut (seq id h cause mask onsetEt : Nat) (s s0 : State) :
    s.KeepsForm (outcomeState s0 (execCut seq id h cause mask onsetEt s)) := by
  refine keepsForm_follow s seq _ (fun t => ?_)
  split
  · exact keepsForm_applyCut t _ _ _ _ _
  · exact .refl t

@[simp] theorem keepsForm_execStateMessage (seq request cause applyEt : Nat) (s s0 : State) :
    s.KeepsForm (outcomeState s0 (execStateMessage seq request cause applyEt s)) := by
  simp +contextual [State.KeepsForm, execStateMessage]

@[simp] theorem keepsForm_execTwinWrite (seq before index sub : Nat) (data : List Byte) (s s0 : State) :
    s.KeepsForm (outcomeState s0 (execTwinWrite seq before index sub data s)) := by
  simp +contextual [State.KeepsForm, execTwinWrite]

@[simp] theorem keepsForm_holdCopy (s : State) (f : TreyxFrame) : s.KeepsForm (s.holdCopy f) := by
  unfold State.holdCopy
  (repeat' split) <;> simp +contextual [State.KeepsForm]

@[simp] theorem keepsForm_execHostCopy (seq : Nat) (frame : List Byte) (s s0 : State) :
    s.KeepsForm (outcomeState s0 (execHostCopy seq frame s)) := by
  simp +contextual [State.KeepsForm, execHostCopy]

@[simp] theorem keepsForm_execDigest (seq id value : Nat) (s s0 : State) : s.KeepsForm (outcomeState s0 (execDigest seq id value s)) := by
  simp +contextual [State.KeepsForm, execDigest]

@[simp] theorem keepsForm_execLedger (seq snapshotEt : Nat) (ids channels : List Nat) (planned correction delivered withheld : List Int)
    (s s0 : State) :
    s.KeepsForm (outcomeState s0 (execLedger seq snapshotEt ids channels planned correction delivered withheld s)) := by
  simp +contextual [State.KeepsForm, execLedger]

@[simp] theorem keepsForm_execLedgerSend (s s0 : State) : s.KeepsForm (outcomeState s0 (execLedgerSend s)) := by
  simp +contextual [State.KeepsForm, execLedgerSend]

@[simp] theorem keepsForm_takeMotion (s : State) (count : Int) (layer : Nat) : s.KeepsForm (s.takeMotion count layer) := by
  simp +contextual [State.KeepsForm, State.takeMotion]

@[simp] theorem keepsForm_execMotion (seq : Nat) (count : Int) (layer : Nat) (s s0 : State) :
    s.KeepsForm (outcomeState s0 (execMotion seq count layer s)) :=
  keepsForm_numbered s seq _ (fun t => keepsForm_ite (.refl t) (by simp +contextual [State.KeepsForm]))

@[simp] theorem keepsForm_repeatMessages (s : State) (first count : Nat) : s.KeepsForm (s.repeatMessages first count) := by
  simp +contextual [State.KeepsForm, State.repeatMessages]

@[simp] theorem keepsForm_execRepeatRequest (seq first count : Nat) (s s0 : State) :
    s.KeepsForm (outcomeState s0 (execRepeatRequest seq first count s)) := by
  simp +contextual [State.KeepsForm, execRepeatRequest]

@[simp] theorem keepsForm_execTwinMessageLate (seq : Nat) (s s0 : State) : s.KeepsForm (outcomeState s0 (execTwinMessageLate seq s)) := by
  unfold execTwinMessageLate
  (repeat' split) <;> simp +contextual [State.KeepsForm]

@[simp] theorem keepsForm_execStateDivergenceTimeout (s s0 : State) : s.KeepsForm (outcomeState s0 (execStateDivergenceTimeout s)) := by
  unfold execStateDivergenceTimeout
  (repeat' split) <;> simp +contextual [State.KeepsForm]

/-! #### Pairing -/

@[simp] theorem keepsForm_pair (s : State) : s.KeepsForm (s.pair) := by
  unfold State.pair
  (repeat' split) <;> simp +contextual [State.KeepsForm]

@[simp] theorem keepsForm_execTwinLinkBlockLock (versionMax versionMin firmware microcode digest rank serial role : Nat)
    (trips : List Nat) (sendEt : Nat) (s s0 : State) : s.KeepsForm (outcomeState s0
      (execTwinLinkBlockLock versionMax versionMin firmware microcode digest rank serial role trips sendEt s)) := by
  unfold execTwinLinkBlockLock
  (repeat' split) <;> simp +contextual [State.KeepsForm]

@[simp] theorem keepsForm_execTwinLinkLockLoss (s s0 : State) : s.KeepsForm (outcomeState s0 (execTwinLinkLockLoss s)) := by
  simp +contextual [State.KeepsForm, execTwinLinkLockLoss]

@[simp] theorem keepsForm_execTwinSoloTimeout (s s0 : State) : s.KeepsForm (outcomeState s0 (execTwinSoloTimeout s)) := by
  simp +contextual [State.KeepsForm, execTwinSoloTimeout]

@[simp] theorem keepsForm_writeTwinEnable (s : State) (value : Nat) : s.KeepsForm (s.writeTwinEnable value) := by
  unfold State.writeTwinEnable
  (repeat' split) <;> simp +contextual [State.KeepsForm]

@[simp] theorem keepsForm_execTwinEnable (path : Path) (value : Nat) (s s0 : State) :
    s.KeepsForm (outcomeState s0 (execTwinEnable path value s)) :=
  keepsForm_taken (keepsForm_writeTwinEnable s _) _ _ _ _

@[simp] theorem keepsForm_execRelease (path : Path) (value : Nat) (s s0 : State) :
    s.KeepsForm (outcomeState s0 (execRelease path value s)) :=
  keepsForm_taken (keepsForm_ite (keepsForm_goCold s _) (.refl s)) _ _ _ _

@[simp] theorem keepsForm_startJoin (s : State) : s.KeepsForm (s.startJoin) := by
  simp +contextual [State.KeepsForm, State.startJoin]

@[simp] theorem keepsForm_execJoin (path : Path) (value : Nat) (s s0 : State) : s.KeepsForm (outcomeState s0 (execJoin path value s)) :=
  keepsForm_taken (keepsForm_ite (keepsForm_ite (keepsForm_startJoin s) (keepsForm_setReg s _ _ _)) (.refl s)) _ _ _ _

@[simp] theorem keepsForm_execAutoJoinStart (s s0 : State) : s.KeepsForm (outcomeState s0 (execAutoJoinStart s)) := by
  simp +contextual [State.KeepsForm, execAutoJoinStart]

@[simp] theorem keepsForm_joinedSession (s : State) (bs : List Byte) : s.KeepsForm (s.joinedSession bs) := by
  simp only [State.KeepsForm, State.joinedSession]
  (repeat' split) <;> simp +contextual [setReg_regs]

@[simp] theorem keepsForm_takeJoin (s : State) (bs : List Byte) : s.KeepsForm (s.takeJoin bs) := by
  simp +contextual [State.KeepsForm, State.takeJoin]

@[simp] theorem keepsForm_joinReceived (s : State) (content : List Byte) (offset : Int) (delay : Nat) :
    s.KeepsForm (s.joinReceived content offset delay) := by
  unfold State.joinReceived
  (repeat' split) <;> simp +contextual [State.KeepsForm]

@[simp] theorem keepsForm_execJoinReceived (content : List Byte) (trips : List Nat) (sendEt : Nat) (s s0 : State) :
    s.KeepsForm (outcomeState s0 (execJoinReceived content trips sendEt s)) := by
  simp +contextual [State.KeepsForm, execJoinReceived]

/-! #### Dictionary -/

theorem keepsForm_writeComm {s t : State} {p : Path} {index sub v : Nat} {data : List Byte} (h :
    s.writeComm p index sub v data = some t) : s.KeepsForm t := by
  unfold State.writeComm at h
  split at h <;> cases h
  · exact keepsForm_nextState s _ (fun u => keepsForm_execStore _ _ u u)
  · exact keepsForm_nextState s _ (fun u => keepsForm_execRestoreDefaults _ _ u u)
  · exact keepsForm_nextState s _ (fun u => keepsForm_execResponse _ _ u u)
  · exact keepsForm_onOne s _ _ _ (fun u => by simp +contextual [State.KeepsForm])
  · exact keepsForm_nextState s _ (fun u => keepsForm_execBypassEnableWrite _ _ u u)

theorem keepsForm_writeDevice {s t : State} {p : Path} {alone : Bool} {index sub v : Nat} {data : List Byte} (h :
    s.writeDevice p alone index sub v data = some t) : s.KeepsForm t := by
  unfold State.writeDevice at h
  split at h
  case h_6 =>
    split at h
    · cases h
      exact keepsForm_nextState s _ (fun u => keepsForm_execCalibrationUserWrite _ _ _ _ u u)
    · split at h <;> cases h
      exact keepsForm_nextState s _ (fun u => keepsForm_execCause _ _ _ u u)
  all_goals cases h
  · exact keepsForm_writeRequest s _ _ _
  · exact keepsForm_nextState s _ (fun u => by simp +contextual [State.KeepsForm])
  · exact keepsForm_nextState s _ (fun u => keepsForm_execEtIn _ _ u u)
  · exact keepsForm_nextState s _ (fun u => keepsForm_execNtInNanoseconds _ _ u u)
  · exact keepsForm_nextState s _ (fun u => keepsForm_execStepNow _ _ u u)

theorem keepsForm_writeJob {s t : State} {p : Path} {index sub v : Nat} {data : List Byte} (h : s.writeJob p index sub v data = some t) :
    s.KeepsForm t := by
  unfold State.writeJob at h
  (repeat' split at h) <;> cases h
  · exact keepsForm_nextState s _ (fun u => keepsForm_execStitchTableWrite _ _ _ _ u u)
  · exact keepsForm_nextState s _ (fun u => keepsForm_execCalibrationUserWrite _ _ _ _ u u)
  · exact keepsForm_nextState s _ (fun u => keepsForm_execCancelId _ _ u u)
  · exact keepsForm_onOne s _ _ _ (fun u => by simp +contextual [State.KeepsForm])
  · exact keepsForm_nextState s _ (fun u => by simp +contextual [State.KeepsForm])
  · exact keepsForm_nextState s _ (fun u => keepsForm_execLawWrite _ _ _ _ u u)
  · exact keepsForm_nextState s _ (fun u => keepsForm_execLoopEnable _ _ _ _ u u)

theorem keepsForm_writeMotion {s t : State} {p : Path} {index sub v : Nat} {data : List Byte} (h :
    s.writeMotion p index sub v data = some t) : s.KeepsForm t := by
  unfold State.writeMotion at h
  dsimp only at h
  (repeat' split at h) <;> cases h
  · exact keepsForm_nextState s _ (fun u => keepsForm_execHeadLinkEnableWrite _ _ _ u u)
  · exact keepsForm_nextState s _ (fun u => keepsForm_execEnableAxis _ _ _ u u)
  · exact keepsForm_nextState s _ (fun u => keepsForm_execGo _ _ _ u u)
  · exact keepsForm_stopHome s _ _ _
  · exact keepsForm_nextState s _ (fun u => by simp +contextual [State.KeepsForm])
  · exact keepsForm_nextState s _ (fun u => keepsForm_execRecoatStart _ _ u u)
  · exact keepsForm_nextState s _ (fun u => keepsForm_execManualReport _ _ u u)
  · exact keepsForm_nextState s _ (fun u => by simp +contextual [State.KeepsForm])

theorem keepsForm_writeImages {s t : State} {p : Path} {index sub v : Nat} {data : List Byte} (h :
    s.writeImages p index sub v data = some t) : s.KeepsForm t := by
  unfold State.writeImages at h
  split at h <;> cases h
  · exact keepsForm_nextState s _ (fun u => keepsForm_execSfImage _ _ _ u u)
  · exact keepsForm_nextState s _ (fun u => keepsForm_execMcImage _ _ _ u u)
  · exact keepsForm_nextState s _ (fun u => keepsForm_execTrial _ _ u u)
  · exact keepsForm_nextState s _ (fun u => keepsForm_execConfirm _ _ u u)
  · exact keepsForm_nextState s _ (fun u => by simp +contextual [State.KeepsForm])
  · exact keepsForm_nextState s _ (fun u => by simp +contextual [State.KeepsForm])
  · exact keepsForm_nextState s _ (fun u => by simp +contextual [State.KeepsForm])
  · exact keepsForm_nextState s _ (fun u => keepsForm_execClearTopsoil _ _ u u)
  · exact keepsForm_nextState s _ (fun u => keepsForm_execFlush _ _ u u)
  · exact keepsForm_nextState s _ (fun u => keepsForm_execHostRecord _ _ u u)

theorem keepsForm_writeTwin {s t : State} {p : Path} {index sub v : Nat} (h : s.writeTwin p index sub v = some t) : s.KeepsForm t := by
  unfold State.writeTwin at h
  split at h <;> cases h
  · exact keepsForm_nextState s _ (fun u => keepsForm_execTwinEnable _ _ u u)
  · exact keepsForm_nextState s _ (fun u => keepsForm_execJoin _ _ u u)
  · exact keepsForm_nextState s _ (fun u => keepsForm_execRelease _ _ u u)

theorem keepsForm_ownWrite {s t : State} {p : Path} {alone : Bool} {index sub : Nat} {data : List Byte} (h :
    s.ownWrite p alone index sub data = some t) : s.KeepsForm t := by
  unfold State.ownWrite at h
  dsimp only at h
  split at h
  · exact keepsForm_writeComm h
  · exact keepsForm_writeDevice h
  · exact keepsForm_writeMotion h
  · exact keepsForm_writeMotion h
  · exact keepsForm_writeImages h
  · exact keepsForm_writeImages h
  · exact keepsForm_writeTwin h
  · exact keepsForm_writeJob h

@[simp] theorem keepsForm_odWrite (s : State) (p : Path) (index sub : Nat) (data : List Byte) (alone : Bool) :
    s.KeepsForm (s.odWrite p index sub data alone) := by
  unfold State.odWrite
  split
  · exact keepsForm_access s p _ s [] (.refl s)
  · refine keepsForm_ite ?_ ?_
    · exact keepsForm_access s p _ _ [] (by simp +contextual [State.KeepsForm])
    · cases h : s.ownWrite p alone index sub data with
      | none => exact keepsForm_plainWrite s p index sub data
      | some t => exact keepsForm_ownWrite h

@[simp] theorem keepsForm_execDictionaryWrite (path : Path) (index sub : Nat) (data : List Byte) (s s0 : State) :
    s.KeepsForm (outcomeState s0 (execDictionaryWrite path index sub data s)) := by
  unfold execDictionaryWrite
  (repeat' split) <;> simp +contextual [State.KeepsForm]

@[simp] theorem keepsForm_odRead (s : State) (p : Path) (index sub : Nat) : s.KeepsForm (s.odRead p index sub) := by
  unfold State.odRead
  (repeat' split) <;> simp +contextual [State.KeepsForm]

@[simp] theorem keepsForm_sdoRead (s : State) (p : Path) (tid index sub : Nat) : s.KeepsForm (s.sdoRead p tid index sub) := by
  simp +contextual [State.KeepsForm, State.sdoRead]

@[simp] theorem keepsForm_execSdoRead (path : Path) (tid index sub : Nat) (s s0 : State) :
    s.KeepsForm (outcomeState s0 (execSdoRead path tid index sub s)) := by
  unfold execSdoRead
  (repeat' split) <;> simp +contextual [State.KeepsForm]

@[simp] theorem keepsForm_sdoWrite (s : State) (p : Path) (tid index sub : Nat) (data : List Byte) (alone : Bool) :
    s.KeepsForm (s.sdoWrite p tid index sub data alone) := by
  simp +contextual [State.KeepsForm, State.sdoWrite]

@[simp] theorem keepsForm_execSdoWrite (path : Path) (tid index sub : Nat) (data : List Byte) (alone : Bool) (s s0 : State) :
    s.KeepsForm (outcomeState s0 (execSdoWrite path tid index sub data alone s)) := by
  unfold execSdoWrite
  (repeat' split) <;> simp +contextual [State.KeepsForm]

@[simp] theorem keepsForm_openBlock (s : State) (p : Path) (tid index sub total : Nat) :
    s.KeepsForm (s.openBlock p tid index sub total) := by
  unfold State.openBlock
  (repeat' split) <;> simp +contextual [State.KeepsForm]

@[simp] theorem keepsForm_execBlockWrite (path : Path) (tid index sub total : Nat) (s s0 : State) :
    s.KeepsForm (outcomeState s0 (execBlockWrite path tid index sub total s)) := by
  unfold execBlockWrite
  (repeat' split) <;> simp +contextual [State.KeepsForm]

@[simp] theorem keepsForm_readBlock (s : State) (p : Path) (tid index sub : Nat) : s.KeepsForm (s.readBlock p tid index sub) := by
  unfold State.readBlock
  (repeat' split) <;> simp +contextual [State.KeepsForm]

@[simp] theorem keepsForm_execBlockRead (path : Path) (tid index sub : Nat) (s s0 : State) :
    s.KeepsForm (outcomeState s0 (execBlockRead path tid index sub s)) := by
  unfold execBlockRead
  (repeat' split) <;> simp +contextual [State.KeepsForm]

@[simp] theorem keepsForm_execSdoAbort (path : Path) (tid index sub : Nat) (s s0 : State) :
    s.KeepsForm (outcomeState s0 (execSdoAbort path tid index sub s)) := by
  simp +contextual [State.KeepsForm, execSdoAbort]

@[simp] theorem keepsForm_segmentIn (s : State) (p : Path) (tid number : Nat) (crcOk : Bool) (data : List Byte) :
    s.KeepsForm (s.segmentIn p tid number crcOk data) := by
  unfold State.segmentIn
  (repeat' split) <;> simp +contextual [State.KeepsForm]

@[simp] theorem keepsForm_execBlockSegment (path : Path) (tid number : Nat) (last : Bool) (data : List Byte) (s s0 : State) :
    s.KeepsForm (outcomeState s0 (execBlockSegment path tid number last data s)) := by
  unfold execBlockSegment
  (repeat' split) <;> simp +contextual [State.KeepsForm]

@[simp] theorem keepsForm_execBlockTransferTimeout (path : Path) (s s0 : State) :
    s.KeepsForm (outcomeState s0 (execBlockTransferTimeout path s)) := by
  unfold execBlockTransferTimeout
  (repeat' split) <;> simp +contextual [State.KeepsForm]

@[simp] theorem keepsForm_sdoRequest (s : State) (p : Path) (alone : Bool) (bs : List Byte) : s.KeepsForm (s.sdoRequest p alone bs) := by
  unfold State.sdoRequest
  (repeat' split) <;> simp +contextual [State.KeepsForm]

@[simp] theorem keepsForm_segmentMessage (s : State) (p : Path) (bs : List Byte) : s.KeepsForm (s.segmentMessage p bs) := by
  simp +contextual [State.KeepsForm, State.segmentMessage]

@[simp] theorem keepsForm_spiRun (s : State) : s.KeepsForm (s.spiRun) := by
  unfold State.spiRun
  (repeat' split) <;> simp +contextual [State.KeepsForm]

@[simp] theorem keepsForm_execSpiWrite (bytes : List Byte) (s s0 : State) : s.KeepsForm (outcomeState s0 (execSpiWrite bytes s)) := by
  unfold execSpiWrite
  (repeat' split) <;> simp +contextual [State.KeepsForm]

@[simp] theorem keepsForm_execSpiRead (s s0 : State) : s.KeepsForm (outcomeState s0 (execSpiRead s)) := by
  unfold execSpiRead
  (repeat' split) <;> simp +contextual [State.KeepsForm]

@[simp] theorem keepsForm_execSpiStatus (s s0 : State) : s.KeepsForm (outcomeState s0 (execSpiStatus s)) := by
  simp +contextual [State.KeepsForm, execSpiStatus]

/-! #### Delivery -/

@[simp] theorem keepsForm_deliverMessage (s : State) (n kind : Nat) (alone : Bool) (bs : List Byte) :
    s.KeepsForm (s.deliverMessage n kind alone bs) := by
  unfold State.deliverMessage
  (repeat' split) <;> simp +contextual [State.KeepsForm]

@[simp] theorem keepsForm_takeInOrder (s : State) (n : Nat) (f : TreyxFrame) (alone : Bool) : s.KeepsForm (s.takeInOrder n f alone) := by
  unfold State.takeInOrder
  (repeat' split) <;> simp +contextual [State.KeepsForm]

@[simp] theorem keepsForm_takeHeld (n a : Nat) (s : State) : s.KeepsForm (State.takeHeld n a s) := by
  induction a generalizing s with
  | zero => exact .refl s
  | succ a ih =>
    unfold State.takeHeld
    extract_lets x
    split
    · exact .refl s
    · next h _ =>
      have ht : s.KeepsForm ((s.setSession n { x with held := x.held.filter (fun k => k.frame.seq != x.rxNext) }).takeInOrder n
          h.frame h.alone) := by simp +contextual [State.KeepsForm]
      exact ht.trans (ih _)

@[simp] theorem keepsForm_reliableFrame (s : State) (n : Nat) (f : TreyxFrame) (alone : Bool) :
    s.KeepsForm (s.reliableFrame n f alone) := by
  simp only [State.KeepsForm, State.reliableFrame]
  (repeat' split) <;> simp +contextual [bump_regs]

@[simp] theorem keepsForm_sessionFrame (s : State) (n : Nat) (f : TreyxFrame) (alone : Bool) : s.KeepsForm (s.sessionFrame n f alone) := by
  simp only [State.KeepsForm, State.sessionFrame]
  (repeat' split) <;> simp +contextual

@[simp] theorem keepsForm_consume (s : State) (source : Nat) (f : TreyxFrame) (alone : Bool) : s.KeepsForm (s.consume source f alone) := by
  unfold State.consume
  (repeat' split) <;> simp +contextual [State.KeepsForm]

@[simp] theorem keepsForm_takeCopy (s : State) (f : TreyxFrame) : s.KeepsForm (s.takeCopy f) := by
  unfold State.takeCopy
  (repeat' split) <;> simp +contextual [State.KeepsForm]

@[simp] theorem keepsForm_execJobCopy (seq : Nat) (frame : List Byte) (s s0 : State) :
    s.KeepsForm (outcomeState s0 (execJobCopy seq frame s)) := by
  simp +contextual [State.KeepsForm, execJobCopy]

/-! #### Jtag -/

@[simp] theorem keepsForm_execJtagTckEdge (rising tms tdi trstN : Bool) (s s0 : State) :
    s.KeepsForm (outcomeState s0 (execJtagTckEdge rising tms tdi trstN s)) := by
  simp +contextual [State.KeepsForm, execJtagTckEdge]

/-! #### Power -/

@[simp] theorem keepsForm_execVauxApplied (s s0 : State) : s.KeepsForm (outcomeState s0 (execVauxApplied s)) := by
  simp +contextual [State.KeepsForm, execVauxApplied]

@[simp] theorem keepsForm_poweredOff (s : State) : s.KeepsForm (s.poweredOff) := by
  simp +contextual [State.KeepsForm, State.poweredOff]

@[simp] theorem keepsForm_execVauxLost (s s0 : State) : s.KeepsForm (outcomeState s0 (execVauxLost s)) := by
  simp +contextual [State.KeepsForm, execVauxLost]

@[simp] theorem keepsForm_execResetNAsserted (s s0 : State) : s.KeepsForm (outcomeState s0 (execResetNAsserted s)) := by
  simp +contextual [State.KeepsForm, execResetNAsserted]

@[simp] theorem keepsForm_execPwrgoodDeasserted (s s0 : State) : s.KeepsForm (outcomeState s0 (execPwrgoodDeasserted s)) := by
  simp +contextual [State.KeepsForm, execPwrgoodDeasserted]

@[simp] theorem keepsForm_execRailUndervoltage (rail : Nat) (s s0 : State) :
    s.KeepsForm (outcomeState s0 (execRailUndervoltage rail s)) := by
  simp +contextual [State.KeepsForm, execRailUndervoltage]

@[simp] theorem keepsForm_execAuxExit (dramOrg : Nat) (testEn : Bool) (s s0 : State) :
    s.KeepsForm (outcomeState s0 (execAuxExit dramOrg testEn s)) := by
  simp +contextual [State.KeepsForm, execAuxExit]

@[simp] theorem keepsForm_execLaserInhibitAsserted (s s0 : State) : s.KeepsForm (outcomeState s0 (execLaserInhibitAsserted s)) := by
  unfold execLaserInhibitAsserted
  (repeat' split) <;> simp +contextual [State.KeepsForm]

@[simp] theorem keepsForm_released (s : State) : s.KeepsForm (s.released) := by
  simp +contextual [State.KeepsForm, State.released]

@[simp] theorem keepsForm_execLaserInhibitReleased (s s0 : State) : s.KeepsForm (outcomeState s0 (execLaserInhibitReleased s)) := by
  unfold execLaserInhibitReleased
  (repeat' split) <;> simp +contextual [State.KeepsForm]

/-! #### Ring -/

@[simp] theorem keepsForm_execBlockLockLoss (port : Nat) (s s0 : State) : s.KeepsForm (outcomeState s0 (execBlockLockLoss port s)) := by
  unfold execBlockLockLoss
  (repeat' split) <;> simp +contextual [State.KeepsForm]

@[simp] theorem keepsForm_execBlockLockGain (port : Nat) (s s0 : State) : s.KeepsForm (outcomeState s0 (execBlockLockGain port s)) := by
  unfold execBlockLockGain outcomeState
  dsimp -zeta only
  split
  · extract_lets line t w u
    have ht : s.KeepsForm t := by simp +contextual [State.KeepsForm, t]
    clear_value t
    have hw : s.KeepsForm w := ht.trans (keepsForm_foldl (fun v n => keepsForm_ite (by simp +contextual [State.KeepsForm]) (.refl v)) _ t)
    clear_value w
    have hu : s.KeepsForm u := keepsForm_ite (hw.trans (keepsForm_grant w)) hw
    exact keepsForm_ite hu hu
  · exact .refl s

@[simp] theorem keepsForm_usePtp (s : State) (bs : List Byte) (port : Nat) : s.KeepsForm (s.usePtp bs port) := by
  unfold State.usePtp
  (repeat' split) <;> simp +contextual [State.KeepsForm]

@[simp] theorem keepsForm_sendOn (s : State) (port ingress egress : Nat) (fcsOk : Bool) (bs : List Byte) :
    s.KeepsForm (s.sendOn port ingress egress fcsOk bs) := by
  unfold State.sendOn
  (repeat' split) <;> simp +contextual [State.KeepsForm]

@[simp] theorem keepsForm_forward (s : State) (port ingress egress : Nat) (fcsOk : Bool) (bs : List Byte) :
    s.KeepsForm (s.forward port ingress egress fcsOk bs) := by
  unfold State.forward
  (repeat' split) <;> simp +contextual [State.KeepsForm]

theorem keepsForm_transparent (s : State) (bs : List Byte) (port ingress egress : Nat) :
    s.KeepsForm (s.transparent bs port ingress egress).1 := by
  have hm (kind source : Nat) : s.KeepsForm (s.matchSeen kind source bs port ingress).1 := by
    unfold State.matchSeen
    split
    · exact .refl s
    · exact keepsForm_bump s _ _
  unfold State.transparent
  split
  · exact .refl s
  · split
    · exact keepsForm_ite (.refl s) (.refl s)
    · exact .refl s
    · exact hm _ _
    · exact hm _ _
    · exact .refl s

@[simp] theorem keepsForm_forwardPtp (s : State) (port ingress egress : Nat) (fcsOk : Bool) (bs : List Byte) :
    s.KeepsForm (s.forwardPtp port ingress egress fcsOk bs) :=
  keepsForm_ite ((keepsForm_transparent s bs port ingress egress).trans (keepsForm_sendOn _ _ _ _ _ _)) (keepsForm_forward s _ _ _ _ _)

@[simp] theorem keepsForm_consumeFrame (s : State) (fcsOk : Bool) (bs : List Byte) (alone : Bool) :
    s.KeepsForm (s.consumeFrame fcsOk bs alone) := by
  simp +contextual [State.KeepsForm, State.consumeFrame]

@[simp] theorem keepsForm_dispose (s : State) (port ingress egress : Nat) (fcsOk : Bool) (bs : List Byte) :
    s.KeepsForm (s.dispose port ingress egress fcsOk bs) := by
  simp only [State.KeepsForm, State.dispose]
  (repeat' split) <;> simp +contextual [bump_regs]

@[simp] theorem keepsForm_countFrame (s : State) (port : Nat) (whole fcsOk : Bool) : s.KeepsForm (s.countFrame port whole fcsOk) := by
  simp only [State.KeepsForm, State.countFrame]
  (repeat' split) <;> simp +contextual [bump_regs]

@[simp] theorem keepsForm_execRingFrameReceived (port : Nat) (bytes : List Byte) (fcsOk : Bool) (ingress egress : Nat) (s s0 : State) :
    s.KeepsForm (outcomeState s0 (execRingFrameReceived port bytes fcsOk ingress egress s)) := by
  refine keepsForm_inTurn s _ _ (keepsForm_ite ?_ (.refl s))
  extract_lets t
  have ht : s.KeepsForm t := by simp +contextual [State.KeepsForm, t]
  exact keepsForm_ite ht (keepsForm_ite (ht.trans (keepsForm_bump t _ _)) (ht.trans (keepsForm_dispose t _ _ _ _ _)))

/-! #### Servo -/

@[simp] theorem keepsForm_formGroups (s : State) (k : Nat) : s.KeepsForm (s.formGroups k) :=
  keepsForm_foldl (fun t h => keepsForm_ite (keepsForm_formGroup t h k) (.refl t)) _ s

@[simp] theorem keepsForm_servoBoundary (s : State) (b : Tick) : s.KeepsForm (s.servoBoundary b) := by
  have hc : s.KeepsForm (s.runningChecks.keepoutChecks) := (keepsForm_runningChecks s).trans (keepsForm_keepoutChecks _)
  have hp : s.KeepsForm ((s.runningChecks.keepoutChecks).planHeads b) := hc.trans (by simp +contextual [State.KeepsForm])
  exact (hp.trans (keepsForm_entryChecks _ b)).trans (keepsForm_formGroups _ _)

@[simp] theorem keepsForm_execServoPeriodTick (s s0 : State) : s.KeepsForm (outcomeState s0 (execServoPeriodTick s)) := by
  simp +contextual [State.KeepsForm, execServoPeriodTick]

/-! #### Thermal -/

@[simp] theorem keepsForm_reportExclusions (s : State) (before : List Sensor) (readings : List Int) :
    s.KeepsForm (s.reportExclusions before readings) := by
  unfold State.reportExclusions
  apply keepsForm_foldl
  intro t ⟨⟨x, y⟩, k⟩
  refine keepsForm_ite (.refl t) (keepsForm_ite ?_ ?_) <;> simp +contextual [State.KeepsForm]

@[simp] theorem keepsForm_exclusionLimit (s : State) (turned : Bool) : s.KeepsForm (s.exclusionLimit turned) := by
  simp +contextual [State.KeepsForm, State.exclusionLimit]

@[simp] theorem keepsForm_dieMax (s : State) (top : Nat × Int) : s.KeepsForm (s.dieMax top) := by
  simp only [State.KeepsForm, State.dieMax]
  simp +contextual [setReg_regs, raiseReg_regs]

@[simp] theorem keepsForm_fastMode (s : State) (top : Int) : s.KeepsForm (s.fastMode top) := by
  simp +contextual [State.KeepsForm, State.fastMode]

@[simp] theorem keepsForm_dieWarning (s : State) (top : Int) : s.KeepsForm (s.dieWarning top) := by
  simp +contextual [State.KeepsForm, State.dieWarning]

@[simp] theorem keepsForm_trip (s : State) (top : Nat × Int) : s.KeepsForm (s.trip top) := by
  unfold State.trip
  extract_lets thermal t u v
  have ht : s.KeepsForm t := .refl s
  have hu : s.KeepsForm u := ht.trans (by simp +contextual [State.KeepsForm, u, bump_regs, setReg_regs])
  have hv : s.KeepsForm v := hu.trans (by simp +contextual [State.KeepsForm, v])
  have hf : v.KeepsForm ((List.range 32).foldl State.tripHead v) := keepsForm_foldl (fun w h => by simp +contextual [State.KeepsForm]) _ v
  have hw : v.KeepsForm (((List.range 32).foldl State.tripHead v).stopLinks 0x07) := hf.trans (by simp +contextual [State.KeepsForm])
  exact hv.trans (hw.trans (by simp +contextual [State.KeepsForm]))

@[simp] theorem keepsForm_judgeTrip (s : State) (top : Nat × Int) : s.KeepsForm (s.judgeTrip top) := by
  unfold State.judgeTrip
  (repeat' split) <;> simp +contextual [State.KeepsForm]

@[simp] theorem keepsForm_measure (s : State) (readings : List Int) : s.KeepsForm (s.measure readings) := by
  unfold State.measure
  extract_lets m before parts thermal t top
  have ht : s.KeepsForm t := .refl s
  have he : t.KeepsForm ((t.reportExclusions before readings).exclusionLimit m.2) :=
    (keepsForm_reportExclusions t before readings).trans (by simp +contextual [State.KeepsForm])
  have hw : t.KeepsForm (((((t.reportExclusions before readings).exclusionLimit m.2).dieMax top).fastMode top.2).dieWarning top.2) :=
    (he.trans (keepsForm_dieMax _ top)).trans (by simp +contextual [State.KeepsForm])
  exact ht.trans (hw.trans (by simp +contextual [State.KeepsForm]))

@[simp] theorem keepsForm_execThermalMeasurement (readings : List Int) (s s0 : State) :
    s.KeepsForm (outcomeState s0 (execThermalMeasurement readings s)) := by
  unfold execThermalMeasurement
  (repeat' split) <;> simp +contextual [State.KeepsForm]

@[simp] theorem keepsForm_leaveTrip (s : State) : s.KeepsForm (s.leaveTrip) := by
  simp only [State.KeepsForm, State.leaveTrip]
  (repeat' split) <;> simp +contextual

@[simp] theorem keepsForm_restartAfterTrip (s : State) : s.KeepsForm (s.restartAfterTrip) := by
  unfold State.restartAfterTrip
  extract_lets thermal t u v
  have ht : s.KeepsForm t := by simp +contextual [State.KeepsForm, t]
  have hu : s.KeepsForm u := by
    refine keepsForm_ite (ht.trans (by simp +contextual [State.KeepsForm])) (keepsForm_ite (keepsForm_ite ?_ ?_) ht)
    · exact ht.trans (keepsForm_automatic t _ _)
    · exact ht.trans ((keepsForm_automatic t .boot 0x01).trans (by simp +contextual [State.KeepsForm]))
  have hv : s.KeepsForm v := hu.trans (by simp +contextual [State.KeepsForm, v])
  exact keepsForm_ite (hv.trans (keepsForm_startLinks v)) hv

@[simp] theorem keepsForm_execThermalRestart (s s0 : State) : s.KeepsForm (outcomeState s0 (execThermalRestart s)) := by
  simp +contextual [State.KeepsForm, execThermalRestart]

@[simp] theorem keepsForm_execOpticsTempTimeout (h : Nat) (s s0 : State) : s.KeepsForm (outcomeState s0 (execOpticsTempTimeout h s)) := by
  simp +contextual [State.KeepsForm, execOpticsTempTimeout]

/-! #### Idle -/

@[simp] theorem keepsForm_markInhibit (s : State) : s.KeepsForm (s.markInhibit) := by
  unfold State.markInhibit
  (repeat' split) <;> simp +contextual [State.KeepsForm]

@[simp] theorem keepsForm_replayed (s : State) (ch : Nat) : s.KeepsForm (s.replayed ch) := by
  unfold State.replayed
  (repeat' split) <;> simp +contextual [State.KeepsForm]

@[simp] theorem keepsForm_endCycle (s : State) : s.KeepsForm (s.endCycle) := by
  simp +contextual [State.KeepsForm, State.endCycle]

/-! #### Commands, the idle tick and the step -/

/-- Every command but IMAGE_CHECK_DONE, which loads the stored set from flash, keeps the form of each list. -/
theorem keepsForm_exec {c : Instr} (s s0 : State) (h : c ≠ .imageCheckDone) : s.KeepsForm (outcomeState s0 (exec c s)) := by
  cases c
  case imageCheckDone => exact absurd rfl h
  -- supplies, start-up and clocks
  case vauxApplied | vauxLost | resetNAsserted | pwrgoodDeasserted | railUndervoltage | auxExit | laserInhibitAsserted
      | laserInhibitReleased | oscillatorGate | mainPllLock | pllsLocked | dramTrainingDone | ringJoinDone | ringWaitExpiry
      | headLinkStepDone | calibrationLoadDone | startupBoundExpiry | rootGate | xoEdgeLoss | holdoverTimeExpiry | pllUnlock
      | startMeasurement | freqMeasurementComplete | pllLockRegained =>
    simp +contextual [exec, State.KeepsForm]
  -- state requests and thermal events
  case arm | run | pause | pauseHoldReached | resume | stop | disarm | clear | restart | requestNone | stateRequestInvalid
      | watchdogExpiry | firmwareRestartComplete | thermalMeasurement | thermalRestart | opticsTempTimeout =>
    simp +contextual [exec, State.KeepsForm]
  -- head links and what they carry
  case uplinkFrameReceived | headLinkEnableWrite | headLinkTrainingTimeout | retrainHoldoffExpiry | uplinkLockLoss
      | stitchTableWrite | calibrationUserWrite =>
    simp +contextual [exec, State.KeepsForm]
  -- the ring: ports, bypass, sessions and their frames
  case ringFrameReceived | blockLockLoss | blockLockGain | bypassLossTimeout | bypassRaise | bypassRetryExpiry
      | bypassTrialTimeout | bypassEnableWrite | sessionOpen | sessionClose | ack | rtoExpiry | ackDelayExpiry | sessionTimeout
      | jobCopy =>
    simp +contextual [exec, State.KeepsForm]
  -- the dictionary: transfers, authentication, the management port
  case sdoRead | sdoWrite | blockWrite | blockRead | sdoAbort | blockSegment | blockTransferTimeout | dictionaryWrite | spiWrite
      | spiRead | spiStatus | challenge | response | drop | authLockoutExpiry | store | storeComplete | restoreDefaults =>
    simp +contextual [exec, State.KeepsForm]
  -- the job side
  case job | grantTimerExpiry | segmentDecision | segmentStaged | headStart | itemComplete | barrierRelease | dataWaitEnd
      | drainHoldEnd | lineBufferWrite | planDecision | segmentClose | closeMessageSend | slackEvaluation | slackReport | cancelId
      | defectRecordSplit | servoPeriodTick =>
    simp +contextual [exec, State.KeepsForm]
  -- cameras and the control engine
  case pipelineDispatch | processingComplete | featureRecordHandover | archiveCopyComplete | commit | archiveMessageSend
      | featureLogBlockRead | downlinkFrameAssembly | laneDispatch | darkCapture | darkCaptureComplete | loopEnable | lawWrite
      | sampleRateSwitch =>
    simp +contextual [exec, State.KeepsForm]
  -- Network Time
  case ptpExchangeComplete | ptpExchangeTimeout | announceTimeout | ntReanchor | stepNow | etIn | ntInNanoseconds =>
    simp +contextual [exec, State.KeepsForm]
  -- the twin
  case heartbeatSend | heartbeat | twinAliveEdge | takeover | twinLinkFailed | ownHeartbeatLapse | decision | outcome | plan | cut
      | stateMessage | twinWrite | hostCopy | digest | ledger | ledgerSend | motion | repeatRequest | twinMessageLate
      | stateDivergenceTimeout | gapRecordTimeout | twinLinkBlockLock | twinSoloTimeout | join | autoJoinStart | joinReceived
      | release | twinEnable | twinLinkLockLoss =>
    simp +contextual [exec, State.KeepsForm]
  -- motion and feedback
  case enableAxis | go | stopAxis | home | microstep | moveComplete | holdDelayExpiry | chopCycle | homeEdge | qualifyTimeExpiry
      | chatterWindowExpiry | homingComplete | limitTrip | limitRelease | encoderEdge | minEdgeExpiry | indexEdge
      | hallStateChange | comparePulseEnd | probeEdge | probeEvent | encoderCount | armCompare | recoatStart | manualReport =>
    simp +contextual [exec, State.KeepsForm]
  -- memory
  case dramReadComplete | caAlert | caAlertRelease | caAlertStuck | refresh | zqCalibration | caseTempRead | caseTempTimeout
      | retrainStart | retrainComplete | faultRetrainRetry =>
    simp +contextual [exec, State.KeepsForm]
  -- interrupts, the event recorder, images and tests
  case cause | take | hostRecord | clearTopsoil | flush | nextRecord | cursor | recordFlashWrite | hoursStore | sfImage | mcImage
      | trial | confirm | factoryBlock | jtagTckEdge =>
    simp +contextual [exec, State.KeepsForm]

theorem stored_loadStored {s : State} (h : s.Stored) : s.loadStored.Stored :=
  ⟨regsOk_loaded h.regs h.flash.regs.2, blobsOk_loaded h.blobs h.flash.blobs.2, h.flash, h.leaves⟩

/-- The image check puts the stored set over the values: the form of the values then rests on that of the flash. -/
theorem stored_imageCheck {s : State} (h : s.Stored) : s.imageCheck.Stored := by
  unfold State.imageCheck
  split
  · exact (keepsForm_holdBoot s _).stored h
  · next n fallback _ =>
    have hslot : s.KeepsForm (s.takeSlot n fallback).judgeBlock := by simp +contextual [State.KeepsForm]
    have hqueue : s.KeepsForm ({ (s.takeSlot n fallback).judgeBlock with
        power := (s.takeSlot n fallback).judgeBlock.power.countCycle }).dropTorn.frontToQueue :=
      hslot.trans (by simp +contextual [State.KeepsForm])
    refine State.KeepsForm.stored ?_ (stored_loadStored (hqueue.stored h))
    simp +contextual [State.KeepsForm]

theorem stored_exec {s t : State} {c : Instr} (h : s.Stored) (ht : exec c s = .next t) : t.Stored := by
  by_cases hc : c = .imageCheckDone
  · subst hc
    have he : (Host.Outcome.next t : Host.Outcome State Fault Refusal) = .next (if s.atStep 4 then s.imageCheck else s) := ht.symm
    injection he with he
    subst he
    split
    · exact stored_imageCheck h
    · exact h
  · have hk := keepsForm_exec s s hc
    rw [ht] at hk
    exact hk.stored h

theorem keepsForm_idleTick (s : State) : s.KeepsForm (idleTick s) := by
  have he : s.KeepsForm s.endCycle := by simp +contextual [State.KeepsForm]
  have ht : s.KeepsForm ((s.endCycle.replayed 0).replayed 1).tick := he.trans (by simp +contextual [State.KeepsForm])
  have hd : s.KeepsForm ((s.endCycle.replayed 0).replayed 1).tick.markInhibit.dueOrders :=
    ht.trans (by simp +contextual [State.KeepsForm])
  have hr : s.KeepsForm ((s.endCycle.replayed 0).replayed 1).tick.markInhibit.dueOrders.dueFactors.releaseOwn :=
    hd.trans (by simp +contextual [State.KeepsForm])
  exact hr.trans (by simp +contextual [State.KeepsForm, idleTick])

/-- Settles O4: a step is a tick, the return of what gave way, or a command, and each keeps the form. -/
theorem stepKeepsStoredCanonical : Obligations.StepKeepsStoredCanonical := by
  intro s t hs ht
  unfold step at ht
  split at ht
  · cases ht
    split
    · exact (keepsForm_idleTick s).stored hs
    · exact ⟨hs.regs, hs.blobs, hs.flash, hs.leaves⟩
  · next c rest _ =>
    have hq : ({ s with pending := rest } : State).Stored := ⟨hs.regs, hs.blobs, hs.flash, hs.leaves⟩
    exact stored_exec hq ht

/-- Settles O5: at reset nothing is stored. -/
theorem resetIsStoredCanonical : Obligations.ResetIsStoredCanonical :=
  ⟨regsOk_nil, blobsOk_nil, ⟨regsOk_nil, blobsOk_nil, fun _ hw => nomatch hw⟩, leavesOk_nil⟩

end Sys2Proof.Machine

/-! ### O3: every command is carried out -/

namespace Sys2Proof.Machine

/-- Each arm of exec answers a next state. -/
theorem exec_eq_next (c : Instr) (s : State) : exec c s = .next (outcomeState s (exec c s)) := by
  cases c <;> rfl

/-- The queue of waiting commands and the fuses are as they were. -/
abbrev State.KeepsQueue (s t : State) : Prop := t.pending = s.pending ∧ t.fuses = s.fuses

@[simp] theorem keepsQueue_execDramTrainingDone (failed : Option Nat) (seed0 seed1 : Nat) (s : State) :
    s.KeepsQueue (outcomeState s (execDramTrainingDone failed seed0 seed1 s)) := by
  unfold execDramTrainingDone
  (repeat' split) <;> simp [State.KeepsQueue]

@[simp] theorem keepsQueue_execBlockTransferTimeout (path : Path) (s : State) :
    s.KeepsQueue (outcomeState s (execBlockTransferTimeout path s)) := by
  unfold execBlockTransferTimeout
  (repeat' split) <;> simp [State.KeepsQueue]

@[simp] theorem keepsQueue_execSegmentDecision (s : State) : s.KeepsQueue (outcomeState s (execSegmentDecision s)) := by
  unfold execSegmentDecision
  (repeat' split) <;> simp [State.KeepsQueue]

@[simp] theorem keepsQueue_execSegmentStaged (id : Nat) (s : State) : s.KeepsQueue (outcomeState s (execSegmentStaged id s)) := by
  unfold execSegmentStaged
  (repeat' split) <;> simp [State.KeepsQueue]

@[simp] theorem keepsQueue_execHeadStart (h id : Nat) (s : State) : s.KeepsQueue (outcomeState s (execHeadStart h id s)) := by
  unfold execHeadStart
  (repeat' split) <;> simp [State.KeepsQueue]

@[simp] theorem keepsQueue_execBarrierRelease (id barrier : Nat) (s : State) :
    s.KeepsQueue (outcomeState s (execBarrierRelease id barrier s)) := by
  unfold execBarrierRelease
  (repeat' split) <;> simp [State.KeepsQueue]

@[simp] theorem keepsQueue_execSegmentClose (id : Nat) (s : State) : s.KeepsQueue (outcomeState s (execSegmentClose id s)) := by
  unfold execSegmentClose
  (repeat' split) <;> simp [State.KeepsQueue]

@[simp] theorem keepsQueue_execCloseMessageSend (id : Nat) (s : State) : s.KeepsQueue (outcomeState s (execCloseMessageSend id s)) := by
  unfold execCloseMessageSend
  (repeat' split) <;> simp [State.KeepsQueue]

@[simp] theorem keepsQueue_execSlackEvaluation (id : Nat) (s : State) : s.KeepsQueue (outcomeState s (execSlackEvaluation id s)) := by
  unfold execSlackEvaluation
  (repeat' split) <;> simp [State.KeepsQueue]

@[simp] theorem keepsQueue_execPipelineDispatch (pipe : Nat) (s : State) :
    s.KeepsQueue (outcomeState s (execPipelineDispatch pipe s)) := by
  unfold execPipelineDispatch
  (repeat' split) <;> simp [State.KeepsQueue]

@[simp] theorem keepsQueue_execProcessingComplete (pipe : Nat) (s : State) :
    s.KeepsQueue (outcomeState s (execProcessingComplete pipe s)) := by
  unfold execProcessingComplete
  (repeat' split) <;> simp [State.KeepsQueue]

@[simp] theorem keepsQueue_execArchiveCopyComplete (h : Nat) (s : State) :
    s.KeepsQueue (outcomeState s (execArchiveCopyComplete h s)) := by
  unfold execArchiveCopyComplete
  (repeat' split) <;> simp [State.KeepsQueue]

@[simp] theorem keepsQueue_execLaneDispatch (lane : Nat) (s : State) : s.KeepsQueue (outcomeState s (execLaneDispatch lane s)) := by
  unfold execLaneDispatch
  (repeat' split) <;> simp [State.KeepsQueue]

@[simp] theorem keepsQueue_execDarkCaptureComplete (h b : Nat) (s : State) :
    s.KeepsQueue (outcomeState s (execDarkCaptureComplete h b s)) := by
  unfold execDarkCaptureComplete
  (repeat' split) <;> simp [State.KeepsQueue]

@[simp] theorem keepsQueue_execCut (seq id h cause mask onsetEt : Nat) (s : State) :
    s.KeepsQueue (outcomeState s (execCut seq id h cause mask onsetEt s)) := by
  have hcut (t : State) : t.KeepsQueue (match t.unfinishedBy id with
      | some g => t.applyCut g h cause mask onsetEt
      | none => t) := by split <;> simp [State.KeepsQueue]
  exact ⟨frame_follow_pending s seq _ fun t => (hcut t).1, frame_follow_fuses s seq _ fun t => (hcut t).2⟩

@[simp] theorem keepsQueue_execTwinLinkBlockLock (versionMax versionMin firmware microcode digest rank serial role : Nat)
    (trips : List Nat) (sendEt : Nat) (s : State) :
    s.KeepsQueue (outcomeState s
      (execTwinLinkBlockLock versionMax versionMin firmware microcode digest rank serial role trips sendEt s)) := by
  unfold execTwinLinkBlockLock
  (repeat' split) <;> simp [State.KeepsQueue]

@[simp] theorem keepsQueue_execGapRecordTimeout (h : Nat) (s : State) : s.KeepsQueue (outcomeState s (execGapRecordTimeout h s)) := by
  unfold execGapRecordTimeout
  (repeat' split) <;> simp [State.KeepsQueue]

@[simp] theorem keepsQueue_execMicrostep (m : Nat) (s : State) : s.KeepsQueue (outcomeState s (execMicrostep m s)) := by
  unfold execMicrostep
  (repeat' split) <;> simp [State.KeepsQueue]

@[simp] theorem keepsQueue_execFaultRetrainRetry (good : Bool) (s : State) :
    s.KeepsQueue (outcomeState s (execFaultRetrainRetry good s)) := by
  unfold execFaultRetrainRetry
  (repeat' split) <;> simp [State.KeepsQueue]

@[simp] theorem keepsQueue_execArchiveMessageSend (s : State) : s.KeepsQueue (outcomeState s (execArchiveMessageSend s)) := by
  unfold execArchiveMessageSend
  (repeat' split) <;> simp [State.KeepsQueue]

/-- No command touches the queue or the fuses. -/
theorem keepsQueue_exec (c : Instr) (s : State) : s.KeepsQueue (outcomeState s (exec c s)) := by
  cases c
  -- supplies, start-up and clocks
  case vauxApplied | vauxLost | resetNAsserted | pwrgoodDeasserted | railUndervoltage | auxExit | laserInhibitAsserted
      | laserInhibitReleased | oscillatorGate | mainPllLock | pllsLocked | dramTrainingDone | ringJoinDone | ringWaitExpiry
      | headLinkStepDone | calibrationLoadDone | startupBoundExpiry | imageCheckDone | rootGate | xoEdgeLoss | holdoverTimeExpiry
      | pllUnlock | startMeasurement | freqMeasurementComplete | pllLockRegained =>
    simp [State.KeepsQueue, exec, execVauxApplied, execVauxLost, execResetNAsserted, execPwrgoodDeasserted, execRailUndervoltage,
      execAuxExit, execLaserInhibitAsserted, execLaserInhibitReleased, execOscillatorGate, execMainPllLock, execPllsLocked,
      execRingJoinDone, execRingWaitExpiry, execHeadLinkStepDone, execCalibrationLoadDone, execStartupBoundExpiry,
      execImageCheckDone, execRootGate, execXoEdgeLoss, execHoldoverTimeExpiry, execPllUnlock, execFreqMeasurementComplete,
      execPllLockRegained]
  -- state requests and thermal events
  case arm | run | pause | pauseHoldReached | resume | stop | disarm | clear | restart | requestNone | stateRequestInvalid
      | watchdogExpiry | firmwareRestartComplete | thermalMeasurement | thermalRestart | opticsTempTimeout =>
    simp [State.KeepsQueue, exec, execArm, execRun, execPause, execPauseHoldReached, execResume, execStop, execDisarm, execClear,
      execRestart, execRequestNone, execStateRequestInvalid, execWatchdogExpiry, execFirmwareRestartComplete, execThermalMeasurement,
      execThermalRestart, execOpticsTempTimeout]
  -- head links and what they carry
  case uplinkFrameReceived | headLinkEnableWrite | headLinkTrainingTimeout | retrainHoldoffExpiry | uplinkLockLoss
      | stitchTableWrite | calibrationUserWrite =>
    simp [State.KeepsQueue, exec, execUplinkFrameReceived, execHeadLinkTrainingTimeout, execRetrainHoldoffExpiry, execUplinkLockLoss]
  -- the ring: ports, bypass, sessions and their frames
  case ringFrameReceived | blockLockLoss | blockLockGain | bypassLossTimeout | bypassRaise | bypassRetryExpiry | bypassTrialTimeout
      | bypassEnableWrite | sessionOpen | sessionClose | ack | rtoExpiry | ackDelayExpiry | sessionTimeout | jobCopy =>
    simp [State.KeepsQueue, exec, execRingFrameReceived, execBlockLockLoss, execBlockLockGain, execBypassLossTimeout,
      execBypassRaise, execBypassRetryExpiry, execBypassTrialTimeout, execSessionOpen, execSessionClose, execAck, execRtoExpiry,
      execAckDelayExpiry, execSessionTimeout, execJobCopy]
  -- the dictionary: transfers, authentication, the management port
  case sdoRead | sdoWrite | blockWrite | blockRead | sdoAbort | blockSegment | blockTransferTimeout | dictionaryWrite | spiWrite
      | spiRead | spiStatus | challenge | response | drop | authLockoutExpiry | store | storeComplete | restoreDefaults =>
    simp [State.KeepsQueue, exec, execSdoRead, execSdoWrite, execBlockWrite, execBlockRead, execSdoAbort, execBlockSegment,
      execDictionaryWrite, execSpiWrite, execSpiRead, execSpiStatus, execAuthLockoutExpiry, execStoreComplete]
  -- the job side
  case job | grantTimerExpiry | segmentDecision | segmentStaged | headStart | itemComplete | barrierRelease | dataWaitEnd
      | drainHoldEnd | lineBufferWrite | planDecision | segmentClose | closeMessageSend | slackEvaluation | slackReport | cancelId
      | defectRecordSplit | servoPeriodTick =>
    simp [State.KeepsQueue, exec, execJob, execGrantTimerExpiry, execItemComplete, execDataWaitEnd, execDrainHoldEnd,
      execLineBufferWrite, execPlanDecision, execSlackReport, execDefectRecordSplit, execServoPeriodTick]
  -- cameras and the control engine
  case pipelineDispatch | processingComplete | featureRecordHandover | archiveCopyComplete | commit | archiveMessageSend
      | featureLogBlockRead | downlinkFrameAssembly | laneDispatch | darkCapture | darkCaptureComplete | loopEnable | lawWrite
      | sampleRateSwitch =>
    simp [State.KeepsQueue, exec, execFeatureRecordHandover, execDownlinkFrameAssembly, execSampleRateSwitch]
  -- Network Time
  case ptpExchangeComplete | ptpExchangeTimeout | announceTimeout | ntReanchor | stepNow | etIn | ntInNanoseconds =>
    simp [State.KeepsQueue, exec, execPtpExchangeComplete, execPtpExchangeTimeout, execAnnounceTimeout, execNtReanchor]
  -- the twin
  case heartbeatSend | heartbeat | twinAliveEdge | takeover | twinLinkFailed | ownHeartbeatLapse | decision | outcome | plan | cut
      | stateMessage | twinWrite | hostCopy | digest | ledger | ledgerSend | motion | repeatRequest | twinMessageLate
      | stateDivergenceTimeout | gapRecordTimeout | twinLinkBlockLock | twinSoloTimeout | join | autoJoinStart | joinReceived
      | release | twinEnable | twinLinkLockLoss =>
    simp [State.KeepsQueue, exec, execHeartbeatSend, execHeartbeat, execTwinAliveEdge, execTakeover, execTwinLinkFailed,
      execOwnHeartbeatLapse, execDecision, execOutcome, execPlan, execStateMessage, execTwinWrite, execHostCopy, execDigest,
      execLedger, execLedgerSend, execMotion, execRepeatRequest, execTwinMessageLate, execStateDivergenceTimeout,
      execTwinSoloTimeout, execAutoJoinStart, execJoinReceived, execTwinLinkLockLoss]
  -- motion and feedback
  case enableAxis | go | stopAxis | home | microstep | moveComplete | holdDelayExpiry | chopCycle | homeEdge | qualifyTimeExpiry
      | chatterWindowExpiry | homingComplete | limitTrip | limitRelease | encoderEdge | minEdgeExpiry | indexEdge | hallStateChange
      | comparePulseEnd | probeEdge | probeEvent | encoderCount | armCompare | recoatStart | manualReport =>
    simp [State.KeepsQueue, exec, execMoveComplete, execHoldDelayExpiry, execChopCycle, execHomeEdge, execQualifyTimeExpiry,
      execChatterWindowExpiry, execHomingComplete, execLimitTrip, execLimitRelease, execEncoderEdge, execMinEdgeExpiry,
      execIndexEdge, execHallStateChange, execComparePulseEnd, execProbeEdge]
  -- memory
  case dramReadComplete | caAlert | caAlertRelease | caAlertStuck | refresh | zqCalibration | caseTempRead | caseTempTimeout
      | retrainStart | retrainComplete | faultRetrainRetry =>
    simp [State.KeepsQueue, exec, execDramReadComplete, execCaAlert, execCaAlertRelease, execCaAlertStuck, execRefresh,
      execZqCalibration, execCaseTempRead, execCaseTempTimeout, execRetrainStart, execRetrainComplete]
  -- interrupts, the event recorder, images and tests
  case cause | take | hostRecord | clearTopsoil | flush | nextRecord | cursor | recordFlashWrite | hoursStore | sfImage | mcImage
      | trial | confirm | factoryBlock | jtagTckEdge =>
    simp [State.KeepsQueue, exec, execRecordFlashWrite, execHoursStore, execJtagTckEdge]

/-- Settles O3: each arm of exec answers a next state, and its operations leave the queue and the fuses alone. -/
theorem everyCommandAnswersNextState : Obligations.EveryCommandAnswersNextState := by
  intro c s
  obtain ⟨hpending, hfuses⟩ := keepsQueue_exec c s
  exact ⟨outcomeState s (exec c s), exec_eq_next c s, hpending, hfuses⟩

end Sys2Proof.Machine

/-! ### What the controller's messages leave of a session -/

namespace Sys2Proof.Machine

/-- A message changes the session it leaves by, and no other. -/
theorem session_message (s : State) (m kind : Nat) (reliable : Bool) (bytes : List Byte) (n : Nat) :
    (s.message m kind reliable bytes).session n
      = if s.maySend m kind = true ∧ n = m then (s.session m).sending m kind s.ringUp reliable bytes else s.session n := by
  unfold State.message
  by_cases hmay : s.maySend m kind = true
  · have hopen : (s.session m).isOpen = true := by
      simp only [State.maySend, Bool.and_eq_true] at hmay
      exact hmay.1.1
    have hset : (s.setSession m ((s.session m).sending m kind s.ringUp reliable bytes)).session n
        = if n = m then (s.session m).sending m kind s.ringUp reliable bytes else s.session n := by
      by_cases hn : n = m
      · rw [hn, session_setSession_self (in_range_of_isOpen hopen), if_pos rfl]
      · rw [session_setSession_other s hn, if_neg hn]
    simp only [hmay, if_true, true_and]
    rw [← hset]
    exact session_of_sessions (by simp [State.setSession]) n
  · simp [hmay]

section
variable {P : Session → Prop} (hP : ∀ (x : Session) (m kind : Nat) (up reliable : Bool) (bytes : List Byte), x.isOpen = true → P x →
  P (x.sending m kind up reliable bytes))
include hP

/-- What handing a message to an open session keeps, every message keeps. -/
theorem message_keeps {s : State} {n : Nat} (h : P (s.session n)) (m kind : Nat) (reliable : Bool) (bytes : List Byte) :
    P ((s.message m kind reliable bytes).session n) := by
  rw [session_message]
  split
  · next hm =>
    obtain ⟨hmay, rfl⟩ := hm
    simp only [State.maySend, Bool.and_eq_true] at hmay
    exact hP _ _ _ _ _ _ hmay.1.1 h
  · exact h

theorem messageWhere_keeps {s : State} {n : Nat} (h : P (s.session n)) (p : Session → Bool) (kind : Nat) (reliable : Bool)
    (bytes : List Byte) : P ((s.messageWhere p kind reliable bytes).session n) := by
  refine foldl_preserves (P := fun t => P (t.session n)) (fun t m ht => ?_) _ h
  split
  · exact message_keeps hP ht _ _ _ _
  · exact ht

theorem jobMessage_keeps {s : State} {n : Nat} (h : P (s.session n)) (kind : Nat) (bytes : List Byte) :
    P ((s.jobMessage kind bytes).session n) := by
  unfold State.jobMessage
  split
  · exact message_keeps hP h _ _ _ _
  · exact h

theorem setLeaf_keeps {s : State} {n : Nat} (h : P (s.session n)) (reg bit : Nat) : P ((s.setLeaf reg bit).session n) := by
  unfold State.setLeaf
  dsimp only
  split
  · exact messageWhere_keeps hP (by exact h) _ _ _ _
  · exact h

theorem record_keeps {s : State} {n : Nat} (h : P (s.session n)) (type : Nat) (payload : List Byte) :
    P ((s.record type payload).session n) := by
  unfold State.record
  dsimp only
  split
  · exact setLeaf_keeps hP (by exact h) _ _
  · exact h

end

/-- What a message never changes of a session that is open. -/
theorem sending_same (x : Session) (m kind : Nat) (up reliable : Bool) (bytes : List Byte) :
    x.sending m kind up reliable bytes = { x with
      txSeq := (x.sending m kind up reliable bytes).txSeq
      txCount := (x.sending m kind up reliable bytes).txCount
      unacked := (x.sending m kind up reliable bytes).unacked
      backlog := (x.sending m kind up reliable bytes).backlog
      ackOwed := (x.sending m kind up reliable bytes).ackOwed } := by
  unfold Session.sending
  (repeat' split) <;> rfl

theorem Reports_sessions (s : State) (l : List Session) : s.Reports { s with sessions := l } := { Reports_refl s with }

/-- A closed session stays as it is. -/
theorem setLeaf_closed {s : State} {n : Nat} (h : s.session n = Session.closed) (reg bit : Nat) :
    (s.setLeaf reg bit).session n = Session.closed :=
  setLeaf_keeps (P := fun x => x = Session.closed) (fun x _ _ _ _ _ hopen hx => by subst hx; cases hopen) h reg bit

end Sys2Proof.Machine

/-! ### O33: the bypass switch -/

namespace Sys2Proof.Machine

theorem reports_with_ring {s t : State} {r : Ring} {ks : List Nat} (h : ({ s with ring := r } : State).ReportsWith t ks) :
    ({ s with ring := t.ring } : State).ReportsWith t ks := by
  rw [show t.ring = r from h.ring]
  exact h

theorem reg_of_reports {s t : State} {ks : List Nat} (h : s.ReportsWith t ks) {i a : Nat} (hkey : regKey i a ∉ regKey 0xC000 5 :: ks) :
    t.reg i a = s.reg i a := h.regs _ hkey

/-- An answer to an accepted access reports. -/
theorem answered_reports {s t : State} {ks : List Nat} (h : s.ReportsWith t ks) (p : Path) (abort : Nat) (data : List Byte) :
    s.ReportsWith (t.answer p abort data) ks := ReportsWith_trans h (ReportsWith_of_Reports _ (Reports_answer _ _ _ _))

theorem lowerBypass_ring (s : State) :
    s.lowerBypass.ring = { s.ring with bypass := .low, forwarding := false, fallen := true, edgeAt := some s.et } := by
  simp [State.lowerBypass]

theorem lowerBypass_reports (s : State) : ({ s with ring := s.lowerBypass.ring } : State).Reports s.lowerBypass :=
  reports_with_ring (Reports_setLeaf _ 0x2108 2)

theorem lowerBypass_reg (s : State) {i a : Nat} (hkey : regKey i a ≠ regKey 0xC000 5) : s.lowerBypass.reg i a = s.reg i a :=
  reg_of_reports (lowerBypass_reports s) (by simpa using hkey)

theorem lowerBypass_leaf (s : State) : (leafAt s.lowerBypass.leaves 0x2108 2).isSome = true := by
  simp [State.lowerBypass, leafAt_setLeaf_self]

/-- A failed trial is counted at both ports. -/
theorem trialFailed_counts (s : State) :
    s.trialFailed.reg 0x1040 9 = counterNext (regKey 0x1040 9) (s.reg 0x1040 9) 1
      ∧ s.trialFailed.reg 0x1041 9 = counterNext (regKey 0x1041 9) (s.reg 0x1041 9) 1 := by
  constructor
  · rw [State.trialFailed, reg_bump_other _ (by decide), reg_bump_self, lowerBypass_reg _ (by decide)]
  · rw [State.trialFailed, reg_bump_self, reg_bump_other _ (by decide), lowerBypass_reg _ (by decide)]

theorem trialFailed_reports (s : State) :
    ({ s with ring := s.trialFailed.ring } : State).ReportsWith s.trialFailed [regKey 0x1040 9, regKey 0x1041 9] :=
  ReportsWith_trans (ReportsWith_trans (ReportsWith_of_Reports _ (lowerBypass_reports s)) (ReportsWith_bump _ 0x1040 9 (by simp)))
    (ReportsWith_bump _ 0x1041 9 (by simp))

/-- A trial holds the bypass, and forwards at once where both ports are in lock. -/
theorem tryBypass_ring (s : State) :
    s.tryBypass.bypassHold = true ∧ s.tryBypass.ring.forwarding = (s.ring.bothLocked || s.ring.forwarding)
      ∧ s.tryBypass = { s with ring := s.tryBypass.ring } := by
  unfold State.tryBypass
  split
  · next h => exact ⟨rfl, by simp [State.raiseBypass, h], rfl⟩
  · next h => exact ⟨rfl, by simp [h], rfl⟩

/-- An access that only its gate can refuse, the tests behind the gate passed. -/
theorem takes_orElse {s : State} {p : Path} {gate test : Option Abort} (h : s.Takes p gate) (htest : test = none) :
    s.Takes p (orElse gate test) := ⟨h.served, h.turn, by rw [h.accepted, htest]; rfl⟩

/-- An accepted write of BYPASS_ENABLE. -/
theorem bypassEnableWrite_accepted {s : State} {p : Path} (h : s.Takes p (s.writeGate p 0x1030 10)) {v : Nat}
    (hv : numberTest 0x1030 10 (leBytes 1 v) = none) :
    exec (.bypassEnableWrite p v) s = .next ((s.writeBypass ((v % 2 : Nat) : Int)).answer p 0 []) := by
  exact congrArg Host.Outcome.next (accepted_in_turn (takes_orElse h hv) (c := .bypassEnableWrite p v) (rank_of_path rfl) _ _)

/-- A BYPASS_ENABLE of 0 leaves BYPASS_HOLD low. -/
theorem writeBypass_zero (s : State) : (s.writeBypass 0).reg 0x1030 10 = 0 ∧ (s.writeBypass 0).bypassHold = false
    ∧ ({ s with ring := (s.writeBypass 0).ring } : State).ReportsWith (s.writeBypass 0) [regKey 0x1030 10] := by
  have hset := ReportsWith_setReg s 0x1030 10 0 (ks := [regKey 0x1030 10]) (by simp)
  by_cases hlow : s.ring.bypass = .low
  · have ht : s.writeBypass 0 = s.setReg 0x1030 10 0 := by simp [State.writeBypass, hlow]
    rw [ht]
    exact ⟨reg_setReg_self _ _ _ _, by simp [State.bypassHold, hlow], hset⟩
  · have ht : s.writeBypass 0 = (s.setReg 0x1030 10 0).lowerBypass := by simp [State.writeBypass, hlow]
    rw [ht]
    refine ⟨?_, by simp [State.bypassHold, lowerBypass_ring], ?_⟩
    · exact (lowerBypass_reg _ (by decide)).trans (reg_setReg_self s 0x1030 10 0)
    · have hr := ReportsWith_setReg ({ s with ring := (s.setReg 0x1030 10 0).lowerBypass.ring } : State) 0x1030 10 0
        (ks := [regKey 0x1030 10]) (by simp)
      exact ReportsWith_trans hr (ReportsWith_of_Reports _ (lowerBypass_reports (s.setReg 0x1030 10 0)))

/-- A BYPASS_ENABLE of 1 after a fall starts a trial. -/
theorem writeBypass_one_fallen {s : State} (hruns : s.dev.state.ringRuns = true) (hlow : s.ring.bypass = .low)
    (hfallen : s.ring.fallen = true) : s.writeBypass 1 = (s.setReg 0x1030 10 1).tryBypass := by
  simp [State.writeBypass, hruns, hlow, hfallen]

theorem writeBypass_one_unfallen {s : State} (hfallen : s.ring.fallen = false) : s.writeBypass 1 = s.setReg 0x1030 10 1 := by
  simp [State.writeBypass, hfallen]

/-- Settles O33, a lemma an operation of the switch. -/
theorem bypassCommandsComplete : Obligations.BypassCommandsComplete := by
  refine ⟨fun s hruns hlock hon hidle => ?_, fun s hhigh hlock => ?_,
    fun s hruns hlow hfallen hretry => ⟨fun hlock => ?_, fun hlock => ?_⟩, fun s htrial hlock => ?_,
    fun s p h => ⟨?_, fun hruns hlow hfallen => ?_, fun hfallen => ?_⟩⟩
  · exact ⟨s.raiseBypass, by simp [exec, execBypassRaise, hruns, hlock, hon, hidle], rfl, rfl, rfl, rfl, rfl⟩
  · exact ⟨s.lowerBypass, by simp [exec, execBypassLossTimeout, hhigh, hlock], by simp [State.bypassHold, lowerBypass_ring],
      lowerBypass_ring s, lowerBypass_leaf s, lowerBypass_reports s⟩
  · simp [exec, execBypassRetryExpiry, State.tryBypass, hruns, hlow, hfallen, hretry, hlock]
  · obtain ⟨hhold, hforward, hrest⟩ := tryBypass_ring s
    exact ⟨s.tryBypass, by simp [exec, execBypassRetryExpiry, hruns, hlow, hfallen, hretry], hhold, by simp [hforward, hlock], hrest⟩
  · obtain ⟨hport0, hport1⟩ := trialFailed_counts s
    exact ⟨s.trialFailed, by simp [exec, execBypassTrialTimeout, htrial, hlock], by simp [State.trialFailed, lowerBypass_ring],
      hport0, hport1, trialFailed_reports s⟩
  · obtain ⟨hreg, hhold, hreports⟩ := writeBypass_zero s
    exact ⟨_, bypassEnableWrite_accepted h rfl, hreg, hhold, answer_last _ _ _ _, answered_reports hreports _ _ _⟩
  · have hwrite := bypassEnableWrite_accepted h (v := 1) rfl
    rw [show ((1 % 2 : Nat) : Int) = 1 from rfl, writeBypass_one_fallen hruns hlow hfallen] at hwrite
    obtain ⟨hhold, hforward, hrest⟩ := tryBypass_ring (s.setReg 0x1030 10 1)
    have hreports : ({ s with ring := (s.setReg 0x1030 10 1).tryBypass.ring } : State).ReportsWith (s.setReg 0x1030 10 1).tryBypass
        [regKey 0x1030 10] := by
      rw [hrest]
      exact ReportsWith_setReg ({ s with ring := (s.setReg 0x1030 10 1).tryBypass.ring } : State) 0x1030 10 1 (by simp)
    have hreg : (s.setReg 0x1030 10 1).tryBypass.reg 0x1030 10 = 1 := by
      rw [hrest]
      exact reg_setReg_self s 0x1030 10 1
    exact ⟨_, hwrite, hreg, hhold, hforward, answer_last _ _ _ _, answered_reports hreports _ _ _⟩
  · have hwrite := bypassEnableWrite_accepted h (v := 1) rfl
    rw [show ((1 % 2 : Nat) : Int) = 1 from rfl, writeBypass_one_unfallen hfallen] at hwrite
    exact ⟨_, hwrite, reg_setReg_self s 0x1030 10 1, rfl, answered_reports (ReportsWith_setReg s 0x1030 10 1 (by simp)) _ _ _⟩

end Sys2Proof.Machine

/-! ### O29: authentication and the storing of persistent values -/

namespace Sys2Proof.Machine

/-- A RESPONSE in its turn that passes the gate is judged. -/
theorem response_in_turn {s : State} {p : Path} (h : s.Takes p (s.writeGate p 0x1020 2)) (data : List Byte) :
    exec (.response p data) s = .next (s.judgeResponse p data) := by
  have hturn : s.turn (Instr.response p data).rank = true := by rw [rank_of_path (p := p) rfl]; exact h.turn
  simp only [exec, execResponse, inTurnOf_in_turn _ hturn, h.served, h.accepted, if_true]

theorem responseRight_iff {s : State} {p : Path} {data : List Byte} :
    s.responseRight p data = true ↔ ∃ c, (s.on p).challenge = some c ∧ data = Config.hmacService c s.fuses.serial (pathNumber p) := by
  unfold State.responseRight
  split
  · next c hc => simp [hc]
  · next hc => simp [hc]

/-- A record changes neither level nor challenge of a session. -/
theorem record_authority (s : State) (type : Nat) (payload : List Byte) (n : Nat) :
    ((s.record type payload).session n).level = (s.session n).level
      ∧ ((s.record type payload).session n).challenge = (s.session n).challenge := by
  refine record_keeps (P := fun x => x.level = (s.session n).level ∧ x.challenge = (s.session n).challenge)
    (fun x m kind up reliable bytes _ hx => ?_) ⟨rfl, rfl⟩ type payload
  rw [sending_same]
  exact hx

theorem grantService_auth (s : State) (p : Path) : (s.grantService p).auth = { s.auth with wrong := 0 } := by
  simp [State.grantService]

theorem grantService_reports (s : State) (p : Path) :
    ({ s with auth := { s.auth with wrong := 0 } } : State).Reports (s.grantService p) := by
  unfold State.grantService
  generalize s.sessions.set (pathNumber p) { s.on p with level := .service, challenge := none } = l
  have hraised := Reports_sessions { s with auth := { s.auth with wrong := 0 } } l
  exact Reports_trans hraised (Reports_record _ _ _)

theorem grantService_on {s : State} {p : Path} (h : pathNumber p < s.sessions.length) :
    ((s.grantService p).on p).level = .service ∧ ((s.grantService p).on p).challenge = none := by
  have hself := session_setSession_self h { s.on p with level := .service, challenge := none }
  unfold State.grantService
  generalize hraised : ({ s with
    auth := { s.auth with wrong := 0 }
    sessions := s.sessions.set (pathNumber p) { s.on p with level := .service, challenge := none } } : State) = t
  have ht : t.session (pathNumber p) = { s.on p with level := .service, challenge := none } := by
    rw [← hself]
    exact session_of_sessions (by rw [← hraised]; rfl) _
  obtain ⟨hlevel, hchallenge⟩ := record_authority t 0x0090 [byteOf (pathNumber p), 1] (pathNumber p)
  rw [ht] at hlevel hchallenge
  exact ⟨hlevel, hchallenge⟩

theorem lockout_reports {s : State} (p : Path) (h : s.auth.wrong = 2) :
    (s.wrongResponse p).auth = { s.auth with wrong := 0, locked := true }
      ∧ ({ s with auth := { s.auth with wrong := 0, locked := true } } : State).Reports (s.wrongResponse p) := by
  have hspent := Reports_sessions { s with auth := { s.auth with wrong := 0, locked := true } } (s.spendChallenge p).sessions
  have hthird : s.wrongResponse p = ({ s with
      auth := { s.auth with wrong := 0, locked := true }
      sessions := (s.spendChallenge p).sessions } : State).record 0x0090 [byteOf (pathNumber p), 0] := by
    rw [State.wrongResponse, h]
    rfl
  rw [hthird]
  exact ⟨by simp, Reports_trans hspent (Reports_record _ _ _)⟩

theorem mem_persistentOf {α : Type} (l : List (Nat × α)) (x : Nat × α) :
    x ∈ persistentOf l ↔ x ∈ l ∧ isPersistent x.1 = true :=
  List.mem_filter

/-- Settles O29. -/
theorem authenticationAndStoresComplete : Obligations.AuthenticationAndStoresComplete := by
  refine ⟨fun s p h => ?_, fun s p data h hfree => ⟨fun c hc hdata => ?_, fun hwrong => ⟨fun hcount => ?_, fun hcount => ?_⟩⟩,
    fun s p data h hlocked => ?_, fun s p h => ?_, fun s => rfl, fun s p h hidle => ?_, fun s w hw => ?_, fun s p h => ?_⟩
  · exact ⟨Config.challengeDraw s.auth.drawn % 2 ^ 64, Nat.mod_lt _ (by decide),
      congrArg Host.Outcome.next (accepted_in_turn h (c := .challenge p) (rank_of_path rfl) _ _)⟩
  · have hright : s.responseRight p data = true := responseRight_iff.2 ⟨c, hc, hdata⟩
    refine ⟨(s.grantService p).answer p 0 [], ?_, grantService_auth s p, ?_, answer_last _ _ _ _, grantService_on⟩
    · rw [response_in_turn h]
      simp [State.judgeResponse, hfree, hright]
    · have hauth : ((s.grantService p).answer p 0 []).auth = { s.auth with wrong := 0 } := grantService_auth s p
      rw [hauth]
      exact answered_reports (grantService_reports s p) _ _ _
  · have hright : s.responseRight p data = false := by
      rw [Bool.eq_false_iff, ne_eq, responseRight_iff]
      exact fun ⟨c, hc, hdata⟩ => hwrong c hc hdata
    have hmore : ¬(s.auth.wrong + 1 = 3) := by omega
    rw [response_in_turn h]
    simp [State.judgeResponse, hfree, hright, State.wrongResponse, hmore]
    rfl
  · have hright : s.responseRight p data = false := by
      rw [Bool.eq_false_iff, ne_eq, responseRight_iff]
      exact fun ⟨c, hc, hdata⟩ => hwrong c hc hdata
    obtain ⟨hauth, hreports⟩ := lockout_reports p hcount
    refine ⟨(s.wrongResponse p).answer p 0x00020005 [], ?_, hauth, ?_, answer_last _ _ _ _⟩
    · rw [response_in_turn h]
      simp [State.judgeResponse, hfree, hright]
      rfl
    · rw [show ((s.wrongResponse p).answer p 0x00020005 []).auth = _ from hauth]
      exact answered_reports hreports _ _ _
  · rw [response_in_turn h]
    simp [State.judgeResponse, hlocked]
    rfl
  · exact congrArg Host.Outcome.next (accepted_in_turn h (c := .drop p) (rank_of_path rfl) _ _)
  · have htakes := takes_orElse h (test := orElse (numberTest 0x1010 1 (leBytes 1 1))
      (refuseIf (decide (1 = 1) && s.flash.writing.isSome) .storing)) (by rw [hidle]; rfl)
    exact ⟨(persistentOf s.regs, persistentOf s.blobs),
      congrArg Host.Outcome.next (accepted_in_turn htakes (c := .store p 1) (rank_of_path rfl) _ _),
      mem_persistentOf s.regs, mem_persistentOf s.blobs⟩
  · simp [exec, execStoreComplete, FlashStore.complete, hw]
  · exact congrArg Host.Outcome.next (accepted_in_turn (takes_orElse (test := numberTest 0x1010 2 (leBytes 1 1)) h rfl)
      (c := .restoreDefaults p 1) (rank_of_path rfl) _ _)

end Sys2Proof.Machine

/-! ### O35, O60: sessions opened and closed -/

namespace Sys2Proof.Machine

/-! #### Closing -/

/-- A session told of its close and struck from the list, with the reason and, where the peer did not ask for it, the leaf. -/
def State.struck (s : State) (n reason : Nat) : State :=
  let t := if reason = 1 then s.message n 4 false [] else s.message n 3 true []
  let u := (t.setSession n Session.closed).setReg 0x1031 5 reason
  if reason = 1 then u else u.setLeaf 0x2108 3

theorem closeSession_open {s : State} {n : Nat} (h : s.openRing n = true) (reason : Nat) :
    s.closeSession n reason = if (s.session n).job then (s.struck n reason).endJob else s.struck n reason := by
  rw [State.closeSession, if_pos h]
  rfl

theorem struck_reports (s : State) (n reason : Nat) : s.ReportsWith (s.struck n reason) [regKey 0x1031 5] := by
  have hu (t : State) (h : s.Reports t) :
      s.ReportsWith ((t.setSession n Session.closed).setReg 0x1031 5 reason) [regKey 0x1031 5] :=
    ReportsWith_trans (ReportsWith_of_Reports _ (Reports_trans h (Reports_sessions t _))) (ReportsWith_setReg _ _ _ _ (by simp))
  unfold State.struck
  dsimp only
  split
  · exact hu _ (Reports_message _ _ _ _ _)
  · exact ReportsWith_trans (hu _ (Reports_message _ _ _ _ _)) (ReportsWith_of_Reports _ (Reports_setLeaf _ _ _))

theorem struck_regs (s : State) (n reason : Nat) : (s.struck n reason).regs = (s.setReg 0x1031 5 reason).regs := by
  unfold State.struck
  dsimp only
  split <;> simp [State.setReg, State.setSession]

theorem struck_reason (s : State) (n reason : Nat) : (s.struck n reason).reg 0x1031 5 = reason :=
  (reg_of_regs (struck_regs s n reason) _ _).trans (reg_setReg_self s 0x1031 5 reason)

theorem struck_closed {s : State} {n : Nat} (h : s.openRing n = true) (reason : Nat) : (s.struck n reason).session n = Session.closed := by
  have hu (kind : Nat) (reliable : Bool) :
      (((s.message n kind reliable []).setSession n Session.closed).setReg 0x1031 5 reason).session n = Session.closed :=
    session_setSession_self (in_range_of_isOpen ((message_isOpen s n kind reliable [] n).trans (isOpen_of_openRing h))) Session.closed
  unfold State.struck
  dsimp only
  split
  · exact hu _ _
  · exact setLeaf_closed (hu _ _) _ _

/-- No other session opens or closes. -/
theorem struck_isOpen (s : State) {n k : Nat} (hk : k ≠ n) (reason : Nat) :
    ((s.struck n reason).session k).isOpen = (s.session k).isOpen := by
  have hu (kind : Nat) (reliable : Bool) :
      ((((s.message n kind reliable []).setSession n Session.closed).setReg 0x1031 5 reason).session k).isOpen = (s.session k).isOpen :=
    (congrArg Session.isOpen (session_setSession_other (s.message n kind reliable []) hk Session.closed)).trans
      (message_isOpen s n kind reliable [] k)
  unfold State.struck
  dsimp only
  split
  · exact hu _ _
  · exact (setLeaf_isOpen _ _ _ _).trans (hu _ _)

theorem struck_leaf (s : State) (n : Nat) {reason : Nat} (h : reason ≠ 1) :
    (leafAt (s.struck n reason).leaves 0x2108 3).isSome = true := by
  simp only [State.struck, if_neg h]
  exact leafAt_setLeaf_self _ _ _

theorem endJob_reg (s : State) {i a : Nat} (h : regKey i a ≠ regKey 0x3000 3) : s.endJob.reg i a = s.reg i a :=
  reg_setReg_other _ _ h

/-- A closed session: its place in the list, its reason, what it leaves alone. -/
theorem closeSession_closed {s : State} {n : Nat} (h : s.openRing n = true) (reason : Nat) :
    (s.closeSession n reason).session n = Session.closed ∧ (s.closeSession n reason).reg 0x1031 5 = reason
      ∧ (∀ k, k ≠ n → ((s.closeSession n reason).session k).isOpen = (s.session k).isOpen) := by
  rw [closeSession_open h]
  split
  · exact ⟨struck_closed h reason, (endJob_reg _ (by decide)).trans (struck_reason s n reason), fun k hk => struck_isOpen s hk reason⟩
  · exact ⟨struck_closed h reason, struck_reason s n reason, fun k hk => struck_isOpen s hk reason⟩

theorem closeSession_keeps {s : State} {n : Nat} (h : s.openRing n = true) (reason : Nat) :
    (s.closeSession n reason).dev = s.dev ∧ (s.closeSession n reason).heads = s.heads
      ∧ (s.closeSession n reason).job.segments = s.job.segments
      ∧ s.KeepsRegs (s.closeSession n reason) [regKey 0x1031 5, regKey 0x3000 3] := by
  have hreports := struck_reports s n reason
  have hstruck : s.KeepsRegs (s.struck n reason) [regKey 0x1031 5, regKey 0x3000 3] := fun k hk => by
    rw [struck_regs]
    exact regsGet_put_other _ _ (fun e => hk (by simp [e]))
  have hsegments : (s.struck n reason).job.segments = s.job.segments := by rw [hreports.job]
  rw [closeSession_open h]
  split
  · exact ⟨hreports.dev, hreports.heads, hsegments,
      KeepsRegs_trans hstruck (KeepsRegs_setReg { (s.struck n reason) with
        job := { (s.struck n reason).job with receiving := none, offset := 0 }
        twin := { (s.struck n reason).twin with hostCopies := [] } } 0x3000 3 0 (by simp))⟩
  · exact ⟨hreports.dev, hreports.heads, hsegments, hstruck⟩

theorem closeSession_leaf {s : State} {n reason : Nat} (h : s.openRing n = true) (hreason : reason ≠ 1) :
    (leafAt (s.closeSession n reason).leaves 0x2108 3).isSome = true := by
  rw [closeSession_open h]
  split
  · exact struck_leaf s n hreason
  · exact struck_leaf s n hreason

/-- The end of the job session ends its reception. -/
theorem closeSession_job {s : State} {n : Nat} (h : s.openRing n = true) (hjob : (s.session n).job = true) (reason : Nat) :
    (s.closeSession n reason).reg 0x3000 3 = 0 ∧ (s.closeSession n reason).job = { s.job with receiving := none, offset := 0 } := by
  rw [closeSession_open h, if_pos hjob, ← (struck_reports s n reason).job]
  exact ⟨reg_setReg_self _ 0x3000 3 0, rfl⟩

theorem openRing_tookFrame {s : State} {n : Nat} (h : s.openRing n = true) : (s.tookFrame (.ring n)).openRing n = true := by
  simp only [State.openRing, session_tookFrame h]
  exact h

theorem tookFrame_isOpen {s : State} {n : Nat} (h : s.openRing n = true) (k : Nat) :
    ((s.tookFrame (.ring n)).session k).isOpen = (s.session k).isOpen := by
  by_cases hk : k = n
  · rw [hk, session_tookFrame h]
    rfl
  · rw [tookFrame_open h, session_setSession_other s hk]

/-- A SESSION_CLOSE in its turn. -/
theorem sessionClose_in_turn {s : State} {n : Nat} (hturn : s.turn 7 = true) :
    exec (.sessionClose n) s = .next ((s.tookFrame (.ring n)).closeSession n 1) := by
  simp only [exec, execSessionClose, inTurn_in_turn (c := .sessionClose n) _ hturn]

/-- Settles O60: the frame is taken, and its session closed with reason 2. -/
theorem wrongJobOffsetClosesTheSession : Obligations.WrongJobOffsetClosesTheSession := by
  intro s n start more payload hopen hserved hturn hjob hform hoff
  have hexec := job_in_turn hturn hopen hserved hjob hform start more
  rw [if_pos hoff] at hexec
  have htook := Reports_tookFrame hopen
  have hopen' := openRing_tookFrame hopen
  obtain ⟨hclosed, hreason, hothers⟩ := closeSession_closed hopen' 2
  obtain ⟨hdev, -, hsegments, hregs⟩ := closeSession_keeps hopen' 2
  obtain ⟨-, hended⟩ := closeSession_job hopen' (by rw [session_tookFrame hopen]; exact hjob) 2
  have htookRegs : (s.tookFrame (.ring n)).regs = s.regs := by rw [tookFrame_open hopen]; rfl
  exact ⟨_, hexec, hclosed, hreason, by rw [hended], by rw [hsegments, htook.job],
    fun k hk => (hothers k hk).trans (tookFrame_isOpen hopen k), closeSession_leaf hopen' (by decide), hdev.trans htook.dev,
    KeepsRegs_trans (KeepsRegs_of_eq _ htookRegs) hregs⟩

/-! #### Opening -/

/-- A SESSION_OPEN in its turn. -/
theorem sessionOpen_in_turn {s : State} {source : Nat} {payload : List Byte} (hturn : s.turn 7 = true) (hserved : s.ringServed = true)
    (hlen : payload.length = 16) : exec (.sessionOpen source payload) s = .next (s.openSession source payload) := by
  simp only [exec, execSessionOpen, inTurn_in_turn (c := .sessionOpen source payload) _ hturn, hserved, hlen, and_self, if_true]

theorem openSession_accepts {s : State} {n : Nat} {payload : List Byte} (hresult : s.openResult (openAsk payload) = 0)
    (hfree : s.freeSession = some n) (peer : Nat) : s.openSession peer payload
      = if (openAsk payload).job then (s.openAs n peer (openAsk payload)).twinLead 0x08 (frameFields (openFrame n payload))
        else s.openAs n peer (openAsk payload) := by
  simp only [State.openSession, hresult, hfree]

theorem openSession_refuses {s : State} {payload : List Byte} (hresult : s.openResult (openAsk payload) ≠ 0) (peer : Nat) :
    s.openSession peer payload = s.sendFrames peer [acceptFrame (acceptBytes (s.openResult (openAsk payload)) 0 Session.closed)] := by
  unfold State.openSession
  dsimp only
  split
  · next hzero _ => exact absurd hzero hresult
  · rfl

/-- Only the list of sessions changes with a session that is no job session, and SESSION_ACCEPT leaves. -/
theorem openAs_plain {s : State} {a : OpenAsk} (hjob : a.job = false) (n peer : Nat) :
    s.openAs n peer a = ({ s with sessions := s.sessions.set n (Session.opened peer a (s.versionsFor a)) } : State).sendFrames peer
      [acceptFrame (acceptBytes 0 n (Session.opened peer a (s.versionsFor a)))] := by
  simp only [State.openAs, State.openQuiet, hjob]
  rfl

theorem openQuiet_job {s : State} {a : OpenAsk} (hjob : a.job = true) (n peer : Nat) : s.openQuiet n peer a
    = (({ s with sessions := s.sessions.set n (Session.opened peer a (s.versionsFor a)) } : State).beginCredit
        (Session.opened peer a (s.versionsFor a)).formatVersion).firstGrant := by
  simp only [State.openQuiet, hjob, if_true]

/-- The credit account begins at 0, and the first grant raises CREDIT_LIMIT to STAGING_BYTES. -/
theorem firstGrant_beginCredit (s : State) (format : Nat) :
    (s.beginCredit format).firstGrant.reg 0x3012 5 = s.reg 0x3012 4 ∧ (s.beginCredit format).firstGrant.reg 0x3012 6 = 0
      ∧ (s.beginCredit format).firstGrant.job = { s.job with receiving := none, offset := 0, freedRemainder := 0, unsentGrant := 0 }
      ∧ (s.beginCredit format).firstGrant.dev = s.dev ∧ (s.beginCredit format).firstGrant.heads = s.heads := by
  have hstaging : (s.beginCredit format).reg 0x3012 4 = s.reg 0x3012 4 := by
    unfold State.beginCredit
    rw [reg_setReg_other _ _ (by decide), reg_setReg_other _ _ (by decide), reg_setReg_other _ _ (by decide)]
    rfl
  have hregs : (s.beginCredit format).firstGrant.regs
      = ((s.beginCredit format).setReg 0x3012 5 ((s.beginCredit format).reg 0x3012 4)).regs := by
    simp [State.firstGrant]
  refine ⟨?_, ?_, by simp [State.firstGrant, State.beginCredit], by simp [State.firstGrant, State.beginCredit],
    by simp [State.firstGrant, State.beginCredit]⟩
  · rw [reg_of_regs hregs, reg_setReg_self, hstaging]
  · rw [reg_of_regs hregs, reg_setReg_other _ _ (by decide)]
    exact reg_setReg_self _ 0x3012 6 0

/-- A job session opened: the session, its credit account, and nothing of the device or the heads. -/
theorem openQuiet_opens_job {s : State} {n : Nat} {a : OpenAsk} (hjob : a.job = true) (hn : n < s.sessions.length) (peer : Nat) :
    (((s.openQuiet n peer a).session n).isOpen = true ∧ ((s.openQuiet n peer a).session n).peer = peer
        ∧ ((s.openQuiet n peer a).session n).job = true)
      ∧ (s.openQuiet n peer a).reg 0x3012 5 = s.reg 0x3012 4 ∧ (s.openQuiet n peer a).reg 0x3012 6 = 0
      ∧ (s.openQuiet n peer a).job = { s.job with receiving := none, offset := 0, freedRemainder := 0, unsentGrant := 0 }
      ∧ (s.openQuiet n peer a).dev = s.dev ∧ (s.openQuiet n peer a).heads = s.heads := by
  rw [openQuiet_job hjob]
  refine ⟨?_, firstGrant_beginCredit _ _⟩
  refine jobMessage_keeps (P := fun x => x.isOpen = true ∧ x.peer = peer ∧ x.job = true)
    (fun x m kind up reliable bytes _ hx => ?_) ?_ _ _
  · rw [sending_same]
    exact hx
  · have hself := session_setSession_self hn (Session.opened peer a (s.versionsFor a))
    exact ⟨congrArg Session.isOpen hself, congrArg Session.peer hself, (congrArg Session.job hself).trans hjob⟩

theorem session_twinLead (s : State) (kind : Nat) (fields : List Int) (n : Nat) : (s.twinLead kind fields).session n = s.session n :=
  session_of_sessions (by simp) n

/-- Settles O35. -/
theorem sessionOpenAndCloseComplete : Obligations.SessionOpenAndCloseComplete := by
  refine ⟨fun s source payload hturn hserved hlen =>
      ⟨fun n hresult hfree hjob => ?_, fun n hresult hfree hn hjob => ?_, fun hresult => ?_⟩,
    fun s n hturn hopen hjob => ?_, fun s n hturn hopen hjob => ?_, fun s n hopen => ?_⟩
  · have haccept := openSession_accepts hresult hfree source
    rw [hjob] at haccept
    refine ⟨Session.opened source (openAsk payload) (s.versionsFor (openAsk payload)), ?_, rfl, rfl, hjob, rfl, rfl, rfl, rfl, rfl, rfl,
      rfl, rfl⟩
    rw [sessionOpen_in_turn hturn hserved hlen, haccept]
    exact congrArg Host.Outcome.next (openAs_plain hjob n source)
  · have haccept := openSession_accepts hresult hfree source
    rw [hjob] at haccept
    let x := Session.opened source (openAsk payload) (s.versionsFor (openAsk payload))
    let sent := s.sendFrames source [acceptFrame (acceptBytes 0 n x)]
    obtain ⟨⟨hopen, hpeer, hjobs⟩, hlimit, hreceived, haccount, hdev, hheads⟩ := openQuiet_opens_job (s := sent) hjob hn source
    let opened := sent.openQuiet n source (openAsk payload)
    let lead := opened.twinLead 0x08 (frameFields (openFrame n payload))
    have hreports : opened.Reports lead := Reports_twinLead _ _ _
    have hsession : lead.session n = opened.session n := session_twinLead _ _ _ _
    refine ⟨lead, ?_, ?_⟩
    · rw [sessionOpen_in_turn hturn hserved hlen, haccept]
      rfl
    · rw [hsession, hreports.job, hreports.dev, hreports.heads, reg_of_reports hreports (by decide), reg_of_reports hreports (by decide)]
      exact ⟨hopen, hpeer, hjobs, hlimit, hreceived, haccount, hdev, hheads⟩
  · exact ⟨_, by rw [sessionOpen_in_turn hturn hserved hlen, openSession_refuses hresult], rfl⟩
  · have hopen' := openRing_tookFrame hopen
    obtain ⟨hclosed, hreason, -⟩ := closeSession_closed hopen' 1
    refine ⟨_, sessionClose_in_turn hturn, by rw [hclosed]; rfl, hreason, ?_⟩
    have hplain : ((s.tookFrame (.ring n)).session n).job = false := by rw [session_tookFrame hopen]; exact hjob
    rw [closeSession_open hopen', hplain]
    exact ReportsWith_trans (ReportsWith_of_Reports _ (Reports_tookFrame hopen)) (struck_reports _ n 1)
  · have hopen' := openRing_tookFrame hopen
    obtain ⟨hclosed, hreason, -⟩ := closeSession_closed hopen' 1
    obtain ⟨hformat, hended⟩ := closeSession_job hopen' (by rw [session_tookFrame hopen]; exact hjob) 1
    exact ⟨_, sessionClose_in_turn hturn, by rw [hclosed]; rfl, hreason, hformat, by rw [hended, (Reports_tookFrame hopen).job]⟩
  · obtain ⟨hclosed, hreason, -⟩ := closeSession_closed hopen 3
    obtain ⟨hdev, hheads, hsegments, -⟩ := closeSession_keeps hopen 3
    exact ⟨_, rfl, by rw [hclosed]; rfl, hreason, closeSession_leaf hopen (by decide), hdev, hheads, hsegments⟩

end Sys2Proof.Machine

/-! ### O36: acknowledgements and repeats -/

namespace Sys2Proof.Machine

/-- With nothing waiting nothing leaves. -/
theorem drain_empty {s : State} {n : Nat} (h : (s.session n).backlog = []) : s.drain n = s := by
  have hsame : ({ s.session n with backlog := [] } : Session) = s.session n := by rw [← h]
  rw [State.drain, h, List.foldl_nil, hsame, setSession_self]

/-- An acknowledgement without SACK on a session with nothing waiting. -/
theorem ack_frees {s : State} {n a : Nat} (hopen : s.openRing n = true) (hahead : seqAhead a (s.session n).txSeq ≤ 64)
    (hjob : (s.session n).job = false) (hwait : (s.session n).backlog = []) :
    s.acked n a 0 = s.setSession n ((s.session n).acked a) := by
  have hplain : ((s.session n).acked a).job = false := hjob
  have hself := session_setSession_self (in_range_of_openRing hopen) ((s.session n).acked a)
  have hempty : ((s.setSession n ((s.session n).acked a)).session n).backlog = [] := by
    rw [hself]
    exact hwait
  simp [State.acked, hopen, hahead, hplain, drain_empty hempty]

/-- The wire form of a frame rests on the EtherType alone of the stored numbers. -/
theorem wire_of_etherType {s t : State} (hfuses : t.fuses = s.fuses) (htype : t.reg 0x1030 1 = s.reg 0x1030 1) (dest : Nat)
    (f : TreyxFrame) : t.wire dest f = s.wire dest f := by
  simp only [State.wire, State.ethernet, hfuses, State.regN, htype]

/-- A counter that the frames do not carry can be counted before or after they leave. -/
theorem sendFrames_bump (s : State) (dest : Nat) (fs : List TreyxFrame) {i a : Nat} (h : regKey 0x1030 1 ≠ regKey i a) :
    (s.sendFrames dest fs).bump i a = (s.bump i a).sendFrames dest fs := by
  have hwire : (s.bump i a).wire dest = s.wire dest :=
    funext fun f => wire_of_etherType (s := s) (t := s.bump i a) rfl (reg_bump_other s h) dest f
  rw [State.sendFrames, State.sendFrames, hwire]
  rfl

/-- A kept frame whose repeats are not used up leaves once more. -/
theorem repeatFrame_repeats {s : State} {n q : Nat} {u : SentFrame}
    (hkept : (s.session n).unacked.find? (fun x => x.frame.seq == q) = some u)
    (hmore : u.sends < s.regN 0x1030 4) (hup : s.ringUp = true) : s.repeatFrame n q
      = (({ s with sessions := s.sessions.set n { s.session n with
            ackOwed := false
            unacked := (s.session n).unacked.map (fun w => if w.frame.seq = q then (s.session n).repeated u else w) } } : State).bump
          0x1031 2).sendFrames (s.session n).peer [((s.session n).repeated u).frame] := by
  rw [← sendFrames_bump _ _ _ (by decide)]
  simp only [State.repeatFrame, hkept, if_neg (Nat.not_le.2 hmore), hup, if_true]

theorem repeatFrame_closes {s : State} {n q : Nat} {u : SentFrame}
    (hkept : (s.session n).unacked.find? (fun x => x.frame.seq == q) = some u)
    (hspent : s.regN 0x1030 4 ≤ u.sends) : s.repeatFrame n q = s.closeSession n 4 := by
  simp only [State.repeatFrame, hkept, if_pos hspent]

/-- An RTO of an open session. -/
theorem rtoExpiry_open {s : State} {n : Nat} (hopen : s.openRing n = true) (q : Nat) :
    exec (.rtoExpiry n q) s = .next (s.repeatFrame n q) := by
  simp only [exec, execRtoExpiry, hopen, if_true]

/-- A message without content that needs no acknowledgement is one frame. -/
theorem message_bare {s : State} {n : Nat} (hopen : s.openRing n = true) (hup : s.ringUp = true) (hspeaks : s.speaks = true) (kind : Nat) :
    s.message n kind false [] = ({ s with
      sessions := s.sessions.set n
        { s.session n with ackOwed := false, txCount := ((s.session n).txCount + 1) % 2 ^ 32 } } : State).sendFrames (s.session n).peer
        [(s.session n).frame n kind false false false ((s.session n).txCount % 2 ^ 32) []] := by
  have hn : n ≠ 0 := by
    simp only [State.openRing, Bool.and_eq_true, decide_eq_true_eq] at hopen
    omega
  have hmay : s.maySend n kind = true := by simp [State.maySend, isOpen_of_openRing hopen, hn, hspeaks]
  have hframes : (s.session n).frames n kind false [] =
      [(s.session n).frame n kind false false false ((s.session n).txCount % 2 ^ 32) []] := by simp [Session.frames]
  have hroom : (s.session n).roomFor true false [] = true := by simp [Session.roomFor]
  have hleaving : (s.session n).leaving n kind true false [] = (s.session n).frames n kind false [] := by
    rw [Session.leaving, if_pos hroom]
  have hsending : (s.session n).sending n kind true false []
      = { s.session n with ackOwed := false, txCount := ((s.session n).txCount + 1) % 2 ^ 32 } := by
    rw [Session.sending, if_pos hroom, hframes]
    rfl
  rw [State.message, if_pos hmay]
  dsimp only
  rw [hup, hleaving, hsending, hframes]
  simp

/-- Settles O36. -/
theorem acknowledgementCommandsComplete : Obligations.AcknowledgementCommandsComplete := by
  refine ⟨fun s n a hopen hahead hjob hwait => ?_, fun s n q u hopen hkept => ⟨fun hmore hup => ?_, fun hspent => ?_⟩,
    fun s n hopen howed hup hspeaks => ?_⟩
  · exact congrArg Host.Outcome.next (ack_frees hopen hahead hjob hwait)
  · have hexec := rtoExpiry_open hopen q
    rw [repeatFrame_repeats hkept hmore hup] at hexec
    exact ⟨_, ((s.session n).repeated u).frame, hexec, rfl, rfl, rfl, rfl, reg_bump_self s 0x1031 2,
      KeepsRegs_bump s 0x1031 2 (by simp), rfl⟩
  · obtain ⟨hclosed, hreason, -⟩ := closeSession_closed hopen 4
    obtain ⟨hdev, hheads, -⟩ := closeSession_keeps hopen 4
    exact ⟨_, by rw [rtoExpiry_open hopen, repeatFrame_closes hkept hspent], by rw [hclosed]; rfl, hreason, hdev, hheads⟩
  · simp only [exec, execAckDelayExpiry, hopen, howed, hup, and_self, if_true, message_bare hopen hup hspeaks]

end Sys2Proof.Machine

/-! ### O37: a write to ROOT_SELECT has an immediate effect -/

namespace Sys2Proof.Machine

/-- ROOT_SELECT's row of the dictionary. -/
def rootSelect : ObjEntry := ⟨1, 1, "ROOT_SELECT", .u8, .rws, 0, some (0, 2), true⟩

/-- In STANDBY, with the time of a holdover not yet spent. -/
def rootHeld : State := { wS with clocks.holdoverSpent := false }

/-- A write of 1 to ROOT_SELECT in STANDBY, where ROOT_SELECT reads 0, spends the holdover's time. -/
theorem rootSelect_spends_holdover :
    (outcomeState wS (exec (.dictionaryWrite .spi 0x2010 1 [1]) rootHeld)).clocks.holdoverSpent = true := by decide

/-- Refutes O37: plainObject takes 0x2010:01 for an object without an immediate effect, and a new value written to it also
changes the clock unit. -/
theorem not_expeditedTransfersComplete : ¬ Obligations.ExpeditedTransfersComplete := by
  rintro ⟨-, -, -, -, hwrite, -, -⟩
  obtain ⟨t, hexec, -, -, -, hrest⟩ := hwrite rootHeld .spi 0x2010 1 [1] rootSelect
    (by decide) (by decide) (by decide) (by decide) rfl (by decide)
  have hspent := rootSelect_spends_holdover
  have hkept : t.clocks = rootHeld.clocks := by rw [hrest]
  rw [hexec, outcomeState, hkept] at hspent
  exact absurd hspent (by decide)

end Sys2Proof.Machine

/-! ### O38: block transfers -/

namespace Sys2Proof.Machine

/-- Taking a frame keeps its path served. -/
theorem served_tookFrame (s : State) (p : Path) : (s.tookFrame p).served p = s.served p := by
  cases p with
  | spi => rfl
  | ring n =>
    by_cases hopen : s.openRing n = true
    · have hdev : (s.tookFrame (.ring n)).dev = s.dev := (Reports_tookFrame hopen).dev
      simp only [State.served, hdev, tookFrame_isOpen hopen]
    · simp only [State.tookFrame, hopen]
      rfl

/-- The answer of an access becomes its response. -/
theorem answered_answer (s : State) (p : Path) (abort : Nat) (data : List Byte) :
    (s.answer p abort data).answered = some (abort, data) := by
  simp [State.answered, answer_last]

theorem unanswered_answer (s : State) (p : Path) (abort : Nat) (data : List Byte) : (s.answer p abort data).unanswered = s := by
  simp [State.unanswered, State.answer]

theorem wrapBlock_answer (s : State) (p : Path) (tid index sub : Nat) (data : List Byte) :
    (s.answer p 0 data).wrapBlock p tid index sub
      = (s.reply p 0x11 (sdoResponse 4 tid index sub 4 0 (leBytes 4 data.length))).sendSegments p tid data := by
  simp only [State.wrapBlock, answered_answer, unanswered_answer]

/-! #### Commands in their turn -/

section
variable {s : State} {p : Path} (hserved : s.served p = true) (hturn : s.turn (pathRank p) = true)
include hserved hturn

theorem blockWrite_in_turn (tid index sub total : Nat) :
    exec (.blockWrite p tid index sub total) s = .next ((s.tookFrame p).openBlock p tid index sub total) := by
  have hrank : s.turn (Instr.blockWrite p tid index sub total).rank = true := by rw [rank_of_path (p := p) rfl]; exact hturn
  simp only [exec, execBlockWrite, inTurnOf_in_turn _ hrank, hserved, if_true]

theorem blockRead_in_turn (tid index sub : Nat) :
    exec (.blockRead p tid index sub) s = .next ((s.tookFrame p).readBlock p tid index sub) := by
  have hrank : s.turn (Instr.blockRead p tid index sub).rank = true := by rw [rank_of_path (p := p) rfl]; exact hturn
  simp only [exec, execBlockRead, inTurnOf_in_turn _ hrank, hserved, if_true]

theorem blockSegment_in_turn (tid number : Nat) (last : Bool) (data : List Byte) :
    exec (.blockSegment p tid number last data) s
      = .next ((s.tookFrame p).segmentIn p tid (if s.lastRight p last data then number else 65536) true data) := by
  have hrank : s.turn (Instr.blockSegment p tid number last data).rank = true := by rw [rank_of_path (p := p) rfl]; exact hturn
  simp only [exec, execBlockSegment, inTurnOf_in_turn _ hrank, hserved, if_true]

theorem blockTransferTimeout_in_turn {x : Transfer} (hx : (s.on p).transfer = some x) :
    exec (.blockTransferTimeout p) s = .next (s.failBlock p x .timeout) := by
  have hrank : s.turn (Instr.blockTransferTimeout p).rank = true := by rw [rank_of_path (p := p) rfl]; exact hturn
  simp only [exec, execBlockTransferTimeout, inTurnOf_in_turn _ hrank, hx, hserved, if_true]

end

/-! #### Opening, reading and segments -/

theorem openBlock_opens {s : State} {p : Path} {index sub total : Nat} (h : s.blockRefused p index sub total = none) (htotal : total ≠ 0)
    (tid : Nat) : s.openBlock p tid index sub total
      = (s.withTransfer p (some ⟨index, sub, tid, total, 0, []⟩)).reply p 0x11 (sdoResponse 3 tid index sub 0 0 []) := by
  simp only [State.openBlock, h, if_neg htotal]
  rfl

theorem openBlock_refused {s : State} {p : Path} {index sub total : Nat} {a : Abort} (h : s.blockRefused p index sub total = some a)
    (tid : Nat) : s.openBlock p tid index sub total = s.reply p 0x11 (sdoResponse 3 tid index sub 0 a.code []) := by
  simp only [State.openBlock, h]
  rfl

/-- A read without a side effect answers the value and changes nothing else. -/
theorem odRead_answers {s : State} {p : Path} {index sub : Nat} (hserved : s.served p = true) (hplain : readActs index sub = false)
    (hgate : s.anyReadGate index sub = none) : s.odRead p index sub = s.answer p 0 (s.readBytes p index sub) := by
  rw [State.odRead, if_neg (by simp [hplain]), State.access, if_pos hserved, hgate]
  rfl

theorem readBlock_reads {s : State} {p : Path} {index sub : Nat} (hserved : s.served p = true) (hplain : readActs index sub = false)
    (hgate : s.anyReadGate index sub = none) (hidle : s.transferOpen p = false) (tid : Nat) : s.readBlock p tid index sub
      = (s.reply p 0x11 (sdoResponse 4 tid index sub 4 0 (leBytes 4 (s.readBytes p index sub).length))).sendSegments p tid
          (s.readBytes p index sub) := by
  simp only [State.readBlock, hgate, hidle, odRead_answers hserved hplain hgate, wrapBlock_answer]
  rfl

theorem readBlock_busy {s : State} {p : Path} {index sub : Nat} (hgate : s.anyReadGate index sub = none) (hbusy : s.transferOpen p = true)
    (tid : Nat) : s.readBlock p tid index sub = s.reply p 0x11 (sdoResponse 4 tid index sub 0 0x00040006 []) := by
  simp only [State.readBlock, hgate, hbusy, if_true]
  rfl

theorem readBlock_refused {s : State} {p : Path} {index sub : Nat} {a : Abort} (hgate : s.anyReadGate index sub = some a) (tid : Nat) :
    s.readBlock p tid index sub = s.reply p 0x11 (sdoResponse 4 tid index sub 0 a.code []) := by
  simp only [State.readBlock, hgate]
  rfl

section
variable {s : State} {p : Path} {x : Transfer} (hx : (s.on p).transfer = some x) {tid : Nat} (htid : x.tid = tid % 256)
include hx htid

/-- The next segment of the right length that does not complete the value extends it. -/
theorem segmentIn_extends {data : List Byte} (hlen : data.length = min 1024 (x.total - x.data.length))
    (hmore : x.data.length + data.length < x.total) : s.segmentIn p tid x.nextSeg true data
      = s.withTransfer p (some { x with nextSeg := x.nextSeg + 1, data := x.data ++ data }) := by
  have hshort : (x.data ++ data).length < x.total := by rw [List.length_append]; exact hmore
  have hexpected : data.length = x.expects := hlen
  simp only [State.segmentIn, hx, htid, hexpected, ne_eq, not_true_eq_false, or_self, if_false, Bool.true_eq_false, if_pos hshort]

/-- A segment out of order ends the transfer. -/
theorem segmentIn_out_of_order {number : Nat} (hnumber : number ≠ x.nextSeg) (data : List Byte) :
    s.segmentIn p tid number true data = s.failBlock p x .segmentOrder := by
  have horder : number ≠ x.nextSeg ∨ data.length ≠ x.expects := .inl hnumber
  simp only [State.segmentIn, hx, htid, ne_eq, not_true_eq_false, if_false, Bool.true_eq_false, if_pos horder]

end

/-- Whether a segment is the last is what its place in TOTAL makes it. -/
theorem lastRight_of_more {s : State} {p : Path} {x : Transfer} {data : List Byte} (hx : (s.on p).transfer = some x)
    (hmore : x.data.length + data.length < x.total) : s.lastRight p false data = true := by
  simp [State.lastRight, hx, hmore]

/-- Settles O38. -/
theorem blockTransfersComplete : Obligations.BlockTransfersComplete := by
  refine ⟨fun s p tid index sub total hserved hturn htotal => ?_, fun s p tid index sub hserved hturn hplain => ?_,
    fun s p tid number data x hserved hturn htook hx hux htid => ?_, fun s p x hserved hturn hx => ?_⟩
  · have hexec := blockWrite_in_turn hserved hturn tid index sub total
    exact ⟨fun h => by rw [hexec, openBlock_opens h htotal]; rfl, fun a h => by rw [hexec, openBlock_refused h]⟩
  · have hexec := blockRead_in_turn hserved hturn tid index sub
    have htook : (s.tookFrame p).served p = true := (served_tookFrame s p).trans hserved
    exact ⟨fun hidle hgate => by rw [hexec, readBlock_reads htook hplain hgate hidle],
      fun hbusy hgate => by rw [hexec, readBlock_busy hgate hbusy], fun a hgate => by rw [hexec, readBlock_refused hgate]⟩
  · refine ⟨fun hnumber hlen hmore => ?_, fun hnumber hsmall hnext last => ?_⟩
    · rw [blockSegment_in_turn hserved hturn, lastRight_of_more hx hmore, if_pos rfl, hnumber, segmentIn_extends hux htid hlen hmore]
      rfl
    · have hwrong : (if s.lastRight p last data then number else 65536) ≠ x.nextSeg := by
        split
        · exact hnumber
        · exact hnext.symm
      rw [blockSegment_in_turn hserved hturn, segmentIn_out_of_order hux htid hwrong]
      rfl
  · rw [blockTransferTimeout_in_turn hserved hturn hx]
    rfl

end Sys2Proof.Machine

/-! ### O39: the management port -/

namespace Sys2Proof.Machine

/-- A WRITE in its turn. -/
theorem spiWrite_in_turn {s : State} (hserved : s.served .spi = true) (hturn : s.turn 6 = true) (bytes : List Byte) :
    exec (.spiWrite bytes) s = .next (if s.spi.request.isNone ∧ spiFrameOk bytes then
      ({ s with spi := { s.spi with request := some ((bytes.drop 2).take (leAt bytes 0 2)), discarded := false } }).spiRun
    else { s with spi := { s.spi with discarded := true } }) := by
  simp only [exec, execSpiWrite, inTurn_in_turn (c := .spiWrite bytes) _ hturn, hserved, if_true]

/-- The port after a READ has shifted out what waited. -/
def State.shiftedOut (s : State) : State :=
  { s with spi := { s.spi with
      response := s.spi.behind.head?.map (fun r => r.2), behind := s.spi.behind.drop 1
      shifted := spiReadBytes (s.spi.response.getD []) } }

/-- A READ leaves the request as it is. -/
theorem shiftedOut_eq {s : State} {r : Option (List Byte)} (h : s.spi.request = r) : s.shiftedOut = { s with spi := { s.spi with
    request := r, response := s.spi.behind.head?.map (fun x => x.2), behind := s.spi.behind.drop 1
    shifted := spiReadBytes (s.spi.response.getD []) } } := by
  subst h
  rfl

/-- A READ in its turn. -/
theorem spiRead_in_turn {s : State} (hserved : s.served .spi = true) (hturn : s.turn 6 = true) :
    exec .spiRead s = .next s.shiftedOut.spiRun := by
  simp only [exec, execSpiRead, inTurn_in_turn (c := .spiRead) _ hturn, hserved, if_true]
  rfl

theorem spiRun_without_request {s : State} (h : s.spi.request = none) : s.spiRun = s := by
  simp only [State.spiRun, h]

/-- A request waits while a response does. -/
theorem spiRun_waits {s : State} (h : s.spi.response ≠ none) : s.spiRun = s := by
  have hsome : s.spi.response.isSome = true := Option.isSome_iff_ne_none.2 h
  unfold State.spiRun
  split
  · rw [if_pos hsome]
  · rfl

/-- A request with no response before it is carried out: the segment or the request that it is. -/
theorem spiRun_runs {s : State} {m : List Byte} (hrequest : s.spi.request = some m) (hresponse : s.spi.response = none) :
    s.spiRun = if s.spiSegment m then ({ s with spi := { s.spi with request := none } } : State).segmentMessage .spi m
      else ({ s with spi := { s.spi with request := none } } : State).sdoRequest .spi true m := by
  simp only [State.spiRun, hrequest, hresponse]
  rfl

/-- The bits of a status byte made of four flags. -/
theorem status_bits (a b c d : Bool) : flag a + 2 * flag b + 4 * flag c + 8 * flag d < 16
    ∧ (flag a + 2 * flag b + 4 * flag c + 8 * flag d).testBit 0 = a
    ∧ (flag a + 2 * flag b + 4 * flag c + 8 * flag d).testBit 1 = b
    ∧ (flag a + 2 * flag b + 4 * flag c + 8 * flag d).testBit 2 = c
    ∧ (flag a + 2 * flag b + 4 * flag c + 8 * flag d).testBit 3 = d := by
  revert a b c d
  decide

/-- Settles O39. -/
theorem spiPortCommandsComplete : Obligations.SpiPortCommandsComplete := by
  refine ⟨fun s bytes hserved hturn => ?_, fun s hserved hturn => ?_, fun s hserved => ?_, fun rest => ⟨rfl, rfl, rfl⟩⟩
  · have hwrite := spiWrite_in_turn hserved hturn bytes
    refine ⟨fun hempty hform hwaits => ?_, fun hrefused => ?_, fun hempty hform hfree => ?_⟩
    · rw [hwrite, if_pos ⟨by rw [hempty]; rfl, hform⟩, spiRun_waits (by exact hwaits)]
    · rw [hwrite, if_neg]
      rintro ⟨hnone, hform⟩
      rcases hrefused with hfull | hbad
      · exact hfull (Option.isNone_iff_eq_none.1 hnone)
      · rw [hbad] at hform
        cases hform
    · rw [hwrite, if_pos ⟨by rw [hempty]; rfl, hform⟩]
      exact congrArg Host.Outcome.next (spiRun_runs rfl hfree)
  · have hread := spiRead_in_turn hserved hturn
    refine ⟨fun hnone => ?_, fun m hrequest hlast => ?_, fun m hrequest hmore => ?_, fun hnone => ?_⟩
    · rw [hread, spiRun_without_request (by exact hnone), shiftedOut_eq hnone]
    · rw [hread, spiRun_runs (s := s.shiftedOut) (m := m) hrequest (by simp [State.shiftedOut, hlast])]
      rfl
    · have hwaits : s.shiftedOut.spi.response ≠ none := by
        cases hbehind : s.spi.behind with
        | nil => exact absurd hbehind hmore
        | cons r rs => simp [State.shiftedOut, hbehind]
      rw [hread, spiRun_waits hwaits, shiftedOut_eq hrequest]
    · simp only [hnone]
      rfl
  · obtain ⟨hsmall, hresponse, hrequest, hdiscarded, hint⟩ :=
      status_bits s.spi.response.isSome s.spi.request.isNone s.spi.discarded s.intAsserted
    refine ⟨s.spiStatus, hsmall, ?_, ?_, ?_, ?_, ?_⟩
    · simp only [exec, execSpiStatus, hserved, if_true]
    · rw [State.spiStatus, hresponse, Option.isSome_iff_ne_none]
    · rw [State.spiStatus, hrequest, Option.isNone_iff_eq_none]
    · rw [State.spiStatus, hdiscarded]
    · rw [State.spiStatus, hint]

end Sys2Proof.Machine

/-! ### O51: Network Time -/

namespace Sys2Proof.Machine

/-! #### The anchor and the rate (R426, R427) -/

/-- At its anchor NT is N_A whatever the rate: an anchor moved to the present ET with the NT there leaves NT continuous. -/
theorem nt_anchor {t : TimeUnit} {et : Int} (h : t.anchorEt = et) : t.nt et = t.anchorNt := by
  have hzero : signedOf 64 0 = 0 := by decide
  simp [TimeUnit.nt, h, hzero]

/-- The rate in LOCKED lies within its bounds. -/
theorem clampInt_lockedRho (rhoF offset : Int) (tc : Nat) :
    clampInt (-rhoMax) rhoMax (lockedRho rhoF offset tc) = lockedRho rhoF offset tc := by
  unfold lockedRho clampInt rhoMax
  split_ifs <;> omega

/-! #### An accepted exchange (R435 to R437, R448) -/

/-- Reporting beside a new time unit. -/
theorem ReportsWith_time {s t : State} {ks : List Nat} (h : s.ReportsWith t ks) (u : TimeUnit) :
    ({ s with time := u } : State).ReportsWith { t with time := u } ks := { h with time := rfl }

theorem countExchange_offset (s : State) (off del : Int) : (s.countExchange off del).reg 0x2023 4 = off := by
  rw [State.countExchange, reg_bump_other _ (by decide), reg_setReg_other _ _ (by decide), reg_setReg_self]

theorem countExchange_delay (s : State) (off del : Int) : (s.countExchange off del).reg 0x2023 5 = del := by
  rw [State.countExchange, reg_bump_other _ (by decide), reg_setReg_self]

theorem countExchange_count (s : State) (off del : Int) :
    (s.countExchange off del).reg 0x2023 8 = counterNext (regKey 0x2023 8) (s.reg 0x2023 8) 1 := by
  rw [State.countExchange, reg_bump_self, reg_setReg_other _ _ (by decide), reg_setReg_other _ _ (by decide)]

theorem countExchange_reports (s : State) (off del : Int) :
    s.ReportsWith (s.countExchange off del) [regKey 0x2023 4, regKey 0x2023 5, regKey 0x2023 8] :=
  ReportsWith_trans (ReportsWith_trans (ReportsWith_setReg _ _ _ _ (by simp)) (ReportsWith_setReg _ _ _ _ (by simp)))
    (ReportsWith_bump _ _ _ (by simp))

/-- Before NT is acquired an exchange acquires it. -/
theorem servoUpdate_acquires {s : State} (hunset : s.time.unset = true) (off del : Int) :
    s.servoUpdate off del = { s.countExchange off del with time := s.time.acquired s.et off } := by
  simp only [State.servoUpdate, hunset, if_true]

/-- Once NT is acquired an exchange within the step threshold is tracked. -/
theorem servoUpdate_tracks {s : State} (hset : s.time.unset = false) {off : Int} (hhigh : off ≤ s.reg 0x2022 1 * 10)
    (hlow : -(s.reg 0x2022 1 * 10) ≤ off) (del : Int) :
    s.servoUpdate off del = { s.countExchange off del with time := s.time.tracked s.et off (s.regN 0x2022 2) } := by
  have hnear : (decide (s.reg 0x2022 1 * 10 < off) || decide (off < -(s.reg 0x2022 1 * 10))) = false := by
    simpa using And.intro hhigh hlow
  simp only [State.servoUpdate, hset, hnear, Bool.false_eq_true, if_false]

/-- An accepted exchange in its turn moves the servo by its offset and its path delay. -/
theorem ptpExchangeComplete_accepted {s : State} {t2 : Nat} (haccepted : s.exchangeAccepted t2 = true) (hturn : s.turn 8 = true)
    (t1 c1 : Int) (t3 : Nat) (t4 c2 : Int) : exec (.ptpExchangeComplete t1 c1 t2 t3 t4 c2) s = .next (s.servoUpdate
      (exchangeOffset t1 c1 (s.time.ntFine (s.stamps t2 t3).1) (s.time.ntFine (s.stamps t2 t3).2) t4 c2)
      (exchangeDelay t1 c1 (s.time.ntFine (s.stamps t2 t3).1) (s.time.ntFine (s.stamps t2 t3).2) t4 c2)) := by
  simp only [exec, execPtpExchangeComplete, inTurn_in_turn (c := .ptpExchangeComplete t1 c1 t2 t3 t4 c2) _ hturn, haccepted, if_true]

theorem tracked_rho (t : TimeUnit) (et : Tick) (off : Int) (tc : Nat) :
    (t.tracked et off tc).rho = lockedRho (t.tracked et off tc).rhoF off tc := clampInt_lockedRho _ _ _

/-! #### A silent grandmaster (R439, R440) -/

/-- The time unit with another grandmaster selected. -/
def TimeUnit.selecting (t : TimeUnit) (m : Option Announce) (identity : Nat) : TimeUnit :=
  { t with master := m, exchange := none, lastIdentity := identity }

theorem selectMaster_time (s : State) (m : Option Announce) : ∃ identity, (s.selectMaster m).time = s.time.selecting m identity := by
  simp only [State.selectMaster]
  split
  · rw [(Reports_setLeaf _ _ _).time]
    exact ⟨_, rfl⟩
  · exact ⟨_, rfl⟩

/-- A selection reports, besides the time unit, the grandmaster, its port and the count of changes. -/
theorem selectMaster_reports (s : State) (m : Option Announce) : ({ s with time := (s.selectMaster m).time } : State).ReportsWith
    (s.selectMaster m) [regKey 0x2023 2, regKey 0x2023 3, regKey 0x2023 7] := by
  have hset (t : State) (id port : Int) :
      t.ReportsWith ((t.setReg 0x2023 2 id).setReg 0x2023 3 port) [regKey 0x2023 2, regKey 0x2023 3, regKey 0x2023 7] :=
    ReportsWith_trans (ReportsWith_setReg _ _ _ _ (by simp)) (ReportsWith_setReg _ _ _ _ (by simp))
  simp only [State.selectMaster]
  split
  · rw [(Reports_setLeaf _ _ _).time]
    exact ReportsWith_trans (ReportsWith_trans (hset _ _ _) (ReportsWith_bump _ _ _ (by simp)))
      (ReportsWith_of_Reports _ (Reports_setLeaf _ _ _))
  · exact hset _ _ _

/-- The time unit in holdover, the silent grandmaster forgotten; the selection is still to be made. -/
def TimeUnit.held (t : TimeUnit) (et : Tick) : TimeUnit :=
  { t.setRho et t.rhoF with
    servo := .holdover, heard := t.heard.filter (fun b => decide (some b ≠ t.master)), exchange := none }

/-- A timeout is the holdover and the choice of the best grandmaster left, with its leaf. -/
theorem holdTime_eq (s : State) :
    s.holdTime = (({ s with time := s.time.held s.et } : State).selectMaster (bestMaster (s.time.held s.et).heard)).setLeaf 0x2109 1 := rfl

theorem holdTime_time (s : State) :
    ∃ identity, s.holdTime.time = (s.time.held s.et).selecting (bestMaster (s.time.held s.et).heard) identity := by
  rw [holdTime_eq, (Reports_setLeaf _ _ _).time]
  exact selectMaster_time _ _

theorem holdTime_reports (s : State) : ({ s with time := s.holdTime.time } : State).ReportsWith s.holdTime
    [regKey 0x2023 2, regKey 0x2023 3, regKey 0x2023 7] := by
  rw [holdTime_eq, (Reports_setLeaf _ _ _).time]
  exact ReportsWith_trans (selectMaster_reports { s with time := s.time.held s.et } _) (ReportsWith_of_Reports _ (Reports_setLeaf _ _ _))

theorem announceTimeout_holds {s : State} (hmaster : s.time.master.isSome = true) : exec .announceTimeout s = .next s.holdTime := by
  simp only [exec, execAnnounceTimeout, hmaster, if_true]

/-! #### A step (R441) -/

/-- Three tests in a row refuse alike however they are grouped. -/
theorem refusal_assoc (a b c : Option Abort) : orElse (orElse a b) c = orElse a (orElse b c) := by
  cases a <;> rfl

/-- NT stepped by an offset at an ET. -/
def TimeUnit.stepped (t : TimeUnit) (et : Tick) (off : Int) (tc : Nat) : TimeUnit :=
  { t.setRho et (lockedRho t.rhoF 0 tc) with anchorNt := t.nt et - off, servo := .locked, stepEt := some et }

/-- A step by the newest offset: the time unit, the size, the count and the leaf. -/
theorem stepTime_eq {s : State} {off : Int} {e : Tick} (hlast : s.time.last = some (off, e)) : s.stepTime =
    ((({ s with time := s.time.stepped s.et off (s.regN 0x2022 2) } : State).setReg 0x2020 6 (-off)).bump 0x2020 5).setLeaf 0x2109 3 := by
  simp only [State.stepTime, hlast]
  rfl

section
variable {s : State} {off : Int} {e : Tick} (hlast : s.time.last = some (off, e))
include hlast

theorem stepTime_time : s.stepTime.time = s.time.stepped s.et off (s.regN 0x2022 2) := by
  rw [stepTime_eq hlast, (Reports_setLeaf _ _ _).time]
  rfl

theorem stepTime_reports : ({ s with time := s.stepTime.time } : State).ReportsWith s.stepTime [regKey 0x2020 5, regKey 0x2020 6] := by
  rw [stepTime_time hlast, stepTime_eq hlast]
  exact ReportsWith_trans (ReportsWith_trans (ReportsWith_setReg _ _ _ _ (by simp)) (ReportsWith_bump _ _ _ (by simp)))
    (ReportsWith_of_Reports _ (Reports_setLeaf _ _ _))

theorem stepTime_size : s.stepTime.reg 0x2020 6 = -off := by
  rw [stepTime_eq hlast, reg_of_reports (Reports_setLeaf _ _ _) (by decide), reg_bump_other _ (by decide), reg_setReg_self]

theorem stepTime_count : s.stepTime.reg 0x2020 5 = counterNext (regKey 0x2020 5) (s.reg 0x2020 5) 1 := by
  rw [stepTime_eq hlast, reg_of_reports (Reports_setLeaf _ _ _) (by decide), reg_bump_self, reg_setReg_other _ _ (by decide)]
  rfl

/-- An accepted write of STEP_NOW steps: an exchange of the last 2 s is there to step by. -/
theorem stepNow_accepted (hfresh : s.et ≤ e + 1250000000) {p : Path}
    (htakes : s.Takes p (orElse (s.writeGate p 0x2022 4) (numberTest 0x2022 4 (leBytes 1 1)))) :
    exec (.stepNow p 1) s = .next (s.stepTime.answer p 0 []) := by
  have htest : refuseIf (decide (1 = 1) && !s.freshExchange) .conditions = none := by
    simp [refuseIf, State.freshExchange, hlast, hfresh]
  have hboth := takes_orElse htakes htest
  rw [refusal_assoc] at hboth
  exact congrArg Host.Outcome.next (accepted_in_turn hboth (c := .stepNow p 1) (rank_of_path rfl) _ _)

end

/-! #### The conversions (R446) -/

/-- ET_IN, its seconds and its stamp word are stored, and no other number. -/
theorem convertEt_stores (s : State) (v : Nat) : (s.convertEt v).reg 0x2021 1 = v
    ∧ (s.convertEt v).reg 0x2021 2 = ntSeconds (s.time.nt v) ∧ (s.convertEt v).reg 0x2021 3 = s.time.stampWord (s.time.nt v)
    ∧ s.KeepsRegs (s.convertEt v) [regKey 0x2021 1, regKey 0x2021 2, regKey 0x2021 3] := by
  refine ⟨?_, ?_, reg_setReg_self _ _ _ _, ?_⟩
  · rw [State.convertEt, reg_setReg_other _ _ (by decide), reg_setReg_other _ _ (by decide), reg_setReg_self]
  · rw [State.convertEt, reg_setReg_other _ _ (by decide), reg_setReg_self]
  · exact KeepsRegs_trans (KeepsRegs_trans (KeepsRegs_setReg _ _ _ _ (by simp)) (KeepsRegs_setReg _ _ _ _ (by simp)))
      (KeepsRegs_setReg _ _ _ _ (by simp))

/-- The nanoseconds of NT_IN and the ET of the pair are stored, and no other number. -/
theorem convertNt_stores (s : State) (v : Nat) : (s.convertNt v).reg 0x2021 5 = v
    ∧ (s.convertNt v).reg 0x2021 6 = s.time.etOf ((s.reg 0x2021 4 * 1000000000 + v) * 10)
    ∧ s.KeepsRegs (s.convertNt v) [regKey 0x2021 5, regKey 0x2021 6] := by
  refine ⟨?_, reg_setReg_self _ _ _ _, ?_⟩
  · rw [State.convertNt, reg_setReg_other _ _ (by decide), reg_setReg_self]
  · exact KeepsRegs_trans (KeepsRegs_setReg _ _ _ _ (by simp)) (KeepsRegs_setReg _ _ _ _ (by simp))

/-- An accepted write of ET_IN converts it. -/
theorem etIn_accepted {s : State} {p : Path} {v : Nat}
    (htakes : s.Takes p (orElse (s.writeGate p 0x2021 1) (numberTest 0x2021 1 (leBytes 8 v)))) :
    exec (.etIn p v) s = .next ((s.convertEt v).answer p 0 []) :=
  congrArg Host.Outcome.next (accepted_in_turn htakes (c := .etIn p v) (rank_of_path rfl) _ _)

/-- An accepted write of the NT_IN nanoseconds converts the pair. -/
theorem ntInNanoseconds_accepted {s : State} {p : Path} {v : Nat}
    (htakes : s.Takes p (orElse (s.writeGate p 0x2021 5) (numberTest 0x2021 5 (leBytes 4 v)))) :
    exec (.ntInNanoseconds p v) s = .next ((s.convertNt v).answer p 0 []) :=
  congrArg Host.Outcome.next (accepted_in_turn htakes (c := .ntInNanoseconds p v) (rank_of_path rfl) _ _)

/-- Settles O51: a new anchor leaves NT continuous whatever the rate; each command by what it makes of the time unit, above. -/
theorem timeCommandsComplete : Obligations.TimeCommandsComplete := by
  refine ⟨fun s t1 c1 t2 t3 t4 c2 off del haccepted hturn hoff hdel => ?_, fun _ => rfl, fun s hmaster => ?_,
    fun s => ⟨_, rfl, rfl, nt_anchor rfl, rfl⟩, fun s p off e htakes hlast hfresh => ?_, fun s p v htakes => ?_,
    fun s p v htakes => ?_⟩
  · have hexec := ptpExchangeComplete_accepted haccepted hturn t1 c1 t3 t4 c2
    rw [← hoff, ← hdel] at hexec
    refine ⟨fun hunset => ?_, fun hset hhigh hlow => ?_⟩
    · rw [servoUpdate_acquires hunset] at hexec
      exact ⟨_, hexec, rfl, rfl, nt_anchor rfl, countExchange_offset s off del, countExchange_delay s off del,
        countExchange_count s off del, ReportsWith_time (countExchange_reports s off del) _⟩
    · rw [servoUpdate_tracks hset hhigh hlow] at hexec
      exact ⟨_, hexec, rfl, nt_anchor rfl, tracked_rho _ _ _ _, rfl, countExchange_offset s off del,
        countExchange_delay s off del, ReportsWith_time (countExchange_reports s off del) _⟩
  · obtain ⟨identity, htime⟩ := holdTime_time s
    refine ⟨_, announceTimeout_holds hmaster, ?_, ?_, ?_, ?_, ?_, ?_, leafAt_setLeaf_self _ _ _, holdTime_reports s⟩ <;> rw [htime]
    · rfl
    · rfl
    · exact nt_anchor rfl
    · rfl
    · exact fun a ha => of_decide_eq_true (List.mem_filter.1 ha).2
    · rfl
  · have htime := stepTime_time hlast
    refine ⟨_, stepNow_accepted hlast hfresh htakes, ?_, ?_, ?_, stepTime_size hlast, stepTime_count hlast, ?_, answer_last _ _ _ _,
      answered_reports (stepTime_reports hlast) p 0 []⟩
    · exact (congrArg (fun u => u.nt s.et) htime).trans (nt_anchor rfl)
    · exact congrArg TimeUnit.servo htime
    · exact congrArg TimeUnit.stepEt htime
    · exact leafAt_setLeaf_self _ _ _
  · obtain ⟨hin, hseconds, hword, hkeeps⟩ := convertEt_stores s v
    exact ⟨_, etIn_accepted htakes, hin, hseconds, hword, hkeeps, rfl⟩
  · obtain ⟨hin, het, hkeeps⟩ := convertNt_stores s v
    exact ⟨_, ntInNanoseconds_accepted htakes, hin, het, hkeeps, rfl⟩

end Sys2Proof.Machine

/-! ### O53: the messages of the twin link at a SHADOW (R456 to R466, R476) -/

namespace Sys2Proof.Machine

/-! #### The number expected, and the decision that waits -/

theorem counted_next {t : Twin} {seq : Nat} (hnext : t.rxNext = seq) (hbeyond : t.beyond = []) :
    (t.counted seq).rxNext = (seq + 1) % 2 ^ 32 ∧ (t.counted seq).beyond = [] := by
  simp [Twin.counted, hnext, hbeyond, nextNumber]

theorem numbered_expected {s : State} {seq : Nat} (h : s.Expects seq) (f : State → State) : s.numbered seq f = f (s.past seq) := by
  simp only [State.numbered, takeNumber_expected h]

theorem shadowing_expected {s : State} {seq : Nat} (h : s.Expects seq) (f : State → State) : s.shadowing seq f = f (s.past seq) := by
  rw [State.shadowing, numbered_expected h]
  exact if_pos h.role

theorem follow_expected {s : State} {seq : Nat} (h : s.Expects seq) (f : State → State) :
    s.follow seq f = (f (s.past seq)).followDecision :=
  shadowing_expected h _

/-- A number lies below the next one. -/
theorem seqBelow_next {seq : Nat} (h : seq < 2 ^ 32) : seqBelow seq ((seq + 1) % 2 ^ 32) = true := by
  have hahead : seqAhead seq ((seq + 1) % 2 ^ 32) = 1 := by
    unfold seqAhead
    omega
  rw [seqBelow, hahead, Bool.and_eq_true, decide_eq_true_eq]
  exact ⟨by omega, by decide⟩

/-! #### Writes that wait for their decision (R464) -/

theorem applyWrites_of_none {s : State} (h : s.twin.writes = []) : s.applyWrites = s := by
  simp only [State.applyWrites, h, List.takeWhile_nil, List.foldl_nil, List.drop_nil]
  rw [← h]

theorem applyWrites_of_one {s : State} {w : Nat × Nat × Nat × List Byte} (h : s.twin.writes = [w]) : s.applyWrites =
    if s.writeDue w.1 then ({ s with twin := { s.twin with writes := [] } } : State).applyWrite w.2.1 w.2.2.1 w.2.2.2 else s := by
  simp only [State.applyWrites, h, List.takeWhile_cons, List.takeWhile_nil]
  split
  · simp only [List.foldl_cons, List.foldl_nil, List.length_singleton, List.drop_one, List.tail_cons]
  · simp only [List.foldl_nil, List.length_nil, List.drop_zero]
    rw [← h]

/-! #### Decisions (R459) -/

/-- No segment is there to decide, and no write waits. -/
theorem followDecision_waits {s : State} (hwrites : s.twin.writes = []) (hnone : s.nextSubmitted = none) : s.followDecision = s := by
  unfold State.followDecision
  split
  · rfl
  · simp only [applyWrites_of_none hwrites, hnone, ite_self]

/-- The oldest DECISION names the next segment, and every message before it has come. -/
theorem followDecision_decides {s : State} {seq tRef latency : Nat} {g : Segment} {rest : List (Nat × Nat × Tick × Nat)}
    (hdecision : s.twin.decision = (seq, g.seq, tRef, latency) :: rest) (hbefore : seqBelow seq s.twin.rxNext = true)
    (hwrites : s.twin.writes = []) (hnext : s.nextSubmitted = some g) : s.followDecision = s.decideAs g tRef latency := by
  simp only [State.followDecision, hdecision, hbefore, Bool.true_eq_false, if_false, applyWrites_of_none hwrites, hnext, if_true]

theorem decision_kept {s : State} {seq : Nat} (h : s.Expects seq) (hwrites : s.twin.writes = []) (hnone : s.nextSubmitted = none)
    (n tRef latency : Nat) : exec (.decision seq n tRef latency) s = .next { s.past seq with
      twin := { (s.past seq).twin with decision := s.twin.decision ++ [(seq, n, tRef, latency)] } } :=
  congrArg Host.Outcome.next ((follow_expected h _).trans (followDecision_waits hwrites hnone))

theorem decision_decides {s : State} {seq : Nat} (h : s.Expects seq) (hseq : seq < 2 ^ 32) (hwrites : s.twin.writes = []) {g : Segment}
    (hnext : s.nextSubmitted = some g) (hfirst : s.twin.decision = []) (tRef latency : Nat) :
    exec (.decision seq g.seq tRef latency) s = .next
      (({ s.past seq with twin := { (s.past seq).twin with decision := [(seq, g.seq, tRef, latency)] } } : State).decideAs g tRef
        latency) := by
  have hbefore : seqBelow seq (s.past seq).twin.rxNext = true := by
    rw [(counted_next h.next h.beyond).1]
    exact seqBelow_next hseq
  have hkept : exec (.decision seq g.seq tRef latency) s = .next ({ s.past seq with
      twin := { (s.past seq).twin with decision := s.twin.decision ++ [(seq, g.seq, tRef, latency)] } } : State).followDecision :=
    congrArg Host.Outcome.next (follow_expected h _)
  rw [hkept, hfirst, List.nil_append]
  exact congrArg Host.Outcome.next (followDecision_decides (rest := []) rfl hbefore hwrites hnext)

/-- With no own outcome there is nothing to compare. -/
theorem compareOutcome_of_none {s : State} (h : s.twin.ownOutcome = []) : s.compareOutcome = s := by
  simp [State.compareOutcome, Twin.bothOutcomes, h]

/-! #### Orders whose moment has not come (R31, R460, R461) -/

theorem dueOrders_of_none {s : State} (h : ∀ o ∈ s.twin.orders, o.due s.et = none) : s.dueOrders = s := by
  have hdue : s.twin.orders.filterMap (fun o => o.due s.et) = [] := List.filterMap_eq_nil_iff.2 h
  have hkept : s.twin.orders.filter (fun o => (o.due s.et).isNone) = s.twin.orders :=
    List.filter_eq_self.2 fun o ho => by rw [h o ho]; rfl
  rw [State.dueOrders, hdue, hkept, List.foldl_nil]

theorem dueFactors_of_none {s : State} (h : ∀ o ∈ s.twin.orders, o.factorDue s.et = none) : s.dueFactors = s := by
  rw [State.dueFactors, List.filterMap_eq_nil_iff.2 h, List.foldl_nil]

/-- Where no head has a check ahead, none is made. -/
theorem entryChecks_of_none {s : State} (h : ∀ k, k < 32 → (s.head k).path.unpassed = none) (b : Tick) : s.entryChecks b = s := by
  have hdue : (List.range 32).filterMap (s.dueCheck b) = [] :=
    List.filterMap_eq_nil_iff.2 fun k hk => by simp only [State.dueCheck, h k (List.mem_range.1 hk)]
  have hnext : s.nextCheck b = none := by simp only [State.nextCheck, hdue, List.foldl_nil, Option.map_none]
  unfold State.entryChecks
  cases s.checkFuel with
  | zero => rfl
  | succ n => simp only [State.checksRun, hnext]

theorem dueEntries_of_none {s : State} (h : ∀ k, k < 32 → (s.head k).path.unpassed = none) : s.dueEntries = s := by
  simp only [State.dueEntries, entryChecks_of_none h, ite_self]

theorem due_later {request cause at_ et : Nat} (h : et < at_) : (TwinOrder.state request cause at_).due et = none :=
  if_neg (Nat.not_le.2 h)

theorem factorDue_later {id h kind item at_ value et : Nat} (hlater : et < at_) :
    (TwinOrder.plan id h kind item at_ value).factorDue et = none :=
  if_neg fun hdue => Nat.not_le.2 hlater hdue.2

theorem plan_kept {s : State} {seq at_ : Nat} (h : s.Expects seq) (hnone : ∀ o ∈ s.twin.orders, o.factorDue s.et = none)
    (hlater : s.et < at_) (hpassed : ∀ k, k < 32 → (s.head k).path.unpassed = none) (id k kind item value : Nat) :
    exec (.plan seq id k kind item at_ value) s = .next
      ({ s.past seq with twin := { (s.past seq).twin with
        orders := s.twin.orders ++ [TwinOrder.plan id k kind item at_ value] } } : State).followDecision := by
  refine congrArg Host.Outcome.next ((follow_expected h _).trans (congrArg State.followDecision ?_))
  rw [dueFactors_of_none ?_]
  · exact dueEntries_of_none hpassed
  · exact List.forall_mem_append.2 ⟨hnone, List.forall_mem_singleton.2 (factorDue_later hlater)⟩

theorem stateMessage_kept {s : State} {seq at_ : Nat} (h : s.Expects seq) (hlater : s.et < at_)
    (hnone : ∀ o ∈ s.twin.orders, o.due s.et = none) (request cause : Nat) : exec (.stateMessage seq request cause at_) s = .next
      ({ s.past seq with twin := { (s.past seq).twin with
        orders := s.twin.orders ++ [TwinOrder.state request cause at_] } } : State).followDecision :=
  congrArg Host.Outcome.next ((follow_expected h _).trans (congrArg State.followDecision
    (dueOrders_of_none (List.forall_mem_append.2 ⟨hnone, List.forall_mem_singleton.2 (due_later hlater)⟩))))

/-- A WRITE with no other before it is applied, or waits. -/
theorem twinWrite_first {s : State} {seq : Nat} (h : s.Expects seq) (hwrites : s.twin.writes = []) (before index sub : Nat)
    (data : List Byte) : exec (.twinWrite seq before index sub data) s = .next (if s.writeDue before then
        (s.past seq).applyWrite index sub data
      else { s.past seq with twin := { (s.past seq).twin with writes := [(before, index, sub, data)] } }).followDecision := by
  have hexec : exec (.twinWrite seq before index sub data) s = .next (({ s.past seq with
      twin := { (s.past seq).twin with writes := s.twin.writes ++ [(before, index, sub, data)] } } : State).applyWrites).followDecision :=
    congrArg Host.Outcome.next (follow_expected h _)
  have hsame : ({ s.past seq with twin := { (s.past seq).twin with writes := [] } } : State) = s.past seq := by rw [← hwrites]; rfl
  rw [hexec, hwrites, List.nil_append, applyWrites_of_one rfl, ← hsame]
  rfl

/-! #### CUT (R461) -/

/-- A segment's promise can still break, or has broken with a cause. -/
def State.breaksWith (s : State) (key cause : Nat) : Prop :=
  ∃ y, s.seg? key = some y ∧ (y.mayBreak = true ∨ y.broke = some cause)

theorem breaksWith_of_job {s t : State} {key cause : Nat} (h : s.breaksWith key cause) (hjob : t.job = s.job) : t.breaksWith key cause := by
  simpa only [State.breaksWith, seg?_of_job hjob] using h

/-- An update that leaves the state and the break of every segment. -/
theorem breaksWith_onSeg {s : State} {key cause : Nat} (h : s.breaksWith key cause) (k : Nat) {f : Segment → Segment}
    (hkey : ∀ y, (f y).key = y.key) (hstate : ∀ y, (f y).state = y.state) (hbroke : ∀ y, (f y).broke = y.broke) :
    (s.onSeg k f).breaksWith key cause := by
  obtain ⟨y, hy, hbreaks⟩ := h
  by_cases hk : key = k
  · subst hk
    refine ⟨f y, by rw [seg?_onSeg_self s key hkey, hy]; rfl, ?_⟩
    simpa only [Segment.mayBreak, hstate, hbroke] using hbreaks
  · exact ⟨y, (seg?_onSeg_other s hk hkey).trans hy, hbreaks⟩

theorem breaksWith_bookDark {s : State} {key cause : Nat} (h : s.breaksWith key cause) (k : HeadNo) (slots : List SentSlot) :
    (s.bookDark k slots).breaksWith key cause :=
  foldl_preserves (P := fun t => t.breaksWith key cause) (fun _ _ ht => foldl_preserves (P := fun t => t.breaksWith key cause)
    (fun u b hu => breaksWith_onSeg (s := u) hu b.seg (f := fun g => g.onPart k (fun p =>
      { p with books := p.books.modify b.beam (fun x => x.plus (Tally.dark b.energy)) }))
      (fun _ => rfl) (fun _ => rfl) (fun _ => rfl)) _ ht) _ h

/-- With cancellation after a break off, a break reports beside the job. -/
theorem breakPromise_besideJob {s : State} (hoff : s.reg 0x3010 10 = 0) (key cause head item detail : Nat) :
    s.ReportsBesideJob (s.breakPromise key cause head item detail) [regKey 0x3012 8] := by
  have hrefl : s.ReportsBesideJob s [regKey 0x3012 8] := besideJob_of_ReportsWith (ReportsWith_refl _ _)
  cases hg : s.seg? key with
  | none => simpa only [State.breakPromise, hg] using hrefl
  | some g =>
    by_cases hmay : g.mayBreak = true
    · rw [breakPromise_alone hg hmay hoff]
      exact recordBreak_besideJob s g cause head item detail
    · simpa only [State.breakPromise, hg, if_neg hmay] using hrefl

/-- A break of any promise leaves a segment that breaks with the same cause so. -/
theorem breaksWith_breakPromise {s : State} {k cause : Nat} (h : s.breaksWith k cause) (hoff : s.reg 0x3010 10 = 0)
    (key head item detail : Nat) : (s.breakPromise key cause head item detail).breaksWith k cause := by
  cases hg : s.seg? key with
  | none => simpa only [State.breakPromise, hg] using h
  | some g =>
    by_cases hmay : g.mayBreak = true
    · rw [breakPromise_alone hg hmay hoff]
      have hkey := key_of_seg? hg
      by_cases hk : k = g.key
      · subst hk
        exact ⟨_, recordBreak_seg?_self s g cause head item detail (hkey ▸ hg), .inr rfl⟩
      · obtain ⟨y, hy, hbreaks⟩ := h
        exact ⟨y, (recordBreak_seg?_other s g cause head item detail hk).trans hy, hbreaks⟩
    · simpa only [State.breakPromise, hg, if_neg hmay] using h

/-- The break of its own promise. -/
theorem breakPromise_broke {s : State} {key cause : Nat} (h : s.breaksWith key cause) (hoff : s.reg 0x3010 10 = 0)
    (head item detail : Nat) : ((s.breakPromise key cause head item detail).seg? key).map (fun x => x.broke) = some (some cause) := by
  obtain ⟨g, hg, hbreaks⟩ := h
  by_cases hmay : g.mayBreak = true
  · have hkey := key_of_seg? hg
    rw [breakPromise_alone hg hmay hoff]
    subst hkey
    rw [recordBreak_seg?_self s g cause head item detail hg]
    rfl
  · simp [State.breakPromise, hg, hmay, hbreaks.resolve_left hmay]

theorem besideJob_mono {s t : State} {ks ls : List Nat} (h : s.ReportsBesideJob t ks) (hs : ks ⊆ ls) : s.ReportsBesideJob t ls :=
  ReportsWith_mono h hs

theorem besideJob_drawn {s t : State} {ks : List Nat} (h : s.ReportsBesideJob t ks) : s.drawn.ReportsBesideJob t.drawn ks :=
  { h with fresh := congrArg (· + 1) h.fresh }

theorem sendCut_besideJob (s : State) (key h cause mask : Nat) (onset : Tick) (ks : List Nat) :
    s.ReportsBesideJob (s.sendCut key h cause mask onset) ks := by
  unfold State.sendCut
  split
  · exact besideJob_trans (besideJob_onSeg s key _ ks) (besideJob_of_ReportsWith (ReportsWith_of_Reports _ (Reports_twinLead _ _ _)))
  · exact besideJob_of_ReportsWith (ReportsWith_refl s ks)

theorem breaksWith_sendCut {s : State} {k cause : Nat} (h : s.breaksWith k cause) (key head c mask : Nat) (onset : Tick) :
    (s.sendCut key head c mask onset).breaksWith k cause := by
  unfold State.sendCut
  split
  · refine breaksWith_of_job (breaksWith_onSeg h key (by intro; rfl) (by intro; rfl) (by intro; rfl)) rfl
  · exact h

/-- What a cut moves among the slots sent and in the books leaves the other heads and the path of its own. -/
theorem head_cutSent_self {s : State} {h : HeadNo} (hh : h < s.heads.length) (key mask : Nat) (onset : Tick) :
    ((s.cutSent key h mask onset).head h).path = (s.head h).path
      ∧ ((s.cutSent key h mask onset).head h).link.clears = (s.head h).link.clears ||| mask := by
  have hbooked (slots : List SentSlot) : (s.bookDark h slots).head h = s.head h := head_of_heads (by simp) h
  unfold State.cutSent State.onLink
  dsimp only
  rw [head_onHead_self (by simpa using hh), hbooked]
  exact ⟨rfl, rfl⟩

theorem head_cutSent_other (s : State) {h k : HeadNo} (hk : k ≠ h) (key mask : Nat) (onset : Tick) :
    (s.cutSent key h mask onset).head k = s.head k :=
  (head_onHead_other hk _).trans (head_of_heads (by simp) k)

theorem breaksWith_cutSent {s : State} {key cause : Nat} (h : s.breaksWith key cause) (seg : Nat) (k : HeadNo) (mask : Nat)
    (onset : Tick) : (s.cutSent seg k mask onset).breaksWith key cause :=
  breaksWith_of_job (breaksWith_bookDark h k _) rfl

/-- A cut up to the breaks of promises: the slots sent, and the suppression put in force on its head. -/
def State.cutPlaced (s : State) (key h mask : Nat) (onset : Tick) (u : Suppression) : State :=
  (s.cutSent key h mask onset).onPath h (fun p => { p with suppressed := p.suppressed ++ [u] })

theorem head_cutPlaced_self {s : State} {h : HeadNo} (hh : h < s.heads.length) (key mask : Nat) (onset : Tick) (u : Suppression) :
    ((s.cutPlaced key h mask onset u).head h).path.suppressed = (s.head h).path.suppressed ++ [u]
      ∧ ((s.cutPlaced key h mask onset u).head h).link.clears = (s.head h).link.clears ||| mask := by
  obtain ⟨hpath, hclears⟩ := head_cutSent_self hh key mask onset
  have hin : h < (s.cutSent key h mask onset).heads.length := by simpa [State.cutSent, State.onLink] using hh
  rw [State.cutPlaced, State.onPath, head_onHead_self hin]
  exact ⟨congrArg (fun x : HeadPath => x.suppressed ++ [u]) hpath, hclears⟩

theorem head_cutPlaced_other (s : State) {h k : HeadNo} (hk : k ≠ h) (key mask : Nat) (onset : Tick) (u : Suppression) :
    (s.cutPlaced key h mask onset u).head k = s.head k :=
  (head_onPath_other hk _).trans (head_cutSent_other s hk key mask onset)

theorem cutPlaced_frame (s : State) (key h mask : Nat) (onset : Tick) (u : Suppression) :
    (s.cutPlaced key h mask onset u).dev = s.dev ∧ (s.cutPlaced key h mask onset u).regs = s.regs
      ∧ (s.cutPlaced key h mask onset u).fresh = s.fresh := by
  simp [State.cutPlaced, State.cutSent, State.onPath, State.onLink, State.onHead]

/-- A fresh head plans nothing. -/
theorem in_range_of_scopeEnergy {s : State} {h : HeadNo} {w : Nat × Nat} {stretch : Option Nat}
    (hne : (s.head h).path.scopeEnergy w stretch ≠ 0) : h < s.heads.length :=
  head_in_range fun e => hne (by rw [e]; rfl)

/-- The suppression of work with energy left is put in force after the slots sent. -/
theorem suppressWork_cutSent {s : State} {h : HeadNo} {w : Nat × Nat} {stretch : Option Nat}
    (henergy : (s.head h).path.scopeEnergy w stretch ≠ 0) (key mask : Nat) (onset : Tick) (cause detail : Nat) :
    (s.cutSent key h mask onset).suppressWork h w stretch cause detail
      = (s.cutPlaced key h mask onset ⟨w.1, w.2, stretch, cause, detail⟩).breakPromise w.1 cause h w.2 detail := by
  rw [State.suppressWork, (head_cutSent_self (in_range_of_scopeEnergy henergy) key mask onset).1, if_neg henergy]
  rfl

/-- A cut for overspeed is counted with its leaf (R461). -/
def State.countedCut (s : State) (h cause : Nat) : State :=
  if cause = 0x05 then (s.bump (0x4260 + h) 5).setLeaf (0x2420 + h) 2 else s

theorem countedCut_reports (s : State) (h cause : Nat) : s.ReportsWith (s.countedCut h cause) [regKey (0x4260 + h) 5] := by
  unfold State.countedCut
  split
  · exact ReportsWith_trans (ReportsWith_bump _ _ _ List.mem_cons_self) (ReportsWith_of_Reports _ (Reports_setLeaf _ _ _))
  · exact ReportsWith_refl _ _

/-- A cut before the break of its segment: placed, the work it concerns broken, its order kept, and counted. -/
def State.cutOrdered (s : State) (key h cause mask : Nat) (onset : Tick) (w : Nat × Nat × Option Nat) : State :=
  ((((s.cutPlaced key h mask onset ⟨w.1, w.2.1, w.2.2, cause, s.freeDetail⟩).breakPromise w.1 cause h w.2.1 s.freeDetail).drawn.sendCut
    key h cause mask onset).countedCut h cause)

theorem applyCut_eq {s : State} {g : Segment} {h cause mask : Nat} {onset : Tick} {w : Nat × Nat × Option Nat}
    (hw : w = ((s.head h).path.cutScope cause mask onset).getD (g.key, 0xFFFF, none))
    (henergy : (s.head h).path.scopeEnergy (w.1, w.2.1) w.2.2 ≠ 0) : s.applyCut g h cause mask onset
      = (s.cutOrdered g.key h cause mask onset w).breakPromise g.key cause h w.2.1 s.freeDetail := by
  unfold State.applyCut
  rw [← hw]
  dsimp only
  rw [suppressWork_cutSent henergy]
  rfl

section
variable {s : State} (hoff : s.reg 0x3010 10 = 0) (key h cause mask : Nat) (onset : Tick) (w : Nat × Nat × Option Nat)
include hoff

theorem cutPlaced_off (u : Suppression) : (s.cutPlaced key h mask onset u).reg 0x3010 10 = 0 := by
  obtain ⟨-, hregs, -⟩ := cutPlaced_frame s key h mask onset u
  exact (reg_of_regs hregs 0x3010 10).trans hoff

theorem cutOrdered_besideJob :
    (s.cutPlaced key h mask onset ⟨w.1, w.2.1, w.2.2, cause, s.freeDetail⟩).drawn.ReportsBesideJob
      (s.cutOrdered key h cause mask onset w) [regKey 0x3012 8, regKey (0x4260 + h) 5] := by
  have hoffPlaced := cutPlaced_off hoff key h mask onset ⟨w.1, w.2.1, w.2.2, cause, s.freeDetail⟩
  have hbreak := besideJob_drawn (breakPromise_besideJob hoffPlaced w.1 cause h w.2.1 s.freeDetail)
  exact besideJob_trans (besideJob_mono hbreak (by simp)) (besideJob_trans (sendCut_besideJob _ _ _ _ _ _ _)
    (besideJob_mono (besideJob_of_ReportsWith (countedCut_reports _ h cause)) (by simp)))

theorem cutOrdered_off : (s.cutOrdered key h cause mask onset w).reg 0x3010 10 = 0 := by
  refine ((cutOrdered_besideJob hoff key h cause mask onset w).regs (regKey 0x3010 10) ?_).trans
    (cutPlaced_off hoff key h mask onset ⟨w.1, w.2.1, w.2.2, cause, s.freeDetail⟩)
  simp only [regKey, List.mem_cons, List.not_mem_nil, or_false]
  omega

theorem breaksWith_cutOrdered {k : Nat} (hbreaks : s.breaksWith k cause) :
    (s.cutOrdered key h cause mask onset w).breaksWith k cause := by
  have hplaced : (s.cutPlaced key h mask onset ⟨w.1, w.2.1, w.2.2, cause, s.freeDetail⟩).breaksWith k cause :=
    breaksWith_of_job (breaksWith_cutSent hbreaks key h mask onset) rfl
  have hbroken := breaksWith_breakPromise hplaced (cutPlaced_off hoff key h mask onset _) w.1 h w.2.1 s.freeDetail
  exact breaksWith_of_job (breaksWith_sendCut (breaksWith_of_job hbroken (t := State.drawn _) rfl) key h cause mask onset)
    (countedCut_reports _ h cause).job

end

/-- A cut of work with energy left only reports beside the job after it is placed, and the promise of its segment breaks. -/
theorem applyCut_outcome {s : State} {g : Segment} {h cause mask : Nat} {onset : Tick} {w : Nat × Nat × Option Nat}
    (hbreaks : s.breaksWith g.key cause) (hoff : s.reg 0x3010 10 = 0)
    (hw : w = ((s.head h).path.cutScope cause mask onset).getD (g.key, 0xFFFF, none))
    (henergy : (s.head h).path.scopeEnergy (w.1, w.2.1) w.2.2 ≠ 0) :
    (s.cutPlaced g.key h mask onset ⟨w.1, w.2.1, w.2.2, cause, s.freeDetail⟩).drawn.ReportsBesideJob (s.applyCut g h cause mask onset)
        [regKey 0x3012 8, regKey (0x4260 + h) 5]
      ∧ ((s.applyCut g h cause mask onset).seg? g.key).map (fun x => x.broke) = some (some cause) := by
  have hoffOrdered := cutOrdered_off hoff g.key h cause mask onset w
  rw [applyCut_eq hw henergy]
  exact ⟨besideJob_trans (cutOrdered_besideJob hoff g.key h cause mask onset w)
      (besideJob_mono (breakPromise_besideJob hoffOrdered _ _ _ _ _) (by simp)),
    breakPromise_broke (breaksWith_cutOrdered hoff g.key h cause mask onset w hbreaks) hoffOrdered _ _ _⟩

/-- A CUT with the number expected. -/
theorem cut_applied {s : State} {seq id : Nat} {g : Segment} (hexpects : s.Expects seq) (hid : s.unfinishedBy id = some g)
    (h cause mask onset : Nat) : exec (.cut seq id h cause mask onset) s = .next ((s.past seq).applyCut g h cause mask onset).followDecision := by
  have hfound : (s.past seq).unfinishedBy id = some g := hid
  refine congrArg Host.Outcome.next ((follow_expected hexpects _).trans (congrArg State.followDecision ?_))
  simp only [hfound]

theorem cut_takes_effect {s : State} {seq id h cause mask onset : Nat} {g : Segment} {w : Nat × Nat × Option Nat}
    (hexpects : s.Expects seq) (hid : s.unfinishedBy id = some g) (hg : s.seg? g.key = some g) (hoff : s.reg 0x3010 10 = 0)
    (hmay : g.mayBreak = true) (hw : w = ((s.head h).path.cutScope cause mask onset).getD (g.key, 0xFFFF, none))
    (henergy : (s.head h).path.scopeEnergy (w.1, w.2.1) w.2.2 ≠ 0) :
    ∃ u : State, exec (.cut seq id h cause mask onset) s = .next u.followDecision
      ∧ (u.head h).path.suppressed = (s.head h).path.suppressed ++ [⟨w.1, w.2.1, w.2.2, cause, s.freeDetail⟩]
      ∧ (u.head h).link.clears = (s.head h).link.clears ||| mask ∧ (u.seg? g.key).map (fun x => x.broke) = some (some cause)
      ∧ (∀ k, k ≠ h → u.head k = s.head k) ∧ u.dev = s.dev ∧ u.fresh = s.fresh + 1 := by
  obtain ⟨hbeside, hbroke⟩ := applyCut_outcome (s := s.past seq) (cause := cause) ⟨g, hg, .inl hmay⟩ hoff hw henergy
  obtain ⟨hsuppressed, hclears⟩ := head_cutPlaced_self (s := s.past seq) (in_range_of_scopeEnergy henergy) g.key mask onset
    ⟨w.1, w.2.1, w.2.2, cause, s.freeDetail⟩
  obtain ⟨hdev, -, hfresh⟩ := cutPlaced_frame (s.past seq) g.key h mask onset ⟨w.1, w.2.1, w.2.2, cause, s.freeDetail⟩
  refine ⟨_, cut_applied hexpects hid h cause mask onset, ?_, ?_, hbroke, fun k hk => ?_, hbeside.dev.trans hdev,
    hbeside.fresh.trans (congrArg (· + 1) hfresh)⟩
  · rw [head_of_heads hbeside.heads]
    exact hsuppressed
  · rw [head_of_heads hbeside.heads]
    exact hclears
  · rw [head_of_heads hbeside.heads]
    exact head_cutPlaced_other (s.past seq) hk g.key mask onset _

/-! #### JOB_COPY (R463) and HOST_COPY (R465) -/

/-- An acknowledgement without SACK on a session with nothing waiting frees kept frames and copies, and changes nothing else. -/
theorem acked_quiet {s : State} {n a : Nat} (hopen : s.openRing n = true) (hwait : (s.session n).backlog = []) :
    ∃ l copies, s.acked n a 0 = { s.setSession n { s.session n with unacked := l } with
      twin := { s.twin with hostCopies := copies } } := by
  by_cases hahead : seqAhead a (s.session n).txSeq ≤ 64
  · have hself := session_setSession_self (in_range_of_openRing hopen) ((s.session n).acked a)
    have hempty (copies : List TreyxFrame) : (({ s.setSession n ((s.session n).acked a) with
        twin := { s.twin with hostCopies := copies } } : State).session n).backlog = [] := (congrArg Session.backlog hself).trans hwait
    refine ⟨((s.session n).acked a).unacked, if ((s.session n).acked a).job then
      s.twin.hostCopies.filter (fun f => !seqBelow f.seq a) else s.twin.hostCopies, ?_⟩
    simp only [State.acked, hopen, hahead, and_self, if_true, ne_eq, not_true_eq_false, decide_false, Bool.false_and,
      Bool.false_eq_true, if_false]
    split
    · exact drain_empty (hempty _)
    · exact drain_empty (hempty s.twin.hostCopies)
  · refine ⟨(s.session n).unacked, s.twin.hostCopies, ?_⟩
    rw [State.acked, if_neg (fun h => hahead h.2)]
    exact (setSession_self s n).symm

/-- A frame beyond a gap, within the window, is held. -/
theorem reliableFrame_held {s : State} {n : Nat} {f : TreyxFrame} (hnew : (s.session n).hasFrame f.seq = false)
    (hgap : 0 < seqAhead (s.session n).rxNext f.seq) (hnear : seqAhead (s.session n).rxNext f.seq < 64) (alone : Bool) :
    s.reliableFrame n f alone
      = s.setSession n { s.session n with held := (s.session n).held ++ [⟨f, alone⟩], ackOwed := true } := by
  simp only [State.reliableFrame, hnew, Bool.false_eq_true, if_false, if_neg (Nat.not_le.2 hnear), if_neg (Nat.ne_of_gt hgap)]

/-- A reliable frame copied beyond a gap of the job session. -/
theorem takeCopy_held {s : State} {f : TreyxFrame} (hopen : s.openRing f.session = true) (hjob : (s.session f.session).job = true)
    (hwait : (s.session f.session).backlog = []) (hkind : f.kind ≠ 1) (hform : reliableKind f.kind = true) (hreliable : f.reliable = true)
    (hsack : f.sack = 0) (hnew : (s.session f.session).hasFrame f.seq = false)
    (hgap : 0 < seqAhead (s.session f.session).rxNext f.seq) (hnear : seqAhead (s.session f.session).rxNext f.seq < 64) :
    ∃ x copies, s.takeCopy f = { s.setSession f.session x with twin := { s.twin with hostCopies := copies } }
      ∧ x.held = (s.session f.session).held ++ [⟨f, false⟩] ∧ x.ackOwed = true ∧ x.rxNext = (s.session f.session).rxNext := by
  obtain ⟨l, copies, hacked⟩ := acked_quiet (a := f.ack) hopen hwait
  have hself : ((s.acked f.session f.ack 0).session f.session) = { s.session f.session with unacked := l } := by
    rw [hacked]
    exact session_setSession_self (in_range_of_openRing hopen) _
  have hstill : (s.acked f.session f.ack 0).openRing f.session = true := by
    rw [State.openRing, hself]
    exact hopen
  have htake : s.takeCopy f = (s.acked f.session f.ack 0).reliableFrame f.session f false := by
    simp only [State.takeCopy, if_neg hkind, hopen, hjob, hreliable, hnew, State.sessionFrame, hsack, hstill, hform, and_self, if_true,
      Bool.false_eq_true, Bool.true_eq_false, and_false, if_false]
  refine ⟨{ s.session f.session with unacked := l, held := (s.session f.session).held ++ [⟨f, false⟩], ackOwed := true }, copies, ?_,
    rfl, rfl, rfl⟩
  rw [htake, reliableFrame_held (by rw [hself]; exact hnew) (by rw [hself]; exact hgap) (by rw [hself]; exact hnear), hself, hacked]
  simp only [State.setSession, List.set_set]

theorem jobCopy_held {s : State} {seq : Nat} {f : TreyxFrame} {frame : List Byte} (h : s.Expects seq) (hframe : frameOf frame = f)
    (hopen : s.openRing f.session = true) (hjob : (s.session f.session).job = true)
    (hwait : (s.session f.session).backlog = []) (hkind : f.kind ≠ 1) (hform : reliableKind f.kind = true) (hreliable : f.reliable = true)
    (hsack : f.sack = 0) (hnew : (s.session f.session).hasFrame f.seq = false)
    (hgap : 0 < seqAhead (s.session f.session).rxNext f.seq) (hnear : seqAhead (s.session f.session).rxNext f.seq < 64) :
    ∃ t, exec (.jobCopy seq frame) s = .next t
      ∧ (t.session f.session).held = (s.session f.session).held ++ [⟨f, false⟩] ∧ (t.session f.session).ackOwed = true
      ∧ (t.session f.session).rxNext = (s.session f.session).rxNext ∧ t.job = s.job ∧ t.dev = s.dev ∧ t.regs = s.regs := by
  obtain ⟨x, copies, htake, hheld, howed, hrx⟩ := takeCopy_held (s := s.past seq) hopen hjob hwait hkind hform hreliable hsack hnew hgap hnear
  have hexec : exec (.jobCopy seq frame) s = .next ((s.past seq).takeCopy f) := by
    rw [← hframe]
    exact congrArg Host.Outcome.next (shadowing_expected h _)
  have hself : (((s.past seq).takeCopy f).session f.session) = x := by
    rw [htake]
    exact session_setSession_self (s := s.past seq) (in_range_of_openRing hopen) x
  rw [← hself] at hheld howed hrx
  refine ⟨_, hexec, hheld, howed, hrx, ?_, ?_, ?_⟩ <;> rw [htake] <;> rfl

theorem hostCopy_kept {s : State} {seq n : Nat} (h : s.Expects seq) (hjob : s.jobSession = some n) {frame : List Byte}
    (hkind : (frameOf frame).kind ≠ 3) : exec (.hostCopy seq frame) s = .next ({ s.past seq with
      sessions := s.sessions.set n { s.session n with txSeq := ((frameOf frame).seq + 1) % 2 ^ 32 }
      twin := { (s.past seq).twin with hostCopies := s.twin.hostCopies ++ [frameOf frame] } } : State).followDecision := by
  have hsession : (s.past seq).jobSession = some n := hjob
  refine congrArg Host.Outcome.next ((follow_expected h _).trans (congrArg State.followDecision ?_))
  simp only [State.holdCopy, hsession, if_neg hkind]
  rfl

/-! #### DIGEST (R476), LEDGER (R456), OUTCOME (R459) and MOTION (R466) -/

theorem outcome_kept {s : State} {seq : Nat} (h : s.Expects seq) (hnone : s.twin.ownOutcome = []) (n id code promise : Nat) :
    exec (.outcome seq n id code promise) s = .next ({ s.past seq with
      twin := { (s.past seq).twin with outcome := s.twin.outcome ++ [(n, id, code, promise)] } } : State).followDecision :=
  congrArg Host.Outcome.next ((follow_expected h _).trans (congrArg State.followDecision (compareOutcome_of_none hnone)))

/-- With no own digest of a segment there is nothing to compare. -/
theorem compareDigest_of_none {s : State} {id : Nat} (h : storeGet id s.twin.digests = none) : s.compareDigest id = s := by
  simp only [State.compareDigest, h]

theorem digest_kept {s : State} {seq id : Nat} (h : s.Expects seq) (hnone : storeGet id s.twin.digests = none) (value : Nat) :
    exec (.digest seq id value) s = .next
      { s.past seq with twin := { (s.past seq).twin with partnerDigests := storePut id value s.twin.partnerDigests } } :=
  congrArg Host.Outcome.next ((numbered_expected h _).trans (compareDigest_of_none hnone))

/-- A LEDGER of one row for an unfinished segment takes the place of the row before, at the end. -/
theorem ledger_kept {s : State} {seq et id channel : Nat} {planned correction delivered withheld : Int} {g : Segment} (h : s.Expects seq)
    (hid : s.unfinishedBy id = some g) :
    exec (.ledger seq et [id] [channel] [planned] [correction] [delivered] [withheld]) s = .next ({ s.past seq with
      twin := { (s.past seq).twin with ledger := s.twin.ledger.filter (fun r => !(r.seg == id && r.channel == channel))
        ++ [⟨et, id, channel, ⟨planned, correction, delivered, withheld⟩, g.bookOf channel⟩] } } : State).followDecision := by
  have hfound : (s.past seq).unfinishedBy id = some g := hid
  have hexec : exec (.ledger seq et [id] [channel] [planned] [correction] [delivered] [withheld]) s
      = .next ((s.past seq).keepLedger et id channel ⟨planned, correction, delivered, withheld⟩).followDecision :=
    congrArg Host.Outcome.next (follow_expected h _)
  rw [hexec]
  simp only [State.keepLedger, hfound]
  rfl

/-- A layer with nothing below it to cancel. -/
theorem motion_taken {s : State} {seq layer : Nat} (h : s.Expects seq) (hother : s.runsMotion = false)
    (hnone : ∀ g ∈ s.job.segments, g.layer < layer → g.state ≠ .admitted ∧ g.state ≠ .staged) (count : Int) :
    exec (.motion seq count layer) s = .next
      { s.past seq with twin := { (s.past seq).twin with motionCount := count, motionLayer := some layer } } := by
  have hstill : (s.past seq).runsMotion = false := hother
  refine congrArg Host.Outcome.next ((numbered_expected h _).trans ?_)
  simp only [hstill, Bool.false_eq_true, if_false, State.takeMotion]
  split
  · rfl
  · exact cancelBelow_of_none hnone

/-- Settles O53: each message acts on the state with its number counted, and where a decision may wait for it, that decision follows. -/
theorem twinMessagesComplete : Obligations.TwinMessagesComplete := by
  refine ⟨fun s seq h _ => counted_next h.next h.beyond,
    fun s seq n tRef latency h hwrites => ⟨fun hnone => decision_kept h hwrites hnone n tRef latency,
      fun g hnext hn hfirst hseq => ?_⟩,
    fun s seq n id code promise h hnone => outcome_kept h hnone n id code promise,
    fun s seq id k kind item at_ value h hnone hlater hpassed => plan_kept h hnone hlater hpassed id k kind item value,
    fun s seq request cause at_ h hlater hnone => stateMessage_kept h hlater hnone request cause,
    fun s seq before index sub data h hwrites => ⟨fun hdue => ?_, fun hwaits => ?_⟩,
    fun s seq id k cause mask onset g w h hid hg hoff hmay hw henergy => cut_takes_effect h hid hg hoff hmay hw henergy,
    fun s seq frame n h hn hopen _ hjob hwait hkind _ hform hreliable hsack hnew hgap hnear => ?_,
    fun s seq frame n h hjob hkind => hostCopy_kept h hjob hkind,
    fun s seq id value h hnone => digest_kept h hnone value,
    fun s seq et id channel planned correction delivered withheld g h hid => ?_,
    fun s seq count layer h hother hnone => motion_taken h hother hnone count⟩
  · subst hn
    exact decision_decides h hseq hwrites hnext hfirst tRef latency
  · rw [twinWrite_first h hwrites, if_pos hdue]
  · rw [twinWrite_first h hwrites, if_neg (by rw [hwaits]; decide)]
  · subst hn
    exact jobCopy_held h rfl hopen hjob hwait hkind hform hreliable hsack hnew hgap hnear
  · refine ⟨_, ledger_kept h hid, List.getLast?_concat, fun r hr => ?_, rfl⟩
    rw [List.dropLast_concat] at hr
    obtain ⟨hmem, hother⟩ := List.mem_filter.1 hr
    exact ⟨fun hboth => by simp [hboth.1, hboth.2] at hother, hmem⟩

end Sys2Proof.Machine

/-! ### O54: forming, joining and leaving a pair (R451 to R454, R458, R469, R470, R472, R477, R560) -/

namespace Sys2Proof.Machine

/-! #### The twin link gains and loses block lock -/

/-- The state at block lock of the twin link, before the pairing: the partner's NEGOTIATE kept, both directions numbered from 1. -/
def State.negotiated (s : State) (n : Negotiate) (role delay sendEt : Nat) : State :=
  { s with twin := s.twin.locked n ((s.twinVersion n).getD 0) role delay (s.offsetOf delay sendEt) }

/-- With twin operation enabled the own NEGOTIATE goes out as well. -/
def State.negotiating (s : State) (n : Negotiate) (role delay sendEt : Nat) : State :=
  { s.negotiated n role delay sendEt with
    out := s.out ++ [twinOut 0x0F 0 (s.negotiated n role delay sendEt).negotiateFields] }

section
variable {s : State} (hoff : s.dev.state ≠ .off) (haux : s.dev.state ≠ .aux) (n : Negotiate) (role : Nat) (trips : List Nat) (sendEt : Nat)
include hoff haux

/-- Without twin operation the lock is all. -/
theorem twinLinkBlockLock_alone (henable : s.reg 0xD000 1 ≠ 1) :
    exec (.twinLinkBlockLock n.versionMax n.versionMin n.systemFirmware n.microcode n.digest n.rank n.serial role trips sendEt) s
      = .next ((s.negotiated n role (delayOfTrips trips) sendEt).sourceLocked 3) := by
  simp only [exec, execTwinLinkBlockLock, hoff, haux, henable, or_self, if_false]
  rfl

/-- With twin operation the pairing runs. -/
theorem twinLinkBlockLock_pairs (henable : s.reg 0xD000 1 = 1) :
    exec (.twinLinkBlockLock n.versionMax n.versionMin n.systemFirmware n.microcode n.digest n.rank n.serial role trips sendEt) s
      = .next ((s.negotiating n role (delayOfTrips trips) sendEt).pair.sourceLocked 3) := by
  simp only [exec, execTwinLinkBlockLock, hoff, haux, henable, or_self, if_false, if_true]
  rfl

end

/-- A controller without a role meets on a locked link a partner of another rank that leads no pair. -/
structure State.MeetsPartner (s : State) (n : Negotiate) : Prop where
  partner : s.twin.partner = some n
  role : s.twin.role = .solo
  lock : s.twin.linkLock = true
  ranks : n.rank ≠ s.regN 0xD000 2
  follows : s.twin.partnerRole ≠ .primary

/-- Rank 0 leads. -/
theorem pair_leads {s : State} {n : Negotiate} (h : s.MeetsPartner n) (hrank : s.reg 0xD000 2 = 0) : s.pair = s.takeRole .primary := by
  simp only [State.pair, h.partner, h.role, h.lock, h.ranks, h.follows, hrank, ne_eq, not_true_eq_false, Bool.true_eq_false, or_self,
    if_false, if_true]

/-- Rank 1 follows where nothing stands against the pair. -/
theorem pair_follows {s : State} {n : Negotiate} (h : s.MeetsPartner n) (hrank : s.reg 0xD000 2 ≠ 0) (hfault : s.pairFault n = none) :
    s.pair = s.fixOffset.takeRole .shadow := by
  simp only [State.pair, h.partner, h.role, h.lock, h.ranks, h.follows, hrank, hfault, ne_eq, not_true_eq_false, Bool.true_eq_false,
    or_self, if_false]

/-- On a link that is down no pair is formed. -/
theorem pair_of_no_lock {s : State} (h : s.twin.linkLock = false) : s.pair = s := by
  unfold State.pair
  split
  · rfl
  · exact if_pos (.inr (.inl h))

/-- The change to SHADOW at block lock leaves the device state, the stored numbers and the job. -/
theorem follower_frame (s : State) (n : Negotiate) (role delay sendEt : Nat) :
    (((s.negotiating n role delay sendEt).fixOffset.takeRole .shadow).sourceLocked 3).dev = s.dev
      ∧ (((s.negotiating n role delay sendEt).fixOffset.takeRole .shadow).sourceLocked 3).regs = s.regs
      ∧ (((s.negotiating n role delay sendEt).fixOffset.takeRole .shadow).sourceLocked 3).job = s.job := by
  simp only [frame_sourceLocked, frame_takeRole, frame_fixOffset]
  exact ⟨rfl, rfl, rfl⟩

/-- A candidate within 250 ticks: nothing stands against the pair. -/
theorem pairFault_negotiating {s : State} {n : Negotiate} (hmatch : s.mismatch n = none) {delay : Nat} (hdelay : delay ≤ 250)
    (role sendEt : Nat) : (s.negotiating n role delay sendEt).pairFault n = none := by
  have hstill : (s.negotiating n role delay sendEt).mismatch n = none := hmatch
  simp only [State.pairFault, hstill]
  exact if_neg (Nat.not_lt.2 hdelay)

theorem meetsPartner_negotiating {s : State} {n : Negotiate} {role : Nat} (hrole : s.twin.role = .solo) (hranks : n.rank ≠ s.regN 0xD000 2)
    (hfollows : roleOfCode role ≠ .primary) (delay sendEt : Nat) : (s.negotiating n role delay sendEt).MeetsPartner n :=
  ⟨rfl, hrole, rfl, hranks, hfollows⟩

/-- PAIR_OFFSET fixed: the ET in use moves with it, and the NT anchor. -/
theorem fixOffset_moves (s : State) : s.fixOffset.clk = { s.clk with et := moveTick (s.twin.offsetSeen - s.twin.pairOffset) s.clk.et }
    ∧ s.fixOffset.time.anchorEt = s.time.anchorEt + (s.twin.offsetSeen - s.twin.pairOffset)
    ∧ s.fixOffset.time.anchorNt = s.time.anchorNt ∧ s.fixOffset.twin = { s.twin with pairOffset := s.twin.offsetSeen } :=
  ⟨rfl, rfl, rfl, rfl⟩

theorem regN_of_cast {s : State} {index sub n : Nat} (h : s.reg index sub = n) : s.regN index sub = n := by
  rw [State.regN, h, Int.toNat_natCast]

theorem limitAcks_eq (s : State) (role : Role) (held : Nat) :
    s.limitAcks role held = { s with sessions := (s.limitAcks role held).sessions } := by
  unfold State.limitAcks
  split
  · split <;> rfl
  · rfl

/-- Before the main PLL has locked, the twin link as a lost source is all that changes (R560). -/
theorem sourceLost_twinLink {s : State} (hmain : s.clocks.mainLock = false) :
    s.sourceLost 3 = { s with clocks := { s.clocks with twinLink := ⟨false, 0, false⟩ } } :=
  if_neg (by rw [hmain]; decide)

/-- The twin link lost before the main PLL has locked: its lock, its source, and the acknowledgements that followed the partner. -/
theorem twinLinkLockLoss_eq {s : State} (hmain : s.clocks.mainLock = false) : ∃ xs, exec .twinLinkLockLoss s = .next { s with
    twin := { s.twin with linkLock := false }, sessions := xs, clocks := { s.clocks with twinLink := ⟨false, 0, false⟩ } } := by
  have hacks := limitAcks_eq { s with twin := { s.twin with linkLock := false } } .cold 0
  generalize (({ s with twin := { s.twin with linkLock := false } } : State).limitAcks .cold 0).sessions = xs at hacks
  refine ⟨xs, ?_⟩
  simp only [exec, execTwinLinkLockLoss, hacks]
  exact congrArg Host.Outcome.next (sourceLost_twinLink hmain)

/-! #### JOIN (R470) -/

theorem leads_of_joinReady {s : State} (h : s.joinReady = true) : s.twin.leads = true := by
  simp only [State.joinReady, Bool.and_eq_true] at h
  obtain ⟨⟨⟨⟨hrole, hlock⟩, -⟩, -⟩, -⟩ := h
  rw [Twin.leads, hrole, hlock]
  rfl

/-- Messages of a PRIMARY go out after what has gone out. -/
theorem out_twinLead_foldl {α : Type} (kind : α → Nat) (fields : State → α → List Int) (l : List α) (s : State) :
    ∃ rest, (l.foldl (fun t a => t.twinLead (kind a) (fields t a)) s).out = s.out ++ rest := by
  induction l generalizing s with
  | nil => exact ⟨[], (List.append_nil _).symm⟩
  | cons a l ih =>
    obtain ⟨rest, hrest⟩ := ih (s.twinLead (kind a) (fields s a))
    rw [List.foldl_cons, hrest]
    simp only [State.twinLead]
    split
    · exact ⟨_, List.append_assoc _ _ _⟩
    · exact ⟨rest, rfl⟩

/-- A join that proceeds: JOIN goes out first, JOIN_RESULT reads 0, and the rest reports. -/
theorem startJoin_outcome {s : State} (h : s.joinReady = true) : s.startJoin.reg 0xD002 3 = 0
    ∧ (∃ rest, s.startJoin.out = s.out ++ twinOut 0x0E s.twin.txSeq (s.joinContent.map (fun b => (b.toNat : Int))) :: rest)
    ∧ s.ReportsWith s.startJoin [regKey 0xD002 3] := by
  have hjoin : (s.twinLead 0x0E (s.joinContent.map (fun b => (b.toNat : Int)))).out
      = s.out ++ [twinOut 0x0E s.twin.txSeq (s.joinContent.map (fun b => (b.toNat : Int)))] := if_pos (leads_of_joinReady h)
  obtain ⟨rest, hrest⟩ := out_twinLead_foldl (fun _ => 0x06) (fun (u : State) (r : Nat) => [(r : Int), 0, u.et]) s.dev.state.joinRequests
    (s.twinLead 0x0E (s.joinContent.map (fun b => (b.toNat : Int))))
  rw [hjoin, List.append_assoc] at hrest
  refine ⟨reg_setReg_self _ _ _ _, ⟨rest, hrest⟩, ?_⟩
  exact ReportsWith_trans (ReportsWith_of_Reports _ (Reports_trans (Reports_twinLead _ _ _)
    (Reports_foldl (fun t r => Reports_twinLead t _ _) _ _))) (ReportsWith_setReg _ _ _ _ List.mem_cons_self)

theorem join_accepted {s : State} {p : Path} (h : s.Takes p (orElse (s.writeGate p 0xD002 1) (numberTest 0xD002 1 (leBytes 1 1)))) :
    exec (.join p 1) s = .next ((if s.joinReady then s.startJoin else s.setReg 0xD002 3 1).answer p 0 []) :=
  congrArg Host.Outcome.next (accepted_in_turn h (c := .join p 1) (rank_of_path rfl) _ _)

theorem autoJoinStart_starts {s : State} (hauto : s.reg 0xD000 4 = 1) (hready : s.joinReady = true) :
    exec .autoJoinStart s = .next s.startJoin := by
  simp only [exec, execAutoJoinStart, hauto, hready, and_self, if_true]

/-- A JOIN that a COLD controller receives on a locked link. -/
theorem joinReceived_cold {s : State} (hrole : s.twin.role = .cold) (hlock : s.twin.linkLock = true) (content : List Byte)
    (trips : List Nat) (sendEt : Nat) : exec (.joinReceived content trips sendEt) s
      = .next (s.joinReceived content (s.offsetOf (delayOfTrips trips) sendEt) (delayOfTrips trips)) := by
  simp only [exec, execJoinReceived, paired_of_role (s := s) (by rw [hrole]; decide), hlock, and_self, if_true]

/-- The twin unit with a JOIN counted and measured, before the delay is judged. -/
def State.joinHeard (s : State) (offset : Int) (delay : Nat) : State :=
  { s with twin := { s.twin with linkDelay := delay, offsetSeen := offset, rxNext := (s.twin.rxNext + 1) % 2 ^ 32 } }

/-- A COLD controller with the content of JOIN taken in: SHADOW with the ET of its PRIMARY. -/
def State.joined (s : State) (content : List Byte) (offset : Int) (delay : Nat) : State :=
  ((s.joinHeard offset delay).takeJoin content).fixOffset.takeRole .shadow

theorem joinReceived_joins {s : State} (hrole : s.twin.role = .cold) {delay : Nat} (hdelay : delay ≤ 250) (content : List Byte)
    (offset : Int) : s.joinReceived content offset delay = s.joined content offset delay :=
  (if_neg (not_not.2 hrole)).trans (if_neg (Nat.not_lt.2 hdelay))

theorem joinReceived_too_far {s : State} (hrole : s.twin.role = .cold) {delay : Nat} (hdelay : 250 < delay) (content : List Byte)
    (offset : Int) : s.joinReceived content offset delay = { s.joinHeard offset delay with
      twin := { (s.joinHeard offset delay).twin with coldCause := 0x03 } } :=
  (if_neg (not_not.2 hrole)).trans (if_pos hdelay)

/-- Of the twin unit the content of JOIN gives the newest layer only. -/
theorem takeJoin_twin (s : State) (bs : List Byte) : ∃ layer, (s.takeJoin bs).twin = { s.twin with motionLayer := layer } := by
  unfold State.takeJoin
  simp only [frame_joinedSession]
  exact ⟨_, rfl⟩

theorem joined_outcome (s : State) (content : List Byte) (offset : Int) (delay : Nat) : (s.joined content offset delay).twin.role = .shadow
    ∧ (s.joined content offset delay).twin.coldCause = 0 ∧ (s.joined content offset delay).twin.pairOffset = offset
    ∧ (s.joined content offset delay).twin.rxNext = (s.twin.rxNext + 1) % 2 ^ 32
    ∧ (s.joined content offset delay).clk = { s.clk with et := moveTick (offset - s.twin.pairOffset) s.clk.et }
    ∧ (s.joined content offset delay).time.anchorEt = s.time.anchorEt + (offset - s.twin.pairOffset)
    ∧ (s.joined content offset delay).time.anchorNt = s.time.anchorNt ∧ (s.joined content offset delay).dev = s.dev := by
  obtain ⟨layer, htwin⟩ := takeJoin_twin (s.joinHeard offset delay) content
  obtain ⟨hclk, hanchorEt, hanchorNt, hfixed⟩ := fixOffset_moves ((s.joinHeard offset delay).takeJoin content)
  have hkeptClk : ((s.joinHeard offset delay).takeJoin content).clk = s.clk := by simp [State.joinHeard]
  have hkeptTime : ((s.joinHeard offset delay).takeJoin content).time = s.time := by simp [State.joinHeard]
  rw [htwin, hkeptClk] at hclk
  rw [htwin, hkeptTime] at hanchorEt
  rw [hkeptTime] at hanchorNt
  rw [htwin] at hfixed
  exact ⟨rfl, rfl, congrArg Twin.pairOffset hfixed, congrArg Twin.rxNext hfixed, hclk, hanchorEt, hanchorNt,
    by simp [State.joined, State.joinHeard]⟩

/-! #### RELEASE (R477) and TWIN_ENABLE (R454) -/

theorem release_accepted {s : State} {p : Path} (h : s.Takes p (orElse (s.writeGate p 0xD002 2) (numberTest 0xD002 2 (leBytes 1 1))))
    (hrole : s.twin.role = .shadow) : exec (.release p 1) s = .next ((s.goCold 0x0B).answer p 0 []) := by
  refine congrArg Host.Outcome.next ((accepted_in_turn h (c := .release p 1) (rank_of_path rfl) _ _).trans ?_)
  rw [if_pos ⟨rfl, hrole⟩]

/-- A controller that becomes COLD, answered. -/
theorem becomesCold_answered {s t : State} {cause : Nat} {ks : List Nat} (h : s.BecomesCold t cause ks) (p : Path) (abort : Nat)
    (data : List Byte) : s.BecomesCold (t.answer p abort data) cause ks :=
  { h with quiet := fun hquiet => answered_reports (h.quiet hquiet) p abort data }

theorem twinEnable_accepted {s : State} {p : Path} {value : Nat} (h : s.Takes p (s.enableRefusal p value)) :
    exec (.twinEnable p value) s = .next ((s.writeTwinEnable value).answer p 0 []) :=
  congrArg Host.Outcome.next (accepted_in_turn h (c := .twinEnable p value) (rank_of_path rfl) _ _)

/-- Settles O54: the pairing by what the controller meets at the other end of the link, each other command by its own lemma. -/
theorem pairingCommandsComplete : Obligations.PairingCommandsComplete := by
  refine ⟨fun s vMax vMin fw mc dig rank serial role trips sendEt hoff haux => ⟨fun henable => ?_,
      fun henable hrole hown hrank hfollows => ?_, fun henable hrole hown hrank hfollows hmatch hdelay => ?_⟩,
    fun s hmain => ?_, fun s henable hrole hlock hstandby => ?_, fun s p h => ⟨fun hready => ?_, fun hready => ?_⟩,
    fun s hauto hready => ?_, fun s content trips sendEt offset hrole hlock hoffset => ⟨fun hdelay => ?_, fun hdelay => ?_⟩,
    fun s p h hrole => ?_, fun s p h => ?_, fun s p h hlock => ?_⟩
  · exact ⟨_, twinLinkBlockLock_alone hoff haux ⟨vMax, vMin, fw, mc, dig, rank, serial⟩ role trips sendEt henable,
      rfl, rfl, rfl, rfl, rfl, rfl, rfl, rfl, rfl⟩
  · have hexec := twinLinkBlockLock_pairs hoff haux ⟨vMax, vMin, fw, mc, dig, rank, serial⟩ role trips sendEt henable
    have hranks : rank ≠ s.regN 0xD000 2 := by rwa [regN_of_cast (n := 0) hown]
    rw [pair_leads (meetsPartner_negotiating (n := ⟨vMax, vMin, fw, mc, dig, rank, serial⟩) hrole hranks hfollows _ _) hown] at hexec
    exact ⟨_, hexec, rfl, rfl, rfl, rfl, rfl, rfl⟩
  · have hexec := twinLinkBlockLock_pairs hoff haux ⟨vMax, vMin, fw, mc, dig, rank, serial⟩ role trips sendEt henable
    have hranks : rank ≠ s.regN 0xD000 2 := by rw [regN_of_cast (n := 1) hown, hrank]; decide
    have hnotFirst : s.reg 0xD000 2 ≠ 0 := by rw [hown]; decide
    rw [pair_follows (meetsPartner_negotiating (n := ⟨vMax, vMin, fw, mc, dig, rank, serial⟩) hrole hranks hfollows _ _) hnotFirst
      (pairFault_negotiating hmatch hdelay _ _)] at hexec
    exact ⟨_, hexec, rfl, rfl, rfl, rfl, follower_frame s _ role _ sendEt⟩
  · obtain ⟨xs, hexec⟩ := twinLinkLockLoss_eq hmain
    exact ⟨_, hexec, rfl, rfl, rfl⟩
  · have hexec : exec .twinSoloTimeout s = .next (s.takeRole .primary) := by
      simp only [exec, execTwinSoloTimeout, henable, hrole, hlock, hstandby, and_self, if_true]
    exact ⟨_, hexec, rfl, rfl, rfl⟩
  · have hexec := join_accepted h
    rw [if_pos hready] at hexec
    obtain ⟨hresult, ⟨rest, hout⟩, hreports⟩ := startJoin_outcome hready
    refine ⟨_, hexec, hresult, answer_last _ _ _ _, ⟨rest ++ [.answer p 0 []], ?_⟩, answered_reports hreports p 0 []⟩
    simp only [State.answer, hout, List.append_assoc, List.cons_append]
  · have hexec := join_accepted h
    rw [if_neg (by simp [hready])] at hexec
    exact ⟨_, hexec, reg_setReg_self s 0xD002 3 1, KeepsRegs_setReg s 0xD002 3 1 List.mem_cons_self, rfl⟩
  · exact ⟨_, autoJoinStart_starts hauto hready, startJoin_outcome hready⟩
  · have hexec := joinReceived_cold hrole hlock content trips sendEt
    rw [← hoffset, joinReceived_joins hrole hdelay] at hexec
    exact ⟨_, hexec, joined_outcome s content offset _⟩
  · have hexec := joinReceived_cold hrole hlock content trips sendEt
    rw [← hoffset, joinReceived_too_far hrole hdelay] at hexec
    exact ⟨_, hexec, hrole, rfl, rfl, rfl⟩
  · exact ⟨_, release_accepted h hrole, answer_last _ _ _ _, becomesCold_answered (goCold_becomesCold s 0x0B) p 0 []⟩
  · exact ⟨_, twinEnable_accepted h, reg_setReg_self s 0xD000 1 0, rfl, KeepsRegs_setReg s 0xD000 1 0 List.mem_cons_self, rfl⟩
  · have hexec := twinEnable_accepted h
    rw [show s.writeTwinEnable 1 = s.setReg 0xD000 1 1 from pair_of_no_lock hlock] at hexec
    exact ⟨_, hexec, reg_setReg_self s 0xD000 1 1, KeepsRegs_setReg s 0xD000 1 1 List.mem_cons_self, rfl⟩

end Sys2Proof.Machine

/-! ### The guards of emission (R579, R582, R589, R595 to R598, R715): what raises and what ends an inhibit and a trip -/

namespace Sys2Proof.Machine

/-! #### The inhibit through the operations that write the supply state -/

@[simp] theorem Power.inhibit_ite (c : Prop) [Decidable c] (a b : Power) :
    (if c then a else b).inhibit = if c then a.inhibit else b.inhibit := by split <;> rfl

@[simp] theorem inhibit_toStep (s : State) (n : Nat) : (s.toStep n).power.inhibit = s.power.inhibit := rfl

@[simp] theorem inhibit_lost (s : State) : s.lost.power.inhibit = s.power.inhibit := rfl

@[simp] theorem inhibit_toAux (s : State) (cause rail : Nat) : (s.toAux cause rail).power.inhibit = s.power.inhibit := by
  rw [toAux_power]

@[simp] theorem inhibit_coincide (s : State) (cause rail : Nat) : (s.coincide cause rail).power.inhibit = s.power.inhibit := by
  unfold State.coincide
  split <;> rfl

@[simp] theorem inhibit_resetPins (s : State) (cause : Nat) : (s.resetPins cause).power.inhibit = s.power.inhibit := by
  rw [resetPins_power]

@[simp] theorem inhibit_mainReset (s : State) (cause rail : Nat) : (s.mainReset cause rail).power.inhibit = s.power.inhibit := by
  unfold State.mainReset
  (repeat' split) <;> simp

@[simp] theorem inhibit_restarted (s : State) : s.restarted.power.inhibit = s.power.inhibit := by
  simp [State.restarted]

@[simp] theorem inhibit_divideDram (s : State) (gib ranks a b : Nat) :
    (s.divideDram gib ranks a b).power.inhibit = s.power.inhibit := rfl

@[simp] theorem inhibit_leaveBoot (s : State) : s.leaveBoot.power.inhibit = s.power.inhibit := by
  simp [State.leaveBoot]

@[simp] theorem inhibit_imageCheck (s : State) : s.imageCheck.power.inhibit = s.power.inhibit := by
  unfold State.imageCheck
  split <;> simp [Power.countCycle]

@[simp] theorem inhibit_endRingStep (s : State) : s.endRingStep.power.inhibit = s.power.inhibit := by
  simp [State.endRingStep]

@[simp] theorem inhibit_recordStart (s : State) (leaf : Nat) : (s.recordStart leaf).power.inhibit = s.power.inhibit := by
  simp [State.recordStart]

@[simp] theorem inhibit_stepEight (s : State) : s.stepEight.power.inhibit = s.power.inhibit := by
  unfold State.stepEight
  split <;> simp

@[simp] theorem inhibit_boundExpired (s : State) : s.boundExpired.power.inhibit = s.power.inhibit := by
  unfold State.boundExpired
  (repeat' split) <;> simp

@[simp] theorem inhibit_leaveAux (s : State) (org : Nat) (test : Bool) :
    (s.leaveAux org test).power.inhibit = s.power.inhibit := rfl

@[simp] theorem inhibit_resumeBoot (s : State) : s.resumeBoot.power.inhibit = s.power.inhibit := rfl

@[simp] theorem inhibit_leaveTrip (s : State) : s.leaveTrip.power.inhibit = s.power.inhibit := by
  unfold State.leaveTrip
  dsimp only
  (repeat' split) <;> simp

@[simp] theorem inhibit_restartAfterTrip (s : State) : s.restartAfterTrip.power.inhibit = s.power.inhibit := by
  unfold State.restartAfterTrip
  dsimp only
  (repeat' split) <;> simp

@[simp] theorem inhibit_carryOut (s : State) (code : Nat) : (s.carryOut code).power.inhibit = s.power.inhibit := by
  unfold State.carryOut
  split <;> simp

@[simp] theorem inhibit_request (s : State) (p : Path) (alone : Bool) (code : Nat) :
    (s.request p alone code).power.inhibit = s.power.inhibit := by
  unfold State.request
  dsimp only
  (repeat' split) <;> simp

@[simp] theorem inhibit_obey (s : State) (request cause : Nat) : (s.obey request cause).power.inhibit = s.power.inhibit := by
  unfold State.obey
  (repeat' split) <;> simp

@[simp] theorem inhibit_dueOrders (s : State) : s.dueOrders.power.inhibit = s.power.inhibit :=
  foldl_keeps (α := Nat × Nat) (fun t => t.power.inhibit) (fun t r => inhibit_obey t r.1 r.2) _ _

/-! #### The inhibit through accesses, their turn and the messages of a pair -/

@[simp] theorem inhibit_judged {s d : State} (p : Path) (r : Option Abort) (b : List Byte) (h : d.power.inhibit = s.power.inhibit) :
    (s.judged p r d b).power.inhibit = s.power.inhibit := by
  unfold State.judged
  split
  · rfl
  · exact h

@[simp] theorem inhibit_access {s d : State} (p : Path) (r : Option Abort) (b : List Byte) (h : d.power.inhibit = s.power.inhibit) :
    (s.access p r d b).power.inhibit = s.power.inhibit := by
  unfold State.access
  split
  · exact inhibit_judged p r b h
  · rfl

@[simp] theorem inhibit_inTurn {s d : State} (c : Instr) (h : d.power.inhibit = s.power.inhibit) :
    (s.inTurn c d).power.inhibit = s.power.inhibit := by
  unfold State.inTurn
  split
  · exact h
  · rfl

@[simp] theorem inhibit_inTurnOf {s d : State} (p : Path) (c : Instr) (h : d.power.inhibit = s.power.inhibit) :
    (s.inTurnOf p c d).power.inhibit = s.power.inhibit := by
  unfold State.inTurnOf
  split
  · exact inhibit_inTurn c h
  · exact h

@[simp] theorem inhibit_writeRequest (s : State) (p : Path) (alone : Bool) (code : Nat) :
    (s.writeRequest p alone code).power.inhibit = s.power.inhibit := by
  unfold State.writeRequest
  apply inhibit_access
  split <;> simp

@[simp] theorem inhibit_shadowing (s : State) (n : Nat) (f : State → State) (h : ∀ t, (f t).power.inhibit = t.power.inhibit) :
    (s.shadowing n f).power.inhibit = s.power.inhibit := by
  unfold State.shadowing State.numbered
  split
  · next t ht =>
    have hnumber : t.power = s.power := frame_takeNumber_power s n t ht
    dsimp only
    split <;> simp [h, hnumber]
  · rfl

@[simp] theorem inhibit_follow (s : State) (n : Nat) (f : State → State) (h : ∀ t, (f t).power.inhibit = t.power.inhibit) :
    (s.follow n f).power.inhibit = s.power.inhibit :=
  inhibit_shadowing s n _ fun t => by simp [h]

/-! #### The inhibit through the writes of the dictionary, and through the frames that carry them -/

@[simp] theorem inhibit_writeComm (s : State) (p : Path) (index sub v : Nat) (data : List Byte) {d : State}
    (h : d.power.inhibit = s.power.inhibit) : ((s.writeComm p index sub v data).getD d).power.inhibit = s.power.inhibit := by
  unfold State.writeComm
  split <;> simp [h]

@[simp] theorem inhibit_writeDevice (s : State) (p : Path) (alone : Bool) (index sub v : Nat) (data : List Byte) {d : State}
    (h : d.power.inhibit = s.power.inhibit) :
    ((s.writeDevice p alone index sub v data).getD d).power.inhibit = s.power.inhibit := by
  unfold State.writeDevice
  (repeat' split) <;> simp [h]

@[simp] theorem inhibit_writeJob (s : State) (p : Path) (index sub v : Nat) (data : List Byte) {d : State}
    (h : d.power.inhibit = s.power.inhibit) : ((s.writeJob p index sub v data).getD d).power.inhibit = s.power.inhibit := by
  unfold State.writeJob
  (repeat' split) <;> simp [h]

@[simp] theorem inhibit_writeMotion (s : State) (p : Path) (index sub v : Nat) (data : List Byte) {d : State}
    (h : d.power.inhibit = s.power.inhibit) : ((s.writeMotion p index sub v data).getD d).power.inhibit = s.power.inhibit := by
  unfold State.writeMotion
  dsimp only
  (repeat' split) <;> simp [h]

@[simp] theorem inhibit_writeImages (s : State) (p : Path) (index sub v : Nat) (data : List Byte) {d : State}
    (h : d.power.inhibit = s.power.inhibit) : ((s.writeImages p index sub v data).getD d).power.inhibit = s.power.inhibit := by
  unfold State.writeImages
  split <;> simp [h]

@[simp] theorem inhibit_writeTwin (s : State) (p : Path) (index sub v : Nat) {d : State}
    (h : d.power.inhibit = s.power.inhibit) : ((s.writeTwin p index sub v).getD d).power.inhibit = s.power.inhibit := by
  unfold State.writeTwin
  split <;> simp [h]

@[simp] theorem inhibit_ownWrite (s : State) (p : Path) (alone : Bool) (index sub : Nat) (data : List Byte) {d : State}
    (h : d.power.inhibit = s.power.inhibit) : ((s.ownWrite p alone index sub data).getD d).power.inhibit = s.power.inhibit := by
  unfold State.ownWrite
  dsimp only
  split <;> simp only [h, inhibit_writeComm, inhibit_writeDevice, inhibit_writeJob, inhibit_writeMotion, inhibit_writeImages,
    inhibit_writeTwin]

@[simp] theorem inhibit_odWrite (s : State) (p : Path) (index sub : Nat) (data : List Byte) (alone : Bool) :
    (s.odWrite p index sub data alone).power.inhibit = s.power.inhibit := by
  unfold State.odWrite
  (repeat' split) <;> simp

@[simp] theorem inhibit_sdoWrite (s : State) (p : Path) (tid index sub : Nat) (data : List Byte) (alone : Bool) :
    (s.sdoWrite p tid index sub data alone).power.inhibit = s.power.inhibit := by
  unfold State.sdoWrite
  (repeat' split) <;> simp

@[simp] theorem inhibit_openBlock (s : State) (p : Path) (tid index sub total : Nat) :
    (s.openBlock p tid index sub total).power.inhibit = s.power.inhibit := by
  unfold State.openBlock
  (repeat' split) <;> simp

@[simp] theorem inhibit_segmentIn (s : State) (p : Path) (tid number : Nat) (crcOk : Bool) (data : List Byte) :
    (s.segmentIn p tid number crcOk data).power.inhibit = s.power.inhibit := by
  unfold State.segmentIn
  dsimp only
  (repeat' split) <;> simp

@[simp] theorem inhibit_sdoRequest (s : State) (p : Path) (alone : Bool) (bs : List Byte) :
    (s.sdoRequest p alone bs).power.inhibit = s.power.inhibit := by
  unfold State.sdoRequest
  dsimp only
  (repeat' split) <;> simp

@[simp] theorem inhibit_segmentMessage (s : State) (p : Path) (bs : List Byte) :
    (s.segmentMessage p bs).power.inhibit = s.power.inhibit := by
  simp [State.segmentMessage]

@[simp] theorem inhibit_spiRun (s : State) : s.spiRun.power.inhibit = s.power.inhibit := by
  unfold State.spiRun
  split <;> simp

@[simp] theorem inhibit_deliverMessage (s : State) (n kind : Nat) (alone : Bool) (bs : List Byte) :
    (s.deliverMessage n kind alone bs).power.inhibit = s.power.inhibit := by
  unfold State.deliverMessage
  split <;> simp

@[simp] theorem inhibit_takeInOrder (s : State) (n : Nat) (f : TreyxFrame) (alone : Bool) :
    (s.takeInOrder n f alone).power.inhibit = s.power.inhibit := by
  simp [State.takeInOrder]

@[simp] theorem inhibit_takeHeld (n fuel : Nat) (s : State) : (State.takeHeld n fuel s).power.inhibit = s.power.inhibit := by
  induction fuel generalizing s with
  | zero => rfl
  | succ fuel ih =>
    simp only [State.takeHeld]
    split <;> simp [ih]

@[simp] theorem inhibit_reliableFrame (s : State) (n : Nat) (f : TreyxFrame) (alone : Bool) :
    (s.reliableFrame n f alone).power.inhibit = s.power.inhibit := by
  simp [State.reliableFrame]

@[simp] theorem inhibit_sessionFrame (s : State) (n : Nat) (f : TreyxFrame) (alone : Bool) :
    (s.sessionFrame n f alone).power.inhibit = s.power.inhibit := by
  simp [State.sessionFrame]

@[simp] theorem inhibit_consume (s : State) (source : Nat) (f : TreyxFrame) (alone : Bool) :
    (s.consume source f alone).power.inhibit = s.power.inhibit := by
  simp [State.consume]

@[simp] theorem inhibit_takeCopy (s : State) (f : TreyxFrame) : (s.takeCopy f).power.inhibit = s.power.inhibit := by
  simp [State.takeCopy]

@[simp] theorem inhibit_consumeFrame (s : State) (fcsOk : Bool) (bs : List Byte) (alone : Bool) :
    (s.consumeFrame fcsOk bs alone).power.inhibit = s.power.inhibit := by
  simp [State.consumeFrame]

@[simp] theorem inhibit_dispose (s : State) (port ingress egress : Nat) (fcsOk : Bool) (bs : List Byte) :
    (s.dispose port ingress egress fcsOk bs).power.inhibit = s.power.inhibit := by
  unfold State.dispose
  dsimp only
  split <;> simp

/-! #### Both guards through every command -/

/-- The inhibit and the trip are as they were. -/
abbrev State.KeepsGuards (s t : State) : Prop := t.power.inhibit = s.power.inhibit ∧ t.thermal.tripped = s.thermal.tripped

@[simp] theorem Thermal.tripped_ite (c : Prop) [Decidable c] (a b : Thermal) :
    (if c then a else b).tripped = if c then a.tripped else b.tripped := by split <;> rfl

@[simp] theorem tripped_lost (s : State) : s.lost.thermal.tripped = s.thermal.tripped := rfl

@[simp] theorem tripped_toAux (s : State) (cause rail : Nat) : (s.toAux cause rail).thermal.tripped = s.thermal.tripped := by
  simp [State.toAux]

@[simp] theorem tripped_mainReset (s : State) (cause rail : Nat) : (s.mainReset cause rail).thermal.tripped = s.thermal.tripped := by
  unfold State.mainReset
  (repeat' split) <;> simp


/-- The commands that move neither guard. -/
def leavesGuards : Instr → Bool
  | .vauxApplied | .vauxLost | .laserInhibitAsserted | .laserInhibitReleased | .thermalMeasurement _ | .thermalRestart => false
  | _ => true

/-- The commands that look up what they act on. -/
def looksUp : Instr → Bool
  | .dramTrainingDone .. | .blockTransferTimeout .. | .segmentDecision | .segmentStaged .. | .headStart .. | .barrierRelease ..
  | .segmentClose .. | .closeMessageSend .. | .slackEvaluation .. | .pipelineDispatch .. | .processingComplete ..
  | .archiveCopyComplete .. | .laneDispatch .. | .darkCaptureComplete .. | .twinLinkBlockLock .. | .gapRecordTimeout ..
  | .microstep .. | .faultRetrainRetry .. | .archiveMessageSend => true
  | _ => false

/-- Found or not, nothing moves a guard. -/
theorem keepsGuards_lookup {c : Instr} (s : State) (h : looksUp c = true) : s.KeepsGuards (outcomeState s (exec c s)) := by
  cases c
  case dramTrainingDone | blockTransferTimeout | segmentDecision | segmentStaged | headStart | barrierRelease | segmentClose
      | closeMessageSend | slackEvaluation | pipelineDispatch | processingComplete | archiveCopyComplete | laneDispatch
      | darkCaptureComplete | twinLinkBlockLock | gapRecordTimeout | microstep | faultRetrainRetry | archiveMessageSend =>
    simp only [exec, execDramTrainingDone, execBlockTransferTimeout, execSegmentDecision, execSegmentStaged, execHeadStart,
      execBarrierRelease, execSegmentClose, execCloseMessageSend, execSlackEvaluation, execPipelineDispatch, execProcessingComplete,
      execArchiveCopyComplete, execLaneDispatch, execDarkCaptureComplete, execTwinLinkBlockLock, execGapRecordTimeout, execMicrostep,
      execFaultRetrainRetry, execArchiveMessageSend]
    (repeat' split) <;> simp [State.KeepsGuards]
  all_goals cases h

theorem keepsGuards_execCut (seq id h cause mask onset : Nat) (s : State) :
    s.KeepsGuards (outcomeState s (execCut seq id h cause mask onset s)) := by
  have hcut (t : State) : (match t.unfinishedBy id with
      | some g => t.applyCut g h cause mask onset
      | none => t).power = t.power ∧ (match t.unfinishedBy id with
      | some g => t.applyCut g h cause mask onset
      | none => t).thermal = t.thermal := by split <;> simp
  exact ⟨congrArg Power.inhibit (frame_follow_power s seq _ fun t => (hcut t).1),
    congrArg Thermal.tripped (frame_follow_thermal s seq _ fun t => (hcut t).2)⟩

/-- The measurement raises the trip, the restart and the loss of VAUX end it; the input and the supply move the inhibit. Every
other command is made of operations that keep both. -/
theorem keepsGuards_exec {c : Instr} (s : State) (h : leavesGuards c = true) : s.KeepsGuards (outcomeState s (exec c s)) := by
  cases c
  -- supplies, start-up and clocks
  case resetNAsserted | pwrgoodDeasserted | railUndervoltage | auxExit | oscillatorGate | mainPllLock | pllsLocked | ringJoinDone
      | ringWaitExpiry | headLinkStepDone | calibrationLoadDone | startupBoundExpiry | imageCheckDone | rootGate | xoEdgeLoss
      | holdoverTimeExpiry | pllUnlock | startMeasurement | freqMeasurementComplete | pllLockRegained =>
    simp [State.KeepsGuards, exec, execResetNAsserted, execPwrgoodDeasserted, execRailUndervoltage, execAuxExit, execOscillatorGate,
      execMainPllLock, execPllsLocked, execRingJoinDone, execRingWaitExpiry, execHeadLinkStepDone, execCalibrationLoadDone,
      execStartupBoundExpiry, execImageCheckDone, execRootGate, execXoEdgeLoss, execHoldoverTimeExpiry, execPllUnlock,
      execFreqMeasurementComplete, execPllLockRegained]
  -- state requests, the cores and the optics
  case arm | run | pause | pauseHoldReached | resume | stop | disarm | clear | restart | requestNone | stateRequestInvalid
      | watchdogExpiry | firmwareRestartComplete | opticsTempTimeout =>
    simp [State.KeepsGuards, exec, execArm, execRun, execPause, execPauseHoldReached, execResume, execStop, execDisarm, execClear,
      execRestart, execRequestNone, execStateRequestInvalid, execWatchdogExpiry, execFirmwareRestartComplete, execOpticsTempTimeout]
  -- head links and what they carry
  case uplinkFrameReceived | headLinkEnableWrite | headLinkTrainingTimeout | retrainHoldoffExpiry | uplinkLockLoss
      | stitchTableWrite | calibrationUserWrite =>
    simp [State.KeepsGuards, exec, execUplinkFrameReceived, execHeadLinkTrainingTimeout, execRetrainHoldoffExpiry,
      execUplinkLockLoss]
  -- the ring: ports, bypass, sessions and their frames
  case ringFrameReceived | blockLockLoss | blockLockGain | bypassLossTimeout | bypassRaise | bypassRetryExpiry | bypassTrialTimeout
      | bypassEnableWrite | sessionOpen | sessionClose | ack | rtoExpiry | ackDelayExpiry | sessionTimeout | jobCopy =>
    simp [State.KeepsGuards, exec, execRingFrameReceived, execBlockLockLoss, execBlockLockGain, execBypassLossTimeout,
      execBypassRaise, execBypassRetryExpiry, execBypassTrialTimeout, execSessionOpen, execSessionClose, execAck, execRtoExpiry,
      execAckDelayExpiry, execSessionTimeout, execJobCopy]
  -- the dictionary: transfers, authentication, the management port
  case sdoRead | sdoWrite | blockWrite | blockRead | sdoAbort | blockSegment | dictionaryWrite | spiWrite | spiRead | spiStatus
      | challenge | response | drop | authLockoutExpiry | store | storeComplete | restoreDefaults =>
    simp [State.KeepsGuards, exec, execSdoRead, execSdoWrite, execBlockWrite, execBlockRead, execSdoAbort, execBlockSegment,
      execDictionaryWrite, execSpiWrite, execSpiRead, execSpiStatus, execAuthLockoutExpiry, execStoreComplete]
  -- the job side
  case job | grantTimerExpiry | itemComplete | dataWaitEnd | drainHoldEnd | lineBufferWrite | planDecision | slackReport | cancelId
      | defectRecordSplit | servoPeriodTick =>
    simp [State.KeepsGuards, exec, execJob, execGrantTimerExpiry, execItemComplete, execDataWaitEnd, execDrainHoldEnd,
      execLineBufferWrite, execPlanDecision, execSlackReport, execDefectRecordSplit, execServoPeriodTick]
  -- cameras and the control engine
  case featureRecordHandover | commit | featureLogBlockRead | downlinkFrameAssembly | darkCapture | loopEnable | lawWrite
      | sampleRateSwitch =>
    simp [State.KeepsGuards, exec, execFeatureRecordHandover, execDownlinkFrameAssembly, execSampleRateSwitch]
  -- Network Time
  case ptpExchangeComplete | ptpExchangeTimeout | announceTimeout | ntReanchor | stepNow | etIn | ntInNanoseconds =>
    simp [State.KeepsGuards, exec, execPtpExchangeComplete, execPtpExchangeTimeout, execAnnounceTimeout, execNtReanchor]
  -- the twin
  case heartbeatSend | heartbeat | twinAliveEdge | takeover | twinLinkFailed | ownHeartbeatLapse | decision | outcome | plan
      | stateMessage | twinWrite | hostCopy | digest | ledger | ledgerSend | motion | repeatRequest | twinMessageLate
      | stateDivergenceTimeout | twinSoloTimeout | join | autoJoinStart | joinReceived | release | twinEnable | twinLinkLockLoss =>
    simp [State.KeepsGuards, exec, execHeartbeatSend, execHeartbeat, execTwinAliveEdge, execTakeover, execTwinLinkFailed,
      execOwnHeartbeatLapse, execDecision, execOutcome, execPlan, execStateMessage, execTwinWrite, execHostCopy, execDigest,
      execLedger, execLedgerSend, execMotion, execRepeatRequest, execTwinMessageLate, execStateDivergenceTimeout,
      execTwinSoloTimeout, execAutoJoinStart, execJoinReceived, execTwinLinkLockLoss]
  case cut => exact keepsGuards_execCut _ _ _ _ _ _ s
  -- motion and feedback
  case enableAxis | go | stopAxis | home | moveComplete | holdDelayExpiry | chopCycle | homeEdge | qualifyTimeExpiry
      | chatterWindowExpiry | homingComplete | limitTrip | limitRelease | encoderEdge | minEdgeExpiry | indexEdge | hallStateChange
      | comparePulseEnd | probeEdge | probeEvent | encoderCount | armCompare | recoatStart | manualReport =>
    simp [State.KeepsGuards, exec, execMoveComplete, execHoldDelayExpiry, execChopCycle, execHomeEdge, execQualifyTimeExpiry,
      execChatterWindowExpiry, execHomingComplete, execLimitTrip, execLimitRelease, execEncoderEdge, execMinEdgeExpiry,
      execIndexEdge, execHallStateChange, execComparePulseEnd, execProbeEdge]
  -- memory
  case dramReadComplete | caAlert | caAlertRelease | caAlertStuck | refresh | zqCalibration | caseTempRead | caseTempTimeout
      | retrainStart | retrainComplete =>
    simp [State.KeepsGuards, exec, execDramReadComplete, execCaAlert, execCaAlertRelease, execCaAlertStuck, execRefresh,
      execZqCalibration, execCaseTempRead, execCaseTempTimeout, execRetrainStart, execRetrainComplete]
  -- interrupts, the event recorder, images and tests
  case cause | take | hostRecord | clearTopsoil | flush | nextRecord | cursor | recordFlashWrite | hoursStore | sfImage | mcImage
      | trial | confirm | factoryBlock | jtagTckEdge =>
    simp [State.KeepsGuards, exec, execRecordFlashWrite, execHoursStore, execJtagTckEdge]
  case dramTrainingDone | blockTransferTimeout | segmentDecision | segmentStaged | headStart | barrierRelease | segmentClose
      | closeMessageSend | slackEvaluation | pipelineDispatch | processingComplete | archiveCopyComplete | laneDispatch
      | darkCaptureComplete | twinLinkBlockLock | gapRecordTimeout | microstep | faultRetrainRetry | archiveMessageSend =>
    exact keepsGuards_lookup s rfl
  -- every other command is one of the six of leavesGuards
  all_goals cases h

/-! #### The six commands that move a guard -/

@[simp] theorem inhibit_inhibited (s : State) : s.inhibited.power.inhibit = true := by
  rw [inhibited_eq, (inhibitState_frame s.inhibitCut).1, (inhibitCut_frame s).1]

theorem permit_of_trip {s : State} (h : s.thermal.tripped = true) (k : HeadNo) : s.permit k = false := by
  simp [State.permit, h]

theorem exec_keeps_inhibit {c : Instr} {s : State} (hs : s.power.inhibit = true) (hc : c ≠ .laserInhibitReleased) :
    (outcomeState s (exec c s)).power.inhibit = true := by
  by_cases hk : leavesGuards c = true
  · exact (keepsGuards_exec s hk).1.trans hs
  · cases c
    case laserInhibitReleased => exact absurd rfl hc
    case vauxApplied | vauxLost => simp [exec, execVauxApplied, execVauxLost, State.poweredOff, hs]
    case laserInhibitAsserted => simp [exec, execLaserInhibitAsserted, hs]
    case thermalMeasurement | thermalRestart => simp [exec, execThermalMeasurement, execThermalRestart, hs]
    all_goals exact absurd rfl hk

/-- A measurement raises a trip and ends none. -/
theorem tripped_judgeTrip {s : State} (h : s.thermal.tripped = true) (top : Nat × Int) : (s.judgeTrip top).thermal.tripped = true := by
  unfold State.judgeTrip
  split <;> simp [h]

theorem tripped_measure {s : State} (h : s.thermal.tripped = true) (readings : List Int) :
    (s.measure readings).thermal.tripped = true := by
  unfold State.measure
  apply tripped_judgeTrip
  simp [State.retrainByDelta, State.dieWarning, State.fastMode, State.exclusionLimit, h]

theorem tripped_inTurn {s d : State} (hs : s.thermal.tripped = true) (hd : d.thermal.tripped = true) (c : Instr) :
    (s.inTurn c d).thermal.tripped = true := by
  unfold State.inTurn
  split <;> assumption

theorem exec_keeps_trip {c : Instr} {s : State} (hs : s.thermal.tripped = true) (hrestart : c ≠ .thermalRestart)
    (hlost : c ≠ .vauxLost) : (outcomeState s (exec c s)).thermal.tripped = true := by
  by_cases hk : leavesGuards c = true
  · exact (keepsGuards_exec s hk).2.trans hs
  · cases c
    case thermalRestart => exact absurd rfl hrestart
    case vauxLost => exact absurd rfl hlost
    case vauxApplied | laserInhibitAsserted | laserInhibitReleased =>
      simp [exec, execVauxApplied, execLaserInhibitAsserted, execLaserInhibitReleased, hs]
    case thermalMeasurement readings =>
      have hnext : (if s.dev.state = .off ∨ s.dev.state = .aux then s else s.measure readings).thermal.tripped = true := by
        split
        · exact hs
        · exact tripped_measure hs readings
      exact tripped_inTurn hs hnext _
    all_goals exact absurd rfl hk

/-- Settles O8: only the release ends an inhibit, and no permit is high under one. -/
theorem inhibitStaysUntilReleased : Obligations.InhibitStaysUntilReleased := by
  intro c s t hs hc ht
  have hinhibit := exec_keeps_inhibit hs hc
  rw [ht] at hinhibit
  exact ⟨hinhibit, permit_of_inhibit hinhibit⟩

/-- Settles O9: only the restart and the loss of VAUX end a trip, and no permit is high under one. -/
theorem tripStaysUntilRestart : Obligations.TripStaysUntilRestart := by
  intro c s t hs hrestart hlost ht
  have htrip := exec_keeps_trip hs hrestart hlost
  rw [ht] at htrip
  exact ⟨htrip, permit_of_trip htrip⟩

end Sys2Proof.Machine

/-! ### A step on a queue that is not empty (10_ring_and_dictionary.md) -/

namespace Sys2Proof.Machine

/-- Settles O1: the step takes the front command and leaves it the rest. -/
theorem stepRunsFrontCommand : Obligations.StepRunsFrontCommand := by
  intro c rest s hpending
  rw [step, hpending]

end Sys2Proof.Machine

/-! ### Commands on an axis and its gang (R481 to R497, R519) -/

namespace Sys2Proof.Machine

/-! #### A command on an axis accepted -/

/-- Outside a refusal a command on an axis is what it does, with RESULT 0, answered. -/
theorem axisCommand_in_turn {s : State} {p : Path} {m sub : Nat} {gate : Option Abort}
    (h : s.Takes p (orElse (s.writeGate p (0x9020 + m) sub) gate)) {c : Instr} (hrank : c.rank = pathRank p) (done : State) :
    s.inTurnOf p c (s.axisCommand p m sub 0 gate done) = (done.setReg (0x9020 + m) 7 0).answer p 0 [] := by
  rw [inTurnOf_in_turn _ (by rw [hrank]; exact h.turn), State.axisCommand, if_neg (by rw [h.served]; decide), h.accepted]
  rfl

theorem takes_no_test {s : State} {p : Path} {gate : Option Abort} (h : s.Takes p gate) : s.Takes p (orElse gate none) :=
  takes_orElse h rfl

/-- The leaders are configuration: a change of other stored numbers leaves every gang as it is. -/
theorem gang_of_keepsRegs {s t : State} {ks : List Nat} (h : s.KeepsRegs t ks) (hks : ∀ k < 8, regKey (0x9000 + k) 0x12 ∉ ks) (m : Nat) :
    t.gang m = s.gang m := by
  refine List.filter_congr fun k hk => ?_
  have hleader : t.leaderOf k = s.leaderOf k := congrArg Int.toNat (h _ (hks k (List.mem_range.1 hk)))
  rw [hleader]

theorem mem_own_gang {s : State} {m : Nat} (hm : m < 8) : m ∈ s.gang m := mem_gang.2 ⟨hm, .inl rfl⟩

/-! #### ENABLE of 1 (R481, R490) -/

/-- One member of a gang as ENABLE of 1 leaves it. -/
def State.enableOf (s : State) (k : Nat) : State :=
  if (s.axis k).state = .disabled then (s.onAxis k (fun x => x.enable (s.reg (0x9000 + k) 12))).setReg (0x9040 + k) 7 0 else s

theorem enableGang_eq (s : State) (m : Nat) : s.enableGang m = (s.gang m).foldl State.enableOf s := rfl

/-- What enabling the axes of a list leaves. -/
structure State.AxesEnabled (s t : State) (l : List Nat) : Prop where
  own : ∀ k ∈ l, (s.axis k).state = .disabled → (t.axis k).state = .hold ∧ (t.axis k).running = true
  other : ∀ k, k ∉ l ∨ (s.axis k).state ≠ .disabled → t.axis k = s.axis k
  length : t.motion.axes.length = s.motion.axes.length
  frame : t = { s with regs := t.regs, motion := { s.motion with axes := t.motion.axes } }

theorem enableOf_enabled {s : State} {k : Nat} (hk : k < s.motion.axes.length) : s.AxesEnabled (s.enableOf k) [k] := by
  by_cases hdisabled : (s.axis k).state = .disabled
  · have heq : s.enableOf k = (s.onAxis k (fun x => x.enable (s.reg (0x9000 + k) 12))).setReg (0x9040 + k) 7 0 := if_pos hdisabled
    have hself : (s.enableOf k).axis k = (s.axis k).enable (s.reg (0x9000 + k) 12) := by
      rw [heq]
      exact axis_onAxis_self hk _
    rw [heq] at *
    refine ⟨fun j hj _ => ?_, fun j hj => ?_, length_onAxis s k _, rfl⟩
    · rw [List.mem_singleton.1 hj, hself]
      exact ⟨rfl, rfl⟩
    · have hne : j ≠ k := by
        rintro rfl
        simp [hdisabled] at hj
      exact axis_onAxis_other s hne _
  · have heq : s.enableOf k = s := if_neg hdisabled
    rw [heq]
    refine ⟨fun j hj h => ?_, fun _ _ => rfl, rfl, rfl⟩
    rw [List.mem_singleton.1 hj] at h
    exact absurd h hdisabled

theorem enableAll_enabled {l : List Nat} (hnodup : l.Nodup) {s : State} (hlen : ∀ k ∈ l, k < s.motion.axes.length) :
    s.AxesEnabled (l.foldl State.enableOf s) l := by
  induction l generalizing s with
  | nil => exact ⟨fun _ h => absurd h List.not_mem_nil, fun _ _ => rfl, rfl, rfl⟩
  | cons a l ih =>
    obtain ⟨ha, hl⟩ := List.nodup_cons.1 hnodup
    have hone := enableOf_enabled (hlen a List.mem_cons_self)
    have hrest := ih hl (s := s.enableOf a) (fun k hk => by rw [hone.length]; exact hlen k (List.mem_cons_of_mem _ hk))
    have houtside (k : Nat) (hk : k ∈ l) : (s.enableOf a).axis k = s.axis k :=
      hone.other k (.inl (by simpa using ne_of_mem_of_not_mem hk ha))
    rw [List.foldl_cons]
    refine ⟨fun k hk hdisabled => ?_, fun k hk => ?_, hrest.length.trans hone.length, ?_⟩
    · rcases List.mem_cons.1 hk with rfl | hk
      · rw [hrest.other k (.inl ha)]
        exact hone.own k List.mem_cons_self hdisabled
      · exact hrest.own k hk (by rw [houtside k hk]; exact hdisabled)
    · have hstep : (s.enableOf a).axis k = s.axis k := by
        refine hone.other k (hk.imp_left fun hout => ?_)
        simpa using List.ne_of_not_mem_cons hout
      rw [hrest.other k (by rw [hstep]; exact hk.imp_left List.not_mem_of_not_mem_cons), hstep]
    · rw [hrest.frame, hone.frame]

theorem enableAxis_enables {s : State} {p : Path} {m : Nat} (hm : m < 8) (hlen : s.motion.axes.length = 8)
    (htakes : s.Takes p (s.writeGate p (0x9020 + m) 1)) (hresult : s.axisResult m false = 0) (hstate : (s.axis m).state ≠ .faulted) :
    ∃ t, exec (.enableAxis p m 1) s = .next t
      ∧ (∀ k ∈ s.gang m, (s.axis k).state = .disabled → (t.axis k).state = .hold ∧ (t.axis k).running = true)
      ∧ (∀ k, k ∉ s.gang m ∨ (s.axis k).state ≠ .disabled → t.axis k = s.axis k) ∧ t.reg (0x9020 + m) 7 = 0
      ∧ t = { s with regs := t.regs, motion := { s.motion with axes := t.motion.axes }, out := s.out ++ [.answer p 0 []] } := by
  have hexec : exec (.enableAxis p m 1) s = .next (((s.enableGang m).setReg (0x9020 + m) 7 0).answer p 0 []) := by
    rw [← axisCommand_in_turn (takes_no_test htakes) (c := .enableAxis p m 1) (rank_of_path rfl)]
    simp [exec, execEnableAxis, hm, hresult, hstate, refuseIf]
  have henabled : s.AxesEnabled (s.enableGang m) (s.gang m) := by
    rw [enableGang_eq]
    exact enableAll_enabled (nodup_gang s m) fun k hk => by rw [hlen]; exact (mem_gang.1 hk).1
  refine ⟨_, hexec, henabled.own, henabled.other, reg_setReg_self _ _ _ _, ?_⟩
  rw [henabled.frame]
  rfl

/-! #### ENABLE of 0 (R484) -/

/-- All but the motion block goes from s to t by reports and by the listed stored numbers. -/
def State.ReportsBesideMotion (s t : State) (keys : List Nat) : Prop := ({ s with motion := t.motion } : State).ReportsWith t keys

theorem besideMotion_of_ReportsWith {s t : State} {ks : List Nat} (h : s.ReportsWith t ks) : s.ReportsBesideMotion t ks :=
  { h with motion := rfl }

theorem besideMotion_trans {s t u : State} {ks : List Nat} (h : s.ReportsBesideMotion t ks) (g : t.ReportsBesideMotion u ks) :
    s.ReportsBesideMotion u ks := by
  have h' : ({ s with motion := u.motion } : State).ReportsWith { t with motion := u.motion } ks := { h with motion := rfl }
  exact ReportsWith_trans h' g

theorem besideMotion_of_axesOnly {s t : State} (h : s.AxesOnly t) (ks : List Nat) : s.ReportsBesideMotion t ks := by
  rw [h]
  exact { ReportsWith_refl s ks with motion := rfl }

theorem abortHoming_beside (s : State) (m reason : Nat) : s.ReportsBesideMotion (s.abortHoming m reason) [regKey (0x9040 + m) 6] := by
  unfold State.abortHoming
  split
  · refine besideMotion_trans (t := s.onGang m (fun x => { x with homed := false, homing := none }))
      (besideMotion_of_axesOnly (axesOnly_onGang s m _) _) (besideMotion_of_ReportsWith ?_)
    exact ReportsWith_trans (ReportsWith_setReg _ _ _ _ List.mem_cons_self) (ReportsWith_of_Reports _ (Reports_setLeaf _ _ _))
  · exact besideMotion_of_ReportsWith (ReportsWith_refl s _)

theorem axis_of_motion {s t : State} (h : t.motion = s.motion) (k : Nat) : t.axis k = s.axis k := by rw [State.axis, h, State.axis]

theorem abortHoming_other {s : State} {m k : Nat} (hk : k ∉ s.gang m) (reason : Nat) : (s.abortHoming m reason).axis k = s.axis k := by
  unfold State.abortHoming
  split
  · rw [axis_of_motion (Reports_setLeaf _ _ _).motion]
    exact axis_onGang_other hk _
  · rfl

theorem abortHoming_length (s : State) (m reason : Nat) : (s.abortHoming m reason).motion.axes.length = s.motion.axes.length := by
  unfold State.abortHoming
  split
  · rw [(Reports_setLeaf _ _ _).motion]
    exact length_onGang s m _
  · rfl

theorem abortHoming_gang (s : State) {m : Nat} (hm : m < 8) (reason : Nat) : (s.abortHoming m reason).gang m = s.gang m := by
  refine gang_of_keepsRegs (abortHoming_beside s m reason).regs (fun k hk hmem => ?_) m
  have hne (a : Nat) (ha : a < 256) (i : Nat) (hi : i < 0x9000 ∨ 0x9008 ≤ i) : regKey (0x9000 + k) 0x12 ≠ regKey i a := by
    intro h
    have := (regKey_inj (by decide) ha h).1
    omega
  rcases List.mem_cons.1 hmem with h | h
  · exact hne _ (by decide) _ (by omega) h
  · exact hne _ (by decide) _ (by omega) (List.mem_singleton.1 h)

theorem recoatFails_beside (s : State) (m : Nat) (ks : List Nat) : s.ReportsBesideMotion (s.recoatFails m) ks := by
  unfold State.recoatFails
  split
  · have h := ReportsWith_of_Reports ks (Reports_setLeaf
      { s with motion := { s.motion with recoat := { s.motion.recoat with state := .failed } } } 0x210B 25)
    unfold State.ReportsBesideMotion
    rw [h.motion]
    exact h
  · exact besideMotion_of_ReportsWith (ReportsWith_refl s _)

theorem recoatFails_axis (s : State) (m k : Nat) : (s.recoatFails m).axis k = s.axis k := by
  unfold State.recoatFails
  split
  · rw [axis_of_motion (Reports_setLeaf _ _ _).motion]
    rfl
  · rfl

theorem enableAxis_disables {s : State} {p : Path} {m : Nat} (hm : m < 8) (hlen : s.motion.axes.length = 8)
    (htakes : s.Takes p (s.writeGate p (0x9020 + m) 1)) (hresult : s.axisResult m true = 0) :
    ∃ t, exec (.enableAxis p m 0) s = .next t
      ∧ (∀ k ∈ s.gang m, (t.axis k).state = .disabled ∧ (t.axis k).homed = false ∧ (t.axis k).ramp = none)
      ∧ (∀ k, k ∉ s.gang m → t.axis k = s.axis k) ∧ t.reg (0x9020 + m) 7 = 0 ∧ t.out.getLast? = some (.answer p 0 [])
      ∧ ({ s with motion := t.motion } : State).ReportsWith t [regKey (0x9020 + m) 7, regKey (0x9040 + m) 6] := by
  have hexec : exec (.enableAxis p m 0) s = .next (((s.disableGang m).setReg (0x9020 + m) 7 0).answer p 0 []) := by
    rw [← axisCommand_in_turn (takes_no_test htakes) (c := .enableAxis p m 0) (rank_of_path rfl)]
    simp [exec, execEnableAxis, hm, hresult, refuseIf]
  have hgang := abortHoming_gang s hm 1
  have haxis (k : Nat) : (s.disableGang m).axis k = ((s.abortHoming m 1).onGang m (fun x => x.off .disabled s.et)).axis k :=
    recoatFails_axis _ m k
  refine ⟨_, hexec, fun k hk => ?_, fun k hk => ?_, reg_setReg_self _ _ _ _, by simp [State.answer], ?_⟩
  · have hoff : (s.disableGang m).axis k = ((s.abortHoming m 1).axis k).off .disabled s.et := by
      rw [haxis, axis_onGang_mem (by rw [abortHoming_length, hlen]) (by rw [hgang]; exact hk)]
    change ((s.disableGang m).axis k).state = _ ∧ ((s.disableGang m).axis k).homed = _ ∧ ((s.disableGang m).axis k).ramp = _
    rw [hoff]
    exact ⟨rfl, rfl, rfl⟩
  · change (s.disableGang m).axis k = _
    rw [haxis, axis_onGang_other (by rw [hgang]; exact hk), abortHoming_other hk]
  · have hdone : s.ReportsBesideMotion (s.disableGang m) [regKey (0x9020 + m) 7, regKey (0x9040 + m) 6] :=
      besideMotion_trans (besideMotion_trans (ReportsWith_mono (abortHoming_beside s m 1) (by simp))
        (besideMotion_of_axesOnly (axesOnly_onGang _ m _) _)) (recoatFails_beside _ m _)
    refine besideMotion_trans hdone (besideMotion_of_ReportsWith ?_)
    exact ReportsWith_trans (ReportsWith_setReg _ _ _ _ List.mem_cons_self) (ReportsWith_of_Reports _ (Reports_answer _ _ _ _))

/-! #### GO, STOP and HOME: a ramp for the leader, a state for the gang (R492 to R500) -/

theorem axis_foldl_onEach_other {l : List Nat} {k : Nat} (hk : k ∉ l) (f : Nat → Axis → Axis) (s : State) :
    (l.foldl (fun t j => t.onAxis j (f j)) s).axis k = s.axis k :=
  List.foldlRecOn (motive := fun t : State => t.axis k = s.axis k) _ _ rfl
    (fun t ht _ hj => (axis_onAxis_other t (ne_of_mem_of_not_mem hj hk).symm _).trans ht)

theorem axis_foldl_onEach_mem {l : List Nat} (hnodup : l.Nodup) {k : Nat} (hk : k ∈ l) (f : Nat → Axis → Axis) {s : State}
    (hlen : k < s.motion.axes.length) : (l.foldl (fun t j => t.onAxis j (f j)) s).axis k = f k (s.axis k) := by
  induction l generalizing s with
  | nil => cases hk
  | cons j l ih =>
    obtain ⟨hj, hl⟩ := List.nodup_cons.1 hnodup
    rw [List.foldl_cons]
    rcases List.mem_cons.1 hk with rfl | hk
    · rw [axis_foldl_onEach_other hj, axis_onAxis_self hlen]
    · rw [ih hl hk (by rw [length_onAxis]; exact hlen), axis_onAxis_other s (ne_of_mem_of_not_mem hk hj)]

/-- Each member of a gang changed in its own way, and then its leader's ramp. -/
structure State.GangMoves (s t : State) (m : Nat) (f : Nat → Axis → Axis) (r : Ramp) : Prop where
  leader : t.axis m = { f m (s.axis m) with ramp := some r }
  members : ∀ k ∈ s.gang m, k ≠ m → t.axis k = f k (s.axis k)
  other : ∀ k, k ∉ s.gang m → t.axis k = s.axis k
  frame : s.AxesOnly t

theorem onEach_ramp_moves {s : State} {m : Nat} (hm : m < 8) (hlen : s.motion.axes.length = 8) (f : Nat → Axis → Axis) (r : Ramp) :
    s.GangMoves (((s.gang m).foldl (fun t k => t.onAxis k (f k)) s).onAxis m (fun x => { x with ramp := some r })) m f r := by
  have hmember {k : Nat} (hk : k ∈ s.gang m) : ((s.gang m).foldl (fun t k => t.onAxis k (f k)) s).axis k = f k (s.axis k) :=
    axis_foldl_onEach_mem (nodup_gang s m) hk f (by rw [hlen]; exact (mem_gang.1 hk).1)
  have hlength : ((s.gang m).foldl (fun t k => t.onAxis k (f k)) s).motion.axes.length = 8 :=
    List.foldlRecOn (motive := fun t : State => t.motion.axes.length = 8) _ _ hlen (fun t ht k _ => (length_onAxis t k _).trans ht)
  have hframe : s.AxesOnly ((s.gang m).foldl (fun t k => t.onAxis k (f k)) s) :=
    List.foldlRecOn (motive := fun t => s.AxesOnly t) _ _ rfl (fun t ht k _ => axesOnly_trans ht (axesOnly_onAxis t k _))
  refine ⟨?_, fun k hk hne => ?_, fun k hk => ?_, axesOnly_trans hframe (axesOnly_onAxis _ m _)⟩
  · rw [axis_onAxis_self (by rw [hlength]; exact hm), hmember (mem_own_gang hm)]
  · rw [axis_onAxis_other _ hne, hmember hk]
  · have hne : k ≠ m := (ne_of_mem_of_not_mem (mem_own_gang hm) hk).symm
    rw [axis_onAxis_other _ hne, axis_foldl_onEach_other hk]

theorem onGang_ramp_moves {s : State} {m : Nat} (hm : m < 8) (hlen : s.motion.axes.length = 8) (f : Axis → Axis) (r : Ramp) :
    s.GangMoves ((s.onGang m f).onAxis m (fun x => { x with ramp := some r })) m (fun _ => f) r :=
  onEach_ramp_moves hm hlen (fun _ => f) r

/-- What a change of a member and a ramp of the leader both leave, every member has. -/
theorem State.GangMoves.all {s t : State} {m : Nat} {f : Nat → Axis → Axis} {r : Ramp} (h : s.GangMoves t m f r)
    {P : Axis → Axis → Prop} {k : Nat} (hk : k ∈ s.gang m) (hf : P (s.axis k) (f k (s.axis k)))
    (hramp : ∀ x y, P x y → P x { y with ramp := some r }) : P (s.axis k) (t.axis k) := by
  by_cases hkm : k = m
  · rw [hkm] at hf ⊢
    rw [h.leader]
    exact hramp _ _ hf
  · rw [h.members k hk hkm]
    exact hf

/-- A command that sets the gang moving, answered with RESULT 0. -/
theorem State.GangMoves.answered {s t : State} {m : Nat} {f : Nat → Axis → Axis} {r : Ramp} (h : s.GangMoves t m f r) (p : Path) :
    ((t.setReg (0x9020 + m) 7 0).answer p 0 []).reg (0x9020 + m) 7 = 0
      ∧ s.KeepsRegs ((t.setReg (0x9020 + m) 7 0).answer p 0 []) [regKey (0x9020 + m) 7]
      ∧ (t.setReg (0x9020 + m) 7 0).answer p 0 [] = { s with
          regs := ((t.setReg (0x9020 + m) 7 0).answer p 0 []).regs
          motion := { s.motion with axes := ((t.setReg (0x9020 + m) 7 0).answer p 0 []).motion.axes }
          out := s.out ++ [.answer p 0 []] } := by
  have hregs : t.regs = s.regs := by rw [h.frame]
  refine ⟨reg_setReg_self _ _ _ _, ?_, ?_⟩
  · exact KeepsRegs_trans (KeepsRegs_of_eq _ hregs) (KeepsRegs_setReg t _ _ _ List.mem_cons_self)
  · rw [h.frame]
    rfl

theorem go_moves {s : State} {p : Path} {m : Nat} {d : Int} (hm : m < 8) (hlen : s.motion.axes.length = 8)
    (htakes : s.Takes p (orElse (s.writeGate p (0x9020 + m) 5) (numberTest (0x9020 + m) 5 (leBytes 1 1))))
    (hd : d = s.moveBy m (s.reg (0x9020 + m) 3 == 1) (s.reg (0x9020 + m) 2)) (hresult : s.moveResult m d (s.regN (0x9020 + m) 4) = 0) :
    ∃ t r, exec (.go p m 1) s = .next t ∧ (t.axis m).ramp = some r ∧ r.total = d.natAbs ∧ r.done = 0 ∧ r.start = s.et
      ∧ r.dir = (if d < 0 then -1 else 1) ∧ (∀ k ∈ s.gang m, (t.axis k).state = .moving ∧ (t.axis k).position = (s.axis k).position)
      ∧ (∀ k, k ∉ s.gang m → t.axis k = s.axis k) ∧ t.reg (0x9020 + m) 7 = 0 ∧ s.KeepsRegs t [regKey (0x9020 + m) 7]
      ∧ t = { s with regs := t.regs, motion := { s.motion with axes := t.motion.axes }, out := s.out ++ [.answer p 0 []] } := by
  have hexec : exec (.go p m 1) s = .next (((s.startMove m d (s.regN (0x9020 + m) 4)).setReg (0x9020 + m) 7 0).answer p 0 []) := by
    rw [← axisCommand_in_turn htakes (c := .go p m 1) (rank_of_path rfl)]
    simp only [exec, execGo, ← hd, hm, if_true, hresult]
  have hmoves : s.GangMoves (s.startMove m d (s.regN (0x9020 + m) 4)) m _ _ := onGang_ramp_moves hm hlen _ _
  refine ⟨_, _, hexec, congrArg Axis.ramp hmoves.leader, rfl, rfl, rfl, rfl, fun k hk => ?_, hmoves.other, hmoves.answered p⟩
  exact hmoves.all (P := fun x y => y.state = .moving ∧ y.position = x.position) hk ⟨rfl, rfl⟩ (fun _ _ h => h)

theorem recoatFails_of_not_waiting {s : State} {m : Nat} (h : s.recoatAxis ≠ some (s.leaderOf m)) : s.recoatFails m = s := if_neg h

theorem rampDown_moves {s : State} {m : Nat} {r : Ramp} (hm : m < 8) (hlen : s.motion.axes.length = 8) (hramp : (s.axis m).ramp = some r)
    (decel : Nat) (into : RestInto) : s.GangMoves (s.rampDown m decel into) m (fun _ x => { x with state := .stopping, into := into })
      (r.takeOver s.et (fun x => stopPieces x decel (s.axisCfg m 15)) none) := by
  simp only [State.rampDown, hramp]
  exact onGang_ramp_moves hm hlen _ _

theorem stopAxis_stops {s : State} {p : Path} {m : Nat} {r : Ramp} (hm : m < 8) (hlen : s.motion.axes.length = 8)
    (htakes : s.Takes p (s.writeGate p (0x9020 + m) 6)) (hresult : s.axisResult m false = 0) (hstate : (s.axis m).state = .moving)
    (hramp : (s.axis m).ramp = some r) (hrecoat : s.recoatAxis ≠ some (s.leaderOf m)) :
    ∃ t, exec (.stopAxis p m) s = .next t ∧ (∀ k ∈ s.gang m, (t.axis k).state = .stopping ∧ (t.axis k).into = .hold)
      ∧ (t.axis m).ramp.isSome = true ∧ (∀ k, k ∉ s.gang m → t.axis k = s.axis k) ∧ t.reg (0x9020 + m) 7 = 0
      ∧ s.KeepsRegs t [regKey (0x9020 + m) 7]
      ∧ t = { s with regs := t.regs, motion := { s.motion with axes := t.motion.axes }, out := s.out ++ [.answer p 0 []] } := by
  let u := s.rampDown m (s.axisCfg m 0x10) .hold
  have hmoves := rampDown_moves hm hlen hramp (s.axisCfg m 0x10) .hold
  have hfails : u.recoatFails m = u := by
    refine recoatFails_of_not_waiting ?_
    rw [show u = _ from hmoves.frame]
    exact hrecoat
  have hstop : s.stopAxis m = u := by
    have habort : s.abortHoming m 1 = s := if_neg (by rw [hstate]; decide)
    rw [State.stopAxis, if_pos (.inl hstate), habort, hfails]
  have hexec : exec (.stopAxis p m) s = .next ((u.setReg (0x9020 + m) 7 0).answer p 0 []) := by
    rw [← hstop, ← axisCommand_in_turn (takes_no_test htakes) (c := .stopAxis p m) (rank_of_path rfl)]
    simp only [exec, execStopAxis, hm, if_true, hresult]
  refine ⟨_, hexec, fun k hk => ?_, ?_, hmoves.other, hmoves.answered p⟩
  · exact hmoves.all (P := fun _ y => y.state = .stopping ∧ y.into = .hold) hk ⟨rfl, rfl⟩ (fun _ _ h => h)
  · exact congrArg Option.isSome (congrArg Axis.ramp hmoves.leader)

theorem home_searches {s : State} {p : Path} {m : Nat} (hm : m < 8) (hlen : s.motion.axes.length = 8)
    (htakes : s.Takes p (s.writeGate p (0x9020 + m) 6)) (hresult : s.homeResult m = 0) :
    ∃ t r, exec (.home p m) s = .next t ∧ (t.axis m).ramp = some r ∧ r.done = 0 ∧ r.start = s.et
      ∧ r.dir = (if s.homePositive m = true then 1 else -1)
      ∧ (∀ k ∈ s.gang m, (t.axis k).state = .homing ∧ ((t.axis k).homing.map (fun z => z.phase)) = some .search)
      ∧ (∀ k, k ∉ s.gang m → t.axis k = s.axis k) ∧ t.reg (0x9020 + m) 7 = 0 ∧ s.KeepsRegs t [regKey (0x9020 + m) 7]
      ∧ t = { s with regs := t.regs, motion := { s.motion with axes := t.motion.axes }, out := s.out ++ [.answer p 0 []] } := by
  have hexec : exec (.home p m) s = .next (((s.startHome m).setReg (0x9020 + m) 7 0).answer p 0 []) := by
    rw [← axisCommand_in_turn (takes_no_test htakes) (c := .home p m) (rank_of_path rfl)]
    simp only [exec, execHome, hm, if_true, hresult]
  have hmoves : s.GangMoves (s.startHome m) m _ _ := onGang_ramp_moves hm hlen _ _
  refine ⟨_, _, hexec, congrArg Axis.ramp hmoves.leader, rfl, rfl, rfl, fun k hk => ?_, hmoves.other, hmoves.answered p⟩
  exact hmoves.all (P := fun _ y => y.state = .homing ∧ (y.homing.map (fun z => z.phase)) = some .search) hk ⟨rfl, rfl⟩
    (fun _ _ h => h)

/-! #### MICROSTEP, MOVE_COMPLETE and HOLD_DELAY_EXPIRY (R488, R493, R495) -/

/-- An axis with a ramp or a state of its own is one of the eight. -/
theorem axis_lt_of_ramp {s : State} {m : Nat} {r : Ramp} (hlen : s.motion.axes.length = 8) (hramp : (s.axis m).ramp = some r) : m < 8 :=
  hlen ▸ axis_in_range (fun h => by rw [h] at hramp; cases hramp)

theorem microstep_steps {s : State} {m : Nat} {r : Ramp} (hlen : s.motion.axes.length = 8) (hramp : (s.axis m).ramp = some r)
    (hmore : r.done < r.total) (hnone : ∀ k ∈ s.gang m, (s.axis k).homing = none) :
    ∃ t q, exec (.microstep m) s = .next t ∧ (t.axis m).ramp = some q
      ∧ q.done = r.done + 1 ∧ q.total = r.total ∧ q.lastIo = r.stepIo (r.done + 1)
      ∧ (∀ k ∈ s.gang m, (t.axis k).position = (s.axis k).position + r.dir ∧ (t.axis k).state = (s.axis k).state)
      ∧ (∀ k, k ∉ s.gang m → t.axis k = s.axis k) ∧ t = { s with motion := { s.motion with axes := t.motion.axes } } := by
  have hm := axis_lt_of_ramp hlen hramp
  have hmoves : s.GangMoves (s.stepGang m r) m _ _ := onEach_ramp_moves hm hlen _ _
  have hstep {k : Nat} (hk : k ∈ s.gang m) : ((s.stepGang m r).axis k).position = (s.axis k).position + r.dir
      ∧ ((s.stepGang m r).axis k).state = (s.axis k).state ∧ ((s.stepGang m r).axis k).homing = none := by
    refine hmoves.all (P := fun x y => y.position = x.position + r.dir ∧ y.state = x.state ∧ y.homing = none) hk ?_ (fun _ _ h => h)
    simp [hnone k hk, Axis.step]
  have htravel : (s.stepGang m r).travelSpent m = s.stepGang m r := by
    simp only [State.travelSpent, (hstep (mem_own_gang hm)).2.2]
  have hexec : exec (.microstep m) s = .next (s.stepGang m r) := by
    simp only [exec, execMicrostep, hramp, if_pos hmore, htravel]
  exact ⟨_, _, hexec, congrArg Axis.ramp hmoves.leader, rfl, rfl, rfl, fun k hk => ⟨(hstep hk).1, (hstep hk).2.1⟩, hmoves.other, hmoves.frame⟩

theorem moveComplete_holds {s : State} {m : Nat} {r : Ramp} (hlen : s.motion.axes.length = 8) (hramp : (s.axis m).ramp = some r)
    (hdone : r.total ≤ r.done) (hstate : (s.axis m).state = .moving) (hrecoat : s.recoatAxis ≠ some m) :
    ∃ t, exec (.moveComplete m) s = .next t
      ∧ (∀ k ∈ s.gang m, (t.axis k).state = .hold ∧ (t.axis k).ramp = none ∧ (t.axis k).position = (s.axis k).position)
      ∧ (∀ k, k ∉ s.gang m → t.axis k = s.axis k) ∧ t = { s with motion := { s.motion with axes := t.motion.axes } } := by
  have hexec : exec (.moveComplete m) s = .next (s.settle m .hold) := by
    simp [exec, execMoveComplete, Axis.atRest, hramp, hdone, State.moveDone, hstate, hrecoat]
  refine ⟨_, hexec, fun k hk => ?_, fun k hk => axis_onGang_other hk _, axesOnly_onGang s m _⟩
  rw [State.settle, axis_onGang_mem hlen hk]
  exact ⟨rfl, rfl, rfl⟩

theorem holdDelayExpiry_lowers {s : State} {m : Nat} (hm : m < s.motion.axes.length) (hidle : (s.axis m).busy = false) :
    ∃ t, exec (.holdDelayExpiry m) s = .next t ∧ t.axis m = { s.axis m with running := false } ∧ (∀ k, k ≠ m → t.axis k = s.axis k)
      ∧ t = { s with motion := { s.motion with axes := t.motion.axes } } := by
  refine ⟨_, rfl, ?_, fun k hk => axis_onAxis_other s hk _, rfl⟩
  rw [axis_onAxis_self hm, hidle]
  rfl

/-! #### CHOP_CYCLE (R487 to R490) -/

theorem chopCycle_adapts {s : State} {m t1 t2 : Nat} {a : Int} (hm : m < 8) (hlen : m < s.motion.axes.length)
    (hpowered : (s.axis m).powered = true) (htarget : s.cycleTarget m false ≠ 0)
    (ha : adapted (s.axis m).coilA.offset (100 * s.axisCfg m 6) (s.axisCfg m 11) (s.axisCfg m 10) t1 t2 = some a) :
    ∃ t d, exec (.chopCycle m false true t1 t2) s = .next t ∧ t.axis m = { s.axis m with coilA := d }
      ∧ d.offset = a ∧ d.runs = 0 ∧ d.target = s.coilTarget m false
      ∧ d.fell = some ((s.cycleTarget m false).sign, s.et - 625 * s.axisCfg m 6)
      ∧ (∀ k, k ≠ m → t.axis k = s.axis k) ∧ t = { s with motion := { s.motion with axes := t.motion.axes } } := by
  have hexec : exec (.chopCycle m false true t1 t2) s = .next (s.onAxis m (fun y => { y with coilA := s.cycled m false true a })) := by
    have hcoil : s.coil m false = (s.axis m).coilA := rfl
    have hruns : (s.cycled m false true a).runs = 0 := rfl
    simp [exec, execChopCycle, hm, hpowered, htarget, State.chop, hcoil, ha, hruns]
  exact ⟨_, _, hexec, axis_onAxis_self hlen _, rfl, rfl, rfl, rfl, fun k hk => axis_onAxis_other s hk _, rfl⟩

/-- Settles O55: each command that is answered leaves RESULT 0, and what it does to the gang is the lemma of its name. -/
theorem axisCommandsComplete : Obligations.AxisCommandsComplete :=
  ⟨fun _ _ _ hm hlen htakes => ⟨enableAxis_enables hm hlen htakes, enableAxis_disables hm hlen htakes⟩,
    fun _ _ _ _ hm hlen htakes hd hresult => go_moves hm hlen htakes hd hresult,
    fun _ _ _ _ hm hlen htakes hresult hstate hramp hrecoat => stopAxis_stops hm hlen htakes hresult hstate hramp hrecoat,
    fun _ _ _ hm hlen htakes hresult => home_searches hm hlen htakes hresult,
    fun _ _ _ hlen hramp hmore hnone => microstep_steps hlen hramp hmore hnone,
    fun _ _ _ hlen hramp hdone hstate hrecoat => moveComplete_holds hlen hramp hdone hstate hrecoat,
    fun _ _ hm hidle => holdDelayExpiry_lowers hm hidle,
    fun _ _ _ _ _ hm hlen hpowered htarget ha => chopCycle_adapts hm hlen hpowered htarget ha⟩

end Sys2Proof.Machine

/-! ### Encoder edges (R504): levels that were sampled before are no edge, whatever has been accepted -/

namespace Sys2Proof.Machine

theorem quadEdge_of_same_levels {s : State} {e levels : Nat} (h : levels = (s.encoder e).levels) : s.quadEdge e levels = s := if_pos h

/-- Channel 0 in quadrature mode, its window over, with B sampled high and never accepted. -/
def State.edgeSampled : State := State.reset.onEncoder 0 (fun x => { x with levels := 1 })

theorem edgeSampled_ignores_edge : exec (.encoderEdge 0 1) State.edgeSampled = .next State.edgeSampled := by
  have hsame : State.edgeSampled.quadEdge 0 1 = State.edgeSampled := quadEdge_of_same_levels rfl
  have hturn : State.edgeSampled.turn 10 = true := rfl
  simp only [exec, execEncoderEdge, inTurn_in_turn (c := .encoderEdge 0 1) _ hturn]
  exact congrArg Host.Outcome.next ((if_pos ⟨by decide, rfl⟩).trans hsame)

/-- Refutes O57: an edge that brings the levels sampled last is ignored although they differ from the accepted ones, so no window
opens. -/
theorem not_feedbackCommandsComplete : ¬ Obligations.FeedbackCommandsComplete := by
  intro h
  obtain ⟨hedge, -⟩ := h
  obtain ⟨t, hexec, -, -, hwindow, -⟩ := hedge State.edgeSampled 0 1 (by decide) (by decide) rfl rfl rfl (by decide)
  rw [edgeSampled_ignores_edge] at hexec
  cases hexec
  cases hwindow

end Sys2Proof.Machine

namespace Sys2Proof.Machine

/-! ### The test access port (R682 to R684) -/

theorem tapClocked_onlyTap (s : State) (tdi : Bool) :
    s.tapClocked tdi = { s with tap := (s.tapClocked tdi).tap, fresh := (s.tapClocked tdi).fresh } := by
  unfold State.tapClocked
  split <;> rfl

/-- Clocking moves the shift registers alone. -/
theorem tapClocked_keeps (s : State) (tdi : Bool) : (s.tapClocked tdi).tap.state = s.tap.state
    ∧ (s.tapClocked tdi).tap.instr = s.tap.instr ∧ (s.tapClocked tdi).tap.latches = s.tap.latches := by
  unfold State.tapClocked
  split <;> exact ⟨rfl, rfl, rfl⟩

theorem tapRises_onlyTap (s : State) (tms tdi : Bool) :
    s.tapRises tms tdi = { s with tap := (s.tapRises tms tdi).tap, fresh := (s.tapRises tms tdi).fresh } := by
  unfold State.tapRises
  rw [tapClocked_onlyTap]

theorem tapRises_moves (s : State) (tms tdi : Bool) : (s.tapRises tms tdi).tap.state = s.tap.state.next tms
    ∧ (s.tapRises tms tdi).tap.instr = s.tap.instr ∧ (s.tapRises tms tdi).tap.latches = s.tap.latches := by
  obtain ⟨hstate, hinstr, hlatches⟩ := tapClocked_keeps s tdi
  exact ⟨congrArg (TapState.next · tms) hstate, hinstr, hlatches⟩

theorem updateLatches_onlyTap (s : State) : s.updateLatches = { s with tap := s.updateLatches.tap } := by
  unfold State.updateLatches
  split <;> rfl

theorem updateLatches_tap_state (s : State) : s.updateLatches.tap.state = s.tap.state := by
  unfold State.updateLatches
  split <;> rfl

theorem tapFalls_onlyTap (s : State) : s.tapFalls = { s with tap := s.tapFalls.tap } := by
  unfold State.tapFalls
  split
  · rfl
  · rw [updateLatches_onlyTap]
  · rfl
  · rfl

theorem tapFalls_tap_state (s : State) : s.tapFalls.tap.state = s.tap.state := by
  unfold State.tapFalls
  split
  · rfl
  · exact updateLatches_tap_state s
  · rfl
  · rfl

theorem harmless_idem (i : TapInstr) : i.harmless.harmless = i.harmless := by cases i <;> rfl

/-- What an update loads while the test instructions may not take effect (R683). -/
theorem tapFalls_loads_harmless {s : State} (hupdate : s.tap.state = .updateIr) (hforbidden : s.testAllowed = false) :
    s.tapFalls.tap.instr = s.tapFalls.tap.instr.harmless := by
  have hload : s.tapFalls.tap.instr = (tapInstrOf s.tap.shiftIr).harmless := by
    simp [State.tapFalls, hupdate, State.loadInstr, hforbidden]
  rw [hload, harmless_idem]

/-- Test-Logic-Reset is at most five steps of TMS high from every state. -/
theorem five_tms_high_reset (x : TapState) :
    ((((x.next true).next true).next true).next true).next true = .testLogicReset := by cases x <;> rfl

/-- Settles O41: the two edges move only the port, and a load that is not allowed is made harmless. -/
theorem tapClockComplete : Obligations.TapClockComplete := by
  refine ⟨fun s rising tms tdi hon => ?_, fun s tms tdi hon => ?_, fun s tms tdi hon => ?_, five_tms_high_reset⟩
  · have hexec : exec (.jtagTckEdge rising tms tdi false) s = .next s.tapReset :=
      congrArg Host.Outcome.next (by simp [hon])
    exact ⟨_, hexec, rfl, rfl, rfl, rfl⟩
  · have hexec : exec (.jtagTckEdge true tms tdi true) s = .next (s.tapRises tms tdi) :=
      congrArg Host.Outcome.next (by simp [hon])
    obtain ⟨hstate, hinstr, hlatches⟩ := tapRises_moves s tms tdi
    exact ⟨_, hexec, hstate, hinstr, hlatches, tapRises_onlyTap s tms tdi⟩
  · have hexec : exec (.jtagTckEdge false tms tdi true) s = .next s.tapFalls :=
      congrArg Host.Outcome.next (by simp [hon])
    exact ⟨_, hexec, tapFalls_tap_state s, tapFalls_onlyTap s, tapFalls_loads_harmless⟩

end Sys2Proof.Machine

namespace Sys2Proof.Machine

/-! ### Images, trials and the factory block (R615 to R633) -/

/-- The copy just written has the highest sequence number (R631). -/
theorem current_writeBoot (i : Images) (preferred trial slot : Nat) :
    (i.writeBoot preferred trial slot).current = ⟨i.current.seq + 1, preferred, trial, slot⟩ := by
  rw [Images.current, Images.writeBoot]
  by_cases h : 0 < i.current.seq
  · simp [h]
  · simp [h]

theorem install_slot_target (i : Images) (n kind : Nat) (bs : List Byte) : (i.install n kind bs).slot n =
    if kind = 1 then { i.slot n with sf := some bs } else { i.slot n with mc := some bs } := by
  by_cases hn : n = 0 <;> simp [Images.install, Images.slot, hn]

theorem install_slot_other (i : Images) (n kind : Nat) (bs : List Byte) :
    (i.install n kind bs).slot (1 - n) = i.slot (1 - n) := by
  by_cases hn : n = 0
  · simp [Images.install, Images.slot, hn]
  · have hother : 1 - n = 0 := by omega
    simp [Images.install, Images.slot, hn, hother]

theorem install_boot (i : Images) (n kind : Nat) (bs : List Byte) : (i.install n kind bs).boot = i.boot := by
  by_cases hn : n = 0 <;> simp [Images.install, hn]

theorem getLast_out_answer (s : State) (p : Path) (a : Nat) (d : List Byte) :
    (s.answer p a d).out.getLast? = some (.answer p a d) := by
  rw [answer_out, List.getLast?_append]
  rfl

theorem imageWritten_images (s : State) (kind : Nat) (bs : List Byte) :
    (s.imageWritten kind bs).images = s.images.install s.images.target kind bs := by simp [State.imageWritten]

theorem imageWritten_reports (s : State) (kind : Nat) (bs : List Byte) :
    ({ s with images := (s.imageWritten kind bs).images } : State).ReportsWith (s.imageWritten kind bs) [regKey 0xB001 5] := by
  rw [imageWritten_images]
  have hresult := ReportsWith_setReg { s with images := s.images.install s.images.target kind bs } 0xB001 5 0
    (List.mem_singleton.mpr rfl)
  exact ReportsWith_trans hresult (ReportsWith_of_Reports _ (Reports_trans (Reports_setLeaf _ 0x2110 4) (Reports_record _ 0x0050 _)))

/-- The leaf and the record of a write leave RESULT at 0. -/
theorem imageWritten_result (s : State) (kind : Nat) (bs : List Byte) : (s.imageWritten kind bs).reg 0xB001 5 = 0 := by
  have hreports := Reports_trans
    (Reports_setLeaf (({ s with images := s.images.install s.images.target kind bs } : State).setReg 0xB001 5 0) 0x2110 4)
    (Reports_record _ 0x0050 ([byteOf kind, byteOf s.images.target] ++ leBytes 4 (imageVersion bs)))
  exact (hreports.regs _ (by decide)).trans (reg_setReg_self _ _ _ _)

/-- The outcomes of an accepted image write, by its checks and by the flash write (R627, R633). -/
theorem writeImage_accepted {s : State} {p : Path} {kind : Nat} (h : s.Takes p (s.imageRefusal p kind)) (bs : List Byte) :
    (imageFault kind s.fuses.revision bs = none → s.writeImage p kind bs true = (s.imageWritten kind bs).answer p 0 []
      ∧ s.writeImage p kind bs false = (s.setReg 0xB001 5 4).answer p 0x00050001 [])
    ∧ ∀ (r : Nat) (good : Bool), imageFault kind s.fuses.revision bs = some r →
      s.writeImage p kind bs good = (s.setReg 0xB001 5 r).answer p 0x00030002 [] := by
  refine ⟨fun hsound => ⟨?_, ?_⟩, fun r good hfault => ?_⟩
  · simp [State.writeImage, h.accepted, hsound]
  · simp [State.writeImage, h.accepted, hsound, Abort.code]
  · simp [State.writeImage, h.accepted, hfault, Abort.code]

/-- An image command in its turn is its write. -/
theorem servedWrite_in_turn {s : State} {p : Path} {refusal : Option Abort} (h : s.Takes p refusal) {c : Instr}
    (hrank : c.rank = pathRank p) (done : State) :
    s.inTurnOf p c (if s.served p then done else s) = done := by
  rw [inTurnOf_in_turn _ (by rw [hrank]; exact h.turn), if_pos h.served]

/-- What O30 says of a write of an image of a kind that is in flash. -/
theorem imageWritten_answer_facts (s : State) (p : Path) (kind : Nat) (bs : List Byte) :
    ((s.imageWritten kind bs).answer p 0 []).reg 0xB001 5 = 0
    ∧ (((s.imageWritten kind bs).answer p 0 []).images.slot (1 - s.images.target)) = s.images.slot (1 - s.images.target)
    ∧ ((s.imageWritten kind bs).answer p 0 []).images.boot = s.images.boot
    ∧ ((s.imageWritten kind bs).answer p 0 []).out.getLast? = some (.answer p 0 [])
    ∧ ({ s with images := ((s.imageWritten kind bs).answer p 0 []).images } : State).ReportsWith
        ((s.imageWritten kind bs).answer p 0 []) [regKey 0xB001 5] := by
  refine ⟨imageWritten_result s kind bs, ?_, ?_, getLast_out_answer _ p 0 [],
    ReportsWith_trans (imageWritten_reports s kind bs) (ReportsWith_of_Reports _ (Reports_answer _ p 0 []))⟩
  · exact (congrArg (Images.slot · _) (imageWritten_images s kind bs)).trans (install_slot_other _ _ _ _)
  · exact (congrArg Images.boot (imageWritten_images s kind bs)).trans (install_boot _ _ _ _)

/-- An image of a kind that is in flash stands in the target slot. -/
theorem imageWritten_slot (s : State) (p : Path) (kind : Nat) (bs : List Byte) :
    ((s.imageWritten kind bs).answer p 0 []).images.slot s.images.target =
      if kind = 1 then { s.images.slot s.images.target with sf := some bs }
      else { s.images.slot s.images.target with mc := some bs } :=
  (congrArg (Images.slot · _) (imageWritten_images s kind bs)).trans (install_slot_target _ _ _ _)

theorem confirmTrial_images {s : State} {n : Nat} (hrun : s.images.running = some n) :
    s.confirmTrial.images = s.images.writeBoot n 4 n := by simp [State.confirmTrial, hrun]

theorem confirmTrial_reports (s : State) : ({ s with images := s.confirmTrial.images } : State).Reports s.confirmTrial := by
  have himages : s.confirmTrial.images = s.images.writeBoot (s.images.running.getD 0) 4 (s.images.running.getD 0) := by
    simp [State.confirmTrial]
  rw [himages]
  exact Reports_trans (Reports_setLeaf _ 0x2110 2) (Reports_record _ 0x0053 _)

/-- CONFIRM of 1 in STANDBY during a trial (R630). -/
theorem confirm_accepted {s : State} {p : Path} (h : s.Takes p (s.writeGate p 0xB001 4)) (hstate : s.dev.state = .standby)
    (htrial : s.images.current.trial = 2) : exec (.confirm p 1) s = .next (s.confirmTrial.answer p 0 []) := by
  have htest : orElse (numberTest 0xB001 4 (leBytes 1 1))
      (refuseIf (decide ((1 : Nat) = 1) && !(s.dev.state == .standby && s.images.current.trial == 2)) .conditions) = none := by
    simp [hstate, htrial, refuseIf]
    rfl
  exact congrArg Host.Outcome.next (accepted_in_turn (takes_orElse h htest) (c := .confirm p 1) (rank_of_path rfl) _ _)

/-- The trial confirmed, with everything that O30 and O58 say of it. -/
theorem confirm_ends_trial {s : State} {p : Path} {n : Nat} (h : s.Takes p (s.writeGate p 0xB001 4)) (hstate : s.dev.state = .standby)
    (htrial : s.images.current.trial = 2) (hrun : s.images.running = some n) :
    ∃ t, exec (.confirm p 1) s = .next t ∧ t.images.current.preferred = n ∧ t.images.current.trial = 4
      ∧ t.images.slotA = s.images.slotA ∧ t.images.slotB = s.images.slotB ∧ t.images.running = s.images.running
      ∧ t.out.getLast? = some (.answer p 0 []) ∧ ({ s with images := t.images } : State).Reports t := by
  have himages : (s.confirmTrial.answer p 0 []).images = s.images.writeBoot n 4 n := confirmTrial_images hrun
  refine ⟨_, confirm_accepted h hstate htrial, ?_, ?_, ?_, ?_, ?_, getLast_out_answer _ p 0 [],
    Reports_trans (confirmTrial_reports s) (Reports_answer _ p 0 [])⟩
  · rw [himages, current_writeBoot]
  · rw [himages, current_writeBoot]
  · rw [himages, Images.writeBoot]
  · rw [himages, Images.writeBoot]
  · rw [himages, Images.writeBoot]

/-- Outside STANDBY with a trial running CONFIRM of 1 aborts (R630). -/
theorem confirm_refused {s : State} {p : Path} (h : s.Takes p (s.writeGate p 0xB001 4))
    (hno : ¬(s.dev.state = .standby ∧ s.images.current.trial = 2)) :
    exec (.confirm p 1) s = .next (s.answer p 0x00030003 []) := by
  have htest : orElse (s.writeGate p 0xB001 4) (orElse (numberTest 0xB001 4 (leBytes 1 1))
      (refuseIf (decide ((1 : Nat) = 1) && !(s.dev.state == .standby && s.images.current.trial == 2)) .conditions))
        = some .conditions := by
    have hvalue : numberTest 0xB001 4 (leBytes 1 1) = none := rfl
    rw [h.accepted, hvalue]
    simpa [orElse, refuseIf] using fun hstate htrial => hno ⟨hstate, htrial⟩
  have hturn : s.turn (Instr.confirm p 1).rank = true := (rank_of_path (c := .confirm p 1) (p := p) rfl) ▸ h.turn
  refine congrArg Host.Outcome.next ((inTurnOf_in_turn _ hturn).trans ?_)
  rw [State.access, if_pos h.served, htest]
  rfl

/-- Settles O58, by the two outcomes of CONFIRM. -/
theorem confirmEndsATrialInStandbyOnly : Obligations.ConfirmEndsATrialInStandbyOnly := fun _ _ h =>
  ⟨fun hstate htrial _ hrun => confirm_ends_trial h hstate htrial hrun, fun hno => confirm_refused h hno⟩

/-- TRIAL of 1 at a complete target slot and at any other (R629). -/
theorem trial_in_turn {s : State} {p : Path} (h : s.Takes p (s.writeGate p 0xB001 3)) :
    exec (.trial p 1) s = .next (if (s.images.slot s.images.target).complete s.fuses.revision
      then ({ s with images := s.images.writeBoot s.images.current.preferred 1 s.images.target } : State).answer p 0 []
      else (s.setReg 0xB001 5 5).answer p 0x00030003 []) := by
  have hboth := takes_orElse (test := numberTest 0xB001 3 (leBytes 1 1)) h rfl
  refine congrArg Host.Outcome.next ((servedWrite_in_turn h (c := .trial p 1) (rank_of_path rfl) _).trans ?_)
  rw [State.writeTrial, hboth.accepted]
  rfl

/-- Settles O30: the outcomes of the image writes are those of `writeImage_accepted`. -/
theorem imageAndTrialCommandsComplete : Obligations.ImageAndTrialCommandsComplete := by
  refine ⟨fun s p bs h => ?_, fun s p bs h => ?_, fun s p h => ⟨fun hcomplete => ?_, fun hpart => ?_⟩,
    fun s p n h hstate htrial hrun => ?_, fun s p bs h => ?_⟩
  · obtain ⟨hsound, hfault⟩ := writeImage_accepted h bs
    have hexec (good : Bool) : exec (.sfImage p bs good) s = .next (s.writeImage p 1 bs good) :=
      congrArg Host.Outcome.next (servedWrite_in_turn h (c := .sfImage p bs good) (rank_of_path rfl) _)
    obtain ⟨hresult, hother, hboot, hout, hreports⟩ := imageWritten_answer_facts s p 1 bs
    exact ⟨fun hnone => ⟨_, (hexec true).trans (congrArg _ (hsound hnone).1), hresult,
        congrArg Slot.sf (imageWritten_slot s p 1 bs), hother, hboot, hout, hreports⟩,
      fun hnone => (hexec false).trans (congrArg _ (hsound hnone).2),
      fun r good hsome => (hexec good).trans (congrArg _ (hfault r good hsome))⟩
  · obtain ⟨hsound, hfault⟩ := writeImage_accepted h bs
    have hexec (good : Bool) : exec (.mcImage p bs good) s = .next (s.writeImage p 2 bs good) :=
      congrArg Host.Outcome.next (servedWrite_in_turn h (c := .mcImage p bs good) (rank_of_path rfl) _)
    obtain ⟨hresult, hother, hboot, hout, hreports⟩ := imageWritten_answer_facts s p 2 bs
    exact ⟨fun hnone => ⟨_, (hexec true).trans (congrArg _ (hsound hnone).1), hresult,
        congrArg Slot.mc (imageWritten_slot s p 2 bs), hother, hboot, hout, hreports⟩,
      fun hnone => (hexec false).trans (congrArg _ (hsound hnone).2),
      fun r good hsome => (hexec good).trans (congrArg _ (hfault r good hsome))⟩
  · rw [trial_in_turn h, if_pos hcomplete]
  · rw [trial_in_turn h, if_neg (by rw [hpart]; decide)]
  · obtain ⟨t, hexec, hpreferred, htrial', hA, hB, -, hout, hreports⟩ := confirm_ends_trial h hstate htrial hrun
    exact ⟨t, hexec, hpreferred, htrial', hA, hB, hout, hreports⟩
  · exact congrArg Host.Outcome.next (accepted_in_turn h (c := .factoryBlock p bs) (rank_of_path rfl) _ _)

end Sys2Proof.Machine

namespace Sys2Proof.Machine

/-! ### CAUSE and TAKE (R641 to R646) -/

/-- A leaf cleared keeps the events of the present cycle only, whether it was set or not. -/
theorem cleared_of_events (l : Leaf) :
    l.cleared.before = 0 ∧ l.cleared.now = l.now := by
  unfold Leaf.cleared Leaf.isSet
  by_cases h : 0 < l.before + l.now
  · simp [h]
  · simp only [h, decide_false, Bool.false_eq_true, if_false, and_true]
    omega

theorem map_cleared_keys (leaves : List Leaf) (named : Leaf → Prop) [DecidablePred named] :
    (leaves.map (fun l => if named l then l.cleared else l)).map Leaf.key = leaves.map Leaf.key := by
  rw [List.map_map]
  refine List.map_congr_left fun l _ => ?_
  by_cases h : named l <;> simp [h]

/-- Each leaf of a clear, by whether the clear names it. -/
theorem map_cleared_leaf (leaves : List Leaf) (named : Leaf → Prop) [DecidablePred named] (i : Nat) (h : i < leaves.length) :
    ∃ l, (leaves.map (fun l => if named l then l.cleared else l))[i]? = some l
      ∧ (named leaves[i] → l = leaves[i].cleared) ∧ (¬ named leaves[i] → l = leaves[i]) :=
  ⟨_, by rw [List.getElem?_map, List.getElem?_eq_getElem h]; rfl, fun hnamed => if_pos hnamed, fun hnot => if_neg hnot⟩

/-- Settles O26: both commands map the leaves, so each leaf is cleared or stays by whether it is named. -/
theorem causeAndTakeComplete : Obligations.CauseAndTakeComplete := by
  refine ⟨fun s p reg value h => ?_, fun s p reg h => ?_⟩
  · refine ⟨_, congrArg Host.Outcome.next (accepted_in_turn h (c := .cause p reg value) (rank_of_path rfl) _ _), rfl,
      map_cleared_keys _ _, fun i hi => ?_⟩
    obtain ⟨l, hl, hnamed, hnot⟩ := map_cleared_leaf s.leaves
      (fun l => l.reg = reg ∧ value.testBit l.bit ∧ bootHeld reg l.bit = false) i hi
    refine ⟨l, hl, fun hn => ?_, hnot⟩
    obtain ⟨hbefore, hnow⟩ := cleared_of_events s.leaves[i]
    rw [hnamed hn, Leaf.count, Leaf.isSet, hbefore, hnow, Nat.zero_add]
    exact ⟨rfl, rfl⟩
  · refine ⟨_, congrArg Host.Outcome.next (accepted_in_turn h (c := .take p reg) (rank_of_path rfl) _ _), rfl,
      map_cleared_keys _ _, fun i hi => ?_⟩
    obtain ⟨l, hl, hnamed, hnot⟩ := map_cleared_leaf s.leaves (fun l => l.reg = reg
      ∧ ((s.on p).takeMask reg).testBit l.bit ∧ 0 < l.before ∧ bootHeld reg l.bit = false) i hi
    exact ⟨l, hl, fun hn => hnamed hn ▸ cleared_of_events s.leaves[i], hnot⟩

/-! ### Reading records (R660, R661) -/

theorem leNat_lt (bs : List Byte) : leNat bs < 256 ^ bs.length := by
  induction bs with
  | nil => decide
  | cons b bs ih =>
    have hb := b.isLt
    rw [leNat, List.length_cons, Nat.pow_succ]
    omega

/-- Four bytes are a value that CURSOR takes. -/
theorem cursor_in_range (n : Nat) : numberTest 0xC001 2 (leBytes 4 n) = none := by
  have hlt : leNat (leBytes 4 n) < 256 ^ 4 := by simpa using leNat_lt (leBytes 4 n)
  have hentry : entryOf 0xC001 2 = some ⟨2, 1, "CURSOR", .u32, .rw, 0, none, false⟩ := rfl
  simp only [numberTest, hentry]
  simp only [ObjEntry.isBytes, ObjEntry.inRange, ValType.read, ValType.limits, ValType.signed, ValType.bytes, length_leBytes]
  simp
  omega

theorem nextRecord_in_turn {s : State} {p : Path} (h : s.Takes p (s.writeGate p 0xC001 5)) :
    exec (.nextRecord p 1) s = .next ((s.setSession (pathNumber p) ((s.on p).nextRecord s.recorder)).answer p 0 []) :=
  congrArg Host.Outcome.next
    (accepted_in_turn (takes_orElse (test := numberTest 0xC001 5 (leBytes 1 1)) h rfl) (c := .nextRecord p 1) (rank_of_path rfl) _ _)

/-- A record older than the oldest of its area is not held. -/
theorem record?_of_older {r : Recorder} {area number : Nat} (h : r.readStatus area number = 1) : r.record? area number = none := by
  have hgone : r.holds area number = false := by
    by_contra hheld
    rw [Recorder.readStatus, if_pos (Bool.eq_true_of_not_eq_false hheld)] at h
    exact absurd h (by decide)
  simp [Recorder.record?, hgone]

/-- Settles O28: the window by the three cases of `Session.nextRecord`. -/
theorem recorderReadingCommandsComplete : Obligations.RecorderReadingCommandsComplete := by
  refine ⟨fun s p n _ h => ?_, fun s p h => ⟨fun e he => ⟨fun hwithin => ?_, fun hend => ?_⟩, fun holder => ⟨_, ?_, rfl⟩⟩⟩
  · exact congrArg Host.Outcome.next
      (accepted_in_turn (takes_orElse h (cursor_in_range n)) (c := .cursor p n) (rank_of_path rfl) _ _)
  · rw [nextRecord_in_turn h]
    simp [Session.nextRecord, he, hwithin]
  · rw [nextRecord_in_turn h]
    simp [Session.nextRecord, he, Nat.not_lt.mpr hend]
  · rw [nextRecord_in_turn h]
    simp [Session.nextRecord, record?_of_older holder, holder]

end Sys2Proof.Machine

namespace Sys2Proof.Machine

/-! ### Writing records (R653 to R659, R664) -/

/-- All but the event recorder goes from s to t by reports. -/
def State.ReportsBesideRecorder (s t : State) : Prop := ({ s with recorder := t.recorder } : State).Reports t

theorem besideRecorder_refl (s : State) : s.ReportsBesideRecorder s := Reports_refl s

theorem besideRecorder_trans {s t u : State} (h : s.ReportsBesideRecorder t) (g : t.ReportsBesideRecorder u) :
    s.ReportsBesideRecorder u :=
  have h' : ({ s with recorder := u.recorder } : State).Reports { t with recorder := u.recorder } := { h with flashRecords := rfl }
  Reports_trans h' g

theorem besideRecorder_of_Reports {s t : State} (h : s.Reports t) : s.ReportsBesideRecorder t := { h with flashRecords := rfl }

/-- A state with another recorder, and then a report. -/
theorem besideRecorder_of_recorder {s t : State} {r : Recorder} (h : ({ s with recorder := r } : State).Reports t) :
    s.ReportsBesideRecorder t := { h with flashRecords := rfl }

theorem bedrockFull_reports (s : State) : s.Reports s.bedrockFull := by
  unfold State.bedrockFull
  split
  · exact Reports_setLeaf s 0x2111 1
  · exact Reports_refl s

theorem reportLost_of_none_lost {s : State} (h : s.recorder.lost = 0) : s.reportLost = s := by simp [State.reportLost, h]

/-- One record written, with no lost record to report. -/
theorem flashOne_of_queued {s : State} {e : EventRecord} {rest : List EventRecord} (hq : s.recorder.queue = e :: rest)
    (hlost : s.recorder.lost = 0) : s.flashOne = ({ s with recorder := s.recorder.written } : State).bedrockFull := by
  have hnone : s.recorder.written.lost = 0 := by simpa [Recorder.written, hq] using hlost
  rw [State.flashOne, if_neg (by rw [hq]; exact List.cons_ne_nil e rest)]
  exact reportLost_of_none_lost (by simpa using hnone)

theorem flashOne_recorder {s : State} {e : EventRecord} {rest : List EventRecord} (hq : s.recorder.queue = e :: rest)
    (hlost : s.recorder.lost = 0) : s.flashOne.recorder = s.recorder.written := by
  rw [flashOne_of_queued hq hlost]
  simp

theorem flashOne_reports {s : State} {e : EventRecord} {rest : List EventRecord} (hq : s.recorder.queue = e :: rest)
    (hlost : s.recorder.lost = 0) : s.ReportsBesideRecorder s.flashOne := by
  rw [flashOne_of_queued hq hlost]
  exact besideRecorder_of_recorder (bedrockFull_reports _)

/-- What O27 says of a write of the oldest queued record. -/
theorem written_of_queued {r : Recorder} {e : EventRecord} {rest : List EventRecord} (hq : r.queue = e :: rest) :
    r.written.queue = rest ∧ r.written.next = r.next + 1 ∧ r.written.lost = r.lost ∧ r.written.storedHours = e.hours := by
  simp [Recorder.written, hq]

/-- A record just written is not among those that Topsoil has given up. -/
theorem mem_flash_written {r : Recorder} {e : EventRecord} {rest : List EventRecord} (hq : r.queue = e :: rest)
    (hold : r.oldest ≤ r.next) : (r.next, e) ∈ r.written.flash := by
  have hkept : max r.oldest (r.next + 1 - 65536) ≤ r.next := by omega
  simp only [Recorder.written, hq, List.mem_filter, List.mem_append, List.mem_singleton, or_true, true_and, decide_eq_true hkept,
    Bool.or_true]

/-- Every queued record written: the queue is empty, each record has taken a number, and only reports go with it. -/
theorem flashAll_empties (n : Nat) {s : State} (hn : s.recorder.queue.length ≤ n) (hlost : s.recorder.lost = 0) :
    (State.flashAll n s).recorder.queue = []
      ∧ (State.flashAll n s).recorder.next = s.recorder.next + s.recorder.queue.length
      ∧ s.ReportsBesideRecorder (State.flashAll n s) := by
  induction n generalizing s with
  | zero =>
    have hq : s.recorder.queue = [] := List.eq_nil_of_length_eq_zero (Nat.le_zero.mp hn)
    simp only [State.flashAll, hq, List.length_nil, Nat.add_zero, true_and]
    exact besideRecorder_refl s
  | succ n ih =>
    rw [State.flashAll]
    match hq : s.recorder.queue with
    | [] =>
      have hstay : s.flashOne = s := if_pos hq
      simpa [hstay, hq] using ih (s := s) (by simp [hq]) hlost
    | e :: rest =>
      obtain ⟨hqueue, hnext, hsame, -⟩ := written_of_queued hq
      have hrec := flashOne_recorder hq hlost
      obtain ⟨hempty, hnumber, hreports⟩ := ih (s := s.flashOne)
        (by rw [hrec, hqueue]; rw [hq, List.length_cons] at hn; omega) (by rw [hrec, hsame, hlost])
      refine ⟨hempty, ?_, besideRecorder_trans (flashOne_reports hq hlost) hreports⟩
      rw [hnumber, hrec, hqueue, hnext, List.length_cons]
      omega

/-- A record joins the queue while System Firmware is up and the queue has room. -/
theorem record_joins {s : State} (hup : s.firmwareUp = true) (hroom : s.recorder.queue.length < 256) (ty : Nat) (bs : List Byte) :
    s.record ty bs = { s with recorder := { s.recorder with
      queue := s.recorder.queue ++ [⟨ty, s.hours, s.power.powerCycles, bs⟩] } } := by
  have hfree : s.recordFull = false := by simp [State.recordFull, hup, hroom]
  simp [State.record, hup, hfree, Recorder.take, State.stampRecord]

/-- A record, taken in or lost, changes nothing of what flash holds. -/
theorem record_keeps_flash (s : State) (ty : Nat) (bs : List Byte) : (s.record ty bs).recorder.oldest = s.recorder.oldest
    ∧ (s.record ty bs).recorder.next = s.recorder.next ∧ (s.record ty bs).recorder.flash = s.recorder.flash := by
  unfold State.record
  by_cases h : s.recordFull <;> simp [h, Recorder.take]

theorem hostRecord_in_turn {s : State} {p : Path} {data : List Byte} (h : s.Takes p (s.writeGate p 0xC002 3))
    (hmin : 2 ≤ data.length) (hmax : data.length ≤ 1026) (htype : 0x8000 ≤ leAt data 0 2) :
    exec (.hostRecord p data) s = .next ((s.record (leAt data 0 2) (data.drop 2)).answer p 0 []) := by
  have htest : orElse (refuseIf (decide (data.length < 2) || decide (1026 < data.length)) .range)
      (refuseIf (decide (leAt data 0 2 < 0x8000)) .range) = none := by
    simp [refuseIf, orElse, Nat.not_lt.mpr hmin, Nat.not_lt.mpr hmax, Nat.not_lt.mpr htype]
  exact congrArg Host.Outcome.next (accepted_in_turn (takes_orElse h htest) (c := .hostRecord p data) (rank_of_path rfl) _ _)

theorem flush_in_turn {s : State} {p : Path} (h : s.Takes p (s.writeGate p 0xC002 2)) :
    exec (.flush p 1) s = .next ((State.flashAll (s.recorder.queue.length + 1) s).answer p 0 []) :=
  congrArg Host.Outcome.next
    (accepted_in_turn (takes_orElse (test := numberTest 0xC002 2 (leBytes 1 1)) h rfl) (c := .flush p 1) (rank_of_path rfl) _ _)

theorem clearTopsoil_in_turn {s : State} {p : Path} (h : s.Takes p (s.writeGate p 0xC002 1)) :
    exec (.clearTopsoil p 1) s = .next (s.clearTopsoil.answer p 0 []) :=
  congrArg Host.Outcome.next
    (accepted_in_turn (takes_orElse (test := numberTest 0xC002 1 (leBytes 1 1)) h rfl) (c := .clearTopsoil p 1) (rank_of_path rfl) _ _)

/-- What CLEAR_TOPSOIL leaves of the recorder (R659). -/
theorem clearTopsoil_recorder {s : State} (hlost : s.recorder.lost = 0) :
    s.clearTopsoil.recorder.oldest = s.recorder.next + s.recorder.queue.length
      ∧ s.clearTopsoil.recorder.next = s.clearTopsoil.recorder.oldest
      ∧ (∀ x ∈ s.clearTopsoil.recorder.flash, x.1 < 4096)
      ∧ (s.firmwareUp = true → ∃ e, s.clearTopsoil.recorder.queue = [e] ∧ e.type = 0xA0) := by
  obtain ⟨hempty, hnext, -⟩ := flashAll_empties s.recorder.queue.length (Nat.le_refl _) hlost
  unfold State.clearTopsoil
  refine ⟨?_, ?_, ?_, fun hup => ?_⟩
  · rw [(record_keeps_flash _ _ _).1, hnext]
  · rw [(record_keeps_flash _ _ _).1, (record_keeps_flash _ _ _).2.1]
  · rw [(record_keeps_flash _ _ _).2.2]
    exact fun x hx => of_decide_eq_true (List.mem_filter.mp hx).2
  · rw [record_joins (by simpa [State.firmwareUp] using hup) (by rw [hempty]; decide), hempty]
    exact ⟨_, rfl, rfl⟩

/-- Settles O27: a write is `Recorder.written`, and FLUSH and CLEAR_TOPSOIL are that write until the queue is empty. -/
theorem recorderWritesComplete : Obligations.RecorderWritesComplete := by
  refine ⟨fun s p data h hmin hmax htype hup hroom => ?_, fun s e rest hq hlost hold => ?_, fun s hq hfirst => ?_,
    fun s hvaux => ?_, fun s p h hlost => ?_, fun s p h hlost => ?_⟩
  · rw [hostRecord_in_turn h hmin hmax htype, record_joins hup hroom]
  · obtain ⟨hqueue, hnext, -, hhours⟩ := written_of_queued hq
    refine ⟨s.flashOne, rfl, ?_⟩
    rw [flashOne_recorder hq hlost]
    exact ⟨hqueue, hnext, mem_flash_written hq hold, hhours, flashOne_recorder hq hlost ▸ flashOne_reports hq hlost⟩
  · have hexec : exec (.recordFlashWrite false) s = .next
        (({ s with recorder := { s.recorder with retried := true } } : State).setLeaf 0x2111 2) :=
      congrArg Host.Outcome.next (by simp [State.flashFailed, hq, hfirst])
    exact ⟨_, hexec, by simp, besideRecorder_of_recorder (Reports_setLeaf _ 0x2111 2)⟩
  · exact congrArg Host.Outcome.next (by simp [hvaux])
  · obtain ⟨hempty, hnext, hreports⟩ := flashAll_empties (s.recorder.queue.length + 1) (Nat.le_succ _) hlost
    exact ⟨_, flush_in_turn h, hempty, hnext, besideRecorder_trans hreports (besideRecorder_of_Reports (Reports_answer _ p 0 []))⟩
  · obtain ⟨hold, hnext, hflash, hqueue⟩ := clearTopsoil_recorder hlost
    exact ⟨_, clearTopsoil_in_turn h, hold, hnext, hflash, hqueue, by simp, by simp, by simp⟩

end Sys2Proof.Machine

namespace Sys2Proof.Machine

/-! ### The preferred source (R452, R557): only the pairing, the twin link and ROOT_SELECT decide it -/

theorem preferred_congr {s t : State} (hpaired : t.paired = s.paired) (hlink : t.twin.linkLock = s.twin.linkLock)
    (hrank : t.reg 0xD000 2 = s.reg 0xD000 2) (hselect : t.reg 0x2010 1 = s.reg 0x2010 1) : t.preferred = s.preferred := by
  rw [State.preferred, State.preferred, hpaired, hlink, hrank, State.regN, State.regN, hselect]

theorem preferred_of_kept {s t : State} (htwin : t.twin = s.twin) (hregs : t.regs = s.regs) : t.preferred = s.preferred :=
  preferred_congr (by rw [State.paired, State.paired, htwin]) (by rw [htwin]) (reg_of_regs hregs _ _) (reg_of_regs hregs _ _)

theorem preferred_of_ReportsWith {s t : State} {ks : List Nat} (h : s.ReportsWith t ks) (hrank : regKey 0xD000 2 ∉ regKey 0xC000 5 :: ks)
    (hselect : regKey 0x2010 1 ∉ regKey 0xC000 5 :: ks) : t.preferred = s.preferred :=
  preferred_congr (by rw [State.paired, State.paired, h.twin]) (by rw [h.twin]) (h.regs _ hrank) (h.regs _ hselect)

theorem preferred_of_besideJob {s t : State} {ks : List Nat} (h : s.ReportsBesideJob t ks) (hrank : regKey 0xD000 2 ∉ regKey 0xC000 5 :: ks)
    (hselect : regKey 0x2010 1 ∉ regKey 0xC000 5 :: ks) : t.preferred = s.preferred :=
  (preferred_of_ReportsWith h hrank hselect).trans (preferred_of_kept rfl rfl)

theorem preferred_foldl {α : Type} {f : State → α → State} (h : ∀ t a, (f t a).preferred = t.preferred) (l : List α) (s : State) :
    (l.foldl f s).preferred = s.preferred := foldl_keeps State.preferred h l s

theorem preferred_setReg (s : State) {i a : Nat} (v : Int) (hrank : regKey 0xD000 2 ≠ regKey i a)
    (hselect : regKey 0x2010 1 ≠ regKey i a) : (s.setReg i a v).preferred = s.preferred :=
  preferred_congr rfl rfl (reg_setReg_other s v hrank) (reg_setReg_other s v hselect)

@[simp] theorem preferred_setLeaf (s : State) (reg bit : Nat) : (s.setLeaf reg bit).preferred = s.preferred :=
  preferred_of_ReportsWith (Reports_setLeaf s reg bit) (by decide) (by decide)

@[simp] theorem preferred_record (s : State) (ty : Nat) (bs : List Byte) : (s.record ty bs).preferred = s.preferred :=
  preferred_of_ReportsWith (Reports_record s ty bs) (by decide) (by decide)

/-! #### Cuts and broken promises -/

@[simp] theorem preferred_writeDefect (s : State) (r : DefectRecord) : (s.writeDefect r).preferred = s.preferred :=
  preferred_of_besideJob (writeDefect_besideJob s r) (by decide) (by decide)

@[simp] theorem preferred_closeRecords (s : State) (h : HeadNo) (et : Tick) (p : DefectRecord → Bool) :
    (s.closeRecords h et p).preferred = s.preferred :=
  (preferred_foldl (fun t r => preferred_writeDefect t _) _ _).trans (preferred_of_kept (by simp) (by simp))

@[simp] theorem preferred_finalise (s : State) (g : Segment) (state : SegState) : (s.finalise g state).preferred = s.preferred :=
  (preferred_of_besideJob (free_besideJob _ _) (by decide) (by decide)).trans (preferred_of_kept (by simp) (by simp))

@[simp] theorem preferred_recordBreak (s : State) (g : Segment) (cause head item detail : Nat) :
    (s.recordBreak g cause head item detail).preferred = s.preferred :=
  preferred_of_besideJob (recordBreak_besideJob s g cause head item detail) (by decide) (by decide)

@[simp] theorem preferred_reachAhead (s : State) (h : HeadNo) : (s.reachAhead h).preferred = s.preferred :=
  preferred_of_kept (by simp) (by simp)

@[simp] theorem preferred_onPath (s : State) (h : HeadNo) (f : HeadPath → HeadPath) : (s.onPath h f).preferred = s.preferred :=
  preferred_of_kept (by simp) (by simp)

theorem preferred_writeDefects {α : Type} (f : α → List DefectRecord) (l : List α) (s : State) :
    (l.foldl (fun v w => (f w).foldl State.writeDefect v) s).preferred = s.preferred :=
  preferred_foldl (fun v w => preferred_foldl preferred_writeDefect (f w) v) l s

@[simp] theorem preferred_abandonRest (s : State) (g : Segment) (h : HeadNo) (cause detail : Nat) :
    (s.abandonRest g h cause detail).preferred = s.preferred := by
  unfold State.abandonRest
  dsimp only
  split
  · exact (preferred_writeDefect _ _).trans (preferred_of_kept (by simp) (by simp))
  · exact preferred_of_kept (by simp) (by simp)

@[simp] theorem preferred_abandonPart (s : State) (g : Segment) (cause detail : Nat) (h : HeadNo) :
    (s.abandonPart g cause detail h).preferred = s.preferred := by
  unfold State.abandonPart
  extract_lets x done mine t u stand v
  have ht : t.preferred = s.preferred := by simp [t]
  have hu : u.preferred = t.preferred := by
    simp only [u, preferred_onPath]
    exact preferred_foldl (fun v w => preferred_of_kept (by simp) (by simp)) _ _
  have hv : v.preferred = s.preferred := by rw [← ht, ← hu]; exact preferred_writeDefects _ _ _
  split
  · exact hv
  · rw [preferred_abandonRest, hv]

@[simp] theorem preferred_release (s : State) (key : Nat) : (s.release key).preferred = s.preferred :=
  preferred_of_kept rfl rfl

@[simp] theorem preferred_cancel (s : State) (cause detail key : Nat) : (s.cancel cause detail key).preferred = s.preferred := by
  unfold State.cancel
  (repeat' split) <;> simp [preferred_foldl]

@[simp] theorem preferred_breakPromise (s : State) (key cause head item detail : Nat) :
    (s.breakPromise key cause head item detail).preferred = s.preferred := by
  unfold State.breakPromise
  (repeat' split) <;> simp [preferred_foldl]

@[simp] theorem preferred_breakWork (s : State) (h cause detail : Nat) (x : HeadPath) (slots : List SentSlot) :
    (s.breakWork h cause detail x slots).preferred = s.preferred := by
  refine preferred_foldl (fun t w => ?_) _ _
  split <;> simp

@[simp] theorem preferred_cutItem (s : State) (h : HeadNo) (cause detail : Nat) (slots : List SentSlot) :
    (s.cutItem h cause detail slots).preferred = s.preferred := by
  unfold State.cutItem
  extract_lets x stand place t u
  have ht : t.preferred = s.preferred := by simp [t]
  have hu : u.preferred = t.preferred := preferred_of_kept (by simp [u]) (by simp [u])
  rw [preferred_writeDefects, hu, ht]

@[simp] theorem preferred_cutHead (s : State) (cause : Nat) (h : HeadNo) : (s.cutHead cause h).preferred = s.preferred := by
  unfold State.cutHead
  extract_lets slots t
  have ht : t.preferred = s.preferred := preferred_of_kept (by simp [t]) (by simp [t])
  have hcut (detail : Nat) : (t.cutAndBreak cause detail h slots).preferred = s.preferred := by simp [State.cutAndBreak, ht]
  split
  · exact hcut _
  · exact (preferred_of_kept rfl rfl).trans (hcut _)

@[simp] theorem preferred_cutAll (s : State) (cause : Nat) : (s.cutAll cause).preferred = s.preferred := by
  simp [State.cutAll, State.breakAll, State.cutHeads, preferred_foldl]

@[simp] theorem preferred_breakRunning (s : State) (cause detail : Nat) : (s.breakRunning cause detail).preferred = s.preferred := by
  refine preferred_foldl (fun t g => ?_) _ _
  (repeat' split) <;> simp [preferred_foldl]

/-! #### The axes and the transition -/

@[simp] theorem preferred_recoatFails (s : State) (m : Nat) : (s.recoatFails m).preferred = s.preferred := by
  unfold State.recoatFails
  split
  · exact (preferred_setLeaf _ _ _).trans (preferred_of_kept rfl rfl)
  · rfl

theorem preferred_abortHoming (s : State) {m : Nat} (hm : m < 8) (reason : Nat) : (s.abortHoming m reason).preferred = s.preferred := by
  have hrank : regKey 0xD000 2 ≠ regKey (0x9040 + m) 6 := by simp only [regKey]; omega
  have hselect : regKey 0x2010 1 ≠ regKey (0x9040 + m) 6 := by simp only [regKey]; omega
  unfold State.abortHoming
  split
  · rw [preferred_setLeaf, preferred_setReg _ _ hrank hselect]
    exact preferred_of_kept (by simp) (by simp)
  · rfl

theorem preferred_foldl_range {n : Nat} {f : State → Nat → State} (h : ∀ t m, m < n → (f t m).preferred = t.preferred) (s : State) :
    ((List.range n).foldl f s).preferred = s.preferred := by
  induction n with
  | zero => rfl
  | succ n ih =>
    rw [List.range_succ, List.foldl_append, List.foldl_cons, List.foldl_nil, h _ n (Nat.lt_succ_self n)]
    exact ih fun t m hm => h t m (Nat.lt_succ_of_lt hm)

@[simp] theorem preferred_axesStop (s : State) : s.axesStop.preferred = s.preferred := by
  refine preferred_foldl_range (fun t m hm => ?_) s
  split
  · rw [preferred_recoatFails]
    exact (preferred_of_kept (by simp) (by simp)).trans (preferred_abortHoming t hm 1)
  · rfl

@[simp] theorem preferred_compareStates (s : State) : s.compareStates.preferred = s.preferred := by
  unfold State.compareStates
  split <;> rfl

@[simp] theorem preferred_automatic (s : State) (next : DevState) (cause : Nat) : (s.automatic next cause).preferred = s.preferred := by
  have hmoved : ({ s with dev := { s.dev.moved next cause s.et with autoThisCycle := true } } : State).compareStates.preferred
      = s.preferred := (preferred_compareStates _).trans (preferred_of_kept rfl rfl)
  unfold State.automatic
  dsimp only
  split <;> simp [hmoved]

/-- A controller of a pair that becomes COLD outside ARMED, EXPOSING and PAUSED stays paired. -/
theorem preferred_goCold {s : State} (hquiet : s.dev.state.permits = false) (hpaired : s.paired = true) (cause : Nat) :
    (s.goCold cause).preferred = s.preferred := by
  rw [goCold_eq, if_neg (by simp [hquiet]), State.coldReported, preferred_record, preferred_setLeaf]
  exact preferred_congr (by rw [hpaired]; rfl) rfl rfl rfl

theorem breakRunning_standing (s : State) (cause detail : Nat) : (s.breakRunning cause detail).twin.standing = s.twin.standing := by
  refine foldl_standing (fun t g => ?_) _ _
  (repeat' split) <;> simp [foldl_standing]

theorem recoatFails_standing (s : State) (m : Nat) : (s.recoatFails m).twin.standing = s.twin.standing := by
  unfold State.recoatFails
  split
  · exact setLeaf_standing _ _ _
  · rfl

theorem abortHoming_standing (s : State) (m reason : Nat) : (s.abortHoming m reason).twin.standing = s.twin.standing := by
  unfold State.abortHoming
  split <;> simp

theorem axesStop_standing (s : State) : s.axesStop.twin.standing = s.twin.standing := by
  refine foldl_standing (fun t m => ?_) _ _
  split
  · rw [recoatFails_standing, (by simp : ((t.abortHoming m 1).rampDown m (t.axisCfg m 0x10) .hold).twin = (t.abortHoming m 1).twin),
      abortHoming_standing]
  · rfl

/-- A fault cause other than the trip's leaves the order of the sources. -/
theorem preferred_faultCause (s : State) {cause : Nat} (hcause : cause ≠ 0x30) : (s.faultCause cause).preferred = s.preferred := by
  have hfault : (s.toFault cause).preferred = s.preferred := by
    unfold State.toFault
    extract_lets t u v
    have hv : v = u.axesStop := if_neg hcause
    have hpreferred : v.preferred = s.preferred := by rw [hv]; simp [u, t]
    split
    next hrole =>
      have hstanding : v.twin.standing = s.twin.standing := by
        rw [hv, axesStop_standing, breakRunning_standing, automatic_standing, cutAll_standing]
      have hpaired : v.paired = true := by
        rw [State.paired, role_of_standing hstanding]
        rcases hrole with hrole | hrole <;> rw [hrole] <;> rfl
      have hquiet : v.dev.state.permits = false := by
        have hdev : v.dev = t.dev := by rw [hv]; simp [u]
        rw [hdev, automatic_dev]
        rfl
      rw [preferred_goCold hquiet hpaired, hpreferred]
    next => exact hpreferred
  unfold State.faultCause
  split
  · exact preferred_of_kept rfl rfl
  · split
    · exact hfault
    · rfl


end Sys2Proof.Machine

/-! ### The root of the clocks (R557 to R562) -/

namespace Sys2Proof.Machine

/-- All but the clock unit goes from s to t by reports and by the listed stored numbers. -/
def State.ReportsBesideClocks (s t : State) (keys : List Nat) : Prop := ({ s with clocks := t.clocks } : State).ReportsWith t keys

theorem besideClocks_trans {s t u : State} {ks : List Nat} (h : s.ReportsBesideClocks t ks) (g : t.ReportsBesideClocks u ks) :
    s.ReportsBesideClocks u ks :=
  have h' : ({ s with clocks := u.clocks } : State).ReportsWith { t with clocks := u.clocks } ks := { h with clocks := rfl }
  ReportsWith_trans h' g

/-- Another clock unit, and then reports. -/
theorem besideClocks_of_clocks {s t : State} {c : ClockUnit} {ks : List Nat} (h : ({ s with clocks := c } : State).ReportsWith t ks) :
    s.ReportsBesideClocks t ks := { h with clocks := rfl }

theorem besideClocks_mono {s t : State} {ks ls : List Nat} (h : s.ReportsBesideClocks t ks) (hs : ks ⊆ ls) : s.ReportsBesideClocks t ls :=
  ReportsWith_mono h hs

theorem preferred_of_besideClocks {s t : State} {ks : List Nat} (h : s.ReportsBesideClocks t ks)
    (hrank : regKey 0xD000 2 ∉ regKey 0xC000 5 :: ks) (hselect : regKey 0x2010 1 ∉ regKey 0xC000 5 :: ks) : t.preferred = s.preferred :=
  (preferred_of_ReportsWith h hrank hselect).trans (preferred_of_kept rfl rfl)

/-! #### The unit's operations -/

theorem changeRoot_clocks (s : State) (source : Nat) : (s.changeRoot source).clocks =
    { s.clocks with root := source, rootGates := if s.clocks.root = source then s.clocks.rootGates else 0 } := by
  unfold State.changeRoot
  split
  next hsame => subst hsame; rfl
  next => simp

theorem changeRoot_reports (s : State) (source : Nat) : s.ReportsBesideClocks (s.changeRoot source) [regKey 0x2011 4] := by
  unfold State.changeRoot
  split
  · exact ReportsWith_refl s _
  · exact besideClocks_of_clocks (ReportsWith_trans (ReportsWith_bump _ _ _ (List.mem_singleton.mpr rfl))
      (ReportsWith_of_Reports _ (Reports_trans (Reports_setLeaf _ 0x210D 0) (Reports_record _ 0x0080 _))))

theorem leaveHoldover_clocks (s : State) (source : Nat) : (s.leaveHoldover source).clocks = { s.clocks with
    inHoldover := false, root := source, rootGates := if s.clocks.root = source then s.clocks.rootGates else 0 } := by
  unfold State.leaveHoldover
  rw [changeRoot_clocks]
  simp

theorem leaveHoldover_reports (s : State) (source : Nat) :
    s.ReportsBesideClocks (s.leaveHoldover source) [regKey 0x2011 4, regKey 0x2011 6] := by
  have hroot (t : State) : t.ReportsBesideClocks (t.changeRoot source) [regKey 0x2011 4, regKey 0x2011 6] :=
    besideClocks_mono (changeRoot_reports t source) (List.cons_subset_cons _ (List.nil_subset _))
  unfold State.leaveHoldover
  refine besideClocks_trans ?_ (hroot _)
  split
  · exact besideClocks_of_clocks (c := { s.clocks with inHoldover := false })
      (ReportsWith_setReg _ 0x2011 6 _ (List.mem_cons_of_mem _ (List.mem_singleton.mpr rfl)))
  · exact besideClocks_of_clocks (ReportsWith_refl _ _)

theorem enterHoldover_clocks (s : State) : s.enterHoldover.clocks = if s.clocks.inHoldover then s.clocks else
    { s.clocks with inHoldover := true, holdoverFrom := s.et, root := holdoverCode,
                    rootGates := if s.clocks.root = holdoverCode then s.clocks.rootGates else 0 } := by
  unfold State.enterHoldover
  split
  next => rfl
  next => rw [changeRoot_clocks]; simp

theorem enterHoldover_reports (s : State) : s.ReportsBesideClocks s.enterHoldover [regKey 0x2011 4, regKey 0x2011 5] := by
  have hroot (t : State) : t.ReportsBesideClocks (t.changeRoot holdoverCode) [regKey 0x2011 4, regKey 0x2011 5] :=
    besideClocks_mono (changeRoot_reports t holdoverCode) (List.cons_subset_cons _ (List.nil_subset _))
  unfold State.enterHoldover
  split
  · exact ReportsWith_refl s _
  · refine besideClocks_trans (besideClocks_of_clocks (c := { s.clocks with inHoldover := true, holdoverFrom := s.et }) ?_) (hroot _)
    exact ReportsWith_trans (ReportsWith_bump _ _ _ (List.mem_cons_of_mem _ (List.mem_singleton.mpr rfl)))
      (ReportsWith_of_Reports _ (Reports_setLeaf _ 0x210D 1))

theorem xoLeaf_reports (s : State) (before : Bool) : s.Reports (s.xoLeaf before) := by
  unfold State.xoLeaf
  split
  · exact Reports_setLeaf s 0x210D 2
  · exact Reports_refl s

theorem qualified_lossesOnly (c d : ClockUnit) (source : Nat) :
    (c.lossesOnly d).qualified source = (c.qualified source && d.qualified source) := by
  unfold ClockUnit.qualified
  split <;> rfl

theorem qualified_qualify4 (s : State) (d : ClockUnit) (source : Nat) : (s.qualify4 d).clocks.qualified source = d.qualified source := by
  unfold ClockUnit.qualified
  split <;> rfl

theorem preferred_qualify4 (s : State) (d : ClockUnit) : (s.qualify4 d).preferred = s.preferred := preferred_of_kept rfl rfl

/-! #### The root evaluated (R560, R561) -/

/-- A state whose preferred source, if it is qualified, has ended its loss. -/
def State.preferredJudged (s : State) : State :=
  { s with clocks := { s.clocks with holdoverSpent := s.clocks.holdoverSpent && !s.clocks.qualified s.preferred } }

theorem preferredJudged_of_spent {s : State} {b : Bool} (h : (s.clocks.holdoverSpent && !s.clocks.qualified s.preferred) = b) :
    s.preferredJudged = { s with clocks := { s.clocks with holdoverSpent := b } } := by rw [← h]; rfl

theorem preferred_preferredJudged (s : State) : s.preferredJudged.preferred = s.preferred := preferred_of_kept rfl rfl

theorem evaluateRoot_of_source {s : State} {source : Nat} (h : s.preferredJudged.rootChoice = some source) :
    s.evaluateRoot = s.preferredJudged.leaveHoldover source := by
  unfold State.evaluateRoot
  dsimp only
  split
  next x hx => cases h.symm.trans hx; rfl
  next hx => cases h.symm.trans hx

/-- Without a source the root is holdover, with cause 0x0031 where holdover may not last either. -/
theorem evaluateRoot_of_none {s : State} (h : s.preferredJudged.rootChoice = none) : s.evaluateRoot =
    if (s.preferredJudged.enterHoldover.clocks.holdoverSpent ∨ s.preferredJudged.enterHoldover.reg 0x2010 2 = 0)
      ∧ s.preferredJudged.enterHoldover.clocks.xoQualified = false
    then ({ s.preferredJudged.enterHoldover with
      clocks := { s.preferredJudged.enterHoldover.clocks with holdoverSpent := true } } : State).faultCause 0x31
    else s.preferredJudged.enterHoldover := by
  unfold State.evaluateRoot
  dsimp only
  split
  next x hx => cases h.symm.trans hx
  next => rfl

/-- The preferred source is qualified: it is the root, outside holdover. -/
theorem evaluateRoot_of_preferred {s : State} (hq : s.clocks.qualified s.preferred = true) :
    s.evaluateRoot = ({ s with clocks := { s.clocks with holdoverSpent := false } } : State).leaveHoldover s.preferred := by
  have hjudged := preferredJudged_of_spent (s := s) (b := false) (by simp [hq])
  have hchoice : s.preferredJudged.rootChoice = some s.preferred := by rw [hjudged]; exact if_pos hq
  rw [evaluateRoot_of_source hchoice, hjudged]

/-- HOLDOVER_TIME has not passed: without the preferred source the root is holdover. -/
theorem evaluateRoot_of_time {s : State} (hq : s.clocks.qualified s.preferred = false) (hspent : s.clocks.holdoverSpent = false)
    (htime : s.reg 0x2010 2 ≠ 0) : s.evaluateRoot = s.enterHoldover := by
  have hjudged : s.preferredJudged = s := by
    rw [preferredJudged_of_spent (b := s.clocks.holdoverSpent) (by simp [hspent])]
  have hchoice : s.preferredJudged.rootChoice = none := by simp [hjudged, State.rootChoice, hq, hspent, htime]
  have hstay : s.enterHoldover.clocks.holdoverSpent = false := by
    rw [enterHoldover_clocks]
    split <;> exact hspent
  have hreg : s.enterHoldover.reg 0x2010 2 = s.reg 0x2010 2 := (enterHoldover_reports s).regs _ (by decide)
  rw [evaluateRoot_of_none hchoice, hjudged, if_neg (by simp [hstay, hreg, htime])]

/-- HOLDOVER_TIME has passed: without the preferred source the root is the oscillator, if it is qualified. -/
theorem evaluateRoot_of_oscillator {s : State} (hq : s.clocks.qualified s.preferred = false) (hspent : s.clocks.holdoverSpent = true)
    (hxo : s.clocks.xoQualified = true) : s.evaluateRoot = s.leaveHoldover 2 := by
  have hjudged : s.preferredJudged = s := by
    rw [preferredJudged_of_spent (b := s.clocks.holdoverSpent) (by simp [hq])]
  have hchoice : s.preferredJudged.rootChoice = some 2 := by simp [hjudged, State.rootChoice, hq, hspent, hxo]
  rw [evaluateRoot_of_source hchoice, hjudged]

/-- The judgement of each source, which an evaluation of the root leaves alone. -/
def ClockUnit.sources (c : ClockUnit) : Source × Source × Source × Bool := (c.portA, c.portB, c.twinLink, c.xoQualified)

theorem faultCause_clocks (s : State) (cause : Nat) : (s.faultCause cause).clocks = s.clocks := by simp

/-- An evaluation judges no source and leaves their order. -/
theorem evaluateRoot_keeps (s : State) : s.evaluateRoot.preferred = s.preferred
    ∧ s.evaluateRoot.clocks.sources = s.clocks.sources := by
  cases hchoice : s.preferredJudged.rootChoice with
  | some source =>
    rw [evaluateRoot_of_source hchoice, leaveHoldover_clocks,
      preferred_of_besideClocks (leaveHoldover_reports _ source) (by decide) (by decide)]
    exact ⟨preferred_preferredJudged s, rfl⟩
  | none =>
    have hpreferred : s.preferredJudged.enterHoldover.preferred = s.preferred :=
      (preferred_of_besideClocks (enterHoldover_reports _) (by decide) (by decide)).trans (preferred_preferredJudged s)
    have hsources : s.preferredJudged.enterHoldover.clocks.sources = s.clocks.sources := by
      rw [enterHoldover_clocks]
      split <;> rfl
    rw [evaluateRoot_of_none hchoice]
    split
    · rw [preferred_faultCause _ (by decide), faultCause_clocks]
      exact ⟨(preferred_of_kept rfl rfl).trans hpreferred, hsources⟩
    · exact ⟨hpreferred, hsources⟩

/-! #### The end of a gate (R559, R560) -/

/-- The state on which the losses of a gate are evaluated. -/
def State.afterLosses (s : State) (k : ClockUnit) : State :=
  (({ s with clocks := s.clocks.lossesOnly k } : State).setReg 0x2011 3 (xoMean k.xoOffsets)).xoLeaf s.clocks.xoQualified

theorem afterGate_eq (s : State) (k : ClockUnit) : s.afterGate k = ((s.afterLosses k).evaluateRoot.qualify4 k).evaluateRoot := rfl

theorem afterLosses_clocks (s : State) (k : ClockUnit) : (s.afterLosses k).clocks = s.clocks.lossesOnly k := by simp [State.afterLosses]

theorem afterLosses_reports (s : State) (k : ClockUnit) : s.ReportsBesideClocks (s.afterLosses k) [regKey 0x2011 3] :=
  besideClocks_of_clocks (ReportsWith_trans (ReportsWith_setReg _ 0x2011 3 _ (List.mem_singleton.mpr rfl))
    (ReportsWith_of_Reports _ (xoLeaf_reports _ _)))

theorem preferred_afterLosses (s : State) (k : ClockUnit) : (s.afterLosses k).preferred = s.preferred :=
  preferred_of_besideClocks (afterLosses_reports s k) (by decide) (by decide)

theorem afterLosses_mean (s : State) (k : ClockUnit) : (s.afterLosses k).reg 0x2011 3 = xoMean k.xoOffsets :=
  ((xoLeaf_reports _ _).regs _ (by decide)).trans (reg_setReg_self _ _ _ _)

/-- Between the two evaluations of a gate the order of the sources stays, and the qualifications are those of the gate. -/
theorem gainsApplied_preferred (s : State) (k : ClockUnit) : ((s.afterLosses k).evaluateRoot.qualify4 k).preferred = s.preferred := by
  rw [preferred_qualify4, (evaluateRoot_keeps _).1, preferred_afterLosses]

theorem qualify4_besideClocks (s : State) (k : ClockUnit) (ks : List Nat) : s.ReportsBesideClocks (s.qualify4 k) ks :=
  besideClocks_of_clocks (ReportsWith_refl _ ks)

/-- A gate after which the preferred source is qualified ends with it as the root. -/
theorem afterGate_of_qualified {s : State} {k : ClockUnit} (hq : k.qualified s.preferred = true) : s.afterGate k =
    ({ (s.afterLosses k).evaluateRoot.qualify4 k with
      clocks := { ((s.afterLosses k).evaluateRoot.qualify4 k).clocks with holdoverSpent := false } } : State).leaveHoldover s.preferred := by
  rw [afterGate_eq, evaluateRoot_of_preferred (by rw [gainsApplied_preferred, qualified_qualify4, hq]), gainsApplied_preferred]

theorem evaluateRoot_losses_of_kept {s : State} {k : ClockUnit} (hwas : s.clocks.qualified s.preferred = true)
    (hq : k.qualified s.preferred = true) : (s.afterLosses k).evaluateRoot =
    ({ s.afterLosses k with clocks := { s.clocks.lossesOnly k with holdoverSpent := false } } : State).leaveHoldover s.preferred := by
  rw [evaluateRoot_of_preferred (by rw [preferred_afterLosses, afterLosses_clocks, qualified_lossesOnly, hwas, hq]; rfl),
    preferred_afterLosses, afterLosses_clocks]

/-- A gate of a preferred source that was and stays qualified: the evaluation of its losses makes it the root, and that of
its gains finds it there. -/
theorem afterGate_of_kept {s : State} {k : ClockUnit} (hroot : k.root = s.clocks.root)
    (hwas : s.clocks.qualified s.preferred = true) (hq : k.qualified s.preferred = true) :
    (s.afterGate k).clocks = { k with root := s.preferred, inHoldover := false, holdoverSpent := false
                                      rootGates := if s.clocks.root = s.preferred then k.rootGates else 0 }
      ∧ s.ReportsBesideClocks (s.afterGate k) [regKey 0x2011 3, regKey 0x2011 4, regKey 0x2011 6]
      ∧ (s.afterGate k).reg 0x2011 3 = xoMean k.xoOffsets := by
  have hleave (t : State) (c : ClockUnit) : t.ReportsBesideClocks (({ t with clocks := c } : State).leaveHoldover s.preferred)
      [regKey 0x2011 4, regKey 0x2011 6] :=
    besideClocks_trans (besideClocks_of_clocks (ReportsWith_refl _ _)) (leaveHoldover_reports _ _)
  have hfirst := evaluateRoot_losses_of_kept hwas hq
  have hclocks : (s.afterLosses k).evaluateRoot.clocks = { s.clocks.lossesOnly k with
      holdoverSpent := false, inHoldover := false, root := s.preferred
      rootGates := if s.clocks.root = s.preferred then k.rootGates else 0 } := by
    rw [hfirst, leaveHoldover_clocks, ← hroot]
    rfl
  have hafter : (s.afterLosses k).ReportsBesideClocks (s.afterGate k) [regKey 0x2011 4, regKey 0x2011 6] := by
    rw [afterGate_of_qualified hq, hfirst]
    exact besideClocks_trans (hleave _ _) (besideClocks_trans (qualify4_besideClocks _ k _) (hleave _ _))
  refine ⟨?_, ?_, (hafter.regs _ (by decide)).trans (afterLosses_mean s k)⟩
  · rw [afterGate_of_qualified hq, leaveHoldover_clocks]
    simp only [State.qualify4, hclocks, if_true]
    rfl
  · refine besideClocks_trans (besideClocks_mono (afterLosses_reports s k) ?_) (besideClocks_mono hafter ?_)
    · decide
    · decide

/-- What a gate leaves where the preferred source is qualified at its end. -/
theorem afterGate_root {s : State} {k : ClockUnit} (hq : k.qualified s.preferred = true) :
    (s.afterGate k).clocks.root = s.preferred ∧ (s.afterGate k).clocks.inHoldover = false
      ∧ (s.afterGate k).clocks.holdoverSpent = false ∧ (s.afterGate k).clocks.portA = k.portA ∧ (s.afterGate k).clocks.portB = k.portB
      ∧ (s.afterGate k).clocks.twinLink = k.twinLink ∧ (s.afterGate k).clocks.xoQualified = k.xoQualified := by
  have hsources := (evaluateRoot_keeps (s.afterLosses k)).2
  rw [afterLosses_clocks] at hsources
  simp only [ClockUnit.sources, Prod.mk.injEq] at hsources
  obtain ⟨hA, hB, htwin, -⟩ := hsources
  rw [afterGate_of_qualified hq, leaveHoldover_clocks]
  simp only [State.qualify4, hA, hB, htwin, true_and, and_true]
  exact ⟨rfl, rfl, rfl⟩

/-- A gate without the preferred source, while HOLDOVER_TIME has not passed: holdover, in which the gains change nothing. -/
theorem afterGate_of_time {s : State} {k : ClockUnit} (hq : k.qualified s.preferred = false) (hspent : k.holdoverSpent = false)
    (htime : s.reg 0x2010 2 ≠ 0) : s.afterGate k = (s.afterLosses k).enterHoldover.qualify4 k := by
  have hreg : (s.afterLosses k).reg 0x2010 2 = s.reg 0x2010 2 := (afterLosses_reports s k).regs _ (by decide)
  have hfirst : (s.afterLosses k).evaluateRoot = (s.afterLosses k).enterHoldover :=
    evaluateRoot_of_time (by rw [preferred_afterLosses, afterLosses_clocks, qualified_lossesOnly, hq, Bool.and_false])
      (by rw [afterLosses_clocks]; exact hspent) (by rw [hreg]; exact htime)
  have hin : (s.afterLosses k).enterHoldover.clocks.inHoldover = true := by
    rw [enterHoldover_clocks]
    split
    · assumption
    · rfl
  have hstill : (s.afterLosses k).enterHoldover.clocks.holdoverSpent = false := by
    rw [enterHoldover_clocks, afterLosses_clocks]
    split <;> exact hspent
  have hkept : ((s.afterLosses k).enterHoldover.qualify4 k).reg 0x2010 2 = s.reg 0x2010 2 :=
    ((enterHoldover_reports (s.afterLosses k)).regs _ (by decide)).trans hreg
  have hgains := gainsApplied_preferred s k
  rw [hfirst] at hgains
  rw [afterGate_eq, hfirst, evaluateRoot_of_time (s := (s.afterLosses k).enterHoldover.qualify4 k)
    (by rw [hgains, qualified_qualify4, hq]) hstill (by rw [hkept]; exact htime)]
  exact if_pos hin

theorem rootGate_in_turn {s : State} (hturn : s.turn 3 = true) (hlock : s.clocks.mainLock = true) (a b c x : Int) :
    exec (.rootGate a b c x) s = .next (s.afterGate (({ s.clocks with
      portA := s.clocks.portA.gate a s.clk.island, portB := s.clocks.portB.gate b s.clk.island
      twinLink := s.clocks.twinLink.gate c s.clk.island } : ClockUnit).oscillator x)) :=
  congrArg Host.Outcome.next ((inTurn_in_turn (c := .rootGate a b c x) _ hturn).trans (if_pos hlock))

/-! #### A loss of edges, and the end of HOLDOVER_TIME (R559 to R561) -/

/-- The state after a loss of the oscillator's edges, before the root is evaluated. -/
def State.edgesLost (s : State) : State :=
  ({ s with clocks := { s.clocks with xoQualified := false, xoGood := 0, xoOffsets := [] } } : State).xoLeaf s.clocks.xoQualified

theorem edgesLost_clocks (s : State) : s.edgesLost.clocks = { s.clocks with xoQualified := false, xoGood := 0, xoOffsets := [] } := by
  simp [State.edgesLost]

theorem edgesLost_reports (s : State) (ks : List Nat) : s.ReportsBesideClocks s.edgesLost ks :=
  besideClocks_of_clocks (ReportsWith_of_Reports ks (xoLeaf_reports _ _))

theorem preferred_edgesLost (s : State) : s.edgesLost.preferred = s.preferred :=
  preferred_of_besideClocks (edgesLost_reports s []) (by decide) (by decide)

/-- Only the oscillator itself is judged by its edges. -/
theorem edgesLost_qualified {s : State} {source : Nat} (h : source ≠ 2) :
    s.edgesLost.clocks.qualified source = s.clocks.qualified source := by
  rw [edgesLost_clocks]
  unfold ClockUnit.qualified
  split
  · rfl
  · rfl
  · exact absurd rfl h
  · rfl

theorem xoEdgeLoss_in_turn {s : State} (hturn : s.turn 3 = true) (hoff : s.dev.state ≠ .off) (haux : s.dev.state ≠ .aux) :
    exec .xoEdgeLoss s = .next (if s.clocks.mainLock then s.edgesLost.evaluateRoot else s.edgesLost) :=
  congrArg Host.Outcome.next ((inTurn_in_turn (c := .xoEdgeLoss) _ hturn).trans (if_neg (by simp [hoff, haux])))

theorem xoEdgeLoss_moves_root {s : State} (hturn : s.turn 3 = true) (hoff : s.dev.state ≠ .off) (haux : s.dev.state ≠ .aux)
    (hlock : s.clocks.mainLock = true) (hother : s.preferred ≠ 2) (hq : s.clocks.qualified s.preferred = true) :
    ∃ t, exec .xoEdgeLoss s = .next t ∧ t.clocks.xoQualified = false ∧ t.clocks.root = s.preferred
      ∧ s.ReportsBesideClocks t [regKey 0x2011 4, regKey 0x2011 6] := by
  have hroot : s.edgesLost.evaluateRoot = ({ s.edgesLost with clocks := { s.edgesLost.clocks with holdoverSpent := false } } : State).leaveHoldover
      s.preferred := by
    rw [evaluateRoot_of_preferred (by rw [preferred_edgesLost, edgesLost_qualified hother, hq]), preferred_edgesLost]
  refine ⟨s.edgesLost.evaluateRoot, by rw [xoEdgeLoss_in_turn hturn hoff haux, if_pos hlock], ?_, ?_, ?_⟩
  · rw [hroot, leaveHoldover_clocks, edgesLost_clocks]
  · rw [hroot, leaveHoldover_clocks]
  · rw [hroot]
    exact besideClocks_trans (edgesLost_reports s _)
      (besideClocks_trans (besideClocks_of_clocks (ReportsWith_refl _ _)) (leaveHoldover_reports _ _))

/-- HOLDOVER_TIME passes: the oscillator is the root. -/
theorem holdoverTimeExpiry_to_oscillator {s : State} (hturn : s.turn 3 = true) (hin : s.clocks.inHoldover = true)
    (hq : s.clocks.qualified s.preferred = false) (hxo : s.clocks.xoQualified = true) : exec .holdoverTimeExpiry s =
      .next (({ s with clocks := { s.clocks with holdoverSpent := true } } : State).leaveHoldover 2) :=
  congrArg Host.Outcome.next ((inTurn_in_turn (c := .holdoverTimeExpiry) _ hturn).trans
    ((if_pos hin).trans (evaluateRoot_of_oscillator hq rfl hxo)))

/-- Settles O21: each command is its evaluations of the root. -/
theorem clockRootCommandsComplete : Obligations.ClockRootCommandsComplete := by
  refine ⟨fun s a b c x hturn hlock => ?_, fun s hturn hoff haux hlock => ?_, fun s hturn hoff haux hlock hother hq =>
    xoEdgeLoss_moves_root hturn hoff haux hlock hother hq, fun s hturn hin hq hxo => ?_⟩
  · have hexec := rootGate_in_turn hturn hlock a b c x
    refine ⟨fun hwas hq => ⟨_, hexec, afterGate_of_kept rfl hwas hq⟩, fun hq => ⟨_, hexec, afterGate_root hq⟩,
      fun hq hspent htime => ⟨_, hexec, ?_⟩⟩
    rw [afterGate_of_time hq hspent htime]
    refine ⟨?_, fun hout => ?_, ?_⟩
    · simp only [State.qualify4, enterHoldover_clocks]
      split
      · assumption
      · rfl
    · simp only [State.qualify4, enterHoldover_clocks]
      rw [if_neg (by rw [afterLosses_clocks]; exact fun h => Bool.false_ne_true (hout.symm.trans h))]
      exact ⟨rfl, congrArg Clk.et (afterLosses_reports s _).clk⟩
    · refine besideClocks_trans (besideClocks_mono (afterLosses_reports s _) ?_)
        (besideClocks_trans (besideClocks_mono (enterHoldover_reports _) ?_) (qualify4_besideClocks _ _ _))
      · decide
      · decide
  · refine ⟨s.edgesLost, by rw [xoEdgeLoss_in_turn hturn hoff haux, hlock]; rfl, edgesLost_clocks s, edgesLost_reports s []⟩
  · refine ⟨_, holdoverTimeExpiry_to_oscillator hturn hin hq hxo, leaveHoldover_clocks _ 2, ?_⟩
    exact besideClocks_trans (besideClocks_of_clocks (ReportsWith_refl _ _)) (leaveHoldover_reports _ 2)

end Sys2Proof.Machine

namespace Sys2Proof.Machine

/-! ### Channels of the memory (R525 to R542) -/

/-- A channel changed in two ways that agree on it. -/
theorem onChannel_congr {s : State} {ch : Nat} {f g : DramChannel → DramChannel} (h : f (s.channel ch) = g (s.channel ch)) :
    s.onChannel ch f = s.onChannel ch g := by
  have hsame : s.dram.channels.modify ch f = s.dram.channels.modify ch g := by
    refine List.ext_getElem? fun i => ?_
    rw [List.getElem?_modify, List.getElem?_modify]
    by_cases hi : ch = i
    · subst hi
      cases hc : s.dram.channels[ch]? with
      | none => rfl
      | some c =>
        have hchannel : s.channel ch = c := by simp [State.channel, List.getD_eq_getElem?_getD, hc]
        simpa [hchannel] using h
    · simp [hi]
  rw [State.onChannel, State.onChannel, hsame]

theorem channel_onChannel_other (s : State) {ch k : Nat} (hk : k ≠ ch) (f : DramChannel → DramChannel) :
    (s.onChannel ch f).channel k = s.channel k := by
  simp [State.channel, State.onChannel, List.getD_eq_getElem?_getD, Ne.symm hk]

/-- A trained channel is one that the state has. -/
theorem lt_length_of_trained {s : State} {ch : Nat} (h : (s.channel ch).trained = true) : ch < s.dram.channels.length := by
  by_contra hout
  rw [State.channel, List.getD_eq_getElem?_getD, List.getElem?_eq_none (Nat.le_of_not_lt hout)] at h
  exact absurd h (by decide)

/-- All but the memory goes from s to t by reports and by the listed stored numbers. -/
def State.ReportsBesideDram (s t : State) (keys : List Nat) : Prop := ({ s with dram := t.dram } : State).ReportsWith t keys

theorem besideDram_trans {s t u : State} {ks : List Nat} (h : s.ReportsBesideDram t ks) (g : t.ReportsBesideDram u ks) :
    s.ReportsBesideDram u ks :=
  have h' : ({ s with dram := u.dram } : State).ReportsWith { t with dram := u.dram } ks := { h with dram := rfl }
  ReportsWith_trans h' g

theorem besideDram_of_ReportsWith {s t : State} {ks : List Nat} (h : s.ReportsWith t ks) : s.ReportsBesideDram t ks :=
  { h with dram := rfl }

/-- Another memory, and then reports. -/
theorem besideDram_of_dram {s t : State} {d : Dram} {ks : List Nat} (h : ({ s with dram := d } : State).ReportsWith t ks) :
    s.ReportsBesideDram t ks := { h with dram := rfl }

theorem besideDram_onChannel (s : State) (ch : Nat) (f : DramChannel → DramChannel) (ks : List Nat) :
    s.ReportsBesideDram (s.onChannel ch f) ks := besideDram_of_dram (ReportsWith_refl _ ks)

/-! #### Refresh and calibration (R541) -/

/-- What giving commands to a channel leaves of it. -/
def DramChannel.besideCommands (c : DramChannel) : DramChannel := { c with issued := [], toIssue := [] }

theorem issue_besideCommands (c : DramChannel) (et : Tick) (d : DramCommand) : (c.issue et d).besideCommands = c.besideCommands := by
  unfold DramChannel.issue
  split <;> rfl

theorem foldl_issue_besideCommands {α : Type} (command : α → DramCommand) (et : Tick) (l : List α) (c : DramChannel) :
    (l.foldl (fun d x => d.issue et (command x)) c).besideCommands = c.besideCommands := by
  induction l generalizing c with
  | nil => rfl
  | cons x l ih => rw [List.foldl_cons, ih, issue_besideCommands]

theorem eq_of_besideCommands {c d : DramChannel} (h : d.besideCommands = c.besideCommands) :
    d = { c with issued := d.issued, toIssue := d.toIssue } := by
  calc d = { d.besideCommands with issued := d.issued, toIssue := d.toIssue } := rfl
    _ = { c.besideCommands with issued := d.issued, toIssue := d.toIssue } := by rw [h]

theorem exec_refresh {s : State} {ch rank : Nat} (hch : ch < 2) (hrank : rank < s.ranks) (htrained : (s.channel ch).trained = true)
    (waiting : Bool) : exec (.refresh ch rank waiting) s = .next (s.onChannel ch (fun c => c.refresh s.et rank waiting)) :=
  congrArg Host.Outcome.next (if_pos ⟨hch, hrank, htrained⟩)

/-- The three outcomes of a refresh on its channel. -/
theorem refresh_cases (c : DramChannel) (et : Tick) (rank : Nat) :
    (c.postponed.getD rank 0 < 4 → c.refresh et rank true = { c with postponed := c.postponed.set rank (c.postponed.getD rank 0 + 1) })
    ∧ (4 ≤ c.postponed.getD rank 0 →
      c.refresh et rank true = ({ c with refreshes := c.refreshes + 1 } : DramChannel).issue et (.refresh rank))
    ∧ c.refresh et rank false = (List.replicate (1 + c.postponed.getD rank 0) (DramCommand.refresh rank)).foldl (fun x y => x.issue et y)
        { c with refreshes := c.refreshes + (1 + c.postponed.getD rank 0), postponed := c.postponed.set rank 0 } := by
  refine ⟨fun hfew => ?_, fun hmany => ?_, ?_⟩
  · exact if_pos ⟨rfl, hfew⟩
  · have hfull : ¬(true = true ∧ c.postponed.getD rank 0 < 4) := fun h => Nat.not_lt.mpr hmany h.2
    unfold DramChannel.refresh
    dsimp only
    rw [if_neg hfull]
    rfl
  · simp only [DramChannel.refresh, Bool.false_eq_true, false_and, if_false]

/-- One channel calibrated. -/
def State.calibrated (s : State) (c : DramChannel) : DramChannel :=
  if c.trained then
    (List.range s.ranks).foldl (fun d k => d.issue s.et (.calibrate k)) { c with zqCalibrations := c.zqCalibrations + s.ranks }
  else c

theorem exec_zqCalibration (s : State) :
    exec .zqCalibration s = .next { s with dram := { s.dram with channels := s.dram.channels.map s.calibrated } } := rfl

theorem calibrated_of_trained (s : State) {c : DramChannel} (h : c.trained = true) :
    (s.calibrated c).zqCalibrations = c.zqCalibrations + s.ranks
      ∧ s.calibrated c = { c with
          zqCalibrations := (s.calibrated c).zqCalibrations, issued := (s.calibrated c).issued, toIssue := (s.calibrated c).toIssue } := by
  have hbeside : (s.calibrated c).besideCommands
      = ({ c with zqCalibrations := c.zqCalibrations + s.ranks } : DramChannel).besideCommands := by
    rw [State.calibrated, if_pos h]
    exact foldl_issue_besideCommands DramCommand.calibrate s.et _ _
  have hcount : (s.calibrated c).zqCalibrations = c.zqCalibrations + s.ranks := congrArg DramChannel.zqCalibrations hbeside
  refine ⟨hcount, ?_⟩
  rw [hcount]
  exact eq_of_besideCommands hbeside

/-! #### The case temperature (R542) -/

theorem sext_unsignedOf {v : Int} (hlow : -32768 ≤ v) (hhigh : v ≤ 32767) : sext 16 (unsignedOf 16 v) = v := by
  simp only [sext, unsignedOf]
  norm_num
  split <;> omega

theorem setDoubled_doubled {s : State} {ch : Nat} (h : ch < s.dram.channels.length) (on : Bool) :
    ((s.setDoubled ch on).channel ch).doubled = on := by
  have hset : ((s.onChannel ch (fun c => { c with doubled := on })).channel ch).doubled = on := by rw [channel_onChannel_self h]
  unfold State.setDoubled
  dsimp only
  split
  · exact hset
  · simpa [State.channel] using hset

theorem setDoubled_channel_other (s : State) {ch k : Nat} (hk : k ≠ ch) (on : Bool) : (s.setDoubled ch on).channel k = s.channel k := by
  have hset := channel_onChannel_other s hk (fun c => { c with doubled := on })
  unfold State.setDoubled
  dsimp only
  split
  · exact hset
  · simpa [State.channel] using hset

theorem setDoubled_length (s : State) (ch : Nat) (on : Bool) :
    (s.setDoubled ch on).dram.channels.length = s.dram.channels.length := by
  unfold State.setDoubled
  dsimp only
  split <;> simp [State.onChannel]

theorem setDoubled_reports (s : State) (ch : Nat) (on : Bool) (ks : List Nat) : s.ReportsBesideDram (s.setDoubled ch on) ks := by
  unfold State.setDoubled
  dsimp only
  split
  · exact besideDram_onChannel s ch _ ks
  · exact besideDram_of_dram (ReportsWith_of_Reports ks (Reports_setLeaf _ _ _))

theorem exec_caseTempRead {s : State} {ch : Nat} {v : Int} (hch : ch < 2) (htrained : (s.channel ch).trained = true)
    (hsource : s.reg 0xA000 2 = 1) (hlow : -32768 ≤ v) (hhigh : v ≤ 32767) :
    exec (.caseTempRead ch v) s = .next (s.caseTemperature ch v) := by
  have hexec : exec (.caseTempRead ch v) s = .next (s.caseTemperature ch (sext 16 (unsignedOf 16 v))) :=
    congrArg Host.Outcome.next (if_pos ⟨hch, htrained, hsource⟩)
  rw [hexec, sext_unsignedOf hlow hhigh]

/-- A case temperature above, below and between the limits. -/
theorem caseTemperature_cases (s : State) (ch : Nat) (v : Int) :
    (8500 < v → s.caseTemperature ch v = (s.setReg (0xA010 + ch) 11 v).setDoubled ch true)
    ∧ (v < 8300 → s.caseTemperature ch v = (s.setReg (0xA010 + ch) 11 v).setDoubled ch false)
    ∧ (8300 ≤ v → v ≤ 8500 → s.caseTemperature ch v = s.setReg (0xA010 + ch) 11 v) := by
  unfold State.caseTemperature
  refine ⟨fun hhot => if_pos hhot, fun hcold => ?_, fun hmin hmax => ?_⟩
  · exact (if_neg (by omega)).trans (if_pos hcold)
  · exact (if_neg (by omega)).trans (if_neg (by omega))

theorem caseTemperature_reports (s : State) (ch : Nat) (v : Int) :
    s.ReportsBesideDram (s.caseTemperature ch v) [regKey (0xA010 + ch) 11] := by
  have hvalue : s.ReportsBesideDram (s.setReg (0xA010 + ch) 11 v) [regKey (0xA010 + ch) 11] :=
    besideDram_of_ReportsWith (ReportsWith_setReg s _ _ _ (List.mem_singleton.mpr rfl))
  unfold State.caseTemperature
  dsimp only
  (repeat' split)
  · exact besideDram_trans hvalue (setDoubled_reports _ _ _ _)
  · exact besideDram_trans hvalue (setDoubled_reports _ _ _ _)
  · exact hvalue

theorem setDoubled_regs (s : State) (ch : Nat) (on : Bool) : (s.setDoubled ch on).regs = s.regs := by
  unfold State.setDoubled
  dsimp only
  split <;> simp

theorem caseTemperature_value (s : State) (ch : Nat) (v : Int) : (s.caseTemperature ch v).reg (0xA010 + ch) 11 = v := by
  unfold State.caseTemperature
  dsimp only
  (repeat' split)
  · rw [reg_of_regs (setDoubled_regs _ _ _), reg_setReg_self]
  · rw [reg_of_regs (setDoubled_regs _ _ _), reg_setReg_self]
  · exact reg_setReg_self _ _ _ _

/-- No write of the case temperature under source 2: both channels refresh at twice the rate. -/
theorem caseTempTimeout_doubles {s : State} (hsource : s.reg 0xA000 2 = 2) (hlen : s.dram.channels.length = 2) :
    ∃ t, exec .caseTempTimeout s = .next t ∧ (t.channel 0).doubled = true ∧ (t.channel 1).doubled = true ∧ s.ReportsBesideDram t [] := by
  have hexec : exec .caseTempTimeout s = .next ((({ s with
      dram := { s.dram with channels := s.dram.channels.map (fun (c : DramChannel) => { c with caseStale := true }) }
      } : State).setDoubled 0 true).setDoubled 1 true) := congrArg Host.Outcome.next (if_pos hsource)
  refine ⟨_, hexec, ?_, ?_, ?_⟩
  · rw [setDoubled_channel_other _ (by decide), setDoubled_doubled]
    simp [hlen]
  · rw [setDoubled_doubled]
    rw [setDoubled_length]
    simp [hlen]
  · exact besideDram_trans (besideDram_of_dram (ReportsWith_refl _ _))
      (besideDram_trans (setDoubled_reports _ 0 true _) (setDoubled_reports _ 1 true _))

/-- Settles O24: commands change `issued` and `toIssue` of a channel alone, a temperature its `doubled`. -/
theorem refreshAndTemperatureCommandsComplete : Obligations.RefreshAndTemperatureCommandsComplete := by
  refine ⟨fun s ch rank hch hrank htrained => ?_, fun s => ?_, fun s ch v hlen hch htrained hsource hlow hhigh => ?_,
    fun s hsource hlen => caseTempTimeout_doubles hsource hlen⟩
  · obtain ⟨hfew, hmany, hnow⟩ := refresh_cases (s.channel ch) s.et rank
    refine ⟨fun h => ?_, fun h => ?_, ?_⟩
    · exact (exec_refresh hch hrank htrained true).trans (congrArg Host.Outcome.next (onChannel_congr (hfew h)))
    · exact (exec_refresh hch hrank htrained true).trans (congrArg Host.Outcome.next (onChannel_congr (hmany h)))
    · exact (exec_refresh hch hrank htrained false).trans (congrArg Host.Outcome.next (onChannel_congr hnow))
  · refine ⟨_, exec_zqCalibration s, rfl, List.length_map _, fun i c hc => ⟨s.calibrated c, by simp [hc], fun hno => ?_,
      fun hyes => calibrated_of_trained s hyes⟩⟩
    exact if_neg (by simp [hno])
  · obtain ⟨hhot, hcold, hbetween⟩ := caseTemperature_cases s ch v
    refine ⟨_, exec_caseTempRead hch htrained hsource hlow hhigh, caseTemperature_value s ch v, fun h => ?_, fun h => ?_,
      fun hmin hmax => by rw [hbetween hmin hmax]; rfl, caseTemperature_reports s ch v⟩
    · rw [hhot h, setDoubled_doubled (by simpa using hlen)]
    · rw [hcold h, setDoubled_doubled (by simpa using hlen)]

/-! ### Reads and alerts (R529 to R539) -/

theorem dramRead_waits {s : State} {ch client address latency h id : Nat} {line : List Byte} {act : Bool} (place : ReadPlace)
    (hch : ch < 2) (hh : h < 32) (htrained : (s.channel ch).trained = true) (hwaits : s.writeWaits address = true) :
    exec (.dramReadComplete ch client address line latency act h id place) s = .next { s with dram := { s.dram with
      blocked := s.dram.blocked ++ [⟨.dramReadComplete ch client address line latency act h id place, s.et⟩] } } :=
  congrArg Host.Outcome.next ((if_pos ⟨htrained, hch, hh⟩).trans (if_pos hwaits))

/-- A read without an ACTIVATE whose line no write of the queue matches. -/
theorem dramRead_returns {s : State} {ch client address latency h id : Nat} {line : List Byte} (place : ReadPlace)
    (hch : ch < 2) (hh : h < 32) (htrained : (s.channel ch).trained = true) (hfree : s.writeWaits address = false) :
    exec (.dramReadComplete ch client address line latency false h id place) s =
      .next (if failingLanes line = 0
        then (s.noteRead ch (clientCode client) address).readPassed ch (clientCode client) address latency h id place.bitmap place.first
        else (s.noteRead ch (clientCode client) address).readFailed ch (clientCode client) address (failingLanes line) h id place.bitmap) :=
  congrArg Host.Outcome.next ((if_pos ⟨htrained, hch, hh⟩).trans (if_neg (by rw [hfree]; decide)))

/-- The retry buffer takes the READ of a line that is not repeated. -/
theorem noteRead_first {s : State} {ch client address : Nat} (h : (s.channel ch).repeatsOf client address = 0) :
    s.noteRead ch client address = s.onChannel ch (fun c => c.noteIssued (s.et - 11) (.read address)) := if_pos h

theorem noteRead_again {s : State} {ch client address : Nat} (h : (s.channel ch).repeatsOf client address ≠ 0) :
    s.noteRead ch client address = s := if_neg h

/-- What the retry buffer takes changes no repeat. -/
theorem noteRead_repeats {s : State} {ch : Nat} (hch : ch < s.dram.channels.length) (client address : Nat) :
    ((s.noteRead ch client address).channel ch).repeats = (s.channel ch).repeats := by
  unfold State.noteRead
  split
  · rw [channel_onChannel_self hch]
    rfl
  · rfl

theorem repeatsOf_congr {c d : DramChannel} (h : d.repeats = c.repeats) (client address : Nat) :
    d.repeatsOf client address = c.repeatsOf client address := by rw [DramChannel.repeatsOf, DramChannel.repeatsOf, h]

theorem again_repeats_congr {c d : DramChannel} (h : d.repeats = c.repeats) (client address : Nat) :
    (d.again client address).repeats = (c.again client address).repeats := by
  simp [DramChannel.again, DramChannel.settled, h, repeatsOf_congr h]

theorem noteRead_channels (s : State) (ch client address : Nat) :
    ∃ cs, s.noteRead ch client address = { s with dram := { s.dram with channels := cs } } := by
  unfold State.noteRead
  split
  · exact ⟨_, rfl⟩
  · exact ⟨s.dram.channels, rfl⟩

theorem noteRead_length (s : State) (ch client address : Nat) :
    (s.noteRead ch client address).dram.channels.length = s.dram.channels.length := by
  unfold State.noteRead
  split
  · exact length_onChannel _ _ _
  · rfl

theorem issue_repeats (c : DramChannel) (et : Tick) (d : DramCommand) : (c.issue et d).repeats = c.repeats := by
  have hkept := congrArg DramChannel.repeats (issue_besideCommands c et d)
  exact hkept

/-! #### A line that passes -/

theorem readPassed_first {s : State} {ch client address : Nat} (h : (s.channel ch).repeatsOf client address = 0) (latency hd id : Nat)
    (bitmap : Bool) (place : Nat) : s.readPassed ch client address latency hd id bitmap place =
      if client = 2 then (s.measured ch latency).deliver id hd bitmap place else s := by simp [State.readPassed, h]

/-- A line delivered moves nothing but the parts of the segments. -/
theorem deliver_keeps (s : State) (id h : Nat) (bitmap : Bool) (place : Nat) :
    (s.deliver id h bitmap place).dram = s.dram ∧ (s.deliver id h bitmap place).regs = s.regs
      ∧ (s.deliver id h bitmap place).job.latencies = s.job.latencies
      ∧ s.deliver id h bitmap place = { s with job := (s.deliver id h bitmap place).job } := by
  unfold State.deliver
  split
  · exact ⟨rfl, rfl, rfl, rfl⟩
  · exact ⟨rfl, rfl, rfl, rfl⟩

theorem raiseReg_eq_max (s : State) (i a : Nat) (v : Int) : (s.raiseReg i a v).reg i a = max (s.reg i a) v := by
  rw [State.raiseReg, reg_setReg_self]
  split <;> omega

theorem measured_regs (s : State) (ch latency : Nat) :
    s.KeepsRegs (s.measured ch latency) [regKey 0x3010 5, regKey (0xA010 + ch) 14] :=
  KeepsRegs_trans (KeepsRegs_trans (KeepsRegs_of_eq _ rfl) (KeepsRegs_bump _ _ _ List.mem_cons_self))
    (KeepsRegs_setReg _ _ _ _ (List.mem_cons_of_mem _ (List.mem_singleton.mpr rfl)))

theorem measured_latency (s : State) (ch latency : Nat) :
    (s.measured ch latency).reg (0xA010 + ch) 14 = max (s.reg (0xA010 + ch) 14) latency := by
  have hother : regKey (0xA010 + ch) 14 ≠ regKey 0x3010 5 := by simp only [regKey]; omega
  rw [State.measured, raiseReg_eq_max, reg_bump_other _ hother]
  exact congrArg (fun v : Int => max v latency) (reg_of_regs (s := s) rfl _ _)

theorem measured_keeps (s : State) (ch latency : Nat) : (s.measured ch latency).dram = s.dram
    ∧ (s.measured ch latency).job.latencies = (latency :: s.job.latencies).take 1048576
    ∧ s.measured ch latency = { s with job := (s.measured ch latency).job, regs := (s.measured ch latency).regs } := ⟨rfl, rfl, rfl⟩

/-- An exposure line measured and delivered. -/
theorem exposureLine_delivered (s : State) (ch latency id h : Nat) (bitmap : Bool) (place : Nat) :
    let t := (s.measured ch latency).deliver id h bitmap place
    t.dram = s.dram ∧ t.job.latencies = (latency :: s.job.latencies).take 1048576
      ∧ t.reg (0xA010 + ch) 14 = max (s.reg (0xA010 + ch) 14) latency
      ∧ s.KeepsRegs t [regKey 0x3010 5, regKey (0xA010 + ch) 14] ∧ t = { s with job := t.job, regs := t.regs } := by
  intro t
  obtain ⟨hdram, hlatencies, heq⟩ := measured_keeps s ch latency
  obtain ⟨hdram', hregs', hlatencies', heq'⟩ := deliver_keeps (s.measured ch latency) id h bitmap place
  refine ⟨hdram'.trans hdram, hlatencies'.trans hlatencies, (reg_of_regs hregs' _ _).trans (measured_latency s ch latency),
    KeepsRegs_trans (measured_regs s ch latency) (KeepsRegs_of_eq _ hregs'), ?_⟩
  calc t = { s.measured ch latency with job := t.job } := heq'
    _ = { s with job := t.job, regs := (s.measured ch latency).regs } := by rw [heq]
    _ = { s with job := t.job, regs := t.regs } := by rw [hregs']

/-- A copy of an exposure line that passed, not repeated: the READ of the retry buffer, the latency, and what the head's
buffer gains. -/
theorem exposureLine_passes {s : State} {ch address : Nat} (hch : ch < s.dram.channels.length)
    (h : (s.channel ch).repeatsOf 2 address = 0) (latency hd id : Nat) (bitmap : Bool) (place : Nat) :
    (s.noteRead ch 2 address).readPassed ch 2 address latency hd id bitmap place =
      ((s.onChannel ch (fun c => c.noteIssued (s.et - 11) (.read address))).measured ch latency).deliver id hd bitmap place := by
  rw [readPassed_first (by rw [repeatsOf_congr (noteRead_repeats hch 2 address), h]), if_pos rfl, noteRead_first h]

/-- A repeated line of another client that passed. -/
theorem repeatedLine_passes {s : State} {ch client address : Nat} (hclient : client ≠ 2)
    (h : (s.channel ch).repeatsOf client address ≠ 0) (latency hd id : Nat) (bitmap : Bool) (place : Nat) :
    (s.noteRead ch client address).readPassed ch client address latency hd id bitmap place =
      (s.onChannel ch (fun c => c.settled client address)).bump (0xA010 + ch) 4 := by
  rw [noteRead_again h]
  simp [State.readPassed, h, hclient]

/-! #### A line that fails -/

/-- The first three failures of a line. -/
theorem readFailed_repeats {s : State} {ch client address : Nat} (h : (s.channel ch).repeatsOf client address < 3)
    (lanes hd id : Nat) (bitmap : Bool) : s.readFailed ch client address lanes hd id bitmap =
      ((s.bump (0xA010 + ch) 3).memoryLeaf ch 1).onChannel ch (fun c => (c.again client address).issue s.et (.read address)) := if_pos h

/-- A line that fails for one of the first three times is counted and repeated. -/
theorem failedLine_repeats {s u : State} {ch client address : Nat} (hu : u = s.noteRead ch client address)
    (hch : ch < s.dram.channels.length) (h : (s.channel ch).repeatsOf client address < 3) (lanes hd id : Nat) (bitmap : Bool) :
    ((u.readFailed ch client address lanes hd id bitmap).channel ch).repeats = ((s.channel ch).again client address).repeats
      ∧ (u.readFailed ch client address lanes hd id bitmap).dram =
        { s.dram with channels := (u.readFailed ch client address lanes hd id bitmap).dram.channels }
      ∧ (u.readFailed ch client address lanes hd id bitmap).reg (0xA010 + ch) 3
        = counterNext (regKey (0xA010 + ch) 3) (s.reg (0xA010 + ch) 3) 1
      ∧ s.ReportsBesideDram (u.readFailed ch client address lanes hd id bitmap) [regKey (0xA010 + ch) 3] := by
  have hsame : (u.channel ch).repeats = (s.channel ch).repeats := hu ▸ noteRead_repeats hch client address
  obtain ⟨c, hc⟩ := noteRead_channels s ch client address
  have hlen : ch < u.dram.channels.length := by rw [hu, noteRead_length]; exact hch
  rw [readFailed_repeats (by rw [repeatsOf_congr hsame]; exact h)]
  refine ⟨?_, ?_, ?_, ?_⟩
  · rw [channel_onChannel_self (by simpa using hlen), issue_repeats]
    exact again_repeats_congr (by simpa [State.channel] using hsame) client address
  · rw [hu, hc]
    simp [State.onChannel]
  · have hold : u.reg (0xA010 + ch) 3 = s.reg (0xA010 + ch) 3 := reg_of_regs (by rw [hu, hc]) _ _
    rw [← hold]
    exact (reg_of_regs (memoryLeaf_regs _ ch 1) _ _).trans (reg_bump_self _ _ _)
  · have hfirst : s.ReportsBesideDram u [regKey (0xA010 + ch) 3] := by
      rw [hu, hc]
      exact besideDram_of_dram (ReportsWith_refl _ _)
    exact besideDram_trans hfirst (besideDram_trans (besideDram_of_ReportsWith (ReportsWith_trans
      (ReportsWith_bump u _ _ (List.mem_singleton.mpr rfl)) (ReportsWith_of_Reports _ (Reports_setLeaf _ _ _))))
      (besideDram_onChannel _ _ _ _))

/-! #### Alerts -/

theorem exec_caAlert {s : State} {ch : Nat} (hch : ch < 2) (htrained : (s.channel ch).trained = true) (hhigh : (s.channel ch).alert ≠ .low) :
    exec (.caAlert ch) s = .next (s.alertFalls ch) := congrArg Host.Outcome.next (if_pos ⟨hch, htrained, hhigh⟩)

/-- A fall of ALERT_N: the alert and its ET, the count and the leaf (R533). -/
theorem alertFalls_counted (s : State) (ch : Nat) :
    (ch < s.dram.channels.length → ((s.alertFalls ch).channel ch).alert = .low ∧ ((s.alertFalls ch).channel ch).fellAt = s.et)
      ∧ (s.alertFalls ch).reg (0xA010 + ch) 1 = counterNext (regKey (0xA010 + ch) 1) (s.reg (0xA010 + ch) 1) 1
      ∧ (leafAt (s.alertFalls ch).leaves 0x210C (8 * ch)).isSome = true
      ∧ ({ s with dram := { s.dram with channels := (s.alertFalls ch).dram.channels } } : State).ReportsWith (s.alertFalls ch)
        [regKey (0xA010 + ch) 1] := by
  have hdram : (s.alertFalls ch).dram = (s.onChannel ch (fun c => { c with
      alert := .low, fellAt := s.et, falls := if c.alert = .replay then c.falls + 1 else c.falls })).dram := by simp [State.alertFalls]
  refine ⟨fun hlen => ?_, ?_, leafAt_setLeaf_self _ _ _, ?_⟩
  · have hself := channel_onChannel_self hlen (fun c => { c with
      alert := .low, fellAt := s.et, falls := if c.alert = .replay then c.falls + 1 else c.falls })
    rw [State.channel, ← hdram] at hself
    rw [State.channel, hself]
    exact ⟨rfl, rfl⟩
  · exact (reg_of_regs (memoryLeaf_regs _ ch 0) _ _).trans (reg_bump_self _ _ _)
  · rw [hdram]
    exact ReportsWith_trans (ReportsWith_bump _ _ _ (List.mem_singleton.mpr rfl)) (ReportsWith_of_Reports _ (Reports_setLeaf _ _ _))

theorem exec_caAlertRelease {s : State} {ch : Nat} (hch : ch < 2) (hlow : (s.channel ch).alert = .low) (hfew : (s.channel ch).falls < 3)
    (hno : (s.channel ch).retraining = false) :
    exec (.caAlertRelease ch) s = .next (s.replay ch ((s.channel ch).recent (s.channel ch).fellAt)) :=
  congrArg Host.Outcome.next (if_pos ⟨hch, hlow, hfew, hno⟩)

/-- A replay goes ahead of what waits, behind the commands that its rows need. -/
theorem replay_toIssue {s : State} {ch : Nat} (h : ch < s.dram.channels.length) (cs : List DramCommand) :
    ∃ rows, ((s.replay ch cs).channel ch).toIssue = rows ++ cs ++ (s.channel ch).toIssue := by
  unfold State.replay
  extract_lets rows t
  have hlen : t.dram.channels.length = s.dram.channels.length := length_onChannel _ _ _
  have hrows := (foldl_activated_training rows (s := t) (hlen ▸ h)).2
  rw [channel_onChannel_self (by rw [hrows, hlen]; exact h)]
  exact ⟨_, rfl⟩

theorem exec_caAlertStuck {s : State} {ch : Nat} (hch : ch < 2) (hlow : (s.channel ch).alert = .low)
    (hno : (s.channel ch).retraining = false) : exec (.caAlertStuck ch) s = .next (s.startRetraining ch) :=
  congrArg Host.Outcome.next (if_pos ⟨hch, hlow, hno⟩)

/-- A retraining that begins: its flags, its count and its leaf (R545). -/
theorem startRetraining_begins (s : State) (ch : Nat) :
    (s.startRetraining ch).dram = { s.dram with channels := s.dram.channels.modify ch (fun c =>
        { c with retraining := true, retrainDue := false, repeated := false }) }
      ∧ (s.startRetraining ch).reg (0xA010 + ch) 12 = counterNext (regKey (0xA010 + ch) 12) (s.reg (0xA010 + ch) 12) 1
      ∧ (leafAt (s.startRetraining ch).leaves 0x210C (8 * ch + 3)).isSome = true
      ∧ s.ReportsBesideDram (s.startRetraining ch) [regKey (0xA010 + ch) 12] := by
  refine ⟨by simp [State.startRetraining, State.onChannel], ?_, leafAt_setLeaf_self _ _ _,
    besideDram_of_dram (startRetraining_reports s ch)⟩
  exact (reg_of_regs (memoryLeaf_regs _ ch 3) _ _).trans (reg_bump_self _ _ _)

/-- Settles O23: a read by its write, its parity and its repeats, an alert by its fall, its replay and its retraining. -/
theorem memoryReadsAndAlertsComplete : Obligations.MemoryReadsAndAlertsComplete := by
  refine ⟨fun s ch client address latency h id place line act bitmap hch hh htrained hwaits => dramRead_waits _ hch hh htrained hwaits,
    fun s ch client address latency h id place line bitmap hch hh htrained hfree hgood => ?_,
    fun s ch client address latency h id place line bitmap hch hh htrained hfree hbad hfew => ?_,
    fun s ch hch htrained hhigh => ⟨_, exec_caAlert hch htrained hhigh, alertFalls_counted s ch⟩,
    fun s ch hch hlen hlow hfew hno => ⟨_, exec_caAlertRelease hch hlow hfew hno, congrArg (fun x => x.2.2) (replay_training hlen _),
      replay_toIssue hlen _, replay_regs s ch _, eq_of_besidesChannels (replay_besides s ch _)⟩,
    fun s ch hch hlow hno => ⟨_, exec_caAlertStuck hch hlow hno, startRetraining_begins s ch⟩⟩
  · have hexec := dramRead_returns (client := client) (latency := latency) (id := id) (line := line) ⟨bitmap, place⟩ hch hh htrained hfree
    rw [if_pos hgood] at hexec
    have hlen := lt_length_of_trained htrained
    refine ⟨fun hclient hfirst => ?_, fun hclient hagain => ⟨_, hexec.trans (congrArg _ (repeatedLine_passes hclient hagain _ _ _ _ _)),
      rfl, reg_bump_self _ _ _, KeepsRegs_trans (KeepsRegs_of_eq _ rfl) (KeepsRegs_bump _ _ _ (List.mem_singleton.mpr rfl)), rfl⟩,
      fun hclient hfirst => ?_⟩
    · have hnone : ((s.noteRead ch (clientCode client) address).channel ch).repeatsOf (clientCode client) address = 0 := by
        rw [repeatsOf_congr (noteRead_repeats hlen _ _), hfirst]
      rw [hexec, readPassed_first hnone, if_neg hclient, noteRead_first hfirst]
    · rw [hclient, exposureLine_passes hlen hfirst] at hexec
      obtain ⟨hdram, hlatencies, hmax, hregs, heq⟩ := exposureLine_delivered
        (s.onChannel ch (fun c => c.noteIssued (s.et - 11) (.read address))) ch latency id h bitmap place
      exact ⟨_, hexec, hdram, hlatencies, hmax, hregs, by rw [hdram]; exact heq⟩
  · obtain ⟨hrepeats, hdram, hcount, hreports⟩ := failedLine_repeats rfl (lt_length_of_trained htrained) hfew (failingLanes line) h id bitmap
    refine ⟨_, dramRead_returns (latency := latency) ⟨bitmap, place⟩ hch hh htrained hfree, ?_⟩
    rw [if_neg hbad]
    exact ⟨fun _ => hrepeats, hdram, hcount, hreports⟩

end Sys2Proof.Machine

namespace Sys2Proof.Machine

/-! ### Supplies (R19, R589, R591, R653, R680) -/

theorem tear_frame (s : State) : s.tear.images = s.images ∧ s.tear.fuses = s.fuses ∧ s.tear.flash = s.flash := by
  unfold State.tear
  split <;> exact ⟨rfl, rfl, rfl⟩

/-- What OFF leaves of a controller (R589). -/
theorem poweredOff_leaves (s : State) : s.poweredOff.dev.state = .off ∧ s.poweredOff.power.vaux = false
    ∧ s.poweredOff.power.inhibit = true ∧ s.poweredOff.thermal = Thermal.initial ∧ s.poweredOff.regs = [] ∧ s.poweredOff.blobs = []
    ∧ s.poweredOff.heads = State.reset.heads ∧ s.poweredOff.job = Job.initial ∧ s.poweredOff.sessions = State.reset.sessions
    ∧ s.poweredOff.leaves = [] ∧ s.poweredOff.flash = s.flash.cutShort ∧ s.poweredOff.fuses = s.fuses
    ∧ s.poweredOff.images.slotA = s.images.slotA ∧ s.poweredOff.images.slotB = s.images.slotB := by
  obtain ⟨himages, hfuses, hflash⟩ := tear_frame (s.failTrial s.dev.cause)
  refine ⟨rfl, rfl, rfl, rfl, rfl, rfl, rfl, rfl, rfl, rfl, ?_, ?_, ?_, ?_⟩
  · refine (congrArg FlashStore.cutShort hflash).trans ?_
    simp
  · refine hfuses.trans ?_
    simp
  · exact (congrArg Images.slotA himages).trans (failTrial_slotA s _)
  · exact (congrArg Images.slotB himages).trans (failTrial_slotB s _)

/-- The reset inputs released in AUX: both are high and a test instruction ends (R683). -/
def State.inputsReleased (s : State) : State :=
  { s with power := { s.power with pwrgood := true, resetFree := true, entered := none }
           tap := { s.tap with instr := s.tap.instr.harmless } }

theorem testEnds_of_released (s : State) :
    ({ s with power := { s.power with pwrgood := true, resetFree := true, entered := none } } : State).testEnds = s.inputsReleased :=
  if_neg (by simp)

theorem exec_auxExit {s : State} (haux : s.dev.state = .aux) (org : Nat) (testEn : Bool) : exec (.auxExit org testEn) s =
    .next (if testEn then { s.inputsReleased with power := { s.inputsReleased.power with dramOrg := org % 16, testEn := true } }
      else s.inputsReleased.leaveAux (org % 16) testEn) := by
  have hexit : exec (.auxExit org testEn) s = execAuxExit org testEn s := rfl
  rw [hexit, execAuxExit, testEnds_of_released]
  exact congrArg Host.Outcome.next (if_pos haux)

/-- Settles O11: the three events by `record`, `poweredOff` and the exit with the reset inputs released. -/
theorem supplyEventsComplete : Obligations.SupplyEventsComplete := by
  refine ⟨fun s hoff => ⟨_, congrArg Host.Outcome.next (if_pos hoff), Reports_record _ 0x0001 _⟩,
    fun s hon => ⟨_, congrArg Host.Outcome.next (if_neg hon), poweredOff_leaves s⟩,
    fun s org haux hcool => ⟨_, exec_auxExit haux org false, ?_⟩, fun s org haux htrip => ⟨_, exec_auxExit haux org false, ?_⟩,
    fun s org haux => ⟨_, exec_auxExit haux org true, rfl⟩⟩
  · have hsame : s.inputsReleased.thermal.tripped = false := hcool
    simp only [Bool.false_eq_true, if_false, State.leaveAux, hsame]
    rfl
  · have hsame : s.inputsReleased.thermal.tripped = true := htrip
    simp only [Bool.false_eq_true, if_false, State.leaveAux, hsame, if_true, and_self]

end Sys2Proof.Machine

namespace Sys2Proof.Machine

/-! ### The thermal monitor (R572 to R586) -/

/-- What a measurement's reports leave of the monitor. -/
def Thermal.judgement (t : Thermal) : List Sensor × Bool × Nat := (t.sensors, t.tripped, t.hotAt)

theorem exclusionLimit_judgement (s : State) (turned : Bool) : (s.exclusionLimit turned).thermal.judgement = s.thermal.judgement := by
  unfold State.exclusionLimit
  dsimp only
  split
  · simp [Thermal.judgement]
  · rfl

theorem fastMode_judgement (s : State) (top : Int) : (s.fastMode top).thermal.judgement = s.thermal.judgement := by
  unfold State.fastMode
  (repeat' split) <;> simp [Thermal.judgement]

theorem dieWarning_judgement (s : State) (top : Int) : (s.dieWarning top).thermal.judgement = s.thermal.judgement := by
  unfold State.dieWarning
  (repeat' split) <;> simp [Thermal.judgement]

theorem setLeaf_regs (s : State) (reg bit : Nat) : (s.setLeaf reg bit).regs = s.regs := by simp

theorem fastMode_regs (s : State) (top : Int) : (s.fastMode top).regs = s.regs := by simp

theorem exclusionLimit_regs (s : State) (turned : Bool) : (s.exclusionLimit turned).regs = s.regs := by simp

theorem dieWarning_regs (s : State) (top : Int) : s.KeepsRegs (s.dieWarning top) [regKey 0x2031 12] := by
  unfold State.dieWarning
  split
  · exact KeepsRegs_trans (KeepsRegs_trans (KeepsRegs_of_eq _ rfl) (KeepsRegs_bump _ 0x2031 12 (List.mem_singleton.mpr rfl)))
      (KeepsRegs_of_eq _ (setLeaf_regs _ _ _))
  · split
    · exact KeepsRegs_of_eq _ rfl
    · exact KeepsRegs_refl s _

theorem reportExclusions_regs (s : State) (before : List Sensor) (readings : List Int) :
    s.KeepsRegs (s.reportExclusions before readings) [regKey 0xC000 5, regKey 0x2031 13] := by
  refine KeepsRegs_foldl (fun t x => ?_) _ s
  have hrecord (ty : Nat) (bs : List Byte) : t.KeepsRegs (t.record ty bs) [regKey 0xC000 5, regKey 0x2031 13] :=
    KeepsRegs_mono (Reports_record t ty bs).regs (List.cons_subset_cons _ (List.nil_subset _))
  split
  dsimp only
  split
  · exact KeepsRegs_refl t _
  · split
    · exact KeepsRegs_trans (KeepsRegs_trans (hrecord _ _) (KeepsRegs_bump _ 0x2031 13 (List.mem_cons_of_mem _
        (List.mem_singleton.mpr rfl)))) (KeepsRegs_of_eq _ (setLeaf_regs _ _ _))
    · exact hrecord _ _

/-! #### A measurement (R573 to R579, R585) -/

/-- A measurement taken in, before its trip is judged. -/
def State.measurementTaken (s : State) (readings : List Int) : State :=
  let m := s.thermal.measured readings s.clk.island
  let parts := partReadings s.thermal.sensors m.1
  let t := { s with thermal := { s.thermal with sensors := m.1, cool := parts.all (fun x => decide (x.2 < 10000)) } }
  ((((((t.reportExclusions s.thermal.sensors readings).exclusionLimit m.2).dieMax (hottest parts)).fastMode
    (hottest parts).2).dieWarning (hottest parts).2).retrainByDelta readings)

/-- The hottest reading that takes part in a measurement, and its sensor. -/
def State.hottestOf (s : State) (readings : List Int) : Nat × Int :=
  hottest (partReadings s.thermal.sensors (s.thermal.measured readings s.clk.island).1)

theorem measure_eq (s : State) (readings : List Int) :
    s.measure readings = (s.measurementTaken readings).judgeTrip (s.hottestOf readings) := rfl

theorem measurementTaken_frame (s : State) (readings : List Int) : (s.measurementTaken readings).dev = s.dev
    ∧ (s.measurementTaken readings).heads = s.heads ∧ (s.measurementTaken readings).motion = s.motion
    ∧ (s.measurementTaken readings).job = s.job ∧ (s.measurementTaken readings).clk = s.clk
    ∧ (s.measurementTaken readings).power = s.power ∧ (s.measurementTaken readings).fuses = s.fuses
    ∧ (s.measurementTaken readings).flash = s.flash := by simp [State.measurementTaken]

theorem measurementTaken_judgement (s : State) (readings : List Int) : (s.measurementTaken readings).thermal.judgement =
    ((s.thermal.measured readings s.clk.island).1, s.thermal.tripped, s.thermal.hotAt) := by
  unfold State.measurementTaken
  extract_lets m parts sensors t
  have hdelta (u : State) : (u.retrainByDelta readings).thermal = u.thermal := rfl
  have hdie (u : State) (top : Nat × Int) : (u.dieMax top).thermal = u.thermal := by simp
  have hreport (u : State) : (u.reportExclusions s.thermal.sensors readings).thermal = u.thermal := by simp
  rw [hdelta, dieWarning_judgement, fastMode_judgement, hdie, exclusionLimit_judgement, hreport]
  rfl

theorem dieMax_regs (s : State) (top : Nat × Int) : (s.dieMax top).reg 0x2031 1 = top.2 ∧ (s.dieMax top).reg 0x2031 2 = top.1
    ∧ (s.dieMax top).reg 0x2031 14 = max (s.reg 0x2031 14) top.2 := by
  unfold State.dieMax
  refine ⟨?_, ?_, ?_⟩
  · rw [State.raiseReg, reg_setReg_other _ _ (by decide), reg_setReg_other _ _ (by decide), reg_setReg_self]
  · rw [State.raiseReg, reg_setReg_other _ _ (by decide), reg_setReg_self]
  · rw [raiseReg_eq_max, reg_setReg_other _ _ (by decide), reg_setReg_other _ _ (by decide)]

/-- DIE_MAX, DIE_MAX_SENSOR and PEAK after a measurement (R585). -/
theorem measurementTaken_regs (s : State) (readings : List Int) :
    (s.measurementTaken readings).reg 0x2031 1 = (s.hottestOf readings).2
      ∧ (s.measurementTaken readings).reg 0x2031 2 = (s.hottestOf readings).1
      ∧ (s.measurementTaken readings).reg 0x2031 14 = max (s.reg 0x2031 14) (s.hottestOf readings).2 := by
  unfold State.measurementTaken
  extract_lets m parts sensors t
  have hbefore : ((t.reportExclusions s.thermal.sensors readings).exclusionLimit m.2).reg 0x2031 14 = s.reg 0x2031 14 :=
    (reg_of_regs (exclusionLimit_regs _ _) _ _).trans (reportExclusions_regs t _ _ (regKey 0x2031 14) (by decide))
  obtain ⟨hmax, hsensor, hpeak⟩ := dieMax_regs ((t.reportExclusions s.thermal.sensors readings).exclusionLimit m.2) (hottest parts)
  have hkept (u : State) (top : Int) {i a : Nat} (hkey : regKey i a ∉ [regKey 0x2031 12]) :
      (((u.fastMode top).dieWarning top).retrainByDelta readings).reg i a = u.reg i a :=
    (reg_of_regs rfl i a).trans ((dieWarning_regs (u.fastMode top) top _ hkey).trans (reg_of_regs (fastMode_regs u top) i a))
  rw [hkept _ _ (by decide), hkept _ _ (by decide), hkept _ _ (by decide), hmax, hsensor, hpeak, hbefore]
  exact ⟨rfl, rfl, rfl⟩

theorem exec_thermalMeasurement {s : State} {readings : List Int} (hturn : s.turn 2 = true) (hoff : s.dev.state ≠ .off)
    (haux : s.dev.state ≠ .aux) :
    exec (.thermalMeasurement readings) s = .next ((s.measurementTaken readings).judgeTrip (s.hottestOf readings)) :=
  congrArg Host.Outcome.next ((inTurn_in_turn (c := .thermalMeasurement readings) _ hturn).trans
    ((if_neg (by simp [hoff, haux])).trans (measure_eq s readings)))

/-! #### The trip (R579 to R583, R19) -/

/-- The device state and the cause that a trip leads to. -/
theorem tripState_dev {s : State} (hoff : s.dev.state ≠ .off) (haux : s.dev.state ≠ .aux) :
    s.tripState.dev.state = (if s.dev.state = .boot then .boot else .fault) ∧ s.tripState.dev.cause = 0x30 := by
  unfold State.tripState
  dsimp only
  split
  next hfault => rw [hfault]; simp [automatic_dev, Dev.moved]
  next hboot => rw [hboot]; simp [automatic_dev, Dev.moved]
  next h => exact absurd h hoff
  next h => exact absurd h haux
  next hboot _ _ => rw [toFault_dev, if_neg hboot]; exact ⟨rfl, rfl⟩

theorem trip_thermal (s : State) (top : Nat × Int) : (s.trip top).thermal = { s.thermal with tripped := true } := by
  simp [State.trip]

/-- A trip reported and every head dark, before the device state follows. -/
def State.tripReported (s : State) (top : Nat × Int) : State :=
  let u := (((({ s with thermal := { s.thermal with tripped := true } } : State).bump 0x2031 9).setReg 0x2031 10 s.et).setReg 0x2031 11
    top.1).setLeaf 0x210E 0
  ((List.range 32).foldl State.tripHead (u.record 0x0020 (leBytes 8 s.et ++ [byteOf top.1] ++ leBytesInt 2 top.2
    ++ [byteOf s.dev.state.code]))).stopLinks 0x07

theorem trip_eq (s : State) (top : Nat × Int) : s.trip top = (s.tripReported top).tripState := rfl

theorem tripReported_dev (s : State) (top : Nat × Int) : (s.tripReported top).dev = s.dev := by simp [State.tripReported]

theorem trip_dev {s : State} (hoff : s.dev.state ≠ .off) (haux : s.dev.state ≠ .aux) (top : Nat × Int) :
    (s.trip top).dev.state = (if s.dev.state = .boot then .boot else .fault) ∧ (s.trip top).dev.cause = 0x30 := by
  have hdev := tripReported_dev s top
  rw [trip_eq, ← hdev]
  exact tripState_dev (by rw [hdev]; exact hoff) (by rw [hdev]; exact haux)

theorem judgeTrip_of_cool {s : State} {top : Nat × Int} (hcool : top.2 < 11800) : s.judgeTrip top = s :=
  if_neg (Int.not_le.mpr hcool)

/-- The time of a reading at or above 118.00 °C taken (R582). -/
def State.hotNow (s : State) : State := { s with thermal := { s.thermal with hotAt := s.clk.island } }

theorem judgeTrip_of_hot {s : State} {top : Nat × Int} (hhot : 11800 ≤ top.2) (hno : s.thermal.tripped = false) :
    s.judgeTrip top = s.hotNow.trip top := by
  have hfirst : ¬s.thermal.tripped = true := by rw [hno]; decide
  unfold State.judgeTrip
  rw [if_pos hhot]
  exact if_neg hfirst

/-- A trip judged: what the monitor, the permits and the device state become, and what stays. -/
theorem judgeTrip_trips {s : State} {top : Nat × Int} (hhot : 11800 ≤ top.2) (hno : s.thermal.tripped = false)
    (hoff : s.dev.state ≠ .off) (haux : s.dev.state ≠ .aux) :
    (s.judgeTrip top).thermal = { s.thermal with hotAt := s.clk.island, tripped := true }
      ∧ (∀ h, (s.judgeTrip top).permit h = false)
      ∧ (s.judgeTrip top).dev.state = (if s.dev.state = .boot then .boot else .fault) ∧ (s.judgeTrip top).dev.cause = 0x30
      ∧ (s.judgeTrip top).clk = s.clk ∧ (s.judgeTrip top).power = s.power ∧ (s.judgeTrip top).fuses = s.fuses
      ∧ (s.judgeTrip top).flash = s.flash := by
  have hthermal : (s.judgeTrip top).thermal = { s.thermal with hotAt := s.clk.island, tripped := true } := by
    rw [judgeTrip_of_hot hhot hno, trip_thermal]
    rfl
  have hdev : s.hotNow.dev = s.dev := rfl
  obtain ⟨hstate, hcause⟩ := trip_dev (s := s.hotNow) hoff haux top
  rw [← judgeTrip_of_hot hhot hno] at hstate hcause
  rw [hdev] at hstate
  exact ⟨hthermal, fun h => permit_of_trip (by rw [hthermal]) h, hstate, hcause, by simp, by simp, by simp, by simp⟩

/-- A measurement at or above 118.00 °C, in its turn. -/
theorem measurement_trips {s : State} {readings : List Int} (hturn : s.turn 2 = true) (hoff : s.dev.state ≠ .off)
    (haux : s.dev.state ≠ .aux) (hhot : 11800 ≤ (s.hottestOf readings).2) (hno : s.thermal.tripped = false) :
    ∃ t, exec (.thermalMeasurement readings) s = .next t ∧ t.thermal.sensors = (s.thermal.measured readings s.clk.island).1
      ∧ t.thermal.tripped = true ∧ t.thermal.hotAt = s.clk.island ∧ (∀ h, t.permit h = false)
      ∧ t.dev.state = (if s.dev.state = .boot then .boot else .fault) ∧ t.dev.cause = 0x30
      ∧ t.clk = s.clk ∧ t.power = s.power ∧ t.fuses = s.fuses ∧ t.flash = s.flash := by
  have hexec := exec_thermalMeasurement (readings := readings) hturn hoff haux
  obtain ⟨hdev, -, -, -, hclk, hpower, hfuses, hflash⟩ := measurementTaken_frame s readings
  have hjudged := measurementTaken_judgement s readings
  simp only [Thermal.judgement, Prod.mk.injEq] at hjudged
  obtain ⟨hsensors, htripped, -⟩ := hjudged
  obtain ⟨hthermal, hpermit, hstate, hcause, hclk', hpower', hfuses', hflash'⟩ :=
    judgeTrip_trips (s := s.measurementTaken readings) hhot (htripped.trans hno) (by rw [hdev]; exact hoff) (by rw [hdev]; exact haux)
  rw [hdev] at hstate
  exact ⟨_, hexec, by rw [hthermal, ← hsensors], by rw [hthermal], by rw [hthermal, ← hclk], hpermit, hstate, hcause,
    hclk'.trans hclk, hpower'.trans hpower, hfuses'.trans hfuses, hflash'.trans hflash⟩

/-- A measurement below 118.00 °C, in its turn. -/
theorem measurement_taken {s : State} {readings : List Int} (hturn : s.turn 2 = true) (hoff : s.dev.state ≠ .off)
    (haux : s.dev.state ≠ .aux) (hcool : (s.hottestOf readings).2 < 11800) :
    ∃ t, exec (.thermalMeasurement readings) s = .next t ∧ t.thermal.sensors = (s.thermal.measured readings s.clk.island).1
      ∧ t.reg 0x2031 1 = (s.hottestOf readings).2 ∧ t.reg 0x2031 2 = (s.hottestOf readings).1
      ∧ t.reg 0x2031 14 = max (s.reg 0x2031 14) (s.hottestOf readings).2
      ∧ t.thermal.tripped = s.thermal.tripped ∧ t.thermal.hotAt = s.thermal.hotAt ∧ t.dev = s.dev ∧ t.heads = s.heads
      ∧ t.motion = s.motion ∧ t.job = s.job ∧ t.clk = s.clk ∧ t.power = s.power := by
  have hexec := exec_thermalMeasurement (readings := readings) hturn hoff haux
  rw [judgeTrip_of_cool hcool] at hexec
  obtain ⟨hdev, hheads, hmotion, hjob, hclk, hpower, -, -⟩ := measurementTaken_frame s readings
  obtain ⟨hmax, hsensor, hpeak⟩ := measurementTaken_regs s readings
  have hjudged := measurementTaken_judgement s readings
  simp only [Thermal.judgement, Prod.mk.injEq] at hjudged
  obtain ⟨hsensors, htripped, hhot⟩ := hjudged
  exact ⟨_, hexec, hsensors, hmax, hsensor, hpeak, htripped, hhot, hdev, hheads, hmotion, hjob, hclk, hpower⟩

/-! #### The restart (R582, R583, R19) -/

/-- The trip is over: the state in which the restart judges the kept causes. -/
def State.tripEnded (s : State) : State := ({ s with thermal := { s.thermal with tripped := false } } : State).setLeaf 0x210E 1

theorem tripEnded_frame (s : State) : s.tripEnded.thermal = { s.thermal with tripped := false } ∧ s.tripEnded.dev = s.dev
    ∧ s.tripEnded.clk = s.clk ∧ s.tripEnded.power = s.power ∧ s.tripEnded.clocks = s.clocks := by simp [State.tripEnded]

/-- The end of the trip takes the cause 0x0030 away and no other. -/
theorem present_tripEnded (s : State) {cause : Nat} (h : cause ≠ 0x30) : s.tripEnded.present cause = s.present cause := by
  obtain ⟨-, hdev, -, -, hclocks⟩ := tripEnded_frame s
  unfold State.present
  rw [hdev, hclocks]
  split
  · exact absurd rfl h
  all_goals rfl

theorem not_present_tripEnded (s : State) : s.tripEnded.present 0x30 = false := by
  rw [State.present, (tripEnded_frame s).1]

/-- After the leave from the trip: the record, and the links that train. -/
def State.restartReported (s u : State) : State :=
  let v := u.record 0x0021 (leBytes 8 s.et ++ [byteOf u.dev.state.code])
  if v.linksTrain then v.startLinks else v

theorem restartReported_frame (s u : State) : (s.restartReported u).dev = u.dev ∧ (s.restartReported u).thermal = u.thermal
    ∧ (s.restartReported u).clk = u.clk ∧ (s.restartReported u).power = u.power := by
  unfold State.restartReported
  dsimp only
  split <;> simp

theorem restartAfterTrip_eq (s : State) : s.restartAfterTrip = s.restartReported
    (if s.dev.state = .fault ∧ s.dev.cause = 0x30 then s.tripEnded.leaveTrip
     else if s.dev.state = .boot then
       if 0x10 ≤ s.dev.tripCause ∧ s.dev.tripCause ≤ 0x12 then s.tripEnded.automatic .boot s.dev.tripCause
       else (s.tripEnded.automatic .boot 0x01).resumeBoot
     else s.tripEnded) := rfl

theorem exec_thermalRestart {s : State} (hcooled : s.cooled = true) (hstate : s.dev.state = .fault) (hcause : s.dev.cause = 0x30) :
    exec .thermalRestart s = .next (s.restartReported s.tripEnded.leaveTrip) := by
  have hexec : exec .thermalRestart s = .next s.restartAfterTrip := congrArg Host.Outcome.next (if_pos hcooled)
  rw [hexec, restartAfterTrip_eq, if_pos ⟨hstate, hcause⟩]

/-- The restart leads on to a state: what its leave from the trip keeps. -/
theorem thermalRestart_leads {s u : State} (hcooled : s.cooled = true) (hstate : s.dev.state = .fault) (hcause : s.dev.cause = 0x30)
    (hu : s.tripEnded.leaveTrip = u) : ∃ t, exec .thermalRestart s = .next t ∧ t.dev = u.dev ∧ t.thermal = u.thermal ∧ t.clk = u.clk
      ∧ t.power = u.power := by
  subst hu
  exact ⟨_, exec_thermalRestart hcooled hstate hcause, restartReported_frame s _⟩

/-- The kept causes dropped. -/
def State.keptDropped (s : State) : State := { s with dev := { s.dev with kept := [] } }

theorem leaveTrip_to_fault {s : State} (h : s.dev.kept.filter s.present ≠ []) :
    s.leaveTrip = s.keptDropped.automatic .fault ((s.dev.kept.filter s.present).foldl max 0) := if_pos h

theorem leaveTrip_to_paused {s : State} (h : s.dev.kept.filter s.present = [])
    (hfrom : s.dev.tripFrom = .armed ∨ s.dev.tripFrom = .exposing ∨ s.dev.tripFrom = .paused) :
    s.leaveTrip = (s.keptDropped.automatic .paused 0x42).holdHeads := by
  unfold State.leaveTrip
  dsimp only
  rw [if_neg (not_not.mpr h)]
  split
  next hother => simp [hother] at hfrom
  next hother => simp [hother] at hfrom
  next hother => simp [hother] at hfrom
  next => rfl

theorem leaveTrip_to_standby {s : State} (h : s.dev.kept.filter s.present = [])
    (hfrom : s.dev.tripFrom = .standby ∨ s.dev.tripFrom = .fault) : s.leaveTrip = s.keptDropped.automatic .standby 0x42 := by
  unfold State.leaveTrip
  dsimp only
  rw [if_neg (not_not.mpr h)]
  split
  next => rfl
  next => rfl
  next hother => simp [hother] at hfrom
  next hfault hstandby _ => exact absurd hfrom (not_or.mpr ⟨hstandby, hfault⟩)

/-- A transition of the restart: the state, its cause, no kept cause, and what it does not move. -/
theorem keptDropped_automatic (s : State) (next : DevState) (cause : Nat) :
    (s.keptDropped.automatic next cause).dev.state = next ∧ (s.keptDropped.automatic next cause).dev.cause = cause
      ∧ (s.keptDropped.automatic next cause).dev.kept = [] ∧ (s.keptDropped.automatic next cause).thermal = s.thermal
      ∧ (s.keptDropped.automatic next cause).clk = s.clk ∧ (s.keptDropped.automatic next cause).power = s.power := by
  have hframe : (s.keptDropped.automatic next cause).thermal = s.keptDropped.thermal
      ∧ (s.keptDropped.automatic next cause).clk = s.keptDropped.clk
      ∧ (s.keptDropped.automatic next cause).power = s.keptDropped.power := by simp
  rw [automatic_dev]
  exact ⟨rfl, rfl, rfl, hframe⟩

/-- The restart to a state without a present cause. -/
theorem thermalRestart_to {s u : State} {next : DevState} (hcooled : s.cooled = true) (hstate : s.dev.state = .fault)
    (hcause : s.dev.cause = 0x30) (hu : s.tripEnded.leaveTrip = u)
    (hleft : u.dev = (s.tripEnded.keptDropped.automatic next 0x42).dev ∧ u.thermal = s.tripEnded.thermal ∧ u.clk = s.tripEnded.clk
      ∧ u.power = s.tripEnded.power) :
    ∃ t, exec .thermalRestart s = .next t ∧ t.thermal.tripped = false ∧ t.dev.state = next ∧ t.dev.cause = 0x42 ∧ t.dev.kept = []
      ∧ t.clk = s.clk ∧ t.power = s.power := by
  obtain ⟨t, hexec, hdev, hthermal, hclk, hpower⟩ := thermalRestart_leads hcooled hstate hcause hu
  obtain ⟨hdev', hthermal', hclk', hpower'⟩ := hleft
  obtain ⟨hthermal'', -, hclk'', hpower'', -⟩ := tripEnded_frame s
  obtain ⟨hnext, hwhy, hkept, -⟩ := keptDropped_automatic s.tripEnded next 0x42
  rw [← hdev', ← hdev] at hnext hwhy hkept
  exact ⟨t, hexec, by rw [hthermal, hthermal', hthermal''], hnext, hwhy, hkept, (hclk.trans hclk').trans hclk'',
    (hpower.trans hpower').trans hpower''⟩

/-- The causes present after the trip are those present under it, without the trip's own. -/
theorem filter_present_tripEnded {s : State} (h : 0x30 ∉ s.dev.kept) :
    s.tripEnded.dev.kept.filter s.tripEnded.present = s.dev.kept.filter s.present := by
  rw [(tripEnded_frame s).2.1]
  exact List.filter_congr fun c hc => present_tripEnded s fun heq => h (heq ▸ hc)

theorem no_present_tripEnded {s : State} (h : s.dev.kept.filter s.present = []) :
    s.tripEnded.dev.kept.filter s.tripEnded.present = [] := by
  rw [(tripEnded_frame s).2.1, List.filter_eq_nil_iff]
  intro c hc
  by_cases hown : c = 0x30
  · rw [hown, not_present_tripEnded]
    decide
  · rw [present_tripEnded s hown]
    exact List.filter_eq_nil_iff.mp h c hc

/-- The greatest of a list of causes is one of them. -/
theorem foldl_max_mem {l : List Nat} (h : l ≠ []) : l.foldl max 0 ∈ l ∧ ∀ c ∈ l, c ≤ l.foldl max 0 := by
  rw [List.foldl_max_eq_max h, Nat.zero_max]
  exact ⟨List.max_mem h, fun c hc => List.le_max_of_mem hc⟩

theorem thermalRestart_to_fault {s : State} (hcooled : s.cooled = true) (hstate : s.dev.state = .fault) (hcause : s.dev.cause = 0x30)
    (hown : 0x30 ∉ s.dev.kept) (hstill : s.dev.kept.filter s.present ≠ []) :
    ∃ t, exec .thermalRestart s = .next t ∧ t.thermal.tripped = false ∧ t.dev.state = .fault ∧ t.dev.kept = []
      ∧ t.dev.cause ∈ s.dev.kept ∧ (∀ c ∈ s.dev.kept, s.present c = true → c ≤ t.dev.cause) := by
  have hsame := filter_present_tripEnded hown
  obtain ⟨t, hexec, hdev, hthermal, -, -⟩ := thermalRestart_leads hcooled hstate hcause
    (leaveTrip_to_fault (by rw [hsame]; exact hstill))
  rw [hsame] at hdev hthermal
  obtain ⟨hmem, hmax⟩ := foldl_max_mem hstill
  obtain ⟨hnext, hwhy, hkept, htrip, -⟩ := keptDropped_automatic s.tripEnded .fault ((s.dev.kept.filter s.present).foldl max 0)
  rw [← hdev] at hnext hwhy hkept
  refine ⟨t, hexec, by rw [hthermal, htrip, (tripEnded_frame s).1], hnext, hkept, ?_, fun c hc hpresent => ?_⟩
  · rw [hwhy]
    exact List.mem_of_mem_filter hmem
  · rw [hwhy]
    exact hmax c (List.mem_filter.mpr ⟨hc, hpresent⟩)

/-! #### The temperature of a head's optics (R577) -/

theorem opticsLost_heads (s : State) (h : HeadNo) : (s.opticsLost h).heads =
    s.heads.modify h (fun x => { x with link := { x.link with opticsValid := false, opticsWarning := false } }) := by
  unfold State.opticsLost
  dsimp only
  split
  · simp [State.onLink, State.onHead]
  · rfl

theorem opticsLost_reports (s : State) (h : HeadNo) : s.ReportsBesideHeads (s.opticsLost h) [regKey (0x4160 + h) 14] := by
  unfold State.opticsLost
  dsimp only
  split
  · exact besideHeads_trans (besideHeads_onLink s h _ _) (besideHeads_of_ReportsWith (ReportsWith_trans
      (ReportsWith_setReg _ _ _ _ (List.mem_singleton.mpr rfl))
      (ReportsWith_of_Reports _ (Reports_trans (Reports_setLeaf _ 0x210E 7) (Reports_setLeaf _ _ 3)))))
  · exact besideHeads_onLink s h _ _

theorem opticsLost_valid {s : State} {h : HeadNo} (hvalid : (s.head h).link.opticsValid = true) :
    (s.opticsLost h).reg (0x4160 + h) 14 = 0 := by
  unfold State.opticsLost
  dsimp only
  rw [if_pos hvalid, reg_of_regs (setLeaf_regs _ _ _), reg_of_regs (setLeaf_regs _ _ _), reg_setReg_self]

/-- Settles O20: a measurement by its hottest reading, the restart by the causes still present and by where the trip struck. -/
theorem thermalCommandsComplete : Obligations.ThermalCommandsComplete := by
  refine ⟨fun s readings hturn hoff haux => ⟨fun hcool => measurement_taken hturn hoff haux hcool,
      fun hhot hno => measurement_trips hturn hoff haux hhot hno⟩,
    fun s hcooled hstate hcause hnone => ⟨fun hfrom => ?_, fun hfrom => ?_⟩,
    fun s hcooled hstate hcause hown hstill => thermalRestart_to_fault hcooled hstate hcause hown hstill,
    fun s h hh => ⟨s.opticsLost h, congrArg Host.Outcome.next (if_pos hh), opticsLost_heads s h, opticsLost_reports s h,
      opticsLost_valid⟩⟩
  · have hleave := leaveTrip_to_paused (no_present_tripEnded hnone) (by rw [(tripEnded_frame s).2.1]; exact hfrom)
    obtain ⟨-, -, -, hrest⟩ := keptDropped_automatic s.tripEnded .paused 0x42
    exact thermalRestart_to hcooled hstate hcause hleave ⟨rfl, hrest⟩
  · have hleave := leaveTrip_to_standby (no_present_tripEnded hnone) (by rw [(tripEnded_frame s).2.1]; exact hfrom)
    obtain ⟨-, -, -, hrest⟩ := keptDropped_automatic s.tripEnded .standby 0x42
    exact thermalRestart_to hcooled hstate hcause hleave ⟨rfl, hrest⟩

end Sys2Proof.Machine
